-- ==== Sys2Proof/Word.lean ====
section
/-! DEFINITION. The words the manual treats as bits: bytes, 32-bit and 64-bit words (R8, R10). -/
namespace Sys2Proof

/-- One byte of memory or of a frame. -/
abbrev Byte := BitVec 8

/-- A 32-bit word: a register of 32 bits, an engine register. -/
abbrev Word := BitVec 32

/-- A 64-bit word: a 64-bit register; a 32-bit register is held in its low half. -/
abbrev DWord := BitVec 64

/-- The 64-bit vector of a number, and the number of a vector, are written `BitVec.ofNat` and `toNat` throughout. -/
def dw (n : Nat) : DWord := BitVec.ofNat 64 n

end Sys2Proof
end

