-- ==== Sys2Proof/Syntax.lean ====
section
/-! DEFINITION. The commands of the block: one constructor per row of the command table, with the row's operands. -/
namespace Sys2Proof

/-- What the ECC of a memory access finds (R266, R267, R270). -/
inductive Ecc where
  | clean | corrected | uncorrectable
deriving DecidableEq, Repr

/-- Where a command reaches the security controller from (R452): the mailbox, a management frame, or the management UART with
the unescaped bytes of its frame. -/
inductive CmdSrc where
  | mailbox | frame | uart (bs : List Byte)
deriving DecidableEq, Repr

/-- The commands. `n` names an engine or router, `w` an instruction word, `src` the initiator of a register access, `id` a packet
on the fabric, `k` an accelerator slot, `sl` a Churn slice, `e` and `ch` a DMA engine and channel, `l` a lane, `m` a MAC, `p` a pair
or a predicate, `ecc`, `corr` what the memory's ECC finds; the other operands are what the outside world brings (log 10). -/
inductive Instr where
  /-- R27. Time of day reaches a grid boundary and the module runs the 96-cycle commit sequence, then begins the next Round. -/
  | roundBoundary (power volt : Nat) (temp : Int)
  /-- R51. The first P of a stretched or realigned Round elapses and every radio output turns to flagged blank symbols. -/
  | roundFirstPEnd
  /-- R24. A write setting ROUND_CTRL.RUN starts WAIT_TIME or cancels a stop. -/
  | run (src : Nat)
  /-- R25. A write clearing ROUND_CTRL.RUN puts the Round unit in STOPPING or STOPPED. -/
  | stop (src : Nat)
  /-- R26. A write of MANUAL_COMMIT while STOPPED performs one commit sequence without a Round. -/
  | manualCommit (src : Nat)
  /-- R45. An answer to a plan fetch arrives; a failure ends the plan for the Round. -/
  | planFetchAnswer
  /-- R45. A plan entry of KIND 0 reaches its issue cycle and does nothing. -/
  | planNoOperation
  /-- R45. A DMA_START plan entry issues a start of the named DMA channel. -/
  | planDmaStart
  /-- R45. A CFA_HANDOVER plan entry issues a hand-over to the CFA ports. -/
  | planCfaHandover
  /-- R45. A RED_SETUP plan entry issues a reduction setup to the collector node. -/
  | planRedSetup
  /-- R45. A TOKEN plan entry issues a token to a Churn context and slot. -/
  | planToken
  /-- R45. A REG_WRITE plan entry issues a register write to a CSR offset. -/
  | planRegWrite
  /-- R55. The event router takes one waiting event occurrence and delivers it by its routing entry. -/
  | occurrenceTaken
  /-- R34. A read of SHADOW_STAMP waits for the reader's earlier writes and returns its stamp. -/
  | shadowStampRead (src : Nat)
  /-- R60. A write of DEV_CTRL.EPOCH is accepted only while STOPPED and respects the COMPAT strap. -/
  | epochWrite (src : Nat) (a : Bool)
  /-- R31. A write to a register with no row of its own takes effect live or goes to its shadow. -/
  | csrWrite (src off : Nat) (wide : Bool) (v : Nat)
  /-- R39. A write of ones clears W1C flags unless hardware sets them in the same cycle. -/
  | w1cClear (src off v : Nat)
  /-- R36. A write of a block's CNT_CLR clears its counters at the next commit after sampling. -/
  | counterClear (src off : Nat)
  /-- R28. An access stalled in the commit window is accepted at C0+96 in order of arrival. -/
  | stalledAccessAccepted
  /-- R546. add, register or immediate form, writes the wrapping sum. -/
  | add (n : Nat) (w : Word) (fetch : Ecc := .clean)
  /-- R546. sub, register or immediate form, writes the wrapping difference. -/
  | sub (n : Nat) (w : Word) (fetch : Ecc := .clean)
  /-- R546. and writes the bitwise AND. -/
  | and (n : Nat) (w : Word) (fetch : Ecc := .clean)
  /-- R546. or writes the bitwise OR. -/
  | or (n : Nat) (w : Word) (fetch : Ecc := .clean)
  /-- R546. xor writes the bitwise XOR. -/
  | xor (n : Nat) (w : Word) (fetch : Ecc := .clean)
  /-- R546. shl shifts left by a count modulo 32. -/
  | shl (n : Nat) (w : Word) (fetch : Ecc := .clean)
  /-- R546. shr shifts right logically by a count modulo 32. -/
  | shr (n : Nat) (w : Word) (fetch : Ecc := .clean)
  /-- R546. sar shifts right arithmetically by a count modulo 32. -/
  | sar (n : Nat) (w : Word) (fetch : Ecc := .clean)
  /-- R546. cmp.eq writes 1 if the operands are equal. -/
  | cmpEq (n : Nat) (w : Word) (fetch : Ecc := .clean)
  /-- R546. cmp.lt writes 1 if gA is less than gB, signed. -/
  | cmpLt (n : Nat) (w : Word) (fetch : Ecc := .clean)
  /-- R546. cmp.ltu writes 1 if gA is less than gB, unsigned. -/
  | cmpLtu (n : Nat) (w : Word) (fetch : Ecc := .clean)
  /-- R546. min writes the signed minimum. -/
  | min (n : Nat) (w : Word) (fetch : Ecc := .clean)
  /-- R546. max writes the signed maximum. -/
  | max (n : Nat) (w : Word) (fetch : Ecc := .clean)
  /-- R546. abs writes the absolute value, saturating and setting SOV for 0x8000_0000. -/
  | abs (n : Nat) (w : Word) (fetch : Ecc := .clean)
  /-- R546. mov copies a register. -/
  | mov (n : Nat) (w : Word) (fetch : Ecc := .clean)
  /-- R546. movi writes a sign-extended 16-bit immediate. -/
  | movi (n : Nat) (w : Word) (fetch : Ecc := .clean)
  /-- R546. movhi writes bits [31:16] and keeps [15:0]. -/
  | movhi (n : Nat) (w : Word) (fetch : Ecc := .clean)
  /-- R546. mul writes the low 32 bits of the signed product. -/
  | mul (n : Nat) (w : Word) (fetch : Ecc := .clean)
  /-- R546. mulh writes the high 32 bits of the signed product. -/
  | mulh (n : Nat) (w : Word) (fetch : Ecc := .clean)
  /-- R80. cmac adds a complex cint16 product to an accumulator. -/
  | cmac (n : Nat) (w : Word) (fetch : Ecc := .clean)
  /-- R80. cmacc adds a product by the conjugate to an accumulator. -/
  | cmacc (n : Nat) (w : Word) (fetch : Ecc := .clean)
  /-- R80. cmsu subtracts a complex product from an accumulator. -/
  | cmsu (n : Nat) (w : Word) (fetch : Ecc := .clean)
  /-- R80. rmac adds a real 16-bit product to the real half of an accumulator. -/
  | rmac (n : Nat) (w : Word) (fetch : Ecc := .clean)
  /-- R546. clr zeroes an accumulator. -/
  | clr (n : Nat) (w : Word) (fetch : Ecc := .clean)
  /-- R81. racc rounds, shifts and saturates both accumulator halves into a cint16 register. -/
  | racc (n : Nat) (w : Word) (fetch : Ecc := .clean)
  /-- R81. mva extracts one accumulator half to a 32-bit register. -/
  | mva (n : Nat) (w : Word) (fetch : Ecc := .clean)
  /-- R79. ftap performs one filter tap, moves the delay-line element and steps both pointers. -/
  | ftap (n : Nat) (w : Word) (ecc : Ecc) (fetch : Ecc := .clean)
  /-- R82. ld.b loads a sign-extended byte from local memory. -/
  | ldB (n : Nat) (w : Word) (ecc : Ecc) (fetch : Ecc := .clean)
  /-- R82. ld.bu loads a zero-extended byte from local memory. -/
  | ldBu (n : Nat) (w : Word) (ecc : Ecc) (fetch : Ecc := .clean)
  /-- R82. ld.h loads a sign-extended half-word from local memory. -/
  | ldH (n : Nat) (w : Word) (ecc : Ecc) (fetch : Ecc := .clean)
  /-- R82. ld.hu loads a zero-extended half-word from local memory. -/
  | ldHu (n : Nat) (w : Word) (ecc : Ecc) (fetch : Ecc := .clean)
  /-- R82. ld.w loads a word from local memory. -/
  | ldW (n : Nat) (w : Word) (ecc : Ecc) (fetch : Ecc := .clean)
  /-- R82. ld.d loads a double word into an even register pair. -/
  | ldD (n : Nat) (w : Word) (ecc : Ecc) (fetch : Ecc := .clean)
  /-- R82. st.b stores a byte to local data memory. -/
  | stB (n : Nat) (w : Word) (ecc : Ecc := .clean) (fetch : Ecc := .clean)
  /-- R82. st.h stores a half-word to local data memory. -/
  | stH (n : Nat) (w : Word) (ecc : Ecc := .clean) (fetch : Ecc := .clean)
  /-- R82. st.w stores a word to local data memory. -/
  | stW (n : Nat) (w : Word) (fetch : Ecc := .clean)
  /-- R82. st.d stores an even register pair to local data memory. -/
  | stD (n : Nat) (w : Word) (fetch : Ecc := .clean)
  /-- R73. An unallocated encoding reaching issue traps UNDEF. -/
  | undef (n : Nat) (w : Word) (fetch : Ecc := .clean)
  /-- R87. ldf issues a REQ-class far read and interlocks its destination. -/
  | ldf (n : Nat) (w : Word) (fetch : Ecc := .clean)
  /-- R87. stf enters a posted STR-class write into the far store queue. -/
  | stf (n : Nat) (w : Word) (fetch : Ecc := .clean)
  /-- R87. stf.ack issues a non-posted far write that draws a response. -/
  | stfAck (n : Nat) (w : Word) (fetch : Ecc := .clean)
  /-- R68. The cluster NI injects a queued far store and frees its queue entry. -/
  | farStoreInjected (n : Nat)
  /-- R89. The answer to an ldf or stf.ack lands, releasing the interlock or making FAR_ERR pending. -/
  | farResponse (n id : Nat)
  /-- R89. A pending FAR_ERR is taken at an instruction boundary in bank 0. -/
  | farErr (n : Nat)
  /-- R88. fencef waits until every earlier far access is answered or accepted. -/
  | fencef (n : Nat) (w : Word) (fetch : Ecc := .clean)
  /-- R70. b branches to a word offset. -/
  | b (n : Nat) (w : Word) (fetch : Ecc := .clean)
  /-- R70. bz branches when gA is zero. -/
  | bz (n : Nat) (w : Word) (fetch : Ecc := .clean)
  /-- R70. bnz branches when gA is not zero. -/
  | bnz (n : Nat) (w : Word) (fetch : Ecc := .clean)
  /-- R70. bl branches and writes the return address to g15. -/
  | bl (n : Nat) (w : Word) (fetch : Ecc := .clean)
  /-- R70. jr jumps to gA, or traps FETCH if gA is misaligned. -/
  | jr (n : Nat) (w : Word) (fetch : Ecc := .clean)
  /-- R70. jal jumps to gA and writes the return address to g15. -/
  | jal (n : Nat) (w : Word) (fetch : Ecc := .clean)
  /-- R74. rpt starts a repeat of the following body a given number of times. -/
  | rpt (n : Nat) (w : Word) (fetch : Ecc := .clean)
  /-- R77. The last iteration's body has issued, RS clears and deferred interrupts, halts and kills may be taken. -/
  | repeatEnd (n : Nat)
  /-- R102. wait begins waiting for earlier work to drain before entering the PWR_MODE state. -/
  | wait (n : Nat) (w : Word) (fetch : Ecc := .clean)
  /-- R478. The drain of a wait completes and the engine enters IDLE or awaits the commit for a deeper state. -/
  | waitDrainDone (n : Nat)
  /-- R95. reti returns to bank 0 at bank 1's g31. -/
  | reti (n : Nat) (w : Word) (fetch : Ecc := .clean)
  /-- R90. trap takes SYSCALL with its immediate. -/
  | trap (n : Nat) (w : Word) (fetch : Ecc := .clean)
  /-- R90. brk takes BREAK. -/
  | brk (n : Nat) (w : Word) (fetch : Ecc := .clean)
  /-- R71. mfs reads a special register. -/
  | mfs (n : Nat) (w : Word) (fetch : Ecc := .clean)
  /-- R71. mts writes a special register, clearing IRQ_PEND bits written as one. -/
  | mts (n : Nat) (w : Word) (fetch : Ecc := .clean)
  /-- R546. nop does nothing. -/
  | nop (n : Nat) (w : Word) (fetch : Ecc := .clean)
  /-- R96. The engine takes the lowest pending and enabled line at an instruction boundary. -/
  | interrupt (n : Nat)
  /-- R96. A write to ENG_IRQ_SET, or a router delivery, sets interrupt lines pending. -/
  | engIrqSet (src n mask : Nat)
  /-- R98. A line stays pending and enabled LIMIT cycles and ENG_IRQ_LATE is raised. -/
  | engIrqLate (n line : Nat)
  /-- R99. A write of ENG_CTRL.KILL or a Churn kill message makes a task kill pending. -/
  | taskKill (n : Nat) (src : Option (Nat × Bool))
  /-- R99. The pending kill is taken outside a repeat, aborting, sending WITHDRAW and acknowledging the slice. -/
  | killed (n : Nat)
  /-- R100. A write of ENG_CTRL.RESET resets the engine at once. -/
  | engineReset (src n : Nat) (halt : Bool)
  /-- R101. A write of 1 to ENG_CTRL.HALT requests a halt at the next boundary outside a repeat. -/
  | halt (src n : Nat)
  /-- R101. A write of 0 to ENG_CTRL.HALT resumes execution. -/
  | haltClear (src n : Nat)
  /-- R101. A write of ENG_CTRL.STEP while HALTED issues one instruction. -/
  | step (src n : Nat)
  /-- R101. Issued work completes after a halt request; STATE becomes HALTED and ENG_HALTED is raised. -/
  | engHalted (n : Nat)
  /-- R109. setvl sets vfmt, vcnt and gD and clears vpos. -/
  | setvl (n : Nat) (w : Word) (fetch : Ecc := .clean)
  /-- R111. vrd reads a vector control register. -/
  | vrd (n : Nat) (w : Word) (fetch : Ecc := .clean)
  /-- R111. vwr writes a vector control register. -/
  | vwr (n : Nat) (w : Word) (fetch : Ecc := .clean)
  /-- R120. vld loads vcnt elements at unit stride. -/
  | vld (n vd gb : Nat) (imm : Word) (post : Bool) (ecc : Option Nat) (corr : Nat) (fetch : Ecc := .clean)
  /-- R120. vst stores active elements at unit stride. -/
  | vst (n vs gb : Nat) (imm : Word) (post : Bool) (ecc : Option Nat := none) (corr : Nat := 0) (fetch : Ecc := .clean)
  /-- R120. vlds loads elements at a register stride. -/
  | vlds (n vd gb gs : Nat) (ecc : Option Nat) (corr : Nat) (fetch : Ecc := .clean)
  /-- R120. vsts stores elements at a register stride. -/
  | vsts (n vs gb gs : Nat) (ecc : Option Nat := none) (corr : Nat := 0) (fetch : Ecc := .clean)
  /-- R121. vldx starts a gather of active elements and interlocks later issue. -/
  | vldx (n vd gb vi : Nat) (fetch : Ecc := .clean)
  /-- R121. vstx starts a scatter of active elements and interlocks later issue. -/
  | vstx (n vs gb vi : Nat) (fetch : Ecc := .clean)
  /-- R121. A gather or scatter has accessed its last active element or faulted. -/
  | gatherComplete (n : Nat) (ecc : Option Nat) (corr : Nat)
  /-- R116. vadd adds elements, wrapping. -/
  | vadd (n vd va vb : Nat) (p : Option Nat) (fetch : Ecc := .clean)
  /-- R116. vsub subtracts elements, wrapping. -/
  | vsub (n vd va vb : Nat) (p : Option Nat) (fetch : Ecc := .clean)
  /-- R116. vmul multiplies integer elements, keeping the low bits. -/
  | vmul (n vd va vb : Nat) (p : Option Nat) (fetch : Ecc := .clean)
  /-- R116. vadds adds elements with saturation. -/
  | vadds (n vd va vb : Nat) (p : Option Nat) (fetch : Ecc := .clean)
  /-- R116. vsubs subtracts elements with saturation. -/
  | vsubs (n vd va vb : Nat) (p : Option Nat) (fetch : Ecc := .clean)
  /-- R116. vcmul multiplies cint16 elements and extracts with shift 15. -/
  | vcmul (n vd va vb : Nat) (p : Option Nat) (fetch : Ecc := .clean)
  /-- R116. vcmulc multiplies by the conjugate and extracts with shift 15. -/
  | vcmulc (n vd va vb : Nat) (p : Option Nat) (fetch : Ecc := .clean)
  /-- R117. vcmac.w accumulates cint16 products into a cint32 pair. -/
  | vcmacW (n vd va vb : Nat) (p : Option Nat) (fetch : Ecc := .clean)
  /-- R117. vcmacc.w accumulates products by the conjugate into a cint32 pair. -/
  | vcmaccW (n vd va vb : Nat) (p : Option Nat) (fetch : Ecc := .clean)
  /-- R115. vracc extracts a cint32 pair to cint16 as racc does. -/
  | vracc (n vd va sh : Nat) (fetch : Ecc := .clean)
  /-- R118. vftap applies one coefficient to the window and slides vX and vY. -/
  | vftap (n va vx vy gc : Nat) (conj rc cdir : Bool) (ecc : Ecc) (fetch : Ecc := .clean)
  /-- R116. vfadd adds floating-point elements. -/
  | vfadd (n vd va vb : Nat) (p : Option Nat) (fetch : Ecc := .clean)
  /-- R116. vfsub subtracts floating-point elements. -/
  | vfsub (n vd va vb : Nat) (p : Option Nat) (fetch : Ecc := .clean)
  /-- R116. vfmul multiplies floating-point elements. -/
  | vfmul (n vd va vb : Nat) (p : Option Nat) (fetch : Ecc := .clean)
  /-- R116. vfma fuses multiply and add with one rounding. -/
  | vfma (n vd va vb : Nat) (p : Option Nat) (fetch : Ecc := .clean)
  /-- R115. vcmp.eq writes predicate bits for equal elements. -/
  | vcmpEq (n pd va vb : Nat) (fetch : Ecc := .clean)
  /-- R115. vcmp.lt writes predicate bits for signed less-than. -/
  | vcmpLt (n pd va vb : Nat) (fetch : Ecc := .clean)
  /-- R115. vcmp.ltu writes predicate bits for unsigned less-than. -/
  | vcmpLtu (n pd va vb : Nat) (fetch : Ecc := .clean)
  /-- R115. pand ANDs two predicates. -/
  | pand (n pd pa pb : Nat) (fetch : Ecc := .clean)
  /-- R115. por ORs two predicates. -/
  | por (n pd pa pb : Nat) (fetch : Ecc := .clean)
  /-- R115. pxor XORs two predicates. -/
  | pxor (n pd pa pb : Nat) (fetch : Ecc := .clean)
  /-- R115. pnot inverts a predicate. -/
  | pnot (n pd pa : Nat) (fetch : Ecc := .clean)
  /-- R115. vsel selects elements by predicate. -/
  | vsel (n vd p va vb : Nat) (fetch : Ecc := .clean)
  /-- R115. vbcast broadcasts a scalar to active elements. -/
  | vbcast (n vd gs : Nat) (p : Option Nat) (fetch : Ecc := .clean)
  /-- R115. vins writes one element from a scalar. -/
  | vins (n vd gs i : Nat) (fetch : Ecc := .clean)
  /-- R115. vext reads one element to a scalar. -/
  | vext (n gd va i : Nat) (fetch : Ecc := .clean)
  /-- R125. vtperm looks up active elements in a table of registers. -/
  | vtperm (n vd vt k vi : Nat) (p : Option Nat) (fetch : Ecc := .clean)
  /-- R115. vsum writes the wrapping sum of active elements to element 0. -/
  | vsum (n vd va : Nat) (p : Option Nat) (fetch : Ecc := .clean)
  /-- R126. The vector idle count reaches IDLE_LIMIT and the unit powers down. -/
  | vectorPowerDown (n : Nat)
  /-- R127. A vector-unit wake of 40 cycles completes and the waiting instruction may issue. -/
  | vectorWakeDone (n : Nat)
  /-- R132. cop waits for earlier far writes, then sends a REQ-class request to an accelerator slot. -/
  | cop (n : Nat) (w : Word) (fetch : Ecc := .clean)
  /-- R134. The accelerator's accept, busy, refuse or fabric answer lands at the engine. -/
  | copAnswer (n : Nat)
  /-- R141. A cop request arrives at a unit, which checks EN, OPC and queue room, or starts the descriptor fetch. -/
  | accRequest (k id : Nat)
  /-- R141. The descriptor and parameter block fetch completes and the unit refuses or accepts the job. -/
  | accDescriptorFetched (k id : Nat)
  /-- R143. The unit takes the next job from its queue, checks its deadline and starts it. -/
  | jobStart (k : Nat)
  /-- R145. An input read answer arrives; a failure stops the job with READ_ERR. -/
  | accInputReadAnswer (k id : Nat) (corr uncorr row : Nat := 0)
  /-- R144. Every output write of a job is accepted and the unit writes RESULT. -/
  | outputWritesAccepted (k : Nat)
  /-- R144. RESULT is accepted and the unit writes STATUS. -/
  | resultWriteAccepted (k : Nat)
  /-- R144. STATUS is accepted; the unit posts the token and raises events, or sends the refusal answer. -/
  | statusWriteAccepted (k id : Nat)
  /-- R147. A WITHDRAW message marks every job of the engine withdrawn. -/
  | withdraw (k id : Nat)
  /-- R147. The answer to a WITHDRAW reaches the engine, releasing a waiting cop. -/
  | withdrawAnswer (n id : Nat)
  /-- R150. A write of ACC_CTRL.FLUSH abandons every job that has issued neither RESULT nor STATUS. -/
  | flush (src k v : Nat)
  /-- R193. CHURN_CMD DEFINE writes words 0-5 of a context from the staging registers. -/
  | define (src sl c : Nat)
  /-- R193. CHURN_CMD ARM puts an IDLE context in WAITING. -/
  | arm (src sl c : Nat)
  /-- R205. CHURN_CMD CANCEL cancels a context. -/
  | cancel (src sl c : Nat)
  /-- R193. CHURN_CMD READ copies words 0-7 of a context to the staging registers. -/
  | read (src sl c : Nat)
  /-- R193. CHURN_CMD RELEASE returns a CANCELLED context to IDLE. -/
  | release (src sl c : Nat)
  /-- R199. A TOKEN message reaches a slice and is held, dropped or counted for its slot. -/
  | token (sl w0 w1 src : Nat) (res : Nat := 0)
  /-- R196. An ARM message acts as the ARM command. -/
  | armMessage (sl w0 src : Nat) (res : Nat := 0)
  /-- R196. A CANCEL message acts as the CANCEL command. -/
  | cancelMessage (sl w0 src : Nat) (res : Nat := 0)
  /-- R213. A held token matching the next log entry is accepted from the reorder buffer. -/
  | heldTokenAccepted (sl : Nat)
  /-- R213. Recorded entries of the current Round arrive from the recorder in ENFORCE. -/
  | orderLogReadAnswer (sl : Nat)
  /-- R202. The slice places one READY task into an engine's dispatch register. -/
  | dispatch (sl : Nat)
  /-- R203. The operand area write is accepted and the dispatch entry becomes visible, with optional notify. -/
  | operandAreaAccepted (sl e : Nat)
  /-- R204. A read of CHURN_NEXT completes the running task and takes the next entry. -/
  | churnNextRead (src sl e : Nat)
  /-- R206. An engine's kill acknowledgement clears kill_pending and takes the flow out of service. -/
  | killAcknowledgement (sl e : Nat)
  /-- R229. A target NI accepts a packet and returns an acceptance notice. -/
  | packetAccepted (id : Nat)
  /-- R229. An acceptance notice reaches its originating NI. -/
  | acceptanceNotice (id : Nat)
  /-- R238. A request's timer reaches NI_CTRL.TIMEOUT and it completes with TIMEOUT. -/
  | requestTimeout (id : Nat)
  /-- R238. An answer arriving after its timeout is discarded and frees its place. -/
  | lateAnswer (id : Nat)
  /-- R238. A timed-out transaction place is freed 65,536 cycles after the timeout. -/
  | placeFreed (id : Nat)
  /-- R240. A request held at the NI limit is injected when a transaction place frees. -/
  | heldRequestInjected (id : Nat)
  /-- R253. A router in the drain set holds no packet and applies its new settings. -/
  | routerApply (n : Nat)
  /-- R254. A drain lasts NOC_DRAIN_LIMIT cycles and NOC_DRAIN_SLOW is raised. -/
  | nocDrainSlow
  /-- R472. An access reaches the guard of a sleeping, fenced or waking domain and is answered or held. -/
  | guardAccess (id : Nat)
  /-- R242. An originating NI receives NACK and sends BOOK, holding later packets. -/
  | nack (id : Nat)
  /-- R242. A guard receives BOOK and queues it or returns DENY. -/
  | book (id : Nat)
  /-- R242. An originating NI receives DENY and schedules a new BOOK. -/
  | deny (id : Nat)
  /-- R242. 256 cycles after DENY the NI sends BOOK again. -/
  | bookRetry (id : Nat)
  /-- R242. An originating NI receives GRANT and resends the packet into the reserved slot. -/
  | grant (id : Nat)
  /-- R244. A write of NI_RED_SEND reads shared memory and injects a reduction packet. -/
  | niRedSend (src c v : Nat) (ecc : Ecc := .clean)
  /-- R245. A reduction packet is merged into a router's reduce buffer or passed on. -/
  | redPacketAtRouter (n id : Nat)
  /-- R245. RED_HOLD cycles pass at the ejecting router and the buffer is delivered. -/
  | redHoldExpiry (n i : Nat)
  /-- R247. A write of NI_RED_SETUP sets up a reduction at the collector. -/
  | niRedSetup (src c tag count cls : Nat)
  /-- R247. A plan RED_SETUP reaches the collector and sets up or is refused. -/
  | redSetupReceived (id : Nat)
  /-- R247. A partial reaches the collector and is added; reaching N starts delivery. -/
  | redPartial (c id : Nat)
  /-- R248. The table entry arrives and the collector writes the result to DEST. -/
  | redTableAnswer (c tag : Nat)
  /-- R248. The result write is accepted; the token is posted and the tag freed. -/
  | redResultAccepted (c tag : Nat)
  /-- R547. A memory serves an accepted read or write and answers it. -/
  | memoryAccessServed (id : Nat) (ecc : Ecc)
  /-- R272. DRAM training ends; MODE reads ACTIVE or FAILED and held accesses are served. -/
  | dramTrainingEnd (ch : Nat) (failed : Bool)
  /-- R272. Every 16 ms the controller reads temperature and sets or clears DERATE. -/
  | dramTemperatureRead (ch : Nat) (hot : Bool)
  /-- R272. The patrol scrubber completes a full pass of its channel. -/
  | scrubPass (ch corr : Nat)
  /-- R283. A write of DMA_CH_START activates an IDLE channel. -/
  | dmaChStart (src e ch addr : Nat)
  /-- R277. A descriptor fetch completes and ownership and format are judged. -/
  | dmaDescriptorFetched (e ch : Nat)
  /-- R274. The engine issues the next burst from the highest-priority ready channel. -/
  | dmaBurstIssue (e : Nat) (pre : Bool)
  /-- R273. A burst read answer arrives and its data is written. -/
  | dmaReadAnswer (e ch id : Nat)
  /-- R288. After a bus error nothing is outstanding; channels become HALTED_BUS. -/
  | dmaQuiet (e : Nat)
  /-- R288. A write of DMA_CTRL.BUS_CLR returns HALTED_BUS channels to IDLE. -/
  | busClr (src e : Nat) (en : Bool)
  /-- R279. Every data write of a descriptor is accepted; CRC or STATUS is written. -/
  | dmaDataAccepted (e ch : Nat)
  /-- R279. The CRC write is accepted and STATUS is written. -/
  | dmaCrcAccepted (e ch : Nat)
  /-- R279. STATUS is accepted and word 0 is written with OWN 0, unless keep-own. -/
  | dmaStatusAccepted (e ch : Nat)
  /-- R279. The OWN write is accepted; token, DMA_DONE and stream events follow and the chain continues or ends. -/
  | dmaOwnAccepted (e ch : Nat)
  /-- R287. A write of DMA_CH_CTRL.STOP makes an ACTIVE channel STOPPING. -/
  | dmaChStop (src e ch : Nat)
  /-- R287. Data already read is written, STATUS STOPPED is written and the channel becomes IDLE. -/
  | dmaStopComplete (e ch : Nat)
  /-- R307. A write of CFA_CH_READY advances the downlink ready count. -/
  | cfaChReadyWrite (src ch v : Nat)
  /-- R309. A hand-over posts a token for each enabled channel in the range, one per cycle. -/
  | cfaHandover (id : Nat)
  /-- R301. A coefficient write is refused if its set is in use. -/
  | cfaCoefWrite (src k i v : Nat)
  /-- R307. A downlink channel reads a ring line once READY covers it. -/
  | cfaLineRead (ch : Nat)
  /-- R307. A downlink ring line read lands in the channel. -/
  | cfaLineReadAnswer (ch id : Nat)
  /-- R314. A detector window of W samples completes; peak and RMS update and CFA_PEAK_OVER may be raised. -/
  | detectorWindowEnd (ch : Nat)
  /-- R325. At the decision cycle the gate reads a table entry. -/
  | gateDecision (m : Nat)
  /-- R325. The entry arrives and decides ready, blank, skip or error. -/
  | gateEntryReadAnswer (m : Nat)
  /-- R325. The frame bytes arrive and the gate builds the frame with timing fields. -/
  | gateFrameReadAnswer (m : Nat)
  /-- R327. At the launch instant the gate hands the frame to its MAC as express traffic. -/
  | gateLaunch (m : Nat)
  /-- R337. Clause 73 negotiation resolves; another ability keeps the port DOWN and restarts. -/
  | anComplete (m : Nat) (same sym asym eee : Bool)
  /-- R337. Link training completes and the port goes UP. -/
  | linkTrainingComplete (m : Nat)
  /-- R338. An UP port loses its link and goes DOWN. -/
  | portLinkLoss (m : Nat)
  /-- R344. A DETECT attempt starts at its back-off interval. -/
  | detectAttempt (l : Nat)
  /-- R343. An attempt detects a terminated receiver and the lane enters TRAIN. -/
  | receiverDetected (l : Nat)
  /-- R343. The receiver achieves bit lock and the lane enters LOCK. -/
  | bitLock (l : Nat)
  /-- R343. Symbol lock and 8 TSB are received; the lane enters CAPS or completes a step. -/
  | symbolLock (l : Nat) (viol : Nat := 0)
  /-- R343. TRAIN lasts 2 ms and the lane returns to DETECT with cause 1. -/
  | trainTimeout (l : Nat)
  /-- R343. LOCK lasts 2 ms and the lane returns to DETECT with cause 2. -/
  | lockTimeout (l : Nat) (viol : Nat := 0)
  /-- R343. CAPS lasts 8 ms and the lane returns to DETECT with cause 3. -/
  | capsTimeout (l : Nat)
  /-- R349. A step timer expires; DETECT with cause 4 and CEIL set. -/
  | stepTimeout (l : Nat) (viol : Nat := 0)
  /-- R347. A CAPS set is received; the partner block is accepted and the exchange may complete. `viol` code violations came since the last set. -/
  | capsSetReceived (l : Nat) (gs : List Nat) (viol : Nat)
  /-- R348. A TSC is received, entering STEP or switching the receiver at COUNT 0. `viol` as above. -/
  | tscReceived (l : Nat) (gs : List Nat) (viol : Nat)
  /-- R348. TSC with COUNT 0 has been sent and the transmitter switches to NEXT. -/
  | tscCountZeroSent (l : Nat)
  /-- R343. Four blocks lack their K character or 16 violations occur; DETECT with cause 5. -/
  | lockLoss (l viol : Nat)
  /-- R343. No receiver transitions for 1 µs; DETECT with cause 9. -/
  | signalLoss (l : Nat)
  /-- R343. A write of LANE_CTRL.RESTART sends a Tether lane to DETECT with cause 7. -/
  | tetherRestart (src l : Nat)
  /-- R349. A write of LANE_CTRL.CLR_CEIL clears the learned rate ceiling. -/
  | clrCeil (src l : Nat)
  /-- R352. An ACTIVE lane sends a block or idle block with samples from its downlink channels. -/
  | tetherBlockSend (l turn : Nat) (cut : Option Nat) (ecc : Ecc) (word : Nat)
  /-- R361. A received block is checked and its samples, control bytes and flags delivered. `viol` code violations came between blocks. -/
  | tetherBlockReceived (l : Nat) (gs : List Nat) (viol arrive : Nat) (ecc : Ecc) (word prbs : Nat)
  /-- R356. LEAVE has been sent for one superblock or 240 idle blocks and the lane drives idle. -/
  | leaveComplete (l : Nat)
  /-- R358. A received control message is accepted in the ring; RX_PROD advances and a token is posted. -/
  | ctlRingWriteAccepted (l : Nat)
  /-- R358. The lane reads transmit entry TX_CONS when ready to start a message. -/
  | ctlTxEntryRead (l : Nat)
  /-- R358. The transmit entry arrives and is sent or skipped. -/
  | ctlTxEntryAnswer (l : Nat)
  /-- R364. In AUTO, an ACTIVE Tether receiver adapts its CTLE by one step per 1 ms. -/
  | ctleAdapt (l : Nat) (up : Bool)
  /-- R373. A whole frame is received, classified, filtered and queued, or dropped. -/
  | frameReceived (m : Nat) (bs : List Byte) (mark frag : Bool) (back : Nat)
  /-- R375. A queue table entry read arrives and is kept until the next commit. -/
  | rxqEntryAnswer (m q : Nat)
  /-- R376. The status entry read arrives; DONE 1 drops the frame as full. -/
  | rxStatusReadAnswer (m q : Nat)
  /-- R376. Every frame write is accepted and the status entry is written. -/
  | rxFrameWritesAccepted (m q : Nat)
  /-- R376. The status write is accepted; the producer advances and a token may be posted. -/
  | rxStatusWriteAccepted (m q : Nat)
  /-- R376. A write of MAC_RXQ_RESET restarts a queue's producer index. -/
  | macRxqReset (src m q : Nat)
  /-- R388. A pause or PFC frame is consumed and starts or replaces a pause. -/
  | pauseFrameReceived (m : Nat) (pfc : Bool) (mask none0 : Nat)
  /-- R388. A received pause time runs out and held queues resume. -/
  | pauseTimerEnd (m mask : Nat)
  /-- R388. At half the pause time the MAC repeats pause while occupancy stays at or above XON. -/
  | pauseRepeat (m : Nat)
  /-- R380. The MAC reads the next descriptor of a non-empty queue. -/
  | txDescriptorRead (m q : Nat)
  /-- R382. The descriptor arrives and is checked; the frame is read or completed with an error. -/
  | txDescriptorAnswer (m q : Nat)
  /-- R382. The frame is in the transmit buffer. -/
  | txFrameReadAnswer (m q : Nat)
  /-- R384. The MAC starts the highest-priority ready frame on the wire. -/
  | txFrameStart (m : Nat)
  /-- R386. A preemptable frame is interrupted at the first allowed point for an express frame. -/
  | fragmentPreempt (m : Nat) (n : Nat := 64)
  /-- R383. The last byte crosses the MAC-PCS boundary and completion writes begin. -/
  | txFrameEnd (m : Nat)
  /-- R383. Completion writes are accepted; CONS advances and a token may be posted. -/
  | txCompletionAccepted (m q : Nat)
  /-- R385. VERIFY_TIME passes without response; verify is resent or FAILED is entered. -/
  | verifyTimeout (m : Nat)
  /-- R385. The partner responds and preemption becomes ACTIVE. -/
  | verifyResponseReceived (m : Nat)
  /-- R387. HOLD_ADV steps before a launch the gate asserts hold. -/
  | holdAssert (m : Nat)
  /-- R389. After LPI_IDLE µs with nothing to send the MAC requests LPI. -/
  | lpiEntry (m : Nat)
  /-- R389. TX_WAKE passes after a frame becomes ready in LPI and the frame starts. -/
  | lpiWakeDone (m : Nat)
  /-- R394. A write of TIME_INC sets the increment or is refused SLVERR. -/
  | timeIncWrite (src v : Nat)
  /-- R394. A write of TIME_SLEW_INC sets the slew increment or is refused SLVERR. -/
  | timeSlewIncWrite (src v : Nat)
  /-- R394. A write of TIME_SLEW_CNT starts or ends a slew. -/
  | timeSlewCntWrite (src v : Nat)
  /-- R394. The slew count reaches zero and TIME_INC resumes. -/
  | slewEnd
  /-- R395. A read of TIME_NOW_SEC captures the time of day for the reader. -/
  | timeNowSecRead (src : Nat)
  /-- R395. A read of TIME_NOW_SUB returns the captured or current remainder. -/
  | timeNowSubRead (src : Nat)
  /-- R396. A write of TIME_CTRL.VALID sets or clears validity. -/
  | timeValidWrite (src : Nat) (on : Bool)
  /-- R397. A write of TIME_CTRL.LOAD sets the time of day while STOPPED or WAIT_TIME. -/
  | timeLoad (src : Nat) (valid : Bool)
  /-- R401. A rising edge on TIME_IN_n captures the time of day. -/
  | timeCapture (n : Nat)
  /-- R403. A trigger reaches its target and performs its actions. -/
  | timeTrig (n : Nat)
  /-- R403. WIDTH steps pass and TIME_OUT_n falls. -/
  | timeOutPulseEnd (n : Nat)
  /-- R413. Every 50 ms a SILENT pair sends a 1 ms probe. -/
  | silentProbe (p : Nat)
  /-- R413. The partner's probe is received and the pair enters PROBE. -/
  | probeReceived (p : Nat)
  /-- R412. Both ends have chosen; the group baud is fixed and the pair enters ECTRAIN. -/
  | probeComplete (p : Nat) (snr theirs : List Nat)
  /-- R413. PROBE lasts 20 ms and the pair goes to SILENT with cause 1. -/
  | probeTimeout (p : Nat)
  /-- R414. Residual echo reaches -60 dB and the pair enters EXCHANGE. -/
  | ectrainComplete (p echo : Nat)
  /-- R414. 8 ms into the module's turn ECTRAIN completes at -50 dB or fails with cause 2. -/
  | echoCheck8ms (p echo : Nat)
  /-- R413. ECTRAIN lasts 40 ms and the pair goes to SILENT with cause 2. -/
  | ectrainTimeout (p : Nat)
  /-- R413. Both coefficient sets are acknowledged and the pair enters DATA. -/
  | exchangeComplete (p : Nat)
  /-- R413. EXCHANGE lasts 10 ms and the pair goes to SILENT with cause 3. -/
  | exchangeTimeout (p : Nat)
  /-- R415. No received energy or qualified burst for the stated time; SILENT with cause 4. -/
  | lineSignalLoss (p : Nat)
  /-- R415. More than 64 uncorrectable codewords in 1 ms; SILENT with cause 5. -/
  | fecFail (p : Nat)
  /-- R433. A write of LINE_PAIR_CTRL.RESTART sends the pair to SILENT with cause 7. -/
  | linePairRestart (src p : Nat)
  /-- R417. A direction with no fragments for LPI_IDLE µs enters LPI. -/
  | lineLpiEntry (p : Nat) (rx : Bool)
  /-- R416. 100 µs pass without a burst and a refresh burst is sent. -/
  | refreshBurst (p : Nat)
  /-- R418. E8 crosses the threshold and the receiver enters ACQUIRE. -/
  | energyDetect (p : Nat) (x : List Nat)
  /-- R420. At n = 32 the early qualifier test fixes the preamble start or fails. -/
  | earlyTest (p : Nat) (before r : List Int) (x : List Nat)
  /-- R420. After b + 63 the full test passes, freezing gain, or fails. -/
  | fullTest (p : Nat) (r : List Int) (x : List Nat)
  /-- R420. The 16 delimiter symbols are checked and RECEIVE begins. -/
  | delimiterCheck (p : Nat) (d inv : Byte) (x : List Nat)
  /-- R422. E8 rises by REARM_DB during ACQUIRE and acquisition restarts. -/
  | reacquire (p : Nat) (x : List Nat)
  /-- R423. P16 exceeds P_ref by CAPTURE_DB and the receiver abandons the burst. -/
  | capture (p : Nat) (r : List Int) (x : List Nat)
  /-- R421. The end pattern is received and the receiver returns to QUIET. -/
  | burstEnd (p : Nat)
  /-- R418. E8 falls below threshold or rises by REARM_DB and HOLDOFF ends. -/
  | holdoffExit (p : Nat) (x : List Nat)
  /-- R421. A codeword is decoded and delivered or counted uncorrectable. -/
  | codewordReceived (p : Nat) (ok : Bool)
  /-- R427. MAC_16 sends a fragment on the pair that finishes first. -/
  | fragmentSend (p : Nat) (cont : Bool)
  /-- R428. A fragment is received and ordered; whole frames pass to MAC_16. -/
  | fragmentReceived (p hdr : Nat) (bs : List Byte) (back : Nat)
  /-- R428. A SEQ stays missing for REASM × 10 µs and frames containing the gap are discarded. -/
  | reassemblyTimeout
  /-- R443. After reset the Starter authenticates and applies an image, or enters recovery. -/
  | starterRun (pll : Bool) (nor bad : Nat)
  /-- R448. A host BAR access enters the fabric or is refused by HOST_MODE. -/
  | hostAccess (csr : Bool) (off : Nat) (data : Option (List Byte)) (len : Nat)
  /-- R449. A completion for a host-window request returns and is mapped to a response. -/
  | hostWindowCompletion (id outcome : Nat) (data : List Byte)
  /-- R450. The PCIe reset signal resets the link, configuration space and MSI-X. -/
  | pcieResetSignal
  /-- R450. An FLR resets MSI-X, Bus Master Enable and PCIE_FWIN_BASE. -/
  | functionLevelReset
  /-- R463. The PCIe link goes up or down. -/
  | pcieLink (up : Bool) (gen width : Nat) (flit : Bool)
  /-- R459. GET_STATUS returns device, boot, fuse and Round status. -/
  | getStatus (src : CmdSrc)
  /-- R459. READ_REGS returns snapshot values of listed offsets. -/
  | readRegs (src : CmdSrc)
  /-- R459. GET_COUNTER returns a key's last accepted counter. -/
  | getCounter (src : CmdSrc)
  /-- R462. ATTEST returns a signed report with the nonce. -/
  | attest (src : CmdSrc)
  /-- R459. GET_ATTEST_KEY returns the attestation public key. -/
  | getAttestKey (src : CmdSrc)
  /-- R459. GET_ATTEST_CERT starts a read of the certificate area. -/
  | getAttestCert (src : CmdSrc)
  /-- R459. The certificate read from the NOR completes and the response is given. -/
  | certReadDone
  /-- R459. WRITE_REGS is authenticated and scheduled to write committed registers in its target Round. -/
  | writeRegs (src : CmdSrc)
  /-- R460. SWITCH_IMAGE is authenticated and scheduled to rewrite the boot record at its target commit. -/
  | switchImage (src : CmdSrc)
  /-- R459. WRITE_IMAGE is authenticated and starts writing data to a non-running slot. -/
  | writeImage (src : CmdSrc)
  /-- R459. The NOR write of WRITE_IMAGE completes and DONE or NOR_FAIL is answered. -/
  | imageWriteDone (ok : Bool)
  /-- R459. KEY_REVOKE revokes a command key in the journal. -/
  | keyRevoke (src : CmdSrc)
  /-- R459. SLOT_REVOKE burns a slot revocation fuse. -/
  | slotRevoke (src : CmdSrc)
  /-- R459. SVN_ADVANCE burns thermometer fuse bits. -/
  | svnAdvance (src : CmdSrc)
  /-- R469. POWER is authenticated and schedules a device state and PWR_CAP change. -/
  | power (src : CmdSrc)
  /-- R518. REPLAY_ENTER is checked and schedules a restart into Replay. -/
  | replayEnter (src : CmdSrc)
  /-- R522. REPLAY_EXIT schedules a restart into normal operation. -/
  | replayExit (src : CmdSrc)
  /-- R460. RESET schedules a module restart at its target commit. -/
  | reset (src : CmdSrc)
  /-- R456. The journal record is written and read back; step 10 decides acceptance. -/
  | journalWriteDone (ok : Bool)
  /-- R458. From C0+96 of the Round before the target the SEC agent issues the command's writes. -/
  | commandExecutionStart
  /-- R460. The boot record write and read-back complete and the module restarts. -/
  | bootRecordWriteDone (ok : Bool)
  /-- R473. Every engine is HALTED and every DMA channel is stopped. -/
  | standbyHaltDone
  /-- R473. Every DMA engine is QUIET and domains are taken down. -/
  | standbyQuietDone
  /-- R473. Domains, DRAM and PLLs are down and the device is in Standby or Deep Standby. -/
  | standbyDomainsDown
  /-- R474. While Rounds are stopped a shedding decision is made every 125 µs. -/
  | shedDecision (power volt : Nat) (temp : Int)
  /-- R475. A temperature diode reaches SHED_C. -/
  | pwrHot
  /-- R475. A diode is at 108 °C for 100 µs and the module enters Deep Standby. -/
  | thermalTrip
  /-- R468. A rising edge on WAKE_IN leaves Deep Standby with a reset. -/
  | wakeIn
  /-- R471. A domain's wake completes; held packets are delivered and a DOZE engine is restored. -/
  | domainWakeDone (d : Nat) (ecc : Ecc)
  /-- R485. A regulator or PLL is not good in time; it is powered down, retried or failed. -/
  | wakeTimeout (d : Nat)
  /-- R485. 100 µs after a timeout the wake is attempted again. -/
  | wakeRetry (d : Nat)
  /-- R487. A fenced domain has completed its requests and its power is removed. -/
  | fenceDrained (d : Nat)
  /-- R488. The long pins mate and input capacitance charges. -/
  | prechargeContact
  /-- R466. VIN rises through 34 V and the input switch ramps. -/
  | vinRise
  /-- R488. Rails are brought up in order and power is good. -/
  | railsGood
  /-- R488. PRESENT has been seen for 10 ms and, with power good, reset is released. -/
  | presentDebounced
  /-- R488. Power good or PRESENT is lost before stage 4 and the stages restart. -/
  | powerGoodLoss
  /-- R489. Opening the latch drives EJECT_REQ and starts the debounce. -/
  | ejectReq
  /-- R489. After 1 ms PWR_EJECT is raised and the removal sequence begins. -/
  | ejectDebounced
  /-- R489. DMA is quiet, recorder and flash work have finished and domains are fenced. -/
  | removalQuiesced
  /-- R489. Domains are down, DRAM self-refreshes and SAFE_TO_REMOVE is asserted. -/
  | removalPoweredDown
  /-- R489. The latch closes after SAFE_TO_REMOVE and the module resets. -/
  | latchClose
  /-- R490. PRESENT is lost without SAFE_TO_REMOVE and surprise removal handling applies. -/
  | presentLost
  /-- R466. VIN stays below 33 V for 20 µs and the module stops. -/
  | vinLow
  /-- R495. Input current held at the limit for 5 ms turns the switch off. -/
  | currentLimitTrip
  /-- R495. 1 s after a current-limit trip the insertion stages restart. -/
  | tripRestart
  /-- R492. A sequencer pass starts by MODE. -/
  | hkcPassStart
  /-- R492. An entry's last conversion ends and its value is written and compared. -/
  | hkcEntryDone (codes : List Nat)
  /-- R494. The feed current exceeds HKC_OCD_CFG.LIMIT. -/
  | overCurrentDetect (ma : Nat)
  /-- R494. An urgent conversion on slice 0 completes and its code is written. -/
  | hkcUrgentDone (code wait : Nat)
  /-- R500. An aging margin falls below AGE_MIN and a swap is marked. -/
  | ageMark (kind idx code : Nat)
  /-- R501. A wire reaches WIRE_MAX errors in a window and is marked. -/
  | wireMark (n d w errs : Nat)
  /-- R503. A marked engine becomes quiescent and its copy to the spare begins. -/
  | engineQuiescent (n : Nat)
  /-- R503. The engine copy to the spare completes. -/
  | spareCopyDone (n : Nat)
  /-- R503. SPARE_REQ KIND 1 marks an engine for a swap or rotation. -/
  | spareReqEngine (src n : Nat) (rotate : Bool)
  /-- R504. SPARE_REQ KIND 2 marks an accelerator for a swap. -/
  | spareReqAccelerator (src k : Nat)
  /-- R507. SPARE_REQ KIND 3 moves a logical Tether lane to its spare. -/
  | spareReqLane (src l : Nat)
  /-- R509. A write of SPARE_BIST starts a self-test of a pool or retired resource. -/
  | spareBist (src kind cluster target : Nat)
  /-- R509. A self-test completes and a failing resource is retired. -/
  | bistDone (fail : Bool)
  /-- R515. A write of REC_CTRL.TRIG fires the recorder trigger. -/
  | recTrig (src : Nat) (en : Bool)
  /-- R519. In Replay a recorded input is delivered at its recorded offset. -/
  | replayRecordDelivery
  /-- R46. The answer to an issued plan entry arrives at the Round unit, and a response other than OK is counted in ROUND_PLAN_ERR_CNT and raises ROUND_PLAN_ERR. -/
  | planIssueAnswer
  /-- R56. The answer to the event router's KIND 1 interrupt write arrives, and a response other than OK counts in EVT_MISROUTE_CNT. -/
  | interruptWriteAnswer
  /-- R458. The answer to a committed register write issued for an accepted command arrives, and a response other than OK counts in SEC_EXEC_ERR_CNT and ends the command EXEC_ERR. -/
  | commandWriteAnswer (no : Nat)
  /-- R155. A running accelerator job reaches job start + T + stalls and issues its last output write. -/
  | lastOutputWrite (k corr uncorr row : Nat)
  /-- R485. A main PLL fails while the module is running and the device enters Standby on the always-on oscillator with PWR_FAULT.PLL set. -/
  | mainPllFailure
  /-- R455. A command whose OPCODE is unknown, or whose length is too short to hold a header, is answered BAD_OPCODE or BAD_FORMAT and counted in SEC_REJECT_CNT. -/
  | badOpcode (src : CmdSrc)
  /-- R337. A C2M Ethernet port, which runs neither negotiation nor training, gains its link and goes UP, raising ETH_LINK. -/
  | c2mPortUp (m : Nat)
  /-- R311. A CFA channel whose lane is not delivering or not sending takes a zero sample, or discards a downlink sample, at its own rate and advances its count. -/
  | cfaSamplePeriod (ch : Nat)
  /-- R389. The link partner enters or leaves low-power idle, changing MAC_STATUS.LPI_RX and counting in MAC_LPI_RX_CNT. -/
  | lpiRx (m : Nat) (on : Bool)
  /-- R449. The host writes Bus Master Enable in configuration space, which decides whether host-window requests are sent or answered REFUSED and whether MSI-X vectors are signalled or dropped. -/
  | busMasterEnable (on : Bool)
deriving DecidableEq, Repr

end Sys2Proof
end

