-- ==== Sys2Proof/Config.lean ====
section
/-! DEFINITION. What an implementation fixes and the free values: constants with no body, of which nothing can be proved. -/
namespace Sys2Proof.Config

/-- A value the manual leaves open: the draw-th of the run (State.free counts the draws), bit or word `i` of it. -/
opaque freeWord : Nat → Nat → DWord

/-- What a counter of cycles reads (R104, R153, R255): timing is left out, so the reading is free. Arguments: how many
snapshots have been taken, the register's offset. -/
opaque cycles : Nat → Nat → DWord

/-- What a memory byte that nothing has written reads as (log 4). -/
def memoryFill : Byte := 0

/-! ## Tables of TS 38.212 and TS 36.212 that the manual refers to and does not print (log 12) -/

/-- The cyclic shift of base graph `bg` for lifting size set `set`, at row and column; none where the graph has no edge. -/
opaque ldpcShift : Nat → Nat → Nat → Nat → Option Nat
/-- The parity bits of an LDPC block: base graph, lifting size, systematic bits. -/
opaque ldpcParity : Nat → Nat → List Bool → List Bool
/-- f1 and f2 of the turbo code's interleaver, by block size. -/
opaque turboInterleaver : Nat → Nat × Nat
/-- The polar sequence: the bit index of reliability rank `i`, least reliable first. -/
opaque polarSequence : Nat → Nat
/-- The polar input interleaving pattern of 164 positions. -/
opaque polarPattern : Nat → Nat

/-! ## Arithmetic of the accelerators that the manual does not fix to the bit (log 24) -/

/-- Hard decisions of an LDPC block: parameter block, layers used, iterations run, the LLR of every coded bit (none: a known zero). -/
opaque ldpcWord : List Byte → Nat → Nat → List (Option Int) → List Bool
/-- Hard decisions of a turbo block: block size, filler bits, iterations run, the LLR of every circular-buffer position (none: padding). -/
opaque turboWord : Nat → Nat → Nat → List (Option Int) → List Bool
/-- The list path of a rank in metric order, 0 the best: parameter block, the LLRs of a segment. -/
opaque polarPath : List Byte → List Int → Nat → List Bool
/-- What a soft buffer holds at a filler position. -/
opaque fillerLlr : Byte
/-- Fraction bits of the transform unit's datapath; its twiddle factor of a length and index at that scale; what its rounding adds to a bin:
operation code, length, bin, samples. -/
opaque ftFraction : Nat
opaque ftTwiddle : Nat → Nat → Int × Int
opaque ftRoundoff : Nat → Nat → Nat → List (Int × Int) → Int × Int
/-- What fp32 arithmetic makes of a quantity of the MIMO detector: the job's draw, which quantity, its exact value. -/
opaque fp32 : Nat → Nat → Rat → Rat
/-- The block exponent of a weight group: the job's draw, the group. -/
opaque mdExponent : Nat → Nat → Nat
/-- A ratio above 0 in 1/256 dB, and the code of one above 127.99 dB. -/
opaque decibel : Rat → Int
opaque sinrTop : Nat

/-- Coefficient `j` of the aligner of the carrier filter array at a phase other than 0 (R312): a fixed table the manual does not print. -/
opaque alignTap : Nat → Nat → Int
/-- Fraction bits of those coefficients. -/
opaque alignFraction : Nat
/-- The value the receiver of a Tether lane takes for an invalid code group (R339). -/
opaque badGroup : Nat → Byte

/-- ML-DSA (FIPS 204), which the manual names and does not give: does a signature verify (ALG of R437, public key, message, context string,
signature); the ML-DSA-44 public key generated from a seed; the signature of a message made with that key. -/
opaque mldsaVerify : Nat → List Byte → List Byte → String → List Byte → Bool
opaque mldsaPublic : List Byte → List Byte
opaque mldsaSign : List Byte → List Byte → String → List Byte

end Sys2Proof.Config
end

