-- ==== Sys2Proof/Machine/Reg.lean ====
section
/-! DEFINITION. The offsets of the registers in CSR space (R9 and the register cards of each chapter), under the
manual's own names; an argument numbers the instance. -/
namespace Sys2Proof.Machine.Reg

/-- The block of DMA engine `e`: CDMA 0-31, SDMA 32 (R292). -/
def dmaBase (e : Nat) : Nat := if e = 32 then 0x300000 else 0x310000 + 0x1000 * e

/-- The registers of channel `ch` of DMA engine `e` (R293). -/
def dmaChBase (e ch : Nat) : Nat := dmaBase e + (if e = 32 then 0x1000 else 0x100) + 0x40 * ch

/-- The block of MAC `m` (R406, R432). -/
def macBase (m : Nat) : Nat := if m = 16 then 0x710000 else 0x500000 + 0x10000 * m

/-- ROUND_CTRL (R58). -/
def ROUND_CTRL : Nat := 0x10000
/-- ROUND_CFG (R58). -/
def ROUND_CFG : Nat := 0x10004
/-- ROUND_STATUS (R58). -/
def ROUND_STATUS : Nat := 0x10008
/-- ROUND_EPOCH_SEC (R58). -/
def ROUND_EPOCH_SEC : Nat := 0x10010
/-- ROUND_EPOCH_NS (R58). -/
def ROUND_EPOCH_NS : Nat := 0x10018
/-- ROUND_NOW (R58). -/
def ROUND_NOW : Nat := 0x10020
/-- ROUND_SNAP_ROUND (R58). -/
def ROUND_SNAP_ROUND : Nat := 0x10028
/-- SHADOW_STAMP (R58). -/
def SHADOW_STAMP : Nat := 0x10030
/-- ROUND_OFFSET (R58). -/
def ROUND_OFFSET : Nat := 0x10038
/-- ROUND_START_SEC (R58). -/
def ROUND_START_SEC : Nat := 0x10040
/-- ROUND_START_NS (R58). -/
def ROUND_START_NS : Nat := 0x10048
/-- ROUND_START_FRAC (R58). -/
def ROUND_START_FRAC : Nat := 0x1004C
/-- ROUND_PLAN (R58). -/
def ROUND_PLAN : Nat := 0x10050
/-- ROUND_OVR_POLICY (R58). -/
def ROUND_OVR_POLICY : Nat := 0x10054
/-- ROUND_OVR_HALTED (R58). -/
def ROUND_OVR_HALTED : Nat := 0x10058
/-- ROUND_EVT_STATUS (R58). -/
def ROUND_EVT_STATUS : Nat := 0x1005C
/-- ROUND_EVT_SNAP (R58). -/
def ROUND_EVT_SNAP : Nat := 0x10060
/-- ROUND_CNT_CLR (R58). -/
def ROUND_CNT_CLR : Nat := 0x10064
/-- ROUND_MISSED_CNT (R58). -/
def ROUND_MISSED_CNT : Nat := 0x10068
/-- ROUND_STRETCH_CNT (R58). -/
def ROUND_STRETCH_CNT : Nat := 0x1006C
/-- ROUND_REALIGN_CNT (R58). -/
def ROUND_REALIGN_CNT : Nat := 0x10070
/-- ROUND_BLANK_CNT (R58). -/
def ROUND_BLANK_CNT : Nat := 0x10074
/-- ROUND_PLAN_LATE_CNT (R58). -/
def ROUND_PLAN_LATE_CNT : Nat := 0x10078
/-- ROUND_PLAN_ERR_CNT (R58). -/
def ROUND_PLAN_ERR_CNT : Nat := 0x1007C
/-- ROUND_OVR_CNT (R58). -/
def ROUND_OVR_CNT (n : Nat) : Nat := 0x10080 + 0x4 * n
/-- ROUND_PLAN_BASE (R58). -/
def ROUND_PLAN_BASE (n : Nat) : Nat := 0x100A0 + 0x8 * n
/-- DEV_ID (R59). -/
def DEV_ID : Nat := 0x0
/-- DEV_CTRL (R59). -/
def DEV_CTRL : Nat := 0x4
/-- DEV_STATUS (R59). -/
def DEV_STATUS : Nat := 0x8
/-- DEV_SCRATCH (R59). -/
def DEV_SCRATCH : Nat := 0xC
/-- EVT_STATUS (R61). -/
def EVT_STATUS : Nat := 0x20000
/-- EVT_CNT_CLR (R61). -/
def EVT_CNT_CLR : Nat := 0x20004
/-- EVT_DELIVER_CNT (R61). -/
def EVT_DELIVER_CNT : Nat := 0x20010
/-- EVT_DROP_CNT (R61). -/
def EVT_DROP_CNT : Nat := 0x20014
/-- EVT_MISROUTE_CNT (R61). -/
def EVT_MISROUTE_CNT : Nat := 0x20018
/-- EVT_ROUTE (R61). -/
def EVT_ROUTE (e : Nat) : Nat := 0x21000 + 0x4 * e
/-- ENG_CTRL (R104). -/
def ENG_CTRL (n : Nat) : Nat := 0x2000000 + 0x1000 * n
/-- ENG_STATUS (R104). -/
def ENG_STATUS (n : Nat) : Nat := 0x2000004 + 0x1000 * n
/-- ENG_START_PC (R104). -/
def ENG_START_PC (n : Nat) : Nat := 0x2000008 + 0x1000 * n
/-- ENG_PC (R104). -/
def ENG_PC (n : Nat) : Nat := 0x200000C + 0x1000 * n
/-- ENG_IRQ_EN (R104). -/
def ENG_IRQ_EN (n : Nat) : Nat := 0x2000010 + 0x1000 * n
/-- ENG_IRQ_PEND (R104). -/
def ENG_IRQ_PEND (n : Nat) : Nat := 0x2000014 + 0x1000 * n
/-- ENG_IRQ_SET (R104). -/
def ENG_IRQ_SET (n : Nat) : Nat := 0x2000018 + 0x1000 * n
/-- ENG_IRQ_WAIT_LIMIT (R104). -/
def ENG_IRQ_WAIT_LIMIT (n : Nat) : Nat := 0x200001C + 0x1000 * n
/-- ENG_IRQ_LAT_MAX (R104). -/
def ENG_IRQ_LAT_MAX (n : Nat) : Nat := 0x2000020 + 0x1000 * n
/-- ENG_LAST_TRAP (R104). -/
def ENG_LAST_TRAP (n : Nat) : Nat := 0x2000024 + 0x1000 * n
/-- ENG_LAST_TRAP_PC (R104). -/
def ENG_LAST_TRAP_PC (n : Nat) : Nat := 0x2000028 + 0x1000 * n
/-- ENG_EVT_STATUS (R104). -/
def ENG_EVT_STATUS (n : Nat) : Nat := 0x200002C + 0x1000 * n
/-- ENG_CYCLE_CNT (R104). -/
def ENG_CYCLE_CNT (n : Nat) : Nat := 0x2000030 + 0x1000 * n
/-- ENG_ISSUE_CNT (R104). -/
def ENG_ISSUE_CNT (n : Nat) : Nat := 0x2000038 + 0x1000 * n
/-- ENG_STALL_CNT (R104). -/
def ENG_STALL_CNT (n : Nat) : Nat := 0x2000040 + 0x1000 * n
/-- ENG_TRAP_CNT (R104). -/
def ENG_TRAP_CNT (n : Nat) : Nat := 0x2000044 + 0x1000 * n
/-- ENG_IRQ_CNT (R104). -/
def ENG_IRQ_CNT (n : Nat) : Nat := 0x2000048 + 0x1000 * n
/-- ENG_ECC_CNT (R104). -/
def ENG_ECC_CNT (n : Nat) : Nat := 0x200004C + 0x1000 * n
/-- ENG_CNT_CLR (R104). -/
def ENG_CNT_CLR (n : Nat) : Nat := 0x2000050 + 0x1000 * n
/-- VEC_CFG (R129). -/
def VEC_CFG (n : Nat) : Nat := 0x2000080 + 0x1000 * n
/-- VEC_PWR_CTRL (R129). -/
def VEC_PWR_CTRL (n : Nat) : Nat := 0x2000084 + 0x1000 * n
/-- VEC_STATUS (R129). -/
def VEC_STATUS (n : Nat) : Nat := 0x2000088 + 0x1000 * n
/-- VEC_WAKE_CNT (R129). -/
def VEC_WAKE_CNT (n : Nat) : Nat := 0x200008C + 0x1000 * n
/-- VEC_FAULT_CNT (R129). -/
def VEC_FAULT_CNT (n : Nat) : Nat := 0x2000090 + 0x1000 * n
/-- VEC_GATHER_CNT (R129). -/
def VEC_GATHER_CNT (n : Nat) : Nat := 0x2000094 + 0x1000 * n
/-- VEC_CNT_CLR (R129). -/
def VEC_CNT_CLR (n : Nat) : Nat := 0x2000098 + 0x1000 * n
/-- VEC_ISSUE_CNT (R129). -/
def VEC_ISSUE_CNT (n : Nat) : Nat := 0x20000A0 + 0x1000 * n
/-- ACC_ID (R153). -/
def ACC_ID (k : Nat) : Nat := 0x1000000 + 0x10000 * k
/-- ACC_CTRL (R153). -/
def ACC_CTRL (k : Nat) : Nat := 0x1000004 + 0x10000 * k
/-- ACC_STATUS (R153). -/
def ACC_STATUS (k : Nat) : Nat := 0x1000008 + 0x10000 * k
/-- ACC_EVT_STATUS (R153). -/
def ACC_EVT_STATUS (k : Nat) : Nat := 0x100000C + 0x10000 * k
/-- ACC_EVT_SNAP (R153). -/
def ACC_EVT_SNAP (k : Nat) : Nat := 0x1000010 + 0x10000 * k
/-- ACC_LAST_REFUSE (R153). -/
def ACC_LAST_REFUSE (k : Nat) : Nat := 0x1000014 + 0x10000 * k
/-- ACC_LAST_REFUSE_ENG (R153). -/
def ACC_LAST_REFUSE_ENG (k : Nat) : Nat := 0x1000018 + 0x10000 * k
/-- ACC_ACCEPT_CNT (R153). -/
def ACC_ACCEPT_CNT (k : Nat) : Nat := 0x1000020 + 0x10000 * k
/-- ACC_BUSY_CNT (R153). -/
def ACC_BUSY_CNT (k : Nat) : Nat := 0x1000024 + 0x10000 * k
/-- ACC_REFUSE_CNT (R153). -/
def ACC_REFUSE_CNT (k : Nat) : Nat := 0x1000028 + 0x10000 * k
/-- ACC_DONE_CNT (R153). -/
def ACC_DONE_CNT (k : Nat) : Nat := 0x100002C + 0x10000 * k
/-- ACC_ORPHAN_CNT (R153). -/
def ACC_ORPHAN_CNT (k : Nat) : Nat := 0x1000030 + 0x10000 * k
/-- ACC_EXPIRED_CNT (R153). -/
def ACC_EXPIRED_CNT (k : Nat) : Nat := 0x1000034 + 0x10000 * k
/-- ACC_JOB_ERR_CNT (R153). -/
def ACC_JOB_ERR_CNT (k : Nat) : Nat := 0x1000038 + 0x10000 * k
/-- ACC_ACTIVE_CYCLES (R153). -/
def ACC_ACTIVE_CYCLES (k : Nat) : Nat := 0x1000040 + 0x10000 * k
/-- ACC_CNT_CLR (R153). -/
def ACC_CNT_CLR (k : Nat) : Nat := 0x1000048 + 0x10000 * k
/-- ACC_MEM_CORR_CNT (R188). -/
def ACC_MEM_CORR_CNT (k : Nat) : Nat := 0x1000100 + 0x10000 * k
/-- ACC_MEM_UNCORR_CNT (R188). -/
def ACC_MEM_UNCORR_CNT (k : Nat) : Nat := 0x1000104 + 0x10000 * k
/-- ACC_KIND_CNT (R188). -/
def ACC_KIND_CNT (k i : Nat) : Nat := 0x1000110 + 0x10000 * k + 0x4 * i
/-- CHURN_CTRL (R218). -/
def CHURN_CTRL (s : Nat) : Nat := 0x100000 + 0x10000 * s
/-- CHURN_STATUS (R218). -/
def CHURN_STATUS (s : Nat) : Nat := 0x100004 + 0x10000 * s
/-- CHURN_CMD (R218). -/
def CHURN_CMD (s : Nat) : Nat := 0x100008 + 0x10000 * s
/-- CHURN_CMD_STATUS (R218). -/
def CHURN_CMD_STATUS (s : Nat) : Nat := 0x10000C + 0x10000 * s
/-- CHURN_CTX_DATA (R218). -/
def CHURN_CTX_DATA (s n : Nat) : Nat := 0x100010 + 0x10000 * s + 0x4 * n
/-- CHURN_MSG (R218). -/
def CHURN_MSG (s : Nat) : Nat := 0x100040 + 0x10000 * s
/-- CHURN_ENG_MASK (R218). -/
def CHURN_ENG_MASK (s : Nat) : Nat := 0x100048 + 0x10000 * s
/-- CHURN_EVT_STATUS (R218). -/
def CHURN_EVT_STATUS (s : Nat) : Nat := 0x100050 + 0x10000 * s
/-- CHURN_EVT_SNAP (R218). -/
def CHURN_EVT_SNAP (s : Nat) : Nat := 0x100054 + 0x10000 * s
/-- CHURN_LAST_OVR (R218). -/
def CHURN_LAST_OVR (s : Nat) : Nat := 0x100058 + 0x10000 * s
/-- CHURN_CNT_CLR (R218). -/
def CHURN_CNT_CLR (s : Nat) : Nat := 0x10005C + 0x10000 * s
/-- CHURN_TOKEN_CNT (R218). -/
def CHURN_TOKEN_CNT (s : Nat) : Nat := 0x100060 + 0x10000 * s
/-- CHURN_DISPATCH_CNT (R218). -/
def CHURN_DISPATCH_CNT (s : Nat) : Nat := 0x100064 + 0x10000 * s
/-- CHURN_DONE_CNT (R218). -/
def CHURN_DONE_CNT (s : Nat) : Nat := 0x100068 + 0x10000 * s
/-- CHURN_CANCEL_CNT (R218). -/
def CHURN_CANCEL_CNT (s : Nat) : Nat := 0x10006C + 0x10000 * s
/-- CHURN_TOK_DISCARD_CNT (R218). -/
def CHURN_TOK_DISCARD_CNT (s : Nat) : Nat := 0x100070 + 0x10000 * s
/-- CHURN_TOK_DROP_CNT (R218). -/
def CHURN_TOK_DROP_CNT (s : Nat) : Nat := 0x100074 + 0x10000 * s
/-- CHURN_TOK_DUP_CNT (R218). -/
def CHURN_TOK_DUP_CNT (s : Nat) : Nat := 0x100078 + 0x10000 * s
/-- CHURN_OVR_CNT (R218). -/
def CHURN_OVR_CNT (s : Nat) : Nat := 0x10007C + 0x10000 * s
/-- CHURN_LATE_CNT (R218). -/
def CHURN_LATE_CNT (s : Nat) : Nat := 0x100080 + 0x10000 * s
/-- CHURN_BAD_MSG_CNT (R218). -/
def CHURN_BAD_MSG_CNT (s : Nat) : Nat := 0x100084 + 0x10000 * s
/-- CHURN_DIVERGE_CNT (R218). -/
def CHURN_DIVERGE_CNT (s : Nat) : Nat := 0x100088 + 0x10000 * s
/-- CHURN_NEXT (R218). -/
def CHURN_NEXT (s e : Nat) : Nat := 0x101000 + 0x10000 * s + 0x8 * e
/-- CHURN_PEEK (R218). -/
def CHURN_PEEK (s e : Nat) : Nat := 0x101400 + 0x10000 * s + 0x8 * e
/-- NOC_CTRL (R257). -/
def NOC_CTRL : Nat := 0x200000
/-- NOC_DRAIN_LIMIT (R257). -/
def NOC_DRAIN_LIMIT : Nat := 0x200004
/-- NOC_STATUS (R257). -/
def NOC_STATUS : Nat := 0x200008
/-- NOC_DRAIN_NODES (R257). -/
def NOC_DRAIN_NODES : Nat := 0x200010
/-- NOC_EVT_STATUS (R257). -/
def NOC_EVT_STATUS : Nat := 0x200018
/-- NOC_EVT_SNAP (R257). -/
def NOC_EVT_SNAP : Nat := 0x20001C
/-- NOC_CNT_CLR (R257). -/
def NOC_CNT_CLR : Nat := 0x200020
/-- NOC_RED_LAST_ERR (R257). -/
def NOC_RED_LAST_ERR : Nat := 0x200024
/-- NOC_DRAIN_CNT (R257). -/
def NOC_DRAIN_CNT : Nat := 0x200030
/-- NOC_DRAIN_MAX (R257). -/
def NOC_DRAIN_MAX : Nat := 0x200034
/-- NOC_RED_DONE_CNT (R257). -/
def NOC_RED_DONE_CNT : Nat := 0x200038
/-- NOC_RED_ERR_CNT (R257). -/
def NOC_RED_ERR_CNT : Nat := 0x20003C
/-- NOC_RTR_CTRL (R258). -/
def NOC_RTR_CTRL (n : Nat) : Nat := 0x201000 + 0x40 * n
/-- NOC_RTR_STATUS (R258). -/
def NOC_RTR_STATUS (n : Nat) : Nat := 0x201004 + 0x40 * n
/-- NOC_RTR_FLITS (R258). -/
def NOC_RTR_FLITS (n : Nat) : Nat := 0x201008 + 0x40 * n
/-- NOC_RTR_RED_MERGE_CNT (R258). -/
def NOC_RTR_RED_MERGE_CNT (n : Nat) : Nat := 0x201010 + 0x40 * n
/-- NOC_RTR_RED_PASS_CNT (R258). -/
def NOC_RTR_RED_PASS_CNT (n : Nat) : Nat := 0x201014 + 0x40 * n
/-- NOC_RTR_REPLAY_CNT (R258). -/
def NOC_RTR_REPLAY_CNT (n : Nat) : Nat := 0x201018 + 0x40 * n
/-- NOC_RTR_ANSWER_DROP_CNT (R258). -/
def NOC_RTR_ANSWER_DROP_CNT (n : Nat) : Nat := 0x20101C + 0x40 * n
/-- NI_ROUTE (R259). -/
def NI_ROUTE (n p i : Nat) : Nat := 0x220000 + 0x4000 * n + 0x800 * p + 0x8 * i
/-- NI_BYTES (R259). -/
def NI_BYTES (n p c : Nat) : Nat := 0x220200 + 0x4000 * n + 0x800 * p + 0x80 * c
/-- NI_PKTS (R259). -/
def NI_PKTS (n p c : Nat) : Nat := 0x220208 + 0x4000 * n + 0x800 * p + 0x80 * c
/-- NI_LAT_MAX (R259). -/
def NI_LAT_MAX (n p c : Nat) : Nat := 0x22020C + 0x4000 * n + 0x800 * p + 0x80 * c
/-- NI_LAT_HIST (R259). -/
def NI_LAT_HIST (n p c b : Nat) : Nat := 0x220210 + 0x4000 * n + 0x800 * p + 0x80 * c + 0x4 * b
/-- NI_CTRL (R259). -/
def NI_CTRL (n p : Nat) : Nat := 0x220400 + 0x4000 * n + 0x800 * p
/-- NI_ROUTE_BAD (R259). -/
def NI_ROUTE_BAD (n p : Nat) : Nat := 0x220408 + 0x4000 * n + 0x800 * p
/-- NI_OUTSTANDING (R259). -/
def NI_OUTSTANDING (n p : Nat) : Nat := 0x220410 + 0x4000 * n + 0x800 * p
/-- NI_POST_ERR_ADDR (R259). -/
def NI_POST_ERR_ADDR (n p : Nat) : Nat := 0x220418 + 0x4000 * n + 0x800 * p
/-- NI_POST_ERR_INFO (R259). -/
def NI_POST_ERR_INFO (n p : Nat) : Nat := 0x220420 + 0x4000 * n + 0x800 * p
/-- NI_TIMEOUT_CNT (R259). -/
def NI_TIMEOUT_CNT (n p : Nat) : Nat := 0x220430 + 0x4000 * n + 0x800 * p
/-- NI_LATE_RSP_CNT (R259). -/
def NI_LATE_RSP_CNT (n p : Nat) : Nat := 0x220434 + 0x4000 * n + 0x800 * p
/-- NI_ROUTE_FAULT_CNT (R259). -/
def NI_ROUTE_FAULT_CNT (n p : Nat) : Nat := 0x220438 + 0x4000 * n + 0x800 * p
/-- NI_DECERR_CNT (R259). -/
def NI_DECERR_CNT (n p : Nat) : Nat := 0x22043C + 0x4000 * n + 0x800 * p
/-- NI_POST_ERR_CNT (R259). -/
def NI_POST_ERR_CNT (n p : Nat) : Nat := 0x220440 + 0x4000 * n + 0x800 * p
/-- NI_BOOK_CNT (R259). -/
def NI_BOOK_CNT (n p : Nat) : Nat := 0x220444 + 0x4000 * n + 0x800 * p
/-- NI_RED_SEND (R259). -/
def NI_RED_SEND (n p : Nat) : Nat := 0x220480 + 0x4000 * n + 0x800 * p
/-- NI_RED_SETUP (R259). -/
def NI_RED_SETUP (n p : Nat) : Nat := 0x220488 + 0x4000 * n + 0x800 * p
/-- NI_RED_TABLE (R259). -/
def NI_RED_TABLE (n p : Nat) : Nat := 0x220490 + 0x4000 * n + 0x800 * p
/-- DRAM_CFG (R291). -/
def DRAM_CFG (ch : Nat) : Nat := 0x308000 + 0x1000 * ch
/-- DRAM_STATUS (R291). -/
def DRAM_STATUS (ch : Nat) : Nat := 0x308004 + 0x1000 * ch
/-- DRAM_CORR_CNT (R291). -/
def DRAM_CORR_CNT (ch : Nat) : Nat := 0x308010 + 0x1000 * ch
/-- DRAM_UNCORR_CNT (R291). -/
def DRAM_UNCORR_CNT (ch : Nat) : Nat := 0x308014 + 0x1000 * ch
/-- DRAM_POISON_CNT (R291). -/
def DRAM_POISON_CNT (ch : Nat) : Nat := 0x308018 + 0x1000 * ch
/-- DRAM_SCRUB_PASS_CNT (R291). -/
def DRAM_SCRUB_PASS_CNT (ch : Nat) : Nat := 0x30801C + 0x1000 * ch
/-- DRAM_LAST_UNCORR (R291). -/
def DRAM_LAST_UNCORR (ch : Nat) : Nat := 0x308020 + 0x1000 * ch
/-- DRAM_RD_BYTES (R291). -/
def DRAM_RD_BYTES (ch : Nat) : Nat := 0x308028 + 0x1000 * ch
/-- DRAM_WR_BYTES (R291). -/
def DRAM_WR_BYTES (ch : Nat) : Nat := 0x308030 + 0x1000 * ch
/-- DRAM_CNT_CLR (R291). -/
def DRAM_CNT_CLR (ch : Nat) : Nat := 0x308038 + 0x1000 * ch
/-- DMA_CTRL (R292). -/
def DMA_CTRL (e : Nat) : Nat := dmaBase e + 0x0
/-- DMA_STATUS (R292). -/
def DMA_STATUS (e : Nat) : Nat := dmaBase e + 0x4
/-- DMA_BUS_ERR_ADDR (R292). -/
def DMA_BUS_ERR_ADDR (e : Nat) : Nat := dmaBase e + 0x8
/-- DMA_BUS_ERR_INFO (R292). -/
def DMA_BUS_ERR_INFO (e : Nat) : Nat := dmaBase e + 0x10
/-- DMA_EVT_STATUS (R292). -/
def DMA_EVT_STATUS (e : Nat) : Nat := dmaBase e + 0x14
/-- DMA_EVT_SNAP (R292). -/
def DMA_EVT_SNAP (e : Nat) : Nat := dmaBase e + 0x18
/-- DMA_BUS_ERR_CNT (R292). -/
def DMA_BUS_ERR_CNT (e : Nat) : Nat := dmaBase e + 0x20
/-- DMA_DESC_DONE_CNT (R292). -/
def DMA_DESC_DONE_CNT (e : Nat) : Nat := dmaBase e + 0x24
/-- CSM_CORR_CNT (R292). -/
def CSM_CORR_CNT (e : Nat) : Nat := dmaBase e + 0x28
/-- CSM_UNCORR_CNT (R292). -/
def CSM_UNCORR_CNT (e : Nat) : Nat := dmaBase e + 0x2C
/-- CSM_LAST_UNCORR (R292). -/
def CSM_LAST_UNCORR (e : Nat) : Nat := dmaBase e + 0x30
/-- DMA_CNT_CLR (R292). -/
def DMA_CNT_CLR (e : Nat) : Nat := dmaBase e + 0x38
/-- DMA_CH_CFG (R293). -/
def DMA_CH_CFG (e ch : Nat) : Nat := dmaChBase e ch + 0x0
/-- DMA_CH_TOKEN (R293). -/
def DMA_CH_TOKEN (e ch : Nat) : Nat := dmaChBase e ch + 0x4
/-- DMA_CH_START (R293). -/
def DMA_CH_START (e ch : Nat) : Nat := dmaChBase e ch + 0x8
/-- DMA_CH_CTRL (R293). -/
def DMA_CH_CTRL (e ch : Nat) : Nat := dmaChBase e ch + 0x10
/-- DMA_CH_STATUS (R293). -/
def DMA_CH_STATUS (e ch : Nat) : Nat := dmaChBase e ch + 0x14
/-- DMA_CH_CUR (R293). -/
def DMA_CH_CUR (e ch : Nat) : Nat := dmaChBase e ch + 0x18
/-- DMA_CH_DESC_CNT (R293). -/
def DMA_CH_DESC_CNT (e ch : Nat) : Nat := dmaChBase e ch + 0x20
/-- DMA_CH_BYTES (R293). -/
def DMA_CH_BYTES (e ch : Nat) : Nat := dmaChBase e ch + 0x28
/-- CFA_CTRL (R317). -/
def CFA_CTRL : Nat := 0x800000
/-- CFA_HANDOVER (R317). -/
def CFA_HANDOVER : Nat := 0x800004
/-- CFA_BUDGET_CAP (R317). -/
def CFA_BUDGET_CAP : Nat := 0x800008
/-- CFA_BUDGET_USED (R317). -/
def CFA_BUDGET_USED (h : Nat) : Nat := 0x80000C + 0x4 * h
/-- CFA_EVT_STATUS (R317). -/
def CFA_EVT_STATUS : Nat := 0x800014
/-- CFA_EVT_SNAP (R317). -/
def CFA_EVT_SNAP : Nat := 0x800018
/-- CFA_LAST_REJECT (R317). -/
def CFA_LAST_REJECT : Nat := 0x80001C
/-- CFA_CNT_CLR (R317). -/
def CFA_CNT_CLR : Nat := 0x800020
/-- CFA_REJECT_CNT (R317). -/
def CFA_REJECT_CNT : Nat := 0x800024
/-- CFA_MEM_CORR_CNT (R317). -/
def CFA_MEM_CORR_CNT : Nat := 0x800028
/-- CFA_MEM_UNCORR_CNT (R317). -/
def CFA_MEM_UNCORR_CNT : Nat := 0x80002C
/-- CFA_CH_CFG (R318). -/
def CFA_CH_CFG (ch : Nat) : Nat := 0x840000 + 0x100 * ch
/-- CFA_CH_STAGE (R318). -/
def CFA_CH_STAGE (ch n : Nat) : Nat := 0x840004 + 0x100 * ch + 0x4 * n
/-- CFA_CH_DELAY (R318). -/
def CFA_CH_DELAY (ch : Nat) : Nat := 0x840010 + 0x100 * ch
/-- CFA_CH_DET (R318). -/
def CFA_CH_DET (ch : Nat) : Nat := 0x840014 + 0x100 * ch
/-- CFA_CH_PK_THRESH (R318). -/
def CFA_CH_PK_THRESH (ch : Nat) : Nat := 0x840018 + 0x100 * ch
/-- CFA_CH_ENV_THRESH (R318). -/
def CFA_CH_ENV_THRESH (ch : Nat) : Nat := 0x84001C + 0x100 * ch
/-- CFA_CH_BUF (R318). -/
def CFA_CH_BUF (ch : Nat) : Nat := 0x840020 + 0x100 * ch
/-- CFA_CH_BUF_LEN (R318). -/
def CFA_CH_BUF_LEN (ch : Nat) : Nat := 0x840028 + 0x100 * ch
/-- CFA_CH_TOKEN (R318). -/
def CFA_CH_TOKEN (ch : Nat) : Nat := 0x84002C + 0x100 * ch
/-- CFA_CH_READY (R318). -/
def CFA_CH_READY (ch : Nat) : Nat := 0x840030 + 0x100 * ch
/-- CFA_CH_STATUS (R318). -/
def CFA_CH_STATUS (ch : Nat) : Nat := 0x840034 + 0x100 * ch
/-- CFA_CH_COUNT (R318). -/
def CFA_CH_COUNT (ch : Nat) : Nat := 0x840038 + 0x100 * ch
/-- CFA_CH_ROUND_POS (R318). -/
def CFA_CH_ROUND_POS (ch : Nat) : Nat := 0x84003C + 0x100 * ch
/-- CFA_CH_PEAK (R318). -/
def CFA_CH_PEAK (ch : Nat) : Nat := 0x840040 + 0x100 * ch
/-- CFA_CH_RMS (R318). -/
def CFA_CH_RMS (ch : Nat) : Nat := 0x840044 + 0x100 * ch
/-- CFA_CH_ENV (R318). -/
def CFA_CH_ENV (ch : Nat) : Nat := 0x840048 + 0x100 * ch
/-- CFA_CH_SAT_CNT (R318). -/
def CFA_CH_SAT_CNT (ch : Nat) : Nat := 0x840050 + 0x100 * ch
/-- CFA_CH_UNDERRUN_CNT (R318). -/
def CFA_CH_UNDERRUN_CNT (ch : Nat) : Nat := 0x840054 + 0x100 * ch
/-- CFA_CH_DROP_CNT (R318). -/
def CFA_CH_DROP_CNT (ch : Nat) : Nat := 0x840058 + 0x100 * ch
/-- CFA_CH_GAP_CNT (R318). -/
def CFA_CH_GAP_CNT (ch : Nat) : Nat := 0x84005C + 0x100 * ch
/-- CFA_CH_HANDOVER_CNT (R318). -/
def CFA_CH_HANDOVER_CNT (ch : Nat) : Nat := 0x840060 + 0x100 * ch
/-- FHG_CFG (R331). -/
def FHG_CFG (m : Nat) : Nat := 0x508000 + 0x10000 * m
/-- FHG_LATE_TOL (R331). -/
def FHG_LATE_TOL (m : Nat) : Nat := 0x508004 + 0x10000 * m
/-- FHG_TABLE (R331). -/
def FHG_TABLE (m : Nat) : Nat := 0x508008 + 0x10000 * m
/-- FHG_STATUS (R331). -/
def FHG_STATUS (m : Nat) : Nat := 0x508010 + 0x10000 * m
/-- FHG_EVT_STATUS (R331). -/
def FHG_EVT_STATUS (m : Nat) : Nat := 0x508014 + 0x10000 * m
/-- FHG_EVT_SNAP (R331). -/
def FHG_EVT_SNAP (m : Nat) : Nat := 0x508018 + 0x10000 * m
/-- FHG_CNT_CLR (R331). -/
def FHG_CNT_CLR (m : Nat) : Nat := 0x50801C + 0x10000 * m
/-- FHG_SENT_CNT (R331). -/
def FHG_SENT_CNT (m : Nat) : Nat := 0x508020 + 0x10000 * m
/-- FHG_BLANK_CNT (R331). -/
def FHG_BLANK_CNT (m : Nat) : Nat := 0x508024 + 0x10000 * m
/-- FHG_SKIP_CNT (R331). -/
def FHG_SKIP_CNT (m : Nat) : Nat := 0x508028 + 0x10000 * m
/-- FHG_LATE_CNT (R331). -/
def FHG_LATE_CNT (m : Nat) : Nat := 0x50802C + 0x10000 * m
/-- FHG_MISS_CNT (R331). -/
def FHG_MISS_CNT (m : Nat) : Nat := 0x508030 + 0x10000 * m
/-- FHG_ERR_CNT (R331). -/
def FHG_ERR_CNT (m : Nat) : Nat := 0x508034 + 0x10000 * m
/-- LANE_CFG (R367). -/
def LANE_CFG (l : Nat) : Nat := 0x400000 + 0x800 * l
/-- LANE_CTRL (R367). -/
def LANE_CTRL (l : Nat) : Nat := 0x400004 + 0x800 * l
/-- LANE_STATUS (R367). -/
def LANE_STATUS (l : Nat) : Nat := 0x400008 + 0x800 * l
/-- LANE_TLAST_DOWN (R367). -/
def LANE_TLAST_DOWN (l : Nat) : Nat := 0x40000C + 0x800 * l
/-- LANE_TPARTNER_CAPS (R367). -/
def LANE_TPARTNER_CAPS (l n : Nat) : Nat := 0x400010 + 0x800 * l + 0x4 * n
/-- LANE_TCAPS_USER (R367). -/
def LANE_TCAPS_USER (l : Nat) : Nat := 0x400030 + 0x800 * l
/-- LANE_TDELAY (R367). -/
def LANE_TDELAY (l : Nat) : Nat := 0x400038 + 0x800 * l
/-- LANE_TRX_ROUND (R367). -/
def LANE_TRX_ROUND (l : Nat) : Nat := 0x400040 + 0x800 * l
/-- LANE_TPM (R367). -/
def LANE_TPM (l : Nat) : Nat := 0x400048 + 0x800 * l
/-- LANE_TPM_STATUS (R367). -/
def LANE_TPM_STATUS (l : Nat) : Nat := 0x40004C + 0x800 * l
/-- LANE_EQ_MAN (R367). -/
def LANE_EQ_MAN (l : Nat) : Nat := 0x400050 + 0x800 * l
/-- LANE_EQ_STATUS (R367). -/
def LANE_EQ_STATUS (l : Nat) : Nat := 0x400054 + 0x800 * l
/-- LANE_EQ_TBL (R367). -/
def LANE_EQ_TBL (l i : Nat) : Nat := 0x400060 + 0x800 * l + 0x4 * i
/-- LANE_TCTL_RX_BASE (R367). -/
def LANE_TCTL_RX_BASE (l : Nat) : Nat := 0x400090 + 0x800 * l
/-- LANE_TCTL_TX_BASE (R367). -/
def LANE_TCTL_TX_BASE (l : Nat) : Nat := 0x400098 + 0x800 * l
/-- LANE_TCTL_PTR (R367). -/
def LANE_TCTL_PTR (l : Nat) : Nat := 0x4000A0 + 0x800 * l
/-- LANE_TCTL_TOKEN (R367). -/
def LANE_TCTL_TOKEN (l : Nat) : Nat := 0x4000A4 + 0x800 * l
/-- LANE_EVT_STATUS (R367). -/
def LANE_EVT_STATUS (l : Nat) : Nat := 0x4000B0 + 0x800 * l
/-- LANE_EVT_SNAP (R367). -/
def LANE_EVT_SNAP (l : Nat) : Nat := 0x4000B4 + 0x800 * l
/-- LANE_CNT_CLR (R367). -/
def LANE_CNT_CLR (l : Nat) : Nat := 0x4000B8 + 0x800 * l
/-- LANE_TDETECT_CNT (R367). -/
def LANE_TDETECT_CNT (l : Nat) : Nat := 0x4000C0 + 0x800 * l
/-- LANE_TDOWN_CNT (R367). -/
def LANE_TDOWN_CNT (l : Nat) : Nat := 0x4000C4 + 0x800 * l
/-- LANE_TSTEPFAIL_CNT (R367). -/
def LANE_TSTEPFAIL_CNT (l : Nat) : Nat := 0x4000C8 + 0x800 * l
/-- LANE_TCRC_CNT (R367). -/
def LANE_TCRC_CNT (l : Nat) : Nat := 0x4000CC + 0x800 * l
/-- LANE_TCV_CNT (R367). -/
def LANE_TCV_CNT (l : Nat) : Nat := 0x4000D0 + 0x800 * l
/-- LANE_TSHORT_CNT (R367). -/
def LANE_TSHORT_CNT (l : Nat) : Nat := 0x4000D4 + 0x800 * l
/-- LANE_TCTL_DROP_CNT (R367). -/
def LANE_TCTL_DROP_CNT (l : Nat) : Nat := 0x4000D8 + 0x800 * l
/-- LANE_TCTL_ERR_CNT (R367). -/
def LANE_TCTL_ERR_CNT (l : Nat) : Nat := 0x4000DC + 0x800 * l
/-- LANE_ETH_AN_FAIL_CNT (R367). -/
def LANE_ETH_AN_FAIL_CNT (l : Nat) : Nat := 0x4000E0 + 0x800 * l
/-- LANE_TSTREAM (R367). -/
def LANE_TSTREAM (l s : Nat) : Nat := 0x400100 + 0x800 * l + 0x4 * s
/-- LANE_QUAD_CFG (R367). -/
def LANE_QUAD_CFG (q : Nat) : Nat := 0x410000 + 0x40 * q
/-- LANE_QUAD_STATUS (R367). -/
def LANE_QUAD_STATUS (q : Nat) : Nat := 0x410004 + 0x40 * q
/-- MAC_CFG (R406). -/
def MAC_CFG (m : Nat) : Nat := macBase m + 0x0
/-- MAC_STATUS (R406). -/
def MAC_STATUS (m : Nat) : Nat := macBase m + 0x4
/-- MAC_ADDR (R406). -/
def MAC_ADDR (m : Nat) : Nat := macBase m + 0x8
/-- MAC_RX_CFG (R406). -/
def MAC_RX_CFG (m : Nat) : Nat := macBase m + 0x10
/-- MAC_RXQ_TABLE (R406). -/
def MAC_RXQ_TABLE (m : Nat) : Nat := macBase m + 0x18
/-- MAC_RXQ_RESET (R406). -/
def MAC_RXQ_RESET (m : Nat) : Nat := macBase m + 0x20
/-- MAC_TX_CFG (R406). -/
def MAC_TX_CFG (m : Nat) : Nat := macBase m + 0x24
/-- MAC_TX_TOKEN (R406). -/
def MAC_TX_TOKEN (m : Nat) : Nat := macBase m + 0x28
/-- MAC_TXQ_BASE (R406). -/
def MAC_TXQ_BASE (m q : Nat) : Nat := macBase m + 0x40 + 0x8 * q
/-- MAC_TXQ_PTR (R406). -/
def MAC_TXQ_PTR (m q : Nat) : Nat := macBase m + 0x80 + 0x4 * q
/-- MAC_PRE_CFG (R406). -/
def MAC_PRE_CFG (m : Nat) : Nat := macBase m + 0xA0
/-- MAC_PAUSE_CFG (R406). -/
def MAC_PAUSE_CFG (m : Nat) : Nat := macBase m + 0xA4
/-- MAC_PAUSE_THR (R406). -/
def MAC_PAUSE_THR (m : Nat) : Nat := macBase m + 0xA8
/-- MAC_EEE_CFG (R406). -/
def MAC_EEE_CFG (m : Nat) : Nat := macBase m + 0xAC
/-- MAC_TS_CFG (R406). -/
def MAC_TS_CFG (m : Nat) : Nat := macBase m + 0xB0
/-- MAC_TS_ADJ (R406). -/
def MAC_TS_ADJ (m : Nat) : Nat := macBase m + 0xB8
/-- MAC_EVT_STATUS (R406). -/
def MAC_EVT_STATUS (m : Nat) : Nat := macBase m + 0xC0
/-- MAC_EVT_SNAP (R406). -/
def MAC_EVT_SNAP (m : Nat) : Nat := macBase m + 0xC4
/-- MAC_CNT_CLR (R406). -/
def MAC_CNT_CLR (m : Nat) : Nat := macBase m + 0xC8
/-- MAC_RX_BYTES (R406). -/
def MAC_RX_BYTES (m : Nat) : Nat := macBase m + 0x100
/-- MAC_TX_BYTES (R406). -/
def MAC_TX_BYTES (m : Nat) : Nat := macBase m + 0x108
/-- MAC_RX_FRAMES_CNT (R406). -/
def MAC_RX_FRAMES_CNT (m : Nat) : Nat := macBase m + 0x110
/-- MAC_TX_FRAMES_CNT (R406). -/
def MAC_TX_FRAMES_CNT (m : Nat) : Nat := macBase m + 0x114
/-- MAC_RX_RUNT_CNT (R406). -/
def MAC_RX_RUNT_CNT (m : Nat) : Nat := macBase m + 0x118
/-- MAC_RX_OVERSIZE_CNT (R406). -/
def MAC_RX_OVERSIZE_CNT (m : Nat) : Nat := macBase m + 0x11C
/-- MAC_RX_FCS_CNT (R406). -/
def MAC_RX_FCS_CNT (m : Nat) : Nat := macBase m + 0x120
/-- MAC_RX_DROP_FULL_CNT (R406). -/
def MAC_RX_DROP_FULL_CNT (m : Nat) : Nat := macBase m + 0x124
/-- MAC_RX_DROP_NOQ_CNT (R406). -/
def MAC_RX_DROP_NOQ_CNT (m : Nat) : Nat := macBase m + 0x128
/-- MAC_RX_DROP_ADDR_CNT (R406). -/
def MAC_RX_DROP_ADDR_CNT (m : Nat) : Nat := macBase m + 0x12C
/-- MAC_RX_DROP_SLOT_CNT (R406). -/
def MAC_RX_DROP_SLOT_CNT (m : Nat) : Nat := macBase m + 0x130
/-- MAC_RX_PAUSE_CNT (R406). -/
def MAC_RX_PAUSE_CNT (m : Nat) : Nat := macBase m + 0x134
/-- MAC_TX_PAUSE_CNT (R406). -/
def MAC_TX_PAUSE_CNT (m : Nat) : Nat := macBase m + 0x138
/-- MAC_TX_DROP_CNT (R406). -/
def MAC_TX_DROP_CNT (m : Nat) : Nat := macBase m + 0x13C
/-- MAC_PRE_FRAG_TX_CNT (R406). -/
def MAC_PRE_FRAG_TX_CNT (m : Nat) : Nat := macBase m + 0x140
/-- MAC_PRE_ERR_CNT (R406). -/
def MAC_PRE_ERR_CNT (m : Nat) : Nat := macBase m + 0x144
/-- MAC_LPI_TX_CNT (R406). -/
def MAC_LPI_TX_CNT (m : Nat) : Nat := macBase m + 0x148
/-- MAC_LPI_RX_CNT (R406). -/
def MAC_LPI_RX_CNT (m : Nat) : Nat := macBase m + 0x14C
/-- MAC_RULE_MATCH (R406). -/
def MAC_RULE_MATCH (m i : Nat) : Nat := macBase m + 0x400 + 0x10 * i
/-- MAC_RULE_ACT (R406). -/
def MAC_RULE_ACT (m i : Nat) : Nat := macBase m + 0x408 + 0x10 * i
/-- TIME_CTRL (R407). -/
def TIME_CTRL : Nat := 0x600000
/-- TIME_STATUS (R407). -/
def TIME_STATUS : Nat := 0x600004
/-- TIME_NOW_SEC (R407). -/
def TIME_NOW_SEC : Nat := 0x600008
/-- TIME_NOW_SUB (R407). -/
def TIME_NOW_SUB : Nat := 0x600010
/-- TIME_LOAD_SEC (R407). -/
def TIME_LOAD_SEC : Nat := 0x600018
/-- TIME_LOAD_SUB (R407). -/
def TIME_LOAD_SUB : Nat := 0x600020
/-- TIME_INC (R407). -/
def TIME_INC : Nat := 0x600028
/-- TIME_SLEW_INC (R407). -/
def TIME_SLEW_INC : Nat := 0x600030
/-- TIME_SLEW_CNT (R407). -/
def TIME_SLEW_CNT : Nat := 0x600038
/-- TIME_STEP (R407). -/
def TIME_STEP : Nat := 0x600040
/-- TIME_LAST_STEP (R407). -/
def TIME_LAST_STEP : Nat := 0x600048
/-- TIME_CAP_SEC (R407). -/
def TIME_CAP_SEC (n : Nat) : Nat := 0x600050 + 0x10 * n
/-- TIME_CAP_SUB (R407). -/
def TIME_CAP_SUB (n : Nat) : Nat := 0x600058 + 0x10 * n
/-- TIME_EVT_STATUS (R407). -/
def TIME_EVT_STATUS : Nat := 0x600070
/-- TIME_EVT_SNAP (R407). -/
def TIME_EVT_SNAP : Nat := 0x600074
/-- TIME_CNT_CLR (R407). -/
def TIME_CNT_CLR : Nat := 0x600078
/-- TIME_STEP_CNT (R407). -/
def TIME_STEP_CNT : Nat := 0x600080
/-- TIME_STEP_REJ_CNT (R407). -/
def TIME_STEP_REJ_CNT : Nat := 0x600084
/-- TIME_TRIG_MISS_CNT (R407). -/
def TIME_TRIG_MISS_CNT : Nat := 0x600088
/-- TIME_CAP_CNT (R407). -/
def TIME_CAP_CNT (n : Nat) : Nat := 0x60008C + 0x4 * n
/-- TIME_TRIG_CFG (R407). -/
def TIME_TRIG_CFG (n : Nat) : Nat := 0x600100 + 0x20 * n
/-- TIME_TRIG_STATUS (R407). -/
def TIME_TRIG_STATUS (n : Nat) : Nat := 0x600104 + 0x20 * n
/-- TIME_TRIG_START_SEC (R407). -/
def TIME_TRIG_START_SEC (n : Nat) : Nat := 0x600108 + 0x20 * n
/-- TIME_TRIG_START_SUB (R407). -/
def TIME_TRIG_START_SUB (n : Nat) : Nat := 0x600110 + 0x20 * n
/-- TIME_TRIG_PERIOD (R407). -/
def TIME_TRIG_PERIOD (n : Nat) : Nat := 0x600118 + 0x20 * n
/-- LINE_CFG (R432). -/
def LINE_CFG : Nat := 0x700000
/-- LINE_DET_THRESH (R432). -/
def LINE_DET_THRESH : Nat := 0x700004
/-- LINE_DET_CFG (R432). -/
def LINE_DET_CFG : Nat := 0x700008
/-- LINE_EVT_STATUS (R432). -/
def LINE_EVT_STATUS : Nat := 0x700010
/-- LINE_EVT_SNAP (R432). -/
def LINE_EVT_SNAP : Nat := 0x700014
/-- LINE_CNT_CLR (R432). -/
def LINE_CNT_CLR : Nat := 0x700018
/-- LINE_REASM_ERR_CNT (R432). -/
def LINE_REASM_ERR_CNT : Nat := 0x700020
/-- LINE_FRAG_TX_CNT (R432). -/
def LINE_FRAG_TX_CNT : Nat := 0x700024
/-- LINE_FRAG_RX_CNT (R432). -/
def LINE_FRAG_RX_CNT : Nat := 0x700028
/-- LINE_GRP_CFG (R432). -/
def LINE_GRP_CFG (g : Nat) : Nat := 0x700040 + 0x4 * g
/-- LINE_PAIR_CFG (R433). -/
def LINE_PAIR_CFG (p : Nat) : Nat := 0x701000 + 0x100 * p
/-- LINE_PAIR_CTRL (R433). -/
def LINE_PAIR_CTRL (p : Nat) : Nat := 0x701004 + 0x100 * p
/-- LINE_PAIR_STATUS (R433). -/
def LINE_PAIR_STATUS (p : Nat) : Nat := 0x701008 + 0x100 * p
/-- LINE_PAIR_SNR (R433). -/
def LINE_PAIR_SNR (p : Nat) : Nat := 0x70100C + 0x100 * p
/-- LINE_DET_CNT (R433). -/
def LINE_DET_CNT (p : Nat) : Nat := 0x701020 + 0x100 * p
/-- LINE_FALSE_CNT (R433). -/
def LINE_FALSE_CNT (p : Nat) : Nat := 0x701024 + 0x100 * p
/-- LINE_REACQ_CNT (R433). -/
def LINE_REACQ_CNT (p : Nat) : Nat := 0x701028 + 0x100 * p
/-- LINE_CAPTURE_CNT (R433). -/
def LINE_CAPTURE_CNT (p : Nat) : Nat := 0x70102C + 0x100 * p
/-- LINE_ID_CNT (R433). -/
def LINE_ID_CNT (p : Nat) : Nat := 0x701030 + 0x100 * p
/-- LINE_BURST_CNT (R433). -/
def LINE_BURST_CNT (p : Nat) : Nat := 0x701034 + 0x100 * p
/-- LINE_CW_UNCORR_CNT (R433). -/
def LINE_CW_UNCORR_CNT (p : Nat) : Nat := 0x701038 + 0x100 * p
/-- LINE_DOWN_CNT (R433). -/
def LINE_DOWN_CNT (p : Nat) : Nat := 0x70103C + 0x100 * p
/-- SEC_BOOT_STATUS (R464). -/
def SEC_BOOT_STATUS : Nat := 0xB00000
/-- SEC_RESET_CAUSE (R464). -/
def SEC_RESET_CAUSE : Nat := 0xB00004
/-- SEC_FUSE_POLICY (R464). -/
def SEC_FUSE_POLICY : Nat := 0xB00008
/-- SEC_IMAGE_INFO (R464). -/
def SEC_IMAGE_INFO : Nat := 0xB0000C
/-- SEC_SERIAL (R464). -/
def SEC_SERIAL : Nat := 0xB00010
/-- SEC_HOST_POLICY (R464). -/
def SEC_HOST_POLICY : Nat := 0xB00018
/-- SEC_HOST_DRAM (R464). -/
def SEC_HOST_DRAM : Nat := 0xB00020
/-- SEC_MGMT_CFG (R464). -/
def SEC_MGMT_CFG : Nat := 0xB00028
/-- SEC_MBOX_CTRL (R464). -/
def SEC_MBOX_CTRL : Nat := 0xB00030
/-- SEC_MBOX_STATUS (R464). -/
def SEC_MBOX_STATUS : Nat := 0xB00034
/-- SEC_LAST_CMD (R464). -/
def SEC_LAST_CMD : Nat := 0xB00038
/-- SEC_EVT_STATUS (R464). -/
def SEC_EVT_STATUS : Nat := 0xB00040
/-- SEC_EVT_SNAP (R464). -/
def SEC_EVT_SNAP : Nat := 0xB00044
/-- SEC_CNT_CLR (R464). -/
def SEC_CNT_CLR : Nat := 0xB00048
/-- SEC_CMD_OK_CNT (R464). -/
def SEC_CMD_OK_CNT : Nat := 0xB00050
/-- SEC_TAG_FAIL_CNT (R464). -/
def SEC_TAG_FAIL_CNT : Nat := 0xB00054
/-- SEC_STALE_CNT (R464). -/
def SEC_STALE_CNT : Nat := 0xB00058
/-- SEC_REJECT_CNT (R464). -/
def SEC_REJECT_CNT : Nat := 0xB0005C
/-- SEC_UART_ERR_CNT (R464). -/
def SEC_UART_ERR_CNT : Nat := 0xB00060
/-- SEC_EXEC_ERR_CNT (R464). -/
def SEC_EXEC_ERR_CNT : Nat := 0xB00064
/-- SEC_MBOX_REQ (R464). -/
def SEC_MBOX_REQ (i : Nat) : Nat := 0xB01000 + 0x4 * i
/-- SEC_MBOX_RSP (R464). -/
def SEC_MBOX_RSP (i : Nat) : Nat := 0xB02000 + 0x4 * i
/-- PCIE_LINK_STATUS (R465). -/
def PCIE_LINK_STATUS : Nat := 0xE00000
/-- PCIE_FWIN_BASE (R465). -/
def PCIE_FWIN_BASE : Nat := 0xE00008
/-- PCIE_EVT_STATUS (R465). -/
def PCIE_EVT_STATUS : Nat := 0xE00010
/-- PCIE_EVT_SNAP (R465). -/
def PCIE_EVT_SNAP : Nat := 0xE00014
/-- PCIE_CNT_CLR (R465). -/
def PCIE_CNT_CLR : Nat := 0xE00018
/-- PCIE_HOST_REFUSED_CNT (R465). -/
def PCIE_HOST_REFUSED_CNT : Nat := 0xE00020
/-- PCIE_MSIX_DROP_CNT (R465). -/
def PCIE_MSIX_DROP_CNT : Nat := 0xE00024
/-- PCIE_LINK_DOWN_CNT (R465). -/
def PCIE_LINK_DOWN_CNT : Nat := 0xE00028
/-- PWR_STATUS (R497). -/
def PWR_STATUS : Nat := 0xA00000
/-- PWR_CAP (R497). -/
def PWR_CAP : Nat := 0xA00004
/-- PWR_SHED_CFG (R497). -/
def PWR_SHED_CFG : Nat := 0xA00008
/-- PWR_THERM (R497). -/
def PWR_THERM : Nat := 0xA0000C
/-- PWR_SHED_CLU (R497). -/
def PWR_SHED_CLU : Nat := 0xA00010
/-- PWR_IO_REQ (R497). -/
def PWR_IO_REQ : Nat := 0xA00014
/-- PWR_SHED_ACC (R497). -/
def PWR_SHED_ACC : Nat := 0xA00018
/-- PWR_INPUT (R497). -/
def PWR_INPUT : Nat := 0xA00020
/-- PWR_WAKE_SOURCE (R497). -/
def PWR_WAKE_SOURCE : Nat := 0xA00028
/-- PWR_FAULT (R497). -/
def PWR_FAULT : Nat := 0xA00030
/-- PWR_EVT_STATUS (R497). -/
def PWR_EVT_STATUS : Nat := 0xA00034
/-- PWR_EVT_SNAP (R497). -/
def PWR_EVT_SNAP : Nat := 0xA00038
/-- PWR_CNT_CLR (R497). -/
def PWR_CNT_CLR : Nat := 0xA0003C
/-- PWR_WAKE_RETRY_CNT (R497). -/
def PWR_WAKE_RETRY_CNT : Nat := 0xA00040
/-- PWR_WAKE_FAIL_CNT (R497). -/
def PWR_WAKE_FAIL_CNT : Nat := 0xA00044
/-- PWR_CR_CORR_CNT (R497). -/
def PWR_CR_CORR_CNT : Nat := 0xA00048
/-- PWR_CR_UNCORR_CNT (R497). -/
def PWR_CR_UNCORR_CNT : Nat := 0xA0004C
/-- PWR_MODE (R497). -/
def PWR_MODE (n : Nat) : Nat := 0xA01000 + 0x4 * n
/-- PWR_CLU_REQ (R497). -/
def PWR_CLU_REQ (c : Nat) : Nat := 0xA01800 + 0x4 * c
/-- PWR_ACC_REQ (R497). -/
def PWR_ACC_REQ (k : Nat) : Nat := 0xA01900 + 0x4 * k
/-- PWR_CLU_STATUS (R497). -/
def PWR_CLU_STATUS (c : Nat) : Nat := 0xA01880 + 0x4 * c
/-- PWR_ACC_STATUS (R497). -/
def PWR_ACC_STATUS (k : Nat) : Nat := 0xA01A00 + 0x4 * k
/-- HKC_CTRL (R498). -/
def HKC_CTRL : Nat := 0x900000
/-- HKC_OUT_STATUS (R498). -/
def HKC_OUT_STATUS : Nat := 0x900008
/-- HKC_OCD_CFG (R498). -/
def HKC_OCD_CFG : Nat := 0x90000C
/-- HKC_EVT_STATUS (R498). -/
def HKC_EVT_STATUS : Nat := 0x900010
/-- HKC_EVT_SNAP (R498). -/
def HKC_EVT_SNAP : Nat := 0x900014
/-- HKC_CNT_CLR (R498). -/
def HKC_CNT_CLR : Nat := 0x900018
/-- HKC_PASS_CNT (R498). -/
def HKC_PASS_CNT : Nat := 0x900020
/-- HKC_URGENT_CNT (R498). -/
def HKC_URGENT_CNT : Nat := 0x900024
/-- HKC_OCD_CNT (R498). -/
def HKC_OCD_CNT : Nat := 0x900028
/-- HKC_OVERRUN_CNT (R498). -/
def HKC_OVERRUN_CNT : Nat := 0x90002C
/-- HKC_SEQ (R498). -/
def HKC_SEQ (n : Nat) : Nat := 0x900100 + 0x4 * n
/-- HKC_WIN (R498). -/
def HKC_WIN (n : Nat) : Nat := 0x900180 + 0x4 * n
/-- HKC_RESULT (R498). -/
def HKC_RESULT (n : Nat) : Nat := 0x900200 + 0x4 * n
/-- HKC_URGENT_CFG (R498). -/
def HKC_URGENT_CFG (u : Nat) : Nat := 0x900300 + 0x8 * u
/-- HKC_URGENT_RESULT (R498). -/
def HKC_URGENT_RESULT (u : Nat) : Nat := 0x900304 + 0x8 * u
/-- SPARE_CFG (R525). -/
def SPARE_CFG : Nat := 0xC00000
/-- SPARE_THRESH (R525). -/
def SPARE_THRESH : Nat := 0xC00004
/-- SPARE_STATUS (R525). -/
def SPARE_STATUS : Nat := 0xC00008
/-- SPARE_REQ (R525). -/
def SPARE_REQ : Nat := 0xC00010
/-- SPARE_BIST (R525). -/
def SPARE_BIST : Nat := 0xC00014
/-- SPARE_BIST_RESULT (R525). -/
def SPARE_BIST_RESULT : Nat := 0xC00018
/-- SPARE_LAST_SWAP (R525). -/
def SPARE_LAST_SWAP : Nat := 0xC00020
/-- SPARE_EVT_STATUS (R525). -/
def SPARE_EVT_STATUS : Nat := 0xC00028
/-- SPARE_EVT_SNAP (R525). -/
def SPARE_EVT_SNAP : Nat := 0xC0002C
/-- SPARE_CNT_CLR (R525). -/
def SPARE_CNT_CLR : Nat := 0xC00030
/-- SPARE_SWAP_CNT (R525). -/
def SPARE_SWAP_CNT : Nat := 0xC00040
/-- SPARE_ROW_CNT (R525). -/
def SPARE_ROW_CNT : Nat := 0xC00044
/-- SPARE_WIRE_CNT (R525). -/
def SPARE_WIRE_CNT : Nat := 0xC00048
/-- SPARE_BIST_FAIL_CNT (R525). -/
def SPARE_BIST_FAIL_CNT : Nat := 0xC0004C
/-- SPARE_ENG_MAP (R525). -/
def SPARE_ENG_MAP (c : Nat) : Nat := 0xC00100 + 0x8 * c
/-- SPARE_AGE_CLU (R525). -/
def SPARE_AGE_CLU (c : Nat) : Nat := 0xC00200 + 0x4 * c
/-- SPARE_AGE_ACC (R525). -/
def SPARE_AGE_ACC (k : Nat) : Nat := 0xC00300 + 0x4 * k
/-- SPARE_LINK_WIRES (R525). -/
def SPARE_LINK_WIRES (n : Nat) : Nat := 0xC00500 + 0x4 * n
/-- SPARE_LOOP_LANE (R525). -/
def SPARE_LOOP_LANE (l : Nat) : Nat := 0xC00800 + 0x4 * l
/-- SPARE_PRBS_ERR (R525). -/
def SPARE_PRBS_ERR (l : Nat) : Nat := 0xC00880 + 0x4 * l
/-- SPARE_LOOP_MAC (R525). -/
def SPARE_LOOP_MAC : Nat := 0xC00900
/-- SPARE_LOOP_LINE (R525). -/
def SPARE_LOOP_LINE : Nat := 0xC00904
/-- SPARE_LOOP_TIME (R525). -/
def SPARE_LOOP_TIME : Nat := 0xC00908
/-- REC_CTRL (R526). -/
def REC_CTRL : Nat := 0xD00000
/-- REC_CFG (R526). -/
def REC_CFG : Nat := 0xD00004
/-- REC_RING (R526). -/
def REC_RING : Nat := 0xD00008
/-- REC_SRC_MAC (R526). -/
def REC_SRC_MAC : Nat := 0xD00010
/-- REC_SRC_LANE (R526). -/
def REC_SRC_LANE : Nat := 0xD00014
/-- REC_SRC (R526). -/
def REC_SRC : Nat := 0xD00018
/-- REC_TRIG_CFG (R526). -/
def REC_TRIG_CFG : Nat := 0xD0001C
/-- REC_STATUS (R526). -/
def REC_STATUS : Nat := 0xD00020
/-- REC_WR (R526). -/
def REC_WR : Nat := 0xD00028
/-- REC_TRIG_POS (R526). -/
def REC_TRIG_POS : Nat := 0xD00030
/-- REC_CAP_WR (R526). -/
def REC_CAP_WR : Nat := 0xD00038
/-- REC_EVT_STATUS (R526). -/
def REC_EVT_STATUS : Nat := 0xD00040
/-- REC_EVT_SNAP (R526). -/
def REC_EVT_SNAP : Nat := 0xD00044
/-- REC_CNT_CLR (R526). -/
def REC_CNT_CLR : Nat := 0xD00048
/-- REC_RECORD_CNT (R526). -/
def REC_RECORD_CNT : Nat := 0xD00050
/-- REC_DROP_CNT (R526). -/
def REC_DROP_CNT : Nat := 0xD00054
/-- REC_CAPTURE_CNT (R526). -/
def REC_CAPTURE_CNT : Nat := 0xD00058
/-- REC_DIVERGE_CNT (R526). -/
def REC_DIVERGE_CNT : Nat := 0xD0005C
/-- CFA_COEF (R319). -/
def CFA_COEF (s i : Nat) : Nat := 0x880000 + 0x800 * s + 0x4 * i
/-- PCIE_MSIX (R465). -/
def PCIE_MSIX (v w : Nat) : Nat := 0xE10000 + 0x10 * v + 0x8 * w
/-- PCIE_PBA (R465). -/
def PCIE_PBA (w : Nat) : Nat := 0xE18000 + 0x8 * w

end Sys2Proof.Machine.Reg
end

