-- ==== Sys2Proof/Machine/RegTable.lean ====
section
/-! DEFINITION. The register cards of the manual as a table (R10 to R16): offset, instances, width, reset value, and
for each access type and commit class the mask of the bits that have it. -/
namespace Sys2Proof.Machine

/-- One register card. `dims` are (stride, count) pairs, outermost first. `rw`, `w1c` and `wo` are the bits a write acts on,
`cm` the bits that are committed (/C), `sm` the bits that are snapshots (/S). `clr`, for a counter, is the offset of the counter
clear of its block and how many of the outer `dims` that register shares (R36). -/
structure RegDesc where
  off : Nat
  dims : List (Nat × Nat)
  wide : Bool
  reset : Nat
  rw : Nat
  w1c : Nat
  wo : Nat
  cm : Nat
  sm : Nat
  clr : Option (Nat × Nat)
deriving DecidableEq, Repr

/-- Cards: DEV_ID to DEV_SCRATCH. IMAGE of DEV_STATUS resets per boot: before the Starter sets it, and in recovery, the manual names no value and
it reads 0 (DESIGN CHOICE, log 66). -/
def devRegs : List RegDesc := [
  ⟨0x0, [], false, 0x51200B00, 0x0, 0x0, 0x0, 0x0, 0x0, none⟩,  -- DEV_ID
  ⟨0x4, [], false, 0x0, 0x1, 0x0, 0x0, 0x1, 0x0, none⟩,  -- DEV_CTRL
  ⟨0x8, [], false, 0x0, 0x0, 0x0, 0x0, 0x0, 0xF, none⟩,  -- DEV_STATUS
  ⟨0xC, [], false, 0x0, 0xFFFFFFFF, 0x0, 0x0, 0x0, 0x0, none⟩]  -- DEV_SCRATCH

/-- Cards: ROUND_CTRL to ROUND_STRETCH_CNT. -/
def roundRegs1 : List RegDesc := [
  ⟨0x10000, [], false, 0x0, 0x1, 0x0, 0x2, 0x0, 0x0, none⟩,  -- ROUND_CTRL
  ⟨0x10004, [], false, 0x1, 0x7, 0x0, 0x0, 0x0, 0x0, none⟩,  -- ROUND_CFG
  ⟨0x10008, [], false, 0x0, 0x0, 0x0, 0x0, 0x0, 0x0, none⟩,  -- ROUND_STATUS
  ⟨0x10010, [], true, 0x0, 0xFFFFFFFFFFFF, 0x0, 0x0, 0x0, 0x0, none⟩,  -- ROUND_EPOCH_SEC
  ⟨0x10018, [], false, 0x0, 0x3FFFFFFF, 0x0, 0x0, 0x0, 0x0, none⟩,  -- ROUND_EPOCH_NS
  ⟨0x10020, [], true, 0x0, 0x0, 0x0, 0x0, 0x0, 0x0, none⟩,  -- ROUND_NOW
  ⟨0x10028, [], true, 0x0, 0x0, 0x0, 0x0, 0x0, 0xFFFFFFFFFFFFFFFF, none⟩,  -- ROUND_SNAP_ROUND
  ⟨0x10030, [], true, 0xFFFFFFFFFFFFFFFF, 0x0, 0x0, 0x0, 0x0, 0x0, none⟩,  -- SHADOW_STAMP
  ⟨0x10038, [], true, 0x0, 0x0, 0x0, 0x0, 0x0, 0xFFFFFFFFFFFFFFFF, none⟩,  -- ROUND_OFFSET
  ⟨0x10040, [], true, 0x0, 0x0, 0x0, 0x0, 0x0, 0xFFFFFFFFFFFF, none⟩,  -- ROUND_START_SEC
  ⟨0x10048, [], false, 0x0, 0x0, 0x0, 0x0, 0x0, 0x3FFFFFFF, none⟩,  -- ROUND_START_NS
  ⟨0x1004C, [], false, 0x0, 0x0, 0x0, 0x0, 0x0, 0xFFFF, none⟩,  -- ROUND_START_FRAC
  ⟨0x10050, [], false, 0x0, 0xF, 0x0, 0x0, 0xF, 0x0, none⟩,  -- ROUND_PLAN
  ⟨0x10054, [], false, 0x0, 0xFFFF, 0x0, 0x0, 0xFFFF, 0x0, none⟩,  -- ROUND_OVR_POLICY
  ⟨0x10058, [], false, 0x0, 0x0, 0xFF, 0x0, 0x0, 0x0, none⟩,  -- ROUND_OVR_HALTED
  ⟨0x1005C, [], false, 0x0, 0x0, 0x1FF, 0x0, 0x0, 0x0, none⟩,  -- ROUND_EVT_STATUS
  ⟨0x10060, [], false, 0x0, 0x0, 0x0, 0x0, 0x0, 0x1FF, none⟩,  -- ROUND_EVT_SNAP
  ⟨0x10064, [], false, 0x0, 0x0, 0x0, 0x1, 0x1, 0x0, none⟩,  -- ROUND_CNT_CLR
  ⟨0x10068, [], false, 0x0, 0x0, 0x0, 0x0, 0x0, 0xFFFFFFFF, some (0x10064, 0)⟩,  -- ROUND_MISSED_CNT
  ⟨0x1006C, [], false, 0x0, 0x0, 0x0, 0x0, 0x0, 0xFFFFFFFF, some (0x10064, 0)⟩]  -- ROUND_STRETCH_CNT

/-- Cards: ROUND_REALIGN_CNT to ROUND_PLAN_BASE. -/
def roundRegs2 : List RegDesc := [
  ⟨0x10070, [], false, 0x0, 0x0, 0x0, 0x0, 0x0, 0xFFFFFFFF, some (0x10064, 0)⟩,  -- ROUND_REALIGN_CNT
  ⟨0x10074, [], false, 0x0, 0x0, 0x0, 0x0, 0x0, 0xFFFFFFFF, some (0x10064, 0)⟩,  -- ROUND_BLANK_CNT
  ⟨0x10078, [], false, 0x0, 0x0, 0x0, 0x0, 0x0, 0xFFFFFFFF, some (0x10064, 0)⟩,  -- ROUND_PLAN_LATE_CNT
  ⟨0x1007C, [], false, 0x0, 0x0, 0x0, 0x0, 0x0, 0xFFFFFFFF, some (0x10064, 0)⟩,  -- ROUND_PLAN_ERR_CNT
  ⟨0x10080, [(0x4, 8)], false, 0x0, 0x0, 0x0, 0x0, 0x0, 0xFFFFFFFF, some (0x10064, 0)⟩,  -- ROUND_OVR_CNT
  ⟨0x100A0, [(0x8, 8)], true, 0x0, 0x1FFFFFFFFFFFFFC0, 0x0, 0x0, 0x1FFFFFFFFFFFFFC0, 0x0, none⟩]  -- ROUND_PLAN_BASE

/-- The cards of the round block. -/
def roundRegs : List RegDesc := roundRegs1 ++ roundRegs2

/-- Cards: EVT_STATUS to EVT_ROUTE. -/
def evtRegs : List RegDesc := [
  ⟨0x20000, [], false, 0x0, 0x0, 0x0, 0x0, 0x0, 0x0, none⟩,  -- EVT_STATUS
  ⟨0x20004, [], false, 0x0, 0x0, 0x0, 0x1, 0x1, 0x0, none⟩,  -- EVT_CNT_CLR
  ⟨0x20010, [], false, 0x0, 0x0, 0x0, 0x0, 0x0, 0xFFFFFFFF, some (0x20004, 0)⟩,  -- EVT_DELIVER_CNT
  ⟨0x20014, [], false, 0x0, 0x0, 0x0, 0x0, 0x0, 0xFFFFFFFF, some (0x20004, 0)⟩,  -- EVT_DROP_CNT
  ⟨0x20018, [], false, 0x0, 0x0, 0x0, 0x0, 0x0, 0xFFFFFFFF, some (0x20004, 0)⟩,  -- EVT_MISROUTE_CNT
  ⟨0x21000, [(0x4, 4096)], false, 0x0, 0xFFFFFFFF, 0x0, 0x0, 0xFFFFFFFF, 0x0, none⟩]  -- EVT_ROUTE

/-- Cards: CHURN_CTRL to CHURN_LATE_CNT. -/
def churnRegs1 : List RegDesc := [
  ⟨0x100000, [(0x10000, 8)], false, 0x1, 0x3FC1, 0x0, 0x0, 0x3FC1, 0x0, none⟩,  -- CHURN_CTRL
  ⟨0x100004, [(0x10000, 8)], false, 0x0, 0x0, 0x80000000, 0x0, 0x0, 0x3FFF00FF, none⟩,  -- CHURN_STATUS
  ⟨0x100008, [(0x10000, 8)], false, 0x0, 0x0, 0x0, 0xF0001FFF, 0x0, 0x0, none⟩,  -- CHURN_CMD
  ⟨0x10000C, [(0x10000, 8)], false, 0x0, 0x0, 0x0, 0x0, 0x0, 0x0, none⟩,  -- CHURN_CMD_STATUS
  ⟨0x100010, [(0x10000, 8), (0x4, 8)], false, 0x0, 0xFFFFFFFF, 0x0, 0x0, 0x0, 0x0, none⟩,  -- CHURN_CTX_DATA
  ⟨0x100040, [(0x10000, 8)], true, 0x0, 0x0, 0x0, 0xFFFFFFFFFFFFFFFF, 0x0, 0x0, none⟩,  -- CHURN_MSG
  ⟨0x100048, [(0x10000, 8)], true, 0xFFFFFFFFFFFFFFFF, 0xFFFFFFFFFFFFFFFF, 0x0, 0x0, 0xFFFFFFFFFFFFFFFF, 0x0, none⟩,  -- CHURN_ENG_MASK
  ⟨0x100050, [(0x10000, 8)], false, 0x0, 0x0, 0x1F, 0x0, 0x0, 0x0, none⟩,  -- CHURN_EVT_STATUS
  ⟨0x100054, [(0x10000, 8)], false, 0x0, 0x0, 0x0, 0x0, 0x0, 0x1F, none⟩,  -- CHURN_EVT_SNAP
  ⟨0x100058, [(0x10000, 8)], false, 0x0, 0x0, 0x0, 0x0, 0x0, 0x7FFFF, none⟩,  -- CHURN_LAST_OVR
  ⟨0x10005C, [(0x10000, 8)], false, 0x0, 0x0, 0x0, 0x1, 0x1, 0x0, none⟩,  -- CHURN_CNT_CLR
  ⟨0x100060, [(0x10000, 8)], false, 0x0, 0x0, 0x0, 0x0, 0x0, 0xFFFFFFFF, some (0x10005C, 1)⟩,  -- CHURN_TOKEN_CNT
  ⟨0x100064, [(0x10000, 8)], false, 0x0, 0x0, 0x0, 0x0, 0x0, 0xFFFFFFFF, some (0x10005C, 1)⟩,  -- CHURN_DISPATCH_CNT
  ⟨0x100068, [(0x10000, 8)], false, 0x0, 0x0, 0x0, 0x0, 0x0, 0xFFFFFFFF, some (0x10005C, 1)⟩,  -- CHURN_DONE_CNT
  ⟨0x10006C, [(0x10000, 8)], false, 0x0, 0x0, 0x0, 0x0, 0x0, 0xFFFFFFFF, some (0x10005C, 1)⟩,  -- CHURN_CANCEL_CNT
  ⟨0x100070, [(0x10000, 8)], false, 0x0, 0x0, 0x0, 0x0, 0x0, 0xFFFFFFFF, some (0x10005C, 1)⟩,  -- CHURN_TOK_DISCARD_CNT
  ⟨0x100074, [(0x10000, 8)], false, 0x0, 0x0, 0x0, 0x0, 0x0, 0xFFFFFFFF, some (0x10005C, 1)⟩,  -- CHURN_TOK_DROP_CNT
  ⟨0x100078, [(0x10000, 8)], false, 0x0, 0x0, 0x0, 0x0, 0x0, 0xFFFFFFFF, some (0x10005C, 1)⟩,  -- CHURN_TOK_DUP_CNT
  ⟨0x10007C, [(0x10000, 8)], false, 0x0, 0x0, 0x0, 0x0, 0x0, 0xFFFFFFFF, some (0x10005C, 1)⟩,  -- CHURN_OVR_CNT
  ⟨0x100080, [(0x10000, 8)], false, 0x0, 0x0, 0x0, 0x0, 0x0, 0xFFFFFFFF, some (0x10005C, 1)⟩]  -- CHURN_LATE_CNT

/-- Cards: CHURN_BAD_MSG_CNT to CHURN_PEEK. -/
def churnRegs2 : List RegDesc := [
  ⟨0x100084, [(0x10000, 8)], false, 0x0, 0x0, 0x0, 0x0, 0x0, 0xFFFFFFFF, some (0x10005C, 1)⟩,  -- CHURN_BAD_MSG_CNT
  ⟨0x100088, [(0x10000, 8)], false, 0x0, 0x0, 0x0, 0x0, 0x0, 0xFFFFFFFF, some (0x10005C, 1)⟩,  -- CHURN_DIVERGE_CNT
  ⟨0x101000, [(0x10000, 8), (0x8, 64)], true, 0x0, 0x0, 0x0, 0x0, 0x0, 0x0, none⟩,  -- CHURN_NEXT
  ⟨0x101400, [(0x10000, 8), (0x8, 64)], true, 0x0, 0x0, 0x0, 0x0, 0x0, 0x0, none⟩]  -- CHURN_PEEK

/-- The cards of the churn block. -/
def churnRegs : List RegDesc := churnRegs1 ++ churnRegs2

/-- Cards: NOC_CTRL to NOC_RED_ERR_CNT. -/
def nocRegs : List RegDesc := [
  ⟨0x200000, [], false, 0x120, 0x1FF, 0x0, 0x0, 0x1FF, 0x0, none⟩,  -- NOC_CTRL
  ⟨0x200004, [], false, 0x10000, 0xFFFFFF, 0x0, 0x0, 0xFFFFFF, 0x0, none⟩,  -- NOC_DRAIN_LIMIT
  ⟨0x200008, [], false, 0x0, 0x0, 0x0, 0x0, 0x0, 0x0, none⟩,  -- NOC_STATUS
  ⟨0x200010, [], true, 0x0, 0x0, 0x0, 0x0, 0x0, 0x0, none⟩,  -- NOC_DRAIN_NODES
  ⟨0x200018, [], false, 0x0, 0x0, 0x3F, 0x0, 0x0, 0x0, none⟩,  -- NOC_EVT_STATUS
  ⟨0x20001C, [], false, 0x0, 0x0, 0x0, 0x0, 0x0, 0x3F, none⟩,  -- NOC_EVT_SNAP
  ⟨0x200020, [], false, 0x0, 0x0, 0x0, 0x1, 0x1, 0x0, none⟩,  -- NOC_CNT_CLR
  ⟨0x200024, [], false, 0x0, 0x0, 0x0, 0x0, 0x0, 0xF03F0FFF, none⟩,  -- NOC_RED_LAST_ERR
  ⟨0x200030, [], false, 0x0, 0x0, 0x0, 0x0, 0x0, 0xFFFFFFFF, some (0x200020, 0)⟩,  -- NOC_DRAIN_CNT
  ⟨0x200034, [], false, 0x0, 0x0, 0x0, 0x0, 0x0, 0xFFFFFFFF, some (0x200020, 0)⟩,  -- NOC_DRAIN_MAX
  ⟨0x200038, [], false, 0x0, 0x0, 0x0, 0x0, 0x0, 0xFFFFFFFF, some (0x200020, 0)⟩,  -- NOC_RED_DONE_CNT
  ⟨0x20003C, [], false, 0x0, 0x0, 0x0, 0x0, 0x0, 0xFFFFFFFF, some (0x200020, 0)⟩]  -- NOC_RED_ERR_CNT

/-- Cards: NOC_RTR_CTRL to NOC_RTR_ANSWER_DROP_CNT. -/
def rtrRegs : List RegDesc := [
  ⟨0x201000, [(0x40, 48)], false, 0x2000, 0x3F0F, 0x0, 0x0, 0x3F0F, 0x0, none⟩,  -- NOC_RTR_CTRL
  ⟨0x201004, [(0x40, 48)], false, 0x0, 0x0, 0x0, 0x0, 0x0, 0x3F1F, none⟩,  -- NOC_RTR_STATUS
  ⟨0x201008, [(0x40, 48)], true, 0x0, 0x0, 0x0, 0x0, 0x0, 0xFFFFFFFFFFFFFFFF, some (0x200020, 0)⟩,  -- NOC_RTR_FLITS
  ⟨0x201010, [(0x40, 48)], false, 0x0, 0x0, 0x0, 0x0, 0x0, 0xFFFFFFFF, some (0x200020, 0)⟩,  -- NOC_RTR_RED_MERGE_CNT
  ⟨0x201014, [(0x40, 48)], false, 0x0, 0x0, 0x0, 0x0, 0x0, 0xFFFFFFFF, some (0x200020, 0)⟩,  -- NOC_RTR_RED_PASS_CNT
  ⟨0x201018, [(0x40, 48)], false, 0x0, 0x0, 0x0, 0x0, 0x0, 0xFFFFFFFF, some (0x200020, 0)⟩,  -- NOC_RTR_REPLAY_CNT
  ⟨0x20101C, [(0x40, 48)], false, 0x0, 0x0, 0x0, 0x0, 0x0, 0xFFFFFFFF, some (0x200020, 0)⟩]  -- NOC_RTR_ANSWER_DROP_CNT

/-- Cards: NI_ROUTE to NI_RED_TABLE. -/
def niRegs : List RegDesc := [
  ⟨0x220000, [(0x4000, 48), (0x800, 8), (0x8, 64)], true, 0x0, 0xFFFFFFFFFFFFFFFF, 0x0, 0x0, 0xFFFFFFFFFFFFFFFF, 0x0, none⟩,  -- NI_ROUTE
  ⟨0x220200, [(0x4000, 48), (0x800, 8), (0x80, 4)], true, 0x0, 0x0, 0x0, 0x0, 0x0, 0xFFFFFFFFFFFFFFFF, some (0x200020, 0)⟩,  -- NI_BYTES
  ⟨0x220208, [(0x4000, 48), (0x800, 8), (0x80, 4)], false, 0x0, 0x0, 0x0, 0x0, 0x0, 0xFFFFFFFF, some (0x200020, 0)⟩,  -- NI_PKTS
  ⟨0x22020C, [(0x4000, 48), (0x800, 8), (0x80, 4)], false, 0x0, 0x0, 0x0, 0x0, 0x0, 0xFFFFFFFF, some (0x200020, 0)⟩,  -- NI_LAT_MAX
  ⟨0x220210, [(0x4000, 48), (0x800, 8), (0x80, 4), (0x4, 16)], false, 0x0, 0x0, 0x0, 0x0, 0x0, 0xFFFFFFFF, some (0x200020, 0)⟩,  -- NI_LAT_HIST
  ⟨0x220400, [(0x4000, 48), (0x800, 8)], false, 0x1000, 0xFFFFFF, 0x0, 0x0, 0xFFFFFF, 0x0, none⟩,  -- NI_CTRL
  ⟨0x220408, [(0x4000, 48), (0x800, 8)], true, 0x0, 0x0, 0x0, 0x0, 0x0, 0xFFFFFFFFFFFFFFFF, none⟩,  -- NI_ROUTE_BAD
  ⟨0x220410, [(0x4000, 48), (0x800, 8)], false, 0x0, 0x0, 0x0, 0x0, 0x0, 0x1FFF1FFF, none⟩,  -- NI_OUTSTANDING
  ⟨0x220418, [(0x4000, 48), (0x800, 8)], true, 0x0, 0x0, 0x0, 0x0, 0x0, 0xFFFFFFFFFFFF, none⟩,  -- NI_POST_ERR_ADDR
  ⟨0x220420, [(0x4000, 48), (0x800, 8)], false, 0x0, 0x0, 0x0, 0x0, 0x0, 0xFFFF0007, none⟩,  -- NI_POST_ERR_INFO
  ⟨0x220430, [(0x4000, 48), (0x800, 8)], false, 0x0, 0x0, 0x0, 0x0, 0x0, 0xFFFFFFFF, some (0x200020, 0)⟩,  -- NI_TIMEOUT_CNT
  ⟨0x220434, [(0x4000, 48), (0x800, 8)], false, 0x0, 0x0, 0x0, 0x0, 0x0, 0xFFFFFFFF, some (0x200020, 0)⟩,  -- NI_LATE_RSP_CNT
  ⟨0x220438, [(0x4000, 48), (0x800, 8)], false, 0x0, 0x0, 0x0, 0x0, 0x0, 0xFFFFFFFF, some (0x200020, 0)⟩,  -- NI_ROUTE_FAULT_CNT
  ⟨0x22043C, [(0x4000, 48), (0x800, 8)], false, 0x0, 0x0, 0x0, 0x0, 0x0, 0xFFFFFFFF, some (0x200020, 0)⟩,  -- NI_DECERR_CNT
  ⟨0x220440, [(0x4000, 48), (0x800, 8)], false, 0x0, 0x0, 0x0, 0x0, 0x0, 0xFFFFFFFF, some (0x200020, 0)⟩,  -- NI_POST_ERR_CNT
  ⟨0x220444, [(0x4000, 48), (0x800, 8)], false, 0x0, 0x0, 0x0, 0x0, 0x0, 0xFFFFFFFF, some (0x200020, 0)⟩,  -- NI_BOOK_CNT
  ⟨0x220480, [(0x4000, 48), (0x800, 8)], true, 0x0, 0x0, 0x0, 0xFFF13FFFFFCFFFC0, 0x0, 0x0, none⟩,  -- NI_RED_SEND
  ⟨0x220488, [(0x4000, 48), (0x800, 8)], true, 0x0, 0x0, 0x0, 0x1C00FFFF00000FFF, 0x0, 0x0, none⟩,  -- NI_RED_SETUP
  ⟨0x220490, [(0x4000, 48), (0x800, 8)], true, 0x0, 0xFFFFFFFFFFC0, 0x0, 0x0, 0xFFFFFFFFFFC0, 0x0, none⟩]  -- NI_RED_TABLE

/-- Cards: DMA_CTRL to DMA_CH_BYTES. -/
def sdmaRegs : List RegDesc := [
  ⟨0x300000, [], false, 0x1, 0x1, 0x0, 0x2, 0x1, 0x0, none⟩,  -- DMA_CTRL
  ⟨0x300004, [], false, 0x10000, 0x0, 0x0, 0x0, 0x0, 0x0, none⟩,  -- DMA_STATUS
  ⟨0x300008, [], true, 0x0, 0x0, 0x0, 0x0, 0x0, 0xFFFFFFFFFFFF, none⟩,  -- DMA_BUS_ERR_ADDR
  ⟨0x300010, [], false, 0x0, 0x0, 0x0, 0x0, 0x0, 0x307, none⟩,  -- DMA_BUS_ERR_INFO
  ⟨0x300014, [], false, 0x0, 0x0, 0x7, 0x0, 0x0, 0x0, none⟩,  -- DMA_EVT_STATUS
  ⟨0x300018, [], false, 0x0, 0x0, 0x0, 0x0, 0x0, 0x7, none⟩,  -- DMA_EVT_SNAP
  ⟨0x300020, [], false, 0x0, 0x0, 0x0, 0x0, 0x0, 0xFFFFFFFF, some (0x300038, 0)⟩,  -- DMA_BUS_ERR_CNT
  ⟨0x300024, [], false, 0x0, 0x0, 0x0, 0x0, 0x0, 0xFFFFFFFF, some (0x300038, 0)⟩,  -- DMA_DESC_DONE_CNT
  ⟨0x300038, [], false, 0x0, 0x0, 0x0, 0x1, 0x1, 0x0, none⟩,  -- DMA_CNT_CLR
  ⟨0x301000, [(0x40, 64)], false, 0x1000, 0xFFF0FFFF, 0x0, 0x0, 0xFFF0FFFF, 0x0, none⟩,  -- DMA_CH_CFG
  ⟨0x301004, [(0x40, 64)], false, 0x0, 0x7FFFF, 0x0, 0x0, 0x7FFFF, 0x0, none⟩,  -- DMA_CH_TOKEN
  ⟨0x301008, [(0x40, 64)], true, 0x0, 0x0, 0x0, 0xFFFFFFFFFFFF, 0x0, 0x0, none⟩,  -- DMA_CH_START
  ⟨0x301010, [(0x40, 64)], false, 0x0, 0x0, 0x0, 0x1, 0x0, 0x0, none⟩,  -- DMA_CH_CTRL
  ⟨0x301014, [(0x40, 64)], false, 0x0, 0x0, 0x0, 0x0, 0x0, 0x703, none⟩,  -- DMA_CH_STATUS
  ⟨0x301018, [(0x40, 64)], true, 0x0, 0x0, 0x0, 0x0, 0x0, 0xFFFFFFFFFFFF, none⟩,  -- DMA_CH_CUR
  ⟨0x301020, [(0x40, 64)], false, 0x0, 0x0, 0x0, 0x0, 0x0, 0xFFFFFFFF, none⟩,  -- DMA_CH_DESC_CNT
  ⟨0x301028, [(0x40, 64)], true, 0x0, 0x0, 0x0, 0x0, 0x0, 0xFFFFFFFFFFFFFFFF, some (0x300038, 0)⟩]  -- DMA_CH_BYTES

/-- Cards: DRAM_CFG to DRAM_CNT_CLR. -/
def dramRegs : List RegDesc := [
  ⟨0x308000, [(0x1000, 4)], false, 0x10018, 0x100FF, 0x0, 0x0, 0x100FF, 0x0, none⟩,  -- DRAM_CFG
  ⟨0x308004, [(0x1000, 4)], false, 0x2, 0x0, 0x0, 0x0, 0x0, 0x103, none⟩,  -- DRAM_STATUS
  ⟨0x308010, [(0x1000, 4)], false, 0x0, 0x0, 0x0, 0x0, 0x0, 0xFFFFFFFF, some (0x308038, 1)⟩,  -- DRAM_CORR_CNT
  ⟨0x308014, [(0x1000, 4)], false, 0x0, 0x0, 0x0, 0x0, 0x0, 0xFFFFFFFF, some (0x308038, 1)⟩,  -- DRAM_UNCORR_CNT
  ⟨0x308018, [(0x1000, 4)], false, 0x0, 0x0, 0x0, 0x0, 0x0, 0xFFFFFFFF, some (0x308038, 1)⟩,  -- DRAM_POISON_CNT
  ⟨0x30801C, [(0x1000, 4)], false, 0x0, 0x0, 0x0, 0x0, 0x0, 0xFFFFFFFF, some (0x308038, 1)⟩,  -- DRAM_SCRUB_PASS_CNT
  ⟨0x308020, [(0x1000, 4)], true, 0x0, 0x0, 0x0, 0x0, 0x0, 0xFFFFFFFFFFFF, none⟩,  -- DRAM_LAST_UNCORR
  ⟨0x308028, [(0x1000, 4)], true, 0x0, 0x0, 0x0, 0x0, 0x0, 0xFFFFFFFFFFFFFFFF, some (0x308038, 1)⟩,  -- DRAM_RD_BYTES
  ⟨0x308030, [(0x1000, 4)], true, 0x0, 0x0, 0x0, 0x0, 0x0, 0xFFFFFFFFFFFFFFFF, some (0x308038, 1)⟩,  -- DRAM_WR_BYTES
  ⟨0x308038, [(0x1000, 4)], false, 0x0, 0x0, 0x0, 0x1, 0x1, 0x0, none⟩]  -- DRAM_CNT_CLR

/-- Cards: DMA_CTRL to DMA_CH_BYTES. -/
def cdmaRegs : List RegDesc := [
  ⟨0x310000, [(0x1000, 32)], false, 0x1, 0x1, 0x0, 0x2, 0x1, 0x0, none⟩,  -- DMA_CTRL
  ⟨0x310004, [(0x1000, 32)], false, 0x10000, 0x0, 0x0, 0x0, 0x0, 0x0, none⟩,  -- DMA_STATUS
  ⟨0x310008, [(0x1000, 32)], true, 0x0, 0x0, 0x0, 0x0, 0x0, 0xFFFFFFFFFFFF, none⟩,  -- DMA_BUS_ERR_ADDR
  ⟨0x310010, [(0x1000, 32)], false, 0x0, 0x0, 0x0, 0x0, 0x0, 0x307, none⟩,  -- DMA_BUS_ERR_INFO
  ⟨0x310014, [(0x1000, 32)], false, 0x0, 0x0, 0x7, 0x0, 0x0, 0x0, none⟩,  -- DMA_EVT_STATUS
  ⟨0x310018, [(0x1000, 32)], false, 0x0, 0x0, 0x0, 0x0, 0x0, 0x7, none⟩,  -- DMA_EVT_SNAP
  ⟨0x310020, [(0x1000, 32)], false, 0x0, 0x0, 0x0, 0x0, 0x0, 0xFFFFFFFF, some (0x310038, 1)⟩,  -- DMA_BUS_ERR_CNT
  ⟨0x310024, [(0x1000, 32)], false, 0x0, 0x0, 0x0, 0x0, 0x0, 0xFFFFFFFF, some (0x310038, 1)⟩,  -- DMA_DESC_DONE_CNT
  ⟨0x310028, [(0x1000, 32)], false, 0x0, 0x0, 0x0, 0x0, 0x0, 0xFFFFFFFF, some (0x310038, 1)⟩,  -- CSM_CORR_CNT
  ⟨0x31002C, [(0x1000, 32)], false, 0x0, 0x0, 0x0, 0x0, 0x0, 0xFFFFFFFF, some (0x310038, 1)⟩,  -- CSM_UNCORR_CNT
  ⟨0x310030, [(0x1000, 32)], true, 0x0, 0x0, 0x0, 0x0, 0x0, 0xFFFFFFFFFFFF, none⟩,  -- CSM_LAST_UNCORR
  ⟨0x310038, [(0x1000, 32)], false, 0x0, 0x0, 0x0, 0x1, 0x1, 0x0, none⟩,  -- DMA_CNT_CLR
  ⟨0x310100, [(0x1000, 32), (0x40, 8)], false, 0x1000, 0xFFF0FFFF, 0x0, 0x0, 0xFFF0FFFF, 0x0, none⟩,  -- DMA_CH_CFG
  ⟨0x310104, [(0x1000, 32), (0x40, 8)], false, 0x0, 0x7FFFF, 0x0, 0x0, 0x7FFFF, 0x0, none⟩,  -- DMA_CH_TOKEN
  ⟨0x310108, [(0x1000, 32), (0x40, 8)], true, 0x0, 0x0, 0x0, 0xFFFFFFFFFFFF, 0x0, 0x0, none⟩,  -- DMA_CH_START
  ⟨0x310110, [(0x1000, 32), (0x40, 8)], false, 0x0, 0x0, 0x0, 0x1, 0x0, 0x0, none⟩,  -- DMA_CH_CTRL
  ⟨0x310114, [(0x1000, 32), (0x40, 8)], false, 0x0, 0x0, 0x0, 0x0, 0x0, 0x703, none⟩,  -- DMA_CH_STATUS
  ⟨0x310118, [(0x1000, 32), (0x40, 8)], true, 0x0, 0x0, 0x0, 0x0, 0x0, 0xFFFFFFFFFFFF, none⟩,  -- DMA_CH_CUR
  ⟨0x310120, [(0x1000, 32), (0x40, 8)], false, 0x0, 0x0, 0x0, 0x0, 0x0, 0xFFFFFFFF, none⟩,  -- DMA_CH_DESC_CNT
  ⟨0x310128, [(0x1000, 32), (0x40, 8)], true, 0x0, 0x0, 0x0, 0x0, 0x0, 0xFFFFFFFFFFFFFFFF, some (0x310038, 1)⟩]  -- DMA_CH_BYTES

/-- Cards: LANE_CFG to LANE_CNT_CLR. -/
def laneRegs1 : List RegDesc := [
  ⟨0x400000, [(0x800, 32)], false, 0x60, 0x7D, 0x0, 0x0, 0x7D, 0x0, none⟩,  -- LANE_CFG
  ⟨0x400004, [(0x800, 32)], false, 0x0, 0x0, 0x0, 0x3, 0x0, 0x0, none⟩,  -- LANE_CTRL
  ⟨0x400008, [(0x800, 32)], false, 0x40818006, 0x0, 0x0, 0x0, 0x0, 0x7FFFFFF7, none⟩,  -- LANE_STATUS
  ⟨0x40000C, [(0x800, 32)], false, 0x0, 0x0, 0x0, 0x0, 0x0, 0xFFFFF770, none⟩,  -- LANE_TLAST_DOWN
  ⟨0x400010, [(0x800, 32), (0x4, 8)], false, 0x0, 0x0, 0x0, 0x0, 0x0, 0xFFFFFFFF, none⟩,  -- LANE_TPARTNER_CAPS
  ⟨0x400030, [(0x800, 32)], true, 0x0, 0xFFFFFFFFFFFFFFFF, 0x0, 0x0, 0xFFFFFFFFFFFFFFFF, 0x0, none⟩,  -- LANE_TCAPS_USER
  ⟨0x400038, [(0x800, 32)], false, 0x0, 0x0, 0x0, 0x0, 0x0, 0xFFFFFFFF, none⟩,  -- LANE_TDELAY
  ⟨0x400040, [(0x800, 32)], true, 0x0, 0x0, 0x0, 0x0, 0x0, 0xFFFFFFFFFFFFFFFF, none⟩,  -- LANE_TRX_ROUND
  ⟨0x400048, [(0x800, 32)], false, 0x0, 0x3, 0x0, 0x0, 0x3, 0x0, none⟩,  -- LANE_TPM
  ⟨0x40004C, [(0x800, 32)], false, 0x0, 0x0, 0x0, 0x0, 0x0, 0x1FF03, none⟩,  -- LANE_TPM_STATUS
  ⟨0x400050, [(0x800, 32)], false, 0x4000000C, 0x7F0F0F3F, 0x0, 0x0, 0x7F0F0F3F, 0x0, none⟩,  -- LANE_EQ_MAN
  ⟨0x400054, [(0x800, 32)], false, 0x4000000C, 0x0, 0x0, 0x0, 0x0, 0x7F0F0F3F, none⟩,  -- LANE_EQ_STATUS
  ⟨0x400060, [(0x800, 32), (0x4, 10)], false, 0x4000000C, 0x7F0F0F3F, 0x0, 0x0, 0x7F0F0F3F, 0x0, none⟩,  -- LANE_EQ_TBL
  ⟨0x400090, [(0x800, 32)], true, 0x0, 0xFFFFFFFFF000, 0x0, 0x0, 0xFFFFFFFFF000, 0x0, none⟩,  -- LANE_TCTL_RX_BASE
  ⟨0x400098, [(0x800, 32)], true, 0x0, 0xFFFFFFFFF000, 0x0, 0x0, 0xFFFFFFFFF000, 0x0, none⟩,  -- LANE_TCTL_TX_BASE
  ⟨0x4000A0, [(0x800, 32)], false, 0x0, 0xFF00FF00, 0x0, 0x0, 0x0, 0x0, none⟩,  -- LANE_TCTL_PTR
  ⟨0x4000A4, [(0x800, 32)], false, 0x0, 0x8007FFFF, 0x0, 0x0, 0x8007FFFF, 0x0, none⟩,  -- LANE_TCTL_TOKEN
  ⟨0x4000B0, [(0x800, 32)], false, 0x0, 0x0, 0x7F, 0x0, 0x0, 0x0, none⟩,  -- LANE_EVT_STATUS
  ⟨0x4000B4, [(0x800, 32)], false, 0x0, 0x0, 0x0, 0x0, 0x0, 0x7F, none⟩,  -- LANE_EVT_SNAP
  ⟨0x4000B8, [(0x800, 32)], false, 0x0, 0x0, 0x0, 0x1, 0x1, 0x0, none⟩]  -- LANE_CNT_CLR

/-- Cards: LANE_TDETECT_CNT to LANE_QUAD_STATUS. -/
def laneRegs2 : List RegDesc := [
  ⟨0x4000C0, [(0x800, 32)], false, 0x0, 0x0, 0x0, 0x0, 0x0, 0xFFFFFFFF, some (0x4000B8, 1)⟩,  -- LANE_TDETECT_CNT
  ⟨0x4000C4, [(0x800, 32)], false, 0x0, 0x0, 0x0, 0x0, 0x0, 0xFFFFFFFF, some (0x4000B8, 1)⟩,  -- LANE_TDOWN_CNT
  ⟨0x4000C8, [(0x800, 32)], false, 0x0, 0x0, 0x0, 0x0, 0x0, 0xFFFFFFFF, some (0x4000B8, 1)⟩,  -- LANE_TSTEPFAIL_CNT
  ⟨0x4000CC, [(0x800, 32)], false, 0x0, 0x0, 0x0, 0x0, 0x0, 0xFFFFFFFF, some (0x4000B8, 1)⟩,  -- LANE_TCRC_CNT
  ⟨0x4000D0, [(0x800, 32)], false, 0x0, 0x0, 0x0, 0x0, 0x0, 0xFFFFFFFF, some (0x4000B8, 1)⟩,  -- LANE_TCV_CNT
  ⟨0x4000D4, [(0x800, 32)], false, 0x0, 0x0, 0x0, 0x0, 0x0, 0xFFFFFFFF, some (0x4000B8, 1)⟩,  -- LANE_TSHORT_CNT
  ⟨0x4000D8, [(0x800, 32)], false, 0x0, 0x0, 0x0, 0x0, 0x0, 0xFFFFFFFF, some (0x4000B8, 1)⟩,  -- LANE_TCTL_DROP_CNT
  ⟨0x4000DC, [(0x800, 32)], false, 0x0, 0x0, 0x0, 0x0, 0x0, 0xFFFFFFFF, some (0x4000B8, 1)⟩,  -- LANE_TCTL_ERR_CNT
  ⟨0x4000E0, [(0x800, 32)], false, 0x0, 0x0, 0x0, 0x0, 0x0, 0xFFFFFFFF, some (0x4000B8, 1)⟩,  -- LANE_ETH_AN_FAIL_CNT
  ⟨0x400100, [(0x800, 32), (0x4, 64)], false, 0x0, 0x1FF01FF, 0x0, 0x0, 0x1FF01FF, 0x0, none⟩,  -- LANE_TSTREAM
  ⟨0x410000, [(0x40, 8)], false, 0x0, 0xF7F77, 0x0, 0x0, 0xF7F77, 0x0, none⟩,  -- LANE_QUAD_CFG
  ⟨0x410004, [(0x40, 8)], false, 0x0, 0x0, 0x0, 0x0, 0x0, 0x1F, none⟩]  -- LANE_QUAD_STATUS

/-- The cards of the lane block. -/
def laneRegs : List RegDesc := laneRegs1 ++ laneRegs2

/-- Cards: FHG_CFG to MAC_TX_CFG. -/
def macRegs1 : List RegDesc := [
  ⟨0x508000, [(0x10000, 16)], false, 0x640, 0x87FFFFFF, 0x0, 0x0, 0x87FFFFFF, 0x0, none⟩,  -- FHG_CFG
  ⟨0x508004, [(0x10000, 16)], false, 0x320, 0xFFFF, 0x0, 0x0, 0xFFFF, 0x0, none⟩,  -- FHG_LATE_TOL
  ⟨0x508008, [(0x10000, 16)], true, 0x0, 0xFFFFFFFFFFC0, 0x0, 0x0, 0xFFFFFFFFFFC0, 0x0, none⟩,  -- FHG_TABLE
  ⟨0x508010, [(0x10000, 16)], false, 0x0, 0x0, 0x0, 0x0, 0x0, 0x107FF, none⟩,  -- FHG_STATUS
  ⟨0x508014, [(0x10000, 16)], false, 0x0, 0x0, 0x7, 0x0, 0x0, 0x0, none⟩,  -- FHG_EVT_STATUS
  ⟨0x508018, [(0x10000, 16)], false, 0x0, 0x0, 0x0, 0x0, 0x0, 0x7, none⟩,  -- FHG_EVT_SNAP
  ⟨0x50801C, [(0x10000, 16)], false, 0x0, 0x0, 0x0, 0x1, 0x1, 0x0, none⟩,  -- FHG_CNT_CLR
  ⟨0x508020, [(0x10000, 16)], false, 0x0, 0x0, 0x0, 0x0, 0x0, 0xFFFFFFFF, some (0x50801C, 1)⟩,  -- FHG_SENT_CNT
  ⟨0x508024, [(0x10000, 16)], false, 0x0, 0x0, 0x0, 0x0, 0x0, 0xFFFFFFFF, some (0x50801C, 1)⟩,  -- FHG_BLANK_CNT
  ⟨0x508028, [(0x10000, 16)], false, 0x0, 0x0, 0x0, 0x0, 0x0, 0xFFFFFFFF, some (0x50801C, 1)⟩,  -- FHG_SKIP_CNT
  ⟨0x50802C, [(0x10000, 16)], false, 0x0, 0x0, 0x0, 0x0, 0x0, 0xFFFFFFFF, some (0x50801C, 1)⟩,  -- FHG_LATE_CNT
  ⟨0x508030, [(0x10000, 16)], false, 0x0, 0x0, 0x0, 0x0, 0x0, 0xFFFFFFFF, some (0x50801C, 1)⟩,  -- FHG_MISS_CNT
  ⟨0x508034, [(0x10000, 16)], false, 0x0, 0x0, 0x0, 0x0, 0x0, 0xFFFFFFFF, some (0x50801C, 1)⟩,  -- FHG_ERR_CNT
  ⟨0x500000, [(0x10000, 16)], false, 0xC05EE, 0xF3FFF, 0x0, 0x0, 0xF3FFF, 0x0, none⟩,  -- MAC_CFG
  ⟨0x500004, [(0x10000, 16)], false, 0x0, 0x0, 0x0, 0x0, 0x0, 0xFF1, none⟩,  -- MAC_STATUS
  ⟨0x500008, [(0x10000, 16)], true, 0x0, 0xFFFFFFFFFFFF, 0x0, 0x0, 0xFFFFFFFFFFFF, 0x0, none⟩,  -- MAC_ADDR
  ⟨0x500010, [(0x10000, 16)], false, 0x0, 0x1FF, 0x0, 0x0, 0x1FF, 0x0, none⟩,  -- MAC_RX_CFG
  ⟨0x500018, [(0x10000, 16)], true, 0x0, 0x1FFFFFFFFFFFFE0, 0x0, 0x0, 0x1FFFFFFFFFFFFE0, 0x0, none⟩,  -- MAC_RXQ_TABLE
  ⟨0x500020, [(0x10000, 16)], false, 0x0, 0x0, 0x0, 0xFF, 0x0, 0x0, none⟩,  -- MAC_RXQ_RESET
  ⟨0x500024, [(0x10000, 16)], false, 0xFF, 0x1FFFF, 0x0, 0x0, 0x1FFFF, 0x0, none⟩]  -- MAC_TX_CFG

/-- Cards: MAC_TX_TOKEN to MAC_RX_DROP_FULL_CNT. -/
def macRegs2 : List RegDesc := [
  ⟨0x500028, [(0x10000, 16)], false, 0x0, 0x7FFFF, 0x0, 0x0, 0x7FFFF, 0x0, none⟩,  -- MAC_TX_TOKEN
  ⟨0x500040, [(0x10000, 16), (0x8, 8)], true, 0x0, 0xFFFFFFFFFFFFFFE0, 0x0, 0x0, 0xFFFFFFFFFFFFFFE0, 0x0, none⟩,  -- MAC_TXQ_BASE
  ⟨0x500080, [(0x10000, 16), (0x4, 8)], false, 0x0, 0xFFFF0000, 0x0, 0x0, 0x0, 0x0, none⟩,  -- MAC_TXQ_PTR
  ⟨0x5000A0, [(0x10000, 16)], false, 0xA00, 0xFFFFFF0F, 0x0, 0x0, 0xFFFFFF0F, 0x0, none⟩,  -- MAC_PRE_CFG
  ⟨0x5000A4, [(0x10000, 16)], false, 0xFFFF0040, 0xFFFFFF7B, 0x0, 0x0, 0xFFFFFF7B, 0x0, none⟩,  -- MAC_PAUSE_CFG
  ⟨0x5000A8, [(0x10000, 16)], false, 0xC00080, 0xFFFFFFFF, 0x0, 0x0, 0xFFFFFFFF, 0x0, none⟩,  -- MAC_PAUSE_THR
  ⟨0x5000AC, [(0x10000, 16)], false, 0x640, 0xFFFFFFF3, 0x0, 0x0, 0xFFFFFFF3, 0x0, none⟩,  -- MAC_EEE_CFG
  ⟨0x5000B0, [(0x10000, 16)], false, 0x1, 0x1, 0x0, 0x0, 0x1, 0x0, none⟩,  -- MAC_TS_CFG
  ⟨0x5000B8, [(0x10000, 16)], true, 0x0, 0xFFFFFFFFFFFFFFFF, 0x0, 0x0, 0xFFFFFFFFFFFFFFFF, 0x0, none⟩,  -- MAC_TS_ADJ
  ⟨0x5000C0, [(0x10000, 16)], false, 0x0, 0x0, 0xF, 0x0, 0x0, 0x0, none⟩,  -- MAC_EVT_STATUS
  ⟨0x5000C4, [(0x10000, 16)], false, 0x0, 0x0, 0x0, 0x0, 0x0, 0xF, none⟩,  -- MAC_EVT_SNAP
  ⟨0x5000C8, [(0x10000, 16)], false, 0x0, 0x0, 0x0, 0x1, 0x1, 0x0, none⟩,  -- MAC_CNT_CLR
  ⟨0x500100, [(0x10000, 16)], true, 0x0, 0x0, 0x0, 0x0, 0x0, 0xFFFFFFFFFFFFFFFF, some (0x5000C8, 1)⟩,  -- MAC_RX_BYTES
  ⟨0x500108, [(0x10000, 16)], true, 0x0, 0x0, 0x0, 0x0, 0x0, 0xFFFFFFFFFFFFFFFF, some (0x5000C8, 1)⟩,  -- MAC_TX_BYTES
  ⟨0x500110, [(0x10000, 16)], false, 0x0, 0x0, 0x0, 0x0, 0x0, 0xFFFFFFFF, some (0x5000C8, 1)⟩,  -- MAC_RX_FRAMES_CNT
  ⟨0x500114, [(0x10000, 16)], false, 0x0, 0x0, 0x0, 0x0, 0x0, 0xFFFFFFFF, some (0x5000C8, 1)⟩,  -- MAC_TX_FRAMES_CNT
  ⟨0x500118, [(0x10000, 16)], false, 0x0, 0x0, 0x0, 0x0, 0x0, 0xFFFFFFFF, some (0x5000C8, 1)⟩,  -- MAC_RX_RUNT_CNT
  ⟨0x50011C, [(0x10000, 16)], false, 0x0, 0x0, 0x0, 0x0, 0x0, 0xFFFFFFFF, some (0x5000C8, 1)⟩,  -- MAC_RX_OVERSIZE_CNT
  ⟨0x500120, [(0x10000, 16)], false, 0x0, 0x0, 0x0, 0x0, 0x0, 0xFFFFFFFF, some (0x5000C8, 1)⟩,  -- MAC_RX_FCS_CNT
  ⟨0x500124, [(0x10000, 16)], false, 0x0, 0x0, 0x0, 0x0, 0x0, 0xFFFFFFFF, some (0x5000C8, 1)⟩]  -- MAC_RX_DROP_FULL_CNT

/-- Cards: MAC_RX_DROP_NOQ_CNT to MAC_RULE_ACT. -/
def macRegs3 : List RegDesc := [
  ⟨0x500128, [(0x10000, 16)], false, 0x0, 0x0, 0x0, 0x0, 0x0, 0xFFFFFFFF, some (0x5000C8, 1)⟩,  -- MAC_RX_DROP_NOQ_CNT
  ⟨0x50012C, [(0x10000, 16)], false, 0x0, 0x0, 0x0, 0x0, 0x0, 0xFFFFFFFF, some (0x5000C8, 1)⟩,  -- MAC_RX_DROP_ADDR_CNT
  ⟨0x500130, [(0x10000, 16)], false, 0x0, 0x0, 0x0, 0x0, 0x0, 0xFFFFFFFF, some (0x5000C8, 1)⟩,  -- MAC_RX_DROP_SLOT_CNT
  ⟨0x500134, [(0x10000, 16)], false, 0x0, 0x0, 0x0, 0x0, 0x0, 0xFFFFFFFF, some (0x5000C8, 1)⟩,  -- MAC_RX_PAUSE_CNT
  ⟨0x500138, [(0x10000, 16)], false, 0x0, 0x0, 0x0, 0x0, 0x0, 0xFFFFFFFF, some (0x5000C8, 1)⟩,  -- MAC_TX_PAUSE_CNT
  ⟨0x50013C, [(0x10000, 16)], false, 0x0, 0x0, 0x0, 0x0, 0x0, 0xFFFFFFFF, some (0x5000C8, 1)⟩,  -- MAC_TX_DROP_CNT
  ⟨0x500140, [(0x10000, 16)], false, 0x0, 0x0, 0x0, 0x0, 0x0, 0xFFFFFFFF, some (0x5000C8, 1)⟩,  -- MAC_PRE_FRAG_TX_CNT
  ⟨0x500144, [(0x10000, 16)], false, 0x0, 0x0, 0x0, 0x0, 0x0, 0xFFFFFFFF, some (0x5000C8, 1)⟩,  -- MAC_PRE_ERR_CNT
  ⟨0x500148, [(0x10000, 16)], false, 0x0, 0x0, 0x0, 0x0, 0x0, 0xFFFFFFFF, some (0x5000C8, 1)⟩,  -- MAC_LPI_TX_CNT
  ⟨0x50014C, [(0x10000, 16)], false, 0x0, 0x0, 0x0, 0x0, 0x0, 0xFFFFFFFF, some (0x5000C8, 1)⟩,  -- MAC_LPI_RX_CNT
  ⟨0x500400, [(0x10000, 16), (0x10, 64)], true, 0x0, 0xFFFFFFFFFFFFFFFF, 0x0, 0x0, 0xFFFFFFFFFFFFFFFF, 0x0, none⟩,  -- MAC_RULE_MATCH
  ⟨0x500408, [(0x10000, 16), (0x10, 64)], true, 0x0, 0xFFF1FFFF00FF, 0x0, 0x0, 0xFFF1FFFF00FF, 0x0, none⟩]  -- MAC_RULE_ACT

/-- The cards of the mac block. -/
def macRegs : List RegDesc := macRegs1 ++ macRegs2 ++ macRegs3

/-- Cards: TIME_CTRL to TIME_CAP_CNT. -/
def timeRegs1 : List RegDesc := [
  ⟨0x600000, [], false, 0x0, 0x1, 0x0, 0x2, 0x0, 0x0, none⟩,  -- TIME_CTRL
  ⟨0x600004, [], false, 0x0, 0x0, 0x0, 0x0, 0x0, 0x0, none⟩,  -- TIME_STATUS
  ⟨0x600008, [], true, 0x0, 0x0, 0x0, 0x0, 0x0, 0x0, none⟩,  -- TIME_NOW_SEC
  ⟨0x600010, [], true, 0x0, 0x0, 0x0, 0x0, 0x0, 0x0, none⟩,  -- TIME_NOW_SUB
  ⟨0x600018, [], true, 0x0, 0xFFFFFFFFFFFF, 0x0, 0x0, 0x0, 0x0, none⟩,  -- TIME_LOAD_SEC
  ⟨0x600020, [], true, 0x0, 0xFFFFFFFFFFFF, 0x0, 0x0, 0x0, 0x0, none⟩,  -- TIME_LOAD_SUB
  ⟨0x600028, [], true, 0x140000000, 0xFFFFFFFFF, 0x0, 0x0, 0x0, 0x0, none⟩,  -- TIME_INC
  ⟨0x600030, [], true, 0x140000000, 0xFFFFFFFFF, 0x0, 0x0, 0x0, 0x0, none⟩,  -- TIME_SLEW_INC
  ⟨0x600038, [], false, 0x0, 0xFFFFFFFF, 0x0, 0x0, 0x0, 0x0, none⟩,  -- TIME_SLEW_CNT
  ⟨0x600040, [], true, 0x0, 0x0, 0x0, 0xFFFFFFFFFFFFFFFF, 0xFFFFFFFFFFFFFFFF, 0x0, none⟩,  -- TIME_STEP
  ⟨0x600048, [], true, 0x0, 0x0, 0x0, 0x0, 0x0, 0xFFFFFFFFFFFFFFFF, none⟩,  -- TIME_LAST_STEP
  ⟨0x600050, [(0x10, 2)], true, 0x0, 0x0, 0x0, 0x0, 0x0, 0x0, none⟩,  -- TIME_CAP_SEC
  ⟨0x600058, [(0x10, 2)], true, 0x0, 0x0, 0x0, 0x0, 0x0, 0x0, none⟩,  -- TIME_CAP_SUB
  ⟨0x600070, [], false, 0x0, 0x0, 0x1F, 0x0, 0x0, 0x0, none⟩,  -- TIME_EVT_STATUS
  ⟨0x600074, [], false, 0x0, 0x0, 0x0, 0x0, 0x0, 0x1F, none⟩,  -- TIME_EVT_SNAP
  ⟨0x600078, [], false, 0x0, 0x0, 0x0, 0x1, 0x1, 0x0, none⟩,  -- TIME_CNT_CLR
  ⟨0x600080, [], false, 0x0, 0x0, 0x0, 0x0, 0x0, 0xFFFFFFFF, some (0x600078, 0)⟩,  -- TIME_STEP_CNT
  ⟨0x600084, [], false, 0x0, 0x0, 0x0, 0x0, 0x0, 0xFFFFFFFF, some (0x600078, 0)⟩,  -- TIME_STEP_REJ_CNT
  ⟨0x600088, [], false, 0x0, 0x0, 0x0, 0x0, 0x0, 0xFFFFFFFF, some (0x600078, 0)⟩,  -- TIME_TRIG_MISS_CNT
  ⟨0x60008C, [(0x4, 2)], false, 0x0, 0x0, 0x0, 0x0, 0x0, 0xFFFFFFFF, some (0x600078, 0)⟩]  -- TIME_CAP_CNT

/-- Cards: TIME_TRIG_CFG to TIME_TRIG_PERIOD. -/
def timeRegs2 : List RegDesc := [
  ⟨0x600100, [(0x20, 16)], false, 0x1, 0xCF00FFFF, 0x0, 0x0, 0xCF00FFFF, 0x0, none⟩,  -- TIME_TRIG_CFG
  ⟨0x600104, [(0x20, 16)], false, 0x0, 0x0, 0x0, 0x0, 0x0, 0xFFFF0003, some (0x600078, 0)⟩,  -- TIME_TRIG_STATUS
  ⟨0x600108, [(0x20, 16)], true, 0x0, 0xFFFFFFFFFFFF, 0x0, 0x0, 0xFFFFFFFFFFFF, 0x0, none⟩,  -- TIME_TRIG_START_SEC
  ⟨0x600110, [(0x20, 16)], true, 0x0, 0xFFFFFFFFFFFF, 0x0, 0x0, 0xFFFFFFFFFFFF, 0x0, none⟩,  -- TIME_TRIG_START_SUB
  ⟨0x600118, [(0x20, 16)], true, 0x0, 0xFFFFFFFFFFFFFFFF, 0x0, 0x0, 0xFFFFFFFFFFFFFFFF, 0x0, none⟩]  -- TIME_TRIG_PERIOD

/-- The cards of the time block. -/
def timeRegs : List RegDesc := timeRegs1 ++ timeRegs2

/-- Cards: LINE_CFG to LINE_GRP_CFG. -/
def lineRegs : List RegDesc := [
  ⟨0x700000, [], false, 0x1005300, 0xF0FF701, 0x0, 0x0, 0xF0FF701, 0x0, none⟩,  -- LINE_CFG
  ⟨0x700004, [], false, 0xC8, 0xFFF, 0x0, 0x0, 0xFFF, 0x0, none⟩,  -- LINE_DET_THRESH
  ⟨0x700008, [], false, 0x90680C0, 0x1F1FFFFF, 0x0, 0x0, 0x1F1FFFFF, 0x0, none⟩,  -- LINE_DET_CFG
  ⟨0x700010, [], false, 0x0, 0x0, 0x1F, 0x0, 0x0, 0x0, none⟩,  -- LINE_EVT_STATUS
  ⟨0x700014, [], false, 0x0, 0x0, 0x0, 0x0, 0x0, 0x1F, none⟩,  -- LINE_EVT_SNAP
  ⟨0x700018, [], false, 0x0, 0x0, 0x0, 0x1, 0x1, 0x0, none⟩,  -- LINE_CNT_CLR
  ⟨0x700020, [], false, 0x0, 0x0, 0x0, 0x0, 0x0, 0xFFFFFFFF, some (0x700018, 0)⟩,  -- LINE_REASM_ERR_CNT
  ⟨0x700024, [], false, 0x0, 0x0, 0x0, 0x0, 0x0, 0xFFFFFFFF, some (0x700018, 0)⟩,  -- LINE_FRAG_TX_CNT
  ⟨0x700028, [], false, 0x0, 0x0, 0x0, 0x0, 0x0, 0xFFFFFFFF, some (0x700018, 0)⟩,  -- LINE_FRAG_RX_CNT
  ⟨0x700040, [(0x4, 4)], false, 0x326024, 0xFFFFF137, 0x0, 0x0, 0xFFFFF137, 0x0, none⟩]  -- LINE_GRP_CFG

/-- Cards: LINE_PAIR_CFG to LINE_DOWN_CNT. -/
def linePairRegs : List RegDesc := [
  ⟨0x701000, [(0x100, 16)], false, 0x0, 0x31, 0x0, 0x0, 0x31, 0x0, none⟩,  -- LINE_PAIR_CFG
  ⟨0x701004, [(0x100, 16)], false, 0x0, 0x0, 0x0, 0x1, 0x0, 0x0, none⟩,  -- LINE_PAIR_CTRL
  ⟨0x701008, [(0x100, 16)], false, 0x0, 0x0, 0x0, 0x0, 0x0, 0xFFF37F07, none⟩,  -- LINE_PAIR_STATUS
  ⟨0x70100C, [(0x100, 16)], false, 0x0, 0x0, 0x0, 0x0, 0x0, 0xFFFF, none⟩,  -- LINE_PAIR_SNR
  ⟨0x701020, [(0x100, 16)], false, 0x0, 0x0, 0x0, 0x0, 0x0, 0xFFFFFFFF, some (0x700018, 0)⟩,  -- LINE_DET_CNT
  ⟨0x701024, [(0x100, 16)], false, 0x0, 0x0, 0x0, 0x0, 0x0, 0xFFFFFFFF, some (0x700018, 0)⟩,  -- LINE_FALSE_CNT
  ⟨0x701028, [(0x100, 16)], false, 0x0, 0x0, 0x0, 0x0, 0x0, 0xFFFFFFFF, some (0x700018, 0)⟩,  -- LINE_REACQ_CNT
  ⟨0x70102C, [(0x100, 16)], false, 0x0, 0x0, 0x0, 0x0, 0x0, 0xFFFFFFFF, some (0x700018, 0)⟩,  -- LINE_CAPTURE_CNT
  ⟨0x701030, [(0x100, 16)], false, 0x0, 0x0, 0x0, 0x0, 0x0, 0xFFFFFFFF, some (0x700018, 0)⟩,  -- LINE_ID_CNT
  ⟨0x701034, [(0x100, 16)], false, 0x0, 0x0, 0x0, 0x0, 0x0, 0xFFFFFFFF, some (0x700018, 0)⟩,  -- LINE_BURST_CNT
  ⟨0x701038, [(0x100, 16)], false, 0x0, 0x0, 0x0, 0x0, 0x0, 0xFFFFFFFF, some (0x700018, 0)⟩,  -- LINE_CW_UNCORR_CNT
  ⟨0x70103C, [(0x100, 16)], false, 0x0, 0x0, 0x0, 0x0, 0x0, 0xFFFFFFFF, some (0x700018, 0)⟩]  -- LINE_DOWN_CNT

/-- Cards: MAC_CFG to MAC_RX_BYTES. -/
def mac16Regs1 : List RegDesc := [
  ⟨0x710000, [], false, 0xC05EE, 0xF3FFF, 0x0, 0x0, 0xF3FFF, 0x0, none⟩,  -- MAC_CFG
  ⟨0x710004, [], false, 0x0, 0x0, 0x0, 0x0, 0x0, 0xFF1, none⟩,  -- MAC_STATUS
  ⟨0x710008, [], true, 0x0, 0xFFFFFFFFFFFF, 0x0, 0x0, 0xFFFFFFFFFFFF, 0x0, none⟩,  -- MAC_ADDR
  ⟨0x710010, [], false, 0x0, 0x1FF, 0x0, 0x0, 0x1FF, 0x0, none⟩,  -- MAC_RX_CFG
  ⟨0x710018, [], true, 0x0, 0x1FFFFFFFFFFFFE0, 0x0, 0x0, 0x1FFFFFFFFFFFFE0, 0x0, none⟩,  -- MAC_RXQ_TABLE
  ⟨0x710020, [], false, 0x0, 0x0, 0x0, 0xFF, 0x0, 0x0, none⟩,  -- MAC_RXQ_RESET
  ⟨0x710024, [], false, 0xFF, 0x1FFFF, 0x0, 0x0, 0x1FFFF, 0x0, none⟩,  -- MAC_TX_CFG
  ⟨0x710028, [], false, 0x0, 0x7FFFF, 0x0, 0x0, 0x7FFFF, 0x0, none⟩,  -- MAC_TX_TOKEN
  ⟨0x710040, [(0x8, 8)], true, 0x0, 0xFFFFFFFFFFFFFFE0, 0x0, 0x0, 0xFFFFFFFFFFFFFFE0, 0x0, none⟩,  -- MAC_TXQ_BASE
  ⟨0x710080, [(0x4, 8)], false, 0x0, 0xFFFF0000, 0x0, 0x0, 0x0, 0x0, none⟩,  -- MAC_TXQ_PTR
  ⟨0x7100A0, [], false, 0xA00, 0xFFFFFF0F, 0x0, 0x0, 0xFFFFFF0F, 0x0, none⟩,  -- MAC_PRE_CFG
  ⟨0x7100A4, [], false, 0xFFFF0040, 0xFFFFFF7B, 0x0, 0x0, 0xFFFFFF7B, 0x0, none⟩,  -- MAC_PAUSE_CFG
  ⟨0x7100A8, [], false, 0xC00080, 0xFFFFFFFF, 0x0, 0x0, 0xFFFFFFFF, 0x0, none⟩,  -- MAC_PAUSE_THR
  ⟨0x7100AC, [], false, 0x640, 0xFFFFFFF3, 0x0, 0x0, 0xFFFFFFF3, 0x0, none⟩,  -- MAC_EEE_CFG
  ⟨0x7100B0, [], false, 0x1, 0x1, 0x0, 0x0, 0x1, 0x0, none⟩,  -- MAC_TS_CFG
  ⟨0x7100B8, [], true, 0x0, 0xFFFFFFFFFFFFFFFF, 0x0, 0x0, 0xFFFFFFFFFFFFFFFF, 0x0, none⟩,  -- MAC_TS_ADJ
  ⟨0x7100C0, [], false, 0x0, 0x0, 0xF, 0x0, 0x0, 0x0, none⟩,  -- MAC_EVT_STATUS
  ⟨0x7100C4, [], false, 0x0, 0x0, 0x0, 0x0, 0x0, 0xF, none⟩,  -- MAC_EVT_SNAP
  ⟨0x7100C8, [], false, 0x0, 0x0, 0x0, 0x1, 0x1, 0x0, none⟩,  -- MAC_CNT_CLR
  ⟨0x710100, [], true, 0x0, 0x0, 0x0, 0x0, 0x0, 0xFFFFFFFFFFFFFFFF, some (0x7100C8, 0)⟩]  -- MAC_RX_BYTES

/-- Cards: MAC_TX_BYTES to MAC_RULE_ACT. -/
def mac16Regs2 : List RegDesc := [
  ⟨0x710108, [], true, 0x0, 0x0, 0x0, 0x0, 0x0, 0xFFFFFFFFFFFFFFFF, some (0x7100C8, 0)⟩,  -- MAC_TX_BYTES
  ⟨0x710110, [], false, 0x0, 0x0, 0x0, 0x0, 0x0, 0xFFFFFFFF, some (0x7100C8, 0)⟩,  -- MAC_RX_FRAMES_CNT
  ⟨0x710114, [], false, 0x0, 0x0, 0x0, 0x0, 0x0, 0xFFFFFFFF, some (0x7100C8, 0)⟩,  -- MAC_TX_FRAMES_CNT
  ⟨0x710118, [], false, 0x0, 0x0, 0x0, 0x0, 0x0, 0xFFFFFFFF, some (0x7100C8, 0)⟩,  -- MAC_RX_RUNT_CNT
  ⟨0x71011C, [], false, 0x0, 0x0, 0x0, 0x0, 0x0, 0xFFFFFFFF, some (0x7100C8, 0)⟩,  -- MAC_RX_OVERSIZE_CNT
  ⟨0x710120, [], false, 0x0, 0x0, 0x0, 0x0, 0x0, 0xFFFFFFFF, some (0x7100C8, 0)⟩,  -- MAC_RX_FCS_CNT
  ⟨0x710124, [], false, 0x0, 0x0, 0x0, 0x0, 0x0, 0xFFFFFFFF, some (0x7100C8, 0)⟩,  -- MAC_RX_DROP_FULL_CNT
  ⟨0x710128, [], false, 0x0, 0x0, 0x0, 0x0, 0x0, 0xFFFFFFFF, some (0x7100C8, 0)⟩,  -- MAC_RX_DROP_NOQ_CNT
  ⟨0x71012C, [], false, 0x0, 0x0, 0x0, 0x0, 0x0, 0xFFFFFFFF, some (0x7100C8, 0)⟩,  -- MAC_RX_DROP_ADDR_CNT
  ⟨0x710130, [], false, 0x0, 0x0, 0x0, 0x0, 0x0, 0xFFFFFFFF, some (0x7100C8, 0)⟩,  -- MAC_RX_DROP_SLOT_CNT
  ⟨0x710134, [], false, 0x0, 0x0, 0x0, 0x0, 0x0, 0xFFFFFFFF, some (0x7100C8, 0)⟩,  -- MAC_RX_PAUSE_CNT
  ⟨0x710138, [], false, 0x0, 0x0, 0x0, 0x0, 0x0, 0xFFFFFFFF, some (0x7100C8, 0)⟩,  -- MAC_TX_PAUSE_CNT
  ⟨0x71013C, [], false, 0x0, 0x0, 0x0, 0x0, 0x0, 0xFFFFFFFF, some (0x7100C8, 0)⟩,  -- MAC_TX_DROP_CNT
  ⟨0x710140, [], false, 0x0, 0x0, 0x0, 0x0, 0x0, 0xFFFFFFFF, some (0x7100C8, 0)⟩,  -- MAC_PRE_FRAG_TX_CNT
  ⟨0x710144, [], false, 0x0, 0x0, 0x0, 0x0, 0x0, 0xFFFFFFFF, some (0x7100C8, 0)⟩,  -- MAC_PRE_ERR_CNT
  ⟨0x710148, [], false, 0x0, 0x0, 0x0, 0x0, 0x0, 0xFFFFFFFF, some (0x7100C8, 0)⟩,  -- MAC_LPI_TX_CNT
  ⟨0x71014C, [], false, 0x0, 0x0, 0x0, 0x0, 0x0, 0xFFFFFFFF, some (0x7100C8, 0)⟩,  -- MAC_LPI_RX_CNT
  ⟨0x710400, [(0x10, 64)], true, 0x0, 0xFFFFFFFFFFFFFFFF, 0x0, 0x0, 0xFFFFFFFFFFFFFFFF, 0x0, none⟩,  -- MAC_RULE_MATCH
  ⟨0x710408, [(0x10, 64)], true, 0x0, 0xFFF1FFFF00FF, 0x0, 0x0, 0xFFF1FFFF00FF, 0x0, none⟩]  -- MAC_RULE_ACT

/-- The cards of the mac16 block. -/
def mac16Regs : List RegDesc := mac16Regs1 ++ mac16Regs2

/-- Cards: CFA_CTRL to CFA_MEM_UNCORR_CNT. -/
def cfaRegs : List RegDesc := [
  ⟨0x800000, [], false, 0x1, 0x1, 0x0, 0x0, 0x1, 0x0, none⟩,  -- CFA_CTRL
  ⟨0x800004, [], false, 0x0, 0x0, 0x0, 0x7FF03FF, 0x0, 0x0, none⟩,  -- CFA_HANDOVER
  ⟨0x800008, [], false, 0x59682F0, 0x0, 0x0, 0x0, 0x0, 0x0, none⟩,  -- CFA_BUDGET_CAP
  ⟨0x80000C, [(0x4, 2)], false, 0x0, 0x0, 0x0, 0x0, 0x0, 0x7FFFFFF, none⟩,  -- CFA_BUDGET_USED
  ⟨0x800014, [], false, 0x0, 0x0, 0x7F, 0x0, 0x0, 0x0, none⟩,  -- CFA_EVT_STATUS
  ⟨0x800018, [], false, 0x0, 0x0, 0x0, 0x0, 0x0, 0x7F, none⟩,  -- CFA_EVT_SNAP
  ⟨0x80001C, [], false, 0x0, 0x0, 0x0, 0x0, 0x0, 0xF00003FF, none⟩,  -- CFA_LAST_REJECT
  ⟨0x800020, [], false, 0x0, 0x0, 0x0, 0x1, 0x1, 0x0, none⟩,  -- CFA_CNT_CLR
  ⟨0x800024, [], false, 0x0, 0x0, 0x0, 0x0, 0x0, 0xFFFFFFFF, some (0x800020, 0)⟩,  -- CFA_REJECT_CNT
  ⟨0x800028, [], false, 0x0, 0x0, 0x0, 0x0, 0x0, 0xFFFFFFFF, some (0x800020, 0)⟩,  -- CFA_MEM_CORR_CNT
  ⟨0x80002C, [], false, 0x0, 0x0, 0x0, 0x0, 0x0, 0xFFFFFFFF, some (0x800020, 0)⟩]  -- CFA_MEM_UNCORR_CNT

/-- Cards: CFA_CH_CFG to CFA_CH_GAP_CNT. -/
def cfaChRegs1 : List RegDesc := [
  ⟨0x840000, [(0x100, 1024)], false, 0x0, 0xFE1FFDFF, 0x0, 0x0, 0xFE1FFDFF, 0x0, none⟩,  -- CFA_CH_CFG
  ⟨0x840004, [(0x100, 1024), (0x4, 3)], false, 0x780001, 0xFFFFC1FF, 0x0, 0x0, 0xFFFFC1FF, 0x0, none⟩,  -- CFA_CH_STAGE
  ⟨0x840010, [(0x100, 1024)], false, 0x0, 0xFFFF, 0x0, 0x0, 0xFFFF, 0x0, none⟩,  -- CFA_CH_DELAY
  ⟨0x840014, [(0x100, 1024)], false, 0x280000FF, 0xFF00FFFF, 0x0, 0x0, 0xFF00FFFF, 0x0, none⟩,  -- CFA_CH_DET
  ⟨0x840018, [(0x100, 1024)], false, 0x0, 0xFFFFFFFF, 0x0, 0x0, 0xFFFFFFFF, 0x0, none⟩,  -- CFA_CH_PK_THRESH
  ⟨0x84001C, [(0x100, 1024)], false, 0x0, 0xFFFFFFFF, 0x0, 0x0, 0xFFFFFFFF, 0x0, none⟩,  -- CFA_CH_ENV_THRESH
  ⟨0x840020, [(0x100, 1024)], true, 0x0, 0xFFFFFFFFFFC0, 0x0, 0x0, 0xFFFFFFFFFFC0, 0x0, none⟩,  -- CFA_CH_BUF
  ⟨0x840028, [(0x100, 1024)], false, 0x0, 0xFFFFFF, 0x0, 0x0, 0xFFFFFF, 0x0, none⟩,  -- CFA_CH_BUF_LEN
  ⟨0x84002C, [(0x100, 1024)], false, 0x0, 0x7FFFF, 0x0, 0x0, 0x7FFFF, 0x0, none⟩,  -- CFA_CH_TOKEN
  ⟨0x840030, [(0x100, 1024)], false, 0x0, 0xFFFFFFFF, 0x0, 0x0, 0x0, 0x0, none⟩,  -- CFA_CH_READY
  ⟨0x840034, [(0x100, 1024)], false, 0x0, 0x0, 0x0, 0x0, 0x0, 0xE7FFFFFF, none⟩,  -- CFA_CH_STATUS
  ⟨0x840038, [(0x100, 1024)], false, 0x0, 0x0, 0x0, 0x0, 0x0, 0xFFFFFFFF, none⟩,  -- CFA_CH_COUNT
  ⟨0x84003C, [(0x100, 1024)], false, 0x0, 0x0, 0x0, 0x0, 0x0, 0xFFFFFFFF, none⟩,  -- CFA_CH_ROUND_POS
  ⟨0x840040, [(0x100, 1024)], false, 0x0, 0x0, 0x0, 0x0, 0x0, 0xFFFFFFFF, some (0x800020, 0)⟩,  -- CFA_CH_PEAK
  ⟨0x840044, [(0x100, 1024)], false, 0x0, 0x0, 0x0, 0x0, 0x0, 0xFFFFFFFF, some (0x800020, 0)⟩,  -- CFA_CH_RMS
  ⟨0x840048, [(0x100, 1024)], false, 0x0, 0x0, 0x0, 0x0, 0x0, 0xFFFFFFFF, some (0x800020, 0)⟩,  -- CFA_CH_ENV
  ⟨0x840050, [(0x100, 1024)], false, 0x0, 0x0, 0x0, 0x0, 0x0, 0xFFFFFFFF, some (0x800020, 0)⟩,  -- CFA_CH_SAT_CNT
  ⟨0x840054, [(0x100, 1024)], false, 0x0, 0x0, 0x0, 0x0, 0x0, 0xFFFFFFFF, some (0x800020, 0)⟩,  -- CFA_CH_UNDERRUN_CNT
  ⟨0x840058, [(0x100, 1024)], false, 0x0, 0x0, 0x0, 0x0, 0x0, 0xFFFFFFFF, some (0x800020, 0)⟩,  -- CFA_CH_DROP_CNT
  ⟨0x84005C, [(0x100, 1024)], false, 0x0, 0x0, 0x0, 0x0, 0x0, 0xFFFFFFFF, some (0x800020, 0)⟩]  -- CFA_CH_GAP_CNT

/-- Cards: CFA_CH_HANDOVER_CNT to CFA_CH_HANDOVER_CNT. -/
def cfaChRegs2 : List RegDesc := [
  ⟨0x840060, [(0x100, 1024)], false, 0x0, 0x0, 0x0, 0x0, 0x0, 0xFFFFFFFF, some (0x800020, 0)⟩]  -- CFA_CH_HANDOVER_CNT

/-- The cards of the cfaCh block. -/
def cfaChRegs : List RegDesc := cfaChRegs1 ++ cfaChRegs2

/-- Cards: CFA_COEF to CFA_COEF. -/
def cfaCoefRegs : List RegDesc := [
  ⟨0x880000, [(0x800, 256), (0x4, 384)], false, 0x0, 0xFFFFFFFF, 0x0, 0x0, 0x0, 0x0, none⟩]  -- CFA_COEF

/-- Cards: HKC_CTRL to HKC_URGENT_RESULT. -/
def hkcRegs : List RegDesc := [
  ⟨0x900000, [], false, 0x1, 0x3, 0x0, 0x0, 0x3, 0x0, none⟩,  -- HKC_CTRL
  ⟨0x900008, [], false, 0x0, 0x0, 0x0, 0x0, 0x0, 0xFFFFFFFF, none⟩,  -- HKC_OUT_STATUS
  ⟨0x90000C, [], false, 0x10AF0, 0x1FFFF, 0x0, 0x0, 0x1FFFF, 0x0, none⟩,  -- HKC_OCD_CFG
  ⟨0x900010, [], false, 0x0, 0x0, 0xF, 0x0, 0x0, 0x0, none⟩,  -- HKC_EVT_STATUS
  ⟨0x900014, [], false, 0x0, 0x0, 0x0, 0x0, 0x0, 0xF, none⟩,  -- HKC_EVT_SNAP
  ⟨0x900018, [], false, 0x0, 0x0, 0x0, 0x1, 0x1, 0x0, none⟩,  -- HKC_CNT_CLR
  ⟨0x900020, [], false, 0x0, 0x0, 0x0, 0x0, 0x0, 0xFFFFFFFF, some (0x900018, 0)⟩,  -- HKC_PASS_CNT
  ⟨0x900024, [], false, 0x0, 0x0, 0x0, 0x0, 0x0, 0xFFFFFFFF, some (0x900018, 0)⟩,  -- HKC_URGENT_CNT
  ⟨0x900028, [], false, 0x0, 0x0, 0x0, 0x0, 0x0, 0xFFFFFFFF, some (0x900018, 0)⟩,  -- HKC_OCD_CNT
  ⟨0x90002C, [], false, 0x0, 0x0, 0x0, 0x0, 0x0, 0xFFFFFFFF, some (0x900018, 0)⟩,  -- HKC_OVERRUN_CNT
  ⟨0x900100, [(0x4, 32)], false, 0x0, 0xE000073F, 0x0, 0x0, 0xE000073F, 0x0, none⟩,  -- HKC_SEQ
  ⟨0x900180, [(0x4, 32)], false, 0xFFFF0000, 0xFFFFFFFF, 0x0, 0x0, 0xFFFFFFFF, 0x0, none⟩,  -- HKC_WIN
  ⟨0x900200, [(0x4, 32)], false, 0x0, 0x0, 0x0, 0x0, 0x0, 0x1FFFF, none⟩,  -- HKC_RESULT
  ⟨0x900300, [(0x8, 4)], false, 0x0, 0x801F003F, 0x0, 0x0, 0x801F003F, 0x0, none⟩,  -- HKC_URGENT_CFG
  ⟨0x900304, [(0x8, 4)], false, 0x0, 0x0, 0x0, 0x0, 0x0, 0x0, none⟩]  -- HKC_URGENT_RESULT

/-- Cards: PWR_STATUS to PWR_ACC_REQ. -/
def pwrRegs1 : List RegDesc := [
  ⟨0xA00000, [], false, 0x0, 0x0, 0x0, 0x0, 0x0, 0x71F03, none⟩,  -- PWR_STATUS
  ⟨0xA00004, [], false, 0x10080000, 0xFFFFFFFF, 0x0, 0x0, 0xFFFFFFFF, 0x0, none⟩,  -- PWR_CAP
  ⟨0xA00008, [], false, 0x520, 0x73F, 0x0, 0x0, 0x73F, 0x0, none⟩,  -- PWR_SHED_CFG
  ⟨0xA0000C, [], false, 0x64, 0xFF, 0x0, 0x0, 0xFF, 0x0, none⟩,  -- PWR_THERM
  ⟨0xA00010, [], false, 0x0, 0xFFFFFFFF, 0x0, 0x0, 0xFFFFFFFF, 0x0, none⟩,  -- PWR_SHED_CLU
  ⟨0xA00014, [], false, 0x0, 0x7FF, 0x0, 0x0, 0x7FF, 0x0, none⟩,  -- PWR_IO_REQ
  ⟨0xA00018, [], true, 0x0, 0xFFFFFFFFFFFFFFFF, 0x0, 0x0, 0xFFFFFFFFFFFFFFFF, 0x0, none⟩,  -- PWR_SHED_ACC
  ⟨0xA00020, [], false, 0x0, 0x0, 0x0, 0x0, 0x0, 0xFFFFFFFF, none⟩,  -- PWR_INPUT
  ⟨0xA00028, [], true, 0x0, 0x0, 0x0, 0x0, 0x0, 0xFFFFFFFFFFFFFFFF, none⟩,  -- PWR_WAKE_SOURCE
  ⟨0xA00030, [], false, 0x0, 0x0, 0x1F, 0x0, 0x0, 0x0, none⟩,  -- PWR_FAULT
  ⟨0xA00034, [], false, 0x0, 0x0, 0x3F, 0x0, 0x0, 0x0, none⟩,  -- PWR_EVT_STATUS
  ⟨0xA00038, [], false, 0x0, 0x0, 0x0, 0x0, 0x0, 0x3F, none⟩,  -- PWR_EVT_SNAP
  ⟨0xA0003C, [], false, 0x0, 0x0, 0x0, 0x1, 0x1, 0x0, none⟩,  -- PWR_CNT_CLR
  ⟨0xA00040, [], false, 0x0, 0x0, 0x0, 0x0, 0x0, 0xFFFFFFFF, some (0xA0003C, 0)⟩,  -- PWR_WAKE_RETRY_CNT
  ⟨0xA00044, [], false, 0x0, 0x0, 0x0, 0x0, 0x0, 0xFFFFFFFF, some (0xA0003C, 0)⟩,  -- PWR_WAKE_FAIL_CNT
  ⟨0xA00048, [], false, 0x0, 0x0, 0x0, 0x0, 0x0, 0xFFFFFFFF, some (0xA0003C, 0)⟩,  -- PWR_CR_CORR_CNT
  ⟨0xA0004C, [], false, 0x0, 0x0, 0x0, 0x0, 0x0, 0xFFFFFFFF, some (0xA0003C, 0)⟩,  -- PWR_CR_UNCORR_CNT
  ⟨0xA01000, [(0x4, 512)], false, 0x0, 0x3, 0x0, 0x0, 0x0, 0x0, none⟩,  -- PWR_MODE
  ⟨0xA01800, [(0x4, 32)], false, 0x0, 0x7, 0x0, 0x0, 0x7, 0x0, none⟩,  -- PWR_CLU_REQ
  ⟨0xA01900, [(0x4, 64)], false, 0x0, 0x7, 0x0, 0x0, 0x7, 0x0, none⟩]  -- PWR_ACC_REQ

/-- Cards: PWR_CLU_STATUS to PWR_ACC_STATUS. -/
def pwrRegs2 : List RegDesc := [
  ⟨0xA01880, [(0x4, 32)], false, 0x0, 0x0, 0x0, 0x0, 0x0, 0x117, none⟩,  -- PWR_CLU_STATUS
  ⟨0xA01A00, [(0x4, 64)], false, 0x0, 0x0, 0x0, 0x0, 0x0, 0x117, none⟩]  -- PWR_ACC_STATUS

/-- The cards of the pwr block. -/
def pwrRegs : List RegDesc := pwrRegs1 ++ pwrRegs2

/-- Cards: SEC_BOOT_STATUS to SEC_EXEC_ERR_CNT. -/
def secRegs1 : List RegDesc := [
  ⟨0xB00000, [], false, 0x0, 0x0, 0x0, 0x0, 0x0, 0xFFFF0F, none⟩,  -- SEC_BOOT_STATUS
  ⟨0xB00004, [], false, 0x0, 0x0, 0x0, 0x0, 0x0, 0x3, none⟩,  -- SEC_RESET_CAUSE
  ⟨0xB00008, [], false, 0x0, 0x0, 0x0, 0x0, 0x0, 0x0, none⟩,  -- SEC_FUSE_POLICY
  ⟨0xB0000C, [], false, 0x0, 0x0, 0x0, 0x0, 0x0, 0x7F3300, none⟩,  -- SEC_IMAGE_INFO
  ⟨0xB00010, [], true, 0x0, 0x0, 0x0, 0x0, 0x0, 0x0, none⟩,  -- SEC_SERIAL
  ⟨0xB00018, [], false, 0x2, 0x0, 0x0, 0x0, 0x0, 0x0, none⟩,  -- SEC_HOST_POLICY
  ⟨0xB00020, [], true, 0x0, 0x0, 0x0, 0x0, 0x0, 0x0, none⟩,  -- SEC_HOST_DRAM
  ⟨0xB00028, [], false, 0x0, 0x0, 0x0, 0x0, 0x0, 0x0, none⟩,  -- SEC_MGMT_CFG
  ⟨0xB00030, [], false, 0x0, 0x0, 0x0, 0x1FFF, 0x0, 0x0, none⟩,  -- SEC_MBOX_CTRL
  ⟨0xB00034, [], false, 0x0, 0x0, 0x2, 0x0, 0x0, 0x0, none⟩,  -- SEC_MBOX_STATUS
  ⟨0xB00038, [], true, 0x0, 0x0, 0x0, 0x0, 0x0, 0xFFFFFF03FFFFFFFF, none⟩,  -- SEC_LAST_CMD
  ⟨0xB00040, [], false, 0x0, 0x0, 0x1F, 0x0, 0x0, 0x0, none⟩,  -- SEC_EVT_STATUS
  ⟨0xB00044, [], false, 0x0, 0x0, 0x0, 0x0, 0x0, 0x1F, none⟩,  -- SEC_EVT_SNAP
  ⟨0xB00048, [], false, 0x0, 0x0, 0x0, 0x1, 0x1, 0x0, none⟩,  -- SEC_CNT_CLR
  ⟨0xB00050, [], false, 0x0, 0x0, 0x0, 0x0, 0x0, 0xFFFFFFFF, some (0xB00048, 0)⟩,  -- SEC_CMD_OK_CNT
  ⟨0xB00054, [], false, 0x0, 0x0, 0x0, 0x0, 0x0, 0xFFFFFFFF, some (0xB00048, 0)⟩,  -- SEC_TAG_FAIL_CNT
  ⟨0xB00058, [], false, 0x0, 0x0, 0x0, 0x0, 0x0, 0xFFFFFFFF, some (0xB00048, 0)⟩,  -- SEC_STALE_CNT
  ⟨0xB0005C, [], false, 0x0, 0x0, 0x0, 0x0, 0x0, 0xFFFFFFFF, some (0xB00048, 0)⟩,  -- SEC_REJECT_CNT
  ⟨0xB00060, [], false, 0x0, 0x0, 0x0, 0x0, 0x0, 0xFFFFFFFF, some (0xB00048, 0)⟩,  -- SEC_UART_ERR_CNT
  ⟨0xB00064, [], false, 0x0, 0x0, 0x0, 0x0, 0x0, 0xFFFFFFFF, some (0xB00048, 0)⟩]  -- SEC_EXEC_ERR_CNT

/-- Cards: SEC_MBOX_REQ to SEC_MBOX_RSP. -/
def secRegs2 : List RegDesc := [
  ⟨0xB01000, [(0x4, 1024)], false, 0x0, 0xFFFFFFFF, 0x0, 0x0, 0x0, 0x0, none⟩,  -- SEC_MBOX_REQ
  ⟨0xB02000, [(0x4, 1024)], false, 0x0, 0x0, 0x0, 0x0, 0x0, 0x0, none⟩]  -- SEC_MBOX_RSP

/-- The cards of the sec block. -/
def secRegs : List RegDesc := secRegs1 ++ secRegs2

/-- Cards: SPARE_CFG to SPARE_PRBS_ERR. -/
def spareRegs1 : List RegDesc := [
  ⟨0xC00000, [], false, 0x1001, 0xFFFF1F01, 0x0, 0x0, 0xFFFF1F01, 0x0, none⟩,  -- SPARE_CFG
  ⟨0xC00004, [], false, 0x20100040, 0xFFFFFFFF, 0x0, 0x0, 0xFFFFFFFF, 0x0, none⟩,  -- SPARE_THRESH
  ⟨0xC00008, [], false, 0x40000F, 0x0, 0x0, 0x0, 0x0, 0xFF010F, none⟩,  -- SPARE_STATUS
  ⟨0xC00010, [], false, 0x0, 0x0, 0x0, 0xF80001FF, 0xF80001FF, 0x0, none⟩,  -- SPARE_REQ
  ⟨0xC00014, [], false, 0x0, 0x0, 0x0, 0xF0001F7F, 0xF0001F7F, 0x0, none⟩,  -- SPARE_BIST
  ⟨0xC00018, [], false, 0x0, 0x0, 0x0, 0x0, 0x0, 0xF0001F7F, none⟩,  -- SPARE_BIST_RESULT
  ⟨0xC00020, [], true, 0x0, 0x0, 0x0, 0x0, 0x0, 0xFFFFFFFFFFFF01FF, none⟩,  -- SPARE_LAST_SWAP
  ⟨0xC00028, [], false, 0x0, 0x0, 0xF, 0x0, 0x0, 0x0, none⟩,  -- SPARE_EVT_STATUS
  ⟨0xC0002C, [], false, 0x0, 0x0, 0x0, 0x0, 0x0, 0xF, none⟩,  -- SPARE_EVT_SNAP
  ⟨0xC00030, [], false, 0x0, 0x0, 0x0, 0x1, 0x1, 0x0, none⟩,  -- SPARE_CNT_CLR
  ⟨0xC00040, [], false, 0x0, 0x0, 0x0, 0x0, 0x0, 0xFFFFFFFF, some (0xC00030, 0)⟩,  -- SPARE_SWAP_CNT
  ⟨0xC00044, [], false, 0x0, 0x0, 0x0, 0x0, 0x0, 0xFFFFFFFF, some (0xC00030, 0)⟩,  -- SPARE_ROW_CNT
  ⟨0xC00048, [], false, 0x0, 0x0, 0x0, 0x0, 0x0, 0xFFFFFFFF, some (0xC00030, 0)⟩,  -- SPARE_WIRE_CNT
  ⟨0xC0004C, [], false, 0x0, 0x0, 0x0, 0x0, 0x0, 0xFFFFFFFF, some (0xC00030, 0)⟩,  -- SPARE_BIST_FAIL_CNT
  ⟨0xC00100, [(0x8, 32)], true, 0x500000000, 0x0, 0x0, 0x0, 0x0, 0xFFFFFFFFF, none⟩,  -- SPARE_ENG_MAP
  ⟨0xC00200, [(0x4, 32)], false, 0xFF, 0x0, 0x0, 0x0, 0x0, 0x1F00FF, none⟩,  -- SPARE_AGE_CLU
  ⟨0xC00300, [(0x4, 68)], false, 0xFF, 0x0, 0x0, 0x0, 0x0, 0x1F00FF, none⟩,  -- SPARE_AGE_ACC
  ⟨0xC00500, [(0x4, 48)], false, 0x0, 0x0, 0x0, 0x0, 0x0, 0xFFFF, none⟩,  -- SPARE_LINK_WIRES
  ⟨0xC00800, [(0x4, 32)], false, 0x100, 0x77F, 0x0, 0x0, 0x77F, 0x0, none⟩,  -- SPARE_LOOP_LANE
  ⟨0xC00880, [(0x4, 32)], false, 0x0, 0x0, 0x0, 0x0, 0x0, 0xFFFFFFFF, none⟩]  -- SPARE_PRBS_ERR

/-- Cards: SPARE_LOOP_MAC to SPARE_LOOP_TIME. -/
def spareRegs2 : List RegDesc := [
  ⟨0xC00900, [], false, 0x0, 0x1FFFF, 0x0, 0x0, 0x1FFFF, 0x0, none⟩,  -- SPARE_LOOP_MAC
  ⟨0xC00904, [], false, 0x0, 0xFFFFFFFF, 0x0, 0x0, 0xFFFFFFFF, 0x0, none⟩,  -- SPARE_LOOP_LINE
  ⟨0xC00908, [], false, 0x0, 0x3, 0x0, 0x0, 0x3, 0x0, none⟩]  -- SPARE_LOOP_TIME

/-- The cards of the spare block. -/
def spareRegs : List RegDesc := spareRegs1 ++ spareRegs2

/-- Cards: REC_CTRL to REC_DIVERGE_CNT. -/
def recRegs : List RegDesc := [
  ⟨0xD00000, [], false, 0x0, 0x1, 0x0, 0x2, 0x1, 0x0, none⟩,  -- REC_CTRL
  ⟨0xD00004, [], false, 0x0, 0xC0FFFFFF, 0x0, 0x0, 0xC0FFFFFF, 0x0, none⟩,  -- REC_CFG
  ⟨0xD00008, [], true, 0x0, 0xFFFFFFFFFFF00000, 0x0, 0x0, 0xFFFFFFFFFFF00000, 0x0, none⟩,  -- REC_RING
  ⟨0xD00010, [], false, 0x0, 0x1FFFF, 0x0, 0x0, 0x1FFFF, 0x0, none⟩,  -- REC_SRC_MAC
  ⟨0xD00014, [], false, 0x0, 0xFFFFFFFF, 0x0, 0x0, 0xFFFFFFFF, 0x0, none⟩,  -- REC_SRC_LANE
  ⟨0xD00018, [], false, 0x0, 0x3F, 0x0, 0x0, 0x3F, 0x0, none⟩,  -- REC_SRC
  ⟨0xD0001C, [], false, 0x0, 0x80000FFF, 0x0, 0x0, 0x80000FFF, 0x0, none⟩,  -- REC_TRIG_CFG
  ⟨0xD00020, [], false, 0x0, 0x0, 0x0, 0x0, 0x0, 0xF7, none⟩,  -- REC_STATUS
  ⟨0xD00028, [], true, 0x0, 0x0, 0x0, 0x0, 0x0, 0xFFFFFFFFFFFFFFFF, none⟩,  -- REC_WR
  ⟨0xD00030, [], true, 0x0, 0x0, 0x0, 0x0, 0x0, 0xFFFFFFFFFFFFFFFF, none⟩,  -- REC_TRIG_POS
  ⟨0xD00038, [], true, 0x0, 0x0, 0x0, 0x0, 0x0, 0xFFFFFFFFFFFFFFFF, none⟩,  -- REC_CAP_WR
  ⟨0xD00040, [], false, 0x0, 0x0, 0xF, 0x0, 0x0, 0x0, none⟩,  -- REC_EVT_STATUS
  ⟨0xD00044, [], false, 0x0, 0x0, 0x0, 0x0, 0x0, 0xF, none⟩,  -- REC_EVT_SNAP
  ⟨0xD00048, [], false, 0x0, 0x0, 0x0, 0x1, 0x1, 0x0, none⟩,  -- REC_CNT_CLR
  ⟨0xD00050, [], false, 0x0, 0x0, 0x0, 0x0, 0x0, 0xFFFFFFFF, some (0xD00048, 0)⟩,  -- REC_RECORD_CNT
  ⟨0xD00054, [], false, 0x0, 0x0, 0x0, 0x0, 0x0, 0xFFFFFFFF, some (0xD00048, 0)⟩,  -- REC_DROP_CNT
  ⟨0xD00058, [], false, 0x0, 0x0, 0x0, 0x0, 0x0, 0xFFFFFFFF, some (0xD00048, 0)⟩,  -- REC_CAPTURE_CNT
  ⟨0xD0005C, [], false, 0x0, 0x0, 0x0, 0x0, 0x0, 0xFFFFFFFF, some (0xD00048, 0)⟩]  -- REC_DIVERGE_CNT

/-- Cards: PCIE_LINK_STATUS to PCIE_PBA. -/
def pcieRegs : List RegDesc := [
  ⟨0xE00000, [], false, 0x0, 0x0, 0x0, 0x0, 0x0, 0x0, none⟩,  -- PCIE_LINK_STATUS
  ⟨0xE00008, [], true, 0x100000000, 0xFFFF00000000, 0x0, 0x0, 0xFFFF00000000, 0x0, none⟩,  -- PCIE_FWIN_BASE
  ⟨0xE00010, [], false, 0x0, 0x0, 0x3, 0x0, 0x0, 0x0, none⟩,  -- PCIE_EVT_STATUS
  ⟨0xE00014, [], false, 0x0, 0x0, 0x0, 0x0, 0x0, 0x3, none⟩,  -- PCIE_EVT_SNAP
  ⟨0xE00018, [], false, 0x0, 0x0, 0x0, 0x1, 0x1, 0x0, none⟩,  -- PCIE_CNT_CLR
  ⟨0xE00020, [], false, 0x0, 0x0, 0x0, 0x0, 0x0, 0xFFFFFFFF, some (0xE00018, 0)⟩,  -- PCIE_HOST_REFUSED_CNT
  ⟨0xE00024, [], false, 0x0, 0x0, 0x0, 0x0, 0x0, 0xFFFFFFFF, some (0xE00018, 0)⟩,  -- PCIE_MSIX_DROP_CNT
  ⟨0xE00028, [], false, 0x0, 0x0, 0x0, 0x0, 0x0, 0xFFFFFFFF, some (0xE00018, 0)⟩,  -- PCIE_LINK_DOWN_CNT
  ⟨0xE10000, [(0x10, 2048), (0x8, 2)], true, 0x0, 0xFFFFFFFFFFFFFFFF, 0x0, 0x0, 0x0, 0x0, none⟩,  -- PCIE_MSIX
  ⟨0xE18000, [(0x8, 32)], true, 0x0, 0x0, 0x0, 0x0, 0x0, 0x0, none⟩]  -- PCIE_PBA

/-- Cards: ACC_ID to ACC_KIND_CNT. -/
def accRegs : List RegDesc := [
  ⟨0x1000000, [(0x10000, 68)], false, 0x10000, 0x0, 0x0, 0x0, 0x0, 0x0, none⟩,  -- ACC_ID
  ⟨0x1000004, [(0x10000, 68)], false, 0x100001, 0x1F0001, 0x0, 0x2, 0x1F0001, 0x0, none⟩,  -- ACC_CTRL
  ⟨0x1000008, [(0x10000, 68)], false, 0x0, 0x0, 0x0, 0x0, 0x0, 0x1F0007, none⟩,  -- ACC_STATUS
  ⟨0x100000C, [(0x10000, 68)], false, 0x0, 0x0, 0xF, 0x0, 0x0, 0x0, none⟩,  -- ACC_EVT_STATUS
  ⟨0x1000010, [(0x10000, 68)], false, 0x0, 0x0, 0x0, 0x0, 0x0, 0xF, none⟩,  -- ACC_EVT_SNAP
  ⟨0x1000014, [(0x10000, 68)], false, 0x0, 0x0, 0x0, 0x0, 0x0, 0xFFFFFF, none⟩,  -- ACC_LAST_REFUSE
  ⟨0x1000018, [(0x10000, 68)], false, 0x0, 0x0, 0x0, 0x0, 0x0, 0x1FF, none⟩,  -- ACC_LAST_REFUSE_ENG
  ⟨0x1000020, [(0x10000, 68)], false, 0x0, 0x0, 0x0, 0x0, 0x0, 0xFFFFFFFF, some (0x1000048, 1)⟩,  -- ACC_ACCEPT_CNT
  ⟨0x1000024, [(0x10000, 68)], false, 0x0, 0x0, 0x0, 0x0, 0x0, 0xFFFFFFFF, some (0x1000048, 1)⟩,  -- ACC_BUSY_CNT
  ⟨0x1000028, [(0x10000, 68)], false, 0x0, 0x0, 0x0, 0x0, 0x0, 0xFFFFFFFF, some (0x1000048, 1)⟩,  -- ACC_REFUSE_CNT
  ⟨0x100002C, [(0x10000, 68)], false, 0x0, 0x0, 0x0, 0x0, 0x0, 0xFFFFFFFF, some (0x1000048, 1)⟩,  -- ACC_DONE_CNT
  ⟨0x1000030, [(0x10000, 68)], false, 0x0, 0x0, 0x0, 0x0, 0x0, 0xFFFFFFFF, some (0x1000048, 1)⟩,  -- ACC_ORPHAN_CNT
  ⟨0x1000034, [(0x10000, 68)], false, 0x0, 0x0, 0x0, 0x0, 0x0, 0xFFFFFFFF, some (0x1000048, 1)⟩,  -- ACC_EXPIRED_CNT
  ⟨0x1000038, [(0x10000, 68)], false, 0x0, 0x0, 0x0, 0x0, 0x0, 0xFFFFFFFF, some (0x1000048, 1)⟩,  -- ACC_JOB_ERR_CNT
  ⟨0x1000040, [(0x10000, 68)], true, 0x0, 0x0, 0x0, 0x0, 0x0, 0xFFFFFFFFFFFFFFFF, some (0x1000048, 1)⟩,  -- ACC_ACTIVE_CYCLES
  ⟨0x1000048, [(0x10000, 68)], false, 0x0, 0x0, 0x0, 0x1, 0x1, 0x0, none⟩,  -- ACC_CNT_CLR
  ⟨0x1000100, [(0x10000, 68)], false, 0x0, 0x0, 0x0, 0x0, 0x0, 0xFFFFFFFF, some (0x1000048, 1)⟩,  -- ACC_MEM_CORR_CNT
  ⟨0x1000104, [(0x10000, 68)], false, 0x0, 0x0, 0x0, 0x0, 0x0, 0xFFFFFFFF, some (0x1000048, 1)⟩,  -- ACC_MEM_UNCORR_CNT
  ⟨0x1000110, [(0x10000, 68), (0x4, 4)], false, 0x0, 0x0, 0x0, 0x0, 0x0, 0xFFFFFFFF, some (0x1000048, 1)⟩]  -- ACC_KIND_CNT

/-- Cards: ENG_CTRL to VEC_CFG. -/
def engRegs1 : List RegDesc := [
  ⟨0x2000000, [(0x1000, 512)], false, 0x1, 0x1, 0x0, 0xE, 0x0, 0x0, none⟩,  -- ENG_CTRL
  ⟨0x2000004, [(0x1000, 512)], false, 0x5, 0x0, 0x0, 0x0, 0x0, 0x1F007F, none⟩,  -- ENG_STATUS
  ⟨0x2000008, [(0x1000, 512)], false, 0x0, 0xFFFC, 0x0, 0x0, 0x0, 0x0, none⟩,  -- ENG_START_PC
  ⟨0x200000C, [(0x1000, 512)], false, 0x0, 0x0, 0x0, 0x0, 0x0, 0x0, none⟩,  -- ENG_PC
  ⟨0x2000010, [(0x1000, 512)], false, 0x0, 0xFFFFFFFF, 0x0, 0x0, 0x0, 0x0, none⟩,  -- ENG_IRQ_EN
  ⟨0x2000014, [(0x1000, 512)], false, 0x0, 0x0, 0xFFFFFFFF, 0x0, 0x0, 0x0, none⟩,  -- ENG_IRQ_PEND
  ⟨0x2000018, [(0x1000, 512)], false, 0x0, 0x0, 0x0, 0xFFFFFFFF, 0x0, 0x0, none⟩,  -- ENG_IRQ_SET
  ⟨0x200001C, [(0x1000, 512)], false, 0x0, 0xFFFFFF, 0x0, 0x0, 0xFFFFFF, 0x0, none⟩,  -- ENG_IRQ_WAIT_LIMIT
  ⟨0x2000020, [(0x1000, 512)], false, 0x0, 0x0, 0x0, 0x0, 0x0, 0xFFFFFFFF, some (0x2000050, 1)⟩,  -- ENG_IRQ_LAT_MAX
  ⟨0x2000024, [(0x1000, 512)], false, 0x0, 0x0, 0x0, 0x0, 0x0, 0xFFFFFFFF, none⟩,  -- ENG_LAST_TRAP
  ⟨0x2000028, [(0x1000, 512)], false, 0x0, 0x0, 0x0, 0x0, 0x0, 0xFFFC, none⟩,  -- ENG_LAST_TRAP_PC
  ⟨0x200002C, [(0x1000, 512)], false, 0x0, 0x0, 0x7, 0x0, 0x0, 0x0, none⟩,  -- ENG_EVT_STATUS
  ⟨0x2000030, [(0x1000, 512)], true, 0x0, 0x0, 0x0, 0x0, 0x0, 0xFFFFFFFFFFFFFFFF, some (0x2000050, 1)⟩,  -- ENG_CYCLE_CNT
  ⟨0x2000038, [(0x1000, 512)], true, 0x0, 0x0, 0x0, 0x0, 0x0, 0xFFFFFFFFFFFFFFFF, some (0x2000050, 1)⟩,  -- ENG_ISSUE_CNT
  ⟨0x2000040, [(0x1000, 512)], false, 0x0, 0x0, 0x0, 0x0, 0x0, 0xFFFFFFFF, some (0x2000050, 1)⟩,  -- ENG_STALL_CNT
  ⟨0x2000044, [(0x1000, 512)], false, 0x0, 0x0, 0x0, 0x0, 0x0, 0xFFFFFFFF, some (0x2000050, 1)⟩,  -- ENG_TRAP_CNT
  ⟨0x2000048, [(0x1000, 512)], false, 0x0, 0x0, 0x0, 0x0, 0x0, 0xFFFFFFFF, some (0x2000050, 1)⟩,  -- ENG_IRQ_CNT
  ⟨0x200004C, [(0x1000, 512)], false, 0x0, 0x0, 0x0, 0x0, 0x0, 0xFFFFFFFF, some (0x2000050, 1)⟩,  -- ENG_ECC_CNT
  ⟨0x2000050, [(0x1000, 512)], false, 0x0, 0x0, 0x0, 0x1, 0x1, 0x0, none⟩,  -- ENG_CNT_CLR
  ⟨0x2000080, [(0x1000, 512)], false, 0x40, 0x0, 0x0, 0x0, 0x0, 0x0, none⟩]  -- VEC_CFG

/-- Cards: VEC_PWR_CTRL to VEC_ISSUE_CNT. -/
def engRegs2 : List RegDesc := [
  ⟨0x2000084, [(0x1000, 512)], false, 0x1000, 0x1FFFF, 0x0, 0x0, 0x1FFFF, 0x0, none⟩,  -- VEC_PWR_CTRL
  ⟨0x2000088, [(0x1000, 512)], false, 0x2000000, 0x0, 0x0, 0x0, 0x0, 0x37F3F1F, none⟩,  -- VEC_STATUS
  ⟨0x200008C, [(0x1000, 512)], false, 0x0, 0x0, 0x0, 0x0, 0x0, 0xFFFFFFFF, some (0x2000098, 1)⟩,  -- VEC_WAKE_CNT
  ⟨0x2000090, [(0x1000, 512)], false, 0x0, 0x0, 0x0, 0x0, 0x0, 0xFFFFFFFF, some (0x2000098, 1)⟩,  -- VEC_FAULT_CNT
  ⟨0x2000094, [(0x1000, 512)], false, 0x0, 0x0, 0x0, 0x0, 0x0, 0xFFFFFFFF, some (0x2000098, 1)⟩,  -- VEC_GATHER_CNT
  ⟨0x2000098, [(0x1000, 512)], false, 0x0, 0x0, 0x0, 0x1, 0x1, 0x0, none⟩,  -- VEC_CNT_CLR
  ⟨0x20000A0, [(0x1000, 512)], true, 0x0, 0x0, 0x0, 0x0, 0x0, 0xFFFFFFFFFFFFFFFF, some (0x2000098, 1)⟩]  -- VEC_ISSUE_CNT

/-- The cards of the eng block. -/
def engRegs : List RegDesc := engRegs1 ++ engRegs2

/-- The blocks of CSR space (R9): first offset, first offset past it, cards. -/
def regBlocks : List (Nat × Nat × List RegDesc) := [
  (0x0, 0x10000, devRegs),
  (0x10000, 0x20000, roundRegs),
  (0x20000, 0x100000, evtRegs),
  (0x100000, 0x180000, churnRegs),
  (0x200000, 0x201000, nocRegs),
  (0x201000, 0x220000, rtrRegs),
  (0x220000, 0x300000, niRegs),
  (0x300000, 0x308000, sdmaRegs),
  (0x308000, 0x310000, dramRegs),
  (0x310000, 0x340000, cdmaRegs),
  (0x400000, 0x500000, laneRegs),
  (0x500000, 0x600000, macRegs),
  (0x600000, 0x700000, timeRegs),
  (0x700000, 0x701000, lineRegs),
  (0x701000, 0x710000, linePairRegs),
  (0x710000, 0x720000, mac16Regs),
  (0x800000, 0x840000, cfaRegs),
  (0x840000, 0x880000, cfaChRegs),
  (0x880000, 0x900000, cfaCoefRegs),
  (0x900000, 0xA00000, hkcRegs),
  (0xA00000, 0xB00000, pwrRegs),
  (0xB00000, 0xC00000, secRegs),
  (0xC00000, 0xD00000, spareRegs),
  (0xD00000, 0xE00000, recRegs),
  (0xE00000, 0xF00000, pcieRegs),
  (0x1000000, 0x1440000, accRegs),
  (0x2000000, 0x2200000, engRegs)]

end Sys2Proof.Machine
end

