-- ==== Sys2Proof/Machine/RegFile.lean ====
section
/-! DEFINITION. Finding a register card by CSR offset (R9 to R12), and the reset values of registers, those that differ
per instance included. -/
namespace Sys2Proof.Machine

/-- The remainder of `r` after the instance strides of a card, or none where an index is out of range. -/
def dimRem : List (Nat × Nat) → Nat → Option Nat
  | [], r => some r
  | (s, c) :: t, r => if r / s < c then dimRem t (r % s) else none

/-- Does `off` lie in a register of this card: some 0 at its offset, some 4 at the high half of a 64-bit register. -/
def RegDesc.hit (d : RegDesc) (off : Nat) : Option Nat :=
  if off < d.off then none
  else match dimRem d.dims (off - d.off) with
    | some r => if r = 0 then some 0 else if r = 4 ∧ d.wide = true then some 4 else none
    | none => none

/-- The first card of a list that `off` lies in, with the remainder within the register. -/
def findDesc : List RegDesc → Nat → Option (RegDesc × Nat)
  | [], _ => none
  | d :: t, off => match d.hit off with
    | some r => some (d, r)
    | none => findDesc t off

/-- The card for `off`, over the blocks of CSR space. -/
def findIn : List (Nat × Nat × List RegDesc) → Nat → Option (RegDesc × Nat)
  | [], _ => none
  | (lo, hi, l) :: t, off => if lo ≤ off ∧ off < hi then
      (match findDesc l off with
       | some x => some x
       | none => findIn t off)
    else findIn t off

/-- The kind of accelerator slot `k`, coded as KIND in R137: 1 LD, 2 EN, 3 PD, 4 TD, 5 FT, 6 MD (R154). -/
def slotKind (k : Nat) : Nat :=
  if k < 24 then 1 else if k < 28 then 2 else if k < 36 then 3 else if k < 44 then 5
  else if k < 52 then 4 else if k < 64 then 6
  else if k = 64 then 1 else if k = 65 then 6 else if k = 66 then 5 else 3

/-- Kind counters at 0x110 that a kind implements (R188). -/
def kindCounters (kind : Nat) : Nat :=
  if kind = 1 ∨ kind = 4 then 4 else if kind = 3 ∨ kind = 5 then 2 else if kind = 2 then 1 else 3

/-- The node and port of accelerator slot `k` (R221, R222). -/
def slotPlace (k : Nat) : Nat × Nat :=
  if k < 32 then (8 + (5 * k) % 32, 1) else if k < 64 then (8 + (5 * (k - 32)) % 32, 2)
  else if k = 64 then (1, 2) else if k = 65 then (5, 2) else if k = 66 then (41, 1) else (45, 1)

/-- Does an agent attach at port `p` of node `n` (R221, R222)? -/
def niExists (n p : Nat) : Bool :=
  if 8 ≤ n ∧ n < 40 then decide (p < 3)
  else match n with
    | 0 => decide (p < 2) | 1 => decide (p < 3) | 2 => decide (p < 2) | 3 => decide (p < 2)
    | 4 => decide (p < 2) | 5 => decide (p < 3) | 6 => decide (p < 2) | 7 => decide (p < 2)
    | 40 => decide (p < 2) | 41 => decide (p < 2) | 42 => decide (p < 2) | 43 => decide (p < 3)
    | 44 => decide (p < 4) | 45 => decide (p < 2) | 46 => decide (p < 2) | 47 => decide (p < 1)
    | _ => false

/-- The transactions in flight allowed to the NI at n.p (R240); ports the table does not list have none. -/
def niLimit (n p : Nat) : Nat :=
  if 8 ≤ n ∧ n < 40 then (if p = 0 then 512 else 64)
  else match n, p with
    | 3, 1 => 4096 | 4, 1 => 2048 | 43, 2 => 1024 | 42, 1 => 256 | 43, 0 => 256
    | 40, 1 => 1024 | 46, 1 => 1024 | 43, 1 => 64 | 44, 0 => 64 | 44, 1 => 64 | 44, 2 => 32 | 44, 3 => 32
    | 1, 1 => 32 | 5, 1 => 32 | 2, 1 => 32 | 6, 1 => 32 | 41, 0 => 32 | 45, 0 => 32 | 42, 0 => 32 | 46, 0 => 32
    | 0, 0 => 256 | 1, 0 => 256 | 2, 0 => 256 | 5, 0 => 256 | 6, 0 => 256 | 7, 0 => 256 | 3, 0 => 256 | 4, 0 => 256
    | _, _ => 0

/-- The links node `n` has: bit 0 N, 1 E, 2 S, 3 W (R220, R258). -/
def nodeLinks (n : Nat) : Nat :=
  b2n (decide (8 ≤ n)) + 2 * b2n (decide (n % 8 < 7)) + 4 * b2n (decide (n < 40)) + 8 * b2n (decide (0 < n % 8))

/-- The directions of the XY path between two nodes: 0 N, 1 E, 2 S, 3 W. -/
def xyDirs (a b : Nat) : List Nat :=
  (if a % 8 ≤ b % 8 then List.replicate (b % 8 - a % 8) 1 else List.replicate (a % 8 - b % 8) 3) ++
  (if a / 8 ≤ b / 8 then List.replicate (b / 8 - a / 8) 2 else List.replicate (a / 8 - b / 8) 0)

/-- Turn codes of a path already travelling in direction `d` (R232): 0 straight on, 1 left, 2 right, 3 eject. -/
def turnCodes (d : Nat) : List Nat → List Nat
  | [] => [3]
  | e :: t => (if e = d then 0 else if (e + 1) % 4 = d then 1 else 2) :: turnCodes e t

/-- The CODES field of a list of turn codes (R231). -/
def packCodes : List Nat → Nat
  | [] => 0
  | c :: t => c + 4 * packCodes t

/-- CODES of the XY route from node `a` to node `b`; zero for the NI's own node, where CODES is ignored (R232). -/
def xyCodes (a b : Nat) : Nat :=
  match xyDirs a b with
  | [] => 0
  | d :: t => packCodes (d :: turnCodes d t)

/-- Default entry `i` of an NI at node `n` from reset (R234). -/
def routeReset (n i : Nat) : Nat :=
  if i < 48 then 2 ^ 63 + i * 2 ^ 42 + xyCodes n i else 0

/-- Registers of the card table that do not exist at this instance (R153, R188, R259, R292). -/
def regAbsent (off : Nat) : Bool :=
  if 0x220000 ≤ off ∧ off < 0x2E0000 then
    let n := (off - 0x220000) / 0x4000
    let p := (off - 0x220000) % 0x4000 / 0x800
    let r := (off - 0x220000) % 0x800
    !(niExists n p) || (decide (0x480 ≤ r) && !(decide (8 ≤ n ∧ n < 40 ∧ p = 0)))
  else if 0x1000000 ≤ off ∧ off < 0x1440000 then
    let k := (off - 0x1000000) / 0x10000
    let r := (off - 0x1000000) % 0x10000
    decide (0x110 ≤ r) && decide (kindCounters (slotKind k) ≤ (r - 0x110) / 4)
  else false

/-- The card of the register at `off`, if one is implemented there (R12). -/
def findReg (off : Nat) : Option (RegDesc × Nat) :=
  if regAbsent off then none else findIn regBlocks off

/-- Reset values that differ per instance (R104, R153, R258, R259, R426) or that no card gives (PCI Express layouts, log 13). -/
def resetSpecial (off : Nat) (v : Nat) : Nat :=
  if 0x2000000 ≤ off ∧ off < 0x2200000 ∧ off % 0x1000 = 4 then 5 + 0x10000 * ((off - 0x2000000) / 0x1000 % 16)
  else if 0x1000000 ≤ off ∧ off < 0x1440000 ∧ off % 0x10000 = 0 then
    slotKind ((off - 0x1000000) / 0x10000) * 0x1000000 + 0x10000 + (off - 0x1000000) / 0x10000
  else if 0x201000 ≤ off ∧ off < 0x201C00 ∧ off % 0x40 = 0 then 0x2000 + nodeLinks ((off - 0x201000) / 0x40)
  else if 0x201000 ≤ off ∧ off < 0x201C00 ∧ off % 0x40 = 4 then nodeLinks ((off - 0x201000) / 0x40)
  else if 0x220000 ≤ off ∧ off < 0x2E0000 ∧ off % 0x800 < 0x200 then
    routeReset ((off - 0x220000) / 0x4000) ((off - 0x220000) % 0x800 / 8)
  else if 0x220000 ≤ off ∧ off < 0x2E0000 ∧ (off - 0x220000) % 0x800 = 0x410 then
    0x10000 * niLimit ((off - 0x220000) / 0x4000) ((off - 0x220000) % 0x4000 / 0x800)
  else if off = 0x710004 then 0x30
  else if off = 0x7100A0 then 0
  else if 0xE10000 ≤ off ∧ off < 0xE18000 ∧ off % 16 = 8 then 0x100000000
  else v

/-- The reset value of the register at `off` (zero where none is). -/
def resetOf (off : Nat) : DWord :=
  match findReg off with
  | some (d, 0) => dw (resetSpecial off d.reset)
  | _ => 0

end Sys2Proof.Machine
end

