-- ==== Sys2Proof/Machine/Table.lean ====
section
/-! DEFINITION. Sparse tables: sorted lists of keys and values in one canonical form, used for memory, the CSR file
and every numbered family of units. -/
namespace Sys2Proof.Machine

/-- What key `k` holds in table `t`: the listed value, or the default of that key. -/
def tabGet {α : Type} (d : Nat → α) : List (Nat × α) → Nat → α
  | [], k => d k
  | (j, v) :: t, k => if k = j then v else tabGet d t k

/-- Table `t` without key `k`. -/
def tabDrop {α : Type} : List (Nat × α) → Nat → List (Nat × α)
  | [], _ => []
  | (j, v) :: t, k => if j = k then tabDrop t k else (j, v) :: tabDrop t k

/-- The pair of key `k` put in its place by order. -/
def tabPut {α : Type} : List (Nat × α) → Nat → α → List (Nat × α)
  | [], k, v => [(k, v)]
  | (j, w) :: t, k, v => if k < j then (k, v) :: (j, w) :: t else (j, w) :: tabPut t k v

/-- Table `t` with key `k` holding `v`: the key stays in order, and a key that holds its default is not listed. -/
def tabSet {α : Type} [DecidableEq α] (d : Nat → α) (t : List (Nat × α)) (k : Nat) (v : α) : List (Nat × α) :=
  if v = d k then tabDrop t k else tabPut (tabDrop t k) k v

/-- The canonical form from key `lo` on: keys strictly rising, no key listed with its default. -/
def tabWfFrom {α : Type} [DecidableEq α] (d : Nat → α) (lo : Nat) : List (Nat × α) → Bool
  | [] => true
  | (k, v) :: t => decide (lo ≤ k) && decide (v ≠ d k) && tabWfFrom d (k + 1) t

/-- The canonical form of a table. -/
def tabWf {α : Type} [DecidableEq α] (d : Nat → α) (t : List (Nat × α)) : Bool := tabWfFrom d 0 t

/-- Table `t` with the value at key `k` passed through `f`. -/
def tabMod {α : Type} [DecidableEq α] (d : Nat → α) (t : List (Nat × α)) (k : Nat) (f : α → α) : List (Nat × α) :=
  tabSet d t k (f (tabGet d t k))

end Sys2Proof.Machine
end

