-- ==== Sys2Proof/Machine/State.lean ====
section
/-! DEFINITION. The state of the CM-5120 as plain data. Register fields the manual maps in CSR space live in `Csr`,
keyed by their CSR offset; everything else the manual gives a unit lives in that unit's structure. -/
namespace Sys2Proof.Machine

/-! ## CSR file, Round unit, event router (01) -/

/-- A committed write waiting in a shadow (R31): register, the bits written, their new value, the initiator. -/
structure Shadow where
  off : Nat
  mask : Nat
  value : Nat
  src : Nat
deriving DecidableEq, Repr

/-- A register access held by the commit window (R28), or a stamp read held by earlier writes (R34): through the live mirror or not, and the
packet that carries it, if one does. -/
structure Access where
  src : Nat
  off : Nat
  wide : Bool
  write : Bool
  value : Nat
  mirror : Bool := false
  id : Option Nat := none
deriving DecidableEq, Repr

/-- The CSR file: values in effect, the snapshot of the last commit (R35), shadows (R31), accesses stalled in the
commit window (R28), one stamp per initiator (R34), and the answer the last direct access drew, with its mark TASK_END (R204). -/
structure Csr where
  live : List (Nat × DWord) := []
  snap : List (Nat × DWord) := []
  snapSeq : Nat := 0
  shadow : List Shadow := []
  stalled : List Access := []
  stamps : List (Nat × DWord) := []
  respCode : Nat := 0
  respData : DWord := 0
  respEnd : Bool := false
deriving DecidableEq, Repr

/-- The Round plan in progress (R43 to R46): its base, count, the number that marks its fetches, fetched entries by index, the next entry to issue
and the classes halted when it began. A fetch failure cuts the count. -/
structure Plan where
  active : Bool := false
  base : Nat := 0
  count : Nat := 0
  tag : Nat := 0
  fetched : List (Nat × List Byte) := []
  nextIssue : Nat := 0
  halted : Nat := 0
deriving DecidableEq, Repr

/-- The Round unit beyond its registers (R20 to R53). `sinceC0` counts the time-counter steps since C0 of the last commit; the commit window
is open during the first 48 (R27). `grid` is the grid index of the boundary that began the Round, `endGrid` that of its end (R548). `stage` numbers
the cycles of a commit sequence that raise events, 0 outside one (R55). -/
structure Round where
  leftState : Nat := 2
  started : Bool := false
  sinceC0 : Nat := 48
  stage : Nat := 0
  grid : Nat := 0
  endGrid : Nat := 0
  beyondP : Bool := false
  overlong : Bool := false
  blanked : Bool := false
  slipPending : Nat := 0
  skippedTo : Nat := 0
  startTod : Nat := 0
  plan : Plan := {}
deriving DecidableEq, Repr

/-- One event occurrence: its number and its instance (R55); from bit 16 on `inst` carries the value its token takes where a rule names one
(R57, R403). `cyc` tells the cycles of one commit sequence apart. -/
structure Occurrence where
  num : Nat
  inst : Nat
  cyc : Nat := 0
deriving DecidableEq, Repr

/-! ## Fabric (07) -/

/-- Who sends a packet or takes an answer. -/
inductive Agent where
  | host | plan | evt | sec | pwr | recorder | lineport | hkc | timeUnit
  | eng (n : Nat) | dma (e ch : Nat) | acc (k : Nat) | churn (s : Nat) | cfa (ch : Nat)
  | mac (m : Nat) | fhg (m : Nat) | lane (l : Nat) | coll (c : Nat)
deriving DecidableEq, Repr

/-- A reduction packet (R243): the collector's node, every value of the partial sum exact, `cnt` contributions held. -/
structure RedPkt where
  tag : Nat
  coll : Nat
  typ : Nat
  len : Nat
  n : Nat
  cnt : Nat
  sum : List Int
deriving DecidableEq, Repr

/-- What a packet carries. -/
inductive Payload where
  | read (len : Nat)
  | write (bs : List Byte)
  | cop (slot opc desc eng : Nat)
  | token (slice ctx slot : Nat) (value : Nat)
  | arm (slice ctx : Nat)
  | cancel (slice ctx : Nat)
  | withdraw (k eng : Nat)
  | kill (eng : Nat)
  | killAck (slice eng : Nat)
  | dmaStart (e ch addr : Nat)
  | handover (half first count : Nat)
  | redSetup (node tag count cls : Nat)
  | red (pkt : RedPkt)
deriving DecidableEq, Repr

/-- Where a packet is: held at its NI by the limit of R240, by a drain (R253) or behind a booking (R242); turned away with NACK, its BOOK sent,
queued or denied (R242); in a guard's slot; on its way; accepted by its target's NI; served; its answer discarded by a router (R253). -/
inductive Stage where
  | heldLimit | heldDrain | heldBook | nacked | bookSent | booked | denied | guardSlot | sent | accepted | served | lost
deriving DecidableEq, Repr

/-- One packet and, for a request, its transaction (R229, R236 to R240). `noticed` says its acceptance notice has reached
the originating NI, `ans` holds the answer that waits for its agent, `late` that its timer ran out first, `freed` that its place was
freed before the late answer came; `arr` numbers acceptances at targets, `inj` injections; `held` says it has waited at its NI since it was handed
over; `entry` is the route entry it took and `path` lists the links (node, direction) on it. -/
structure Txn where
  id : Nat
  agent : Agent
  use : Nat
  src : Nat
  cls : Nat
  addr : Nat
  body : Payload
  posted : Bool
  aw : Bool
  node : Nat
  port : Nat
  stage : Stage
  noticed : Bool := false
  ans : Option (Nat × List Byte) := none
  late : Bool := false
  freed : Bool := false
  arr : Nat := 0
  inj : Nat := 0
  held : Bool := false
  entry : Nat := 0
  path : List (Nat × Nat) := []
deriving DecidableEq, Repr

/-- A port guard (R241): packets in its holding slots, the booking queue, and packets released from the slots and not yet accepted, oldest first. -/
structure Guard where
  slots : List Nat := []
  booked : List Nat := []
  out : List Nat := []
deriving DecidableEq, Repr

/-- One reduction at a collector (R247): setup values, what has arrived, and where delivery stands
(0 collecting, 1 table entry read, 2 result write issued). -/
structure Reduction where
  tag : Nat
  n : Nat
  cls : Nat
  setRound : Nat
  booked : Nat
  typ : Nat := 0
  len : Nat := 0
  cnt : Nat := 0
  sum : List Int := []
  excess : Bool := false
  phase : Nat := 0
  entry : List Byte := []
deriving DecidableEq, Repr

/-- The fabric beyond its registers. Routes and router settings in use differ from the committed ones while a drain runs
(R252, R253); `routes` lists entries keyed node × 512 + port × 64 + index, `rtr` settings keyed by node; `redBufs` holds the
reduce buffers of each router (R245) as the packet that will leave, its `path` the links still ahead. -/
structure Noc where
  nextId : Nat := 0
  arrivals : Nat := 0
  injections : Nat := 0
  txns : List Txn := []
  routes : List (Nat × DWord) := []
  rtr : List (Nat × Nat) := []
  drainNodes : List Nat := []
  draining : Bool := false
  slow : Bool := false
  linkOut : List Nat := []
  guards : List (Nat × Guard) := []
  redBufs : List (Nat × List Txn) := []
  reductions : List (Nat × List Reduction) := []
deriving DecidableEq, Repr

/-! ## Memory (08) -/

/-- The bytes of the fabric address map (R260) in canonical form, and the ECC words that carry a poison code (R267, R270). -/
structure Memory where
  cells : List Host.Cell := []
  poison : List Nat := []
deriving DecidableEq, Repr

/-- A DMA channel beyond its registers (R277 to R287): DMA_CH_CFG and DMA_CH_TOKEN as they stood at activation, the Round of the activation,
a fetch to issue (`want`), a fetch outstanding (1 deciding, 2 prefetch), its address, the descriptor being executed, a prefetched one, the
bytes of reads issued, how far completion stands (0 none, 1 data, 2 CRC, 3 STATUS, 4 OWN), its code, the running CRC, the data kept
for it by offset, and whether DMA_HALF was raised. -/
structure DmaChan where
  cfg : Nat := 0
  tok : Nat := 0
  round : Nat := 0
  want : Bool := false
  fetching : Nat := 0
  fetchAddr : Nat := 0
  desc : Option (List Byte) := none
  pre : Option (Nat × List Byte) := none
  issued : Nat := 0
  phase : Nat := 0
  code : Nat := 0
  crc : Nat := 0xFFFFFFFF
  data : List (Nat × List Byte) := []
  half : Bool := false
deriving DecidableEq, Repr

/-- A DMA engine beyond its registers: its channels, the first access of a bus error in progress (address, kind, code; R288), and the
last channel served of each priority (R274). -/
structure DmaEng where
  chans : List (Nat × DmaChan) := []
  first : Option (Nat × Nat × Nat) := none
  rr : List (Nat × Nat) := []
deriving DecidableEq, Repr

/-! ## Carrier filter array (09) -/

/-- One filter stage (R299): its last inputs, newest first, and the inputs taken modulo its factor. -/
structure CfaStage where
  hist : List (Int × Int) := []
  n : Nat := 0
deriving DecidableEq, Repr

/-- A channel of the carrier filter array beyond its registers (R294 to R315): stages and aligner, samples of the line being filled, lines of the
ring read ahead (first sample count, samples once landed), the next line to read, link-side samples computed and not yet sent with their
blank flags, the detector's partial window (samples, peak, sum), windows completed and not yet reported, the envelope with 16 fraction
bits, and events raised this Round. -/
structure CfaChan where
  st : List (Nat × CfaStage) := []
  al : List (Int × Int) := []
  part : List (Int × Int) := []
  ahead : List (Nat × Option (List (Int × Int))) := []
  next : Nat := 0
  out : List ((Int × Int) × Bool) := []
  winN : Nat := 0
  winPeak : Nat := 0
  winSum : Nat := 0
  done : List (Nat × Nat) := []
  env : Int := 0
  raised : List Nat := []
deriving DecidableEq, Repr

/-- The array: its channels, and the coefficient words that fail (R302). -/
structure Cfa where
  chans : List (Nat × CfaChan) := []
  bad : List Nat := []
deriving DecidableEq, Repr

/-! ## Engines (02, 03) -/

/-- The states an engine can be in (ENG_STATUS.STATE, R104, R478). -/
inductive EngMode where
  | run | idle | nap | doze | off | halted | faulted
deriving DecidableEq, Repr

/-- What keeps an engine from issuing (R102, R121, R132): nothing, a drain of `wait`, a `wait` that waits for a commit,
a gather or scatter, a `cop` that waits for its answer. -/
inductive EngWait where
  | none | waitDrain | waitCommit (mode : Nat) | gather | cop
deriving DecidableEq, Repr

/-- One accumulator: two 40-bit halves (R62). -/
structure Accum where
  re : BitVec 40 := 0
  im : BitVec 40 := 0
deriving DecidableEq, Repr

/-- An outstanding `ldf` or `stf.ack` (R68, R89): its transaction, its destination registers (none for `stf.ack`),
the bank it was issued in and its address. -/
structure FarAcc where
  id : Nat
  dest : List Nat
  bank : Nat
  addr : Nat
deriving DecidableEq, Repr

/-- An entry of the far store queue (R87). -/
structure FarStore where
  addr : Nat
  bs : List Byte
  aw : Bool
deriving DecidableEq, Repr

/-- A gather or scatter in progress (R121): its registers and its address. -/
structure Gather where
  store : Bool
  vd : Nat
  base : Nat
  vi : Nat
  pc : Nat
deriving DecidableEq, Repr

/-- A `cop` whose answer is outstanding (R132, R134): slot, result register, B, descriptor address, its transaction, and whether an
abort discards the answer (R147). -/
structure CopWait where
  slot : Nat
  gr : Nat
  b : Bool
  desc : Nat
  id : Nat
  discard : Bool := false
deriving DecidableEq, Repr

/-- What a result lands in, with its value (R67, R119): a g register or an accumulator by its key, bits of a vector register, bits of a wide
accumulation in a vector register, bits of a predicate register (mask, value), a special register by the bank and number of its `mts`, a
vector control register. -/
inductive Landed where
  | g (k : Nat) (v : Word)
  | acc (k : Nat) (v : Accum)
  | v (r : Nat) (mask v : BitVec 512)
  | wide (r : Nat) (mask v : BitVec 512)
  | p (r : Nat) (mask v : DWord)
  | special (b x : Nat) (v : Word)
  | vctl (c : Nat) (v : Word)
deriving DecidableEq, Repr

/-- A result on its way: the cycles until an instruction reads it. -/
structure Landing where
  left : Nat
  what : Landed
deriving DecidableEq, Repr

/-- One DSP engine (R62, R105). `g` is keyed by register, banked registers of bank 1 by 32 more; `acc` a0-a3 of bank b by
8 × b + n, a4-a7 by n; `cb` holds CB_BASE_n at 2n and CB_LEN_n at 2n + 1. `lastPc` is the last instruction issued, `step` a
single step in progress, `rptEnd` says the last body instruction has issued, `far` the far reads and acknowledged writes
outstanding, `stq` the far store queue, `farErr` pending FAR_ERRs (code, address, bank), `kill` a pending kill (1 by ENG_CTRL,
2 by the Churn), `mask` the withdrawal mask, `late` the lines ENG_IRQ_LATE was raised for, `resetPend`
a reset that waits for a wake. `land` holds the results on their way in order of issue (R67, R119), `gap` the cycles from the last issue to
the next, `pair` the g registers the scalar instruction just issued writes, if a vector instruction may join it (R66), `stale` the old words
of overwritten instruction memory that may still execute, each with the instructions left that may (R263). -/
structure Engine where
  g : List (Nat × Word) := []
  acc : List (Nat × Accum) := []
  st0 : Word := 6
  st1 : Word := 0x80000006
  rs0 : Word := 0
  rs1 : Word := 0
  pc : Nat := 0
  lastPc : Nat := 0
  bank : Nat := 0
  cb : List (Nat × Word) := []
  vbase : Word := 0
  v : List (Nat × BitVec 512) := []
  p : List (Nat × DWord) := []
  vcnt : Nat := 0
  vfmt : Nat := 0
  vpos : Nat := 0
  vpwr : Nat := 2
  mode : EngMode := .halted
  wait : EngWait := .none
  step : Bool := false
  rptEnd : Bool := false
  far : List FarAcc := []
  stq : List FarStore := []
  farErr : List (Nat × Nat × Nat) := []
  kill : Nat := 0
  mask : List Nat := []
  cop : Option CopWait := none
  late : List Nat := []
  gather : Option Gather := none
  resetPend : Bool := false
  land : List Landing := []
  gap : Nat := 1
  pair : Option (List Nat) := none
  stale : List (Nat × Word × Nat) := []
deriving DecidableEq, Repr

/-! ## MACs and fronthaul gates (10, 12) -/

/-- A receive queue (R375, R376): its table entry as read since the last commit, whether that read is outstanding, producer index, frames since
the last reset, frames since the last token, and a reset that waits for the frame in progress. -/
structure RxQueue where
  copy : Option (List Byte) := none
  asked : Bool := false
  p : Nat := 0
  seq : Nat := 0
  since : Nat := 0
  resetP : Bool := false
deriving DecidableEq, Repr

/-- A received frame on its way to its queue (R376, R378): its number, queue, rule, bytes, error flags of word 0, timestamp in time of day, STEP_SEQ and
Round, the queue entry it uses, and where it stands (0 waiting, 1 status read, 2 frame writes, 3 status write). -/
structure RxFrame where
  no : Nat
  q : Nat
  rule : Nat
  bytes : List Byte
  size : Nat
  flags : Nat
  stamp : Nat
  stepSeq : Nat
  round : Nat
  entry : List Byte := []
  stage : Nat := 0
deriving DecidableEq, Repr

/-- A transmit descriptor in hand (R380 to R383): queue, index, bytes of descriptor and frame, where it stands (0 descriptor read, 1 frame
read, 2 ready, 3 on the wire, 4 completion writes), its code and timestamp, its address, and whether its ring has been replaced since. -/
structure TxJob where
  q : Nat
  idx : Nat
  desc : List Byte := []
  frame : List Byte := []
  stage : Nat := 0
  code : Nat := 1
  stamp : Nat := 0
  stepSeq : Nat := 0
  addr : Nat := 0
  old : Bool := false
deriving DecidableEq, Repr

/-- An instance of a gate entry in hand (R325 to R327): its number, table index, instance m, Round, the entry's address, the count of the time
counter at which its period began, the grid index of that period (R326), entry, frame, launch instant by the time counter, where it stands
(0 entry read, 1 frame read, 2 built, 3 handed to the MAC), and whether the gate has stopped since. -/
structure GateJob where
  no : Nat
  idx : Nat
  inst : Nat
  round : Nat
  addr : Nat := 0
  base : Nat := 0
  air : Nat := 0
  entry : List Byte := []
  frame : List Byte := []
  blank : Bool := false
  launch : Nat := 0
  stage : Nat := 0
  gone : Bool := false
deriving DecidableEq, Repr

/-- What is on a MAC's wire: kind (0 gate, 1 MAC Control, 2 management reply, 3 transmit queue), queue, bytes, fragments of it sent and their bytes. -/
structure Wire where
  kind : Nat
  q : Nat
  bytes : List Byte
  frags : Nat := 0
  sent : Nat := 0
deriving DecidableEq, Repr

/-- A MAC beyond its registers (R368 to R392), with its gate: receive queues and frames in the buffer, descriptors in hand, MAC Control and management
frames waiting, the wire and a preempted frame, queues held by pause (bit 8 the gate), whether it holds off its partner, verify mPackets sent, hold,
events raised this Round; the gate's jobs, next table index and instance, sequence counters, instances missed and frames sent blank this Round. -/
structure Mac where
  rxqs : List (Nat × RxQueue) := []
  rx : List RxFrame := []
  rxNo : Nat := 0
  tx : List TxJob := []
  ctl : List (List Byte) := []
  mgmt : List (List Byte) := []
  wire : Option Wire := none
  cut : Option Wire := none
  held : Nat := 0
  xoff : Bool := false
  verify : Nat := 0
  hold : Bool := false
  raised : List Nat := []
  jobs : List GateJob := []
  jobNo : Nat := 0
  next : Nat := 0
  inst : Nat := 0
  seqs : List (Nat × Nat) := []
  missed : List Nat := []
  blanks : Nat := 0
  gRaised : List Nat := []
deriving DecidableEq, Repr

/-! ## Lanes (11) -/

/-- A Tether lane beyond its registers (R339 to R364): the last CAPS set and how often it came (R347), a partner block accepted (`ack`) and the
exchange complete (`done`), the target rate, the step in progress (NEXT, rate stepped from, refused, transmitter and receiver switched, bit
lock), the partner ID recorded with CEIL, FAIL_RUN before the attempt in progress, superblocks begun and the next block of one, the receive map
in use, the SEQ the head echoes, LEAVE (0 none, 1 due, 2 in progress) with the blocks that carried it, idle after LEAVE, the control
bytes received and to be sent with the ring traffic open, the arrival time A of a good block 0, whether a delay was measured this Round, events
raised this Round, blocks looped back and not yet received as code groups, the lane table's polarity flags and SPARE_FOR, whether the logical lane
runs on its spare, the running disparities of transmitter and receiver (none where code groups have passed that no command brought; R339),
blocks received in a row with no K (R343), COUNT of the TSC that is sent (R348). -/
structure Lane where
  caps : List Byte := []
  same : Nat := 0
  ack : Bool := false
  done : Bool := false
  target : Nat := 0
  stepping : Bool := false
  next : Nat := 0
  stepFrom : Nat := 0
  refuse : Bool := false
  txSw : Bool := false
  rxSw : Bool := false
  bit : Bool := false
  ceilId : Option Nat := none
  failBefore : Nat := 0
  super : Bool := false
  blk : Nat := 0
  rxMap : List Nat := []
  echo : Option Nat := none
  leave : Nat := 0
  leaveSent : Nat := 0
  quiet : Bool := false
  ctlRx : List Byte := []
  rxPend : List Nat := []
  ctlTx : List Byte := []
  ctlRead : Bool := false
  got0 : Option Nat := none
  meas : Bool := false
  raised : List Nat := []
  back : List (List Nat) := []
  polarity : Nat := 0
  spareFor : Option Nat := none
  moved : Bool := false
  txRd : Bool := false
  rxRd : Option Bool := some false
  noK : Nat := 0
  count : Nat := 63
deriving DecidableEq, Repr

/-! ## Time and housekeeping (12, 15) -/

/-- A time trigger beyond its registers (R402, R403): its next target in units of the time of day, whether its pin is high,
and the count of the time counter at which it falls. -/
structure Trig where
  target : Nat := 0
  pulse : Bool := false
  fall : Nat := 0
deriving DecidableEq, Repr

/-- The TIME unit beyond its registers: the time counter's steps since reset (R20), the remainder captured for each initiator (R395), the triggers,
the last captured edge of each input (R401). -/
structure TimeUnit where
  steps : Nat := 0
  held : List (Nat × DWord) := []
  trigs : List (Nat × Trig) := []
  edges : List (Nat × Nat) := []
deriving DecidableEq, Repr

/-- The housekeeping converter beyond its registers (R492 to R494): the entry a pass converts, a pass asked for by a trigger, a pass started in this
Round (MODE 3), what entries were since CMP_EN became 1 (1 inside, 2 outside), values of the pass, urgent requests in order, events raised this
Round (event × 32 + entry). -/
structure Hkc where
  pass : Option Nat := none
  want : Bool := false
  began : Bool := false
  prev : List (Nat × Nat) := []
  values : List Byte := []
  urgent : List Nat := []
  raised : List Nat := []
deriving DecidableEq, Repr

/-! ## Line Port (13) -/

/-- A pair beyond its registers (R413 to R423): the partner's direction in LPI, E8 at n = 0 and at a failure (eight times it, in pW), the preamble start found, how far
the qualifier is (0 none, 1 early test passed, 2 full test passed), P_ref (sixteen times it), the KIND of the burst received and whether it is another pair's, bytes of codewords
delivered and not yet taken by fragments, what was last sent (1 probe, 2 refresh burst, 3 fragment, 4 LEAVE), silence after LEAVE, the symbols that frame the last
burst sent, when its last fragment has been sent (in 1/2151 of a step of the time counter), fragments looped back, events raised this Round. -/
structure Pair where
  rxLpi : Bool := false
  e0 : Nat := 0
  eFail : Nat := 0
  pRef : Nat := 0
  start : Int := 0
  qual : Nat := 0
  kind : Nat := 0
  foreign : Bool := false
  bytes : Nat := 0
  sent : Nat := 0
  out : List Int := []
  busy : Nat := 0
  left : Bool := false
  back : List (Nat × List Byte) := []
  raised : List Nat := []
deriving DecidableEq, Repr

/-- A fragment held for reassembly (R428): SEQ, SOF, EOF, bytes, the ingress timestamp of its header. -/
structure Frag where
  seq : Nat
  sof : Bool
  eof : Bool
  bytes : List Byte
  stamp : Nat
deriving DecidableEq, Repr

/-- The Line Port beyond its registers: pairs; bytes of the frame on MAC_16's wire sent and the next SEQ; fragments held, the next SEQ to take, the
frame in assembly with its timestamp, whether fragments are passed over up to the next SOF, LINE_REASM_ERR raised this Round. -/
structure LinePort where
  pairs : List (Nat × Pair) := []
  txOff : Nat := 0
  txSeq : Nat := 0
  held : List Frag := []
  rxSeq : Nat := 0
  asm : Option (List Byte × Nat) := none
  skip : Bool := false
  reasm : Bool := false
deriving DecidableEq, Repr

/-! ## Power domains (15) -/

/-- A power domain (R471, R472, R478 to R487): its state (an engine's is `Engine.mode`), the state a closed fence leads to, a wake
in progress with its retries, whether it is powered down between attempts, the source of the wake and the Round of that source, a wake source that
arose behind the fence, a request that awaits its condition, and whether its wake failed. -/
structure Dom where
  st : EngMode := .run
  entering : Option EngMode := none
  fenced : Bool := false
  waking : Bool := false
  tries : Nat := 0
  down : Bool := false
  code : Nat := 0
  codeRound : Nat := 0
  held : Option Nat := none
  pending : Bool := false
  failed : Bool := false
deriving DecidableEq, Repr

/-! ## Recorder and Replay (16) -/

/-- The recorder beyond its registers (R512 to R522): recording starts at the next boundary (`armed`), the header's START_ROUND and
ORDERED, the sequence number, Rounds left in POST, losses since the last record, whether REC_LOSS was raised this Round; and for Replay the two
rings, the offset of the next record to deliver, and the capture sequence number and loss. -/
structure Rec where
  armed : Bool := false
  startRound : Nat := 0
  ordered : Bool := false
  nextSeq : Nat := 0
  postLeft : Nat := 0
  gapRecs : Nat := 0
  gapBytes : Nat := 0
  lossRound : Bool := false
  tokens : List (Nat × List Byte) := []
  repBase : Nat := 0
  repSize : Nat := 0
  repPos : Nat := 128
  capBase : Nat := 0
  capSize : Nat := 0
  capSeq : Nat := 0
  capLoss : Bool := false
deriving DecidableEq, Repr

/-! ## Accelerators (04, 05) -/

/-- A job a unit holds (R140 to R150): its number at the unit, who handed it over, its descriptor address, the unit's copies of header, entries and
parameters, and where it stands (phase 0 queued, 1 running, 2 all output writes issued, 3 RESULT issued, 4 STATUS issued). `err` is the first
read or write error with its DETAIL, `excess` the lowest output that overflowed, `fail` the DATA_FAIL DETAIL bits, `ins` what input reads brought,
keyed input × 2^32 + offset, `sent` how many pieces of its output have issued, `ahead` that its first input is read before it starts (R155), `seed`
the draw of its open values. -/
structure Job where
  no : Nat
  eng : Nat
  opc : Nat
  desc : Nat
  hdr : List Byte
  ents : List Byte
  par : List Byte
  phase : Nat := 0
  withdrawn : Bool := false
  aborted : Bool := false
  expired : Bool := false
  err : Option (Nat × Nat) := none
  excess : Option Nat := none
  fail : Nat := 0
  result : Nat := 0
  ins : List (Nat × List Byte) := []
  sent : Nat := 0
  ahead : Bool := false
  seed : Nat := 0
  statusId : Nat := 0
deriving DecidableEq, Repr

/-- A `cop` attempt whose descriptor is being fetched (R140): the request's packet, engine, operation code, descriptor address, and
whether the header has arrived. -/
structure Attempt where
  id : Nat
  eng : Nat
  opc : Nat
  desc : Nat
  header : Option (List Byte) := none
deriving DecidableEq, Repr

/-- An accelerator unit, by logical slot: its jobs in order of acceptance, attempts in fetch, and refusals that wait for their STATUS
write (its packet, the request's packet), the number of the next job. -/
structure AccUnit where
  jobs : List Job := []
  attempts : List Attempt := []
  refusals : List (Nat × Nat) := []
  nextNo : Nat := 0
deriving DecidableEq, Repr

/-! ## The Churn (06) -/

/-- A task context (R191, R192): definition words 0 to 5, STATE, HELD, ONENG and ENG, DEADLINE, the values of held tokens and of the
instance, its place in the ready order, and whether a boundary found it outstanding under FINISH (R208). -/
structure Context where
  words : List (Nat × Nat) := []
  state : Nat := 0
  held : Nat := 0
  oneng : Bool := false
  eng : Nat := 0
  deadline : Nat := 0
  values : List (Nat × Nat) := []
  inst : List (Nat × Nat) := []
  seq : Nat := 0
  finished : Bool := false
deriving DecidableEq, Repr

/-- An entry of a dispatch register (R202, R203): the context, and whether it is visible. -/
structure DispEntry where
  ctx : Nat
  visible : Bool
deriving DecidableEq, Repr

/-- A TOKEN held by the reorder buffer of ENFORCE (R213): KEY, SRC, VALUE. -/
structure HeldTok where
  key : Nat
  src : Nat
  value : Nat
deriving DecidableEq, Repr

/-- A task kill awaiting acknowledgement (R206): slice engine, cancelled context, its flow at the cancel, and whether the context has not been
released since. -/
structure Kill where
  eng : Nat
  ctx : Nat
  flow : Option Nat := none
  live : Bool := true
deriving DecidableEq, Repr

/-- A Churn slice beyond its registers (R189 to R217): contexts, D0 and D1 of each slice engine in order, the task each engine runs,
kills awaiting acknowledgement, the round-robin pointer, the next ready order, events raised this Round; in RECORD the INDEX of the
next entry; in ENFORCE the reorder buffer, the entries (KEY, SRC) of the Round still due, whether the log of the Round has ended, and whether
enforcement runs. -/
structure Slice where
  ctxs : List (Nat × Context) := []
  disp : List (Nat × List DispEntry) := []
  running : List (Nat × Option Nat) := []
  kills : List Kill := []
  rr : Nat := 0
  seq : Nat := 0
  raised : List Nat := []
  index : Nat := 0
  buffer : List HeldTok := []
  due : List (Nat × Nat) := []
  logEnded : Bool := false
  enforcing : Bool := false
deriving DecidableEq, Repr

/-! ## Spares (16) -/

/-- A resource marked for a swap (R500 to R508): kind (1 engine, 2 accelerator, 4 a failed cluster), logical index, cause, rotation, and where
the swap stands (0 marked, 1 dispatch stopped or unit draining, 2 copy running, 3 migrated), since which Round, whether SPARE_STALLED was raised,
the physical position chosen, and whether SPARE_EXHAUSTED was raised for it. -/
structure Mark where
  kind : Nat
  index : Nat
  cause : Nat
  rotate : Bool := false
  stage : Nat := 0
  since : Nat := 0
  stalled : Bool := false
  spot : Nat := 0
  exh : Bool := false
deriving DecidableEq, Repr

/-- The SPARE unit beyond its registers (R499 to R511): marks, corrected errors of each resource and wire errors of each link and wire in the window
numbered `window`, the last corrected row of each bank with its window, rows marked and spare rows used, links with a wire marked, margins read of engine positions
(cluster × 18 + position), the tests in progress (SPARE_BIST word, whether the target was in the pool), the result for the next commit, and
the turn of automatic tests. -/
structure Spare where
  marks : List Mark := []
  window : Nat := 0
  ecc : List (Nat × Nat) := []
  wires : List (Nat × Nat) := []
  rows : List (Nat × (Nat × Nat)) := []
  rowMarks : List (Nat × Nat) := []
  rowsUsed : List (Nat × Nat) := []
  wireMarks : List Nat := []
  ages : List (Nat × Nat) := []
  bists : List (Nat × Bool) := []
  bistResult : Option Nat := none
  turn : Nat := 0
deriving DecidableEq, Repr

/-! ## Boot, host, commands (14) -/

/-- Where a command came from (R452): path 0 mailbox, 1 frame (its MAC and source address), 2 UART. -/
structure CmdFrom where
  path : Nat
  mac : Nat := 0
  addr : List Byte := []
deriving DecidableEq, Repr

/-- The command that holds the security controller: kind 0 its journal record is being written (R456), 1 its certificate read, 2 its image
data; the command's bytes, and the Round step 7 resolved, none where Rounds did not run (R457). -/
structure CmdProc where
  kind : Nat
  src : CmdFrom
  bytes : List Byte
  target : Option Nat
deriving DecidableEq, Repr

/-- An accepted command that waits for its Round (R458): its number, path, bytes, Round (none: the next manual commit or first Round), whether its
writes were issued, whether its commit has passed, SPLIT, EXEC_ERR, and its Round of effect. -/
structure SecCmd where
  no : Nat
  path : Nat
  bytes : List Byte
  target : Option Nat
  issued : Bool := false
  applied : Bool := false
  split : Bool := false
  err : Bool := false
  round : Nat := 0
deriving DecidableEq, Repr

/-- The security controller, boot flash, fuses and PCI Express block beyond their registers (R434 to R462). `imageM` is M of the running
image (R439), `running` its slot, `buildId` its BUILD_ID, `loads` the ranges its LOAD sections filled, `keys` CMD_KEYS as (KEY_ID, GEN, PERMS). `frames` are
the management frames that wait (MAC, source address, command bytes), `waits` the order of arrival (0 mailbox, 1 frame), `mboxLen`
SEC_MBOX_CTRL.LEN. `counters` is the Cold Room's security state (last counter of each key, all ones revoked; R436), valid by `coldValid`. `nor` is the flash,
an unlisted byte erased; `journalBase` the journal's oldest sector and `journalPos` the records written since. `kDev` and
`keyHash` are the fuses no register shows. `strap` is the level of the COMPAT pin, `bme` Bus Master Enable, `bootWrite` a boot record write (slot,
command), `restart` what the commit in progress ends with (0 none, 1 RESET, 2 REPLAY_ENTER, 3 REPLAY_EXIT), `replayAsk` the payload of
REPLAY_ENTER, `msix` the last vector signalled on the link, `hostCpl` the last completion a host read drew (0 Successful
Completion, 1 Unsupported Request, 2 Completer Abort; data). -/
structure Sec where
  imageM : List Byte := []
  running : Option Nat := none
  buildId : List Byte := []
  loads : List (Nat × Nat) := []
  keys : List (Nat × Nat × Nat) := []
  frames : List (Nat × List Byte × List Byte) := []
  waits : List Nat := []
  mboxLen : Nat := 0
  proc : Option CmdProc := none
  cmds : List SecCmd := []
  cmdNo : Nat := 0
  uartOut : List Byte := []
  counters : List (Nat × Nat) := []
  coldValid : Bool := false
  nor : List (Nat × Byte) := []
  journalBase : Nat := 0
  journalPos : Nat := 0
  kDev : List Byte := List.replicate 32 0
  keyHash : List (Nat × List Byte) := []
  strap : Bool := false
  bme : Bool := false
  bootWrite : Option (Nat × Nat) := none
  restart : Nat := 0
  replayAsk : List Byte := []
  msix : Option Nat := none
  hostCpl : Option (Nat × List Byte) := none
deriving DecidableEq, Repr

/-! ## Supply and device states (15) -/

/-- The PWR unit beyond its registers (R466 to R495). `plug` is the stage of R488 (0 none, 1 pre-charged, 2 input switch on, 3 rails good, 4 out of
reset), `present` that PRESENT was seen, `trip` that the input switch is off after a trip. `phase` is how far R473 is (0 none, 1 the STOPPING Round,
2 engines halting, 3 DMA stopping, 4 domains going down) towards device state `target`; `wasHalted` the engines halted before it.
`eject` is the step of R489 (0 none, 1 debounce, 2 waiting for a boundary, 3 the STOPPING Round, 4 quiescing, 5 powering down, 6 safe). `hot` says a
diode is at SHED_C, `below` and `at4` count Rounds below the cap and at level 4, `conds` are the PWR_FAULT bits whose condition lasts. -/
structure Pwr where
  plug : Nat := 4
  present : Bool := true
  trip : Bool := false
  phase : Nat := 0
  target : Nat := 0
  wasHalted : List Nat := []
  eject : Nat := 0
  hot : Bool := false
  below : Nat := 0
  at4 : Nat := 0
  conds : Nat := 0
deriving DecidableEq, Repr

/-! ## The block -/

/-- The state of the module. `tod` is the time of day in 2^-32 ns. `free` counts the draws of free values (the model's own
field, log 6). `pending` is the command queue, first in, first out. -/
structure State where
  csr : Csr := {}
  round : Round := {}
  evt : List Occurrence := []
  noc : Noc := {}
  mem : Memory := {}
  dma : List (Nat × DmaEng) := []
  cfa : Cfa := {}
  mac : List (Nat × Mac) := []
  lane : List (Nat × Lane) := []
  line : LinePort := {}
  time : TimeUnit := {}
  hkc : Hkc := {}
  eng : List (Nat × Engine) := []
  dom : List (Nat × Dom) := []
  recorder : Rec := {}
  acc : List (Nat × AccUnit) := []
  churn : List (Nat × Slice) := []
  spare : Spare := {}
  sec : Sec := {}
  pwr : Pwr := {}
  tod : Nat := 0
  free : Nat := 0
  pending : List Instr := []
deriving DecidableEq, Repr

/-- No command of this block stops in a fault: the manual gives every command an effect. -/
inductive Fault where
  /-- Raised by nothing; safe. -/
  | none
deriving DecidableEq, Repr

/-- Why a command has no meaning. -/
inductive Refusal where
  /-- Raised by an arm of `exec` that has no meaning yet, by mnemonic; safe. -/
  | notModelled (mnemonic : String)
deriving DecidableEq, Repr

/-- The machine right after reset: every register at its reset value (the table's defaults), memory with nothing listed,
no command waiting. -/
def State.reset : State := {}

end Sys2Proof.Machine
end

