-- ==== Sys2Proof/WellFormed.lean ====
section
/-! DEFINITION. Which commands name something the module has: a unit that exists, a register that exists, an instruction word
that is the instruction's own encoding (R72, R546). A word with a set reserved field is well formed: it raises ILLEGAL (R73). -/
namespace Sys2Proof

/-- A number below its count. -/
def below (lim v : Nat) : Bool := decide (v < lim)

/-- A number in a range. -/
def within (lo hi v : Nat) : Bool := decide (lo ≤ v ∧ v ≤ hi)

/-- A number below its count, where one is given. -/
def optBelow (lim : Nat) : Option Nat → Bool
  | some v => below lim v
  | none => true

/-- A channel of a DMA engine: 8 in a cluster's, 64 in the system's (R282). -/
def chanOk (e ch : Nat) : Bool := below (if e = 32 then 64 else 8) ch

/-- A field of an instruction word. -/
def wordField (w : Word) (hi lo : Nat) : Nat := Machine.bitsOf w.toNat hi lo

/-- The major opcode of a word (R72). -/
def isOp (w : Word) (o : Nat) : Bool := decide (wordField w 31 26 = o)

/-- The register form with FUNC `f` (R546, ALU). -/
def isAlu (w : Word) (f : Nat) : Bool := isOp w 1 && decide (wordField w 4 0 = f)

/-- The shift form with FUNC `f` (R546, SHIFT). -/
def isShift (w : Word) (f : Nat) : Bool := isOp w 7 && decide (wordField w 6 5 = f)

/-- The accumulator form with FUNC `f` (R546, MAC). -/
def isMac (w : Word) (f : Nat) : Bool := isOp w 10 && decide (wordField w 1 0 = f)

/-- The system group with SUB `f`. -/
def isSys (w : Word) (f : Nat) : Bool := isOp w 0x32 && decide (wordField w 25 21 = f)

/-- An unallocated major opcode of R72 and R546, or a value of FUNC or SUB that they do not list. -/
def isUnallocated (w : Word) : Bool :=
  decide (wordField w 31 26 ∈ [0x0E, 0x0F, 0x16, 0x17, 0x1F, 0x26, 0x27, 0x2A, 0x2B, 0x2C, 0x2D, 0x2E, 0x2F,
    0x33, 0x34, 0x35, 0x36, 0x37, 0x39, 0x3A, 0x3B]) ||
  (isOp w 1 && decide (17 ≤ wordField w 4 0)) || isShift w 3 || (isOp w 0x32 && decide (7 ≤ wordField w 25 21))

/-- Does the command name something the module has? -/
def Instr.wf : Instr → Bool
  | .roundBoundary _ _ _ => true
  | .roundFirstPEnd => true
  | .run _ => true
  | .stop _ => true
  | .manualCommit _ => true
  | .planFetchAnswer => true
  | .planNoOperation => true
  | .planDmaStart => true
  | .planCfaHandover => true
  | .planRedSetup => true
  | .planToken => true
  | .planRegWrite => true
  | .occurrenceTaken => true
  | .shadowStampRead _ => true
  | .epochWrite _ _ => true
  | .csrWrite _ _ _ v => below 18446744073709551616 v
  | .w1cClear _ _ v => below 18446744073709551616 v
  | .counterClear _ _ => true
  | .stalledAccessAccepted => true
  | .add n w _ => below 512 n && (isAlu w 0 || isOp w 2)
  | .sub n w _ => below 512 n && (isAlu w 1 || isOp w 3)
  | .and n w _ => below 512 n && (isAlu w 2 || isOp w 4)
  | .or n w _ => below 512 n && (isAlu w 3 || isOp w 5)
  | .xor n w _ => below 512 n && (isAlu w 4 || isOp w 6)
  | .shl n w _ => below 512 n && (isAlu w 5 || isShift w 0)
  | .shr n w _ => below 512 n && (isAlu w 6 || isShift w 1)
  | .sar n w _ => below 512 n && (isAlu w 7 || isShift w 2)
  | .cmpEq n w _ => below 512 n && isAlu w 8
  | .cmpLt n w _ => below 512 n && isAlu w 9
  | .cmpLtu n w _ => below 512 n && isAlu w 10
  | .min n w _ => below 512 n && isAlu w 11
  | .max n w _ => below 512 n && isAlu w 12
  | .abs n w _ => below 512 n && isAlu w 13
  | .mov n w _ => below 512 n && isAlu w 14
  | .movi n w _ => below 512 n && isOp w 8
  | .movhi n w _ => below 512 n && isOp w 9
  | .mul n w _ => below 512 n && isAlu w 15
  | .mulh n w _ => below 512 n && isAlu w 16
  | .cmac n w _ => below 512 n && isMac w 0
  | .cmacc n w _ => below 512 n && isMac w 1
  | .cmsu n w _ => below 512 n && isMac w 2
  | .rmac n w _ => below 512 n && isMac w 3
  | .clr n w _ => below 512 n && isOp w 11
  | .racc n w _ => below 512 n && isOp w 12
  | .mva n w _ => below 512 n && isOp w 13
  | .ftap n w _ _ => below 512 n && isOp w 49
  | .ldB n w _ _ => below 512 n && isOp w 16
  | .ldBu n w _ _ => below 512 n && isOp w 17
  | .ldH n w _ _ => below 512 n && isOp w 18
  | .ldHu n w _ _ => below 512 n && isOp w 19
  | .ldW n w _ _ => below 512 n && isOp w 20
  | .ldD n w _ _ => below 512 n && isOp w 21
  | .stB n w _ _ => below 512 n && isOp w 24
  | .stH n w _ _ => below 512 n && isOp w 25
  | .stW n w _ => below 512 n && isOp w 26
  | .stD n w _ => below 512 n && isOp w 27
  | .undef n w _ => below 512 n && isUnallocated w
  | .ldf n w _ => below 512 n && isOp w 28
  | .stf n w _ => below 512 n && isOp w 29
  | .stfAck n w _ => below 512 n && isOp w 30
  | .farStoreInjected n => below 512 n
  | .farResponse n _ => below 512 n
  | .farErr n => below 512 n
  | .fencef n w _ => below 512 n && isSys w 4
  | .b n w _ => below 512 n && isOp w 32
  | .bz n w _ => below 512 n && isOp w 33
  | .bnz n w _ => below 512 n && isOp w 34
  | .bl n w _ => below 512 n && isOp w 35
  | .jr n w _ => below 512 n && isOp w 36
  | .jal n w _ => below 512 n && isOp w 37
  | .rpt n w _ => below 512 n && isOp w 48
  | .repeatEnd n => below 512 n
  | .wait n w _ => below 512 n && isSys w 0
  | .waitDrainDone n => below 512 n
  | .reti n w _ => below 512 n && isSys w 1
  | .trap n w _ => below 512 n && isSys w 2
  | .brk n w _ => below 512 n && isSys w 3
  | .mfs n w _ => below 512 n && isSys w 5
  | .mts n w _ => below 512 n && isSys w 6
  | .nop n w _ => below 512 n && isOp w 0
  | .interrupt n => below 512 n
  | .engIrqSet _ n mask => below 512 n && below 4294967296 mask
  | .engIrqLate n line => below 512 n && below 32 line
  | .taskKill n _ => below 512 n
  | .killed n => below 512 n
  | .engineReset _ n _ => below 512 n
  | .halt _ n => below 512 n
  | .haltClear _ n => below 512 n
  | .step _ n => below 512 n
  | .engHalted n => below 512 n
  | .setvl n w _ => below 512 n && isOp w 60
  | .vrd n w _ => below 512 n && isOp w 40
  | .vwr n w _ => below 512 n && isOp w 41
  | .vld n vd gb _ _ ecc _ _ => below 512 n && below 32 vd && below 32 gb && optBelow 64 ecc
  | .vst n vs gb _ _ ecc _ _ => below 512 n && below 32 vs && below 32 gb && optBelow 64 ecc
  | .vlds n vd gb gs ecc _ _ => below 512 n && below 32 vd && below 32 gb && below 32 gs && optBelow 64 ecc
  | .vsts n vs gb gs ecc _ _ => below 512 n && below 32 vs && below 32 gb && below 32 gs && optBelow 64 ecc
  | .vldx n vd gb vi _ => below 512 n && below 32 vd && below 32 gb && below 32 vi
  | .vstx n vs gb vi _ => below 512 n && below 32 vs && below 32 gb && below 32 vi
  | .gatherComplete n ecc _ => below 512 n && optBelow 64 ecc
  | .vadd n vd va vb p _ => below 512 n && below 32 vd && below 32 va && below 32 vb && optBelow 8 p
  | .vsub n vd va vb p _ => below 512 n && below 32 vd && below 32 va && below 32 vb && optBelow 8 p
  | .vmul n vd va vb p _ => below 512 n && below 32 vd && below 32 va && below 32 vb && optBelow 8 p
  | .vadds n vd va vb p _ => below 512 n && below 32 vd && below 32 va && below 32 vb && optBelow 8 p
  | .vsubs n vd va vb p _ => below 512 n && below 32 vd && below 32 va && below 32 vb && optBelow 8 p
  | .vcmul n vd va vb p _ => below 512 n && below 32 vd && below 32 va && below 32 vb && optBelow 8 p
  | .vcmulc n vd va vb p _ => below 512 n && below 32 vd && below 32 va && below 32 vb && optBelow 8 p
  | .vcmacW n vd va vb p _ => below 512 n && below 32 vd && below 32 va && below 32 vb && optBelow 8 p
  | .vcmaccW n vd va vb p _ => below 512 n && below 32 vd && below 32 va && below 32 vb && optBelow 8 p
  | .vracc n vd va sh _ => below 512 n && below 32 vd && below 32 va && below 32 sh
  | .vftap n va vx vy gc _ _ _ _ _ => below 512 n && below 32 va && below 32 vx && below 32 vy && below 32 gc
  | .vfadd n vd va vb p _ => below 512 n && below 32 vd && below 32 va && below 32 vb && optBelow 8 p
  | .vfsub n vd va vb p _ => below 512 n && below 32 vd && below 32 va && below 32 vb && optBelow 8 p
  | .vfmul n vd va vb p _ => below 512 n && below 32 vd && below 32 va && below 32 vb && optBelow 8 p
  | .vfma n vd va vb p _ => below 512 n && below 32 vd && below 32 va && below 32 vb && optBelow 8 p
  | .vcmpEq n pd va vb _ => below 512 n && below 8 pd && below 32 va && below 32 vb
  | .vcmpLt n pd va vb _ => below 512 n && below 8 pd && below 32 va && below 32 vb
  | .vcmpLtu n pd va vb _ => below 512 n && below 8 pd && below 32 va && below 32 vb
  | .pand n pd pa pb _ => below 512 n && below 8 pd && below 8 pa && below 8 pb
  | .por n pd pa pb _ => below 512 n && below 8 pd && below 8 pa && below 8 pb
  | .pxor n pd pa pb _ => below 512 n && below 8 pd && below 8 pa && below 8 pb
  | .pnot n pd pa _ => below 512 n && below 8 pd && below 8 pa
  | .vsel n vd p va vb _ => below 512 n && below 32 vd && below 8 p && below 32 va && below 32 vb
  | .vbcast n vd gs p _ => below 512 n && below 32 vd && below 32 gs && optBelow 8 p
  | .vins n vd gs i _ => below 512 n && below 32 vd && below 32 gs && below 64 i
  | .vext n gd va i _ => below 512 n && below 32 gd && below 32 va && below 64 i
  | .vtperm n vd vt k vi p _ => below 512 n && below 32 vd && below 32 vt && within 1 4 k && below 32 vi && optBelow 8 p
  | .vsum n vd va p _ => below 512 n && below 32 vd && below 32 va && optBelow 8 p
  | .vectorPowerDown n => below 512 n
  | .vectorWakeDone n => below 512 n
  | .cop n w _ => below 512 n && isOp w 56
  | .copAnswer n => below 512 n
  | .accRequest k _ => below 68 k
  | .accDescriptorFetched k _ => below 68 k
  | .jobStart k => below 68 k
  | .accInputReadAnswer k _ _ _ _ => below 68 k
  | .outputWritesAccepted k => below 68 k
  | .resultWriteAccepted k => below 68 k
  | .statusWriteAccepted k _ => below 68 k
  | .withdraw k _ => below 68 k
  | .withdrawAnswer n _ => below 512 n
  | .flush _ k v => below 68 k && below 18446744073709551616 v
  | .define _ sl c => below 8 sl && below 8192 c
  | .arm _ sl c => below 8 sl && below 8192 c
  | .cancel _ sl c => below 8 sl && below 8192 c
  | .read _ sl c => below 8 sl && below 8192 c
  | .release _ sl c => below 8 sl && below 8192 c
  | .token sl w0 w1 _ _ => below 8 sl && below 4294967296 w0 && below 4294967296 w1
  | .armMessage sl w0 _ _ => below 8 sl && below 4294967296 w0
  | .cancelMessage sl w0 _ _ => below 8 sl && below 4294967296 w0
  | .heldTokenAccepted sl => below 8 sl
  | .orderLogReadAnswer sl => below 8 sl
  | .dispatch sl => below 8 sl
  | .operandAreaAccepted sl e => below 8 sl && below 64 e
  | .churnNextRead _ sl e => below 8 sl && below 64 e
  | .killAcknowledgement sl e => below 8 sl && below 64 e
  | .packetAccepted _ => true
  | .acceptanceNotice _ => true
  | .requestTimeout _ => true
  | .lateAnswer _ => true
  | .placeFreed _ => true
  | .heldRequestInjected _ => true
  | .routerApply n => below 48 n
  | .nocDrainSlow => true
  | .guardAccess _ => true
  | .nack _ => true
  | .book _ => true
  | .deny _ => true
  | .bookRetry _ => true
  | .grant _ => true
  | .niRedSend _ c v _ => below 32 c && below 18446744073709551616 v
  | .redPacketAtRouter n _ => below 48 n
  | .redHoldExpiry n i => below 48 n && below 32 i
  | .niRedSetup _ c tag _ cls => below 32 c && below 4096 tag && below 8 cls
  | .redSetupReceived _ => true
  | .redPartial c _ => below 32 c
  | .redTableAnswer c tag => below 32 c && below 4096 tag
  | .redResultAccepted c tag => below 32 c && below 4096 tag
  | .memoryAccessServed _ _ => true
  | .dramTrainingEnd ch _ => below 4 ch
  | .dramTemperatureRead ch _ => below 4 ch
  | .scrubPass ch _ => below 4 ch
  | .dmaChStart _ e ch _ => below 33 e && chanOk e ch
  | .dmaDescriptorFetched e ch => below 33 e && chanOk e ch
  | .dmaBurstIssue e _ => below 33 e
  | .dmaReadAnswer e ch _ => below 33 e && chanOk e ch
  | .dmaQuiet e => below 33 e
  | .busClr _ e _ => below 33 e
  | .dmaDataAccepted e ch => below 33 e && chanOk e ch
  | .dmaCrcAccepted e ch => below 33 e && chanOk e ch
  | .dmaStatusAccepted e ch => below 33 e && chanOk e ch
  | .dmaOwnAccepted e ch => below 33 e && chanOk e ch
  | .dmaChStop _ e ch => below 33 e && chanOk e ch
  | .dmaStopComplete e ch => below 33 e && chanOk e ch
  | .cfaChReadyWrite _ ch v => below 1024 ch && below 18446744073709551616 v
  | .cfaHandover _ => true
  | .cfaCoefWrite _ k i v => below 256 k && below 384 i && below 18446744073709551616 v
  | .cfaLineRead ch => below 1024 ch
  | .cfaLineReadAnswer ch _ => below 1024 ch
  | .detectorWindowEnd ch => below 1024 ch
  | .gateDecision m => below 17 m
  | .gateEntryReadAnswer m => below 17 m
  | .gateFrameReadAnswer m => below 17 m
  | .gateLaunch m => below 17 m
  | .anComplete m _ _ _ _ => below 16 m
  | .linkTrainingComplete m => below 16 m
  | .portLinkLoss m => below 17 m
  | .detectAttempt l => below 32 l
  | .receiverDetected l => below 32 l
  | .bitLock l => below 32 l
  | .symbolLock l _ => below 32 l
  | .trainTimeout l => below 32 l
  | .lockTimeout l _ => below 32 l
  | .capsTimeout l => below 32 l
  | .stepTimeout l _ => below 32 l
  | .capsSetReceived l _ _ => below 32 l
  | .tscReceived l _ _ => below 32 l
  | .tscCountZeroSent l => below 32 l
  | .lockLoss l _ => below 32 l
  | .signalLoss l => below 32 l
  | .tetherRestart _ l => below 32 l
  | .clrCeil _ l => below 32 l
  | .tetherBlockSend l _ _ _ _ => below 32 l
  | .tetherBlockReceived l _ _ _ _ _ _ => below 32 l
  | .leaveComplete l => below 32 l
  | .ctlRingWriteAccepted l => below 32 l
  | .ctlTxEntryRead l => below 32 l
  | .ctlTxEntryAnswer l => below 32 l
  | .ctleAdapt l _ => below 32 l
  | .frameReceived m _ _ _ _ => below 17 m
  | .rxqEntryAnswer m q => below 17 m && below 256 q
  | .rxStatusReadAnswer m q => below 17 m && below 256 q
  | .rxFrameWritesAccepted m q => below 17 m && below 256 q
  | .rxStatusWriteAccepted m q => below 17 m && below 256 q
  | .macRxqReset _ m q => below 17 m && below 256 q
  | .pauseFrameReceived m _ mask _ => below 17 m && below 256 mask
  | .pauseTimerEnd m mask => below 17 m && below 512 mask
  | .pauseRepeat m => below 17 m
  | .txDescriptorRead m q => below 17 m && below 8 q
  | .txDescriptorAnswer m q => below 17 m && below 8 q
  | .txFrameReadAnswer m q => below 17 m && below 8 q
  | .txFrameStart m => below 17 m
  | .fragmentPreempt m _ => below 17 m
  | .txFrameEnd m => below 17 m
  | .txCompletionAccepted m q => below 17 m && below 8 q
  | .verifyTimeout m => below 17 m
  | .verifyResponseReceived m => below 17 m
  | .holdAssert m => below 17 m
  | .lpiEntry m => below 17 m
  | .lpiWakeDone m => below 17 m
  | .timeIncWrite _ v => below 18446744073709551616 v
  | .timeSlewIncWrite _ v => below 18446744073709551616 v
  | .timeSlewCntWrite _ v => below 18446744073709551616 v
  | .slewEnd => true
  | .timeNowSecRead _ => true
  | .timeNowSubRead _ => true
  | .timeValidWrite _ _ => true
  | .timeLoad _ _ => true
  | .timeCapture n => below 2 n
  | .timeTrig n => below 16 n
  | .timeOutPulseEnd n => below 4 n
  | .silentProbe p => below 16 p
  | .probeReceived p => below 16 p
  | .probeComplete p _ _ => below 16 p
  | .probeTimeout p => below 16 p
  | .ectrainComplete p _ => below 16 p
  | .echoCheck8ms p _ => below 16 p
  | .ectrainTimeout p => below 16 p
  | .exchangeComplete p => below 16 p
  | .exchangeTimeout p => below 16 p
  | .lineSignalLoss p => below 16 p
  | .fecFail p => below 16 p
  | .linePairRestart _ p => below 16 p
  | .lineLpiEntry p _ => below 16 p
  | .refreshBurst p => below 16 p
  | .energyDetect p _ => below 16 p
  | .earlyTest p _ _ _ => below 16 p
  | .fullTest p _ _ => below 16 p
  | .delimiterCheck p _ _ _ => below 16 p
  | .reacquire p _ => below 16 p
  | .capture p _ _ => below 16 p
  | .burstEnd p => below 16 p
  | .holdoffExit p _ => below 16 p
  | .codewordReceived p _ => below 16 p
  | .fragmentSend p _ => below 16 p
  | .fragmentReceived p _ _ _ => below 16 p
  | .reassemblyTimeout => true
  | .starterRun _ _ _ => true
  | .hostAccess _ _ _ _ => true
  | .hostWindowCompletion _ _ _ => true
  | .pcieResetSignal => true
  | .functionLevelReset => true
  | .pcieLink _ _ _ _ => true
  | .getStatus _ => true
  | .readRegs _ => true
  | .getCounter _ => true
  | .attest _ => true
  | .getAttestKey _ => true
  | .getAttestCert _ => true
  | .certReadDone => true
  | .writeRegs _ => true
  | .switchImage _ => true
  | .writeImage _ => true
  | .imageWriteDone _ => true
  | .keyRevoke _ => true
  | .slotRevoke _ => true
  | .svnAdvance _ => true
  | .power _ => true
  | .replayEnter _ => true
  | .replayExit _ => true
  | .reset _ => true
  | .journalWriteDone _ => true
  | .commandExecutionStart => true
  | .bootRecordWriteDone _ => true
  | .standbyHaltDone => true
  | .standbyQuietDone => true
  | .standbyDomainsDown => true
  | .shedDecision _ _ _ => true
  | .pwrHot => true
  | .thermalTrip => true
  | .wakeIn => true
  | .domainWakeDone d _ => below 641 d
  | .wakeTimeout d => below 641 d
  | .wakeRetry d => below 641 d
  | .fenceDrained d => below 641 d
  | .prechargeContact => true
  | .vinRise => true
  | .railsGood => true
  | .presentDebounced => true
  | .powerGoodLoss => true
  | .ejectReq => true
  | .ejectDebounced => true
  | .removalQuiesced => true
  | .removalPoweredDown => true
  | .latchClose => true
  | .presentLost => true
  | .vinLow => true
  | .currentLimitTrip => true
  | .tripRestart => true
  | .hkcPassStart => true
  | .hkcEntryDone _ => true
  | .overCurrentDetect _ => true
  | .hkcUrgentDone _ _ => true
  | .ageMark _ _ _ => true
  | .wireMark n d _ _ => below 48 n && below 4 d
  | .engineQuiescent n => below 512 n
  | .spareCopyDone n => below 512 n
  | .spareReqEngine _ n _ => below 512 n
  | .spareReqAccelerator _ k => below 68 k
  | .spareReqLane _ l => below 32 l
  | .spareBist _ _ _ _ => true
  | .bistDone _ => true
  | .recTrig _ _ => true
  | .replayRecordDelivery => true
  | .planIssueAnswer => true
  | .interruptWriteAnswer => true
  | .commandWriteAnswer _ => true
  | .lastOutputWrite k _ _ _ => below 68 k
  | .mainPllFailure => true
  | .badOpcode _ => true
  | .c2mPortUp m => below 16 m
  | .cfaSamplePeriod ch => below 1024 ch
  | .lpiRx m _ => below 17 m
  | .busMasterEnable _ => true

end Sys2Proof
end

