-- ==== Sys2Proof/Machine/Ops.lean ====
section
/-! DEFINITION. The named operations every family is written over: registers, counters, flags, events, memory bytes, free
values, time of day. -/
namespace Sys2Proof.Machine

/-! ## Registers -/

/-- The value in effect of the register at `off`. -/
def rd (off : Nat) (s : State) : DWord := tabGet resetOf s.csr.live off

/-- Put a value into the register at `off`. -/
def wr (off : Nat) (v : DWord) (s : State) : State :=
  { s with csr := { s.csr with live := tabSet resetOf s.csr.live off v } }

/-- Field [hi:lo] of the register at `off`. -/
def fld (off hi lo : Nat) (s : State) : Nat := bitsOf (rd off s).toNat hi lo

/-- Put `x` into field [hi:lo] of the register at `off`. -/
def setFld (off hi lo x : Nat) (s : State) : State := wr off (dw (withBits (rd off s).toNat hi lo x)) s

/-- Is bit `i` of the register at `off` set? -/
def flagOn (off i : Nat) (s : State) : Bool := fld off i i s == 1

/-- Set bit `i` of the register at `off`. -/
def setFlag (off i : Nat) (s : State) : State := setFld off i i 1 s

/-- Add `k` to a 32-bit counter, which saturates at 0xFFFF_FFFF. -/
def bumpBy (off k : Nat) (s : State) : State := wr off (dw (min ((rd off s).toNat + k) 0xFFFFFFFF)) s

/-- Count one in a 32-bit counter. -/
def bump (off : Nat) (s : State) : State := bumpBy off 1 s

/-- Add `k` to a 64-bit counter, which saturates at its maximum (R291, R406); of those of engines and NIs the manual does not say what follows
the maximum (log 66). -/
def bump64 (off k : Nat) (s : State) : State := wr off (dw (min ((rd off s).toNat + k) 0xFFFFFFFFFFFFFFFF)) s

/-- Do `f` if `c` holds. -/
def when' (c : Bool) (f : State → State) (s : State) : State := if c then f s else s

/-! ## Events (R55) -/

/-- Raise event `num` with instance `inst`: it waits in the router, or counts in EVT_DROP_CNT when 1,024 wait. -/
def raise (num inst : Nat) (s : State) : State :=
  if s.evt.length < 1024 then { s with evt := s.evt ++ [⟨num, inst, s.round.stage⟩] }
  else bump Reg.EVT_DROP_CNT s

/-- Is occurrence `a` taken no later than `b`, both raised by one command: by cycle, then number, then instance (R55)? -/
def Occurrence.before (a b : Occurrence) : Bool :=
  decide (a.cyc < b.cyc) || (a.cyc == b.cyc && (decide (a.num < b.num) || (a.num == b.num && decide (a.inst % 65536 ≤ b.inst % 65536))))

/-- An occurrence put in its place among those of its command. -/
def occPut (o : Occurrence) : List Occurrence → List Occurrence
  | [] => [o]
  | x :: t => if o.before x then o :: x :: t else x :: occPut o t

/-- The occurrences a command raised between `s` and `t`, put in the order in which the router takes those of one cycle (R55). -/
def inOrder (s t : State) : State :=
  { t with evt := t.evt.take s.evt.length ++ (t.evt.drop s.evt.length).foldr occPut [] }

/-- Set a W1C flag and raise its event. -/
def flagEvent (off bit num inst : Nat) (s : State) : State := raise num inst (setFlag off bit s)

/-- Count, set a flag and raise its event. -/
def countEvent (cnt off bit num inst : Nat) (s : State) : State := flagEvent off bit num inst (bump cnt s)

/-! ## Free values -/

/-- Word `i` of the free value the state draws next. -/
def freeNow (i : Nat) (s : State) : DWord := Config.freeWord s.free i

/-- One draw of free values is over. -/
def drawn (s : State) : State := { s with free := s.free + 1 }

/-- `n` free bytes. -/
def freeBytes (n : Nat) (s : State) : List Byte := (upto n).map fun i => (freeNow i s).truncate 8

/-! ## Memory bytes (R8, R260) -/

/-- What an unlisted address reads as (log 4). -/
def memDefault : Nat → Byte := fun _ => Config.memoryFill

/-- The byte at a fabric address. -/
def memByte (a : Nat) (s : State) : Byte := tabGet memDefault s.mem.cells a

/-- The `n` bytes from address `a` on. -/
def memRead (a n : Nat) (s : State) : List Byte := (upto n).map fun i => memByte (a + i) s

/-- Bytes stored in a cell list from address `a` on. -/
def putBytes (cells : List Host.Cell) : Nat → List Byte → List Host.Cell
  | _, [] => cells
  | a, b :: t => putBytes (tabSet memDefault cells a b) (a + 1) t

/-- Store bytes from address `a` on. -/
def memWrite (a : Nat) (bs : List Byte) (s : State) : State :=
  { s with mem := { s.mem with cells := putBytes s.mem.cells a bs } }

/-- The canonical form of memory: addresses strictly rising, no byte listed that equals the fill value. -/
def Memory.wf (m : Memory) : Bool := tabWf memDefault m.cells

/-- The little-endian number of `n` bytes at `a`. -/
def memNat (a n : Nat) (s : State) : Nat := leNat (memRead a n s)

/-- The first address past engine `n`'s region, and its base (R260). -/
def engBase (n : Nat) : Nat := n * 0x40000

/-! ## Time of day (R391): kept in units of 2^-32 ns -/

/-- One nanosecond in the units of the time of day. -/
def nsUnit : Nat := 2 ^ 32

/-- The Round period P (R18). -/
def periodOf (code : Nat) : Nat := 62500 * 2 ^ code * nsUnit

/-- The period in effect. -/
def period (s : State) : Nat := periodOf (fld Reg.ROUND_CFG 2 0 s)

/-- The epoch E (R20). -/
def epoch (s : State) : Nat :=
  ((rd Reg.ROUND_EPOCH_SEC s).toNat * 1000000000 + (rd Reg.ROUND_EPOCH_NS s).toNat) * nsUnit

/-- Whole seconds, nanoseconds of the second and 1/65,536 ns of an instant. -/
def todSec (t : Nat) : Nat := t / nsUnit / 1000000000
def todNs (t : Nat) : Nat := t / nsUnit % 1000000000
def todFrac (t : Nat) : Nat := t % nsUnit / 65536

/-- ROUND_STATUS.STATE (R23). -/
def roundState (s : State) : Nat := fld Reg.ROUND_STATUS 2 0 s

/-- Does the Round unit run Rounds (RUNNING, STRETCH, REALIGN or STOPPING)? -/
def roundsRun (s : State) : Bool := decide (2 ≤ roundState s)

/-- ROUND_NOW (R21). -/
def roundNow (s : State) : Nat := (rd Reg.ROUND_NOW s).toNat

/-- Is Epoch A in effect (R17, R60)? -/
def epochA (s : State) : Bool := flagOn Reg.DEV_STATUS 1 s

/-- The commit window is open (R27). -/
def windowOpen (s : State) : Bool := decide (s.round.sinceC0 < 48)

/-- Time-counter steps until the window ends. -/
def windowLeft (s : State) : Nat := 48 - s.round.sinceC0

/-! ## Which commands act -/

/-- A command acts if it names something the module has (`wf`); one that does not changes nothing (log 1). -/
def wellFormed (wf : Bool) (f : State → State) (s : State) : State := if wf then f s else s

/-- A command of a running module acts only out of reset (R488) and, but for those of SEC, TIME and HKC (`deep`), outside Deep
Standby (R473, R477). -/
def gated (deep wf : Bool) (f : State → State) (s : State) : State :=
  if decide (s.pwr.plug = 4) && (deep || decide (fld Reg.PWR_STATUS 1 0 s ≠ 3)) then inOrder s (wellFormed wf f s) else s

end Sys2Proof.Machine
end

