-- ==== Sys2Proof/Machine/AccParam.lean ====
section
/-! DEFINITION. The accelerator catalogue (R154 to R186): operation codes, parameter checks, buffer lengths. The size tables that the
manual takes from TS 38.212 and TS 36.212 are given by their well-known closed forms (log 23). -/
namespace Sys2Proof.Machine

/-- Kinds (R137). -/
def kLD : Nat := 1
def kEN : Nat := 2
def kPD : Nat := 3
def kTD : Nat := 4
def kFT : Nat := 5
def kMD : Nat := 6

/-- Does kind `kind` implement operation code `opc` (R163)? -/
def opcKnown (kind opc : Nat) : Bool :=
  match kind with
  | 1 => opc == 1 | 4 => opc == 1 | 3 => opc == 1 | 2 => decide (1 ≤ opc ∧ opc ≤ 3) | 5 => decide (1 ≤ opc ∧ opc ≤ 6)
  | 6 => opc == 1 || opc == 2 | _ => false

/-- Word `i` of a parameter block; words beyond it read zero. -/
def pw (par : List Byte) (i : Nat) : Nat := leAt par (4 * i) 4

/-- x / y rounded up. -/
def cdiv (x y : Nat) : Nat := (x + y - 1) / y

/-! ## Fields -/

/-- HARQ_IN, HARQ_OUT of LD and TD, AUTO of FT. -/
def harqIn (kind : Nat) (par : List Byte) : Nat := if kind = 1 then bitsOf (pw par 7) 10 10 else bitsOf (pw par 5) 10 10
def harqOut (kind : Nat) (par : List Byte) : Nat := if kind = 1 then bitsOf (pw par 7) 11 11 else bitsOf (pw par 5) 11 11
def ftAuto (par : List Byte) : Nat := bitsOf (pw par 1) 8 8

/-- Are NIN and NOUT those of the operation (R163)? -/
def countsOk (kind nin nout : Nat) (par : List Byte) : Bool :=
  match kind with
  | 1 => nin == 1 + harqIn 1 par && nout == 1 + harqOut 1 par
  | 4 => nin == 1 + harqIn 4 par && nout == 1 + harqOut 4 par
  | 5 => nin == 1 && nout == 1 + ftAuto par
  | 6 => nin == 3 && (nout == 1 || nout == 2)
  | _ => nin == 1 && nout == 1

/-- LD fields. -/
def ldBG (p : List Byte) : Nat := bitsOf (pw p 0) 1 0
def ldZC (p : List Byte) : Nat := bitsOf (pw p 1) 8 0
def ldK (p : List Byte) : Nat := (if ldBG p = 1 then 22 else 10) * ldZC p
def ldN (p : List Byte) : Nat := (if ldBG p = 1 then 66 else 50) * ldZC p
def ldKP (p : List Byte) : Nat := bitsOf (pw p 2) 13 0
def ldC0 (p : List Byte) : Nat := bitsOf (pw p 3) 15 8
def ldC (p : List Byte) : Nat := bitsOf (pw p 3) 7 0
def ldE0 (p : List Byte) : Nat := bitsOf (pw p 4) 19 0
def ldE1 (p : List Byte) : Nat := bitsOf (pw p 5) 19 0
def ldQM (p : List Byte) : Nat := bitsOf (pw p 6) 31 28
def ldNCB (p : List Byte) : Nat := bitsOf (pw p 6) 16 0
def ldTB (p : List Byte) : Nat := bitsOf (pw p 7) 15 14
def ldCB (p : List Byte) : Nat := bitsOf (pw p 7) 13 12
def ldET (p : List Byte) : Nat := bitsOf (pw p 7) 9 9
def ldIMAX (p : List Byte) : Nat := bitsOf (pw p 7) 5 0

/-- The length of the transport-block CRC that CRC_TB selects. -/
def tbLen (crc : Nat) : Nat := match crc with | 1 => 24 | 2 => 16 | _ => 0

/-- The lifting sizes of TS 38.212 Table 5.3.2-1: a × 2^j up to 384. -/
def isLifting (z : Nat) : Bool :=
  decide (z ≤ 384) && [2, 3, 5, 7, 9, 11, 13, 15].any fun a => (upto 8).any fun j => z == a * 2 ^ j

/-- The block sizes of TS 36.212 Table 5.1.3-3. -/
def isTurboSize (k : Nat) : Bool :=
  (decide (40 ≤ k ∧ k ≤ 512) && k % 8 == 0) || (decide (512 < k ∧ k ≤ 1024) && k % 16 == 0) ||
  (decide (1024 < k ∧ k ≤ 2048) && k % 32 == 0) || (decide (2048 < k ∧ k ≤ 6144) && k % 64 == 0)

/-- The words of LD_DECODE and EN_LDPC, in order, each valid or not (R164, R176). -/
def ldWords (enc : Bool) (p : List Byte) : List Bool :=
  [ decide (pw p 0 < 4) && (ldBG p == 1 || ldBG p == 2),
    decide (pw p 1 < 512) && isLifting (ldZC p),
    decide (pw p 2 < 2 ^ 14) && decide (1 ≤ ldKP p ∧ ldKP p ≤ ldK p),
    decide (pw p 3 < 2 ^ 16) && decide (1 ≤ ldC p ∧ ldC0 p ≤ ldC p),
    decide (pw p 4 < 2 ^ 20) && decide (1 ≤ ldE0 p),
    decide (pw p 5 < 2 ^ 20) && (decide (1 ≤ ldE1 p) || ldC0 p == ldC p),
    [1, 2, 4, 6, 8, 10].contains (ldQM p) && bitsOf (pw p 6) 27 26 == 0 && bitsOf (pw p 6) 23 17 == 0 &&
      ldE0 p % ldQM p == 0 && (ldC0 p == ldC p || ldE1 p % ldQM p == 0) &&
      decide (ldK p - 2 * ldZC p ≤ ldNCB p ∧ ldNCB p ≤ ldN p),
    decide (pw p 7 < 2 ^ 16) && bitsOf (pw p 7) 8 6 == 0 && decide (ldTB p ≤ 2) && decide (ldCB p ≤ 1) &&
      (ldCB p == 0 || decide (24 < ldKP p)) && (ldTB p == 0 || decide (tbLen (ldTB p) < ldC p * (ldKP p - 24 * ldCB p))) &&
      (if enc then bitsOf (pw p 7) 11 9 == 0 && ldIMAX p == 0 else decide (1 ≤ ldIMAX p ∧ ldIMAX p ≤ 32)) ] ++
  (if enc then [] else [decide (pw p 8 < 16) && (pw p 8 == 0 || decide (8 ≤ pw p 8))])

/-- TD fields. -/
def tdKM (p : List Byte) : Nat := bitsOf (pw p 0) 28 16
def tdKP (p : List Byte) : Nat := bitsOf (pw p 0) 12 0
def tdF (p : List Byte) : Nat := bitsOf (pw p 1) 29 24
def tdCM (p : List Byte) : Nat := bitsOf (pw p 1) 23 16
def tdC0 (p : List Byte) : Nat := bitsOf (pw p 1) 15 8
def tdC (p : List Byte) : Nat := bitsOf (pw p 1) 7 0
def tdE0 (p : List Byte) : Nat := bitsOf (pw p 2) 19 0
def tdE1 (p : List Byte) : Nat := bitsOf (pw p 3) 19 0
def tdQM (p : List Byte) : Nat := bitsOf (pw p 4) 31 28
def tdNCB (p : List Byte) : Nat := bitsOf (pw p 4) 16 0
def tdTB (p : List Byte) : Nat := bitsOf (pw p 5) 15 14
def tdCB (p : List Byte) : Nat := bitsOf (pw p 5) 13 12
def tdET (p : List Byte) : Nat := bitsOf (pw p 5) 9 9
def tdIMAX (p : List Byte) : Nat := bitsOf (pw p 5) 4 0
/-- K_c: the size of block `c` (R170). -/
def tdK (p : List Byte) (c : Nat) : Nat := if c < tdCM p then tdKM p else tdKP p
/-- ncb_c (R171). -/
def tdNcb (p : List Byte) (c : Nat) : Nat := min (tdNCB p) (3 * 32 * cdiv (tdK p c + 4) 32)

/-- The words of TD_DECODE and EN_TURBO (R170, R176). -/
def tdWords (enc : Bool) (p : List Byte) : List Bool :=
  [ decide (pw p 0 < 2 ^ 29) && bitsOf (pw p 0) 15 13 == 0 && isTurboSize (tdKP p) &&
      (tdKM p == 0 || (isTurboSize (tdKM p) && decide (tdKM p < tdKP p))),
    decide (pw p 1 < 2 ^ 30) && decide (1 ≤ tdC p ∧ tdC0 p ≤ tdC p ∧ tdCM p ≤ tdC p) && (tdKM p != 0 || tdCM p == 0) &&
      decide (tdF p < tdK p 0),
    decide (pw p 2 < 2 ^ 20) && decide (1 ≤ tdE0 p),
    decide (pw p 3 < 2 ^ 20) && (decide (1 ≤ tdE1 p) || tdC0 p == tdC p),
    [2, 4, 6, 8].contains (tdQM p) && bitsOf (pw p 4) 27 26 == 0 && bitsOf (pw p 4) 23 17 == 0 && tdE0 p % tdQM p == 0 &&
      (tdC0 p == tdC p || tdE1 p % tdQM p == 0) && decide (1 ≤ tdNCB p),
    decide (pw p 5 < 2 ^ 16) && bitsOf (pw p 5) 8 5 == 0 && decide (tdTB p ≤ 1) && decide (tdCB p ≤ 1) && (tdCB p == 0 || decide (1 < tdC p)) &&
      (if enc then bitsOf (pw p 5) 11 9 == 0 && tdIMAX p == 0 else decide (1 ≤ tdIMAX p ∧ tdIMAX p ≤ 16)) ]

/-- PD fields. -/
def pdNPC (p : List Byte) : Nat := bitsOf (pw p 0) 19 18
def pdK (p : List Byte) : Nat := bitsOf (pw p 0) 10 0
def pdE (p : List Byte) : Nat := bitsOf (pw p 1) 13 0
def pdCRC (p : List Byte) : Nat := bitsOf (pw p 2) 1 0
/-- L_CRC (R173). -/
def pdL (p : List Byte) : Nat := match pdCRC p with | 1 => 6 | 2 => 11 | 3 => 24 | _ => 0
def pdODD (p : List Byte) : Nat := bitsOf (pw p 3) 16 16
def pdLIST (p : List Byte) : Nat := if bitsOf (pw p 3) 11 8 = 0 then 8 else bitsOf (pw p 3) 11 8
def pdSEG (p : List Byte) : Nat := bitsOf (pw p 3) 0 0

/-- log2 rounded up. -/
def clog2 (x : Nat) : Nat := if x ≤ 1 then 0 else Nat.log2 (x - 1) + 1

/-- N of TS 38.212 clause 5.3.1. -/
def pdN (p : List Byte) : Nat :=
  let e := pdE p
  let k := pdK p
  let n1 := if 8 * e ≤ 9 * 2 ^ (clog2 e - 1) ∧ 16 * k < 9 * e then clog2 e - 1 else clog2 e
  let n := min n1 (min (clog2 (8 * k)) (bitsOf (pw p 0) 23 20))
  2 ^ (if n < 5 then 5 else n)

/-- The words of PD_DECODE and EN_POLAR (R173, R176). -/
def pdWords (enc : Bool) (p : List Byte) : List Bool :=
  [ decide (pw p 0 < 2 ^ 24) && bitsOf (pw p 0) 15 11 == 0 && (bitsOf (pw p 0) 23 20 == 9 || bitsOf (pw p 0) 23 20 == 10) &&
      decide (pdNPC p ≤ 2) && (pdNPC p == 0 || decide (pdK p ≤ 19)) && (bitsOf (pw p 0) 16 16 == 0 || decide (pdK p ≤ 164)) &&
      decide (12 ≤ pdK p ∧ pdK p ≤ 1023),
    decide (pw p 1 < 2 ^ 14) && decide (pdK p ≤ pdE p ∧ pdE p ≤ 8192) && decide (pdK p + (if pdNPC p = 0 then 0 else 3) ≤ pdN p),
    bitsOf (pw p 2) 15 2 == 0 && decide (pdL p < pdK p),
    decide (pw p 3 < 2 ^ 17) && bitsOf (pw p 3) 15 12 == 0 && bitsOf (pw p 3) 7 1 == 0 && (pdODD p == 0 || pdSEG p == 1) &&
      (enc || [0, 1, 2, 4, 8].contains (bitsOf (pw p 3) 11 8)) ]

/-- FT fields. -/
def ftCOUNT (p : List Byte) : Nat := bitsOf (pw p 0) 7 0
def ftN (p : List Byte) : Nat := bitsOf (pw p 2) 12 0
def ftCPi (p : List Byte) (i : Nat) : Nat :=
  if i < 16 ∧ bitOf (pw p 5) i = true then bitsOf (pw p 4) 12 0 else bitsOf (pw p 3) 12 0
def ftNB (p : List Byte) : Nat := bitsOf (pw p 7) 12 0

/-- A number with every factor `d` taken out; the first argument bounds their count. -/
def strip (d : Nat) : Nat → Nat → Nat
  | 0, n => n
  | f + 1, n => if n % d = 0 then strip d f (n / d) else n

/-- Is n of the form 2^a × 3^b × 5^c? -/
def smooth (n : Nat) : Bool := decide (n ≠ 0) && strip 5 13 (strip 3 13 (strip 2 13 n)) == 1

/-- Is n, below 33², a prime? -/
def isPrime (n : Nat) : Bool := decide (2 ≤ n) && (upto 33).all fun d => decide (d < 2) || decide (n ≤ d) || n % d != 0

/-- The words of an FT job (R179). -/
def ftWords (opc : Nat) (p : List Byte) : List Bool :=
  [ decide (pw p 0 < 256) && decide (1 ≤ ftCOUNT p),
    decide (pw p 1 < 512) && bitsOf (pw p 1) 7 4 == 0 && (ftAuto p == 1 || decide (bitsOf (pw p 1) 3 0 ≤ 12)),
    decide (pw p 2 < 2 ^ 13) && ((smooth (ftN p) && decide (2 ≤ ftN p ∧ ftN p ≤ 4096)) ||
      ((opc == 3 || opc == 4) && ((isPrime (ftN p) && decide (7 ≤ ftN p ∧ ftN p ≤ 1021)) || ftN p == 1151))) ] ++
  (if opc < 5 then [] else
    [ decide (pw p 3 ≤ ftN p), decide (pw p 4 ≤ ftN p), decide (pw p 5 < 2 ^ 16), decide (pw p 6 < ftN p),
      decide (1 ≤ pw p 7 ∧ pw p 7 ≤ ftN p) ])

/-- MD fields. -/
def mdNL (p : List Byte) : Nat := bitsOf (pw p 0) 12 8
def mdNR (p : List Byte) : Nat := bitsOf (pw p 0) 4 0
def mdNSYM (p : List Byte) : Nat := bitsOf (pw p 1) 27 24
def mdNSC (p : List Byte) : Nat := bitsOf (pw p 1) 11 0
def mdWS (p : List Byte) : Nat := bitsOf (pw p 2) 11 8
def mdWR (p : List Byte) : Nat := bitsOf (pw p 2) 2 0
/-- G (R183). -/
def mdG (p : List Byte) : Nat := cdiv (mdNSYM p) (mdWS p) * cdiv (mdNSC p) (12 * mdWR p)

/-- The words of an MD job (R182). -/
def mdWords (p : List Byte) : List Bool :=
  [ decide (pw p 0 < 2 ^ 13) && bitsOf (pw p 0) 7 5 == 0 && decide (1 ≤ mdNR p ∧ mdNR p ≤ 16) && decide (1 ≤ mdNL p ∧ mdNL p ≤ 16 ∧ mdNL p ≤ mdNR p),
    decide (pw p 1 < 2 ^ 28) && bitsOf (pw p 1) 23 12 == 0 && decide (1 ≤ mdNSYM p ∧ mdNSYM p ≤ 14) &&
      decide (12 ≤ mdNSC p ∧ mdNSC p ≤ 3300) && mdNSC p % 12 == 0,
    decide (pw p 2 < 2 ^ 12) && bitsOf (pw p 2) 7 3 == 0 && decide (1 ≤ mdWS p ∧ mdWS p ≤ 14) && [1, 2, 4].contains (mdWR p),
    decide (pw p 3 < 16) ]

/-- The words of an operation. -/
def paramWords (kind opc : Nat) (p : List Byte) : List Bool :=
  match kind with
  | 1 => ldWords false p
  | 2 => if opc = 1 then ldWords true p else if opc = 2 then pdWords true p else tdWords true p
  | 3 => pdWords false p
  | 4 => tdWords false p
  | 5 => ftWords opc p
  | _ => mdWords p

/-- The index of the first word that fails (R157). -/
def firstFalse : Nat → List Bool → Option Nat
  | _, [] => none
  | i, b :: t => if b then firstFalse (i + 1) t else some i

/-! ## Buffers -/

/-- Σ over the blocks 0 to n - 1. -/
def sumTo (n : Nat) (f : Nat → Nat) : Nat := ((upto n).map f).foldl (· + ·) 0

/-- B of LD and TD: bits of output 0 (R165, R171). -/
def ldB (p : List Byte) : Nat := ldC p * (ldKP p - 24 * ldCB p)
def tdB (p : List Byte) : Nat := sumTo (tdC p) (fun c => tdK p c - 24 * tdCB p) - tdF p

/-- Rate-matched bits of a job. -/
def ldEsum (p : List Byte) : Nat := ldC0 p * ldE0 p + (ldC p - ldC0 p) * ldE1 p
def tdEsum (p : List Byte) : Nat := tdC0 p * tdE0 p + (tdC p - tdC0 p) * tdE1 p
def pdEsum (p : List Byte) : Nat := (1 + pdSEG p) * pdE p

/-- Bytes of the soft buffer (R165, R171). -/
def softLen (n : Nat) (spacing last : Nat) : Nat := (n - 1) * (64 * cdiv spacing 64) + last

/-- The bytes each input must hold (R158, R165, R171, R174, R177, R180, R183). -/
def inputLens (kind opc : Nat) (p : List Byte) : List Nat :=
  match kind with
  | 1 => ldEsum p :: (if harqIn 1 p = 1 then [softLen (ldC p) (ldNCB p) (ldNCB p)] else [])
  | 4 => tdEsum p :: (if harqIn 4 p = 1 then [softLen (tdC p) (tdNCB p) (tdNcb p (tdC p - 1))] else [])
  | 3 => [pdEsum p]
  | 2 => [cdiv (if opc = 1 then ldB p - tbLen (ldTB p) else if opc = 3 then tdB p - tbLen (tdTB p)
      else (1 + pdSEG p) * (pdK p - pdL p) - pdODD p) 8]
  | 5 => [4 * (if opc < 5 then ftCOUNT p * ftN p else if opc = 5 then sumTo (ftCOUNT p) (fun i => ftCPi p i + ftN p) else ftCOUNT p * ftNB p)]
  | _ => [mdNSC p * mdNSYM p * mdNR p * 4, mdG p * mdNR p * mdNL p * 4,
      if opc = 1 then mdG p * 4 else mdG p * (mdNR p * (mdNR p + 1) / 2) * 8]

/-- Bits of output 0 of the kinds that write bit sequences. -/
def outBits (kind opc : Nat) (p : List Byte) : Nat :=
  match kind with
  | 1 => ldB p
  | 4 => tdB p
  | 3 => (1 + pdSEG p) * (pdK p - pdL p) - pdODD p
  | _ => if opc = 1 then ldEsum p else if opc = 3 then tdEsum p else pdEsum p

end Sys2Proof.Machine
end

