-- ==== Sys2Proof/Machine/AccCode.lean ====
section
/-! DEFINITION. What the decoders and encoders of the accelerators compute (R159, R164 to R177): bit order, CRCs, rate matching and its reverse,
soft combining, the end of a decode, and the channel codes of TS 38.212 and TS 36.212. The tables of those documents that have no closed form, and
the decoders' own arithmetic, are constants of Config with no body (log 12, 24). -/
namespace Sys2Proof.Machine

/-! ## Bits, LLRs, CRCs (R159) -/

/-- The bits of bytes: the first is bit 7 of byte 0. -/
def bitsOfBytes (bs : List Byte) : List Bool := bs.flatMap fun b => (upto 8).map fun i => b.toNat.testBit (7 - i)

/-- The number whose bits are given, the most significant first; the `n` bits of a number. -/
def natOfBits (l : List Bool) : Nat := l.foldl (fun v b => 2 * v + b2n b) 0
def bitsOfNat (n v : Nat) : List Bool := (upto n).map fun i => v.testBit (n - 1 - i)

/-- `l` padded with `x` to a length. -/
def padTo {α : Type} (n : Nat) (x : α) (l : List α) : List α := l ++ List.replicate (n - l.length) x

/-- Exactly `n` bits. -/
def fitBits (n : Nat) (l : List Bool) : List Bool := padTo n false (l.take n)

/-- Consecutive pieces of `n`; the first argument bounds their count. -/
def chunks {α : Type} (n : Nat) : Nat → List α → List (List α)
  | 0, _ => []
  | f + 1, l => if l.isEmpty then [] else l.take n :: chunks n f (l.drop n)

/-- The whole 4-byte words that hold a bit sequence, zero bits after it (R158). -/
def bytesOfBits (l : List Bool) : List Byte :=
  (chunks 8 (4 * cdiv l.length 32) (padTo (32 * cdiv l.length 32) false l)).map fun c => BitVec.ofNat 8 (natOfBits c)

/-- An LLR byte; −128 reads as −127 (R159). -/
def llrOf (b : Byte) : Int := if b.toInt = -128 then -127 else b.toInt

/-- A sum of LLRs saturated to ±127 (R166). -/
def llrAdd (x y : Int) : Int := if 127 < x + y then 127 else if x + y < -127 then -127 else x + y

/-- The remainder of a bit sequence by a CRC polynomial of `len` bits, from 0: zero for a sequence that ends with its own CRC. -/
def crcBits (len poly : Nat) (l : List Bool) : Nat :=
  l.foldl (fun r b => (2 * r % 2 ^ len) ^^^ (if r.testBit (len - 1) != b then poly else 0)) 0

/-- A CRC of TS 38.212 clause 5.1, by length and polynomial below the leading term. -/
structure CrcKind where
  len : Nat
  poly : Nat
deriving DecidableEq, Repr

def crc24A : CrcKind := ⟨24, 0x864CFB⟩
def crc24B : CrcKind := ⟨24, 0x800063⟩
def crc24C : CrcKind := ⟨24, 0xB2B117⟩
def crc16T : CrcKind := ⟨16, 0x1021⟩
def crc11 : CrcKind := ⟨11, 0x621⟩
def crc6 : CrcKind := ⟨6, 0x21⟩

/-- Does a sequence end with its own CRC; a sequence with its CRC after it. -/
def CrcKind.holds (c : CrcKind) (l : List Bool) : Bool := crcBits c.len c.poly l == 0
def CrcKind.attach (c : CrcKind) (l : List Bool) : List Bool := l ++ bitsOfNat c.len (crcBits c.len c.poly l)

/-- The transport-block CRC that CRC_TB selects. -/
def tbCrc (sel : Nat) : Option CrcKind := match sel with | 1 => some crc24A | 2 => some crc16T | _ => none

/-- Attach a CRC, if one is selected; does the selected one hold? -/
def attachOpt (c : Option CrcKind) (l : List Bool) : List Bool := match c with | some k => k.attach l | none => l
def holdsOpt (c : Option CrcKind) (l : List Bool) : Bool := match c with | some k => k.holds l | none => true

/-! ## The circular buffer (R166) -/

/-- A list turned so that its element `k` comes first, and back. -/
def turned {α : Type} (k : Nat) (l : List α) : List α := l.drop (k % l.length) ++ l.take (k % l.length)
def turnedBack {α : Type} (k : Nat) (l : List α) : List α := turned (l.length - k % l.length) l

/-- The first `n` elements of a list repeated without end: `rest` is what is left of the current pass. -/
def cycled {α : Type} (l : List α) : Nat → List α → List α
  | 0, _ => []
  | n + 1, x :: t => x :: cycled l n t
  | n + 1, [] => match l with
    | [] => []
    | x :: t => x :: cycled l n t

/-- Bit selection: `e` elements of a circular buffer from position `k0` on, passing over the NULL ones. -/
def selected {α : Type} (buf : List (Option α)) (k0 e : Nat) : List α :=
  let sent := (turned k0 buf).filterMap id
  cycled sent e sent

/-- A pass round the buffer added to what earlier passes left. -/
def addPass : List Int → List Int → List Int
  | x :: a, y :: b => llrAdd x y :: addPass a b
  | a, [] => a
  | [], b => b

/-- The LLRs of selected positions put back: `keep` says which positions of the turned buffer are sent. -/
def putBack : List Bool → List Int → List (Option Int)
  | [], _ => []
  | false :: k, l => none :: putBack k l
  | true :: k, [] => some 0 :: putBack k []
  | true :: k, x :: l => some x :: putBack k l

/-- Bit selection in reverse: the combined LLR of every position of a buffer, none where nothing is ever sent. Positions met several times are
summed in the order they came. -/
def deselected (keep : List Bool) (k0 : Nat) (llrs : List Int) : List (Option Int) :=
  let m := (keep.filter id).length
  let sums := if m = 0 then [] else (chunks m (llrs.length / m + 1) llrs).foldl addPass []
  turnedBack k0 (putBack (turned k0 keep) sums)

/-- HARQ combining: the stored value of each position added in the same way, after those of the job (R166). -/
def harqAdd (stored : List Byte) (soft : List (Option Int)) : List (Option Int) :=
  if stored.isEmpty then soft
  else (soft.zip (padTo soft.length 0 stored)).map fun x => x.1.map fun v => llrAdd v (llrOf x.2)

/-- The bytes of a combined soft buffer; a filler position holds an open value. -/
def softBytes (soft : List (Option Int)) : List Byte :=
  soft.map fun v => match v with | some x => BitVec.ofInt 8 x | none => Config.fillerLlr

/-- Bit interleaving over modulation symbols (TS 38.212 clause 5.4.2.2), and the order of its input bits in its output. -/
def qmOrder (e qm : Nat) : List Nat := (upto e).map fun k => k / (e / qm) + (k % (e / qm)) * qm
def qmInterleave {α : Type} (d : α) (qm : Nat) (l : List α) : List α :=
  (upto l.length).map fun t => l.getD (t % qm * (l.length / qm) + t / qm) d
def qmDeinterleave {α : Type} (d : α) (qm : Nat) (l : List α) : List α := (qmOrder l.length qm).map fun i => l.getD i d

/-! ## The end of a decode (R167, R168, R171) -/

/-- A decoded block: its bits, iterations run, whether it counts as failed. -/
structure Decoded where
  bits : List Bool
  its : Nat
  failed : Bool
deriving DecidableEq, Repr

/-- Iterate until `stop` holds of the decisions, at most `imax` times: the iteration count. -/
def iterations (stop : Nat → Bool) (imax : Nat) : Nat :=
  match (upto imax).find? fun i => stop (i + 1) with
  | some i => i + 1
  | none => imax

/-- What a job's computation leaves besides its outputs: RESULT, DATA_FAIL DETAIL bits, and what the kind counters add. -/
structure JobEnd where
  result : Nat
  fail : Nat
  c0 : Nat := 0
  c1 : Nat := 0
  c2 : Nat := 0
  c3 : Nat := 0
deriving DecidableEq, Repr

/-- The end of a decoder job: `bit` is the DETAIL bit that failed blocks set, `tb` says the transport-block CRC holds. -/
def decoderEnd (bit imax : Nat) (tb : Bool) (bs : List Decoded) : JobEnd :=
  let failed := (bs.filter (·.failed)).length
  { result := (bs.foldl (fun m b => max m b.its) 0) * 0x1000000 + failed * 256 + bs.length,
    fail := (if failed = 0 then 0 else bit) + 2 * b2n (!tb),
    c0 := bs.length, c1 := failed, c2 := bs.foldl (fun n b => n + b.its) 0, c3 := (bs.filter fun b => decide (b.its < imax)).length }

/-! ## LDPC (R164 to R168, R177) -/

/-- E_c, and where block `c` begins. -/
def ldE (p : List Byte) (c : Nat) : Nat := if c < ldC0 p then ldE0 p else ldE1 p
def ldStart (p : List Byte) (c : Nat) : Nat := sumTo c (ldE p)

/-- k0 of TS 38.212 Table 5.4.2.1-2. -/
def ldK0 (p : List Byte) : Nat :=
  let rv := bitsOf (pw p 6) 25 24
  let m := if ldBG p = 1 then [0, 17, 33, 56].getD rv 0 else [0, 13, 25, 43].getD rv 0
  m * ldNCB p / ldN p * ldZC p

/-- Which positions of the circular buffer are sent: all but filler. -/
def ldKeep (p : List Byte) : List Bool :=
  (upto (ldNCB p)).map fun n => decide (n + 2 * ldZC p < ldKP p ∨ ldK p ≤ n + 2 * ldZC p)

/-- The combined soft buffer of block `c`. -/
def ldSoft (p : List Byte) (c : Nat) (llrs stored : List Byte) : List (Option Int) :=
  harqAdd stored (deselected (ldKeep p) (ldK0 p)
    (qmDeinterleave 0 (ldQM p) ((sliceOf llrs (ldStart p c) (ldE p c)).map llrOf)))

/-- Lact_c (R167). -/
def ldLayers (p : List Byte) (c : Nat) : Nat :=
  let x := if bitsOf (pw p 6) 25 24 = 0 ∧ harqIn 1 p = 0 then min (ldE p c) (ldNCB p) else ldNCB p
  let kb := if ldBG p = 1 then 22 else 10
  min (if ldBG p = 1 then 46 else 42) (max 4 (cdiv (x + (ldK p - ldKP p)) (ldZC p) + 2 - kb))

/-- The set index of a lifting size in TS 38.212 Table 5.3.2-1, by its odd part. -/
def liftingSet (z : Nat) : Nat :=
  match strip 2 9 z with | 1 => 0 | 3 => 1 | 5 => 2 | 7 => 3 | 9 => 4 | 11 => 5 | 13 => 6 | _ => 7

/-- Do all parity checks of the first `layers` layers hold of the coded bits? -/
def ldParity (p : List Byte) (layers : Nat) (word : List Bool) : Bool :=
  let z := ldZC p
  (upto layers).all fun r => (upto z).all fun i =>
    !((upto (if ldBG p = 1 then 68 else 52)).foldl (fun acc col => match Config.ldpcShift (ldBG p) (liftingSet z) r col with
      | some v => acc != word.getD (col * z + (i + v) % z) false
      | none => acc) false)

/-- Block `c` decoded from its soft buffer: the first 2 × ZC positions, never sent, start at zero, filler is a known zero (R166, R167). -/
def ldDecode (p : List Byte) (c : Nat) (soft : List (Option Int)) : Decoded :=
  let ch := padTo (ldN p + 2 * ldZC p) (some 0) (List.replicate (2 * ldZC p) (some 0) ++ soft)
  let known := (upto ch.length).map fun n => if ldKP p ≤ n ∧ n < ldK p then none else ch.getD n (some 0)
  let word := fun i => ((fitBits known.length (Config.ldpcWord p (ldLayers p c) i known)).zip known).map fun x => x.1 && x.2.isSome
  let info := fun i => (word i).take (ldKP p)
  let crc := fun i => if ldCB p = 1 then crc24B.holds (info i) else true
  let parity := fun i => ldParity p (ldLayers p c) (word i)
  let n := if ldET p = 1 then iterations (fun i => parity i && crc i) (ldIMAX p) else ldIMAX p
  { bits := (info n).take (ldKP p - 24 * ldCB p), its := n, failed := if ldCB p = 1 then !(crc n) else !(parity n) }

/-- The code blocks of a transport block: the payload with its CRC, cut to `n` bits each, with a CRC of their own if `cb`. -/
def cutBlocks (crc : Option CrcKind) (cb : Bool) (sizes : List Nat) (payload : List Bool) : List (List Bool) :=
  let whole := attachOpt crc payload
  (upto sizes.length).map fun c =>
    let part := (whole.drop (sumTo c (sizes.getD · 0))).take (sizes.getD c 0)
    if cb then crc24B.attach part else part

/-- A block of KP bits, encoded, rate-matched to `e` bits and interleaved (TS 38.212 clauses 5.3.2, 5.4.2). -/
def ldEncode (p : List Byte) (e : Nat) (block : List Bool) : List Bool :=
  let sys := padTo (ldK p) false block
  let coded := fitBits (ldN p + 2 * ldZC p) (sys ++ Config.ldpcParity (ldBG p) (ldZC p) sys)
  let buf := ((coded.drop (2 * ldZC p)).take (ldNCB p)).zip (ldKeep p) |>.map fun x => if x.2 then some x.1 else none
  qmInterleave false (ldQM p) (selected buf (ldK0 p) e)

/-! ## Turbo (R170, R171, R177) -/

/-- E_c, and where block `c` begins. -/
def tdE (p : List Byte) (c : Nat) : Nat := if c < tdC0 p then tdE0 p else tdE1 p
def tdStart (p : List Byte) (c : Nat) : Nat := sumTo c (tdE p)

/-- Filler bits of block `c`. -/
def tdFill (p : List Byte) (c : Nat) : Nat := if c = 0 then tdF p else 0

/-- The column permutation of TS 36.212 Table 5.1.4-1. -/
def turboColumns : List Nat :=
  [0, 16, 8, 24, 4, 20, 12, 28, 2, 18, 10, 26, 6, 22, 14, 30, 1, 17, 9, 25, 5, 21, 13, 29, 3, 19, 11, 27, 7, 23, 15, 31]

/-- Rows of the sub-block interleaver of a block of `k` bits. -/
def turboRows (k : Nat) : Nat := cdiv (k + 4) 32

/-- What stands at position `n` of the circular buffer of a block of `k` bits: stream and index in it, none for padding. -/
def turboAt (k n : Nat) : Option (Nat × Nat) :=
  let r := turboRows k
  let stream := if n < 32 * r then 0 else 1 + (n - 32 * r) % 2
  let i := if n < 32 * r then n else (n - 32 * r) / 2
  let y := turboColumns.getD (i / r) 0 + 32 * (i % r)
  let q := if stream = 2 then (y + 1) % (32 * r) else y
  if q < 32 * r - (k + 4) then none else some (stream, q - (32 * r - (k + 4)))

/-- Is position `n` of block `c` sent? Padding and the filler of the first two streams are not. -/
def turboSent (p : List Byte) (c n : Nat) : Bool :=
  match turboAt (tdK p c) n with
  | none => false
  | some (stream, i) => stream == 2 || decide (tdFill p c ≤ i)

/-- k0 of TS 36.212 clause 5.1.4.1.2. -/
def turboK0 (p : List Byte) (c : Nat) : Nat :=
  let r := turboRows (tdK p c)
  r * (2 * cdiv (tdNcb p c) (8 * r) * bitsOf (pw p 4) 25 24 + 2)

/-- The combined soft buffer of block `c`. -/
def tdSoft (p : List Byte) (c : Nat) (llrs stored : List Byte) : List (Option Int) :=
  harqAdd stored (deselected ((upto (tdNcb p c)).map (turboSent p c)) (turboK0 p c) ((sliceOf llrs (tdStart p c) (tdE p c)).map llrOf))

/-- Block `c` decoded from its soft buffer (R171). -/
def tdDecode (p : List Byte) (c : Nat) (soft : List (Option Int)) : Decoded :=
  let word := fun i => fitBits (tdK p c) (Config.turboWord (tdK p c) (tdFill p c) i soft)
  let cb := fun i => if tdCB p = 1 then crc24B.holds (word i) else true
  let tb := fun i => holdsOpt (tbCrc (tdTB p)) ((word i).drop (tdFill p c))
  let checks := tdCB p == 1 || (tdC p == 1 && tdTB p == 1)
  let n := if tdET p = 1 ∧ checks = true then iterations (fun i => if tdCB p = 1 then cb i else tb i) (tdIMAX p) else tdIMAX p
  { bits := ((word n).take (tdK p c - 24 * tdCB p)).drop (tdFill p c), its := n, failed := !(cb n) }

/-- A constituent encoder (TS 36.212 clause 5.1.3.2.1): registers, and the step of one input bit: parity and the next registers. -/
def rscStep (r : Bool × Bool × Bool) (c : Bool) : Bool × (Bool × Bool × Bool) :=
  let a := (c != r.2.1) != r.2.2
  ((a != r.1) != r.2.2, (a, r.1, r.2.1))

/-- The parity bits of a sequence, and the registers it leaves. -/
def rscRun (r : Bool × Bool × Bool) : List Bool → List Bool × (Bool × Bool × Bool)
  | [] => ([], r)
  | c :: t => ((rscStep r c).1 :: (rscRun (rscStep r c).2 t).1, (rscRun (rscStep r c).2 t).2)

/-- The bits that end a constituent encoder: three inputs, which are its feedback, each with its parity. -/
def rscTail : Nat → Bool × Bool × Bool → List (Bool × Bool)
  | 0, _ => []
  | n + 1, r => let x := r.2.1 != r.2.2
    (x, (rscStep r x).1) :: rscTail n (rscStep r x).2

/-- The three streams of a block, each of K + 4 bits. -/
def turboStreams (block : List Bool) : List (List Bool) :=
  let k := block.length
  let f := Config.turboInterleaver k
  let a := rscRun (false, false, false) block
  let b := rscRun (false, false, false) ((upto k).map fun i => block.getD ((f.1 * i + f.2 * i * i) % k) false)
  let t := ((rscTail 3 a.2) ++ (rscTail 3 b.2)).flatMap fun x => [x.1, x.2]
  let ends := fun (i : Nat) => (upto 4).map fun j => t.getD (3 * j + i) false
  [block ++ ends 0, a.1 ++ ends 1, b.1 ++ ends 2]

/-- Block `c`, its filler in front, encoded and rate-matched to `e` bits. -/
def tdEncode (p : List Byte) (c e : Nat) (block : List Bool) : List Bool :=
  let d := turboStreams block
  let buf := (upto (tdNcb p c)).map fun n => match turboAt (tdK p c) n with
    | some (stream, i) => if turboSent p c n then some ((d.getD stream []).getD i false) else none
    | none => none
  selected buf (turboK0 p c) e

/-! ## Polar (R173, R174, R177) -/

/-- The CRC of a segment. -/
def pdCrc (p : List Byte) : Option CrcKind :=
  match pdCRC p with | 1 => some crc6 | 2 => some crc11 | 3 => some crc24C | _ => none

/-- The CRC of downlink control runs over 24 ones in front of the segment, and its last 16 bits are masked with RNTI (TS 38.212 clause 7.3.2;
PRESUMED, log 23). Both are done with the CRC bits in place, so that masking twice gives the bits back. -/
def pdMasked (p : List Byte) (l : List Bool) : List Bool :=
  if pdCRC p = 3 then
    l.take (l.length - 16) ++ ((l.drop (l.length - 16)).zip (bitsOfNat 16 (bitsOf (pw p 2) 31 16))).map fun x => x.1 != x.2
  else l
def pdPrefix (p : List Byte) : List Bool := if pdCRC p = 3 then List.replicate 24 true else []

/-- Does a path of K bits pass the CRC; a segment with its CRC attached. -/
def pdHolds (p : List Byte) (l : List Bool) : Bool := holdsOpt (pdCrc p) (pdPrefix p ++ pdMasked p l)
def pdAttach (p : List Byte) (l : List Bool) : List Bool :=
  pdMasked p ((attachOpt (pdCrc p) (pdPrefix p ++ l)).drop (pdPrefix p).length)

/-- A decoded segment: its information bits, the rank of the path, whether no path passed (R174). -/
structure Segment where
  bits : List Bool
  rank : Nat
  failed : Bool
deriving DecidableEq, Repr

/-- Segment `g` decoded. With CRC 0 every path passes. -/
def pdDecode (p : List Byte) (g : Nat) (llrs : List Byte) : Segment :=
  let l := (sliceOf llrs (g * pdE p) (pdE p)).map llrOf
  let path := fun r => fitBits (pdK p) (Config.polarPath p l r)
  let bits := fun r => ((path r).take (pdK p - pdL p)).drop (if g = 0 then pdODD p else 0)
  match (upto (pdLIST p)).find? fun r => pdHolds p (path r) with
  | some r => { bits := bits r, rank := r, failed := false }
  | none => { bits := bits 0, rank := 0, failed := true }

/-- The sub-block interleaver pattern of TS 38.212 Table 5.4.1.1-1, and J(n). -/
def polarBlocks : List Nat :=
  [0, 1, 2, 4, 3, 5, 6, 7, 8, 16, 9, 17, 10, 18, 11, 19, 12, 20, 13, 21, 14, 22, 15, 23, 24, 25, 26, 28, 27, 29, 30, 31]
def polarJ (n i : Nat) : Nat := polarBlocks.getD (32 * i / n) 0 * (n / 32) + i % (n / 32)

/-- Are bits punctured (rather than shortened) when E is below N? -/
def polarPunctures (k e : Nat) : Bool := decide (16 * k ≤ 7 * e)

/-- Indices that rate matching freezes (TS 38.212 clause 5.4.1.1). -/
def polarFrozen (n k e i : Nat) : Bool :=
  if n ≤ e then false
  else if polarPunctures k e then
    (upto (n - e)).any (fun j => polarJ n j == i) ||
    decide (i < if 3 * n ≤ 4 * e then cdiv (3 * n - 2 * e) 4 else cdiv (9 * n - 4 * e) 16)
  else (upto (n - e)).any fun j => polarJ n (e + j) == i

/-- The `m` information and parity-check indices, the most reliable last. -/
def polarInfo (n k e m : Nat) : List Nat :=
  let l := ((upto 1024).map Config.polarSequence).filter fun i => decide (i < n) && !polarFrozen n k e i
  l.drop (l.length - m)

/-- Rows of the generator matrix have 2 to the number of ones of their index as weight. -/
def onesOf (i : Nat) : Nat := ((upto 10).filter fun b => i.testBit b).length

/-- The last of a list's elements of least weight. -/
def lightest (l : List Nat) : Option Nat :=
  l.reverse.find? fun i => l.all fun j => decide (onesOf i ≤ onesOf j)

/-- The parity-check indices: of NPC 1 the three least reliable; of NPC 2 the two least reliable and the one of least row weight, the most
reliable of several, among the others. -/
def polarChecks (npc : Nat) (info : List Nat) : List Nat :=
  match npc with
  | 0 => []
  | 1 => info.take 3
  | _ => info.take 2 ++ (lightest (info.drop 3)).toList

/-- The input bits u of indices 0 to n - 1: parity-check bits from a shift register of five (TS 38.212 clause 5.3.1.2). -/
def polarInput (info checks : List Nat) : List Nat → List Bool → List Bool → List Bool
  | [], _, _ => []
  | i :: t, reg, c =>
    let r := reg.drop 1 ++ reg.take 1
    if checks.contains i then r.getD 0 false :: polarInput info checks t r c
    else if info.contains i then
      c.headD false :: polarInput info checks t ((r.getD 0 false != c.headD false) :: r.drop 1) c.tail
    else false :: polarInput info checks t r c

/-- The polar transform, a butterfly of every stage. -/
def polarTransform (n : Nat) (u : List Bool) : List Bool :=
  (upto (Nat.log2 n)).foldl (fun d s => (upto n).map fun i =>
    if i / 2 ^ s % 2 = 0 then d.getD i false != d.getD (i + 2 ^ s) false else d.getD i false) u

/-- Input interleaving of K bits (TS 38.212 clause 5.3.1.1). -/
def polarInterleave (k : Nat) (c : List Bool) : List Bool :=
  (((upto 164).map Config.polarPattern).filter fun m => decide (164 - k ≤ m)).map fun m => c.getD (m - (164 - k)) false

/-- Triangular interleaving of coded bits (TS 38.212 clause 5.4.1.3): T is the least size whose triangle holds them. -/
def triangleSize (e : Nat) : Nat := ((upto (e + 1)).find? fun t => decide (2 * e ≤ t * (t + 1))).getD e
def triangle (l : List Bool) : List Bool :=
  let t := triangleSize l.length
  (upto t).flatMap fun j => (upto (t - j)).filterMap fun i => l[i * t - i * (i - 1) / 2 + j]?

/-- A segment of K bits encoded and rate-matched to E bits. -/
def pdEncode (p : List Byte) (c : List Bool) : List Bool :=
  let n := pdN p
  let k := pdK p
  let e := pdE p
  let info := polarInfo n k e (k + if pdNPC p = 0 then 0 else 3)
  let u := polarInput info (polarChecks (pdNPC p) info) (upto n) (List.replicate 5 false)
    (if bitsOf (pw p 0) 16 16 = 1 then polarInterleave k c else c)
  let d := polarTransform n u
  let y := (upto n).map fun i => d.getD (polarJ n i) false
  let f := (upto e).map fun i => y.getD (if n ≤ e then i % n else if polarPunctures k e then i + n - e else i) false
  if bitsOf (pw p 0) 17 17 = 1 then triangle f else f

/-! ## Whole jobs -/

/-- A piece of output: buffer, offset, bytes, and how much of each input it needs. -/
structure OutItem where
  buf : Nat
  off : Nat
  data : List Byte
  needs : List (Nat × Nat)
deriving DecidableEq, Repr

/-- Output 0 as a bit sequence made of parts, cut to whole words: part `i` goes when `need i` is there. -/
def bitItems (parts : List (List Bool)) (need : Nat → List (Nat × Nat)) : List OutItem :=
  let whole := bytesOfBits (parts.flatMap id)
  let upTo := fun i => sumTo i fun j => (parts.getD j []).length
  (upto parts.length).map fun i =>
    let lo := upTo i / 32 * 4
    let hi := if i + 1 = parts.length then whole.length else upTo (i + 1) / 32 * 4
    { buf := 0, off := lo, data := sliceOf whole lo (hi - lo), needs := need i }

/-- The stored soft values of block `c`, none without HARQ_IN. -/
def storedOf (on spacing n c : Nat) (inp : List Byte) : List Byte :=
  if on = 1 then sliceOf inp (c * (64 * cdiv spacing 64)) n else []

/-- The soft-buffer output: one item a block; the last ends with its 4-byte word (R158). -/
def softItems (on spacing : Nat) (softs : List (List (Option Int))) (need : Nat → List (Nat × Nat)) : List OutItem :=
  if on = 0 then []
  else (upto softs.length).map fun c =>
    let bs := softBytes (softs.getD c [])
    { buf := 1, off := c * (64 * cdiv spacing 64),
      data := if c + 1 = softs.length then padTo (roundUp bs.length 4) 0 bs else bs, needs := need c }

/-- Items of two lists in turn. -/
def alternately {α : Type} : List α → List α → List α
  | x :: a, y :: b => x :: y :: alternately a b
  | [], b => b
  | a, [] => a

/-- LD_DECODE of its inputs (R164 to R168). -/
def ldJob (p inp soft : List Byte) : List OutItem × JobEnd :=
  let softs := (upto (ldC p)).map fun c => ldSoft p c inp (storedOf (harqIn 1 p) (ldNCB p) (ldNCB p) c soft)
  let bs := (upto (ldC p)).map fun c => ldDecode p c (softs.getD c [])
  let need := fun c => [(0, ldStart p (c + 1))] ++ (if harqIn 1 p = 1 then [(1, c * (64 * cdiv (ldNCB p) 64) + ldNCB p)] else [])
  (alternately (softItems (harqOut 1 p) (ldNCB p) softs need) (bitItems (bs.map (·.bits)) need),
   decoderEnd (if ldCB p = 1 then 1 else 4) (ldIMAX p) (holdsOpt (tbCrc (ldTB p)) (bs.flatMap (·.bits))) bs)

/-- TD_DECODE of its inputs (R170, R171). -/
def tdJob (p inp soft : List Byte) : List OutItem × JobEnd :=
  let softs := (upto (tdC p)).map fun c => tdSoft p c inp (storedOf (harqIn 4 p) (tdNCB p) (tdNcb p c) c soft)
  let bs := (upto (tdC p)).map fun c => tdDecode p c (softs.getD c [])
  let need := fun c => [(0, tdStart p (c + 1))] ++ (if harqIn 4 p = 1 then [(1, c * (64 * cdiv (tdNCB p) 64) + tdNcb p c)] else [])
  (alternately (softItems (harqOut 4 p) (tdNCB p) softs need) (bitItems (bs.map (·.bits)) need),
   decoderEnd 1 (tdIMAX p) (holdsOpt (tbCrc (tdTB p)) (bs.flatMap (·.bits))) bs)

/-- PD_DECODE of its input (R174). -/
def pdJob (p inp : List Byte) : List OutItem × JobEnd :=
  let gs := (upto (1 + pdSEG p)).map fun g => pdDecode p g inp
  let g0 := gs.getD 0 ⟨[], 0, false⟩
  let g1 := gs.getD 1 ⟨[], 0, false⟩
  (bitItems (gs.map (·.bits)) fun g => [(0, (g + 1) * pdE p)],
   { result := g0.rank + 16 * g1.rank, fail := b2n g0.failed + 2 * b2n g1.failed, c0 := gs.length, c1 := b2n g0.failed + b2n g1.failed })

/-- An encoder job: `a` payload bits make blocks, each encoded (R177). -/
def enJob (opc : Nat) (p inp : List Byte) : List OutItem × JobEnd :=
  let a := if opc = 1 then ldB p - tbLen (ldTB p) else if opc = 3 then tdB p - tbLen (tdTB p) else (1 + pdSEG p) * (pdK p - pdL p) - pdODD p
  let payload := (bitsOfBytes inp).take a
  let parts :=
    if opc = 1 then
      let bs := cutBlocks (tbCrc (ldTB p)) (ldCB p == 1) (List.replicate (ldC p) (ldKP p - 24 * ldCB p)) payload
      (upto (ldC p)).map fun c => ldEncode p (ldE p c) (bs.getD c [])
    else if opc = 3 then
      let whole := List.replicate (tdF p) false ++ attachOpt (tbCrc (tdTB p)) payload
      let bs := cutBlocks none (tdCB p == 1) ((upto (tdC p)).map fun c => tdK p c - 24 * tdCB p) whole
      (upto (tdC p)).map fun c => tdEncode p c (tdE p c) (bs.getD c [])
    else
      let whole := List.replicate (pdODD p) false ++ payload
      (upto (1 + pdSEG p)).map fun g => pdEncode p (pdAttach p ((whole.drop (g * (pdK p - pdL p))).take (pdK p - pdL p)))
  (bitItems parts fun _ => [(0, cdiv a 8)],
   { result := sumTo parts.length (fun c => (parts.getD c []).length) % 2 ^ 32, fail := 0, c0 := parts.length })

end Sys2Proof.Machine
end

