-- ==== Sys2Proof/Machine/Flags.lean ====
section
/-! DEFINITION. The status flags of an engine (R63, R64) and the arithmetic that sets them: accumulation, rounding, extraction
(R80, R81). -/
namespace Sys2Proof.Machine

/-- ST of the current bank (R63). -/
def Engine.st (e : Engine) : Word := if e.bank = 0 then e.st0 else e.st1

/-- RS of the current bank (R64). -/
def Engine.rs (e : Engine) : Word := if e.bank = 0 then e.rs0 else e.rs1

/-- Put a value into ST of the current bank. -/
def Engine.setSt (e : Engine) (v : Word) : Engine := if e.bank = 0 then { e with st0 := v } else { e with st1 := v }

/-- Put a value into RS of the current bank. -/
def Engine.setRs (e : Engine) (v : Word) : Engine := if e.bank = 0 then { e with rs0 := v } else { e with rs1 := v }

/-- ST.RND and ST.SAT. -/
def Engine.rnd (e : Engine) : Nat := bitsOf e.st.toNat 3 2
def Engine.satOn (e : Engine) : Bool := bitOf e.st.toNat 1

/-- Set the sticky flag SOV (a saturating operation saturated), if `c`. -/
def Engine.orSov (e : Engine) (c : Bool) : Engine := if c then e.setSt (e.st ||| 0x10) else e

/-- Set the sticky flag AOV (an accumulation wrapped), if `c`. -/
def Engine.orAov (e : Engine) (c : Bool) : Engine := if c then e.setSt (e.st ||| 0x20) else e

/-- RS.REM, RS.LEN, RS.IDX (R64). -/
def Engine.rem (e : Engine) : Nat := bitsOf e.rs.toNat 16 0
def Engine.rlen (e : Engine) : Nat := bitsOf e.rs.toNat 22 17
def Engine.ridx (e : Engine) : Nat := bitsOf e.rs.toNat 28 23

/-- The RS word of given fields. -/
def rsWord (idx len rem : Nat) : Word := BitVec.ofNat 32 (idx * 0x800000 + len * 0x20000 + rem)

/-- A complex number with integer parts. -/
structure CInt where
  re : Int
  im : Int
deriving DecidableEq, Repr

/-- The cint16 value of 32 bits (R62). -/
def cint16 (v : Nat) : CInt := ⟨signed 16 v, signed 16 (v / 65536)⟩

/-- The 32 bits of a cint16 value, low 16 bits of each part. -/
def packC16 (c : CInt) : Nat := unsigned 16 c.im * 65536 + unsigned 16 c.re

/-- Exact product, conjugate, sum and difference. -/
def CInt.mul (x h : CInt) : CInt := ⟨x.re * h.re - x.im * h.im, x.re * h.im + x.im * h.re⟩
def CInt.conj (x : CInt) : CInt := ⟨x.re, -x.im⟩
def CInt.add (x y : CInt) : CInt := ⟨x.re + y.re, x.im + y.im⟩
def CInt.sub (x y : CInt) : CInt := ⟨x.re - y.re, x.im - y.im⟩

/-- The exact values of an accumulator's halves. -/
def Accum.val (a : Accum) : CInt := ⟨a.re.toInt, a.im.toInt⟩

/-- Does an exact value fall outside the signed range of `w` bits? -/
def wraps (w : Nat) (i : Int) : Bool := decide (sat w i ≠ i)

/-- An accumulation of `d` (R80): each half keeps the low 40 bits; the flag says a half wrapped. -/
def accumulate (a : Accum) (d : CInt) : Accum × Bool :=
  (⟨BitVec.ofInt 40 (a.val.re + d.re), BitVec.ofInt 40 (a.val.im + d.im)⟩,
   wraps 40 (a.val.re + d.re) || wraps 40 (a.val.im + d.im))

/-- round(v / 2^sh) under ST.RND (R81): 0 toward minus infinity, 1 half up, 2 half to even; with sh = 0 no rounding. -/
def roundShift (rnd : Nat) (v : Int) (sh : Nat) : Int :=
  if sh = 0 then v
  else if rnd = 0 then v / 2 ^ sh
  else if rnd = 1 then (v + 2 ^ (sh - 1)) / 2 ^ sh
  else if 2 * (v % 2 ^ sh) > 2 ^ sh ∨ (2 * (v % 2 ^ sh) = 2 ^ sh ∧ v / 2 ^ sh % 2 = 1) then v / 2 ^ sh + 1
  else v / 2 ^ sh

/-- Extraction of one value to `w` bits (R81): the code, and whether it saturated. -/
def extract (rnd : Nat) (satOn : Bool) (w : Nat) (v : Int) (sh : Nat) : Nat × Bool :=
  if satOn then (unsigned w (sat w (roundShift rnd v sh)), wraps w (roundShift rnd v sh))
  else (unsigned w (roundShift rnd v sh), false)

/-- Extraction of both halves to cint16 (R81). -/
def extractC (rnd : Nat) (satOn : Bool) (c : CInt) (sh : Nat) : Nat × Bool :=
  ((extract rnd satOn 16 c.im sh).1 * 65536 + (extract rnd satOn 16 c.re sh).1,
   (extract rnd satOn 16 c.re sh).2 || (extract rnd satOn 16 c.im sh).2)

end Sys2Proof.Machine
end

