-- ==== Sys2Proof/Machine/AccMath.lean ====
section
/-! DEFINITION. What the transform unit and the MIMO detector compute (R178 to R186). Sums are exact; what the units' own precision makes of them
is a constant of Config with no body (log 24). -/
namespace Sys2Proof.Machine

/-- Samples of a buffer, cint16 (R62, R159). -/
def samplesOf (bs : List Byte) : List CInt := (upto (bs.length / 4)).map fun i => cint16 (leAt bs (4 * i) 4)

/-- The bytes of samples. -/
def sampleOut (l : List CInt) : List Byte := l.flatMap fun c => leBytes 4 (packC16 c)

/-! ## Transforms (R180) -/

/-- Is operation `opc` an inverse transform? -/
def ftInverse (opc : Nat) : Bool := opc == 2 || opc == 4 || opc == 6

/-- Where the input of transform `i` begins, in samples, and how many it has. -/
def ftTake (opc : Nat) (p : List Byte) (i : Nat) : Nat :=
  if opc = 5 then ftCPi p i + ftN p else if opc = 6 then ftNB p else ftN p
def ftStart (opc : Nat) (p : List Byte) (i : Nat) : Nat := sumTo i (ftTake opc p)

/-- The N inputs of transform `i`: FT_OFDM_RX discards the prefix, FT_OFDM_TX places its bins from FIRST on, all others zero. -/
def ftInput (opc : Nat) (p : List Byte) (i : Nat) (inp : List Byte) : List CInt :=
  let x := samplesOf (sliceOf inp (4 * ftStart opc p i) (4 * ftTake opc p i))
  if opc = 5 then x.drop (ftCPi p i)
  else if opc = 6 then
    let first := bitsOf (pw p 6) 12 0
    (upto (ftN p)).map fun n =>
      let j := (n + ftN p - first) % ftN p
      if j < ftNB p then x.getD j ⟨0, 0⟩ else ⟨0, 0⟩
  else x

/-- Bin `k` of the transform of `x`, at the scale of the datapath: X[k] = Σ x[n] e^(∓j2πnk/N), no 1/N factor. -/
def ftBin (opc n : Nat) (x : List CInt) (k : Nat) : CInt :=
  let w := fun (i : Nat) =>
    let t := Config.ftTwiddle n (i * k % n)
    (if ftInverse opc then ⟨t.1, -t.2⟩ else ⟨t.1, t.2⟩ : CInt)
  let off := Config.ftRoundoff opc n k (x.map fun c => (c.re, c.im))
  ((x.zip (upto n)).foldl (fun (acc : CInt) y => acc.add (y.1.mul (w y.2))) ⟨0, 0⟩).add ⟨off.1, off.2⟩

/-- A value shifted right by `s`, rounded half to even. -/
def ftShifted (s : Nat) (c : CInt) : CInt :=
  ⟨roundShift 2 c.re (Config.ftFraction + s), roundShift 2 c.im (Config.ftFraction + s)⟩

/-- Does a value saturate as cint16? -/
def ftWraps (c : CInt) : Bool := wraps 16 c.re || wraps 16 c.im

/-- The values a transform puts out, before its shift; FT_OFDM_RX gives NB bins from FIRST on. -/
def ftValues (opc : Nat) (p : List Byte) (i : Nat) (inp : List Byte) : List CInt :=
  let x := ftInput opc p i inp
  if opc = 5 then (upto (ftNB p)).map fun j => ftBin opc (ftN p) x ((bitsOf (pw p 6) 12 0 + j) % ftN p)
  else (upto (ftN p)).map (ftBin opc (ftN p) x)

/-- The shift of a transform: SHIFT, or with AUTO the smallest from 0 to 15 at which nothing saturates. -/
def ftShiftOf (p : List Byte) (vals : List CInt) : Nat :=
  if ftAuto p = 1 then ((upto 16).find? fun s => !(vals.any fun c => ftWraps (ftShifted s c))).getD 15 else bitsOf (pw p 1) 3 0

/-- An FT job of its input. -/
def ftJob (opc : Nat) (p inp : List Byte) : List OutItem × JobEnd :=
  let vals := (upto (ftCOUNT p)).map fun i => ftValues opc p i inp
  let shifts := vals.map (ftShiftOf p)
  let outs := (upto (ftCOUNT p)).map fun i =>
    let y := (vals.getD i []).map fun c => let r := ftShifted (shifts.getD i 0) c; (⟨sat 16 r.re, sat 16 r.im⟩ : CInt)
    sampleOut (if opc = 6 then y.drop (ftN p - ftCPi p i) ++ y else y)
  let need := fun i => [(0, 4 * ftStart opc p (i + 1))]
  let items := (upto (ftCOUNT p)).map fun i =>
    ({ buf := 0, off := sumTo i fun j => (outs.getD j []).length, data := outs.getD i [], needs := need i } : OutItem)
  let chosen : List OutItem := if ftAuto p = 1 then
      [{ buf := 1, off := 0, data := padTo (roundUp (ftCOUNT p) 4) 0 (shifts.map fun s => BitVec.ofNat 8 s), needs := need (ftCOUNT p - 1) }]
    else []
  let satCount := if ftAuto p = 1 then 0
    else ((upto (ftCOUNT p)).filter fun i => (vals.getD i []).any fun c => ftWraps (ftShifted (shifts.getD i 0) c)).length
  (items ++ chosen, { result := ftCOUNT p, fail := 0, c0 := ftCOUNT p, c1 := satCount })

/-! ## Complex rational matrices -/

/-- A complex number with rational parts. -/
structure CRat where
  re : Rat
  im : Rat
deriving DecidableEq, Repr

def CRat.zero : CRat := ⟨0, 0⟩
def CRat.one : CRat := ⟨1, 0⟩
def CRat.add (x y : CRat) : CRat := ⟨x.re + y.re, x.im + y.im⟩
def CRat.sub (x y : CRat) : CRat := ⟨x.re - y.re, x.im - y.im⟩
def CRat.mul (x y : CRat) : CRat := ⟨x.re * y.re - x.im * y.im, x.re * y.im + x.im * y.re⟩
def CRat.conj (x : CRat) : CRat := ⟨x.re, -x.im⟩
def CRat.scale (r : Rat) (x : CRat) : CRat := ⟨r * x.re, r * x.im⟩
def CRat.inv (x : CRat) : CRat := (x.conj).scale (x.re * x.re + x.im * x.im)⁻¹
def CInt.rat (c : CInt) : CRat := ⟨c.re, c.im⟩

/-- A matrix, by rows. -/
abbrev CMat := List (List CRat)
def CMat.at (m : CMat) (i j : Nat) : CRat := (m.getD i []).getD j CRat.zero
def CMat.make (rows cols : Nat) (f : Nat → Nat → CRat) : CMat := (upto rows).map fun i => (upto cols).map (f i)
def CMat.identity (n : Nat) : CMat := CMat.make n n fun i j => if i = j then CRat.one else CRat.zero
def CMat.adjoint (rows cols : Nat) (m : CMat) : CMat := CMat.make cols rows fun i j => (m.at j i).conj
def CMat.times (rows inner cols : Nat) (a b : CMat) : CMat :=
  CMat.make rows cols fun i j => (upto inner).foldl (fun acc k => acc.add ((a.at i k).mul (b.at k j))) CRat.zero

/-- One column of an elimination without exchanges, which a positive definite matrix admits. -/
def CMat.clearColumn (m : CMat) (k : Nat) : CMat :=
  let row := (m.getD k []).map ((m.at k k).inv).mul
  (upto m.length).map fun i =>
    if i = k then row else ((m.getD i []).zip row).map fun x => x.1.sub ((m.at i k).mul x.2)

/-- The inverse of an n × n positive definite matrix. -/
def CMat.inverse (n : Nat) (m : CMat) : CMat :=
  ((upto n).foldl CMat.clearColumn (CMat.make n (2 * n) fun i j =>
    if j < n then m.at i j else (CMat.identity n).at i (j - n))).map fun r => r.drop n

/-! ## The detector (R183 to R185) -/

/-- Resource-block groups of a symbol group; the group of subcarrier `sc` of symbol `sy`. -/
def mdBands (p : List Byte) : Nat := cdiv (mdNSC p) (12 * mdWR p)
def mdGroupOf (p : List Byte) (sy sc : Nat) : Nat := sy / mdWS p * mdBands p + sc / (12 * mdWR p)

/-- H of group `g`: layer 0's NR values first. -/
def mdH (p : List Byte) (g : Nat) (inp : List Byte) : CMat :=
  CMat.make (mdNR p) (mdNL p) fun r l => (cint16 (leAt inp (4 * (g * mdNR p * mdNL p + l * mdNR p + r)) 4)).rat

/-- Q of group `g`: σ² I, 0 read as 1; or the covariance of a packed upper triangle, diagonal entries real (R183). -/
def mdQ (opc : Nat) (p : List Byte) (g : Nat) (inp : List Byte) : CMat :=
  let n := mdNR p
  if opc = 1 then
    let v := leAt inp (4 * g) 4
    CMat.make n n fun i j => if i = j then ⟨(if v = 0 then 1 else v : Nat), 0⟩ else CRat.zero
  else
    let entry := fun (i j : Nat) =>
      let k := g * (n * (n + 1) / 2) + i * n - i * (i - 1) / 2 + (j - i)
      (⟨signed 32 (leAt inp (8 * k) 4), if i = j then 0 else signed 32 (leAt inp (8 * k + 4) 4)⟩ : CRat)
    CMat.make n n fun i j => if i ≤ j then entry i j else (entry j i).conj

/-- Quantities of group `g` that fp32 arithmetic rounds: pivots, the E_ll, the coefficients, each by its own number. -/
def mdPivotNo (g i : Nat) : Nat := 3 * (256 * g + i)
def mdErrNo (g l : Nat) : Nat := 3 * (256 * g + l) + 1
def mdCoefNo (g l r half : Nat) : Nat := 3 * (512 * g + 32 * l + 2 * r + half) + 2

/-- ε of R185: 2^−20 × trace(Q) / NR, 2^−20 where the trace is not positive (DEDUCED, log 24). -/
def mdEpsilon (n : Nat) (q : CMat) : Rat :=
  let trace := (upto n).foldl (fun t i => t + (q.at i i).re) (0 : Rat)
  if 0 < trace then trace / (n : Nat) / (2 ^ 20 : Nat) else 1 / (2 ^ 20 : Nat)
def mdTooSmall (n : Nat) (q : CMat) (d : Rat) : Bool :=
  let trace := (upto n).foldl (fun t i => t + (q.at i i).re) (0 : Rat)
  if 0 < trace then decide (d ≤ mdEpsilon n q) else decide (d < mdEpsilon n q)

/-- A step of the factorization of Q: what remains of the matrix, and what has been added to each diagonal entry so far. A pivot too small is
replaced by ε, which adds the difference to Q's own diagonal entry. -/
def mdPivot (seed g n : Nat) (q : CMat) (x : CMat × List (Option Rat)) (k : Nat) : CMat × List (Option Rat) :=
  let d := Config.fp32 seed (mdPivotNo g k) (x.1.at k k).re
  let low := mdTooSmall n q d
  let d1 := if low then mdEpsilon n q else (x.1.at k k).re
  (CMat.make n n fun i j => if k < i ∧ k < j then (x.1.at i j).sub (((x.1.at i k).mul (x.1.at k j)).scale d1⁻¹) else x.1.at i j,
   x.2 ++ [if low then some (d1 - (x.1.at k k).re) else none])

/-- Q with its pivots loaded, and whether any was (R185). MD_MMSE never loads. -/
def mdLoaded (seed opc : Nat) (p : List Byte) (g : Nat) (q : CMat) : CMat × Bool :=
  if opc = 1 then (q, false)
  else
    let n := mdNR p
    let adds := ((upto n).foldl (mdPivot seed g n q) (q, [])).2
    (CMat.make n n fun i j => if i = j then (q.at i i).add ⟨(adds.getD i none).getD 0, 0⟩ else q.at i j, adds.any (·.isSome))

/-- The weights of a group: E_ll of each layer, the coefficient matrix W, whether Q needed loading. -/
structure Weights where
  err : List Rat
  coef : CMat
  loaded : Bool
deriving DecidableEq, Repr

/-- E = (I + Hᴴ Q⁻¹ H)⁻¹ and W = E Hᴴ Q⁻¹ (R184). -/
def mdWeights (seed opc : Nat) (p : List Byte) (g : Nat) (h q : List Byte) : Weights :=
  let nr := mdNR p
  let nl := mdNL p
  let ql := mdLoaded seed opc p g (mdQ opc p g q)
  let hh := mdH p g h
  let hq := CMat.times nl nr nr (hh.adjoint nr nl) (CMat.inverse nr ql.1)
  let inner := CMat.times nl nr nl hq hh
  let e := CMat.inverse nl (CMat.make nl nl fun i j => ((CMat.identity nl).at i j).add (inner.at i j))
  { err := (upto nl).map fun l => Config.fp32 seed (mdErrNo g l) (e.at l l).re, coef := CMat.times nl nl nr e hq, loaded := ql.2 }

/-- A rational rounded to the nearest integer, half to even. -/
def roundRat (r : Rat) : Int :=
  let f := r.floor
  if 1 / 2 < r - f ∨ (r - f = 1 / 2 ∧ f % 2 = 1) then f + 1 else f

/-- The coefficient of layer `l` and stream `r`, W_lr / (1 − E_ll) as cint16 under the group's block exponent. -/
def mdCoef (seed g : Nat) (w : Weights) (l r : Nat) : CInt :=
  let c := (w.coef.at l r).scale (1 - w.err.getD l 0)⁻¹
  let q := fun (half : Nat) (v : Rat) => sat 16 (roundRat (Config.fp32 seed (mdCoefNo g l r half) v * (2 ^ Config.mdExponent seed g : Nat)))
  ⟨q 0 c.re, q 1 c.im⟩

/-- x̂_l of a resource element: the coefficients applied with wide accumulation, times 2^(15 − OUT_SHIFT), rounded half to even and saturated;
a layer with E_ll = 1 is zero. -/
def mdEstimate (seed : Nat) (p : List Byte) (g : Nat) (w : Weights) (y : List CInt) (l : Nat) : CInt :=
  if w.err.getD l 0 = 1 then ⟨0, 0⟩
  else
    let acc := (y.zip (upto (mdNR p))).foldl (fun (a : CInt) x => a.add ((mdCoef seed g w l x.2).mul x.1)) ⟨0, 0⟩
    let out := fun (v : Int) =>
      sat 16 (roundRat ((v : Rat) * (2 ^ (15 - bitsOf (pw p 3) 3 0) : Nat) / (2 ^ Config.mdExponent seed g : Nat)))
    ⟨out acc.re, out acc.im⟩

/-- The SINR word of a layer: 1 / E_ll − 1 in 1/256 dB; zero reads 0x8000, a value above 127.99 dB saturates (R184). -/
def mdSinr (e : Rat) : Nat :=
  let sinr := e⁻¹ - 1
  if e = 1 then 0x8000
  else if e = 0 ∨ 32765 < Config.decibel sinr then Config.sinrTop % 65536
  else unsigned 16 (sat 16 (Config.decibel sinr))

/-- The runs of resource elements of group `g`: symbol, first subcarrier, how many. -/
def mdRuns (p : List Byte) (g : Nat) : List (Nat × Nat × Nat) :=
  let band := g % mdBands p * (12 * mdWR p)
  ((upto (mdNSYM p)).filter fun sy => sy / mdWS p == g / mdBands p).map fun sy => (sy, band, min (12 * mdWR p) (mdNSC p - band))

/-- An MD job of its inputs: y, H, and σ² or Q (R183 to R185); output 1 where NOUT is 2. -/
def mdJob (seed opc nout : Nat) (p y h q : List Byte) : List OutItem × JobEnd :=
  let nr := mdNR p
  let nl := mdNL p
  let ws := (upto (mdG p)).map fun g => mdWeights seed opc p g h q
  let per := if opc = 1 then 4 else nr * (nr + 1) / 2 * 8
  let items := (upto (mdG p)).flatMap fun g =>
    let w := ws.getD g ⟨[], [], false⟩
    let base := [(1, (g + 1) * nr * nl * 4), (2, (g + 1) * per)]
    ((mdRuns p g).map fun run =>
      let re := run.1 * mdNSC p + run.2.1
      ({ buf := 0, off := re * nl * 4, needs := (0, (re + run.2.2) * nr * 4) :: base,
         data := (upto run.2.2).flatMap fun i =>
           sampleOut ((upto nl).map (mdEstimate seed p g w (samplesOf (sliceOf y ((re + i) * nr * 4) (nr * 4))))) } : OutItem)) ++
    (if nout = 2 then [{ buf := 1, off := g * nl * 4, needs := base, data := (upto nl).flatMap fun l => leBytes 4 (mdSinr (w.err.getD l 0)) }] else [])
  let n := (ws.filter (·.loaded)).length
  (items, { result := n % 65536, fail := b2n (decide (0 < n)), c0 := mdNSC p * mdNSYM p, c1 := mdG p, c2 := n })

/-- A job of a kind of unit: what it writes and how it ends, of its parameter block and inputs. `seed` is the draw of its open values. -/
def jobOf (kind opc nout seed : Nat) (p : List Byte) (inp : Nat → List Byte) : List OutItem × JobEnd :=
  match kind with
  | 1 => ldJob p (inp 0) (inp 1)
  | 2 => enJob opc p (inp 0)
  | 3 => pdJob p (inp 0)
  | 4 => tdJob p (inp 0) (inp 1)
  | 5 => ftJob opc p (inp 0)
  | _ => mdJob seed opc nout p (inp 0) (inp 1) (inp 2)

end Sys2Proof.Machine
end

