-- ==== Sys2Proof/Machine/Fabric.lean ====
section
/-! DEFINITION. Sending and answering packets (R220 to R240, R260, R261): initiators, address decoding, routes, transaction
places, answers. The rows of the fabric family are in Noc.lean. -/
namespace Sys2Proof.Machine

/-! ## Places -/

/-- The physical slot that serves accelerator slot `k` (ACC_ID.PHYS, R153, R235). -/
def accPhys (k : Nat) (s : State) : Nat := fld (Reg.ACC_ID k) 6 0 s

/-- Node and port of a Churn slice (R222). -/
def slicePlace (sl : Nat) : Nat × Nat :=
  match sl with
  | 0 => (1, 1) | 1 => (5, 1) | 2 => (2, 1) | 3 => (6, 1) | 4 => (41, 0) | 5 => (45, 0) | 6 => (42, 0) | _ => (46, 0)

/-- Node and port of a DRAM channel (R269). -/
def dramPlace (ch : Nat) : Nat × Nat :=
  match ch with
  | 0 => (0, 1) | 1 => (7, 1) | 2 => (40, 0) | _ => (47, 0)

/-- Initiator identifier: node, port, unit (R223). -/
def srcId (n p u : Nat) : Nat := n * 1024 + p * 128 + u

/-- The initiator identifier of an agent (R221 to R223). -/
def srcOf (a : Agent) (s : State) : Nat :=
  match a with
  | .host => srcId 3 1 0
  | .plan => srcId 43 0 0
  | .evt => srcId 43 0 0
  | .sec => srcId 44 1 0
  | .pwr => srcId 44 3 0
  | .recorder => srcId 43 2 0
  | .lineport => srcId 42 1 0
  | .hkc => srcId 44 2 0
  | .timeUnit => srcId 44 0 0
  | .eng n => srcId (8 + n / 16) 0 (n % 16)
  | .dma e ch => if e = 32 then srcId 4 1 0 else srcId (8 + e) 0 (16 + ch)
  | .acc k => srcId (slotPlace (accPhys k s)).1 (slotPlace (accPhys k s)).2 0
  | .churn sl => srcId (slicePlace sl).1 (slicePlace sl).2 0
  | .cfa ch => if ch < 512 then srcId 40 1 0 else srcId 46 1 0
  | .mac m => if m = 16 then srcId 42 1 0 else srcId (m / 2) 0 0
  | .fhg m => srcId (m / 2) 0 0
  | .lane l => srcId (l / 4) 0 0
  | .coll c => srcId (8 + c) 0 0

/-- Node and port of an initiator identifier. -/
def srcNode (src : Nat) : Nat := src / 1024
def srcPort (src : Nat) : Nat := src / 128 % 8

/-- The DRAM channel of a DRAM address (R269). -/
def dramChannel (a : Nat) : Nat :=
  let o := a - 0x100000000
  (bitsOf o 9 8) ^^^ (bitsOf o 17 16) ^^^ (bitsOf o 25 24)

/-- Is the address in the addressable DRAM (R260)? -/
def inDram (a : Nat) : Bool := decide (0x100000000 ≤ a ∧ a < 0x880000000)

/-- Is the address in CSR space (R260)? -/
def inCsr (a : Nat) : Bool := decide (0x40000000 ≤ a ∧ a < 0x50000000)

/-- The CSR offset of an address in CSR space, the live mirror folded back (R37). -/
def csrOff (a : Nat) : Nat := (a - 0x40000000) % 0x8000000

/-- The access goes through the live mirror (R37). -/
def csrMirror (a : Nat) : Bool := decide (0x8000000 ≤ a - 0x40000000)

/-- Is the address in the host window (R260)? -/
def inHostWindow (a : Nat) : Bool := decide (0x800000000000 ≤ a ∧ a < 0x1000000000000)

/-- Is the address plain memory: engine-local, shared, Cold Room or DRAM (R260)? -/
def inMemory (a : Nat) : Bool :=
  decide (a < 0x8000000) || decide (0x10000000 ≤ a ∧ a < 0x12000000) || decide (0x20000000 ≤ a ∧ a < 0x20040000) || inDram a

/-- The NI that serves a CSR offset (R9, R221, R222, R257); none where no block lies. -/
def csrPlace (off : Nat) (s : State) : Option (Nat × Nat) :=
  if off < 0x10000 then some (43, 1)
  else if off < 0x30000 then some (43, 0)
  else if 0x100000 ≤ off ∧ off < 0x180000 then some (slicePlace ((off - 0x100000) / 0x10000))
  else if 0x200000 ≤ off ∧ off < 0x300000 then some (43, 1)
  else if 0x308000 ≤ off ∧ off < 0x30C000 then some (dramPlace ((off - 0x308000) / 0x1000))
  else if 0x300000 ≤ off ∧ off < 0x308000 then some (4, 1)
  else if 0x310000 ≤ off ∧ off < 0x330000 then some (8 + (off - 0x310000) / 0x1000, 0)
  else if 0x400000 ≤ off ∧ off < 0x410000 then some ((off - 0x400000) / 0x2000, 0)
  else if 0x410000 ≤ off ∧ off < 0x410200 then some ((off - 0x410000) / 0x40, 0)
  else if 0x500000 ≤ off ∧ off < 0x600000 then some ((off - 0x500000) / 0x20000, 0)
  else if 0x600000 ≤ off ∧ off < 0x610000 then some (44, 0)
  else if 0x700000 ≤ off ∧ off < 0x720000 then some (42, 1)
  else if 0x800000 ≤ off ∧ off < 0x900000 then
    (if 0x840000 ≤ off ∧ off < 0x880000 ∧ 512 ≤ (off - 0x840000) / 0x100 then some (46, 1) else some (40, 1))
  else if 0x900000 ≤ off ∧ off < 0xA00000 then some (44, 2)
  else if 0xA00000 ≤ off ∧ off < 0xB00000 then some (44, 3)
  else if 0xB00000 ≤ off ∧ off < 0xC00000 then some (44, 1)
  else if 0xC00000 ≤ off ∧ off < 0xD00000 then some (44, 3)
  else if 0xD00000 ≤ off ∧ off < 0xE00000 then some (43, 2)
  else if 0xE00000 ≤ off ∧ off < 0xF00000 then some (3, 1)
  else if 0x1000000 ≤ off ∧ off < 0x1440000 then
    (let k := (off - 0x1000000) / 0x10000
     some (slotPlace (if k < 64 then accPhys k s else k)))
  else if 0x2000000 ≤ off ∧ off < 0x2200000 then some (8 + (off - 0x2000000) / 0x10000, 0)
  else none

/-- Node and port that serve an address (R260, R261); none where the address is unmapped. -/
def addrPlace (a : Nat) (s : State) : Option (Nat × Nat) :=
  if a < 0x8000000 then some (8 + a / 0x400000, 0)
  else if 0x10000000 ≤ a ∧ a < 0x12000000 then some (8 + (a - 0x10000000) / 0x100000, 0)
  else if 0x20000000 ≤ a ∧ a < 0x20040000 then some (44, 3)
  else if inCsr a then csrPlace (csrOff a) s
  else if inDram a then some (dramPlace (dramChannel a))
  else if inHostWindow a then some (3, 1)
  else none

/-- Where a packet goes (R230): by its address, or by the unit a message names. -/
def packetPlace (body : Payload) (a : Nat) (s : State) : Option (Nat × Nat) :=
  match body with
  | .read _ => addrPlace a s
  | .write _ => addrPlace a s
  | .cop slot _ _ _ => if slot < 64 then some (slotPlace (accPhys slot s)) else if slot < 68 then some (slotPlace slot) else none
  | .token sl _ _ _ => some (slicePlace sl)
  | .arm sl _ => some (slicePlace sl)
  | .cancel sl _ => some (slicePlace sl)
  | .withdraw k _ => some (slotPlace (accPhys k s))
  | .kill n => some (8 + n / 16, 0)
  | .killAck sl _ => some (slicePlace sl)
  | .dmaStart e _ _ => if e < 32 then some (8 + e, 0) else if e = 32 then some (4, 1) else none
  | .handover half _ _ => if half = 0 then some (40, 1) else some (46, 1)
  | .redSetup node _ _ _ => if 8 ≤ node ∧ node < 40 then some (node, 0) else none
  | .red p => if 8 ≤ p.coll ∧ p.coll < 40 then some (p.coll, 0) else none

/-! ## Routes (R230 to R235) -/

/-- Key of a route entry: node, port, index. -/
def routeKey (n p i : Nat) : Nat := n * 512 + p * 64 + i

/-- The route entry an NI uses: the committed one, or while a drain runs the one it replaces (R252). -/
def routeUse (n p i : Nat) (s : State) : Nat :=
  (tabGet (fun _ => rd (Reg.NI_ROUTE n p i) s) s.noc.routes (routeKey n p i)).toNat

/-- LINK_EN and RED_BUFS a router uses (R252). -/
def rtrUse (n : Nat) (s : State) : Nat :=
  tabGet (fun _ => (rd (Reg.NOC_RTR_CTRL n) s).toNat) s.noc.rtr n

/-- The neighbour of node `n` in direction `d`, if it exists (R220). -/
def neighbour (n d : Nat) : Option Nat :=
  if (nodeLinks n).testBit d then
    some (match d with | 0 => n - 8 | 1 => n + 1 | 2 => n + 8 | _ => n - 1)
  else none

/-- Is the link of node `n` in direction `d` in service (R235, R258, R506)? -/
def linkUp (n d : Nat) (s : State) : Bool :=
  match neighbour n d with
  | none => false
  | some m => (rtrUse n s).testBit d && (rtrUse m s).testBit ((d + 2) % 4) &&
      !(s.noc.linkOut.contains (n * 4 + d)) && !(s.noc.linkOut.contains (m * 4 + (d + 2) % 4))

/-- The directions a CODES field takes from its source (R232): code 0 absolute, later codes relative, at most 16 codes;
none where it reaches no eject. -/
def walkCodes : Nat → Nat → Option Nat → Option (List Nat)
  | 0, _, _ => none
  | k + 1, codes, none => (walkCodes k (codes / 4) (some (codes % 4))).map (codes % 4 :: ·)
  | k + 1, codes, some d =>
    if codes % 4 = 3 then some []
    else
      let e := if codes % 4 = 0 then d else if codes % 4 = 1 then (d + 3) % 4 else (d + 1) % 4
      (walkCodes k (codes / 4) (some e)).map (e :: ·)

/-- The links (node, direction) of a path and its last node; none where it leaves the mesh. -/
def pathFrom : Nat → List Nat → Option (List (Nat × Nat) × Nat)
  | n, [] => some ([], n)
  | n, d :: t => match neighbour n d with
    | none => none
    | some m => (pathFrom m t).map fun r => ((n, d) :: r.1, r.2)

/-- All x moves before any y move (XY), or all y moves before any x move (YX) (R225). -/
def orderXY (dirs : List Nat) : Bool := (dirs.dropWhile (· % 2 == 1)).all (· % 2 == 0)
def orderYX (dirs : List Nat) : Bool := (dirs.dropWhile (· % 2 == 0)).all (· % 2 == 1)

/-- The links of a route entry of an NI at node `n`, none where it is malformed. -/
def entryPath (n v : Nat) : Option (List (Nat × Nat)) :=
  if bitsOf v 47 42 = n then some []
  else match walkCodes 16 (bitsOf v 31 0) none with
    | none => none
    | some dirs => match pathFrom n dirs with
      | none => none
      | some r => if r.2 = bitsOf v 47 42 ∧ (if bitsOf v 62 62 = 0 then orderXY dirs else orderYX dirs) = true then some r.1 else none

/-- Is an entry with VALID set bad (R233)? -/
def entryBad (n i v : Nat) : Bool :=
  bitOf v 63 &&
  ((entryPath n v).isNone || decide (bitsOf v 61 55 ≠ 0) || decide (bitsOf v 51 48 ≠ 0) || decide (bitsOf v 41 32 ≠ 0) ||
   (decide (48 ≤ i) && decide (bitsOf v 54 52 = 0)) || (decide (i < 48) && (decide (bitsOf v 47 42 ≠ i) || decide (bitsOf v 54 52 ≠ 0))))

/-- May NI n.p use entry `i` (VALID and not bad)? -/
def entryValid (n p i : Nat) (s : State) : Bool :=
  bitOf (routeUse n p i s) 63 && !(entryBad n i (routeUse n p i s))

/-- The route entry the committed values give, or the one in use (R252). -/
def routeVal (new : Bool) (n p i : Nat) (s : State) : Nat := if new then (rd (Reg.NI_ROUTE n p i) s).toNat else routeUse n p i s

/-- The entry an NI selects for a destination node and class (R230), by the values in use or by the new ones of a drain: the lowest matching valid
override, else the default; a reduction packet takes the default in every case (R244). -/
def selectEntry (new : Bool) (n p dest cls : Nat) (body : Payload) (s : State) : Nat :=
  let bit := if cls = 0 then 52 else if cls = 2 then 53 else 54
  match body with
  | .red _ => dest
  | _ => match (upto 16).find? (fun j =>
      let v := routeVal new n p (48 + j) s
      bitOf v 63 && !(entryBad n (48 + j) v) && bitOf v bit && bitsOf v 47 42 == dest) with
    | some j => 48 + j
    | none => dest

/-- Is every link of a path in service? -/
def linksUp (l : List (Nat × Nat)) (s : State) : Bool := l.all fun x => linkUp x.1 x.2 s

/-- A spare slot's port that is in the pool or retired serves only its register block (R235). -/
def spareIdle (node port : Nat) (s : State) : Bool :=
  [64, 65, 66, 67].any fun k => decide (slotPlace k = (node, port)) && !((upto 64).any fun j => accPhys j s == k)

/-- Does a packet draw ROUTE_FAULT at its NI (R235)? No rule and no register of the manual disables a destination port, so that case does not
arise (log 66). -/
def routeFault (n p dest dport cls : Nat) (body : Payload) (a : Nat) (s : State) : Bool :=
  let e := selectEntry false n p dest cls body s
  !(entryValid n p e s) ||
  (match entryPath n (routeUse n p e s) with
   | none => true
   | some l => !(linksUp l s)) ||
  (spareIdle dest dport s && !(inCsr a && (match body with | .read _ => true | .write _ => true | _ => false))) ||
  (match body with | .cop slot _ _ _ => decide (64 ≤ slot) | _ => false)

/-! ## Transactions -/

/-- Is the packet a request that holds a place of its NI (R238, R240): injected, and not answered or late? -/
def Txn.inFlight (t : Txn) : Bool :=
  !t.posted && !t.held && (match t.stage with | .heldLimit => false | .heldDrain => false | .heldBook => false | _ => true) && t.ans.isNone && !t.late

/-- Does the packet take a place of NI n.p? -/
def Txn.holdsPlace (n p : Nat) (t : Txn) : Bool :=
  decide (srcNode t.src = n) && decide (srcPort t.src = p) && (t.inFlight || (t.late && !t.freed))

/-- Places of NI n.p in use. -/
def placesUsed (n p : Nat) (s : State) : Nat := (s.noc.txns.filter (Txn.holdsPlace n p)).length

/-- The limit of NI n.p (NI_OUTSTANDING.LIMIT, R240). -/
def niLimitNow (n p : Nat) (s : State) : Nat := fld (Reg.NI_OUTSTANDING n p) 28 16 s

/-- Bring NI_OUTSTANDING.INFLIGHT of NI n.p up to date. -/
def niSync (n p : Nat) (s : State) : State :=
  setFld (Reg.NI_OUTSTANDING n p) 12 0
    (s.noc.txns.filter fun t => decide (srcNode t.src = n) && decide (srcPort t.src = p) && t.inFlight).length s

/-- Replace the packet list. -/
def setTxns (l : List Txn) (s : State) : State := { s with noc := { s.noc with txns := l } }

/-- The packet with number `id`. -/
def txnOf (id : Nat) (s : State) : Option Txn := s.noc.txns.find? fun t => t.id == id

/-- Change the packet with number `id`. -/
def txnMod (id : Nat) (f : Txn → Txn) (s : State) : State :=
  setTxns (s.noc.txns.map fun t => if t.id = id then f t else t) s

/-- Remove the packet with number `id`. -/
def txnDrop (id : Nat) (s : State) : State := setTxns (s.noc.txns.filter fun t => t.id != id) s

/-- The bytes an access reads or writes. -/
def Payload.span : Payload → Nat
  | .read len => len
  | .write bs => bs.length
  | _ => 0

/-- The payload bytes a packet counts (R255): a read request carries none, a reduction packet 1.5 × LEN (R243), a message 16 (R195; of the
others the manual gives no length, log 66). -/
def Payload.bytes : Payload → Nat
  | .read _ => 0
  | .write bs => bs.length
  | .red p => p.len * 3 / 2
  | _ => 16

/-- Count a completed packet of class `c` in its originating NI (R255). -/
def niCount (src c bytes : Nat) (s : State) : State :=
  bump64 (Reg.NI_BYTES (srcNode src) (srcPort src) c) bytes (bump (Reg.NI_PKTS (srcNode src) (srcPort src) c) s)

/-- A posted packet draws code `code` at NI n.p and is dropped (R239). -/
def postedError (n p addr src code : Nat) (s : State) : State :=
  countEvent (Reg.NI_POST_ERR_CNT n p) Reg.NOC_EVT_STATUS 3 0x103 (n * 8 + p)
    (wr (Reg.NI_POST_ERR_INFO n p) (dw (src * 65536 + code)) (wr (Reg.NI_POST_ERR_ADDR n p) (dw (addr % 2 ^ 48)) s))

/-- The originating NI gives DECERR or ROUTE_FAULT (R235, R236). -/
def niCodeGiven (n p code : Nat) (s : State) : State :=
  if code = 2 then bump (Reg.NI_DECERR_CNT n p) s
  else countEvent (Reg.NI_ROUTE_FAULT_CNT n p) Reg.NOC_EVT_STATUS 1 0x101 (n * 8 + p) s

/-- Does a path meet the drain set? -/
def meetsDrain (n v : Nat) (s : State) : Bool :=
  match entryPath n v with
  | none => false
  | some l => s.noc.drainNodes.contains n ||
    l.any fun x => s.noc.drainNodes.contains x.1 || (match neighbour x.1 x.2 with | some m => s.noc.drainNodes.contains m | none => false)

/-- Does a drain hold packets of this NI to this node (R253): the selected entry changed, or its old or new path crosses the drain set? -/
def drainHolds (n p dest cls : Nat) (body : Payload) (s : State) : Bool :=
  s.noc.draining &&
  (let e := selectEntry false n p dest cls body s
   let e1 := selectEntry true n p dest cls body s
   e != e1 || (s.noc.routes.any fun r => r.1 == routeKey n p e) || meetsDrain n (routeVal false n p e s) s || meetsDrain n (routeVal true n p e1 s) s)

/-- Does a booking hold new packets of this NI and class to this port (R242)? -/
def bookHolds (n p node port cls : Nat) (s : State) : Bool :=
  s.noc.txns.any fun t => srcNode t.src == n && srcPort t.src == p && t.cls == cls && t.node == node && t.port == port &&
    (match t.stage with | .heldBook => true | .nacked => true | .bookSent => true | .booked => true | .denied => true | _ => false)

/-- Do two packets come from one NI, in one class, for one destination port? -/
def Txn.sameWay (t u : Txn) : Bool := u.src / 128 == t.src / 128 && u.cls == t.cls && u.node == t.node && u.port == t.port

/-- Put a packet with its place decided into the fabric. -/
def enqueue (t : Txn) (s : State) : State :=
  { s with noc := { s.noc with
    nextId := s.noc.nextId + 1
    injections := s.noc.injections + 1
    txns := s.noc.txns ++
      [{ t with id := s.noc.nextId, inj := s.noc.injections, held := decide (t.stage ≠ .sent) && decide (t.stage ≠ .served) }] } }

/-- Where a packet stands once its NI may inject it (R240, R242, R253): held by a drain, behind a booking, by the limit, behind an older one of its
way that the limit holds, or sent. -/
def stageNow (t : Txn) (s : State) : Stage :=
  let n := srcNode t.src
  let p := srcPort t.src
  if drainHolds n p t.node t.cls t.body s then .heldDrain
  else if bookHolds n p t.node t.port t.cls s then .heldBook
  else if !t.posted && (decide (niLimitNow n p s ≤ placesUsed n p s) ||
      s.noc.txns.any fun u => decide (u.stage = .heldLimit) && decide (u.id < t.id) && t.sameWay u) then .heldLimit
  else .sent

/-- The code the originating NI itself gives a packet: DECERR before ROUTE_FAULT (R236, R237), none where it sends it. -/
def originCode (src cls addr : Nat) (body : Payload) (s : State) : Option Nat :=
  match packetPlace body addr s with
  | none => some 2
  | some d => if routeFault (srcNode src) (srcPort src) d.1 d.2 cls body addr s then some 6 else none

/-- Agent `ag` hands its NI a packet (R230, R235, R239, R240, R253). A packet the NI itself fails is answered at once, or, posted,
dropped. -/
def send (ag : Agent) (use cls addr : Nat) (body : Payload) (posted aw : Bool) (s : State) : State :=
  let src := srcOf ag s
  let n := srcNode src
  let p := srcPort src
  let blank : Txn := { id := 0, agent := ag, use := use, src := src, cls := cls, addr := addr, body := body, posted := posted,
                       aw := aw, node := 0, port := 0, stage := .served }
  match originCode src cls addr body s with
  | some code =>
    if posted then postedError n p addr src code (niCodeGiven n p code s)
    else enqueue { blank with ans := some (code, []) } (niCodeGiven n p code s)
  | none =>
    let d := (packetPlace body addr s).getD (0, 0)
    let e := selectEntry false n p d.1 cls body s
    let t := { blank with id := s.noc.nextId, node := d.1, port := d.2, entry := e, path := (entryPath n (routeUse n p e s)).getD [] }
    niSync n p (enqueue { t with stage := stageNow t s } s)

/-- The number the next packet gets. -/
def nextTxn (s : State) : Nat := s.noc.nextId

/-- The router that discards an answer on its way back over a path: at the last link of the path out of service, the router that the answer comes to
over there, or, where the other end alone disables the link, that end (R253). -/
def cutAt (l : List (Nat × Nat)) (s : State) : Option Nat :=
  (l.reverse.find? fun x => !(linkUp x.1 x.2 s)).map fun x =>
    match neighbour x.1 x.2 with
    | some m => if (rtrUse m s).testBit ((x.2 + 2) % 4) && !((rtrUse x.1 s).testBit x.2) then x.1 else m
    | none => x.1

/-- A posted packet is done with: it goes once its notice has arrived too. -/
def postedDone (id : Nat) (s : State) : State :=
  match txnOf id s with
  | none => s
  | some t => if t.noticed then txnDrop id s else txnMod id (fun u => { u with stage := .served }) s

/-- A request draws its answer (R236): the code and data wait for the agent, unless the timer ran out before, or a router the answer needs has
disabled a link (R253). A posted packet that draws a code other than OK is reported (R239). -/
def answer (id code : Nat) (data : List Byte) (s : State) : State :=
  match txnOf id s with
  | none => s
  | some t =>
    if t.posted then postedDone id (if code = 0 then s else postedError t.node t.port t.addr t.src code s)
    else match cutAt t.path s with
      | some n =>
        countEvent (Reg.NOC_RTR_ANSWER_DROP_CNT n) Reg.NOC_EVT_STATUS 1 0x101 (n * 8) (txnMod id (fun u => { u with stage := .lost }) s)
      | none =>
        if t.late then txnMod id (fun u => { u with stage := .served }) s
        else niSync (srcNode t.src) (srcPort t.src)
          (when' (t.cls == 0) (niCount t.src t.cls t.body.bytes) (niCount (srcId t.node t.port 0) 1 data.length
            (txnMod id (fun u => { u with stage := .served, ans := some (code, data) }) s)))

/-- The oldest answer that waits for `ag` under `use`. -/
def waitingAns (ag : Agent) (use : Nat) (s : State) : Option (Txn × Nat × List Byte) :=
  match s.noc.txns.find? (fun t => decide (t.agent = ag) && t.use == use && t.ans.isSome) with
  | none => none
  | some t => t.ans.map fun a => (t, a.1, a.2)

/-- The agent takes the answer of packet `id`; a timed-out place stays (R238). A packet of another class than REQ is complete at its acceptance, which
an answer shows (R255). -/
def takeAns (id : Nat) (s : State) : State :=
  match txnOf id s with
  | none => s
  | some t => if t.late then txnMod id (fun u => { u with ans := none }) s
    else when' (t.cls != 0 && !t.noticed && !t.posted) (niCount t.src t.cls t.body.bytes) (txnDrop id s)

/-- Has some packet of `ag` under `use` not been accepted by its target interface yet (R229)? -/
def unaccepted (ag : Agent) (use : Nat) (s : State) : Bool :=
  s.noc.txns.any fun t => decide (t.agent = ag) && t.use == use && !t.noticed && t.ans.isNone

/-- Has some packet of `ag` under `use` no answer yet? -/
def unanswered (ag : Agent) (use : Nat) (s : State) : Bool :=
  s.noc.txns.any fun t => decide (t.agent = ag) && t.use == use && !t.posted && t.ans.isNone && !t.late

/-- A message reaches its unit: one packet that carries it, if one is in the fabric, is done with. -/
def carrier (b : Payload) (s : State) : Option Txn :=
  s.noc.txns.find? fun t => decide (t.body = b) && (match t.stage with | .served => false | _ => true)
def consume (b : Payload) (s : State) : State :=
  match carrier b s with
  | none => s
  | some t => if t.posted then postedDone t.id s else s

/-- Post a token (R195): a posted CTL message to operand slot `slot` of task slice × 8,192 + ctx. -/
def postToken (ag : Agent) (slice ctx slot value : Nat) (s : State) : State :=
  send ag 99 3 0 (.token slice ctx slot (value % 2 ^ 32)) true false s

/-- A posted STR-class write, and a request-class write and read. -/
def postWrite (ag : Agent) (use addr : Nat) (bs : List Byte) (aw : Bool) (s : State) : State :=
  send ag use 2 addr (.write bs) true aw s
def reqWrite (ag : Agent) (use addr : Nat) (bs : List Byte) (aw : Bool) (s : State) : State :=
  send ag use 0 addr (.write bs) false aw s
def reqRead (ag : Agent) (use addr len : Nat) (aw : Bool) (s : State) : State :=
  send ag use 0 addr (.read len) false aw s

end Sys2Proof.Machine
end

