-- ==== Sys2Proof/Machine/Marks.lean ====
section
/-! DEFINITION. Marks for swaps and repairs (R500, R501): what a corrected or uncorrectable error and an aging reading leave for the
commit. The rows of the spare family are in Spare.lean. -/
namespace Sys2Proof.Machine

/-- Resources that count corrected errors: engines by number, accelerators by slot from 544 on. -/
def resEngine (n : Nat) : Nat := n
def resAcc (k : Nat) : Nat := 544 + k

/-- The window a Round lies in (R501). -/
def windowOf (s : State) : Nat := roundNow s / 2 ^ fld Reg.SPARE_CFG 12 8 s

/-- A new window starts the counts again. -/
def freshWindow (s : State) : State :=
  if s.spare.window = windowOf s then s else { s with spare := { s.spare with window := windowOf s, ecc := [], wires := [] } }

/-- Mark a resource for a swap (R500, R501, R508): a mark already there stands. -/
def addMark (kind index cause : Nat) (rotate : Bool) (s : State) : State :=
  if s.spare.marks.any fun m => m.kind == kind && m.index == index then s
  else setFlag Reg.SPARE_STATUS 8
    { s with spare := { s.spare with marks := s.spare.marks ++ [{ kind := kind, index := index, cause := cause, rotate := rotate, since := roundNow s }] } }

/-- Is engine `n` being copied to a spare, or copied and waiting for the commit (R503)? -/
def engCopying (n : Nat) (s : State) : Bool := s.spare.marks.any fun m => m.kind == 1 && m.index == n && decide (2 ≤ m.stage)

/-- Does a swap of accelerator slot `k` await an empty queue (R151, R504)? -/
def accSwapping (k : Nat) (s : State) : Bool := s.spare.marks.any fun m => m.kind == 2 && m.index == k && m.stage == 1

/-- Mark a row of a bank for repair. -/
def markRow (bank row : Nat) (s : State) : State :=
  if s.spare.rowMarks.contains (bank, row) then s
  else setFlag Reg.SPARE_STATUS 8 { s with spare := { s.spare with rowMarks := s.spare.rowMarks ++ [(bank, row)] } }

/-- The kind and index of a resource, as SPARE_REQ codes them. -/
def resKind (res : Nat) : Nat × Nat := if res < 512 then (1, res) else (2, res - 544)

/-- A corrected error in row `row` of bank `bank`, counted for `res`, if any (R501). -/
def noteCorrected (res : Option Nat) (bank row : Nat) (s : State) : State :=
  let s0 := freshWindow s
  let s1 := match res with
    | none => s0
    | some r =>
      let n := tabGet (fun _ => 0) s0.spare.ecc r + 1
      let t := { s0 with spare := { s0.spare with ecc := tabSet (fun _ => 0) s0.spare.ecc r n } }
      if fld Reg.SPARE_THRESH 15 0 t < n then addMark (resKind r).1 (resKind r).2 4 false t else t
  let last := tabGet (fun _ => (0, 0)) s1.spare.rows bank
  let s2 := if last = (row + 1, windowOf s1) then markRow bank row s1 else s1
  { s2 with spare := { s2.spare with rows := tabSet (fun _ => (0, 0)) s2.spare.rows bank (row + 1, windowOf s2) } }

/-- The bank and row of an SRAM address (R265): 8 KiB banks of local memories, line-interleaved banks of shared memory, the Cold Room as one
bank (log 33). -/
def bankOf (a : Nat) : Nat :=
  if a < 0x8000000 then a / 0x2000 else if a < 0x12000000 then 0x10000 + (a - 0x10000000) / 0x100000 * 16 + a / 64 % 16 else 0x20000

/-- The resource an SRAM address belongs to: an engine's local memory. -/
def resOf (a : Nat) : Option Nat := if a < 0x8000000 then some (resEngine (a / 0x40000)) else none

/-- The counter of corrected and uncorrectable errors of an SRAM address, where the manual names one (R104, R266, R481). -/
def noteEccAt (ecc : Ecc) (a : Nat) (s : State) : State :=
  match ecc with
  | .clean => s
  | .corrected => noteCorrected (resOf a) (bankOf a) (a / 64) s
  | .uncorrectable => markRow (bankOf a) (a / 64) s

end Sys2Proof.Machine
end

