-- ==== Sys2Proof/Machine/Operands.lean ====
section
/-! DEFINITION. The operand forms of the engine: registers by bank (R62), address forms (R82 to R84), local address checks (R85),
far addresses (R86), local memory access with its ECC (R264, R266, R267). -/
namespace Sys2Proof.Machine

/-- Engine `n`. -/
def eng (n : Nat) (s : State) : Engine := tabGet (fun _ => ({} : Engine)) s.eng n

/-- The code of an engine state (ENG_STATUS.STATE). -/
def EngMode.code : EngMode → Nat
  | .run => 0 | .idle => 1 | .nap => 2 | .doze => 3 | .off => 4 | .halted => 5 | .faulted => 6

/-- ENG_STATUS of an engine at physical position `phys` (R104). -/
def Engine.statusWord (e : Engine) (phys : Nat) : DWord :=
  dw (e.mode.code + 16 * (e.bank % 2) + 32 * b2n (decide (e.rem ≠ 0)) + 64 * (e.st0.toNat % 2) + 0x10000 * phys)

/-- ENG_PC (R104): the next instruction while HALTED or FAULTED, else the last issued. -/
def Engine.pcWord (e : Engine) : DWord :=
  dw ((match e.mode with | .halted => e.pc | .faulted => e.pc | _ => e.lastPc) % 0x10000 / 4 * 4)

/-- VEC_STATUS (R129). -/
def Engine.vecWord (e : Engine) : DWord := dw (e.vfmt % 32 + 0x100 * e.vpos + 0x10000 * e.vcnt + 0x1000000 * e.vpwr)

/-- Put engine `n`: the one place that writes an engine, and keeps ENG_STATUS, ENG_PC and VEC_STATUS in step with it. -/
def setEng (n : Nat) (e : Engine) (s : State) : State :=
  wr (Reg.VEC_STATUS n) e.vecWord
    (wr (Reg.ENG_PC n) e.pcWord
      (wr (Reg.ENG_STATUS n) (e.statusWord (fld (Reg.ENG_STATUS n) 20 16 s))
        { s with eng := tabSet (fun _ => ({} : Engine)) s.eng n e }))

/-- Change engine `n`. -/
def modEng (n : Nat) (f : Engine → Engine) (s : State) : State := setEng n (f (eng n s)) s

/-! ## Registers -/

/-- The key of g register `r` in bank `b` (R62). -/
def gKey (b r : Nat) : Nat := if r < 16 then r else 32 * b + r

/-- Register gr of the current bank. -/
def Engine.gr (e : Engine) (r : Nat) : Word := tabGet (fun _ => 0) e.g (gKey e.bank r)

/-- A result of one cycle supersedes what would land in the same register at the end of that cycle (R67). -/
def Engine.supersede (e : Engine) (same : Landed → Bool) : Engine :=
  { e with land := e.land.filter fun x => !(x.left == 1 && same x.what) }

/-- A result usable `left` cycles after issue (R67, R119). -/
def Engine.later (e : Engine) (left : Nat) (x : Landed) : Engine := { e with land := e.land ++ [⟨left, x⟩] }

/-- Is it a result for the g register of key `k`? -/
def Landed.isG (k : Nat) : Landed → Bool
  | .g j _ => j == k
  | _ => false

/-- Write register gr of bank `b`, usable in the next cycle. -/
def Engine.setGB (e : Engine) (b r : Nat) (v : Word) : Engine :=
  { (e.supersede (Landed.isG (gKey b r))) with g := tabSet (fun _ => 0) e.g (gKey b r) v }

/-- Write register gr of the current bank, usable in the next cycle, or `left` cycles after issue. -/
def Engine.setG (e : Engine) (r : Nat) (v : Word) : Engine := e.setGB e.bank r v
def Engine.laterG (e : Engine) (left r : Nat) (v : Word) : Engine := e.later left (.g (gKey e.bank r) v)

/-- The key of accumulator `a` in bank `b` (R62). -/
def aKey (b a : Nat) : Nat := if 4 ≤ a then a else 8 * b + a

/-- Accumulator `a` of the current bank, as `racc` and `mva` find it. -/
def Engine.acLanded (e : Engine) (a : Nat) : Accum := tabGet (fun _ => ({} : Accum)) e.acc (aKey e.bank a)

/-- The newest accumulation on its way to key `k`, or `d`. -/
def newestAcc (k : Nat) (d : Accum) (l : List Landing) : Accum :=
  l.foldl (fun v x => match x.what with | .acc j w => if j = k then w else v | _ => v) d

/-- Accumulator `a` of the current bank, as the next accumulation finds it (R67). -/
def Engine.ac (e : Engine) (a : Nat) : Accum := newestAcc (aKey e.bank a) (e.acLanded a) e.land

/-- Accumulate into `a` of the current bank: another accumulation finds it in the next cycle, `racc` and `mva` in the third (R67). -/
def Engine.setAc (e : Engine) (a : Nat) (v : Accum) : Engine := e.later 3 (.acc (aKey e.bank a) v)

/-- CB_BASE_i and CB_LEN_i. -/
def Engine.cbBase (e : Engine) (i : Nat) : Nat := (tabGet (fun _ => (0 : Word)) e.cb (2 * i)).toNat
def Engine.cbLen (e : Engine) (i : Nat) : Nat := (tabGet (fun _ => (0 : Word)) e.cb (2 * i + 1)).toNat

/-! ## The pipeline (R65 to R67, R119) -/

/-- Lines pending and enabled (R96). -/
def irqReady (n : Nat) (s : State) : Nat := ((rd (Reg.ENG_IRQ_PEND n) s) &&& (rd (Reg.ENG_IRQ_EN n) s)).toNat

/-- Lines no longer pending and enabled may raise ENG_IRQ_LATE anew (R98). -/
def latePrune (n : Nat) (s : State) : State :=
  if (eng n s).late.isEmpty then s else modEng n (fun e => { e with late := e.late.filter ((irqReady n s).testBit ·) }) s

/-- ST after an `mts` of `v` (R63): BANK and reserved bits kept, a RND of 3 leaves RND unchanged. -/
def stWritten (old v : Word) : Word :=
  let low := if bitsOf v.toNat 3 2 = 3 then v.toNat % 64 - 12 + bitsOf old.toNat 3 2 * 4 else v.toNat % 64
  BitVec.ofNat 32 (old.toNat / 64 * 64 + low)

/-- RS after an `mts` of `v` (R64): 0 where no repeat is active. -/
def rsWritten (v : Word) : Word := if bitsOf v.toNat 16 0 = 0 then 0 else v &&& 0x1FFFFFFF

/-- What an `mts` issued in bank `b` does to the engine (R71). -/
def specialWrite (b x : Nat) (v : Word) (e : Engine) : Engine :=
  match x with
  | 0 => if b = 0 then { e with st0 := stWritten e.st0 v } else { e with st1 := stWritten e.st1 v }
  | 1 => if b = 0 then { e with rs0 := rsWritten v } else { e with rs1 := rsWritten v }
  | 2 => { e with vbase := BitVec.ofNat 32 (v.toNat / 64 * 64) }
  | 3 => e
  | 4 => e
  | 5 => e
  | 0x10 => e
  | _ => { e with cb := tabSet (fun _ => 0) e.cb (x - 8) v }

/-- A vector control register is written (R111): a format clears vcnt and vpos. -/
def vctlWrite (c : Nat) (v : Word) (e : Engine) : Engine :=
  match c with
  | 0 => { e with vcnt := v.toNat % 128 }
  | 1 => { e with vfmt := v.toNat % 32, vcnt := 0, vpos := 0 }
  | _ => { e with vpos := v.toNat % 64 }

/-- Bits under `mask` taken from `v`. -/
def underMask {w : Nat} (old mask v : BitVec w) : BitVec w := (old &&& ~~~mask) ||| (v &&& mask)

/-- A result lands in the engine. -/
def Engine.landIn (e : Engine) : Landed → Engine
  | .g k v => { e with g := tabSet (fun _ => 0) e.g k v }
  | .acc k v => { e with acc := tabSet (fun _ => ({} : Accum)) e.acc k v }
  | .v r m v => { e with v := tabMod (fun _ => (0 : BitVec 512)) e.v r (underMask · m v) }
  | .wide r m v => { e with v := tabMod (fun _ => (0 : BitVec 512)) e.v r (underMask · m v) }
  | .p r m v => { e with p := tabMod (fun _ => (0 : DWord)) e.p r (underMask · m v) }
  | .special b x v => specialWrite b x v e
  | .vctl c v => vctlWrite c v e

/-- A result lands: IRQ_EN and IRQ_PEND are registers of the control block (R71). -/
def landOne (n : Nat) (x : Landed) (s : State) : State :=
  match x with
  | .special _ 3 v => latePrune n (wr (Reg.ENG_IRQ_EN n) (v.zeroExtend 64) s)
  | .special _ 4 v => latePrune n (wr (Reg.ENG_IRQ_PEND n) (rd (Reg.ENG_IRQ_PEND n) s &&& ~~~(v.zeroExtend 64)) s)
  | y => modEng n (·.landIn y) s

/-- A cycle of engine `n` ends: results due land, the later-issued last (R67). -/
def cycleEnds (n : Nat) (s : State) : State :=
  let l := (eng n s).land
  if l.isEmpty then s
  else forEach ((l.filter fun x => decide (x.left ≤ 1)).map (·.what)) (landOne n)
    (modEng n (fun e => { e with land := (l.filter fun x => decide (1 < x.left)).map fun x => { x with left := x.left - 1 } }) s)

/-- `k` cycles of engine `n` pass; every result lands within three. -/
def cyclesPass (n k : Nat) (s : State) : State := forEach (upto (min k 3)) (fun _ => cycleEnds n) s

/-- Everything issued on engine `n` completes. -/
def settle (n : Nat) (s : State) : State := cyclesPass n 3 s

/-- Engine cycles in the `n` time-counter steps after step `a` of a Round: 1.2 GHz beside 800 MHz (R18). -/
def engineCycles (a n : Nat) : Nat := 3 * (a + n) / 2 - 3 * a / 2

/-- `k` cycles pass at every engine with results on their way. -/
def enginesRun (k : Nat) (s : State) : State :=
  forEach ((s.eng.filter fun x => !x.2.land.isEmpty).map (·.1)) (fun n => cyclesPass n k) s

/-- Does a vector-slot instruction that reads these g registers issue in the cycle of the scalar one before it (R66)? -/
def Engine.joins (e : Engine) (reads : List Nat) : Bool :=
  match e.pair with
  | none => false
  | some ws => !(reads.any ws.contains)

/-- The state in which the next instruction of engine `n` issues: the cycles since the last issue have passed, none for a vector
instruction that pairs. -/
def atIssue (n : Nat) (vector : Bool) (reads : List Nat) (s : State) : State :=
  modEng n (fun e => { e with gap := 1, pair := none })
    (if vector && (eng n s).joins reads then s else cyclesPass n (eng n s).gap s)

/-! ## Instruction words (R546) -/

/-- Bits [hi:lo] of an instruction word. -/
def fieldOf (w : Word) (hi lo : Nat) : Nat := bitsOf w.toNat hi lo

/-- The major opcode. -/
def opcOf (w : Word) : Nat := fieldOf w 31 26

/-- A signed field as a 32-bit word. -/
def simm (w : Word) (hi lo : Nat) : Word := BitVec.ofInt 32 (signed (hi + 1 - lo) (fieldOf w hi lo))

/-! ## Address forms (R82 to R84) -/

/-- A circular update by `imm` in CB_i (R83): the sum is exact, and its low 32 bits are kept. -/
def circStep (e : Engine) (i : Nat) (g imm : Word) : Word :=
  let new := Int.ofNat g.toNat + imm.toInt
  if Int.ofNat (e.cbBase i + e.cbLen i) ≤ new then BitVec.ofInt 32 (new - Int.ofNat (e.cbLen i))
  else if new < Int.ofNat (e.cbBase i) then BitVec.ofInt 32 (new + Int.ofNat (e.cbLen i))
  else BitVec.ofInt 32 new

/-- The `w` low bits of `v`, reversed. -/
def revBits : Nat → Nat → Nat
  | 0, _ => 0
  | w + 1, v => (v % 2) * 2 ^ w + revBits w (v / 2)

/-- A bit-reversed update by `imm` in CB_i with accesses of 2^a bytes (R84). The manual gives no logarithm of a CB_LEN of 0: gB then stays, as
for every buffer not longer than the access (log 66). -/
def bitRevStep (e : Engine) (i a : Nat) (g imm : Word) : Word :=
  let b := Nat.log2 (e.cbLen i)
  if e.cbLen i = 0 ∨ b ≤ a then g
  else
    let w := b - a
    let base := e.cbBase i / 2 ^ b * 2 ^ b
    let idx := (g - BitVec.ofNat 32 base).toNat / 2 ^ a % 2 ^ w
    let k := imm.toNat / 2 ^ a % 2 ^ w
    BitVec.ofNat 32 (base + revBits w ((revBits w idx + revBits w k) % 2 ^ w) * 2 ^ a)

/-- Effective address and new gB of a local access of 2^a bytes with format MEM (R82). -/
def memForm (e : Engine) (w : Word) (a : Nat) : Word × Word :=
  let gb := e.gr (fieldOf w 20 16)
  let imm := simm w 11 0
  match fieldOf w 15 14 with
  | 0 => (gb + imm, gb)
  | 1 => (gb, gb + imm)
  | 2 => (gb, circStep e (fieldOf w 13 12) gb imm)
  | _ => (gb, bitRevStep e (fieldOf w 13 12) a gb imm)

/-- The ADDR cause of a local access: 1 out of range, 2 misaligned, 3 a store to instruction memory (R85, R90); 0 none. Where several hold the
manual does not say which is reported: the first in this order (log 66). -/
def localFault (addr size : Nat) (store : Bool) : Nat :=
  if 0x40000 ≤ addr then 1 else if addr % size ≠ 0 then 2 else if store && decide (addr < 0x10000) then 3 else 0

/-- The 48-bit far address that pair m names (R86). -/
def farAddr (e : Engine) (m : Nat) : Nat := (e.gr (2 * m)).toNat + (e.gr (2 * m + 1)).toNat % 0x10000 * 0x100000000

/-! ## Local memory -/

/-- The bytes one ECC word covers at an address (R266, R270). -/
def eccSize (a : Nat) : Nat := if a < 0x8000000 then 4 else if inDram a then 64 else 8

/-- Does a poisoned word meet the `n` bytes at `a` (R267, R270)? -/
def poisoned (a n : Nat) (s : State) : Bool :=
  s.mem.poison.any fun w => decide (w < a + n) && decide (a < w + eccSize w)

/-- Store bytes: a poisoned word wholly overwritten is sound again, one partly overwritten stays poisoned (R267). -/
def memStore (a : Nat) (bs : List Byte) (s : State) : State :=
  let t := memWrite a bs s
  { t with mem := { t.mem with poison := t.mem.poison.filter fun w => !(decide (a ≤ w) && decide (w + eccSize w ≤ a + bs.length)) } }

/-- Put words into the list of poisoned words. -/
def addPoison (l : List Nat) (s : State) : State :=
  { s with mem := { s.mem with poison := s.mem.poison ++ l.filter fun w => !(s.mem.poison.contains w) } }

/-- What the ECC of an access finds: the outside world's word, or a poison code. -/
def eccFinds (ecc : Ecc) (a n : Nat) (s : State) : Ecc := if poisoned a n s then .uncorrectable else ecc

/-- A local load of `size` bytes. -/
def localLoad (n a size : Nat) (s : State) : Nat := memNat (engBase n + a) size s

/-- A local store of the low `size` bytes of `v`. -/
def localStore (n a size v : Nat) (s : State) : State := memStore (engBase n + a) (leBytes size v) s

/-- The codes of an answer to `cop` (R134). -/
def copBusy : Byte := 0
def copAccept : Byte := 1
def copRefuse : Byte := 2

end Sys2Proof.Machine
end

