-- ==== Sys2Proof/Machine/Scalar.lean ====
section
/-! DEFINITION. The scalar instructions of the engine (R62 to R90, R546): issue, traps, and one meaning per instruction. -/
namespace Sys2Proof.Machine

/-! ## Traps (R90 to R95) -/

/-- The cause word of R93. -/
def causeWord (intr : Bool) (line sub code : Nat) : Nat :=
  (if intr then 0x80000000 else 0) + line % 32 * 0x1000000 + sub % 256 * 0x10000 + code

/-- Record a cause and the address of the instruction concerned (R93, R104). -/
def recordTrap (n cause pc : Nat) (s : State) : State :=
  wr (Reg.ENG_LAST_TRAP_PC n) (dw (pc % 0x10000 / 4 * 4)) (wr (Reg.ENG_LAST_TRAP n) (dw cause) s)

/-- Instructions issued behind one that is discarded, before the entry, are discarded too and counted (R92, R104): how many is the program's
to say, a free number up to `k` (log 67). A single step issues none. -/
def discards (n k : Nat) (s : State) : State :=
  if (eng n s).step then s else drawn (bump64 (Reg.ENG_ISSUE_CNT n) ((freeNow 0 s).toNat % (k + 1)) s)

/-- A double fault (R95): earlier instructions complete, the engine stops FAULTED, the cause is recorded, ENG_DOUBLE_FAULT is raised. -/
def doubleFault (n cause pc : Nat) (s : State) : State :=
  flagEvent (Reg.ENG_EVT_STATUS n) 0 0x800 n
    (recordTrap n cause pc (modEng n (fun e => { e with mode := .faulted, wait := .none, step := false, gather := none }) (settle n s)))

/-- The engine after entry to a trap or interrupt (R92): bank 1, its ST and RS set, g28 to g31 of bank 1 written, pc at the
vector, whose first instruction issues three cycles later. A repeat whose last body instruction has issued is over. -/
def entryRegs (e : Engine) (code cause ret g29 g28 : Nat) : Engine :=
  let e1 := if e.rptEnd then { e.setRs 0 with rptEnd := false } else e
  let e2 := { e1 with bank := 1, st1 := 0x80000006, rs1 := 0, pc := (e.vbase.toNat + code * 0x40) % 2 ^ 32, wait := .none,
                      step := false, gather := none, gap := 3, pair := none }
  (((e2.setGB 1 31 (BitVec.ofNat 32 ret)).setGB 1 30 (BitVec.ofNat 32 cause)).setGB 1 29 (BitVec.ofNat 32 g29)).setGB 1 28
    (BitVec.ofNat 32 g28)

/-- Take a trap or interrupt with the given cause (R92), `k` cycles after the last issue: a double fault while bank 1 is current (R95). `pc` is
the instruction concerned, `ret` the return address. -/
def takeTrap (n k code cause pc ret g29 g28 : Nat) (s : State) : State :=
  if (eng n s).bank = 0 then
    let t := cyclesPass n k s
    recordTrap n cause pc
      (bump (if code = 0x10 then Reg.ENG_IRQ_CNT n else Reg.ENG_TRAP_CNT n)
        (setEng n (entryRegs (eng n t) code cause ret g29 g28) t))
  else doubleFault n cause pc s

/-- A synchronous fault of the instruction at pc, found in EX1: the instruction is discarded, g31 names it, the entry is two cycles after issue
(R92). -/
def syncTrap (n code sub g29 g28 : Nat) (s : State) : State :=
  takeTrap n 2 code (causeWord false 0 sub code) (eng n s).pc (eng n s).pc g29 g28 s

/-! ## Issue (R65 to R78) -/

/-- What an instruction does at issue, its operands read: it waits in ID (interlock, R68); it faults; it completes, leaving the
engine `e` and the rest of the effect `f`, and goes on; it jumps to `pc`; it completes and then traps (`trap`, `brk`); it does `f` and
stays at its address (a gather, a precise vector fault). -/
inductive Issue where
  | wait
  | fault (code sub g29 g28 : Nat)
  | done (e : Engine) (f : State → State)
  | jump (e : Engine) (pc : Nat)
  | thenTrap (code sub g29 : Nat)
  | act (f : State → State)

/-- Completion with no effect outside the engine. -/
def Issue.regs (e : Engine) : Issue := .done e id

/-- Does a repeat run in the current bank? -/
def Engine.inRepeat (e : Engine) : Bool := decide (e.rem ≠ 0)

/-- An instruction boundary outside a repeat body (R77). -/
def Engine.boundary (e : Engine) : Bool := decide (e.rem = 0) || e.rptEnd

/-- The oldest pending FAR_ERR that may be taken: any of an access of bank 1, one of bank 0 while bank 0 is current (R89, R95). -/
def Engine.farErrDue (e : Engine) : Option (Nat × Nat × Nat) := e.farErr.find? fun x => x.2.2 == 1 || e.bank == 0

/-- May the engine take an interrupt (R91, R96)? -/
def canInterrupt (n : Nat) (s : State) : Bool :=
  let e := eng n s
  decide (e.mode = .run) && decide (e.wait = .none) && decide (e.bank = 0) && bitOf e.st0.toNat 0 && e.boundary &&
  decide (e.kill = 0) && e.farErrDue.isNone && !(flagOn (Reg.ENG_CTRL n) 0 s) && decide (irqReady n s ≠ 0)

/-- May the engine issue (R91, R101, R102, R121, R132)? A pending kill, FAR_ERR, interrupt or halt that may be taken at the boundary is taken
first. -/
def canIssue (n : Nat) (s : State) : Bool :=
  let e := eng n s
  decide (e.mode = .run) && decide (e.wait = .none) && !e.rptEnd &&
  (e.inRepeat || ((decide (e.kill = 0)) && (e.step || !(flagOn (Reg.ENG_CTRL n) 0 s)))) && e.farErrDue.isNone && !(canInterrupt n s)

/-- The instruction boundary after an instruction has issued: the repeat moves on (R74), a single step is over (R101). -/
def Engine.advance (e : Engine) : Engine :=
  if e.rem = 0 then { e with pc := (e.pc + 4) % 2 ^ 32, step := false }
  else if e.ridx < e.rlen then { e.setRs (rsWord (e.ridx + 1) e.rlen e.rem) with pc := (e.pc + 4) % 2 ^ 32 }
  else if 1 < e.rem then { e.setRs (rsWord 0 e.rlen (e.rem - 1)) with pc := (e.pc + 2 ^ 32 - 4 * e.rlen) % 2 ^ 32 }
  else { e with pc := (e.pc + 4) % 2 ^ 32, rptEnd := true }

/-- Does an outstanding `ldf` interlock one of these registers of the current bank (R68)? -/
def interlocked (e : Engine) (regs : List Nat) : Bool :=
  regs.any fun r => e.far.any fun a => a.dest.contains (gKey e.bank r)

/-- The instruction at pc issues: it is the last issued (ENG_PC), and one fewer may execute an old word (R263). -/
def Engine.issued (e : Engine) : Engine :=
  { e with lastPc := e.pc, stale := (e.stale.filter fun x => decide (1 < x.2.2)).map fun x => (x.1, x.2.1, x.2.2 - 1) }

/-- Count an issued instruction (R104). -/
def countIssue (n : Nat) (s : State) : State := bump64 (Reg.ENG_ISSUE_CNT n) 1 s

/-- Finish an issued instruction, whose `writes` a vector instruction that joins it must not read (none: none may join); `behind` instructions
may issue behind it before an entry. -/
def finish (n : Nat) (writes : Option (List Nat)) (behind : Nat) (r : Issue) (s : State) : State :=
  match r with
  | .wait => s
  | .fault code sub g29 g28 => syncTrap n code sub g29 g28 (discards n behind (countIssue n (modEng n Engine.issued s)))
  | .done e f => f (countIssue n (setEng n { e.advance with pair := writes } s))
  | .jump e pc => countIssue n (setEng n { e with pc := pc / 4 * 4 % 2 ^ 32, step := false, gap := 3 } s)
  | .thenTrap code sub g29 =>
    let e := eng n s
    let t := discards n behind (countIssue n (modEng n Engine.issued s))
    if e.bank = 0 then
      (let u := modEng n Engine.advance t
       takeTrap n 2 code (causeWord false 0 sub code) e.pc (eng n u).pc g29 0 u)
    else doubleFault n (causeWord false 0 sub code) e.pc t
  | .act f => f (countIssue n (modEng n Engine.issued s))

/-- The FETCH cause of the instruction at pc: 1 beyond instruction memory, 2 uncorrectable ECC; 0 none (R90). -/
def fetchSub (n : Nat) (fetch : Ecc) (s : State) : Nat :=
  if 0x10000 ≤ (eng n s).pc then 1 else if eccFinds fetch (engBase n + (eng n s).pc) 4 s = .uncorrectable then 2 else 0

/-- Does an accepted write that memory has not served yet cover the word at `a`? A fetch waits for it (R263). -/
def writeAhead (a : Nat) (s : State) : Bool :=
  s.noc.txns.any fun t => decide (t.stage = .accepted) &&
    (match t.body with | .write bs => decide (t.addr < a + 4) && decide (a < t.addr + bs.length) | _ => false)

/-- A write of `n` bytes at fabric address `a` has been accepted: a running engine whose instruction memory it reaches may already hold the old
words, for the next 8 it issues (R263). -/
def staleWords (a n : Nat) (s : State) : State :=
  let e := a / 0x40000
  if a < 0x8000000 ∧ a % 0x40000 < 0x10000 ∧ (eng e s).mode = .run then
    let first := a % 0x40000 / 4
    modEng e (fun x => { x with stale := x.stale ++ (upto ((a % 0x40000 + n + 3) / 4 - first)).map fun i =>
      (4 * (first + i), BitVec.ofNat 32 (memNat (engBase e + 4 * (first + i)) 4 s), 8) }) s
  else s

/-- Does the engine find at pc a word of which `isIt` holds: the one instruction memory holds, or an old one it had already fetched (R263)? Where
the fetch faults there is no word. -/
def fetches (n : Nat) (isIt : Word → Bool) (fetch : Ecc) (s : State) : Bool :=
  decide (fetchSub n fetch s ≠ 0) ||
  (!(writeAhead (engBase n + (eng n s).pc) s) && isIt (BitVec.ofNat 32 (memNat (engBase n + (eng n s).pc) 4 s))) ||
  (eng n s).stale.any fun x => x.1 == (eng n s).pc && isIt x.2.1

/-- An uncorrectable error found by a local access: noted (R501). A corrected one is counted (R104, R501). -/
def eccCorrected (n addr : Nat) (s : State) : State := bump (Reg.ENG_ECC_CNT n) (noteEccAt .corrected (engBase n + addr) s)

/-- The fetch at pc has met a corrected error, or an uncorrectable one. -/
def fetchNoted (n : Nat) (fetch : Ecc) (s : State) : State :=
  match fetch with
  | .clean => s
  | .corrected => eccCorrected n (eng n s).pc s
  | .uncorrectable => noteEccAt .uncorrectable (engBase n + (eng n s).pc) s

/-- The trap FETCH of an instruction that could not be fetched; it counts as issued (R92). -/
def fetchTrap (n : Nat) (fetch : Ecc) (s : State) : State :=
  finish n none 3 (.fault 4 (fetchSub n fetch s) (eng n s).pc 0) (if fetchSub n fetch s = 2 then fetchNoted n fetch s else s)

/-- Issue an instruction on engine `n`: the fetch (R90), registers under interlock (R68), a cause `early` that comes before the checks of
R73, reserved fields (R73), then a place in a repeat body (R76; which SUB of ILLEGAL an instruction with both has is not stated, log 66), then
the instruction itself. `writes` are the g registers it writes. -/
def issueWith (n : Nat) (w : Word) (fetch : Ecc) (early : Engine → Option Issue) (reservedBad forbidden : Bool) (regs writes : List Nat)
    (body : Engine → Issue) (s : State) : State :=
  let u := atIssue n false [] s
  if canIssue n u && fetches n (· == w) fetch u then
    if fetchSub n fetch u ≠ 0 then fetchTrap n fetch u
    else if interlocked (eng n u) regs then u
    else finish n (some writes) 3
      (match early (eng n u) with
       | some r => r
       | none =>
         if reservedBad then .fault 2 1 0 0
         else if forbidden && (eng n u).inRepeat then .fault 2 2 0 0
         else body (eng n u).issued) (fetchNoted n fetch u)
  else s

/-- Issue an instruction with no such early cause. -/
def issue (n : Nat) (w : Word) (fetch : Ecc) (reservedBad forbidden : Bool) (regs writes : List Nat) (body : Engine → Issue) (s : State) : State :=
  issueWith n w fetch (fun _ => none) reservedBad forbidden regs writes body s

/-! ## Arithmetic (R546) -/

/-- The register forms of R546 under major opcode 0x01: is a reserved field set? -/
def aluReserved (w : Word) (oneOperand : Bool) : Bool :=
  decide (fieldOf w 10 5 ≠ 0) || (oneOperand && decide (fieldOf w 15 11 ≠ 0))

/-- The reserved bits of an ALU instruction in any of its formats: ALU, IMM12, SHIFT. -/
def opReserved (w : Word) : Bool :=
  if opcOf w = 1 then aluReserved w false
  else if opcOf w = 7 then decide (fieldOf w 15 7 ≠ 0)
  else decide (fieldOf w 15 12 ≠ 0)

/-- The second operand of an ALU instruction: gB, the shift count, or the sign-extended imm12. -/
def secondOf (e : Engine) (w : Word) : Word :=
  if opcOf w = 1 then e.gr (fieldOf w 15 11)
  else if opcOf w = 7 then BitVec.ofNat 32 (fieldOf w 4 0)
  else simm w 11 0

/-- Registers an ALU instruction reads and writes. -/
def aluRegs (w : Word) : List Nat := [fieldOf w 25 21, fieldOf w 20 16] ++ (if opcOf w = 1 then [fieldOf w 15 11] else [])

/-- A two-operand instruction that writes gD = f gA b, usable in the next cycle. -/
def alu2 (n : Nat) (w : Word) (fetch : Ecc) (f : Word → Word → Word) (s : State) : State :=
  issue n w fetch (opReserved w) false (aluRegs w) [fieldOf w 25 21]
    (fun e => .regs (e.setG (fieldOf w 25 21) (f (e.gr (fieldOf w 20 16)) (secondOf e w)))) s

/-- A multiplication: gD is usable in the second cycle (R67). -/
def mulOp (n : Nat) (w : Word) (fetch : Ecc) (f : Word → Word → Word) (s : State) : State :=
  issue n w fetch (aluReserved w false) false (aluRegs w) [fieldOf w 25 21]
    (fun e => .regs (e.laterG 2 (fieldOf w 25 21) (f (e.gr (fieldOf w 20 16)) (e.gr (fieldOf w 15 11))))) s

/-- 1 for true, 0 for false, as a word. -/
def boolWord (b : Bool) : Word := if b then 1 else 0

/-- The shift count, taken modulo 32. -/
def shiftCount (b : Word) : Nat := b.toNat % 32

def opAdd (n : Nat) (w : Word) (fetch : Ecc) (s : State) : State := alu2 n w fetch (· + ·) s
def opSub (n : Nat) (w : Word) (fetch : Ecc) (s : State) : State := alu2 n w fetch (· - ·) s
def opAnd (n : Nat) (w : Word) (fetch : Ecc) (s : State) : State := alu2 n w fetch (· &&& ·) s
def opOr (n : Nat) (w : Word) (fetch : Ecc) (s : State) : State := alu2 n w fetch (· ||| ·) s
def opXor (n : Nat) (w : Word) (fetch : Ecc) (s : State) : State := alu2 n w fetch (· ^^^ ·) s
def opShl (n : Nat) (w : Word) (fetch : Ecc) (s : State) : State := alu2 n w fetch (fun a b => a <<< shiftCount b) s
def opShr (n : Nat) (w : Word) (fetch : Ecc) (s : State) : State := alu2 n w fetch (fun a b => a >>> shiftCount b) s
def opSar (n : Nat) (w : Word) (fetch : Ecc) (s : State) : State := alu2 n w fetch (fun a b => a.sshiftRight (shiftCount b)) s
def opCmpEq (n : Nat) (w : Word) (fetch : Ecc) (s : State) : State := alu2 n w fetch (fun a b => boolWord (a == b)) s
def opCmpLt (n : Nat) (w : Word) (fetch : Ecc) (s : State) : State := alu2 n w fetch (fun a b => boolWord (a.slt b)) s
def opCmpLtu (n : Nat) (w : Word) (fetch : Ecc) (s : State) : State := alu2 n w fetch (fun a b => boolWord (a.ult b)) s
def opMin (n : Nat) (w : Word) (fetch : Ecc) (s : State) : State := alu2 n w fetch (fun a b => if a.slt b then a else b) s
def opMax (n : Nat) (w : Word) (fetch : Ecc) (s : State) : State := alu2 n w fetch (fun a b => if a.slt b then b else a) s
/-- `mul`: the low 32 bits of the signed product. -/
def opMul (n : Nat) (w : Word) (fetch : Ecc) (s : State) : State := mulOp n w fetch (fun a b => BitVec.ofInt 32 (a.toInt * b.toInt)) s
/-- `mulh`: the high 32 bits of the signed product. -/
def opMulh (n : Nat) (w : Word) (fetch : Ecc) (s : State) : State := mulOp n w fetch (fun a b => BitVec.ofInt 32 (a.toInt * b.toInt / 2 ^ 32)) s

/-- `abs`: the absolute value; of 0x8000_0000 it is 0x7FFF_FFFF and SOV is set. -/
def opAbs (n : Nat) (w : Word) (fetch : Ecc) (s : State) : State :=
  issue n w fetch (aluReserved w true) false [fieldOf w 25 21, fieldOf w 20 16] [fieldOf w 25 21]
    (fun e =>
      let a := e.gr (fieldOf w 20 16)
      .regs ((e.setG (fieldOf w 25 21) (if a = 0x80000000 then 0x7FFFFFFF else if a.slt 0 then -a else a)).orSov (a == 0x80000000))) s

/-- `mov`. -/
def opMov (n : Nat) (w : Word) (fetch : Ecc) (s : State) : State :=
  issue n w fetch (aluReserved w true) false [fieldOf w 25 21, fieldOf w 20 16] [fieldOf w 25 21]
    (fun e => .regs (e.setG (fieldOf w 25 21) (e.gr (fieldOf w 20 16)))) s

/-- `movi`: the sign-extended imm16. -/
def opMovi (n : Nat) (w : Word) (fetch : Ecc) (s : State) : State :=
  issue n w fetch (decide (fieldOf w 20 16 ≠ 0)) false [fieldOf w 25 21] [fieldOf w 25 21]
    (fun e => .regs (e.setG (fieldOf w 25 21) (simm w 15 0))) s

/-- `movhi`: bits [31:16] written, [15:0] kept. -/
def opMovhi (n : Nat) (w : Word) (fetch : Ecc) (s : State) : State :=
  issue n w fetch (decide (fieldOf w 20 16 ≠ 0)) false [fieldOf w 25 21] [fieldOf w 25 21]
    (fun e => .regs (e.setG (fieldOf w 25 21)
      (BitVec.ofNat 32 (fieldOf w 15 0 * 65536 + (e.gr (fieldOf w 25 21)).toNat % 65536)))) s

/-- `nop`. -/
def opNop (n : Nat) (w : Word) (fetch : Ecc) (s : State) : State :=
  issue n w fetch (decide (fieldOf w 25 0 ≠ 0)) false [] [] (fun e => .regs e) s

/-! ## Accumulators (R79 to R81) -/

/-- The accumulator instructions of format MAC: aN += the term that `f` makes of gA and gB. -/
def macOp (n : Nat) (w : Word) (fetch : Ecc) (f : CInt → CInt → CInt) (s : State) : State :=
  issue n w fetch (decide (fieldOf w 22 21 ≠ 0) || decide (fieldOf w 10 2 ≠ 0)) false [fieldOf w 20 16, fieldOf w 15 11] []
    (fun e =>
      let r := accumulate (e.ac (fieldOf w 25 23)) (f (cint16 (e.gr (fieldOf w 20 16)).toNat) (cint16 (e.gr (fieldOf w 15 11)).toNat))
      .regs ((e.setAc (fieldOf w 25 23) r.1).orAov r.2)) s

def opCmac (n : Nat) (w : Word) (fetch : Ecc) (s : State) : State := macOp n w fetch CInt.mul s
def opCmacc (n : Nat) (w : Word) (fetch : Ecc) (s : State) : State := macOp n w fetch (fun x h => x.mul h.conj) s
def opCmsu (n : Nat) (w : Word) (fetch : Ecc) (s : State) : State := macOp n w fetch (fun x h => ⟨-(x.mul h).re, -(x.mul h).im⟩) s
/-- `rmac`: the real half only. -/
def opRmac (n : Nat) (w : Word) (fetch : Ecc) (s : State) : State := macOp n w fetch (fun x h => ⟨x.re * h.re, 0⟩) s

/-- `clr`. -/
def opClr (n : Nat) (w : Word) (fetch : Ecc) (s : State) : State :=
  issue n w fetch (decide (fieldOf w 22 0 ≠ 0)) false [] [] (fun e => .regs (e.setAc (fieldOf w 25 23) {})) s

/-- `racc`: both halves extracted to a cint16 (R81), usable in the second cycle. -/
def opRacc (n : Nat) (w : Word) (fetch : Ecc) (s : State) : State :=
  issue n w fetch (decide (fieldOf w 17 5 ≠ 0)) false [fieldOf w 25 21] [fieldOf w 25 21]
    (fun e =>
      let r := extractC e.rnd e.satOn (e.acLanded (fieldOf w 20 18)).val (fieldOf w 4 0)
      .regs ((e.laterG 2 (fieldOf w 25 21) (BitVec.ofNat 32 r.1)).orSov r.2)) s

/-- `mva`: one half extracted to 32 bits (R81), usable in the second cycle. -/
def opMva (n : Nat) (w : Word) (fetch : Ecc) (s : State) : State :=
  issue n w fetch (decide (fieldOf w 17 6 ≠ 0)) false [fieldOf w 25 21] [fieldOf w 25 21]
    (fun e =>
      let v := (e.acLanded (fieldOf w 20 18)).val
      let r := extract e.rnd e.satOn 32 (if fieldOf w 5 5 = 0 then v.re else v.im) (fieldOf w 4 0)
      .regs ((e.laterG 2 (fieldOf w 25 21) (BitVec.ofNat 32 r.1)).orSov r.2)) s

/-! ## Local loads and stores (R82 to R85) -/

/-- The reserved fields of format MEM: N for MODE 0 and 1, an odd register of a pair (R73). -/
def memReserved (w : Word) (pair : Bool) : Bool :=
  (decide (fieldOf w 15 14 < 2) && decide (fieldOf w 13 12 ≠ 0)) || (pair && decide (fieldOf w 21 21 ≠ 0))

/-- Registers of format MEM. -/
def memRegs (w : Word) (pair : Bool) : List Nat :=
  [fieldOf w 25 21, fieldOf w 20 16] ++ (if pair then [fieldOf w 25 21 + 1] else [])

/-- The post-modify update of gB (R82). -/
def baseUpdate (e : Engine) (w : Word) (gb : Word) : Engine :=
  if fieldOf w 15 14 = 0 then e else e.setG (fieldOf w 20 16) gb

/-- An uncorrectable error on a local load: trap ECC (R90), the row marked (R501). -/
def eccTrap (n addr : Nat) (s : State) : State :=
  syncTrap n 5 1 addr 0 (discards n 3 (noteEccAt .uncorrectable (engBase n + addr) s))

/-- A local load of 2^a bytes; `put` sends the value loaded to its register, usable in the third cycle (R67). -/
def loadOp (n : Nat) (w : Word) (fetch : Ecc) (a : Nat) (ecc : Ecc) (put : Engine → Nat → Engine) (s : State) : State :=
  issue n w fetch (memReserved w (decide (a = 3))) false (memRegs w (decide (a = 3))) (memRegs w (decide (a = 3)))
    (fun e =>
      let f := memForm e w a
      let bad := localFault f.1.toNat (2 ^ a) false
      if bad ≠ 0 then .fault 3 bad f.1.toNat 0
      else match eccFinds ecc (engBase n + f.1.toNat) (2 ^ a) s with
        | .uncorrectable => .act (eccTrap n f.1.toNat)
        | .corrected => .done (put (baseUpdate e w f.2) (localLoad n f.1.toNat (2 ^ a) s)) (eccCorrected n f.1.toNat)
        | .clean => .regs (put (baseUpdate e w f.2) (localLoad n f.1.toNat (2 ^ a) s))) s

/-- Load gG with a value of `bits` bits, sign-extended. -/
def putSigned (w : Word) (bits : Nat) (e : Engine) (v : Nat) : Engine := e.laterG 3 (fieldOf w 25 21) (BitVec.ofInt 32 (signed bits v))
/-- Load gG with a value, zero-extended. -/
def putPlain (w : Word) (e : Engine) (v : Nat) : Engine := e.laterG 3 (fieldOf w 25 21) (BitVec.ofNat 32 v)
/-- Load the pair gG, gG+1 with a 64-bit value, the low word in gG (R8). -/
def putPair (w : Word) (e : Engine) (v : Nat) : Engine :=
  (e.laterG 3 (fieldOf w 25 21) (BitVec.ofNat 32 v)).laterG 3 (fieldOf w 25 21 + 1) (BitVec.ofNat 32 (v / 2 ^ 32))

def opLdB (n : Nat) (w : Word) (ecc fetch : Ecc) (s : State) : State := loadOp n w fetch 0 ecc (putSigned w 8) s
def opLdBu (n : Nat) (w : Word) (ecc fetch : Ecc) (s : State) : State := loadOp n w fetch 0 ecc (putPlain w) s
def opLdH (n : Nat) (w : Word) (ecc fetch : Ecc) (s : State) : State := loadOp n w fetch 1 ecc (putSigned w 16) s
def opLdHu (n : Nat) (w : Word) (ecc fetch : Ecc) (s : State) : State := loadOp n w fetch 1 ecc (putPlain w) s
def opLdW (n : Nat) (w : Word) (ecc fetch : Ecc) (s : State) : State := loadOp n w fetch 2 ecc (putPlain w) s
def opLdD (n : Nat) (w : Word) (ecc fetch : Ecc) (s : State) : State := loadOp n w fetch 3 ecc (putPair w) s

/-- The value a store writes: gG, or the pair gG, gG+1. -/
def storeValue (e : Engine) (w : Word) (pair : Bool) : Nat :=
  (e.gr (fieldOf w 25 21)).toNat + (if pair then (e.gr (fieldOf w 25 21 + 1)).toNat * 2 ^ 32 else 0)

/-- What the merge read of a store that covers part of an ECC word finds (R266, R267): a corrected error is counted, an uncorrectable one
leaves the word poisoned. A store of whole words reads nothing. -/
def mergeNoted (n a size : Nat) (ecc : Ecc) (s : State) : State :=
  if 4 ≤ size then s
  else match ecc with
    | .clean => s
    | .corrected => eccCorrected n a s
    | .uncorrectable => addPoison [(engBase n + a) / 4 * 4] (noteEccAt .uncorrectable (engBase n + a) s)

/-- A local store of 2^a bytes. -/
def storeOp (n : Nat) (w : Word) (fetch : Ecc) (a : Nat) (ecc : Ecc) (s : State) : State :=
  issue n w fetch (memReserved w (decide (a = 3))) false (memRegs w (decide (a = 3))) [fieldOf w 20 16]
    (fun e =>
      let f := memForm e w a
      let bad := localFault f.1.toNat (2 ^ a) true
      if bad ≠ 0 then .fault 3 bad f.1.toNat 0
      else .done (baseUpdate e w f.2) fun t =>
        mergeNoted n f.1.toNat (2 ^ a) ecc (localStore n f.1.toNat (2 ^ a) (storeValue e w (decide (a = 3))) t)) s

def opStB (n : Nat) (w : Word) (ecc fetch : Ecc) (s : State) : State := storeOp n w fetch 0 ecc s
def opStH (n : Nat) (w : Word) (ecc fetch : Ecc) (s : State) : State := storeOp n w fetch 1 ecc s
def opStW (n : Nat) (w : Word) (fetch : Ecc) (s : State) : State := storeOp n w fetch 2 .clean s
def opStD (n : Nat) (w : Word) (fetch : Ecc) (s : State) : State := storeOp n w fetch 3 .clean s

/-- The first fault of an `ftap`'s three accesses: cause, address. The manual does not order them: the oldest element, the coefficient, then the
move (log 66). -/
def ftapFault (x h d hs : Nat) : Nat × Nat :=
  if localFault x 4 false ≠ 0 then (localFault x 4 false, x)
  else if localFault h hs false ≠ 0 then (localFault h hs false, h)
  else (localFault d 4 true, d)

/-- step() of R79: linear, or circular in the buffer the instruction names. -/
def ftapStep (e : Engine) (w : Word) (g imm : Word) : Word :=
  if fieldOf w 9 9 = 1 then circStep e (fieldOf w 8 7) g imm else g + imm

/-- `ftap` (R79); both pointers are usable in the next cycle. -/
def opFtap (n : Nat) (w : Word) (ecc fetch : Ecc) (s : State) : State :=
  issue n w fetch (decide (fieldOf w 6 0 ≠ 0)) false [fieldOf w 22 18, fieldOf w 17 13] [fieldOf w 22 18, fieldOf w 17 13]
    (fun e =>
      let rc := fieldOf w 11 11 = 1
      let size := if rc then 2 else 4
      let gd := e.gr (fieldOf w 22 18)
      let gc := e.gr (fieldOf w 17 13)
      let dst := ftapStep e w gd 4
      let bad := ftapFault gd.toNat gc.toNat dst.toNat size
      if bad.1 ≠ 0 then .fault 3 bad.1 bad.2 0
      else if poisoned (engBase n + gd.toNat) 4 s then .act (eccTrap n gd.toNat)
      else if poisoned (engBase n + gc.toNat) size s then .act (eccTrap n gc.toNat)
      else if ecc = .uncorrectable then .act (eccTrap n gd.toNat)
      else
        let x := localLoad n gd.toNat 4 s
        let h : CInt := if rc then ⟨signed 16 (localLoad n gc.toNat 2 s), 0⟩ else cint16 (localLoad n gc.toNat 4 s)
        let r := accumulate (e.ac (fieldOf w 25 23)) (if fieldOf w 12 12 = 1 then (cint16 x).mul h.conj else (cint16 x).mul h)
        let e1 := (e.setAc (fieldOf w 25 23) r.1).orAov r.2
        let e2 := e1.setG (fieldOf w 22 18) (ftapStep e w gd (-4))
        let e3 := e2.setG (fieldOf w 17 13)
          (if fieldOf w 10 10 = 1 then e2.gr (fieldOf w 17 13) + BitVec.ofNat 32 size else e2.gr (fieldOf w 17 13) - BitVec.ofNat 32 size)
        .done e3 (fun t => when' (decide (ecc = .corrected)) (eccCorrected n gd.toNat) (localStore n dst.toNat 4 x t))) s

/-! ## Far access (R86 to R89) -/

/-- The reserved fields of format FAR: [14:0], an odd register of a pair. -/
def farReserved (w : Word) : Bool := decide (fieldOf w 14 0 ≠ 0) || (decide (fieldOf w 15 15 = 1) && decide (fieldOf w 21 21 ≠ 0))

/-- Registers of format FAR: data and address pair. -/
def farRegs (w : Word) : List Nat :=
  [fieldOf w 25 21, 2 * fieldOf w 20 17, 2 * fieldOf w 20 17 + 1] ++ (if fieldOf w 15 15 = 1 then [fieldOf w 25 21 + 1] else [])

/-- The bytes a far access moves. -/
def farSize (w : Word) : Nat := if fieldOf w 15 15 = 1 then 8 else 4

/-- A far access that passes its alignment check (R86) goes on as `f` says. -/
def farOp (n : Nat) (w : Word) (fetch : Ecc) (writes : List Nat) (f : Engine → Nat → Issue) (s : State) : State :=
  issue n w fetch (farReserved w) false (farRegs w) writes
    (fun e =>
      let a := farAddr e (fieldOf w 20 17)
      if a % farSize w ≠ 0 then .fault 3 4 (a % 2 ^ 32) (a / 2 ^ 32) else f e a) s

/-- Uses of an engine's packets: 1 far reads and acknowledged writes, 2 far stores, 3 `cop`, 5 WITHDRAW, 6 kill acknowledgements. -/
def useFar : Nat := 1
def useStf : Nat := 2
def useCop : Nat := 3
def useWithdraw : Nat := 5

/-- The g registers an `ldf` writes. -/
def ldfDest (w : Word) : List Nat := if fieldOf w 15 15 = 1 then [fieldOf w 25 21, fieldOf w 25 21 + 1] else [fieldOf w 25 21]

/-- `ldf`: a REQ-class read whose destination is interlocked (R87); it waits with 16 outstanding (R68). -/
def opLdf (n : Nat) (w : Word) (fetch : Ecc) (s : State) : State :=
  farOp n w fetch (ldfDest w) (fun e a =>
    if 16 ≤ e.far.length then .wait
    else
      .done { e with far := e.far ++ [⟨nextTxn s, (ldfDest w).map (gKey e.bank), e.bank, a⟩] }
        (reqRead (.eng n) useFar a (farSize w) (decide (fieldOf w 16 16 = 1)))) s

/-- `stf`: a posted write enters the far store queue (R87); it waits with 32 queued (R68). -/
def opStf (n : Nat) (w : Word) (fetch : Ecc) (s : State) : State :=
  farOp n w fetch [] (fun e a =>
    if 32 ≤ e.stq.length then .wait
    else .regs { e with stq := e.stq ++ [⟨a, leBytes (farSize w) (storeValue e w (decide (fieldOf w 15 15 = 1))), decide (fieldOf w 16 16 = 1)⟩] }) s

/-- `stf.ack`: an acknowledged REQ-class write that interlocks no register (R87). -/
def opStfAck (n : Nat) (w : Word) (fetch : Ecc) (s : State) : State :=
  farOp n w fetch [] (fun e a =>
    if 16 ≤ e.far.length then .wait
    else .done { e with far := e.far ++ [⟨nextTxn s, [], e.bank, a⟩] }
      (reqWrite (.eng n) useFar a (leBytes (farSize w) (storeValue e w (decide (fieldOf w 15 15 = 1)))) (decide (fieldOf w 16 16 = 1)))) s

/-- The cluster NI injects the oldest queued far store and frees its entry (R68, R87). -/
def opFarStoreInjected (n : Nat) (s : State) : State :=
  match (eng n s).stq with
  | [] => s
  | f :: t => postWrite (.eng n) useStf f.addr f.bs f.aw (modEng n (fun e => { e with stq := t }) s)

/-- Land a far read in its destination registers, each with the bank it was issued in (R94). -/
def landFar (e : Engine) (dest : List Nat) (data : List Byte) : Engine :=
  match dest with
  | [] => e
  | k :: t => { e with g := (match t with
      | [] => tabSet (fun _ => 0) e.g k (BitVec.ofNat 32 (leAt data 0 4))
      | k2 :: _ => tabSet (fun _ => 0) (tabSet (fun _ => 0) e.g k (BitVec.ofNat 32 (leAt data 0 4))) k2 (BitVec.ofNat 32 (leAt data 4 4))) }

/-- Does an answer to a read of engine `n` carry the TASK_END mark (R204)? It is the answer to the engine's read of its own CHURN_NEXT
register that completed a task. -/
def taskEnd (n : Nat) (t : Txn) (code : Nat) (data : List Byte) : Bool :=
  decide (code = 0) && inCsr t.addr && csrOff t.addr == Reg.CHURN_NEXT (n / 64) (n % 64) && decide (data.length = 9)

/-- The answer to packet `id`, an `ldf` or `stf.ack` of engine `n`, lands (R89). An answer to an access that an abort discarded
(R99) is dropped. -/
def opFarResponse (n id : Nat) (s : State) : State :=
  match txnOf id s with
  | none => s
  | some t =>
    if t.agent = .eng n ∧ t.use = useFar then
      match t.ans with
      | none => s
      | some (code, data) =>
        let s1 := takeAns id s
        match (eng n s1).far.find? (fun a => a.id == id) with
        | none => s1
        | some a =>
          modEng n (fun e =>
            let e1 := { e with far := e.far.filter fun x => x.id != id }
            let e2 := if taskEnd n t code data then { e1 with mask := [] } else e1
            if code = 0 then landFar e2 a.dest data
            else { e2 with farErr := e2.farErr ++ [(code, a.addr, a.bank)] }) s1
    else s

/-- May a pending FAR_ERR be taken (R77, R89, R91): at a boundary, not before a kill that may be taken there? -/
def farErrNow (e : Engine) : Bool :=
  (decide (e.mode = .run) || decide (e.mode = .idle)) && decide (e.wait ≠ .cop) && decide (e.wait ≠ .gather) &&
  !(decide (e.kill ≠ 0) && e.boundary)

/-- A pending FAR_ERR is taken at an instruction boundary in bank 0; one of a bank-1 access is a double fault (R89, R91, R95). -/
def opFarErr (n : Nat) (s : State) : State :=
  let e := eng n s
  match e.farErrDue with
  | none => s
  | some x =>
    if farErrNow e = false then s
    else
      let cause := causeWord false 0 x.1 6
      let t := modEng n (fun y => { y with farErr := y.farErr.erase x, mode := .run }) s
      if x.2.2 = 1 then doubleFault n cause e.pc t
      else takeTrap n e.gap 6 cause e.pc e.pc (x.2.1 % 2 ^ 32) (x.2.1 / 2 ^ 32) t

/-- `fencef`: waits until every earlier far access is answered or accepted (R88). -/
def opFencef (n : Nat) (w : Word) (fetch : Ecc) (s : State) : State :=
  issue n w fetch (decide (fieldOf w 20 0 ≠ 0)) false [] []
    (fun e => if e.far.isEmpty && e.stq.isEmpty && !(unaccepted (.eng n) useStf s) then .regs e else .wait) s

/-! ## Control flow (R70, R74 to R76) -/

/-- The target of a branch: its own address plus 4 × offset. -/
def branchTarget (e : Engine) (w : Word) : Nat := ((BitVec.ofNat 32 e.pc : Word) + simm w 15 0 * 4).toNat

def opB (n : Nat) (w : Word) (fetch : Ecc) (s : State) : State :=
  issue n w fetch (decide (fieldOf w 25 16 ≠ 0)) true [] [] (fun e => .jump e (branchTarget e w)) s
def opBz (n : Nat) (w : Word) (fetch : Ecc) (s : State) : State :=
  issue n w fetch (decide (fieldOf w 20 16 ≠ 0)) true [fieldOf w 25 21] []
    (fun e => if e.gr (fieldOf w 25 21) = 0 then .jump e (branchTarget e w) else .regs e) s
def opBnz (n : Nat) (w : Word) (fetch : Ecc) (s : State) : State :=
  issue n w fetch (decide (fieldOf w 20 16 ≠ 0)) true [fieldOf w 25 21] []
    (fun e => if e.gr (fieldOf w 25 21) ≠ 0 then .jump e (branchTarget e w) else .regs e) s
def opBl (n : Nat) (w : Word) (fetch : Ecc) (s : State) : State :=
  issue n w fetch (decide (fieldOf w 25 16 ≠ 0)) true [15] []
    (fun e => .jump (e.setG 15 (BitVec.ofNat 32 (e.pc + 4))) (branchTarget e w)) s

/-- A jump to a misaligned address is FETCH with SUB 3, before any other cause (R70, R90, R91). -/
def jumpFault (w : Word) (e : Engine) : Option Issue :=
  if (e.gr (fieldOf w 25 21)).toNat % 4 ≠ 0 then some (.fault 4 3 (e.gr (fieldOf w 25 21)).toNat 0) else none

def opJr (n : Nat) (w : Word) (fetch : Ecc) (s : State) : State :=
  issueWith n w fetch (jumpFault w) (decide (fieldOf w 20 0 ≠ 0)) true [fieldOf w 25 21] []
    (fun e => .jump e (e.gr (fieldOf w 25 21)).toNat) s
def opJal (n : Nat) (w : Word) (fetch : Ecc) (s : State) : State :=
  issueWith n w fetch (jumpFault w) (decide (fieldOf w 20 0 ≠ 0)) true [fieldOf w 25 21, 15] []
    (fun e => .jump (e.setG 15 (BitVec.ofNat 32 (e.pc + 4))) (e.gr (fieldOf w 25 21)).toNat) s

/-- The count of a `rpt` (R74, R75). -/
def rptCount (e : Engine) (w : Word) : Nat :=
  if fieldOf w 25 25 = 0 then fieldOf w 15 0 + 1 else (e.gr (fieldOf w 4 0)).toNat

/-- `rpt`: starts a repeat of the following body (R74, R75); one stepped runs its whole repeat (R101). -/
def opRpt (n : Nat) (w : Word) (fetch : Ecc) (s : State) : State :=
  issue n w fetch (decide (fieldOf w 18 16 ≠ 0) || (decide (fieldOf w 25 25 = 1) && decide (fieldOf w 15 5 ≠ 0))) true
    (if fieldOf w 25 25 = 1 then [fieldOf w 4 0] else []) []
    (fun e =>
      if 65536 < rptCount e w then .fault 2 3 0 0
      else if rptCount e w = 0 then .jump e (e.pc + 4 + 4 * (fieldOf w 24 19 + 1))
      else .done e (modEng n (fun x => { x.setRs (rsWord 0 (fieldOf w 24 19) (rptCount e w)) with step := e.step }))) s

/-- The last iteration's body has issued: RS clears (R77). -/
def opRepeatEnd (n : Nat) (s : State) : State :=
  if (eng n s).rptEnd then modEng n (fun e => { e.setRs 0 with rptEnd := false, step := false }) s else s

/-! ## System group (R71, R90, R95, R102) -/

/-- The reserved fields of a system instruction without register and immediate. -/
def sysReserved (w : Word) : Bool := decide (fieldOf w 20 0 ≠ 0)

/-- Does a wake condition of `wait` hold: a line pending and enabled, a halt request, a kill (R102, R479)? -/
def wakeHolds (n : Nat) (s : State) : Bool :=
  decide (irqReady n s ≠ 0) || flagOn (Reg.ENG_CTRL n) 0 s || decide ((eng n s).kill ≠ 0)

/-- `wait` (R102): a no-operation in bank 1; else the engine waits for its drain. -/
def opWait (n : Nat) (w : Word) (fetch : Ecc) (s : State) : State :=
  issue n w fetch (sysReserved w) true [] []
    (fun e => if e.bank = 1 then .regs e else .regs { e with wait := .waitDrain }) s

/-- `reti`: back to bank 0 at bank 1's g31 (R95), waiting for an `ldf` to it (R68); in bank 0 it is ILLEGAL. -/
def opReti (n : Nat) (w : Word) (fetch : Ecc) (s : State) : State :=
  issue n w fetch (sysReserved w) true (if (eng n s).bank = 0 then [] else [31]) []
    (fun e => if e.bank = 0 then .fault 2 4 0 0 else .jump { e with bank := 0 } (e.gr 31).toNat) s

/-- `trap #imm16`: SYSCALL. -/
def opTrap (n : Nat) (w : Word) (fetch : Ecc) (s : State) : State :=
  issue n w fetch (decide (fieldOf w 20 16 ≠ 0)) false [] [] (fun _ => .thenTrap 8 (fieldOf w 7 0) (fieldOf w 15 0)) s

/-- `brk`: BREAK. -/
def opBrk (n : Nat) (w : Word) (fetch : Ecc) (s : State) : State :=
  issue n w fetch (sysReserved w) false [] [] (fun _ => .thenTrap 9 0 0) s

/-- An unallocated encoding traps UNDEF (R73). -/
def opUndef (n : Nat) (w : Word) (fetch : Ecc) (s : State) : State := issue n w fetch false false [] [] (fun _ => .fault 1 0 0 0) s

/-- Is the number one of a special register (R71)? -/
def isSpecial (x : Nat) : Bool := decide (x ≤ 5) || decide (8 ≤ x ∧ x ≤ 0x10)

/-- The value `mfs` reads (R71). CYCLE is the low half of a counter of cycles, left free (log 8). -/
def specialRead (n x : Nat) (e : Engine) (s : State) : Word :=
  match x with
  | 0 => e.st
  | 1 => e.rs
  | 2 => e.vbase
  | 3 => (rd (Reg.ENG_IRQ_EN n) s).truncate 32
  | 4 => (rd (Reg.ENG_IRQ_PEND n) s).truncate 32
  | 5 => (Config.cycles s.free (Reg.ENG_CYCLE_CNT n)).truncate 32
  | 0x10 => BitVec.ofNat 32 n
  | _ => if x % 2 = 0 then BitVec.ofNat 32 (e.cbBase ((x - 8) / 2)) else BitVec.ofNat 32 (e.cbLen ((x - 8) / 2))

/-- `mfs` (R71): gD is usable in the second cycle. -/
def opMfs (n : Nat) (w : Word) (fetch : Ecc) (s : State) : State :=
  issue n w fetch false false [fieldOf w 20 16] [fieldOf w 20 16]
    (fun e =>
      if isSpecial (fieldOf w 15 0) then
        .done (e.laterG 2 (fieldOf w 20 16) (specialRead n (fieldOf w 15 0) e (atIssue n false [] s))) (when' (decide (fieldOf w 15 0 = 5)) drawn)
      else .fault 2 5 0 0) s

/-- `mts` (R71): the special register and its effects follow in the second cycle. -/
def opMts (n : Nat) (w : Word) (fetch : Ecc) (s : State) : State :=
  issue n w fetch false false [fieldOf w 20 16] []
    (fun e =>
      if isSpecial (fieldOf w 15 0) then .regs (e.later 2 (.special e.bank (fieldOf w 15 0) (e.gr (fieldOf w 20 16))))
      else .fault 2 5 0 0) s

/-! ## Meanings of the commands -/

/-- ADD (R546). -/
def execAdd (n : Nat) (w : Word) (s : State) (fetch : Ecc := .clean) : Host.Outcome State Fault Refusal :=
  .next (gated false (below 512 n && (isAlu w 0 || isOp w 2)) (opAdd n w fetch) s)
/-- SUB (R546). -/
def execSub (n : Nat) (w : Word) (s : State) (fetch : Ecc := .clean) : Host.Outcome State Fault Refusal :=
  .next (gated false (below 512 n && (isAlu w 1 || isOp w 3)) (opSub n w fetch) s)
/-- AND (R546). -/
def execAnd (n : Nat) (w : Word) (s : State) (fetch : Ecc := .clean) : Host.Outcome State Fault Refusal :=
  .next (gated false (below 512 n && (isAlu w 2 || isOp w 4)) (opAnd n w fetch) s)
/-- OR (R546). -/
def execOr (n : Nat) (w : Word) (s : State) (fetch : Ecc := .clean) : Host.Outcome State Fault Refusal :=
  .next (gated false (below 512 n && (isAlu w 3 || isOp w 5)) (opOr n w fetch) s)
/-- XOR (R546). -/
def execXor (n : Nat) (w : Word) (s : State) (fetch : Ecc := .clean) : Host.Outcome State Fault Refusal :=
  .next (gated false (below 512 n && (isAlu w 4 || isOp w 6)) (opXor n w fetch) s)
/-- SHL (R546). -/
def execShl (n : Nat) (w : Word) (s : State) (fetch : Ecc := .clean) : Host.Outcome State Fault Refusal :=
  .next (gated false (below 512 n && (isAlu w 5 || isShift w 0)) (opShl n w fetch) s)
/-- SHR (R546). -/
def execShr (n : Nat) (w : Word) (s : State) (fetch : Ecc := .clean) : Host.Outcome State Fault Refusal :=
  .next (gated false (below 512 n && (isAlu w 6 || isShift w 1)) (opShr n w fetch) s)
/-- SAR (R546). -/
def execSar (n : Nat) (w : Word) (s : State) (fetch : Ecc := .clean) : Host.Outcome State Fault Refusal :=
  .next (gated false (below 512 n && (isAlu w 7 || isShift w 2)) (opSar n w fetch) s)
/-- CMP_EQ (R546). -/
def execCmpEq (n : Nat) (w : Word) (s : State) (fetch : Ecc := .clean) : Host.Outcome State Fault Refusal :=
  .next (gated false (below 512 n && isAlu w 8) (opCmpEq n w fetch) s)
/-- CMP_LT (R546). -/
def execCmpLt (n : Nat) (w : Word) (s : State) (fetch : Ecc := .clean) : Host.Outcome State Fault Refusal :=
  .next (gated false (below 512 n && isAlu w 9) (opCmpLt n w fetch) s)
/-- CMP_LTU (R546). -/
def execCmpLtu (n : Nat) (w : Word) (s : State) (fetch : Ecc := .clean) : Host.Outcome State Fault Refusal :=
  .next (gated false (below 512 n && isAlu w 10) (opCmpLtu n w fetch) s)
/-- MIN (R546). -/
def execMin (n : Nat) (w : Word) (s : State) (fetch : Ecc := .clean) : Host.Outcome State Fault Refusal :=
  .next (gated false (below 512 n && isAlu w 11) (opMin n w fetch) s)
/-- MAX (R546). -/
def execMax (n : Nat) (w : Word) (s : State) (fetch : Ecc := .clean) : Host.Outcome State Fault Refusal :=
  .next (gated false (below 512 n && isAlu w 12) (opMax n w fetch) s)
/-- ABS (R546). -/
def execAbs (n : Nat) (w : Word) (s : State) (fetch : Ecc := .clean) : Host.Outcome State Fault Refusal :=
  .next (gated false (below 512 n && isAlu w 13) (opAbs n w fetch) s)
/-- MOV (R546). -/
def execMov (n : Nat) (w : Word) (s : State) (fetch : Ecc := .clean) : Host.Outcome State Fault Refusal :=
  .next (gated false (below 512 n && isAlu w 14) (opMov n w fetch) s)
/-- MOVI (R546). -/
def execMovi (n : Nat) (w : Word) (s : State) (fetch : Ecc := .clean) : Host.Outcome State Fault Refusal :=
  .next (gated false (below 512 n && isOp w 8) (opMovi n w fetch) s)
/-- MOVHI (R546). -/
def execMovhi (n : Nat) (w : Word) (s : State) (fetch : Ecc := .clean) : Host.Outcome State Fault Refusal :=
  .next (gated false (below 512 n && isOp w 9) (opMovhi n w fetch) s)
/-- MUL (R546). -/
def execMul (n : Nat) (w : Word) (s : State) (fetch : Ecc := .clean) : Host.Outcome State Fault Refusal :=
  .next (gated false (below 512 n && isAlu w 15) (opMul n w fetch) s)
/-- MULH (R546). -/
def execMulh (n : Nat) (w : Word) (s : State) (fetch : Ecc := .clean) : Host.Outcome State Fault Refusal :=
  .next (gated false (below 512 n && isAlu w 16) (opMulh n w fetch) s)
/-- CMAC (R80). -/
def execCmac (n : Nat) (w : Word) (s : State) (fetch : Ecc := .clean) : Host.Outcome State Fault Refusal :=
  .next (gated false (below 512 n && isMac w 0) (opCmac n w fetch) s)
/-- CMACC (R80). -/
def execCmacc (n : Nat) (w : Word) (s : State) (fetch : Ecc := .clean) : Host.Outcome State Fault Refusal :=
  .next (gated false (below 512 n && isMac w 1) (opCmacc n w fetch) s)
/-- CMSU (R80). -/
def execCmsu (n : Nat) (w : Word) (s : State) (fetch : Ecc := .clean) : Host.Outcome State Fault Refusal :=
  .next (gated false (below 512 n && isMac w 2) (opCmsu n w fetch) s)
/-- RMAC (R80). -/
def execRmac (n : Nat) (w : Word) (s : State) (fetch : Ecc := .clean) : Host.Outcome State Fault Refusal :=
  .next (gated false (below 512 n && isMac w 3) (opRmac n w fetch) s)
/-- CLR (R546). -/
def execClr (n : Nat) (w : Word) (s : State) (fetch : Ecc := .clean) : Host.Outcome State Fault Refusal :=
  .next (gated false (below 512 n && isOp w 11) (opClr n w fetch) s)
/-- RACC (R81). -/
def execRacc (n : Nat) (w : Word) (s : State) (fetch : Ecc := .clean) : Host.Outcome State Fault Refusal :=
  .next (gated false (below 512 n && isOp w 12) (opRacc n w fetch) s)
/-- MVA (R81). -/
def execMva (n : Nat) (w : Word) (s : State) (fetch : Ecc := .clean) : Host.Outcome State Fault Refusal :=
  .next (gated false (below 512 n && isOp w 13) (opMva n w fetch) s)
/-- FTAP (R79). -/
def execFtap (n : Nat) (w : Word) (ecc : Ecc) (s : State) (fetch : Ecc := .clean) : Host.Outcome State Fault Refusal :=
  .next (gated false (below 512 n && isOp w 49) (opFtap n w ecc fetch) s)
/-- LD_B (R82). -/
def execLdB (n : Nat) (w : Word) (ecc : Ecc) (s : State) (fetch : Ecc := .clean) : Host.Outcome State Fault Refusal :=
  .next (gated false (below 512 n && isOp w 16) (opLdB n w ecc fetch) s)
/-- LD_BU (R82). -/
def execLdBu (n : Nat) (w : Word) (ecc : Ecc) (s : State) (fetch : Ecc := .clean) : Host.Outcome State Fault Refusal :=
  .next (gated false (below 512 n && isOp w 17) (opLdBu n w ecc fetch) s)
/-- LD_H (R82). -/
def execLdH (n : Nat) (w : Word) (ecc : Ecc) (s : State) (fetch : Ecc := .clean) : Host.Outcome State Fault Refusal :=
  .next (gated false (below 512 n && isOp w 18) (opLdH n w ecc fetch) s)
/-- LD_HU (R82). -/
def execLdHu (n : Nat) (w : Word) (ecc : Ecc) (s : State) (fetch : Ecc := .clean) : Host.Outcome State Fault Refusal :=
  .next (gated false (below 512 n && isOp w 19) (opLdHu n w ecc fetch) s)
/-- LD_W (R82). -/
def execLdW (n : Nat) (w : Word) (ecc : Ecc) (s : State) (fetch : Ecc := .clean) : Host.Outcome State Fault Refusal :=
  .next (gated false (below 512 n && isOp w 20) (opLdW n w ecc fetch) s)
/-- LD_D (R82). -/
def execLdD (n : Nat) (w : Word) (ecc : Ecc) (s : State) (fetch : Ecc := .clean) : Host.Outcome State Fault Refusal :=
  .next (gated false (below 512 n && isOp w 21) (opLdD n w ecc fetch) s)
/-- ST_B (R82). -/
def execStB (n : Nat) (w : Word) (s : State) (ecc fetch : Ecc := .clean) : Host.Outcome State Fault Refusal :=
  .next (gated false (below 512 n && isOp w 24) (opStB n w ecc fetch) s)
/-- ST_H (R82). -/
def execStH (n : Nat) (w : Word) (s : State) (ecc fetch : Ecc := .clean) : Host.Outcome State Fault Refusal :=
  .next (gated false (below 512 n && isOp w 25) (opStH n w ecc fetch) s)
/-- ST_W (R82). -/
def execStW (n : Nat) (w : Word) (s : State) (fetch : Ecc := .clean) : Host.Outcome State Fault Refusal :=
  .next (gated false (below 512 n && isOp w 26) (opStW n w fetch) s)
/-- ST_D (R82). -/
def execStD (n : Nat) (w : Word) (s : State) (fetch : Ecc := .clean) : Host.Outcome State Fault Refusal :=
  .next (gated false (below 512 n && isOp w 27) (opStD n w fetch) s)
/-- UNDEF (R73). -/
def execUndef (n : Nat) (w : Word) (s : State) (fetch : Ecc := .clean) : Host.Outcome State Fault Refusal :=
  .next (gated false (below 512 n && isUnallocated w) (opUndef n w fetch) s)
/-- LDF (R87). -/
def execLdf (n : Nat) (w : Word) (s : State) (fetch : Ecc := .clean) : Host.Outcome State Fault Refusal :=
  .next (gated false (below 512 n && isOp w 28) (opLdf n w fetch) s)
/-- STF (R87). -/
def execStf (n : Nat) (w : Word) (s : State) (fetch : Ecc := .clean) : Host.Outcome State Fault Refusal :=
  .next (gated false (below 512 n && isOp w 29) (opStf n w fetch) s)
/-- STF_ACK (R87). -/
def execStfAck (n : Nat) (w : Word) (s : State) (fetch : Ecc := .clean) : Host.Outcome State Fault Refusal :=
  .next (gated false (below 512 n && isOp w 30) (opStfAck n w fetch) s)
/-- FAR_STORE_INJECTED (R68). -/
def execFarStoreInjected (n : Nat) (s : State) : Host.Outcome State Fault Refusal := .next (gated false (below 512 n) (opFarStoreInjected n) s)
/-- FAR_RESPONSE (R89). -/
def execFarResponse (n id : Nat) (s : State) : Host.Outcome State Fault Refusal := .next (gated false (below 512 n) (opFarResponse n id) s)
/-- FAR_ERR (R89). -/
def execFarErr (n : Nat) (s : State) : Host.Outcome State Fault Refusal := .next (gated false (below 512 n) (opFarErr n) s)
/-- FENCEF (R88). -/
def execFencef (n : Nat) (w : Word) (s : State) (fetch : Ecc := .clean) : Host.Outcome State Fault Refusal :=
  .next (gated false (below 512 n && isSys w 4) (opFencef n w fetch) s)
/-- B (R70). -/
def execB (n : Nat) (w : Word) (s : State) (fetch : Ecc := .clean) : Host.Outcome State Fault Refusal :=
  .next (gated false (below 512 n && isOp w 32) (opB n w fetch) s)
/-- BZ (R70). -/
def execBz (n : Nat) (w : Word) (s : State) (fetch : Ecc := .clean) : Host.Outcome State Fault Refusal :=
  .next (gated false (below 512 n && isOp w 33) (opBz n w fetch) s)
/-- BNZ (R70). -/
def execBnz (n : Nat) (w : Word) (s : State) (fetch : Ecc := .clean) : Host.Outcome State Fault Refusal :=
  .next (gated false (below 512 n && isOp w 34) (opBnz n w fetch) s)
/-- BL (R70). -/
def execBl (n : Nat) (w : Word) (s : State) (fetch : Ecc := .clean) : Host.Outcome State Fault Refusal :=
  .next (gated false (below 512 n && isOp w 35) (opBl n w fetch) s)
/-- JR (R70). -/
def execJr (n : Nat) (w : Word) (s : State) (fetch : Ecc := .clean) : Host.Outcome State Fault Refusal :=
  .next (gated false (below 512 n && isOp w 36) (opJr n w fetch) s)
/-- JAL (R70). -/
def execJal (n : Nat) (w : Word) (s : State) (fetch : Ecc := .clean) : Host.Outcome State Fault Refusal :=
  .next (gated false (below 512 n && isOp w 37) (opJal n w fetch) s)
/-- RPT (R74). -/
def execRpt (n : Nat) (w : Word) (s : State) (fetch : Ecc := .clean) : Host.Outcome State Fault Refusal :=
  .next (gated false (below 512 n && isOp w 48) (opRpt n w fetch) s)
/-- REPEAT_END (R77). -/
def execRepeatEnd (n : Nat) (s : State) : Host.Outcome State Fault Refusal := .next (gated false (below 512 n) (opRepeatEnd n) s)
/-- WAIT (R102). -/
def execWait (n : Nat) (w : Word) (s : State) (fetch : Ecc := .clean) : Host.Outcome State Fault Refusal :=
  .next (gated false (below 512 n && isSys w 0) (opWait n w fetch) s)
/-- RETI (R95). -/
def execReti (n : Nat) (w : Word) (s : State) (fetch : Ecc := .clean) : Host.Outcome State Fault Refusal :=
  .next (gated false (below 512 n && isSys w 1) (opReti n w fetch) s)
/-- TRAP (R90). -/
def execTrap (n : Nat) (w : Word) (s : State) (fetch : Ecc := .clean) : Host.Outcome State Fault Refusal :=
  .next (gated false (below 512 n && isSys w 2) (opTrap n w fetch) s)
/-- BRK (R90). -/
def execBrk (n : Nat) (w : Word) (s : State) (fetch : Ecc := .clean) : Host.Outcome State Fault Refusal :=
  .next (gated false (below 512 n && isSys w 3) (opBrk n w fetch) s)
/-- MFS (R71). -/
def execMfs (n : Nat) (w : Word) (s : State) (fetch : Ecc := .clean) : Host.Outcome State Fault Refusal :=
  .next (gated false (below 512 n && isSys w 5) (opMfs n w fetch) s)
/-- MTS (R71). -/
def execMts (n : Nat) (w : Word) (s : State) (fetch : Ecc := .clean) : Host.Outcome State Fault Refusal :=
  .next (gated false (below 512 n && isSys w 6) (opMts n w fetch) s)
/-- NOP (R546). -/
def execNop (n : Nat) (w : Word) (s : State) (fetch : Ecc := .clean) : Host.Outcome State Fault Refusal :=
  .next (gated false (below 512 n && isOp w 0) (opNop n w fetch) s)

end Sys2Proof.Machine
end

