-- ==== Sys2Proof/Machine/Domain.lean ====
section
/-! DEFINITION. Power domains as every family sees them (R471, R472, R478 to R487): which domain an address belongs to, whether it
answers, how a wake starts. The rows of the power family are in Power.lean. -/
namespace Sys2Proof.Machine

/-- Numbers of the domains: engines 0 to 511, clusters, accelerator slots 0 to 67, I/O domains by PWR_IO_REQ bit. -/
def engDom (n : Nat) : Nat := n
def cluDom (c : Nat) : Nat := 512 + c
def accDom (k : Nat) : Nat := 544 + k
def ioDom (i : Nat) : Nat := 612 + i

/-- Domain `d`. -/
def dom (d : Nat) (s : State) : Dom := tabGet (fun _ => ({} : Dom)) s.dom d

/-- The state of domain `d`. -/
def domState (d : Nat) (s : State) : EngMode := if d < 512 then (eng d s).mode else (dom d s).st

/-- PWR_CLU_STATUS or PWR_ACC_STATUS of a domain. -/
def Dom.statusWord (x : Dom) : DWord :=
  dw ((match x.st with | .nap => 2 | .doze => 3 | .off => 4 | _ => 0) + 16 * b2n x.pending + 256 * b2n x.failed)

/-- Put a domain: the one place that writes one, and keeps its status register in step. -/
def setDom (d : Nat) (x : Dom) (s : State) : State :=
  let t := { s with dom := tabSet (fun _ => ({} : Dom)) s.dom d x }
  if 512 ≤ d ∧ d < 544 then wr (Reg.PWR_CLU_STATUS (d - 512)) x.statusWord t
  else if 544 ≤ d ∧ d < 608 then wr (Reg.PWR_ACC_STATUS (d - 544)) x.statusWord t
  else t

/-- Change a domain. -/
def modDom (d : Nat) (f : Dom → Dom) (s : State) : State := setDom d (f (dom d s)) s

/-- Is the state one of sleep (R472)? -/
def EngMode.sleeps : EngMode → Bool
  | .nap => true | .doze => true | .off => true | _ => false

/-- Does domain `d` sleep or wake (R472)? -/
def domSleeps (d : Nat) (s : State) : Bool := (domState d s).sleeps || (dom d s).waking

/-- The code a guard answers with (R237, R472, R485, R487): FENCED before ASLEEP; none where the domain serves. -/
def guardCode (d : Nat) (s : State) : Option Nat :=
  if (dom d s).fenced || (decide (512 ≤ d) && (dom d s).failed) then some 5
  else if domSleeps d s then some 4 else none

/-- The domain an address belongs to (R104, R262, R471); none where it is always on. -/
def addrDom (a : Nat) : Option Nat :=
  if a < 0x8000000 then some (engDom (a / 0x40000))
  else if 0x10000000 ≤ a ∧ a < 0x12000000 then some (cluDom ((a - 0x10000000) / 0x100000))
  else if inCsr a then
    (let o := csrOff a
     if 0x2000000 ≤ o ∧ o < 0x2200000 then some (cluDom ((o - 0x2000000) / 0x10000))
     else if 0x310000 ≤ o ∧ o < 0x330000 then some (cluDom ((o - 0x310000) / 0x1000))
     else if 0x1000000 ≤ o ∧ o < 0x1440000 then some (accDom ((o - 0x1000000) / 0x10000))
     else if 0x400000 ≤ o ∧ o < 0x410000 then some (ioDom ((o - 0x400000) / 0x2000))
     else if 0x410000 ≤ o ∧ o < 0x410200 then some (ioDom ((o - 0x410000) / 0x40))
     else if 0x500000 ≤ o ∧ o < 0x600000 then some (ioDom ((o - 0x500000) / 0x20000))
     else if 0x700000 ≤ o ∧ o < 0x720000 then some (ioDom 10)
     else if 0x840000 ≤ o ∧ o < 0x880000 then some (ioDom (8 + (o - 0x840000) / 0x20000))
     else none)
  else none

/-- The domain a packet goes to. -/
def packetDom (body : Payload) (a : Nat) : Option Nat :=
  match body with
  | .read _ => addrDom a
  | .write _ => addrDom a
  | .cop slot _ _ _ => some (accDom slot)
  | .withdraw k _ => some (accDom k)
  | .dmaStart e _ _ => if e < 32 then some (cluDom e) else none
  | .handover half _ _ => some (ioDom (8 + half))
  | .redSetup node _ _ _ => some (cluDom (node - 8))
  | .red p => some (cluDom (p.coll - 8))
  | .kill n => some (cluDom (n / 16))
  | _ => none

/-- A wake source of domain `d` (R478, R479, R486): the wake starts, or is held while the domain enters its state. -/
def startWake (d code : Nat) (s : State) : State :=
  let x := dom d s
  if x.failed || x.waking then s
  else if x.entering.isSome then (if x.held.isSome then s else setDom d { x with held := some code } s)
  else if domSleeps d s then
    setDom d { x with waking := true, tries := 0, down := false, code := code, codeRound := roundNow s % 2 ^ 32 } s
  else s

/-- A wake source of engine `n` (R102, R479): IDLE ends at once, NAP and DOZE wake their domain, OFF does not. -/
def engineWake (n code : Nat) (s : State) : State :=
  match (eng n s).mode with
  | .idle => if (dom (engDom n) s).entering.isSome then startWake (engDom n) code s
    else modEng n (fun e => { e with mode := .run, wait := .none }) s
  | .nap => startWake (engDom n) code s
  | .doze => startWake (engDom n) code s
  | _ => if (dom (engDom n) s).entering.isSome then startWake (engDom n) code s else s

/-- Set interrupt lines pending (R96); an enabled one wakes the engine (R102). -/
def irqSet (n mask : Nat) (s : State) : State :=
  let old := (rd (Reg.ENG_IRQ_PEND n) s).toNat
  let t := wr (Reg.ENG_IRQ_PEND n) (dw ((old ||| mask) % 2 ^ 32)) s
  let t1 := if (eng n t).late.isEmpty then t else modEng n (fun e => { e with late := e.late.filter (old.testBit ·) }) t
  if irqReady n t1 ≠ 0 then engineWake n 1 t1 else t1

/-- A domain closes its fence to enter a sleeping state (R487). -/
def enterSleep (d : Nat) (target : EngMode) (s : State) : State :=
  modDom d (fun x => { x with fenced := true, entering := some target, pending := false }) s

end Sys2Proof.Machine
end

