-- ==== Sys2Proof/Machine/EngCtl.lean ====
section
/-! DEFINITION. What happens to an engine besides its instructions (R91, R96 to R102, R132 to R134, R147): interrupts, kills, reset,
halt, `wait`, and `cop` with its answer and withdrawal. -/
namespace Sys2Proof.Machine

/-- The Churn slice of engine `n`. -/
def sliceOfEng (n : Nat) : Slice → Bool := fun sl => sl.kills.any fun k => k.eng == n % 64

/-- Slice `sl`. -/
def slice (sl : Nat) (s : State) : Slice := tabGet (fun _ => ({} : Slice)) s.churn sl

/-! ## Interrupts (R96 to R98) -/

/-- The lowest line of a mask. -/
def lowestLine (m : Nat) : Nat := ((upto 32).find? (m.testBit ·)).getD 0

/-- INTERRUPT: the lowest pending and enabled line is taken and its pending bit cleared. -/
def opInterrupt (n : Nat) (s : State) : State :=
  let u := atIssue n false [] s
  if canInterrupt n u then
    let line := lowestLine (irqReady n u)
    let t := setFld (Reg.ENG_IRQ_PEND n) line line 0 u
    let t1 := modEng n (fun e => { e with late := e.late.filter (· ≠ line) }) t
    takeTrap n 0 0x10 (causeWord true line 0 0x10) (eng n u).pc (eng n u).pc 0 0 t1
  else s

/-- ENG_IRQ_LATE (R98): once for a line that stays pending and enabled. -/
def opEngIrqLate (n line : Nat) (s : State) : State :=
  if fld (Reg.ENG_IRQ_WAIT_LIMIT n) 23 0 s ≠ 0 ∧ (irqReady n s).testBit line = true ∧ (eng n s).late.contains line = false then
    flagEvent (Reg.ENG_EVT_STATUS n) 1 0x801 n (modEng n (fun e => { e with late := line :: e.late }) s)
  else s

/-! ## Withdrawal (R147) -/

/-- Send WITHDRAW to every slot of the mask, and clear the mask. -/
def withdrawAll (n : Nat) (s : State) : State :=
  modEng n (fun e => { e with mask := [] })
    (forEach (eng n s).mask (fun k => send (.eng n) useWithdraw 3 0 (.withdraw k n) false false) s)

/-- A WITHDRAW has been answered, whatever the answer. -/
def opWithdrawAnswer (n id : Nat) (s : State) : State :=
  match txnOf id s with
  | none => s
  | some t => if t.agent = .eng n ∧ t.use = useWithdraw ∧ t.ans.isSome = true then takeAns id s else s

/-- The acknowledgement of a kill to the slice that awaits one (R206). -/
def killAck (n : Nat) (s : State) : State :=
  if sliceOfEng n (slice (n / 64) s) then send (.eng n) 6 3 0 (.killAck (n / 64) (n % 64)) true false s else s

/-! ## Kill and reset (R99, R100) -/

/-- A kill is pending for the engine (by ENG_CTRL.KILL or by a message), and wakes it (R102, R479). -/
def killPend (n who : Nat) (s : State) : State :=
  modEng n (fun e => { e with kill := if e.kill < who then who else e.kill }) (engineWake n who s)

/-- The Churn's kill message reaches the engine (R206). -/
def killMessage (n : Nat) (s : State) : State := killPend n 2 (consume (.kill n) s)

/-- KILLED: a pending kill is taken at an instruction boundary outside a repeat body, in either bank; of instructions issued and not past EX2,
a free number is discarded (R99, log 67). A single step for which a kill waits issues no instruction (log 66). -/
def opKilled (n : Nat) (s : State) : State :=
  let e := eng n s
  if e.kill ≠ 0 ∧ (e.mode = .run ∨ e.mode = .halted) ∧ e.wait ≠ .cop ∧ e.wait ≠ .gather ∧ e.boundary = true ∧ engCopying n s = false then
    let u := when' (decide (e.mode = .run ∧ e.wait = .none)) (discards n 4) (cyclesPass n e.gap s)
    let t := modEng n (fun x => { x with
      kill := 0, rs0 := 0, rs1 := 0, rptEnd := false, bank := 0, st0 := x.st0 &&& 0xFFFFFFFE, pc := x.vbase.toNat, far := [],
      wait := .none, step := false, gap := 3, pair := none }) u
    let t1 := withdrawAll n (recordTrap n 0 e.pc t)
    if e.kill = 2 then killAck n t1 else t1
  else s

/-- The engine after reset (R100, R128): far stores already queued are still sent, a `cop` that awaits its answer is discarded
when it comes (R147). With HALT 1 it stands HALTED; the manual does not say that a reset raises ENG_HALTED, and it does not (log 66). -/
def resetEngine (e : Engine) (startPc : Nat) (halt : Bool) : Engine :=
  { pc := startPc, mode := if halt then .halted else .run, stq := e.stq, mask := e.mask,
    cop := e.cop.map fun c => { c with discard := true }, wait := if e.cop.isSome then .cop else .none }

/-- ENGINE_RESET as it acts on an engine that is awake. -/
def engineReset (n : Nat) (s : State) : State :=
  let e := eng n s
  let t := setEng n (resetEngine e (fld (Reg.ENG_START_PC n) 15 2 s * 4) (flagOn (Reg.ENG_CTRL n) 0 s))
    (when' (decide (e.mode = .run ∧ e.wait = .none)) (discards n 4) s)
  let t1 := wr (Reg.ENG_IRQ_PEND n) 0 (wr (Reg.ENG_IRQ_EN n) 0 t)
  killAck n (if e.cop.isSome then t1 else withdrawAll n t1)

/-! ## ENG_CTRL (R101, R104, R479) -/

/-- A write of ENG_CTRL: HALT is stored; STEP, RESET and KILL act. A sleeping engine wakes first, and is reset or killed then. STEP with HALT 0
of a HALTED engine: the manual has it halt again after one instruction and resume; it resumes (log 66). -/
def engCtrlWrite (n v : Nat) (s : State) : State :=
  let s1 := setFld (Reg.ENG_CTRL n) 0 0 v s
  let asleep := domSleeps (engDom n) s || (dom (engDom n) s).entering.isSome
  let s2 := if bitOf v 3 then killPend n 1 s1 else s1
  let s3 := if bitsOf v 3 0 ≠ 0 then engineWake n 3 s2 else s2
  if asleep then
    (if bitOf v 2 then modEng n (fun e => { e with resetPend := true }) (startWake (engDom n) 3 s3)
     else if bitOf v 1 then modEng n (fun e => if e.mode = .halted then { e with step := true } else e) s3
     else s3)
  else if bitOf v 2 then engineReset n s3
  else if (eng n s3).mode = .halted then
    (if bitOf v 0 = false then modEng n (fun e => { e with mode := .run }) s3
     else if bitOf v 1 then modEng n (fun e => { e with mode := .run, step := true }) s3 else s3)
  else s3

/-- ENG_HALTED (R101): a halt request is met at a boundary, with everything issued complete. -/
def opEngHalted (n : Nat) (s : State) : State :=
  let e := eng n s
  if flagOn (Reg.ENG_CTRL n) 0 s = true ∧ e.mode = .run ∧ e.wait = .none ∧ e.step = false ∧ e.boundary = true ∧ e.far.isEmpty = true ∧
     e.stq.isEmpty = true then
    flagEvent (Reg.ENG_EVT_STATUS n) 2 0x802 n
      (modEng n (fun x => { (if x.rptEnd then { x.setRs 0 with rptEnd := false } else x) with mode := .halted, stale := [] }) (settle n s))
  else s

/-! ## `wait` (R102, R478) -/

/-- The state a PWR_MODE code names. -/
def sleepOf (code : Nat) : EngMode := match code with | 1 => .nap | 2 => .doze | 3 => .off | _ => .idle

/-- WAIT_DRAIN_DONE: `wait` has drained; it completes if a wake condition holds, else enters the state of PWR_MODE, or IDLE until
the commit that lets it go deeper. -/
def opWaitDrainDone (n : Nat) (s0 : State) : State :=
  let s := settle n s0
  let e := eng n s
  if e.wait = .waitDrain ∧ e.mode = .run ∧ e.far.isEmpty = true ∧ e.stq.isEmpty = true then
    let code := fld (Reg.PWR_MODE n) 1 0 s
    if wakeHolds n s then modEng n (fun x => { x with wait := .none }) s
    else if code = 0 then modEng n (fun x => { x with mode := .idle, wait := .none }) s
    else if roundsRun s then modEng n (fun x => { x with mode := .idle, wait := .waitCommit code }) s
    else enterSleep (engDom n) (sleepOf code) (modEng n (fun x => { x with mode := .idle, wait := .none }) s)
  else s0

/-! ## `cop` (R130 to R134) -/

/-- Is the packet a write that its target interface has not accepted yet (R132)? -/
def Txn.writeWaits (t : Txn) : Bool :=
  !t.noticed && t.ans.isNone && !t.late && (match t.body with | .write _ => true | _ => false)

/-- Does `cop` wait in ID (R132, R147): an `stf` or `stf.ack` not accepted, those of before an abort among them, a WITHDRAW or an earlier
request unanswered? -/
def copHeld (n : Nat) (e : Engine) (s : State) : Bool :=
  !e.stq.isEmpty || e.cop.isSome || unanswered (.eng n) useWithdraw s ||
  s.noc.txns.any fun t => decide (t.agent = .eng n) && (t.use == useStf || t.use == useFar) && t.writeWaits

/-- COP: reserved fields and the descriptor address are checked, then the request leaves and the engine waits. -/
def opCop (n : Nat) (w : Word) (fetch : Ecc) (s : State) : State :=
  issue n w fetch (bitOf w.toNat 8 || bitOf w.toNat 0 || decide (68 ≤ fieldOf w 25 19)) false
    [fieldOf w 7 4, 2 * fieldOf w 3 1, 2 * fieldOf w 3 1 + 1] [fieldOf w 7 4]
    (fun e =>
      let a := farAddr e (fieldOf w 3 1)
      if copHeld n e s then .wait
      else if a % 64 ≠ 0 then .fault 3 4 (a % 2 ^ 32) (a / 2 ^ 32)
      else .act fun t =>
        modEng n (fun x => { x with wait := .cop, cop := some { slot := fieldOf w 25 19, gr := fieldOf w 7 4, b := bitOf w.toNat 9, desc := a, id := nextTxn t } })
          (send (.eng n) useCop 0 a (.cop (fieldOf w 25 19) (fieldOf w 18 11) a n) false (bitOf w.toNat 10) t)) s

/-- An accepted `cop` sets the slot's bit of the withdrawal mask (R147). -/
def Engine.maskSet (e : Engine) (slot : Nat) : Engine := { e with mask := if e.mask.contains slot then e.mask else slot :: e.mask }

/-- COP_ANSWER: everything issued before has completed, and the answer lands (R134); after an abort it is discarded but for the mask, and the withdrawals leave (R147). -/
def opCopAnswer (n : Nat) (s : State) : State :=
  let e := eng n s
  match e.cop with
  | none => s
  | some c =>
    match (txnOf c.id s).bind (fun t => t.ans) with
    | none => s
    | some (code, data) =>
      let done := fun (x : Engine) => { x with wait := .none, cop := none }
      let t := takeAns c.id (settle n s)
      let accept := decide (code = 0) && decide (data.head? = some copAccept)
      let busy := decide (code = 0) && decide (data.head? = some copBusy)
      let drop := c.discard || (decide (e.kill ≠ 0) && e.boundary)
      if c.discard then
        withdrawAll n (modEng n (fun x => done (if accept then x.maskSet c.slot else x)) t)
      else if accept then modEng n (fun x => ((done x).maskSet c.slot |>.setG c.gr 1).advance) t
      else if drop then modEng n done t
      else if busy then modEng n (fun x => if c.b then ((done x).setG c.gr 0).advance else done x) t
      else if code = 0 then syncTrap n 1 1 0 0 (modEng n done t)
      else modEng n (fun x => { (done x).advance with farErr := x.farErr ++ [(code, c.desc, x.bank)] }) t

/-! ## Meanings of the commands -/

/-- WAIT_DRAIN_DONE (R478). -/
def execWaitDrainDone (n : Nat) (s : State) : Host.Outcome State Fault Refusal := .next (gated false (below 512 n) (opWaitDrainDone n) s)
/-- INTERRUPT (R96). -/
def execInterrupt (n : Nat) (s : State) : Host.Outcome State Fault Refusal := .next (gated false (below 512 n) (opInterrupt n) s)
/-- ENG_IRQ_LATE (R98). -/
def execEngIrqLate (n line : Nat) (s : State) : Host.Outcome State Fault Refusal :=
  .next (gated false (below 512 n && below 32 line) (opEngIrqLate n line) s)
/-- KILLED (R99). -/
def execKilled (n : Nat) (s : State) : Host.Outcome State Fault Refusal := .next (gated false (below 512 n) (opKilled n) s)
/-- ENG_HALTED (R101). -/
def execEngHalted (n : Nat) (s : State) : Host.Outcome State Fault Refusal := .next (gated false (below 512 n) (opEngHalted n) s)
/-- COP (R132). -/
def execCop (n : Nat) (w : Word) (s : State) (fetch : Ecc := .clean) : Host.Outcome State Fault Refusal :=
  .next (gated false (below 512 n && isOp w 56) (opCop n w fetch) s)
/-- COP_ANSWER (R134). -/
def execCopAnswer (n : Nat) (s : State) : Host.Outcome State Fault Refusal := .next (gated false (below 512 n) (opCopAnswer n) s)
/-- WITHDRAW_ANSWER (R147). -/
def execWithdrawAnswer (n id : Nat) (s : State) : Host.Outcome State Fault Refusal := .next (gated false (below 512 n) (opWithdrawAnswer n id) s)

end Sys2Proof.Machine
end

