-- ==== Sys2Proof/Machine/Accelerator.lean ====
section
/-! DEFINITION. Accelerator units (R134 to R188): attempts, checks, jobs, completion, withdrawal, flush. What a job computes
stands in AccCode.lean and AccMath.lean. -/
namespace Sys2Proof.Machine

/-- Unit `k`, by logical slot. -/
def acc (k : Nat) (s : State) : AccUnit := tabGet (fun _ => ({} : AccUnit)) s.acc k

/-- Put a unit: the one place that writes one, and keeps ACC_STATUS in step (R153). -/
def setAccUnit (k : Nat) (u : AccUnit) (s : State) : State :=
  let t := { s with acc := tabSet (fun _ => ({} : AccUnit)) s.acc k u }
  let active := u.jobs.any fun j => decide (1 ≤ j.phase)
  let flushing := u.jobs.any fun j => j.aborted
  setFld (Reg.ACC_STATUS k) 20 16 u.jobs.length
    (setFld (Reg.ACC_STATUS k) 1 0 (b2n active + 2 * b2n flushing) (setFld (Reg.ACC_STATUS k) 2 2 (b2n ((dom (accDom k) t).pending || accSwapping k t)) t))

/-- Change a unit, or the job at the head of its queue. -/
def modAcc (k : Nat) (f : AccUnit → AccUnit) (s : State) : State := setAccUnit k (f (acc k s)) s
def modHead (k : Nat) (f : Job → Job) (s : State) : State :=
  modAcc k (fun u => { u with jobs := match u.jobs with | [] => [] | j :: t => f j :: t }) s

/-- The queue limit (R142, R153). -/
def queueLimit (k : Nat) (s : State) : Nat :=
  let q := fld (Reg.ACC_CTRL k) 20 16 s
  if q = 0 ∨ 16 < q then 16 else q

/-- Uses of a unit's packets: a descriptor fetch by the request it serves; a job's input i, output i, RESULT and STATUS; a refusal's STATUS. -/
def useFetch (id : Nat) : Nat := 2 * id + 1
def useJob (no i : Nat) : Nat := 2 * (32 * no + i)
def useIn : Nat := 0
def useOut : Nat := 8
def useResult : Nat := 16
def useStatus : Nat := 17

/-- Pieces of at most 256 bytes, the most one packet carries (R226), none across a 256-byte boundary, so that each lies in one
memory and one DRAM channel (DEDUCED, log 65). -/
def pieces : Nat → Nat → Nat → List (Nat × Nat)
  | 0, _, _ => []
  | n + 1, a, len => if len = 0 then [] else (a, min len (256 - a % 256)) :: pieces n (a + (256 - a % 256)) (len - (256 - a % 256))
def piecesOf (a len : Nat) : List (Nat × Nat) := pieces (len / 256 + 2) a len

/-- Reads of a range, and acknowledged writes of bytes at an address. -/
def readRange (ag : Agent) (use a len : Nat) (s : State) : State := forEach (piecesOf a len) (fun p => reqRead ag use p.1 p.2 false) s
def writeRange (ag : Agent) (use a : Nat) (bs : List Byte) (s : State) : State :=
  forEach (piecesOf a bs.length) (fun p => reqWrite ag use p.1 (sliceOf bs (p.1 - a) p.2) false) s

/-- Has `ag` packets under `use` with no answer yet, or answers it has not taken? -/
def openUse (ag : Agent) (use : Nat) (s : State) : Bool :=
  s.noc.txns.any fun t => decide (t.agent = ag) && t.use == use && !t.posted && (t.ans.isSome || !t.late)

/-- The answers under `use`, and done with them. -/
def answersOf (ag : Agent) (use : Nat) (s : State) : List (Nat × Nat × List Byte) :=
  s.noc.txns.filterMap fun t => if t.agent = ag ∧ t.use = use then t.ans.map fun a => (t.addr, a.1, a.2) else none
def dropUse (ag : Agent) (use : Nat) (s : State) : State :=
  setTxns (s.noc.txns.filter fun t => !(decide (t.agent = ag) && t.use == use && t.ans.isSome && !t.late)) s

/-- The first code other than OK among answers. -/
def firstBad (l : List (Nat × Nat × List Byte)) : Option (Nat × Nat) :=
  (l.find? fun a => a.2.1 != 0).map fun a => (a.1, a.2.1)

/-- The bytes of a range put together from its answers. -/
def gathered (l : List (Nat × Nat × List Byte)) (a len : Nat) : List Byte :=
  (piecesOf a len).flatMap fun p => match l.find? (fun x => x.1 == p.1 && x.2.2.length == p.2) with
    | some x => x.2.2
    | none => List.replicate p.2 0

/-! ## Attempts (R134 to R141) -/

/-- Header fields (R137). -/
def hw (hdr : List Byte) (i : Nat) : Nat := leAt hdr (4 * i) 4
def hNin (hdr : List Byte) : Nat := bitsOf (hw hdr 0) 23 20
def hNout (hdr : List Byte) : Nat := bitsOf (hw hdr 0) 19 16
def hParam (hdr : List Byte) : Nat := hw hdr 4 + hw hdr 5 % 65536 * 2 ^ 32
def hPlen (hdr : List Byte) : Nat := bitsOf (hw hdr 5) 21 16

/-- Buffer entry `i` (R138): address and length. -/
def entAddr (ents : List Byte) (i : Nat) : Nat := leAt ents (16 * i) 6
def entLen (ents : List Byte) (i : Nat) : Nat := leAt ents (16 * i + 8) 4

/-- A refusal (R141, R152): recorded, counted, raised; its answer leaves when its STATUS write has been accepted. -/
def accRefuse (k id e opc desc code detail : Nat) (s : State) : State :=
  let t := wr (Reg.ACC_LAST_REFUSE_ENG k) (dw (e % 512)) (wr (Reg.ACC_LAST_REFUSE k) (dw (detail % 256 * 65536 + opc % 256 * 256 + code)) s)
  let t1 := countEvent (Reg.ACC_REFUSE_CNT k) (Reg.ACC_EVT_STATUS k) 1 0x602 k t
  let t2 := modAcc k (fun u => { u with refusals := u.refusals ++ [(nextTxn t1, id)] }) t1
  reqWrite (.acc k) (useFetch id) (desc + 60) (leBytes 4 (0x80000000 + k % 128 * 0x1000000 + detail % 256 * 65536 + code)) false t2

/-- Does the unit answer busy whatever its queue holds (R150, R151, R474)? -/
def accHeld (k : Nat) (s : State) : Bool :=
  (acc k s).jobs.any (fun j => j.aborted) || (dom (accDom k) s).pending || accSwapping k s ||
  (decide (3 ≤ fld Reg.PWR_STATUS 10 8 s) && (rd Reg.PWR_SHED_ACC s).toNat.testBit k)

/-- ACC_REQUEST: the unit takes a `cop` request (packet `id`) and answers it at once (checks 1 to 3), or fetches its descriptor. -/
def opAccRequest (k id : Nat) (s : State) : State :=
  match txnOf id s with
  | none => s
  | some t =>
    match t.body with
    | .cop slot opc desc e =>
      if slot = k ∧ t.stage = .accepted ∧ t.ans = none ∧ (acc k s).attempts.all (·.id ≠ id) = true ∧ (acc k s).refusals.all (·.2 ≠ id) = true then
        if flagOn (Reg.ACC_CTRL k) 0 s = false then accRefuse k id e opc desc 0x80 0 s
        else if opcKnown (slotKind k) opc = false then accRefuse k id e opc desc 0x81 opc s
        else if accHeld k s = true ∨ queueLimit k s ≤ (acc k s).jobs.length + (acc k s).attempts.length then
          answer id 0 [copBusy] (bump (Reg.ACC_BUSY_CNT k) s)
        else
          reqRead (.acc k) (useFetch id) desc 64 false
            (modAcc k (fun u => { u with attempts := u.attempts ++ [{ id := id, eng := e, opc := opc, desc := desc }] }) s)
      else s
    | _ => s

/-- The lowest DETAIL of check 6 that applies (R141), 0 for none. -/
def formatDetail (kind : Nat) (hdr ents par : List Byte) : Nat :=
  let n := hNin hdr + hNout hdr
  if 4 < hNin hdr ∨ 4 < hNout hdr ∨ countsOk kind (hNin hdr) (hNout hdr) par = false then 1
  else if hParam hdr % 64 ≠ 0 ∨ ((upto n).any fun i => entAddr ents i % 64 != 0 || entLen ents i % 4 != 0) = true then 2
  else if hPlen hdr = 0 then 3
  else if bitsOf (hw hdr 0) 15 13 ≠ 0 ∨ bitsOf (hw hdr 0) 10 0 ≠ 0 ∨ bitsOf (hw hdr 1) 31 19 ≠ 0 ∨ bitsOf (hw hdr 5) 31 22 ≠ 0 ∨
    ((upto 8).any fun i => hw hdr (6 + i) != 0) = true ∨
    ((upto n).any fun i => leAt ents (16 * i + 6) 2 != 0 || leAt ents (16 * i + 12) 4 != 0) = true then 4
  else 0

/-- The refusal of checks 5 to 7 (R141, R157, R158): code and DETAIL, none to accept. -/
def lateRefusal (kind opc : Nat) (hdr ents par : List Byte) : Option (Nat × Nat) :=
  if bitsOf (hw hdr 0) 31 28 ≠ 1 ∨ bitsOf (hw hdr 0) 27 24 ≠ kind then some (0x82, bitsOf (hw hdr 0) 27 24)
  else if formatDetail kind hdr ents par ≠ 0 then some (0x83, formatDetail kind hdr ents par)
  else match firstFalse 0 (paramWords kind opc par) with
    | some i => some (0x84, i)
    | none =>
      if ((upto (inputLens kind opc par).length).any fun i => decide (entLen ents i < (inputLens kind opc par).getD i 0)) = true then some (0x84, 0xFF)
      else none

/-- ACC_DESCRIPTOR_FETCHED: answers of the fetch of request `id` have come; after the header the unit fetches entries and parameters, and
when all has come it refuses or accepts (R140, R141). -/
def opAccDescriptorFetched (k id : Nat) (s : State) : State :=
  match (acc k s).attempts.find? (fun a => a.id == id) with
  | none => s
  | some a =>
    if unanswered (.acc k) (useFetch id) s then s
    else
      let l := answersOf (.acc k) (useFetch id) s
      let s1 := dropUse (.acc k) (useFetch id) s
      let gone := fun (t : State) => modAcc k (fun u => { u with attempts := u.attempts.filter (·.id ≠ id) }) t
      match firstBad l with
      | some (_, code) => answer id code [] (gone s1)
      | none =>
        match a.header with
        | none =>
          let hdr := gathered l a.desc 64
          let s2 := modAcc k (fun u => { u with attempts := u.attempts.map fun x => if x.id = id then { x with header := some hdr } else x }) s1
          readRange (.acc k) (useFetch id) (hParam hdr) (64 * hPlen hdr) (readRange (.acc k) (useFetch id) (a.desc + 64) (16 * (hNin hdr + hNout hdr)) s2)
        | some hdr =>
          let ents := gathered l (a.desc + 64) (16 * (hNin hdr + hNout hdr))
          let par := gathered l (hParam hdr) (64 * hPlen hdr)
          match lateRefusal (slotKind k) a.opc hdr ents par with
          | some (code, detail) => accRefuse k id a.eng a.opc a.desc code detail (gone s1)
          | none =>
            answer id 0 [copAccept] (bump (Reg.ACC_ACCEPT_CNT k)
              (modAcc k (fun u => { u with nextNo := u.nextNo + 1, jobs := u.jobs ++
                [{ no := u.nextNo, eng := a.eng, opc := a.opc, desc := a.desc, hdr := hdr, ents := ents, par := par }] }) (gone s1)))

/-! ## Jobs (R142 to R146, R148) -/

/-- The code and DETAIL a job ends with but for a withdrawal (R145). -/
def Job.ending (j : Job) : Nat × Nat :=
  if j.aborted then (0x08, 0)
  else if j.expired then (0x04, 0)
  else match j.err with
    | some x => x
    | none => match j.excess with
      | some i => (0x07, i)
      | none => if j.fail ≠ 0 then (0x02, j.fail) else (0x01, 0)

/-- CODE and DETAIL of a job's STATUS (R145, R147). -/
def Job.status (j : Job) : Nat × Nat := if j.withdrawn then (0x03, j.ending.1) else j.ending

/-- The STATUS word of a job at slot `k`. -/
def Job.statusWord (j : Job) (k : Nat) : Nat := 0x80000000 + k % 128 * 0x1000000 + j.status.2 % 256 * 65536 + j.status.1

/-- Issue the STATUS write of the head job: the deciding cycle of R148. -/
def issueStatus (k : Nat) (s : State) : State :=
  match (acc k s).jobs with
  | [] => s
  | j :: _ =>
    reqWrite (.acc k) (useJob j.no useStatus) (j.desc + 60) (leBytes 4 (j.statusWord k)) false
      (modHead k (fun x => { x with phase := 4, statusId := nextTxn s }) s)

/-- Is a deadline over (R143, R209)? -/
def deadlineOver (now dl : Nat) : Bool :=
  let d := (now % 2 ^ 32 + 2 ^ 32 - dl % 2 ^ 32) % 2 ^ 32
  decide (1 ≤ d ∧ d < 2 ^ 31)

/-- Change job `no` of the queue. -/
def changeJob (k no : Nat) (f : Job → Job) (s : State) : State :=
  modAcc k (fun u => { u with jobs := u.jobs.map fun j => if j.no = no then f j else j }) s

/-- Read input `i` of a job, as far as the parameters require (R158). -/
def readInput (k : Nat) (j : Job) (i : Nat) (s : State) : State :=
  readRange (.acc k) (useJob j.no (useIn + i)) (entAddr j.ents i) ((inputLens (slotKind k) j.opc j.par).getD i 0) s

/-- JOB_START: the unit takes the job at the head of its queue; past its DEADLINE it does not run (R143). While the job before it is past its last
output write, the unit reads the first input of the next one ahead (R155). -/
def opJobStart (k : Nat) (s : State) : State :=
  if domSleeps (accDom k) s then s
  else match (acc k s).jobs with
  | [] => s
  | j :: rest =>
    if j.phase = 0 ∧ j.aborted = false then
      if hw j.hdr 2 ≠ 0 ∧ deadlineOver (roundNow s) (hw j.hdr 2) = true then issueStatus k (modHead k (fun x => { x with expired := true }) s)
      else if j.err.isSome then issueStatus k s
      else
        forEach ((upto (inputLens (slotKind k) j.opc j.par).length).drop (b2n j.ahead)) (readInput k j)
          (drawn (modHead k (fun x => { x with phase := 1, seed := s.free }) s))
    else if 2 ≤ j.phase then
      match rest with
      | [] => s
      | n :: _ => if n.ahead || n.aborted then s else readInput k n 0 (changeJob k n.no (fun x => { x with ahead := true }) s)
    else s

/-- The writes of an output buffer `i`: bytes at an offset, cut at LEN (R145, R158). -/
def outWrite (k : Nat) (j : Job) (i off : Nat) (bs : List Byte) (s : State) : State :=
  let len := entLen j.ents (hNin j.hdr + i)
  let room := len - off
  let t := if bs.length ≤ room then s
    else modHead k (fun x => { x with excess := some (match x.excess with | some y => min y i | none => i) }) s
  writeRange (.acc k) (useJob j.no (useOut + i)) (entAddr j.ents (hNin j.hdr + i) + off) (bs.take room) t

/-- A free number below `n + 1`: draw word `i`. -/
def freeUpTo (i n : Nat) (s : State) : Nat := (freeNow i s).toNat % (n + 1)

/-- What input reads have brought of the first `n` bytes of input `i`; bytes not there read as zero. -/
def Job.input (j : Job) (i n : Nat) : List Byte :=
  (piecesOf (entAddr j.ents i) n).flatMap fun p =>
    padTo p.2 0 (tabGet (fun _ => []) j.ins (i * 2 ^ 32 + (p.1 - entAddr j.ents i)))

/-- Have the first `n` of the `all` bytes read of input `i` come? -/
def Job.has (j : Job) (i n all : Nat) : Bool :=
  (piecesOf (entAddr j.ents i) all).all fun p =>
    decide (entAddr j.ents i + n ≤ p.1) || !(tabGet (fun _ => []) j.ins (i * 2 ^ 32 + (p.1 - entAddr j.ents i))).isEmpty

/-- What a job writes, in the order of issue, and how it ends, of the inputs that have come. -/
def Job.work (j : Job) (kind : Nat) : List OutItem × JobEnd :=
  let lens := inputLens kind j.opc j.par
  jobOf kind j.opc (hNout j.hdr) j.seed j.par fun i => j.input i (lens.getD i 0)

/-- How many pieces of output from the next on have the inputs they need. -/
def Job.ready (j : Job) (kind : Nat) : Nat :=
  let lens := inputLens kind j.opc j.par
  (((j.work kind).1.drop j.sent).takeWhile fun o => o.needs.all fun n => j.has n.1 n.2 (lens.getD n.1 0)).length

/-- Issue the next `n` pieces of output of the head job (R144). -/
def issueOutputs (k n : Nat) (s : State) : State :=
  match (acc k s).jobs with
  | [] => s
  | j :: _ =>
    forEach (((j.work (slotKind k)).1.drop j.sent).take n) (fun o => outWrite k j o.buf o.off o.data)
      (modHead k (fun x => { x with sent := x.sent + n }) s)

/-- Errors a job met in the unit's own memories, each raised (R161, R501). -/
def accMemErrors (k corr uncorr row : Nat) (s : State) : State :=
  let s1 := if corr = 0 then s else noteCorrected (some (resAcc k)) (0x30000 + k) row (bumpBy (Reg.ACC_MEM_CORR_CNT k) corr s)
  if uncorr = 0 then s1
  else modHead k (fun x => { x with fail := x.fail ||| 0x80 })
    (markRow (0x30000 + k) row (forEach (upto uncorr) (fun _ => raise 0x610 k) (bumpBy (Reg.ACC_MEM_UNCORR_CNT k) uncorr s1)))

/-- Answers of the head job's output writes. -/
def outAnswers (k : Nat) (j : Job) (s : State) : List (Nat × Nat × List Byte) :=
  (upto 8).flatMap fun i => (answersOf (.acc k) (useJob j.no (useOut + i)) s).map fun a => (i, a.2)

/-- The WRITE_ERR of output answers, if one failed (R145). -/
def writeErr (k : Nat) (j : Job) (s : State) : Option (Nat × Nat) :=
  (firstBad (outAnswers k j s)).map fun b => (0x06, (hNin j.hdr + b.1) * 16 + b.2)

/-- ACC_INPUT_READ_ANSWER: the answer to packet `id` reaches the unit. Output that has its inputs may issue before the job's last (how much is open).
An error ends the job READ_ERR, but where an output write had failed before: that job goes on, the missing bytes open, and ends WRITE_ERR
(R145, log 24). One read ahead tells when its job starts. An answer that no job waits for is dropped. `corr` and `uncorr` errors were met in row
`row` of the unit's memories (R161). -/
def opAccInputReadAnswer (k id corr uncorr row : Nat) (s : State) : State :=
  match txnOf id s with
  | none => s
  | some t =>
    match t.ans with
    | none => s
    | some (code, data) =>
      let i := t.use / 2 % 32
      if t.agent = .acc k ∧ t.use % 2 = 0 ∧ i < useOut then
        let s0 := takeAns id s
        match (acc k s).jobs.find? (fun j => j.no == t.use / 64 && decide (j.phase ≤ 1) && !j.aborted) with
        | none => s0
        | some j =>
          let put := fun (bs : List Byte) (u : State) =>
            changeJob k j.no (fun x => { x with ins := tabSet (fun _ => []) x.ins (i * 2 ^ 32 + (t.addr - entAddr j.ents i)) bs }) u
          if j.phase = 0 then
            (if code = 0 then put data s0
             else changeJob k j.no (fun x => { x with err := if x.err.isSome then x.err else some (0x05, i * 16 + code) }) s0)
          else
            let s1 := accMemErrors k corr uncorr row s0
            match code, (acc k (put data s1)).jobs with
            | 0, h :: _ => issueOutputs k (freeUpTo 1 (h.ready (slotKind k)) s1) (drawn (put data s1))
            | _, _ =>
              match writeErr k j s1 with
              | some e => put (freeBytes t.body.span s1) (drawn (modHead k (fun x => { x with err := some e }) s1))
              | none => issueStatus k (modHead k (fun x => { x with err := some (0x05, i * 16 + code) }) s1)
      else s

/-- Does the head job still wait for an input? -/
def inputsOpen (k : Nat) (j : Job) (s : State) : Bool := (upto useOut).any fun i => openUse (.acc k) (useJob j.no (useIn + i)) s

/-- LAST_OUTPUT_WRITE: all input is in, the job has been computed, and its last output write issues (R144, R155). `corr` and `uncorr`
errors were met in row `row` of the unit's memories (R161). -/
def opLastOutputWrite (k corr uncorr row : Nat) (s : State) : State :=
  match (acc k s).jobs with
  | [] => s
  | j :: _ =>
    if j.phase = 1 ∧ inputsOpen k j s = false then
      let w := j.work (slotKind k)
      let x := w.2
      let s1 := issueOutputs k w.1.length (modHead k (fun y => { y with phase := 2, fail := y.fail ||| x.fail, result := x.result }) s)
      let s2 := accMemErrors k corr uncorr row s1
      bumpBy (Reg.ACC_KIND_CNT k 0) x.c0 (when' (decide (2 ≤ kindCounters (slotKind k))) (bumpBy (Reg.ACC_KIND_CNT k 1) x.c1)
        (when' (decide (3 ≤ kindCounters (slotKind k))) (bumpBy (Reg.ACC_KIND_CNT k 2) x.c2)
          (when' (decide (4 ≤ kindCounters (slotKind k))) (bumpBy (Reg.ACC_KIND_CNT k 3) x.c3) s2)))
    else s

/-- OUTPUT_WRITES_ACCEPTED: every output write has been answered; RESULT is written (R144). -/
def opOutputWritesAccepted (k : Nat) (s : State) : State :=
  match (acc k s).jobs with
  | [] => s
  | j :: _ =>
    if j.phase = 2 ∧ ((upto 8).any fun i => unanswered (.acc k) (useJob j.no (useOut + i)) s) = false then
      let s1 := forEach (upto 8) (fun i => dropUse (.acc k) (useJob j.no (useOut + i))) s
      let s2 := modHead k (fun x => { x with err := if x.err.isSome then x.err else writeErr k j s }) s1
      reqWrite (.acc k) (useJob j.no useResult) (j.desc + 56) (leBytes 4 j.result) false (modHead k (fun x => { x with phase := 3 }) s2)
    else s

/-- RESULT_WRITE_ACCEPTED: RESULT has been answered; STATUS is written (R144). An error there is WRITE_ERR; the buffer it names is not stated. -/
def opResultWriteAccepted (k : Nat) (s : State) : State :=
  match (acc k s).jobs with
  | [] => s
  | j :: _ =>
    match waitingAns (.acc k) (useJob j.no useResult) s with
    | none => s
    | some (t, code, _) =>
      if j.phase = 3 then
        let s1 := takeAns t.id s
        issueStatus k (if code = 0 then s1
          else drawn (modHead k (fun x => { x with err := if x.err.isSome then x.err else some (0x06, freeUpTo 0 15 s1 * 16 + code) }) s1))
      else s

/-- Whom a job's events and token go to (R145, R146, R152). -/
def jobEvents (k : Nat) (j : Job) (s : State) : State :=
  let code := j.status.1
  let s1 :=
    if code = 1 ∨ code = 2 then when' (bitOf (hw j.hdr 0) 11) (raise 0x600 k) (bump (Reg.ACC_DONE_CNT k) s)
    else if code = 3 then countEvent (Reg.ACC_ORPHAN_CNT k) (Reg.ACC_EVT_STATUS k) 0 0x601 k s
    else if code = 4 then countEvent (Reg.ACC_EXPIRED_CNT k) (Reg.ACC_EVT_STATUS k) 3 0x604 k s
    else countEvent (Reg.ACC_JOB_ERR_CNT k) (Reg.ACC_EVT_STATUS k) 2 0x603 k s
  let w1 := hw j.hdr 1
  if bitOf (hw j.hdr 0) 12 && code != 3 then postToken (.acc k) (bitsOf w1 15 13) (bitsOf w1 12 0) (bitsOf w1 18 16) (j.statusWord k) s1 else s1

/-- The next job of the queue, if flushed, completes as the flush says. -/
def afterJob (k : Nat) (s : State) : State :=
  match (acc k s).jobs with
  | [] => s
  | j :: _ => if j.aborted && decide (j.phase < 3) then issueStatus k s else s

/-- A failed STATUS write (R145). -/
def statusFailed (k code : Nat) (s : State) : State :=
  if code = 0 then s else countEvent (Reg.ACC_JOB_ERR_CNT k) (Reg.ACC_EVT_STATUS k) 2 0x603 k s

/-- STATUS_WRITE_ACCEPTED: the STATUS write `id` has been answered: a job ends with its token and events, or a refusal's answer leaves (R144). -/
def opStatusWriteAccepted (k id : Nat) (s : State) : State :=
  match (txnOf id s).bind (fun t => t.ans) with
  | none => s
  | some (code, _) =>
    match (acc k s).refusals.find? (fun r => r.1 == id) with
    | some r =>
      answer r.2 0 [copRefuse] (statusFailed k code (takeAns id (modAcc k (fun u => { u with refusals := u.refusals.filter (·.1 ≠ id) }) s)))
    | none =>
      match (acc k s).jobs with
      | [] => s
      | j :: t =>
        if j.phase = 4 ∧ j.statusId = id then
          afterJob k (jobEvents k j (statusFailed k code (takeAns id (modAcc k (fun u => { u with jobs := t }) s))))
        else s

/-! ## Withdrawal and flush (R147, R148, R150) -/

/-- WITHDRAW: the message (packet `id`) reaches the unit, which marks every job of that engine whose STATUS has not been issued. -/
def opWithdraw (k id : Nat) (s : State) : State :=
  match txnOf id s with
  | none => s
  | some t =>
    match t.body with
    | .withdraw k' e =>
      if k' = k ∧ t.stage = .accepted ∧ t.ans = none then
        answer id 0 [] (modAcc k (fun u => { u with jobs := u.jobs.map fun j => if j.eng = e ∧ j.phase < 4 then { j with withdrawn := true } else j }) s)
      else s
    | _ => s

/-- FLUSH (R150): every job that has issued neither RESULT nor STATUS is abandoned. -/
def accFlush (k : Nat) (s : State) : State :=
  afterJob k (modAcc k (fun u => { u with jobs := u.jobs.map fun j => if j.phase < 3 then { j with aborted := true } else j }) s)

/-! ## Meanings of the commands -/

/-- ACC_REQUEST (R141). -/
def execAccRequest (k id : Nat) (s : State) : Host.Outcome State Fault Refusal := .next (gated false (below 68 k) (opAccRequest k id) s)
/-- ACC_DESCRIPTOR_FETCHED (R141). -/
def execAccDescriptorFetched (k id : Nat) (s : State) : Host.Outcome State Fault Refusal :=
  .next (gated false (below 68 k) (opAccDescriptorFetched k id) s)
/-- JOB_START (R143). -/
def execJobStart (k : Nat) (s : State) : Host.Outcome State Fault Refusal := .next (gated false (below 68 k) (opJobStart k) s)
/-- ACC_INPUT_READ_ANSWER (R145). -/
def execAccInputReadAnswer (k id : Nat) (s : State) (corr uncorr row : Nat := 0) : Host.Outcome State Fault Refusal :=
  .next (gated false (below 68 k) (opAccInputReadAnswer k id corr uncorr row) s)
/-- OUTPUT_WRITES_ACCEPTED (R144). -/
def execOutputWritesAccepted (k : Nat) (s : State) : Host.Outcome State Fault Refusal := .next (gated false (below 68 k) (opOutputWritesAccepted k) s)
/-- RESULT_WRITE_ACCEPTED (R144). -/
def execResultWriteAccepted (k : Nat) (s : State) : Host.Outcome State Fault Refusal := .next (gated false (below 68 k) (opResultWriteAccepted k) s)
/-- STATUS_WRITE_ACCEPTED (R144). -/
def execStatusWriteAccepted (k id : Nat) (s : State) : Host.Outcome State Fault Refusal :=
  .next (gated false (below 68 k) (opStatusWriteAccepted k id) s)
/-- WITHDRAW (R147). -/
def execWithdraw (k id : Nat) (s : State) : Host.Outcome State Fault Refusal := .next (gated false (below 68 k) (opWithdraw k id) s)
/-- LAST_OUTPUT_WRITE (R155). -/
def execLastOutputWrite (k corr uncorr row : Nat) (s : State) : Host.Outcome State Fault Refusal :=
  .next (gated false (below 68 k) (opLastOutputWrite k corr uncorr row) s)

end Sys2Proof.Machine
end

