-- ==== Sys2Proof/Machine/LaneCode.lean ====
section
/-! DEFINITION. The characters of a Tether lane (R339, R342): 8b/10b code groups and running disparity, and the CRC-16. The manual takes the code
from Clause 36 of IEEE 802.3 and prints no table of it (PRESUMED, log 69). A code group is a number of ten bits, bit a, the first sent, its
highest; a running disparity is false where negative. -/
namespace Sys2Proof.Machine

/-- A character: control (K) or data (D), and its value. -/
abbrev LaneChar := Bool × Byte

/-- The two commas Tether uses. -/
def k285 : LaneChar := (true, 0xBC)
def k281 : LaneChar := (true, 0x3C)

/-- Bits abcdei of each value EDCBA at negative disparity. -/
def sixBits : List Nat :=
  [0b100111, 0b011101, 0b101101, 0b110001, 0b110101, 0b101001, 0b011001, 0b111000, 0b111001, 0b100101, 0b010101, 0b110100, 0b001101, 0b101100,
   0b011100, 0b010111] ++
  [0b011011, 0b100011, 0b010011, 0b110010, 0b001011, 0b101010, 0b011010, 0b111010, 0b110011, 0b100110, 0b010110, 0b110110, 0b001110, 0b101110,
   0b011110, 0b101011]

/-- Bits fghj of each value HGF at negative disparity: of a data character, and of a control character. -/
def fourBits : List Nat := [0b1011, 0b1001, 0b0101, 0b1100, 0b1101, 0b1010, 0b0110, 0b1110]
def fourBitsK : List Nat := [0b1011, 0b0110, 0b1010, 0b1100, 0b1101, 0b0101, 0b1001, 0b0111]

/-- The ones among the lowest `n` bits. -/
def onesIn (n v : Nat) : Nat := ((upto n).filter fun i => v.testBit i).length

/-- The running disparity after a sub-block of `2 * h` bits: the balanced 000111 and 0011 make it positive, 111000 and 1100 negative. -/
def afterBits (h v : Nat) (rd : Bool) : Bool :=
  let n := onesIn (2 * h) v
  if v = 2 ^ h - 1 then true else if v = 2 ^ (2 * h) - 2 ^ h then false else if h < n then true else if n < h then false else rd

/-- A sub-block given for negative disparity, as it is sent at `rd`: unbalanced ones, and those of three or two equal bits in front, invert. -/
def bitsAt (h v : Nat) (rd : Bool) : Nat :=
  if rd && (onesIn (2 * h) v != h || v == 2 ^ (2 * h) - 2 ^ h) then 2 ^ (2 * h) - 1 - v else v

/-- The running disparity after a code group. -/
def afterGroup (g : Nat) (rd : Bool) : Bool := afterBits 2 (g % 16) (afterBits 3 (g / 16 % 64) rd)

/-- The code group of a character at a running disparity. -/
def codeGroup (rd : Bool) (c : LaneChar) : Nat :=
  let x := c.2.toNat % 32
  let y := c.2.toNat / 32
  let six := if c.1 && x == 28 then (if rd then 0b110000 else 0b001111) else bitsAt 3 (sixBits.getD x 0) rd
  let mid := afterBits 3 six rd
  let other := c.1 || (!mid && [17, 18, 20].contains x) || (mid && [11, 13, 14].contains x)
  let four := if c.1 then (if mid then 15 - fourBitsK.getD y 0 else fourBitsK.getD y 0)
    else if y = 7 ∧ other = true then (if mid then 0b1000 else 0b0111)
    else bitsAt 2 (fourBits.getD y 0) mid
  six * 16 + four

/-- Code groups of characters from a running disparity on, and the disparity after them. -/
def codeGroups (rd : Bool) : List LaneChar → List Nat × Bool
  | [] => ([], rd)
  | c :: t =>
    let g := codeGroup rd c
    let r := codeGroups (afterGroup g rd) t
    (g :: r.1, r.2)

/-- The place of a value in a list, if it is there. -/
def placeOf (v : Nat) (l : List Nat) : Option Nat := (upto l.length).find? fun i => l.getD i 0 == v

/-- The character a code group stands for at one disparity or the other, none where it is not valid. -/
def groupChar (g : Nat) : Option LaneChar :=
  let six := g / 16 % 64
  let four := g % 16
  let y := ((placeOf four fourBits).orElse fun _ => placeOf (15 - four) fourBits).getD 7
  let yk := if six = 0b001111 then placeOf (15 - four) fourBitsK else placeOf four fourBitsK
  let x := (placeOf six sixBits).orElse fun _ => placeOf (63 - six) sixBits
  let try' := fun (c : LaneChar) => if codeGroup false c = g ∨ codeGroup true c = g then some c else none
  if six = 0b001111 ∨ six = 0b110000 then (match yk with | some k => try' (true, BitVec.ofNat 8 (32 * k + 28)) | none => none)
  else match x with
    | none => none
    | some v => (try' (false, BitVec.ofNat 8 (32 * y + v))).orElse fun _ =>
        if [23, 27, 29, 30].contains v then try' (true, BitVec.ofNat 8 (32 * 7 + v)) else none

/-- Received code groups from a running disparity on: the characters, the code violations among them, and the disparity after them (R339). What an
invalid code group decodes to is open. -/
def readGroups (rd : Bool) : List Nat → List LaneChar × Nat × Bool
  | [] => ([], 0, rd)
  | g :: t =>
    let c := groupChar g
    let bad := match c with | some x => codeGroup rd x != g | none => true
    let r := readGroups (afterGroup g rd) t
    (c.getD (false, Config.badGroup g) :: r.1, r.2.1 + b2n bad, r.2.2)

/-- The disparity a comma at the front shows. -/
def commaDisparity : List Nat → Bool
  | g :: _ => decide (g / 16 = 0b110000)
  | [] => false

/-- CRC-16 of R342. -/
def crc16Bit (c : Nat) : Nat := if c.testBit 15 then (2 * c % 65536) ^^^ 0x1021 else 2 * c
def crc16Byte (c : Nat) (b : Byte) : Nat :=
  crc16Bit (crc16Bit (crc16Bit (crc16Bit (crc16Bit (crc16Bit (crc16Bit (crc16Bit (c ^^^ (b.toNat * 256)))))))))
def crc16 (bs : List Byte) : Nat := bs.foldl crc16Byte 0xFFFF

/-- The two bytes of a CRC-16, high byte first. -/
def crc16Bytes (bs : List Byte) : List Byte := [BitVec.ofNat 8 (crc16 bs / 256), BitVec.ofNat 8 (crc16 bs)]

/-! ## Ordered sets (R341) -/

/-- Data characters. -/
def dataChars (bs : List Byte) : List LaneChar := bs.map fun b => (false, b)

/-- An ordered set that begins with K28.5 and is filled to `n` characters with D21.5. -/
def orderedSet (n : Nat) (bs : List Byte) : List LaneChar := k285 :: dataChars (bs ++ List.replicate (n - 1 - bs.length) 0xB5)

/-- TSA with a rate and STATE, TSB, CAPS with a block, TSC with NEXT and COUNT. -/
def tsaSet (rate st : Nat) : List LaneChar := orderedSet 16 [0x4A, BitVec.ofNat 8 rate, BitVec.ofNat 8 st]
def tsbSet (rate : Nat) : List LaneChar := orderedSet 16 [0x45, BitVec.ofNat 8 rate, 2]
def capsSet (block : List Byte) : List LaneChar := orderedSet 40 (0x43 :: block ++ crc16Bytes block)
def tscSet (rate next count : Nat) : List LaneChar :=
  orderedSet 16 [0x52, BitVec.ofNat 8 rate, BitVec.ofNat 8 next, BitVec.ofNat 8 count]

end Sys2Proof.Machine
end

