-- ==== Sys2Proof/Machine/Recorder.lean ====
section
/-! DEFINITION. The recorder's ring (R512 to R517, R520): what every family that is recorded calls. The rows of the recorder are in
Record.lean. Payload layouts the manual names without a layout are the model's (log 31). -/
namespace Sys2Proof.Machine

/-- The bytes at an address cut at the multiples of `k`; the first number bounds the pieces. -/
def chunksOf (k : Nat) : Nat → Nat → List Byte → List (List Byte)
  | 0, _, _ => []
  | _, _, [] => []
  | n + 1, a, bs => bs.take (k - a % k) :: chunksOf k n (a + (k - a % k)) (bs.drop (k - a % k))

/-- Posted writes of consecutive pieces of at most `k` bytes, none across a multiple of `k` (log 65). -/
def postPieces (ag : Agent) (use k a : Nat) (bs : List Byte) (s : State) : State :=
  ((chunksOf k bs.length a bs).foldl (fun (x : Nat × State) b => (x.1 + b.length, postWrite ag use x.1 b false x.2)) (a, s)).2

/-- REC_STATUS.STATE: 0 OFF, 1 RECORDING, 2 POST, 3 FROZEN, 4 FULL, 5 REPLAYING, 6 REPLAY_END. -/
def recState (s : State) : Nat := fld Reg.REC_STATUS 7 4 s

/-- Does the recorder record (RECORDING or POST)? -/
def recOn (s : State) : Bool := recState s == 1 || recState s == 2

/-- Is the module in Replay (R519)? -/
def inReplay (s : State) : Bool := flagOn Reg.REC_STATUS 0 s

/-- Is a MAC or a lane selected: by the registers, in Replay by the recording's header (R512, R513, R519)? -/
def recSelMac (m : Nat) (s : State) : Bool :=
  if inReplay s then (memNat (s.recorder.repBase + 64) 4 s).testBit m else flagOn Reg.REC_SRC_MAC m s
def recSelLane (l : Nat) (s : State) : Bool :=
  if inReplay s then (memNat (s.recorder.repBase + 68) 4 s).testBit l else flagOn Reg.REC_SRC_LANE l s

/-- Base and size in bytes of the ring being recorded. -/
def ringBase (s : State) : Nat := fld Reg.REC_RING 47 20 s * 0x100000
def ringSize (s : State) : Nat := fld Reg.REC_RING 63 48 s * 0x100000

/-- The increment in force (R393), and the arrival offset after C0 in time-counter steps (R512). -/
def timeStep (s : State) : Nat :=
  if rd Reg.TIME_SLEW_CNT s = 0 then (rd Reg.TIME_INC s).toNat else (rd Reg.TIME_SLEW_INC s).toNat
def arrivalOffset (s : State) : Nat := s.round.sinceC0 % 2 ^ 24

/-- The first 128 bytes of a ring (R513). -/
def ringHeader (flags start wr mark : Nat) (s : State) : List Byte :=
  leBytes 4 0x30434552 ++ leBytes 4 flags ++ leBytes 8 start ++ leBytes 8 wr ++ leBytes 8 mark ++
  leBytes 32 (leNat s.sec.imageM) ++ leBytes 4 (rd Reg.REC_SRC_MAC s).toNat ++ leBytes 4 (rd Reg.REC_SRC_LANE s).toNat ++
  leBytes 4 (rd Reg.REC_SRC s).toNat ++ leBytes 52 0

/-- FLAGS of the recording's header. -/
def recFlags (s : State) : Nat :=
  fld Reg.REC_STATUS 2 2 s + 2 * fld Reg.REC_STATUS 1 1 s + 4 * b2n (recState s == 3) + 8 * b2n s.recorder.ordered

/-- Write the ring header and its copy in the Cold Room (R513). -/
def recHeader (s : State) : State :=
  let h := ringHeader (recFlags s) s.recorder.startRound (rd Reg.REC_WR s).toNat (rd Reg.REC_TRIG_POS s).toNat s
  postPieces .recorder 0 64 0x2003FFC0 (h.take 32) (postPieces .recorder 0 64 (ringBase s) h s)

/-- Change REC_STATUS; the header of a recording follows (R513). -/
def setRecStatus (hi lo x : Nat) (s : State) : State :=
  if inReplay s then setFld Reg.REC_STATUS hi lo x s else recHeader (setFld Reg.REC_STATUS hi lo x s)

/-- Bytes the recorder holds that the fabric has not accepted (R516). -/
def recBuffered (s : State) : Nat :=
  s.noc.txns.foldl (fun n t => if t.agent = .recorder ∧ t.noticed = false then n + t.body.bytes else n) 0

/-- A record: header and padded payload (R512). -/
def recBytes (typ src seq : Nat) (payload : List Byte) (s : State) : List Byte :=
  leBytes 4 (typ * 0x1000000 + src % 256 * 0x10000 + payload.length % 65536) ++ leBytes 4 (roundNow s) ++ leBytes 4 (arrivalOffset s) ++
  leBytes 4 seq ++ payload ++ List.replicate (roundUp (16 + payload.length) 64 - 16 - payload.length) 0

/-- Write one record at REC_WR. -/
def recAtWr (typ src : Nat) (payload : List Byte) (s : State) : State :=
  let bs := recBytes typ src (s.recorder.nextSeq % 2 ^ 32) payload s
  let wr0 := (rd Reg.REC_WR s).toNat
  let t := postPieces .recorder 0 64 (ringBase s + wr0) bs s
  bump Reg.REC_RECORD_CNT (wr Reg.REC_WR (dw (wr0 + bs.length)) { t with recorder := { t.recorder with nextSeq := t.recorder.nextSeq + 1 } })

/-- Place a record in the ring: padded past its end and wrapped, or FULL (R514). -/
def recPlace (typ src : Nat) (payload : List Byte) (s : State) : State :=
  let n := roundUp (16 + payload.length) 64
  let wr0 := (rd Reg.REC_WR s).toNat
  if wr0 + n ≤ ringSize s then recAtWr typ src payload s
  else if flagOn Reg.REC_CFG 31 s then setRecStatus 7 4 4 s
  else
    let s1 := if wr0 + 16 ≤ ringSize s then recAtWr 0 0 (List.replicate (ringSize s - wr0 - 16) 0) s else s
    recAtWr typ src payload (setRecStatus 2 2 1 (wr Reg.REC_WR 128 s1))

/-- Raise REC_LOSS, once per Round, and set LOSS (R516). -/
def recLoss (s : State) : State :=
  let t := if s.recorder.lossRound then s
    else flagEvent Reg.REC_EVT_STATUS 2 0x07A 0 { s with recorder := { s.recorder with lossRound := true } }
  bump Reg.REC_DROP_CNT (if flagOn Reg.REC_STATUS 1 t then t else setRecStatus 1 1 1 t)

/-- Record an input (R512): nothing unless recording; lost while the buffer is full (R516); a GAP record first where a loss came before. -/
def recAppend (typ src : Nat) (payload : List Byte) (s : State) : State :=
  if recOn s then
    if 0x100000 < recBuffered s + roundUp (16 + payload.length) 64 then
      recLoss { s with recorder := { s.recorder with
        gapRecs := s.recorder.gapRecs + 1, gapBytes := s.recorder.gapBytes + roundUp (16 + payload.length) 64 } }
    else if 0 < s.recorder.gapRecs then
      recPlace typ src payload
        (recPlace 0x0A 0 (leBytes 4 s.recorder.gapRecs ++ leBytes 4 s.recorder.gapBytes)
          { s with recorder := { s.recorder with gapRecs := 0, gapBytes := 0 } })
    else recPlace typ src payload s
  else s

/-- A record of a kind selected by REC_SRC bit `bit`. -/
def recKind (bit typ src : Nat) (payload : List Byte) (s : State) : State :=
  if flagOn Reg.REC_SRC bit s then recAppend typ src payload s else s

/-- A lane, port or pair changes state (TYPE 0x0B). -/
def recLink (src st : Nat) (s : State) : State := recKind 5 0x0B src (leBytes 4 st) s

/-- The trigger (R515): MARK of the header names where its record came to lie, past a PAD or GAP record; a lost one leaves it 0. -/
def recTrigger (num : Nat) (s : State) : State :=
  if recState s = 1 then
    let t := flagEvent Reg.REC_EVT_STATUS 0 0x078 0 s
    let t1 := recAppend 0x09 0 (leBytes 4 num ++ leBytes 8 (roundNow t)) t
    if recState t1 = 1 then
      let t2 := if t1.recorder.nextSeq = t.recorder.nextSeq then t1 else wr Reg.REC_TRIG_POS (dw ((rd Reg.REC_WR t1).toNat - 64)) t1
      setRecStatus 7 4 2 { t2 with recorder := { t2.recorder with postLeft := fld Reg.REC_CFG 23 0 t2 } }
    else t1
  else s

/-- An output in Replay goes to the capture ring (R519, R520): it is not sent. -/
def recCapture (typ src : Nat) (payload : List Byte) (s : State) : State :=
  let n := roundUp (16 + payload.length) 64
  let wr0 := (rd Reg.REC_CAP_WR s).toNat
  let head := fun (t : State) => postPieces .recorder 1 64 t.recorder.capBase
    (ringHeader (2 * b2n t.recorder.capLoss) t.recorder.startRound (rd Reg.REC_CAP_WR t).toNat 0 t) t
  if s.recorder.capLoss || decide (s.recorder.capSize < wr0 + n) then
    head (recLoss { s with recorder := { s.recorder with capLoss := true } })
  else
    let t := postPieces .recorder 1 64 (s.recorder.capBase + wr0) (recBytes typ src (s.recorder.capSeq % 2 ^ 32) payload s) s
    head (bump Reg.REC_CAPTURE_CNT (wr Reg.REC_CAP_WR (dw (wr0 + n)) { t with recorder := { t.recorder with capSeq := t.recorder.capSeq + 1 } }))

end Sys2Proof.Machine
end

