-- ==== Sys2Proof/Machine/Churn.lean ====
section
/-! DEFINITION. The Churn (R189 to R217): contexts, tokens, readiness, dispatch, completion, cancellation and kill, ordered mode. -/
namespace Sys2Proof.Machine

/-! ## Contexts (R191, R192) -/

/-- States of a context. -/
def stIdle : Nat := 0
def stWaiting : Nat := 1
def stReady : Nat := 2
def stDispatched : Nat := 3
def stRunning : Nat := 4
def stCancelled : Nat := 5

/-- Word `i` of a definition, and its fields. -/
def Context.w (x : Context) (i : Nat) : Nat := tabGet (fun _ => 0) x.words i
def Context.rearm (x : Context) : Bool := bitOf (x.w 0) 31
def Context.valEn (x : Context) : Bool := bitOf (x.w 0) 30
def Context.cls (x : Context) : Nat := bitsOf (x.w 0) 29 27
def Context.flowEn (x : Context) : Bool := bitOf (x.w 0) 26
def Context.aff (x : Context) : Nat := bitsOf (x.w 0) 25 24
def Context.prio (x : Context) : Nat := bitsOf (x.w 0) 23 18
def Context.slots (x : Context) : Nat := bitsOf (x.w 0) 7 0
def Context.dlMode (x : Context) : Nat := bitsOf (x.w 2) 27 26
def Context.affTgt (x : Context) : Nat := bitsOf (x.w 2) 25 20
def Context.flow (x : Context) : Nat := bitsOf (x.w 2) 11 0
def Context.valAddr (x : Context) : Nat := x.w 4 / 32 * 32 + x.w 5 % 65536 * 2 ^ 32

/-- Context `c` of a slice. -/
def Slice.ctx (x : Slice) (c : Nat) : Context := tabGet (fun _ => ({} : Context)) x.ctxs c

/-- D0 and D1 of slice engine `e`, its running task, and whether a kill of it is pending. -/
def Slice.d (x : Slice) (e : Nat) : List DispEntry := tabGet (fun _ => []) x.disp e
def Slice.run (x : Slice) (e : Nat) : Option Nat := tabGet (fun _ => none) x.running e
def Slice.killing (x : Slice) (e : Nat) : Bool := x.kills.any fun k => k.eng == e

/-- Put a slice: the one place that writes one, and keeps CHURN_STATUS in step. -/
def setSlice (sl : Nat) (x : Slice) (s : State) : State :=
  setFld (Reg.CHURN_STATUS sl) 29 16 (x.ctxs.filter fun c => c.2.state == stReady).length
    (setFld (Reg.CHURN_STATUS sl) 7 0 (x.ctxs.filter fun c => c.2.state == stDispatched || c.2.state == stRunning).length
      { s with churn := tabSet (fun _ => ({} : Slice)) s.churn sl x })

/-- Change a slice, a context. -/
def modSlice (sl : Nat) (f : Slice → Slice) (s : State) : State := setSlice sl (f (slice sl s)) s
def modCtx (sl c : Nat) (f : Context → Context) (s : State) : State :=
  modSlice sl (fun x => { x with ctxs := tabMod (fun _ => ({} : Context)) x.ctxs c f }) s
def ctx (sl c : Nat) (s : State) : Context := (slice sl s).ctx c

/-- Change D0 and D1 of an engine. -/
def modDisp (sl e : Nat) (f : List DispEntry → List DispEntry) (s : State) : State :=
  modSlice sl (fun x => { x with disp := tabMod (fun _ => []) x.disp e f }) s

/-- Bits set in a mask of 8. -/
def pop8 (m : Nat) : Nat := ((upto 8).filter (m.testBit ·)).length

/-- Raise an event of the slice, at most once per Round (R217). -/
def churnEvent (sl bit : Nat) (s : State) : State :=
  if (slice sl s).raised.contains bit then s
  else flagEvent (Reg.CHURN_EVT_STATUS sl) bit (0x840 + bit) sl (modSlice sl (fun x => { x with raised := bit :: x.raised }) s)

/-- The overrun policy of a class (R48). -/
def policyOf (cls : Nat) (s : State) : Nat := bitsOf (rd Reg.ROUND_OVR_POLICY s).toNat (2 * cls + 1) (2 * cls)

/-- Does a deadline in Round `d` end at the boundary that ends Round `k`, a Round skipped by a forward step included (R53)? ROUND_NOW is new. -/
def deadlineEnds (k d : Nat) (s : State) : Bool := decide (k ≤ d) && decide (d < roundNow s)

/-! ## Cancellation (R205, R206) -/

/-- Cancel context `c`: its tokens are discarded, it leaves its queue, dispatch register or engine, and becomes CANCELLED. -/
def cancelCtx (sl c : Nat) (s : State) : State :=
  let x := ctx sl c s
  if x.state = stIdle ∨ x.state = stCancelled then s
  else
    let lost := pop8 x.held + (if x.state = stReady ∨ x.state = stDispatched then pop8 x.slots else 0)
    let s1 := bump (Reg.CHURN_CANCEL_CNT sl) (bumpBy (Reg.CHURN_TOK_DISCARD_CNT sl) lost s)
    let s2 := if x.state = stDispatched then modDisp sl x.eng (fun l => l.filter (·.ctx ≠ c)) s1 else s1
    let s3 := modCtx sl c (fun y => { y with
      state := stCancelled, held := 0, values := [], inst := [], oneng := x.state == stRunning }) s2
    if x.state = stRunning then
      send (.churn sl) 1 3 0 (.kill (64 * sl + x.eng)) true false
        (modSlice sl (fun y => { y with kills := y.kills ++ [{ eng := x.eng, ctx := c, flow := if x.flowEn then some x.flow else none }], running := tabSet (fun _ => none) y.running x.eng none }) s3)
    else s3

/-- KILL_ACKNOWLEDGEMENT: the engine has taken the kill, or was reset (R206). -/
def opKillAcknowledgement (sl e : Nat) (s : State) : State :=
  let s1 := consume (.killAck sl e) s
  match (slice sl s1).kills.find? (fun k => k.eng == e) with
  | none => s1
  | some k =>
    when' k.live (modCtx sl k.ctx (fun y => { y with oneng := false })) (modSlice sl (fun y => { y with kills := y.kills.filter (·.eng ≠ e) }) s1)

/-! ## Readiness (R200, R207, R209) -/

/-- Is a deadline in a Round that has ended (R209)? -/
def lateNow (dl : Nat) (s : State) : Bool :=
  let d := (roundNow s % 2 ^ 32 + 2 ^ 32 - dl % 2 ^ 32) % 2 ^ 32
  roundsRun s && decide (1 ≤ d ∧ d < 2 ^ 31)

/-- A WAITING task whose tokens are complete becomes READY, or late (R200, R209). -/
def readyIf (sl c : Nat) (s : State) : State :=
  let x := ctx sl c s
  if x.state = stWaiting ∧ x.slots &&& x.held = x.slots then
    let dl := if x.dlMode = 2 then (roundNow s + x.w 3) % 2 ^ 32 else x.deadline
    let late := decide (x.dlMode ≠ 0) && lateNow dl s
    let s1 := when' late (fun t => churnEvent sl 1 (bump (Reg.CHURN_LATE_CNT sl) t)) s
    if late && decide (policyOf x.cls s ≠ 0) then cancelCtx sl c s1
    else
      modSlice sl (fun y => { y with seq := y.seq + 1 })
        (modCtx sl c (fun y => { y with
          state := stReady, inst := x.values, values := [], held := 0, deadline := dl, seq := (slice sl s1).seq,
          finished := if x.dlMode = 2 then false else y.finished }) s1)
  else s

/-! ## Tokens (R195 to R199) -/

/-- A TOKEN accepted for slot `n` of context `c` (R199). -/
def landToken (sl c n value : Nat) (s : State) : State :=
  let x := ctx sl c s
  if x.state = stIdle ∨ x.state = stCancelled ∨ x.slots.testBit n = false then bump (Reg.CHURN_TOK_DROP_CNT sl) s
  else if x.held.testBit n = true then churnEvent sl 2 (bump (Reg.CHURN_TOK_DUP_CNT sl) s)
  else readyIf sl c (modCtx sl c (fun y => { y with held := y.held ||| 2 ^ n, values := tabSet (fun _ => 0) y.values n value }) s)

/-- The log entry of a TOKEN (R212). -/
def logEntry (sl key src : Nat) (s : State) : List Byte :=
  leBytes 4 (roundNow s) ++ leBytes 4 (slice sl s).index ++ leBytes 4 key ++ leBytes 4 src

/-- Record what log entries a slice has gathered (R512). -/
def flushTokens (sl : Nat) (s : State) : State :=
  let bs := tabGet (fun _ => []) s.recorder.tokens sl
  if bs = [] then s
  else recKind 3 0x07 sl bs { s with recorder := { s.recorder with tokens := tabSet (fun _ => []) s.recorder.tokens sl [] } }

/-- The ordered mode in force: ENFORCE in Replay (R519), else CHURN_CTRL.ORDER. -/
def orderMode (sl : Nat) (s : State) : Nat := if inReplay s then 2 else fld (Reg.CHURN_CTRL sl) 13 12 s

/-- Emit a log entry in RECORD (R212): entries go to the recorder 16 at a time. -/
def logToken (sl key src : Nat) (s : State) : State :=
  if orderMode sl s = 1 then
    let bs := tabGet (fun _ => []) s.recorder.tokens sl ++ logEntry sl key src s
    let t := modSlice sl (fun y => { y with index := y.index + 1 }) { s with recorder := { s.recorder with tokens := tabSet (fun _ => []) s.recorder.tokens sl bs } }
    if 256 ≤ bs.length then flushTokens sl t else t
  else s

/-- A slice accepts a TOKEN of the given KEY (R199, R212). -/
def acceptToken (sl key src value : Nat) (s : State) : State :=
  landToken sl (key % 0x2000) (bitsOf key 18 16) value (logToken sl key src (bump (Reg.CHURN_TOKEN_CNT sl) s))

/-! ## Ordered mode (R213, R214) -/

/-- Divergence: reported, and the held tokens are accepted in arrival order. -/
def diverge (sl : Nat) (s : State) : State :=
  let held := (slice sl s).buffer
  let s1 := modSlice sl (fun y => { y with buffer := [], due := [], enforcing := false }) s
  let s2 := setFlag (Reg.CHURN_STATUS sl) 31 (bump (Reg.CHURN_DIVERGE_CNT sl) (churnEvent sl 4 s1))
  forEach held (fun t => acceptToken sl t.key t.src t.value) s2

/-- Accept the held token equal to the entry next due, if there is one. -/
def drainOne (sl : Nat) (s : State) : State :=
  match (slice sl s).due with
  | [] => s
  | e :: r =>
    match (slice sl s).buffer.find? (fun t => t.key == e.1 && t.src == e.2) with
    | none => s
    | some t => acceptToken sl t.key t.src t.value
        (modSlice sl (fun y => { y with due := r, buffer := y.buffer.erase t }) s)

/-- Accept held tokens as long as they are due. -/
def drainAll : Nat → Nat → State → State
  | 0, _, s => s
  | k + 1, sl, s => drainAll k sl (drainOne sl s)

/-- A TOKEN arrives at the slice, in the mode in force. -/
def arriveToken (sl key src value : Nat) (s0 : State) : State :=
  let s := drainAll (slice sl s0).buffer.length sl s0
  if orderMode sl s = 2 ∧ (slice sl s).enforcing = true then
    match (slice sl s).due with
    | e :: r =>
      if e = (key, src) then acceptToken sl key src value (modSlice sl (fun y => { y with due := r }) s)
      else if 256 ≤ (slice sl s).buffer.length then acceptToken sl key src value (diverge sl s)
      else modSlice sl (fun y => { y with buffer := y.buffer ++ [⟨key, src, value⟩] }) s
    | [] =>
      if (slice sl s).logEnded || decide (256 ≤ (slice sl s).buffer.length) then acceptToken sl key src value (diverge sl s)
      else modSlice sl (fun y => { y with buffer := y.buffer ++ [⟨key, src, value⟩] }) s
  else acceptToken sl key src value s

/-- HELD_TOKEN_ACCEPTED: a held token equal to the entry due is accepted (R213). -/
def opHeldTokenAccepted (sl : Nat) (s : State) : State :=
  if orderMode sl s = 2 ∧ (slice sl s).enforcing = true then drainOne sl s else s

/-- The records of a ring from offset `pos` on: TYPE, SRC, Round, arrival offset, payload, and offset; the first argument bounds their number. -/
def ringRecords : Nat → Nat → Nat → Nat → State → List (Nat × Nat × Nat × Nat × List Byte × Nat)
  | 0, _, _, _, _ => []
  | k + 1, base, size, pos, s =>
    if size < pos + 16 then []
    else
      let h := memRead (base + pos) 16 s
      let n := leAt h 0 2
      (leAt h 3 1, leAt h 2 1, leAt h 4 4, leAt h 8 3, memRead (base + pos + 16) n s, pos) ::
        ringRecords k base size (pos + roundUp (16 + n) 64) s

/-- The recorded entries (KEY, SRC) of a slice for a Round, in order (R213). -/
def recordedTokens (sl round : Nat) (s : State) : List (Nat × Nat) :=
  ((ringRecords (s.recorder.repSize / 64) s.recorder.repBase s.recorder.repSize 128 s).filter
    fun r => r.1 == 0x07 && r.2.1 == sl && r.2.2.1 == round % 2 ^ 32).flatMap fun r =>
      (upto (r.2.2.2.2.1.length / 16)).map fun i => (leAt r.2.2.2.2.1 (16 * i + 8) 4, leAt r.2.2.2.2.1 (16 * i + 12) 2)

/-- ORDER_LOG_READ_ANSWER: the recorded entries of the current Round reach the slice (R213). -/
def opOrderLogReadAnswer (sl : Nat) (s : State) : State :=
  if orderMode sl s = 2 ∧ (slice sl s).enforcing = true ∧ (slice sl s).logEnded = false then
    modSlice sl (fun y => { y with due := recordedTokens sl (roundNow s) s, logEnded := true }) s
  else s

/-! ## Commands (R193, R194) -/

/-- Arm a context that is IDLE. -/
def armCtx (sl c : Nat) (s : State) : State :=
  readyIf sl c (modCtx sl c (fun y => { y with
    state := stWaiting, held := 0, values := [], finished := false, deadline := if y.dlMode = 1 then y.w 3 else 0 }) s)

/-- The staged words, and whether DEFINE refuses them (R194). -/
def staged (sl i : Nat) (s : State) : Nat := (rd (Reg.CHURN_CTX_DATA sl i) s).toNat
def badField (sl : Nat) (x : Context) (s : State) : Bool :=
  decide (bitsOf (x.w 0) 17 8 ≠ 0) || decide (bitsOf (x.w 2) 31 28 ≠ 0) || decide (bitsOf (x.w 2) 19 12 ≠ 0) ||
  decide (bitsOf (x.w 5) 31 16 ≠ 0) || decide (bitsOf (x.w 4) 4 0 ≠ 0) || x.aff == 3 || x.dlMode == 3 ||
  (x.aff == 0 && x.affTgt != 0) || (x.aff == 1 && decide (4 ≤ x.affTgt)) ||
  (x.flowEn && x.flow / 512 != sl) || (epochA s && decide (15 < x.prio))

/-- The context that DEFINE would leave. -/
def definedCtx (sl c : Nat) (s : State) : Context :=
  { ctx sl c s with words := (upto 6).foldl (fun l i => tabSet (fun _ => 0) l i (staged sl i s)) (ctx sl c s).words }

/-- Words 6 and 7 of a context. -/
def Context.word6 (x : Context) : Nat := x.state * 0x20000000 + x.held * 0x10000 + b2n x.oneng * 0x8000 + x.eng * 0x200

/-- A command (R193): 0 OK, 1 BAD_STATE, 2 BAD_FIELD, 3 BAD_OP, with its effect. -/
def churnDo (sl op c : Nat) (s : State) : Nat × State :=
  let x := ctx sl c s
  match op with
  | 1 => if x.state ≠ stIdle ∧ x.state ≠ stCancelled then (1, s)
    else if badField sl (definedCtx sl c s) s then (2, s)
    else (0, modCtx sl c (fun _ => definedCtx sl c s) s)
  | 2 => if x.state = stIdle then (0, armCtx sl c s) else (1, s)
  | 3 => if x.state = stIdle then (1, s) else (0, cancelCtx sl c s)
  | 4 => (0, forEach (upto 8) (fun i => wr (Reg.CHURN_CTX_DATA sl i)
      (dw (if i = 6 then x.word6 else if i = 7 then x.deadline else x.w i))) s)
  | 5 => if x.state = stCancelled then
      (0, modSlice sl (fun y => { y with kills := y.kills.map fun k => if k.ctx = c then { k with live := false } else k })
        (modCtx sl c (fun y => { y with state := stIdle, held := 0, oneng := false, deadline := 0 }) s)) else (1, s)
  | _ => (3, s)

/-- A write of CHURN_CMD. -/
def churnCmd (sl v : Nat) (s : State) : State :=
  let r := churnDo sl (bitsOf v 31 28) (v % 0x2000) s
  wr (Reg.CHURN_CMD_STATUS sl) (dw r.1) r.2

/-! ## Messages (R195 to R197) -/

/-- A message is dropped or refused, and counted. -/
def badMsg (sl : Nat) (s : State) : State := churnEvent sl 3 (bump (Reg.CHURN_BAD_MSG_CNT sl) s)

/-- A message of words 0 and 1 from initiator `src`; `res` is what its other reserved bits hold, word 2 [31:16] and word 3 (R195). -/
def churnMsg (sl w0 w1 src res : Nat) (s : State) : State :=
  let c := w0 % 0x2000
  if bitsOf w0 27 19 ≠ 0 ∨ res ≠ 0 ∨ bitsOf w0 15 13 ≠ sl then badMsg sl s
  else match bitsOf w0 31 28 with
    | 1 => arriveToken sl (w0 % 0x80000) src (w1 % 2 ^ 32) s
    | 2 => if (ctx sl c s).state = stIdle then badMsg sl s else cancelCtx sl c s
    | 3 => if (ctx sl c s).state = stIdle then armCtx sl c s else badMsg sl s
    | _ => badMsg sl s

/-- The initiator identifier of a message: the one the NI of the packet that carries it filled in, else the one given, of 16 bits (R195). -/
def messageSrc (b : Payload) (src : Nat) (s : State) : Nat :=
  (match carrier b s with | some t => t.src | none => src) % 65536

/-- TOKEN: a message reaches the slice; a hardware source's packet that carries it is consumed. -/
def opToken (sl w0 w1 src res : Nat) (s : State) : State :=
  let b : Payload := .token sl (w0 % 0x2000) (bitsOf w0 18 16) (w1 % 2 ^ 32)
  churnMsg sl w0 w1 (messageSrc b src s) res (consume b s)

/-- ARM_MESSAGE and CANCEL_MESSAGE. -/
def opArmMessage (sl w0 src res : Nat) (s : State) : State :=
  churnMsg sl (withBits w0 31 28 3) 0 (src % 65536) res (consume (.arm sl (w0 % 0x2000)) s)
def opCancelMessage (sl w0 src res : Nat) (s : State) : State :=
  churnMsg sl (withBits w0 31 28 2) 0 (src % 65536) res (consume (.cancel sl (w0 % 0x2000)) s)

/-! ## Dispatch (R201 to R203, R216, R474) -/

/-- The priority R202 compares. -/
def effPrio (p : Nat) (s : State) : Nat := if epochA s then min p 15 else p

/-- SHED_LEVEL (R474). -/
def shedLevel (s : State) : Nat := fld Reg.PWR_STATUS 10 8 s

/-- May slice engine `e` receive dispatches (R202, R474, R503)? -/
def engineOpen (sl e : Nat) (s : State) : Bool :=
  (rd (Reg.CHURN_ENG_MASK sl) s).toNat.testBit e && !((slice sl s).killing e) && decide (((slice sl s).d e).length < 2) &&
  !(decide (2 ≤ shedLevel s) && (rd Reg.PWR_SHED_CLU s).toNat.testBit (4 * sl + e / 16)) &&
  !(s.spare.marks.any fun m => m.kind == 1 && m.index == 64 * sl + e && decide (1 ≤ m.stage))

/-- Is the flow of a task in service (R201)? -/
def flowBusy (x : Slice) (flow : Nat) : Bool :=
  (x.ctxs.any fun c => c.2.flowEn && c.2.flow == flow && (c.2.state == stDispatched || c.2.state == stRunning)) ||
  (x.kills.any fun k => k.flow == some flow)

/-- May task `c` go to slice engine `e`? -/
def taskFits (sl e : Nat) (c : Nat × Context) (s : State) : Bool :=
  let x := c.2
  x.state == stReady &&
  (x.aff == 0 || (x.aff == 1 && e / 16 == x.affTgt % 4) || (x.aff == 2 && e == x.affTgt)) &&
  (!x.flowEn || (!(flowBusy (slice sl s) x.flow) &&
    !((slice sl s).ctxs.any fun y => y.2.state == stReady && y.2.flowEn && y.2.flow == x.flow && decide (y.2.seq < x.seq)))) &&
  !(decide (1 ≤ shedLevel s) && decide (effPrio x.prio s < effPrio (fld Reg.PWR_SHED_CFG 5 0 s) s))

/-- The better of two tasks: higher priority, then earlier ready. -/
def better (a b : Nat × Context) (s : State) : Bool :=
  decide (effPrio b.2.prio s < effPrio a.2.prio s) || (effPrio a.2.prio s == effPrio b.2.prio s && decide (a.2.seq ≤ b.2.seq))

/-- The best task for slice engine `e`. -/
def bestTask (sl e : Nat) (s : State) : Option Nat :=
  (((slice sl s).ctxs.filter fun c => taskFits sl e c s).foldl
    (fun (m : Option (Nat × Context)) c => match m with | none => some c | some b => if better b c s then some b else some c) none).map (·.1)

/-- The notice of a visible entry (R203). -/
def notify (sl e : Nat) (s : State) : State :=
  if flagOn (Reg.CHURN_CTRL sl) 6 s then irqSet (64 * sl + e) (2 ^ fld (Reg.CHURN_CTRL sl) 11 7 s) s else s

/-- Use of the operand-area write of context `c`. -/
def useArea (c : Nat) : Nat := 16 + c

/-- The operand area (R203). -/
def areaBytes (x : Context) : List Byte :=
  (upto 8).flatMap fun i => leBytes 4 (if x.slots.testBit i then tabGet (fun _ => 0) x.inst i else 0)

/-- Place task `c` at slice engine `e`. -/
def place (sl e c : Nat) (s : State) : State :=
  let x := ctx sl c s
  let s1 := modDisp sl e (fun l => l ++ [⟨c, !x.valEn⟩]) (modCtx sl c (fun y => { y with state := stDispatched, oneng := true, eng := e }) s)
  let s2 := modSlice sl (fun y => { y with rr := (e + 1) % 64 }) (bump (Reg.CHURN_DISPATCH_CNT sl) s1)
  if x.valEn then postWrite (.churn sl) (useArea c) x.valAddr (areaBytes x) false s2 else notify sl e s2

/-- DISPATCH: at most one dispatch, by the procedure of R202. -/
def opDispatch (sl : Nat) (s : State) : State :=
  if flagOn (Reg.CHURN_CTRL sl) 0 s then
    match ((upto 64).map fun i => ((slice sl s).rr + i) % 64).find? (fun e => engineOpen sl e s && (bestTask sl e s).isSome) with
    | none => s
    | some e => match bestTask sl e s with
      | none => s
      | some c => place sl e c s
  else s

/-- OPERAND_AREA_ACCEPTED: the operand area of an entry of slice engine `e` has been accepted, and the entry becomes visible. -/
def opOperandAreaAccepted (sl e : Nat) (s : State) : State :=
  match ((slice sl s).d e).find? (fun d => !d.visible && !(unaccepted (.churn sl) (useArea d.ctx) s)) with
  | none => s
  | some d => notify sl e (modDisp sl e (fun l => l.map fun x => if x.ctx = d.ctx then { x with visible := true } else x) s)

/-! ## Completion and taking (R204) -/

/-- The entry of a context. -/
def entryWord (sl c : Nat) (x : Context) : Nat :=
  2 ^ 63 + x.prio * 2 ^ 56 + bitsOf (x.w 1) 31 16 * 2 ^ 32 + (sl * 8192 + c) * 65536 + x.w 1 % 65536

/-- What a read of CHURN_PEEK returns. -/
def churnPeek (sl e : Nat) (s : State) : Nat :=
  match (slice sl s).d e with
  | d :: _ => if d.visible then entryWord sl d.ctx (ctx sl d.ctx s) else 0
  | [] => 0

/-- The running task of slice engine `e` completes. -/
def completeTask (sl e c : Nat) (s : State) : State :=
  let x := ctx sl c s
  let s1 := bump (Reg.CHURN_DONE_CNT sl) (modSlice sl (fun y => { y with running := tabSet (fun _ => none) y.running e none }) s)
  let dl := if x.dlMode = 2 then 0 else x.deadline
  if x.rearm then readyIf sl c (modCtx sl c (fun y => { y with state := stWaiting, oneng := false, inst := [], deadline := dl }) s1)
  else bumpBy (Reg.CHURN_TOK_DISCARD_CNT sl) (pop8 x.held)
    (modCtx sl c (fun y => { y with state := stIdle, oneng := false, inst := [], held := 0, values := [], deadline := dl }) s1)

/-- Steps 2 to 4 of R204. -/
def takeNext (sl e : Nat) (s : State) : Nat × State :=
  if (slice sl s).killing e then (2 ^ 62, s)
  else match (slice sl s).d e with
    | d :: t =>
      if d.visible then
        (entryWord sl d.ctx (ctx sl d.ctx s),
          modCtx sl d.ctx (fun y => { y with state := stRunning })
            (modSlice sl (fun y => { y with disp := tabSet (fun _ => []) y.disp e t, running := tabSet (fun _ => none) y.running e (some d.ctx) }) s))
      else (0, s)
    | [] => (0, s)

/-- A read of CHURN_NEXT: the entry, whether a task completed (TASK_END), and the slice after it. -/
def churnNext (sl e : Nat) (s : State) : Nat × Bool × State :=
  match (slice sl s).run e with
  | some c =>
    if (slice sl s).killing e then (2 ^ 62, false, s)
    else
      let r := takeNext sl e (completeTask sl e c s)
      (r.1, true, r.2)
  | none =>
    let r := takeNext sl e s
    (r.1, false, r.2)

/-! ## At a commit (R208, R215, R218) -/

/-- Is a task outstanding at the boundary that ends Round `k` and begins Round `k'` (R207, R208)? -/
def outstanding (k k' : Nat) (x : Context) : Bool :=
  !x.finished && decide (x.dlMode ≠ 0) && (x.state == stReady || x.state == stDispatched || x.state == stRunning || (x.state == stWaiting && x.dlMode == 1)) &&
  decide ((x.deadline % 2 ^ 32 + 2 ^ 32 - k % 2 ^ 32) % 2 ^ 32 < k' - k)

/-- R208 at slice `sl`. -/
def churnBoundary (sl k k' : Nat) (s : State) : State :=
  let l := (slice sl s).ctxs.filter fun c => outstanding k k' c.2
  match l.getLast? with
  | none => s
  | some last =>
    let s1 := wr (Reg.CHURN_LAST_OVR sl) (dw (last.2.cls * 65536 + sl * 8192 + last.1)) (bumpBy (Reg.CHURN_OVR_CNT sl) l.length s)
    forEach l (fun c t => if policyOf c.2.cls t = 0 then modCtx sl c.1 (fun y => { y with finished := true }) t else cancelCtx sl c.1 t) (churnEvent sl 0 s1)

/-- The classes with outstanding work in slice `sl`. -/
def churnClasses (sl k k' : Nat) (s : State) : List Nat :=
  ((slice sl s).ctxs.filter fun c => outstanding k k' c.2).map fun c => c.2.cls

/-- Entries of a closed engine return to READY in their old order (R218, R503). -/
def returnEntries (sl e : Nat) (s : State) : State :=
  forEach ((slice sl s).d e) (fun d => modCtx sl d.ctx (fun y => { y with state := stReady, oneng := false })) (modDisp sl e (fun _ => []) s)

/-- The new Round at slice `sl`: events and INDEX start again; enforcement goes on to the new Round's log, or diverges over the old one (R214). -/
def churnNewRound (sl : Nat) (s : State) : State :=
  let x := slice sl s
  let left := orderMode sl s == 2 && x.enforcing &&
    (!x.due.isEmpty || (!x.logEnded && !(recordedTokens sl (roundNow s) s).isEmpty))
  let s1 := modSlice sl (fun y => { y with raised := [] }) s
  let s2 := if left then diverge sl s1 else s1
  modSlice sl (fun y => { y with
    index := 0, due := [], logEnded := false, enforcing := orderMode sl s2 == 2 && !(flagOn (Reg.CHURN_STATUS sl) 31 s2) }) s2

/-! ## Meanings of the commands -/

/-- TOKEN (R199). -/
def execToken (sl w0 w1 src : Nat) (s : State) (res : Nat := 0) : Host.Outcome State Fault Refusal :=
  .next (gated false (below 8 sl && below 4294967296 w0 && below 4294967296 w1) (opToken sl w0 w1 src res) s)
/-- ARM_MESSAGE (R196). -/
def execArmMessage (sl w0 src : Nat) (s : State) (res : Nat := 0) : Host.Outcome State Fault Refusal :=
  .next (gated false (below 8 sl && below 4294967296 w0) (opArmMessage sl w0 src res) s)
/-- CANCEL_MESSAGE (R196). -/
def execCancelMessage (sl w0 src : Nat) (s : State) (res : Nat := 0) : Host.Outcome State Fault Refusal :=
  .next (gated false (below 8 sl && below 4294967296 w0) (opCancelMessage sl w0 src res) s)
/-- HELD_TOKEN_ACCEPTED (R213). -/
def execHeldTokenAccepted (sl : Nat) (s : State) : Host.Outcome State Fault Refusal := .next (gated false (below 8 sl) (opHeldTokenAccepted sl) s)
/-- ORDER_LOG_READ_ANSWER (R213). -/
def execOrderLogReadAnswer (sl : Nat) (s : State) : Host.Outcome State Fault Refusal := .next (gated false (below 8 sl) (opOrderLogReadAnswer sl) s)
/-- DISPATCH (R202). -/
def execDispatch (sl : Nat) (s : State) : Host.Outcome State Fault Refusal := .next (gated false (below 8 sl) (opDispatch sl) s)
/-- OPERAND_AREA_ACCEPTED (R203). -/
def execOperandAreaAccepted (sl e : Nat) (s : State) : Host.Outcome State Fault Refusal :=
  .next (gated false (below 8 sl && below 64 e) (opOperandAreaAccepted sl e) s)
/-- KILL_ACKNOWLEDGEMENT (R206). -/
def execKillAcknowledgement (sl e : Nat) (s : State) : Host.Outcome State Fault Refusal :=
  .next (gated false (below 8 sl && below 64 e) (opKillAcknowledgement sl e) s)

end Sys2Proof.Machine
end

