-- ==== Sys2Proof/Machine/DmaBus.lean ====
section
/-! DEFINITION. What the fabric's own rows need of the DMA engines: channels, packets outstanding, bus errors (R273, R288). -/
namespace Sys2Proof.Machine

/-- DMA engine `e` and its channel `ch`. -/
def dmaEng (e : Nat) (s : State) : DmaEng := tabGet (fun _ => ({} : DmaEng)) s.dma e
def dmaChan (e ch : Nat) (s : State) : DmaChan := tabGet (fun _ => ({} : DmaChan)) (dmaEng e s).chans ch

/-- Channels of an engine, and its transactions in flight (R273). -/
def dmaChans (e : Nat) : Nat := if e = 32 then 64 else 8
def dmaInFlight (e : Nat) : Nat := if e = 32 then 2048 else 256

/-- STATE of a channel (R284): 0 IDLE, 1 ACTIVE, 2 STOPPING, 3 HALTED_BUS. -/
def dmaState (e ch : Nat) (s : State) : Nat := fld (Reg.DMA_CH_STATUS e ch) 1 0 s

/-- Uses of a channel's packets. -/
def useDesc : Nat := 1
def useRead : Nat := 2
def useWrite : Nat := 3
def useCrc : Nat := 4
def useStat : Nat := 5
def useOwn : Nat := 6
def useStop : Nat := 7

/-- Is the packet one of engine `e` that has no answer, or no notice, yet? -/
def dmaOpen (e : Nat) (t : Txn) : Bool :=
  match t.agent with
  | .dma f _ => f == e && (if t.posted then !t.noticed else t.ans.isSome || !t.late)
  | _ => false

/-- Packets of engine `e` that are outstanding. -/
def dmaOutstanding (e : Nat) (s : State) : Nat := (s.noc.txns.filter (dmaOpen e)).length

/-- Requests of engine `e` in flight, those its NI holds back included (R240, R273): posted packets are not counted. -/
def dmaInUse (e : Nat) (s : State) : Nat :=
  (s.noc.txns.filter fun t => (match t.agent with | .dma f _ => f == e | _ => false) && !t.posted && t.ans.isNone && !t.late).length

/-- Bring DMA_STATUS in step: QUIET (held at 0 while a bus error waits for DMA_QUIET) and the number of active channels. -/
def dmaSync (e : Nat) (s : State) : State :=
  setFld (Reg.DMA_STATUS e) 16 16 (b2n (decide (dmaOutstanding e s = 0) && (dmaEng e s).first.isNone))
    (setFld (Reg.DMA_STATUS e) 6 0 ((upto (dmaChans e)).filter fun ch => dmaState e ch s == 1 || dmaState e ch s == 2).length s)

/-- Put an engine, or change a channel. -/
def setDma (e : Nat) (x : DmaEng) (s : State) : State := { s with dma := tabSet (fun _ => ({} : DmaEng)) s.dma e x }
def modDmaCh (e ch : Nat) (f : DmaChan → DmaChan) (s : State) : State :=
  setDma e { dmaEng e s with chans := tabMod (fun _ => ({} : DmaChan)) (dmaEng e s).chans ch f } s

/-- Put STATE of a channel. -/
def dmaSetState (e ch st : Nat) (s : State) : State := setFld (Reg.DMA_CH_STATUS e ch) 1 0 st s

/-! ## Bus errors (R288) -/

/-- Does engine `e` stop issuing for a bus error? -/
def dmaHalting (e : Nat) (s : State) : Bool := flagOn (Reg.DMA_STATUS e) 17 s

/-- A bus error: counted; the first stops the engine (kind 0 descriptor fetch, 1 data read, 2 write). -/
def dmaBusErr (e addr kind code : Nat) (s : State) : State :=
  let t := bump (Reg.DMA_BUS_ERR_CNT e) s
  if dmaHalting e s then t
  else dmaSync e (setFlag (Reg.DMA_STATUS e) 17 (setDma e { dmaEng e t with first := some (addr, kind, code) } t))

/-- The own NI answers a posted write of channel `ch` with `code`: a bus error, and a completion it belongs to goes no further (phase 6). -/
def dmaRefused (e ch use addr code : Nat) (s : State) : State :=
  dmaBusErr e addr 2 code
    (if use = useCrc ∨ use = useStat ∨ use = useOwn then modDmaCh e ch (fun c => { c with phase := 6 }) s else s)

/-- The NI sends packet `t`: of a DMA channel's data, the bytes are counted (R293). -/
def dmaSent (t : Txn) (s : State) : State :=
  match t.agent with
  | .dma e ch => if t.use = useWrite then bump64 (Reg.DMA_CH_BYTES e ch) t.body.span s else s
  | _ => s

/-- An NI refuses a posted packet that a drain held: a write of a DMA channel is a bus error then (R288). -/
def heldRefused (t : Txn) (code : Nat) (s : State) : State :=
  match t.agent, t.body with
  | .dma e ch, .write _ => dmaRefused e ch t.use t.addr code s
  | .dma e _, _ => dmaSync e s
  | _, _ => s

end Sys2Proof.Machine
end

