-- ==== Sys2Proof/Machine/Noc.lean ====
section
/-! DEFINITION. The fabric's own rows (R229, R238 to R254): notices, timeouts, held requests, guards and booking, in-network reduction,
drains. Acceptance by a target (R229) is in Bus.lean, since a register block acts there. -/
namespace Sys2Proof.Machine

/-! ## Timeouts and places (R238, R240) -/

/-- The next number of injection. -/
def countInjection (s : State) : State := { s with noc := { s.noc with injections := s.noc.injections + 1 } }

/-- Inject a packet that waited at its NI: its route and place are decided now, its place in the order of injection too. -/
def inject (id : Nat) (s : State) : State :=
  match txnOf id s with
  | none => s
  | some t =>
    let n := srcNode t.src
    let p := srcPort t.src
    match originCode t.src t.cls t.addr t.body s with
    | some code =>
      if t.posted then heldRefused t code (txnDrop id (postedError n p t.addr t.src code (niCodeGiven n p code s)))
      else txnMod id (fun u => { u with stage := .served, ans := some (code, []) }) (niCodeGiven n p code s)
    | none =>
      let e := selectEntry false n p t.node t.cls t.body s
      let path := (entryPath n (routeUse n p e s)).getD []
      let st := stageNow t s
      dmaSent t (niSync n p (countInjection (txnMod id (fun u => { u with
        stage := st, entry := e, path := path, inj := s.noc.injections, held := decide (st ≠ .sent) }) s)))

/-- Is packet `t` the oldest in its stage from its NI to its port and class: on its way by injection, among those of one route entry (R228); at its
NI by the order it was handed over? -/
def oldestOf (t : Txn) (s : State) : Bool :=
  !(s.noc.txns.any fun u => decide (u.stage = t.stage) && t.sameWay u &&
    (if t.stage = .sent then u.entry == t.entry && decide (u.inj < t.inj) else decide (u.id < t.id)))

/-- HELD_REQUEST_INJECTED: a place is free for the oldest held request. -/
def opHeldRequestInjected (id : Nat) (s : State) : State :=
  match txnOf id s with
  | none => s
  | some t =>
    if t.stage = .heldLimit ∧ oldestOf t s = true ∧ placesUsed (srcNode t.src) (srcPort t.src) s < niLimitNow (srcNode t.src) (srcPort t.src) s then inject id s
    else s

/-- REQUEST_TIMEOUT: the request completes with TIMEOUT. -/
def opRequestTimeout (id : Nat) (s : State) : State :=
  match txnOf id s with
  | none => s
  | some t =>
    let n := srcNode t.src
    let p := srcPort t.src
    if t.inFlight then
      countEvent (Reg.NI_TIMEOUT_CNT n p) Reg.NOC_EVT_STATUS 2 0x102 (n * 8 + p)
        (niSync n p (when' (t.cls == 0) (niCount t.src t.cls t.body.bytes) (txnMod id (fun u => { u with ans := some (3, []), late := true }) s)))
    else s

/-- LATE_ANSWER: an answer that comes after the timeout is discarded, and its place is free. -/
def opLateAnswer (id : Nat) (s : State) : State :=
  match txnOf id s with
  | none => s
  | some t =>
    if t.late = true ∧ t.stage = .served then
      bump (Reg.NI_LATE_RSP_CNT (srcNode t.src) (srcPort t.src))
        (if t.ans.isSome then txnMod id (fun u => { u with late := false }) s else txnDrop id s)
    else s

/-- PLACE_FREED: 65,536 cycles after the timeout the place is free without its answer. -/
def opPlaceFreed (id : Nat) (s : State) : State :=
  match txnOf id s with
  | none => s
  | some t =>
    if t.late then
      (if t.stage = .lost then (if t.ans.isSome then txnMod id (fun u => { u with late := false }) s else txnDrop id s)
       else txnMod id (fun u => { u with freed := true }) s)
    else s

/-- An acceptance notice reaches its NI (R229): a posted packet is complete, and one of another class than REQ (R255). -/
def noticeArrives (id : Nat) (s : State) : State :=
  match txnOf id s with
  | none => s
  | some t =>
    let mark := fun (u : State) => when' (t.posted || t.cls != 0) (niCount t.src t.cls t.body.bytes) (txnMod id (fun x => { x with noticed := true }) u)
    if t.noticed then s
    else match t.stage with
      | .accepted => mark s
      | .guardSlot => mark s
      | .served => if t.posted then niCount t.src t.cls t.body.bytes (txnDrop id s) else mark s
      | _ => s

/-! ## Guards and booking (R241, R242, R472) -/

/-- Key of a port's guard, and the guard. -/
def guardKey (t : Txn) : Nat := t.node * 8 + t.port
def guard (k : Nat) (s : State) : Guard := tabGet (fun _ => ({} : Guard)) s.noc.guards k
def modGuard (k : Nat) (f : Guard → Guard) (s : State) : State :=
  { s with noc := { s.noc with guards := tabMod (fun _ => ({} : Guard)) s.noc.guards k f } }

/-- The domain of packet `t`. -/
def Txn.dom (t : Txn) : Option Nat := packetDom t.body t.addr

/-- Does a packet access CSR space where no register lies (R12)? -/
def Txn.noRegister (t : Txn) : Bool :=
  match t.body with
  | .read _ => inCsr t.addr && (findReg (csrOff t.addr / 4 * 4)).isNone
  | .write _ => inCsr t.addr && (findReg (csrOff t.addr / 4 * 4)).isNone
  | _ => false

/-- The code the guard of packet `t` answers with: DECERR comes before FENCED and ASLEEP (R237). -/
def Txn.guardCode (t : Txn) (s : State) : Option Nat :=
  match t.dom with
  | none => none
  | some d => (Machine.guardCode d s).map fun c => if t.noRegister then 2 else c

/-- Is it packet `t`'s turn at its port: those a guard released come first, in the order they reached it (R242)? -/
def portTurn (t : Txn) (s : State) : Bool :=
  match (guard (guardKey t) s).out with
  | [] => true
  | i :: _ => i == t.id

/-- A packet is done with at its port. -/
def portTaken (t : Txn) (s : State) : State :=
  if (guard (guardKey t) s).out.contains t.id then modGuard (guardKey t) (fun g => { g with out := g.out.filter (· ≠ t.id) }) s else s

/-- The guard answers a packet: a request draws the code, a posted packet is dropped (R239), and is noticed either way. -/
def guardAnswers (id code : Nat) (s : State) : State :=
  answer id code [] (txnMod id (fun u => { u with stage := .accepted }) s)

/-- GUARD_ACCESS: a packet meets the guard of a domain that is fenced, asleep or waking. A slot is free for it beyond those that queued bookings will
take (R242). -/
def opGuardAccess (id : Nat) (s : State) : State :=
  match txnOf id s with
  | none => s
  | some t =>
    if t.stage = .sent ∧ oldestOf t s = true ∧ portTurn t s = true then
      match t.guardCode s with
      | none => s
      | some code =>
        if code = 4 ∧ t.aw = true then
          (let g := guard (guardKey t) s
           if g.slots.length + g.booked.length < 8 then
             startWake (t.dom.getD 0) 4
               (modGuard (guardKey t) (fun g => { g with slots := g.slots ++ [id] }) (txnMod id (fun u => { u with stage := .guardSlot }) (portTaken t s)))
           else txnMod id (fun u => { u with stage := .nacked }) (portTaken t s))
        else guardAnswers id code (portTaken t s)
    else s

/-- NACK: the originating NI sends BOOK, and holds later packets of the class to that port. -/
def opNack (id : Nat) (s : State) : State :=
  match txnOf id s with
  | none => s
  | some t =>
    if t.stage = .nacked then
      setTxns ((txnMod id (fun u => { u with stage := .bookSent }) s).noc.txns.map fun u =>
        if u.stage = .heldLimit ∧ t.sameWay u = true then { u with stage := .heldBook } else u) s
    else s

/-- BOOK: the guard queues it, or denies it with 64 queued. -/
def opBook (id : Nat) (s : State) : State :=
  match txnOf id s with
  | none => s
  | some t =>
    if t.stage = .bookSent ∧ (guard (guardKey t) s).booked.length < 64 then
      modGuard (guardKey t) (fun g => { g with booked := g.booked ++ [id] }) (txnMod id (fun u => { u with stage := .booked }) s)
    else s

/-- DENY: the guard's queue is full. -/
def opDeny (id : Nat) (s : State) : State :=
  match txnOf id s with
  | none => s
  | some t =>
    if t.stage = .bookSent ∧ 64 ≤ (guard (guardKey t) s).booked.length then txnMod id (fun u => { u with stage := .denied }) s else s

/-- BOOK_RETRY: 256 cycles after DENY the NI sends BOOK again. -/
def opBookRetry (id : Nat) (s : State) : State :=
  match txnOf id s with
  | none => s
  | some t => if t.stage = .denied then txnMod id (fun u => { u with stage := .bookSent }) s else s

/-- The oldest packet held behind a booking of packet `t`. -/
def heldBehind (t : Txn) (s : State) : Option Nat :=
  (s.noc.txns.find? fun u => decide (u.stage = .heldBook) && t.sameWay u).map (·.id)

/-- May the NI resend packet `t` at a GRANT: a request it has never injected needs a place (R240), and no drain holds it (R253)? -/
def mayResend (t : Txn) (s : State) : Bool :=
  !(drainHolds (srcNode t.src) (srcPort t.src) t.node t.cls t.body s) &&
  (!t.held || t.posted || decide (placesUsed (srcNode t.src) (srcPort t.src) s < niLimitNow (srcNode t.src) (srcPort t.src) s))

/-- GRANT: the oldest booking has a slot; the packet goes into it, and the next held packet books in turn. -/
def opGrant (id : Nat) (s : State) : State :=
  match txnOf id s with
  | none => s
  | some t =>
    let g := guard (guardKey t) s
    if t.stage = .booked ∧ g.booked.head? = some id ∧ g.slots.length < 8 ∧ mayResend t s = true then
      let asleep := (t.guardCode s).isSome
      let s1 := modGuard (guardKey t) (fun x => { x with slots := if asleep then x.slots ++ [id] else x.slots, booked := x.booked.tail }) s
      let s2 := bump (Reg.NI_BOOK_CNT (srcNode t.src) (srcPort t.src)) (niSync (srcNode t.src) (srcPort t.src) (countInjection
        (txnMod id (fun u => { u with stage := if asleep then .guardSlot else .sent, inj := s.noc.injections, held := false }) s1)))
      let s3 := if asleep then startWake (t.dom.getD 0) 4 s2 else s2
      match heldBehind t s with
      | none => s3
      | some j => txnMod j (fun u => { u with stage := .bookSent }) s3
    else s

/-- The packets of domain `d` in the slots of its guards, of each guard in the order they reached it. -/
def slotsOf (d : Nat) (s : State) : List Nat :=
  (s.noc.guards.flatMap (·.2.slots)).filter fun id => match txnOf id s with | some t => decide (t.dom = some d) | none => false

/-- The slots of domain `d` are emptied: delivered in the order of arrival where it woke, answered ASLEEP where its wake failed (R242). -/
def releaseSlots (d : Nat) (woke : Bool) (s : State) : State :=
  forEach (slotsOf d s) (fun id t =>
    let k := match txnOf id t with | some u => guardKey u | none => 0
    let t1 := modGuard k (fun g => { g with slots := g.slots.filter (· ≠ id), out := if woke then g.out ++ [id] else g.out }) t
    if woke then txnMod id (fun u => { u with stage := .sent }) t1 else guardAnswers id 4 t1) s

/-! ## Drains (R252 to R254) -/

/-- Bring NOC_DRAIN_NODES, the DRAIN bits and LINK_UP in step. -/
def syncRouters (s : State) : State :=
  let nodes := s.noc.drainNodes.foldl (fun m n => m ||| 2 ^ n) 0
  forEach (upto 48) (fun n t =>
      setFld (Reg.NOC_RTR_STATUS n) 4 4 (b2n (t.noc.drainNodes.contains n))
        (setFld (Reg.NOC_RTR_STATUS n) 3 0 ((upto 4).foldl (fun m d => m + 2 ^ d * b2n (linkUp n d t)) 0) t))
    (wr Reg.NOC_DRAIN_NODES (dw nodes) s)

/-- The drain ends: the new entries and settings are in use, and the held packets are injected in order. -/
def drainEnd (s : State) : State :=
  let t := setFld Reg.NOC_STATUS 0 0 0 (bump Reg.NOC_DRAIN_CNT
    { s with noc := { s.noc with routes := [], rtr := [], drainNodes := [], draining := false, slow := false } })
  let t1 := syncRouters t
  forEach ((t1.noc.txns.filter fun u => decide (u.stage = .heldDrain)).map (·.id)) inject t1

/-- Keep the value in use of a changed setting until the drain ends: one kept before stays. -/
def keepOld {α : Type} [DecidableEq α] (dflt : α) (l : List (Nat × α)) (k : Nat) (old : α) : List (Nat × α) :=
  if l.any (fun x => x.1 == k) then l else tabSet (fun _ => dflt) l k old

/-- Does node `n` have neighbours whose links a change of LINK_EN from `a` to `b` touches: they and it. -/
def drainSetOf (n a b : Nat) : List Nat :=
  n :: (upto 4).filterMap fun d => if a.testBit d ≠ b.testBit d then neighbour n d else none

/-- A commit that changed router settings (node, old value) or route entries (key, old value) starts or joins a drain; with no router to
wait for it ends at once (R253). `extra` lists nodes whose wire maps changed (R252). -/
def drainStart (rtrs : List (Nat × Nat)) (routes : List (Nat × DWord)) (extra : List Nat) (s : State) : State :=
  if rtrs.isEmpty && routes.isEmpty && extra.isEmpty then s
  else
    let set := extra ++ rtrs.flatMap fun r => drainSetOf r.1 r.2 (rd (Reg.NOC_RTR_CTRL r.1) s).toNat
    let t := setFld Reg.NOC_STATUS 0 0 1 { s with noc := { s.noc with
      draining := true
      drainNodes := (upto 48).filter fun n => s.noc.drainNodes.contains n || set.contains n
      rtr := rtrs.foldl (fun l r => keepOld (r.2 + 1) l r.1 r.2) s.noc.rtr
      routes := routes.foldl (fun l r => keepOld (r.2 + 1) l r.1 r.2) s.noc.routes } }
    if t.noc.drainNodes.isEmpty then drainEnd t else syncRouters t

/-- The nodes of a path from `n`. -/
def touches (n : Nat) (t : Txn) : Bool :=
  srcNode t.src == n || t.node == n || t.path.any fun x => x.1 == n

/-- Is a packet in the mesh; is it one that its NI has injected and has no acceptance of yet (an answer is one)? -/
def Txn.inMesh (t : Txn) : Bool := decide (t.stage = .sent)
def Txn.unconfirmed (t : Txn) : Bool :=
  !t.noticed && t.ans.isNone && (match t.stage with | .sent => true | .accepted => true | .served => true | .guardSlot => true | _ => false)

/-- Does router `n` hold a packet, or an NI await acceptance of one injected on a held entry (R253)? -/
def drainBusy (n : Nat) (s : State) : Bool :=
  s.noc.txns.any (fun t => (t.inMesh && touches n t) ||
    (t.unconfirmed && drainHolds (srcNode t.src) (srcPort t.src) t.node t.cls t.body s)) ||
  !((tabGet (fun _ => []) s.noc.redBufs n).isEmpty)

/-- ROUTER_APPLY: router `n` applies its new settings; the last of the set ends the drain. -/
def opRouterApply (n : Nat) (s : State) : State :=
  if s.noc.draining = true ∧ s.noc.drainNodes.contains n = true ∧ drainBusy n s = false then
    let t := { s with noc := { s.noc with
      drainNodes := s.noc.drainNodes.filter (· ≠ n)
      rtr := s.noc.rtr.filter fun r => r.1 != n } }
    if t.noc.drainNodes.isEmpty then drainEnd t else syncRouters t
  else s

/-- NOC_DRAIN_SLOW: once for a drain that lasts NOC_DRAIN_LIMIT cycles. -/
def opNocDrainSlow (s : State) : State :=
  if s.noc.draining = true ∧ s.noc.slow = false then
    flagEvent Reg.NOC_EVT_STATUS 4 0x104 0 { s with noc := { s.noc with slow := true } }
  else s

/-! ## Reduction in the routers (R243 to R246) -/

/-- The signed 32-bit values of a byte list. -/
def words32 (bs : List Byte) : List Int := (upto (bs.length / 4)).map fun i => signed 32 (leAt bs (4 * i) 4)

/-- Sum value by value. -/
def addSums (a b : List Int) : List Int := List.zipWith (· + ·) a b

/-- The reduce buffers of router `n`. -/
def redBufs (n : Nat) (s : State) : List Txn := tabGet (fun _ => []) s.noc.redBufs n

/-- Put the reduce buffers of router `n`. -/
def setRedBufs (n : Nat) (l : List Txn) (s : State) : State :=
  setFld (Reg.NOC_RTR_STATUS n) 13 8 l.length { s with noc := { s.noc with redBufs := tabSet (fun _ => []) s.noc.redBufs n l } }

/-- Do two reduction packets merge (R245)? -/
def RedPkt.sameKey (a b : RedPkt) : Bool :=
  a.tag == b.tag && a.coll == b.coll && a.typ == b.typ && a.len == b.len && a.n == b.n

/-- The packet a reduce buffer holds. -/
def Txn.red (t : Txn) : Option RedPkt := match t.body with | .red p => some p | _ => none

/-- The links of packet `t` from router `n` on. -/
def pathAfter (n : Nat) (t : Txn) : List (Nat × Nat) := t.path.dropWhile fun x => x.1 != n

/-- A buffer leaves router `n`: its packet is on its way again. -/
def redLeave (n i : Nat) (s : State) : State :=
  match (redBufs n s)[i]? with
  | none => s
  | some t => setTxns (s.noc.txns ++ [t]) (setRedBufs n ((redBufs n s).eraseIdx i) s)

/-- RED_PACKET_AT_ROUTER: packet `id` meets router `n` on its path: added to a buffer of its key, given a free one, or passed on. A
packet a router takes in is complete there (R245, log 40). -/
def opRedPacketAtRouter (n id : Nat) (s : State) : State :=
  match txnOf id s with
  | none => s
  | some t =>
    match t.red with
    | none => s
    | some p =>
      if t.stage = .sent ∧ touches n t = true ∧ flagOn Reg.NOC_CTRL 8 s = true then
        let l := redBufs n s
        match l.findIdx? (fun b => match b.red with | some q => q.sameKey p | none => false) with
        | some i =>
          let l1 := l.modify i (fun b => match b.red with
            | some q => { b with body := .red { q with cnt := q.cnt + p.cnt, sum := addSums q.sum p.sum } }
            | none => b)
          let s1 := bump (Reg.NOC_RTR_RED_MERGE_CNT n) (setRedBufs n l1 (niCount t.src 3 t.body.bytes (txnDrop id s)))
          let full := match (l1[i]?).bind Txn.red with | some q => decide (q.n ≤ q.cnt) && q.coll == n | none => false
          if full then redLeave n i s1 else s1
        | none =>
          if l.length < min 32 (bitsOf (rtrUse n s) 13 8) then
            let s1 := setRedBufs n (l ++ [{ t with path := pathAfter n t }]) (txnDrop id s)
            if p.n ≤ p.cnt ∧ p.coll = n then redLeave n l.length s1 else s1
          else bump (Reg.NOC_RTR_RED_PASS_CNT n) s
      else s

/-- RED_HOLD_EXPIRY: buffer `i` of router `n` is delivered to the collector's port, or forwarded by an intermediate router. -/
def opRedHoldExpiry (n i : Nat) (s : State) : State := redLeave n i s

/-! ## The collector (R247 to R251) -/

/-- The reductions at cluster `c`. -/
def reductions (c : Nat) (s : State) : List Reduction := tabGet (fun _ => []) s.noc.reductions c
def setReductions (c : Nat) (l : List Reduction) (s : State) : State :=
  { s with noc := { s.noc with reductions := tabSet (fun _ => []) s.noc.reductions c l } }

/-- NOC_RED_ERR (R249). -/
def redErr (cause c tag : Nat) (s : State) : State :=
  countEvent Reg.NOC_RED_ERR_CNT Reg.NOC_EVT_STATUS 5 0x105 ((8 + c) * 8)
    (wr Reg.NOC_RED_LAST_ERR (dw (cause * 0x10000000 + (8 + c) * 0x10000 + tag)) s)

/-- A setup at cluster `c` (R247): the response code, and the reduction made active. -/
def redSetup (c tag count cls : Nat) (s : State) : Nat × State :=
  let l := reductions c s
  let used := l.foldl (fun n r => n + r.booked) 0
  if count = 0 ∨ l.any (fun r => r.tag == tag) = true ∨ 64 ≤ l.length ∨ 64 < used + min count 4 then (7, redErr 1 c tag s)
  else (0, setReductions c (l ++ [{ tag := tag, n := count, cls := cls, setRound := roundNow s, booked := min count 4 }]) s)

/-- RED_SETUP_RECEIVED: a plan RED_SETUP reaches the collector of cluster `c` and is answered. -/
def opRedSetupReceived (id : Nat) (s : State) : State :=
  match txnOf id s with
  | none => s
  | some t =>
    match t.body, t.stage with
    | .redSetup node tag count cls, .accepted =>
      let r := redSetup (node - 8) tag count cls s
      answer id r.1 [] r.2
    | _, _ => s

/-- Change reduction `tag` of cluster `c`. -/
def modRed (c tag : Nat) (f : Reduction → Reduction) (s : State) : State :=
  setReductions c ((reductions c s).map fun r => if r.tag = tag then f r else r) s

/-- Uses of a collector's packets: the table read and the result write of a tag. -/
def useRedTable (tag : Nat) : Nat := 2 * tag + 1
def useRedResult (tag : Nat) : Nat := 2 * tag + 2

/-- A partial joins reduction `r`. -/
def Reduction.join (r : Reduction) (p : RedPkt) : Reduction :=
  if r.cnt = 0 then { r with typ := p.typ, len := p.len, cnt := p.cnt, sum := p.sum, excess := decide (r.n < p.cnt) }
  else { r with cnt := r.cnt + p.cnt, sum := addSums r.sum p.sum, excess := decide (r.n < r.cnt + p.cnt) }

/-- The partials accepted at the collector of cluster `c` and not yet added, in buffers booked for their tags (R247). -/
def partialsAt (c : Nat) (s : State) : List Txn :=
  s.noc.txns.filter fun t => decide (t.stage = .accepted) && (match t.red with | some p => p.coll == 8 + c | none => false)

/-- Is a buffer free for a reduction packet: one booked for its tag, or none needed where no reduction of it is active and it will be discarded (R247)?
Other packets need none. -/
def redRoom (t : Txn) (s : State) : Bool :=
  match t.red with
  | none => true
  | some p => match (reductions (p.coll - 8) s).find? (fun r => r.tag == p.tag) with
    | none => true
    | some r => decide (((partialsAt (p.coll - 8) s).filter fun u => match u.red with | some q => q.tag == p.tag | none => false).length < r.booked)

/-- RED_PARTIAL: the oldest partial accepted at the collector of cluster `c` is added (R247 to R249): TYPE and LEN are those of the first partial. One
that comes while its result is delivered passes N too; its sum then no longer reaches DEST. -/
def opRedPartial (c id : Nat) (s : State) : State :=
  match txnOf id s with
  | none => s
  | some t =>
    match t.red with
    | none => s
    | some p =>
      if t.stage = .accepted ∧ p.coll = 8 + c ∧ (partialsAt c s).all (fun u => decide (t.arr ≤ u.arr)) = true then
        let s1 := postedDone id s
        match (reductions c s).find? (fun r => r.tag == p.tag) with
        | none => redErr 2 c p.tag s1
        | some r =>
          if p.n ≠ r.n ∨ (0 < r.cnt ∧ (p.typ ≠ r.typ ∨ p.len ≠ r.len)) then redErr 3 c p.tag s1
          else
            let r1 := r.join p
            let done := decide (r.phase = 0) && decide (r1.n ≤ r1.cnt)
            let s2 := modRed c p.tag (fun _ => if done then { r1 with phase := 1 } else r1) s1
            let s3 := if r1.excess then redErr 4 c p.tag s2 else s2
            if done then
              reqRead (.coll c) (useRedTable p.tag) (bitsOf (rd (Reg.NI_RED_TABLE (8 + c) 0) s).toNat 47 6 * 64 + 16 * p.tag) 16 false s3
            else s3
      else s

/-- The result bytes (R246): each half of a cint32 saturated once, int32 wrapped. -/
def Reduction.result (r : Reduction) : List Byte :=
  r.sum.flatMap fun v => leBytes 4 (unsigned 32 (if r.typ = 1 then sat 32 v else v))

/-- RED_TABLE_ANSWER: the table entry of a tag arrives and the result is written; a failed read frees the tag (log 41). -/
def opRedTableAnswer (c tag : Nat) (s : State) : State :=
  match waitingAns (.coll c) (useRedTable tag) s with
  | none => s
  | some (t, code, data) =>
    let s1 := takeAns t.id s
    match (reductions c s).find? (fun r => r.tag == tag && r.phase == 1) with
    | none => s1
    | some r =>
      if code = 0 then
        postPieces (.coll c) (useRedResult tag) 256 (leAt data 0 6) r.result (modRed c tag (fun x => { x with phase := 2, entry := data }) s1)
      else setReductions c ((reductions c s1).filter fun x => x.tag != tag) s1

/-- RED_RESULT_ACCEPTED: the result write is accepted; the token is posted and the tag freed. -/
def opRedResultAccepted (c tag : Nat) (s : State) : State :=
  match (reductions c s).find? (fun r => r.tag == tag && r.phase == 2) with
  | none => s
  | some r =>
    if unaccepted (.coll c) (useRedResult tag) s then s
    else
      let w := leAt r.entry 8 4
      let s1 := setReductions c ((reductions c s).filter fun x => x.tag != tag) (bump Reg.NOC_RED_DONE_CNT s)
      if bitOf w 31 then postToken (.coll c) (bitsOf w 15 13) (bitsOf w 12 0) (bitsOf w 18 16) (tag + 0x80000000 * b2n r.excess) s1 else s1

/-- R250 at the boundary that ends Round `k`: the reductions outstanding, under CANCEL and HALT. -/
def redBoundary (k c : Nat) (s : State) : State :=
  forEach ((reductions c s).filter fun r => r.phase == 0 && deadlineEnds k r.setRound s && policyOf r.cls s != 0) (fun r t =>
    redErr 5 c r.tag (setReductions c ((reductions c t).filter fun x => x.tag != r.tag) t)) s

/-- Classes with a reduction outstanding at cluster `c` at the boundary that ends Round `k` (R250). -/
def redClasses (k c : Nat) (s : State) : List Nat :=
  ((reductions c s).filter fun r => r.phase == 0 && deadlineEnds k r.setRound s).map (·.cls)

/-! ## Meanings of the commands -/

/-- REQUEST_TIMEOUT (R238). -/
def execRequestTimeout (id : Nat) (s : State) : Host.Outcome State Fault Refusal := .next (gated false true (opRequestTimeout id) s)
/-- LATE_ANSWER (R238). -/
def execLateAnswer (id : Nat) (s : State) : Host.Outcome State Fault Refusal := .next (gated false true (opLateAnswer id) s)
/-- PLACE_FREED (R238). -/
def execPlaceFreed (id : Nat) (s : State) : Host.Outcome State Fault Refusal := .next (gated false true (opPlaceFreed id) s)
/-- HELD_REQUEST_INJECTED (R240). -/
def execHeldRequestInjected (id : Nat) (s : State) : Host.Outcome State Fault Refusal := .next (gated false true (opHeldRequestInjected id) s)
/-- ROUTER_APPLY (R253). -/
def execRouterApply (n : Nat) (s : State) : Host.Outcome State Fault Refusal := .next (gated false (below 48 n) (opRouterApply n) s)
/-- NOC_DRAIN_SLOW (R254). -/
def execNocDrainSlow (s : State) : Host.Outcome State Fault Refusal := .next (gated false true opNocDrainSlow s)
/-- GUARD_ACCESS (R472). -/
def execGuardAccess (id : Nat) (s : State) : Host.Outcome State Fault Refusal := .next (gated false true (opGuardAccess id) s)
/-- NACK (R242). -/
def execNack (id : Nat) (s : State) : Host.Outcome State Fault Refusal := .next (gated false true (opNack id) s)
/-- BOOK (R242). -/
def execBook (id : Nat) (s : State) : Host.Outcome State Fault Refusal := .next (gated false true (opBook id) s)
/-- DENY (R242). -/
def execDeny (id : Nat) (s : State) : Host.Outcome State Fault Refusal := .next (gated false true (opDeny id) s)
/-- BOOK_RETRY (R242). -/
def execBookRetry (id : Nat) (s : State) : Host.Outcome State Fault Refusal := .next (gated false true (opBookRetry id) s)
/-- GRANT (R242). -/
def execGrant (id : Nat) (s : State) : Host.Outcome State Fault Refusal := .next (gated false true (opGrant id) s)
/-- RED_PACKET_AT_ROUTER (R245). -/
def execRedPacketAtRouter (n id : Nat) (s : State) : Host.Outcome State Fault Refusal := .next (gated false (below 48 n) (opRedPacketAtRouter n id) s)
/-- RED_HOLD_EXPIRY (R245). -/
def execRedHoldExpiry (n i : Nat) (s : State) : Host.Outcome State Fault Refusal :=
  .next (gated false (below 48 n && below 32 i) (opRedHoldExpiry n i) s)
/-- RED_SETUP_RECEIVED (R247). -/
def execRedSetupReceived (id : Nat) (s : State) : Host.Outcome State Fault Refusal := .next (gated false true (opRedSetupReceived id) s)
/-- RED_PARTIAL (R247). -/
def execRedPartial (c id : Nat) (s : State) : Host.Outcome State Fault Refusal := .next (gated false (below 32 c) (opRedPartial c id) s)
/-- RED_TABLE_ANSWER (R248). -/
def execRedTableAnswer (c tag : Nat) (s : State) : Host.Outcome State Fault Refusal :=
  .next (gated false (below 32 c && below 4096 tag) (opRedTableAnswer c tag) s)
/-- RED_RESULT_ACCEPTED (R248). -/
def execRedResultAccepted (c tag : Nat) (s : State) : Host.Outcome State Fault Refusal :=
  .next (gated false (below 32 c && below 4096 tag) (opRedResultAccepted c tag) s)

end Sys2Proof.Machine
end

