-- ==== Sys2Proof/Machine/Memory.lean ====
section
/-! DEFINITION. Memories as the fabric reaches them (R260 to R272, R547): what an accepted read or write does and how it is answered,
and the DRAM controller's own events. -/
namespace Sys2Proof.Machine

/-- May an agent reach the Cold Room byte at offset `o` (R268)? -/
def coldAllowed (ag : Agent) (write : Bool) (o : Nat) : Bool :=
  if o < 0x20000 then !write || decide (ag = .pwr)
  else if o < 0x30000 then decide (ag = .sec)
  else if o < 0x3FFC0 then true
  else !write || decide (ag = .recorder)

/-- Is every byte of a Cold Room access allowed? Parts are whole multiples of 64 bytes: the first and last byte of each line decide. -/
def coldOk (ag : Agent) (write : Bool) (a n : Nat) : Bool :=
  (upto n).all fun i => coldAllowed ag write (a + i - 0x20000000)

/-- Do accesses of `n` bytes at `a` and `m` bytes at `b` share a 64-byte line? -/
def sameLine (a n b m : Nat) : Bool := decide (a / 64 ≤ (b + m - 1) / 64) && decide (b / 64 ≤ (a + n - 1) / 64)

/-- The 64-byte lines of an access of `n` bytes at `a`. -/
def linesOf (a n : Nat) : List Nat := (upto ((a + n - 1) / 64 - a / 64 + 1)).map (a / 64 + ·)

/-- Do two accesses meet in one bank of a cluster's shared memory (R265)? -/
def sameBank (a n b m : Nat) : Bool :=
  decide (0x10000000 ≤ a ∧ a < 0x12000000) && decide (a / 0x100000 = b / 0x100000) &&
  (linesOf a n).any fun x => (linesOf b m).any fun y => x % 16 == y % 16

/-- Is packet `t` the first accepted of those that share its lines, or its banks of shared memory (R265, R271)? -/
def firstOnLine (t : Txn) (s : State) : Bool :=
  !(s.noc.txns.any fun u => decide (u.stage = .accepted) && decide (u.arr < t.arr) && decide (u.body.span ≠ 0) &&
      (sameLine u.addr u.body.span t.addr t.body.span || sameBank u.addr u.body.span t.addr t.body.span))

/-- An uncorrectable error at address `a` (R267, R270): event, counters and the row's mark. -/
def memUncorr (a node port : Nat) (s : State) : State :=
  let t := raise 0x110 (node * 8 + port) s
  if a < 0x8000000 then noteEccAt .uncorrectable a t
  else if a < 0x12000000 then
    noteEccAt .uncorrectable a (wr (Reg.CSM_LAST_UNCORR ((a - 0x10000000) / 0x100000)) (dw (a / 8 * 8)) (bump (Reg.CSM_UNCORR_CNT ((a - 0x10000000) / 0x100000)) t))
  else if a < 0x20040000 then noteEccAt .uncorrectable a t
  else wr (Reg.DRAM_LAST_UNCORR (dramChannel a)) (dw (a / 64 * 64)) (bump (Reg.DRAM_UNCORR_CNT (dramChannel a)) t)

/-- A corrected error at address `a` (R266, R270, R481). -/
def memCorr (a : Nat) (s : State) : State :=
  if a < 0x8000000 then eccCorrected (a / 0x40000) (a % 0x40000) s
  else if a < 0x12000000 then noteEccAt .corrected a (bump (Reg.CSM_CORR_CNT ((a - 0x10000000) / 0x100000)) s)
  else if a < 0x20040000 then noteEccAt .corrected a (bump Reg.PWR_CR_CORR_CNT s)
  else bump (Reg.DRAM_CORR_CNT (dramChannel a)) s

/-- The word of an access that its uncorrectable error is recorded for: the lowest poisoned one it meets, or its first (log 10). -/
def badWord (a n : Nat) (s : State) : Nat :=
  match s.mem.poison.filter fun w => decide (w < a + n) && decide (a < w + eccSize w) with
  | [] => a
  | w :: l => l.foldl min w

/-- The ECC words a write of `n` bytes at `a` covers in part: at most its first and its last. -/
def partWords (a n : Nat) : List Nat :=
  let z := eccSize a
  (if a % z = 0 ∧ z ≤ n then [] else [a / z * z]) ++
  (if (a + n) % z = 0 ∨ (a + n) / z = a / z then [] else [(a + n) / z * z])

/-- A fabric write: whole words replace, partly covered ones merge; a merge over an uncorrectable word writes it with a poison code. -/
def memServeWrite (ecc : Ecc) (a : Nat) (bs : List Byte) (node port : Nat) (s : State) : State :=
  let parts := partWords a bs.length
  let bad := parts.filter fun w => decide (ecc = .uncorrectable) || s.mem.poison.contains w
  let t := memStore a bs s
  if bad.isEmpty then (if ecc = .corrected ∧ parts.isEmpty = false then memCorr a t else t)
  else
    let t1 := addPoison bad t
    if inDram a then raise 0x110 (node * 8 + port) (bumpBy (Reg.DRAM_POISON_CNT (dramChannel a)) bad.length t1)
    else memUncorr (bad.headD a) node port t1

/-- Count bytes read or written by a DRAM channel's clients. -/
def dramBytes (write : Bool) (a n : Nat) (s : State) : State :=
  if inDram a then bump64 (if write then Reg.DRAM_WR_BYTES (dramChannel a) else Reg.DRAM_RD_BYTES (dramChannel a)) n s else s

/-- DRAM_STATUS.MODE of the channel an address lies in; ACTIVE elsewhere. -/
def dramMode (a : Nat) (s : State) : Nat := if inDram a then fld (Reg.DRAM_STATUS (dramChannel a)) 1 0 s else 0

/-- MEMORY_ACCESS_SERVED: the memory serves accepted packet `id`; `ecc` is what its ECC finds. A channel in training or in self-refresh holds it (R272, R473). -/
def opMemoryAccessServed (id : Nat) (ecc : Ecc) (s : State) : State :=
  match txnOf id s with
  | none => s
  | some t =>
    if t.stage = .accepted ∧ inMemory t.addr = true ∧ dramMode t.addr s ≠ 2 ∧ dramMode t.addr s ≠ 1 ∧ firstOnLine t s = true then
      let cold := decide (0x20000000 ≤ t.addr ∧ t.addr < 0x20040000)
      match t.body with
      | .read len =>
        if cold && !(coldOk t.agent false t.addr len) then answer id 7 [] s
        else if dramMode t.addr s = 3 then answer id 1 [] s
        else
          let s1 := dramBytes false t.addr len s
          match eccFinds ecc t.addr len s with
          | .uncorrectable => answer id 1 [] (memUncorr (badWord t.addr len s) t.node t.port s1)
          | .corrected => answer id 0 (memRead t.addr len s) (memCorr t.addr s1)
          | .clean => answer id 0 (memRead t.addr len s) s1
      | .write bs =>
        if cold && !(coldOk t.agent true t.addr bs.length) then answer id 7 [] s
        else if dramMode t.addr s = 3 then answer id 1 [] s
        else answer id 0 [] (memServeWrite ecc t.addr bs t.node t.port (dramBytes true t.addr bs.length s))
      | _ => s
    else s

/-! ## A cluster's contribution to a reduction (R244) -/

/-- The range of shared memory a write `v` of NI_RED_SEND at cluster `c` names: its address and its length. -/
def redRange (c v : Nat) : Nat × Nat := (0x10000000 + c * 0x100000 + 64 * bitsOf v 19 6, 64 * (bitsOf v 45 44 + 1))

/-- A write of NI_RED_SEND at cluster `c`: the response code, and the packet sent. An uncorrectable word of the range fails the read (R267):
nothing is sent and the write is answered as the read is (log 66). -/
def redSend (c v : Nat) (s : State) : Nat × State :=
  let len := (redRange c v).2
  let a := (redRange c v).1
  if 0x100000 < 64 * bitsOf v 19 6 + len then (1, s)
  else if eccFinds .clean a len s = .uncorrectable then (1, memUncorr (badWord a len s) (8 + c) 0 s)
  else
    let body := Payload.red { tag := bitsOf v 63 52, coll := bitsOf v 27 22, typ := bitsOf v 48 48, len := len, n := bitsOf v 43 28, cnt := 1,
                              sum := words32 (memRead a len s) }
    (0, send (.coll c) 0 3 0 body true false s)

/-- Run `f` while the word at `a` reads as uncorrectable. -/
def withBadWord (a : Nat) (f : State → State) (s : State) : State :=
  if s.mem.poison.contains a then f s
  else
    let t := f (addPoison [a] s)
    { t with mem := { t.mem with poison := t.mem.poison.filter (· ≠ a) } }

/-! ## DRAM (R272) -/

/-- DRAM_TRAINING_END: training of channel `ch` ends. -/
def opDramTrainingEnd (ch : Nat) (failed : Bool) (s : State) : State :=
  if fld (Reg.DRAM_STATUS ch) 1 0 s = 2 then setFld (Reg.DRAM_STATUS ch) 1 0 (if failed then 3 else 0) s else s

/-- DRAM_TEMPERATURE_READ: `hot` says the devices report above 85 degrees. -/
def opDramTemperatureRead (ch : Nat) (hot : Bool) (s : State) : State := setFld (Reg.DRAM_STATUS ch) 8 8 (b2n hot) s

/-- SCRUB_PASS: the patrol scrubber ends a pass of channel `ch`, in which it wrote back `corr` corrected lines. -/
def opScrubPass (ch corr : Nat) (s : State) : State :=
  if flagOn (Reg.DRAM_CFG ch) 16 s = true ∧ fld (Reg.DRAM_STATUS ch) 1 0 s = 0 then
    bump (Reg.DRAM_SCRUB_PASS_CNT ch) (bumpBy (Reg.DRAM_CORR_CNT ch) corr s)
  else s

/-! ## Meanings of the commands -/

/-- MEMORY_ACCESS_SERVED (R547). -/
def execMemoryAccessServed (id : Nat) (ecc : Ecc) (s : State) : Host.Outcome State Fault Refusal :=
  .next (gated false true (opMemoryAccessServed id ecc) s)
/-- DRAM_TRAINING_END (R272). -/
def execDramTrainingEnd (ch : Nat) (failed : Bool) (s : State) : Host.Outcome State Fault Refusal :=
  .next (gated false (below 4 ch) (opDramTrainingEnd ch failed) s)
/-- DRAM_TEMPERATURE_READ (R272). -/
def execDramTemperatureRead (ch : Nat) (hot : Bool) (s : State) : Host.Outcome State Fault Refusal :=
  .next (gated false (below 4 ch) (opDramTemperatureRead ch hot) s)
/-- SCRUB_PASS (R272). -/
def execScrubPass (ch corr : Nat) (s : State) : Host.Outcome State Fault Refusal := .next (gated false (below 4 ch) (opScrubPass ch corr) s)

end Sys2Proof.Machine
end

