-- ==== Sys2Proof/Machine/Dma.lean ====
section
/-! DEFINITION. The DMA engines (R273 to R290): starts, descriptors, bursts, completion, stops, the end of a bus error. -/
namespace Sys2Proof.Machine

/-- Is a completion whose STATUS write has begun not finished yet? -/
def dmaFinishing (e : Nat) (s : State) : Bool := (dmaEng e s).chans.any fun x => x.2.phase == 3 || x.2.phase == 4

/-- DMA_QUIET: nothing is outstanding after a bus error and no completion is under way; the error is recorded and every channel is HALTED_BUS. -/
def opDmaQuiet (e : Nat) (s : State) : State :=
  match (dmaEng e s).first with
  | none => s
  | some (addr, kind, code) =>
    if dmaOutstanding e s = 0 ∧ dmaFinishing e s = false then
      let t := forEach (upto (dmaChans e)) (fun ch t =>
        dmaSetState e ch 3 (if dmaState e ch t = 1 ∨ dmaState e ch t = 2 then setFld (Reg.DMA_CH_STATUS e ch) 10 8 7 t else t))
        (setDma e { dmaEng e s with first := none, chans := [] } s)
      dmaSync e (flagEvent (Reg.DMA_EVT_STATUS e) 1 0x125 (e * 64)
        (wr (Reg.DMA_BUS_ERR_INFO e) (dw (kind * 256 + code)) (wr (Reg.DMA_BUS_ERR_ADDR e) (dw addr) t)))
    else s

/-- A write of 1 to DMA_CTRL.BUS_CLR: the response code and the effect. -/
def dmaBusClr (e : Nat) (s : State) : Nat × State :=
  if dmaHalting e s then
    (if flagOn (Reg.DMA_STATUS e) 16 s then
       (0, dmaSync e (setFld (Reg.DMA_STATUS e) 17 17 0
         (forEach (upto (dmaChans e)) (fun ch t => if dmaState e ch t = 3 then dmaSetState e ch 0 t else t) s)))
     else (7, s))
  else (0, s)

/-- A posted write of a channel: an error of its own NI is a bus error (R273, R288). -/
def dmaWrite (e ch use a : Nat) (bs : List Byte) (s : State) : State :=
  let src := srcOf (.dma e ch) s
  if inCsr a then dmaRefused e ch use a 1 (postedError (srcNode src) (srcPort src) a src 1 s)
  else
    let t := postWrite (.dma e ch) use a bs (bitOf (dmaChan e ch s).cfg 26) s
    match originCode src 2 a (.write bs) s, txnOf s.noc.nextId t with
    | some code, _ => dmaRefused e ch use a code t
    | none, some u => dmaSync e (if u.stage = .heldDrain then t else dmaSent u t)
    | none, none => dmaSync e t

/-- A read of a channel; one whose address lies in CSR space is not sent. -/
def dmaRead (e ch use a len kind : Nat) (s : State) : State :=
  if inCsr a then dmaBusErr e a kind 1 s
  else dmaSync e (reqRead (.dma e ch) use a len (bitOf (dmaChan e ch s).cfg 26) s)

/-! ## Descriptors (R275 to R278) -/

def dWord (d : List Byte) (i : Nat) : Nat := leAt d (4 * i) 4
def dOwn (d : List Byte) : Bool := bitOf (dWord d 0) 31
def dEnd (d : List Byte) : Bool := bitOf (dWord d 0) 30
def dTok (d : List Byte) : Bool := bitOf (dWord d 0) 29
def dIrq (d : List Byte) : Bool := bitOf (dWord d 0) 28
def dSwap (d : List Byte) : Nat := bitsOf (dWord d 0) 27 26
def dCrc (d : List Byte) : Bool := bitOf (dWord d 0) 25
def dCont (d : List Byte) : Bool := bitOf (dWord d 0) 24
def dUser (d : List Byte) : Nat := bitsOf (dWord d 0) 15 0
def dLen (d : List Byte) : Nat := dWord d 1
def dSrc (d : List Byte) : Nat := dWord d 2 + bitsOf (dWord d 3) 15 0 * 2 ^ 32
def dDst (d : List Byte) : Nat := dWord d 4 + bitsOf (dWord d 5) 15 0 * 2 ^ 32
def dNext (d : List Byte) : Nat := dWord d 6 / 32 * 32 + bitsOf (dWord d 5) 31 16 * 2 ^ 32

/-- The code of a failed check (R278): 6 FORMAT, 5 MISALIGNED, 0 none. -/
def dCheck (e : Nat) (d : List Byte) : Nat :=
  if bitsOf (dWord d 0) 23 16 ≠ 0 ∨ bitsOf (dWord d 3) 31 16 ≠ 0 ∨ bitsOf (dWord d 6) 4 0 ≠ 0 ∨
     (e < 32 ∧ dSwap d ≠ 0) ∨ (e = 32 ∧ (dCrc d = true ∨ dCont d = true)) then 6
  else if dSrc d % 64 ≠ 0 ∨ dDst d % 64 ≠ 0 ∨ dLen d % 64 ≠ 0 then 5 else 0

/-- The STATUS word (R276). -/
def dmaStatusWord (ch code : Nat) : Nat := 0x80000000 + ch * 256 + code

/-- The descriptor address of a channel (DMA_CH_CUR). -/
def dmaCur (e ch : Nat) (s : State) : Nat := (rd (Reg.DMA_CH_CUR e ch) s).toNat

/-! ## Activation (R283 to R285) -/

/-- A 64-bit write of DMA_CH_START, or a plan entry: the response code and the effect. -/
def dmaStart (e ch addr : Nat) (s : State) : Nat × State :=
  if dmaState e ch s ≠ 0 then (7, s)
  else if addr % 32 ≠ 0 then (1, s)
  else
    let t := modDmaCh e ch (fun _ => { cfg := (rd (Reg.DMA_CH_CFG e ch) s).toNat, tok := (rd (Reg.DMA_CH_TOKEN e ch) s).toNat, round := roundNow s,
                                       want := true, fetchAddr := addr }) s
    (0, dmaSync e (wr (Reg.DMA_CH_DESC_CNT e ch) 0 (wr (Reg.DMA_CH_CUR e ch) (dw addr) (dmaSetState e ch 1 t))))

/-- An activation ends with a code (R285). -/
def dmaEnd (e ch code : Nat) (s : State) : State :=
  let t := modDmaCh e ch (fun c => { c with desc := none, want := false, pre := none, phase := 0, data := [] })
    (setFld (Reg.DMA_CH_STATUS e ch) 10 8 code (dmaSetState e ch 0 s))
  let t1 := dmaSync e t
  if code = 1 ∨ code = 2 then raise 0x123 (e * 64 + ch) t1
  else if code = 3 ∨ code = 5 ∨ code = 6 then flagEvent (Reg.DMA_EVT_STATUS e) 0 0x124 (e * 64 + ch) t1
  else t1

/-! ## Streams (R286) -/

/-- Does the channel act as a stream channel? -/
def dmaStream (c : DmaChan) : Bool := bitOf c.cfg 31

/-- DMA_HALF: raised once the data of the first half has been accepted. -/
def dmaHalf (e ch : Nat) (s : State) : State :=
  let c := dmaChan e ch s
  match c.desc with
  | none => s
  | some d =>
    let h := dLen d / 128 * 64
    let low := fun (t : Txn) => decide (t.agent = .dma e ch) &&
      ((t.use == useRead && decide (t.addr < dSrc d + h)) || (t.use == useWrite && decide (t.addr < dDst d + h) && !t.noticed))
    if dmaStream c && bitOf c.cfg 29 && !c.half && decide (1 ≤ c.phase) && decide (h ≤ c.issued) && !(s.noc.txns.any low) then
      raise 0x121 (e * 64 + ch) (modDmaCh e ch (fun x => { x with half := true }) s)
    else s

/-! ## Bursts (R273, R274) -/

/-- The length of the next data burst of descriptor `d` after `issued` bytes. -/
def dmaBurst (d : List Byte) (issued : Nat) : Nat :=
  min (dLen d - issued) (min (256 - (dSrc d + issued) % 256) (256 - (dDst d + issued) % 256))

/-- Is the channel in keep-own mode (R286)? -/
def dmaKeepsOwn (c : DmaChan) : Bool := dmaStream c && bitOf c.cfg 30

/-- Has a STOPPING channel written all it read (R287)? -/
def dmaStopReady (e ch : Nat) (s : State) : Bool :=
  decide (dmaState e ch s = 2 ∧ (dmaChan e ch s).phase ≤ 2) && !(dmaHalting e s) && !(openUse (.dma e ch) useDesc s) &&
  !(openUse (.dma e ch) useRead s) && !(unaccepted (.dma e ch) useWrite s)

/-- Was the current descriptor of a STOPPING channel fetched, as the running one or ahead and owned (R287, log 66)? -/
def dmaStopFetched (e ch : Nat) (s : State) : Bool :=
  (dmaChan e ch s).desc.isSome || (match (dmaChan e ch s).pre with | some (a, d) => a == dmaCur e ch s && dOwn d | none => false)

/-- The completion write channel `ch` has ready: 4 CRC or STATUS, 5 OWN, 6 STATUS STOPPED, 0 none. A bus error stops it unless the STATUS
write has begun (R288, R289). -/
def dmaDue (e ch : Nat) (s : State) : Nat :=
  let c := dmaChan e ch s
  if dmaStopReady e ch s && dmaStopFetched e ch s then 6
  else match c.desc with
    | none => 0
    | some d =>
      if c.phase = 3 ∧ c.code = 1 ∧ dmaKeepsOwn c = false ∧ unaccepted (.dma e ch) useStat s = false then 5
      else if dmaHalting e s = false ∧ dmaState e ch s = 1 ∧
          ((c.phase = 1 ∧ dLen d ≤ c.issued ∧ openUse (.dma e ch) useRead s = false ∧ unaccepted (.dma e ch) useWrite s = false) ∨
           (c.phase = 2 ∧ unaccepted (.dma e ch) useCrc s = false)) then 4
      else 0

/-- May the channel prefetch: a descriptor with END 0 runs, and its completion does not reach the budget (R277, R285)? -/
def dmaMayPrefetch (e ch : Nat) (d : List Byte) (s : State) : Bool :=
  let c := dmaChan e ch s
  let budget := bitsOf c.cfg 15 0
  decide (1 ≤ c.phase ∧ c.code = 1 ∧ c.fetching = 0) && c.pre.isNone && !(dEnd d) &&
  (budget == 0 || decide ((rd (Reg.DMA_CH_DESC_CNT e ch) s).toNat + 1 < budget))

/-- What channel `ch` would issue next: a completion write (4 to 6), 1 a fetch, 2 a data read, 3 a prefetch (where one is asked for), 0 nothing.
Reads wait at the engine's transactions in flight (R273). -/
def dmaReady (e ch : Nat) (pre : Bool) (s : State) : Nat :=
  let c := dmaChan e ch s
  if flagOn (Reg.DMA_CTRL e) 0 s = false then 0
  else if dmaDue e ch s ≠ 0 then dmaDue e ch s
  else if dmaState e ch s ≠ 1 ∨ dmaHalting e s = true ∨ dmaInFlight e ≤ dmaInUse e s then 0
  else if c.want then 1
  else match c.desc with
    | none => 0
    | some d => if c.phase = 1 ∧ c.issued < dLen d then 2 else if pre && dmaMayPrefetch e ch d s then 3 else 0

/-- PRIO of a channel. -/
def dmaPrio (e ch : Nat) (s : State) : Nat := fld (Reg.DMA_CH_CFG e ch) 22 20 s

/-- The channels of priority `p` in round-robin order, from after the last one served (R274); the first time from channel 0 (log 66). -/
def dmaOrder (e p : Nat) (s : State) : List Nat :=
  let last := tabGet (fun _ => dmaChans e - 1) (dmaEng e s).rr p
  ((upto (dmaChans e)).map fun i => (last + 1 + i) % dmaChans e).filter fun ch => dmaPrio e ch s == p

/-- The channel served next: round-robin among the ready ones of the highest PRIO that has any. -/
def dmaPick (e : Nat) (pre : Bool) (s : State) : Option Nat :=
  ([7, 6, 5, 4, 3, 2, 1, 0].flatMap fun p => dmaOrder e p s).find? fun ch => dmaReady e ch pre s != 0

/-- The CRC-32C of a list of bytes (R280), one bit and one byte at a time. -/
def crcBit (c : Nat) : Nat := if c % 2 = 1 then (c / 2) ^^^ 0x82F63B78 else c / 2
def crcByte (c : Nat) (b : Byte) : Nat :=
  crcBit (crcBit (crcBit (crcBit (crcBit (crcBit (crcBit (crcBit (c ^^^ b.toNat))))))))
def crc32c (c : Nat) (bs : List Byte) : Nat := bs.foldl crcByte c

/-- A completion write goes out and the completion stands at phase `ph`, unless the own NI refuses it. -/
def dmaPut (e ch use a : Nat) (bs : List Byte) (ph : Nat) (s : State) : State :=
  dmaWrite e ch use a bs (modDmaCh e ch (fun c => { c with phase := ph }) s)

/-- Steps 2 and 3: the CRC, or STATUS with the code of the descriptor. -/
def dmaPutCrc (e ch : Nat) (d : List Byte) (s : State) : State :=
  let c := dmaChan e ch s
  let crc := crc32c c.crc (c.data.flatMap (·.2))
  dmaPut e ch useCrc (if epochA s then dmaCur e ch s + 32 else dDst d + dLen d) (leBytes 4 (crc ^^^ 0xFFFFFFFF)) 2
    (modDmaCh e ch (fun x => { x with crc := crc, data := [] }) s)
def dmaPutStatus (e ch : Nat) (s : State) : State :=
  dmaPut e ch useStat (dmaCur e ch s + 28) (leBytes 4 (dmaStatusWord ch (dmaChan e ch s).code)) 3 s

/-- STATUS STOPPED is written, and the activation ends; a refusal is a bus error, which prevails (R289). -/
def dmaPutStopped (e ch : Nat) (s : State) : State :=
  let t := dmaWrite e ch useStop (dmaCur e ch s + 28) (leBytes 4 (dmaStatusWord ch 4)) s
  if dmaHalting e t then t else dmaEnd e ch 4 t

/-- Channel `ch` issues what it has ready. -/
def dmaIssue (e ch : Nat) (pre : Bool) (s : State) : State :=
  let c := dmaChan e ch s
  let s1 := setDma e { dmaEng e s with rr := tabSet (fun _ => dmaChans e - 1) (dmaEng e s).rr (dmaPrio e ch s) ch } s
  match dmaReady e ch pre s, c.desc with
  | 1, _ => dmaRead e ch useDesc c.fetchAddr 32 0 (modDmaCh e ch (fun x => { x with want := false, fetching := 1 }) s1)
  | 2, some d =>
    dmaRead e ch useRead (dSrc d + c.issued) (dmaBurst d c.issued) 1 (modDmaCh e ch (fun x => { x with issued := x.issued + dmaBurst d c.issued }) s1)
  | 3, some d => dmaRead e ch useDesc (dNext d) 32 0 (modDmaCh e ch (fun x => { x with fetching := 2 }) s1)
  | 4, some d => if c.phase = 1 ∧ dCrc d = true then dmaPutCrc e ch d s1 else dmaPutStatus e ch s1
  | 5, some d => dmaPut e ch useOwn (dmaCur e ch s) (leBytes 4 (withBits (dWord d 0) 31 31 0)) 4 s1
  | 6, _ => dmaPutStopped e ch s1
  | _, _ => s1

/-- DMA_BURST_ISSUE: engine `e` issues its next burst; `pre` says it may prefetch. -/
def opDmaBurstIssue (e : Nat) (pre : Bool) (s : State) : State :=
  match dmaPick e pre s with
  | none => s
  | some ch => dmaIssue e ch pre s

/-- Channel `ch` issues a completion write it has ready, where it is its turn. -/
def dmaIssueDue (e ch : Nat) (s : State) : State :=
  if dmaDue e ch s ≠ 0 ∧ dmaPick e false s = some ch then dmaIssue e ch false s else s

/-- SWAP of a burst (R281). -/
def swapBytes (k : Nat) : List Byte → List Byte
  | a :: b :: c :: d :: t =>
    (match k with | 1 => [d, c, b, a] | 2 => [c, d, a, b] | 3 => [b, a, d, c] | _ => [a, b, c, d]) ++ swapBytes k t
  | l => l

/-- DMA_READ_ANSWER: the answer of data read `id` arrives and its data is written; after a bus error it is discarded. -/
def opDmaReadAnswer (e ch id : Nat) (s : State) : State :=
  match txnOf id s with
  | none => s
  | some t =>
    match t.ans with
    | none => s
    | some (code, bs) =>
      if t.agent = .dma e ch ∧ t.use = useRead then
        let s1 := dmaSync e (takeAns id s)
        if code ≠ 0 then dmaBusErr e t.addr 1 code s1
        else if dmaHalting e s then s1
        else match (dmaChan e ch s).desc with
          | none => s1
          | some d =>
            let off := t.addr - dSrc d
            let s2 := if dCrc d then modDmaCh e ch (fun c => { c with data := tabSet (fun _ => []) c.data off bs }) s1 else s1
            dmaWrite e ch useWrite (dDst d + off) (swapBytes (dSwap d) bs) s2
      else s

/-! ## Fetching (R277, R278) -/

/-- A fetched descriptor with OWN 1 is checked and executed, or its STATUS is written with the error. -/
def dmaExecute (e ch addr : Nat) (d : List Byte) (s : State) : State :=
  let t := wr (Reg.DMA_CH_CUR e ch) (dw addr) s
  let code := dCheck e d
  if code = 0 then
    dmaHalf e ch (modDmaCh e ch (fun c => { c with
      desc := some d, pre := none, issued := 0, phase := 1, code := 1, data := [], half := false,
      crc := if dCont d then c.crc else 0xFFFFFFFF }) t)
  else
    dmaIssueDue e ch
      (modDmaCh e ch (fun c => { c with desc := some d, pre := none, issued := 0, phase := 2, code := code, data := [], half := true }) t)

/-- A descriptor that decides is judged: executed, or the chain ends NOT_OWNED. -/
def dmaJudge (e ch addr : Nat) (d : List Byte) (s : State) : State :=
  if dOwn d then dmaExecute e ch addr d s
  else dmaEnd e ch 2 (wr (Reg.DMA_CH_CUR e ch) (dw addr) s)

/-- A prefetched copy is used as fetched, or fetched again (R277). -/
def dmaJudgePre (e ch addr : Nat) (d : List Byte) (s : State) : State :=
  if dOwn d then dmaExecute e ch addr d s
  else modDmaCh e ch (fun c => { c with pre := none, want := true, fetchAddr := addr }) s

/-- DMA_DESCRIPTOR_FETCHED: the fetch of channel `ch` has been answered. A channel that is STOPPING keeps the copy. -/
def opDmaDescriptorFetched (e ch : Nat) (s : State) : State :=
  match waitingAns (.dma e ch) useDesc s with
  | none => s
  | some (t, code, d) =>
    let c := dmaChan e ch s
    let st := dmaState e ch s
    let s1 := dmaSync e (modDmaCh e ch (fun x => { x with fetching := 0 }) (takeAns t.id s))
    if code ≠ 0 then dmaBusErr e t.addr 0 code s1
    else if dmaHalting e s = true ∨ (st ≠ 1 ∧ st ≠ 2) then s1
    else if st = 2 ∨ (c.fetching = 2 ∧ c.phase ≠ 0) then modDmaCh e ch (fun x => { x with pre := some (t.addr, d) }) s1
    else if c.fetching = 2 then dmaJudgePre e ch t.addr d s1
    else dmaJudge e ch t.addr d s1

/-! ## Completion (R279, R280, R282) -/

/-- DMA_DATA_ACCEPTED: all data of the descriptor is written and accepted; the CRC or STATUS is written in the channel's turn (R274). -/
def opDmaDataAccepted (e ch : Nat) (s : State) : State :=
  if (dmaChan e ch s).phase = 1 ∧ dmaDue e ch s = 4 then dmaIssueDue e ch s else s

/-- DMA_CRC_ACCEPTED. -/
def opDmaCrcAccepted (e ch : Nat) (s : State) : State :=
  if (dmaChan e ch s).phase = 2 ∧ dmaDue e ch s = 4 then dmaIssueDue e ch s else s

/-- The chain goes on after a completion, or the activation ends (R285, R287, R289). After a bus error nothing more is fetched. -/
def dmaChainOn (e ch : Nat) (d : List Byte) (s : State) : State :=
  let c := dmaChan e ch s
  let budget := bitsOf c.cfg 15 0
  if dEnd d then dmaEnd e ch 1 s
  else
    let t := wr (Reg.DMA_CH_CUR e ch) (dw (dNext d)) s
    if budget ≠ 0 ∧ budget ≤ (rd (Reg.DMA_CH_DESC_CNT e ch) s).toNat then dmaEnd e ch 3 t
    else
      let t1 := modDmaCh e ch (fun x => { x with desc := none, phase := 0 }) t
      if dmaState e ch s ≠ 1 ∨ dmaHalting e s = true then t1
      else match c.pre with
        | some (a, b) => dmaJudgePre e ch a b t1
        | none => if c.fetching = 2 then t1 else modDmaCh e ch (fun x => { x with want := true, fetchAddr := dNext d }) t1

/-- Step 5: the token, DMA_DONE and DMA_FULL; then the chain goes on. -/
def dmaComplete (e ch : Nat) (d : List Byte) (s : State) : State :=
  let c := dmaChan e ch s
  let t := bump (Reg.DMA_DESC_DONE_CNT e) (bump (Reg.DMA_CH_DESC_CNT e ch) (modDmaCh e ch (fun x => { x with phase := 5 }) s))
  let t1 := if dTok d then
    dmaSync e (postToken (.dma e ch) (bitsOf c.tok 15 13) (bitsOf c.tok 12 0) (bitsOf c.tok 18 16) (dUser d * 65536 + ch * 256 + 1) t) else t
  let t2 := if dIrq d then raise 0x120 (e * 64 + ch) t1 else t1
  let t3 := if dmaStream c && bitOf c.cfg 28 then raise 0x122 (e * 64 + ch) t2 else t2
  dmaChainOn e ch d t3

/-- DMA_STATUS_ACCEPTED: word 0 is written with OWN 0, or in keep-own mode the descriptor is complete; an error code ends the activation. -/
def opDmaStatusAccepted (e ch : Nat) (s : State) : State :=
  let c := dmaChan e ch s
  match c.desc with
  | none => s
  | some d =>
    if c.phase = 3 ∧ unaccepted (.dma e ch) useStat s = false then
      if c.code ≠ 1 then dmaEnd e ch c.code s
      else if dmaKeepsOwn c then dmaComplete e ch d s
      else dmaIssueDue e ch s
    else s

/-- DMA_OWN_ACCEPTED. -/
def opDmaOwnAccepted (e ch : Nat) (s : State) : State :=
  let c := dmaChan e ch s
  match c.desc with
  | none => s
  | some d => if c.phase = 4 ∧ unaccepted (.dma e ch) useOwn s = false then dmaComplete e ch d s else s

/-! ## Stops (R287) -/

/-- A write of 1 to DMA_CH_CTRL.STOP, a policy or a removal stops an ACTIVE channel. -/
def dmaStop (e ch : Nat) (s : State) : State :=
  if dmaState e ch s = 1 then dmaSync e (dmaSetState e ch 2 (modDmaCh e ch (fun c => { c with want := false }) s)) else s

/-- DMA_STOP_COMPLETE: what was read is written; STATUS STOPPED is written where the current descriptor was fetched, and the channel is IDLE. -/
def opDmaStopComplete (e ch : Nat) (s : State) : State :=
  if dmaStopReady e ch s then (if dmaStopFetched e ch s then dmaIssueDue e ch s else dmaEnd e ch 4 s) else s

/-- Is a channel's activation outstanding at the boundary that ends Round `k` (R47, R53, R287)? Its deadline is the Round of activation. -/
def dmaOutlasts (k e ch : Nat) (s : State) : Bool :=
  flagOn (Reg.DMA_CH_CFG e ch) 27 s && (dmaState e ch s == 1 || dmaState e ch s == 2) && deadlineEnds k (dmaChan e ch s).round s

/-- R287 at a boundary, for every channel with a deadline. -/
def dmaBoundary (k e : Nat) (s : State) : State :=
  forEach (upto (dmaChans e)) (fun ch t =>
    if dmaOutlasts k e ch t && policyOf (fld (Reg.DMA_CH_CFG e ch) 25 23 t) t != 0 then dmaStop e ch t else t) s

/-- Classes with outstanding activations in engine `e`. -/
def dmaClasses (k e : Nat) (s : State) : List Nat :=
  ((upto (dmaChans e)).filter fun ch => dmaOutlasts k e ch s).map fun ch => fld (Reg.DMA_CH_CFG e ch) 25 23 s

/-- The stream limit at a commit (R286); `old` says which channels were stream channels before it. -/
def dmaStreams (e : Nat) (old : Nat → Bool) (s : State) : State :=
  let on := fun ch => flagOn (Reg.DMA_CH_CFG e ch) 31 s
  let kept := (upto (dmaChans e)).filter fun ch => old ch && on ch
  let fresh := (upto (dmaChans e)).filter fun ch => on ch && !(old ch)
  let excess := fresh.drop ((if e = 32 then 8 else 1) - kept.length)
  match excess with
  | [] => s
  | ch :: _ => flagEvent (Reg.DMA_EVT_STATUS e) 2 0x126 (e * 64 + ch) (forEach excess (fun c t => setFld (Reg.DMA_CH_CFG e c) 31 31 0 t) s)

/-! ## Meanings of the commands -/

/-- DMA_DESCRIPTOR_FETCHED (R277). -/
def execDmaDescriptorFetched (e ch : Nat) (s : State) : Host.Outcome State Fault Refusal :=
  .next (gated false (below 33 e && chanOk e ch) (opDmaDescriptorFetched e ch) s)
/-- DMA_BURST_ISSUE (R274). -/
def execDmaBurstIssue (e : Nat) (pre : Bool) (s : State) : Host.Outcome State Fault Refusal :=
  .next (gated false (below 33 e) (opDmaBurstIssue e pre) s)
/-- DMA_READ_ANSWER (R273). -/
def execDmaReadAnswer (e ch id : Nat) (s : State) : Host.Outcome State Fault Refusal :=
  .next (gated false (below 33 e && chanOk e ch) (opDmaReadAnswer e ch id) s)
/-- DMA_QUIET (R288). -/
def execDmaQuiet (e : Nat) (s : State) : Host.Outcome State Fault Refusal := .next (gated false (below 33 e) (opDmaQuiet e) s)
/-- DMA_DATA_ACCEPTED (R279). -/
def execDmaDataAccepted (e ch : Nat) (s : State) : Host.Outcome State Fault Refusal :=
  .next (gated false (below 33 e && chanOk e ch) (opDmaDataAccepted e ch) s)
/-- DMA_CRC_ACCEPTED (R279). -/
def execDmaCrcAccepted (e ch : Nat) (s : State) : Host.Outcome State Fault Refusal :=
  .next (gated false (below 33 e && chanOk e ch) (opDmaCrcAccepted e ch) s)
/-- DMA_STATUS_ACCEPTED (R279). -/
def execDmaStatusAccepted (e ch : Nat) (s : State) : Host.Outcome State Fault Refusal :=
  .next (gated false (below 33 e && chanOk e ch) (opDmaStatusAccepted e ch) s)
/-- DMA_OWN_ACCEPTED (R279). -/
def execDmaOwnAccepted (e ch : Nat) (s : State) : Host.Outcome State Fault Refusal :=
  .next (gated false (below 33 e && chanOk e ch) (opDmaOwnAccepted e ch) s)
/-- DMA_STOP_COMPLETE (R287). -/
def execDmaStopComplete (e ch : Nat) (s : State) : Host.Outcome State Fault Refusal :=
  .next (gated false (below 33 e && chanOk e ch) (opDmaStopComplete e ch) s)

end Sys2Proof.Machine
end

