-- ==== Sys2Proof/Machine/Cfa.lean ====
section
/-! DEFINITION. The carrier filter array (R294 to R319): filter stages, aligner, rings, hand-over, detectors, and the checks of a commit. -/
namespace Sys2Proof.Machine

/-! ## Channels -/

/-- Channel `ch`. -/
def cfaChan (ch : Nat) (s : State) : CfaChan := tabGet (fun _ => ({} : CfaChan)) s.cfa.chans ch
def setCfa (ch : Nat) (x : CfaChan) (s : State) : State :=
  { s with cfa := { s.cfa with chans := tabSet (fun _ => ({} : CfaChan)) s.cfa.chans ch x } }
def modCfa (ch : Nat) (f : CfaChan → CfaChan) (s : State) : State := setCfa ch (f (cfaChan ch s)) s

/-- Fields of CFA_CH_CFG. -/
def cfaCfg (ch : Nat) (s : State) : Nat := (rd (Reg.CFA_CH_CFG ch) s).toNat
def cgEn (c : Nat) : Bool := bitOf c 31
def cgDown (c : Nat) : Bool := bitOf c 30
def cgAlign (c : Nat) : Bool := bitOf c 29
def cgTok (c : Nat) : Bool := bitOf c 28
def cgStages (c : Nat) : Nat := bitsOf c 27 26
def cgDet (c : Nat) : Nat := bitsOf c 25 25
def cgLane (c : Nat) : Nat := bitsOf c 20 16
def cgStream (c : Nat) : Nat := bitsOf c 15 10
def cgRmult (c : Nat) : Nat := bitsOf c 8 0

/-- Fields of CFA_CH_STAGE. -/
def sgSet (w : Nat) : Nat := bitsOf w 31 24
def sgShift (w : Nat) : Nat := bitsOf w 23 19
def sgFold (w : Nat) : Bool := bitOf w 18
def sgCode (w : Nat) : Nat := bitsOf w 17 14
def sgTaps (w : Nat) : Nat := bitsOf w 8 0

/-- The factor of a rate code (R296); 1 for the invalid codes, which no configuration in effect holds. -/
def rateOf (c : Nat) : Nat := match c with | 0 => 1 | 1 => 2 | 2 => 3 | 3 => 4 | 4 => 5 | 5 => 6 | 6 => 8 | 7 => 12 | 8 => 16 | _ => 1

/-- Does the channel run: EN, CFA_CTRL.EN, and its half powered? -/
def cfaRuns (ch : Nat) (s : State) : Bool :=
  cgEn (cfaCfg ch s) && flagOn Reg.CFA_CTRL 0 s && (guardCode (ioDom (8 + ch / 512)) s).isNone

/-- The stage words of a channel, and the product of the used factors (R295). -/
def cfaStage (ch i : Nat) (s : State) : Nat := (rd (Reg.CFA_CH_STAGE ch i) s).toNat
def cfaTotal (ch : Nat) (s : State) : Nat := ((upto (cgStages (cfaCfg ch s))).map fun i => rateOf (sgCode (cfaStage ch i s))).foldl (· * ·) 1

/-- An event at most once per channel and Round (R297, R306, R308, R315). -/
def cfaEvent (ch bit num : Nat) (s : State) : State :=
  if (cfaChan ch s).raised.contains bit then s
  else flagEvent Reg.CFA_EVT_STATUS bit num ch (modCfa ch (fun c => { c with raised := bit :: c.raised }) s)

/-! ## Filters (R297 to R299) -/

/-- Coefficient `i` of set `k`: zero while its word fails (R302). -/
def cfaCoef (k i : Nat) (s : State) : CInt :=
  if s.cfa.bad.contains (k * 384 + i) then ⟨0, 0⟩ else cint16 (rd (Reg.CFA_COEF k i) s).toNat

/-- The coefficient a stage uses for tap `i` (R298). -/
def tapCoef (w i : Nat) (s : State) : CInt :=
  cfaCoef (sgSet w) (if sgFold w && decide ((sgTaps w + 1) / 2 ≤ i) then sgTaps w - 1 - i else i) s

/-- The pair at place `i` of a history; zero before the first input. -/
def histAt (l : List (Int × Int)) (i : Nat) : CInt := let p := l.getD i (0, 0); ⟨p.1, p.2⟩

/-- Round half to even after SHIFT and saturate both halves (R297): the sample and whether a half saturated. -/
def cfaRound (c : CInt) (sh : Nat) : (Int × Int) × Bool :=
  let re := roundShift 2 c.re sh
  let im := roundShift 2 c.im sh
  ((sat 16 re, sat 16 im), wraps 16 re || wraps 16 im)

/-- Exact sum of h over taps r, r + step, ... applied to the history (step 1 for a decimating stage). -/
def firSum (w r step : Nat) (hist : List (Int × Int)) (s : State) : CInt :=
  (upto ((sgTaps w + step - 1 - r) / step)).foldl (fun a j => a.add (CInt.mul (histAt hist j) (tapCoef w (r + j * step) s))) ⟨0, 0⟩

/-- One input of stage `i`: the outputs it gives, with the saturated ones counted. -/
def stageIn (ch i : Nat) (x : Int × Int) (s : State) : List (Int × Int) × State :=
  let w := cfaStage ch i s
  let r := rateOf (sgCode w)
  let c := cfaChan ch s
  let st := tabGet (fun _ => ({} : CfaStage)) c.st i
  let hist := (x :: st.hist).take 384
  let s1 := modCfa ch (fun y => { y with st := tabSet (fun _ => ({} : CfaStage)) y.st i { hist := hist, n := (st.n + 1) % r } }) s
  let outs := if cgDown (cfaCfg ch s) then (upto r).map fun k => cfaRound (firSum w k r hist s) (sgShift w)
    else if st.n % r = 0 then [cfaRound (firSum w 0 1 hist s) (sgShift w)] else []
  let excess := (outs.filter (·.2)).length
  (outs.map (·.1), if excess = 0 then s1 else cfaEvent ch 5 0x405 (bumpBy (Reg.CFA_CH_SAT_CNT ch) excess s1))

/-- Inputs through stages `i` to `k - 1`. -/
def stagesIn (ch : Nat) : Nat → Nat → List (Int × Int) → State → List (Int × Int) × State
  | 0, _, xs, s => (xs, s)
  | n + 1, i, xs, s =>
    let r := xs.foldl (fun (a : List (Int × Int) × State) x => let o := stageIn ch i x a.2; (a.1 ++ o.1, o.2)) ([], s)
    stagesIn ch n (i + 1) r.1 r.2

/-- One half of an aligner output at a phase other than 0: the sum of eight inputs by the coefficients of that phase, rounded half to even (R312). -/
def alignHalf (phi : Nat) (win : List Int) : Int :=
  roundShift 2 ((win.zip (upto 8)).foldl (fun acc x => acc + Config.alignTap phi x.2 * x.1) 0) Config.alignFraction

/-- One carrier sample through the aligner (R312), if it is in the path. Out of the path the aligner keeps its inputs too, which its first outputs
repeat when ALIGN_EN is turned on (R313). -/
def alignIn (ch : Nat) (x : Int × Int) (s : State) : (Int × Int) × State :=
  let hist := (x :: (cfaChan ch s).al).take 264
  let s1 := modCfa ch (fun c => { c with al := hist }) s
  if cgAlign (cfaCfg ch s) then
    let whole := fld (Reg.CFA_CH_DELAY ch) 15 8 s
    let phi := fld (Reg.CFA_CH_DELAY ch) 7 0 s
    let win := (upto 8).map fun j => histAt hist (whole + j)
    let y : Int × Int := if phi = 0 then (let c := histAt hist (whole + 3); (c.re, c.im))
      else (alignHalf phi (win.map (·.re)), alignHalf phi (win.map (·.im)))
    let excess := wraps 16 y.1 || wraps 16 y.2
    ((sat 16 y.1, sat 16 y.2), if excess then cfaEvent ch 5 0x405 (bump (Reg.CFA_CH_SAT_CNT ch) s1) else s1)
  else (x, s1)

/-! ## Detectors (R314, R315) -/

/-- One sample at the detector point. -/
def detectIn (ch : Nat) (x : Int × Int) (s : State) : State :=
  let c := cfaChan ch s
  let p := (x.1 * x.1 + x.2 * x.2).toNat
  let w := fld (Reg.CFA_CH_DET ch) 15 0 s + 1
  let p16 : Int := Int.ofNat p * 65536
  let k := if Int.ofNat p * 65536 > c.env then fld (Reg.CFA_CH_DET ch) 31 28 s else fld (Reg.CFA_CH_DET ch) 27 24 s
  let env := c.env + (p16 - c.env) / 2 ^ k
  let peak := max c.winPeak p
  let sum := c.winSum + p
  let c1 : CfaChan := if w ≤ c.winN + 1 then
      { c with winN := 0, winPeak := 0, winSum := 0, done := c.done ++ [(peak, sum / w)], env := env }
    else { c with winN := c.winN + 1, winPeak := peak, winSum := sum, env := env }
  let s1 := wr (Reg.CFA_CH_ENV ch) (dw (env / 65536).toNat) (setCfa ch c1 s)
  let thr := (rd (Reg.CFA_CH_ENV_THRESH ch) s).toNat
  if thr ≠ 0 ∧ c.env < Int.ofNat thr * 65536 ∧ Int.ofNat thr * 65536 ≤ env then cfaEvent ch 1 0x401 s1 else s1

/-- DETECTOR_WINDOW_END: the oldest completed window of the channel is reported. -/
def opDetectorWindowEnd (ch : Nat) (s : State) : State :=
  match (cfaChan ch s).done with
  | [] => s
  | (peak, rms) :: t =>
    let s1 := wr (Reg.CFA_CH_RMS ch) (dw rms) (wr (Reg.CFA_CH_PEAK ch) (dw peak) (modCfa ch (fun c => { c with done := t }) s))
    let thr := (rd (Reg.CFA_CH_PK_THRESH ch) s).toNat
    if thr ≠ 0 ∧ thr ≤ peak then cfaEvent ch 0 0x400 s1 else s1

/-! ## Memory errors (R302) -/

/-- An ECC finding at a CFA memory word: `word` below 98,304 is coefficient word set × 384 + i; above, channel × 2,048 + part × 512 + place,
parts 0 to 2 the stages and 3 the aligner. The failing word reads as zero from then on, until it is written. -/
def cfaMemErr (ecc : Ecc) (word : Nat) (s : State) : State :=
  match ecc with
  | .clean => s
  | .corrected => bump Reg.CFA_MEM_CORR_CNT s
  | .uncorrectable =>
    let ch := (word - 98304) / 2048
    let part := (word - 98304) % 2048 / 512
    let i := (word - 98304) % 512
    let half := if word < 98304 then 0 else ch / 512
    let s1 := flagEvent Reg.CFA_EVT_STATUS 6 0x406 half (bump Reg.CFA_MEM_UNCORR_CNT s)
    if word < 98304 then (if s.cfa.bad.contains word then s1 else { s1 with cfa := { s1.cfa with bad := word :: s1.cfa.bad } })
    else if part = 3 then modCfa ch (fun c => { c with al := c.al.set i (0, 0) }) s1
    else modCfa ch (fun c => { c with st := tabMod (fun _ => ({} : CfaStage)) c.st part (fun t => { t with hist := t.hist.set i (0, 0) }) }) s1

/-! ## Uplink (R305, R306, R311) -/

/-- The use of a line write: its line number, odd. -/
def useLine (line : Nat) : Nat := 2 * line + 1

/-- The four bytes of a sample (R62). -/
def sampleBytes (x : Int × Int) : List Byte := leBytes 2 (unsigned 16 x.1) ++ leBytes 2 (unsigned 16 x.2)
def sampleOf (bs : List Byte) (i : Nat) : Int × Int := (signed 16 (leAt bs (4 * i) 2), signed 16 (leAt bs (4 * i + 2) 2))

/-- Sample count of a channel. -/
def cfaCount (ch : Nat) (s : State) : Nat := (rd (Reg.CFA_CH_COUNT ch) s).toNat

/-- Ring address of the line that holds sample `c`. -/
def lineAddr (ch c : Nat) (s : State) : Nat :=
  let lines := fld (Reg.CFA_CH_BUF_LEN ch) 23 0 s
  (rd (Reg.CFA_CH_BUF ch) s).toNat / 64 * 64 + (if lines = 0 then 0 else c / 16 % lines) * 64

/-- Line writes of a channel that await acceptance. -/
def openLines (ch : Nat) (s : State) : List Nat :=
  (s.noc.txns.filter fun t => decide (t.agent = .cfa ch) && t.posted && !t.noticed && t.use % 2 == 1).map fun t => t.use / 2 * 16

/-- A full line is written, or dropped when four await acceptance. -/
def lineOut (ch c : Nat) (xs : List (Int × Int)) (s : State) : State :=
  if 4 ≤ (openLines ch s).length then cfaEvent ch 4 0x404 (bumpBy (Reg.CFA_CH_DROP_CNT ch) 16 s)
  else postWrite (.cfa ch) (useLine (c / 16)) (lineAddr ch c s) (xs.flatMap sampleBytes) false s

/-- One carrier sample of an uplink channel goes to its line. -/
def carrierUp (ch : Nat) (x : Int × Int) (s : State) : State :=
  let a := alignIn ch x s
  let s1 := if cgDet (cfaCfg ch s) = 1 then detectIn ch a.1 a.2 else a.2
  let c := cfaCount ch s
  let part := (cfaChan ch s1).part ++ [a.1]
  let s2 := wr (Reg.CFA_CH_COUNT ch) (dw ((c + 1) % 2 ^ 32)) s1
  if part.length < 16 then modCfa ch (fun y => { y with part := part }) s2
  else lineOut ch (c / 16 * 16) part (modCfa ch (fun y => { y with part := [] }) s2)

/-- One link-side sample of an uplink channel. -/
def linkUpIn (ch : Nat) (x : Int × Int) (s : State) : State :=
  let s1 := if cgDet (cfaCfg ch s) = 0 then detectIn ch x s else s
  let r := stagesIn ch (cgStages (cfaCfg ch s)) 0 [x] s1
  r.1.foldl (fun t y => carrierUp ch y t) r.2

/-- Samples of a link block for an uplink channel; `k` of them zero for want of a source, taken at the link rate, are counted (R311). -/
def cfaUp (ch : Nat) (xs : List (Int × Int)) (s : State) : State := xs.foldl (fun t x => linkUpIn ch x t) s
def cfaUpZero (ch k : Nat) (s : State) : State := bumpBy (Reg.CFA_CH_GAP_CNT ch) k (cfaUp ch (List.replicate k (0, 0)) s)

/-- A superblock marks the first sample of the Round (R310). -/
def cfaMark (ch : Nat) (s : State) : State := wr (Reg.CFA_CH_ROUND_POS ch) (dw (cfaCount ch s)) s

/-! ## Downlink (R307, R308) -/

/-- How far READY lies ahead of sample `c`, modulo 2^32. -/
def readyAhead (ch c : Nat) (s : State) : Nat := ((rd (Reg.CFA_CH_READY ch) s).toNat + 2 ^ 32 - c % 2 ^ 32) % 2 ^ 32
def readyIn (lo ch c : Nat) (s : State) : Bool := decide (lo ≤ readyAhead ch c s ∧ readyAhead ch c s < 2 ^ 31)

/-- Software advances the ready count. -/
def readyWrite (ch v : Nat) (s : State) : State := wr (Reg.CFA_CH_READY ch) (dw (v % 2 ^ 32)) s

/-- Lines a channel keeps: those that still hold a sample to come. -/
def linesKept (ch : Nat) (s : State) : List (Nat × Option (List (Int × Int))) :=
  (cfaChan ch s).ahead.filter fun l => decide ((l.1 + 2 ^ 32 - cfaCount ch s / 16 * 16) % 2 ^ 32 < 64)

/-- CFA_LINE_READ: a downlink channel reads its next line once READY covers it. -/
def opCfaLineRead (ch : Nat) (s : State) : State :=
  let here := cfaCount ch s / 16 * 16
  let next := if ((cfaChan ch s).next + 2 ^ 32 - here) % 2 ^ 32 < 64 then (cfaChan ch s).next else here
  let kept := linesKept ch s
  if cfaRuns ch s = true ∧ cgDown (cfaCfg ch s) = true ∧ readyIn 1 ch (next + 15) s = true ∧ kept.length < 4 ∧
     kept.any (fun l => l.1 == next) = false then
    reqRead (.cfa ch) (2 * (next / 16)) (lineAddr ch next s) 64 false
      (modCfa ch (fun c => { c with ahead := kept ++ [(next, none)], next := (next + 16) % 2 ^ 32 }) s)
  else s

/-- CFA_LINE_READ_ANSWER: read `id` of the channel lands; one that fails leaves its samples absent (R308, log 43). -/
def opCfaLineReadAnswer (ch id : Nat) (s : State) : State :=
  match txnOf id s with
  | none => s
  | some t =>
    match t.ans with
    | none => s
    | some (code, bs) =>
      if t.agent = .cfa ch ∧ t.use % 2 = 0 ∧ t.posted = false then
        let s1 := takeAns id s
        if code = 0 then
          modCfa ch (fun c => { c with ahead := c.ahead.map fun l => if l.1 = t.use / 2 * 16 then (l.1, some ((upto 16).map (sampleOf bs))) else l }) s1
        else s1
      else s

/-- Sample `c` if it is in the CFA and ready. -/
def ringSample (ch c : Nat) (s : State) : Option (Int × Int) :=
  if readyIn 1 ch c s then
    match (cfaChan ch s).ahead.find? (fun l => l.1 == c / 16 * 16) with
    | some (_, some xs) => xs[c % 16]?
    | _ => none
  else none

/-- Is the channel sending blank after an underrun (CFA_CH_STATUS.BLANK)? -/
def cfaBlank (ch : Nat) (s : State) : Bool := flagOn (Reg.CFA_CH_STATUS ch) 30 s

/-- One carrier sample of a downlink channel: its outputs join those to be sent. Beyond the first P of a Round everything is blank (R311). -/
def carrierDown (ch : Nat) (s : State) : State :=
  let c := cfaCount ch s
  let x := ringSample ch c s
  let miss := !(cfaBlank ch s) && !s.round.beyondP && x.isNone
  let s1 := if miss then cfaEvent ch 3 0x403 (setFlag (Reg.CFA_CH_STATUS ch) 30 s) else s
  let blank := cfaBlank ch s1 || s.round.beyondP
  let v := if blank then (0, 0) else x.getD (0, 0)
  let s2 := if cgDet (cfaCfg ch s) = 1 then detectIn ch v s1 else s1
  let a := alignIn ch v (wr (Reg.CFA_CH_COUNT ch) (dw ((c + 1) % 2 ^ 32)) s2)
  let r := stagesIn ch (cgStages (cfaCfg ch s)) 0 [a.1] a.2
  modCfa ch (fun y => { y with out := y.out ++ r.1.map fun o => (o, blank) }) r.2

/-- The next `k` link-side samples of a downlink channel with their blank flags; at most `n` carrier samples are taken for them. -/
def cfaDown (ch k : Nat) : Nat → State → List ((Int × Int) × Bool) × State
  | 0, s => ((cfaChan ch s).out.take k, modCfa ch (fun c => { c with out := c.out.drop k }) s)
  | n + 1, s =>
    if k ≤ (cfaChan ch s).out.length then ((cfaChan ch s).out.take k, modCfa ch (fun c => { c with out := c.out.drop k }) s)
    else cfaDown ch k n (carrierDown ch s)

/-- The samples a channel sends in one block, counted where an underrun blanks them, and measured on the link side. Beyond the first P of a Round
all are blank, those computed before it too (R51, R311). -/
def cfaSend (ch k : Nat) (s : State) : List ((Int × Int) × Bool) × State :=
  let r := cfaDown ch k k s
  let xs := if s.round.beyondP then r.1.map fun _ => ((0, 0), true) else r.1
  let s1 := if cfaBlank ch r.2 then bumpBy (Reg.CFA_CH_UNDERRUN_CNT ch) (xs.filter (·.2)).length r.2 else r.2
  (xs, if cgDet (cfaCfg ch s) = 0 then xs.foldl (fun t x => detectIn ch x.1 t) s1 else s1)

/-! ## Hand-over (R309) -/

/-- The token VALUE of an uplink channel: how far every line has been accepted. A dropped line is passed over (log 42). -/
def acceptedTo (ch : Nat) (s : State) : Nat :=
  let done := cfaCount ch s / 16 * 16
  ((openLines ch s).map fun l => (l, (l + 2 ^ 32 - done) % 2 ^ 32)).foldl (fun (b : Nat × Nat) x => if x.2 ≥ 2 ^ 31 ∧ x.2 < b.2 then x else b) (done, 2 ^ 32) |>.1

/-- Half `half` acts on a hand-over: the token of each running channel of the range. -/
def cfaHandover (half first count : Nat) (s : State) : State :=
  forEach ((upto count).map (first + ·) |>.filter fun ch => decide (ch / 512 = half) && decide (ch < 1024)) (fun ch t =>
    if cfaRuns ch t && cgTok (cfaCfg ch t) then
      let w := (rd (Reg.CFA_CH_TOKEN ch) t).toNat
      bump (Reg.CFA_CH_HANDOVER_CNT ch)
        (postToken (.cfa ch) (bitsOf w 15 13) (bitsOf w 12 0) (bitsOf w 18 16) (if cgDown (cfaCfg ch t) then cfaCount ch t else acceptedTo ch t) t)
    else t) s

/-- CFA_HANDOVER: hand-over packet `id` has been accepted at its half. -/
def opCfaHandover (id : Nat) (s : State) : State :=
  match txnOf id s with
  | none => s
  | some t =>
    match t.body, t.stage with
    | .handover half first count, .accepted => answer id 0 [] (cfaHandover half first count s)
    | _, _ => s

/-! ## Coefficients (R301) -/

/-- The value a register will have: its live value with the shadows that wait applied. -/
def pendingReg (off : Nat) (s : State) : Nat :=
  s.csr.shadow.foldl (fun v x => if x.off = off then v - (v &&& x.mask) + (x.value &&& x.mask) else v) (rd off s).toNat

/-- The word of the last write that waits for a register, its reserved bits as written; 0 where none waits. -/
def pendingWord (off : Nat) (s : State) : Nat := s.csr.shadow.foldl (fun v x => if x.off = off then x.value else v) 0

/-- Does a configuration (CFG word, stage words) name set `k` in a stage it uses? -/
def namesSet (cfg : Nat) (st : Nat → Nat) (k : Nat) : Bool :=
  cgEn cfg && (upto (cgStages cfg)).any fun i => sgSet (st i) == k

/-- Is set `k` in use by a configuration in effect or pending? -/
def setInUse (k : Nat) (s : State) : Bool :=
  (upto 1024).any fun ch => namesSet (cfaCfg ch s) (fun i => cfaStage ch i s) k ||
    namesSet (pendingReg (Reg.CFA_CH_CFG ch) s) (fun i => pendingReg (Reg.CFA_CH_STAGE ch i) s) k

/-- A write of CFA_COEF k i: the response code and the effect. -/
def coefWrite (k i v : Nat) (s : State) : Nat × State :=
  if setInUse k s then (7, s)
  else (0, wr (Reg.CFA_COEF k i) (dw (v % 2 ^ 32)) { s with cfa := { s.cfa with bad := s.cfa.bad.filter (· ≠ k * 384 + i) } })

/-! ## Commits (R299, R303, R304, R308, R313) -/

/-- The cost of a configuration in units of 16,000 taps per second (R303). -/
def stageCost (down : Bool) (w rin : Nat) : Nat × Nat :=
  let r := rateOf (sgCode w)
  let rout := if down then rin * r else rin / r
  if down && decide (1 < r) then ((sgTaps w + r - 1) / r * rout, rout)
  else ((if sgFold w then (sgTaps w + 1) / 2 else sgTaps w) * rout, rout)

def cfaCost (cfg : Nat) (st : Nat → Nat) : Nat :=
  if cgEn cfg then
    let f := 120 * cgRmult cfg
    let total := ((upto (cgStages cfg)).map fun i => rateOf (sgCode (st i))).foldl (· * ·) 1
    let fc := f / total
    let start := if cgDown cfg then fc else f
    let sum := (upto (cgStages cfg)).foldl (fun (a : Nat × Nat) i => let x := stageCost (cgDown cfg) (st i) a.2; (a.1 + x.1, x.2)) (0, start)
    sum.1 + (if cgAlign cfg then 8 * fc else 0)
  else 0

/-- Registers a rejection discards, and the reserved bits of each (R304, R318). -/
def cfaCfgOffs (ch : Nat) : List (Nat × Nat) :=
  [(Reg.CFA_CH_CFG ch, 0x01E00200), (Reg.CFA_CH_STAGE ch 0, 0x3E00), (Reg.CFA_CH_STAGE ch 1, 0x3E00), (Reg.CFA_CH_STAGE ch 2, 0x3E00),
   (Reg.CFA_CH_DELAY ch, 0xFFFF0000), (Reg.CFA_CH_DET ch, 0x00FF0000)]

/-- Has the channel a pending write to its configuration? -/
def cfaPending (ch : Nat) (s : State) : Bool := s.csr.shadow.any fun x => (cfaCfgOffs ch).any fun o => o.1 == x.off

/-- The cost of the configuration in effect, and of the pending one. -/
def costNow (ch : Nat) (s : State) : Nat := cfaCost (cfaCfg ch s) (fun i => cfaStage ch i s)
def costPending (ch : Nat) (s : State) : Nat := cfaCost (pendingReg (Reg.CFA_CH_CFG ch) s) (fun i => pendingReg (Reg.CFA_CH_STAGE ch i) s)

/-- The first check that fails (R304), 0 where none does. -/
def cfaCause (ch : Nat) (s : State) : Nat :=
  let cfg := pendingReg (Reg.CFA_CH_CFG ch) s
  let st := fun i => pendingReg (Reg.CFA_CH_STAGE ch i) s
  let used := upto (cgStages cfg)
  let total := (used.map fun i => rateOf (sgCode (st i))).foldl (· * ·) 1
  let half := (upto 512).map (512 * (ch / 512) + ·)
  if cgRmult cfg = 0 ∨ 256 < cgRmult cfg ∨ used.any (fun i => decide (8 < sgCode (st i)) || decide (sgTaps (st i) = 0) || decide (384 < sgTaps (st i))) = true then 1
  else if 120 * cgRmult cfg % total ≠ 0 then 2
  else if (cfaCfgOffs ch).any (fun o => decide (pendingWord o.1 s &&& o.2 ≠ 0)) = true ∨ bitsOf (pendingReg (Reg.CFA_CH_BUF_LEN ch) s) 23 0 = 0 then 3
  else if cgDown cfg = true ∧ (upto ch).any (fun d =>
      let c := pendingReg (Reg.CFA_CH_CFG d) s
      cgEn c && cgDown c && cgLane c == cgLane cfg && cgStream c == cgStream cfg && cgRmult c != cgRmult cfg) = true then 4
  else if 93750000 < (half.map fun d => if d ≤ ch then costPending d s else costNow d s).foldl (· + ·) 0 then 5
  else 0

/-- The checks of one commit, before its apply stage, in ascending channel order. -/
def cfaCheck (s : State) : State :=
  forEach ((upto 1024).filter fun ch => cfaPending ch s) (fun ch t =>
    if cgEn (pendingReg (Reg.CFA_CH_CFG ch) t) && cfaCause ch t != 0 then
      flagEvent Reg.CFA_EVT_STATUS 2 0x402 ch (wr Reg.CFA_LAST_REJECT (dw (cfaCause ch t * 0x10000000 + ch))
        (bump Reg.CFA_REJECT_CNT (setFlag (Reg.CFA_CH_STATUS ch) 31
          { t with csr := { t.csr with shadow := t.csr.shadow.filter fun x => !((cfaCfgOffs ch).any fun o => o.1 == x.off) } })))
    else setFld (Reg.CFA_CH_STATUS ch) 31 31 0 t) s

/-- The rates of a channel (R295): link side and carrier side. -/
def cfaRates (ch : Nat) (s : State) : Nat × Nat := (cgRmult (cfaCfg ch s), cfaTotal ch s)

/-- What a channel's configuration in effect was: CFG, stage and DET words, and whether it ran. -/
def cfaView (ch : Nat) (s : State) : Nat × Nat × Nat × Nat × Nat × Bool :=
  (cfaCfg ch s, cfaStage ch 0 s, cfaStage ch 1 s, cfaStage ch 2 s, (rd (Reg.CFA_CH_DET ch) s).toNat, cfaRuns ch s)

/-- A commit's effect on one channel, from the configuration `s0` had to the one in effect: filter state zeroed where R299 says, the window
restarted where R314 says, everything where the channel is enabled. -/
def cfaApplied (ch : Nat) (s0 s : State) : State :=
  let a := cfaView ch s0
  let b := cfaView ch s
  if a = b then s
  else
    let all := decide (cgDown a.1 ≠ cgDown b.1 ∨ cgStages a.1 ≠ cgStages b.1 ∨ cgRmult a.1 ≠ cgRmult b.1)
    let shape := fun w => (sgTaps w, sgCode w)
    let hit := fun i => all || decide (shape (cfaStage ch i s0) ≠ shape (cfaStage ch i s))
    let enabled := b.2.2.2.2.2 && !a.2.2.2.2.2
    let stopped := a.2.2.2.2.2 && !b.2.2.2.2.2
    let win := decide (cfaRates ch s0 ≠ cfaRates ch s) || decide (cgDet a.1 ≠ cgDet b.1) || decide (bitsOf a.2.2.2.2.1 15 0 ≠ bitsOf b.2.2.2.2.1 15 0)
    let t := if enabled then
        wr (Reg.CFA_CH_ENV ch) 0 (wr (Reg.CFA_CH_COUNT ch) 0 (setFld (Reg.CFA_CH_STATUS ch) 30 29 0 (setCfa ch {} s)))
      else modCfa ch (fun c => { c with
        st := (upto 3).foldl (fun l i => if hit i then tabSet (fun _ => ({} : CfaStage)) l i {} else l) c.st
        al := if all then [] else c.al
        out := if all || stopped then [] else c.out
        part := if stopped then [] else c.part
        ahead := if stopped then [] else c.ahead
        winN := if win || stopped then 0 else c.winN
        winPeak := if win || stopped then 0 else c.winPeak
        winSum := if win || stopped then 0 else c.winSum }) s
    setFld (Reg.CFA_CH_STATUS ch) 26 0 (costNow ch t) t

/-- The sum of costs in effect (CFA_BUDGET_USED). -/
def cfaBudget (s : State) : State :=
  forEach [0, 1] (fun h t => wr (Reg.CFA_BUDGET_USED h) (dw (((upto 512).map fun i => costNow (512 * h + i) t).foldl (· + ·) 0)) t) s

/-- A commit at the CFA after the apply stage. -/
def cfaCommit (s0 s : State) : State :=
  let t := forEach (upto 1024) (fun ch u => cfaApplied ch s0 u) s
  if (upto 1024).any (fun ch => decide (cfaView ch s0 ≠ cfaView ch s)) then cfaBudget t else t

/-- A new Round at the CFA: events may be raised again, and a channel that underran resumes where READY is far enough ahead (R308). -/
def cfaNewRound (s : State) : State :=
  forEach ((upto 1024).filter fun ch => cfaBlank ch s || !((cfaChan ch s).raised.isEmpty)) (fun ch t =>
    let t1 := if (cfaChan ch t).raised.isEmpty then t else modCfa ch (fun c => { c with raised := [] }) t
    if cfaBlank ch t1 && readyIn 64 ch (cfaCount ch t1) t1 then setFld (Reg.CFA_CH_STATUS ch) 30 30 0 t1 else t1) s

/-! ## Meanings of the commands -/

/-- CFA_HANDOVER (R309). -/
def execCfaHandover (id : Nat) (s : State) : Host.Outcome State Fault Refusal := .next (gated false true (opCfaHandover id) s)
/-- CFA_LINE_READ (R307). -/
def execCfaLineRead (ch : Nat) (s : State) : Host.Outcome State Fault Refusal := .next (gated false (below 1024 ch) (opCfaLineRead ch) s)
/-- CFA_LINE_READ_ANSWER (R307). -/
def execCfaLineReadAnswer (ch id : Nat) (s : State) : Host.Outcome State Fault Refusal :=
  .next (gated false (below 1024 ch) (opCfaLineReadAnswer ch id) s)
/-- DETECTOR_WINDOW_END (R314). -/
def execDetectorWindowEnd (ch : Nat) (s : State) : Host.Outcome State Fault Refusal := .next (gated false (below 1024 ch) (opDetectorWindowEnd ch) s)

end Sys2Proof.Machine
end

