-- ==== Sys2Proof/Machine/Mac.lean ====
section
/-! DEFINITION. The Ethernet MACs (R368 to R392, R405, R406) and their fronthaul gates (R320 to R331). What a frame's arrival does is in
Receive.lean, since management frames go to the security controller. -/
namespace Sys2Proof.Machine

/-- MAC `m`. -/
def mac (m : Nat) (s : State) : Mac := tabGet (fun _ => ({} : Mac)) s.mac m
def setMac (m : Nat) (x : Mac) (s : State) : State := { s with mac := tabSet (fun _ => ({} : Mac)) s.mac m x }
def modMac (m : Nat) (f : Mac → Mac) (s : State) : State := setMac m (f (mac m s)) s

/-- A MAC event, at most once per MAC and Round (R405). -/
def macEvent (m bit : Nat) (s : State) : State :=
  if (mac m s).raised.contains bit then s
  else flagEvent (Reg.MAC_EVT_STATUS m) bit (0x210 + bit) m (modMac m (fun x => { x with raised := bit :: x.raised }) s)

/-- A gate event, at most once per gate and Round (R330). -/
def fhgEvent (m bit : Nat) (s : State) : State :=
  if (mac m s).gRaised.contains bit then s
  else flagEvent (Reg.FHG_EVT_STATUS m) bit (0x3F0 + bit) m (modMac m (fun x => { x with gRaised := bit :: x.gRaised }) s)

/-! ## Ports, limits, timestamps -/

/-- The configuration of port A or B of a quad (R333 to R336): lanes it claims, rate code, PHY code, FEC code; none where it claims no lane. -/
def portOf (cfg side : Nat) : Option (Nat × Nat × Nat × Nat × Nat) :=
  let lanes : Option (Nat × Nat) := match bitsOf cfg 2 0, side with
    | 1, 0 => some (0, 1) | 2, 0 => some (0, 1) | 2, _ => some (1, 1) | 3, 0 => some (0, 2) | 4, 0 => some (0, 2) | 4, _ => some (2, 1)
    | 5, 0 => some (0, 2) | 5, _ => some (2, 2) | 6, 0 => some (0, 4) | _, _ => none
  lanes.map fun l =>
    if side = 0 then (l.1, l.2, bitsOf cfg 6 4, bitsOf cfg 9 8, bitsOf cfg 11 10)
    else (l.1, l.2, bitsOf cfg 14 12, bitsOf cfg 17 16, bitsOf cfg 19 18)

/-- The port of MAC `m`, and STATE of a port: 0 DOWN, 1 AN, 2 TRAINING, 3 UP. -/
def macPort (m : Nat) (s : State) : Option (Nat × Nat × Nat × Nat × Nat) := portOf (rd (Reg.LANE_QUAD_CFG (m / 2)) s).toNat (m % 2)
def portState (m : Nat) (s : State) : Nat := fld (Reg.LANE_QUAD_STATUS (m / 2)) (2 * (m % 2) + 1) (2 * (m % 2)) s

/-- MAC loop (R510, R538), and is the MAC up (R369)? -/
def macLoop (m : Nat) (s : State) : Bool := flagOn Reg.SPARE_LOOP_MAC m s && !(inReplay s)
def macUp (m : Nat) (s : State) : Bool := flagOn (Reg.MAC_STATUS m) 0 s || macLoop m s

/-- MAX_FRAME as it acts (R371), and the tags of a frame: how many lead, and the place after them. -/
def maxFrame (m : Nat) (s : State) : Nat := min 9216 (max 1518 (fld (Reg.MAC_CFG m) 13 0 s))
def tagCount : Nat → List Byte → Nat
  | 0, _ => 0
  | n + 1, bs => if (beNat (bs.take 2) = 0x8100 ∨ beNat (bs.take 2) = 0x88A8) ∧ 4 ≤ bs.length then 1 + tagCount n (bs.drop 4) else 0
def frameTags (bs : List Byte) : Nat := tagCount (bs.length / 4) (bs.drop 12)
def frameLimit (m : Nat) (bs : List Byte) (s : State) : Nat := maxFrame m s + 4 * min (frameTags bs) 2

/-- C_eg and C_in of a port in tenths of a nanosecond (R390): rate code, lanes, FEC code. -/
def tsConst (rate width fec : Nat) : Nat × Nat :=
  match rate, width, fec with
  | 1, _, 0 => (426, 582) | 1, _, _ => (964, 1410)
  | 2, 1, 0 => (221, 317) | 2, 1, 1 => (443, 795) | 2, 1, _ => (618, 1046)
  | 2, _, _ => (635, 1212)
  | 3, 1, _ => (584, 1129) | 3, 2, _ => (557, 1098) | 3, _, _ => (532, 1041)
  | _, 1, _ => (489, 1013) | _, 2, _ => (460, 967) | _, _, _ => (448, 935)

/-- Picoseconds in units of the time of day. -/
def psUnits (ps : Int) : Int := ps * 4294967296 / 1000

/-- A raw timestamp referred to the pins (R390). -/
def tsCorrect (m : Nat) (egress : Bool) (c : Int) (raw : Nat) (s : State) : Nat :=
  if flagOn (Reg.MAC_TS_CFG m) 0 s then
    let adj := psUnits (if egress then signed 32 (fld (Reg.MAC_TS_ADJ m) 31 0 s) else signed 32 (fld (Reg.MAC_TS_ADJ m) 63 32 s))
    (if egress then Int.ofNat raw + (c + adj) else Int.ofNat raw - (c + adj)).toNat
  else raw

/-- C of a lane MAC in units of the time of day. -/
def macConst (m : Nat) (egress : Bool) (s : State) : Int :=
  match macPort m s with
  | none => 0
  | some (_, width, rate, _, fec) => psUnits (100 * Int.ofNat (if egress then (tsConst rate width fec).1 else (tsConst rate width fec).2))

/-- The STEP_SEQ in force (R391). -/
def stepSeq (s : State) : Nat := fld Reg.TIME_STATUS 9 8 s

/-- CRC-32 of IEEE 802.3 and the FCS of a frame. -/
def crc32Bit (c : Nat) : Nat := if c % 2 = 1 then (c / 2) ^^^ 0xEDB88320 else c / 2
def crc32Byte (c : Nat) (b : Byte) : Nat :=
  crc32Bit (crc32Bit (crc32Bit (crc32Bit (crc32Bit (crc32Bit (crc32Bit (crc32Bit (c ^^^ b.toNat))))))))
def fcsOf (bs : List Byte) : List Byte := leBytes 4 ((bs.foldl crc32Byte 0xFFFFFFFF) ^^^ 0xFFFFFFFF)

/-- A frame as it is sent: padded to 60 bytes, with its FCS. -/
def framed (bs : List Byte) : List Byte :=
  let p := bs ++ List.replicate (60 - bs.length) 0
  p ++ fcsOf p

/-! ## Receive queues (R375 to R379) -/

/-- Queue `q` of MAC `m`. -/
def rxq (m q : Nat) (s : State) : RxQueue := tabGet (fun _ => ({} : RxQueue)) (mac m s).rxqs q
def modRxq (m q : Nat) (f : RxQueue → RxQueue) (s : State) : State :=
  modMac m (fun x => { x with rxqs := tabMod (fun _ => ({} : RxQueue)) x.rxqs q f }) s

/-- Bytes of the receive buffer in use (R377). -/
def rxOccupancy (m : Nat) (s : State) : Nat := (mac m s).rx.foldl (fun n f => n + f.size) 0

/-- Drop counters of the receive path, each with MAC_RX_DROP. -/
def rxDrop (m reg : Nat) (s : State) : State := macEvent m 0 (bump reg s)

/-- A pause (or PFC) frame of the MAC with time `t` (R388). -/
def pauseFrame (m t : Nat) (s : State) : List Byte :=
  let head := [(0x01 : Byte), 0x80, 0xC2, 0, 0, 0x01] ++ leBytes 6 (rd (Reg.MAC_ADDR m) s).toNat ++ [(0x88 : Byte), 0x08]
  let be16 := fun (n : Nat) => (leBytes 2 n).reverse
  let mask := fld (Reg.MAC_PAUSE_CFG m) 15 8 s
  if fld (Reg.MAC_PAUSE_CFG m) 5 5 s = 0 then head ++ be16 1 ++ be16 t
  else head ++ be16 0x0101 ++ be16 mask ++ (upto 8).flatMap fun i => be16 (if mask.testBit i then t else 0)

/-- Does the MAC generate pause? -/
def pauseGen (m : Nat) (s : State) : Bool := flagOn (Reg.MAC_PAUSE_CFG m) 4 s && flagOn (Reg.MAC_STATUS m) 4 s

/-- The occupancy has changed: pause starts at XOFF, and ends below XON. -/
def pauseCheck (m : Nat) (s : State) : State :=
  let occ := rxOccupancy m s
  if !(mac m s).xoff && pauseGen m s && decide (fld (Reg.MAC_PAUSE_THR m) 31 16 s * 1024 ≤ occ) then
    modMac m (fun x => { x with xoff := true, ctl := x.ctl ++ [pauseFrame m (fld (Reg.MAC_PAUSE_CFG m) 31 16 s) s] }) s
  else if (mac m s).xoff && decide (occ < fld (Reg.MAC_PAUSE_THR m) 15 0 s * 1024) then
    modMac m (fun x => { x with xoff := false, ctl := if pauseGen m s then x.ctl ++ [pauseFrame m 0 s] else x.ctl }) s
  else s

/-- PAUSE_REPEAT: while occupancy stays at or above XON. -/
def opPauseRepeat (m : Nat) (s : State) : State :=
  if (mac m s).xoff && pauseGen m s && decide (fld (Reg.MAC_PAUSE_THR m) 15 0 s * 1024 ≤ rxOccupancy m s) then
    modMac m (fun x => { x with ctl := x.ctl ++ [pauseFrame m (fld (Reg.MAC_PAUSE_CFG m) 31 16 s) s] }) s
  else s

/-- Fields of a queue entry. -/
def qeSlotSize (e : List Byte) : Nat := leAt e 6 2 * 64
def qeBase (e : List Byte) : Nat := leAt e 0 6
def qeStat (e : List Byte) : Nat := leAt e 8 6
def qeSlots (e : List Byte) : Nat := leAt e 14 2
def qeWord (e : List Byte) : Nat := leAt e 16 4

/-- Uses of a MAC's packets: a queue entry read; by frame its status read, its writes, its status write; by transmit queue its descriptor read, its
frame reads, its completion writes; by gate job its entry read, frame read and word 7. -/
def useEntry (q : Nat) : Nat := 16 * q + 1
def useRxStat (no : Nat) : Nat := 16 * no + 2
def useRxData (no : Nat) : Nat := 16 * no + 3
def useRxDone (no : Nat) : Nat := 16 * no + 4
def useTxDesc (q : Nat) : Nat := 16 * q + 5
def useTxData (q : Nat) : Nat := 16 * q + 6
def useTxDone (q : Nat) : Nat := 16 * q + 7

/-- The first frame of a queue, and a frame leaves the buffer. -/
def rxHead (m q : Nat) (s : State) : Option RxFrame := (mac m s).rx.find? fun f => f.q == q
def modRx (m no : Nat) (f : RxFrame → RxFrame) (s : State) : State :=
  modMac m (fun x => { x with rx := x.rx.map fun r => if r.no = no then f r else r }) s
def rxRemove (m no : Nat) (s : State) : State :=
  pauseCheck m (modMac m (fun x => { x with rx := x.rx.filter fun r => r.no != no }) s)

/-- The bytes written for a frame: without its FCS unless KEEP_FCS, or all of a truncated one. -/
def rxWritten (f : RxFrame) : List Byte :=
  if bitOf f.flags 30 || bitOf (qeWord f.entry) 29 then f.bytes else f.bytes.take (f.bytes.length - 4)

/-- The frame is placed: its writes leave, unless its slot is too small. -/
def rxPlace (m : Nat) (f : RxFrame) (s : State) : State × Bool :=
  if qeSlotSize f.entry < (rxWritten f).length then (rxRemove m f.no (rxDrop m (Reg.MAC_RX_DROP_SLOT_CNT m) s), false)
  else
    (postPieces (.mac m) (useRxData f.no) 256 (qeBase f.entry + (rxq m f.q s).p * qeSlotSize f.entry) (rxWritten f)
      (modRx m f.no (fun r => { r with stage := 2 }) s), true)

/-- Start the first waiting frames of a queue as far as its entry allows; at most `n` of them are dropped. A reset asked for while
another frame was being placed has its effect here (R376). -/
def rxKick (m q : Nat) : Nat → State → State
  | 0, s => s
  | n + 1, s =>
    match rxHead m q s with
    | none => s
    | some f =>
      if f.stage ≠ 0 then s
      else if (rxq m q s).resetP then rxKick m q n (modRxq m q (fun x => { x with p := 0, seq := 0, since := 0, resetP := false }) s)
      else
        match (rxq m q s).copy with
        | none =>
          if (rxq m q s).asked then s
          else reqRead (.mac m) (useEntry q) (fld (Reg.MAC_RXQ_TABLE m) 47 5 s * 32 + 32 * q) 32 false (modRxq m q (fun x => { x with asked := true }) s)
        | some e =>
          if bitOf (qeWord e) 31 then
            let s1 := modRx m f.no (fun r => { r with entry := e }) s
            if bitOf (qeWord e) 24 then
              (let r := rxPlace m { f with entry := e } s1
               if r.2 then r.1 else rxKick m q n r.1)
            else reqRead (.mac m) (useRxStat f.no) (qeStat e + 32 * (rxq m q s).p) 4 false (modRx m f.no (fun r => { r with stage := 1 }) s1)
          else rxKick m q n (rxRemove m f.no (rxDrop m (Reg.MAC_RX_DROP_NOQ_CNT m) s))

/-- Start a queue. -/
def rxGo (m q : Nat) (s : State) : State := rxKick m q ((mac m s).rx.length + 2) s

/-- RXQ_ENTRY_ANSWER: the entry is kept until the next commit; one whose read failed counts as VALID 0. -/
def opRxqEntryAnswer (m q : Nat) (s : State) : State :=
  match waitingAns (.mac m) (useEntry q) s with
  | none => s
  | some (t, code, bs) =>
    rxGo m q (modRxq m q (fun x => { x with copy := some (if code = 0 then bs else []), asked := false }) (takeAns t.id s))

/-- RX_STATUS_READ_ANSWER: DONE 1 drops the frame as full; a read that fails does so too (log 44). -/
def opRxStatusReadAnswer (m q : Nat) (s : State) : State :=
  match rxHead m q s with
  | none => s
  | some f =>
    match waitingAns (.mac m) (useRxStat f.no) s with
    | none => s
    | some (t, code, bs) =>
      let s1 := takeAns t.id s
      if code ≠ 0 ∨ bitOf (leNat bs) 31 = true then rxGo m q (rxRemove m f.no (rxDrop m (Reg.MAC_RX_DROP_FULL_CNT m) s1))
      else
        let r := rxPlace m f s1
        if r.2 then r.1 else rxGo m q r.1

/-- The status entry (R378). -/
def statusEntry (f : RxFrame) (seq : Nat) : List Byte :=
  let tags := frameTags f.bytes
  let et := beNat (sliceOf f.bytes (12 + 4 * tags) 2)
  let tci := beNat (sliceOf f.bytes 14 2)
  leBytes 4 (0x80000000 + f.flags + f.stepSeq * 0x1000000 + f.rule * 0x10000 + (rxWritten f).length) ++ leBytes 4 f.round ++
  leBytes 6 (todSec f.stamp) ++ leBytes 2 (todFrac f.stamp) ++ leBytes 4 (todNs f.stamp) ++
  leBytes 4 (if tags = 0 then et else 0x80000000 + bitsOf tci 15 13 * 0x10000000 + bitsOf tci 11 0 * 0x10000 + et) ++
  leBytes 4 seq ++ leBytes 4 0

/-- RX_FRAME_WRITES_ACCEPTED: the status entry is written. -/
def opRxFrameWritesAccepted (m q : Nat) (s : State) : State :=
  match rxHead m q s with
  | none => s
  | some f =>
    if f.stage = 2 ∧ unaccepted (.mac m) (useRxData f.no) s = false then
      postWrite (.mac m) (useRxDone f.no) (qeStat f.entry + 32 * (rxq m q s).p) (statusEntry f ((rxq m q s).seq + 1)) false
        (modRx m f.no (fun r => { r with stage := 3 }) s)
    else s

/-- RX_STATUS_WRITE_ACCEPTED: the producer advances and a token may be posted; the queue's next frame follows. -/
def opRxStatusWriteAccepted (m q : Nat) (s : State) : State :=
  match rxHead m q s with
  | none => s
  | some f =>
    if f.stage = 3 ∧ unaccepted (.mac m) (useRxDone f.no) s = false then
      let x := rxq m q s
      let w := qeWord f.entry
      let tok := bitOf w 30 && decide (2 ^ bitsOf w 28 25 ≤ x.since + 1)
      let s1 := modRxq m q (fun y =>
        if y.resetP then { y with p := 0, seq := 0, since := 0, resetP := false }
        else { y with p := if y.p = qeSlots f.entry then 0 else y.p + 1, seq := y.seq + 1, since := if tok then 0 else y.since + 1 }) s
      let s2 := bump (Reg.MAC_RX_FRAMES_CNT m) (bump64 (Reg.MAC_RX_BYTES m) (rxWritten f).length s1)
      let s3 := if tok then
        postToken (.mac m) (bitsOf w 15 13) (bitsOf w 12 0) (bitsOf w 18 16)
          (0x80000000 * b2n (decide (bitsOf f.flags 30 27 ≠ 0)) + m * 0x1000000 + q * 0x10000 + x.p) s2 else s2
      rxGo m q (rxRemove m f.no s3)
    else s

/-- A write of MAC_RXQ_RESET: the producer index restarts from the next frame placed (R376). -/
def rxqReset (m q : Nat) (s : State) : State :=
  modRxq m q (fun y => if (rxHead m q s).isSome then { y with resetP := true } else { y with p := 0, seq := 0, since := 0 }) s

/-! ## Pause (R388) -/

/-- TX_HELD follows what a received pause holds. -/
def setHeld (m h : Nat) (s : State) : State :=
  setFld (Reg.MAC_STATUS m) 9 9 (b2n (decide (h ≠ 0))) (modMac m (fun x => { x with held := h }) s)

/-- A received pause or PFC frame: `mask` says the queues it names, `none0` those of them with time zero. -/
def pauseReceived (m : Nat) (pfc : Bool) (mask none0 : Nat) (s : State) : State :=
  let s1 := bump (Reg.MAC_RX_PAUSE_CNT m) s
  if flagOn (Reg.MAC_PAUSE_CFG m) 3 s && flagOn (Reg.MAC_STATUS m) 5 s && (flagOn (Reg.MAC_PAUSE_CFG m) 5 s == pfc) then
    let exempt := flagOn (Reg.MAC_PAUSE_CFG m) 6 s
    let all := if pfc then mask % 256 else 255
    let gate := if exempt then 0 else if pfc then 256 * b2n (mask.testBit 7) else 256
    let free := if pfc then none0 % 256 + (if none0.testBit 7 then 256 else 0) else if none0 ≠ 0 then 511 else 0
    let on := (all ||| gate) &&& (511 - (free &&& 511))
    setHeld m (((mac m s).held ||| on) &&& (511 - (free &&& 511))) s1
  else s1

/-- PAUSE_FRAME_RECEIVED. -/
def opPauseFrameReceived (m : Nat) (pfc : Bool) (mask none0 : Nat) (s : State) : State :=
  if macUp m s && flagOn (Reg.MAC_CFG m) 19 s then pauseReceived m pfc mask none0 s else s

/-- PAUSE_TIMER_END: the pause of the queues in `mask` runs out. -/
def opPauseTimerEnd (m mask : Nat) (s : State) : State :=
  setHeld m ((mac m s).held &&& (511 - (mask &&& 511))) s

/-! ## Preemption (R385 to R387) -/

/-- PRE_STATE: 0 OFF, 1 VERIFYING, 2 ACTIVE, 3 FAILED. -/
def preState (m : Nat) (s : State) : Nat := fld (Reg.MAC_STATUS m) 8 7 s

/-- Verification starts: at the commit that sets EN, and when the port comes up. -/
def preStart (m : Nat) (s : State) : State :=
  let on := flagOn (Reg.MAC_PRE_CFG m) 0 s && macUp m s && decide (m ≠ 16)
  let st := if !on then 0 else if flagOn (Reg.MAC_PRE_CFG m) 1 s then 2 else 1
  setFld (Reg.MAC_STATUS m) 8 7 st (modMac m (fun x => { x with verify := if st = 1 then 1 else 0 }) s)

/-- VERIFY_TIMEOUT: verify is sent up to three times. -/
def opVerifyTimeout (m : Nat) (s : State) : State :=
  if preState m s = 1 then
    (if (mac m s).verify < 3 then modMac m (fun x => { x with verify := x.verify + 1 }) s
     else macEvent m 3 (setFld (Reg.MAC_STATUS m) 8 7 3 s))
  else s

/-- VERIFY_RESPONSE_RECEIVED. -/
def opVerifyResponseReceived (m : Nat) (s : State) : State := if preState m s = 1 then setFld (Reg.MAC_STATUS m) 8 7 2 s else s

/-! ## Transmit queues (R380 to R384) -/

/-- Ring geometry and indices of queue `q`. -/
def txSize (m q : Nat) (s : State) : Nat := fld (Reg.MAC_TXQ_BASE m q) 63 48 s
def txBase (m q : Nat) (s : State) : Nat := fld (Reg.MAC_TXQ_BASE m q) 47 5 s * 32
def txCons (m q : Nat) (s : State) : Nat := fld (Reg.MAC_TXQ_PTR m q) 15 0 s
def txProd (m q : Nat) (s : State) : Nat := fld (Reg.MAC_TXQ_PTR m q) 31 16 s
def txJob (m q : Nat) (s : State) : Option TxJob := (mac m s).tx.find? fun j => j.q == q
def modTx (m q : Nat) (f : TxJob → TxJob) (s : State) : State :=
  modMac m (fun x => { x with tx := x.tx.map fun j => if j.q = q then f j else j }) s

/-- TX_DESCRIPTOR_READ. -/
def opTxDescriptorRead (m q : Nat) (s : State) : State :=
  if flagOn (Reg.MAC_CFG m) 18 s = true ∧ q < 8 ∧ flagOn (Reg.MAC_TX_CFG m) q s = true ∧ txProd m q s ≠ txCons m q s ∧ (txJob m q s).isNone = true ∧
     (macUp m s = true ∨ flagOn (Reg.MAC_TX_CFG m) 16 s = true) then
    reqRead (.mac m) (useTxDesc q) (txBase m q s + 32 * txCons m q s) 32 false
      (modMac m (fun x => { x with tx := x.tx ++ [{ q := q, idx := txCons m q s, addr := txBase m q s + 32 * txCons m q s }] }) s)
  else s

/-- Completion writes of a descriptor (R383). -/
def txComplete (m q : Nat) (s : State) : State :=
  match txJob m q s with
  | none => s
  | some j =>
    let s1 := modTx m q (fun y => { y with stage := 4 }) s
    let s2 := if j.code = 1 ∧ bitOf (leAt j.desc 0 4) 30 = true then
      postWrite (.mac m) (useTxDone q) (j.addr + 16) (leBytes 6 (todSec j.stamp) ++ leBytes 2 (todFrac j.stamp) ++ leBytes 4 (todNs j.stamp)) false s1 else s1
    postWrite (.mac m) (useTxDone q) (j.addr + 28) (leBytes 4 (0x80000000 + j.stepSeq * 0x1000000 + j.code)) false s2

/-- A descriptor completes without being sent (R382). -/
def txFail (m q code : Nat) (s : State) : State :=
  txComplete m q (modTx m q (fun j => { j with code := code, stepSeq := stepSeq s }) (macEvent m 2 (bump (Reg.MAC_TX_DROP_CNT m) s)))

/-- A queue's descriptors in hand are given up: the ring they stood in has been replaced (R380). -/
def txDrop (m q : Nat) (s : State) : State := modMac m (fun x => { x with tx := x.tx.filter fun j => j.q != q }) s

/-- Is the descriptor in hand of a ring since replaced? -/
def txOld (m q : Nat) (s : State) : Bool := (txJob m q s).any fun j => j.old

/-- Every descriptor in hand that waits for the wire completes with DOWN where the port is down and DISCARD_DOWN is 1 (R369). -/
def txDownAll (m : Nat) (s : State) : State :=
  if !(macUp m s) && flagOn (Reg.MAC_TX_CFG m) 16 s then
    forEach ((mac m s).tx.filter fun j => j.stage == 2) (fun j t => txFail m j.q 4 t) s
  else s

/-- TX_DESCRIPTOR_ANSWER: the descriptor is checked, and its frame read. Where several cases of R382 hold the first here gives the code (log 66). -/
def opTxDescriptorAnswer (m q : Nat) (s : State) : State :=
  match waitingAns (.mac m) (useTxDesc q) s with
  | none => s
  | some (t, code, d) =>
    let s1 := modTx m q (fun j => { j with desc := d, stage := 1 }) (takeAns t.id s)
    let w0 := leAt d 0 4
    let len := bitsOf w0 13 0
    if txOld m q s then txDrop m q s1
    else if code ≠ 0 then txFail m q 3 s1
    else if !(macUp m s) && flagOn (Reg.MAC_TX_CFG m) 16 s then txFail m q 4 s1
    else if bitOf w0 31 = true ∨ bitsOf w0 27 14 ≠ 0 ∨ leAt d 12 4 ≠ 0 ∨ (bitOf w0 28 = true ∧ len < leAt d 10 2 + 44) then txFail m q 5 s1
    else if maxFrame m s + 8 < len + 4 then txFail m q 2 s1
    else if len = 0 then modTx m q (fun j => { j with stage := 2 }) s1
    else readRange (.mac m) (useTxData q) (leAt d 4 6) len s1

/-- TX_FRAME_READ_ANSWER: the whole frame is in the transmit buffer. -/
def opTxFrameReadAnswer (m q : Nat) (s : State) : State :=
  match txJob m q s with
  | none => s
  | some j =>
    let l := answersOf (.mac m) (useTxData q) s
    if j.stage = 1 ∧ l.isEmpty = false ∧ unanswered (.mac m) (useTxData q) s = false then
      let s1 := dropUse (.mac m) (useTxData q) s
      let bs := l.flatMap (·.2.2)
      if j.old then txDrop m q s1
      else if (firstBad l).isSome then txFail m q 3 s1
      else if !(macUp m s) && flagOn (Reg.MAC_TX_CFG m) 16 s then txFail m q 4 s1
      else if frameLimit m bs s < bs.length + 4 then txFail m q 2 s1
      else modTx m q (fun y => { y with frame := bs, stage := 2 }) s1
    else s

/-- Is something ready to be sent? -/
def txReady (m : Nat) (s : State) : Bool :=
  let x := mac m s
  x.jobs.any (fun g => g.stage == 3) || !(x.ctl.isEmpty) || !(x.mgmt.isEmpty) || x.tx.any (fun j => j.stage == 2) || x.cut.isSome

/-- May queue `q` start: enabled (R380), ready, not held by a pause, and express where a preemptable frame waits or hold is asserted? -/
def txMay (m : Nat) (expressOnly : Bool) (q : Nat) (s : State) : Bool :=
  (match txJob m q s with | some j => decide (j.stage = 2) | none => false) && !((mac m s).held.testBit q) &&
  flagOn (Reg.MAC_TX_CFG m) q s &&
  !(expressOnly && flagOn (Reg.MAC_TX_CFG m) (8 + q) s)

/-- Is an express frame ready? -/
def expressReady (m : Nat) (s : State) : Bool :=
  let x := mac m s
  (x.jobs.any (fun g => g.stage == 3) && !(x.held.testBit 8)) || !(x.ctl.isEmpty) || !(x.mgmt.isEmpty) || (upto 8).any fun q => txMay m true q s

/-- A frame leaves on the wire: recorded or, in Replay, captured (R512, R519). -/
def frameOut (m : Nat) (bs : List Byte) (s : State) : State :=
  let sel := recSelMac m s
  if inReplay s then (if sel then recCapture 0x11 m bs s else s)
  else if sel && flagOn Reg.REC_CFG 30 s then recAppend 0x11 m bs s else s

/-- Put a frame on the wire. -/
def startWire (m kind q : Nat) (bs : List Byte) (s : State) : State :=
  modMac m (fun x => { x with wire := some { kind := kind, q := q, bytes := bs } }) (frameOut m bs s)

/-- The MAC takes a gate frame (R327, R329): lateness, word 7, counters. -/
def gateTaken (m : Nat) (g : GateJob) (s : State) : State :=
  let late := decide (fld (Reg.FHG_LATE_TOL m) 15 0 s < s.time.steps - g.launch)
  let s1 := if late then fhgEvent m 1 (bump (Reg.FHG_LATE_CNT m) s) else s
  let s2 := modMac m (fun x => { x with jobs := x.jobs.filter fun j => j.no != g.no, hold := false }) s1
  let s3 := postWrite (.fhg m) 0 (g.addr + 28) (leBytes 4 (0x80000000 * b2n g.blank + roundNow s % 2 ^ 31)) false s2
  if g.blank then
    { fhgEvent m 0 (bump (Reg.FHG_BLANK_CNT m) (modMac m (fun x => { x with blanks := x.blanks + 1 }) s3)) with
      round := { s3.round with blanked := true } }
  else bump (Reg.FHG_SENT_CNT m) s3

/-- The egress timestamp of a frame that starts now, and its one-step insertion (R390, R392). -/
def txStamp (m : Nat) (c : Int) (j : TxJob) (s : State) : TxJob :=
  let stamp := tsCorrect m true c s.tod s
  let off := leAt j.desc 10 2 + 34
  let t := (leBytes 6 (todSec stamp)).reverse ++ (leBytes 4 (todNs stamp)).reverse
  { j with
    stamp := stamp, stepSeq := stepSeq s, stage := 3,
    frame := if bitOf (leAt j.desc 0 4) 28 then j.frame.take off ++ t ++ j.frame.drop (off + 10) else j.frame }

/-- TX_FRAME_START: the highest-priority ready frame starts on the wire (R384), or a preempted frame goes on when no express frame is ready. -/
def opTxFrameStart (m : Nat) (s : State) : State :=
  let x := mac m s
  if macUp m s && flagOn (Reg.MAC_CFG m) 18 s && x.wire.isNone && !(flagOn (Reg.MAC_STATUS m) 10 s) then
    match x.jobs.find? (fun g => g.stage == 3), x.held.testBit 8 with
    | some g, false => startWire m 0 0 (framed g.frame) (gateTaken m g s)
    | _, _ =>
      match x.ctl, x.mgmt with
      | c :: t, _ => bump (Reg.MAC_TX_PAUSE_CNT m) (startWire m 1 0 (framed c) (modMac m (fun y => { y with ctl := t }) s))
      | [], c :: t => startWire m 2 0 (framed c) (modMac m (fun y => { y with mgmt := t }) s)
      | [], [] =>
        let only := x.cut.isSome || x.hold
        match (upto 8).reverse.find? (fun q => txMay m only q s) with
        | some q =>
          match txJob m q s with
          | none => s
          | some j =>
            let j1 := txStamp m (macConst m true s) j s
            startWire m 3 q (framed j1.frame) (modTx m q (fun _ => j1) s)
        | none =>
          match x.cut with
          | some w => if x.hold || x.held.testBit w.q then s else modMac m (fun y => { y with wire := some w, cut := none }) s
          | none => s
  else s

/-- FRAGMENT_PREEMPT: an express frame interrupts the preemptable frame on the wire, `n` bytes of the fragment sent: at least the minimum fragment, and
at least 64 bytes with their CRC are left (R386). -/
def opFragmentPreempt (m n : Nat) (s : State) : State :=
  match (mac m s).wire with
  | none => s
  | some w =>
    if preState m s = 2 ∧ w.kind = 3 ∧ flagOn (Reg.MAC_TX_CFG m) (8 + w.q) s = true ∧ (mac m s).cut.isNone = true ∧
       (expressReady m s = true ∨ (mac m s).hold = true) ∧
       64 * (1 + fld (Reg.MAC_PRE_CFG m) 3 2 s) ≤ n ∧ w.sent + n + 64 ≤ w.bytes.length then
      bump (Reg.MAC_PRE_FRAG_TX_CNT m)
        (modMac m (fun x => { x with wire := none, cut := some { w with frags := w.frags + 1, sent := w.sent + n } }) s)
    else s

/-- The frame on the wire ends (R383): what TX_FRAME_END does but for a MAC loop. -/
def wireEnds (m : Nat) (w : Wire) (s : State) : State :=
  let s1 := bump (Reg.MAC_TX_FRAMES_CNT m) (bump64 (Reg.MAC_TX_BYTES m) w.bytes.length (modMac m (fun x => { x with wire := none }) s))
  let s2 := if w.frags = 0 then s1 else bump (Reg.MAC_PRE_FRAG_TX_CNT m) s1
  if w.kind = 3 then txComplete m w.q s2 else s2

/-- TX_COMPLETION_ACCEPTED: CONS advances, and the token is posted. -/
def opTxCompletionAccepted (m q : Nat) (s : State) : State :=
  match txJob m q s with
  | none => s
  | some j =>
    if j.stage = 4 ∧ unaccepted (.mac m) (useTxDone q) s = false then
      let s0 := modMac m (fun x => { x with tx := x.tx.filter fun y => y.q != q }) s
      let s1 := if j.old then s0
        else setFld (Reg.MAC_TXQ_PTR m q) 15 0 (if txCons m q s = txSize m q s then 0 else txCons m q s + 1) s0
      let w := (rd (Reg.MAC_TX_TOKEN m) s).toNat
      if bitOf (leAt j.desc 0 4) 29 then
        postToken (.mac m) (bitsOf w 15 13) (bitsOf w 12 0) (bitsOf w 18 16) (m * 0x1000000 + q * 0x10000 + j.idx) s1 else s1
    else s

/-! ## Low-power idle (R389) -/

/-- Is low-power idle available on the port, resolved, enabled, and no gate on the MAC? -/
def lpiMay (m : Nat) (s : State) : Bool :=
  flagOn (Reg.MAC_EEE_CFG m) 1 s && flagOn (Reg.MAC_STATUS m) 6 s && !(decide (m < 16) && flagOn (Reg.FHG_CFG m) 31 s) &&
  (match macPort m s with
   | some (_, 1, 1, 2, _) => true
   | some (_, 1, 2, 1, _) => true
   | some (_, 1, 2, 2, _) => true
   | some (_, 4, 2, 1, _) => true
   | some (_, 4, 2, 2, _) => true
   | _ => false)

/-- LPI_ENTRY: nothing to send for LPI_IDLE. -/
def opLpiEntry (m : Nat) (s : State) : State :=
  if macUp m s && lpiMay m s && !(txReady m s) && (mac m s).wire.isNone && !(flagOn (Reg.MAC_STATUS m) 10 s) then
    bump (Reg.MAC_LPI_TX_CNT m) (setFlag (Reg.MAC_STATUS m) 10 s)
  else s

/-- LPI_WAKE_DONE: a frame is ready and TX_WAKE has passed. -/
def opLpiWakeDone (m : Nat) (s : State) : State :=
  if flagOn (Reg.MAC_STATUS m) 10 s && txReady m s then setFld (Reg.MAC_STATUS m) 10 10 0 s else s

/-- LPI_RX: the partner enters or leaves low-power idle. -/
def opLpiRx (m : Nat) (on : Bool) (s : State) : State :=
  if flagOn (Reg.MAC_STATUS m) 11 s == on then s
  else (if on then bump (Reg.MAC_LPI_RX_CNT m) else fun t => t) (setFld (Reg.MAC_STATUS m) 11 11 (b2n on) s)

/-! ## Link state -/

/-- A MAC that is not up discards a gate frame handed to it; for the gate the MAC has taken it (R327, R369). -/
def gateDiscarded (m : Nat) (g : GateJob) (s : State) : State := bump (Reg.MAC_TX_DROP_CNT m) (gateTaken m g s)

/-- The MAC's port comes up or goes down: verification starts again, pause and idle states end, gate frames that wait are discarded, and a preempted
frame waits whole again. -/
def macLink (m : Nat) (up : Bool) (s : State) : State :=
  let s1 := setFld (Reg.MAC_STATUS m) 0 0 (b2n up) s
  let again := fun (t : State) => match (mac m t).cut with
    | some w => modTx m w.q (fun j => { j with stage := 2 }) (modMac m (fun x => { x with cut := none, hold := false }) t)
    | none => modMac m (fun x => { x with hold := false }) t
  let s2 := if up then s1 else setHeld m 0 (setFld (Reg.MAC_STATUS m) 11 10 0 (again s1))
  let s3 := if macUp m s2 then s2 else forEach ((mac m s2).jobs.filter fun g => g.stage == 3) (gateDiscarded m) s2
  preStart m (txDownAll m s3)

/-! ## The fronthaul gate (R322 to R329) -/

def useGate (no k : Nat) : Nat := 4 * no + 1 + k

/-- Table entries of the gate, and does it run (R322)? -/
def gateCount (m : Nat) (s : State) : Nat := min 1024 (fld (Reg.FHG_CFG m) 26 16 s)
def gateOn (m : Nat) (s : State) : Bool := flagOn (Reg.FHG_CFG m) 31 s && roundsRun s
def gateEntry (m i : Nat) (s : State) : Nat := fld (Reg.FHG_TABLE m) 47 6 s * 64 + 32 * i

/-- A gate that is off sends nothing more (R322): jobs not handed to the MAC are given up, those that wait for a read once it is answered. -/
def gateStops (m : Nat) (s : State) : State :=
  modMac m (fun x => { x with
    jobs := (x.jobs.filter fun j => j.stage != 2).map fun j => if j.stage < 2 then { j with gone := true } else j
    hold := false }) s

/-- A MAC that may no longer idle leaves low-power idle. -/
def lpiCommit (m : Nat) (s : State) : State :=
  if flagOn (Reg.MAC_STATUS m) 10 s && !(lpiMay m s) then setFld (Reg.MAC_STATUS m) 10 10 0 s else s

/-- A commit at the MACs: copies of queue entries are dropped (R375), rings that changed restart and a descriptor of the old ring that has not been
sent is abandoned (R380), preemption follows EN (R385), sequence
counters restart where a gate is enabled (R326), ACTIVE follows (R331). `s0` is the state before the apply stage. -/
def macCommit (s0 s : State) : State :=
  forEach (upto 17) (fun m t =>
    let t1 := if (mac m t).rxqs.isEmpty then t else
      modMac m (fun x => { x with rxqs := x.rxqs.map fun q => (q.1, { q.2 with copy := none }) }) t
    let t2 := forEach (upto 8) (fun q u =>
      if rd (Reg.MAC_TXQ_BASE m q) s0 = rd (Reg.MAC_TXQ_BASE m q) u then u
      else wr (Reg.MAC_TXQ_PTR m q) 0 (modMac m (fun x => { x with
        tx := (x.tx.filter fun j => j.q != q || j.stage != 2).map fun j => if j.q = q then { j with old := true } else j }) u)) t1
    let t3 := txDownAll m (lpiCommit m (if fld (Reg.MAC_PRE_CFG m) 1 0 s0 = fld (Reg.MAC_PRE_CFG m) 1 0 t2 then t2 else preStart m t2))
    if m = 16 then t3
    else
      let t4 := if flagOn (Reg.FHG_CFG m) 31 t3 && !(flagOn (Reg.FHG_CFG m) 31 s0) then modMac m (fun x => { x with seqs := [] }) t3 else t3
      let t5 := if flagOn (Reg.FHG_CFG m) 31 t4 then t4 else gateStops m t4
      setFld (Reg.FHG_STATUS m) 16 16 (b2n (gateOn m t5)) t5) s

/-- A new Round at the MACs: their events may be raised again. -/
def macNewRound (s : State) : State :=
  forEach ((upto 17).filter fun m => !((mac m s).raised.isEmpty)) (fun m t => modMac m (fun x => { x with raised := [] }) t) s

/-! ## Meanings of the commands -/

/-- RXQ_ENTRY_ANSWER (R375). -/
def execRxqEntryAnswer (m q : Nat) (s : State) : Host.Outcome State Fault Refusal :=
  .next (gated false (below 17 m && below 256 q) (opRxqEntryAnswer m q) s)
/-- RX_STATUS_READ_ANSWER (R376). -/
def execRxStatusReadAnswer (m q : Nat) (s : State) : Host.Outcome State Fault Refusal :=
  .next (gated false (below 17 m && below 256 q) (opRxStatusReadAnswer m q) s)
/-- RX_FRAME_WRITES_ACCEPTED (R376). -/
def execRxFrameWritesAccepted (m q : Nat) (s : State) : Host.Outcome State Fault Refusal :=
  .next (gated false (below 17 m && below 256 q) (opRxFrameWritesAccepted m q) s)
/-- RX_STATUS_WRITE_ACCEPTED (R376). -/
def execRxStatusWriteAccepted (m q : Nat) (s : State) : Host.Outcome State Fault Refusal :=
  .next (gated false (below 17 m && below 256 q) (opRxStatusWriteAccepted m q) s)
/-- PAUSE_FRAME_RECEIVED (R388). -/
def execPauseFrameReceived (m : Nat) (pfc : Bool) (mask none0 : Nat) (s : State) : Host.Outcome State Fault Refusal :=
  .next (gated false (below 17 m && below 256 mask) (opPauseFrameReceived m pfc mask none0) s)
/-- PAUSE_TIMER_END (R388). -/
def execPauseTimerEnd (m mask : Nat) (s : State) : Host.Outcome State Fault Refusal :=
  .next (gated false (below 17 m && below 512 mask) (opPauseTimerEnd m mask) s)
/-- PAUSE_REPEAT (R388). -/
def execPauseRepeat (m : Nat) (s : State) : Host.Outcome State Fault Refusal := .next (gated false (below 17 m) (opPauseRepeat m) s)
/-- TX_DESCRIPTOR_READ (R380). -/
def execTxDescriptorRead (m q : Nat) (s : State) : Host.Outcome State Fault Refusal :=
  .next (gated false (below 17 m && below 8 q) (opTxDescriptorRead m q) s)
/-- TX_DESCRIPTOR_ANSWER (R382). -/
def execTxDescriptorAnswer (m q : Nat) (s : State) : Host.Outcome State Fault Refusal :=
  .next (gated false (below 17 m && below 8 q) (opTxDescriptorAnswer m q) s)
/-- TX_FRAME_READ_ANSWER (R382). -/
def execTxFrameReadAnswer (m q : Nat) (s : State) : Host.Outcome State Fault Refusal :=
  .next (gated false (below 17 m && below 8 q) (opTxFrameReadAnswer m q) s)
/-- TX_FRAME_START (R384). -/
def execTxFrameStart (m : Nat) (s : State) : Host.Outcome State Fault Refusal := .next (gated false (below 17 m) (opTxFrameStart m) s)
/-- FRAGMENT_PREEMPT (R386). -/
def execFragmentPreempt (m : Nat) (s : State) (n : Nat := 64) : Host.Outcome State Fault Refusal :=
  .next (gated false (below 17 m) (opFragmentPreempt m n) s)
/-- TX_COMPLETION_ACCEPTED (R383). -/
def execTxCompletionAccepted (m q : Nat) (s : State) : Host.Outcome State Fault Refusal :=
  .next (gated false (below 17 m && below 8 q) (opTxCompletionAccepted m q) s)
/-- VERIFY_TIMEOUT (R385). -/
def execVerifyTimeout (m : Nat) (s : State) : Host.Outcome State Fault Refusal := .next (gated false (below 17 m) (opVerifyTimeout m) s)
/-- VERIFY_RESPONSE_RECEIVED (R385). -/
def execVerifyResponseReceived (m : Nat) (s : State) : Host.Outcome State Fault Refusal :=
  .next (gated false (below 17 m) (opVerifyResponseReceived m) s)
/-- LPI_ENTRY (R389). -/
def execLpiEntry (m : Nat) (s : State) : Host.Outcome State Fault Refusal := .next (gated false (below 17 m) (opLpiEntry m) s)
/-- LPI_WAKE_DONE (R389). -/
def execLpiWakeDone (m : Nat) (s : State) : Host.Outcome State Fault Refusal := .next (gated false (below 17 m) (opLpiWakeDone m) s)
/-- LPI_RX (R389). -/
def execLpiRx (m : Nat) (on : Bool) (s : State) : Host.Outcome State Fault Refusal := .next (gated false (below 17 m) (opLpiRx m on) s)

end Sys2Proof.Machine
end

