-- ==== Sys2Proof/Machine/Receive.lean ====
section
/-! DEFINITION. What a received Ethernet frame does (R371 to R377, R452, R512), and the end of a transmitted one, which a MAC loop turns
into a received one. -/
namespace Sys2Proof.Machine

/-- Is the frame whole, good, short or long (R371): the flag bit it gets in word 0 of a status entry, none when good. -/
def frameBad (m : Nat) (bs : List Byte) (mark : Bool) (s : State) : Option Nat :=
  if bs.length < 64 then some 28
  else if frameLimit m bs s < bs.length then some 29
  else if mark || decide (fcsOf (bs.take (bs.length - 4)) ≠ bs.drop (bs.length - 4)) then some 27
  else none

/-- The counter of a bad frame's flag. -/
def badCounter (m flag : Nat) : Nat :=
  if flag = 28 then Reg.MAC_RX_RUNT_CNT m else if flag = 29 then Reg.MAC_RX_OVERSIZE_CNT m else Reg.MAC_RX_FCS_CNT m

/-- Count a bad frame (R372). -/
def countBad (m flag : Nat) (s : State) : State := macEvent m 1 (bump (badCounter m flag) s)

/-- Flags of word 0 that R372 gives a frame. -/
def frameFlags (bad : Option Nat) : Nat :=
  match bad with
  | none => 0
  | some f => 2 ^ f + (if f = 29 then 2 ^ 30 else 0)

/-- The EtherType after the tags, its place, and the VID of the outer tag. -/
def etherAt (bs : List Byte) : Nat := 12 + 4 * frameTags bs
def etherType (bs : List Byte) : Nat := beNat (sliceOf bs (etherAt bs) 2)
def outerVid (bs : List Byte) : Option Nat := if frameTags bs = 0 then none else some (bitsOf (beNat (sliceOf bs 14 2)) 11 0)

/-- The field a rule looks at (R374); none where the frame is too short to hold it. -/
def ruleField (act : Nat) (bs : List Byte) : Option Nat :=
  let o := etherAt bs + 2 + bitsOf act 47 40
  if o + 2 ≤ bs.length then some (beNat (sliceOf bs o 2)) else none

/-- Does rule word `w`, with action `act`, match a frame (R374)? -/
def ruleMatch (w act : Nat) (bs : List Byte) : Bool :=
  bitOf w 63 && (!(bitOf w 62) || decide (etherType bs = bitsOf w 47 32)) &&
  (!(bitOf w 61) || decide (outerVid bs = some (bitsOf w 59 48))) &&
  (!(bitOf w 60) || (match ruleField act bs with
    | none => false
    | some f => decide (f &&& bitsOf w 31 16 = bitsOf w 15 0)))

/-- Rule and queue of a frame (R373, R374): none where it is dropped for want of a queue. The manual gives no f where the frame is too short for it and
the rule does not test it: that f is free (log 66). -/
def frameQueue (m : Nat) (bs : List Byte) (s : State) : Option (Nat × Nat) :=
  let q : Option (Nat × Nat) :=
    match (upto 64).find? fun i => ruleMatch (rd (Reg.MAC_RULE_MATCH m i) s).toNat (rd (Reg.MAC_RULE_ACT m i) s).toNat bs with
    | some i =>
      let act := (rd (Reg.MAC_RULE_ACT m i) s).toNat
      if bitOf act 32 then none
      else some (i, bitsOf act 7 0 + (((ruleField act bs).getD ((freeNow 0 s).toNat % 65536) &&& bitsOf act 31 16) >>> bitsOf act 39 36))
    | none => if flagOn (Reg.MAC_RX_CFG m) 8 s then some (255, fld (Reg.MAC_RX_CFG m) 7 0 s) else none
  match q with
  | none => none
  | some x => if x.2 < min 256 (fld (Reg.MAC_RXQ_TABLE m) 56 48 s) then some x else none

/-- Is it a management frame of this MAC (R452)? -/
def isMgmt (m : Nat) (bs : List Byte) (s : State) : Bool :=
  flagOn Reg.SEC_MGMT_CFG 31 s && flagOn Reg.SEC_MGMT_CFG (12 + m) s && decide (outerVid bs = some (fld Reg.SEC_MGMT_CFG 11 0 s)) &&
  decide (etherType bs = 0x88B5)

/-- A management frame waits for the security controller, or is dropped as the fifth (R452). -/
def mgmtIn (m : Nat) (bs : List Byte) (s : State) : State :=
  if s.sec.frames.length < 4 then
    { s with sec := { s.sec with
      waits := s.sec.waits ++ [1]
      frames := s.sec.frames ++ [(m, sliceOf bs 6 6, (bs.take (bs.length - 4)).drop (etherAt bs + 2))] } }
  else bump Reg.SEC_REJECT_CNT s

/-- A frame passes the filter and the rules to its queue, or is dropped (R373, R374). -/
def frameFilter (m : Nat) (bs : List Byte) (flags stamp : Nat) (s : State) : State :=
  let other := decide (leAt bs 0 1 % 2 = 0) && decide (leAt bs 0 6 ≠ fld (Reg.MAC_ADDR m) 47 0 s)
  if other && !(flagOn (Reg.MAC_CFG m) 17 s) then rxDrop m (Reg.MAC_RX_DROP_ADDR_CNT m) s
  else match frameQueue m bs s with
    | none => rxDrop m (Reg.MAC_RX_DROP_NOQ_CNT m) (drawn s)
    | some (rule, q) =>
      let kept := if bitOf flags 30 then bs.take (maxFrame m s) else bs
      rxGo m q (pauseCheck m (modMac m (fun x => { x with
        rxNo := x.rxNo + 1,
        rx := x.rx ++ [{ no := x.rxNo, q := q, rule := rule, bytes := kept, size := kept.length, flags := flags,
                         stamp := stamp, stepSeq := stepSeq s, round := roundNow s % 2 ^ 32 }] }) (drawn s)))

/-- What a MAC Control frame says of a pause (R388): PFC or not, the queues it names, those with time zero; none for another opcode. -/
def pauseOf (bs : List Byte) : Option (Bool × Nat × Nat) :=
  let be := fun (i : Nat) => beNat (sliceOf bs i 2)
  if be 14 = 1 then some (false, 255, if be 16 = 0 then 255 else 0)
  else if be 14 = 0x0101 then
    some (true, be 16 % 256, (upto 8).foldl (fun z i => if (be 16).testBit i && decide (be (18 + 2 * i) = 0) then z + 2 ^ i else z) 0)
  else none

/-- Pause and PFC, which go no further (R372, R388), management (R452) or data (R373), a MAC Control frame of another opcode among it. -/
def frameSort (m : Nat) (bs : List Byte) (bad : Option Nat) (stamp : Nat) (s : State) : State :=
  if beNat (sliceOf bs 12 2) = 0x8808 ∧ (pauseOf bs).isSome = true then
    (match bad, pauseOf bs with
     | none, some (pfc, mask, none0) => pauseReceived m pfc mask none0 s
     | _, _ => s)
  else if isMgmt m bs s then mgmtIn m bs s
  else frameFilter m bs (frameFlags bad) stamp s

/-- A frame in the buffer is classified (R371, R372). -/
def frameClassify (m : Nat) (bs : List Byte) (mark : Bool) (stamp : Nat) (s : State) : State :=
  match frameBad m bs mark s with
  | none => frameSort m bs none stamp s
  | some flag =>
    if bs.length < 18 ∨ flagOn (Reg.MAC_CFG m) 16 s = false then countBad m flag s
    else frameSort m bs (some flag) stamp (countBad m flag s)

/-- Room in the receive buffer (R377): only frames of at least 18 bytes are kept. -/
def frameAdmit (m : Nat) (bs : List Byte) (mark : Bool) (stamp : Nat) (s : State) : State :=
  if rxOccupancy m s + maxFrame m s + 8 ≤ 262144 then frameClassify m bs mark stamp s
  else rxDrop m (Reg.MAC_RX_DROP_FULL_CNT m) s

/-- The flag word of a FRAME record (R512): as word 0 of the frame's status entry before a rule is known. -/
def recordFlags (m : Nat) (bs : List Byte) (mark : Bool) (s : State) : Nat :=
  0x80000000 + frameFlags (frameBad m bs mark s) + stepSeq s * 0x1000000 + bs.length % 16384

/-- A frame enters the receive path of MAC `m` (R373, R512). -/
def frameIn (m : Nat) (bs : List Byte) (mark : Bool) (stamp : Nat) (s : State) : State :=
  if flagOn (Reg.MAC_CFG m) 19 s then
    frameAdmit m bs mark stamp
      (if flagOn Reg.REC_SRC_MAC m s then recAppend 0x01 m (bs ++ leBytes 4 (recordFlags m bs mark s)) s else s)
  else s

/-- FRAME_RECEIVED: `bs` with its FCS, `mark` a PCS error inside it, `frag` its fragments broke the sequence (R386), `back` the time since its SFD. -/
def opFrameReceived (m : Nat) (bs : List Byte) (mark frag : Bool) (back : Nat) (s : State) : State :=
  if m < 16 ∧ flagOn (Reg.MAC_STATUS m) 0 s = true ∧ macLoop m s = false ∧ inReplay s = false then
    if frag then bump (Reg.MAC_PRE_ERR_CNT m) s
    else frameIn m bs mark (tsCorrect m false (macConst m false s) (s.tod - back) s) s
  else s

/-- TX_FRAME_END: the frame's last byte crosses the boundary; in MAC loop the frame comes back (R510). -/
def opTxFrameEnd (m : Nat) (s : State) : State :=
  match (mac m s).wire with
  | none => s
  | some w =>
    let s0 := wireEnds m w s
    let s1 := if m = 16 then { s0 with line := { s0.line with txOff := 0 } } else s0
    if m = 16 ∧ macLoop m s = false ∧ s.line.txOff < w.bytes.length then s
    else if macLoop m s then frameIn m w.bytes false (tsCorrect m false (macConst m false s1) s1.tod s1) s1 else s1

/-! ## Meanings of the commands -/

/-- FRAME_RECEIVED (R373). -/
def execFrameReceived (m : Nat) (bs : List Byte) (mark frag : Bool) (back : Nat) (s : State) : Host.Outcome State Fault Refusal :=
  .next (gated false (below 17 m) (opFrameReceived m bs mark frag back) s)
/-- TX_FRAME_END (R383). -/
def execTxFrameEnd (m : Nat) (s : State) : Host.Outcome State Fault Refusal := .next (gated false (below 17 m) (opTxFrameEnd m) s)

end Sys2Proof.Machine
end

