-- ==== Sys2Proof/Machine/Lane.lean ====
section
/-! DEFINITION. Serial lanes (R333 to R367, R507, R511): modes, Ethernet ports, the Tether state machine, blocks, the control channel. -/
namespace Sys2Proof.Machine

/-- Lane `l`. -/
def lane (l : Nat) (s : State) : Lane := tabGet (fun _ => ({} : Lane)) s.lane l
def setLane (l : Nat) (x : Lane) (s : State) : State := { s with lane := tabSet (fun _ => ({} : Lane)) s.lane l x }
def modLane (l : Nat) (f : Lane → Lane) (s : State) : State := setLane l (f (lane l s)) s

/-- STATE and RATE of a lane: 0 DETECT, 1 TRAIN, 2 LOCK, 3 CAPS, 4 STEP, 5 ACTIVE, 6 OFF or Ethernet. -/
def laneState (l : Nat) (s : State) : Nat := fld (Reg.LANE_STATUS l) 2 0 s
def laneRate (l : Nat) (s : State) : Nat := fld (Reg.LANE_STATUS l) 6 4 s

/-- A lane event; DOWN and CRC at most once per lane and Round. -/
def laneEvent (l bit : Nat) (s : State) : State := flagEvent (Reg.LANE_EVT_STATUS l) bit (0x200 + bit) l s
def laneEventOnce (l bit : Nat) (s : State) : State :=
  if (lane l s).raised.contains bit then s else laneEvent l bit (modLane l (fun x => { x with raised := bit :: x.raised }) s)

/-- A LINK record's payload word (log 31): the new state, its kind (0 lane, 1 MAC, 2 pair) and a lane's rate. -/
def linkWord (kind st rate : Nat) : Nat := st + 256 * kind + 65536 * rate

/-! ## Modes (R333, R334, R363) -/

/-- The logical lane that uses physical lane `l` as its spare, by the lane table. -/
def laneIsSpare (l : Nat) (s : State) : Bool := (lane l s).spareFor.isSome

/-- The spare of logical lane `l`: the lowest physical lane whose entry names it; and the physical lane that serves `l`. -/
def laneSpare (l : Nat) (s : State) : Option Nat := (upto 32).find? fun p => (lane p s).spareFor == some l
def lanePhys (l : Nat) (s : State) : Nat := if (lane l s).moved then (laneSpare l s).getD l else l

/-- Is the quad's I/O domain off, entering or leaving it (R484)? -/
def quadOff (q : Nat) (s : State) : Bool := (guardCode (ioDom q) s).isSome

/-- Lanes of the port on one side of a quad. -/
def portLanes (q side : Nat) (s : State) : List Nat :=
  match portOf (rd (Reg.LANE_QUAD_CFG q) s).toNat side with
  | none => []
  | some (f, n, _) => (upto n).map fun i => 4 * q + f + i

/-- The mode of a lane: 0 OFF, 1 Ethernet, 2 Tether. -/
def laneMode (l : Nat) (s : State) : Nat :=
  if quadOff (l / 4) s || laneIsSpare l s then 0
  else if (portLanes (l / 4) 0 s).contains l || (portLanes (l / 4) 1 s).contains l then 1
  else if flagOn (Reg.LANE_CFG l) 0 s then 2 else 0

/-- Loop-back mode of a lane (R510): codes 5 to 7 act as 0. -/
def laneLoop (l : Nat) (s : State) : Nat :=
  let m := fld (Reg.SPARE_LOOP_LANE l) 2 0 s
  if 5 ≤ m ∨ inReplay s = true then 0 else m

/-- MAX_RATE as it acts, and CEIL. -/
def maxRate (l : Nat) (s : State) : Nat := let r := fld (Reg.LANE_CFG l) 6 4 s; if r = 0 ∨ r = 7 then 6 else r
def laneCeil (l : Nat) (s : State) : Nat := fld (Reg.LANE_STATUS l) 16 14 s

/-! ## Equalisation (R364) -/

/-- Load the equaliser values of table entry `i` (of the physical lane), or the manual ones. -/
def laneEqLoad (l i : Nat) (s : State) : State :=
  wr (Reg.LANE_EQ_STATUS l) (if fld (Reg.LANE_CFG l) 3 2 s = 2 then rd (Reg.LANE_EQ_MAN l) s else rd (Reg.LANE_EQ_TBL (lanePhys l s) i) s) s

/-- Load the values of a Tether lane's current rate. -/
def laneEq (l : Nat) (s : State) : State := laneEqLoad l (laneRate l s - 1) s

/-- Does the lane adapt (EQ_MODE AUTO)? -/
def eqAuto (l : Nat) (s : State) : Bool := fld (Reg.LANE_CFG l) 3 2 s == 0 || fld (Reg.LANE_CFG l) 3 2 s == 3

/-- CTLE_ADAPT: one step of an ACTIVE Tether receiver, over codes 0 to 36. -/
def opCtleAdapt (l : Nat) (up : Bool) (s : State) : State :=
  let c := fld (Reg.LANE_EQ_STATUS l) 5 0 s
  if laneState l s = 5 ∧ eqAuto l s = true ∧ laneLoop l s = 0 then
    setFld (Reg.LANE_EQ_STATUS l) 5 0 (if up then min 36 (c + 1) else c - 1) s
  else s

/-! ## Stream maps (R340, R353) -/

/-- Characters per block and payload capacity of a rate. -/
def blockLen (r : Nat) : Nat := match r with | 1 => 64 | 2 => 128 | 3 => 256 | 4 => 512 | 5 => 1024 | 6 => 1280 | _ => 0
def rateCap (r : Nat) : Nat := match r with | 1 => 9 | 2 => 25 | 3 => 57 | 4 => 121 | 5 => 249 | 6 => 313 | _ => 0

/-- RMULT of stream `st`, transmit or receive. -/
def streamMult (l st : Nat) (tx : Bool) (s : State) : Nat :=
  let r := if tx then fld (Reg.LANE_TSTREAM l st) 8 0 s else fld (Reg.LANE_TSTREAM l st) 24 16 s
  if 256 < r then 0 else r

/-- The first stream that exceeds capacity `cap` from stream `i` on, 64 where none does. -/
def mapCut (cap : Nat) : List Nat → Nat → Nat → Nat
  | [], _, _ => 64
  | r :: t, i, sum => if 0 < r ∧ cap < sum + r then i else mapCut cap t (i + 1) (sum + r)

/-- The multipliers of the streams carried in one direction, and the first stream not carried. -/
def laneMults (l : Nat) (tx : Bool) (s : State) : List Nat := (upto 64).map fun i => streamMult l i tx s
def laneCut (l : Nat) (tx : Bool) (s : State) : Nat := if laneRate l s = 0 then 64 else mapCut (rateCap (laneRate l s)) (laneMults l tx s) 0 0
def laneMap (l : Nat) (tx : Bool) (s : State) : List Nat := (laneMults l tx s).take (laneCut l tx s)

/-- The maps are taken for the current rate: the cuts are reported. -/
def laneMaps (l : Nat) (s : State) : State :=
  let a := laneCut l true s
  let b := laneCut l false s
  let s1 := setFld (Reg.LANE_STATUS l) 30 24 a (setFld (Reg.LANE_STATUS l) 23 17 b s)
  if a = 64 ∧ b = 64 then s1 else laneEvent l 2 s1

/-- Running disparity starts negative in both directions (R339). -/
def laneRdStart (l : Nat) (s : State) : State := modLane l (fun x => { x with txRd := false, rxRd := some false }) s

/-- The lane takes a rate: disparity, equaliser and maps follow. Without one (rate 0) the equaliser is the port's. -/
def laneSetRate (l r : Nat) (s : State) : State :=
  if laneRate l s = r then laneEq l s
  else
    let t := laneRdStart l (setFld (Reg.LANE_STATUS l) 6 4 r s)
    laneMaps l (if r = 0 then t else laneEq l t)

/-- The lane takes a state, which the recorder may record. -/
def laneSetState (l st : Nat) (s : State) : State :=
  recLink l (linkWord 0 st (laneRate l s)) (setFld (Reg.LANE_STATUS l) 2 0 st s)

/-! ## The state machine (R343 to R349) -/

/-- TX_CONS advances by one. -/
def ctlTxNext (l : Nat) (s : State) : State :=
  setFld (Reg.LANE_TCTL_PTR l) 23 16 (fld (Reg.LANE_TCTL_PTR l) 23 16 s + 1) s

/-- Leaving ACTIVE: a control message cut off is not resent (R358). -/
def laneLeaveActive (l : Nat) (s : State) : State :=
  let s1 := if laneState l s = 5 ∧ (lane l s).ctlTx.isEmpty = false then ctlTxNext l s else s
  modLane l (fun x => { x with
    ctlTx := [], ctlRx := [], super := false, blk := 0, leave := 0, leaveSent := 0, quiet := false, back := [], got0 := none, noK := 0 }) s1

/-- What bring-up has found so far is forgotten. -/
def laneForget (l : Nat) (s : State) : State :=
  modLane l (fun x => { x with
    caps := [], same := 0, ack := false, done := false, target := 0, stepping := false, next := 0, stepFrom := 0, refuse := false,
    txSw := false, rxSw := false, bit := false }) (setFld (Reg.LANE_STATUS l) 9 7 0 s)

/-- Every entry to DETECT (R343): the cause, state and rate recorded, the entry counted, T1 and its settings; TETHER_DOWN except from DETECT.
FAIL_RUN counts an attempt that ended without reaching ACTIVE, and clears on RESTART (R344). -/
def enterDetect (l cause : Nat) (s : State) : State :=
  let st := laneState l s
  let fail := fld (Reg.LANE_STATUS l) 13 10 s
  let s1 := wr (Reg.LANE_TLAST_DOWN l) (dw (roundNow s % 65536 * 65536 + cause * 4096 + st * 256 + laneRate l s * 16)) s
  let s2 := bump (Reg.LANE_TDOWN_CNT l) (laneForget l (laneLeaveActive l s1))
  let s3 := setFld (Reg.LANE_STATUS l) 13 10 (if cause = 7 then 0 else if 1 ≤ st ∧ st ≤ 4 then min 15 (fail + 1) else fail) s2
  let s4 := laneSetState l 0 (laneRdStart l (laneSetRate l 1 s3))
  if st = 0 then s4 else laneEventOnce l 1 s4

/-- Entry to ACTIVE: idle blocks until superblocks begin (R350). -/
def enterActive (l : Nat) (s : State) : State :=
  laneEvent l 0 (laneSetState l 5 (setFld (Reg.LANE_STATUS l) 13 10 0
    (modLane l (fun x => { x with stepping := false, rxMap := laneMap l false s, blk := 0, super := false, rxRd := none }) s)))

/-- Do the lane's line events happen: Tether, not looped back, lines connected (R519)? -/
def laneLive (l : Nat) (s : State) : Bool := decide (laneState l s ≠ 6) && laneLoop l s == 0 && !(inReplay s)

/-- DETECT_ATTEMPT. Unless a receiver is detected the attempt fails (R344). -/
def opDetectAttempt (l : Nat) (s : State) : State :=
  if laneLive l s = true ∧ laneState l s = 0 then
    let f := fld (Reg.LANE_STATUS l) 13 10 s
    bump (Reg.LANE_TDETECT_CNT l) (setFld (Reg.LANE_STATUS l) 13 10 (min 15 (f + 1)) (modLane l (fun x => { x with failBefore := f }) s))
  else s

/-- RECEIVER_DETECTED: TRAIN. -/
def opReceiverDetected (l : Nat) (s : State) : State :=
  if laneLive l s = true ∧ laneState l s = 0 then
    laneSetState l 1 (setFld (Reg.LANE_STATUS l) 13 10 (lane l s).failBefore s)
  else s

/-- BIT_LOCK: LOCK, or the lock at a step's new rate. -/
def opBitLock (l : Nat) (s : State) : State :=
  if laneLive l s then
    (if laneState l s = 1 then laneSetState l 2 s
     else if laneState l s = 4 ∧ (lane l s).rxSw = true then modLane l (fun x => { x with bit := true }) s else s)
  else s

/-- The partner's block in use: byte `i`, and the eight bytes of its ID. -/
def partnerByte (l i : Nat) (s : State) : Nat := fld (Reg.LANE_TPARTNER_CAPS l (i / 4)) (8 * (i % 4) + 7) (8 * (i % 4)) s
def partnerId (l : Nat) (s : State) : Nat := (rd (Reg.LANE_TPARTNER_CAPS l 2) s).toNat + (rd (Reg.LANE_TPARTNER_CAPS l 3) s).toNat * 2 ^ 32

/-- The module's own VERSION, MAXRATE and ID (R346). -/
def ownVersion (s : State) : Nat := if epochA s then 1 else 2
def ownMaxRate (l : Nat) (s : State) : Nat := min (maxRate l s) (laneCeil l s)
def ownId (l : Nat) (s : State) : Nat := withBits (rd Reg.SEC_SERIAL s).toNat 4 0 l

/-- The module's own capability block (R346): ROLE 0, RATES T1 to T6, ACK once the partner's block is accepted, PM. One of version 1 ends at byte
15. -/
def ownCaps (l : Nat) (s : State) : List Byte :=
  let b := leBytes 1 (ownVersion s) ++ leBytes 1 0 ++ leBytes 1 0x3F ++ leBytes 1 (ownMaxRate l s) ++ leBytes 1 (b2n (lane l s).ack + 2) ++
    leBytes 3 0 ++ leBytes 8 (ownId l s)
  if ownVersion s = 1 then b ++ leBytes 16 0 else b ++ leBytes 4 0 ++ leBytes 8 (rd (Reg.LANE_TCAPS_USER l) s).toNat ++ leBytes 4 0

/-- The ordered set a lane sends over and over before ACTIVE (R343, R348); none where the line is idle or carries blocks. `sym` says that the receiver
has symbol lock, from which on TSB is sent. -/
def laneSet (l : Nat) (sym : Bool) (s : State) : List LaneChar :=
  let x := lane l s
  let r := laneRate l s
  match laneState l s with
  | 1 => tsaSet r 0
  | 2 => if sym then tsbSet r else tsaSet r 1
  | 3 => capsSet (ownCaps l s)
  | 4 =>
    if x.stepping && x.refuse then tsaSet r 2
    else if x.stepping && !x.txSw then tscSet r x.next x.count
    else if sym || !x.stepping then tsbSet (if x.stepping then x.next else r)
    else tsaSet x.next (b2n x.bit)
  | _ => []

/-- Code groups at a lane's pins as its receiver takes them: inverted where the lane table says so (R365). -/
def laneGroups (l : Nat) (gs : List Nat) (s : State) : List Nat :=
  if (lane (lanePhys l s) s).polarity.testBit 0 then gs.map (1023 - · % 1024) else gs.map (· % 1024)

/-- A lane reads code groups: the characters, the code violations among them, which are counted, and the disparity after them (R339). -/
def laneRead (l : Nat) (gs : List Nat) (s : State) : List LaneChar × Nat × State :=
  let r := readGroups ((lane l s).rxRd.getD (commaDisparity gs)) gs
  (r.1, r.2.1, bumpBy (Reg.LANE_TCV_CNT l) r.2.1 (modLane l (fun x => { x with rxRd := some r.2.2 }) s))

/-- The highest rate the versions allow: T4 when either is 1 (R347, R351). -/
def rateTop (l : Nat) (s : State) : Nat := if ownVersion s = 1 ∨ partnerByte l 0 s = 1 then 4 else 6

/-- Is rate `r` within the limits of R347? -/
def rateMay (l r : Nat) (s : State) : Bool :=
  decide (1 ≤ r ∧ r ≤ rateTop l s) && (partnerByte l 2 s).testBit (r - 1) && decide (r ≤ ownMaxRate l s) && decide (r ≤ partnerByte l 3 s)

/-- The target rate, 0 where there is none. -/
def targetRate (l : Nat) (s : State) : Nat := (upto 7).foldl (fun t r => if rateMay l r s then r else t) 0

/-- Does the module lead, if anyone does? A partner ROLE other than 0 and 1 gives no leader. -/
def laneLeads (l : Nat) (s : State) : Option Bool :=
  if partnerByte l 1 s = 1 then some true
  else if partnerByte l 1 s = 0 then
    (if ownId l s = partnerId l s then none else some (decide (ownId l s < partnerId l s)))
  else none

/-- NEXT above the current rate (R348), 0 where none. -/
def nextRate (l : Nat) (s : State) : Nat := ((upto 7).find? fun r => decide (laneRate l s < r) && rateMay l r s).getD 0

/-- A step begins. -/
def stepBegin (l next : Nat) (refuse : Bool) (s : State) : State :=
  laneSetState l 4 (modLane l (fun x => { x with
    stepping := true, next := next, stepFrom := laneRate l s, refuse := refuse, txSw := false, rxSw := false, bit := false, count := 63 }) s)

/-- The exchange completes (R347). -/
def capsComplete (l : Nat) (s : State) : State :=
  let t := targetRate l s
  match laneLeads l s, decide (partnerByte l 0 s = 0 ∨ t = 0) with
  | some lead, false =>
    let s1 := setFld (Reg.LANE_STATUS l) 7 7 (b2n lead) (modLane l (fun x => { x with done := true, target := t }) s)
    if lead then (if laneRate l s < t then stepBegin l (nextRate l s1) false s1 else enterActive l s1) else s1
  | _, _ => enterDetect l 8 s

/-- The partner's block is accepted: reported, with bytes 16 to 31 of a version-1 block as zero; a new partner clears CEIL (R349). -/
def capsAccept (l : Nat) (bs : List Byte) (s : State) : State :=
  let v := leAt bs 0 1
  let b := if v = 1 then bs.take 16 ++ List.replicate 16 0 else bs
  let s1 := forEach (upto 8) (fun n t => wr (Reg.LANE_TPARTNER_CAPS l n) (dw (leAt b (4 * n) 4)) t) s
  let s2 := setFld (Reg.LANE_STATUS l) 9 8 (min v (ownVersion s)) (modLane l (fun x => { x with ack := true }) s1)
  let s3 := match (lane l s).ceilId with
    | none => s2
    | some i => if i = leAt b 8 8 then s2
      else setFld (Reg.LANE_STATUS l) 16 14 6 (modLane l (fun x => { x with ceilId := none }) s2)
  if bitOf (leAt b 4 1) 0 && !((lane l s).done) then capsComplete l s3 else s3

/-- The block of a CAPS set (R341), where the characters are one, and whether its CRC is good. -/
def capsOf (cs : List LaneChar) : List Byte × Bool :=
  let bs := cs.map (·.2)
  let b := sliceOf bs 2 32
  (b, decide (cs.length = 40 ∧ cs.take 2 = [k285, (false, 0x43)]) && decide (crc16Bytes b = sliceOf bs 34 2))

/-- Code violations of a Tether lane that no block or set carries are counted as well (R339). -/
def laneViolations (l viol : Nat) (s : State) : State :=
  if laneLive l s then bumpBy (Reg.LANE_TCV_CNT l) viol s else s

/-- A CAPS set, as code groups: three consecutive identical good sets are accepted. -/
def capsTaken (l : Nat) (gs : List Nat) (s0 : State) : State :=
  if laneLive l s0 = true ∧ laneState l s0 = 3 then
    let r := laneRead l (laneGroups l gs s0) s0
    let s := r.2.2
    let bs := (capsOf r.1).1
    if (capsOf r.1).2 then
      let n := if (lane l s).caps = bs then (lane l s).same + 1 else 1
      let s1 := modLane l (fun x => { x with caps := bs, same := n }) s
      if 3 ≤ n then capsAccept l bs s1 else s1
    else modLane l (fun x => { x with caps := [], same := 0 }) s
  else s0

/-- CAPS_SET_RECEIVED, with the code violations since the last set. -/
def opCapsSetReceived (l : Nat) (gs : List Nat) (viol : Nat) (s : State) : State := capsTaken l gs (laneViolations l viol s)

/-- The ends have switched to the step's rate. -/
def stepSwitched (l : Nat) (s : State) : State :=
  if (lane l s).txSw && (lane l s).rxSw then laneSetRate l (lane l s).next s else s

/-- SYMBOL_LOCK: CAPS, or the end of a step. The sets before it no command brought. -/
def lockSymbol (l : Nat) (s0 : State) : State :=
  let s := modLane l (fun y => { y with rxRd := none }) s0
  let x := lane l s
  if laneLive l s then
    (if laneState l s = 2 then laneSetState l 3 s
     else if laneState l s = 4 ∧ x.stepping = true ∧ x.txSw = true ∧ x.rxSw = true ∧ x.bit = true then
       (let s1 := modLane l (fun y => { y with stepping := false }) s
        if flagOn (Reg.LANE_STATUS l) 7 s then
          (if x.next = x.target then enterActive l s1 else stepBegin l (nextRate l s1) false s1)
        else s1)
     else s0)
  else s0
def opSymbolLock (l viol : Nat) (s : State) : State := lockSymbol l (laneViolations l viol s)

/-- The timeouts of TRAIN, LOCK and CAPS. -/
def laneTimeout (l st cause : Nat) (s : State) : State :=
  if laneLive l s = true ∧ laneState l s = st then enterDetect l cause s else s

def opTrainTimeout (l : Nat) (s : State) : State := laneTimeout l 1 1 s
def opLockTimeout (l viol : Nat) (s : State) : State := laneTimeout l 2 2 (laneViolations l viol s)
def opCapsTimeout (l : Nat) (s : State) : State := laneTimeout l 3 3 s

/-- STEP_TIMEOUT: CEIL becomes the rate stepped from (R349). -/
def opStepTimeout (l viol : Nat) (s0 : State) : State :=
  let s := laneViolations l viol s0
  if laneLive l s = true ∧ laneState l s = 4 ∧ (lane l s).stepping = true then
    let r := (lane l s).stepFrom
    let id := partnerId l s
    setFld (Reg.LANE_STATUS l) 16 14 r (modLane l (fun x => { x with ceilId := some id })
      (enterDetect l 4 (bump (Reg.LANE_TSTEPFAIL_CNT l) s)))
  else s

/-- NEXT and COUNT of a TSC (R341), none where the characters are no TSC. -/
def tscOf (cs : List LaneChar) : Option (Nat × Nat) :=
  if cs.length = 16 ∧ cs.take 2 = [k285, (false, 0x52)] then some (leAt (cs.map (·.2)) 3 1, leAt (cs.map (·.2)) 4 1) else none

/-- A TSC with its NEXT and COUNT (R348): a follower's step begins with the first, and its own TSC carries the COUNT; COUNT 0 switches the
receiver. -/
def tscTaken (l next count : Nat) (s : State) : State :=
  let lead := flagOn (Reg.LANE_STATUS l) 7 s
  let s1 := if !lead && !((lane l s).stepping) then
      stepBegin l next (!(decide (1 ≤ next ∧ next ≤ rateTop l s)) || decide (ownMaxRate l s < next)) s
    else s
  let s2 := if lead then s1 else modLane l (fun x => { x with count := count }) s1
  if count = 0 ∧ (lane l s2).stepping = true ∧ (lane l s2).refuse = false ∧ (lane l s2).next = next then
    stepSwitched l (modLane l (fun x => { x with rxSw := true }) s2)
  else s2

/-- A TSC, as code groups. -/
def tscRead (l : Nat) (gs : List Nat) (s : State) : State :=
  if laneLive l s = true ∧ ((laneState l s = 3 ∧ (lane l s).done = true) ∨ laneState l s = 4) then
    let r := laneRead l (laneGroups l gs s) s
    match tscOf r.1 with
    | some (next, count) => tscTaken l next count r.2.2
    | none => r.2.2
  else s

/-- TSC_RECEIVED, with the code violations since the last set. -/
def opTscReceived (l : Nat) (gs : List Nat) (viol : Nat) (s : State) : State := tscRead l gs (laneViolations l viol s)

/-- TSC_COUNT_ZERO_SENT: the transmitter switches. A follower sends COUNT 0 only after it has received it. -/
def opTscCountZeroSent (l : Nat) (s : State) : State :=
  let x := lane l s
  if laneLive l s = true ∧ laneState l s = 4 ∧ x.stepping = true ∧ x.refuse = false ∧ (flagOn (Reg.LANE_STATUS l) 7 s = true ∨ x.rxSw = true) then
    stepSwitched l (modLane l (fun y => { y with txSw := true, count := 0 }) s)
  else s

/-- LOCK_LOSS of an ACTIVE lane; `viol` code violations are counted with it (R339). -/
def opLockLoss (l viol : Nat) (s : State) : State :=
  if laneLive l s = true ∧ laneState l s = 5 then enterDetect l 5 (bumpBy (Reg.LANE_TCV_CNT l) viol s) else s

/-- SIGNAL_LOSS in LOCK, CAPS, ACTIVE, or STEP outside the switch-to-lock interval. -/
def opSignalLoss (l : Nat) (s : State) : State :=
  let st := laneState l s
  if laneLive l s = true ∧ (st = 2 ∨ st = 3 ∨ st = 5 ∨ (st = 4 ∧ ((lane l s).rxSw = false ∨ (lane l s).bit = true))) then enterDetect l 9 s else s

/-- A write of LANE_CTRL: RESTART, CLR_CEIL. -/
def laneRestart (l : Nat) (s : State) : State := if laneState l s = 6 then s else enterDetect l 7 s
def laneClrCeil (l : Nat) (s : State) : State :=
  setFld (Reg.LANE_STATUS l) 16 14 6 (modLane l (fun x => { x with ceilId := none }) s)

/-! ## Ethernet ports (R337, R338) -/

/-- STATE of a port. -/
def setPort (m st : Nat) (s : State) : State :=
  let t := setFld (Reg.LANE_QUAD_STATUS (m / 2)) (2 * (m % 2) + 1) (2 * (m % 2)) st s
  if portState m s = st then t else recLink m (linkWord 1 st 0) t

/-- The first lane of a port (its quad's first where it has none). -/
def portFirst (m : Nat) (s : State) : Nat := ((portLanes (m / 2) (m % 2) s).head?).getD (m / 2 * 4)

/-- The port goes down; `first` is its first lane. -/
def portFall (m first : Nat) (s : State) : State :=
  if portState m s = 3 then laneEvent first 5 (macLink m false (setPort m 0 s)) else setPort m 0 s

/-- Bring-up starts: the lane table's values for the rate, and negotiation on CR and KR. -/
def portStart (m : Nat) (s : State) : State :=
  match macPort m s with
  | none => setPort m 0 s
  | some (_, _, rate, phy, _) =>
    forEach (portLanes (m / 2) (m % 2) s) (fun l t => laneEqLoad l (rate + 5) t) (setPort m (if phy = 0 then 0 else 1) s)

/-- Do the port's line events happen? -/
def portLive (m : Nat) (s : State) : Bool :=
  decide (m < 16) && (macPort m s).isSome && !(quadOff (m / 2) s) && !(inReplay s) && (portLanes (m / 2) (m % 2) s).all fun l => laneLoop l s == 0

/-- The port goes UP. -/
def portRise (m : Nat) (s : State) : State := laneEvent (portFirst m s) 5 (macLink m true (setPort m 3 s))

/-- AN_COMPLETE: the configured ability or another. `sym` and `asym` are the partner's pause abilities, which resolve with the module's own by Annex 28B
of IEEE 802.3, whose table the manual does not print (PRESUMED, log 66): both ways where both are symmetric, to the partner or from it where
both are asymmetric and only one, the receiver, is symmetric. `eee` says that the partner advertises the port's EEE. -/
def opAnComplete (m : Nat) (same sym asym eee : Bool) (s : State) : State :=
  let own := flagOn (Reg.MAC_PAUSE_CFG m) 0 s
  let ownAsym := flagOn (Reg.MAC_PAUSE_CFG m) 1 s
  let tx := (own && sym) || (!own && ownAsym && sym && asym)
  let rx := (own && sym) || (own && ownAsym && !sym && asym)
  if portLive m s = true ∧ portState m s = 1 then
    if same then
      setPort m 2 (setFld (Reg.MAC_STATUS m) 6 4 (4 * b2n (eee && flagOn (Reg.MAC_EEE_CFG m) 0 s) + 2 * b2n rx + b2n tx) s)
    else bump (Reg.LANE_ETH_AN_FAIL_CNT (portFirst m s)) s
  else s

/-- LINK_TRAINING_COMPLETE: the trained values are in use where EQ_MODE is AUTO; the manual gives none, so they are free. -/
def opLinkTrainingComplete (m : Nat) (s : State) : State :=
  if portLive m s = true ∧ portState m s = 2 then
    portRise m (drawn (forEach (portLanes (m / 2) (m % 2) s) (fun l t =>
      if eqAuto l t then wr (Reg.LANE_EQ_STATUS l) (freeNow l s &&& 0x7F0F0F3F) t else t) s))
  else s

/-- C2M_PORT_UP: the receiver of an AUTO lane has adapted its CTLE; pause counts as resolved both ways (R388). -/
def opC2mPortUp (m : Nat) (s : State) : State :=
  match macPort m s with
  | some (_, _, _, 0, _) =>
    if portLive m s = true ∧ portState m s = 0 then
      portRise m (setFld (Reg.MAC_STATUS m) 6 4 3 (drawn (forEach (portLanes (m / 2) (m % 2) s) (fun l t =>
        if eqAuto l t then setFld (Reg.LANE_EQ_STATUS l) 5 0 (freeNow l s).toNat t else t) s)))
    else s
  | _ => s

/-- PORT_LINK_LOSS: DOWN, and bring-up again. -/
def opPortLinkLoss (m : Nat) (s : State) : State :=
  if portLive m s = true ∧ portState m s = 3 then portStart m (portFall m (portFirst m s) s) else s

/-! ## Blocks (R352 to R362) -/

/-- Running channels of a lane in one direction. -/
def laneChans (l : Nat) (down : Bool) (s : State) : List Nat :=
  (upto 1024).filter fun ch => cfaRuns ch s && cgDown (cfaCfg ch s) == down && cgLane (cfaCfg ch s) == l

/-- Does the lane deliver to, or take from, channel `ch` whole blocks (R311, R362)? -/
def laneServes (ch : Nat) (s : State) : Bool :=
  let c := cfaCfg ch s
  let l := cgLane c
  laneState l s == 5 && !((lane l s).quiet) && decide (cgRmult c ≠ 0) &&
  (if cgDown c then (lane l s).super && (laneMap l true s).getD (cgStream c) 0 == cgRmult c
   else (lane l s).rxMap.getD (cgStream c) 0 == cgRmult c)

/-- CFA_SAMPLE_PERIOD: a carrier-sample period of a channel whose lane does not deliver or send (R311). -/
def opCfaSamplePeriod (ch : Nat) (s : State) : State :=
  if cfaRuns ch s && !(laneServes ch s) then
    (if cgDown (cfaCfg ch s) then (cfaSend ch (cfaTotal ch s) s).2
     else cfaUpZero ch (cfaTotal ch s) (setFlag (Reg.CFA_CH_STATUS ch) 29 s))
  else s

/-- Sum of two sample lists with their blank flags (R311). -/
def addSamples (a b : List ((Int × Int) × Bool)) : List ((Int × Int) × Bool) :=
  List.zipWith (fun x y => ((x.1.1 + y.1.1, x.1.2 + y.1.2), x.2 || y.2)) a b

/-- The samples of stream `st` in one block, and whether any is blank, as all are beyond the first P of a Round (R51). A stream carried that no
running channel feeds is zero, and R362 sets no BLANK bit for it: whether R49 counts it among the blank symbols the manual leaves open (DESIGN
CHOICE, log 66). -/
def streamOut (l st r : Nat) (s : State) : (List (Int × Int) × Bool) × State :=
  let chs := (laneChans l true s).filter fun ch => cgStream (cfaCfg ch s) == st && cgRmult (cfaCfg ch s) == r
  let z : List ((Int × Int) × Bool) := List.replicate r ((0, 0), false)
  let x := chs.foldl (fun (a : List ((Int × Int) × Bool) × State) ch => let y := cfaSend ch r a.2; (addSamples a.1 y.1, y.2)) (z, s)
  ((x.1.map fun v => (sat 16 v.1.1, sat 16 v.1.2), s.round.beyondP || x.1.any (·.2)), x.2)

/-- Payload and BLANK bits of a superblock's block, streams in ascending order from stream `st`. -/
def streamsOut (l : Nat) : List Nat → Nat → State → (List Byte × Nat) × State
  | [], _, s => (([], 0), s)
  | r :: t, st, s =>
    if r = 0 then streamsOut l t (st + 1) s
    else
      let x := streamOut l st r s
      let y := streamsOut l t (st + 1) x.2
      ((x.1.1.flatMap sampleBytes ++ y.1.1, y.1.2 + (if x.1.2 then 2 ^ st else 0)), y.2)

/-- The next eight bytes of the control channel; TX_CONS advances after a message's last byte (R357, R358). -/
def ctlOut (l : Nat) (s : State) : List Byte × State :=
  let c := (lane l s).ctlTx
  let bs := c.take 8
  let s1 := modLane l (fun x => { x with ctlTx := c.drop 8 }) s
  (bs ++ List.replicate (8 - bs.length) 0, if c.isEmpty = false ∧ c.length ≤ 8 then ctlTxNext l s1 else s1)

/-- The bytes of a block (R352), its K first: index, WORD, BLANK, payload. -/
def blockBytes (l blk : Nat) (word : List Byte) (blank : Nat) (leave : Bool) (payload : List Byte) (s : State) : List Byte :=
  let req := fld (Reg.LANE_TPM l) 1 0 s
  let n := blockLen (laneRate l s)
  let body := leBytes 2 blk ++ word ++ leBytes 8 blank ++ leBytes 1 (if req = 3 then 0 else req) ++
    leBytes 1 (fld (Reg.LANE_TPM_STATUS l) 15 8 s) ++ leBytes 1 0 ++ leBytes 1 (2 + b2n leave) ++ leBytes 1 0 ++ payload
  let full := body ++ List.replicate (n - 3 - body.length) 0
  (if blk = 0 then (0xBC : Byte) else 0x3C) :: full ++ crc16Bytes full

/-- Is a received block whole, with a good CRC (R361)? -/
def blockGood (l : Nat) (bs : List Byte) (s : State) : Bool :=
  let n := blockLen (laneRate l s)
  decide (bs.length = n) && decide (crc16Bytes ((bs.drop 1).take (n - 3)) = (bs.drop 1).drop (n - 3))

/-- The payload of a TETHER record (R512): the characters after the first, then one byte for the CRC result (log 31). -/
def blockRecord (l : Nat) (bs : List Byte) (s : State) : List Byte := bs.drop 1 ++ leBytes 1 (b2n (blockGood l bs s))

/-- A sent block leaves: captured in Replay, recorded with TX_REC, looped back in modes 1 and 2 (R510 to R512, R519). -/
def blockOut (l : Nat) (bs : List Byte) (s : State) : State :=
  let sel := recSelLane l s
  let pay := blockRecord l bs s
  let s1 := if inReplay s then (if sel then recCapture 0x12 l pay s else s)
    else if sel && flagOn Reg.REC_CFG 30 s then recAppend 0x12 l pay s else s
  let g := codeGroups (lane l s).txRd (match bs with | [] => [] | k :: t => (true, k) :: dataChars t)
  modLane l (fun x => { x with txRd := g.2, back := if laneLoop l s = 1 ∨ laneLoop l s = 2 then x.back ++ [g.1] else x.back }) s1

/-- TETHER_BLOCK_SEND: `turn` as measured for block 1, `cut` the characters sent where the Round ends inside the block (R360), and an ECC
finding at a CFA word. -/
def opTetherBlockSend (l turn : Nat) (cut : Option Nat) (ecc : Ecc) (word : Nat) (s : State) : State :=
  let x := lane l s
  if laneState l s = 5 ∧ x.quiet = false ∧ (laneLoop l s = 0 ∨ ((laneLoop l s = 1 ∨ laneLoop l s = 2) ∧ flagOn (Reg.SPARE_LOOP_LANE l) 3 s = false)) then
    let s0 := cfaMemErr ecc word s
    let blk := if x.super then x.blk else 0xFFFF
    let s1 := if blk = 0 then forEach (laneChans l true s0) (fun ch t => cfaMark ch t) s0 else s0
    let begin := decide (x.leave = 1) && (!x.super || decide (blk = 0))
    let on := begin || decide (x.leave = 2)
    let p := if x.super then streamsOut l (laneMap l true s1) 0 s1 else (([], 2 ^ 64 - 1), s1)
    let w := if blk = 0 then (leBytes 8 (roundNow s), p.2)
      else if blk = 1 then (leBytes 4 turn ++ leBytes 4 0, p.2) else ctlOut l p.2
    let bs := blockBytes l blk w.1 p.1.2 on p.1.1 w.2
    let s2 := if x.super && decide (p.1.2 ≠ 0) then { w.2 with round := { w.2.round with blanked := true } } else w.2
    let s3 := modLane l (fun y => { y with
      blk := if y.super then y.blk + 1 else y.blk, leave := if on then 2 else y.leave, leaveSent := if on then y.leaveSent + 1 else y.leaveSent }) s2
    blockOut l (match cut with | none => bs | some n => bs.take n) s3
  else s

/-- LEAVE_COMPLETE: one whole superblock, or 240 idle blocks, carried LEAVE; the lane drives idle (R356). -/
def opLeaveComplete (l : Nat) (s : State) : State :=
  let x := lane l s
  if laneState l s = 5 ∧ x.leave = 2 ∧ (if x.super then 120 * 2 ^ fld Reg.ROUND_CFG 2 0 s else 240) ≤ x.leaveSent then
    modLane l (fun y => { y with leave := 0, leaveSent := 0, quiet := true }) s
  else s

/-- An ACTIVE Tether lane is to send LEAVE. -/
def laneLeave (s : State) : State :=
  forEach (upto 32) (fun l t => if laneState l t = 5 then modLane l (fun x => { x with leave := if x.leave = 0 then 1 else x.leave }) t else t) s

/-- A lane has nothing left to tell its partner. -/
def laneLeft (s : State) : Bool := (upto 32).all fun l => !(laneState l s == 5 && (lane l s).leave != 0)

/-- A whole control message at the front of the bytes (R357): the bytes left, and the message if its CRC is good; none while more are needed. -/
inductive CtlStep where
  | more | bad (rest : List Byte) | good (msg rest : List Byte) | skip (rest : List Byte)
deriving DecidableEq, Repr

def ctlParse : List Byte → CtlStep
  | [] => .more
  | b :: t =>
    if b = 0x7E then
      match t with
      | [] => .more
      | n :: u =>
        if n = 0 ∨ 248 < n.toNat then .bad t
        else if u.length < n.toNat + 2 then .more
        else if crc16Bytes (n :: u.take n.toNat) = sliceOf u n.toNat 2 then .good (u.take n.toNat) (u.drop (n.toNat + 2))
        else .bad t
    else .skip t

/-- Uses of a lane's packets: the transmit entry read; a ring write by entry index. -/
def useCtlRead : Nat := 1
def useCtlWrite (e : Nat) : Nat := 16 + e

/-- A good control message is written to the ring, or dropped while the ring is full (R358). -/
def ctlMessage (l : Nat) (msg : List Byte) (s : State) : State :=
  let prod := (fld (Reg.LANE_TCTL_PTR l) 7 0 s + (lane l s).rxPend.length) % 256
  if 16 ≤ (prod + 256 - fld (Reg.LANE_TCTL_PTR l) 15 8 s) % 256 then bump (Reg.LANE_TCTL_DROP_CNT l) s
  else
    postPieces (.lane l) (useCtlWrite (prod % 16)) 256 (fld (Reg.LANE_TCTL_RX_BASE l) 47 12 s * 4096 + prod % 16 * 256)
      (leBytes 4 msg.length ++ leBytes 4 (roundNow s % 2 ^ 32) ++ msg) (modLane l (fun x => { x with rxPend := x.rxPend ++ [msg.length] }) s)

/-- The bytes received so far are searched for messages; the first argument bounds the steps. -/
def ctlHunt (l : Nat) : Nat → State → State
  | 0, s => s
  | n + 1, s =>
    match ctlParse (lane l s).ctlRx with
    | .more => s
    | .skip r => ctlHunt l n (modLane l (fun x => { x with ctlRx := r }) s)
    | .bad r => ctlHunt l n (bump (Reg.LANE_TCTL_ERR_CNT l) (modLane l (fun x => { x with ctlRx := r }) s))
    | .good m r => ctlHunt l n (ctlMessage l m (modLane l (fun x => { x with ctlRx := r }) s))

/-- Eight bytes of the control channel arrive. -/
def ctlIn (l : Nat) (bs : List Byte) (s : State) : State :=
  let t := modLane l (fun x => { x with ctlRx := x.ctlRx ++ bs }) s
  ctlHunt l ((lane l t).ctlRx.length + 1) t

/-- CTL_RING_WRITE_ACCEPTED: the oldest message stands in the ring. -/
def opCtlRingWriteAccepted (l : Nat) (s : State) : State :=
  match (lane l s).rxPend with
  | [] => s
  | len :: rest =>
    let p := fld (Reg.LANE_TCTL_PTR l) 7 0 s
    if unaccepted (.lane l) (useCtlWrite (p % 16)) s then s
    else
      let w := (rd (Reg.LANE_TCTL_TOKEN l) s).toNat
      let s1 := setFld (Reg.LANE_TCTL_PTR l) 7 0 (p + 1) (modLane l (fun x => { x with rxPend := rest }) s)
      let s2 := if bitOf w 31 then postToken (.lane l) (bitsOf w 15 13) (bitsOf w 12 0) (bitsOf w 18 16) (len * 256 + p % 16) s1 else s1
      laneEvent l 4 s2

/-- CTL_TX_ENTRY_READ. -/
def opCtlTxEntryRead (l : Nat) (s : State) : State :=
  let cons := fld (Reg.LANE_TCTL_PTR l) 23 16 s
  if laneState l s = 5 ∧ cons ≠ fld (Reg.LANE_TCTL_PTR l) 31 24 s ∧ (lane l s).ctlTx.isEmpty = true ∧ (lane l s).ctlRead = false then
    reqRead (.lane l) useCtlRead (fld (Reg.LANE_TCTL_TX_BASE l) 47 12 s * 4096 + cons % 16 * 256) 256 false
      (modLane l (fun x => { x with ctlRead := true }) s)
  else s

/-- CTL_TX_ENTRY_ANSWER: the entry is sent or skipped; one whose read fails is skipped too. -/
def opCtlTxEntryAnswer (l : Nat) (s : State) : State :=
  match waitingAns (.lane l) useCtlRead s with
  | none => s
  | some (t, code, bs) =>
    let s1 := modLane l (fun x => { x with ctlRead := false }) (takeAns t.id s)
    let n := leAt bs 0 1
    if laneState l s ≠ 5 then s1
    else if code ≠ 0 ∨ n = 0 ∨ 248 < n then bump (Reg.LANE_TCTL_ERR_CNT l) (ctlTxNext l s1)
    else
      let m := leBytes 1 n ++ sliceOf bs 8 n
      modLane l (fun x => { x with ctlTx := (0x7E : Byte) :: m ++ crc16Bytes m }) s1

/-- Samples of one received block for one uplink channel: stream `st` at byte `off`. -/
def chanIn (ch off r : Nat) (bs : List Byte) (how : Nat) (s : State) : State :=
  let s1 := setFld (Reg.CFA_CH_STATUS ch) 29 29 0 s
  if how = 0 then cfaUp ch ((upto r).map fun i => sampleOf bs (off / 4 + i)) s1
  else if how = 1 then cfaUp ch (List.replicate r (0, 0)) s1
  else cfaUpZero ch r s1

/-- The byte at which stream `st` begins under a map. -/
def streamAt (map : List Nat) (st : Nat) : Nat := 24 + 4 * (map.take st).foldl (· + ·) 0

/-- Every uplink channel the lane serves takes its samples: `bad` 0 from the block, 1 zeros of a bad block, 2 zeros counted as missing. -/
def blockSamples (l : Nat) (bs : List Byte) (bad : Nat) (s : State) : State :=
  let map := (lane l s).rxMap
  let blank := leAt bs 11 8
  forEach ((laneChans l false s).filter fun ch => laneServes ch s) (fun ch t =>
    let st := cgStream (cfaCfg ch s)
    chanIn ch (streamAt map st) (cgRmult (cfaCfg ch s)) bs (if bad = 0 ∧ blank.testBit st = true then 2 else bad) t) s

/-- The header of a good block (R354, R355, R357, R361). `arrive` is A of its arrival in 1/256 steps. -/
def blockHeader (l : Nat) (bs : List Byte) (arrive : Nat) (s : State) : State :=
  let i := leAt bs 1 2
  let echo := leAt bs 20 1
  let s1 := setFld (Reg.LANE_TPM_STATUS l) 1 0 (leAt bs 19 1) (modLane l (fun x => { x with echo := some echo }) s)
  let s2 := setFld (Reg.LANE_TPM_STATUS l) 16 16 (b2n (decide (echo = fld (Reg.LANE_TPM_STATUS l) 15 8 s1))) s1
  if i = 0 then wr (Reg.LANE_TRX_ROUND l) (dw (leAt bs 3 8)) (modLane l (fun x => { x with got0 := some arrive }) s2)
  else if i = 1 then
    (match (lane l s2).got0, (lane l s2).meas with
     | some a, false =>
       wr (Reg.LANE_TDELAY l) (dw (2 ^ 31 + (a + 2 ^ 31 - leAt bs 3 4 % 2 ^ 31) % 2 ^ 31)) (modLane l (fun x => { x with meas := true }) s2)
     | _, _ => s2)
  else ctlIn l (sliceOf bs 3 8) s2

/-- A block enters the receive path of an ACTIVE lane (R360 to R362). -/
def blockTaken (l : Nat) (bs : List Byte) (first : Bool) (arrive : Nat) (s1 : State) : State :=
  let s2 := if first then
      (let t := modLane l (fun x => { x with rxMap := laneMap l false s1, got0 := none }) s1
       forEach (laneChans l false t) (fun ch u => cfaMark ch u) t)
    else s1
  if bs.length < blockLen (laneRate l s1) then blockSamples l [] 2 (bump (Reg.LANE_TSHORT_CNT l) s2)
  else if blockGood l bs s1 then
    let s3 := blockSamples l bs 0 (blockHeader l bs arrive s2)
    if bitOf (leAt bs 22 1) 0 then enterDetect l 6 s3 else s3
  else blockSamples l [] 1 (laneEventOnce l 3 (bump (Reg.LANE_TCRC_CNT l) s2))

/-- Loss of lock (R343, cause 5): 16 violations in one block, or four blocks in a row with no K where one is due. A lane that LEAVE took down
stays so. -/
def lockKept (l viol : Nat) (k : Bool) (s : State) : State :=
  let n := if k then 0 else (lane l s).noK + 1
  if laneState l s ≠ 5 then s
  else if 16 ≤ viol ∨ 4 ≤ n then enterDetect l 5 s
  else modLane l (fun x => { x with noK := n }) s

/-- A block's characters arrive, `viol` code violations among them. -/
def blockIn (l : Nat) (cs : List LaneChar) (viol arrive : Nat) (s : State) : State :=
  let bs := cs.map (·.2)
  let s0 := if flagOn Reg.REC_SRC_LANE l s then recAppend 0x02 l (blockRecord l bs s) s else s
  let waits := decide (laneState l s = 3 ∨ laneState l s = 4) && (lane l s).done && !((lane l s).stepping) && !(flagOn (Reg.LANE_STATUS l) 7 s)
  let s1 := if waits && blockGood l bs s then enterActive l s0 else s0
  if laneState l s1 = 5 ∧ (lane l s1).quiet = false then
    lockKept l viol (decide (cs.head? = some k285 ∨ cs.head? = some k281)) (blockTaken l bs (decide (cs.head? = some k285)) arrive s1)
  else s1

/-- A received block: the code groups from its K on (fewer than N for a partial one), A at its arrival, an ECC finding at a CFA
word, and the checker's pattern errors in a loop-back. A lane in near loop-back receives its own block instead. -/
def blockReceived (l : Nat) (gs : List Nat) (arrive : Nat) (ecc : Ecc) (word prbs : Nat) (s : State) : State :=
  if inReplay s then s
  else
    let mode := laneLoop l s
    let s0 := if mode = 0 then s else bumpBy (Reg.SPARE_PRBS_ERR l) prbs s
    let take := fun (g : List Nat) (t : State) => let r := laneRead l g t; blockIn l r.1 r.2.1 arrive r.2.2
    if laneState l s = 6 then s0
    else if mode = 0 then take (laneGroups l gs s) (cfaMemErr ecc word s0)
    else match (lane l s0).back with
      | [] => s0
      | b :: t => take b (modLane l (fun x => { x with back := t }) (cfaMemErr ecc word s0))

/-- TETHER_BLOCK_RECEIVED, with the code violations between the last block and this. -/
def opTetherBlockReceived (l : Nat) (gs : List Nat) (viol arrive : Nat) (ecc : Ecc) (word prbs : Nat) (s : State) : State :=
  blockReceived l gs arrive ecc word prbs (laneViolations l viol s)

/-! ## Commits (R335, R338, R344, R353, R355, R511) -/

/-- Optional and allowed FEC codes of a port of `w` lanes at rate `r`; none where R336 lists no such port. -/
def portFecs (w r : Nat) : Option Nat :=
  match w, r with
  | 1, 1 => some 1 | 1, 2 => some 2 | 1, 3 => some 0 | 1, 4 => some 0 | 2, 3 => some 0 | 2, 4 => some 0
  | 4, 2 => some 0 | 4, 3 => some 0 | 4, 4 => some 0 | _, _ => none

/-- Is a quad configuration valid (R335, R336, R507)? 10 GbE has no CR form. -/
def quadValid (q cfg : Nat) (s : State) : Bool :=
  decide (bitsOf cfg 2 0 ≠ 7) && decide (bitsOf cfg 9 8 ≠ 3) && decide (bitsOf cfg 17 16 ≠ 3) && decide (bitsOf cfg 11 10 ≠ 3) && decide (bitsOf cfg 19 18 ≠ 3) &&
  (upto 2).all fun side => match portOf cfg side with
    | none => true
    | some (f, w, r, phy, fec) =>
      (match portFecs w r with | none => false | some m => decide (fec ≤ m)) && !(decide (w = 1 ∧ r = 1 ∧ phy = 1)) &&
      (upto w).all fun i => !(laneIsSpare (4 * q + f + i) s)

/-- The quad configurations that wait are checked before the apply stage (R335). -/
def laneCheck (s : State) : State :=
  forEach (upto 8) (fun q t =>
    if t.csr.shadow.any fun x => x.off == Reg.LANE_QUAD_CFG q then
      if quadValid q (pendingReg (Reg.LANE_QUAD_CFG q) t) t then setFld (Reg.LANE_QUAD_STATUS q) 4 4 0 t
      else laneEvent (4 * q) 6 (setFlag (Reg.LANE_QUAD_STATUS q) 4
        { t with csr := { t.csr with shadow := t.csr.shadow.filter fun x => x.off != Reg.LANE_QUAD_CFG q } })
    else t) s

/-- A lane becomes Tether: DETECT at T1 with FAIL_RUN clear. -/
def laneOn (l : Nat) (s : State) : State :=
  laneSetState l 0 (laneRdStart l (laneSetRate l 1 (setFld (Reg.LANE_STATUS l) 13 10 0 (laneForget l s))))

/-- A lane leaves Tether without LEAVE. -/
def laneOff (l : Nat) (s : State) : State :=
  laneSetState l 6 (laneSetRate l 0 (laneForget l (laneLeaveActive l s)))

/-- A Tether lane enters a loop-back (R511): ACTIVE at once at LOOP_RATE in the near modes. -/
def laneLooped (l : Nat) (s : State) : State :=
  let r := fld (Reg.SPARE_LOOP_LANE l) 10 8 s
  let s1 := laneForget l (laneLeaveActive l s)
  if laneLoop l s = 1 ∨ laneLoop l s = 2 then enterActive l (laneSetRate l (if r = 0 ∨ r = 7 then 1 else r) s1)
  else laneSetState l 0 (laneSetRate l 1 s1)

/-- A lane of a port takes its table or manual values at once in the modes that do not adapt (R364). -/
def portEq (l : Nat) (s : State) : State :=
  match (upto 2).find? fun side => (portLanes (l / 4) side s).contains l with
  | some side => (match macPort (l / 4 * 2 + side) s with
    | some (_, _, rate, _) => if eqAuto l s then s else laneEqLoad l (rate + 5) s
    | none => s)
  | none => s

/-- One lane at a commit; `s0` is the state before the apply stage. -/
def laneApplied (l : Nat) (s0 s : State) : State :=
  let want := laneMode l s == 2
  let was := laneState l s != 6
  let loop0 := laneLoop l s0
  let loop1 := laneLoop l s
  let seq := if rd (Reg.LANE_TPM l) s0 = rd (Reg.LANE_TPM l) s then s
    else setFld (Reg.LANE_TPM_STATUS l) 15 8 (fld (Reg.LANE_TPM_STATUS l) 15 8 s + 1) s
  let s1 := match (lane l seq).echo with
    | none => seq
    | some e => setFld (Reg.LANE_TPM_STATUS l) 16 16 (b2n (decide (e = fld (Reg.LANE_TPM_STATUS l) 15 8 seq))) seq
  if want then
    if !was then (if loop1 = 0 then laneOn l s1 else laneLooped l (laneOn l s1))
    else if decide (loop0 ≠ loop1) || (decide (loop1 ≠ 0) && decide (rd (Reg.SPARE_LOOP_LANE l) s0 ≠ rd (Reg.SPARE_LOOP_LANE l) s)) then
      (if loop1 = 0 then enterDetect l 7 s1 else laneLooped l s1)
    else if loop1 = 0 ∧ maxRate l s ≠ maxRate l s0 ∧ maxRate l s < laneRate l s then enterDetect l 7 s1
    else
      let s2 := if laneState l s1 ≠ 5 ∨ eqAuto l s1 = false then laneEq l s1 else s1
      if decide (laneMults l true s0 ≠ laneMults l true s) || decide (laneMults l false s0 ≠ laneMults l false s) then laneMaps l s2 else s2
  else portEq l (if was then laneOff l s1 else s1)

/-- One port at a commit. -/
def portApplied (m : Nat) (s0 s : State) : State :=
  let loop := fun (t : State) => (portLanes (m / 2) (m % 2) t).map fun l => laneLoop l t
  let looped := (loop s).any (· != 0)
  let down := quadOff (m / 2) s
  if macPort m s0 = macPort m s ∧ loop s0 = loop s ∧ down = false then s
  else
    let s1 := portFall m (portFirst m s0) s
    if looped || down then s1 else portStart m s1

/-- A commit at the lanes after the apply stage. -/
def laneCommit (s0 s : State) : State :=
  forEach (upto 32) (fun l t => laneApplied l s0 t) (forEach (upto 16) (fun m t => portApplied m s0 t) s)

/-- A Round begins at the lanes: block 0 of a superblock is next while Rounds run, VALID of the delay tells of the ended Round. -/
def laneNewRound (s : State) : State :=
  forEach (upto 32) (fun l t =>
    if laneState l t = 6 then t
    else
      let t1 := if (lane l t).meas then t else setFld (Reg.LANE_TDELAY l) 31 31 0 t
      modLane l (fun x => { x with super := roundsRun t && decide (laneState l t = 5), blk := 0, meas := false, raised := [] }) t1) s

/-- Rounds have stopped: ACTIVE lanes send idle blocks (R359). -/
def laneIdle (s : State) : State :=
  forEach (upto 32) (fun l t => if (lane l t).super then modLane l (fun x => { x with super := false, blk := 0 }) t else t) s

/-- A logical lane moves to its spare or back (R507), and restarts on the pins it then has. -/
def laneMove (l : Nat) (s : State) : State :=
  let t := modLane l (fun x => { x with moved := !x.moved }) s
  if laneState l t = 6 then t else enterDetect l 7 t

/-! ## Meanings of the commands -/

/-- AN_COMPLETE (R337). -/
def execAnComplete (m : Nat) (same sym asym eee : Bool) (s : State) : Host.Outcome State Fault Refusal :=
  .next (gated false (below 16 m) (opAnComplete m same sym asym eee) s)
/-- LINK_TRAINING_COMPLETE (R337). -/
def execLinkTrainingComplete (m : Nat) (s : State) : Host.Outcome State Fault Refusal := .next (gated false (below 16 m) (opLinkTrainingComplete m) s)
/-- PORT_LINK_LOSS (R338). -/
def execPortLinkLoss (m : Nat) (s : State) : Host.Outcome State Fault Refusal := .next (gated false (below 17 m) (opPortLinkLoss m) s)
/-- DETECT_ATTEMPT (R344). -/
def execDetectAttempt (l : Nat) (s : State) : Host.Outcome State Fault Refusal := .next (gated false (below 32 l) (opDetectAttempt l) s)
/-- RECEIVER_DETECTED (R343). -/
def execReceiverDetected (l : Nat) (s : State) : Host.Outcome State Fault Refusal := .next (gated false (below 32 l) (opReceiverDetected l) s)
/-- BIT_LOCK (R343). -/
def execBitLock (l : Nat) (s : State) : Host.Outcome State Fault Refusal := .next (gated false (below 32 l) (opBitLock l) s)
/-- SYMBOL_LOCK (R343). -/
def execSymbolLock (l : Nat) (s : State) (viol : Nat := 0) : Host.Outcome State Fault Refusal :=
  .next (gated false (below 32 l) (opSymbolLock l viol) s)
/-- TRAIN_TIMEOUT (R343). -/
def execTrainTimeout (l : Nat) (s : State) : Host.Outcome State Fault Refusal := .next (gated false (below 32 l) (opTrainTimeout l) s)
/-- LOCK_TIMEOUT (R343). -/
def execLockTimeout (l : Nat) (s : State) (viol : Nat := 0) : Host.Outcome State Fault Refusal :=
  .next (gated false (below 32 l) (opLockTimeout l viol) s)
/-- CAPS_TIMEOUT (R343). -/
def execCapsTimeout (l : Nat) (s : State) : Host.Outcome State Fault Refusal := .next (gated false (below 32 l) (opCapsTimeout l) s)
/-- STEP_TIMEOUT (R349). -/
def execStepTimeout (l : Nat) (s : State) (viol : Nat := 0) : Host.Outcome State Fault Refusal :=
  .next (gated false (below 32 l) (opStepTimeout l viol) s)
/-- CAPS_SET_RECEIVED (R347). -/
def execCapsSetReceived (l : Nat) (gs : List Nat) (viol : Nat) (s : State) : Host.Outcome State Fault Refusal :=
  .next (gated false (below 32 l) (opCapsSetReceived l gs viol) s)
/-- TSC_RECEIVED (R348). -/
def execTscReceived (l : Nat) (gs : List Nat) (viol : Nat) (s : State) : Host.Outcome State Fault Refusal :=
  .next (gated false (below 32 l) (opTscReceived l gs viol) s)
/-- TSC_COUNT_ZERO_SENT (R348). -/
def execTscCountZeroSent (l : Nat) (s : State) : Host.Outcome State Fault Refusal := .next (gated false (below 32 l) (opTscCountZeroSent l) s)
/-- LOCK_LOSS (R343). -/
def execLockLoss (l viol : Nat) (s : State) : Host.Outcome State Fault Refusal := .next (gated false (below 32 l) (opLockLoss l viol) s)
/-- SIGNAL_LOSS (R343). -/
def execSignalLoss (l : Nat) (s : State) : Host.Outcome State Fault Refusal := .next (gated false (below 32 l) (opSignalLoss l) s)
/-- TETHER_BLOCK_SEND (R352). -/
def execTetherBlockSend (l turn : Nat) (cut : Option Nat) (ecc : Ecc) (word : Nat) (s : State) : Host.Outcome State Fault Refusal :=
  .next (gated false (below 32 l) (opTetherBlockSend l turn cut ecc word) s)
/-- TETHER_BLOCK_RECEIVED (R361). -/
def execTetherBlockReceived (l : Nat) (gs : List Nat) (viol arrive : Nat) (ecc : Ecc) (word prbs : Nat) (s : State) : Host.Outcome State Fault Refusal :=
  .next (gated false (below 32 l) (opTetherBlockReceived l gs viol arrive ecc word prbs) s)
/-- LEAVE_COMPLETE (R356). -/
def execLeaveComplete (l : Nat) (s : State) : Host.Outcome State Fault Refusal := .next (gated false (below 32 l) (opLeaveComplete l) s)
/-- CTL_RING_WRITE_ACCEPTED (R358). -/
def execCtlRingWriteAccepted (l : Nat) (s : State) : Host.Outcome State Fault Refusal := .next (gated false (below 32 l) (opCtlRingWriteAccepted l) s)
/-- CTL_TX_ENTRY_READ (R358). -/
def execCtlTxEntryRead (l : Nat) (s : State) : Host.Outcome State Fault Refusal := .next (gated false (below 32 l) (opCtlTxEntryRead l) s)
/-- CTL_TX_ENTRY_ANSWER (R358). -/
def execCtlTxEntryAnswer (l : Nat) (s : State) : Host.Outcome State Fault Refusal := .next (gated false (below 32 l) (opCtlTxEntryAnswer l) s)
/-- CTLE_ADAPT (R364). -/
def execCtleAdapt (l : Nat) (up : Bool) (s : State) : Host.Outcome State Fault Refusal := .next (gated false (below 32 l) (opCtleAdapt l up) s)
/-- C2M_PORT_UP (R337). -/
def execC2mPortUp (m : Nat) (s : State) : Host.Outcome State Fault Refusal := .next (gated false (below 16 m) (opC2mPortUp m) s)
/-- CFA_SAMPLE_PERIOD (R311). -/
def execCfaSamplePeriod (ch : Nat) (s : State) : Host.Outcome State Fault Refusal := .next (gated false (below 1024 ch) (opCfaSamplePeriod ch) s)

end Sys2Proof.Machine
end

