-- ==== Sys2Proof/Machine/Hkc.lean ====
section
/-! DEFINITION. The housekeeping converter (R491 to R496). -/
namespace Sys2Proof.Machine

/-- Change the converter's own state. -/
def modHkc (f : Hkc → Hkc) (s : State) : State := { s with hkc := f s.hkc }

/-- HKC event `bit` of entry or channel `inst`, at most once of each per Round (R496). -/
def hkcEvent (bit inst : Nat) (s : State) : State :=
  if s.hkc.raised.contains (bit * 32 + inst) then s
  else flagEvent Reg.HKC_EVT_STATUS bit (0x480 + bit) inst (modHkc (fun h => { h with raised := (bit * 32 + inst) :: h.raised }) s)

/-- The first enabled entry from `n` on. -/
def hkcNext (n : Nat) (s : State) : Option Nat := (upto 32).find? fun i => decide (n ≤ i) && flagOn (Reg.HKC_SEQ i) 31 s

/-- HKC_CTRL.MODE. -/
def hkcMode (s : State) : Nat := fld Reg.HKC_CTRL 1 0 s

/-- HKC_PASS_START: a pass of the enabled entries starts as MODE says (R492); without any there is none. -/
def opHkcPassStart (s : State) : State :=
  let due := match hkcMode s with
    | 1 => true
    | 2 => s.hkc.want
    | 3 => roundsRun s && !s.hkc.began
    | _ => false
  if due && s.hkc.pass.isNone then modHkc (fun h => { h with pass := hkcNext 0 s, want := false, began := true, values := [] }) s else s

/-- Comparison of a new value of entry `n` with its window (R493). -/
def hkcCompare (n v : Nat) (s : State) : State :=
  let w := Reg.HKC_WIN n
  if flagOn (Reg.HKC_SEQ n) 30 s then
    let inside := decide (fld w 15 0 s ≤ v) && decide (v ≤ fld w 31 16 s)
    let prev := tabGet (fun _ => 0) s.hkc.prev n
    let s1 := modHkc (fun h => { h with prev := tabSet (fun _ => 0) h.prev n (if inside then 1 else 2) }) s
    if inside then
      (if prev = 2 then
        (let s2 := setFld Reg.HKC_OUT_STATUS n n 0 s1
         if flagOn (Reg.HKC_SEQ n) 29 s then hkcEvent 1 n s2 else s2)
       else s1)
    else if prev = 2 then s1 else hkcEvent 0 n (setFlag Reg.HKC_OUT_STATUS n s1)
  else s

/-- A result of entry `n` is written. -/
def hkcResult (n v : Nat) (s : State) : State := hkcCompare n v (wr (Reg.HKC_RESULT n) (dw (0x10000 + v % 65536)) s)

/-- HKC_ENTRY_DONE: the codes of the entry in conversion; after the last entry the pass ends. -/
def opHkcEntryDone (codes : List Nat) (s : State) : State :=
  match s.hkc.pass with
  | none => s
  | some n =>
    let k := 2 ^ fld (Reg.HKC_SEQ n) 10 8 s
    if codes.length = k ∧ codes.all (fun c => decide (c < 4096)) = true ∧ inReplay s = false then
      let v := 16 * codes.foldl (· + ·) 0 / k
      let s1 := modHkc (fun h => { h with pass := hkcNext (n + 1) s, values := h.values ++ leBytes 1 n ++ leBytes 1 0 ++ leBytes 2 v }) (hkcResult n v s)
      match hkcNext (n + 1) s with
      | some _ => s1
      | none => recKind 2 0x06 0 s1.hkc.values (bump Reg.HKC_PASS_CNT s1)
    else s

/-- Urgent conversions are requested for every channel in use whose SRC is `src` (R494). -/
def hkcUrgent (src : Nat) (s : State) : State :=
  let l := (upto 4).filter fun u => flagOn (Reg.HKC_URGENT_CFG u) 31 s && fld (Reg.HKC_URGENT_CFG u) 20 16 s == src
  modHkc (fun h => { h with urgent := h.urgent ++ l }) s

/-- Trigger `n` starts the converter (R403, R492, R494). -/
def hkcTrigger (n : Nat) (s : State) : State :=
  let s1 := if hkcMode s = 2 then
      (if s.hkc.pass.isSome || s.hkc.want then bump Reg.HKC_OVERRUN_CNT s else modHkc (fun h => { h with want := true }) s)
    else s
  hkcUrgent n s1

/-- OVER_CURRENT_DETECT at a feed current of `ma` milliamperes. -/
def opOverCurrentDetect (ma : Nat) (s : State) : State :=
  if flagOn Reg.HKC_OCD_CFG 16 s = true ∧ fld Reg.HKC_OCD_CFG 15 0 s < ma then
    hkcUrgent 16 (hkcEvent 2 0 (bump Reg.HKC_OCD_CNT s))
  else s

/-- An urgent result is written. -/
def hkcUrgentResult (u code wait : Nat) (s : State) : State :=
  bump Reg.HKC_URGENT_CNT (hkcEvent 3 u (wr (Reg.HKC_URGENT_RESULT u) (dw (wait % 256 * 0x1000000 + code % 4096)) s))

/-- HKC_URGENT_DONE: the oldest request's code and its wait in 1.25 ns steps. -/
def opHkcUrgentDone (code wait : Nat) (s : State) : State :=
  match s.hkc.urgent with
  | [] => s
  | u :: t =>
    if code < 4096 ∧ wait ≤ 80 ∧ inReplay s = false then
      recKind 2 0x06 (u + 1) (leBytes 4 (wait * 0x1000000 + code)) (hkcUrgentResult u code wait (modHkc (fun h => { h with urgent := t }) s))
    else s

/-- A commit at the converter: VALID and the comparison start anew where EN or CMP_EN became 1. -/
def hkcCommit (s0 s : State) : State :=
  forEach (upto 32) (fun n t =>
    let t1 := if flagOn (Reg.HKC_SEQ n) 31 t && !(flagOn (Reg.HKC_SEQ n) 31 s0) then setFld (Reg.HKC_RESULT n) 16 16 0 t else t
    if flagOn (Reg.HKC_SEQ n) 30 t1 && !(flagOn (Reg.HKC_SEQ n) 30 s0) then
      modHkc (fun h => { h with prev := tabSet (fun _ => 0) h.prev n 0 }) t1 else t1) s

/-- A new Round at the converter. -/
def hkcNewRound (s : State) : State := modHkc (fun h => { h with began := false, raised := [] }) s

/-! ## Meanings of the commands -/

/-- HKC_PASS_START (R492). -/
def execHkcPassStart (s : State) : Host.Outcome State Fault Refusal := .next (gated true true opHkcPassStart s)
/-- HKC_ENTRY_DONE (R492). -/
def execHkcEntryDone (codes : List Nat) (s : State) : Host.Outcome State Fault Refusal := .next (gated true true (opHkcEntryDone codes) s)
/-- OVER_CURRENT_DETECT (R494). -/
def execOverCurrentDetect (ma : Nat) (s : State) : Host.Outcome State Fault Refusal := .next (gated true true (opOverCurrentDetect ma) s)
/-- HKC_URGENT_DONE (R494). -/
def execHkcUrgentDone (code wait : Nat) (s : State) : Host.Outcome State Fault Refusal := .next (gated true true (opHkcUrgentDone code wait) s)

end Sys2Proof.Machine
end

