-- ==== Sys2Proof/Machine/Time.lean ====
section
/-! DEFINITION. The time of day: increments, slews, loads, steps, captures and triggers (R393 to R405). -/
namespace Sys2Proof.Machine

/-- Change the TIME unit's own state. -/
def modTime (f : TimeUnit → TimeUnit) (s : State) : State := { s with time := f s.time }

/-- A time in the layout _SUB, with STEP_SEQ. -/
def subWord (t : Nat) (s : State) : DWord := dw (stepSeq s * 2 ^ 48 + todFrac t * 2 ^ 32 + todNs t)

/-- A time given in the layouts _SEC and _SUB. -/
def unitsOf (sec sub : Nat) : Nat := (bitsOf sec 47 0 * 1000000000 + bitsOf sub 31 0) * nsUnit + bitsOf sub 47 32 * 65536

/-- SLEWING follows the slew count. -/
def setSlew (n : Nat) (s : State) : State :=
  setFld Reg.TIME_STATUS 1 1 (b2n (decide (n % 2 ^ 32 ≠ 0))) (wr Reg.TIME_SLEW_CNT (dw (n % 2 ^ 32)) s)

/-! ## Time passing (R20, R22, R393) -/

/-- The instant of grid index `n`. -/
def gridInstant (n : Nat) (s : State) : Nat := epoch s + n * period s

/-- Steps of `d` units that it takes to cover `gap`. -/
def stepsFor (gap d : Nat) : Nat := (gap + d - 1) / max 1 d

/-- Time-counter steps up to the first at which the time of day is at or past `t`: those of the slew that runs come first. -/
def stepsTo (t : Nat) (s : State) : Nat :=
  if t ≤ s.tod then 0
  else
    let slew := (rd Reg.TIME_SLEW_CNT s).toNat
    let si := max 1 (rd Reg.TIME_SLEW_INC s).toNat
    let need := stepsFor (t - s.tod) si
    if need ≤ slew then need else slew + stepsFor (t - (s.tod + slew * si)) (rd Reg.TIME_INC s).toNat

/-- `n` time-counter steps pass (R393): the time of day advances, the slew counts down, the engines' pipelines run on; the counter stands in
Deep Standby (R477). -/
def passSteps (n : Nat) (s : State) : State :=
  if n = 0 ∨ fld Reg.PWR_STATUS 1 0 s = 3 then s
  else
    let slew := (rd Reg.TIME_SLEW_CNT s).toNat
    let m := min n slew
    let t := enginesRun (engineCycles s.round.sinceC0 n) { s with
      tod := s.tod + m * max 1 (rd Reg.TIME_SLEW_INC s).toNat + (n - m) * max 1 (rd Reg.TIME_INC s).toNat
      time := { s.time with steps := s.time.steps + n }
      round := { s.round with sinceC0 := s.round.sinceC0 + n } }
    if m = 0 then t else setSlew (slew - m) t

/-- The time of day goes on, step by step, to the first step at which it is at or past `t`. -/
def advanceTo (t : Nat) (s : State) : State := passSteps (stepsTo t s) s

/-- The boundary that comes next, if one is due: the one that ends the Round, or in WAIT_TIME, with the time valid, the first grid boundary
not passed (R24, R548). -/
def boundaryDue (s : State) : Option Nat :=
  if 2 ≤ roundState s then some (gridInstant s.round.endGrid s)
  else if roundState s = 1 ∧ fld Reg.TIME_STATUS 0 0 s = 1 then some (gridInstant (stepsFor (s.tod - epoch s) (period s)) s)
  else none

/-- Steps to C0 of the boundary at instant `t`: not before the open commit window has ended (R22, R29). -/
def stepsToC0 (t : Nat) (s : State) : Nat := max (stepsTo t s) (windowLeft s)

/-- May `n` steps pass before the next boundary's C0? -/
def room (n : Nat) (s : State) : Bool :=
  match boundaryDue s with
  | none => true
  | some t => decide (n < stepsToC0 t s)

/-- Does time reach instant `t` before the next boundary? -/
def reaches (t : Nat) (s : State) : Bool :=
  decide (t ≤ s.tod) || (decide (fld Reg.PWR_STATUS 1 0 s ≠ 3) && room (stepsTo t s) s)

/-- The commit window runs to its end, where the next boundary leaves room for it (R27, R29). -/
def windowRuns (s : State) : State := if room (windowLeft s) s then passSteps (windowLeft s) s else s

/-- What the module does when no command waits (log 2): one step of the time counter passes, unless the next is C0 of a boundary; nothing
passes while the module is held in reset. -/
def idle (s : State) : State := if decide (s.pwr.plug = 4) && room 1 s then passSteps 1 s else s

/-! ## Increments and slews (R394) -/

/-- A value TIME_INC and TIME_SLEW_INC accept. -/
def incValid (v : Nat) : Bool :=
  decide (bitsOf v 35 32 = 1) && decide (0x3FAE147B ≤ bitsOf v 31 0) && decide (bitsOf v 31 0 ≤ 0x4051EB85)

/-- A write of an increment register, whole: the response code and the effect. -/
def timeIncWrite (reg v : Nat) (s : State) : Nat × State :=
  if incValid v then (0, wr reg (dw (bitsOf v 35 0)) s) else (1, s)

/-- SLEW_END: the remaining steps pass, if no boundary comes first, and TIME_INC resumes. -/
def opSlewEnd (s : State) : State :=
  if room (rd Reg.TIME_SLEW_CNT s).toNat s then passSteps (rd Reg.TIME_SLEW_CNT s).toNat s else s

/-! ## Reading the time of day (R395) -/

/-- A read of TIME_NOW_SEC by initiator `src`. -/
def timeNowSec (src : Nat) (s : State) : DWord × State :=
  (dw (todSec s.tod % 2 ^ 48), modTime (fun u => { u with held := tabSet (fun _ => 0) u.held src (subWord s.tod s + dw (2 ^ 63)) }) s)

/-- A read of TIME_NOW_SUB by initiator `src`: the captured remainder (kept with bit 63 set), or the current one. -/
def timeNowSub (src : Nat) (s : State) : DWord × State :=
  let h := tabGet (fun _ => 0) s.time.held src
  if h = 0 then (subWord s.tod s, s)
  else (h - dw (2 ^ 63), modTime (fun u => { u with held := tabSet (fun _ => 0) u.held src 0 }) s)

/-! ## Triggers (R402 to R404) -/

/-- Trigger `n`, its START and PERIOD. -/
def trig (n : Nat) (s : State) : Trig := tabGet (fun _ => ({} : Trig)) s.time.trigs n
def modTrig (n : Nat) (f : Trig → Trig) (s : State) : State :=
  modTime (fun u => { u with trigs := tabMod (fun _ => ({} : Trig)) u.trigs n f }) s
def trigStart (n : Nat) (s : State) : Nat := unitsOf (rd (Reg.TIME_TRIG_START_SEC n) s).toNat (rd (Reg.TIME_TRIG_START_SUB n) s).toNat
def trigPeriod (n : Nat) (s : State) : Nat :=
  max (1000 * nsUnit) (fld (Reg.TIME_TRIG_PERIOD n) 63 16 s * nsUnit + fld (Reg.TIME_TRIG_PERIOD n) 15 0 s * 65536)
def trigPeriodic (n : Nat) (s : State) : Bool := flagOn (Reg.TIME_TRIG_CFG n) 30 s
def trigArmed (n : Nat) (s : State) : Bool := flagOn (Reg.TIME_TRIG_STATUS n) 0 s

/-- The smallest START + i × PERIOD at or after time `t`. -/
def trigFirst (n t : Nat) (s : State) : Nat :=
  if t ≤ trigStart n s then trigStart n s else trigStart n s + (t - trigStart n s + trigPeriod n s - 1) / trigPeriod n s * trigPeriod n s

/-- A captured edge on TIME_IN_n at time `t` (R401): one within 1 µs of the last is ignored. -/
def timeEdge (n t : Nat) (s : State) : State :=
  let last := tabGet (fun _ => 0) s.time.edges n
  if last ≠ 0 ∧ last ≤ t ∧ t < last + 1000 * nsUnit then s
  else
    let s1 := modTime (fun u => { u with edges := tabSet (fun _ => 0) u.edges n t }) s
    let s2 := wr (Reg.TIME_CAP_SUB n) (subWord t s1) (wr (Reg.TIME_CAP_SEC n) (dw (todSec t % 2 ^ 48)) s1)
    let s3 := flagEvent Reg.TIME_EVT_STATUS 2 0x023 n (bump (Reg.TIME_CAP_CNT n) s2)
    recKind 0 0x04 (n + 1) (leBytes 8 (todSec t) ++ leBytes 8 (subWord t s).toNat) s3

/-- TIME_CAPTURE: a rising edge on the pin, with the input delay of 2.8 ns removed. -/
def opTimeCapture (n : Nat) (s : State) : State :=
  if n < 2 ∧ flagOn Reg.SPARE_LOOP_TIME n s = false ∧ inReplay s = false then timeEdge n (s.tod - 28 * nsUnit / 10) s else s

/-- TIME_OUT_n rises for WIDTH steps; in the TIME loop-back it drives TIME_IN_n (R510). -/
def timeOutRise (n : Nat) (s : State) : State :=
  let was := (trig n s).pulse
  let s1 := modTrig n (fun t => { t with pulse := true, fall := s.time.steps + max 1 (fld (Reg.TIME_TRIG_CFG n) 15 0 s) }) s
  if !was && flagOn Reg.SPARE_LOOP_TIME n s && !(inReplay s) && decide (n < 2) then timeEdge n s.tod s1 else s1

/-- A firing of trigger `n`: FIRED, LATE, and the actions selected; a single shot is then disarmed. -/
def trigFire (n : Nat) (late : Bool) (s : State) : State :=
  let st := Reg.TIME_TRIG_STATUS n
  let c := (fld st 31 16 s + 1) % 65536
  let s1 := setFld st 31 16 c (setFld st 1 0 (2 * b2n late + b2n (trigPeriodic n s)) s)
  let s2 := if flagOn (Reg.TIME_TRIG_CFG n) 24 s then raise 0x020 (c * 65536 + n) s1 else s1
  let s3 := if flagOn (Reg.TIME_TRIG_CFG n) 25 s && decide (n < 4) then timeOutRise n s2 else s2
  if flagOn (Reg.TIME_TRIG_CFG n) 26 s then hkcTrigger n s3 else s3

/-- TIME_TRIG: the trigger's target is reached. -/
def opTimeTrig (n : Nat) (s : State) : State :=
  if trigArmed n s = true ∧ n < 16 ∧ reaches (trig n s).target s = true then
    let s1 := trigFire n false (advanceTo (trig n s).target s)
    if trigPeriodic n s then modTrig n (fun t => { t with target := t.target + trigPeriod n s }) s1 else s1
  else s

/-- TIME_OUT_PULSE_END: WIDTH steps after the rise, if no boundary comes first, the pin falls. -/
def opTimeOutPulseEnd (n : Nat) (s : State) : State :=
  let d := (trig n s).fall - s.time.steps
  if (trig n s).pulse && (d == 0 || room d s) then modTrig n (fun t => { t with pulse := false }) (passSteps d s) else s

/-- A step or load moved the time of day from `old` (R404). -/
def trigStep (old : Nat) (s : State) : State :=
  forEach (upto 16) (fun n t =>
    if !(trigArmed n t) then t
    else if trigPeriodic n t then
      let first := trigFirst n t.tod t
      let target := (trig n t).target
      if old < t.tod then
        (if target < t.tod then
          flagEvent Reg.TIME_EVT_STATUS 4 0x025 n (bumpBy Reg.TIME_TRIG_MISS_CNT ((first - target) / trigPeriod n t)
            (modTrig n (fun x => { x with target := first }) t))
         else t)
      else modTrig n (fun x => { x with target := first }) t
    else if old < t.tod ∧ (trig n t).target < t.tod then trigFire n true t else t) s

/-- TRIGGER_ARM: a commit arms, disarms or computes the next target anew (R402), at C0+40. -/
def trigCommit (s0 s : State) : State :=
  forEach (upto 16) (fun n t =>
    if !(flagOn (Reg.TIME_TRIG_CFG n) 31 t) then (if trigArmed n t then setFld (Reg.TIME_TRIG_STATUS n) 0 0 0 t else t)
    else if flagOn (Reg.TIME_TRIG_CFG n) 31 s0 && trigPeriodic n s0 == trigPeriodic n t && trigStart n s0 == trigStart n t &&
        rd (Reg.TIME_TRIG_PERIOD n) s0 == rd (Reg.TIME_TRIG_PERIOD n) t then t
    else
      let t1 := setFlag (Reg.TIME_TRIG_STATUS n) 0 (modTrig n (fun x => { x with
        target := if trigPeriodic n t then trigFirst n t.tod t else trigStart n t }) t)
      if !(trigPeriodic n t) && decide (trigStart n t < t.tod) then trigFire n true t1 else t1) s

/-! ## Validity, loads, steps (R396 to R400) -/

/-- STEP_SEQ counts a step or load. -/
def seqNext (s : State) : State := setFld Reg.TIME_STATUS 9 8 (stepSeq s + 1) s

/-- A write of TIME_CTRL.VALID. -/
def timeValid (on : Bool) (s : State) : State :=
  let was := flagOn Reg.TIME_CTRL 0 s
  let s1 := setFld Reg.TIME_STATUS 0 0 (b2n on) (setFld Reg.TIME_CTRL 0 0 (b2n on) s)
  if was && !on && roundsRun s then flagEvent Reg.TIME_EVT_STATUS 3 0x024 0 s1 else s1

/-- A write of TIME_CTRL.LOAD: the response code and the effect. -/
def timeLoad (s : State) : Nat × State :=
  if roundsRun s then (1, s)
  else
    let t := unitsOf (rd Reg.TIME_LOAD_SEC s).toNat (rd Reg.TIME_LOAD_SUB s).toNat
    (0, trigStep s.tod (seqNext { s with tod := t }))

/-- The size of a written step in units of the time of day. -/
def stepUnits (v : Nat) : Int := signed 64 v * 65536

/-- TIME_STEP takes effect in C0+39 (R398, R399): a value of zero is no step. Also says whether a step was applied. -/
def timeStepApply (v : Nat) (s : State) : Bool × State :=
  if v % 2 ^ 64 = 0 then (false, s)
  else
    let t := Int.ofNat s.tod + stepUnits v
    if t < 0 ∨ (roundState s ≠ 0 ∧ t < Int.ofNat (epoch s)) then
      (false, flagEvent Reg.TIME_EVT_STATUS 1 0x022 0 (bump Reg.TIME_STEP_REJ_CNT s))
    else
      (true, trigStep s.tod (flagEvent Reg.TIME_EVT_STATUS 0 0x021 0 (bump Reg.TIME_STEP_CNT
        (wr Reg.TIME_LAST_STEP (dw v) (seqNext { s with tod := t.toNat })))))

/-! ## Meanings of the commands -/

/-- SLEW_END (R394). -/
def execSlewEnd (s : State) : Host.Outcome State Fault Refusal := .next (gated true true opSlewEnd s)
/-- TIME_CAPTURE (R401). -/
def execTimeCapture (n : Nat) (s : State) : Host.Outcome State Fault Refusal := .next (gated true (below 2 n) (opTimeCapture n) s)
/-- TIME_TRIG (R403). -/
def execTimeTrig (n : Nat) (s : State) : Host.Outcome State Fault Refusal := .next (gated true (below 16 n) (opTimeTrig n) s)
/-- TIME_OUT_PULSE_END (R403). -/
def execTimeOutPulseEnd (n : Nat) (s : State) : Host.Outcome State Fault Refusal := .next (gated true (below 4 n) (opTimeOutPulseEnd n) s)

end Sys2Proof.Machine
end

