-- ==== Sys2Proof/Machine/Gate.lean ====
section
/-! DEFINITION. The fronthaul gates in time (R322 to R329, R387): decisions, launches, hold. What a MAC does with a gate's frame is in Mac.lean. -/
namespace Sys2Proof.Machine

/-- Fields of a gate entry. -/
def geWord (e : List Byte) (i : Nat) : Nat := leAt e (4 * i) 4
def geLen (e : List Byte) : Nat := bitsOf (geWord e 3) 31 16
def geAddr (e : List Byte) : Nat := geWord e 2 + bitsOf (geWord e 3) 15 0 * 2 ^ 32
def geKind (e : List Byte) : Bool := bitOf (geWord e 0) 30
def geIqw (e : List Byte) : Nat := bitsOf (geWord e 4) 20 16
def gePrbOff (e : List Byte) : Nat := bitsOf (geWord e 4) 15 0
def geNprb (e : List Byte) : Nat := bitsOf (geWord e 5) 24 16
def geHdr (e : List Byte) : Nat := bitsOf (geWord e 5) 15 0
def geOffset (e : List Byte) : Nat := bitsOf (geWord e 0) 23 0

/-- The bad entries of R328. -/
def geBad (m : Nat) (e : List Byte) (s : State) : Bool :=
  decide (bitsOf (geWord e 0) 27 24 ≠ 0) || decide (bitsOf (geWord e 4) 31 21 ≠ 0) || decide (bitsOf (geWord e 5) 31 25 ≠ 0) ||
  decide (bitsOf (geWord e 6) 31 14 ≠ 0) || decide (bitsOf (geWord e 6) 3 2 ≠ 0) || decide (geLen e < 60) || decide (maxFrame m s - 4 < geLen e) ||
  decide (geLen e < geHdr e + 12) || decide (13 < bitsOf (geWord e 6) 7 4) ||
  (!(geKind e) && (decide (geIqw e < 8) || decide (16 < geIqw e) || decide (geNprb e < 1) || decide (275 < geNprb e) || decide (gePrbOff e < geHdr e + 12) ||
    decide (geLen e < gePrbOff e + geNprb e * (1 + 3 * geIqw e))))

/-- A job is done with, and hold with it; an instance that is not sent (R328). -/
def gateDrop (m no : Nat) (s : State) : State := modMac m (fun x => { x with jobs := x.jobs.filter fun j => j.no != no, hold := false }) s
def gateErr (m no : Nat) (s : State) : State := fhgEvent m 2 (bump (Reg.FHG_ERR_CNT m) (gateDrop m no s))
def modJob (m no : Nat) (f : GateJob → GateJob) (s : State) : State :=
  modMac m (fun x => { x with jobs := x.jobs.map fun j => if j.no = no then f j else j }) s

/-- Time-counter steps from C0 of the Round to the start of its period `m` (R324). -/
def periodSteps (m : Nat) (s : State) : Nat :=
  let t := s.round.startTod + m * period s
  if m = 0 then 0
  else if s.tod < t then s.round.sinceC0 + stepsTo t s
  else s.round.sinceC0 - (s.tod - t) / timeStep s

/-- The count of the time counter at the start of period `m` of the Round. -/
def gateBase (m : Nat) (s : State) : Nat := s.time.steps - s.round.sinceC0 + periodSteps m s

/-- Is OFFSET `o` P or more (R324)? -/
def offsetPast (o : Nat) (s : State) : Bool := decide (periodSteps 1 s ≤ o)

/-- Does the instant at which the time counter reads `n` lie before the end of the Round? -/
def beforeEnd (n : Nat) (s : State) : Bool := decide (n ≤ s.time.steps) || room (n - s.time.steps) s

/-- FHG_CFG.LEAD as it acts (R331). -/
def gateLead (m : Nat) (s : State) : Nat := max 400 (fld (Reg.FHG_CFG m) 15 0 s)

/-- Count an entry missed, once per Round. -/
def gateMiss (m idx : Nat) (s : State) : State :=
  if (mac m s).missed.contains idx then s
  else bump (Reg.FHG_MISS_CNT m) (modMac m (fun x => { x with missed := idx :: x.missed }) s)

/-- The table's end in the first P of a Round that is longer: the entries' next instances follow (R324). -/
def gateTurn (m : Nat) (s : State) : Mac :=
  let x := mac m s
  if x.inst = 0 ∧ gateCount m s ≤ x.next ∧ s.round.overlong = true then { x with inst := 1, next := 0 } else x

/-- GATE_DECISION: at the later of the launch instant less LEAD and C0+72 the next entry in table order is read (R325). The OFFSET that places the
decision is the one in memory (log 68). An instance whose instant lies past the end of the Round is passed over. -/
def opGateDecision (m : Nat) (s : State) : State :=
  let x := gateTurn m s
  if gateOn m s = true ∧ x.next < gateCount m s ∧ m < 16 then
    let a := gateEntry m x.next s
    let off := memNat a 3 s
    let start := gateBase x.inst s
    if !(offsetPast off s) && !(beforeEnd (start + off) s) then setMac m { x with next := x.next + 1 } s
    else
      let due := max (gateBase 0 s + 36) (if offsetPast off s then 0 else start + off - gateLead m s)
      if room (due - s.time.steps) s then
        reqRead (.fhg m) (useGate x.jobNo 0) a 28 false
          (setMac m { x with
            next := x.next + 1, jobNo := x.jobNo + 1,
            jobs := x.jobs ++ [{ no := x.jobNo, idx := x.next, inst := x.inst, round := roundNow s, addr := a, base := start, launch := start + off,
                                 air := (Int.ofNat (roundNow s) - Int.ofNat (rd Reg.ROUND_OFFSET s).toNat + Int.ofNat x.inst).toNat }] }
            (passSteps (due - s.time.steps) s))
      else s
  else s

/-- Does the launch instant of a job lie before the end of its Round? -/
def gateInRound (j : GateJob) (launch : Nat) (s : State) : Bool :=
  if j.round = roundNow s then beforeEnd launch s else decide (launch < gateBase 0 s)

/-- What the entry `e` that a job has read decides (R324, R325, R328). -/
def gateDecides (m : Nat) (j : GateJob) (e : List Byte) (s : State) : State :=
  let launch := j.base + geOffset e
  let ready := decide (j.inst = 0) && decide (geWord e 1 = j.round % 2 ^ 32)
  if !(bitOf (geWord e 0) 31) then gateDrop m j.no s
  else if offsetPast (geOffset e) s then gateDrop m j.no (gateMiss m j.idx s)
  else if !(gateInRound j launch s) then gateDrop m j.no s
  else if geBad m e s then gateErr m j.no s
  else if !ready && geKind e then bump (Reg.FHG_SKIP_CNT m) (gateDrop m j.no s)
  else
    readRange (.fhg m) (useGate j.no 1) (geAddr e) (if ready then geLen e else gePrbOff e)
      (modJob m j.no (fun y => { y with entry := e, blank := !ready, stage := 1, launch := launch }) s)

/-- GATE_ENTRY_READ_ANSWER: the oldest entry read in hand has been answered, and decides the instance. -/
def opGateEntryReadAnswer (m : Nat) (s : State) : State :=
  match (mac m s).jobs.find? (fun j => j.stage == 0) with
  | none => s
  | some j =>
    match waitingAns (.fhg m) (useGate j.no 0) s with
    | none => s
    | some (t, code, e) =>
      let s1 := takeAns t.id s
      if j.gone then gateDrop m j.no s1
      else if code ≠ 0 then gateErr m j.no s1
      else gateDecides m j e s1

/-- The frame with its blank PRBs (R321) and the timing fields of R326, and the counter after it. -/
def gateBuild (m : Nat) (j : GateJob) (bs : List Byte) (s : State) : List Byte × Nat :=
  let e := j.entry
  let prb := (0x0F : Byte) :: List.replicate (3 * geIqw e) 0
  let full := if j.blank then
      (let f := bs.take (gePrbOff e) ++ (List.replicate (geNprb e) prb).flatten
       f ++ List.replicate (geLen e - f.length) 0)
    else bs
  let mu := bitsOf (geWord e 0) 29 28
  let sl := j.air * (62500 * 2 ^ fld Reg.ROUND_CFG 2 0 s) * 2 ^ mu / 1000000 + bitsOf (geWord e 6) 1 0
  let slot := sl % 2 ^ mu
  let seq := tabGet (fun _ => 0) (mac m s).seqs (bitsOf (geWord e 6) 13 8)
  let h := geHdr e
  let put := fun (l : List Byte) (i v : Nat) => l.set i (BitVec.ofNat 8 v)
  (put (put (put (put full (h + 6) seq) (h + 9) (sl / (10 * 2 ^ mu))) (h + 10) (sl / 2 ^ mu % 10 * 16 + slot / 4))
    (h + 11) (slot % 4 * 64 + bitsOf (geWord e 6) 7 4), (seq + 1) % 256)

/-- GATE_FRAME_READ_ANSWER: the frame of the oldest job that reads one has arrived; the gate builds its copy. -/
def opGateFrameReadAnswer (m : Nat) (s : State) : State :=
  match (mac m s).jobs.find? (fun j => j.stage == 1) with
  | none => s
  | some j =>
    let l := answersOf (.fhg m) (useGate j.no 1) s
    if l.isEmpty = false ∧ unanswered (.fhg m) (useGate j.no 1) s = false then
      let s1 := dropUse (.fhg m) (useGate j.no 1) s
      if j.gone then gateDrop m j.no s1
      else if (firstBad l).isSome then gateErr m j.no s1
      else
        let b := gateBuild m j (l.flatMap (·.2.2)) s
        modMac m (fun x => { x with seqs := tabSet (fun _ => 0) x.seqs (bitsOf (geWord j.entry 6) 13 8) b.2 })
          (modJob m j.no (fun y => { y with frame := b.1, stage := 2 }) s1)
    else s

/-- GATE_LAUNCH: at the launch instant the first job of the table order, once built, is handed to the MAC; a MAC that is not up discards it (R369). -/
def opGateLaunch (m : Nat) (s : State) : State :=
  match (mac m s).jobs.find? (fun j => j.stage != 3 && !j.gone) with
  | none => s
  | some j =>
    if j.stage = 2 ∧ beforeEnd j.launch s = true then
      let s1 := passSteps (j.launch - s.time.steps) s
      if macUp m s then modJob m j.no (fun y => { y with stage := 3 }) s1 else gateDiscarded m j s1
    else s

/-- The next launch instant of the gate, by the time counter: that of the first job not handed over, or of the next entry. -/
def gateNext (m : Nat) (s : State) : Option Nat :=
  match (mac m s).jobs.find? (fun j => j.stage != 3 && !j.gone) with
  | some j => some j.launch
  | none =>
    let x := gateTurn m s
    let off := memNat (gateEntry m x.next s) 3 s
    if x.next < gateCount m s ∧ offsetPast off s = false then some (gateBase x.inst s + off) else none

/-- HOLD_ASSERT: the gate asserts hold HOLD_ADV steps before its next launch instant. -/
def opHoldAssert (m : Nat) (s : State) : State :=
  match gateNext m s with
  | none => s
  | some n =>
    let adv := fld (Reg.MAC_PRE_CFG m) 31 16 s
    if adv ≠ 0 ∧ gateOn m s = true ∧ beforeEnd (n - adv) s = true then
      modMac m (fun x => { x with hold := true }) (passSteps (n - adv - s.time.steps) s)
    else s

/-- Entries the gate did not come to in the first P of a Round because OFFSET lies past it (R324). -/
def gateFirstEnd (m : Nat) (s : State) : State :=
  if gateOn m s && decide ((mac m s).inst = 0) then
    forEach ((upto (gateCount m s)).filter fun i => decide ((mac m s).next ≤ i)) (fun i t =>
      if bitOf (memNat (gateEntry m i t) 4 t) 31 && offsetPast (memNat (gateEntry m i t) 3 t) t then gateMiss m i t else t) s
  else s

/-- The gates in the part of a Round beyond its first P (R324). -/
def gateBeyond (s : State) : State :=
  forEach (upto 16) (fun m t => if (mac m t).inst = 0 then modMac m (fun x => { x with inst := 1, next := 0 }) (gateFirstEnd m t) else t) s

/-- The gates at a boundary that begins a Round: the ended Round's figures, and the new Round's start. -/
def gateNewRound (s : State) : State :=
  forEach (upto 16) (fun m t =>
    let t1 := setFld (Reg.FHG_STATUS m) 10 0 (mac m t).blanks (gateFirstEnd m t)
    modMac m (fun x => { x with inst := 0, next := 0, missed := [], blanks := 0, gRaised := [] }) t1) s

/-! ## Meanings of the commands -/

/-- GATE_DECISION (R325). -/
def execGateDecision (m : Nat) (s : State) : Host.Outcome State Fault Refusal := .next (gated false (below 17 m) (opGateDecision m) s)
/-- GATE_ENTRY_READ_ANSWER (R325). -/
def execGateEntryReadAnswer (m : Nat) (s : State) : Host.Outcome State Fault Refusal := .next (gated false (below 17 m) (opGateEntryReadAnswer m) s)
/-- GATE_FRAME_READ_ANSWER (R325). -/
def execGateFrameReadAnswer (m : Nat) (s : State) : Host.Outcome State Fault Refusal := .next (gated false (below 17 m) (opGateFrameReadAnswer m) s)
/-- GATE_LAUNCH (R327). -/
def execGateLaunch (m : Nat) (s : State) : Host.Outcome State Fault Refusal := .next (gated false (below 17 m) (opGateLaunch m) s)
/-- HOLD_ASSERT (R387). -/
def execHoldAssert (m : Nat) (s : State) : Host.Outcome State Fault Refusal := .next (gated false (below 17 m) (opHoldAssert m) s)

end Sys2Proof.Machine
end

