-- ==== Sys2Proof/Machine/Line.lean ====
section
/-! DEFINITION. The Line Port (R408 to R433): pairs and their bring-up, bursts and their detection, fragments of MAC_16. What the
receiver takes from the line comes with the commands: symbols as integers, powers at the transformer in pW. Each condition in dB is decided
exactly, by powers of ten. -/
namespace Sys2Proof.Machine

/-- Change the Line Port's own state; pair `p`. -/
def modLine (f : LinePort → LinePort) (s : State) : State := { s with line := f s.line }
def pair (p : Nat) (s : State) : Pair := tabGet (fun _ => ({} : Pair)) s.line.pairs p
def modPair (p : Nat) (f : Pair → Pair) (s : State) : State :=
  modLine (fun l => { l with pairs := tabMod (fun _ => ({} : Pair)) l.pairs p f }) s

/-- STATE (R413) and DET (R418) of a pair. -/
def pairState (p : Nat) (s : State) : Nat := fld (Reg.LINE_PAIR_STATUS p) 2 0 s
def pairDet (p : Nat) (s : State) : Nat := fld (Reg.LINE_PAIR_STATUS p) 17 16 s
def setDet (p d : Nat) (s : State) : State := setFld (Reg.LINE_PAIR_STATUS p) 17 16 d s

/-- Is the pair in DATA or LPI, and does the line have effect (R519)? -/
def pairCarries (p : Nat) (s : State) : Bool := pairState p s == 5 || pairState p s == 6
def pairLive (p : Nat) (s : State) : Bool := decide (p < 16) && !(inReplay s)

/-- A pair event, at most once per pair and Round (R431). -/
def pairEvent (p bit : Nat) (s : State) : State :=
  if (pair p s).raised.contains bit then s
  else flagEvent Reg.LINE_EVT_STATUS bit (0x220 + bit) p (modPair p (fun x => { x with raised := bit :: x.raised }) s)

/-- LINK_UP of MAC_16 follows the pairs in DATA or LPI (R426). -/
def lineLink (s : State) : State :=
  let up := decide (max 1 (fld Reg.LINE_CFG 27 24 s) ≤ ((upto 16).filter fun p => pairCarries p s).length)
  if flagOn (Reg.MAC_STATUS 16) 0 s == up then s else macLink 16 up s

/-- The pair takes a state. -/
def setPairState (p st : Nat) (s : State) : State :=
  lineLink (recLink p (linkWord 2 st 0) (setFld (Reg.LINE_PAIR_STATUS p) 2 0 st s))

/-- A pair leaves for SILENT (R415). -/
def pairSilent (p cause : Nat) (s : State) : State :=
  let s1 := setDet p 0 (setFld (Reg.LINE_PAIR_STATUS p) 23 20 cause (bump (Reg.LINE_DOWN_CNT p) s))
  let s2 := modPair p (fun x => { x with rxLpi := false, qual := 0, foreign := false, bytes := 0, left := false, back := [] }) s1
  setPairState p 1 (pairEvent p 1 s2)

/-- A timeout or failure in one state. -/
def pairFails (p st cause : Nat) (s : State) : State := if pairLive p s = true ∧ pairState p s = st then pairSilent p cause s else s

/-- PROBE_TIMEOUT, ECTRAIN_TIMEOUT, EXCHANGE_TIMEOUT: back to SILENT with the cause. -/
def opProbeTimeout (p : Nat) (s : State) : State := pairFails p 2 1 s
def opEctrainTimeout (p : Nat) (s : State) : State := pairFails p 3 2 s
def opExchangeTimeout (p : Nat) (s : State) : State := pairFails p 4 3 s

/-! ## Bring-up (R412 to R415) -/

/-- SILENT_PROBE: a probe leaves on the pair. -/
def opSilentProbe (p : Nat) (s : State) : State :=
  if pairLive p s = true ∧ pairState p s = 1 then modPair p (fun x => { x with sent := 1, out := [] }) s else s

/-- PROBE_RECEIVED. -/
def opProbeReceived (p : Nat) (s : State) : State := if pairLive p s = true ∧ pairState p s = 1 then setPairState p 2 s else s

/-- Megabaud of a baud code, the configuration of the pair's group as it acts. -/
def mbaud (b : Nat) : Nat := match b with | 0 => 25 | 1 => 50 | 2 => 100 | 3 => 150 | _ => 200
def pairGroup (p : Nat) (s : State) : Nat := fld (Reg.LINE_PAIR_CFG p) 5 4 s
def grpMaxBaud (g : Nat) (s : State) : Nat := min 4 (fld (Reg.LINE_GRP_CFG g) 2 0 s)
def grpMaxPam (g : Nat) (s : State) : Nat := min 2 (fld (Reg.LINE_GRP_CFG g) 5 4 s)

/-- The highest PAM order (1 PAM-4, 2 PAM-8, 3 PAM-16) that an SNR in 1/256 dB meets, 0 where none. -/
def pamFor (g snr : Nat) (s : State) : Nat :=
  let m := fld (Reg.LINE_GRP_CFG g) 15 12 s
  (upto 3).foldl (fun a i => if i ≤ grpMaxPam g s ∧ (16 + 6 * i + m) * 256 ≤ snr then i + 1 else a) 0

/-- The group's baud where a pair of it is in ECTRAIN, EXCHANGE, DATA or LPI. -/
def grpBaud (g : Nat) (s : State) : Option Nat :=
  ((upto 16).find? fun p => decide (pairGroup p s = g) && decide (3 ≤ pairState p s)).map fun p => fld (Reg.LINE_PAIR_STATUS p) 14 12 s

/-- The baud that gives the greatest sum of both directions' rates, the lower on a tie; `mine` and `theirs` are the PAM orders by baud code. -/
def bestBaud (max : Nat) (mine theirs : Nat → Nat) : Option Nat :=
  ((upto (max + 1)).foldl (fun (a : Option Nat × Nat) b =>
    if mine b ≠ 0 ∧ theirs b ≠ 0 ∧ a.2 < mbaud b * (mine b + 1 + (theirs b + 1)) then (some b, mbaud b * (mine b + 1 + (theirs b + 1))) else a) (none, 0)).1

/-- PROBE_COMPLETE: `snr` the receive SNR measured at each baud code in 1/256 dB, `theirs` the order (0 none, 1 to 3) the partner chose at each. -/
def opProbeComplete (p : Nat) (snr theirs : List Nat) (s : State) : State :=
  let g := pairGroup p s
  let mine := fun (b : Nat) => pamFor g (snr.getD b 0) s
  let their := fun (b : Nat) => min 3 (theirs.getD b 0)
  let baud := match grpBaud g s with
    | some b => if mine b ≠ 0 ∧ their b ≠ 0 then some b else none
    | none => bestBaud (grpMaxBaud g s) mine their
  match baud with
  | none => s
  | some b =>
    if pairLive p s = true ∧ pairState p s = 2 then
      setPairState p 3 (wr (Reg.LINE_PAIR_SNR p) (dw (snr.getD b 0 % 65536))
        (setFld (Reg.LINE_PAIR_STATUS p) 14 8 (b * 16 + (mine b - 1) * 4 + (their b - 1)) s))
    else s

/-- ECTRAIN ends well at a residual echo of −`echo` dB. -/
def echoDone (p echo : Nat) (s : State) : State := setPairState p 4 (setFld (Reg.LINE_PAIR_STATUS p) 31 24 (min 255 echo) s)

/-- ECTRAIN_COMPLETE: −60 dB reached. -/
def opEctrainComplete (p echo : Nat) (s : State) : State :=
  if pairLive p s = true ∧ pairState p s = 3 ∧ 60 ≤ echo then echoDone p echo s else s

/-- ECHO_CHECK_8MS: −50 dB completes, less fails. -/
def opEchoCheck8ms (p echo : Nat) (s : State) : State :=
  if pairLive p s = true ∧ pairState p s = 3 then
    (if 50 ≤ echo then echoDone p echo s else pairSilent p 2 (setFld (Reg.LINE_PAIR_STATUS p) 31 24 echo s))
  else s

/-- EXCHANGE_COMPLETE: DATA. -/
def opExchangeComplete (p : Nat) (s : State) : State :=
  if pairLive p s = true ∧ pairState p s = 4 then pairEvent p 0 (setPairState p 5 s) else s

/-- LINE_SIGNAL_LOSS and FEC_FAIL. -/
def opLineSignalLoss (p : Nat) (s : State) : State := if pairLive p s && pairCarries p s then pairSilent p 4 s else s
def opFecFail (p : Nat) (s : State) : State := if pairLive p s && pairCarries p s then pairSilent p 5 s else s

/-- A write of LINE_PAIR_CTRL.RESTART. -/
def pairRestart (p : Nat) (s : State) : State := if pairState p s = 0 then s else pairSilent p 7 s

/-! ## Bursts (R416 to R425) -/

/-- The bits of the preamble: x^6 + x^5 + 1, each the sum of those five and six before it, from six ones (DEDUCED, log 66). -/
def lfsrBits : Nat → List Bool → List Bool
  | 0, l => l
  | n + 1, l => lfsrBits n (l ++ [xor (l.getD (l.length - 6) false) (l.getD (l.length - 5) false)])

/-- A PAM-2 symbol: 1 is −1, 0 is +1. -/
def pam2 (b : Bool) : Int := if b then -1 else 1

/-- Sequence Q. -/
def seqQ : List Int := (lfsrBits 57 (List.replicate 6 true)).map pam2 ++ [1]

/-- Preamble and delimiter of a burst of a KIND, its end, and a burst without codewords (R416). -/
def burstHead (p kind : Nat) (s : State) : List Int :=
  let d := kind * 64 + pairGroup p s * 16 + p
  seqQ ++ (upto 8).map (fun i => pam2 (d.testBit i)) ++ (upto 8).map fun i => pam2 (!(d.testBit i))
def burstTail : List Int := (seqQ.take 16).map (- ·)
def burstBare (p kind : Nat) (s : State) : List Int := burstHead p kind s ++ burstTail

/-- LINE_LPI_ENTRY: the pair's own direction (`rx` false), or its partner's, whose receiver then watches from QUIET. -/
def opLineLpiEntry (p : Nat) (rx : Bool) (s : State) : State :=
  if pairLive p s && pairCarries p s then
    (if rx then setDet p 0 (modPair p (fun x => { x with rxLpi := true, qual := 0 }) s)
     else if pairState p s = 5 ∧ (mac 16 s).wire.isNone = true ∧ flagOn (Reg.LINE_GRP_CFG (pairGroup p s)) 8 s = true then setPairState p 6 s else s)
  else s

/-- REFRESH_BURST leaves on the pair. -/
def opRefreshBurst (p : Nat) (s : State) : State :=
  if pairLive p s = true ∧ pairState p s = 6 ∧ (pair p s).left = false then modPair p (fun x => { x with sent := 2, out := burstBare p 0 s }) s else s

/-- REARM_DB and CAPTURE_DB as they act; the manual gives limits to both and says of CAPTURE_DB alone that other values act as the nearer (log 66). -/
def rearmDb (s : State) : Nat := min 20 (max 3 (fld Reg.LINE_DET_CFG 20 16 s))
def captureDb (s : State) : Nat := min 20 (max 3 (fld Reg.LINE_DET_CFG 28 24 s))

/-- Eight times E8, from the powers in pW of the last eight symbols received (R418). -/
def energy8 (x : List Nat) : Nat := (x.take 8).foldl (· + ·) 0

/-- Is `e`, eight times E8, at least the threshold of −LEVEL / 4 dBm less `d` quarters of a dB? -/
def atThresh (e d : Nat) (s : State) : Bool := decide ((8 * 10 ^ 9) ^ 40 ≤ e ^ 40 * 10 ^ (fld Reg.LINE_DET_THRESH 11 0 s + d))

/-- Has power `e0` risen to `e` by `db` decibels or more? -/
def rose (e0 e db : Nat) : Bool := decide (e0 ^ 10 * 10 ^ db ≤ e ^ 10)

/-- The receiver enters ACQUIRE at `e`, eight times E8. -/
def acquire (p e : Nat) (s : State) : State := setDet p 1 (modPair p (fun x => { x with e0 := e, qual := 0 }) s)

/-- Qualifier or delimiter fails: HOLDOFF. -/
def detFails (p e : Nat) (s : State) : State :=
  setDet p 3 (pairEvent p 2 (bump (Reg.LINE_FALSE_CNT p) (modPair p (fun x => { x with eFail := e, qual := 0 }) s)))

/-- Is the receiver of a partner in LPI in detection state `d`? -/
def detIn (p d : Nat) (s : State) : Bool := pairLive p s && pairCarries p s && (pair p s).rxLpi && pairDet p s == d

/-- ENERGY_DETECT: `x` the powers of the last eight symbols. -/
def opEnergyDetect (p : Nat) (x : List Nat) (s : State) : State :=
  if detIn p 0 s = true ∧ atThresh (energy8 x) 0 s = true then acquire p (energy8 x) (bump (Reg.LINE_DET_CNT p) s) else s

/-- ρ of R420 over the first `n` symbols, squared, as a fraction: (Σ r q)² over Σ r² × n. It has no value where every symbol is zero. -/
def corr (n : Nat) (r : List Int) : Nat × Nat :=
  let x := r.take n
  ((List.zipWith (· * ·) x seqQ).sum.natAbs ^ 2, (x.map fun v => v * v).sum.natAbs * n)

/-- Is ρ below `t` / 256? Where it has no value that is free (log 66). -/
def corrBelow (t : Nat) (c : Nat × Nat) (s : State) : Bool :=
  if c.2 = 0 then (freeNow 0 s).toNat.testBit 0 else decide (c.1 * 65536 < t * t * c.2)

/-- The alignment of the greatest ρ among the symbols from n = −16 on, counted from −16, the first of several (log 66). -/
def bestStart (r : List Int) : Nat :=
  (upto 17).foldl (fun a i =>
    let x := corr 32 (r.drop a)
    let y := corr 32 (r.drop i)
    if x.1 * y.2 < y.1 * x.2 ∨ (x.2 = 0 ∧ y.2 ≠ 0) then i else a) 0

/-- The early test over the symbols received from n = −16 on. -/
def earlyTest (p : Nat) (r : List Int) (x : List Nat) (s : State) : State :=
  if detIn p 1 s = true ∧ (pair p s).qual = 0 then
    let b := bestStart r
    let t := drawn s
    if corrBelow (fld Reg.LINE_DET_CFG 15 8 s) (corr 32 (r.drop b)) s then detFails p (energy8 x) t
    else modPair p (fun y => { y with start := Int.ofNat b - 16, qual := 1 }) t
  else s

/-- EARLY_TEST at n = 32: the symbols kept from before n = 0, and those from n = 0 on. -/
def opEarlyTest (p : Nat) (before r : List Int) (x : List Nat) (s : State) : State := earlyTest p (before ++ r) x s

/-- REACQUIRE: E8 rose by REARM_DB during ACQUIRE. -/
def reacquire (p e : Nat) (s : State) : State := acquire p e (bump (Reg.LINE_REACQ_CNT p) s)
def opReacquire (p : Nat) (x : List Nat) (s : State) : State :=
  if detIn p 1 s = true ∧ (pair p s).qual < 2 ∧ rose (pair p s).e0 (energy8 x) (rearmDb s) = true then reacquire p (energy8 x) s else s

/-- Sixteen times the mean power of sixteen symbols. -/
def power16 (r : List Int) : Nat := ((r.take 16).map fun v => v * v).sum.natAbs

/-- FULL_TEST: `r` the 64 symbols from the preamble's start on, at the gain output. A rise in the symbol of a pass restarts acquisition (R424). -/
def opFullTest (p : Nat) (r : List Int) (x : List Nat) (s : State) : State :=
  if detIn p 1 s = true ∧ (pair p s).qual = 1 then
    let t := drawn s
    if corrBelow (fld Reg.LINE_DET_CFG 7 0 s) (corr 64 r) s then detFails p (energy8 x) t
    else if rose (pair p s).e0 (energy8 x) (rearmDb s) then reacquire p (energy8 x) t
    else modPair p (fun y => { y with qual := 2, pRef := power16 (r.drop 48) }) t
  else s

/-- DELIMITER_CHECK: the bytes received for D and its complement. -/
def opDelimiterCheck (p : Nat) (d inv : Byte) (x : List Nat) (s : State) : State :=
  if detIn p 1 s = true ∧ (pair p s).qual = 2 then
    if inv ≠ ~~~d then detFails p (energy8 x) s
    else
      let other := decide (bitsOf d.toNat 3 0 ≠ p) || decide (bitsOf d.toNat 5 4 ≠ pairGroup p s)
      let s1 := setDet p 2 (modPair p (fun y => { y with qual := 0, foreign := other, kind := bitsOf d.toNat 7 6 }) s)
      if other then bump (Reg.LINE_ID_CNT p) s1 else if bitsOf d.toNat 7 6 = 3 then pairSilent p 6 s1 else s1
  else s

/-- CAPTURE: the power of the last 16 symbols at the gain output over P_ref (R423); never under Epoch A (R425). -/
def opCapture (p : Nat) (r : List Int) (x : List Nat) (s : State) : State :=
  if detIn p 2 s = true ∧ epochA s = false ∧ rose (pair p s).pRef (power16 r) (captureDb s) = true then
    acquire p (energy8 x) (pairEvent p 3 (bump (Reg.LINE_CAPTURE_CNT p) s))
  else s

/-- BURST_END: after KIND 2 reception is continuous again. -/
def opBurstEnd (p : Nat) (s : State) : State :=
  if detIn p 2 s then
    setDet p 0 (bump (Reg.LINE_BURST_CNT p) (modPair p (fun x => { x with rxLpi := x.foreign || decide (x.kind ≠ 2), foreign := false }) s))
  else s

/-- HOLDOFF_EXIT: 3 dB below the threshold, or a rise above the E8 of the failure. -/
def opHoldoffExit (p : Nat) (x : List Nat) (s : State) : State :=
  if detIn p 3 s then
    (if !(atThresh (energy8 x) 12 s) then setDet p 0 s
     else if rose (pair p s).eFail (energy8 x) (rearmDb s) then acquire p (energy8 x) s else s)
  else s

/-- Does the receiver deliver what it decodes? -/
def pairDelivers (p : Nat) (s : State) : Bool :=
  pairLive p s && pairCarries p s && (!((pair p s).rxLpi) || (pairDet p s == 2 && !((pair p s).foreign)))

/-- CODEWORD_RECEIVED: 239 bytes reach reassembly, or the codeword is uncorrectable. -/
def opCodewordReceived (p : Nat) (ok : Bool) (s : State) : State :=
  if pairDelivers p s then
    (if ok then modPair p (fun x => { x with bytes := x.bytes + 239 }) s else bump (Reg.LINE_CW_UNCORR_CNT p) s)
  else s

/-! ## Fragments (R427 to R430) -/

/-- Bits per symbol of a PAM code, and the constants of R429 for a pair in units of the time of day. -/
def lineConst (p : Nat) (egress : Bool) (s : State) : Int :=
  let mb := mbaud (fld (Reg.LINE_PAIR_STATUS p) 14 12 s)
  let b := fld (Reg.LINE_PAIR_STATUS p) 11 10 s + 2
  if egress then Int.ofNat (104 * nsUnit + 36 * 1000 * nsUnit / mb)
  else Int.ofNat (152 * nsUnit + (48 + (2040 + b - 1) / b) * 1000 * nsUnit / mb)

/-- The code of a pair's loop-back (R510). -/
def pairLoop (p : Nat) (s : State) : Nat := if inReplay s then 0 else fld Reg.SPARE_LOOP_LINE (2 * p + 1) (2 * p) s

/-- May fragments be sent on the pair, and the pair of queue 7 (R427)? -/
def pairSends (p : Nat) (s : State) : Bool := decide (p < 16) && pairCarries p s && !((pair p s).left)
def timePair (s : State) : Option Nat :=
  let t := fld Reg.LINE_CFG 19 16 s
  if pairCarries t s then some t else (upto 16).find? fun p => pairCarries p s

/-- The time it takes a pair to send `n` bytes in RS(255,239) codewords (R410), and the preamble and delimiter of a burst, in 1/2151 of a step. -/
def pairTakes (p n : Nat) (s : State) : Nat :=
  n * 8 * 255 * 7200 / (mbaud (fld (Reg.LINE_PAIR_STATUS p) 14 12 s) * (fld (Reg.LINE_PAIR_STATUS p) 9 8 s + 2))
def burstTakes (p : Nat) (s : State) : Nat := 80 * 7200 * 239 / mbaud (fld (Reg.LINE_PAIR_STATUS p) 14 12 s)

/-- When a pair would have sent a fragment of `n` bytes: after those it has, and in LPI after a preamble and delimiter where it is silent (DEDUCED,
log 66). -/
def pairDone (p n : Nat) (s : State) : Nat :=
  let now := s.time.steps * 2151
  let x := (pair p s).busy
  max now x + (if pairState p s = 6 ∧ x ≤ now then burstTakes p s else 0) + pairTakes p (4 + n) s

/-- The pair on which a fragment would finish first, the lowest-numbered on a tie (R427). -/
def fastPair (n : Nat) (s : State) : Option Nat :=
  (upto 16).foldl (fun a p =>
    if pairSends p s then
      (match a with | none => some p | some q => if pairDone p n s < pairDone q n s then some p else a)
    else a) none

/-- The frame's timestamp is taken at its first fragment (R429). -/
def lineStamp (p : Nat) (w : Wire) (s : State) : Wire × State :=
  if w.kind = 3 then
    match txJob 16 w.q s with
    | none => (w, s)
    | some j =>
      let j1 := txStamp 16 (lineConst p true s) j s
      ({ w with bytes := framed j1.frame }, modTx 16 w.q (fun _ => j1) s)
  else (w, s)

/-- Bytes of the fragment of a frame at place `off`: a frame of queue 7 goes as one. -/
def fragSize (w : Wire) (off : Nat) (s : State) : Nat :=
  if w.kind = 3 ∧ w.q = 7 then w.bytes.length else min (64 * (1 + fld Reg.LINE_CFG 10 8 s)) (w.bytes.length - off)

/-- The pair the next fragment goes to. -/
def fragPair (w : Wire) (off : Nat) (s : State) : Option Nat :=
  if w.kind = 3 ∧ w.q = 7 then timePair s else fastPair (fragSize w off s) s

/-- FRAGMENT_SEND: the next fragment of MAC_16's frame on pair `p`; `cont` marks a data burst KIND 2, after which the direction is in DATA (R417). -/
def opFragmentSend (p : Nat) (cont : Bool) (s : State) : State :=
  match (mac 16 s).wire with
  | none => s
  | some w0 =>
    let off := s.line.txOff
    if pairSends p s = true ∧ off < w0.bytes.length ∧ fragPair w0 off s = some p then
      let r := if off = 0 then lineStamp p w0 s else (w0, s)
      let bs := (r.1.bytes.drop off).take (fragSize r.1 off s)
      let hdr := 0x80000000 * b2n (decide (off = 0)) + 0x40000000 * b2n (decide (r.1.bytes.length ≤ off + bs.length)) + s.line.txSeq * 65536 + bs.length
      let s1 := modMac 16 (fun x => { x with wire := some r.1 }) r.2
      let s2 := bump Reg.LINE_FRAG_TX_CNT (modLine (fun l => { l with txOff := off + bs.length, txSeq := (l.txSeq + 1) % 16384 }) s1)
      let s3 := modPair p (fun x => { x with
        sent := 3, busy := pairDone p bs.length s
        out := if pairState p s = 6 then burstHead p (if cont then 2 else 1) s else []
        back := if pairLoop p s = 1 ∨ pairLoop p s = 2 then x.back ++ [(hdr, bs)] else x.back }) s2
      if cont && pairState p s == 6 then setPairState p 5 s3 else s3
    else s

/-- Count a reassembly error. -/
def reasmCount (s : State) : State := bump Reg.LINE_REASM_ERR_CNT s
def reasmErr (s : State) : State :=
  if s.line.reasm then reasmCount s
  else flagEvent Reg.LINE_EVT_STATUS 4 0x224 0 (reasmCount (modLine (fun l => { l with reasm := true }) s))

/-- Take the fragment that is next in order. MAC_16 receives nothing while its link is not up (R369, R426). -/
def reasmTake (f : Frag) (s : State) : State :=
  let s1 := modLine (fun l => { l with held := l.held.filter (fun g => g.seq != f.seq), rxSeq := (l.rxSeq + 1) % 16384 }) s
  if f.sof || !(s.line.skip) then
    let cur := if f.sof then some (f.bytes, f.stamp) else s.line.asm.map fun a => (a.1 ++ f.bytes, a.2)
    match cur with
    | none => modLine (fun l => { l with skip := !f.eof }) s1
    | some a =>
      if f.eof then (if macUp 16 s then frameIn 16 a.1 false a.2 else fun t => t) (modLine (fun l => { l with asm := none, skip := false }) s1)
      else modLine (fun l => { l with asm := some a, skip := false }) s1
  else modLine (fun l => { l with skip := !f.eof }) s1

/-- Take every fragment that is in order; the first argument bounds their number. -/
def reasmGo : Nat → State → State
  | 0, s => s
  | n + 1, s => match s.line.held.find? (fun f => f.seq == s.line.rxSeq) with
    | none => s
    | some f => reasmGo n (reasmTake f s)

/-- A fragment arrives in good order or not (R428); LEAVE sends its pair to SILENT (R430). -/
def fragIn (p hdr : Nat) (bs : List Byte) (stamp : Nat) (s : State) : State :=
  let seq := bitsOf hdr 29 16
  if bitsOf hdr 15 0 = 0 then (if bitsOf hdr 31 30 = 3 then pairSilent p 6 s else reasmCount (bump Reg.LINE_FRAG_RX_CNT s))
  else
    let s1 := bump Reg.LINE_FRAG_RX_CNT s
    if s.line.held.any (fun f => f.seq == seq) || decide (8192 ≤ (seq + 16384 - s.line.rxSeq) % 16384) then reasmCount s1
    else
      reasmGo (s1.line.held.length + 1)
        (modLine (fun l => { l with held := l.held ++ [{ seq := seq, sof := bitOf hdr 31, eof := bitOf hdr 30, bytes := bs, stamp := stamp }] }) s1)

/-- FRAGMENT_RECEIVED: header, bytes, and the time since the first symbol of its header; a looped pair receives its own. -/
def opFragmentReceived (p hdr : Nat) (bs : List Byte) (back : Nat) (s : State) : State :=
  if pairDelivers p s then
    if pairLoop p s = 1 ∨ pairLoop p s = 2 then
      match (pair p s).back with
      | [] => s
      | (h, b) :: t => fragIn p h b (tsCorrect 16 false (lineConst p false s) (s.tod - back) s) (modPair p (fun x => { x with back := t }) s)
    else if 4 + bs.length ≤ (pair p s).bytes ∧ bs.length = bitsOf hdr 15 0 ∧ hdr ≠ 0 ∧ bs.length ≤ 9224 then
      fragIn p hdr bs (tsCorrect 16 false (lineConst p false s) (s.tod - back) s) (modPair p (fun x => { x with bytes := x.bytes - 4 - bs.length }) s)
    else s
  else s

/-- The held fragment that comes first after the missing one. -/
def reasmFirst (s : State) : Option Nat :=
  (s.line.held.foldl (fun (a : Option Nat) f =>
    let d := (f.seq + 16384 - s.line.rxSeq) % 16384
    match a with | none => some d | some e => some (min d e)) none)

/-- REASSEMBLY_TIMEOUT: frames that contain the gap are discarded, one counted for each gap. -/
def opReassemblyTimeout (s : State) : State :=
  match reasmFirst s with
  | none => s
  | some d =>
    let s1 := modLine (fun l => { l with rxSeq := (l.rxSeq + d) % 16384, asm := none, skip := true }) s
    reasmGo (s1.line.held.length + 1) (reasmErr s1)

/-- Every pair that carries data sends LEAVE and stays silent (R430). -/
def lineLeave (s : State) : State :=
  forEach (upto 16) (fun p t => if pairCarries p t then modPair p (fun x => { x with
    left := true, sent := 4, out := if pairState p t = 6 then burstBare p 3 t else [] }) t else t) s

/-! ## Commits -/

/-- Is the pair to be on? -/
def pairWanted (p : Nat) (s : State) : Bool :=
  flagOn Reg.LINE_CFG 0 s && flagOn (Reg.LINE_PAIR_CFG p) 0 s && (guardCode (ioDom 10) s).isNone

/-- One pair at a commit (R413, R511); `s0` is the state before the apply stage. -/
def pairApplied (p : Nat) (s0 s : State) : State :=
  let key := fun (t : State) => (pairGroup p t, bitsOf (rd (Reg.LINE_GRP_CFG (pairGroup p t)) t).toNat 15 12,
    bitsOf (rd (Reg.LINE_GRP_CFG (pairGroup p t)) t).toNat 5 0)
  if pairWanted p s then
    if pairState p s = 0 ∨ key s0 ≠ key s ∨ (pairLoop p s0 ≠ 0 ∧ pairLoop p s = 0) then pairSilent p 7 s else s
  else if pairState p s = 0 then s
  else setPairState p 0 (setDet p 0 (modPair p (fun x => { raised := x.raised }) s))

/-- A commit at the Line Port. -/
def lineCommit (s0 s : State) : State := lineLink (forEach (upto 16) (fun p t => pairApplied p s0 t) s)

/-- A new Round at the Line Port: events may be raised again. -/
def lineNewRound (s : State) : State :=
  modLine (fun l => { l with reasm := false })
    (forEach ((upto 16).filter fun p => !((pair p s).raised.isEmpty)) (fun p t => modPair p (fun x => { x with raised := [] }) t) s)

/-! ## Meanings of the commands -/

/-- SILENT_PROBE (R413). -/
def execSilentProbe (p : Nat) (s : State) : Host.Outcome State Fault Refusal := .next (gated false (below 16 p) (opSilentProbe p) s)
/-- PROBE_RECEIVED (R413). -/
def execProbeReceived (p : Nat) (s : State) : Host.Outcome State Fault Refusal := .next (gated false (below 16 p) (opProbeReceived p) s)
/-- PROBE_COMPLETE (R412). -/
def execProbeComplete (p : Nat) (snr theirs : List Nat) (s : State) : Host.Outcome State Fault Refusal :=
  .next (gated false (below 16 p) (opProbeComplete p snr theirs) s)
/-- PROBE_TIMEOUT (R413). -/
def execProbeTimeout (p : Nat) (s : State) : Host.Outcome State Fault Refusal := .next (gated false (below 16 p) (opProbeTimeout p) s)
/-- ECTRAIN_COMPLETE (R414). -/
def execEctrainComplete (p echo : Nat) (s : State) : Host.Outcome State Fault Refusal := .next (gated false (below 16 p) (opEctrainComplete p echo) s)
/-- ECHO_CHECK_8MS (R414). -/
def execEchoCheck8ms (p echo : Nat) (s : State) : Host.Outcome State Fault Refusal := .next (gated false (below 16 p) (opEchoCheck8ms p echo) s)
/-- ECTRAIN_TIMEOUT (R413). -/
def execEctrainTimeout (p : Nat) (s : State) : Host.Outcome State Fault Refusal := .next (gated false (below 16 p) (opEctrainTimeout p) s)
/-- EXCHANGE_COMPLETE (R413). -/
def execExchangeComplete (p : Nat) (s : State) : Host.Outcome State Fault Refusal := .next (gated false (below 16 p) (opExchangeComplete p) s)
/-- EXCHANGE_TIMEOUT (R413). -/
def execExchangeTimeout (p : Nat) (s : State) : Host.Outcome State Fault Refusal := .next (gated false (below 16 p) (opExchangeTimeout p) s)
/-- LINE_SIGNAL_LOSS (R415). -/
def execLineSignalLoss (p : Nat) (s : State) : Host.Outcome State Fault Refusal := .next (gated false (below 16 p) (opLineSignalLoss p) s)
/-- FEC_FAIL (R415). -/
def execFecFail (p : Nat) (s : State) : Host.Outcome State Fault Refusal := .next (gated false (below 16 p) (opFecFail p) s)
/-- LINE_LPI_ENTRY (R417). -/
def execLineLpiEntry (p : Nat) (rx : Bool) (s : State) : Host.Outcome State Fault Refusal := .next (gated false (below 16 p) (opLineLpiEntry p rx) s)
/-- REFRESH_BURST (R416). -/
def execRefreshBurst (p : Nat) (s : State) : Host.Outcome State Fault Refusal := .next (gated false (below 16 p) (opRefreshBurst p) s)
/-- ENERGY_DETECT (R418). -/
def execEnergyDetect (p : Nat) (x : List Nat) (s : State) : Host.Outcome State Fault Refusal :=
  .next (gated false (below 16 p) (opEnergyDetect p x) s)
/-- EARLY_TEST (R420). -/
def execEarlyTest (p : Nat) (before r : List Int) (x : List Nat) (s : State) : Host.Outcome State Fault Refusal :=
  .next (gated false (below 16 p) (opEarlyTest p before r x) s)
/-- FULL_TEST (R420). -/
def execFullTest (p : Nat) (r : List Int) (x : List Nat) (s : State) : Host.Outcome State Fault Refusal :=
  .next (gated false (below 16 p) (opFullTest p r x) s)
/-- DELIMITER_CHECK (R420). -/
def execDelimiterCheck (p : Nat) (d inv : Byte) (x : List Nat) (s : State) : Host.Outcome State Fault Refusal :=
  .next (gated false (below 16 p) (opDelimiterCheck p d inv x) s)
/-- REACQUIRE (R422). -/
def execReacquire (p : Nat) (x : List Nat) (s : State) : Host.Outcome State Fault Refusal := .next (gated false (below 16 p) (opReacquire p x) s)
/-- CAPTURE (R423). -/
def execCapture (p : Nat) (r : List Int) (x : List Nat) (s : State) : Host.Outcome State Fault Refusal :=
  .next (gated false (below 16 p) (opCapture p r x) s)
/-- BURST_END (R421). -/
def execBurstEnd (p : Nat) (s : State) : Host.Outcome State Fault Refusal := .next (gated false (below 16 p) (opBurstEnd p) s)
/-- HOLDOFF_EXIT (R418). -/
def execHoldoffExit (p : Nat) (x : List Nat) (s : State) : Host.Outcome State Fault Refusal := .next (gated false (below 16 p) (opHoldoffExit p x) s)
/-- CODEWORD_RECEIVED (R421). -/
def execCodewordReceived (p : Nat) (ok : Bool) (s : State) : Host.Outcome State Fault Refusal :=
  .next (gated false (below 16 p) (opCodewordReceived p ok) s)
/-- FRAGMENT_SEND (R427). -/
def execFragmentSend (p : Nat) (cont : Bool) (s : State) : Host.Outcome State Fault Refusal :=
  .next (gated false (below 16 p) (opFragmentSend p cont) s)
/-- FRAGMENT_RECEIVED (R428). -/
def execFragmentReceived (p hdr : Nat) (bs : List Byte) (back : Nat) (s : State) : Host.Outcome State Fault Refusal :=
  .next (gated false (below 16 p) (opFragmentReceived p hdr bs back) s)
/-- REASSEMBLY_TIMEOUT (R428). -/
def execReassemblyTimeout (s : State) : Host.Outcome State Fault Refusal := .next (gated false true opReassemblyTimeout s)

end Sys2Proof.Machine
end

