-- ==== Sys2Proof/Machine/Csr.lean ====
section
/-! DEFINITION. Reads of registers (R10 to R16, R32 to R38, R42): which value a read returns and with which response code. Writes are in
RegWrite.lean. -/
namespace Sys2Proof.Machine

/-- Instances of a register: first offset, stride, count. -/
def strideHit (l : List (Nat × Nat × Nat)) (off : Nat) : Bool :=
  l.any fun x => decide (x.1 ≤ off) && decide ((off - x.1) / x.2.1 < x.2.2) && decide ((off - x.1) % x.2.1 = 0)

/-- Is the register a snapshot copy of W1C flags (R40)? The flags stand at the offset 4 below. -/
def snapCopy (off : Nat) : Bool :=
  strideHit [(0x10060, 4, 1), (0x1000010, 0x10000, 68), (0x100054, 0x10000, 8), (0x20001C, 4, 1), (0x310018, 0x1000, 32), (0x300018, 4, 1),
    (0x800018, 4, 1), (0x508018, 0x10000, 16), (0x4000B4, 0x800, 32), (0x5000C4, 0x10000, 16), (0x7100C4, 4, 1), (0x600074, 4, 1),
    (0x700014, 4, 1), (0xB00044, 4, 1), (0xE00014, 4, 1), (0xA00038, 4, 1), (0x900014, 4, 1), (0xC0002C, 4, 1), (0xD00044, 4, 1)] off

/-- Is the register a count of cycles, a latency or a count of flits: timing the model leaves out (log 8)? -/
def timingReg (off : Nat) : Bool :=
  strideHit [(0x2000020, 0x1000, 512), (0x2000030, 0x1000, 512), (0x2000040, 0x1000, 512), (0x1000040, 0x10000, 68), (0x200034, 4, 1),
    (0x201008, 0x40, 48), (0x201018, 0x40, 48)] off ||
  (decide (0x220000 ≤ off ∧ off < 0x2E0000) && decide (0x200 ≤ off % 0x800 ∧ off % 0x800 < 0x400) && decide (0xC ≤ off % 0x80 ∧ off % 0x80 < 0x50))

/-- The value a register holds now, as a live read sees it (R37). -/
def liveValue (off : Nat) (s : State) : DWord :=
  if off = Reg.ROUND_STATUS then dw (withBits (rd off s).toNat 4 4 (b2n (!s.csr.shadow.isEmpty)))
  else if off = Reg.EVT_STATUS then dw s.evt.length
  else if snapCopy off then rd (off - 4) s
  else if timingReg off then freeNow off s
  else if 0x100000 ≤ off ∧ off < 0x180000 ∧ 0x1400 ≤ off % 0x10000 ∧ off % 0x10000 < 0x1600 then
    dw (churnPeek ((off - 0x100000) / 0x10000) ((off % 0x10000 - 0x1400) / 8) s)
  else rd off s

/-- The value the last commit captured (R35). -/
def snapValue (off : Nat) (s : State) : DWord :=
  if snapCopy off then tabGet resetOf s.csr.snap (off - 4)
  else if timingReg off then (if s.csr.snapSeq = 0 then 0 else Config.cycles s.csr.snapSeq off)
  else tabGet resetOf s.csr.snap off

/-- The whole register at `off` as a read sees it (R14, R32, R35, R37, R42): write-only fields read zero, snapshot fields the snapshot, or
the live value through the mirror or under Epoch A. -/
def regView (d : RegDesc) (off : Nat) (mirror : Bool) (s : State) : Nat :=
  let live := (liveValue off s).toNat
  let snap := if mirror || epochA s then live else (snapValue off s).toNat
  ((snap &&& d.sm) ||| (live - (live &&& d.sm) - (live &&& (d.wo - (d.wo &&& d.rw))))) % (if d.wide then 2 ^ 64 else 2 ^ 32)

/-- Is a read of the register at `off` stalled by the commit window (R28, R42)? -/
def readStalls (off : Nat) (mirror : Bool) (s : State) : Bool :=
  windowOpen s && !mirror && !(epochA s) && (match findReg off with | some (d, _) => decide (d.sm ≠ 0) | none => false)

/-- The stamp of an initiator (R34): the Round its last committed write takes effect in, ROUND_NOW + 1 where no Rounds run; all ones before
its first. -/
def stampOf (src : Nat) (s : State) : DWord :=
  let x := tabGet (fun _ => dw (2 ^ 64 - 1)) s.csr.stamps src
  if x = dw (2 ^ 64 - 1) ∨ 2 ≤ roundState s then x else dw (roundNow s + 1)

/-- The response code of an access of one width to the register at `off` (R11, R12): 0 OK, 1 SLVERR, 2 DECERR. An access to no register is
DECERR before its alignment counts (R237). -/
def accessCode (off : Nat) (wide : Bool) : Nat :=
  match findReg off with
  | none => if (findReg (off / 4 * 4)).isNone then 2 else 1
  | some (d, r) => if wide then (if d.wide ∧ r = 0 ∧ off % 8 = 0 then 0 else 1) else 0

/-- Does `off` lie in the own block of a spare accelerator that serves a logical slot (R153)? -/
def spareServes (off : Nat) (s : State) : Bool :=
  decide (0x1400000 ≤ off ∧ off < 0x1440000) && (upto 64).any fun k => accPhys k s == (off - 0x1000000) / 0x10000

/-- The response code of an access, the state counted in. -/
def accessCodeNow (off : Nat) (wide : Bool) (s : State) : Nat :=
  if accessCode off wide = 0 ∧ spareServes off s = true then 1 else accessCode off wide

/-- Is `off` a CHURN_NEXT register (R204)? The slice and slice engine. -/
def churnNextAt (off : Nat) : Option (Nat × Nat) :=
  if 0x100000 ≤ off ∧ off < 0x180000 ∧ 0x1000 ≤ off % 0x10000 ∧ off % 0x10000 < 0x1200 then
    some ((off - 0x100000) / 0x10000, (off % 0x10000 - 0x1000) / 8)
  else none

/-- A read of the register at `off` by initiator `src`: response code, data bytes, and the state after it. The registers whose reading has
an effect are TIME_NOW_SEC, TIME_NOW_SUB (R395) and CHURN_NEXT (R204); a task that ends by it adds a ninth byte, the mark TASK_END. -/
def csrRead (src off : Nat) (wide mirror : Bool) (s : State) : Nat × List Byte × State :=
  match accessCodeNow off wide s, findReg off with
  | 0, some (d, r) =>
    let cut := fun (v : Nat) => leBytes (if wide then 8 else 4) (v / 2 ^ (8 * r))
    if off - r = Reg.SHADOW_STAMP then (0, cut (stampOf src s).toNat, s)
    else if off - r = Reg.TIME_NOW_SEC then
      (let x := timeNowSec src s
       (0, cut x.1.toNat, x.2))
    else if off - r = Reg.TIME_NOW_SUB then
      (let x := timeNowSub src s
       (0, cut x.1.toNat, x.2))
    else match churnNextAt (off - r) with
      | some (sl, e) =>
        if wide then
          (let x := churnNext sl e s
           (0, leBytes 8 x.1 ++ (if x.2.1 then [1] else []), x.2.2))
        else (1, [], s)
      | none => (0, cut (regView d (off - r) mirror s), if timingReg (off - r) then drawn s else s)
  | code, _ => (code, [], s)

/-! ## Committed registers as commands write them (R455) -/

/-- Are all writable fields of a register committed? -/
def allCommitted (d : RegDesc) : Bool :=
  decide (d.rw ||| d.w1c ||| d.wo ≠ 0) && decide ((d.rw ||| d.w1c ||| d.wo) &&& d.cm = (d.rw ||| d.w1c ||| d.wo)) && decide (d.sm = 0)

/-- May WRITE_REGS name this offset: a register of committed fields outside the SEC block, reached by a 32-bit write? -/
def cmdReg (off : Nat) : Bool :=
  decide (off < 0x10000000) && decide (off % 4 = 0) && !(decide (0xB00000 ≤ off % 0x8000000 ∧ off % 0x8000000 < 0xC00000)) &&
  (match findReg (off % 0x8000000) with
   | some (d, _) => allCommitted d
   | none => false)

/-- A 32-bit read of CSR offset `off` by the security controller (READ_REGS, GET_STATUS): the value and the state after it; none where the
answer is not OK. -/
def secRead (off : Nat) (s : State) : Option Nat × State :=
  let a := 0x40000000 + off
  if 0x10000000 ≤ off then (none, s)
  else match originCode (srcOf .sec s) 0 a (.read 4) s with
    | some _ => (none, s)
    | none => match (match addrDom a with | some d => guardCode d s | none => none) with
      | some _ => (none, s)
      | none =>
        let x := csrRead (srcOf .sec s) (csrOff a) false (csrMirror a) s
        if x.1 = 0 then (some (leNat x.2.1), x.2.2) else (none, x.2.2)

end Sys2Proof.Machine
end

