-- ==== Sys2Proof/Machine/Keccak.lean ====
section
/-! DEFINITION. SHA3-256 (FIPS 202) and KMAC256 (NIST SP 800-185), the functions the manual names for digests, tags and keys (R437, R453,
R454). PRESUMED (log 14): the manual names the standards; their steps are written here from them. -/
namespace Sys2Proof.Machine

/-- A sponge state: 25 lanes, lane (x, y) at place x + 5 × y. -/
abbrev Lanes := List DWord

/-- Lane `i`. -/
def laneAt (a : Lanes) (i : Nat) : DWord := a.getD i 0

/-- A byte of the round-constant register shifted once: x^8 + x^6 + x^5 + x^4 + 1. -/
def rcShift (r : Nat) : Nat := if r.testBit 7 then ((2 * r) ^^^ 0x171) % 256 else 2 * r

/-- Seven shifts of the register: its value after them, and the round constant their output bits make. -/
def rcRound (r : Nat) : Nat × Nat :=
  (upto 7).foldl (fun (x : Nat × Nat) j => (rcShift x.1, if x.1 % 2 = 1 then x.2 + 2 ^ (2 ^ j - 1) else x.2)) (r, 0)

/-- The column parities and what theta adds to column x. -/
def parity (a : Lanes) (x : Nat) : DWord := laneAt a x ^^^ laneAt a (x + 5) ^^^ laneAt a (x + 10) ^^^ laneAt a (x + 15) ^^^ laneAt a (x + 20)
def thetaCol (a : Lanes) (x : Nat) : DWord := parity a ((x + 4) % 5) ^^^ (parity a ((x + 1) % 5)).rotateLeft 1

/-- Rotation amounts of rho, place by place. -/
def rhoTable : List Nat :=
  [0, 1, 62, 28, 27, 36, 44, 6, 55, 20, 3, 10, 43, 25, 39, 41, 45, 15, 21, 8, 18, 2, 61, 56, 14]

/-- theta, then rho and pi: place (X, Y) takes lane (X + 3Y, X). -/
def thetaRhoPi (a : Lanes) : Lanes :=
  let cols := (upto 5).map (thetaCol a)
  let t := (upto 25).map fun i => (laneAt a i ^^^ cols.getD (i % 5) 0).rotateLeft (rhoTable.getD i 0)
  (upto 25).map fun i => laneAt t ((i % 5 + 3 * (i / 5)) % 5 + 5 * (i % 5))

/-- chi. -/
def chiStep (a : Lanes) : Lanes :=
  (upto 25).map fun i => laneAt a i ^^^ (~~~(laneAt a (5 * (i / 5) + (i + 1) % 5)) &&& laneAt a (5 * (i / 5) + (i % 5 + 2) % 5))

/-- One round with its constant. -/
def keccakRound (a : Lanes) (rc : Nat) : Lanes :=
  match chiStep (thetaRhoPi a) with
  | [] => []
  | x :: t => (x ^^^ dw rc) :: t

/-- Keccak-f[1600]: 24 rounds. -/
def keccakF (a : Lanes) : Lanes :=
  ((upto 24).foldl (fun (x : Lanes × Nat) _ => (keccakRound x.1 (rcRound x.2).2, (rcRound x.2).1)) (a, 1)).1

/-- Bytes of one block of the rate (136 bytes) taken into the state. -/
def absorb (a : Lanes) (block : List Byte) : Lanes :=
  keccakF ((upto 25).map fun i => if i < 17 then laneAt a i ^^^ dw (leAt block (8 * i) 8) else laneAt a i)

/-- All blocks of a padded message; the first argument bounds their number. -/
def absorbAll : Nat → Lanes → List Byte → Lanes
  | 0, a, _ => a
  | _, a, [] => a
  | n + 1, a, bs => absorbAll n (absorb a (bs.take 136)) (bs.drop 136)

/-- The message with its domain suffix and padding. -/
def padMsg (msg : List Byte) (suffix : Nat) : List Byte :=
  let z := (135 - msg.length % 136)
  if z = 0 then msg ++ [BitVec.ofNat 8 (suffix ||| 0x80)]
  else msg ++ BitVec.ofNat 8 suffix :: List.replicate (z - 1) 0 ++ [0x80]

/-- A sponge of rate 136 and at most 136 output bytes. -/
def sponge (msg : List Byte) (suffix n : Nat) : List Byte :=
  let p := padMsg msg suffix
  ((absorbAll (p.length / 136) (List.replicate 25 0) p).flatMap fun l => leBytes 8 l.toNat).take n

/-- SHA3-256. -/
def sha3 (msg : List Byte) : List Byte := sponge msg 0x06 32

/-- Big-endian bytes of a number without leading zeros, at least one; numbers below 2^32. -/
def minBytes (v : Nat) : List Byte :=
  if v < 256 then [BitVec.ofNat 8 v]
  else if v < 65536 then [BitVec.ofNat 8 (v / 256), BitVec.ofNat 8 v]
  else if v < 16777216 then [BitVec.ofNat 8 (v / 65536), BitVec.ofNat 8 (v / 256), BitVec.ofNat 8 v]
  else [BitVec.ofNat 8 (v / 16777216), BitVec.ofNat 8 (v / 65536), BitVec.ofNat 8 (v / 256), BitVec.ofNat 8 v]

/-- The length encodings of SP 800-185. -/
def leftEncode (v : Nat) : List Byte := BitVec.ofNat 8 (minBytes v).length :: minBytes v
def rightEncode (v : Nat) : List Byte := minBytes v ++ [BitVec.ofNat 8 (minBytes v).length]
def encodeString (bs : List Byte) : List Byte := leftEncode (8 * bs.length) ++ bs

/-- Bytes padded to whole blocks of 136. -/
def bytePad (bs : List Byte) : List Byte :=
  let z := leftEncode 136 ++ bs
  z ++ List.replicate (roundUp z.length 136 - z.length) 0

/-- The bytes of an ASCII string. -/
def ascii (t : String) : List Byte := t.toList.map fun c => BitVec.ofNat 8 c.toNat

/-- KMAC256(key, data, bits, custom). -/
def kmac (key data : List Byte) (bits : Nat) (custom : String) : List Byte :=
  sponge (bytePad (encodeString (ascii "KMAC") ++ encodeString (ascii custom)) ++
    (bytePad (encodeString key) ++ data ++ rightEncode bits)) 0x04 (bits / 8)

end Sys2Proof.Machine
end

