-- ==== Sys2Proof/Machine/Sec.lean ====
section
/-! DEFINITION. The security controller (R434 to R462): flash, journal, command checks, answers and the commands that execute at once. What
commits do with accepted commands is in Round.lean; acceptance of critical commands in Command.lean. -/
namespace Sys2Proof.Machine

/-- Change the security controller's own state. -/
def modSec (f : Sec → Sec) (s : State) : State := { s with sec := f s.sec }

/-! ## The boot flash (R434 to R436) -/

/-- An erased byte. -/
def norDefault : Nat → Byte := fun _ => 0xFF

/-- The `n` bytes of the flash from `a` on. -/
def norRead (a n : Nat) (s : State) : List Byte := (upto n).map fun i => tabGet norDefault s.sec.nor (a + i)

/-- Bytes programmed into a flash table. -/
def norPut (t : List (Nat × Byte)) : Nat → List Byte → List (Nat × Byte)
  | _, [] => t
  | a, b :: bs => norPut (tabSet norDefault t a b) (a + 1) bs

/-- Bytes programmed from `a` on, and a range erased. -/
def norWrite (a : Nat) (bs : List Byte) (s : State) : State := modSec (fun x => { x with nor := norPut x.nor a bs }) s
def norErase (a n : Nat) (s : State) : State :=
  modSec (fun x => { x with nor := x.nor.filter fun c => decide (c.1 < a) || decide (a + n ≤ c.1) }) s

/-- 12 bytes with their CRC-16 in the low half of a fourth word. -/
def withCrc (bs : List Byte) : List Byte := bs ++ leBytes 4 (crc16 bs)

/-- Are the CRC of a 16-byte record and its 12 bytes consistent? -/
def crcGood (bs : List Byte) : Bool := decide (leAt bs 12 2 = crc16 (bs.take 12))

/-- A valid boot record copy: its SEQ and PRIMARY (R435). -/
def bootCopy (i : Nat) (s : State) : Option (Nat × Nat) :=
  let r := norRead (0x10000 * i) 16 s
  if leAt r 0 4 = 0x544F4F42 ∧ crcGood r = true then some (leAt r 4 4, leAt r 8 4 % 2) else none

/-- The boot record in force: copy, SEQ, PRIMARY (R435). -/
def bootRecord (s : State) : Nat × Nat × Nat :=
  match bootCopy 0 s, bootCopy 1 s with
  | none, none => (1, 0, 0)
  | some a, none => (0, a.1, a.2)
  | none, some b => (1, b.1, b.2)
  | some a, some b => if b.1 ≤ a.1 then (0, a.1, a.2) else (1, b.1, b.2)

/-- The copy not in force is rewritten with SEQ one higher (R435, R460). -/
def bootRewrite (slot : Nat) (s : State) : State :=
  let r := bootRecord s
  let a := 0x10000 * (1 - r.1)
  norWrite a (withCrc (leBytes 4 0x544F4F42 ++ leBytes 4 (r.2.1 + 1) ++ leBytes 4 slot)) (norErase a 0x10000 s)

/-- A key's last counter (0: none); all ones where it is revoked (R436). -/
def keyCounter (key : Nat) (s : State) : Nat := tabGet (fun _ => 0) s.sec.counters key
def revokedMark : Nat := 2 ^ 64 - 1

/-- A counter enters the Cold Room's security state: the largest stands. -/
def noteCounter (key ctr : Nat) (s : State) : State :=
  modSec (fun x => { x with counters := tabSet (fun _ => 0) x.counters key (max ctr (tabGet (fun _ => 0) x.counters key)) }) s

/-- The address of the journal's record `pos` counted from the start of sector `base`; its sectors form a ring of 16. -/
def journalAt (base pos : Nat) : Nat := 0x7F00000 + (base * 4096 + pos) % 65536 * 16

/-- One journal record. -/
def journalRecord (key ctr : Nat) : List Byte := withCrc (leBytes 4 key ++ leBytes 8 ctr)

/-- The journal's last sector is full: one record per key goes into the sector oldest after the first, and the others are erased (R436). -/
def journalCompact (s : State) : State :=
  let base := (s.sec.journalBase + 1) % 16
  let s1 := norErase 0x7F00000 0x100000 s
  let s2 := s.sec.counters.foldl (fun (x : Nat × State) c => (x.1 + 1, norWrite (journalAt base x.1) (journalRecord c.1 c.2) x.2)) (0, s1)
  modSec (fun x => { x with journalBase := base, journalPos := s2.1 }) s2.2

/-- A record is appended to the journal, then the Cold Room is updated (R456). -/
def journalAppend (key ctr : Nat) (s : State) : State :=
  let s1 := norWrite (journalAt s.sec.journalBase s.sec.journalPos) (journalRecord key ctr) s
  let s2 := noteCounter key ctr (modSec (fun x => { x with journalPos := x.journalPos + 1 }) s1)
  if 65536 ≤ s2.sec.journalPos then journalCompact s2 else s2

/-- The Starter rebuilds the counters from the journal's good records (R436, R443). -/
def journalRebuild (s : State) : State :=
  let recs := (s.sec.nor.filter fun c => decide (0x7F00000 ≤ c.1 ∧ c.1 < 0x8000000)).map fun c => c.1 / 16 * 16
  modSec (fun x => { x with coldValid := true })
    (recs.foldl (fun t a =>
      let r := norRead a 16 t
      if crcGood r then noteCounter (leAt r 0 4) (leAt r 4 8) t else t) (modSec (fun x => { x with counters := [] }) s))

/-! ## Commands (R453 to R457) -/

/-- Fields of a command. -/
def cmdOp (bs : List Byte) : Nat := leAt bs 0 2
def cmdLen (bs : List Byte) : Nat := leAt bs 2 2
def cmdKey (bs : List Byte) : Nat := leAt bs 4 4
def cmdTarget (bs : List Byte) : Nat := leAt bs 8 8
def cmdCounter (bs : List Byte) : Nat := leAt bs 16 8
def cmdCritical (bs : List Byte) : Bool := bitOf (cmdOp bs) 15
def cmdPayload (bs : List Byte) : List Byte := sliceOf bs 32 (cmdLen bs)
def cmdTag (bs : List Byte) : List Byte := sliceOf bs (32 + cmdLen bs) 16

/-- The length a command's header gives it. -/
def cmdTotal (bs : List Byte) : Nat := 32 + cmdLen bs + (if cmdCritical bs then 16 else 0)

/-- The known opcodes, and those that take effect at once (R459). -/
def cmdKnown (op : Nat) : Bool := decide (1 ≤ op ∧ op ≤ 6) || decide (0x8001 ≤ op ∧ op ≤ 0x800A)
def cmdAtOnce (op : Nat) : Bool := decide (op < 0x8000) || decide (0x8003 ≤ op ∧ op ≤ 0x8006)

/-- The PERMS bit of an opcode's class. -/
def cmdClass (op : Nat) : Nat :=
  match op with
  | 0x8001 => 0 | 0x8002 => 1 | 0x8003 => 1 | 0x8004 => 2 | 0x8005 => 2 | 0x8006 => 2 | 0x8007 => 3 | 0x8008 => 4 | 0x8009 => 4 | _ => 5

/-- SEC_FUSE_POLICY and SEC_IMAGE_INFO. -/
def svnFused (s : State) : Nat := fld Reg.SEC_FUSE_POLICY 22 16 s
def imageSvn (s : State) : Nat := fld Reg.SEC_IMAGE_INFO 22 16 s
def recovering (s : State) : Bool := flagOn Reg.SEC_BOOT_STATUS 3 s

/-- Are all bytes zero? -/
def zeros (bs : List Byte) : Bool := bs.all (· == 0)

/-- Do two address ranges share a byte? -/
def overlap (a n b m : Nat) : Bool := decide (a < b + m) && decide (b < a + n)

/-- Is a ring well placed for Replay: 1 MiB aligned and inside DRAM, clear of the image's LOAD destinations (R518)? -/
def ringPlaced (base size : Nat) (s : State) : Bool :=
  decide (base % 0x100000 = 0) && decide (0x100000000 ≤ base) && decide (base + size * 0x100000 ≤ 0x880000000) && decide (1 ≤ size) &&
  s.sec.loads.all fun l => !(overlap base (size * 0x100000) l.1 l.2)

/-- Is the payload of REPLAY_ENTER one it accepts (R518)? -/
def replayOk (p : List Byte) (s : State) : Bool :=
  let base := leAt p 0 8
  let cap := leAt p 16 8
  ringPlaced base (leAt p 8 4) s && ringPlaced cap (leAt p 24 4) s &&
  !(overlap base (leAt p 8 4 * 0x100000) cap (leAt p 24 4 * 0x100000)) && zeros (sliceOf p 12 4) && zeros (sliceOf p 28 4) &&
  decide (memNat base 4 s = 0x30434552) && decide (memNat (base + 32) 32 s = leNat s.sec.imageM) &&
  decide (memNat (base + 4) 4 s % 4 = 0) && decide (memNat (base + 4) 4 s / 8 % 2 = 1) && !(recOn s)

/-- Is the payload of a known opcode laid out as R459 states, and of a kind it accepts? -/
def layoutOk (op : Nat) (p : List Byte) (s : State) : Bool :=
  let n := p.length
  let b0 := leAt p 0 1
  match op with
  | 0x0001 => n == 0
  | 0x0002 => decide (n ≤ 2024)
  | 0x0003 => n == 8 && zeros (p.drop 4)
  | 0x0004 => n == 32
  | 0x0005 => n == 0
  | 0x0006 => n == 8 && decide (1 ≤ leAt p 4 4 ∧ leAt p 4 4 ≤ 4032) && decide (leAt p 0 4 + leAt p 4 4 ≤ 917504)
  | 0x8001 => (upto (n / 8)).all fun i => cmdReg (leAt p (8 * i) 4)
  | 0x8002 => n == 8 && decide (b0 ≤ 1) && zeros (p.drop 1)
  | 0x8003 => decide (16 ≤ n) && decide (b0 ≤ 1) && zeros (sliceOf p 1 3) && zeros (sliceOf p 8 8) && decide (leAt p 4 4 % 256 = 0) &&
      decide (s.sec.running ≠ some b0) && decide (leAt p 4 4 + (n - 16) ≤ 66060288)
  | 0x8004 => n == 8 && decide (leAt p 0 4 ≠ 0) && zeros (p.drop 4)
  | 0x8005 => n == 8 && decide (b0 ≤ 3) && zeros (p.drop 1) &&
      ((upto 4).any fun i => decide (i ≠ b0) && flagOn Reg.SEC_FUSE_POLICY (4 + i) s && !(flagOn Reg.SEC_FUSE_POLICY (8 + i) s))
  | 0x8006 => n == 8 && zeros (p.drop 1) && decide (svnFused s ≤ b0) && decide (b0 ≤ imageSvn s)
  | 0x8007 => n == 8 && decide (b0 ≤ 2) && zeros (sliceOf p 1 3)
  | 0x8008 => n == 32 && replayOk p s
  | 0x8009 => n == 0
  | 0x800A => n == 0
  | _ => true

/-- Step 1 of R455, for a command of `total` bytes. -/
def formatOk (total : Nat) (bs : List Byte) (s : State) : Bool :=
  decide (32 ≤ total ∧ total ≤ 4096) && decide (cmdLen bs % 8 = 0) && decide (cmdLen bs ≤ 4048) && decide (total = cmdTotal bs) &&
  zeros (sliceOf bs 24 8) && (cmdCritical bs || (decide (cmdKey bs = 0) && decide (cmdCounter bs = 0))) &&
  layoutOk (cmdOp bs) (cmdPayload bs) s

/-- The generation and permissions a key is usable with (R454). -/
def keyPerms (key : Nat) (s : State) : Option (Nat × Nat) :=
  if keyCounter key s = revokedMark then none
  else if recovering s then (if key = 0 then some (0, 0x22) else none)
  else if key = 0 ∨ key = 0xFFFFFFFF then none
  else (s.sec.keys.find? (·.1 == key)).map (·.2)

/-- The command key of a KEY_ID and generation (R454). -/
def cmdKeyBytes (key gen : Nat) (s : State) : List Byte := kmac s.sec.kDev (leBytes 4 key ++ leBytes 2 gen) 256 "CALYMIN-KDF"

/-- Does the tag match (R453)? -/
def tagOk (bs : List Byte) (s : State) : Bool :=
  match keyPerms (cmdKey bs) s with
  | none => false
  | some k => decide (cmdTag bs = kmac (cmdKeyBytes (cmdKey bs) k.1 s) (bs.take (32 + cmdLen bs)) 128 "CALYMIN-CMD")

/-- Does the Round unit run Rounds in the sense of R457? -/
def targetsRun (s : State) : Bool := decide (2 ≤ roundState s) && decide (roundState s ≤ 4)

/-- The Round a target resolves to (R457): none where it is not allowed; some none for the next manual commit or first Round. -/
def resolveTarget (op target : Nat) (s : State) : Option (Option Nat) :=
  if cmdAtOnce op || !(targetsRun s) then (if target = 0 then some none else none)
  else if target = 0 then some (some (roundNow s + 2))
  else if roundNow s + 2 ≤ target then some (some target) else none

/-- Is a target resolved at step 7 still allowed at step 10 (R455)? -/
def stillAllowed (op : Nat) (t : Option Nat) (s : State) : Bool :=
  if cmdAtOnce op || !(targetsRun s) then t.isNone
  else match t with
    | none => false
    | some r => decide (roundNow s + 2 ≤ r)

/-- Commands that wait for their Round. -/
def waitingCmds (s : State) : Nat := (s.sec.cmds.filter (!·.applied)).length

/-- The first failing step of 1 to 8 (R455): its status and its counter. Replay and the removal sequence answer BUSY before any (R489, R519). -/
def cmdFails (total : Nat) (bs : List Byte) (s : State) : Option (Nat × Nat) :=
  let op := cmdOp bs
  let key := cmdKey bs
  let rej := Reg.SEC_REJECT_CNT
  if 2 ≤ s.pwr.eject then some (0x17, rej)
  else if inReplay s && !(op == 1 || op == 2 || op == 4 || op == 0x8009) then some (0x17, rej)
  else if !(formatOk total bs s) then some (0x10, rej)
  else if !(cmdKnown op) then some (0x11, rej)
  else if cmdCritical bs then
    (match keyPerms key s with
     | none => some (0x12, rej)
     | some k =>
       if !(tagOk bs s) then some (0x13, Reg.SEC_TAG_FAIL_CNT)
       else if cmdCounter bs ≤ keyCounter key s then some (0x14, Reg.SEC_STALE_CNT)
       else if !(k.2.testBit (cmdClass op)) then some (0x15, rej)
       else if (resolveTarget op (cmdTarget bs) s).isNone then some (0x16, rej)
       else if 16 ≤ waitingCmds s then some (0x17, rej) else none)
  else if (resolveTarget op (cmdTarget bs) s).isNone then some (0x16, rej) else none

/-! ## Answers (R461) -/

/-- A response: header and data. -/
def respBytes (op status round : Nat) (data : List Byte) : List Byte :=
  leBytes 2 op ++ leBytes 2 data.length ++ leBytes 4 status ++ leBytes 8 round ++ data

/-- Words of a response in SEC_MBOX_RSP. -/
def putRsp : Nat → List Byte → State → State
  | n, bs, s => (upto ((bs.length + 3) / 4)).foldl (fun t i => wr (Reg.SEC_MBOX_RSP (n + i)) (dw (leAt bs (4 * i) 4)) t) s

/-- UART framing (R461, RFC 1662): flags and escapes around the response and its CRC. -/
def uartFrame (bs : List Byte) : List Byte :=
  [0x7E] ++ ((bs ++ crc16Bytes bs).flatMap fun b => if b = 0x7E ∨ b = 0x7D then [0x7D, b ^^^ 0x20] else [b]) ++ [0x7E]

/-- The security controller answers a command. -/
def respond (src : CmdFrom) (op status round : Nat) (data : List Byte) (s : State) : State :=
  let bs := respBytes op status round data
  if src.path = 0 then flagEvent Reg.SEC_EVT_STATUS 4 0x044 0 (wr Reg.SEC_MBOX_STATUS (dw 2) (putRsp 0 bs s))
  else if src.path = 1 then
    modMac src.mac (fun x => { x with
      mgmt := x.mgmt ++ [src.addr ++ leBytes 6 (rd (Reg.MAC_ADDR src.mac) s).toNat ++ [0x81, 0x00] ++
        (leBytes 2 (0xE000 + fld Reg.SEC_MGMT_CFG 11 0 s)).reverse ++ [0x88, 0xB5] ++ bs.take (maxFrame src.mac s - 22)] }) s
  else modSec (fun x => { x with uartOut := uartFrame bs }) s

/-- A rejection (R455). -/
def cmdReject (src : CmdFrom) (bs : List Byte) (status cnt : Nat) (s : State) : State :=
  let s1 := bump cnt s
  let s2 := if cmdCritical bs then flagEvent Reg.SEC_EVT_STATUS 2 0x042 0 s1 else s1
  respond src (cmdOp bs) status (roundNow s) [] s2

/-! ## Where commands come from (R452, R461) -/

/-- The bytes the mailbox holds. -/
def mboxBytes (n : Nat) (s : State) : List Byte :=
  ((upto ((n + 3) / 4)).flatMap fun i => leBytes 4 (rd (Reg.SEC_MBOX_REQ i) s).toNat).take n

/-- A good UART frame: at most 4,098 bytes, with its CRC, high byte first. -/
def uartGood (bs : List Byte) : Bool :=
  decide (2 ≤ bs.length ∧ bs.length ≤ 4098) && decide (crc16 (bs.take (bs.length - 2)) = beNat (bs.drop (bs.length - 2)))

/-- The command that `src` hands over next: where from, its total length, its bytes; none where that source has none in turn. A command
over the UART is refused, and counted, while another is processed (handled by `cmdStart`). -/
def cmdNext (src : CmdSrc) (s : State) : Option (CmdFrom × Nat × List Byte) :=
  match src with
  | .mailbox =>
    if s.sec.waits.head? = some 0 then some ({ path := 0 }, s.sec.mboxLen, mboxBytes (max 32 (min s.sec.mboxLen 4096)) s) else none
  | .frame => match s.sec.waits.head?, s.sec.frames with
    | some 1, f :: _ =>
      let n := if f.2.2.length < 32 then f.2.2.length else min f.2.2.length (cmdTotal f.2.2)
      some ({ path := 1, mac := f.1, addr := f.2.1 }, n, f.2.2.take n)
    | _, _ => none
  | .uart bs => some ({ path := 2 }, bs.length - 2, bs.take (bs.length - 2))

/-- The source's command leaves it. -/
def cmdTaken (src : CmdSrc) (s : State) : State :=
  match src with
  | .mailbox => modSec (fun x => { x with waits := x.waits.drop 1 }) s
  | .frame => modSec (fun x => { x with waits := x.waits.drop 1, frames := x.frames.drop 1 }) s
  | .uart _ => s

/-- A command of a source is taken and passes steps 1 to 8, or is answered. `want` says which opcodes the row is for, given the total
length; `go` is what the row does with a command that passes. In Deep Standby only the UART works (R473). -/
def cmdStart (want : Nat → Nat → Bool) (go : CmdFrom → List Byte → State → State) (src : CmdSrc) (s : State) : State :=
  let deep := decide (fld Reg.PWR_STATUS 1 0 s = 3)
  match src with
  | .uart bs =>
    if s.sec.proc.isSome || !(s.sec.waits.isEmpty) || !(uartGood bs) then bump Reg.SEC_UART_ERR_CNT s
    else if want (bs.length - 2) (cmdOp (bs.take (bs.length - 2))) then
      (match cmdFails (bs.length - 2) (bs.take (bs.length - 2)) s with
       | some f => cmdReject { path := 2 } (bs.take (bs.length - 2)) f.1 f.2 s
       | none => go { path := 2 } (bs.take (bs.length - 2)) s)
    else s
  | _ =>
    if s.sec.proc.isSome || deep then s
    else match cmdNext src s with
      | none => s
      | some (f, n, bs) =>
        if want n (cmdOp bs) then
          (match cmdFails n bs s with
           | some e => cmdReject f bs e.1 e.2 (cmdTaken src s)
           | none => go f bs (cmdTaken src s))
        else s

/-- A row for one known opcode. -/
def forOp (op : Nat) (n o : Nat) : Bool := decide (32 ≤ n) && o == op

/-! ## Commands that execute at once without a tag (R459, R462) -/

/-- A non-critical command is accepted, and answers DONE with its data. -/
def cmdDone (f : CmdFrom) (bs data : List Byte) (s : State) : State :=
  respond f (cmdOp bs) 1 (roundNow s) data (bump Reg.SEC_CMD_OK_CNT s)

/-- The value a whole register of the module's own control blocks reads as in a snapshot. -/
def regNow (off : Nat) (s : State) : Nat :=
  match findReg off with
  | some (d, 0) => regView d off false s
  | _ => 0

/-- GET_STATUS. -/
def opGetStatus (src : CmdSrc) (s : State) : State :=
  cmdStart (forOp 1) (fun f bs t => cmdDone f bs
    (leBytes 4 (regNow Reg.DEV_STATUS t) ++ leBytes 4 (regNow Reg.SEC_BOOT_STATUS t) ++ leBytes 4 (regNow Reg.SEC_FUSE_POLICY t) ++
      leBytes 4 (regNow Reg.ROUND_STATUS t) ++ leBytes 8 (roundNow t)) t) src s

/-- The words READ_REGS answers with. -/
def readWords : List Nat → State → List Byte × State
  | [], s => ([], s)
  | off :: t, s =>
    let x := secRead off s
    let r := readWords t x.2
    (leBytes 4 (x.1.getD 0xFFFFFFFF) ++ r.1, r.2)

/-- READ_REGS. -/
def opReadRegs (src : CmdSrc) (s : State) : State :=
  cmdStart (forOp 2) (fun f bs t =>
    let p := cmdPayload bs
    let x := readWords ((upto (p.length / 4)).map fun i => leAt p (4 * i) 4) t
    cmdDone f bs x.1 x.2) src s

/-- GET_COUNTER. -/
def opGetCounter (src : CmdSrc) (s : State) : State :=
  cmdStart (forOp 3) (fun f bs t => cmdDone f bs (leBytes 8 (keyCounter (leAt (cmdPayload bs) 0 4) t)) t) src s

/-- The attestation seed and report (R462). -/
def attestSeed (s : State) : List Byte := kmac s.sec.kDev (ascii "ATTEST") 256 "CALYMIN-KDF"
def attestReport (nonce : List Byte) (s : State) : List Byte :=
  leBytes 4 (rd Reg.DEV_ID s).toNat ++ leBytes 4 0 ++ leBytes 8 (rd Reg.SEC_SERIAL s).toNat ++ leBytes 32 (leNat s.sec.imageM) ++
  leBytes 8 (leNat s.sec.buildId) ++ leBytes 1 (match s.sec.running with | some k => k | none => 0xFF) ++ leBytes 1 (imageSvn s) ++
  leBytes 1 (svnFused s) ++ leBytes 1 (fld Reg.SEC_IMAGE_INFO 13 12 s) ++ leBytes 4 (regNow Reg.SEC_BOOT_STATUS s) ++ leBytes 8 (roundNow s) ++
  leBytes 8 (todSec s.tod) ++ leBytes 4 (todNs s.tod) ++ leBytes 32 (leNat nonce) ++ leBytes 12 0

/-- Bytes made `n` long. -/
def fitBytes (n : Nat) (bs : List Byte) : List Byte := (bs ++ List.replicate n 0).take n

/-- ATTEST. -/
def opAttest (src : CmdSrc) (s : State) : State :=
  cmdStart (forOp 4) (fun f bs t =>
    let r := attestReport (cmdPayload bs) t
    cmdDone f bs (r ++ fitBytes 2420 (Config.mldsaSign (attestSeed t) (sha3 r) "CALYMIN-ATTEST")) t) src s

/-- GET_ATTEST_KEY. -/
def opGetAttestKey (src : CmdSrc) (s : State) : State :=
  cmdStart (forOp 5) (fun f bs t => cmdDone f bs (fitBytes 1312 (Config.mldsaPublic (attestSeed t))) t) src s

/-- GET_ATTEST_CERT: the read of the certificate area starts. -/
def opGetAttestCert (src : CmdSrc) (s : State) : State :=
  cmdStart (forOp 6) (fun f bs t => bump Reg.SEC_CMD_OK_CNT (modSec (fun x => { x with proc := some ⟨1, f, bs, none⟩ }) t)) src s

/-- CERT_READ_DONE: the flash is free of other operations and the bytes are read. -/
def opCertReadDone (s : State) : State :=
  match s.sec.proc with
  | some c =>
    if c.kind = 1 ∧ s.sec.bootWrite = none then
      let p := cmdPayload c.bytes
      respond c.src (cmdOp c.bytes) 1 (roundNow s) (norRead (0x20000 + leAt p 0 4) (leAt p 4 4) s) (modSec (fun x => { x with proc := none }) s)
    else s
  | none => s

/-- BAD_OPCODE: an unknown opcode, or a command too short for a header. -/
def opBadOpcode (src : CmdSrc) (s : State) : State :=
  cmdStart (fun n o => decide (n < 32) || !(cmdKnown o)) (fun _ _ t => t) src s

/-! ## Critical commands up to step 9 (R455, R456) -/

/-- A critical command passes steps 1 to 8: its journal record is being written. -/
def toJournal (f : CmdFrom) (bs : List Byte) (s : State) : State :=
  modSec (fun x => { x with proc := some ⟨0, f, bs, (resolveTarget (cmdOp bs) (cmdTarget bs) s).getD none⟩ }) s

def opWriteRegs (src : CmdSrc) (s : State) : State := cmdStart (forOp 0x8001) toJournal src s
def opSwitchImage (src : CmdSrc) (s : State) : State := cmdStart (forOp 0x8002) toJournal src s
def opWriteImage (src : CmdSrc) (s : State) : State := cmdStart (forOp 0x8003) toJournal src s
def opKeyRevoke (src : CmdSrc) (s : State) : State := cmdStart (forOp 0x8004) toJournal src s
def opSlotRevoke (src : CmdSrc) (s : State) : State := cmdStart (forOp 0x8005) toJournal src s
def opSvnAdvance (src : CmdSrc) (s : State) : State := cmdStart (forOp 0x8006) toJournal src s
def opPower (src : CmdSrc) (s : State) : State := cmdStart (forOp 0x8007) toJournal src s
def opReplayEnter (src : CmdSrc) (s : State) : State := cmdStart (forOp 0x8008) toJournal src s
def opReplayExit (src : CmdSrc) (s : State) : State := cmdStart (forOp 0x8009) toJournal src s
def opReset (src : CmdSrc) (s : State) : State := cmdStart (forOp 0x800A) toJournal src s

/-! ## Accepted commands (R458) -/

/-- Change accepted command `no`. -/
def modCmd (no : Nat) (f : SecCmd → SecCmd) (s : State) : State :=
  modSec (fun x => { x with cmds := x.cmds.map fun c => if c.no = no then f c else c }) s

/-- The command ends with a status: SEC_LAST_CMD and SEC_CMD_DONE. -/
def cmdEnd (path op status round : Nat) (s : State) : State :=
  flagEvent Reg.SEC_EVT_STATUS 3 0x043 0
    (wr Reg.SEC_LAST_CMD (dw (status * 2 ^ 56 + op * 2 ^ 40 + path * 2 ^ 32 + round % 2 ^ 32)) s)

/-- The packets of command `no`. -/
def useCmd (no : Nat) : Nat := 100 + no

/-- Writes of command `no` that no block has accepted yet. -/
def cmdUnaccepted (no : Nat) (s : State) : Bool :=
  s.noc.txns.any fun t => decide (t.agent = .sec) && t.use == useCmd no && t.ans.isNone && !t.late &&
    (match t.stage with | .accepted => false | .served => false | .lost => false | _ => true)

/-- A command whose commit has passed and whose writes are answered ends. -/
def cmdFinish (no : Nat) (s : State) : State :=
  match s.sec.cmds.find? (·.no == no) with
  | none => s
  | some c =>
    if c.applied && !(unanswered .sec (useCmd no) s) && (waitingAns .sec (useCmd no) s).isNone &&
        !(match s.sec.bootWrite with | some b => b.2 == no | none => false) then
      cmdEnd c.path (cmdOp c.bytes) (if c.err then 0x20 else if c.split then 0x21 else 1) c.round
        (modSec (fun x => { x with cmds := x.cmds.filter (·.no ≠ no) }) s)
    else s

/-- The writes of a WRITE_REGS command are issued, in order. -/
def cmdIssue (no : Nat) (s : State) : State :=
  match s.sec.cmds.find? (·.no == no) with
  | none => s
  | some c =>
    if c.issued then s
    else
      let p := if cmdOp c.bytes = 0x8001 then cmdPayload c.bytes else []
      forEach (upto (p.length / 8))
        (fun i t => send .sec (useCmd no) 0 (0x40000000 + leAt p (8 * i) 4) (.write (sliceOf p (8 * i + 4) 4)) false false t)
        (modCmd no (fun x => { x with issued := true }) s)

/-- The number the next Round gets (R50, R53). -/
def nextRound (s : State) : Nat := if s.round.skippedTo = 0 then roundNow s + 1 else s.round.skippedTo

/-- COMMAND_EXECUTION_START: outside the commit window of the Round before the target, the first command due has its writes issued. -/
def opCommandExecutionStart (s : State) : State :=
  if targetsRun s && !(windowOpen s) then
    match s.sec.cmds.find? (fun c => !c.issued && (match c.target with | some r => decide (r ≤ nextRound s) | none => false)) with
    | some c => cmdIssue c.no s
    | none => s
  else s

/-- COMMAND_WRITE_ANSWER: an answer to a write of command `no` arrives. -/
def opCommandWriteAnswer (no : Nat) (s : State) : State :=
  match waitingAns .sec (useCmd no) s with
  | none => s
  | some (t, code, _) =>
    let s1 := takeAns t.id s
    cmdFinish no (if code = 0 then s1 else modCmd no (fun x => { x with err := true }) (bump Reg.SEC_EXEC_ERR_CNT s1))

/-! ## Meanings of the commands -/

/-- GET_STATUS (R459). -/
def execGetStatus (src : CmdSrc) (s : State) : Host.Outcome State Fault Refusal := .next (gated true true (opGetStatus src) s)
/-- READ_REGS (R459). -/
def execReadRegs (src : CmdSrc) (s : State) : Host.Outcome State Fault Refusal := .next (gated true true (opReadRegs src) s)
/-- GET_COUNTER (R459). -/
def execGetCounter (src : CmdSrc) (s : State) : Host.Outcome State Fault Refusal := .next (gated true true (opGetCounter src) s)
/-- ATTEST (R462). -/
def execAttest (src : CmdSrc) (s : State) : Host.Outcome State Fault Refusal := .next (gated true true (opAttest src) s)
/-- GET_ATTEST_KEY (R459). -/
def execGetAttestKey (src : CmdSrc) (s : State) : Host.Outcome State Fault Refusal := .next (gated true true (opGetAttestKey src) s)
/-- GET_ATTEST_CERT (R459). -/
def execGetAttestCert (src : CmdSrc) (s : State) : Host.Outcome State Fault Refusal := .next (gated true true (opGetAttestCert src) s)
/-- CERT_READ_DONE (R459). -/
def execCertReadDone (s : State) : Host.Outcome State Fault Refusal := .next (gated true true opCertReadDone s)
/-- WRITE_REGS (R459). -/
def execWriteRegs (src : CmdSrc) (s : State) : Host.Outcome State Fault Refusal := .next (gated true true (opWriteRegs src) s)
/-- SWITCH_IMAGE (R460). -/
def execSwitchImage (src : CmdSrc) (s : State) : Host.Outcome State Fault Refusal := .next (gated true true (opSwitchImage src) s)
/-- WRITE_IMAGE (R459). -/
def execWriteImage (src : CmdSrc) (s : State) : Host.Outcome State Fault Refusal := .next (gated true true (opWriteImage src) s)
/-- KEY_REVOKE (R459). -/
def execKeyRevoke (src : CmdSrc) (s : State) : Host.Outcome State Fault Refusal := .next (gated true true (opKeyRevoke src) s)
/-- SLOT_REVOKE (R459). -/
def execSlotRevoke (src : CmdSrc) (s : State) : Host.Outcome State Fault Refusal := .next (gated true true (opSlotRevoke src) s)
/-- SVN_ADVANCE (R459). -/
def execSvnAdvance (src : CmdSrc) (s : State) : Host.Outcome State Fault Refusal := .next (gated true true (opSvnAdvance src) s)
/-- POWER (R469). -/
def execPower (src : CmdSrc) (s : State) : Host.Outcome State Fault Refusal := .next (gated true true (opPower src) s)
/-- REPLAY_ENTER (R518). -/
def execReplayEnter (src : CmdSrc) (s : State) : Host.Outcome State Fault Refusal := .next (gated true true (opReplayEnter src) s)
/-- REPLAY_EXIT (R522). -/
def execReplayExit (src : CmdSrc) (s : State) : Host.Outcome State Fault Refusal := .next (gated true true (opReplayExit src) s)
/-- RESET (R460). -/
def execReset (src : CmdSrc) (s : State) : Host.Outcome State Fault Refusal := .next (gated true true (opReset src) s)
/-- COMMAND_EXECUTION_START (R458). -/
def execCommandExecutionStart (s : State) : Host.Outcome State Fault Refusal := .next (gated true true opCommandExecutionStart s)
/-- COMMAND_WRITE_ANSWER (R458). -/
def execCommandWriteAnswer (no : Nat) (s : State) : Host.Outcome State Fault Refusal := .next (gated true true (opCommandWriteAnswer no) s)
/-- BAD_OPCODE (R455). -/
def execBadOpcode (src : CmdSrc) (s : State) : Host.Outcome State Fault Refusal := .next (gated true true (opBadOpcode src) s)

end Sys2Proof.Machine
end

