-- ==== Sys2Proof/Machine/Power.lean ====
section
/-! DEFINITION. Supply, device states, power domains, shedding and hot plug (R466 to R490, R495): the PWR unit. -/
namespace Sys2Proof.Machine

/-- Change the PWR unit's own state. -/
def modPwr (f : Pwr → Pwr) (s : State) : State := { s with pwr := f s.pwr }

/-- An event of the PWR unit (R496). -/
def pwrEvent (bit : Nat) (s : State) : State := flagEvent Reg.PWR_EVT_STATUS bit (0x060 + bit) 0 s

/-- DEV_STATUS.FAULT and the FAULT output follow PWR_FAULT and RECOVERY (R485). -/
def faultSync (s : State) : State :=
  setFld Reg.DEV_STATUS 3 3 (b2n (decide (rd Reg.PWR_FAULT s ≠ 0) || recovering s)) s

/-- A PWR_FAULT bit is set, and its condition lasts. -/
def pwrFault (bit : Nat) (s : State) : State :=
  faultSync (setFlag Reg.PWR_FAULT bit (modPwr (fun x => { x with conds := x.conds ||| 2 ^ bit }) s))

/-- PWR_STATUS.DEV_STATE (R468): 0 Full, 1 Capped, 2 Standby, 3 Deep Standby. -/
def devState (s : State) : Nat := fld Reg.PWR_STATUS 1 0 s
def setDevState (n : Nat) (s : State) : State := if devState s = n then s else pwrEvent 5 (setFld Reg.PWR_STATUS 1 0 n s)

/-! ## Resets (R442, R468, R477, R489) -/

/-- Bytes of memory kept of a cell list: the Cold Room, and DRAM where asked. -/
def keepCells (cold dram : Bool) (l : List Host.Cell) : List Host.Cell :=
  l.filter fun c => (cold && decide (0x20000000 ≤ c.1 ∧ c.1 < 0x20040000)) || (dram && inDram c.1)

/-- The machine after a reset of any kind: fuses, flash, straps and the plug stages stay; registers that the COMPAT strap sets read it (R17, R59). -/
def resetKeeping (cold dram : Bool) (s : State) : State :=
  let z : State := { State.reset with
    mem := { cells := keepCells cold dram s.mem.cells, poison := s.mem.poison.filter fun w => (cold && decide (0x20000000 ≤ w ∧ w < 0x20040000)) || (dram && inDram w) }
    sec := { State.reset.sec with
      counters := if cold then s.sec.counters else []
      coldValid := cold && s.sec.coldValid
      nor := s.sec.nor, journalBase := s.sec.journalBase, journalPos := s.sec.journalPos
      kDev := s.sec.kDev, keyHash := s.sec.keyHash, strap := s.sec.strap }
    pwr := { State.reset.pwr with plug := s.pwr.plug, present := s.pwr.present, trip := s.pwr.trip }
    free := s.free
    pending := s.pending }
  let z1 := wr Reg.SEC_SERIAL (rd Reg.SEC_SERIAL s) (wr Reg.SEC_FUSE_POLICY (rd Reg.SEC_FUSE_POLICY s) z)
  if s.sec.strap then wr Reg.ROUND_CFG 4 (wr Reg.DEV_CTRL 1 (setFld Reg.DEV_STATUS 1 0 3 z1)) else z1

/-- A restart by command (R442): the Cold Room, the time of day with TIME_INC and VALID, the PCI Express link and configuration stay. Replay keeps
DRAM as well (R518, R522). `cause` is SEC_RESET_CAUSE. -/
def restart (cause : Nat) (dram : Bool) (s : State) : State :=
  let z := resetKeeping true dram s
  let z1 := wr Reg.TIME_INC (rd Reg.TIME_INC s) { z with tod := s.tod, sec := { z.sec with bme := s.sec.bme }, pwr := { z.pwr with eject := if s.pwr.eject = 2 ∨ s.pwr.eject = 3 then 4 else s.pwr.eject } }
  let z2 := setFld Reg.TIME_STATUS 0 0 (fld Reg.TIME_STATUS 0 0 s) (setFld Reg.TIME_CTRL 0 0 (fld Reg.TIME_CTRL 0 0 s) z1)
  wr Reg.SEC_RESET_CAUSE (dw cause) (wr Reg.PCIE_LINK_STATUS (rd Reg.PCIE_LINK_STATUS s) z2)

/-- A reset as at power-on, the Cold Room kept or lost; `exit` is PWR_STATUS.LAST_EXIT. -/
def powerOn (cold : Bool) (exit : Nat) (s : State) : State :=
  setFld Reg.PWR_STATUS 18 16 exit (resetKeeping cold false s)

/-- The module holds itself in reset, at stage `plug` of R488, its Cold Room lost with the input. -/
def holdReset (plug : Nat) (s : State) : State :=
  let z := resetKeeping false false s
  { z with pwr := { z.pwr with plug := plug, present := false } }

/-- Deep Standby (R477): only the Cold Room and the PWR, SEC, HKC and TIME units keep their state. -/
def enterDeep (s : State) : State :=
  let kept := fun (o : Nat) => decide (0x600000 ≤ o ∧ o < 0x700000) || decide (0x900000 ≤ o ∧ o < 0xC00000) || decide (o = Reg.DEV_STATUS) || decide (o = Reg.DEV_CTRL)
  let z := resetKeeping true false s
  setDevState 3 { z with
    csr := { z.csr with live := s.csr.live.filter fun r => kept r.1, snap := s.csr.snap.filter fun r => kept r.1, snapSeq := s.csr.snapSeq },
    evt := s.evt, time := s.time, hkc := s.hkc, sec := { s.sec with bme := false, frames := [], waits := s.sec.waits.filter (· ≠ 1) },
    pwr := { s.pwr with phase := 0, target := 0, wasHalted := [] }, tod := s.tod }

/-! ## Saving and restoring an engine (R480, R481) -/

/-- The save area of engine `n`. -/
def saveBase (n : Nat) : Nat := 0x20000000 + n * 0x100

/-- The bytes saved for an engine in the Round given. -/
def saveArea (e : Engine) (round : Nat) : List Byte :=
  ((upto 32).flatMap fun r => leBytes 4 (tabGet (fun _ => 0) e.g (gKey 0 r)).toNat) ++
  ((upto 8).flatMap fun a =>
    let x := tabGet (fun _ => ({} : Accum)) e.acc (aKey 0 a)
    leBytes 5 x.re.toNat ++ leBytes 5 x.im.toNat) ++
  leBytes 4 e.pc ++ leBytes 4 e.st0.toNat ++ leBytes 4 0 ++ leBytes 4 (e.vcnt + 256 * e.vfmt + 65536 * e.vpos) ++ leBytes 8 round ++
  leBytes 4 1 ++ leBytes 20 0

/-- An engine restored from its save area: what is not saved reads zero; ST of bank 1 is open (log 6), within its fields. -/
def restored (e : Engine) (bs : List Byte) (mode : EngMode) (open1 : DWord) : Engine :=
  { e with
    g := (upto 32).foldl (fun t r => tabSet (fun _ => 0) t (gKey 0 r) (BitVec.ofNat 32 (leAt bs (4 * r) 4))) []
    acc := (upto 8).foldl (fun t a => tabSet (fun _ => ({} : Accum)) t (aKey 0 a)
      { re := BitVec.ofNat 40 (leAt bs (128 + 10 * a) 5), im := BitVec.ofNat 40 (leAt bs (133 + 10 * a) 5) }) []
    pc := leAt bs 208 4 / 4 * 4, bank := 0, st0 := BitVec.ofNat 32 (leAt bs 212 4)
    st1 := BitVec.ofNat 32 (open1.toNat % 64 + 0x80000000)
    rs0 := 0, rs1 := 0, vcnt := leAt bs 220 4 % 128, vfmt := bitsOf (leAt bs 220 4) 12 8, vpos := bitsOf (leAt bs 220 4) 21 16
    v := [], p := [], vpwr := 2, mode := mode, wait := .none, step := false, rptEnd := false }

/-! ## Wakes (R471, R479, R482 to R486) -/

/-- The domain of the main PLLs, woken on leaving Standby. -/
def devDom : Nat := 640

/-- KIND and INDEX of a domain in PWR_WAKE_SOURCE. -/
def domKind (d : Nat) : Nat × Nat :=
  if d < 512 then (0, d) else if d < 544 then (1, d - 512) else if d < 612 then (2, d - 544) else if d < 640 then (3, d - 612) else (4, 0)

/-- PWR_WAKE_SOURCE records a wake (R486). -/
def noteWake (d code round : Nat) (s : State) : State :=
  wr Reg.PWR_WAKE_SOURCE (dw (round % 2 ^ 32 * 2 ^ 32 + code * 2 ^ 24 + (domKind d).1 * 65536 + (domKind d).2)) s

/-- A range of memory is cleared to zero: it then holds the value of unlisted bytes. -/
def memClear (a n : Nat) (s : State) : State :=
  let out := fun (x : Nat) => decide (x < a) || decide (a + n ≤ x)
  { s with mem := { cells := s.mem.cells.filter fun c => out c.1, poison := s.mem.poison.filter out } }

/-- Registers of a block return to their reset values. -/
def clearBlock (lo hi : Nat) (s : State) : State :=
  { s with csr := { s.csr with live := s.csr.live.filter fun r => decide (r.1 < lo) || decide (hi ≤ r.1) } }

/-- An engine that wakes from OFF (R479): memories cleared, reset with HALT 1. -/
def engineFromOff (n : Nat) (s : State) : State :=
  engineReset n (modEng n (fun e => { e with resetPend := false, kill := 0 }) (setFlag (Reg.ENG_CTRL n) 0 (memClear (n * 0x40000) 0x40000 s)))

/-- An engine that leaves DOZE (R480, R481): restored, or reset where its save area is uncorrectable or not valid. -/
def engineFromDoze (n : Nat) (ecc : Ecc) (code : Nat) (s : State) : State :=
  let a := saveBase n
  match eccFinds ecc a 256 s with
  | .uncorrectable => engineFromOff n (pwrEvent 0 (bump Reg.PWR_CR_UNCORR_CNT (noteEccAt .uncorrectable a s)))
  | found =>
    let s1 := if found = .corrected then memCorr a s else s
    if memNat (a + 232) 4 s1 ≠ 1 then engineFromOff n (pwrEvent 0 (bump Reg.PWR_WAKE_FAIL_CNT s1))
    else
      let mode := if code = 5 ∧ flagOn (Reg.ENG_CTRL n) 0 s1 = true then EngMode.halted else .run
      drawn (memWrite (a + 232) (leBytes 4 0) (modEng n (fun e => restored e (memRead a 256 s1) mode (freeNow 0 s1)) s1))

/-- What waking does to engine `n`. -/
def engineAwake (n : Nat) (ecc : Ecc) (s : State) : State :=
  let code := (dom (engDom n) s).code
  let s1 := match (eng n s).mode with
    | .doze => engineFromDoze n ecc code s
    | .off => engineFromOff n s
    | _ => modEng n (fun e => { e with mode := if code = 5 && flagOn (Reg.ENG_CTRL n) 0 s then .halted else .run, wait := .none }) s
  if (eng n s1).resetPend then engineReset n (modEng n (fun e => { e with resetPend := false }) s1) else s1

/-- An I/O domain that was OFF keeps its configuration registers only, the committed fields (R471), and CEIL of a lane, which only CLR_CEIL or a
reset of the module clears (R349). The rest of its registers and the work of its MACs and channels start anew. -/
def ioForgets (i : Nat) (s : State) : State :=
  let mine := fun (o : Nat) => addrDom (0x40000000 + o) == some (ioDom i)
  let kept := fun (o : Nat) =>
    match findReg o with
    | none => 0
    | some (c, _) => (c.rw &&& c.cm) ||| (if (upto 32).any fun l => Reg.LANE_STATUS l == o then 0x1C000 else 0)
  let left := fun (r : Nat × DWord) => if mine r.1 then (r.2 &&& dw (kept r.1)) ||| (resetOf r.1 &&& ~~~(dw (kept r.1))) else r.2
  { s with
    csr := { s.csr with
      live := (s.csr.live.map fun r => (r.1, left r)).filter fun r => r.2 != resetOf r.1
      snap := s.csr.snap.filter fun r => !(mine r.1) }
    mac := s.mac.filter fun x => !(if x.1 = 16 then i == 10 else x.1 / 2 == i && decide (i < 8))
    cfa := { s.cfa with chans := s.cfa.chans.filter fun x => x.1 / 512 + 8 != i } }

/-- Ports and lanes of a quad, pairs of the Line Port, start again (R484); `s0` is the state before the domain returned. -/
def ioAwake (i : Nat) (s0 s : State) : State :=
  if i < 8 then
    forEach (upto 4) (fun l t => laneApplied (4 * i + l) s0 t) (forEach (upto 2) (fun m t => portStart (2 * i + m) t) s)
  else if i = 10 then lineCommit s0 s else s

/-- PHYS of a cluster's engines names the positions that serve them, a spare's included, whatever clears their control blocks (R104). -/
def physKept (d : Nat) (s0 s : State) : State :=
  forEach (upto 16) (fun i t =>
    setFld (Reg.ENG_STATUS (16 * (d - 512) + i)) 20 16 (fld (Reg.ENG_STATUS (16 * (d - 512) + i)) 20 16 s0) t) s

/-- What waking does to domain `d`, which was in state `was`. -/
def domAwake (d : Nat) (was : EngMode) (ecc : Ecc) (s : State) : State :=
  if d < 512 then engineAwake d ecc s
  else
    let s1 := modDom d (fun x => { x with st := .run }) s
    if d < 544 then
      (if was = .off then
        { memClear (0x10000000 + (d - 512) * 0x100000) 0x100000
            (physKept d s <| clearBlock (0x310000 + (d - 512) * 0x1000) (0x311000 + (d - 512) * 0x1000)
              (clearBlock (0x2000000 + (d - 512) * 0x10000) (0x2010000 + (d - 512) * 0x10000) s1)) with
          dma := tabSet (fun _ => ({} : DmaEng)) s1.dma (d - 512) {} }
       else s1)
    else if d < 612 then
      (if was = .off then
        (let k := d - 544
         let phys := accPhys k s1
         setFld (Reg.ACC_ID k) 6 0 phys (clearBlock (0x1000000 + k * 0x10000) (0x1010000 + k * 0x10000) s1))
       else s1)
    else if d < 640 then ioAwake (d - 612) s (if was = .off then ioForgets (d - 612) s1 else s1)
    else s1

/-- Leaving Standby: the PLLs lock, DRAM leaves self-refresh, and each domain whose requests allow it wakes (R473). -/
def standbyLeft (s : State) : State :=
  let s1 := forEach (upto 4) (fun ch t => if fld (Reg.DRAM_STATUS ch) 1 0 t = 1 then setFld (Reg.DRAM_STATUS ch) 1 0 0 t else t) s
  let s2 := forEach (upto 32) (fun c t => if fld (Reg.PWR_CLU_REQ c) 2 0 t ∈ [2, 3, 4] then t else startWake (cluDom c) 5 t) s1
  let s3 := forEach (upto 68) (fun k t =>
    if k < 64 ∧ (fld (Reg.PWR_ACC_REQ k) 2 0 t = 2 ∨ fld (Reg.PWR_ACC_REQ k) 2 0 t = 4) then t else startWake (accDom k) 5 t) s2
  let s4 := forEach (upto 11) (fun i t => if flagOn Reg.PWR_IO_REQ i t then t else startWake (ioDom i) 5 t) s3
  let s5 := forEach (upto 512) (fun n t =>
    let t1 := setFld (Reg.ENG_CTRL n) 0 0 (b2n (s.pwr.wasHalted.contains n)) t
    if (eng n t1).mode = .doze then startWake (engDom n) 5 t1 else t1) s4
  setDevState (if fld Reg.PWR_STATUS 10 8 s5 = 0 then 0 else 1) (modPwr (fun x => { x with wasHalted := [], conds := x.conds - (x.conds &&& 1) }) s5)

/-- DOMAIN_WAKE_DONE: domain `d` is awake; `ecc` is what reading a save area finds. Its held packets are delivered. -/
def opDomainWakeDone (d : Nat) (ecc : Ecc) (s : State) : State :=
  let x := dom d s
  if x.waking = true ∧ x.down = false then
    let was := domState d s
    let s1 := setDom d { x with waking := false, tries := 0, code := 0, codeRound := 0 } (noteWake d x.code x.codeRound (domAwake d was ecc s))
    let s2 := if 512 ≤ d then modDom d (fun y => { y with st := .run }) s1 else s1
    releaseSlots d true (if d = devDom then standbyLeft s2 else s2)
  else s

/-- A mark for a swap of the domain's resource is dropped: the wake failure takes its place (R508). -/
def dropMark (d : Nat) (s : State) : State :=
  let hit := fun (m : Mark) => (decide (d < 512) && m.kind == 1 && m.index == d) || (decide (544 ≤ d) && m.kind == 2 && m.index == d - 544)
  { s with spare := { s.spare with marks := s.spare.marks.filter fun m => !(hit m) } }

/-- A wake has failed (R485). -/
def wakeFail (d : Nat) (s : State) : State :=
  let s1 := pwrEvent 0 (bump Reg.PWR_WAKE_FAIL_CNT (modDom d (fun x => { x with waking := false, down := false, tries := 0, failed := true }) s))
  let s2 := dropMark d (releaseSlots d false s1)
  if d < 512 then addMark 1 d 7 false s2
  else if d < 544 then addMark 4 (d - 512) 7 false (pwrFault 1 s2)
  else if d < 612 then addMark 2 (d - 544) 7 false s2
  else if d < 640 then pwrFault 3 s2
  else pwrFault 0 (modDom d (fun x => { x with failed := false }) s2)

/-- WAKE_TIMEOUT: a regulator or PLL of domain `d` is not good in time. -/
def opWakeTimeout (d : Nat) (s : State) : State :=
  let x := dom d s
  if x.waking = true ∧ x.down = false then
    (if x.tries < 3 then bump Reg.PWR_WAKE_RETRY_CNT (setDom d { x with tries := x.tries + 1, down := true } s) else wakeFail d s)
  else s

/-- WAKE_RETRY: 100 µs after a timeout. -/
def opWakeRetry (d : Nat) (s : State) : State :=
  if (dom d s).waking = true ∧ (dom d s).down = true then modDom d (fun x => { x with down := false }) s else s

/-! ## Fences (R487) -/

/-- Agents whose requests belong to a domain. -/
def agentDom (a : Agent) : Option Nat :=
  match a with
  | .eng n => some (engDom n)
  | .dma e _ => if e < 32 then some (cluDom e) else none
  | .coll c => some (cluDom c)
  | .acc k => some (accDom k)
  | .cfa ch => some (ioDom (8 + ch / 512))
  | .mac m => some (ioDom (if m = 16 then 10 else m / 2))
  | .fhg m => some (ioDom (m / 2))
  | .lane l => some (ioDom (l / 4))
  | .lineport => some (ioDom 10)
  | _ => none

/-- Has domain `d` answered every request it accepted, and got an answer to every request it issued? -/
def domQuiet (d : Nat) (s : State) : Bool :=
  !(s.noc.txns.any fun t =>
    (decide (t.stage = .accepted) && decide (packetDom t.body t.addr = some d)) ||
    (decide (agentDom t.agent = some d) && !t.posted && t.ans.isNone && !t.late))

/-- The domain's power or clock is removed: the save is written where one applies, and a wake source held meanwhile acts. -/
def fenceDone (d : Nat) (s : State) : State :=
  match (dom d s).entering with
  | none => s
  | some m =>
    let s1 := if d < 512 ∧ m = .doze ∧ (eng d s).mode ≠ .doze then memWrite (saveBase d) (saveArea (eng d s) (roundNow s)) s else s
    let s2 := if d < 512 then modEng d (fun e => { e with mode := m, wait := .none }) s1 else s1
    let held := (dom d s).held
    let s3 := modDom d (fun x => { x with
      st := if 512 ≤ d then m else x.st, entering := none, fenced := false, held := none, pending := false }) s2
    match held with
    | none => s3
    | some c => startWake d c s3

/-- FENCE_DRAINED. -/
def opFenceDrained (d : Nat) (s : State) : State :=
  if (dom d s).entering.isSome && domQuiet d s && !(decide (d < 512) && engCopying d s && decide ((dom d s).entering = some (eng d s).mode)) then fenceDone d s else s

/-! ## What a commit does to domains (R478, R482 to R484) -/

/-- How deep a state is. -/
def EngMode.depth : EngMode → Nat
  | .nap => 1 | .doze => 2 | .off => 3 | _ => 0

/-- Engines that wait for this commit enter their state, unless a wake condition holds (R478). -/
def engSleepCommit (s : State) : State :=
  forEach (s.eng.map (·.1)) (fun n t =>
    match (eng n t).wait with
    | .waitCommit code =>
      if wakeHolds n t then modEng n (fun e => { e with mode := .run, wait := .none }) t
      else enterSleep (engDom n) (sleepOf code) (modEng n (fun e => { e with wait := .none }) t)
    | _ => t) s

/-- The state a request register's code names; none for RUN. -/
def reqMode (v : Nat) (doze : Bool) : Option EngMode :=
  if v = 2 then some .nap else if v = 3 ∧ doze = true then some .doze else if v = 4 then some .off else none

/-- Is every engine of cluster `c` in IDLE or deeper, and every CDMA channel IDLE (R482)? -/
def clusterIdle (c : Nat) (s : State) : Bool :=
  ((upto 16).all fun i => match (eng (16 * c + i) s).mode with
    | .idle => true | .nap => true | .doze => true | .off => true | _ => false) &&
  (upto 8).all fun ch => dmaState c ch s == 0

/-- The cluster and its engines go to sleep. -/
def clusterSleep (c : Nat) (m : EngMode) (s : State) : State :=
  let s1 := forEach (upto 16) (fun i t =>
    if (eng (16 * c + i) t).mode.depth < m.depth then enterSleep (engDom (16 * c + i)) m (modEng (16 * c + i) (fun e => { e with wait := .none }) t) else t) s
  enterSleep (cluDom c) m s1

/-- A commit at the clusters: requests applied in it become pending or wake, and pending ones take effect where they may (R482). -/
def cluCommit (applied : List Nat) (s : State) : State :=
  forEach (upto 32) (fun c t =>
    let m := reqMode (fld (Reg.PWR_CLU_REQ c) 2 0 t) true
    let t1 := if applied.contains (Reg.PWR_CLU_REQ c) then
        (match m with
         | none => startWake (cluDom c) 5 (modDom (cluDom c) (fun x => { x with pending := false }) t)
         | some x => if (dom (cluDom c) t).st = x then t else modDom (cluDom c) (fun y => { y with pending := true }) t)
      else t
    match m with
    | some x => if (dom (cluDom c) t1).pending && clusterIdle c t1 then clusterSleep c x t1 else t1
    | none => t1) s

/-- Is accelerator slot `k` shed (R474)? -/
def accShed (k : Nat) (s : State) : Bool := decide (3 ≤ fld Reg.PWR_STATUS 10 8 s) && (rd Reg.PWR_SHED_ACC s).toNat.testBit k

/-- Has the unit an empty queue (R151)? -/
def accEmpty (k : Nat) (s : State) : Bool := (acc k s).jobs.isEmpty && (acc k s).attempts.isEmpty && (acc k s).refusals.isEmpty

/-- A commit at the accelerators (R151, R474, R483). -/
def accCommit (applied : List Nat) (s : State) : State :=
  forEach (upto 64) (fun k t =>
    let m := reqMode (fld (Reg.PWR_ACC_REQ k) 2 0 t) false
    let d := accDom k
    let t1 := if applied.contains (Reg.PWR_ACC_REQ k) then
        (match m with
         | none => if accShed k t then t else startWake d 5 (modDom d (fun x => { x with pending := false }) t)
         | some x => if (dom d t).st = x then t else modDom d (fun y => { y with pending := true }) t)
      else t
    let t2 := if (dom d t1).pending && accEmpty k t1 then (match m with | some x => enterSleep d x t1 | none => t1) else t1
    if accShed k t2 && accEmpty k t2 && decide ((dom d t2).st = .run) && (dom d t2).entering.isNone && !(dom d t2).waking then enterSleep d .nap t2 else t2) s

/-- A commit at the I/O domains (R484): a bit set takes the domain off, a bit cleared wakes it. -/
def ioCommit (applied : List Nat) (s : State) : State :=
  if applied.contains Reg.PWR_IO_REQ then
    forEach (upto 11) (fun i t =>
      if flagOn Reg.PWR_IO_REQ i t then
        (if (dom (ioDom i) t).st = .run ∧ (dom (ioDom i) t).entering = none then enterSleep (ioDom i) .off t else t)
      else if (dom (ioDom i) t).st = .off then startWake (ioDom i) 5 t else t) s
  else s

/-! ## Entering and leaving device states (R473) -/

/-- Step 1 of R473: RUN is cleared, and the Round runs in STOPPING or, in WAIT_TIME, the unit stops at once. Partners are told. -/
def stopRounds (s : State) : State :=
  let st := roundState s
  let s1 := setFld Reg.ROUND_CTRL 0 0 0 s
  if st = 1 then setFld Reg.ROUND_STATUS 2 0 0 s1
  else if 2 ≤ st ∧ st ≤ 4 then
    setFld Reg.ROUND_STATUS 2 0 5 { s1 with round := { s1.round with leftState := st } }
  else s1

/-- Every DMA channel is stopped as by DMA_CH_CTRL.STOP. -/
def stopDma (s : State) : State := forEach (upto 33) (fun e t => forEach (upto (dmaChans e)) (fun ch u => dmaStop e ch u) t) s

/-- Step 2: HALT is set in every engine, those halted before noted. -/
def haltEngines (s : State) : State :=
  let was := (upto 512).filter fun n => flagOn (Reg.ENG_CTRL n) 0 s
  forEach (upto 512) (fun n t => engCtrlWrite n 1 t) (modPwr (fun x => { x with phase := 2, wasHalted := was }) s)

/-- The sequence of R473 starts towards `target` (2 Standby, 3 Deep Standby) from step 1. -/
def standbyStart (target : Nat) (s : State) : State :=
  let s1 := modPwr (fun x => { x with target := target, phase := 1 }) (lineLeave (laneLeave (stopRounds s)))
  if roundState s1 = 0 then haltEngines s1 else s1

/-- The recorder freezes at step 3 (R534). -/
def recFreeze (s : State) : State :=
  if recOn s then flagEvent Reg.REC_EVT_STATUS 1 0x079 0 (setRecStatus 7 4 3 s) else s

/-- STANDBY_HALT_DONE: every engine is HALTED (or cannot be: FAULTED, or OFF); DMA is stopped. -/
def opStandbyHaltDone (s : State) : State :=
  if s.pwr.phase = 2 ∧ (upto 512).all (fun n => match (eng n s).mode with | .halted => true | .faulted => true | .off => true | _ => false) = true then
    modPwr (fun x => { x with phase := 3 }) (recFreeze (stopDma s))
  else s

/-- Step 4: every domain goes down, DRAM enters self-refresh, the time of day is no longer valid. -/
def domainsDown (s : State) : State :=
  let s1 := forEach (upto 512) (fun n t => if (eng n t).mode.depth < 2 then enterSleep (engDom n) .doze t else t) s
  let s2 := forEach (upto 32) (fun c t => if (dom (cluDom c) t).st.depth < 2 then enterSleep (cluDom c) .doze t else t) s1
  let s3 := forEach (upto 68) (fun k t => if (dom (accDom k) t).st = .off then t else enterSleep (accDom k) .off t) s2
  forEach (upto 11) (fun i t => if (dom (ioDom i) t).st = .off then t else enterSleep (ioDom i) .off t) s3

/-- DRAM in self-refresh (R473, R489). -/
def dramRest (s : State) : State :=
  forEach (upto 4) (fun ch t => if fld (Reg.DRAM_STATUS ch) 1 0 t = 0 then setFld (Reg.DRAM_STATUS ch) 1 0 1 t else t) s

/-- STANDBY_QUIET_DONE: every DMA engine is QUIET, every accelerator queue empty; the domains go down. -/
def opStandbyQuietDone (s : State) : State :=
  if s.pwr.phase = 3 ∧ (upto 33).all (fun e => flagOn (Reg.DMA_STATUS e) 16 s) = true ∧ (upto 68).all (fun k => accEmpty k s) = true then
    let s1 := domainsDown s
    modPwr (fun x => { x with phase := 4 }) (lineCommit s (laneCommit s s1))
  else s

/-- STANDBY_DOMAINS_DOWN: the last domain is down; the device is in Standby or goes on to Deep Standby. -/
def opStandbyDomainsDown (s : State) : State :=
  if s.pwr.phase = 4 ∧ (upto devDom).all (fun d => (dom d s).entering.isNone || domQuiet d s) = true then
    let s1 := forEach (upto devDom) (fun d t => fenceDone d t) s
    let s2 := timeValid false (dramRest s1)
    if s.pwr.target = 3 then enterDeep s2
    else setDevState 2 (modDom devDom (fun x => { x with st := .off }) (modPwr (fun x => { x with phase := 0, target := 0 }) s2))
  else s

/-- A POWER command takes effect (R469, R473): STATE and a new PWR_CAP. -/
def powerCommand (p : List Byte) (s : State) : State :=
  let cap := leAt p 4 4
  let s1 := if cap = 0xFFFFFFFF then s else wr Reg.PWR_CAP (dw cap) s
  match leAt p 0 1, devState s1 with
  | 0, 2 => startWake devDom 5 s1
  | 0, 3 => noteWake devDom 6 0 (powerOn true (if flagOn Reg.PWR_FAULT 4 s1 then 2 else 1) s1)
  | 1, 0 => standbyStart 2 s1
  | 1, 1 => standbyStart 2 s1
  | 2, 0 => standbyStart 3 s1
  | 2, 1 => standbyStart 3 s1
  | 2, 2 => enterDeep s1
  | _, _ => s1

/-! ## Shedding (R474, R475) -/

/-- The shedding level changes: DEV_STATE between Full and Capped, accelerators that leave the shed, the PCI Express generation. -/
def setLevel (n : Nat) (s : State) : State :=
  let old := fld Reg.PWR_STATUS 10 8 s
  let s1 := setFld Reg.PWR_STATUS 10 8 n s
  let s2 := if devState s1 ≤ 1 then setDevState (if n = 0 then 0 else 1) s1 else s1
  let s3 := if 3 ≤ old ∧ n < 3 then
      forEach (upto 64) (fun k t => if (rd Reg.PWR_SHED_ACC t).toNat.testBit k ∧ fld (Reg.PWR_ACC_REQ k) 2 0 t = 0 then startWake (accDom k) 5 t else t) s2
    else s2
  if n = 4 then setFld Reg.PCIE_LINK_STATUS 2 0 (min (fld Reg.PCIE_LINK_STATUS 2 0 s3) (max 1 (fld Reg.PWR_SHED_CFG 10 8 s3))) s3 else s3

/-- The shedding decision on the mean power and voltage of the interval and the hottest diode (°C). In Replay only temperature acts (R530). -/
def shedDecide (power volt : Nat) (temp : Int) (s0 : State) : State :=
  let hot := decide (Int.ofNat (min 105 (fld Reg.PWR_THERM 7 0 s0)) ≤ temp)
  let s := modPwr (fun x => { x with hot := x.hot && hot }) (wr Reg.PWR_INPUT (dw (volt % 65536 * 65536 + power % 65536)) s0)
  let limit := fld Reg.PWR_CAP 15 0 s
  let level := fld Reg.PWR_STATUS 10 8 s
  let restore := max 1 (fld Reg.PWR_CAP 30 24 s)
  let excess := decide (limit < power) && !(inReplay s)
  let under := decide (power + 4 * fld Reg.PWR_CAP 23 16 s < limit) || inReplay s
  if limit = 0 then modPwr (fun x => { x with below := 0, at4 := 0 }) (if level = 0 then s else setLevel 0 s)
  else if excess || hot then
    let at4 := if level = 4 then s.pwr.at4 + 1 else 0
    let s1 := modPwr (fun x => { x with below := 0, at4 := at4 }) s
    if level < 4 then (if inReplay s then setLevel (level + 1) s1 else pwrEvent 1 (setLevel (level + 1) s1))
    else if excess ∧ restore ≤ at4 then
      (let s2 := pwrEvent 2 s1
       if flagOn Reg.PWR_CAP 31 s2 = true ∧ devState s2 ≤ 1 ∧ s2.pwr.phase = 0 then standbyStart 2 s2 else s2)
    else s1
  else
    let at4 := if level = 4 then s.pwr.at4 + 1 else 0
    let below := if under then s.pwr.below + 1 else 0
    if 0 < level ∧ restore ≤ below then
      modPwr (fun x => { x with below := 0, at4 := 0 }) (setLevel (level - 1) s)
    else modPwr (fun x => { x with below := below, at4 := at4 }) s

/-- SHED_DECISION: every 125 µs while the Round unit is STOPPED or in WAIT_TIME. -/
def opShedDecision (power volt : Nat) (temp : Int) (s : State) : State :=
  if roundState s ≤ 1 ∧ s.pwr.plug = 4 ∧ devState s ≤ 2 then shedDecide power volt temp s else s

/-- PWR_HOT: a diode reaches SHED_C. -/
def opPwrHot (s : State) : State :=
  if s.pwr.hot = true ∨ s.pwr.plug ≠ 4 then s else pwrEvent 3 (modPwr (fun x => { x with hot := true }) s)

/-- THERMAL_TRIP: Deep Standby at once. -/
def opThermalTrip (s : State) : State :=
  if s.pwr.plug = 4 ∧ devState s ≠ 3 then pwrFault 4 (enterDeep s) else s

/-- MAIN_PLL_FAILURE: a main PLL fails while running, its retries spent: Standby by steps 2 to 4 (R485). -/
def opMainPllFailure (s : State) : State :=
  if s.pwr.plug = 4 ∧ devState s ≤ 1 then
    let s1 := pwrFault 0 (pwrEvent 0 (bump Reg.PWR_WAKE_FAIL_CNT s))
    let s2 := setFld Reg.ROUND_STATUS 2 0 0 (setFld Reg.ROUND_CTRL 0 0 0 s1)
    haltEngines (modPwr (fun x => { x with target := 2 }) (laneIdle s2))
  else s

/-- WAKE_IN: a rising edge leaves Deep Standby. -/
def opWakeIn (s : State) : State :=
  if devState s = 3 then noteWake devDom 6 0 (powerOn true (if flagOn Reg.PWR_FAULT 4 s then 2 else 1) s) else s

/-! ## Hot plug (R466, R488 to R490, R495) -/

/-- Reset is released once power is good and PRESENT has been seen. -/
def releaseReset (s : State) : State :=
  if s.pwr.plug = 3 ∧ s.pwr.present = true then powerOn false 0 (modPwr (fun x => { x with plug := 4 }) s) else s

/-- PRECHARGE_CONTACT. -/
def opPrechargeContact (s : State) : State := if s.pwr.plug = 0 then modPwr (fun x => { x with plug := 1 }) s else s

/-- VIN_RISE: the input switch ramps, unless a trip holds it off. -/
def opVinRise (s : State) : State :=
  if s.pwr.plug = 1 ∧ s.pwr.trip = false then modPwr (fun x => { x with plug := 2 }) s else s

/-- RAILS_GOOD. -/
def opRailsGood (s : State) : State :=
  if s.pwr.plug = 2 then releaseReset (modPwr (fun x => { x with plug := 3 }) s) else s

/-- PRESENT_DEBOUNCED. -/
def opPresentDebounced (s : State) : State :=
  if s.pwr.plug < 4 then releaseReset (modPwr (fun x => { x with present := true }) s) else s

/-- POWER_GOOD_LOSS: before stage 4, the stages start again. -/
def opPowerGoodLoss (s : State) : State :=
  if 1 ≤ s.pwr.plug ∧ s.pwr.plug < 4 then modPwr (fun x => { x with plug := 1, present := false }) s else s

/-- Flash work as a surprise removal leaves it (R456, R490): a page program in progress completes, an erase is abandoned. -/
def flashStops (s : State) : State :=
  match s.sec.proc with
  | some c =>
    if c.kind = 0 then journalAppend (cmdKey c.bytes) (cmdCounter c.bytes) s
    else if c.kind = 2 then
      (let p := cmdPayload c.bytes
       let a := (if leAt p 0 1 = 0 then 0x100000 else 0x4000000) + leAt p 4 4
       if leAt p 4 4 % 65536 = 0 then s else norWrite a ((p.drop 16).take 256) s)
    else s
  | none => match s.sec.bootWrite with
    | some b => bootRewrite b.1 s
    | none => s

/-- A surprise removal: only the flash is looked after; the module is then held in reset, the stages to start again from `plug`. -/
def surprise (plug : Nat) (s : State) : State := holdReset plug (flashStops s)

/-- PRESENT_LOST without SAFE_TO_REMOVE. -/
def opPresentLost (s : State) : State :=
  if s.pwr.plug = 4 ∧ s.pwr.eject ≠ 6 then surprise 1 s
  else if s.pwr.plug = 4 then holdReset 0 s
  else modPwr (fun x => { x with plug := min x.plug 1, present := false }) s

/-- VIN_LOW: the input stays below 33 V. -/
def opVinLow (s : State) : State :=
  if s.pwr.plug = 4 then surprise 1 s else modPwr (fun x => { x with plug := min x.plug 1, present := false }) s

/-- CURRENT_LIMIT_TRIP: the switch turns off; as a surprise removal. -/
def opCurrentLimitTrip (s : State) : State :=
  if 2 ≤ s.pwr.plug then modPwr (fun x => { x with trip := true }) (if s.pwr.plug = 4 then surprise 1 s else holdReset 1 s) else s

/-- TRIP_RESTART: 1 s later the stages start again. -/
def opTripRestart (s : State) : State := modPwr (fun x => { x with trip := false }) s

/-- EJECT_REQ: the debounce starts. -/
def opEjectReq (s : State) : State :=
  if s.pwr.plug = 4 ∧ s.pwr.eject = 0 then modPwr (fun x => { x with eject := 1 }) s else s

/-- Step 5 of R489 starts: DMA stops, the recorder writes its index, a WRITE_IMAGE in progress ends after its page. -/
def ejectQuiesce (s : State) : State :=
  let s1 := stopDma (modPwr (fun x => { x with eject := 4 }) s)
  let s2 := if recOn s1 then recHeader s1 else s1
  match s2.sec.proc with
  | some c =>
    if c.kind = 2 then
      cmdEnd c.src.path (cmdOp c.bytes) 0x20 (roundNow s2)
        (respond c.src (cmdOp c.bytes) 0x18 (roundNow s2) [] (modSec (fun x => { x with proc := none }) (flashStops s2)))
    else s2
  | none => s2

/-- EJECT_DEBOUNCED: PWR_EJECT, and the removal sequence begins (R489, R537). -/
def opEjectDebounced (s : State) : State :=
  if s.pwr.eject = 1 then
    let s1 := pwrEvent 4 (setFlag Reg.PWR_STATUS 12 s)
    if devState s1 ≥ 2 then ejectQuiesce s1
    else if 2 ≤ roundState s1 then
      modPwr (fun x => { x with eject := if roundState s1 = 5 then 3 else 2 }) (if roundState s1 = 5 then lineLeave (laneLeave s1) else s1)
    else ejectQuiesce (lineLeave (laneLeave (stopRounds s1)))
  else s

/-- REMOVAL_QUIESCED: DMA is quiet and flash work has finished; every domain is fenced. -/
def opRemovalQuiesced (s : State) : State :=
  if s.pwr.eject = 4 ∧ ((upto 33).all (fun e => flagOn (Reg.DMA_STATUS e) 16 s) = true ∨ 2 ≤ devState s) ∧
     s.sec.proc.isNone = true ∧ s.sec.bootWrite = none then
    modPwr (fun x => { x with eject := 5 }) (if devState s ≤ 1 then domainsDown (if recOn s then recHeader s else s) else s)
  else s

/-- REMOVAL_POWERED_DOWN: domains are down, DRAM self-refreshes, SAFE_TO_REMOVE is asserted. -/
def opRemovalPoweredDown (s : State) : State :=
  if s.pwr.eject = 5 then
    let s1 := forEach (upto devDom) (fun d t => if (dom d t).entering.isSome then fenceDone d t else t) s
    setFlag Reg.PWR_STATUS 11 (modPwr (fun x => { x with eject := 6 }) (dramRest s1))
  else s

/-- LATCH_CLOSE: after SAFE_TO_REMOVE, a reset as at power-on with the Cold Room kept. -/
def opLatchClose (s : State) : State := if s.pwr.eject = 6 then powerOn true 3 s else s

/-! ## Meanings of the commands -/

/-- STANDBY_HALT_DONE (R473). -/
def execStandbyHaltDone (s : State) : Host.Outcome State Fault Refusal := .next (gated false true opStandbyHaltDone s)
/-- STANDBY_QUIET_DONE (R473). -/
def execStandbyQuietDone (s : State) : Host.Outcome State Fault Refusal := .next (gated false true opStandbyQuietDone s)
/-- STANDBY_DOMAINS_DOWN (R473). -/
def execStandbyDomainsDown (s : State) : Host.Outcome State Fault Refusal := .next (gated false true opStandbyDomainsDown s)
/-- SHED_DECISION (R474). -/
def execShedDecision (power volt : Nat) (temp : Int) (s : State) : Host.Outcome State Fault Refusal :=
  .next (gated false true (opShedDecision power volt temp) s)
/-- PWR_HOT (R475). -/
def execPwrHot (s : State) : Host.Outcome State Fault Refusal := .next (gated false true opPwrHot s)
/-- THERMAL_TRIP (R475). -/
def execThermalTrip (s : State) : Host.Outcome State Fault Refusal := .next (gated false true opThermalTrip s)
/-- WAKE_IN (R468). -/
def execWakeIn (s : State) : Host.Outcome State Fault Refusal := .next (wellFormed true opWakeIn s)
/-- DOMAIN_WAKE_DONE (R471). -/
def execDomainWakeDone (d : Nat) (ecc : Ecc) (s : State) : Host.Outcome State Fault Refusal :=
  .next (gated false (below 641 d) (opDomainWakeDone d ecc) s)
/-- WAKE_TIMEOUT (R485). -/
def execWakeTimeout (d : Nat) (s : State) : Host.Outcome State Fault Refusal := .next (gated false (below 641 d) (opWakeTimeout d) s)
/-- WAKE_RETRY (R485). -/
def execWakeRetry (d : Nat) (s : State) : Host.Outcome State Fault Refusal := .next (gated false (below 641 d) (opWakeRetry d) s)
/-- FENCE_DRAINED (R487). -/
def execFenceDrained (d : Nat) (s : State) : Host.Outcome State Fault Refusal := .next (gated false (below 641 d) (opFenceDrained d) s)
/-- PRECHARGE_CONTACT (R488). -/
def execPrechargeContact (s : State) : Host.Outcome State Fault Refusal := .next (wellFormed true opPrechargeContact s)
/-- VIN_RISE (R466). -/
def execVinRise (s : State) : Host.Outcome State Fault Refusal := .next (wellFormed true opVinRise s)
/-- RAILS_GOOD (R488). -/
def execRailsGood (s : State) : Host.Outcome State Fault Refusal := .next (wellFormed true opRailsGood s)
/-- PRESENT_DEBOUNCED (R488). -/
def execPresentDebounced (s : State) : Host.Outcome State Fault Refusal := .next (wellFormed true opPresentDebounced s)
/-- POWER_GOOD_LOSS (R488). -/
def execPowerGoodLoss (s : State) : Host.Outcome State Fault Refusal := .next (wellFormed true opPowerGoodLoss s)
/-- EJECT_REQ (R489). -/
def execEjectReq (s : State) : Host.Outcome State Fault Refusal := .next (wellFormed true opEjectReq s)
/-- EJECT_DEBOUNCED (R489). -/
def execEjectDebounced (s : State) : Host.Outcome State Fault Refusal := .next (wellFormed true opEjectDebounced s)
/-- REMOVAL_QUIESCED (R489). -/
def execRemovalQuiesced (s : State) : Host.Outcome State Fault Refusal := .next (wellFormed true opRemovalQuiesced s)
/-- REMOVAL_POWERED_DOWN (R489). -/
def execRemovalPoweredDown (s : State) : Host.Outcome State Fault Refusal := .next (wellFormed true opRemovalPoweredDown s)
/-- LATCH_CLOSE (R489). -/
def execLatchClose (s : State) : Host.Outcome State Fault Refusal := .next (wellFormed true opLatchClose s)
/-- PRESENT_LOST (R490). -/
def execPresentLost (s : State) : Host.Outcome State Fault Refusal := .next (wellFormed true opPresentLost s)
/-- VIN_LOW (R466). -/
def execVinLow (s : State) : Host.Outcome State Fault Refusal := .next (wellFormed true opVinLow s)
/-- CURRENT_LIMIT_TRIP (R495). -/
def execCurrentLimitTrip (s : State) : Host.Outcome State Fault Refusal := .next (wellFormed true opCurrentLimitTrip s)
/-- TRIP_RESTART (R495). -/
def execTripRestart (s : State) : Host.Outcome State Fault Refusal := .next (wellFormed true opTripRestart s)
/-- MAIN_PLL_FAILURE (R485). -/
def execMainPllFailure (s : State) : Host.Outcome State Fault Refusal := .next (gated false true opMainPllFailure s)

end Sys2Proof.Machine
end

