-- ==== Sys2Proof/Machine/Spare.lean ====
section
/-! DEFINITION. Spares, swaps, repairs and self-tests (R499 to R509): the SPARE unit. -/
namespace Sys2Proof.Machine

/-- Change the SPARE unit's own state. -/
def modSpare (f : Spare → Spare) (s : State) : State := { s with spare := f s.spare }

/-- An event of the SPARE unit, with KIND and INDEX of SPARE_LAST_SWAP as its instance (R55, R524). -/
def spareEvent (bit : Nat) (s : State) : State :=
  flagEvent Reg.SPARE_EVT_STATUS bit (0x070 + bit) (fld Reg.SPARE_LAST_SWAP 27 24 s * 512 + fld Reg.SPARE_LAST_SWAP 8 0 s) s

/-- SPARE_STATUS.PENDING: a mark waits. -/
def sparePending (s : State) : State :=
  setFld Reg.SPARE_STATUS 8 8 (b2n (!s.spare.marks.isEmpty || !s.spare.rowMarks.isEmpty || !s.spare.wireMarks.isEmpty)) s

/-- Marks act with AUTO_EN; a request, a failed test and a failed wake act in any case (R501). -/
def autoOn (s : State) : Bool := flagOn Reg.SPARE_CFG 0 s
def Mark.acts (m : Mark) (s : State) : Bool := autoOn s || !(m.cause == 3 || m.cause == 4 || m.cause == 5)

/-- Change the mark of a resource. -/
def modMark (kind index : Nat) (f : Mark → Mark) (s : State) : State :=
  modSpare (fun x => { x with marks := x.marks.map fun m => if m.kind = kind ∧ m.index = index then f m else m }) s
def markGone (kind index : Nat) (s : State) : State :=
  modSpare (fun x => { x with marks := x.marks.filter fun m => !(m.kind == kind && m.index == index) }) s

/-! ## Engine positions (R499, R525) -/

/-- Where physical position `p` of cluster `c` stands: 0 in service, 1 pool, 2 retired, 3 under test. -/
def posState (c p : Nat) (s : State) : Nat := fld (Reg.SPARE_ENG_MAP c) (2 * p + 1) (2 * p) s

/-- The position that serves logical engine `n` (ENG_STATUS.PHYS). -/
def engPhys (n : Nat) (s : State) : Nat := fld (Reg.ENG_STATUS n) 20 16 s

/-- Put a position, and keep SPARE_STATUS.ENG_SPARES in step. -/
def setPos (c p v : Nat) (s : State) : State :=
  let t := setFld (Reg.SPARE_ENG_MAP c) (2 * p + 1) (2 * p) v s
  setFld Reg.SPARE_STATUS 23 16 (((upto 32).map fun k => ((upto 18).filter fun q => posState k q t == 1).length).foldl (· + ·) 0) t

/-- The margin last read of a position; SPARE_AGE_CLU names the lowest in service (R500). -/
def margin (c p : Nat) (s : State) : Nat := tabGet (fun _ => 255) s.spare.ages (18 * c + p)
def ageSync (c : Nat) (s : State) : State :=
  let low := (upto 16).foldl (fun (b : Nat × Nat) i =>
    let p := engPhys (16 * c + i) s
    if margin c p s < b.1 then (margin c p s, p) else b) (256, 0)
  if s.spare.ages.isEmpty then s
  else wr (Reg.SPARE_AGE_CLU c) (dw ((if low.1 = 255 then 0 else low.2) * 65536 + min 255 low.1)) s

/-- Is a pool resource that `hit` names by its SPARE_BIST word under test? A swap that could use it waits for the end of the test (DEDUCED,
log 66). -/
def poolTest (hit : Nat → Bool) (s : State) : Bool := s.spare.bists.any fun b => b.2 && hit b.1
def posTest (c : Nat) (s : State) : Bool := poolTest (fun w => bitsOf w 31 28 == 1 && bitsOf w 12 8 == c) s
def slotTest (p : Nat) (s : State) : Bool := poolTest (fun w => bitsOf w 31 28 == 2 && bitsOf w 6 0 == p) s

/-- The lowest position of cluster `c` in the pool that no swap has chosen. -/
def freePos (c : Nat) (s : State) : Option Nat :=
  (upto 18).find? fun p => posState c p s == 1 && !(s.spare.marks.any fun m => m.kind == 1 && m.index / 16 == c && decide (1 ≤ m.stage) && m.spot == p)

/-! ## Monitors (R500, R501) -/

/-- AGE_MARK: a margin is read, of engine `idx` (kind 1) or accelerator slot `idx` (kind 2); below AGE_MIN the resource is marked. -/
def opAgeMark (kind idx code : Nat) (s : State) : State :=
  let m := code % 256
  let below := decide (m < fld Reg.SPARE_THRESH 31 24 s)
  if kind = 1 then
    let s1 := ageSync (idx / 16) (modSpare (fun x => { x with ages := tabSet (fun _ => 255) x.ages (18 * (idx / 16) + engPhys idx s) m }) s)
    if below then addMark 1 idx 3 false s1 else s1
  else if kind = 2 then
    let s1 := wr (Reg.SPARE_AGE_ACC (accPhys idx s)) (dw m) s
    if below ∧ idx < 64 then addMark 2 idx 3 false s1 else s1
  else s

/-- WIRE_MARK: errors are counted on wire `w` of the link of node `n` in direction `d`; at WIRE_MAX in one window the wire is marked. -/
def opWireMark (n d w errs : Nat) (s0 : State) : State :=
  let s := freshWindow s0
  let key := (n * 4 + d) * 1024 + w
  let was := tabGet (fun _ => 0) s.spare.wires key
  let s1 := modSpare (fun x => { x with wires := tabSet (fun _ => 0) x.wires key (was + errs) }) s
  let max1 := max 1 (fld Reg.SPARE_THRESH 23 16 s)
  if was < max1 ∧ max1 ≤ was + errs ∧ (neighbour n d).isSome = true then
    sparePending (modSpare (fun x => { x with wireMarks := x.wireMarks ++ [n * 4 + d] }) s1)
  else s1

/-! ## Engine swaps (R502, R503) -/

/-- ENGINE_QUIESCENT: a marked engine is quiescent; its guard fences it and the copy begins. -/
def opEngineQuiescent (n : Nat) (s : State) : State :=
  let e := eng n s
  let still := match e.mode with | .run => false | _ => true
  if s.spare.marks.any (fun m => m.kind == 1 && m.index == n && m.stage == 1) && still && ((slice (n / 64) s).run (n % 64)).isNone &&
     (dom (engDom n) s).entering.isNone && !(dom (engDom n) s).waking then
    modMark 1 n (fun m => { m with stage := 2 }) (modDom (engDom n) (fun x => { x with fenced := true, entering := some e.mode }) s)
  else s

/-- SPARE_COPY_DONE. -/
def opSpareCopyDone (n : Nat) (s : State) : State :=
  if s.spare.marks.any fun m => m.kind == 1 && m.index == n && m.stage == 2 then modMark 1 n (fun m => { m with stage := 3 }) s else s

/-- A swap is recorded (R502). -/
def swapDone (kind index cause phys : Nat) (s : State) : State :=
  spareEvent 0 (bump Reg.SPARE_SWAP_CNT
    (wr Reg.SPARE_LAST_SWAP (dw (roundNow s % 2 ^ 32 * 2 ^ 32 + cause * 2 ^ 28 + kind * 2 ^ 24 + phys * 65536 + index)) s))

/-- The logical engine moves to position `m.spot`: the old position is retired, or returns to the pool. -/
def engineMoves (m : Mark) (s : State) : State :=
  let c := m.index / 16
  let s1 := setPos c (engPhys m.index s) (if m.rotate then 1 else 2) (setPos c m.spot 0 s)
  let s2 := setFld (Reg.ENG_STATUS m.index) 20 16 m.spot s1
  swapDone 1 m.index m.cause m.spot (ageSync c (markGone 1 m.index s2))

/-- The fence of a swapped engine opens, unless it is on its way to another state, and what was held meanwhile acts. -/
def engineResumes (n : Nat) (s : State) : State :=
  let x := dom (engDom n) s
  let e := eng n s
  if x.entering ≠ some e.mode ∧ x.entering.isSome = true then s
  else
    let s1 := modDom (engDom n) (fun y => { y with fenced := false, entering := none, held := none }) s
    let s2 := match x.held with
      | none => s1
      | some code => if 4 ≤ code then startWake (engDom n) code s1 else engineWake n code s1
    if e.mode = .halted then
      (if e.resetPend then engineReset n (modEng n (fun y => { y with resetPend := false }) s2)
       else if e.step || !(flagOn (Reg.ENG_CTRL n) 0 s) then modEng n (fun y => { y with mode := .run }) s2
       else s2)
    else if e.resetPend && !(domSleeps (engDom n) s2) then engineReset n (modEng n (fun y => { y with resetPend := false }) s2)
    else s2

/-- An engine receives no more dispatches: its CHURN_ENG_MASK bit is cleared and its entries return to READY. -/
def engineMasked (n : Nat) (s : State) : State :=
  returnEntries (n / 64) (n % 64) (wr (Reg.CHURN_ENG_MASK (n / 64)) (dw ((rd (Reg.CHURN_ENG_MASK (n / 64)) s).toNat - ((rd (Reg.CHURN_ENG_MASK (n / 64)) s).toNat &&& 2 ^ (n % 64)))) s)

/-- SPARE_EXHAUSTED, once for a mark, which stays (R508). -/
def exhausted (m : Mark) (s : State) : State :=
  if m.exh then s else modMark m.kind m.index (fun x => { x with exh := true }) (spareEvent 1 s)

/-- A marked engine at a commit. -/
def engineMark (m : Mark) (s : State) : State :=
  let n := m.index
  if m.cause = 7 then
    match freePos (n / 16) s with
    | some p =>
      engineMoves { m with spot := p } (engineFromOff n (setDom (engDom n) {} s))
    | none => if m.exh || posTest (n / 16) s then s else exhausted m (engineMasked n s)
  else if m.stage = 0 then
    (if m.acts s then
      (match freePos (n / 16) s with
       | some p => returnEntries (n / 64) (n % 64) (modMark 1 n (fun x => { x with stage := 1, spot := p, since := roundNow s }) s)
       | none => if posTest (n / 16) s then s else exhausted m s)
     else s)
  else if m.stage = 3 then engineResumes n (engineMoves m s)
  else if m.stage = 1 ∧ 8 ≤ roundNow s - m.since ∧ m.stalled = false then
    spareEvent 3 (modMark 1 n (fun x => { x with stalled := true }) s)
  else s

/-! ## Accelerator swaps (R151, R504) -/

/-- The spare slot of a kind of unit. -/
def spareSlot (k : Nat) : Option Nat := [64, 65, 66, 67].find? fun p => slotKind p == slotKind k

/-- Is spare slot `p` in the pool? -/
def slotPool (p : Nat) (s : State) : Bool := flagOn Reg.SPARE_STATUS (p - 64) s

/-- Has a swap that waits for an empty queue chosen spare slot `p`? -/
def slotChosen (p : Nat) (s : State) : Bool :=
  s.spare.marks.any fun m => m.kind == 2 && decide (1 ≤ m.stage) && spareSlot m.index == some p

/-- The registers of spare slot `p`, whose own block answers no more, are those of slot `k`'s block from now on (R153); nothing migrates
(R499). -/
def accBlockServes (k p : Nat) (s : State) : State :=
  forEach ([Reg.ACC_ID, Reg.ACC_CTRL, Reg.ACC_STATUS, Reg.ACC_EVT_STATUS, Reg.ACC_EVT_SNAP, Reg.ACC_LAST_REFUSE, Reg.ACC_LAST_REFUSE_ENG,
      Reg.ACC_ACCEPT_CNT, Reg.ACC_BUSY_CNT, Reg.ACC_REFUSE_CNT, Reg.ACC_DONE_CNT, Reg.ACC_ORPHAN_CNT, Reg.ACC_EXPIRED_CNT, Reg.ACC_JOB_ERR_CNT,
      Reg.ACC_ACTIVE_CYCLES, Reg.ACC_MEM_CORR_CNT, Reg.ACC_MEM_UNCORR_CNT] ++ (upto 4).map fun i k => Reg.ACC_KIND_CNT k i)
    (fun reg t => wr (reg k) (rd (reg p) t) t) s

/-- The NI of a physical slot gets a limit of requests in flight (R240). -/
def slotLimit (p v : Nat) (s : State) : State := setFld (Reg.NI_OUTSTANDING (slotPlace p).1 (slotPlace p).2) 28 16 v s

/-- The spare takes over logical slot `k`, and the allowance of its slot (R240). -/
def accMoves (m : Mark) (p : Nat) (s0 : State) : State :=
  let s := slotLimit p 64 (slotLimit (accPhys m.index s0) 0 s0)
  let s1 := setFld Reg.SPARE_STATUS (p - 64) (p - 64) 0 (setFld (Reg.ACC_ID m.index) 6 0 p (accBlockServes m.index p s))
  let s2 := if m.cause = 7 then setDom (accDom m.index) {} s1 else s1
  swapDone 2 m.index m.cause p (modAcc m.index id (markGone 2 m.index s2))

/-- A marked unit at a commit. -/
def accMark (m : Mark) (s : State) : State :=
  let k := m.index
  if m.acts s then
    match (spareSlot k).filter (slotPool · s) with
    | some p =>
      if slotTest p s = true then s
      else if m.cause = 7 ∨ accEmpty k s = true then accMoves m p s
      else if m.stage = 0 then modAcc k id (modMark 2 k (fun x => { x with stage := 1 }) s) else s
    | none =>
      if m.exh then s
      else if m.cause = 6 ∨ m.cause = 7 then
        (let s1 := modMark 2 k (fun x => { x with exh := true }) (setFld (Reg.ACC_CTRL k) 0 0 0 s)
         if m.cause = 7 then pwrFault 2 s1 else s1)
      else exhausted m (if m.stage = 0 then s else modAcc k id (modMark 2 k (fun x => { x with stage := 0 }) s))
  else s

/-! ## Rows and wires (R505, R506) -/

/-- A marked row is repaired; without a spare row its owner is marked, or SPARE_EXHAUSTED raised. -/
def repairRow (r : Nat × Nat) (s : State) : State :=
  let used := tabGet (fun _ => 0) s.spare.rowsUsed r.1
  let s0 := modSpare (fun x => { x with rowMarks := x.rowMarks.filter (· ≠ r) }) s
  if used < 8 then bump Reg.SPARE_ROW_CNT (modSpare (fun x => { x with rowsUsed := tabSet (fun _ => 0) x.rowsUsed r.1 (used + 1) }) s0)
  else if r.1 < 0x4000 then addMark 1 (r.1 / 32) 5 false s0
  else if 0x30000 ≤ r.1 then addMark 2 (r.1 - 0x30000) 5 false s0
  else spareEvent 1 s0

/-- A marked wire is mapped to a spare wire; a ninth takes the link out of service. -/
def mapWire (link : Nat) (s : State) : State :=
  let d := link % 4
  let used := fld (Reg.SPARE_LINK_WIRES (link / 4)) (4 * d + 3) (4 * d) s
  if used < 8 then bump Reg.SPARE_WIRE_CNT (setFld (Reg.SPARE_LINK_WIRES (link / 4)) (4 * d + 3) (4 * d) (used + 1) s)
  else if used = 8 then
    spareEvent 1 (setFld (Reg.SPARE_LINK_WIRES (link / 4)) (4 * d + 3) (4 * d) 9 { s with noc := { s.noc with linkOut := s.noc.linkOut ++ [link] } })
  else s

/-! ## Self-test (R509) -/

/-- Is the target of a SPARE_BIST word known, and in the pool (some true) or retired (some false)? -/
def bistTarget (w : Nat) (s : State) : Option Bool :=
  let t := bitsOf w 6 0
  if bitsOf w 31 28 = 1 then
    (let c := bitsOf w 12 8
     if t < 18 ∧ !(s.spare.marks.any fun m => m.kind == 1 && m.index / 16 == c && decide (1 ≤ m.stage) && m.spot == t) then
       (if posState c t s = 1 then some true else if posState c t s = 2 then some false else none)
     else none)
  else if (upto 64).any (fun k => accPhys k s == t) || s.spare.bists.any (fun b => bitsOf b.1 31 28 == 2 && bitsOf b.1 6 0 == t) then none
  else if 64 ≤ t ∧ slotPool t s = true then (if slotChosen t s then none else some true)
  else some false

/-- Does a SPARE_BIST word name a position or slot that exists? -/
def bistNames (w : Nat) : Bool := (bitsOf w 31 28 == 1 && decide (bitsOf w 6 0 < 18)) || (bitsOf w 31 28 == 2 && decide (bitsOf w 6 0 < 68))

/-- A test starts, or reads NOT_IDLE. -/
def bistStart (w : Nat) (s : State) : State :=
  match bistTarget w s with
  | some pool =>
    let s1 := modSpare (fun x => { x with bists := x.bists ++ [(w, pool)] }) s
    if bitsOf w 31 28 = 1 then setPos (bitsOf w 12 8) (bitsOf w 6 0) 3 s1 else s1
  | none => s

/-- The SPARE_BIST_RESULT word of a test: KIND moves to [29:28]. -/
def bistWord (w result : Nat) : Nat := result * 2 ^ 30 + bitsOf w 31 28 % 4 * 2 ^ 28 + bitsOf w 12 8 * 256 + bitsOf w 6 0

/-- BIST_DONE: the oldest test ends; a pool resource that fails is retired. -/
def opBistDone (fail : Bool) (s : State) : State :=
  match s.spare.bists with
  | [] => s
  | (w, pool) :: rest =>
    let s1 := modSpare (fun x => { x with bists := rest, bistResult := some (bistWord w (if fail then 2 else 1)) }) s
    let s2 := if bitsOf w 31 28 = 1 then setPos (bitsOf w 12 8) (bitsOf w 6 0) (if pool && !fail then 1 else 2) s1
      else if pool && fail then setFld Reg.SPARE_STATUS (bitsOf w 6 0 - 64) (bitsOf w 6 0 - 64) 0 s1 else s1
    if pool && fail then countEvent Reg.SPARE_BIST_FAIL_CNT Reg.SPARE_EVT_STATUS 2 0x072 (fld Reg.SPARE_LAST_SWAP 27 24 s * 512 + fld Reg.SPARE_LAST_SWAP 8 0 s) s2
    else s2

/-- The SPARE_BIST words of all pool resources, in turn: engine positions by cluster, then spare slots. -/
def poolWords (s : State) : List Nat :=
  ((upto 32).flatMap fun c => ((upto 18).filter fun p => posState c p s == 1 && (bistTarget (2 ^ 28 + c * 256 + p) s).isSome).map fun p => 2 ^ 28 + c * 256 + p) ++
  ((upto 4).filter fun i => slotPool (64 + i) s && (bistTarget (2 * 2 ^ 28 + 64 + i) s).isSome).map fun i => 2 * 2 ^ 28 + 64 + i

/-- An automatic test every BIST_EVERY Rounds. -/
def autoBist (s : State) : State :=
  let every := fld Reg.SPARE_CFG 31 16 s
  let l := poolWords s
  if every ≠ 0 ∧ roundNow s % every = 0 ∧ l.isEmpty = false then
    modSpare (fun x => { x with turn := x.turn + 1 }) (bistStart (l.getD (s.spare.turn % l.length) 0) s)
  else s

/-! ## Requests and the commit -/

/-- SPARE_REQ at the commit that applies it: KIND 1 and 2 mark, KIND 3 moves a lane (R503, R504, R507). -/
def spareReq (v : Nat) (s : State) : State :=
  let i := bitsOf v 8 0
  match bitsOf v 31 28 with
  | 1 => addMark 1 i (if bitOf v 27 then 2 else 1) (bitOf v 27) s
  | 2 => if i < 64 then addMark 2 i 1 false s else s
  | 3 =>
    match laneSpare i s with
    | some _ =>
      let s1 := laneMove i s
      swapDone 3 i 1 (lanePhys i s1) s1
    | none => spareEvent 1 s
  | _ => s

/-- A mark at a commit. -/
def markCommit (m : Mark) (s : State) : State :=
  match m.kind with
  | 1 => engineMark m s
  | 2 => accMark m s
  | 4 => markGone 4 m.index (forEach (upto 16) (fun i t => engineMasked (16 * m.index + i) t) s)
  | _ => s

/-- The SPARE unit at a commit: marks in ascending order, rows, wires, requests and tests; a request to swap a unit makes its commit the one from
which the unit answers busy (R151). `applied` lists the shadows applied, `round` says a
Round begins. The nodes whose wire maps changed need a drain. -/
def spareCommit (applied : List Nat) (round : Bool) (s : State) : List Nat × State :=
  let s1 := forEach (upto 512) (fun i t => match t.spare.marks.find? (fun m => m.index == i && m.kind == 1) with
    | some m => markCommit m t
    | none => t) s
  let s2 := forEach (s1.spare.marks.filter fun m => m.kind == 4) markCommit s1
  let req := fun (acc : Bool) (t : State) => if applied.contains Reg.SPARE_REQ && (fld Reg.SPARE_REQ 31 28 t == 2) == acc then
      spareReq (rd Reg.SPARE_REQ t).toNat t else t
  let s3 := forEach (upto 64) (fun i t => match t.spare.marks.find? (fun m => m.index == i && m.kind == 2) with
    | some m => markCommit m t
    | none => t) (req true s2)
  let s4 := if autoOn s3 then forEach s3.spare.rowMarks repairRow s3 else s3
  let links := if autoOn s4 then s4.spare.wireMarks else []
  let s5 := forEach links mapWire (if autoOn s4 then modSpare (fun x => { x with wireMarks := [] }) s4 else s4)
  let s6 := match s5.spare.bistResult with
    | some w => modSpare (fun x => { x with bistResult := none }) (wr Reg.SPARE_BIST_RESULT (dw w) s5)
    | none => s5
  let s7 := req false s6
  let bw := (rd Reg.SPARE_BIST s7).toNat
  let s8 := if applied.contains Reg.SPARE_BIST && bistNames bw then
      (match bistTarget bw s7 with
       | some _ => bistStart bw s7
       | none => wr Reg.SPARE_BIST_RESULT (dw (bistWord bw 3)) s7)
    else s7
  let s9 := if round then autoBist s8 else s8
  (links.flatMap (fun l => (l / 4) :: (neighbour (l / 4) (l % 4)).toList), sparePending s9)

/-! ## Meanings of the commands -/

/-- AGE_MARK (R500). -/
def execAgeMark (kind idx code : Nat) (s : State) : Host.Outcome State Fault Refusal := .next (gated false true (opAgeMark kind idx code) s)
/-- WIRE_MARK (R501). -/
def execWireMark (n d w errs : Nat) (s : State) : Host.Outcome State Fault Refusal :=
  .next (gated false (below 48 n && below 4 d) (opWireMark n d w errs) s)
/-- ENGINE_QUIESCENT (R503). -/
def execEngineQuiescent (n : Nat) (s : State) : Host.Outcome State Fault Refusal := .next (gated false (below 512 n) (opEngineQuiescent n) s)
/-- SPARE_COPY_DONE (R503). -/
def execSpareCopyDone (n : Nat) (s : State) : Host.Outcome State Fault Refusal := .next (gated false (below 512 n) (opSpareCopyDone n) s)
/-- BIST_DONE (R509). -/
def execBistDone (fail : Bool) (s : State) : Host.Outcome State Fault Refusal := .next (gated false true (opBistDone fail) s)

end Sys2Proof.Machine
end

