-- ==== Sys2Proof/Machine/Record.lean ====
section
/-! DEFINITION. The recorder and Replay at boundaries and commits (R512 to R516, R518 to R522), and REC_CTRL.TRIG. The delivery of recorded inputs is
in Replay.lean. -/
namespace Sys2Proof.Machine

/-- Change the recorder's own state. -/
def modRec (f : Rec → Rec) (s : State) : State := { s with recorder := f s.recorder }

/-- REC_CTRL.EN. -/
def recEn (s : State) : Bool := flagOn Reg.REC_CTRL 0 s && !(inReplay s)

/-- Recording starts at the ring's start (R512, R513): not where SIZE is out of range. -/
def recStart (s : State) : State :=
  let size := fld Reg.REC_RING 63 48 s
  if 1 ≤ size ∧ size ≤ 8192 then
    let s1 := modRec (fun x => { x with
      armed := false, startRound := roundNow s, nextSeq := 0, postLeft := 0, gapRecs := 0, gapBytes := 0, lossRound := false
      ordered := (upto 8).all fun sl => fld (Reg.CHURN_CTRL sl) 13 12 s == 1 }) s
    setRecStatus 7 0 16 (wr Reg.REC_TRIG_POS 0 (wr Reg.REC_WR 128 s1))
  else modRec (fun x => { x with armed := false }) s

/-- A boundary before its apply stage: log entries of the ended Round are recorded, and POST counts down to FROZEN (R515). -/
def recBoundary (s0 : State) : State :=
  let s := modRec (fun x => { x with lossRound := false }) (forEach (upto 8) flushTokens s0)
  if recState s = 2 then
    (if s.recorder.postLeft = 0 then flagEvent Reg.REC_EVT_STATUS 1 0x079 0 (setRecStatus 7 4 3 s)
     else modRec (fun x => { x with postLeft := x.postLeft - 1 }) s)
  else s

/-- After the apply stage of a commit (R512, R513, R515): EN that rises arms the recorder, EN that falls stops it, a change of the ring or of a source
restarts it; `begins` says a Round begins, at which an armed recorder starts. `s0` is the state before the apply stage. -/
def recCommit (s0 : State) (begins : Bool) (s : State) : State :=
  let was := flagOn Reg.REC_CTRL 0 s0
  let moved := [Reg.REC_RING, Reg.REC_SRC_MAC, Reg.REC_SRC_LANE, Reg.REC_SRC].any fun o => decide (rd o s0 ≠ rd o s)
  if inReplay s then s
  else if recEn s then
    (if !was then modRec (fun x => { x with armed := true }) s
     else if begins && s.recorder.armed then recStart s
     else if moved && !s.recorder.armed then recStart s
     else s)
  else if was then
    (let s1 := modRec (fun x => { x with armed := false }) s
     if recState s1 = 0 then s1 else setRecStatus 7 4 0 s1)
  else s

/-! ## Replay at a boundary (R519, R522) -/

/-- The header of the record at offset `pos` of the recorded ring: TYPE, SRC, Round, arrival offset, payload length. -/
def recAt (pos : Nat) (s : State) : Nat × Nat × Nat × Nat × Nat :=
  let h := memRead (s.recorder.repBase + pos) 16 s
  (leAt h 3 1, leAt h 2 1, leAt h 4 4, leAt h 8 3, leAt h 0 2)

/-- The recorded payload, and the offset of the record after it. -/
def recPayload (pos : Nat) (s : State) : List Byte := memRead (s.recorder.repBase + pos + 16) (recAt pos s).2.2.2.2 s
def recAfter (pos : Nat) (s : State) : Nat := pos + roundUp (16 + (recAt pos s).2.2.2.2) 64

/-- The end of the recording: WR of its header. -/
def recEnd (s : State) : Nat := memNat (s.recorder.repBase + 16) 8 s

/-- Is a record one that Replay acts on: an input to deliver, or the TIME of a commit? -/
def recActs (typ : Nat) : Bool := [0x01, 0x02, 0x04, 0x05, 0x06, 0x08, 0x0B].contains typ

/-- Pass over records that carry nothing to deliver; the first argument bounds their number. -/
def recSkip : Nat → State → State
  | 0, s => s
  | k + 1, s =>
    let pos := s.recorder.repPos
    if pos < recEnd s ∧ recActs (recAt pos s).1 = false then recSkip k (modRec (fun x => { x with repPos := recAfter pos s }) s) else s
def recNext (s : State) : State := recSkip (s.recorder.repSize / 64) s

/-- The TIME record of a commit (R512): the time of day, ROUND_NOW, the step applied and STEP_SEQ. -/
def timeRecord (step : Nat) (s : State) : List Byte :=
  leBytes 8 (todSec s.tod) ++ leBytes 8 (subWord s.tod s).toNat ++ leBytes 8 (roundNow s) ++ leBytes 8 step ++ leBytes 4 (stepSeq s)

/-- A commit is recorded, or compared with the recorded one in Replay (R512, R519). -/
def recTime (step : Nat) (s : State) : State :=
  if inReplay s then
    let s1 := recNext s
    let h := recAt s1.recorder.repPos s1
    if s1.recorder.repPos < recEnd s1 ∧ h.1 = 4 ∧ h.2.1 = 0 then
      let s2 := modRec (fun x => { x with repPos := recAfter s1.recorder.repPos s1 }) s1
      if recPayload s1.recorder.repPos s1 = timeRecord step s then s2 else bump Reg.REC_DIVERGE_CNT s2
    else s1
  else recKind 0 0x04 0 (timeRecord step s) s

/-- Is the recording at its end at a boundary of Replay (R522)? -/
def replayOver (s : State) : Bool :=
  recState s == 5 && decide (recEnd (recNext s) ≤ (recNext s).recorder.repPos)

/-- Replay ends: RUN is cleared (R25) and REPLAY_END raised. -/
def replayEnd (s : State) : State := flagEvent Reg.REC_EVT_STATUS 3 0x07B 0 (setFld Reg.REC_STATUS 7 4 6 (stopRounds s))

/-! ## The trigger -/

/-- REC_TRIG: a write of 1 to REC_CTRL.TRIG; its event number is recorded as 0 (log 31). -/
def recTrigWrite (s : State) : State := if inReplay s then s else recTrigger 0 s

end Sys2Proof.Machine
end

