-- ==== Sys2Proof/Machine/Round.lean ====
section
/-! DEFINITION. The Round: boundaries, the commit sequence, overrun, time steps, starting and stopping (R18 to R42, R47 to R53, R548). -/
namespace Sys2Proof.Machine

/-- Change the Round unit's own state. -/
def modRound (f : Round → Round) (s : State) : State := { s with round := f s.round }

/-- A Round event with its flag (R54). -/
def roundEvent (bit : Nat) (s : State) : State := flagEvent Reg.ROUND_EVT_STATUS bit (0x010 + bit) 0 s

/-- What follows happens in cycle C0 + `k` of a commit: the router takes occurrences in that order (R55). -/
def atCycle (k : Nat) (s : State) : State := modRound (fun r => { r with stage := k }) s

/-- Put ROUND_STATUS.STATE. -/
def setRoundState (n : Nat) (s : State) : State := setFld Reg.ROUND_STATUS 2 0 n s

/-! ## The apply stage (R27, R31 to R33) -/

/-- Bits under `mask` of `v` replaced by those of `x`. -/
def masked (v mask x : Nat) : Nat := v - (v &&& mask) + (x &&& mask)

/-- A class whose policy code would be 3 keeps its old code (R48). -/
def policyKept (old new : Nat) : Nat :=
  (upto 8).foldl (fun v c => if bitsOf new (2 * c + 1) (2 * c) = 3 then withBits v (2 * c + 1) (2 * c) (bitsOf old (2 * c + 1) (2 * c)) else v) new

/-- One waiting write is transferred to its register; TIME_STEP is applied later. -/
def applyOne (x : Shadow) (s : State) : State :=
  let old := (rd x.off s).toNat
  let new := masked old x.mask x.value
  if x.off = Reg.TIME_STEP then s
  else if x.off = Reg.ROUND_OVR_POLICY then wr x.off (dw (policyKept old new)) s
  else wr x.off (dw new) s

/-- The step that waits, 0 for none (R398). -/
def stepPending (s : State) : Nat := s.csr.shadow.foldl (fun v x => if x.off = Reg.TIME_STEP then masked v x.mask x.value else v) 0

/-- Every waiting write is transferred. -/
def applyShadows (s : State) : State := forEach s.csr.shadow applyOne { s with csr := { s.csr with shadow := [] } }

/-- The epoch in effect follows DEV_CTRL; the COMPAT strap holds it at A (R17, R60). -/
def epochApply (s : State) : State := setFld Reg.DEV_STATUS 1 1 (b2n (s.sec.strap || flagOn Reg.DEV_CTRL 0 s)) s

/-- A commit at the slices: ORDER (R215) and engines taken out of the masks (R218). -/
def churnCommit (s0 s : State) : State :=
  forEach (upto 8) (fun sl t =>
    let o := fld (Reg.CHURN_CTRL sl) 13 12 t
    let t1 := if o = 3 then setFld (Reg.CHURN_CTRL sl) 13 12 0 t
      else if o = 2 ∧ inReplay t = false then churnEvent sl 4 (setFld (Reg.CHURN_CTRL sl) 13 12 0 t)
      else t
    let gone := (rd (Reg.CHURN_ENG_MASK sl) s0).toNat &&& ((rd (Reg.CHURN_ENG_MASK sl) t1).toNat ^^^ (2 ^ 64 - 1))
    if gone = 0 then t1 else forEach ((upto 64).filter (gone.testBit ·)) (fun e u => returnEntries sl e u) t1) s

/-- Is `off` a route entry: its node, port and index (R259)? -/
def routeAt (off : Nat) : Option (Nat × Nat × Nat) :=
  if 0x220000 ≤ off ∧ off < 0x2E0000 ∧ (off - 0x220000) % 0x800 < 0x200 then
    some ((off - 0x220000) / 0x4000, (off - 0x220000) % 0x4000 / 0x800, (off - 0x220000) % 0x800 / 8)
  else none

/-- A written route entry is checked (R233). -/
def routeCheck (x : Nat × Nat × Nat) (s : State) : State :=
  let bad := entryBad x.1 x.2.2 (rd (Reg.NI_ROUTE x.1 x.2.1 x.2.2) s).toNat
  let s1 := setFld (Reg.NI_ROUTE_BAD x.1 x.2.1) x.2.2 x.2.2 (b2n bad) s
  if bad then flagEvent Reg.NOC_EVT_STATUS 0 0x100 (x.1 * 8 + x.2.1) s1 else s1

/-- A commit at the fabric: routes are checked, and changes of routes, routers and wire maps start a drain (R252, R253). -/
def nocCommit (applied wires : List Nat) (s0 s : State) : State :=
  let routes := (applied.filterMap routeAt).eraseDups
  let s1 := forEach routes routeCheck s
  let changed := (routes.filter fun x => decide (rd (Reg.NI_ROUTE x.1 x.2.1 x.2.2) s0 ≠ rd (Reg.NI_ROUTE x.1 x.2.1 x.2.2) s1)).map fun x =>
    (routeKey x.1 x.2.1 x.2.2, rd (Reg.NI_ROUTE x.1 x.2.1 x.2.2) s0)
  let rtrs := ((upto 48).filter fun n => decide (rd (Reg.NOC_RTR_CTRL n) s0 ≠ rd (Reg.NOC_RTR_CTRL n) s1)).map fun n => (n, (rd (Reg.NOC_RTR_CTRL n) s0).toNat)
  drainStart rtrs changed wires s1

/-- FORCE_ON that rises wakes a vector unit that is down (R127). -/
def vectorCommit (s0 s : State) : State :=
  forEach ((upto 512).filter fun n => flagOn (Reg.VEC_PWR_CTRL n) 16 s && !(flagOn (Reg.VEC_PWR_CTRL n) 16 s0) && (eng n s).vpwr == 2) (fun n t =>
    bump (Reg.VEC_WAKE_CNT n) (modEng n (fun e => { e with vpwr := 1 }) t)) s

/-! ## Accepted commands at their commit (R458, R460) -/

/-- Is the command's commit this one? A command without a target takes the next manual commit or the first Round's. -/
def cmdDue (begins manual : Bool) (c : SecCmd) (s : State) : Bool :=
  !c.applied && (match c.target with
    | none => begins || manual
    | some r => !manual && decide (r ≤ roundNow s) && (c.issued || decide (cmdOp c.bytes ≠ 0x8001) || (cmdPayload c.bytes).isEmpty))

/-- The action of a command other than register writes. -/
def cmdAction (c : SecCmd) (s : State) : State :=
  let p := cmdPayload c.bytes
  let op := cmdOp c.bytes
  if op = 0x8002 then modSec (fun x => { x with bootWrite := some (leAt p 0 1, c.no) }) s
  else if op = 0x8007 then powerCommand p s
  else if op = 0x8008 then modSec (fun x => { x with restart := 2, replayAsk := p }) s
  else if op = 0x8009 then modSec (fun x => { x with restart := 3 }) s
  else if op = 0x800A then modSec (fun x => { x with restart := 1 }) s
  else s

/-- The commands due at a commit, in the order of acceptance: writes not yet accepted wait for the next (SPLIT). -/
def secCommit (begins manual : Bool) (s : State) : State :=
  forEach (s.sec.cmds.filter fun c => cmdDue begins manual c s) (fun c t =>
    if cmdUnaccepted c.no t then modCmd c.no (fun x => { x with split := true }) t
    else cmdFinish c.no (cmdAction c (modCmd c.no (fun x => { x with applied := true, issued := true, round := roundNow t }) t))) s

/-! ## Overrun (R47, R48) -/

/-- Classes with outstanding work at the boundary that ends Round `k`. -/
def overrunClasses (k : Nat) (s : State) : List Nat :=
  let all := (upto 8).flatMap (fun sl => churnClasses sl k (roundNow s) s) ++ (upto 33).flatMap (fun e => dmaClasses k e s) ++
    (upto 32).flatMap (fun c => redClasses k c s)
  (upto 8).filter fun n => all.contains n

/-- The policies are applied at C0+40. -/
def overrun (k : Nat) (s : State) : State :=
  let l := overrunClasses k s
  if l.isEmpty then s
  else
    let s1 := forEach (upto 8) (fun sl t => churnBoundary sl k (roundNow s) t) (roundEvent 0 s)
    let s2 := forEach (upto 32) (fun c t => redBoundary k c t) (forEach (upto 33) (fun e t => dmaBoundary k e t) s1)
    forEach l (fun n t =>
      let t1 := bump (Reg.ROUND_OVR_CNT n) t
      if policyOf n t1 = 2 then roundEvent 8 (setFlag Reg.ROUND_OVR_HALTED n t1) else t1) s2

/-! ## Time steps and Rounds (R50, R548) -/

/-- An applied step of `v` acts on the Round that begins. -/
def stepOnRound (v : Nat) (s : State) : State :=
  let d := (stepUnits v).natAbs
  let p := period s
  let q := d / p
  let put := fun (n : Nat) (t : State) => if roundState t = 5 then modRound (fun r => { r with leftState := n }) t else setRoundState n t
  if stepUnits v < 0 then
    (if d < p then
      roundEvent 2 (bump Reg.ROUND_STRETCH_CNT (put 3 (modRound (fun r => { r with overlong := true }) s)))
     else
      roundEvent 3 (bump Reg.ROUND_REALIGN_CNT (put 4 (modRound (fun r => { r with
        overlong := decide (d % p ≠ 0), slipPending := q, endGrid := r.grid + 1 - q }) s))))
  else
    let s1 := modRound (fun r => { r with endGrid := r.grid + 1 + q, skippedTo := if q = 0 then 0 else roundNow s + 1 + q }) s
    if q = 0 then s1 else roundEvent 1 (bumpBy Reg.ROUND_MISSED_CNT q s1)

/-- C0+39: the step that waits is applied, and acts on the Round that begins, if one does. -/
def stepStage (v : Nat) (begins : Bool) (s : State) : Bool × State :=
  let x := timeStepApply v s
  let s1 := if x.1 then modRound (fun r => { r with startTod := x.2.tod }) x.2 else x.2
  (x.1, if x.1 && begins then stepOnRound v (atCycle 40 s1) else s1)

/-! ## Snapshot and counter clears (R35, R36) -/

/-- The counter clear a counter follows. -/
def clearOf (d : RegDesc) (off : Nat) : Option Nat :=
  d.clr.map fun c => c.1 + ((d.dims.take c.2).foldl (fun (a : Nat × Nat) x => (a.1 + a.2 / x.1 * x.1, a.2 % x.1)) (0, off - d.off)).1

/-- Every snapshot field takes the live value. -/
def snapshot (s0 : State) : State :=
  let s := wr Reg.ROUND_SNAP_ROUND (dw (roundNow s0)) s0
  { s with csr := { s.csr with snap := s.csr.live, snapSeq := s.csr.snapSeq + 1 } }

/-- Counters whose clear was written start again. -/
def counterClears (applied : List Nat) (s : State) : State :=
  let asked := applied.filter fun o => flagOn o 0 s
  let hit := fun (o : Nat) => match findReg o with
    | some (d, _) => (match clearOf d o with | some c => asked.contains c | none => false)
    | none => false
  if asked.isEmpty then s
  else { s with csr := { s.csr with live := s.csr.live.filter fun r => !(hit r.1) } }

/-- Write-only fields of the registers applied have acted. -/
def writeOnlyDone (applied : List Nat) (s : State) : State :=
  forEach applied (fun o t => match findReg o with
    | some (d, _) => if d.wo &&& d.cm = 0 then t else wr o (dw (masked (rd o t).toNat (d.wo &&& d.cm) 0)) t
    | none => t) s

/-! ## Restarts (R442, R460, R518, R522) -/

/-- The module restarts where a command asked for it. -/
def commitEnds (s : State) : State :=
  match s.sec.restart with
  | 1 => restart 1 false s
  | 2 =>
    let p := s.sec.replayAsk
    let t := restart 1 true s
    setFld Reg.REC_STATUS 7 0 0x51 (modRec (fun _ => {
      startRound := memNat (leAt p 0 8 + 8) 8 t
      repBase := leAt p 0 8, repSize := leAt p 8 4 * 0x100000, repPos := 128
      capBase := leAt p 16 8, capSize := leAt p 24 4 * 0x100000 }) (wr Reg.REC_CAP_WR 128 t))
  | 3 => restart 1 true s
  | _ => s

/-! ## One commit -/

/-- The commit sequence from C0+8 on. `begins` says a Round begins; `ended` is the Round whose overrun is judged; `shed` is the shedding decision. -/
def commitRun (begins manual : Bool) (ended : Option Nat) (shed : State → State) (s : State) : State :=
  let s0 := cfaCheck (laneCheck (atCycle 8 s))
  let applied := (s0.csr.shadow.map (·.off)).eraseDups
  let step := stepPending s0
  let a1 := churnCommit s0 (epochApply (applyShadows s0))
  let a2 := forEach (upto 33) (fun e t => dmaStreams e (fun ch => flagOn (Reg.DMA_CH_CFG e ch) 31 s0) t) a1
  let sp := spareCommit applied begins a2
  let a3 := vectorCommit s0 (nocCommit applied sp.1 s0 sp.2)
  let a4 := secCommit begins manual (shed a3)
  let a5 := ioCommit applied (accCommit applied (cluCommit applied (engSleepCommit a4)))
  let a6 := forEach (upto 68) (fun k t => modAcc k id t) a5
  let a7 := lineCommit s0 (laneCommit s0 (macCommit s0 (cfaCommit s0 a6)))
  let a8 := recCommit s0 begins (hkcCommit s0 a7)
  let st := stepStage step begins (atCycle 39 a8)
  let b1 := atCycle 40 (recTime (if st.1 then step else 0) st.2)
  let b2 := trigCommit s0 (match ended with | some k => overrun k b1 | none => b1)
  atCycle 0 (writeOnlyDone applied (counterClears applied (snapshot b2)))

/-- A manual commit (R26). -/
def manualCommit (s : State) : State :=
  commitEnds (commitRun false true none id (modRound (fun r => { r with sinceC0 := 0 }) s))

/-! ## The Round plan begins (R43, R45) -/

/-- The plan selected is fetched. -/
def planStart (s : State) : State :=
  let n := fld Reg.ROUND_PLAN 2 0 s
  let count := min 4096 (fld (Reg.ROUND_PLAN_BASE n) 60 48 s)
  let base := fld (Reg.ROUND_PLAN_BASE n) 47 6 s * 64
  if flagOn Reg.ROUND_PLAN 3 s = true ∧ count ≠ 0 then
    let tag := s.round.plan.tag + 1
    readRange .plan (2 * tag + 1) base (16 * count) (modRound (fun r => { r with
      plan := { active := true, base := base, count := count, tag := tag, halted := (rd Reg.ROUND_OVR_HALTED s).toNat } }) s)
  else s

/-- Entries not issued by the boundary are dropped, each counted and reported (R46). A failed fetch has cut the plan's count. -/
def planLate (s : State) : State :=
  let p := s.round.plan
  forEach (upto (if p.active then p.count - p.nextIssue else 0)) (fun _ t => roundEvent 6 (bump Reg.ROUND_PLAN_LATE_CNT t))
    (modRound (fun r => { r with plan := { tag := p.tag } }) s)

/-! ## ROUND_BOUNDARY -/

/-- The Round number of the boundary at grid index `n` (R21, R24), and whether ROUND_OFFSET moves to meet it. -/
def firstNumber (n : Nat) (s : State) : Nat × Bool :=
  if s.round.started then
    (if n + (rd Reg.ROUND_OFFSET s).toNat < roundNow s + 1 then (roundNow s + 1, true) else (n + (rd Reg.ROUND_OFFSET s).toNat, false))
  else (n, false)

/-- Registers that name the boundary's instant and number; the window opens. -/
def boundaryAt (number grid : Nat) (s : State) : State :=
  let s1 := wr Reg.ROUND_NOW (dw number) (wr Reg.ROUND_START_SEC (dw (todSec s.tod % 2 ^ 48))
    (wr Reg.ROUND_START_NS (dw (todNs s.tod)) (wr Reg.ROUND_START_FRAC (dw (todFrac s.tod)) s)))
  modRound (fun r => { r with
    started := true, sinceC0 := 0, grid := grid, endGrid := grid + 1, beyondP := false, overlong := false, blanked := false
    slipPending := 0, skippedTo := 0, startTod := s.tod }) s1

/-- What a boundary does before its commit in every block: the ended Round is closed and a new one opens. -/
def roundOpens (s : State) : State :=
  lineNewRound (hkcNewRound (macNewRound (cfaNewRound (laneNewRound s))))

/-- The Round unit enters STOPPED at a boundary: what waited for it goes on (R473, R489). -/
def roundsStop (s : State) : State :=
  let s1 := laneIdle (setRoundState 0 s)
  let s2 := forEach (upto 16) (fun m t => setFld (Reg.FHG_STATUS m) 16 16 0 (gateStops m t)) s1
  if s2.pwr.eject = 3 then ejectQuiesce s2
  else if s2.pwr.phase = 1 then haltEngines s2
  else s2

/-- ROUND_OFFSET moves by `m` (R24, R50). -/
def offsetMoves (m : Nat) (s : State) : State :=
  if m = 0 then s else roundEvent 4 (wr Reg.ROUND_OFFSET (rd Reg.ROUND_OFFSET s + dw m) s)

/-- The removal sequence, or the end of a replay, clears RUN at this boundary (R489, R522). -/
def boundaryStops (begins : Bool) (s : State) : State :=
  if begins && inReplay s && replayOver s then replayEnd s
  else if s.pwr.eject = 2 then modPwr (fun x => { x with eject := 3 }) (lineLeave (laneLeave (stopRounds s)))
  else s

/-- After the commit of a boundary at which a Round begins: the plan and ROUND_TICK, whose token carries ROUND_NOW (R54, R57). -/
def roundBegins (s : State) : State := atCycle 0 (raise 0x01F (roundNow s % 2 ^ 32 * 65536) (atCycle 72 (planStart s)))

/-- A boundary while Rounds run: Round `roundNow s` ends. -/
def boundaryRunning (shed : State → State) (s : State) : State :=
  let k := roundNow s
  let stops := decide (roundState s = 5)
  let s1 := recBoundary (gateNewRound (planLate (if s.round.blanked then bump Reg.ROUND_BLANK_CNT s else s)))
  let s2 := forEach (upto 8) (fun sl t => churnNewRound sl t) s1
  let s3 := offsetMoves s.round.slipPending (boundaryAt (nextRound s) s.round.endGrid s2)
  let s4 := boundaryStops (!stops) (roundOpens (if stops then s3 else setRoundState 2 s3))
  let s5 := commitRun (!stops) false (some k) shed s4
  commitEnds (if stops then roundsStop s5 else roundBegins s5)

/-- A committed write made while no Rounds ran takes effect in the first Round, of number `n` (R34). -/
def stampsBegin (old n : Nat) (s : State) : State :=
  { s with csr := { s.csr with stamps := s.csr.stamps.map fun x => if old < x.2.toNat then (x.1, dw n) else x } }

/-- The boundary that begins the first Round after RUN (R24). -/
def boundaryFirst (shed : State → State) (n : Nat) (s : State) : State :=
  let x := firstNumber n s
  let s1 := forEach (upto 8) (fun sl t => churnNewRound sl t) (recBoundary s)
  let s2 := stampsBegin (roundNow s) x.1 (boundaryAt x.1 n s1)
  let s3 := if x.2 then roundEvent 4 (wr Reg.ROUND_OFFSET (dw x.1 - dw n) s2) else s2
  let s4 := commitRun true false none shed (boundaryStops true (roundOpens (setRoundState 2 s3)))
  commitEnds (roundBegins s4)

/-- ROUND_FIRST_P_END: the first P of a stretched or realigned Round has passed (R51). -/
def opRoundFirstPEnd (s : State) : State :=
  if s.round.overlong = true ∧ s.round.beyondP = false ∧ roundsRun s = true ∧ reaches (s.round.startTod + period s) s = true then
    gateBeyond (modRound (fun r => { r with beyondP := true }) (advanceTo (s.round.startTod + period s) s))
  else s

/-! ## ROUND_CTRL (R24 to R26) -/

/-- A write of RUN. In Replay a start loads the time of day one step before the boundary of START_ROUND (R519). -/
def runWrite (on : Bool) (s : State) : State :=
  let st := roundState s
  if on then
    let s1 := setFlag Reg.ROUND_CTRL 0 s
    if st = 0 then
      (let s2 := setRoundState 1 s1
       if inReplay s2 && recState s2 == 5 then
         timeValid true { s2 with tod := gridInstant s2.recorder.startRound s2 - timeStep s2 }
       else s2)
    else if st = 5 then setRoundState s.round.leftState s1 else s1
  else stopRounds s

/-- A write of ROUND_CTRL: the response code and the effect. MANUAL_COMMIT acts only in STOPPED. -/
def roundCtrlWrite (v : Nat) (s : State) : Nat × State :=
  if bitOf v 1 then (if roundState s = 0 then (0, if bitOf v 0 then runWrite true (manualCommit s) else manualCommit s) else (1, s))
  else (0, runWrite (bitOf v 0) s)

/-! ## Meanings of the commands -/

/-- ROUND_FIRST_P_END (R51). -/
def execRoundFirstPEnd (s : State) : Host.Outcome State Fault Refusal := .next (gated false true opRoundFirstPEnd s)

end Sys2Proof.Machine
end

