-- ==== Sys2Proof/Machine/Plan.lean ====
section
/-! DEFINITION. The Round plan's entries and the event router (R43 to R46, R55 to R57, R451). -/
namespace Sys2Proof.Machine

/-! ## The Round plan -/

/-- Change the plan in progress. -/
def modPlan (f : Plan → Plan) (s : State) : State := modRound (fun r => { r with plan := f r.plan }) s

/-- Fields of a plan entry (R44). -/
def peKind (e : List Byte) : Nat := bitsOf (leAt e 0 4) 31 28
def peClass (e : List Byte) : Nat := bitsOf (leAt e 0 4) 27 25
def peOffset (e : List Byte) : Nat := bitsOf (leAt e 0 4) 23 0
def peTarget (e : List Byte) : Nat := leAt e 4 4
def peArg (e : List Byte) : Nat := leAt e 8 8

/-- The entry whose turn it is, once fetched. -/
def planNext (s : State) : Option (List Byte) :=
  let p := s.round.plan
  if p.active ∧ p.nextIssue < p.count then (p.fetched.find? fun x => x.1 == p.nextIssue).map (·.2) else none

/-- Entries of halted classes and of reserved kinds are passed over (R45); the first argument bounds their number. One that is both the manual
does not speak of: it is passed over as one of a halted class, with no ROUND_CFG_ERR (log 66). -/
def planSkip : Nat → State → State
  | 0, s => s
  | k + 1, s =>
    match planNext s with
    | none => s
    | some e =>
      let on := modPlan (fun p => { p with nextIssue := p.nextIssue + 1, fetched := p.fetched.filter fun x => x.1 != p.nextIssue })
      if s.round.plan.halted.testBit (peClass e) then planSkip k (on s)
      else if 6 ≤ peKind e then planSkip k (roundEvent 5 (on s))
      else s

/-- A plan fetch or issue drew a response other than OK (R46). -/
def planErr (s : State) : State := roundEvent 7 (bump Reg.ROUND_PLAN_ERR_CNT s)

/-- The packets of a plan: its fetches by tag, its issues. -/
def usePlanFetch (tag : Nat) : Nat := 2 * tag + 1
def usePlanIssue : Nat := 0

/-- PLAN_FETCH_ANSWER: the oldest answer to a fetch. One other than OK counts, and the plan in progress ends before the first entry it would
have brought (log 62); the bytes for a plan already dropped are discarded. -/
def opPlanFetchAnswer (s : State) : State :=
  match s.noc.txns.find? (fun t => decide (t.agent = .plan) && t.use % 2 == 1 && t.ans.isSome) with
  | none => s
  | some t =>
    let s1 := takeAns t.id s
    let p := s1.round.plan
    let current := decide (t.use = usePlanFetch p.tag) && p.active
    match t.ans with
    | some (code, data) =>
      if code ≠ 0 then planErr (if current then modPlan (fun q => { q with count := min q.count ((t.addr - q.base) / 16) }) s1 else s1)
      else if current = false then s1
      else planSkip 4096 (modPlan (fun q => { q with
        fetched := q.fetched ++ (upto (data.length / 16)).map fun i => ((t.addr - q.base) / 16 + i, sliceOf data (16 * i) 16) }) s1)
    | none => s1

/-- The entry of kind `kind` whose turn it is issues, at the later of C0+72 and its OFFSET, in time-counter steps since C0 (R45), unless the
boundary comes first (R46). -/
def planIssue (kind : Nat) (act : List Byte → State → State) (s : State) : State :=
  match planNext s with
  | none => s
  | some e =>
    let wait := max 36 (peOffset e) - s.round.sinceC0
    if peKind e = kind ∧ roundsRun s = true ∧ room wait s = true then
      planSkip 4096 (modPlan (fun p => { p with nextIssue := p.nextIssue + 1, fetched := p.fetched.filter fun x => x.1 != p.nextIssue })
        (act e (passSteps wait s)))
    else s

/-- PLAN_NO_OPERATION to PLAN_REG_WRITE: what an entry does at its target (R44, R46). -/
def opPlanNoOperation (s : State) : State := planIssue 0 (fun _ t => t) s
def opPlanDmaStart (s : State) : State :=
  planIssue 1 (fun e t => send .plan usePlanIssue 0 0 (.dmaStart (bitsOf (peTarget e) 15 8) (bitsOf (peTarget e) 7 0) (bitsOf (peArg e) 47 0)) false false t) s
/-- PLAN_CFA_HANDOVER: a packet to each half (R307). Two answers other than OK count as two, which the manual does not speak of (log 66). -/
def opPlanCfaHandover (s : State) : State :=
  planIssue 2 (fun e t =>
    forEach [0, 1] (fun half u => send .plan usePlanIssue 0 0 (.handover half (bitsOf (peTarget e) 9 0) (bitsOf (peArg e) 10 0)) false false u) t) s
def opPlanRedSetup (s : State) : State :=
  planIssue 3 (fun e t =>
    send .plan usePlanIssue 0 0 (.redSetup (bitsOf (peTarget e) 31 16) (bitsOf (peTarget e) 11 0) (bitsOf (peArg e) 15 0) (peClass e)) false false t) s
def opPlanToken (s : State) : State :=
  planIssue 4 (fun e t => postToken .plan (bitsOf (peTarget e) 15 13) (bitsOf (peTarget e) 12 0) (bitsOf (peArg e) 2 0) (roundNow t) t) s
def opPlanRegWrite (s : State) : State :=
  planIssue 5 (fun e t =>
    let a := if peTarget e < 0x10000000 then 0x40000000 + peTarget e else 0x50000000
    reqWrite .plan usePlanIssue a (leBytes 4 (peArg e)) false t) s

/-- PLAN_ISSUE_ANSWER. -/
def opPlanIssueAnswer (s : State) : State :=
  match waitingAns .plan usePlanIssue s with
  | none => s
  | some (t, code, _) => if code = 0 then takeAns t.id s else planErr (takeAns t.id s)

/-! ## The event router -/

/-- The bits of a routing entry that its KIND leaves reserved (R56). -/
def routeReserved (kind : Nat) : Nat := if kind = 1 then 0x0FE0FE00 else if kind = 2 then 0x0FF80000 else 0x0FFFF800

/-- A vector is signalled (R451): dropped while the link is down or Bus Master Enable clear, pending while masked. -/
def signalVector (v : Nat) (s : State) : State :=
  if flagOn Reg.PCIE_LINK_STATUS 16 s = false ∨ s.sec.bme = false then bump Reg.PCIE_MSIX_DROP_CNT s
  else if flagOn (Reg.PCIE_MSIX v 1) 32 s then setFlag (Reg.PCIE_PBA (v / 64)) (v % 64) s
  else modSec (fun x => { x with msix := some v }) s

/-- VALUE of a token sent by the router (R57, R403). -/
def eventValue (o : Occurrence) : Nat :=
  if o.num = 0x01F then o.inst / 65536
  else if o.num = 0x020 then o.inst / 65536 % 65536 * 65536 + o.inst % 16
  else o.num * 65536 + o.inst % 65536

/-- The router's interrupt write. -/
def useIrq : Nat := 1

/-- Deliver an occurrence by its entry: one with a non-zero reserved bit counts each occurrence it meets, EN 0 and KIND 0 included (R56). -/
def deliver (o : Occurrence) (s : State) : State :=
  let e := (rd (Reg.EVT_ROUTE o.num) s).toNat
  let kind := bitsOf e 30 29
  let add := if bitOf e 28 then o.inst % 65536 else 0
  let target := (if kind = 1 then bitsOf e 8 0 else if kind = 2 then bitsOf e 15 0 else bitsOf e 10 0) + add
  let top := if kind = 1 then 511 else if kind = 2 then 65535 else 2047
  if e &&& routeReserved kind ≠ 0 then bump Reg.EVT_MISROUTE_CNT s
  else if bitOf e 31 = false ∨ kind = 0 then s
  else if top < target then bump Reg.EVT_MISROUTE_CNT s
  else
    let s1 := bump Reg.EVT_DELIVER_CNT s
    if kind = 1 then reqWrite .evt useIrq (0x40000000 + Reg.ENG_IRQ_SET target) (leBytes 4 (2 ^ bitsOf e 20 16)) true s1
    else if kind = 2 then postToken .evt (target / 8192) (target % 8192) (bitsOf e 18 16) (eventValue o) s1
    else signalVector target s1

/-- OCCURRENCE_TAKEN: the oldest occurrence is taken, offered to the recorder's trigger (R515), and delivered. -/
def opOccurrenceTaken (s : State) : State :=
  match s.evt with
  | [] => s
  | o :: rest =>
    let s1 : State := { s with evt := rest }
    let s2 := if flagOn Reg.REC_TRIG_CFG 31 s1 = true ∧ fld Reg.REC_TRIG_CFG 11 0 s1 = o.num then recTrigger o.num s1 else s1
    inOrder s1 (deliver o s2)

/-- INTERRUPT_WRITE_ANSWER. -/
def opInterruptWriteAnswer (s : State) : State :=
  match waitingAns .evt useIrq s with
  | none => s
  | some (t, code, _) => if code = 0 then takeAns t.id s else bump Reg.EVT_MISROUTE_CNT (takeAns t.id s)

/-! ## Meanings of the commands -/

/-- PLAN_FETCH_ANSWER (R45). -/
def execPlanFetchAnswer (s : State) : Host.Outcome State Fault Refusal := .next (gated false true opPlanFetchAnswer s)
/-- PLAN_NO_OPERATION (R45). -/
def execPlanNoOperation (s : State) : Host.Outcome State Fault Refusal := .next (gated false true opPlanNoOperation s)
/-- PLAN_DMA_START (R45). -/
def execPlanDmaStart (s : State) : Host.Outcome State Fault Refusal := .next (gated false true opPlanDmaStart s)
/-- PLAN_CFA_HANDOVER (R45). -/
def execPlanCfaHandover (s : State) : Host.Outcome State Fault Refusal := .next (gated false true opPlanCfaHandover s)
/-- PLAN_RED_SETUP (R45). -/
def execPlanRedSetup (s : State) : Host.Outcome State Fault Refusal := .next (gated false true opPlanRedSetup s)
/-- PLAN_TOKEN (R45). -/
def execPlanToken (s : State) : Host.Outcome State Fault Refusal := .next (gated false true opPlanToken s)
/-- PLAN_REG_WRITE (R45). -/
def execPlanRegWrite (s : State) : Host.Outcome State Fault Refusal := .next (gated false true opPlanRegWrite s)
/-- OCCURRENCE_TAKEN (R55). -/
def execOccurrenceTaken (s : State) : Host.Outcome State Fault Refusal := .next (gated false true opOccurrenceTaken s)
/-- PLAN_ISSUE_ANSWER (R46). -/
def execPlanIssueAnswer (s : State) : Host.Outcome State Fault Refusal := .next (gated false true opPlanIssueAnswer s)
/-- INTERRUPT_WRITE_ANSWER (R56). -/
def execInterruptWriteAnswer (s : State) : Host.Outcome State Fault Refusal := .next (gated false true opInterruptWriteAnswer s)

end Sys2Proof.Machine
end

