-- ==== Sys2Proof/Machine/Command.lean ====
section
/-! DEFINITION. Critical commands from step 9 on: the journal record, acceptance, the commands that execute at once, flash writes
(R455 to R460). -/
namespace Sys2Proof.Machine

/-- An accepted command that waits for its Round. Without a Round its writes go out at once, and a POWER command
that names Standby, Deep Standby, or Full from Standby takes a manual commit of the PWR agent's own (R458, R473). -/
def cmdQueue (f : CmdFrom) (bs : List Byte) (t : Option Nat) (s : State) : State :=
  let no := s.sec.cmdNo
  let s1 := modSec (fun x => { x with cmds := x.cmds ++ [⟨no, f.path, bs, t, false, false, false, false, 0⟩], cmdNo := no + 1 }) s
  match t with
  | some _ => s1
  | none =>
    let s2 := cmdIssue no s1
    if cmdOp bs = 0x8007 ∧ roundState s2 ≤ 1 ∧ (leAt (cmdPayload bs) 0 1 ≠ 0 ∨ devState s2 = 2) then
      manualCommit (if roundState s2 = 1 then stopRounds s2 else s2)
    else s2

/-- What an accepted command does at acceptance (R459). -/
def cmdAct (f : CmdFrom) (bs : List Byte) (t : Option Nat) (s : State) : State :=
  let p := cmdPayload bs
  let fin := fun (x : State) => cmdEnd f.path (cmdOp bs) 1 (roundNow x) x
  match cmdOp bs with
  | 0x8003 => modSec (fun x => { x with proc := some ⟨2, f, bs, none⟩ }) s
  | 0x8004 => fin (journalAppend (leAt p 0 4) revokedMark s)
  | 0x8005 => fin (setFlag Reg.SEC_FUSE_POLICY (8 + leAt p 0 1) s)
  | 0x8006 => fin (setFld Reg.SEC_FUSE_POLICY 22 16 (leAt p 0 1) s)
  | _ => cmdQueue f bs t s

/-- A critical command is accepted: counted, recorded, answered outside Replay, and carried out. WRITE_IMAGE answers when its write ends. -/
def cmdAccept (f : CmdFrom) (bs : List Byte) (t : Option Nat) (s : State) : State :=
  let round := t.getD (roundNow s)
  let s1 := recKind 1 0x05 f.path (bs ++ leBytes 8 round) (bump Reg.SEC_CMD_OK_CNT s)
  cmdAct f bs t (if inReplay s1 || decide (cmdOp bs = 0x8003) then s1 else respond f (cmdOp bs) 0 round [] s1)

/-- An answer, which a command replayed from a recording does not draw. -/
def answerLive (f : CmdFrom) (op status : Nat) (s : State) : State := if inReplay s then s else respond f op status (roundNow s) [] s

/-- JOURNAL_WRITE_DONE: the record is written and read back (`ok`), or is not; step 10 decides. -/
def opJournalWriteDone (ok : Bool) (s : State) : State :=
  match s.sec.proc with
  | none => s
  | some c =>
    if c.kind ≠ 0 then s
    else
      let s1 := modSec (fun x => { x with proc := none }) s
      if ok = false then cmdReject c.src c.bytes 0x18 Reg.SEC_REJECT_CNT s1
      else
        let s2 := journalAppend (cmdKey c.bytes) (cmdCounter c.bytes) s1
        if stillAllowed (cmdOp c.bytes) c.target s2 then cmdAccept c.src c.bytes c.target s2
        else cmdReject c.src c.bytes 0x16 Reg.SEC_REJECT_CNT s2

/-- The flash address a WRITE_IMAGE payload names. -/
def imageAt (p : List Byte) : Nat := (if leAt p 0 1 = 0 then 0x100000 else 0x4000000) + leAt p 4 4

/-- IMAGE_WRITE_DONE: the erase and the write end, well or not; a write that failed leaves free bytes. -/
def opImageWriteDone (ok : Bool) (s : State) : State :=
  match s.sec.proc with
  | none => s
  | some c =>
    if c.kind ≠ 2 then s
    else
      let p := cmdPayload c.bytes
      let s1 := modSec (fun x => { x with proc := none }) s
      let s2 := if leAt p 4 4 % 65536 = 0 then norErase (imageAt p) 65536 s1 else s1
      let op := cmdOp c.bytes
      if ok then
        cmdEnd c.src.path op 1 (roundNow s2) (answerLive c.src op 1 (norWrite (imageAt p) (p.drop 16) s2))
      else
        cmdEnd c.src.path op 0x20 (roundNow s2)
          (answerLive c.src op 0x18 (drawn (norWrite (imageAt p) (freeBytes (p.length - 16) s2) s2)))

/-- BOOT_RECORD_WRITE_DONE: the module restarts into the slot named, or the command ends EXEC_ERR. -/
def opBootRecordWriteDone (ok : Bool) (s : State) : State :=
  match s.sec.bootWrite with
  | none => s
  | some b =>
    if ok then restart 2 false (bootRewrite b.1 s)
    else cmdFinish b.2 (modCmd b.2 (fun x => { x with err := true }) (modSec (fun x => { x with bootWrite := none }) s))

/-! ## Meanings of the commands -/

/-- IMAGE_WRITE_DONE (R459). -/
def execImageWriteDone (ok : Bool) (s : State) : Host.Outcome State Fault Refusal := .next (gated true true (opImageWriteDone ok) s)
/-- JOURNAL_WRITE_DONE (R456). -/
def execJournalWriteDone (ok : Bool) (s : State) : Host.Outcome State Fault Refusal := .next (gated true true (opJournalWriteDone ok) s)
/-- BOOT_RECORD_WRITE_DONE (R460). -/
def execBootRecordWriteDone (ok : Bool) (s : State) : Host.Outcome State Fault Refusal := .next (gated true true (opBootRecordWriteDone ok) s)

end Sys2Proof.Machine
end

