-- ==== Sys2Proof/Machine/RegWrite.lean ====
section
/-! DEFINITION. Register writes and accesses (R11 to R16, R19, R26, R28 to R34, R39, R60): the effect of a write on live, committed and W1C
fields, the registers whose writing acts, the commit window, and the rows that are direct accesses. -/
namespace Sys2Proof.Machine

/-! ## Fields (R13 to R15, R30, R31) -/

/-- The Round a committed write accepted now takes effect in (R31, R34). -/
def effectRound (s : State) : Nat := if roundsRun s then nextRound s else roundNow s + 1

/-- A committed write waits in its shadow, and stamps its initiator. -/
def shadowPut (src off mask value : Nat) (s : State) : State :=
  { s with csr := { s.csr with
    shadow := s.csr.shadow ++ [⟨off, mask, value, src⟩]
    stamps := tabSet (fun _ => dw (2 ^ 64 - 1)) s.csr.stamps src (dw (effectRound s)) } }

/-- The bits of a register that a write reaches: those of links off the mesh in NOC_RTR_CTRL ignore it (R258). -/
def reachedBits (off : Nat) : Nat :=
  if 0x201000 ≤ off ∧ off < 0x201C00 ∧ off % 0x40 = 0 then 2 ^ 64 - 16 + nodeLinks ((off - 0x201000) / 0x40) else 2 ^ 64 - 1

/-- The word a shadow holds of a write `v`: the bits it reaches, and of a register of a carrier filter channel the reserved ones too, which the check
of a commit sees (R304) and no register takes (R13). -/
def shadowWord (off m v : Nat) : Nat := if 0x840000 ≤ off ∧ off < 0x880000 ∧ off % 0x100 < 0x18 then v else v &&& m

/-- The committed part of a write: fields of class /C within the words written. -/
def writeCommitted (src off mask v : Nat) (d : RegDesc) (s : State) : State :=
  let m := (d.rw ||| d.wo) &&& d.cm &&& mask &&& reachedBits off
  if m = 0 then s else shadowPut src off m (shadowWord off m v) s

/-- The live part: RW fields take the value, W1C flags written as 1 clear. -/
def writeLive (off mask v : Nat) (d : RegDesc) (s : State) : State :=
  let m := (d.rw - (d.rw &&& d.cm)) &&& mask
  let c := d.w1c &&& mask &&& v
  if m = 0 ∧ c = 0 then s else wr off (dw (masked (masked (rd off s).toNat m v) c 0)) s

/-- A write without an effect of its own. -/
def writePlain (src off mask v : Nat) (d : RegDesc) (s : State) : State := writeCommitted src off mask v d (writeLive off mask v d s)

/-! ## Registers whose writing acts, by block: the response code and the effect -/

/-- DEV_CTRL and the ROUND block (R19, R24 to R26, R60). A write of EPOCH 0 with the strap asserted while STATE is not STOPPED falls under two
sentences of R60, SLVERR and OK: it is answered SLVERR (log 66). -/
def writeRound (src off mask v : Nat) (d : RegDesc) (s : State) : Nat × State :=
  if off = Reg.DEV_CTRL then
    (if roundState s ≠ 0 then (1, s)
     else if s.sec.strap = true ∧ v % 2 = 0 then (0, s)
     else (0, writePlain src off mask v d s))
  else if off = Reg.ROUND_CTRL then roundCtrlWrite v s
  else if off = Reg.ROUND_CFG then (if roundState s ≠ 0 ∨ 4 < v % 8 then (1, s) else (0, writePlain src off mask v d s))
  else if off = Reg.ROUND_EPOCH_SEC then (if roundState s ≠ 0 then (1, s) else (0, writePlain src off mask v d s))
  else if off = Reg.ROUND_EPOCH_NS then
    (if roundState s ≠ 0 ∨ 1000000000 ≤ bitsOf v 29 0 then (1, s) else (0, writePlain src off mask v d s))
  else (0, writePlain src off mask v d s)

/-- Lines no longer pending and enabled may raise ENG_IRQ_LATE anew (R98); an enabled one wakes the engine. -/
def irqChanged (n : Nat) (s : State) : State :=
  let t := latePrune n s
  if irqReady n t ≠ 0 then engineWake n 1 t else t

/-- An engine's control block (R96, R98 to R101). -/
def writeEngine (src off mask v : Nat) (d : RegDesc) (s : State) : Nat × State :=
  let n := (off - 0x2000000) / 0x1000
  if off = Reg.ENG_CTRL n then (0, engCtrlWrite n v s)
  else if off = Reg.ENG_IRQ_SET n then (0, irqSet n v s)
  else if off = Reg.ENG_IRQ_EN n ∨ off = Reg.ENG_IRQ_PEND n then (0, irqChanged n (writePlain src off mask v d s))
  else (0, writePlain src off mask v d s)

/-- An accelerator's block (R150). -/
def writeAcc (src off mask v : Nat) (d : RegDesc) (s : State) : Nat × State :=
  let k := (off - 0x1000000) / 0x10000
  let t := writePlain src off mask v d s
  (0, if off = Reg.ACC_CTRL k ∧ bitOf v 1 = true then accFlush k t else t)

/-- A Churn slice (R193, R197). -/
def writeChurn (src off mask v : Nat) (wide : Bool) (d : RegDesc) (s : State) : Nat × State :=
  let sl := (off - 0x100000) / 0x10000
  if off = Reg.CHURN_CMD sl then (0, churnCmd sl v s)
  else if off = Reg.CHURN_MSG sl then (if wide then (0, churnMsg sl (v % 2 ^ 32) (v / 2 ^ 32) src 0 s) else (1, s))
  else (0, writePlain src off mask v d s)

/-- A cluster NI (R244, R247). -/
def writeNi (src off mask v : Nat) (d : RegDesc) (s : State) : Nat × State :=
  let n := (off - 0x220000) / 0x4000
  if off = Reg.NI_RED_SEND n 0 then redSend (n - 8) v s
  else if off = Reg.NI_RED_SETUP n 0 then redSetup (n - 8) (bitsOf v 11 0) (bitsOf v 47 32) (bitsOf v 60 58) s
  else (0, writePlain src off mask v d s)

/-- A DMA engine (R283, R287, R288): its number and the offset within its block. -/
def dmaEngineAt (off : Nat) : Nat := if off < 0x310000 then 32 else (off - 0x310000) / 0x1000
def writeDma (src off mask v : Nat) (wide : Bool) (d : RegDesc) (s : State) : Nat × State :=
  let e := dmaEngineAt off
  let ch := (off - Reg.dmaChBase e 0) / 0x40
  if off = Reg.DMA_CTRL e then
    (let t := writePlain src off mask v d s
     if bitOf v 1 then (let r := dmaBusClr e t; if r.1 = 0 then r else (r.1, s)) else (0, t))
  else if Reg.dmaChBase e 0 ≤ off ∧ off = Reg.DMA_CH_START e ch then
    (if wide then dmaStart e ch (bitsOf v 47 0) s else (1, s))
  else if Reg.dmaChBase e 0 ≤ off ∧ off = Reg.DMA_CH_CTRL e ch then (0, if bitOf v 0 then dmaStop e ch s else s)
  else (0, writePlain src off mask v d s)

/-- The carrier filter array (R301, R307, R309): a hand-over reaches both halves. -/
def writeCfa (src off mask v : Nat) (d : RegDesc) (s : State) : Nat × State :=
  if off = Reg.CFA_HANDOVER then
    (0, cfaHandover 1 (bitsOf v 9 0) (bitsOf v 26 16) (cfaHandover 0 (bitsOf v 9 0) (bitsOf v 26 16) s))
  else if 0x880000 ≤ off ∧ off < 0x900000 then coefWrite ((off - 0x880000) / 0x800) ((off - 0x880000) % 0x800 / 4) v s
  else if 0x840000 ≤ off ∧ off = Reg.CFA_CH_READY ((off - 0x840000) / 0x100) then (0, readyWrite ((off - 0x840000) / 0x100) v s)
  else (0, writePlain src off mask v d s)

/-- A lane (R343, R349). -/
def writeLane (src off mask v : Nat) (d : RegDesc) (s : State) : Nat × State :=
  let l := (off - 0x400000) / 0x800
  if off = Reg.LANE_CTRL l then
    (let t := if bitOf v 1 then laneClrCeil l s else s
     (0, if bitOf v 0 then laneRestart l t else t))
  else (0, writePlain src off mask v d s)

/-- A MAC (R376). -/
def writeMac (src off mask v : Nat) (d : RegDesc) (s : State) : Nat × State :=
  let m := if 0x710000 ≤ off then 16 else (off - 0x500000) / 0x10000
  if off = Reg.MAC_RXQ_RESET m then (0, rxqReset m (bitsOf v 7 0) s)
  else if off = Reg.MAC_PRE_CFG 16 then (0, s)
  else (0, writePlain src off mask v d s)

/-- The TIME unit (R394, R396 to R398); a half of a 64-bit increment keeps the other half. -/
def writeTime (src off mask v : Nat) (wide : Bool) (d : RegDesc) (s : State) : Nat × State :=
  if off = Reg.TIME_CTRL then
    (if bitOf v 1 then (let r := timeLoad s; if r.1 = 0 then (0, timeValid (bitOf v 0) r.2) else (r.1, s))
     else (0, timeValid (bitOf v 0) s))
  else if off = Reg.TIME_INC ∨ off = Reg.TIME_SLEW_INC then timeIncWrite off (masked (rd off s).toNat mask v) s
  else if off = Reg.TIME_SLEW_CNT then (0, setSlew v s)
  else if off = Reg.TIME_STEP then (if wide then (0, writePlain src off mask v d s) else (1, s))
  else (0, writePlain src off mask v d s)

/-- The Line Port (R433). -/
def writeLine (src off mask v : Nat) (d : RegDesc) (s : State) : Nat × State :=
  let p := (off - 0x701000) / 0x100
  if 0x701000 ≤ off ∧ off = Reg.LINE_PAIR_CTRL p then (0, if bitOf v 0 then pairRestart p s else s)
  else (0, writePlain src off mask v d s)

/-- The mailbox (R461): LEN hands the request over. -/
def writeSec (src off mask v : Nat) (d : RegDesc) (s : State) : Nat × State :=
  if off = Reg.SEC_MBOX_CTRL then
    (0, wr Reg.SEC_MBOX_STATUS 1 (modSec (fun x => { x with mboxLen := bitsOf v 12 0, waits := x.waits ++ [0] }) s))
  else (0, writePlain src off mask v d s)

/-- The MSI-X table (R451): a vector whose mask falls while it is pending is signalled. -/
def writePcie (src off mask v : Nat) (d : RegDesc) (s : State) : Nat × State :=
  let t := writePlain src off mask v d s
  let n := (off - 0xE10000) / 16
  if 0xE10000 ≤ off ∧ off < 0xE18000 ∧ off % 16 = 8 ∧ flagOn off 32 t = false ∧ flagOn (Reg.PCIE_PBA (n / 64)) (n % 64) t = true then
    (0, signalVector n (setFld (Reg.PCIE_PBA (n / 64)) (n % 64) (n % 64) 0 t))
  else (0, t)

/-- The PWR block (R485): a fault whose condition lasts stays set. -/
def writePwr (src off mask v : Nat) (d : RegDesc) (s : State) : Nat × State :=
  if off = Reg.PWR_FAULT then
    (let t := writePlain src off mask v d s
     (0, faultSync (wr Reg.PWR_FAULT (rd Reg.PWR_FAULT t ||| dw t.pwr.conds) t)))
  else (0, writePlain src off mask v d s)

/-- The recorder (R515, R532): in Replay its registers take no writes. -/
def writeRec (src off mask v : Nat) (d : RegDesc) (s : State) : Nat × State :=
  if inReplay s = true ∧ [Reg.REC_CTRL, Reg.REC_CFG, Reg.REC_RING, Reg.REC_SRC, Reg.REC_SRC_MAC, Reg.REC_SRC_LANE].contains off = true then (0, s)
  else
    let t := writePlain src off mask v d s
    (0, if off = Reg.REC_CTRL ∧ bitOf v 1 = true then recTrigWrite t else t)

/-- A write of the words `mask` of the register at `off`, whose card is `d`. -/
def writeReg (src off mask v : Nat) (wide : Bool) (d : RegDesc) (s : State) : Nat × State :=
  if off < 0x20000 then writeRound src off mask v d s
  else if off < 0x100000 then (0, writePlain src off mask v d s)
  else if off < 0x200000 then writeChurn src off mask v wide d s
  else if off < 0x300000 then writeNi src off mask v d s
  else if off < 0x400000 then (if off < 0x308000 ∨ 0x310000 ≤ off then writeDma src off mask v wide d s else (0, writePlain src off mask v d s))
  else if off < 0x500000 then writeLane src off mask v d s
  else if off < 0x600000 ∨ 0x710000 ≤ off ∧ off < 0x720000 then writeMac src off mask v d s
  else if off < 0x700000 then writeTime src off mask v wide d s
  else if off < 0x800000 then writeLine src off mask v d s
  else if off < 0x900000 then writeCfa src off mask v d s
  else if off < 0xA00000 then (0, writePlain src off mask v d s)
  else if off < 0xB00000 then writePwr src off mask v d s
  else if off < 0xC00000 then writeSec src off mask v d s
  else if off < 0xD00000 then (0, writePlain src off mask v d s)
  else if off < 0xE00000 then writeRec src off mask v d s
  else if off < 0x1000000 then writePcie src off mask v d s
  else if off < 0x2000000 then writeAcc src off mask v d s
  else writeEngine src off mask v d s

/-- Is a write of the register that holds byte `off` declined (R236): the mailbox while it is busy (R461), registers only the security
controller writes (R470), the start of a DMA channel that is not idle (R283)? -/
def writeRefused (src off : Nat) (s : State) : Bool :=
  let o := off / 4 * 4
  (decide (fld Reg.SEC_MBOX_STATUS 1 0 s ≠ 0) && (decide (o = Reg.SEC_MBOX_CTRL) || decide (0xB01000 ≤ o ∧ o < 0xB02000))) ||
  (decide (o = Reg.PWR_CAP ∨ o = Reg.PWR_SHED_CFG ∨ o = Reg.PWR_THERM) && decide (src ≠ srcOf .sec s)) ||
  (let e := dmaEngineAt o
   let ch := (o - Reg.dmaChBase e 0) / 0x40
   decide (0x300000 ≤ o ∧ o < 0x330000) && !(decide (0x308000 ≤ o ∧ o < 0x310000)) && decide (Reg.dmaChBase e 0 ≤ o) &&
     decide (o / 8 * 8 = Reg.DMA_CH_START e ch) && decide (dmaState e ch s ≠ 0))

/-- A register write by initiator `src`, accepted now: a 32-bit access writes one word (R11). The codes are checked in the order DECERR,
REFUSED, SLVERR (R237). -/
def csrWrite (src off : Nat) (wide : Bool) (v : Nat) (s : State) : Nat × State :=
  if accessCode off wide = 2 then (2, s)
  else if writeRefused src off s then (7, s)
  else match accessCodeNow off wide s, findReg off with
  | 0, some (d, r) =>
    if wide then writeReg src off (2 ^ 64 - 1) v true d s
    else if r = 4 then writeReg src (off - 4) ((2 ^ 32 - 1) * 2 ^ 32) (v % 2 ^ 32 * 2 ^ 32) false d s
    else writeReg src off (2 ^ 32 - 1) (v % 2 ^ 32) false d s
  | code, _ => (code, s)

/-! ## Accesses and the commit window (R28, R34) -/

/-- The block of CSR space an offset lies in, as a number of its own (R9). -/
def blockOf (off : Nat) : Nat :=
  if (0x310000 ≤ off ∧ off < 0x330000) ∨ 0x2000000 ≤ off then off / 0x1000
  else if off < 0x200000 ∨ (0x500000 ≤ off ∧ off < 0x600000) ∨ 0x1000000 ≤ off then off / 0x10000 * 0x10
  else off / 0x100000 * 0x100

/-- Do two offsets lie in one block, at which accesses of one initiator keep their order (R28)? -/
def sameBlock (a b : Nat) : Bool := blockOf a == blockOf b

/-- Has initiator `src` a register write on its way that was issued before packet `id`? -/
def writesAhead (src : Nat) (id : Option Nat) (s : State) : Bool :=
  s.noc.txns.any fun t => t.src == src && inCsr t.addr && (match t.body with | .write _ => true | _ => false) &&
    (match id with | some i => decide (t.id < i) | none => true) &&
    (match t.stage with | .accepted => false | .served => false | .lost => false | _ => true)

/-- Must a SHADOW_STAMP read wait for earlier writes of its reader? -/
def stampWaits (a : Access) (before : List Access) (s : State) : Bool :=
  !a.write && decide (a.off / 8 * 8 = Reg.SHADOW_STAMP) &&
  (before.any (fun b => b.write && b.src == a.src) || writesAhead a.src a.id s)

/-- Does an access that arrives now stall: by its class in the window, behind stalled accesses, or as a stamp read? -/
def accessStalls (a : Access) (s : State) : Bool :=
  let held := a.write || readStalls a.off a.mirror { s with round := { s.round with sinceC0 := 0 } }
  (windowOpen s && held) || s.csr.stalled.any (fun b => sameBlock a.off b.off && (held || b.src == a.src)) || stampWaits a s.csr.stalled s

/-- An access is accepted: response code, data, the state after it. -/
def accessNow (a : Access) (s : State) : Nat × List Byte × State :=
  if a.write then
    let r := csrWrite a.src a.off a.wide a.value s
    (r.1, [], r.2)
  else csrRead a.src a.off a.wide a.mirror s

/-- The answer of an access goes to its packet, or is what a direct access drew. -/
def accessEnd (a : Access) (r : Nat × List Byte × State) : State :=
  match a.id with
  | some id => answer id r.1 r.2.1 r.2.2
  | none =>
    { r.2.2 with csr := { r.2.2.csr with
      respCode := r.1, respData := dw (leNat (r.2.1.take 8)), respEnd := decide (r.2.1.length = 9) } }

/-- An access arrives at its block. -/
def access (a : Access) (s : State) : State :=
  if accessStalls a s then { s with csr := { s.csr with stalled := s.csr.stalled ++ [a] } } else accessEnd a (accessNow a s)

/-- The first stalled access that may be accepted: not behind another of its initiator at its block, no stamp read that must wait. -/
def stalledNext : List Access → List Access → State → Option (Access × List Access)
  | _, [], _ => none
  | before, a :: t, s =>
    if before.any (fun b => b.src == a.src && sameBlock a.off b.off) || stampWaits a before s then stalledNext (before ++ [a]) t s
    else some (a, before ++ t)

/-- STALLED_ACCESS_ACCEPTED: the window is over (C0+96); the oldest stalled access is accepted. -/
def opStalledAccessAccepted (s : State) : State :=
  let s1 := windowRuns s
  if windowOpen s1 then s1
  else match stalledNext [] s1.csr.stalled s1 with
  | none => s1
  | some x => accessEnd x.1 (accessNow x.1 { s1 with csr := { s1.csr with stalled := x.2 } })

/-- The open window ends, before any other C0 (R29), and the accesses stalled in it are accepted (R27, R31): as often as the first argument says,
since an access may itself open a window (R26). -/
def windowCloses : Nat → State → State
  | 0, s => s
  | k + 1, s =>
    let s1 := passSteps (windowLeft s) s
    match stalledNext [] s1.csr.stalled s1 with
    | none => s1
    | some x => windowCloses k (accessEnd x.1 (accessNow x.1 { s1 with csr := { s1.csr with stalled := x.2 } }))

/-! ## ROUND_BOUNDARY -/

/-- ROUND_BOUNDARY: time runs to C0 of the boundary that comes next (R22, R29), the one that ends the Round, or that begins the first. `power`
(0.01 W), `volt` and `temp` are the means of the ended Round and the hottest diode (R474). Accesses stalled in the window before have been
accepted then. -/
def opRoundBoundary (power volt : Nat) (temp : Int) (s : State) : State :=
  if (boundaryDue s).isNone then s
  else
    let u := windowCloses (s.csr.stalled.length + 1) s
    let shed := shedDecide power volt temp
    match boundaryDue u with
    | none => u
    | some t =>
      let c := passSteps (stepsToC0 t u) u
      if roundState u = 1 then boundaryFirst shed (stepsFor (u.tod - epoch u) (period u)) c else boundaryRunning shed c

/-! ## Direct accesses: the rows for one register -/

/-- A direct access to the register at `off`; the guard of a sleeping or fenced domain answers it (R472), where there is a register
(R237). -/
def direct (a : Access) (s : State) : State :=
  match (match addrDom (0x40000000 + a.off) with | some d => guardCode d s | none => none) with
  | some code => accessEnd a (if accessCode a.off a.wide = 2 then 2 else code, [], s)
  | none => access a s

/-- A CSR offset, the live mirror folded back (R37); beyond CSR space there is no register. -/
def foldMirror (off : Nat) : Nat := if off < 0x10000000 then off % 0x8000000 else off

/-- A direct write and a direct read by initiator `src`. -/
def dWrite (src off : Nat) (wide : Bool) (v : Nat) (s : State) : State := direct ⟨src, foldMirror off, wide, true, v, false, none⟩ s
def dRead (src off : Nat) (wide mirror : Bool) (s : State) : State := direct ⟨src, off, wide, false, 0, mirror, none⟩ s

/-- CSR_WRITE, W1C_CLEAR, COUNTER_CLEAR. -/
def opCsrWrite (src off : Nat) (wide : Bool) (v : Nat) (s : State) : State := dWrite src off wide v s
def opW1cClear (src off v : Nat) (s : State) : State := dWrite src off false v s
def opCounterClear (src off : Nat) (s : State) : State := dWrite src off false 1 s

/-- The rows of the ROUND block (R24 to R26, R34, R60). -/
def opRun (src : Nat) (s : State) : State := dWrite src Reg.ROUND_CTRL false 1 s
def opStop (src : Nat) (s : State) : State := dWrite src Reg.ROUND_CTRL false 0 s
def opManualCommit (src : Nat) (s : State) : State := dWrite src Reg.ROUND_CTRL false 2 s
def opShadowStampRead (src : Nat) (s : State) : State := dRead src Reg.SHADOW_STAMP true false s
def opEpochWrite (src : Nat) (a : Bool) (s : State) : State := dWrite src Reg.DEV_CTRL false (b2n a) s

/-- The rows of an engine's control block (R96, R99 to R101); a kill is a write by an initiator with its HALT, or the
Churn's message. -/
def opEngIrqSet (src n mask : Nat) (s : State) : State := dWrite src (Reg.ENG_IRQ_SET n) false mask s
def opTaskKill (n : Nat) (src : Option (Nat × Bool)) (s : State) : State :=
  match src with
  | some x => dWrite x.1 (Reg.ENG_CTRL n) false (8 + b2n x.2) s
  | none => killMessage n s
def opEngineReset (src n : Nat) (halt : Bool) (s : State) : State := dWrite src (Reg.ENG_CTRL n) false (4 + b2n halt) s
def opHalt (src n : Nat) (s : State) : State := dWrite src (Reg.ENG_CTRL n) false 1 s
def opHaltClear (src n : Nat) (s : State) : State := dWrite src (Reg.ENG_CTRL n) false 0 s
def opStep (src n : Nat) (s : State) : State := dWrite src (Reg.ENG_CTRL n) false 3 s

/-- FLUSH (R150): `v` gives QLIMIT and EN of the same write. -/
def opFlush (src k v : Nat) (s : State) : State := dWrite src (Reg.ACC_CTRL k) false (withBits v 1 1 1) s

/-- The commands of CHURN_CMD (R193) and the read of CHURN_NEXT (R204). -/
def churnWrite (op src sl c : Nat) (s : State) : State := dWrite src (Reg.CHURN_CMD sl) false (op * 0x10000000 + c % 0x2000) s
def opDefine (src sl c : Nat) (s : State) : State := churnWrite 1 src sl c s
def opArm (src sl c : Nat) (s : State) : State := churnWrite 2 src sl c s
def opCancel (src sl c : Nat) (s : State) : State := churnWrite 3 src sl c s
def opRead (src sl c : Nat) (s : State) : State := churnWrite 4 src sl c s
def opRelease (src sl c : Nat) (s : State) : State := churnWrite 5 src sl c s
def opChurnNextRead (src sl e : Nat) (s : State) : State := dRead src (Reg.CHURN_NEXT sl e) true false s

/-- The rows of the reduction registers (R244, R247). -/
def opNiRedSend (src c v : Nat) (ecc : Ecc) (s : State) : State :=
  let go := dWrite src (Reg.NI_RED_SEND (8 + c) 0) true v
  match ecc with
  | .clean => go s
  | .uncorrectable => withBadWord (redRange c v).1 go s
  | .corrected => let t := go s; if t.noc.nextId = s.noc.nextId then t else memCorr (redRange c v).1 t
def opNiRedSetup (src c tag count cls : Nat) (s : State) : State :=
  dWrite src (Reg.NI_RED_SETUP (8 + c) 0) true (cls % 8 * 2 ^ 58 + count % 2 ^ 16 * 2 ^ 32 + tag % 2 ^ 12) s

/-- The rows of a DMA engine (R283, R287, R288); `en` is EN of the write of BUS_CLR. -/
def opDmaChStart (src e ch addr : Nat) (s : State) : State := dWrite src (Reg.DMA_CH_START e ch) true (addr % 2 ^ 48) s
def opDmaChStop (src e ch : Nat) (s : State) : State := dWrite src (Reg.DMA_CH_CTRL e ch) false 1 s
def opBusClr (src e : Nat) (en : Bool) (s : State) : State := dWrite src (Reg.DMA_CTRL e) false (2 + b2n en) s

/-- The rows of the carrier filter array (R301, R307). -/
def opCfaChReadyWrite (src ch v : Nat) (s : State) : State := dWrite src (Reg.CFA_CH_READY ch) false v s
def opCfaCoefWrite (src k i v : Nat) (s : State) : State := dWrite src (Reg.CFA_COEF k i) false v s

/-- The rows of lanes, MACs and pairs (R343, R349, R376, R433). -/
def opTetherRestart (src l : Nat) (s : State) : State := dWrite src (Reg.LANE_CTRL l) false 1 s
def opClrCeil (src l : Nat) (s : State) : State := dWrite src (Reg.LANE_CTRL l) false 2 s
def opMacRxqReset (src m q : Nat) (s : State) : State := dWrite src (Reg.MAC_RXQ_RESET m) false q s
def opLinePairRestart (src p : Nat) (s : State) : State := dWrite src (Reg.LINE_PAIR_CTRL p) false 1 s

/-- The rows of the TIME unit (R394 to R397). -/
def opTimeIncWrite (src v : Nat) (s : State) : State := dWrite src Reg.TIME_INC true v s
def opTimeSlewIncWrite (src v : Nat) (s : State) : State := dWrite src Reg.TIME_SLEW_INC true v s
def opTimeSlewCntWrite (src v : Nat) (s : State) : State := dWrite src Reg.TIME_SLEW_CNT false v s
def opTimeNowSecRead (src : Nat) (s : State) : State := dRead src Reg.TIME_NOW_SEC true false s
def opTimeNowSubRead (src : Nat) (s : State) : State := dRead src Reg.TIME_NOW_SUB true false s
def opTimeValidWrite (src : Nat) (on : Bool) (s : State) : State := dWrite src Reg.TIME_CTRL false (b2n on) s
def opTimeLoad (src : Nat) (valid : Bool) (s : State) : State := dWrite src Reg.TIME_CTRL false (2 + b2n valid) s

/-- The rows of SPARE_REQ, SPARE_BIST (committed; R503, R504, R507, R509) and REC_CTRL.TRIG (R515), whose write carries EN. -/
def opSpareReqEngine (src n : Nat) (rotate : Bool) (s : State) : State :=
  dWrite src Reg.SPARE_REQ false (0x10000000 + b2n rotate * 0x8000000 + n % 512) s
def opSpareReqAccelerator (src k : Nat) (s : State) : State := dWrite src Reg.SPARE_REQ false (0x20000000 + k % 512) s
def opSpareReqLane (src l : Nat) (s : State) : State := dWrite src Reg.SPARE_REQ false (0x30000000 + l % 512) s
def opSpareBist (src kind cluster target : Nat) (s : State) : State :=
  dWrite src Reg.SPARE_BIST false (kind % 16 * 0x10000000 + cluster % 32 * 256 + target % 128) s
def opRecTrig (src : Nat) (en : Bool) (s : State) : State := dWrite src Reg.REC_CTRL false (2 + b2n en) s

/-! ## Meanings of the commands -/

/-- ROUND_BOUNDARY (R27). -/
def execRoundBoundary (power volt : Nat) (temp : Int) (s : State) : Host.Outcome State Fault Refusal :=
  .next (gated false true (opRoundBoundary power volt temp) s)
/-- RUN (R24). -/
def execRun (src : Nat) (s : State) : Host.Outcome State Fault Refusal := .next (gated false true (opRun src) s)
/-- STOP (R25). -/
def execStop (src : Nat) (s : State) : Host.Outcome State Fault Refusal := .next (gated false true (opStop src) s)
/-- MANUAL_COMMIT (R26). -/
def execManualCommit (src : Nat) (s : State) : Host.Outcome State Fault Refusal := .next (gated false true (opManualCommit src) s)
/-- SHADOW_STAMP_READ (R34). -/
def execShadowStampRead (src : Nat) (s : State) : Host.Outcome State Fault Refusal := .next (gated false true (opShadowStampRead src) s)
/-- EPOCH_WRITE (R60). -/
def execEpochWrite (src : Nat) (a : Bool) (s : State) : Host.Outcome State Fault Refusal := .next (gated false true (opEpochWrite src a) s)
/-- CSR_WRITE (R31). -/
def execCsrWrite (src off : Nat) (wide : Bool) (v : Nat) (s : State) : Host.Outcome State Fault Refusal :=
  .next (gated false (below 18446744073709551616 v) (opCsrWrite src off wide v) s)
/-- W1C_CLEAR (R39). -/
def execW1cClear (src off v : Nat) (s : State) : Host.Outcome State Fault Refusal :=
  .next (gated false (below 18446744073709551616 v) (opW1cClear src off v) s)
/-- COUNTER_CLEAR (R36). -/
def execCounterClear (src off : Nat) (s : State) : Host.Outcome State Fault Refusal := .next (gated false true (opCounterClear src off) s)
/-- STALLED_ACCESS_ACCEPTED (R28). -/
def execStalledAccessAccepted (s : State) : Host.Outcome State Fault Refusal := .next (gated false true opStalledAccessAccepted s)
/-- ENG_IRQ_SET (R96). -/
def execEngIrqSet (src n mask : Nat) (s : State) : Host.Outcome State Fault Refusal :=
  .next (gated false (below 512 n && below 4294967296 mask) (opEngIrqSet src n mask) s)
/-- TASK_KILL (R99). -/
def execTaskKill (n : Nat) (src : Option (Nat × Bool)) (s : State) : Host.Outcome State Fault Refusal :=
  .next (gated false (below 512 n) (opTaskKill n src) s)
/-- ENGINE_RESET (R100). -/
def execEngineReset (src n : Nat) (halt : Bool) (s : State) : Host.Outcome State Fault Refusal :=
  .next (gated false (below 512 n) (opEngineReset src n halt) s)
/-- HALT (R101). -/
def execHalt (src n : Nat) (s : State) : Host.Outcome State Fault Refusal := .next (gated false (below 512 n) (opHalt src n) s)
/-- HALT_CLEAR (R101). -/
def execHaltClear (src n : Nat) (s : State) : Host.Outcome State Fault Refusal := .next (gated false (below 512 n) (opHaltClear src n) s)
/-- STEP (R101). -/
def execStep (src n : Nat) (s : State) : Host.Outcome State Fault Refusal := .next (gated false (below 512 n) (opStep src n) s)
/-- FLUSH (R150). -/
def execFlush (src k v : Nat) (s : State) : Host.Outcome State Fault Refusal :=
  .next (gated false (below 68 k && below 18446744073709551616 v) (opFlush src k v) s)
/-- DEFINE (R193). -/
def execDefine (src sl c : Nat) (s : State) : Host.Outcome State Fault Refusal :=
  .next (gated false (below 8 sl && below 8192 c) (opDefine src sl c) s)
/-- ARM (R193). -/
def execArm (src sl c : Nat) (s : State) : Host.Outcome State Fault Refusal := .next (gated false (below 8 sl && below 8192 c) (opArm src sl c) s)
/-- CANCEL (R205). -/
def execCancel (src sl c : Nat) (s : State) : Host.Outcome State Fault Refusal :=
  .next (gated false (below 8 sl && below 8192 c) (opCancel src sl c) s)
/-- READ (R193). -/
def execRead (src sl c : Nat) (s : State) : Host.Outcome State Fault Refusal := .next (gated false (below 8 sl && below 8192 c) (opRead src sl c) s)
/-- RELEASE (R193). -/
def execRelease (src sl c : Nat) (s : State) : Host.Outcome State Fault Refusal :=
  .next (gated false (below 8 sl && below 8192 c) (opRelease src sl c) s)
/-- CHURN_NEXT_READ (R204). -/
def execChurnNextRead (src sl e : Nat) (s : State) : Host.Outcome State Fault Refusal :=
  .next (gated false (below 8 sl && below 64 e) (opChurnNextRead src sl e) s)
/-- NI_RED_SEND (R244). -/
def execNiRedSend (src c v : Nat) (s : State) (ecc : Ecc := .clean) : Host.Outcome State Fault Refusal :=
  .next (gated false (below 32 c && below 18446744073709551616 v) (opNiRedSend src c v ecc) s)
/-- NI_RED_SETUP (R247). -/
def execNiRedSetup (src c tag count cls : Nat) (s : State) : Host.Outcome State Fault Refusal :=
  .next (gated false (below 32 c && below 4096 tag && below 8 cls) (opNiRedSetup src c tag count cls) s)
/-- DMA_CH_START (R283). -/
def execDmaChStart (src e ch addr : Nat) (s : State) : Host.Outcome State Fault Refusal :=
  .next (gated false (below 33 e && chanOk e ch) (opDmaChStart src e ch addr) s)
/-- BUS_CLR (R288). -/
def execBusClr (src e : Nat) (en : Bool) (s : State) : Host.Outcome State Fault Refusal := .next (gated false (below 33 e) (opBusClr src e en) s)
/-- DMA_CH_STOP (R287). -/
def execDmaChStop (src e ch : Nat) (s : State) : Host.Outcome State Fault Refusal :=
  .next (gated false (below 33 e && chanOk e ch) (opDmaChStop src e ch) s)
/-- CFA_CH_READY_WRITE (R307). -/
def execCfaChReadyWrite (src ch v : Nat) (s : State) : Host.Outcome State Fault Refusal :=
  .next (gated false (below 1024 ch && below 18446744073709551616 v) (opCfaChReadyWrite src ch v) s)
/-- CFA_COEF_WRITE (R301). -/
def execCfaCoefWrite (src k i v : Nat) (s : State) : Host.Outcome State Fault Refusal :=
  .next (gated false (below 256 k && below 384 i && below 18446744073709551616 v) (opCfaCoefWrite src k i v) s)
/-- TETHER_RESTART (R343). -/
def execTetherRestart (src l : Nat) (s : State) : Host.Outcome State Fault Refusal := .next (gated false (below 32 l) (opTetherRestart src l) s)
/-- CLR_CEIL (R349). -/
def execClrCeil (src l : Nat) (s : State) : Host.Outcome State Fault Refusal := .next (gated false (below 32 l) (opClrCeil src l) s)
/-- MAC_RXQ_RESET (R376). -/
def execMacRxqReset (src m q : Nat) (s : State) : Host.Outcome State Fault Refusal :=
  .next (gated false (below 17 m && below 256 q) (opMacRxqReset src m q) s)
/-- TIME_INC_WRITE (R394). -/
def execTimeIncWrite (src v : Nat) (s : State) : Host.Outcome State Fault Refusal :=
  .next (gated false (below 18446744073709551616 v) (opTimeIncWrite src v) s)
/-- TIME_SLEW_INC_WRITE (R394). -/
def execTimeSlewIncWrite (src v : Nat) (s : State) : Host.Outcome State Fault Refusal :=
  .next (gated false (below 18446744073709551616 v) (opTimeSlewIncWrite src v) s)
/-- TIME_SLEW_CNT_WRITE (R394). -/
def execTimeSlewCntWrite (src v : Nat) (s : State) : Host.Outcome State Fault Refusal :=
  .next (gated false (below 18446744073709551616 v) (opTimeSlewCntWrite src v) s)
/-- TIME_NOW_SEC_READ (R395). -/
def execTimeNowSecRead (src : Nat) (s : State) : Host.Outcome State Fault Refusal := .next (gated false true (opTimeNowSecRead src) s)
/-- TIME_NOW_SUB_READ (R395). -/
def execTimeNowSubRead (src : Nat) (s : State) : Host.Outcome State Fault Refusal := .next (gated false true (opTimeNowSubRead src) s)
/-- TIME_VALID_WRITE (R396). -/
def execTimeValidWrite (src : Nat) (on : Bool) (s : State) : Host.Outcome State Fault Refusal := .next (gated false true (opTimeValidWrite src on) s)
/-- TIME_LOAD (R397). -/
def execTimeLoad (src : Nat) (valid : Bool) (s : State) : Host.Outcome State Fault Refusal := .next (gated false true (opTimeLoad src valid) s)
/-- LINE_PAIR_RESTART (R433). -/
def execLinePairRestart (src p : Nat) (s : State) : Host.Outcome State Fault Refusal := .next (gated false (below 16 p) (opLinePairRestart src p) s)
/-- SPARE_REQ_ENGINE (R503). -/
def execSpareReqEngine (src n : Nat) (rotate : Bool) (s : State) : Host.Outcome State Fault Refusal :=
  .next (gated false (below 512 n) (opSpareReqEngine src n rotate) s)
/-- SPARE_REQ_ACCELERATOR (R504). -/
def execSpareReqAccelerator (src k : Nat) (s : State) : Host.Outcome State Fault Refusal :=
  .next (gated false (below 68 k) (opSpareReqAccelerator src k) s)
/-- SPARE_REQ_LANE (R507). -/
def execSpareReqLane (src l : Nat) (s : State) : Host.Outcome State Fault Refusal := .next (gated false (below 32 l) (opSpareReqLane src l) s)
/-- SPARE_BIST (R509). -/
def execSpareBist (src kind cluster target : Nat) (s : State) : Host.Outcome State Fault Refusal :=
  .next (gated false true (opSpareBist src kind cluster target) s)
/-- REC_TRIG (R515). -/
def execRecTrig (src : Nat) (en : Bool) (s : State) : Host.Outcome State Fault Refusal := .next (gated false true (opRecTrig src en) s)

end Sys2Proof.Machine
end

