-- ==== Sys2Proof/Machine/Bus.lean ====
section
/-! DEFINITION. Packets at their target (R229), the host's accesses and its window, PCI Express resets and link (R446 to R451, R463). -/
namespace Sys2Proof.Machine

/-! ## Acceptance (R229) -/

/-- The next number of acceptance. -/
def markAccepted (id : Nat) (s : State) : State :=
  { txnMod id (fun u => { u with stage := .accepted, arr := s.noc.arrivals }) s with
    noc := { (txnMod id (fun u => { u with stage := .accepted, arr := s.noc.arrivals }) s).noc with arrivals := s.noc.arrivals + 1 } }

/-- The code of an access of another width than 4 or 8 bytes (R11): SLVERR, or DECERR where no register lies (R12, R237). -/
def otherWidth (off : Nat) : Nat := if (findReg (off / 4 * 4)).isNone then 2 else 1

/-- A register access by packet. -/
def csrPacket (id : Nat) (t : Txn) (s : State) : State :=
  let off := csrOff t.addr
  let m := csrMirror t.addr
  match t.body with
  | .read 4 => access ⟨t.src, off, false, false, 0, m, some id⟩ s
  | .read 8 => access ⟨t.src, off, true, false, 0, m, some id⟩ s
  | .read _ => answer id (otherWidth off) [] s
  | .write bs =>
    if bs.length = 4 ∨ bs.length = 8 then access ⟨t.src, off, decide (bs.length = 8), true, leNat bs, m, some id⟩ s
    else answer id (if (findReg (off / 4 * 4)).isSome && writeRefused t.src off s then 7 else otherWidth off) [] s
  | _ => s

/-- Does Replay answer host-window reads from the recording (R519)? -/
def replayHost (s : State) : Bool := inReplay s && (memNat (s.recorder.repBase + 72) 4 s).testBit 4

/-- Is the host reachable (R449)? -/
def hostUp (s : State) : Bool := flagOn Reg.PCIE_LINK_STATUS 16 s && s.sec.bme

/-- A host-window packet is sent on the link, or answered REFUSED (R449). -/
def hostPacket (id : Nat) (t : Txn) (s : State) : State :=
  match t.body with
  | .read _ => if hostUp s || replayHost s then s else answer id 7 [] s
  | _ => if hostUp s then s else answer id 7 [] s

/-- PACKET_ACCEPTED: the target takes the oldest packet of its NI, class and port; a register block and a DMA engine act at once. A packet at the
guard of a sleeping or fenced domain is not accepted (R241), nor a partial for which no booked buffer is free (R247). -/
def opPacketAccepted (id : Nat) (s : State) : State :=
  match txnOf id s with
  | none => s
  | some t =>
    if t.stage = .sent ∧ oldestOf t s = true ∧ portTurn t s = true ∧ redRoom t s = true ∧ (t.guardCode s).isNone = true then
      let s1 := markAccepted id (portTaken t s)
      match t.body with
      | .dmaStart e ch addr =>
        if ch < dmaChans e then (let r := dmaStart e ch addr s1; answer id r.1 [] r.2) else answer id 2 [] s1
      | .read _ => if inCsr t.addr then csrPacket id t s1 else if inHostWindow t.addr then hostPacket id t s1 else s1
      | .write bs => if inCsr t.addr then csrPacket id t s1 else if inHostWindow t.addr then hostPacket id t s1 else staleWords t.addr bs.length s1
      | _ => s1
    else s

/-- ACCEPTANCE_NOTICE: the notice reaches the originating NI; the first half of a stream descriptor may be complete (R286). -/
def opAcceptanceNotice (id : Nat) (s : State) : State :=
  match txnOf id s with
  | none => s
  | some t =>
    let s1 := noticeArrives id s
    match t.agent with
    | .dma e ch => dmaHalf e ch (dmaSync e s1)
    | _ => s1

/-! ## Host accesses (R447, R448) -/

/-- Registers the host may reach in every mode: the mailbox, the MSI-X table and PBA. -/
def hostOpen (off : Nat) : Bool :=
  decide (off = Reg.SEC_MBOX_CTRL) || decide (off = Reg.SEC_MBOX_STATUS) || decide (0xB01000 ≤ off ∧ off < 0xB03000) ||
  decide (0xE10000 ≤ off ∧ off < 0xE18100)

/-- HOST_MODE as it acts: 3 acts as 2, and Replay limits as 2 (R519). -/
def hostMode (s : State) : Nat := if inReplay s then 2 else min 2 (fld Reg.SEC_HOST_POLICY 1 0 s)

/-- The address of an access: CSR window or fabric window. -/
def hostAddr (csr : Bool) (off : Nat) (s : State) : Nat :=
  if csr then 0x40000000 + off % 0x10000000 else fld Reg.PCIE_FWIN_BASE 47 32 s * 2 ^ 32 + off % 0x1000000000

/-- Does HOST_MODE allow the access? -/
def hostAllowed (csr : Bool) (off : Nat) (write : Bool) (len : Nat) (s : State) : Bool :=
  let a := hostAddr csr off s
  let base := fld Reg.SEC_HOST_DRAM 47 20 s * 0x100000
  match hostMode s with
  | 0 => true
  | 1 => if csr then !write || hostOpen (off % 0x8000000)
    else decide (base ≤ a) && decide (a + len ≤ base + fld Reg.SEC_HOST_DRAM 63 48 s * 0x100000)
  | _ => csr && hostOpen (off % 0x8000000)

/-- The completion status of a response (R447). -/
def cplStatus (code : Nat) : Nat := if code = 0 then 0 else if code = 2 then 1 else 2

/-- Answers that came for the host complete its reads. -/
def hostCollect (s : State) : State :=
  forEach (s.noc.txns.filter fun t => decide (t.agent = .host) && t.ans.isSome) (fun t u =>
    modSec (fun x => { x with hostCpl := t.ans.map fun a => (cplStatus a.1, a.2.take t.body.span) }) (takeAns t.id u)) s

/-- A host read completes with Completer Abort without entering the fabric. -/
def hostAbort (s : State) : State := modSec (fun x => { x with hostCpl := some (2, []) }) s

/-- A host write enters the fabric: register writes as REQ, memory writes as STR, both posted (R224, R447). -/
def hostWrite (csr : Bool) (a : Nat) (bs : List Byte) (s : State) : State :=
  if csr then send .host 1 0 a (.write bs) true false s
  else forEach (piecesOf a bs.length) (fun p t => send .host 1 2 p.1 (.write (sliceOf bs (p.1 - a) p.2)) true false t) s

/-- HOST_ACCESS: a read of `len` bytes, or a write of bytes, at offset `off` of the CSR window or of the fabric window. In Standby all but the
mailbox answers as a sleeping domain (R473); in Deep Standby the interface is down. -/
def opHostAccess (csr : Bool) (off : Nat) (data : Option (List Byte)) (len : Nat) (s0 : State) : State :=
  let s := hostCollect s0
  let n := match data with | some bs => bs.length | none => len
  let a := hostAddr csr off s
  if flagOn Reg.PCIE_LINK_STATUS 16 s = false then s
  else if hostAllowed csr off data.isSome n s = false then
    countEvent Reg.PCIE_HOST_REFUSED_CNT Reg.PCIE_EVT_STATUS 1 0x049 0 (if data.isSome then s else hostAbort s)
  else if devState s = 2 ∧ (csr && hostOpen (off % 0x8000000)) = false then
    (if data.isSome then postedError 3 1 a (srcOf .host s) 4 s else hostAbort s)
  else match data with
    | some bs => hostWrite csr a bs (recKind 4 0x08 0 (leBytes 8 a ++ leBytes 4 bs.length ++ bs) s)
    | none =>
      if csr then send .host 1 0 a (.read len) false false s
      else forEach (piecesOf a len) (fun p t => send .host 1 0 p.1 (.read p.2) false false t) s

/-! ## The host window (R449) -/

/-- The fabric response of an outcome at the link: 0 Successful Completion, 1 Unsupported Request, 2 Completer Abort or poisoned data, 3 completion
timeout. -/
def windowCode (outcome : Nat) : Nat :=
  match outcome with | 0 => 0 | 1 => 2 | 2 => 1 | _ => 3

/-- HOST_WINDOW_COMPLETION: the request of packet `id` completes at the link. -/
def opHostWindowCompletion (id outcome : Nat) (data : List Byte) (s : State) : State :=
  match txnOf id s with
  | none => s
  | some t =>
    if t.stage = .accepted ∧ inHostWindow t.addr = true then
      match t.body with
      | .read len =>
        if replayHost s || (decide (outcome = 0) && decide (data.length ≠ len)) then s
        else
          let d := if outcome = 0 then data else []
          answer id (windowCode outcome) d (recKind 4 0x08 1 (leBytes 4 (windowCode outcome) ++ d) s)
      | .write _ => answer id (windowCode outcome) [] s
      | _ => s
    else s

/-! ## Resets and the link (R450, R463) -/

/-- Registers of a range return to their reset values, and writes that wait for them are dropped. -/
def regsReset (lo hi : Nat) (s : State) : State :=
  { s with csr := { s.csr with
    live := s.csr.live.filter fun r => decide (r.1 < lo) || decide (hi ≤ r.1)
    shadow := s.csr.shadow.filter fun x => decide (x.off < lo) || decide (hi ≤ x.off) } }

/-- FUNCTION_LEVEL_RESET: the MSI-X table and PBA, Bus Master Enable, PCIE_FWIN_BASE. -/
def opFunctionLevelReset (s : State) : State :=
  modSec (fun x => { x with bme := false }) (regsReset 0xE10000 0xE18100 (regsReset Reg.PCIE_FWIN_BASE (Reg.PCIE_FWIN_BASE + 8) s))

/-- PCIE_LINK: the link goes up at a generation, width and mode, or down; at shedding level 4 the generation is limited (R474). -/
def opPcieLink (up : Bool) (gen width : Nat) (flit : Bool) (s : State) : State :=
  let was := flagOn Reg.PCIE_LINK_STATUS 16 s
  let top := if fld Reg.PWR_STATUS 10 8 s = 4 then max 1 (fld Reg.PWR_SHED_CFG 10 8 s) else 7
  let word := if up then 0x10000 + b2n flit * 0x8000 + width % 32 * 256 + min (gen % 8) top else 0
  let s1 := wr Reg.PCIE_LINK_STATUS (dw word) s
  let s2 := if was && !up then bump Reg.PCIE_LINK_DOWN_CNT s1 else s1
  if was = up then s2 else flagEvent Reg.PCIE_EVT_STATUS 0 0x048 0 s2

/-- PCIE_RESET_SIGNAL: the link and configuration space too. -/
def opPcieResetSignal (s : State) : State := opFunctionLevelReset (opPcieLink false 0 0 false s)

/-- BUS_MASTER_ENABLE: the host writes it in configuration space. -/
def opBusMasterEnable (on : Bool) (s : State) : State :=
  if flagOn Reg.PCIE_LINK_STATUS 16 s then modSec (fun x => { x with bme := on }) s else s

/-! ## Meanings of the commands -/

/-- PACKET_ACCEPTED (R229). -/
def execPacketAccepted (id : Nat) (s : State) : Host.Outcome State Fault Refusal := .next (gated false true (opPacketAccepted id) s)
/-- ACCEPTANCE_NOTICE (R229). -/
def execAcceptanceNotice (id : Nat) (s : State) : Host.Outcome State Fault Refusal := .next (gated false true (opAcceptanceNotice id) s)
/-- HOST_ACCESS (R448). -/
def execHostAccess (csr : Bool) (off : Nat) (data : Option (List Byte)) (len : Nat) (s : State) : Host.Outcome State Fault Refusal :=
  .next (gated false true (opHostAccess csr off data len) s)
/-- HOST_WINDOW_COMPLETION (R449). -/
def execHostWindowCompletion (id outcome : Nat) (data : List Byte) (s : State) : Host.Outcome State Fault Refusal :=
  .next (gated false true (opHostWindowCompletion id outcome data) s)
/-- PCIE_RESET_SIGNAL (R450). -/
def execPcieResetSignal (s : State) : Host.Outcome State Fault Refusal := .next (gated false true opPcieResetSignal s)
/-- FUNCTION_LEVEL_RESET (R450). -/
def execFunctionLevelReset (s : State) : Host.Outcome State Fault Refusal := .next (gated false true opFunctionLevelReset s)
/-- PCIE_LINK (R463). -/
def execPcieLink (up : Bool) (gen width : Nat) (flit : Bool) (s : State) : Host.Outcome State Fault Refusal :=
  .next (gated false true (opPcieLink up gen width flit) s)
/-- BUS_MASTER_ENABLE (R449). -/
def execBusMasterEnable (on : Bool) (s : State) : Host.Outcome State Fault Refusal := .next (gated false true (opBusMasterEnable on) s)

end Sys2Proof.Machine
end

