-- ==== Sys2Proof/Machine/Replay.lean ====
section
/-! DEFINITION. Replay: the delivery of recorded inputs (R519). Payload layouts are those the recorder writes (log 31). -/
namespace Sys2Proof.Machine

/-- A FRAME record enters the MAC's receive path; the PCS error shows as FCS_ERR of its flag word. -/
def replayFrame (m : Nat) (p : List Byte) (s : State) : State :=
  let n := p.length - 4
  if m < 17 then frameIn m (p.take n) (bitOf (leAt p n 4) 27) (tsCorrect m false (macConst m false s) s.tod s) s else s

/-- A TETHER record enters the lane's receive path, its first character by its BLOCK field. -/
def replayBlock (l off : Nat) (p : List Byte) (s : State) : State :=
  blockIn l ((if leAt p 0 2 = 0 then k285 else k281) :: dataChars (p.take (p.length - 1))) 0 (off * 256) s

/-- A TIME record of a capture is written to its capture registers. -/
def replayCapture (n : Nat) (p : List Byte) (s : State) : State :=
  if n < 2 then timeEdge n (unitsOf (leAt p 0 8) (leAt p 8 8)) s else s

/-- A CMD record is carried out as accepted, without checks 3 to 9. -/
def replayCommand (path : Nat) (p : List Byte) (s : State) : State :=
  let n := p.length - 8
  let bs := p.take n
  let t := if cmdAtOnce (cmdOp bs) || !(targetsRun s) then none else some (leAt p n 8)
  cmdAccept { path := path } bs t s

/-- An HKC record: the values of a pass, or an urgent result. -/
def replayHkc (src : Nat) (p : List Byte) (s : State) : State :=
  if src = 0 then
    bump Reg.HKC_PASS_CNT (forEach (upto (p.length / 4)) (fun i t => hkcResult (leAt p (4 * i) 1) (leAt p (4 * i + 2) 2) t) s)
  else hkcUrgentResult (src - 1) (leAt p 0 4 % 2 ^ 24) (leAt p 0 4 / 2 ^ 24) s

/-- The oldest host-window read that waits for its answer. -/
def hostReadWaiting (s : State) : Option Txn :=
  s.noc.txns.find? fun t => decide (t.stage = .accepted) && inHostWindow t.addr && (match t.body with | .read _ => true | _ => false)

/-- A HOST record: a host write, or the answer of a host-window read. -/
def replayHostInput (src : Nat) (p : List Byte) (s : State) : State :=
  if src = 0 then hostWrite (inCsr (leAt p 0 8)) (leAt p 0 8) (sliceOf p 12 (leAt p 8 4)) s
  else match hostReadWaiting s with
    | some t => answer t.id (leAt p 0 4) (p.drop 4) s
    | none => s

/-- A lane takes a recorded state and rate. -/
def replayLane (l st r : Nat) (s : State) : State :=
  let was := laneState l s
  let s1 := laneSetRate l r (if was = 5 then laneForget l (laneLeaveActive l s) else s)
  if st = 5 then enterActive l s1
  else
    let s2 := laneSetState l st s1
    if st = 0 ∧ was ≠ 0 ∧ was ≠ 6 then laneEventOnce l 1 s2 else s2

/-- A LINK record sets the state of its lane, port or pair. -/
def replayLink (src w : Nat) (s : State) : State :=
  let st := w % 256
  match w / 256 % 256 with
  | 0 => if src < 32 then replayLane src st (w / 65536 % 65536) s else s
  | 1 => if src < 16 then (if st = 3 then portRise src s else setPort src st (portFall src (portFirst src s) s)) else s
  | _ => if src < 16 then setPairState src st s else s

/-- Deliver a record's payload to the point at which it was recorded. -/
def replayDeliver (typ src off : Nat) (p : List Byte) (s : State) : State :=
  match typ with
  | 0x01 => replayFrame src p s
  | 0x02 => replayBlock src off p s
  | 0x04 => replayCapture (src - 1) p s
  | 0x05 => replayCommand src p s
  | 0x06 => replayHkc src p s
  | 0x08 => replayHostInput src p s
  | 0x0B => replayLink src (leAt p 0 4) s
  | _ => s

/-- REPLAY_RECORD_DELIVERY: the next recorded input is delivered in its Round at its offset. The TIME record of a commit waits for that commit. -/
def opReplayRecordDelivery (s : State) : State :=
  if inReplay s && recState s == 5 && roundsRun s then
    let s1 := recNext s
    let pos := s1.recorder.repPos
    let h := recAt pos s1
    if pos < recEnd s1 ∧ h.2.2.1 = roundNow s1 % 2 ^ 32 ∧ ¬(h.1 = 4 ∧ h.2.1 = 0) then
      let n := h.2.2.2.1 - s1.round.sinceC0
      let s2 := modRec (fun x => { x with repPos := recAfter pos s1 }) s1
      replayDeliver h.1 h.2.1 h.2.2.2.1 (recPayload pos s1) (if room n s2 then passSteps n s2 else s2)
    else s1
  else s

/-! ## Meanings of the commands -/

/-- REPLAY_RECORD_DELIVERY (R519). -/
def execReplayRecordDelivery (s : State) : Host.Outcome State Fault Refusal := .next (gated false true opReplayRecordDelivery s)

end Sys2Proof.Machine
end

