-- ==== Sys2Proof/Machine/Boot.lean ====
section
/-! DEFINITION. Reset and the Starter (R434 to R445, R365, R518, R519): an image is checked, loaded and applied, or the module enters
recovery. -/
namespace Sys2Proof.Machine

/-! ## The image (R437, R438) -/

/-- The base of a slot in the flash, and `n` bytes at an offset of it. -/
def slotBase (slot : Nat) : Nat := if slot = 0 then 0x100000 else 0x4000000
def slotRead (slot off n : Nat) (s : State) : List Byte := norRead (slotBase slot + off) n s

/-- Fields of an image header. -/
def imgAlg (h : List Byte) : Nat := leAt h 6 1
def imgKeySlot (h : List Byte) : Nat := leAt h 7 1
def imgLen (h : List Byte) : Nat := leAt h 8 4
def imgSvn (h : List Byte) : Nat := leAt h 12 2
def imgSections (h : List Byte) : Nat := leAt h 14 2
def imgKeyOff (h : List Byte) : Nat := leAt h 16 4
def imgSigOff (h : List Byte) : Nat := leAt h 20 4

/-- Lengths of the public key and of the signature by ALG. -/
def keyLen (alg : Nat) : Nat := match alg with | 1 => 1312 | 2 => 1952 | _ => 2592
def sigLen (alg : Nat) : Nat := match alg with | 1 => 2420 | 2 => 3309 | _ => 4627

/-- Fields of a section table entry. -/
def secType (e : List Byte) : Nat := leAt e 0 2
def secCritical (e : List Byte) : Bool := bitOf (leAt e 2 2) 0
def secOffset (e : List Byte) : Nat := leAt e 4 4
def secLength (e : List Byte) : Nat := leAt e 8 4
def secDest (e : List Byte) : Nat := leAt e 16 8
def secDigest (e : List Byte) : List Byte := sliceOf e 32 32

/-- The entries of a section table. -/
def sectionsOf (table : List Byte) : List (List Byte) := (upto (table.length / 64)).map fun i => sliceOf table (64 * i) 64

/-- Does any range of a list share a byte with a later one, or reach beyond `len`? -/
def rangesBad (len : Nat) : List (Nat × Nat) → Bool
  | [] => false
  | x :: t => decide (len < x.1 + x.2) || t.any (fun y => overlap x.1 x.2 y.1 y.2) || rangesBad len t

/-- Cause 2 of R440 for a header, its table not yet read. -/
def headerBad (h : List Byte) : Bool :=
  decide (leAt h 0 4 ≠ 0x4741454B) || decide (leAt h 4 2 ≠ 1) || decide (imgAlg h = 0 ∨ 3 < imgAlg h) ||
  decide (imgSections h = 0 ∨ 256 < imgSections h) || decide (66060288 < imgLen h) || !(zeros (h.drop 32))

/-- Cause 2 for the table: reserved fields, and the regions of R437. -/
def regionsBad (h table : List Byte) : Bool :=
  decide (imgKeyOff h % 64 ≠ 0) || decide (imgSigOff h % 64 ≠ 0) ||
  (sectionsOf table).any (fun e => decide (leAt e 2 2 / 2 ≠ 0) || !(zeros (sliceOf e 12 4)) || !(zeros (sliceOf e 24 8))) ||
  rangesBad (imgLen h) ([(0, 256), (256, 64 * imgSections h), (imgKeyOff h, keyLen (imgAlg h)), (imgSigOff h, sigLen (imgAlg h))] ++
    (sectionsOf table).map fun e => (secOffset e, secLength e))

/-- M of an image (R439). -/
def imageDigest (h table : List Byte) : List Byte := sha3 (h ++ table)

/-- The first failing check of R440 up to cause 7, 0 where all hold; `nor` says a read of the slot fails. -/
def slotCause (slot : Nat) (nor : Bool) (s : State) : Nat :=
  let h := slotRead slot 0 256 s
  let table := slotRead slot 256 (64 * imgSections h) s
  let key := slotRead slot (imgKeyOff h) (keyLen (imgAlg h)) s
  let k := imgKeySlot h
  if nor then 1
  else if headerBad h || regionsBad h table then 2
  else if !(decide (k < 4)) || !(flagOn Reg.SEC_FUSE_POLICY (4 + k) s) || decide (sha3 key ≠ tabGet (fun _ => []) s.sec.keyHash k) then 3
  else if flagOn Reg.SEC_FUSE_POLICY (8 + k) s then 4
  else if (imgAlg h == 2 && !(flagOn Reg.SEC_FUSE_POLICY 0 s)) || (imgAlg h == 3 && !(flagOn Reg.SEC_FUSE_POLICY 1 s)) then 5
  else if !(Config.mldsaVerify (imgAlg h) key (imageDigest h table) "KEAGEN-IMAGE" (slotRead slot (imgSigOff h) (sigLen (imgAlg h)) s)) then 6
  else if imgSvn h < svnFused s then 7 else 0

/-- May a LOAD go to this range: engine-local memory, shared memory or DRAM? -/
def loadAllowed (a n : Nat) : Bool :=
  decide (a + n ≤ 0x8000000) || (decide (0x10000000 ≤ a) && decide (a + n ≤ 0x12000000)) ||
  (decide (0x100000000 ≤ a) && decide (a + n ≤ 0x880000000))

/-- Cause 9: a section entry is malformed; `seen` lists the types of earlier entries. -/
def entryMalformed (seen : List Nat) (e : List Byte) : Bool :=
  let t := secType e
  decide (secOffset e % 64 ≠ 0) ||
  (if t = 2 then decide (secDest e % 64 ≠ 0) || decide (2 ^ 48 ≤ secDest e) || !(loadAllowed (secDest e) (secLength e))
   else decide (secDest e ≠ 0)) ||
  (decide (t = 1 ∨ t = 7) && seen.contains t) || (decide (t = 0 ∨ 7 < t) && secCritical e)

/-! ## Step 5: digests, training, LOAD (R443, R272) -/

/-- Channels still in training end it, those of `bad` in failure. -/
def trainEnd (bad : Nat) (s : State) : State :=
  forEach (upto 4) (fun ch t => if fld (Reg.DRAM_STATUS ch) 1 0 t = 2 then setFld (Reg.DRAM_STATUS ch) 1 0 (if bad.testBit ch then 3 else 0) t else t) s

/-- Training starts with the parameters of an image (R272); in Replay DRAM left self-refresh without it (R518). -/
def trainStart (s : State) : State :=
  if inReplay s then s else forEach (upto 4) (fun ch t => setFld (Reg.DRAM_STATUS ch) 1 0 2 t) s

/-- Bytes of a LOAD to DRAM reach its channels, but for those that failed. -/
def loadBytes (a : Nat) (bs : List Byte) (s : State) : State :=
  if inDram a then forEach (piecesOf a bs.length) (fun p t => if dramMode p.1 t = 3 then t else memStore p.1 (sliceOf bs (p.1 - a) p.2) t) s
  else memStore a bs s

/-- Does the read of a slot's part `i` fail: part 0 its header and table, part i + 1 its section i? -/
def norFails (nor slot i : Nat) : Bool := nor.testBit (2 * i + slot)

/-- Sections are read in table order: the first that fails ends the attempt with its cause. `bad` says which channels fail the training under
way, `next` which fail one that DRAM_PARAMS starts, `seen` the types read before. -/
def loadSections (slot nor next : Nat) : Nat → List Nat → List (List Byte) → State → Nat × State
  | _, _, [], s => (0, s)
  | bad, seen, e :: t, s =>
    let bs := slotRead slot (secOffset e) (secLength e) s
    if norFails nor slot (seen.length + 1) then (1, s)
    else if sha3 bs ≠ secDigest e then (8, s)
    else if entryMalformed seen e then (9, s)
    else if secType e = 2 then
      loadSections slot nor next bad (2 :: seen) t (loadBytes (secDest e) bs (if inDram (secDest e) then trainEnd bad s else s))
    else if secType e = 1 then loadSections slot nor next next (1 :: seen) t (trainStart s)
    else loadSections slot nor next bad (secType e :: seen) t s

/-- An attempt at a slot (steps 4 and 5): its cause, 0 where it is accepted. -/
def slotTry (slot nor bad next : Nat) (s : State) : Nat × State :=
  let c := slotCause slot (norFails nor slot 0) s
  if c ≠ 0 then (c, s)
  else
    let h := slotRead slot 0 256 s
    loadSections slot nor next bad [] (sectionsOf (slotRead slot 256 (64 * imgSections h) s)) s

/-! ## Step 6: registers, lanes, keys, policy -/

/-- An image write not answered OK, or an unknown section: REG_ERR. -/
def regErr (s : State) : State := setFld Reg.SEC_BOOT_STATUS 15 8 (min 255 (fld Reg.SEC_BOOT_STATUS 15 8 s + 1)) s

/-- One REG_LIST entry, a 32-bit write by the security controller, outside the commit window. -/
def starterWrite (off v : Nat) (s0 : State) : State :=
  let s := windowRuns s0
  let a := 0x40000000 + off
  if 0x10000000 ≤ off ∨ off % 4 ≠ 0 then regErr s
  else match originCode (srcOf .sec s) 0 a (.write (leBytes 4 v)) s with
    | some _ => regErr s
    | none => match (match addrDom a with | some d => guardCode d s | none => none) with
      | some _ => regErr s
      | none =>
        let r := csrWrite (srcOf .sec s) (csrOff a) false v s
        if r.1 = 0 then r.2 else regErr r.2

/-- A REG_LIST section. -/
def applyRegList (bs : List Byte) (s : State) : State :=
  forEach (upto (bs.length / 8)) (fun i t => starterWrite (leAt bs (8 * i) 4) (leAt bs (8 * i + 4) 4) t) s

/-- The index of a lane table rate in LANE_EQ_TBL (R365); none where the rate is unknown. -/
def rateIndex (r : Nat) : Option Nat :=
  if 1 ≤ r ∧ r ≤ 6 then some (r - 1) else if 0x11 ≤ r ∧ r ≤ 0x14 then some (r - 0x0B) else none

/-- One lane table entry, ignored where R365 says so. -/
def applyLane (e : List Byte) (s : State) : State :=
  let b := fun (i : Nat) => leAt e i 1
  match rateIndex (b 1) with
  | none => s
  | some i =>
    if 31 < b 0 ∨ 36 < b 2 ∨ b 4 < 32 ∨ 64 < b 3 + b 4 + b 5 ∨ 8 ≤ b 6 then s
    else
      modLane (b 0) (fun x => { x with polarity := b 6 % 4, spareFor := if bitOf (b 6) 2 then some (b 7 % 32) else none })
        (wr (Reg.LANE_EQ_TBL (b 0) i) (dw (b 4 * 2 ^ 24 + b 5 * 2 ^ 16 + b 3 * 2 ^ 8 + b 2)) s)

/-- A LANE_TABLE section. -/
def applyLanes (bs : List Byte) (s : State) : State :=
  forEach (upto (min (leAt bs 0 4) ((bs.length - 4) / 8))) (fun i t => applyLane (sliceOf bs (4 + 8 * i) 8) t) s

/-- A CMD_KEYS section: up to 16 entries; KEY_ID 0 and all ones are ignored. -/
def applyKeys (bs : List Byte) (s : State) : State :=
  forEach (upto (min 16 (bs.length / 16))) (fun i t =>
    let id := leAt bs (16 * i) 4
    if id = 0 ∨ id = 0xFFFFFFFF then t
    else modSec (fun x => { x with keys := x.keys ++ [(id, leAt bs (16 * i + 4) 2, leAt bs (16 * i + 8) 4)] }) t) s

/-- A POLICY section. -/
def applyPolicy (bs : List Byte) (s : State) : State :=
  wr Reg.SEC_MGMT_CFG (dw (leAt bs 16 4 % 0x20000000 + leAt bs 16 4 / 2 ^ 31 * 2 ^ 31))
    (wr Reg.SEC_HOST_DRAM (dw (leAt bs 8 8 / 0x100000 * 0x100000)) (wr Reg.SEC_HOST_POLICY (dw (leAt bs 0 1 % 4)) s))

/-- One section of step 6. -/
def applySection (slot : Nat) (e : List Byte) (s : State) : State :=
  let bs := slotRead slot (secOffset e) (secLength e) s
  match secType e with
  | 1 => s
  | 2 => modSec (fun x => { x with loads := x.loads ++ [(secDest e, secLength e)] }) s
  | 3 => applyRegList bs s
  | 4 => applyLanes bs s
  | 5 => applyKeys bs s
  | 6 => applyPolicy bs s
  | 7 => s
  | _ => regErr s

/-! ## Steps 7 to 9, recovery -/

/-- START: engines of the mask run, then Rounds. -/
def applyStart (bs : List Byte) (s : State) : State :=
  let mask := leAt bs 0 64
  let s1 := forEach ((upto 512).filter (mask.testBit ·)) (fun n t => engCtrlWrite n 0 t) s
  if bitOf (leAt bs 64 1) 0 then runWrite true s1 else s1

/-- The running image is noted (R439, R445, R462). -/
def noteImage (slot : Nat) (h table : List Byte) (s : State) : State :=
  let s1 := modSec (fun x => { x with running := some slot, imageM := imageDigest h table, buildId := sliceOf h 24 8, loads := [], keys := [] }) s
  wr Reg.SEC_IMAGE_INFO (dw (imgSvn h * 65536 + imgKeySlot h * 4096 + imgAlg h * 256)) s1

/-- After the image: in Replay of another image the module leaves Replay (R518); else the capture ring gets its header (R520). -/
def replayCheck (s : State) : State :=
  if inReplay s then
    (if memRead (s.recorder.repBase + 32) 32 s = s.sec.imageM then
       postPieces .recorder 1 64 s.recorder.capBase (ringHeader 0 s.recorder.startRound 128 0 s) s
     else setFld Reg.REC_STATUS 7 4 6 (setFld Reg.REC_STATUS 0 0 0 s))
  else s

/-- Steps 6 to 9 for an accepted slot. -/
def starterApply (slot primary : Nat) (s : State) : State :=
  let h := slotRead slot 0 256 s
  let table := slotRead slot 256 (64 * imgSections h) s
  let secs := sectionsOf table
  let s1 := forEach secs (applySection slot) (noteImage slot h table s)
  let s2 := windowRuns (if roundState s1 = 0 then manualCommit (windowRuns s1) else s1)
  let s3 := match secs.find? (fun e => secType e == 7) with
    | some e => applyStart (slotRead slot (secOffset e) (secLength e) s2) s2
    | none => s2
  let s4 := setFld Reg.DEV_STATUS 2 2 slot (setFld Reg.SEC_BOOT_STATUS 1 0 (1 + 2 * slot) s3)
  let s5 := flagEvent Reg.SEC_EVT_STATUS 0 0x040 0 s4
  replayCheck (if slot = primary then s5 else flagEvent Reg.SEC_EVT_STATUS 1 0x041 0 (setFlag Reg.SEC_BOOT_STATUS 2 s5))

/-- Recovery (R444): key 0 alone, MAILBOX mode, FAULT. -/
def recovery (s : State) : State :=
  replayCheck (wr Reg.SEC_HOST_POLICY 2 (faultSync (setFlag Reg.SEC_BOOT_STATUS 3 s)))

/-- The rejection cause of a slot is recorded. -/
def noteCause (slot c : Nat) (s : State) : State := setFld Reg.SEC_BOOT_STATUS (19 + 4 * slot) (16 + 4 * slot) c s

/-- The two slots in turn (R443, R444). `nor` says which parts of which slot cannot be read; `bad` which channels fail
training, in bits 4 to 7 those that fail it when the second slot restarts it (R272). -/
def starterSlots (nor : Nat) (bad : Nat) (s : State) : State :=
  let p := (bootRecord s).2.2
  let a := slotTry p nor bad bad s
  if a.1 = 0 then starterApply p p a.2
  else
    let s1 := noteCause p a.1 a.2
    let q := 1 - p
    let b := slotTry q nor bad (bad / 16) s1
    if b.1 = 0 then starterApply q p b.2 else recovery (noteCause q b.1 b.2)

/-- In Replay DRAM leaves self-refresh without training (R518). -/
def dramReady (s : State) : State := if inReplay s then trainEnd 0 s else s

/-- STARTER_RUN: `pll` says a main PLL fails to lock, `nor` which flash reads fail (bit 0 slot A's header or table, bit 1 slot B's, bits 2i + 2 and
2i + 3 section i of each), `bad` which DRAM channels fail a training. -/
def opStarterRun (pll : Bool) (nor bad : Nat) (s : State) : State :=
  if s.pwr.plug = 4 ∧ s.pwr.phase = 0 ∧ devState s ≤ 1 ∧ flagOn Reg.SEC_BOOT_STATUS 0 s = false ∧ recovering s = false then
    if pll then opMainPllFailure s
    else starterSlots nor bad (dramReady (if s.sec.coldValid then s else journalRebuild s))
  else s

/-! ## Meanings of the commands -/

/-- STARTER_RUN (R443). -/
def execStarterRun (pll : Bool) (nor bad : Nat) (s : State) : Host.Outcome State Fault Refusal :=
  .next (gated false true (opStarterRun pll nor bad) s)

end Sys2Proof.Machine
end

