-- ==== Sys2Proof/Machine/Float.lean ====
section
/-! DEFINITION. The floating-point arithmetic of the vector unit (R116): fp32 and bf16 with round to nearest even, subnormals flushed
to signed zero, one NaN. Both formats have an 8-bit exponent; `p` is the precision, 24 for fp32 and 8 for bf16. -/
namespace Sys2Proof.Machine

/-- A floating-point value: a finite one is ± m × 2^e. -/
inductive Fp where
  | nan
  | inf (neg : Bool)
  | fin (neg : Bool) (m : Nat) (e : Int)
deriving DecidableEq, Repr

/-- The value of a code; a subnormal input is a zero of its sign (R116). -/
def fpDecode (p v : Nat) : Fp :=
  let neg := bitOf v (p + 7)
  let ex := bitsOf v (p + 6) (p - 1)
  let fr := v % 2 ^ (p - 1)
  if ex = 255 then (if fr = 0 then .inf neg else .nan)
  else if ex = 0 then .fin neg 0 0
  else .fin neg (2 ^ (p - 1) + fr) (Int.ofNat ex - 127 - Int.ofNat (p - 1))

/-- The sign bit of a code. -/
def fpSign (p : Nat) (neg : Bool) : Nat := if neg then 2 ^ (p + 7) else 0

/-- m × 2^e rounded to nearest even at quantum 2^q. -/
def fpQuantize (m : Nat) (e q : Int) : Nat :=
  if q ≤ e then m * 2 ^ (e - q).toNat else (roundShift 2 (Int.ofNat m) (q - e).toNat).toNat

/-- The code of a value: rounded to nearest even, a subnormal result flushed to a zero of its sign (R116). -/
def fpEncode (p : Nat) : Fp → Nat
  | .nan => 0xFF * 2 ^ (p - 1) + 2 ^ (p - 2)
  | .inf neg => fpSign p neg + 0xFF * 2 ^ (p - 1)
  | .fin neg 0 _ => fpSign p neg
  | .fin neg m e =>
    let top := e + Int.ofNat (Nat.log2 m)
    let q := (if top < -126 then -126 else top) - Int.ofNat (p - 1)
    let r := fpQuantize m e q
    if r < 2 ^ (p - 1) then fpSign p neg
    else
      let code := (q + Int.ofNat (p - 1) + 127).toNat * 2 ^ (p - 1) + r - 2 ^ (p - 1)
      if 0xFF * 2 ^ (p - 1) ≤ code then fpSign p neg + 0xFF * 2 ^ (p - 1) else fpSign p neg + code

/-- The negative. -/
def Fp.negate : Fp → Fp
  | .nan => .nan
  | .inf s => .inf !s
  | .fin s m e => .fin (!s) m e

/-- The exact product. -/
def Fp.mul : Fp → Fp → Fp
  | .nan, _ => .nan
  | _, .nan => .nan
  | .inf s, .inf t => .inf (s != t)
  | .inf s, .fin t m _ => if m = 0 then .nan else .inf (s != t)
  | .fin s m _, .inf t => if m = 0 then .nan else .inf (s != t)
  | .fin s m e, .fin t k f => .fin (s != t) (m * k) (e + f)

/-- ± m as an integer. -/
def signedMag (neg : Bool) (m : Nat) : Int := if neg then -Int.ofNat m else Int.ofNat m

/-- The exact sum; a sum of zero is negative only where both terms are. -/
def Fp.add : Fp → Fp → Fp
  | .nan, _ => .nan
  | _, .nan => .nan
  | .inf s, .inf t => if s = t then .inf s else .nan
  | .inf s, .fin _ _ _ => .inf s
  | .fin _ _ _, .inf t => .inf t
  | .fin s m e, .fin t k f =>
    let g := if e ≤ f then e else f
    let v := signedMag s m * 2 ^ (e - g).toNat + signedMag t k * 2 ^ (f - g).toNat
    .fin (if v = 0 then s && t else decide (v < 0)) v.natAbs g

/-- `vfadd`, `vfsub`, `vfmul` and `vfma` of one element: the exact result rounded once. -/
def fpAdd (p a b : Nat) : Nat := fpEncode p ((fpDecode p a).add (fpDecode p b))
def fpSub (p a b : Nat) : Nat := fpEncode p ((fpDecode p a).add (fpDecode p b).negate)
def fpMul (p a b : Nat) : Nat := fpEncode p ((fpDecode p a).mul (fpDecode p b))
def fpFma (p a b c : Nat) : Nat := fpEncode p (((fpDecode p a).mul (fpDecode p b)).add (fpDecode p c))

end Sys2Proof.Machine
end

