-- ==== Sys2Proof/Machine/Vector.lean ====
section
/-! DEFINITION. The vector extension of the engine (R105 to R128). The manual gives no encodings for the vector slot (R115), so its
rows take their register numbers as operands; a governing predicate is an optional operand. -/
namespace Sys2Proof.Machine

/-! ## Elements (R106, R107, R112) -/

/-- Vector and predicate registers. -/
def Engine.vr (e : Engine) (r : Nat) : Nat := (tabGet (fun _ => (0 : BitVec 512)) e.v r).toNat
def Engine.pr (e : Engine) (r : Nat) : Nat := (tabGet (fun _ => (0 : DWord)) e.p r).toNat

/-- Is it a result for vector register `r`? -/
def Landed.isV (r : Nat) : Landed → Bool
  | .v j _ _ => j == r
  | .wide j _ _ => j == r
  | _ => false

/-- Is it a result of a vector-slot instruction for a vector or predicate register? -/
def Landed.isVector : Landed → Bool
  | .v _ _ _ => true
  | .wide _ _ _ => true
  | .p _ _ _ => true
  | _ => false

/-- Write vector register `r`, usable in the next cycle. -/
def Engine.setV (e : Engine) (r v : Nat) : Engine :=
  { (e.supersede (Landed.isV r)) with v := tabSet (fun _ => 0) e.v r (BitVec.ofNat 512 v) }

/-- Element width in bits of an element type (R106). -/
def typeWidth (t : Nat) : Nat :=
  match t with
  | 0 => 8 | 1 => 16 | 2 => 32 | 3 => 32 | 4 => 64 | 5 => 16 | _ => 32

/-- ETYPE, EW, EB and NMAX of the current format. -/
def Engine.etype (e : Engine) : Nat := e.vfmt % 8
def Engine.ew (e : Engine) : Nat := typeWidth e.etype
def Engine.eb (e : Engine) : Nat := e.ew / 8
def Engine.nmax (e : Engine) : Nat := 512 / e.ew

/-- The classes of element types of R115. -/
def isInt (t : Nat) : Bool := decide (t ≤ 2)
def isIntC (t : Nat) : Bool := decide (t ≤ 4)
def isFloat (t : Nat) : Bool := t == 5 || t == 6
def isNarrow (t : Nat) : Bool := decide (t ≤ 6 ∧ t ≠ 4)
def isAny (t : Nat) : Bool := decide (t ≤ 6)
def isC16 (t : Nat) : Bool := t == 3

/-- Element `i` of width `ew`. -/
def elem (ew x i : Nat) : Nat := x >>> (ew * i) % 2 ^ ew

/-- The register whose elements are listed from element 0 on. -/
def packElems (ew : Nat) : List Nat → Nat
  | [] => 0
  | x :: t => x % 2 ^ ew + 2 ^ ew * packElems ew t

/-- Is element `i` active under the governing predicate (R112)? -/
def Engine.activeAt (e : Engine) (p : Option Nat) (i : Nat) : Bool :=
  decide (e.vpos ≤ i ∧ i < e.vcnt) && (match p with | none => true | some r => bitOf (e.pr r) i)

/-- The active elements, in ascending order. -/
def Engine.actives (e : Engine) (p : Option Nat) : List Nat := (upto e.vcnt).filter (e.activeAt p)

/-- What an instruction that completes writes to destination element `i` (R112): its result `f i` where the element is active, a zero where
the fill rules ask for it, else nothing; nothing at all where vpos is at or above vcnt. -/
def Engine.writes (e : Engine) (p : Option Nat) (f : Nat → Nat) (i : Nat) : Option Nat :=
  if e.vcnt ≤ e.vpos ∨ i < e.vpos then none
  else if i < e.vcnt then (if e.activeAt p i then some (f i) else if bitOf e.vfmt 4 then some 0 else none)
  else if bitOf e.vfmt 3 then some 0 else none

/-- The bits of `m` elements of width `ew` that are written, and their values. -/
def writeMask (m ew : Nat) (ws : Nat → Option Nat) : Nat := packElems ew ((upto m).map fun i => if (ws i).isSome then 2 ^ ew - 1 else 0)
def writeVals (m ew : Nat) (ws : Nat → Option Nat) : Nat := packElems ew ((upto m).map fun i => (ws i).getD 0)

/-- A register of `m` elements of width `ew` that held `old`, after those writes. -/
def writtenOver (m ew old : Nat) (ws : Nat → Option Nat) : Nat :=
  packElems ew ((upto m).map fun i => (ws i).getD (elem ew old i))

/-- Writes to vector register `r`, usable `left` cycles after issue (R119), and the like for a predicate of `m` bits, whose bits from NMAX on
are zero (R112). -/
def Engine.laterV (e : Engine) (left r : Nat) (ws : Nat → Option Nat) : Engine :=
  e.later left (.v r (BitVec.ofNat 512 (writeMask e.nmax e.ew ws)) (BitVec.ofNat 512 (writeVals e.nmax e.ew ws)))
def Engine.laterP (e : Engine) (left r m : Nat) (ws : Nat → Option Nat) : Engine :=
  e.later left (.p r (dw (writeMask m 1 ws + (2 ^ 64 - 2 ^ m))) (dw (writeVals m 1 ws)))

/-- The instruction has completed: vpos is 0 (R112). -/
def Engine.vdone (e : Engine) : Engine := { e with vpos := 0 }

/-! ## The vector slot (R126, R127) -/

/-- Is a word of the major opcodes of vector memory instructions (0x3E), or of the others (0x3D, 0x3F)? The manual gives no more of their
encoding (R115). -/
def isVecMem (w : Word) : Bool := opcOf w == 0x3E
def isVecArith (w : Word) : Bool := opcOf w == 0x3D || opcOf w == 0x3F

/-- Issue a vector-slot instruction, which reads the g registers `reads` and writes `gd`: it may join the scalar instruction before it (R66); a
powered-down unit begins its wake of 40 cycles and the instruction waits (R127); `sub` is the SUB of an ILLEGAL it raises (R114), 0 for
none. -/
def vissue (n : Nat) (isIt : Word → Bool) (fetch : Ecc) (reads gd : List Nat) (sub : Engine → Nat) (body : Engine → Issue) (s : State) : State :=
  let u := atIssue n true reads s
  if canIssue n u && fetches n isIt fetch u then
    if fetchSub n fetch u ≠ 0 then fetchTrap n fetch u
    else if (eng n u).vpwr = 2 then bump (Reg.VEC_WAKE_CNT n) (modEng n (fun e => { e with vpwr := 1, gap := 40 }) u)
    else if (eng n u).vpwr ≠ 0 || interlocked (eng n u) (reads ++ gd) then u
    else finish n none 2 (if sub (eng n u) ≠ 0 then .fault 2 (sub (eng n u)) 0 0 else body (eng n u).issued)
      (bump64 (Reg.VEC_ISSUE_CNT n) 1 (fetchNoted n fetch u))
  else s

/-- SUB 6 unless `c` (R114). -/
def need (c : Bool) : Nat := if c then 0 else 6

/-- The unit powers down after its idle limit, with no vector instruction in flight (R126). -/
def opVectorPowerDown (n : Nat) (s : State) : State :=
  if (eng n s).vpwr = 0 ∧ ((eng n s).mode = .run ∨ (eng n s).mode = .idle) ∧ fld (Reg.VEC_PWR_CTRL n) 15 0 s ≠ 0 ∧
      flagOn (Reg.VEC_PWR_CTRL n) 16 s = false ∧ (eng n s).gather.isNone = true ∧ ((eng n s).land.any fun x => x.what.isVector) = false then
    modEng n (fun e => { e with vpwr := 2 }) s
  else s

/-- A wake ends (R127). -/
def opVectorWakeDone (n : Nat) (s : State) : State :=
  if (eng n s).vpwr = 1 then modEng n (fun e => { e with vpwr := 0 }) s else s

/-! ## Vector control (R108 to R111) -/

/-- The format set, with the count cleared or granted. -/
def Engine.setFmt (e : Engine) (fmt : Nat) : Engine := { e with vfmt := fmt, vcnt := 0, vpos := 0 }

/-- `setvl` (R108, R109); gD is usable in the next cycle, the format by an instruction that joins it (R110). -/
def opSetvl (n : Nat) (w : Word) (fetch : Ecc) (s : State) : State :=
  issue n w fetch (decide (fieldOf w 14 5 ≠ 0) || (decide (fieldOf w 15 15 = 1) && decide (fieldOf w 20 16 ≠ 0)) || decide (fieldOf w 2 0 = 7)) false
    ([fieldOf w 25 21] ++ (if fieldOf w 15 15 = 0 then [fieldOf w 20 16] else [])) [fieldOf w 25 21]
    (fun e =>
      let nmax := 512 / typeWidth (fieldOf w 2 0)
      let req := if fieldOf w 15 15 = 1 then nmax else (e.gr (fieldOf w 20 16)).toNat
      .regs { (e.setFmt (fieldOf w 4 0)).setG (fieldOf w 25 21) (BitVec.ofNat 32 (min req nmax)) with vcnt := min req nmax }) s

/-- `vrd` (R111), with the timing of `mfs`. -/
def opVrd (n : Nat) (w : Word) (fetch : Ecc) (s : State) : State :=
  issue n w fetch (decide (fieldOf w 20 2 ≠ 0)) false [fieldOf w 25 21] [fieldOf w 25 21]
    (fun e => .regs (e.laterG 2 (fieldOf w 25 21) (BitVec.ofNat 32
      (match fieldOf w 1 0 with | 0 => e.vcnt | 1 => e.vfmt | 2 => e.vpos | _ => 64)))) s

/-- Is a `vwr` of `v` forbidden (R111)? -/
def vwrBad (e : Engine) (vc v : Nat) : Bool :=
  match vc with
  | 0 => decide (128 ≤ v) || decide (e.nmax < v % 128)
  | 1 => decide (32 ≤ v) || decide (v % 8 = 7)
  | 2 => false
  | _ => true

/-- `vwr` (R111), with the timing of `mts`. -/
def opVwr (n : Nat) (w : Word) (fetch : Ecc) (s : State) : State :=
  issue n w fetch (decide (fieldOf w 20 2 ≠ 0)) false [fieldOf w 25 21] []
    (fun e =>
      if vwrBad e (fieldOf w 1 0) (e.gr (fieldOf w 25 21)).toNat then .fault 2 5 0 0
      else .regs (e.later 2 (.vctl (fieldOf w 1 0) (e.gr (fieldOf w 25 21))))) s

/-! ## Memory (R120 to R124) -/

/-- Why element access `i` at `addr` faults (R120, R124): 1 range, 2 alignment, 3 instruction memory, 4 ECC; 0 not. -/
def elemFault (n : Nat) (store : Bool) (eb addr : Nat) (ecc : Bool) (s : State) : Nat :=
  if localFault addr eb store ≠ 0 then localFault addr eb store
  else if !store && (ecc || poisoned (engBase n + addr) eb s) then 4 else 0

/-- The first of the given elements that `chk` faults, with its cause (R123). -/
def firstFault (chk : Nat → Nat) : List Nat → Option (Nat × Nat)
  | [] => none
  | i :: t => if chk i ≠ 0 then some (i, chk i) else firstFault chk t

/-- What a vector load writes up to its fault, if any: the elements below it, or the whole destination with its fill (R112, R123). -/
def loadWrites (n : Nat) (addr : Nat → Nat) (flt : Option (Nat × Nat)) (s : State) (e : Engine) (i : Nat) : Option Nat :=
  match flt with
  | none => e.writes none (fun j => localLoad n (addr j) e.eb s) i
  | some (f, _) => if e.vpos ≤ i ∧ i < f then some (localLoad n (addr i) e.eb s) else none

/-- Store the elements of a list in ascending order. -/
def vstoreElems (n eb ew v : Nat) (addr : Nat → Nat) : List Nat → State → State
  | [], s => s
  | i :: t, s => vstoreElems n eb ew v addr t (localStore n (addr i) eb (elem ew v i) s)

/-- The elements below a fault, or all. -/
def belowFault (flt : Option (Nat × Nat)) (l : List Nat) : List Nat :=
  match flt with
  | none => l
  | some (f, _) => l.filter (· < f)

/-- VFAULT (R123, R124): taken at the instruction, vpos at the faulting element, `k` cycles after issue; counted where a trap is taken (R129). -/
def vfault (n k sub addr f pc : Nat) (s : State) : State :=
  when' (decide ((eng n s).bank = 0)) (bump (Reg.VEC_FAULT_CNT n)) (takeTrap n k 7 (causeWord false 0 sub 7) pc pc addr f s)

/-- The first active element an access faults at, with its cause. -/
def accessFault (n : Nat) (store : Bool) (addr : Nat → Nat) (ecc : Option Nat) (e : Engine) (s : State) : Option (Nat × Nat) :=
  firstFault (fun i => elemFault n store e.eb (addr i) (ecc == some i) s) (e.actives none)

/-- What the ECC of an access finds besides a fault (R104, R266, R267): corrected errors of loads and of the merge reads of elements narrower than
a word, and the element whose merge read is uncorrectable, whose word is poisoned. -/
def vectorEcc (n : Nat) (store : Bool) (addr : Nat → Nat) (ecc : Option Nat) (corr : Nat) (l : List Nat) (e : Engine) (s : State) : State :=
  if store && decide (4 ≤ e.eb) then s
  else
    let s1 := when' (decide (0 < corr)) (fun t => bumpBy (Reg.ENG_ECC_CNT n) corr (noteEccAt .corrected (engBase n + addr e.vpos) t)) s
    match ecc with
    | none => s1
    | some i => if store && l.contains i then mergeNoted n (addr i) e.eb .uncorrectable s1 else s1

/-- The accesses of a vector memory instruction: elements stored, ECC counted; the faulting element and cause, if any. The engine is left to
its callers. -/
def vaccess (n : Nat) (store : Bool) (vd : Nat) (addr : Nat → Nat) (ecc : Option Nat) (corr : Nat) (e : Engine) (s : State) : State :=
  let l := belowFault (accessFault n store addr ecc e s) (e.actives none)
  vectorEcc n store addr ecc corr l e (if store then vstoreElems n e.eb e.ew (e.vr vd) addr l s else s)

/-- Address of element `i`: base + i × stride modulo 2^32 (R120). -/
def strideAddr (base stride : Word) (i : Nat) : Nat := (base + BitVec.ofNat 32 i * stride).toNat

/-- A unit-stride or strided access: past the instruction, or still at it where an element faults. A load is usable in the third cycle (R119);
`ok` is what else becomes of the engine where none faults. -/
def vmem (n : Nat) (fetch : Ecc) (store : Bool) (vd : Nat) (regs : List Nat) (addr : Engine → Nat → Nat) (ecc : Option Nat) (corr : Nat)
    (ok : Engine → Engine) (s : State) : State :=
  vissue n isVecMem fetch regs [] (fun e => need (isAny e.etype))
    (fun e =>
      let flt := accessFault n store (addr e) ecc e s
      let e1 := if store then e else e.laterV 3 vd (loadWrites n (addr e) flt s e)
      match flt with
      | none => .done (ok e1.vdone) (vaccess n store vd (addr e) ecc corr e)
      | some (f, c) => .act fun t =>
          vfault n 2 c (addr e f) f e.pc
            (discards n 2 (modEng n (fun x => { x with land := e1.land, vpos := f }) (vaccess n store vd (addr e) ecc corr e t)))) s

/-- `vld` and `vst`: unit stride (R120); post-modify adds imm to gB where no element faults (R123). -/
def unitAddr (e : Engine) (gb : Nat) (imm : Word) (post : Bool) (i : Nat) : Nat :=
  strideAddr (if post then e.gr gb else e.gr gb + imm) (BitVec.ofNat 32 e.eb) i
def postBase (gb : Nat) (imm : Word) (post : Bool) (e : Engine) : Engine := if post then e.setG gb (e.gr gb + imm) else e

def opVld (n vd gb : Nat) (imm : Word) (post : Bool) (ecc : Option Nat) (corr : Nat) (fetch : Ecc) (s : State) : State :=
  vmem n fetch false vd [gb] (fun e => unitAddr e gb imm post) ecc corr (postBase gb imm post) s
def opVst (n vs gb : Nat) (imm : Word) (post : Bool) (ecc : Option Nat) (corr : Nat) (fetch : Ecc) (s : State) : State :=
  vmem n fetch true vs [gb] (fun e => unitAddr e gb imm post) ecc corr (postBase gb imm post) s
/-- `vlds` and `vsts`: strided. -/
def opVlds (n vd gb gs : Nat) (ecc : Option Nat) (corr : Nat) (fetch : Ecc) (s : State) : State :=
  vmem n fetch false vd [gb, gs] (fun e => strideAddr (e.gr gb) (e.gr gs)) ecc corr id s
def opVsts (n vs gb gs : Nat) (ecc : Option Nat) (corr : Nat) (fetch : Ecc) (s : State) : State :=
  vmem n fetch true vs [gb, gs] (fun e => strideAddr (e.gr gb) (e.gr gs)) ecc corr id s

/-- `vldx` and `vstx` (R121): issue, and the engine waits for GATHER_COMPLETE. -/
def gatherStart (n : Nat) (fetch : Ecc) (store : Bool) (vd gb vi : Nat) (s : State) : State :=
  vissue n isVecMem fetch [gb] [] (fun e => need (isAny e.etype && (store || vd != vi)))
    (fun e => .act (modEng n fun x => { x with wait := .gather, gather := some ⟨store, vd, gb, vi, e.pc⟩ })) s
def opVldx (n vd gb vi : Nat) (fetch : Ecc) (s : State) : State := gatherStart n fetch false vd gb vi s
def opVstx (n vs gb vi : Nat) (fetch : Ecc) (s : State) : State := gatherStart n fetch true vs gb vi s

/-- Address of indexed element `i` (R120). -/
def indexAddr (e : Engine) (gb vi i : Nat) : Nat := (e.gr gb + BitVec.ofNat 32 (elem e.ew (e.vr vi) i % 2 ^ 32)).toNat

/-- The cycles a gather or scatter takes over elements in these banks (R121): up to four in each, a group ending before a bank repeats; `used` are the
banks of the group so far. -/
def groupCycles : List Nat → List Nat → Nat
  | [], used => if used.isEmpty then 0 else 1
  | b :: t, used => if used.length = 4 ∨ used.contains b then 1 + groupCycles t [b] else groupCycles t (used ++ [b])

/-- A gather or scatter has accessed its last active element or faulted (R121, R123): the gathered register is usable from the next cycle. -/
def opGatherComplete (n : Nat) (ecc : Option Nat) (corr : Nat) (s : State) : State :=
  let e := eng n s
  match e.gather with
  | none => s
  | some g =>
    if e.wait = .gather then
      let addr := indexAddr e g.base g.vi
      let flt := accessFault n g.store addr ecc e s
      let seen := match flt with | none => e.actives none | some (f, _) => (e.actives none).filter (· ≤ f)
      let k := groupCycles (seen.map fun i => addr i / 0x2000) []
      let t := cyclesPass n k (vaccess n g.store g.vd addr ecc corr e (bump (Reg.VEC_GATHER_CNT n) s))
      let ready := fun (x : Engine) =>
        let y := { x with wait := .none, gather := none, gap := 1, pair := none }
        if g.store then y else y.setV g.vd (writtenOver e.nmax e.ew (x.vr g.vd) (loadWrites n addr flt s e))
      match flt with
      | none => modEng n (fun x => (ready x).vdone.advance) t
      | some (f, c) => vfault n 1 c (addr f) f g.pc (modEng n (fun x => { (ready x) with vpos := f }) t)
    else s

/-! ## Element arithmetic (R115 to R117) -/

/-- A vector arithmetic instruction that writes vD from the active elements, usable `left` cycles after issue: `f` gives an element and says
whether it saturated. -/
def varith (n : Nat) (fetch : Ecc) (left vd : Nat) (p : Option Nat) (ok : Engine → Bool) (f : Engine → Nat → Nat × Bool) (s : State) : State :=
  vissue n isVecArith fetch [] [] (fun e => need (ok e))
    (fun e => .regs (((e.laterV left vd (e.writes p fun i => (f e i).1)).vdone).orSov ((e.actives p).any fun i => (f e i).2))) s

/-- An integer result in `w` bits: wrapped, or clamped with a flag. -/
def fitInt (w : Nat) (clamp : Bool) (v : Int) : Nat × Bool := if clamp then (unsigned w (sat w v), wraps w v) else (unsigned w v, false)

/-- An exact integer operation on elements of an integer or complex type, each half by itself. -/
def intElem (t : Nat) (clamp : Bool) (f : Int → Int → Int) (x y : Nat) : Nat × Bool :=
  if t ≤ 2 then fitInt (typeWidth t) clamp (f (signed (typeWidth t) x) (signed (typeWidth t) y))
  else
    let h := typeWidth t / 2
    let lo := fitInt h clamp (f (signed h x) (signed h y))
    let hi := fitInt h clamp (f (signed h (x / 2 ^ h)) (signed h (y / 2 ^ h)))
    (hi.1 * 2 ^ h + lo.1, lo.2 || hi.2)

/-- The two-operand integer and complex instructions. -/
def vint (n : Nat) (fetch : Ecc) (left vd va vb : Nat) (p : Option Nat) (ok : Nat → Bool) (clamp : Bool) (f : Int → Int → Int) (s : State) : State :=
  varith n fetch left vd p (fun e => ok e.etype)
    (fun e i => intElem e.etype clamp f (elem e.ew (e.vr va) i) (elem e.ew (e.vr vb) i)) s

def opVadd (n vd va vb : Nat) (p : Option Nat) (fetch : Ecc) (s : State) : State := vint n fetch 2 vd va vb p isIntC false (· + ·) s
def opVsub (n vd va vb : Nat) (p : Option Nat) (fetch : Ecc) (s : State) : State := vint n fetch 2 vd va vb p isIntC false (· - ·) s
def opVmul (n vd va vb : Nat) (p : Option Nat) (fetch : Ecc) (s : State) : State := vint n fetch 3 vd va vb p isInt false (· * ·) s
def opVadds (n vd va vb : Nat) (p : Option Nat) (fetch : Ecc) (s : State) : State := vint n fetch 2 vd va vb p isIntC true (· + ·) s
def opVsubs (n vd va vb : Nat) (p : Option Nat) (fetch : Ecc) (s : State) : State := vint n fetch 2 vd va vb p isIntC true (· - ·) s

/-- `vcmul` and `vcmulc`: the exact product extracted with shift 15 (R116). -/
def vcmulWith (n : Nat) (fetch : Ecc) (vd va vb : Nat) (p : Option Nat) (f : CInt → CInt → CInt) (s : State) : State :=
  varith n fetch 3 vd p (fun e => isC16 e.etype)
    (fun e i => extractC e.rnd e.satOn (f (cint16 (elem 32 (e.vr va) i)) (cint16 (elem 32 (e.vr vb) i))) 15) s
def opVcmul (n vd va vb : Nat) (p : Option Nat) (fetch : Ecc) (s : State) : State := vcmulWith n fetch vd va vb p CInt.mul s
def opVcmulc (n vd va vb : Nat) (p : Option Nat) (fetch : Ecc) (s : State) : State := vcmulWith n fetch vd va vb p (fun x h => x.mul h.conj) s

/-- A register pair as one number (R113). -/
def Engine.vpair (e : Engine) (r : Nat) : Nat := e.vr r + e.vr (r + 1) * 2 ^ 512

/-- Vector register `r` as the next wide accumulation finds it (R119): with the accumulations still on their way. -/
def Engine.wideReg (e : Engine) (r : Nat) : Nat :=
  (e.land.foldl (fun v x => match x.what with | .wide j m w => if j = r then underMask v m w else v | _ => v)
    (tabGet (fun _ => (0 : BitVec 512)) e.v r)).toNat
def Engine.widePair (e : Engine) (r : Nat) : Nat := e.wideReg r + e.wideReg (r + 1) * 2 ^ 512

/-- Writes to the wide elements of the pair `r`, `r + 1`: another wide accumulation finds them in the next cycle, all else in the third. -/
def Engine.laterWide (e : Engine) (r : Nat) (ws : Nat → Option Nat) : Engine :=
  let m := writeMask e.nmax 64 ws
  let v := writeVals e.nmax 64 ws
  (e.later 3 (.wide r (BitVec.ofNat 512 m) (BitVec.ofNat 512 v))).later 3
    (.wide (r + 1) (BitVec.ofNat 512 (m / 2 ^ 512)) (BitVec.ofNat 512 (v / 2 ^ 512)))

/-- The cint32 value of 64 bits, and its code with each half wrapped. -/
def cint32 (v : Nat) : CInt := ⟨signed 32 v, signed 32 (v / 2 ^ 32)⟩
def packC32 (c : CInt) : Nat := unsigned 32 c.im * 2 ^ 32 + unsigned 32 c.re
def wrapsC32 (c : CInt) : Bool := wraps 32 c.re || wraps 32 c.im

/-- Wide accumulation into the pair vD of the term `f e i` (R117). -/
def Engine.wideAcc (e : Engine) (vd : Nat) (p : Option Nat) (f : Nat → CInt) : Engine :=
  let acc := fun i => (cint32 (elem 64 (e.widePair vd) i)).add (f i)
  (e.laterWide vd (e.writes p fun i => packC32 (acc i))).orAov ((e.actives p).any fun i => wrapsC32 (acc i))

/-- `vcmac.w` and `vcmacc.w`. -/
def vcmacWith (n : Nat) (fetch : Ecc) (vd va vb : Nat) (p : Option Nat) (f : CInt → CInt → CInt) (s : State) : State :=
  vissue n isVecArith fetch [] [] (fun e => need (isC16 e.etype && vd % 2 == 0))
    (fun e => .regs (e.wideAcc vd p fun i => f (cint16 (elem 32 (e.vr va) i)) (cint16 (elem 32 (e.vr vb) i))).vdone) s
def opVcmacW (n vd va vb : Nat) (p : Option Nat) (fetch : Ecc) (s : State) : State := vcmacWith n fetch vd va vb p CInt.mul s
def opVcmaccW (n vd va vb : Nat) (p : Option Nat) (fetch : Ecc) (s : State) : State := vcmacWith n fetch vd va vb p (fun x h => x.mul h.conj) s

/-- `vracc`: the cint32 pair vA extracted to cint16 as `racc` does. -/
def opVracc (n vd va sh : Nat) (fetch : Ecc) (s : State) : State :=
  varith n fetch 3 vd none (fun e => isC16 e.etype && va % 2 == 0 && vd != va && vd != va + 1)
    (fun e i => extractC e.rnd e.satOn (cint32 (elem 64 (e.vpair va) i)) (sh % 32)) s

/-- The window of `vftap` slid by one (R118): elements move down, `x` enters at the top; elements from vcnt on stay. -/
def slide (vcnt old x : Nat) : Nat :=
  packElems 32 ((upto 16).map fun i => if i + 1 < vcnt then elem 32 old (i + 1) else if i + 1 = vcnt then x else elem 32 old i)

/-- `vftap` (R118); vX, vY and gC are usable in the next cycle. -/
def opVftap (n va vx vy gc : Nat) (conj rc cdir : Bool) (ecc fetch : Ecc) (s : State) : State :=
  let size := if rc then 2 else 4
  vissue n (fun w => isVecArith w || isVecMem w) fetch [gc] []
    (fun e => if isC16 e.etype && va % 2 == 0 && vx != vy && vx != va && vx != va + 1 && vy != va && vy != va + 1
      then (if e.vpos = 0 then 0 else 7) else 6)
    (fun e =>
      let a := (e.gr gc).toNat
      let c := elemFault n false size a (decide (ecc = .uncorrectable)) s
      let h : CInt := if rc then ⟨signed 16 (localLoad n a 2 s), 0⟩ else cint16 (localLoad n a 4 s)
      let e1 := e.wideAcc va none fun i => if conj then (cint16 (elem 32 (e.vr vx) i)).mul h.conj else (cint16 (elem 32 (e.vr vx) i)).mul h
      let e2 := (e1.setV vx (slide e.vcnt (e.vr vx) (elem 32 (e.vr vy) 0))).setV vy (slide e.vcnt (e.vr vy) 0)
      let e3 := e2.setG gc (if cdir then e.gr gc + BitVec.ofNat 32 size else e.gr gc - BitVec.ofNat 32 size)
      if c ≠ 0 then .act fun t => vfault n 2 c a 0 e.pc (discards n 2 t)
      else .done e3.vdone (when' (decide (ecc = .corrected)) (eccCorrected n a))) s

/-- The precision of a float type: 24 for fp32, 8 for bf16. -/
def precOf (t : Nat) : Nat := if t = 5 then 8 else 24

/-- The float instructions. `vfma` adds the product to vD (log 22). -/
def vfloat (n : Nat) (fetch : Ecc) (vd va vb : Nat) (p : Option Nat) (f : Nat → Nat → Nat → Nat → Nat) (s : State) : State :=
  varith n fetch 3 vd p (fun e => isFloat e.etype)
    (fun e i => (f (precOf e.etype) (elem e.ew (e.vr va) i) (elem e.ew (e.vr vb) i) (elem e.ew (e.vr vd) i), false)) s
def opVfadd (n vd va vb : Nat) (p : Option Nat) (fetch : Ecc) (s : State) : State := vfloat n fetch vd va vb p (fun k a b _ => fpAdd k a b) s
def opVfsub (n vd va vb : Nat) (p : Option Nat) (fetch : Ecc) (s : State) : State := vfloat n fetch vd va vb p (fun k a b _ => fpSub k a b) s
def opVfmul (n vd va vb : Nat) (p : Option Nat) (fetch : Ecc) (s : State) : State := vfloat n fetch vd va vb p (fun k a b _ => fpMul k a b) s
def opVfma (n vd va vb : Nat) (p : Option Nat) (fetch : Ecc) (s : State) : State := vfloat n fetch vd va vb p fpFma s

/-! ## Compares, predicates, selection, permutes (R115, R125) -/

/-- A compare: predicate bits of the active elements, the fill rules on the others, bits from NMAX on zero (R112). -/
def vcmp (n : Nat) (fetch : Ecc) (pd va vb : Nat) (f : Nat → Nat → Nat → Bool) (s : State) : State :=
  vissue n isVecArith fetch [] [] (fun e => need (isInt e.etype))
    (fun e => .regs (e.laterP 2 pd e.nmax (e.writes none fun i => b2n (f e.ew (elem e.ew (e.vr va) i) (elem e.ew (e.vr vb) i)))).vdone) s
def opVcmpEq (n pd va vb : Nat) (fetch : Ecc) (s : State) : State := vcmp n fetch pd va vb (fun _ x y => x == y) s
def opVcmpLt (n pd va vb : Nat) (fetch : Ecc) (s : State) : State := vcmp n fetch pd va vb (fun w x y => decide (signed w x < signed w y)) s
def opVcmpLtu (n pd va vb : Nat) (fetch : Ecc) (s : State) : State := vcmp n fetch pd va vb (fun _ x y => decide (x < y)) s

/-- A predicate operation on all 64 bits; it ignores the count and the position. -/
def pop (n : Nat) (fetch : Ecc) (pd pa pb : Nat) (f : Nat → Nat → Nat) (s : State) : State :=
  vissue n isVecArith fetch [] [] (fun _ => 0)
    (fun e => .regs (e.later 2 (.p pd (dw (2 ^ 64 - 1)) (dw (f (e.pr pa) (e.pr pb)))))) s
def opPand (n pd pa pb : Nat) (fetch : Ecc) (s : State) : State := pop n fetch pd pa pb (· &&& ·) s
def opPor (n pd pa pb : Nat) (fetch : Ecc) (s : State) : State := pop n fetch pd pa pb (· ||| ·) s
def opPxor (n pd pa pb : Nat) (fetch : Ecc) (s : State) : State := pop n fetch pd pa pb (· ^^^ ·) s
def opPnot (n pd pa : Nat) (fetch : Ecc) (s : State) : State := pop n fetch pd pa pa (fun x _ => 2 ^ 64 - 1 - x) s

/-- `vsel`: pN selects between vA and vB. -/
def opVsel (n vd p va vb : Nat) (fetch : Ecc) (s : State) : State :=
  varith n fetch 2 vd none (fun e => isAny e.etype)
    (fun e i => (if bitOf (e.pr p) i then elem e.ew (e.vr va) i else elem e.ew (e.vr vb) i, false)) s

/-- `vbcast`. -/
def opVbcast (n vd gs : Nat) (p : Option Nat) (fetch : Ecc) (s : State) : State :=
  vissue n isVecArith fetch [gs] [] (fun e => need (isNarrow e.etype))
    (fun e => .regs (e.laterV 2 vd (e.writes p fun _ => (e.gr gs).toNat)).vdone) s

/-- `vins`: writes element `i` and nothing else. -/
def opVins (n vd gs i : Nat) (fetch : Ecc) (s : State) : State :=
  vissue n isVecArith fetch [gs] [] (fun e => need (isNarrow e.etype && decide (i < e.nmax)))
    (fun e => .regs (e.laterV 2 vd fun j => if j = i then some (e.gr gs).toNat else none)) s

/-- `vext`: reads element `i`. What stands above a narrow element in gD is not stated: a free value (log 21). -/
def opVext (n gd va i : Nat) (fetch : Ecc) (s : State) : State :=
  vissue n isVecArith fetch [] [gd] (fun e => need (isNarrow e.etype && decide (i < e.nmax)))
    (fun e => .done (e.laterG 3 gd (BitVec.ofNat 32 (elem e.ew (e.vr va) i + (freeNow 0 s).toNat * 2 ^ e.ew))) drawn) s

/-- `vtperm` (R125). -/
def opVtperm (n vd vt k vi : Nat) (p : Option Nat) (fetch : Ecc) (s : State) : State :=
  varith n fetch 2 vd p (fun e => isAny e.etype && decide (vt + k ≤ 32) && !(decide (vt ≤ vd ∧ vd < vt + k)) && vd != vi)
    (fun e i =>
      let j := elem e.ew (e.vr vi) i
      (if j < k * e.nmax then elem e.ew (e.vr (vt + j / e.nmax)) (j % e.nmax) else 0, false)) s

/-- The wrapping sum of elements of an integer or complex type. -/
def sumElems (t : Nat) : List Nat → Nat
  | [] => 0
  | x :: r => (intElem t false (· + ·) x (sumElems t r)).1

/-- What `vsum` writes: element 0 the sum of the active elements; of the others an active one stays (log 22), the rest follow the fill rules (R112). -/
def sumWrites (e : Engine) (p : Option Nat) (va i : Nat) : Option Nat :=
  if e.vcnt = 0 then none
  else if i = 0 then some (sumElems e.etype ((e.actives p).map fun j => elem e.ew (e.vr va) j))
  else if e.activeAt p i then none
  else e.writes p (fun _ => 0) i

/-- `vsum`. -/
def opVsum (n vd va : Nat) (p : Option Nat) (fetch : Ecc) (s : State) : State :=
  vissue n isVecArith fetch [] [] (fun e => if isIntC e.etype then (if e.vpos = 0 then 0 else 7) else 6)
    (fun e => .regs (e.laterV 3 vd (sumWrites e p va))) s

/-! ## Meanings of the commands -/

/-- SETVL (R109). -/
def execSetvl (n : Nat) (w : Word) (s : State) (fetch : Ecc := .clean) : Host.Outcome State Fault Refusal :=
  .next (gated false (below 512 n && isOp w 60) (opSetvl n w fetch) s)
/-- VRD (R111). -/
def execVrd (n : Nat) (w : Word) (s : State) (fetch : Ecc := .clean) : Host.Outcome State Fault Refusal :=
  .next (gated false (below 512 n && isOp w 40) (opVrd n w fetch) s)
/-- VWR (R111). -/
def execVwr (n : Nat) (w : Word) (s : State) (fetch : Ecc := .clean) : Host.Outcome State Fault Refusal :=
  .next (gated false (below 512 n && isOp w 41) (opVwr n w fetch) s)
/-- VLD (R120). -/
def execVld (n vd gb : Nat) (imm : Word) (post : Bool) (ecc : Option Nat) (corr : Nat) (s : State) (fetch : Ecc := .clean) : Host.Outcome State Fault Refusal :=
  .next (gated false (below 512 n && below 32 vd && below 32 gb && optBelow 64 ecc) (opVld n vd gb imm post ecc corr fetch) s)
/-- VST (R120). -/
def execVst (n vs gb : Nat) (imm : Word) (post : Bool) (s : State) (ecc : Option Nat := none) (corr : Nat := 0) (fetch : Ecc := .clean) : Host.Outcome State Fault Refusal :=
  .next (gated false (below 512 n && below 32 vs && below 32 gb && optBelow 64 ecc) (opVst n vs gb imm post ecc corr fetch) s)
/-- VLDS (R120). -/
def execVlds (n vd gb gs : Nat) (ecc : Option Nat) (corr : Nat) (s : State) (fetch : Ecc := .clean) : Host.Outcome State Fault Refusal :=
  .next (gated false (below 512 n && below 32 vd && below 32 gb && below 32 gs && optBelow 64 ecc) (opVlds n vd gb gs ecc corr fetch) s)
/-- VSTS (R120). -/
def execVsts (n vs gb gs : Nat) (s : State) (ecc : Option Nat := none) (corr : Nat := 0) (fetch : Ecc := .clean) : Host.Outcome State Fault Refusal :=
  .next (gated false (below 512 n && below 32 vs && below 32 gb && below 32 gs && optBelow 64 ecc) (opVsts n vs gb gs ecc corr fetch) s)
/-- VLDX (R121). -/
def execVldx (n vd gb vi : Nat) (s : State) (fetch : Ecc := .clean) : Host.Outcome State Fault Refusal :=
  .next (gated false (below 512 n && below 32 vd && below 32 gb && below 32 vi) (opVldx n vd gb vi fetch) s)
/-- VSTX (R121). -/
def execVstx (n vs gb vi : Nat) (s : State) (fetch : Ecc := .clean) : Host.Outcome State Fault Refusal :=
  .next (gated false (below 512 n && below 32 vs && below 32 gb && below 32 vi) (opVstx n vs gb vi fetch) s)
/-- GATHER_COMPLETE (R121). -/
def execGatherComplete (n : Nat) (ecc : Option Nat) (corr : Nat) (s : State) : Host.Outcome State Fault Refusal :=
  .next (gated false (below 512 n && optBelow 64 ecc) (opGatherComplete n ecc corr) s)
/-- VADD (R116). -/
def execVadd (n vd va vb : Nat) (p : Option Nat) (s : State) (fetch : Ecc := .clean) : Host.Outcome State Fault Refusal :=
  .next (gated false (below 512 n && below 32 vd && below 32 va && below 32 vb && optBelow 8 p) (opVadd n vd va vb p fetch) s)
/-- VSUB (R116). -/
def execVsub (n vd va vb : Nat) (p : Option Nat) (s : State) (fetch : Ecc := .clean) : Host.Outcome State Fault Refusal :=
  .next (gated false (below 512 n && below 32 vd && below 32 va && below 32 vb && optBelow 8 p) (opVsub n vd va vb p fetch) s)
/-- VMUL (R116). -/
def execVmul (n vd va vb : Nat) (p : Option Nat) (s : State) (fetch : Ecc := .clean) : Host.Outcome State Fault Refusal :=
  .next (gated false (below 512 n && below 32 vd && below 32 va && below 32 vb && optBelow 8 p) (opVmul n vd va vb p fetch) s)
/-- VADDS (R116). -/
def execVadds (n vd va vb : Nat) (p : Option Nat) (s : State) (fetch : Ecc := .clean) : Host.Outcome State Fault Refusal :=
  .next (gated false (below 512 n && below 32 vd && below 32 va && below 32 vb && optBelow 8 p) (opVadds n vd va vb p fetch) s)
/-- VSUBS (R116). -/
def execVsubs (n vd va vb : Nat) (p : Option Nat) (s : State) (fetch : Ecc := .clean) : Host.Outcome State Fault Refusal :=
  .next (gated false (below 512 n && below 32 vd && below 32 va && below 32 vb && optBelow 8 p) (opVsubs n vd va vb p fetch) s)
/-- VCMUL (R116). -/
def execVcmul (n vd va vb : Nat) (p : Option Nat) (s : State) (fetch : Ecc := .clean) : Host.Outcome State Fault Refusal :=
  .next (gated false (below 512 n && below 32 vd && below 32 va && below 32 vb && optBelow 8 p) (opVcmul n vd va vb p fetch) s)
/-- VCMULC (R116). -/
def execVcmulc (n vd va vb : Nat) (p : Option Nat) (s : State) (fetch : Ecc := .clean) : Host.Outcome State Fault Refusal :=
  .next (gated false (below 512 n && below 32 vd && below 32 va && below 32 vb && optBelow 8 p) (opVcmulc n vd va vb p fetch) s)
/-- VCMAC_W (R117). -/
def execVcmacW (n vd va vb : Nat) (p : Option Nat) (s : State) (fetch : Ecc := .clean) : Host.Outcome State Fault Refusal :=
  .next (gated false (below 512 n && below 32 vd && below 32 va && below 32 vb && optBelow 8 p) (opVcmacW n vd va vb p fetch) s)
/-- VCMACC_W (R117). -/
def execVcmaccW (n vd va vb : Nat) (p : Option Nat) (s : State) (fetch : Ecc := .clean) : Host.Outcome State Fault Refusal :=
  .next (gated false (below 512 n && below 32 vd && below 32 va && below 32 vb && optBelow 8 p) (opVcmaccW n vd va vb p fetch) s)
/-- VRACC (R115). -/
def execVracc (n vd va sh : Nat) (s : State) (fetch : Ecc := .clean) : Host.Outcome State Fault Refusal :=
  .next (gated false (below 512 n && below 32 vd && below 32 va && below 32 sh) (opVracc n vd va sh fetch) s)
/-- VFTAP (R118). -/
def execVftap (n va vx vy gc : Nat) (conj rc cdir : Bool) (ecc : Ecc) (s : State) (fetch : Ecc := .clean) : Host.Outcome State Fault Refusal :=
  .next (gated false (below 512 n && below 32 va && below 32 vx && below 32 vy && below 32 gc) (opVftap n va vx vy gc conj rc cdir ecc fetch) s)
/-- VFADD (R116). -/
def execVfadd (n vd va vb : Nat) (p : Option Nat) (s : State) (fetch : Ecc := .clean) : Host.Outcome State Fault Refusal :=
  .next (gated false (below 512 n && below 32 vd && below 32 va && below 32 vb && optBelow 8 p) (opVfadd n vd va vb p fetch) s)
/-- VFSUB (R116). -/
def execVfsub (n vd va vb : Nat) (p : Option Nat) (s : State) (fetch : Ecc := .clean) : Host.Outcome State Fault Refusal :=
  .next (gated false (below 512 n && below 32 vd && below 32 va && below 32 vb && optBelow 8 p) (opVfsub n vd va vb p fetch) s)
/-- VFMUL (R116). -/
def execVfmul (n vd va vb : Nat) (p : Option Nat) (s : State) (fetch : Ecc := .clean) : Host.Outcome State Fault Refusal :=
  .next (gated false (below 512 n && below 32 vd && below 32 va && below 32 vb && optBelow 8 p) (opVfmul n vd va vb p fetch) s)
/-- VFMA (R116). -/
def execVfma (n vd va vb : Nat) (p : Option Nat) (s : State) (fetch : Ecc := .clean) : Host.Outcome State Fault Refusal :=
  .next (gated false (below 512 n && below 32 vd && below 32 va && below 32 vb && optBelow 8 p) (opVfma n vd va vb p fetch) s)
/-- VCMP_EQ (R115). -/
def execVcmpEq (n pd va vb : Nat) (s : State) (fetch : Ecc := .clean) : Host.Outcome State Fault Refusal :=
  .next (gated false (below 512 n && below 8 pd && below 32 va && below 32 vb) (opVcmpEq n pd va vb fetch) s)
/-- VCMP_LT (R115). -/
def execVcmpLt (n pd va vb : Nat) (s : State) (fetch : Ecc := .clean) : Host.Outcome State Fault Refusal :=
  .next (gated false (below 512 n && below 8 pd && below 32 va && below 32 vb) (opVcmpLt n pd va vb fetch) s)
/-- VCMP_LTU (R115). -/
def execVcmpLtu (n pd va vb : Nat) (s : State) (fetch : Ecc := .clean) : Host.Outcome State Fault Refusal :=
  .next (gated false (below 512 n && below 8 pd && below 32 va && below 32 vb) (opVcmpLtu n pd va vb fetch) s)
/-- PAND (R115). -/
def execPand (n pd pa pb : Nat) (s : State) (fetch : Ecc := .clean) : Host.Outcome State Fault Refusal :=
  .next (gated false (below 512 n && below 8 pd && below 8 pa && below 8 pb) (opPand n pd pa pb fetch) s)
/-- POR (R115). -/
def execPor (n pd pa pb : Nat) (s : State) (fetch : Ecc := .clean) : Host.Outcome State Fault Refusal :=
  .next (gated false (below 512 n && below 8 pd && below 8 pa && below 8 pb) (opPor n pd pa pb fetch) s)
/-- PXOR (R115). -/
def execPxor (n pd pa pb : Nat) (s : State) (fetch : Ecc := .clean) : Host.Outcome State Fault Refusal :=
  .next (gated false (below 512 n && below 8 pd && below 8 pa && below 8 pb) (opPxor n pd pa pb fetch) s)
/-- PNOT (R115). -/
def execPnot (n pd pa : Nat) (s : State) (fetch : Ecc := .clean) : Host.Outcome State Fault Refusal :=
  .next (gated false (below 512 n && below 8 pd && below 8 pa) (opPnot n pd pa fetch) s)
/-- VSEL (R115). -/
def execVsel (n vd p va vb : Nat) (s : State) (fetch : Ecc := .clean) : Host.Outcome State Fault Refusal :=
  .next (gated false (below 512 n && below 32 vd && below 8 p && below 32 va && below 32 vb) (opVsel n vd p va vb fetch) s)
/-- VBCAST (R115). -/
def execVbcast (n vd gs : Nat) (p : Option Nat) (s : State) (fetch : Ecc := .clean) : Host.Outcome State Fault Refusal :=
  .next (gated false (below 512 n && below 32 vd && below 32 gs && optBelow 8 p) (opVbcast n vd gs p fetch) s)
/-- VINS (R115). -/
def execVins (n vd gs i : Nat) (s : State) (fetch : Ecc := .clean) : Host.Outcome State Fault Refusal :=
  .next (gated false (below 512 n && below 32 vd && below 32 gs && below 64 i) (opVins n vd gs i fetch) s)
/-- VEXT (R115). -/
def execVext (n gd va i : Nat) (s : State) (fetch : Ecc := .clean) : Host.Outcome State Fault Refusal :=
  .next (gated false (below 512 n && below 32 gd && below 32 va && below 64 i) (opVext n gd va i fetch) s)
/-- VTPERM (R125). -/
def execVtperm (n vd vt k vi : Nat) (p : Option Nat) (s : State) (fetch : Ecc := .clean) : Host.Outcome State Fault Refusal :=
  .next (gated false (below 512 n && below 32 vd && below 32 vt && within 1 4 k && below 32 vi && optBelow 8 p) (opVtperm n vd vt k vi p fetch) s)
/-- VSUM (R115). -/
def execVsum (n vd va : Nat) (p : Option Nat) (s : State) (fetch : Ecc := .clean) : Host.Outcome State Fault Refusal :=
  .next (gated false (below 512 n && below 32 vd && below 32 va && optBelow 8 p) (opVsum n vd va p fetch) s)
/-- VECTOR_POWER_DOWN (R126). -/
def execVectorPowerDown (n : Nat) (s : State) : Host.Outcome State Fault Refusal := .next (gated false (below 512 n) (opVectorPowerDown n) s)
/-- VECTOR_WAKE_DONE (R127). -/
def execVectorWakeDone (n : Nat) (s : State) : Host.Outcome State Fault Refusal := .next (gated false (below 512 n) (opVectorWakeDone n) s)

end Sys2Proof.Machine
end

