-- ==== Sys2Proof/Machine/Dispatch.lean ====
section
/-! DEFINITION. One arm per command: a direct call of its meaning. -/
namespace Sys2Proof.Machine

def exec (i : Instr) (s : State) : Host.Outcome State Fault Refusal :=
  match i with
  | .roundBoundary power volt temp => Sys2Proof.Machine.execRoundBoundary power volt temp s
  | .roundFirstPEnd => Sys2Proof.Machine.execRoundFirstPEnd s
  | .run src => Sys2Proof.Machine.execRun src s
  | .stop src => Sys2Proof.Machine.execStop src s
  | .manualCommit src => Sys2Proof.Machine.execManualCommit src s
  | .planFetchAnswer => Sys2Proof.Machine.execPlanFetchAnswer s
  | .planNoOperation => Sys2Proof.Machine.execPlanNoOperation s
  | .planDmaStart => Sys2Proof.Machine.execPlanDmaStart s
  | .planCfaHandover => Sys2Proof.Machine.execPlanCfaHandover s
  | .planRedSetup => Sys2Proof.Machine.execPlanRedSetup s
  | .planToken => Sys2Proof.Machine.execPlanToken s
  | .planRegWrite => Sys2Proof.Machine.execPlanRegWrite s
  | .occurrenceTaken => Sys2Proof.Machine.execOccurrenceTaken s
  | .shadowStampRead src => Sys2Proof.Machine.execShadowStampRead src s
  | .epochWrite src a => Sys2Proof.Machine.execEpochWrite src a s
  | .csrWrite src off wide v => Sys2Proof.Machine.execCsrWrite src off wide v s
  | .w1cClear src off v => Sys2Proof.Machine.execW1cClear src off v s
  | .counterClear src off => Sys2Proof.Machine.execCounterClear src off s
  | .stalledAccessAccepted => Sys2Proof.Machine.execStalledAccessAccepted s
  | .add n w fetch => Sys2Proof.Machine.execAdd n w s fetch
  | .sub n w fetch => Sys2Proof.Machine.execSub n w s fetch
  | .and n w fetch => Sys2Proof.Machine.execAnd n w s fetch
  | .or n w fetch => Sys2Proof.Machine.execOr n w s fetch
  | .xor n w fetch => Sys2Proof.Machine.execXor n w s fetch
  | .shl n w fetch => Sys2Proof.Machine.execShl n w s fetch
  | .shr n w fetch => Sys2Proof.Machine.execShr n w s fetch
  | .sar n w fetch => Sys2Proof.Machine.execSar n w s fetch
  | .cmpEq n w fetch => Sys2Proof.Machine.execCmpEq n w s fetch
  | .cmpLt n w fetch => Sys2Proof.Machine.execCmpLt n w s fetch
  | .cmpLtu n w fetch => Sys2Proof.Machine.execCmpLtu n w s fetch
  | .min n w fetch => Sys2Proof.Machine.execMin n w s fetch
  | .max n w fetch => Sys2Proof.Machine.execMax n w s fetch
  | .abs n w fetch => Sys2Proof.Machine.execAbs n w s fetch
  | .mov n w fetch => Sys2Proof.Machine.execMov n w s fetch
  | .movi n w fetch => Sys2Proof.Machine.execMovi n w s fetch
  | .movhi n w fetch => Sys2Proof.Machine.execMovhi n w s fetch
  | .mul n w fetch => Sys2Proof.Machine.execMul n w s fetch
  | .mulh n w fetch => Sys2Proof.Machine.execMulh n w s fetch
  | .cmac n w fetch => Sys2Proof.Machine.execCmac n w s fetch
  | .cmacc n w fetch => Sys2Proof.Machine.execCmacc n w s fetch
  | .cmsu n w fetch => Sys2Proof.Machine.execCmsu n w s fetch
  | .rmac n w fetch => Sys2Proof.Machine.execRmac n w s fetch
  | .clr n w fetch => Sys2Proof.Machine.execClr n w s fetch
  | .racc n w fetch => Sys2Proof.Machine.execRacc n w s fetch
  | .mva n w fetch => Sys2Proof.Machine.execMva n w s fetch
  | .ftap n w ecc fetch => Sys2Proof.Machine.execFtap n w ecc s fetch
  | .ldB n w ecc fetch => Sys2Proof.Machine.execLdB n w ecc s fetch
  | .ldBu n w ecc fetch => Sys2Proof.Machine.execLdBu n w ecc s fetch
  | .ldH n w ecc fetch => Sys2Proof.Machine.execLdH n w ecc s fetch
  | .ldHu n w ecc fetch => Sys2Proof.Machine.execLdHu n w ecc s fetch
  | .ldW n w ecc fetch => Sys2Proof.Machine.execLdW n w ecc s fetch
  | .ldD n w ecc fetch => Sys2Proof.Machine.execLdD n w ecc s fetch
  | .stB n w ecc fetch => Sys2Proof.Machine.execStB n w s ecc fetch
  | .stH n w ecc fetch => Sys2Proof.Machine.execStH n w s ecc fetch
  | .stW n w fetch => Sys2Proof.Machine.execStW n w s fetch
  | .stD n w fetch => Sys2Proof.Machine.execStD n w s fetch
  | .undef n w fetch => Sys2Proof.Machine.execUndef n w s fetch
  | .ldf n w fetch => Sys2Proof.Machine.execLdf n w s fetch
  | .stf n w fetch => Sys2Proof.Machine.execStf n w s fetch
  | .stfAck n w fetch => Sys2Proof.Machine.execStfAck n w s fetch
  | .farStoreInjected n => Sys2Proof.Machine.execFarStoreInjected n s
  | .farResponse n id => Sys2Proof.Machine.execFarResponse n id s
  | .farErr n => Sys2Proof.Machine.execFarErr n s
  | .fencef n w fetch => Sys2Proof.Machine.execFencef n w s fetch
  | .b n w fetch => Sys2Proof.Machine.execB n w s fetch
  | .bz n w fetch => Sys2Proof.Machine.execBz n w s fetch
  | .bnz n w fetch => Sys2Proof.Machine.execBnz n w s fetch
  | .bl n w fetch => Sys2Proof.Machine.execBl n w s fetch
  | .jr n w fetch => Sys2Proof.Machine.execJr n w s fetch
  | .jal n w fetch => Sys2Proof.Machine.execJal n w s fetch
  | .rpt n w fetch => Sys2Proof.Machine.execRpt n w s fetch
  | .repeatEnd n => Sys2Proof.Machine.execRepeatEnd n s
  | .wait n w fetch => Sys2Proof.Machine.execWait n w s fetch
  | .waitDrainDone n => Sys2Proof.Machine.execWaitDrainDone n s
  | .reti n w fetch => Sys2Proof.Machine.execReti n w s fetch
  | .trap n w fetch => Sys2Proof.Machine.execTrap n w s fetch
  | .brk n w fetch => Sys2Proof.Machine.execBrk n w s fetch
  | .mfs n w fetch => Sys2Proof.Machine.execMfs n w s fetch
  | .mts n w fetch => Sys2Proof.Machine.execMts n w s fetch
  | .nop n w fetch => Sys2Proof.Machine.execNop n w s fetch
  | .interrupt n => Sys2Proof.Machine.execInterrupt n s
  | .engIrqSet src n mask => Sys2Proof.Machine.execEngIrqSet src n mask s
  | .engIrqLate n line => Sys2Proof.Machine.execEngIrqLate n line s
  | .taskKill n src => Sys2Proof.Machine.execTaskKill n src s
  | .killed n => Sys2Proof.Machine.execKilled n s
  | .engineReset src n halt => Sys2Proof.Machine.execEngineReset src n halt s
  | .halt src n => Sys2Proof.Machine.execHalt src n s
  | .haltClear src n => Sys2Proof.Machine.execHaltClear src n s
  | .step src n => Sys2Proof.Machine.execStep src n s
  | .engHalted n => Sys2Proof.Machine.execEngHalted n s
  | .setvl n w fetch => Sys2Proof.Machine.execSetvl n w s fetch
  | .vrd n w fetch => Sys2Proof.Machine.execVrd n w s fetch
  | .vwr n w fetch => Sys2Proof.Machine.execVwr n w s fetch
  | .vld n vd gb imm post ecc corr fetch => Sys2Proof.Machine.execVld n vd gb imm post ecc corr s fetch
  | .vst n vs gb imm post ecc corr fetch => Sys2Proof.Machine.execVst n vs gb imm post s ecc corr fetch
  | .vlds n vd gb gs ecc corr fetch => Sys2Proof.Machine.execVlds n vd gb gs ecc corr s fetch
  | .vsts n vs gb gs ecc corr fetch => Sys2Proof.Machine.execVsts n vs gb gs s ecc corr fetch
  | .vldx n vd gb vi fetch => Sys2Proof.Machine.execVldx n vd gb vi s fetch
  | .vstx n vs gb vi fetch => Sys2Proof.Machine.execVstx n vs gb vi s fetch
  | .gatherComplete n ecc corr => Sys2Proof.Machine.execGatherComplete n ecc corr s
  | .vadd n vd va vb p fetch => Sys2Proof.Machine.execVadd n vd va vb p s fetch
  | .vsub n vd va vb p fetch => Sys2Proof.Machine.execVsub n vd va vb p s fetch
  | .vmul n vd va vb p fetch => Sys2Proof.Machine.execVmul n vd va vb p s fetch
  | .vadds n vd va vb p fetch => Sys2Proof.Machine.execVadds n vd va vb p s fetch
  | .vsubs n vd va vb p fetch => Sys2Proof.Machine.execVsubs n vd va vb p s fetch
  | .vcmul n vd va vb p fetch => Sys2Proof.Machine.execVcmul n vd va vb p s fetch
  | .vcmulc n vd va vb p fetch => Sys2Proof.Machine.execVcmulc n vd va vb p s fetch
  | .vcmacW n vd va vb p fetch => Sys2Proof.Machine.execVcmacW n vd va vb p s fetch
  | .vcmaccW n vd va vb p fetch => Sys2Proof.Machine.execVcmaccW n vd va vb p s fetch
  | .vracc n vd va sh fetch => Sys2Proof.Machine.execVracc n vd va sh s fetch
  | .vftap n va vx vy gc conj rc cdir ecc fetch => Sys2Proof.Machine.execVftap n va vx vy gc conj rc cdir ecc s fetch
  | .vfadd n vd va vb p fetch => Sys2Proof.Machine.execVfadd n vd va vb p s fetch
  | .vfsub n vd va vb p fetch => Sys2Proof.Machine.execVfsub n vd va vb p s fetch
  | .vfmul n vd va vb p fetch => Sys2Proof.Machine.execVfmul n vd va vb p s fetch
  | .vfma n vd va vb p fetch => Sys2Proof.Machine.execVfma n vd va vb p s fetch
  | .vcmpEq n pd va vb fetch => Sys2Proof.Machine.execVcmpEq n pd va vb s fetch
  | .vcmpLt n pd va vb fetch => Sys2Proof.Machine.execVcmpLt n pd va vb s fetch
  | .vcmpLtu n pd va vb fetch => Sys2Proof.Machine.execVcmpLtu n pd va vb s fetch
  | .pand n pd pa pb fetch => Sys2Proof.Machine.execPand n pd pa pb s fetch
  | .por n pd pa pb fetch => Sys2Proof.Machine.execPor n pd pa pb s fetch
  | .pxor n pd pa pb fetch => Sys2Proof.Machine.execPxor n pd pa pb s fetch
  | .pnot n pd pa fetch => Sys2Proof.Machine.execPnot n pd pa s fetch
  | .vsel n vd p va vb fetch => Sys2Proof.Machine.execVsel n vd p va vb s fetch
  | .vbcast n vd gs p fetch => Sys2Proof.Machine.execVbcast n vd gs p s fetch
  | .vins n vd gs el fetch => Sys2Proof.Machine.execVins n vd gs el s fetch
  | .vext n gd va el fetch => Sys2Proof.Machine.execVext n gd va el s fetch
  | .vtperm n vd vt k vi p fetch => Sys2Proof.Machine.execVtperm n vd vt k vi p s fetch
  | .vsum n vd va p fetch => Sys2Proof.Machine.execVsum n vd va p s fetch
  | .vectorPowerDown n => Sys2Proof.Machine.execVectorPowerDown n s
  | .vectorWakeDone n => Sys2Proof.Machine.execVectorWakeDone n s
  | .cop n w fetch => Sys2Proof.Machine.execCop n w s fetch
  | .copAnswer n => Sys2Proof.Machine.execCopAnswer n s
  | .accRequest k id => Sys2Proof.Machine.execAccRequest k id s
  | .accDescriptorFetched k id => Sys2Proof.Machine.execAccDescriptorFetched k id s
  | .jobStart k => Sys2Proof.Machine.execJobStart k s
  | .accInputReadAnswer k id corr uncorr row => Sys2Proof.Machine.execAccInputReadAnswer k id s corr uncorr row
  | .outputWritesAccepted k => Sys2Proof.Machine.execOutputWritesAccepted k s
  | .resultWriteAccepted k => Sys2Proof.Machine.execResultWriteAccepted k s
  | .statusWriteAccepted k id => Sys2Proof.Machine.execStatusWriteAccepted k id s
  | .withdraw k id => Sys2Proof.Machine.execWithdraw k id s
  | .withdrawAnswer n id => Sys2Proof.Machine.execWithdrawAnswer n id s
  | .flush src k v => Sys2Proof.Machine.execFlush src k v s
  | .define src sl c => Sys2Proof.Machine.execDefine src sl c s
  | .arm src sl c => Sys2Proof.Machine.execArm src sl c s
  | .cancel src sl c => Sys2Proof.Machine.execCancel src sl c s
  | .read src sl c => Sys2Proof.Machine.execRead src sl c s
  | .release src sl c => Sys2Proof.Machine.execRelease src sl c s
  | .token sl w0 w1 src res => Sys2Proof.Machine.execToken sl w0 w1 src s res
  | .armMessage sl w0 src res => Sys2Proof.Machine.execArmMessage sl w0 src s res
  | .cancelMessage sl w0 src res => Sys2Proof.Machine.execCancelMessage sl w0 src s res
  | .heldTokenAccepted sl => Sys2Proof.Machine.execHeldTokenAccepted sl s
  | .orderLogReadAnswer sl => Sys2Proof.Machine.execOrderLogReadAnswer sl s
  | .dispatch sl => Sys2Proof.Machine.execDispatch sl s
  | .operandAreaAccepted sl e => Sys2Proof.Machine.execOperandAreaAccepted sl e s
  | .churnNextRead src sl e => Sys2Proof.Machine.execChurnNextRead src sl e s
  | .killAcknowledgement sl e => Sys2Proof.Machine.execKillAcknowledgement sl e s
  | .packetAccepted id => Sys2Proof.Machine.execPacketAccepted id s
  | .acceptanceNotice id => Sys2Proof.Machine.execAcceptanceNotice id s
  | .requestTimeout id => Sys2Proof.Machine.execRequestTimeout id s
  | .lateAnswer id => Sys2Proof.Machine.execLateAnswer id s
  | .placeFreed id => Sys2Proof.Machine.execPlaceFreed id s
  | .heldRequestInjected id => Sys2Proof.Machine.execHeldRequestInjected id s
  | .routerApply n => Sys2Proof.Machine.execRouterApply n s
  | .nocDrainSlow => Sys2Proof.Machine.execNocDrainSlow s
  | .guardAccess id => Sys2Proof.Machine.execGuardAccess id s
  | .nack id => Sys2Proof.Machine.execNack id s
  | .book id => Sys2Proof.Machine.execBook id s
  | .deny id => Sys2Proof.Machine.execDeny id s
  | .bookRetry id => Sys2Proof.Machine.execBookRetry id s
  | .grant id => Sys2Proof.Machine.execGrant id s
  | .niRedSend src c v ecc => Sys2Proof.Machine.execNiRedSend src c v s ecc
  | .redPacketAtRouter n id => Sys2Proof.Machine.execRedPacketAtRouter n id s
  | .redHoldExpiry n ix => Sys2Proof.Machine.execRedHoldExpiry n ix s
  | .niRedSetup src c tag count cls => Sys2Proof.Machine.execNiRedSetup src c tag count cls s
  | .redSetupReceived id => Sys2Proof.Machine.execRedSetupReceived id s
  | .redPartial c id => Sys2Proof.Machine.execRedPartial c id s
  | .redTableAnswer c tag => Sys2Proof.Machine.execRedTableAnswer c tag s
  | .redResultAccepted c tag => Sys2Proof.Machine.execRedResultAccepted c tag s
  | .memoryAccessServed id ecc => Sys2Proof.Machine.execMemoryAccessServed id ecc s
  | .dramTrainingEnd ch failed => Sys2Proof.Machine.execDramTrainingEnd ch failed s
  | .dramTemperatureRead ch hot => Sys2Proof.Machine.execDramTemperatureRead ch hot s
  | .scrubPass ch corr => Sys2Proof.Machine.execScrubPass ch corr s
  | .dmaChStart src e ch addr => Sys2Proof.Machine.execDmaChStart src e ch addr s
  | .dmaDescriptorFetched e ch => Sys2Proof.Machine.execDmaDescriptorFetched e ch s
  | .dmaBurstIssue e pre => Sys2Proof.Machine.execDmaBurstIssue e pre s
  | .dmaReadAnswer e ch id => Sys2Proof.Machine.execDmaReadAnswer e ch id s
  | .dmaQuiet e => Sys2Proof.Machine.execDmaQuiet e s
  | .busClr src e en => Sys2Proof.Machine.execBusClr src e en s
  | .dmaDataAccepted e ch => Sys2Proof.Machine.execDmaDataAccepted e ch s
  | .dmaCrcAccepted e ch => Sys2Proof.Machine.execDmaCrcAccepted e ch s
  | .dmaStatusAccepted e ch => Sys2Proof.Machine.execDmaStatusAccepted e ch s
  | .dmaOwnAccepted e ch => Sys2Proof.Machine.execDmaOwnAccepted e ch s
  | .dmaChStop src e ch => Sys2Proof.Machine.execDmaChStop src e ch s
  | .dmaStopComplete e ch => Sys2Proof.Machine.execDmaStopComplete e ch s
  | .cfaChReadyWrite src ch v => Sys2Proof.Machine.execCfaChReadyWrite src ch v s
  | .cfaHandover id => Sys2Proof.Machine.execCfaHandover id s
  | .cfaCoefWrite src k ix v => Sys2Proof.Machine.execCfaCoefWrite src k ix v s
  | .cfaLineRead ch => Sys2Proof.Machine.execCfaLineRead ch s
  | .cfaLineReadAnswer ch id => Sys2Proof.Machine.execCfaLineReadAnswer ch id s
  | .detectorWindowEnd ch => Sys2Proof.Machine.execDetectorWindowEnd ch s
  | .gateDecision m => Sys2Proof.Machine.execGateDecision m s
  | .gateEntryReadAnswer m => Sys2Proof.Machine.execGateEntryReadAnswer m s
  | .gateFrameReadAnswer m => Sys2Proof.Machine.execGateFrameReadAnswer m s
  | .gateLaunch m => Sys2Proof.Machine.execGateLaunch m s
  | .anComplete m same pauseTx pauseRx eee => Sys2Proof.Machine.execAnComplete m same pauseTx pauseRx eee s
  | .linkTrainingComplete m => Sys2Proof.Machine.execLinkTrainingComplete m s
  | .portLinkLoss m => Sys2Proof.Machine.execPortLinkLoss m s
  | .detectAttempt l => Sys2Proof.Machine.execDetectAttempt l s
  | .receiverDetected l => Sys2Proof.Machine.execReceiverDetected l s
  | .bitLock l => Sys2Proof.Machine.execBitLock l s
  | .symbolLock l viol => Sys2Proof.Machine.execSymbolLock l s viol
  | .trainTimeout l => Sys2Proof.Machine.execTrainTimeout l s
  | .lockTimeout l viol => Sys2Proof.Machine.execLockTimeout l s viol
  | .capsTimeout l => Sys2Proof.Machine.execCapsTimeout l s
  | .stepTimeout l viol => Sys2Proof.Machine.execStepTimeout l s viol
  | .capsSetReceived l gs viol => Sys2Proof.Machine.execCapsSetReceived l gs viol s
  | .tscReceived l gs viol => Sys2Proof.Machine.execTscReceived l gs viol s
  | .tscCountZeroSent l => Sys2Proof.Machine.execTscCountZeroSent l s
  | .lockLoss l viol => Sys2Proof.Machine.execLockLoss l viol s
  | .signalLoss l => Sys2Proof.Machine.execSignalLoss l s
  | .tetherRestart src l => Sys2Proof.Machine.execTetherRestart src l s
  | .clrCeil src l => Sys2Proof.Machine.execClrCeil src l s
  | .tetherBlockSend l turn cut ecc word => Sys2Proof.Machine.execTetherBlockSend l turn cut ecc word s
  | .tetherBlockReceived l gs viol arrive ecc word prbs => Sys2Proof.Machine.execTetherBlockReceived l gs viol arrive ecc word prbs s
  | .leaveComplete l => Sys2Proof.Machine.execLeaveComplete l s
  | .ctlRingWriteAccepted l => Sys2Proof.Machine.execCtlRingWriteAccepted l s
  | .ctlTxEntryRead l => Sys2Proof.Machine.execCtlTxEntryRead l s
  | .ctlTxEntryAnswer l => Sys2Proof.Machine.execCtlTxEntryAnswer l s
  | .ctleAdapt l up => Sys2Proof.Machine.execCtleAdapt l up s
  | .frameReceived m bs mark frag back => Sys2Proof.Machine.execFrameReceived m bs mark frag back s
  | .rxqEntryAnswer m q => Sys2Proof.Machine.execRxqEntryAnswer m q s
  | .rxStatusReadAnswer m q => Sys2Proof.Machine.execRxStatusReadAnswer m q s
  | .rxFrameWritesAccepted m q => Sys2Proof.Machine.execRxFrameWritesAccepted m q s
  | .rxStatusWriteAccepted m q => Sys2Proof.Machine.execRxStatusWriteAccepted m q s
  | .macRxqReset src m q => Sys2Proof.Machine.execMacRxqReset src m q s
  | .pauseFrameReceived m pfc mask none0 => Sys2Proof.Machine.execPauseFrameReceived m pfc mask none0 s
  | .pauseTimerEnd m mask => Sys2Proof.Machine.execPauseTimerEnd m mask s
  | .pauseRepeat m => Sys2Proof.Machine.execPauseRepeat m s
  | .txDescriptorRead m q => Sys2Proof.Machine.execTxDescriptorRead m q s
  | .txDescriptorAnswer m q => Sys2Proof.Machine.execTxDescriptorAnswer m q s
  | .txFrameReadAnswer m q => Sys2Proof.Machine.execTxFrameReadAnswer m q s
  | .txFrameStart m => Sys2Proof.Machine.execTxFrameStart m s
  | .fragmentPreempt m n => Sys2Proof.Machine.execFragmentPreempt m s n
  | .txFrameEnd m => Sys2Proof.Machine.execTxFrameEnd m s
  | .txCompletionAccepted m q => Sys2Proof.Machine.execTxCompletionAccepted m q s
  | .verifyTimeout m => Sys2Proof.Machine.execVerifyTimeout m s
  | .verifyResponseReceived m => Sys2Proof.Machine.execVerifyResponseReceived m s
  | .holdAssert m => Sys2Proof.Machine.execHoldAssert m s
  | .lpiEntry m => Sys2Proof.Machine.execLpiEntry m s
  | .lpiWakeDone m => Sys2Proof.Machine.execLpiWakeDone m s
  | .timeIncWrite src v => Sys2Proof.Machine.execTimeIncWrite src v s
  | .timeSlewIncWrite src v => Sys2Proof.Machine.execTimeSlewIncWrite src v s
  | .timeSlewCntWrite src v => Sys2Proof.Machine.execTimeSlewCntWrite src v s
  | .slewEnd => Sys2Proof.Machine.execSlewEnd s
  | .timeNowSecRead src => Sys2Proof.Machine.execTimeNowSecRead src s
  | .timeNowSubRead src => Sys2Proof.Machine.execTimeNowSubRead src s
  | .timeValidWrite src on => Sys2Proof.Machine.execTimeValidWrite src on s
  | .timeLoad src valid => Sys2Proof.Machine.execTimeLoad src valid s
  | .timeCapture n => Sys2Proof.Machine.execTimeCapture n s
  | .timeTrig n => Sys2Proof.Machine.execTimeTrig n s
  | .timeOutPulseEnd n => Sys2Proof.Machine.execTimeOutPulseEnd n s
  | .silentProbe p => Sys2Proof.Machine.execSilentProbe p s
  | .probeReceived p => Sys2Proof.Machine.execProbeReceived p s
  | .probeComplete p snr theirs => Sys2Proof.Machine.execProbeComplete p snr theirs s
  | .probeTimeout p => Sys2Proof.Machine.execProbeTimeout p s
  | .ectrainComplete p echo => Sys2Proof.Machine.execEctrainComplete p echo s
  | .echoCheck8ms p echo => Sys2Proof.Machine.execEchoCheck8ms p echo s
  | .ectrainTimeout p => Sys2Proof.Machine.execEctrainTimeout p s
  | .exchangeComplete p => Sys2Proof.Machine.execExchangeComplete p s
  | .exchangeTimeout p => Sys2Proof.Machine.execExchangeTimeout p s
  | .lineSignalLoss p => Sys2Proof.Machine.execLineSignalLoss p s
  | .fecFail p => Sys2Proof.Machine.execFecFail p s
  | .linePairRestart src p => Sys2Proof.Machine.execLinePairRestart src p s
  | .lineLpiEntry p rx => Sys2Proof.Machine.execLineLpiEntry p rx s
  | .refreshBurst p => Sys2Proof.Machine.execRefreshBurst p s
  | .energyDetect p e8 => Sys2Proof.Machine.execEnergyDetect p e8 s
  | .earlyTest p before r x => Sys2Proof.Machine.execEarlyTest p before r x s
  | .fullTest p rho e8 => Sys2Proof.Machine.execFullTest p rho e8 s
  | .delimiterCheck p d inv e8 => Sys2Proof.Machine.execDelimiterCheck p d inv e8 s
  | .reacquire p e8 => Sys2Proof.Machine.execReacquire p e8 s
  | .capture p ratio e8 => Sys2Proof.Machine.execCapture p ratio e8 s
  | .burstEnd p => Sys2Proof.Machine.execBurstEnd p s
  | .holdoffExit p e8 => Sys2Proof.Machine.execHoldoffExit p e8 s
  | .codewordReceived p ok => Sys2Proof.Machine.execCodewordReceived p ok s
  | .fragmentSend p cont => Sys2Proof.Machine.execFragmentSend p cont s
  | .fragmentReceived p hdr bs back => Sys2Proof.Machine.execFragmentReceived p hdr bs back s
  | .reassemblyTimeout => Sys2Proof.Machine.execReassemblyTimeout s
  | .starterRun pll nor bad => Sys2Proof.Machine.execStarterRun pll nor bad s
  | .hostAccess csr off data len => Sys2Proof.Machine.execHostAccess csr off data len s
  | .hostWindowCompletion id outcome data => Sys2Proof.Machine.execHostWindowCompletion id outcome data s
  | .pcieResetSignal => Sys2Proof.Machine.execPcieResetSignal s
  | .functionLevelReset => Sys2Proof.Machine.execFunctionLevelReset s
  | .pcieLink up gen width flit => Sys2Proof.Machine.execPcieLink up gen width flit s
  | .getStatus src => Sys2Proof.Machine.execGetStatus src s
  | .readRegs src => Sys2Proof.Machine.execReadRegs src s
  | .getCounter src => Sys2Proof.Machine.execGetCounter src s
  | .attest src => Sys2Proof.Machine.execAttest src s
  | .getAttestKey src => Sys2Proof.Machine.execGetAttestKey src s
  | .getAttestCert src => Sys2Proof.Machine.execGetAttestCert src s
  | .certReadDone => Sys2Proof.Machine.execCertReadDone s
  | .writeRegs src => Sys2Proof.Machine.execWriteRegs src s
  | .switchImage src => Sys2Proof.Machine.execSwitchImage src s
  | .writeImage src => Sys2Proof.Machine.execWriteImage src s
  | .imageWriteDone ok => Sys2Proof.Machine.execImageWriteDone ok s
  | .keyRevoke src => Sys2Proof.Machine.execKeyRevoke src s
  | .slotRevoke src => Sys2Proof.Machine.execSlotRevoke src s
  | .svnAdvance src => Sys2Proof.Machine.execSvnAdvance src s
  | .power src => Sys2Proof.Machine.execPower src s
  | .replayEnter src => Sys2Proof.Machine.execReplayEnter src s
  | .replayExit src => Sys2Proof.Machine.execReplayExit src s
  | .reset src => Sys2Proof.Machine.execReset src s
  | .journalWriteDone ok => Sys2Proof.Machine.execJournalWriteDone ok s
  | .commandExecutionStart => Sys2Proof.Machine.execCommandExecutionStart s
  | .bootRecordWriteDone ok => Sys2Proof.Machine.execBootRecordWriteDone ok s
  | .standbyHaltDone => Sys2Proof.Machine.execStandbyHaltDone s
  | .standbyQuietDone => Sys2Proof.Machine.execStandbyQuietDone s
  | .standbyDomainsDown => Sys2Proof.Machine.execStandbyDomainsDown s
  | .shedDecision power volt temp => Sys2Proof.Machine.execShedDecision power volt temp s
  | .pwrHot => Sys2Proof.Machine.execPwrHot s
  | .thermalTrip => Sys2Proof.Machine.execThermalTrip s
  | .wakeIn => Sys2Proof.Machine.execWakeIn s
  | .domainWakeDone d ecc => Sys2Proof.Machine.execDomainWakeDone d ecc s
  | .wakeTimeout d => Sys2Proof.Machine.execWakeTimeout d s
  | .wakeRetry d => Sys2Proof.Machine.execWakeRetry d s
  | .fenceDrained d => Sys2Proof.Machine.execFenceDrained d s
  | .prechargeContact => Sys2Proof.Machine.execPrechargeContact s
  | .vinRise => Sys2Proof.Machine.execVinRise s
  | .railsGood => Sys2Proof.Machine.execRailsGood s
  | .presentDebounced => Sys2Proof.Machine.execPresentDebounced s
  | .powerGoodLoss => Sys2Proof.Machine.execPowerGoodLoss s
  | .ejectReq => Sys2Proof.Machine.execEjectReq s
  | .ejectDebounced => Sys2Proof.Machine.execEjectDebounced s
  | .removalQuiesced => Sys2Proof.Machine.execRemovalQuiesced s
  | .removalPoweredDown => Sys2Proof.Machine.execRemovalPoweredDown s
  | .latchClose => Sys2Proof.Machine.execLatchClose s
  | .presentLost => Sys2Proof.Machine.execPresentLost s
  | .vinLow => Sys2Proof.Machine.execVinLow s
  | .currentLimitTrip => Sys2Proof.Machine.execCurrentLimitTrip s
  | .tripRestart => Sys2Proof.Machine.execTripRestart s
  | .hkcPassStart => Sys2Proof.Machine.execHkcPassStart s
  | .hkcEntryDone codes => Sys2Proof.Machine.execHkcEntryDone codes s
  | .overCurrentDetect ma => Sys2Proof.Machine.execOverCurrentDetect ma s
  | .hkcUrgentDone code wait => Sys2Proof.Machine.execHkcUrgentDone code wait s
  | .ageMark kind idx code => Sys2Proof.Machine.execAgeMark kind idx code s
  | .wireMark n d w errs => Sys2Proof.Machine.execWireMark n d w errs s
  | .engineQuiescent n => Sys2Proof.Machine.execEngineQuiescent n s
  | .spareCopyDone n => Sys2Proof.Machine.execSpareCopyDone n s
  | .spareReqEngine src n rotate => Sys2Proof.Machine.execSpareReqEngine src n rotate s
  | .spareReqAccelerator src k => Sys2Proof.Machine.execSpareReqAccelerator src k s
  | .spareReqLane src l => Sys2Proof.Machine.execSpareReqLane src l s
  | .spareBist src kind cluster target => Sys2Proof.Machine.execSpareBist src kind cluster target s
  | .bistDone fail => Sys2Proof.Machine.execBistDone fail s
  | .recTrig src en => Sys2Proof.Machine.execRecTrig src en s
  | .replayRecordDelivery => Sys2Proof.Machine.execReplayRecordDelivery s
  | .planIssueAnswer => Sys2Proof.Machine.execPlanIssueAnswer s
  | .interruptWriteAnswer => Sys2Proof.Machine.execInterruptWriteAnswer s
  | .commandWriteAnswer no => Sys2Proof.Machine.execCommandWriteAnswer no s
  | .lastOutputWrite k corr uncorr row => Sys2Proof.Machine.execLastOutputWrite k corr uncorr row s
  | .mainPllFailure => Sys2Proof.Machine.execMainPllFailure s
  | .badOpcode src => Sys2Proof.Machine.execBadOpcode src s
  | .c2mPortUp m => Sys2Proof.Machine.execC2mPortUp m s
  | .cfaSamplePeriod ch => Sys2Proof.Machine.execCfaSamplePeriod ch s
  | .lpiRx m on => Sys2Proof.Machine.execLpiRx m on s
  | .busMasterEnable on => Sys2Proof.Machine.execBusMasterEnable on s

end Sys2Proof.Machine
end

