-- ==== Sys2Proof/Safety.lean ====
section
/-! DEFINITION. What counts as a safe run, and the terms the statements use: when a command may act, what it leads to, what an
instruction of an engine leaves unchanged. -/
namespace Sys2Proof.Safety
open Sys2Proof.Machine

/-- The machine's tables of bytes and registers are in canonical form: equal memories and register files are equal data. -/
def Canonical (s : State) : Prop := s.mem.wf = true ∧ tabWf resetOf s.csr.live = true

/-- The module is out of reset (R488). -/
def Powered (s : State) : Prop := s.pwr.plug = 4

/-- The module is out of reset and not in Deep Standby (R468, R488): every command may act. -/
def Running (s : State) : Prop := s.pwr.plug = 4 ∧ fld Reg.PWR_STATUS 1 0 s ≠ 3

/-- Command `c` is answered with a next state, of which `post` holds. -/
def Effect (c : Instr) (s : State) (post : State → Prop) : Prop := ∃ t, exec c s = .next t ∧ post t

/-- A 32-bit counter counted one, and saturates. -/
def Counted (off : Nat) (s t : State) : Prop := rd off t = dw (min ((rd off s).toNat + 1) 0xFFFFFFFF)

/-- The state in which the next instruction of engine `n` issues: the cycles since its last one have passed, with the results that landed in them,
and what the fetch found is noted (R66, R67, R90). -/
def issuing (n : Nat) (fetch : Ecc) (s : State) : State := fetchNoted n fetch (atIssue n false [] s)

/-- The same for a vector instruction that reads the g registers `reads`, counted in VEC_ISSUE_CNT: one that joins the scalar instruction before
it issues in that one's cycle (R66, R129). -/
def vissuing (n : Nat) (reads : List Nat) (fetch : Ecc) (s : State) : State :=
  bump64 (Reg.VEC_ISSUE_CNT n) 1 (fetchNoted n fetch (atIssue n true reads s))

/-- In state `u` engine `n` issues a word of which `isIt` holds: it runs (R91), finds that word at its pc (R263), with a sound fetch (R90), and no
register named is interlocked (R68). -/
def Ready (n : Nat) (isIt : Word → Bool) (fetch : Ecc) (regs : List Nat) (u : State) : Prop :=
  canIssue n u = true ∧ fetches n isIt fetch u = true ∧ fetchSub n fetch u = 0 ∧ interlocked (eng n u) regs = false

/-- Engine `n` issues the word `w` next. -/
def Free (n : Nat) (w : Word) (fetch : Ecc) (regs : List Nat) (s : State) : Prop :=
  Running s ∧ n < 512 ∧ Ready n (· == w) fetch regs (atIssue n false [] s)

/-- The instruction is counted and the engine goes on: past it, or within its repeat (R74, R104). -/
def Completes (n : Nat) (s t : State) : Prop :=
  (rd (Reg.ENG_ISSUE_CNT n) t).toNat = min ((rd (Reg.ENG_ISSUE_CNT n) s).toNat + 1) (2 ^ 64 - 1) ∧
  ((eng n s).rem = 0 → (eng n t).pc = ((eng n s).pc + 4) % 2 ^ 32 ∧ (eng n t).rs = (eng n s).rs)

/-- Only engine `n` changes, and of the registers only its status, its pc, its vector status and its count of instructions. -/
def OnlyEngine (n : Nat) (s t : State) : Prop :=
  t = { s with eng := t.eng, csr := t.csr } ∧ t.csr = { s.csr with live := t.csr.live } ∧ (∀ m, m ≠ n → eng m t = eng m s) ∧
  ∀ off, off ∉ [Reg.ENG_ISSUE_CNT n, Reg.ENG_STATUS n, Reg.ENG_PC n, Reg.VEC_STATUS n] → rd off t = rd off s

/-- Of an engine only g registers and results on their way changed, beside the pc, the tracking of a repeat and of the pipeline. -/
def RegsOnly (e e' : Engine) : Prop :=
  e' = { e with
    g := e'.g, land := e'.land, pc := e'.pc, lastPc := e'.lastPc, rs0 := e'.rs0, rs1 := e'.rs1, step := e'.step, rptEnd := e'.rptEnd, gap := e'.gap,
    pair := e'.pair, stale := e'.stale }

/-- As `RegsOnly`, but for the sticky flags of ST. -/
def RegsAndFlagsOnly (e e' : Engine) : Prop :=
  RegsOnly { e with st0 := e'.st0, st1 := e'.st1 } e'

/-- The engine's results on their way are those of before, and one more: `x`, usable `k` cycles after issue (R67). -/
def Lands (k : Nat) (x : Landed) (e e' : Engine) : Prop := e'.land = e.land ++ [⟨k, x⟩]

/-- No result more is on its way; one for register gr that would land at the end of the cycle is superseded (R67). -/
def NoneLater (r : Nat) (e e' : Engine) : Prop := e'.land = (e.supersede (Landed.isG (gKey e.bank r))).land

/-- Every g register of the current bank but `r` reads as before. -/
def OthersKept (r : Nat) (e e' : Engine) : Prop := ∀ q, q < 32 → q ≠ r → e'.gr q = e.gr q

/-- Every g register of the current bank reads as before. -/
def GKept (e e' : Engine) : Prop := ∀ q, e'.gr q = e.gr q

/-- The g register `r` of the current bank becomes `v`: in the next cycle, or `k` cycles after issue, and until then every register reads as
before (R67). -/
def NextCycle (r : Nat) (v : Word) (e e' : Engine) : Prop := e'.gr r = v ∧ OthersKept r e e' ∧ NoneLater r e e'
def AfterCycles (k r : Nat) (v : Word) (e e' : Engine) : Prop := GKept e e' ∧ Lands k (.g (gKey e.bank r) v) e e'

/-- A register instruction of two operands gives `f` of them, as `put` says, and changes nothing else. -/
def GivesTwo (mk : Nat → Word → Ecc → Instr) (put : Nat → Word → Engine → Engine → Prop) (f : Word → Word → Word) : Prop :=
  ∀ n w fetch s, (mk n w fetch).wf = true → Free n w fetch (aluRegs w) s → opReserved w = false →
    Effect (mk n w fetch) s fun t =>
      let u := issuing n fetch s
      put (fieldOf w 25 21) (f ((eng n u).gr (fieldOf w 20 16)) (secondOf (eng n u) w)) (eng n u) (eng n t) ∧
      RegsOnly (eng n u) (eng n t) ∧ Completes n u t ∧ OnlyEngine n u t

/-- An instruction that names no second operand and completes with `f` of the engine in gD, as `put` says, and changes nothing else of the engine
but, where it may saturate, SOV. -/
def GivesOne (mk : Nat → Word → Ecc → Instr) (bad : Word → Bool) (regs : Word → List Nat) (put : Nat → Word → Engine → Engine → Prop)
    (f : Engine → Word → Word) (sov : Engine → Word → Bool) : Prop :=
  ∀ n w fetch s, (mk n w fetch).wf = true → Free n w fetch (regs w) s → bad w = false →
    Effect (mk n w fetch) s fun t =>
      let u := issuing n fetch s
      put (fieldOf w 25 21) (f (eng n u) w) (eng n u) (eng n t) ∧
      (eng n t).st = (if sov (eng n u) w then (eng n u).st ||| 0x10 else (eng n u).st) ∧
      RegsAndFlagsOnly (eng n u) (eng n t) ∧ Completes n u t ∧ OnlyEngine n u t

/-- An accumulating instruction adds the exact term `f` of gA and gB to both halves of aN, each kept to 40 bits, and sets AOV where a
half leaves the signed range of 40 bits; another accumulation finds the sum in the next cycle, all else in the third (R67); no g register
changes. -/
def Accumulates (mk : Nat → Word → Ecc → Instr) (f : CInt → CInt → CInt) : Prop :=
  ∀ n w fetch s, (mk n w fetch).wf = true → Free n w fetch [fieldOf w 20 16, fieldOf w 15 11] s → fieldOf w 22 21 = 0 → fieldOf w 10 2 = 0 →
    Effect (mk n w fetch) s fun t =>
      let u := issuing n fetch s
      let e := eng n u
      let a := e.ac (fieldOf w 25 23)
      let d := f (cint16 (e.gr (fieldOf w 20 16)).toNat) (cint16 (e.gr (fieldOf w 15 11)).toNat)
      let sum : Accum := ⟨BitVec.ofInt 40 (a.re.toInt + d.re), BitVec.ofInt 40 (a.im.toInt + d.im)⟩
      (eng n t).ac (fieldOf w 25 23) = sum ∧ Lands 3 (.acc (aKey e.bank (fieldOf w 25 23)) sum) e (eng n t) ∧
      (eng n t).st = (if (a.re.toInt + d.re < -2 ^ 39 ∨ 2 ^ 39 ≤ a.re.toInt + d.re) ∨ (a.im.toInt + d.im < -2 ^ 39 ∨ 2 ^ 39 ≤ a.im.toInt + d.im)
        then e.st ||| 0x20 else e.st) ∧
      (∀ b, b < 8 → b ≠ fieldOf w 25 23 → (eng n t).ac b = e.ac b) ∧ (eng n t).acc = e.acc ∧ GKept e (eng n t) ∧
      RegsAndFlagsOnly e (eng n t) ∧ Completes n u t ∧ OnlyEngine n u t

/-- Where a local access of 2^a bytes goes and what gB becomes, by MODE (R82). -/
def AddressForm (a : Nat) (e : Engine) (w : Word) (addr gb : Word) : Prop :=
  let b := e.gr (fieldOf w 20 16)
  let imm := BitVec.signExtend 32 (w.truncate 12)
  (fieldOf w 15 14 = 0 → addr = b + imm ∧ gb = b) ∧ (fieldOf w 15 14 = 1 → addr = b ∧ gb = b + imm) ∧
  (fieldOf w 15 14 = 2 → addr = b ∧ gb = circStep e (fieldOf w 13 12) b imm) ∧
  (fieldOf w 15 14 = 3 → addr = b ∧ gb = bitRevStep e (fieldOf w 13 12) a b imm)

/-- The g registers after a local access: gB as its form leaves it, the others as before. -/
def BaseMoved (e e' : Engine) (w : Word) (a : Nat) : Prop :=
  ∀ q, q < 32 → e'.gr q = if q = fieldOf w 20 16 then (memForm e w a).2 else e.gr q

/-- A local load of 2^a bytes, whose address lies in local memory and is aligned and whose data is sound, sends `f` of the bytes read to gG (of a
pair the low word, and the high word to gG + 1), usable in the third cycle, writes the new gB, and stores nothing. -/
def Loads (mk : Nat → Word → Ecc → Ecc → Instr) (a : Nat) (f : Nat → Word) : Prop :=
  ∀ n w ecc fetch s, (mk n w ecc fetch).wf = true → Free n w fetch (memRegs w (decide (a = 3))) s → memReserved w (decide (a = 3)) = false →
    let u := issuing n fetch s
    let e := eng n u
    let addr := (memForm e w a).1
    addr.toNat < 0x40000 → addr.toNat % 2 ^ a = 0 → eccFinds ecc (engBase n + addr.toNat) (2 ^ a) s ≠ .uncorrectable →
    Effect (mk n w ecc fetch) s fun t =>
      let v := memNat (engBase n + addr.toNat) (2 ^ a) s
      AddressForm a e w addr (memForm e w a).2 ∧ BaseMoved e (eng n t) w a ∧
      (∃ l, (∀ x ∈ l, x ∈ e.land) ∧ (eng n t).land = l ++ ⟨3, .g (gKey e.bank (fieldOf w 25 21)) (f v)⟩ ::
        (if a = 3 then [⟨3, .g (gKey e.bank (fieldOf w 25 21 + 1)) (BitVec.ofNat 32 (v / 2 ^ 32))⟩] else [])) ∧
      t.mem = s.mem ∧ RegsOnly e (eng n t) ∧ Completes n u t ∧ (ecc = .clean → OnlyEngine n u t) ∧
      (ecc = .corrected → Counted (Reg.ENG_ECC_CNT n) u t)

/-- A local store of 2^a bytes to an aligned address of data memory stores the low bytes of gG (of the pair gG, gG+1) there and
nothing elsewhere, and changes no register but gB; where it covers part of a word, `ecc` is what its merge read finds (R266, R267). -/
def Stores (mk : Nat → Word → Ecc → Ecc → Instr) (a : Nat) : Prop :=
  ∀ n w ecc fetch s, (mk n w ecc fetch).wf = true → Free n w fetch (memRegs w (decide (a = 3))) s → memReserved w (decide (a = 3)) = false →
    let u := issuing n fetch s
    let e := eng n u
    let addr := (memForm e w a).1
    0x10000 ≤ addr.toNat → addr.toNat < 0x40000 → addr.toNat % 2 ^ a = 0 →
    Effect (mk n w ecc fetch) s fun t =>
      let v := storeValue e w (decide (a = 3))
      AddressForm a e w addr (memForm e w a).2 ∧ BaseMoved e (eng n t) w a ∧
      (∀ x, memByte x t = if engBase n + addr.toNat ≤ x ∧ x < engBase n + addr.toNat + 2 ^ a
        then (leBytes (2 ^ a) v).getD (x - (engBase n + addr.toNat)) 0 else memByte x s) ∧
      (∀ x ∈ (eng n t).land, x ∈ e.land) ∧ RegsOnly e (eng n t) ∧ Completes n u t ∧
      (ecc = .clean ∨ 2 ≤ a → OnlyEngine n u { t with mem := s.mem }) ∧
      (ecc = .uncorrectable → a < 2 → poisoned (engBase n + addr.toNat) (2 ^ a) t = true)

/-- A request of class 0 with these contents is the one packet that enters the fabric, under the number `s` would give next. -/
def Requests (ag : Agent) (addr : Nat) (body : Payload) (s t : State) : Prop :=
  ∃ x, t.noc.txns = s.noc.txns ++ [x] ∧ x.id = nextTxn s ∧ x.agent = ag ∧ x.src = srcOf ag s ∧ x.cls = 0 ∧ x.addr = addr ∧ x.body = body ∧
    x.posted = false

/-- Engine `n` is at the first instruction of its handler for `code`, in bank 1, with the cause and return address saved (R90, R92, R93). Results
that land before the entry, `k` cycles after `s`, have landed. -/
def Entered (n k code cause ret g29 g28 : Nat) (s t : State) : Prop :=
  let e := eng n (cyclesPass n k s)
  (eng n t).bank = 1 ∧ (eng n t).pc = (e.vbase.toNat + code * 0x40) % 2 ^ 32 ∧ (eng n t).st1 = 0x80000006 ∧ (eng n t).rs1 = 0 ∧
  (eng n t).st0 = e.st0 ∧
  (eng n t).gr 31 = BitVec.ofNat 32 ret ∧ (eng n t).gr 30 = BitVec.ofNat 32 cause ∧ (eng n t).gr 29 = BitVec.ofNat 32 g29 ∧
  (eng n t).gr 28 = BitVec.ofNat 32 g28 ∧ (∀ q, q < 16 → (eng n t).gr q = e.gr q) ∧ (eng n t).gap = 3 ∧
  (rd (Reg.ENG_LAST_TRAP n) t).toNat = cause ∧ t.mem = s.mem ∧ ∀ m, m ≠ n → eng m t = eng m s

/-- A local load or store of 2^a bytes by engine `n` outside the bounds of R85 enters the ADDR handler of bank 1 (R90). -/
def AddrTraps (mk : Nat → Word → Ecc → Instr) (a : Nat) (store : Bool) : Prop :=
  ∀ n w fetch s, (mk n w fetch).wf = true → Free n w fetch (memRegs w (decide (a = 3))) s → memReserved w (decide (a = 3)) = false →
    let u := issuing n fetch s
    let x := (memForm (eng n u) w a).1.toNat
    (eng n u).bank = 0 → (0x40000 ≤ x ∨ x % 2 ^ a ≠ 0 ∨ store = true ∧ x < 0x10000) →
    Effect (mk n w fetch) s fun t =>
      Entered n 2 3 ((if 0x40000 ≤ x then 1 else if x % 2 ^ a ≠ 0 then 2 else 3) * 0x10000 + 3) (eng n u).pc x 0 u t

/-- A direct access by `src` to the register at `off` reaches it now: its block is neither asleep nor fenced (R472), the access does not
stall (R28, R34), and its width suits the register (R11, R12). -/
def Open (src off : Nat) (wide write : Bool) (v : Nat) (s : State) : Prop :=
  (∀ d, addrDom (0x40000000 + off) = some d → guardCode d s = none) ∧ accessStalls ⟨src, off, wide, write, v, false, none⟩ s = false ∧
  accessCodeNow off wide s = 0

/-- One more event waits in the router, when it has room (R55). -/
def Raised (num inst : Nat) (s t : State) : Prop :=
  s.evt.length < 1024 → ∃ o, t.evt = s.evt ++ [o] ∧ o.num = num ∧ o.inst = inst

/-- The vector slot of engine `n` issues a word of which `isIt` holds: it is free and its unit is up (R127). -/
def VFree (n : Nat) (isIt : Word → Bool) (fetch : Ecc) (reads regs : List Nat) (s : State) : Prop :=
  Running s ∧ n < 512 ∧ (eng n s).vpwr = 0 ∧ Ready n isIt fetch regs (atIssue n true reads s)

/-- The elements of vD once an instruction that completes has written it with `x` (R112): active ones take `f`, the others follow the fill rules
OZ and PZ. -/
def Elements (p : Option Nat) (vd : Nat) (f : Nat → Nat) (e : Engine) (x : Nat) : Prop :=
  ∀ i, i < e.nmax → elem e.ew x i =
    if e.vcnt ≤ e.vpos ∨ i < e.vpos then elem e.ew (e.vr vd) i
    else if i < e.vcnt then (if e.activeAt p i then f i % 2 ^ e.ew else if bitOf e.vfmt 4 then 0 else elem e.ew (e.vr vd) i)
    else if bitOf e.vfmt 3 then 0 else elem e.ew (e.vr vd) i

/-- A write of vector register `vd` is on its way, usable `k` cycles after issue, and of the register's value with it `post` holds (R119). -/
def LandsV (k vd : Nat) (e e' : Engine) (post : Nat → Prop) : Prop :=
  ∃ m v, Lands k (.v vd m v) e e' ∧ post (underMask (BitVec.ofNat 512 (e.vr vd)) m v).toNat

/-- Of an engine only vpos, the flags of ST and results on their way changed, beside the pc, the tracking of a repeat and of the pipeline: no
vector, predicate, g register or accumulator has changed yet. -/
def VKept (e e' : Engine) : Prop := e'.g = e.g ∧ RegsAndFlagsOnly { e with vpos := e'.vpos } e'

/-- An element-wise instruction of two sources writes `f` of the elements (`f` is given the element type), usable `k` cycles after issue, and
changes nothing else but SOV; an element type it does not take raises ILLEGAL with SUB 6 in bank 0 (R114). -/
def GivesV (k : Nat) (mk : Nat → Nat → Nat → Nat → Option Nat → Ecc → Instr) (ok : Nat → Bool) (f : Nat → Nat → Nat → Nat) : Prop :=
  ∀ n vd va vb p fetch s, (mk n vd va vb p fetch).wf = true → VFree n isVecArith fetch [] [] s →
    let u := vissuing n [] fetch s
    let e := eng n u
    (ok e.etype = true → Effect (mk n vd va vb p fetch) s fun t =>
      LandsV k vd e (eng n t) (Elements p vd (fun i => f e.etype (elem e.ew (e.vr va) i) (elem e.ew (e.vr vb) i)) e) ∧ (eng n t).vpos = 0 ∧
      VKept e (eng n t) ∧ Completes n u t ∧ OnlyEngine n u t) ∧
    (ok e.etype = false → e.bank = 0 → Effect (mk n vd va vb p fetch) s fun t => Entered n 2 2 0x60002 e.pc 0 0 u t)

/-- The low and high halves of a complex element, each half by itself. -/
def byHalves (h : Nat) (f : Nat → Nat → Nat) (x y : Nat) : Nat :=
  f (x % 2 ^ h) (y % 2 ^ h) + f (x / 2 ^ h % 2 ^ h) (y / 2 ^ h % 2 ^ h) * 2 ^ h

/-- An operation on the elements of an integer or complex type. -/
def byType (f : Nat → Nat → Nat → Nat) (t x y : Nat) : Nat :=
  if t ≤ 2 then f (typeWidth t) x y else byHalves (typeWidth t / 2) (f (typeWidth t / 2)) x y

/-- A write of predicate register `pd` is on its way, usable in the second cycle, and of its value with it `post` holds. -/
def LandsP (pd : Nat) (e e' : Engine) (post : Nat → Prop) : Prop :=
  ∃ m v, Lands 2 (.p pd m v) e e' ∧ post (underMask (dw (e.pr pd)) m v).toNat

/-- A compare writes predicate bits of the active elements, by the fill rules, with bits from NMAX on zero. -/
def GivesP (mk : Nat → Nat → Nat → Nat → Ecc → Instr) (f : Nat → Nat → Nat → Bool) : Prop :=
  ∀ n pd va vb fetch s, (mk n pd va vb fetch).wf = true → VFree n isVecArith fetch [] [] s →
    let u := vissuing n [] fetch s
    let e := eng n u
    e.etype ≤ 2 →
    Effect (mk n pd va vb fetch) s fun t =>
      LandsP pd e (eng n t) (fun x => ∀ i, i < 64 → bitOf x i =
        if i < e.nmax then
          (if e.vcnt ≤ e.vpos ∨ i < e.vpos then bitOf (e.pr pd) i
           else if i < e.vcnt then f e.ew (elem e.ew (e.vr va) i) (elem e.ew (e.vr vb) i)
           else if bitOf e.vfmt 3 then false else bitOf (e.pr pd) i)
        else false) ∧
      VKept e (eng n t) ∧ (eng n t).vpos = 0 ∧ Completes n u t ∧ OnlyEngine n u t

/-- A predicate operation on all 64 bits. -/
def GivesMask (mk : Ecc → Instr) (n pd : Nat) (f : Engine → Nat) : Prop :=
  ∀ fetch s, (mk fetch).wf = true → VFree n isVecArith fetch [] [] s →
    let u := vissuing n [] fetch s
    Effect (mk fetch) s fun t => LandsP pd (eng n u) (eng n t) (fun x => x = f (eng n u) % 2 ^ 64) ∧ VKept (eng n u) (eng n t) ∧
      (eng n t).vpos = (eng n u).vpos ∧ Completes n u t ∧ OnlyEngine n u t

/-- Every active element's access of the given kind is sound, in a state `u` in which it issues. -/
def Sound (n : Nat) (store : Bool) (addr : Nat → Nat) (u : State) : Prop :=
  ∀ i, (eng n u).vpos ≤ i → i < (eng n u).vcnt →
    localFault (addr i) (eng n u).eb store = 0 ∧ (store = false → poisoned (engBase n + addr i) (eng n u).eb u = false)

/-- A vector load whose accesses are sound writes the elements read, usable in the third cycle, and stores nothing. -/
def LoadsV (mk : Ecc → Instr) (n vd : Nat) (regs : List Nat) (addr : Engine → Nat → Nat) (gb : Engine → Nat → Word) : Prop :=
  ∀ fetch s, (mk fetch).wf = true → VFree n isVecMem fetch regs regs s →
    let u := vissuing n regs fetch s
    let e := eng n u
    e.etype ≤ 6 → Sound n false (addr e) u →
    Effect (mk fetch) s fun t =>
      (∃ l m v, (∀ x ∈ l, x ∈ e.land ++ [⟨3, .v vd m v⟩]) ∧ (eng n t).land = l ∧ (⟨3, .v vd m v⟩ : Landing) ∈ l ∧
        Elements none vd (fun j => memNat (engBase n + addr e j) e.eb s) e (underMask (BitVec.ofNat 512 (e.vr vd)) m v).toNat) ∧
      (eng n t).v = e.v ∧ (∀ q, q < 32 → (eng n t).gr q = gb e q) ∧ (eng n t).vpos = 0 ∧ t.mem = s.mem ∧ (∀ m, m ≠ n → eng m t = eng m s)

/-- A vector store whose accesses are sound changes no byte outside its active elements, and of two elements that do not overlap stores
each; no vector register changes. -/
def StoresV (mk : Ecc → Instr) (n vs : Nat) (regs : List Nat) (addr : Engine → Nat → Nat) (gb : Engine → Nat → Word) : Prop :=
  ∀ fetch s, (mk fetch).wf = true → VFree n isVecMem fetch regs regs s →
    let u := vissuing n regs fetch s
    let e := eng n u
    e.etype ≤ 6 → Sound n true (addr e) u →
    Effect (mk fetch) s fun t =>
      (∀ x, (∀ j, e.vpos ≤ j → j < e.vcnt → x < engBase n + addr e j ∨ engBase n + addr e j + e.eb ≤ x) → memByte x t = memByte x s) ∧
      (∀ j b, e.vpos ≤ j → j < e.vcnt → b < e.eb →
        (∀ k, j < k → k < e.vcnt → addr e j + b < addr e k ∨ addr e k + e.eb ≤ addr e j + b) →
        memByte (engBase n + addr e j + b) t = BitVec.ofNat 8 (elem e.ew (e.vr vs) j / 2 ^ (8 * b))) ∧
      (eng n t).v = e.v ∧ (∀ q, q < 32 → (eng n t).gr q = gb e q) ∧ (eng n t).vpos = 0 ∧ (∀ m, m ≠ n → eng m t = eng m s)

/-- A request stands answered with `code` and `data`, where it has not timed out and the answer's way is open (R236). -/
def Answered (id code : Nat) (data : List Byte) (s t : State) : Prop :=
  ∀ x, txnOf id s = some x → x.posted = false → x.late = false → cutAt x.path s = none →
    ∃ y, txnOf id t = some y ∧ y.ans = some (code, data) ∧ y.stage = .served

/-- A request of class 0 by `ag` to `addr` is in the fabric, under the number `s` would give next. -/
def Sent (ag : Agent) (addr : Nat) (body : Payload) (s t : State) : Prop :=
  ∃ x ∈ t.noc.txns, x.id = nextTxn s ∧ x.agent = ag ∧ x.addr = addr ∧ x.body = body ∧ x.posted = false

/-- The packets `ag` sends are added to those in the fabric, and no others. -/
def OnlySends (ag : Agent) (s t : State) : Prop := ∃ l, t.noc.txns = s.noc.txns ++ l ∧ ∀ x ∈ l, x.agent = ag ∧ x.cls = 0

/-- A write of CHURN_CMD by `src` draws CMD_STATUS `st` and the response OK (R193). -/
def ChurnAnswers (st sl : Nat) (t : State) : Prop := rd (Reg.CHURN_CMD_STATUS sl) t = dw st ∧ t.csr.respCode = 0

/-- Packet `id` stands at `st`. -/
def StageOf (id : Nat) (st : Stage) (t : State) : Prop := ∃ y, txnOf id t = some y ∧ y.stage = st

/-- Memory and the engines are as before. -/
def MemKept (s t : State) : Prop := t.mem = s.mem ∧ t.eng = s.eng

/-- Channel `ch` of DMA engine `e` is one the module has (R282). -/
def DmaNamed (e ch : Nat) : Prop := e < 33 ∧ ch < dmaChans e

/-- A posted write of `ag` with these bytes is in the fabric, where its NI sends it (R239, R273). -/
def Posted (ag : Agent) (addr : Nat) (bs : List Byte) (s t : State) : Prop :=
  inCsr addr = false → originCode (srcOf ag s) 2 addr (.write bs) s = none →
    ∃ y ∈ t.noc.txns, y.agent = ag ∧ y.cls = 2 ∧ y.addr = addr ∧ y.body = .write bs ∧ y.posted = true

/-- Channel `ch` of DMA engine `e` writes these bytes of a completion, which then stands at phase `ph`, unless its own NI refuses them. -/
def WritesOn (e ch ph a : Nat) (bs : List Byte) (s t : State) : Prop :=
  Posted (.dma e ch) a bs s t ∧
  (inCsr a = false → originCode (srcOf (.dma e ch) s) 2 a (.write bs) s = none → (dmaChan e ch t).phase = ph)

/-- Lane `l` has entered DETECT at T1 with this cause, the state and rate it left recorded, and the entry counted (R343). -/
def Downed (l cause : Nat) (s t : State) : Prop :=
  laneState l t = 0 ∧ laneRate l t = 1 ∧ Counted (Reg.LANE_TDOWN_CNT l) s t ∧
  rd (Reg.LANE_TLAST_DOWN l) t = dw (roundNow s % 65536 * 65536 + cause * 4096 + laneState l s * 256 + laneRate l s * 16)

/-- `viol` code violations of lane `l` are counted (R339). -/
def Violations (l viol : Nat) (s t : State) : Prop :=
  rd (Reg.LANE_TCV_CNT l) t = dw (min ((rd (Reg.LANE_TCV_CNT l) s).toNat + viol) 0xFFFFFFFF)

/-- An event waits in the router, when it had room (R55). -/
def Noted (num inst : Nat) (s t : State) : Prop := s.evt.length < 1024 → ∃ o ∈ t.evt, o.num = num ∧ o.inst = inst

/-- Pair `p` has left for SILENT with this cause, and the departure counted (R415). -/
def Silenced (p cause : Nat) (s t : State) : Prop :=
  pairState p t = 1 ∧ fld (Reg.LINE_PAIR_STATUS p) 23 20 t = cause ∧ pairDet p t = 0 ∧ Counted (Reg.LINE_DOWN_CNT p) s t ∧
  ((pair p s).raised.contains 1 = false → flagOn Reg.LINE_EVT_STATUS 1 t = true ∧ Noted 0x221 p s t)

/-- The receiver of pair `p` is in ACQUIRE from E8 = `e8` (R418). -/
def Acquires (p : Nat) (e8 : Nat) (t : State) : Prop := pairDet p t = 1 ∧ (pair p t).e0 = e8 ∧ (pair p t).qual = 0

/-- The receiver of pair `p` rejects the burst: HOLDOFF from E8 = `e8`, counted (R420). -/
def Rejects (p : Nat) (e8 : Nat) (s t : State) : Prop :=
  pairDet p t = 3 ∧ (pair p t).eFail = e8 ∧ (pair p t).qual = 0 ∧ Counted (Reg.LINE_FALSE_CNT p) s t

/-- The image in slot `slot` bears a good signature by a key whose digest is fused, enabled and not revoked, and its SVN is at least the fused
one (R438 to R440). -/
def ImageSigned (slot : Nat) (s : State) : Prop :=
  let h := slotRead slot 0 256 s
  let key := slotRead slot (imgKeyOff h) (keyLen (imgAlg h)) s
  Config.mldsaVerify (imgAlg h) key (imageDigest h (slotRead slot 256 (64 * imgSections h) s)) "KEAGEN-IMAGE"
    (slotRead slot (imgSigOff h) (sigLen (imgAlg h)) s) = true ∧
  imgKeySlot h < 4 ∧ sha3 key = tabGet (fun _ => []) s.sec.keyHash (imgKeySlot h) ∧ flagOn Reg.SEC_FUSE_POLICY (4 + imgKeySlot h) s = true ∧
  flagOn Reg.SEC_FUSE_POLICY (8 + imgKeySlot h) s = false ∧ svnFused s ≤ imgSvn h

/-- The Starter may run (R442, R443): reset is released, it has not run, and the module is not in Standby. -/
def StarterDue (s : State) : Prop :=
  Running s ∧ s.pwr.phase = 0 ∧ devState s ≤ 1 ∧ flagOn Reg.SEC_BOOT_STATUS 0 s = false ∧ recovering s = false

/-- The state in which the Starter tries the slots: the Cold Room's counters rebuilt where they were lost (R443). -/
def starterFrom (s : State) : State := dramReady (if s.sec.coldValid then s else journalRebuild s)

/-- Source `src` has a command of opcode `op` whose turn it is, none is in progress, and it passes steps 1 to 8 of R455. -/
def Offered (src : CmdSrc) (op : Nat) (f : CmdFrom) (bs : List Byte) (s : State) : Prop :=
  s.sec.proc = none ∧ (∀ b, src = .uart b → s.sec.waits = [] ∧ uartGood b = true) ∧
  ∃ n, 32 ≤ n ∧ cmdNext src s = some (f, n, bs) ∧ cmdOp bs = op ∧ cmdFails n bs s = none

/-- Source `src` has a command, of `n` bytes, whose turn it is, and it fails a step of R455 with this status and counter. -/
def Failing (src : CmdSrc) (f : CmdFrom) (n : Nat) (bs : List Byte) (status cnt : Nat) (s : State) : Prop :=
  s.sec.proc = none ∧ (∀ b, src = .uart b → s.sec.waits = [] ∧ uartGood b = true) ∧
  cmdNext src s = some (f, n, bs) ∧ cmdFails n bs s = some (status, cnt)

/-- The answer of a command stands where its source reads it (R461): the mailbox, a management frame, or the UART. -/
def Responds (f : CmdFrom) (op status round : Nat) (data : List Byte) (s t : State) : Prop :=
  let bs := respBytes op status round data
  (f.path = 0 → rd Reg.SEC_MBOX_STATUS t = 2 ∧ flagOn Reg.SEC_EVT_STATUS 4 t = true ∧
    ∀ i, 4 * i < bs.length → rd (Reg.SEC_MBOX_RSP i) t = dw (leAt bs (4 * i) 4)) ∧
  (f.path = 1 → ∃ h, (mac f.mac t).mgmt = (mac f.mac s).mgmt ++ [h ++ bs.take (maxFrame f.mac s - 22)]) ∧
  (2 ≤ f.path → t.sec.uartOut = uartFrame bs)

/-- A command that executes at once is answered DONE with this data, and counted (R459). -/
def Query (mk : CmdSrc → Instr) (op : Nat) (data : List Byte → State → List Byte) : Prop :=
  ∀ src f bs s, Running s → Offered src op f bs s → Effect (mk src) s fun t =>
    Responds f op 1 (roundNow s) (data (cmdPayload bs) (cmdTaken src s)) s t ∧ Counted Reg.SEC_CMD_OK_CNT s t ∧ t.sec.proc = none ∧ MemKept s t

/-- A critical command that passes steps 1 to 8 has its journal record written next, with its target resolved (R456, R457). -/
def Critical (mk : CmdSrc → Instr) (op : Nat) : Prop :=
  ∀ src f bs s, Running s → Offered src op f bs s → Effect (mk src) s fun t =>
    (∃ x, t.sec.proc = some ⟨0, f, bs, x⟩ ∧ resolveTarget op (cmdTarget bs) s = some x) ∧ t.csr = s.csr ∧ t.noc = s.noc ∧ t.sec.nor = s.sec.nor ∧ MemKept s t

/-- A critical command in progress bears a good tag and a counter above the last of its key (R453 to R456). -/
def TagNeeded (mk : CmdSrc → Instr) : Prop :=
  ∀ src s t c, Running s → s.sec.proc = none → exec (mk src) s = .next t → t.sec.proc = some c →
    tagOk c.bytes s = true ∧ keyCounter (cmdKey c.bytes) s < cmdCounter c.bytes ∧ cmdCritical c.bytes = true

/-- The Cold Room keeps its bytes, and every other byte of memory is lost (R468, R477, R481). -/
def ColdRoomKept (s t : State) : Prop :=
  ∀ a, memByte a t = if 0x20000000 ≤ a ∧ a < 0x20040000 then memByte a s else Config.memoryFill

/-- Domain `d` has closed its fence towards state `m` (R487). -/
def Closing (d : Nat) (m : EngMode) (t : State) : Prop := (dom d t).fenced = true ∧ (dom d t).entering = some m

/-- Only the plug stages changed (R488). -/
def OnlyStages (s t : State) : Prop :=
  t = { s with pwr := { s.pwr with plug := t.pwr.plug, present := t.pwr.present, trip := t.pwr.trip } }

/-- The module is held in reset at plug stage `p`, with its memory lost and the flash as flash work in progress leaves it (R456, R488, R490). -/
def HeldInReset (p : Nat) (s t : State) : Prop :=
  t.pwr.plug = p ∧ t.pwr.present = false ∧ t.mem.cells = [] ∧ t.noc.txns = [] ∧ roundState t = 0 ∧ t.pending = s.pending ∧
  t.sec.counters = [] ∧ (s.sec.proc = none → s.sec.bootWrite = none → t.sec.nor = s.sec.nor)

/-- The module begins as after power-on, with LAST_EXIT `x` (R442, R468). -/
def Released (x : Nat) (s t : State) : Prop :=
  fld Reg.PWR_STATUS 18 16 t = x ∧ devState t = 0 ∧ t.noc.txns = [] ∧ roundState t = 0 ∧ flagOn Reg.SEC_BOOT_STATUS 0 t = false ∧
  t.pending = s.pending ∧ t.sec.nor = s.sec.nor ∧ t.pwr.eject = 0

/-- A write of the committed fields `mask` by `src` waits in its shadow and is answered OK; no register changes (R31, R34). -/
def Shadowed (src off mask v : Nat) (s t : State) : Prop :=
  t.csr.respCode = 0 ∧ t.csr.shadow = s.csr.shadow ++ [⟨off, mask, v, src⟩] ∧ stampOf src t = dw (effectRound s) ∧ ∀ o, rd o t = rd o s

/-- A resource is marked for a swap (R500, R501): with this cause where it was not marked. -/
def Marked (kind index cause : Nat) (s t : State) : Prop :=
  (∃ m ∈ t.spare.marks, m.kind = kind ∧ m.index = index) ∧
  ((∀ m ∈ s.spare.marks, ¬(m.kind = kind ∧ m.index = index)) →
    flagOn Reg.SPARE_STATUS 8 t = true ∧ ∃ m, t.spare.marks = s.spare.marks ++ [m] ∧ m.kind = kind ∧ m.index = index ∧ m.cause = cause ∧ m.stage = 0)

/-- What a boundary leaves to the commit that follows it (R21, R23, R27, R29): the number, instant and grid index of the new Round, the window
open, the waiting writes untouched. -/
def Opened (number grid : Nat) (s u : State) : Prop :=
  rd Reg.ROUND_NOW u = dw number ∧ u.round.grid = grid ∧ u.round.endGrid = grid + 1 ∧ u.round.sinceC0 = 0 ∧ u.round.startTod = u.tod ∧
  gridInstant grid s ≤ u.tod ∧ rd Reg.ROUND_START_SEC u = dw (todSec u.tod % 2 ^ 48) ∧ rd Reg.ROUND_START_NS u = dw (todNs u.tod) ∧
  u.csr.shadow = s.csr.shadow

/-- A write by `i` to the register at `off`, whose writing has no effect of its own: committed fields wait in a shadow and stamp the
initiator, live fields take the value, W1C flags written as 1 clear, and nothing else changes (R13 to R15, R30, R31, R34). -/
def PlainWrite (i : Instr) (src off : Nat) (wide : Bool) (v : Nat) : Prop :=
  ∀ s d, Running s → v < 2 ^ 64 → off < 0x8000000 → Open src off wide true v s → findReg off = some (d, 0) → writeRefused src off s = false →
    (∀ m w, writeReg src off m w wide d s = (0, writePlain src off m w d s)) →
    let m := if wide then 2 ^ 64 - 1 else 2 ^ 32 - 1
    let w := if wide then v else v % 2 ^ 32
    let c := (d.rw ||| d.wo) &&& d.cm &&& m &&& reachedBits off
    Effect i s fun t => t.csr.respCode = 0 ∧ MemKept s t ∧ t.evt = s.evt ∧ t.noc = s.noc ∧
      (c = 0 → t.csr.shadow = s.csr.shadow ∧ t.csr.stamps = s.csr.stamps) ∧
      (c ≠ 0 → t.csr.shadow = s.csr.shadow ++ [⟨off, c, shadowWord off c w, src⟩] ∧
        (off ≠ Reg.ROUND_NOW → off ≠ Reg.ROUND_STATUS → stampOf src t = dw (effectRound s))) ∧
      rd off t = dw (masked (masked (rd off s).toNat ((d.rw - (d.rw &&& d.cm)) &&& m) w) (d.w1c &&& m &&& w) 0) ∧
      ∀ o, o ≠ off → rd o t = rd o s

/-- The entry whose turn it is in the Round plan is `e`, and its instant, the later of C0+72 and its OFFSET, comes before the boundary (R45, R46). -/
def PlanDue (kind : Nat) (e : List Byte) (s : State) : Prop :=
  planNext s = some e ∧ peKind e = kind ∧ roundsRun s = true ∧ room (max 36 (peOffset e) - s.round.sinceC0) s = true

/-- The state at that instant, in steps of the time counter since C0. -/
def planAt (e : List Byte) (s : State) : State := passSteps (max 36 (peOffset e) - s.round.sinceC0) s

/-- A plan entry of a kind issues: its instant has come, the plan is past it, and `act` says what left (R44, R45). -/
def PlanIssues (i : Instr) (kind : Nat) (act : List Byte → State → State → Prop) : Prop :=
  ∀ s e, Running s → PlanDue kind e s → Effect i s fun t => MemKept (planAt e s) t ∧ t.mem = s.mem ∧
    s.round.plan.nextIssue < t.round.plan.nextIssue ∧ max 36 (peOffset e) ≤ t.round.sinceC0 ∧ s.tod ≤ t.tod ∧ act e (planAt e s) t

end Sys2Proof.Safety
end

