-- ==== Sys2Proof/Certificates/Slice0/Obligations.lean ====
section
/-! DEFINITION. The statements about the CM-5120, for the provers: definitions of propositions, over the terms of Safety. -/
open Sys2Proof Sys2Proof.Machine Sys2Proof.Safety

/-- For each two-operand arithmetic, logic, shift, compare, minimum, maximum and multiply instruction, issued by a free engine with no reserved
field set, exec answers a next state in which gD takes the result the manual names of gA and the second operand (gB, the shift count, or the
sign-extended imm12): in the next cycle, and of a multiplication in the second. Every other g register, the flags, accumulators, memory and
every other engine are unchanged, and the instruction is counted and passed. (02_engine_scalar.md, Scalar instructions, 02_engine_scalar.md,
Encodings, R67) -/
def Obligations.ArithmeticResults : Prop :=
  GivesTwo (fun n w fetch => .add n w fetch) NextCycle (fun a b => a + b) ∧ GivesTwo (fun n w fetch => .sub n w fetch) NextCycle (fun a b => a - b) ∧
  GivesTwo (fun n w fetch => .and n w fetch) NextCycle (fun a b => a &&& b) ∧
    GivesTwo (fun n w fetch => .or n w fetch) NextCycle (fun a b => a ||| b) ∧
  GivesTwo (fun n w fetch => .xor n w fetch) NextCycle (fun a b => a ^^^ b) ∧
    GivesTwo (fun n w fetch => .shl n w fetch) NextCycle (fun a b => a <<< (b.toNat % 32)) ∧
  GivesTwo (fun n w fetch => .shr n w fetch) NextCycle (fun a b => a >>> (b.toNat % 32)) ∧
    GivesTwo (fun n w fetch => .sar n w fetch) NextCycle (fun a b => a.sshiftRight (b.toNat % 32)) ∧
  GivesTwo (fun n w fetch => .cmpEq n w fetch) NextCycle (fun a b => if a = b then 1 else 0) ∧
  GivesTwo (fun n w fetch => .cmpLt n w fetch) NextCycle (fun a b => if a.toInt < b.toInt then 1 else 0) ∧
  GivesTwo (fun n w fetch => .cmpLtu n w fetch) NextCycle (fun a b => if a.toNat < b.toNat then 1 else 0) ∧
  GivesTwo (fun n w fetch => .min n w fetch) NextCycle (fun a b => if a.toInt < b.toInt then a else b) ∧
  GivesTwo (fun n w fetch => .max n w fetch) NextCycle (fun a b => if a.toInt < b.toInt then b else a) ∧
  GivesTwo (fun n w fetch => .mul n w fetch) (AfterCycles 2) (fun a b => a * b) ∧
  GivesTwo (fun n w fetch => .mulh n w fetch) (AfterCycles 2) (fun a b => ((a.signExtend 64 * b.signExtend 64) >>> (32 : Nat)).truncate 32) ∧
  (∀ e w, opcOf w = 1 → secondOf e w = e.gr (fieldOf w 15 11)) ∧ (∀ e w, opcOf w = 7 → secondOf e w = BitVec.ofNat 32 (fieldOf w 4 0)) ∧
  (∀ e w, opcOf w ≠ 1 → opcOf w ≠ 7 → secondOf e w = BitVec.signExtend 32 (w.truncate 12))

/-- abs writes the absolute value, 0x7FFF_FFFF with SOV set for 0x8000_0000; mov copies gA; movi writes the sign-extended imm16; movhi writes
bits [31:16] and keeps [15:0]; nop changes no register. Each completes, and changes nothing else. Of an engine whose last issue is one cycle
back, a result that was due lands before the instruction issues, and one due later comes a cycle nearer. (02_engine_scalar.md, Scalar
instructions, 02_engine_scalar.md, Encodings, R67) -/
def Obligations.MoveResults : Prop :=
  GivesOne (fun n w fetch => .abs n w fetch) (fun w => aluReserved w true) (fun w => [fieldOf w 25 21, fieldOf w 20 16]) NextCycle
    (fun e w => if e.gr (fieldOf w 20 16) = 0x80000000 then 0x7FFFFFFF
      else if (e.gr (fieldOf w 20 16)).toInt < 0 then -e.gr (fieldOf w 20 16) else e.gr (fieldOf w 20 16))
    (fun e w => decide (e.gr (fieldOf w 20 16) = 0x80000000)) ∧
  GivesOne (fun n w fetch => .mov n w fetch) (fun w => aluReserved w true) (fun w => [fieldOf w 25 21,
    fieldOf w 20 16]) NextCycle (fun e w => e.gr (fieldOf w 20 16))
    (fun _ _ => false) ∧
  GivesOne (fun n w fetch => .movi n w fetch) (fun w => decide (fieldOf w 20 16 ≠ 0)) (fun w => [fieldOf w 25 21]) NextCycle
    (fun _ w => BitVec.signExtend 32 (w.truncate 16)) (fun _ _ => false) ∧
  GivesOne (fun n w fetch => .movhi n w fetch) (fun w => decide (fieldOf w 20 16 ≠ 0)) (fun w => [fieldOf w 25 21]) NextCycle
    (fun e w => w.truncate 16 ++ (e.gr (fieldOf w 25 21)).truncate 16) (fun _ _ => false) ∧
  ∀ n w fetch s, (Instr.nop n w fetch).wf = true → Free n w fetch [] s → fieldOf w 25 0 = 0 →
    Effect (.nop n w fetch) s fun t =>
      let u := issuing n fetch s
      GKept (eng n u) (eng n t) ∧ (eng n t).land = (eng n u).land ∧ RegsOnly (eng n u) (eng n t) ∧ Completes n u t ∧ OnlyEngine n u t ∧
      ((eng n s).gap = 1 →
        (∀ k v, (eng n s).land = [⟨1, .g k v⟩] → tabGet (fun _ => 0) (eng n t).g k = v ∧ (eng n t).land = []) ∧
        ∀ left x, 1 ≤ left → (eng n s).land = [⟨left + 1, x⟩] → (eng n t).land = [⟨left, x⟩] ∧ (eng n t).g = (eng n s).g)

/-- A complex accumulation adds the product, the product by the conjugate, or the negated product to aN; rmac adds the product of the real parts
to the real half; each half keeps the low 40 bits and AOV is set when one leaves the signed range; clr clears both halves. Another
accumulation finds the result in the next cycle, racc and mva in the third. racc and mva write, for the second cycle, the rounded shift of both
halves or of one, saturated with SOV under ST.SAT, else truncated. Each completes and changes nothing else. With linear pointers, aligned
and in data memory, and sound data, ftap adds x times h (or times the conjugate of h) to aN, moves x one place older, decrements gD by 4 and
moves gC by the coefficient size in the direction CDIR names; no other byte of memory changes. (R80, R81, 02_engine_scalar.md, Encodings, R79,
R67) -/
def Obligations.AccumulatorResults : Prop :=
  (Accumulates (fun n w fetch => .cmac n w fetch) (fun x h => ⟨x.re * h.re - x.im * h.im, x.re * h.im + x.im * h.re⟩) ∧
  Accumulates (fun n w fetch => .cmacc n w fetch) (fun x h => ⟨x.re * h.re + x.im * h.im, x.im * h.re - x.re * h.im⟩) ∧
  Accumulates (fun n w fetch => .cmsu n w fetch) (fun x h => ⟨x.im * h.im - x.re * h.re, -(x.re * h.im + x.im * h.re)⟩) ∧
  Accumulates (fun n w fetch => .rmac n w fetch) (fun x h => ⟨x.re * h.re, 0⟩) ∧
  (∀ n w fetch s, (Instr.clr n w fetch).wf = true → Free n w fetch [] s → fieldOf w 22 0 = 0 →
    Effect (.clr n w fetch) s fun t =>
      let u := issuing n fetch s
      (eng n t).ac (fieldOf w 25 23) = ⟨0, 0⟩ ∧ Lands 3 (.acc (aKey (eng n u).bank (fieldOf w 25 23)) ⟨0, 0⟩) (eng n u) (eng n t) ∧
      (∀ b, b < 8 → b ≠ fieldOf w 25 23 → (eng n t).ac b = (eng n u).ac b) ∧ GKept (eng n u) (eng n t) ∧
      RegsOnly (eng n u) (eng n t) ∧ Completes n u t ∧ OnlyEngine n u t) ∧
  GivesOne (fun n w fetch => .racc n w fetch) (fun w => decide (fieldOf w 17 5 ≠ 0)) (fun w => [fieldOf w 25 21]) (AfterCycles 2)
    (fun e w =>
      let half := fun v : BitVec 40 => BitVec.ofInt 16 ((if e.satOn then sat 16 else id) (roundShift e.rnd v.toInt (fieldOf w 4 0)))
      half (e.acLanded (fieldOf w 20 18)).im ++ half (e.acLanded (fieldOf w 20 18)).re)
    (fun e w => e.satOn && (wraps 16 (roundShift e.rnd (e.acLanded (fieldOf w 20 18)).re.toInt (fieldOf w 4 0)) ||
      wraps 16 (roundShift e.rnd (e.acLanded (fieldOf w 20 18)).im.toInt (fieldOf w 4 0)))) ∧
  GivesOne (fun n w fetch => .mva n w fetch) (fun w => decide (fieldOf w 17 6 ≠ 0)) (fun w => [fieldOf w 25 21]) (AfterCycles 2)
    (fun e w =>
      let v := if fieldOf w 5 5 = 0 then (e.acLanded (fieldOf w 20 18)).re else (e.acLanded (fieldOf w 20 18)).im
      BitVec.ofInt 32 ((if e.satOn then sat 32 else id) (roundShift e.rnd v.toInt (fieldOf w 4 0))))
    (fun e w =>
      let v := if fieldOf w 5 5 = 0 then (e.acLanded (fieldOf w 20 18)).re else (e.acLanded (fieldOf w 20 18)).im
      e.satOn && wraps 32 (roundShift e.rnd v.toInt (fieldOf w 4 0))) ∧
  (∀ n w fetch s, (Instr.ftap n w .clean fetch).wf = true → Free n w fetch [fieldOf w 22 18, fieldOf w 17 13] s → fieldOf w 6 0 = 0 →
    fieldOf w 9 9 = 0 → fieldOf w 22 18 ≠ fieldOf w 17 13 →
    let u := issuing n fetch s
    let e := eng n u
    let gd := (e.gr (fieldOf w 22 18)).toNat
    let gc := (e.gr (fieldOf w 17 13)).toNat
    let size := if fieldOf w 11 11 = 1 then 2 else 4
    gd % 4 = 0 → gc % size = 0 → 0x10000 ≤ gd → gd + 4 < 0x40000 → gc < 0x40000 →
    poisoned (engBase n + gd) 4 s = false → poisoned (engBase n + gc) size s = false →
    Effect (.ftap n w .clean fetch) s fun t =>
      let x := memNat (engBase n + gd) 4 s
      let h : CInt := if fieldOf w 11 11 = 1 then ⟨signed 16 (memNat (engBase n + gc) 2 s), 0⟩ else cint16 (memNat (engBase n + gc) 4 s)
      let d : CInt := (cint16 x).mul (if fieldOf w 12 12 = 1 then ⟨h.re, -h.im⟩ else h)
      let a := e.ac (fieldOf w 25 23)
      (eng n t).ac (fieldOf w 25 23) = ⟨BitVec.ofInt 40 (a.re.toInt + d.re), BitVec.ofInt 40 (a.im.toInt + d.im)⟩ ∧
      (eng n t).gr (fieldOf w 22 18) = e.gr (fieldOf w 22 18) - 4 ∧
      (eng n t).gr (fieldOf w 17 13) = (if fieldOf w 10 10 = 1 then e.gr (fieldOf w 17 13) + BitVec.ofNat 32 size
        else e.gr (fieldOf w 17 13) - BitVec.ofNat 32 size) ∧
      (∀ q, q < 32 → q ≠ fieldOf w 22 18 → q ≠ fieldOf w 17 13 → (eng n t).gr q = e.gr q) ∧
      (∀ y, memByte y t = if engBase n + gd + 4 ≤ y ∧ y < engBase n + gd + 8 then memByte (y - 4) s else memByte y s) ∧
      Completes n u t ∧ ∀ m, m ≠ n → eng m t = eng m s))

/-- Each local load from an aligned local address with sound data sends gG the byte, half, word (sign-extended or zero-extended as named)
or pair read, low word in gG, for the third cycle, updates gB for the next as the address form says, leaves every other g register, the flags
and all of memory unchanged, and completes. (R82, R94, 02_engine_scalar.md, Scalar instructions, R67) -/
def Obligations.LocalLoadResults : Prop :=
  Loads (fun n w ecc fetch => .ldB n w ecc fetch) 0 (fun v => BitVec.signExtend 32 (BitVec.ofNat 8 v)) ∧
    Loads (fun n w ecc fetch => .ldBu n w ecc fetch) 0 (fun v => BitVec.ofNat 32 v) ∧
  Loads (fun n w ecc fetch => .ldH n w ecc fetch) 1 (fun v => BitVec.signExtend 32 (BitVec.ofNat 16 v)) ∧
    Loads (fun n w ecc fetch => .ldHu n w ecc fetch) 1 (fun v => BitVec.ofNat 32 v) ∧
  Loads (fun n w ecc fetch => .ldW n w ecc fetch) 2 (fun v => BitVec.ofNat 32 v) ∧
    Loads (fun n w ecc fetch => .ldD n w ecc fetch) 3 (fun v => BitVec.ofNat 32 v)

/-- Each local store to an aligned address of data memory stores the low bytes of gG, or of the pair, little-endian at the effective address;
every other byte of memory, every g register but gB, the flags and every other engine are unchanged; where it covers part of a word that a
merge read finds uncorrectable, the word is poisoned. A local load or store of bank 0 whose effective address is at or above 0x0004_0000, is
not naturally aligned, or is a store to instruction memory enters the ADDR handler with SUB 1, 2 or 3 and the address in g29; it stores
nothing. (R82, R85, 02_engine_scalar.md, Scalar instructions, R90, R267) -/
def Obligations.LocalStoreResults : Prop :=
  (Stores (fun n w ecc fetch => .stB n w ecc fetch) 0 ∧ Stores (fun n w ecc fetch => .stH n w ecc fetch) 1 ∧
    Stores (fun n w _ fetch => .stW n w fetch) 2 ∧ Stores (fun n w _ fetch => .stD n w fetch) 3) ∧
  ∀ ecc, AddrTraps (fun n w fetch => .ldB n w ecc fetch) 0 false ∧ AddrTraps (fun n w fetch => .ldBu n w ecc fetch) 0 false ∧
    AddrTraps (fun n w fetch => .ldH n w ecc fetch) 1 false ∧ AddrTraps (fun n w fetch => .ldHu n w ecc fetch) 1 false ∧
    AddrTraps (fun n w fetch => .ldW n w ecc fetch) 2 false ∧ AddrTraps (fun n w fetch => .ldD n w ecc fetch) 3 false ∧
    AddrTraps (fun n w fetch => .stB n w ecc fetch) 0 true ∧ AddrTraps (fun n w fetch => .stH n w ecc fetch) 1 true ∧
    AddrTraps (fun n w fetch => .stW n w fetch) 2 true ∧ AddrTraps (fun n w fetch => .stD n w fetch) 3 true

/-- With its address aligned and the limits not reached, ldf sends a read of 4 or 8 bytes and notes its destination registers, stf puts its data
at the end of the far store queue and sends nothing, stf.ack sends an acknowledged write, and each completes with every g register
unchanged; fencef completes once nothing is outstanding, and otherwise waits; a queued store leaves the queue as a posted write. (R86, R87,
R88) -/
def Obligations.FarAccessIssue : Prop :=
  (∀ n w fetch s, Free n w fetch (farRegs w) s → farReserved w = false →
    let u := issuing n fetch s
    let e := eng n u
    let a := (e.gr (2 * fieldOf w 20 17)).toNat + (e.gr (2 * fieldOf w 20 17 + 1)).toNat % 0x10000 * 2 ^ 32
    let regs := if fieldOf w 15 15 = 1 then [fieldOf w 25 21, fieldOf w 25 21 + 1] else [fieldOf w 25 21]
    let data := leBytes (farSize w) (storeValue e w (decide (fieldOf w 15 15 = 1)))
    a % (if fieldOf w 15 15 = 1 then 8 else 4) = 0 →
    ((Instr.ldf n w fetch).wf = true → e.far.length < 16 → Effect (.ldf n w fetch) s fun t =>
      Requests (.eng n) a (.read (if fieldOf w 15 15 = 1 then 8 else 4)) s t ∧
      (∃ x, (eng n t).far = e.far ++ [x] ∧ x.id = nextTxn s ∧ x.bank = e.bank ∧ x.dest = regs.map (gKey e.bank)) ∧
      GKept e (eng n t) ∧ t.mem = s.mem ∧ Completes n u t ∧ ∀ m, m ≠ n → eng m t = eng m s) ∧
    ((Instr.stf n w fetch).wf = true → e.stq.length < 32 → Effect (.stf n w fetch) s fun t =>
      (∃ x, (eng n t).stq = e.stq ++ [x] ∧ x.addr = a ∧ x.bs = data ∧ x.aw = decide (fieldOf w 16 16 = 1)) ∧
      GKept e (eng n t) ∧ Completes n u t ∧ OnlyEngine n u t) ∧
    ((Instr.stfAck n w fetch).wf = true → e.far.length < 16 → Effect (.stfAck n w fetch) s fun t =>
      Requests (.eng n) a (.write data) s t ∧ (∃ x, (eng n t).far = e.far ++ [x] ∧ x.id = nextTxn s ∧ x.dest = []) ∧
      GKept e (eng n t) ∧ t.mem = s.mem ∧ Completes n u t ∧ ∀ m, m ≠ n → eng m t = eng m s)) ∧
  (∀ n w fetch s, (Instr.fencef n w fetch).wf = true → Free n w fetch [] s → fieldOf w 20 0 = 0 →
    Effect (.fencef n w fetch) s fun t =>
      let u := issuing n fetch s
      if (eng n u).far = [] ∧ (eng n u).stq = [] ∧ unaccepted (.eng n) useStf s = false then
        RegsOnly (eng n u) (eng n t) ∧ GKept (eng n u) (eng n t) ∧ Completes n u t ∧ OnlyEngine n u t
      else t = u) ∧
  ∀ n s f r, Running s → n < 512 → (eng n s).stq = f :: r →
    Effect (.farStoreInjected n) s fun t =>
      (eng n t).stq = r ∧ (∀ q, (eng n t).gr q = (eng n s).gr q) ∧ t.mem = s.mem ∧ (∀ m, m ≠ n → eng m t = eng m s) ∧
      (originCode (srcOf (.eng n) s) 2 f.addr (.write f.bs) s = none →
        ∃ x, t.noc.txns = s.noc.txns ++ [x] ∧ x.agent = .eng n ∧ x.cls = 2 ∧ x.addr = f.addr ∧ x.body = .write f.bs ∧ x.posted = true)

/-- An OK answer to an outstanding ldf writes its destination registers, low word first, and releases the interlock; another response leaves the
registers as they were, releases the interlock and makes FAR_ERR pending with its code. An answer to an access that is no longer outstanding
is dropped. (R87, R89) -/
def Obligations.FarResponseLands : Prop :=
  ∀ n s x code data a, Running s → n < 512 → txnOf x.id s = some x → x.agent = .eng n → x.use = useFar → x.ans = some (code, data) →
    (eng n s).far.find? (fun y => y.id == x.id) = some a →
    Effect (.farResponse n x.id) s fun t =>
      (eng n t).far = (eng n s).far.filter (fun y => y.id != x.id) ∧ t.mem = s.mem ∧ (∀ m, m ≠ n → eng m t = eng m s) ∧
      (code ≠ 0 → (eng n t).g = (eng n s).g ∧ (eng n t).farErr = (eng n s).farErr ++ [(code, a.addr, a.bank)]) ∧
      (code = 0 → (eng n t).farErr = (eng n s).farErr) ∧
      (code = 0 → ∀ k, a.dest = [k] → tabGet (fun _ => 0) (eng n t).g k = BitVec.ofNat 32 (leAt data 0 4) ∧
        ∀ q, q ≠ k → tabGet (fun _ => 0) (eng n t).g q = tabGet (fun _ => 0) (eng n s).g q)

/-- A taken branch continues at its own address plus 4 times its signed offset, a branch not taken at the next instruction; bl and jal write the
address of the next instruction to g15; jr and jal continue at gA when gA[1:0] is zero, else they enter the FETCH handler with SUB 3, the
target in g29, and g15 unchanged. No other g register, flag or byte of memory changes. (R70, R91) -/
def Obligations.ControlTransfers : Prop :=
  ∀ n w fetch s, n < 512 →
    let u := issuing n fetch s
    let e := eng n u
    let target := ((BitVec.ofNat 32 e.pc : Word) + 4 * BitVec.signExtend 32 (w.truncate 16)).toNat / 4 * 4
    let next := (e.pc + 4) % 2 ^ 32
    let ga := e.gr (fieldOf w 25 21)
    let at' := fun (t : State) (pc : Nat) => (eng n t).pc = pc ∧
      (rd (Reg.ENG_ISSUE_CNT n) t).toNat = min ((rd (Reg.ENG_ISSUE_CNT n) u).toNat + 1) (2 ^ 64 - 1) ∧
      RegsOnly e (eng n t) ∧ OnlyEngine n u t
    let link := fun (t : State) => NextCycle 15 (BitVec.ofNat 32 (e.pc + 4)) e (eng n t)
    e.rem = 0 →
    ((Instr.b n w fetch).wf = true → Free n w fetch [] s → fieldOf w 25 16 = 0 →
      Effect (.b n w fetch) s fun t => at' t target ∧ GKept e (eng n t)) ∧
    ((Instr.bz n w fetch).wf = true → Free n w fetch [fieldOf w 25 21] s → fieldOf w 20 16 = 0 →
      Effect (.bz n w fetch) s fun t => at' t (if ga = 0 then target else next) ∧ GKept e (eng n t)) ∧
    ((Instr.bnz n w fetch).wf = true → Free n w fetch [fieldOf w 25 21] s → fieldOf w 20 16 = 0 →
      Effect (.bnz n w fetch) s fun t => at' t (if ga = 0 then next else target) ∧ GKept e (eng n t)) ∧
    ((Instr.bl n w fetch).wf = true → Free n w fetch [15] s → fieldOf w 25 16 = 0 → Effect (.bl n w fetch) s fun t => at' t target ∧ link t) ∧
    ((Instr.jr n w fetch).wf = true → Free n w fetch [fieldOf w 25 21] s → fieldOf w 20 0 = 0 → ga.toNat % 4 = 0 →
      Effect (.jr n w fetch) s fun t => at' t ga.toNat ∧ GKept e (eng n t)) ∧
    ((Instr.jal n w fetch).wf = true → Free n w fetch [fieldOf w 25 21, 15] s → fieldOf w 20 0 = 0 → ga.toNat % 4 = 0 →
      Effect (.jal n w fetch) s fun t => at' t ga.toNat ∧ link t) ∧
    ((Instr.jr n w fetch).wf = true → Free n w fetch [fieldOf w 25 21] s → ga.toNat % 4 ≠ 0 → e.bank = 0 →
      Effect (.jr n w fetch) s fun t => Entered n 2 4 0x30004 e.pc ga.toNat 0 u t) ∧
    ((Instr.jal n w fetch).wf = true → Free n w fetch [fieldOf w 25 21, 15] s → ga.toNat % 4 ≠ 0 → e.bank = 0 →
      Effect (.jal n w fetch) s fun t => Entered n 2 4 0x30004 e.pc ga.toNat 0 u t)

/-- rpt with a count from 1 to 65,536 makes RS of the current bank track a repeat of its body and goes on to the body, and with a count of 0
continues after the body; the end of the last iteration clears RS; wait in bank 1 completes as a no-operation and in bank 0 waits for its
drain; reti returns to bank 0 at g31 of bank 1; mfs reads and mts writes the special registers the manual numbers, for the second cycle. (R71,
R74, R75, R102, R67) -/
def Obligations.RepeatAndSystemResults : Prop :=
  (∀ n w fetch s, (Instr.rpt n w fetch).wf = true → Free n w fetch (if fieldOf w 25 25 = 1 then [fieldOf w 4 0] else []) s →
    fieldOf w 18 16 = 0 → (fieldOf w 25 25 = 1 → fieldOf w 15 5 = 0) →
    let u := issuing n fetch s
    let e := eng n u
    let count := if fieldOf w 25 25 = 0 then fieldOf w 15 0 + 1 else (e.gr (fieldOf w 4 0)).toNat
    e.rem = 0 → count ≤ 65536 →
    Effect (.rpt n w fetch) s fun t => GKept e (eng n t) ∧ (eng n t).bank = e.bank ∧
      (count = 0 → (eng n t).pc = (e.pc + 4 + 4 * (fieldOf w 24 19 + 1)) / 4 * 4 % 2 ^ 32 ∧ (eng n t).rem = 0) ∧
      (0 < count → (eng n t).pc = (e.pc + 4) % 2 ^ 32 ∧ (eng n t).rem = count ∧ (eng n t).rlen = fieldOf w 24 19 ∧
        (eng n t).ridx = 0) ∧ OnlyEngine n u t) ∧
  (∀ n s, Running s → n < 512 → (eng n s).rptEnd = true → Effect (.repeatEnd n) s fun t => (eng n t).rs = 0 ∧ (eng n t).rptEnd = false ∧
    (eng n t).pc = (eng n s).pc ∧ (∀ q, (eng n t).gr q = (eng n s).gr q) ∧ OnlyEngine n s t) ∧
  (∀ n w fetch s, (Instr.wait n w fetch).wf = true → Free n w fetch [] s → fieldOf w 20 0 = 0 →
    let u := issuing n fetch s
    (eng n u).rem = 0 →
    Effect (.wait n w fetch) s fun t =>
      (eng n t).wait = (if (eng n u).bank = 1 then .none else .waitDrain) ∧ GKept (eng n u) (eng n t) ∧ Completes n u t ∧ OnlyEngine n u t) ∧
  (∀ n w fetch s, (Instr.reti n w fetch).wf = true → Free n w fetch [31] s → fieldOf w 20 0 = 0 → (eng n s).bank = 1 →
    let u := issuing n fetch s
    (eng n u).rem = 0 →
    Effect (.reti n w fetch) s fun t => (eng n t).bank = 0 ∧ (eng n t).pc = ((eng n u).gr 31).toNat / 4 * 4 ∧ (eng n t).st0 = (eng n u).st0 ∧
      (eng n t).rs0 = (eng n u).rs0 ∧ (eng n t).g = (eng n u).g ∧ OnlyEngine n u t) ∧
  (∀ n w fetch s, (Instr.mfs n w fetch).wf = true → Free n w fetch [fieldOf w 20 16] s →
    let u := issuing n fetch s
    let e := eng n u
    ((fieldOf w 15 0 < 5 ∨ 8 ≤ fieldOf w 15 0 ∧ fieldOf w 15 0 ≤ 16) →
      Effect (.mfs n w fetch) s fun t => RegsOnly e (eng n t) ∧ Completes n u t ∧ OnlyEngine n u t ∧
        AfterCycles 2 (fieldOf w 20 16) (match fieldOf w 15 0 with
          | 0 => e.st | 1 => e.rs | 2 => e.vbase | 3 => (rd (Reg.ENG_IRQ_EN n) u).truncate 32
          | 4 => (rd (Reg.ENG_IRQ_PEND n) u).truncate 32 | 16 => BitVec.ofNat 32 n
          | x => tabGet (fun _ => 0) e.cb (x - 8)) e (eng n t)) ∧
    (fieldOf w 15 0 = 5 → Effect (.mfs n w fetch) s fun t => (∃ v, AfterCycles 2 (fieldOf w 20 16) v e (eng n t)) ∧ RegsOnly e (eng n t) ∧
      Completes n u t ∧ OnlyEngine n u { t with free := s.free })) ∧
  (∀ n w fetch s, (Instr.mts n w fetch).wf = true → Free n w fetch [fieldOf w 20 16] s →
    (fieldOf w 15 0 ≤ 5 ∨ 8 ≤ fieldOf w 15 0 ∧ fieldOf w 15 0 ≤ 16) →
    let u := issuing n fetch s
    let e := eng n u
    let v := e.gr (fieldOf w 20 16)
    Effect (.mts n w fetch) s fun t =>
      let f := settle n t
      Lands 2 (.special e.bank (fieldOf w 15 0) v) e (eng n t) ∧ GKept e (eng n t) ∧ RegsOnly e (eng n t) ∧ Completes n u t ∧ OnlyEngine n u t ∧
      (e.land = [] → (eng n f).g = e.g ∧
        (fieldOf w 15 0 = 1 → v.toNat % 2 ^ 17 = 0 → (if e.bank = 0 then (eng n f).rs0 else (eng n f).rs1) = 0) ∧
        (fieldOf w 15 0 = 2 → (eng n f).vbase = v &&& 0xFFFFFFC0) ∧ (fieldOf w 15 0 = 3 → rd (Reg.ENG_IRQ_EN n) f = v.zeroExtend 64) ∧
        (fieldOf w 15 0 = 4 → rd (Reg.ENG_IRQ_PEND n) f = rd (Reg.ENG_IRQ_PEND n) u &&& ~~~(v.zeroExtend 64)) ∧
        (8 ≤ fieldOf w 15 0 → fieldOf w 15 0 < 16 → tabGet (fun _ => 0) (eng n f).cb (fieldOf w 15 0 - 8) = v)))

/-- In bank 0, trap #imm16 enters the SYSCALL handler with imm[7:0] as SUB and imm16 in g29, brk enters BREAK, each with the next instruction in
g31; an unallocated word enters UNDEF with its own address; a pending FAR_ERR enters FAR_ERR with the response code and the address; an
interrupt of the lowest pending and enabled line enters INTERRUPT and clears that pending bit. Entry makes bank 1 current, sets its ST and
RS, saves cause and return address, and leaves g0 to g15, ST of bank 0 and memory as they are when what was issued before has landed. When
the conditions of R96 hold, the engine takes the lowest-numbered line that is pending and enabled: it enters the INTERRUPT handler with INT
and the line in the cause word, and that pending bit is cleared. (R90, R92, R93, R96) -/
def Obligations.TrapEntry : Prop :=
  ((∀ n w fetch s, (Instr.trap n w fetch).wf = true → Free n w fetch [] s → fieldOf w 20 16 = 0 →
    let u := issuing n fetch s
    (eng n u).bank = 0 → (eng n u).rem = 0 →
    Effect (.trap n w fetch) s fun t => Entered n 2 8 (fieldOf w 7 0 * 0x10000 + 8) (((eng n u).pc + 4) % 2 ^ 32) (fieldOf w 15 0) 0 u t) ∧
  (∀ n w fetch s, (Instr.brk n w fetch).wf = true → Free n w fetch [] s → fieldOf w 20 0 = 0 →
    let u := issuing n fetch s
    (eng n u).bank = 0 → (eng n u).rem = 0 →
    Effect (.brk n w fetch) s fun t => Entered n 2 9 9 (((eng n u).pc + 4) % 2 ^ 32) 0 0 u t) ∧
  (∀ n w fetch s, (Instr.undef n w fetch).wf = true → Free n w fetch [] s →
    let u := issuing n fetch s
    (eng n u).bank = 0 →
    Effect (.undef n w fetch) s fun t => Entered n 2 1 1 (eng n u).pc 0 0 u t) ∧
  (∀ n s code addr r, Running s → n < 512 → (eng n s).farErr = (code, addr, 0) :: r → (eng n s).mode = .run → (eng n s).wait = .none →
    (eng n s).bank = 0 → (eng n s).kill = 0 → code < 8 →
    Effect (.farErr n) s fun t =>
      Entered n (eng n s).gap 6 (code * 0x10000 + 6) (eng n s).pc (addr % 2 ^ 32) (addr / 2 ^ 32) s t ∧ (eng n t).farErr = r)) ∧
  (∀ n line s, Running s → n < 512 →
    let u := atIssue n false [] s
    canInterrupt n u = true → (eng n u).rem = 0 → line < 32 → (irqReady n u).testBit line = true →
    (∀ j, j < line → (irqReady n u).testBit j = false) →
    Effect (.interrupt n) s fun t => Entered n 0 0x10 (0x80000000 + line * 0x1000000 + 0x10) (eng n u).pc 0 0 u t ∧
      fld (Reg.ENG_IRQ_PEND n) line line t = 0 ∧ Counted (Reg.ENG_IRQ_CNT n) u t)

/-- A write of ENG_IRQ_SET sets the lines written; a line late is flagged once with its event; a kill becomes pending, and when taken leaves
bank 0 current, IE 0, RS of both banks 0 and the pc at VBASE, other g registers and accumulators kept; a reset clears the engine registers
and starts at ENG_START_PC, halted if HALT is 1; HALT, its clearing and STEP act on ENG_CTRL and on a halted engine; a halt request met
makes the engine HALTED and raises ENG_HALTED; a drained wait completes where a wake condition holds, else enters the state selected. (R96,
R98, R99, R100, R101, R102) -/
def Obligations.EngineControlResults : Prop :=
  (∀ src n mask s, Running s → n < 512 → mask < 2 ^ 32 → Open src (Reg.ENG_IRQ_SET n) false true mask s →
    Effect (.engIrqSet src n mask) s fun t =>
      rd (Reg.ENG_IRQ_PEND n) t = dw (((rd (Reg.ENG_IRQ_PEND n) s).toNat ||| mask) % 2 ^ 32) ∧ t.csr.respCode = 0 ∧ t.mem = s.mem) ∧
  (∀ n line s, Running s → n < 512 → line < 32 → fld (Reg.ENG_IRQ_WAIT_LIMIT n) 23 0 s ≠ 0 → (irqReady n s).testBit line = true →
    line ∉ (eng n s).late →
    Effect (.engIrqLate n line) s fun t => flagOn (Reg.ENG_EVT_STATUS n) 1 t = true ∧ Raised 0x801 n s t ∧
      (eng n t).late = line :: (eng n s).late ∧ exec (.engIrqLate n line) t = .next t) ∧
  (∀ n s, Running s → n < 512 → Effect (.taskKill n none) s fun t => 2 ≤ (eng n t).kill ∧ (eng n t).g = (eng n s).g ∧ t.mem = s.mem) ∧
  (∀ n src halt s, Running s → n < 512 → Open src (Reg.ENG_CTRL n) false true (8 + b2n halt) s →
    Effect (.taskKill n (some (src, halt))) s fun t => 1 ≤ (eng n t).kill ∧ flagOn (Reg.ENG_CTRL n) 0 t = halt ∧ (eng n t).g = (eng n s).g) ∧
  (∀ n s, Running s → n < 512 → (eng n s).kill ≠ 0 → (eng n s).mode = .run → (eng n s).wait = .none → (eng n s).rem = 0 →
    engCopying n s = false →
    let e := eng n (cyclesPass n (eng n s).gap s)
    Effect (.killed n) s fun t => (eng n t).kill = 0 ∧ (eng n t).bank = 0 ∧ (eng n t).pc = e.vbase.toNat ∧
      (eng n t).st0 = e.st0 &&& 0xFFFFFFFE ∧ (eng n t).rs0 = 0 ∧ (eng n t).rs1 = 0 ∧ (eng n t).g = e.g ∧
      (eng n t).acc = e.acc ∧ (eng n t).stq = (eng n s).stq ∧ (eng n t).far = [] ∧ rd (Reg.ENG_LAST_TRAP n) t = 0 ∧ t.mem = s.mem) ∧
  (∀ src n halt s, Running s → n < 512 → Open src (Reg.ENG_CTRL n) false true (4 + b2n halt) s → domSleeps (engDom n) s = false →
    (dom (engDom n) s).entering = none →
    Effect (.engineReset src n halt) s fun t => (eng n t).pc = fld (Reg.ENG_START_PC n) 15 2 s * 4 ∧ (eng n t).bank = 0 ∧
      (∀ q, (eng n t).gr q = 0) ∧ (∀ a, (eng n t).ac a = ⟨0, 0⟩) ∧ (eng n t).st0 = 6 ∧ (eng n t).rs0 = 0 ∧ (eng n t).rs1 = 0 ∧
      (eng n t).vbase = 0 ∧ (eng n t).mode = (if halt then .halted else .run) ∧ rd (Reg.ENG_IRQ_EN n) t = 0 ∧ rd (Reg.ENG_IRQ_PEND n) t = 0 ∧
      t.mem = s.mem) ∧
  (∀ src n s, Running s → n < 512 → Open src (Reg.ENG_CTRL n) false true 1 s →
    Effect (.halt src n) s fun t => flagOn (Reg.ENG_CTRL n) 0 t = true ∧ (eng n t).g = (eng n s).g ∧ (eng n t).pc = (eng n s).pc ∧ t.mem = s.mem) ∧
  (∀ src n s, Running s → n < 512 → Open src (Reg.ENG_CTRL n) false true 0 s → (eng n s).mode = .halted → domSleeps (engDom n) s = false →
    (dom (engDom n) s).entering = none →
    Effect (.haltClear src n) s fun t => flagOn (Reg.ENG_CTRL n) 0 t = false ∧ (eng n t).mode = .run ∧ (eng n t).pc = (eng n s).pc) ∧
  (∀ src n s, Running s → n < 512 → Open src (Reg.ENG_CTRL n) false true 3 s → (eng n s).mode = .halted → domSleeps (engDom n) s = false →
    (dom (engDom n) s).entering = none →
    Effect (.step src n) s fun t => flagOn (Reg.ENG_CTRL n) 0 t = true ∧ (eng n t).mode = .run ∧ (eng n t).step = true ∧
      (eng n t).pc = (eng n s).pc) ∧
  (∀ n s, Running s → n < 512 → flagOn (Reg.ENG_CTRL n) 0 s = true → (eng n s).mode = .run → (eng n s).wait = .none → (eng n s).step = false →
    (eng n s).rem = 0 → (eng n s).far = [] → (eng n s).stq = [] →
    Effect (.engHalted n) s fun t => (eng n t).mode = .halted ∧ flagOn (Reg.ENG_EVT_STATUS n) 2 t = true ∧ Raised 0x802 n s t ∧
      (eng n t).pc = (eng n s).pc ∧ (eng n t).g = (eng n (settle n s)).g ∧ (eng n t).land = []) ∧
  (∀ n s, Running s → n < 512 → (eng n s).wait = .waitDrain → (eng n s).mode = .run → (eng n s).far = [] → (eng n s).stq = [] →
    Effect (.waitDrainDone n) s fun t => (eng n t).g = (eng n (settle n s)).g ∧ (eng n t).pc = (eng n s).pc ∧
      (wakeHolds n (settle n s) = true → (eng n t).wait = .none ∧ (eng n t).mode = .run) ∧
      (wakeHolds n (settle n s) = false → fld (Reg.PWR_MODE n) 1 0 s = 0 → (eng n t).wait = .none ∧ (eng n t).mode = .idle))

/-- setvl sets the format, grants min(request, NMAX) as vcnt and, for the next cycle, in gD, and clears vpos; vrd reads vcnt, vfmt, vpos or 64,
for the second cycle; vwr writes, for the second cycle, vcnt up to NMAX, a format (which clears vcnt and vpos), or vpos; all three work
whatever the power of the unit, which goes down at its idle limit with no vector instruction in flight and the vector registers kept, and
comes up at the end of a wake. (R109, R111, R126, R127, R119) -/
def Obligations.VectorControlResults : Prop :=
  (∀ n w fetch s, (Instr.setvl n w fetch).wf = true → fieldOf w 14 5 = 0 → fieldOf w 2 0 ≠ 7 → (fieldOf w 15 15 = 1 → fieldOf w 20 16 = 0) →
    Free n w fetch ([fieldOf w 25 21] ++ (if fieldOf w 15 15 = 0 then [fieldOf w 20 16] else [])) s →
    let u := issuing n fetch s
    let e := eng n u
    let nmax := 512 / typeWidth (fieldOf w 2 0)
    let granted := if fieldOf w 15 15 = 1 then nmax else min (e.gr (fieldOf w 20 16)).toNat nmax
    Effect (.setvl n w fetch) s fun t => (eng n t).vfmt = fieldOf w 4 0 ∧ (eng n t).vcnt = granted ∧ (eng n t).vpos = 0 ∧
      NextCycle (fieldOf w 25 21) (BitVec.ofNat 32 granted) e (eng n t) ∧
      RegsOnly { e with vfmt := fieldOf w 4 0, vcnt := granted, vpos := 0 } (eng n t) ∧ Completes n u t ∧ OnlyEngine n u t) ∧
  (∀ n w fetch s, (Instr.vrd n w fetch).wf = true → Free n w fetch [fieldOf w 25 21] s → fieldOf w 20 2 = 0 →
    let u := issuing n fetch s
    let e := eng n u
    Effect (.vrd n w fetch) s fun t => RegsOnly e (eng n t) ∧ Completes n u t ∧ OnlyEngine n u t ∧
      AfterCycles 2 (fieldOf w 25 21)
        (BitVec.ofNat 32 (match fieldOf w 1 0 with | 0 => e.vcnt | 1 => e.vfmt | 2 => e.vpos | _ => 64)) e (eng n t)) ∧
  (∀ n w fetch s, (Instr.vwr n w fetch).wf = true → Free n w fetch [fieldOf w 25 21] s → fieldOf w 20 2 = 0 →
    let u := issuing n fetch s
    let e := eng n u
    let g := e.gr (fieldOf w 25 21)
    let v := g.toNat
    (fieldOf w 1 0 = 0 ∧ v ≤ e.nmax ∧ v < 128 ∨ fieldOf w 1 0 = 1 ∧ v < 32 ∧ v % 8 ≠ 7 ∨ fieldOf w 1 0 = 2) →
    Effect (.vwr n w fetch) s fun t =>
      let f := eng n (settle n t)
      Lands 2 (.vctl (fieldOf w 1 0) g) e (eng n t) ∧ GKept e (eng n t) ∧ RegsOnly e (eng n t) ∧ Completes n u t ∧ OnlyEngine n u t ∧
      (e.land = [] → f.g = e.g ∧ (fieldOf w 1 0 = 0 → f.vcnt = v ∧ f.vfmt = e.vfmt ∧ f.vpos = e.vpos) ∧
        (fieldOf w 1 0 = 1 → f.vfmt = v ∧ f.vcnt = 0 ∧ f.vpos = 0) ∧
        (fieldOf w 1 0 = 2 → f.vpos = v % 64 ∧ f.vcnt = e.vcnt ∧ f.vfmt = e.vfmt))) ∧
  (∀ n s, Running s → n < 512 → (eng n s).vpwr = 0 → (eng n s).mode = .run → fld (Reg.VEC_PWR_CTRL n) 15 0 s ≠ 0 →
    flagOn (Reg.VEC_PWR_CTRL n) 16 s = false → (eng n s).gather = none → (∀ x ∈ (eng n s).land, x.what.isVector = false) →
    Effect (.vectorPowerDown n) s fun t => (eng n t).vpwr = 2 ∧ (eng n t).v = (eng n s).v ∧ (eng n t).p = (eng n s).p ∧ OnlyEngine n s t) ∧
  ∀ n s, Running s → n < 512 → (eng n s).vpwr = 1 →
    Effect (.vectorWakeDone n) s fun t => (eng n t).vpwr = 0 ∧ (eng n t).v = (eng n s).v ∧ OnlyEngine n s t

/-- Unit-stride and strided vector loads read the active elements from local memory, for the third cycle, and leave memory unchanged; the
stores write the active elements and no other byte; the post-modify form adds imm to gB; a gather or scatter waits at its instruction, and
completes by accessing its active elements. (R120, R121, R123, R119) -/
def Obligations.VectorMemoryResults : Prop :=
  (∀ n vd gb imm post, LoadsV (fun fetch => .vld n vd gb imm post none 0 fetch) n vd [gb]
    (fun e j => ((if post then e.gr gb else e.gr gb + imm) + BitVec.ofNat 32 (j * e.eb)).toNat)
    (fun e q => if post = true ∧ q = gb then e.gr gb + imm else e.gr q)) ∧
  (∀ n vs gb imm post, StoresV (fun fetch => .vst n vs gb imm post none 0 fetch) n vs [gb]
    (fun e j => ((if post then e.gr gb else e.gr gb + imm) + BitVec.ofNat 32 (j * e.eb)).toNat)
    (fun e q => if post = true ∧ q = gb then e.gr gb + imm else e.gr q)) ∧
  (∀ n vd gb gs, LoadsV (fun fetch => .vlds n vd gb gs none 0 fetch) n vd [gb, gs]
    (fun e j => (e.gr gb + BitVec.ofNat 32 j * e.gr gs).toNat) (fun e q => e.gr q)) ∧
  (∀ n vs gb gs, StoresV (fun fetch => .vsts n vs gb gs none 0 fetch) n vs [gb, gs]
    (fun e j => (e.gr gb + BitVec.ofNat 32 j * e.gr gs).toNat) (fun e q => e.gr q)) ∧
  (∀ n vd gb vi fetch s, (Instr.vldx n vd gb vi fetch).wf = true → VFree n isVecMem fetch [gb] [gb] s →
    let u := vissuing n [gb] fetch s
    let e := eng n u
    e.etype ≤ 6 → vd ≠ vi →
    Effect (.vldx n vd gb vi fetch) s fun t => (eng n t).wait = .gather ∧ (eng n t).gather = some ⟨false, vd, gb, vi, e.pc⟩ ∧
      (eng n t).pc = e.pc ∧ (eng n t).v = e.v ∧ (eng n t).g = e.g ∧ OnlyEngine n u t) ∧
  (∀ n vs gb vi fetch s, (Instr.vstx n vs gb vi fetch).wf = true → VFree n isVecMem fetch [gb] [gb] s →
    let u := vissuing n [gb] fetch s
    let e := eng n u
    e.etype ≤ 6 →
    Effect (.vstx n vs gb vi fetch) s fun t => (eng n t).wait = .gather ∧ (eng n t).gather = some ⟨true, vs, gb, vi, e.pc⟩ ∧
      (eng n t).pc = e.pc ∧ (eng n t).v = e.v ∧ (eng n t).g = e.g ∧ OnlyEngine n u t) ∧
  ∀ n store vd gb vi pc s, Running s → n < 512 → (eng n s).wait = .gather → (eng n s).gather = some ⟨store, vd, gb, vi, pc⟩ →
    (eng n s).etype ≤ 6 → (eng n s).rem = 0 → (eng n s).land = [] →
    let e := eng n s
    let addr := fun j => (e.gr gb + BitVec.ofNat 32 (elem e.ew (e.vr vi) j % 2 ^ 32)).toNat
    Sound n store addr s →
    Effect (.gatherComplete n none 0) s fun t =>
      (eng n t).wait = .none ∧ (eng n t).gather = none ∧ (eng n t).pc = (e.pc + 4) % 2 ^ 32 ∧ (eng n t).vpos = 0 ∧ (eng n t).g = e.g ∧
      (∀ m, m ≠ n → eng m t = eng m s) ∧
      (store = false → Elements none vd (fun j => memNat (engBase n + addr j) e.eb s) e ((eng n t).vr vd) ∧ t.mem = s.mem ∧
        ∀ r, r ≠ vd → (eng n t).vr r = e.vr r) ∧
      (store = true → (eng n t).v = e.v ∧
        ∀ x, (∀ j, e.vpos ≤ j → j < e.vcnt → x < engBase n + addr j ∨ engBase n + addr j + e.eb ≤ x) → memByte x t = memByte x s)

/-- vadd and vsub wrap and vadds and vsubs saturate on the integer and complex types, each half of a complex element by itself; vmul keeps the
low bits on the integer types; vcmul and vcmulc multiply cint16 elements, by the conjugate for the latter, extracted with shift 15; the
float instructions round each operation once. Additions and subtractions of integers are usable in the second cycle, the others in the
third. Inactive elements follow the fill rules; nothing else changes; a type an instruction does not take raises ILLEGAL with SUB 6.
(R112, R114, R116, R119) -/
def Obligations.VectorArithmeticResults : Prop :=
  GivesV 2 (fun n vd va vb p fetch => .vadd n vd va vb p fetch) (fun t => decide (t ≤ 4)) (byType fun w x y => (x + y) % 2 ^ w) ∧
  GivesV 2 (fun n vd va vb p fetch => .vsub n vd va vb p fetch) (fun t => decide (t ≤ 4)) (byType fun w x y => (x + 2 ^ w - y) % 2 ^ w) ∧
  GivesV 3 (fun n vd va vb p fetch => .vmul n vd va vb p fetch) (fun t => decide (t ≤ 2)) (byType fun w x y => x * y % 2 ^ w) ∧
  GivesV 2 (fun n vd va vb p fetch => .vadds n vd va vb p fetch) (fun t => decide (t ≤ 4))
    (byType fun w x y => unsigned w (sat w (signed w x + signed w y))) ∧
  GivesV 2 (fun n vd va vb p fetch => .vsubs n vd va vb p fetch) (fun t => decide (t ≤ 4))
    (byType fun w x y => unsigned w (sat w (signed w x - signed w y))) ∧
  GivesV 3 (fun n vd va vb p fetch => .vfadd n vd va vb p fetch) (fun t => t == 5 || t == 6) (fun t x y => fpAdd (if t = 5 then 8 else 24) x y) ∧
  GivesV 3 (fun n vd va vb p fetch => .vfsub n vd va vb p fetch) (fun t => t == 5 || t == 6) (fun t x y => fpSub (if t = 5 then 8 else 24) x y) ∧
  GivesV 3 (fun n vd va vb p fetch => .vfmul n vd va vb p fetch) (fun t => t == 5 || t == 6) (fun t x y => fpMul (if t = 5 then 8 else 24) x y) ∧
  (∀ n vd va vb p fetch s, (Instr.vfma n vd va vb p fetch).wf = true → VFree n isVecArith fetch [] [] s →
    let u := vissuing n [] fetch s
    let e := eng n u
    e.etype = 5 ∨ e.etype = 6 →
    Effect (.vfma n vd va vb p fetch) s fun t =>
      LandsV 3 vd e (eng n t) (Elements p vd
        (fun i => fpFma (if e.etype = 5 then 8 else 24) (elem e.ew (e.vr va) i) (elem e.ew (e.vr vb) i) (elem e.ew (e.vr vd) i)) e) ∧
      VKept e (eng n t) ∧ (eng n t).vpos = 0 ∧ Completes n u t ∧ OnlyEngine n u t) ∧
  ∀ n vd va vb p (conj : Bool) fetch s, (Instr.vcmul n vd va vb p fetch).wf = true → VFree n isVecArith fetch [] [] s →
    let u := vissuing n [] fetch s
    let e := eng n u
    let prod := fun (i : Nat) =>
      let h := cint16 (elem 32 (e.vr vb) i)
      (cint16 (elem 32 (e.vr va) i)).mul (if conj then ⟨h.re, -h.im⟩ else h)
    e.etype = 3 →
    Effect (if conj then .vcmulc n vd va vb p fetch else .vcmul n vd va vb p fetch) s fun t =>
      LandsV 3 vd e (eng n t) (Elements p vd (fun i => (extractC e.rnd e.satOn (prod i) 15).1) e) ∧ VKept e (eng n t) ∧ (eng n t).vpos = 0 ∧
      Completes n u t ∧ OnlyEngine n u t

/-- On cint16 sources, vcmac.w and vcmacc.w add the product of each active element, by the conjugate for the latter, to the cint32 element of
the pair vD, vD+1, where the next such accumulation finds it at once and all else in the third cycle; vracc extracts a cint32 pair to cint16
as racc does; vftap adds the product of one coefficient with the window vX, slides vX and vY by one element, and moves gC by the coefficient
size. (R115, R117, R118, R119) -/
def Obligations.VectorAccumulateResults : Prop :=
  let accumulates := fun (e e' : Engine) (p : Option Nat) (vd : Nat) (term : Nat → CInt) => ∀ i, i < 16 → elem 64 (e'.widePair vd) i =
    (let old := elem 64 (e.widePair vd) i
     if e.vcnt ≤ e.vpos ∨ i < e.vpos then old
     else if i < e.vcnt then
       (if e.activeAt p i then
         unsigned 32 (signed 32 old + (term i).re) + unsigned 32 (signed 32 (old / 2 ^ 32) + (term i).im) * 2 ^ 32
        else if bitOf e.vfmt 4 then 0 else old)
     else if bitOf e.vfmt 3 then 0 else old)
  (∀ n vd va vb p (conj : Bool) fetch s, (Instr.vcmacW n vd va vb p fetch).wf = true → VFree n isVecArith fetch [] [] s →
    let u := vissuing n [] fetch s
    let e := eng n u
    let term := fun (i : Nat) =>
      let h := cint16 (elem 32 (e.vr vb) i)
      (cint16 (elem 32 (e.vr va) i)).mul (if conj then ⟨h.re, -h.im⟩ else h)
    e.etype = 3 → vd % 2 = 0 →
    Effect (if conj then .vcmaccW n vd va vb p fetch else .vcmacW n vd va vb p fetch) s fun t =>
      accumulates e (eng n t) p vd term ∧ (∃ m v m' v', (eng n t).land = e.land ++ [⟨3, .wide vd m v⟩, ⟨3, .wide (vd + 1) m' v'⟩]) ∧
      VKept e (eng n t) ∧ (eng n t).vpos = 0 ∧ Completes n u t ∧ OnlyEngine n u t) ∧
  (∀ n vd va sh fetch s, (Instr.vracc n vd va sh fetch).wf = true → VFree n isVecArith fetch [] [] s → va % 2 = 0 → vd ≠ va → vd ≠ va + 1 →
    let u := vissuing n [] fetch s
    let e := eng n u
    let v := fun (i : Nat) => elem 64 (e.vr va + e.vr (va + 1) * 2 ^ 512) i
    e.etype = 3 →
    Effect (.vracc n vd va sh fetch) s fun t =>
      LandsV 3 vd e (eng n t) (Elements none vd (fun i => (extractC e.rnd e.satOn ⟨signed 32 (v i), signed 32 (v i / 2 ^ 32)⟩ sh).1) e) ∧
      VKept e (eng n t) ∧ (eng n t).vpos = 0 ∧ Completes n u t ∧ OnlyEngine n u t) ∧
  ∀ n va vx vy gc (conj rc cdir : Bool) fetch s, (Instr.vftap n va vx vy gc conj rc cdir .clean fetch).wf = true →
    VFree n (fun w => isVecArith w || isVecMem w) fetch [gc] [gc] s → va % 2 = 0 → vx ≠ vy → vx ≠ va → vx ≠ va + 1 → vy ≠ va → vy ≠ va + 1 →
    let u := vissuing n [gc] fetch s
    let e := eng n u
    let size := if rc then 2 else 4
    let a := (e.gr gc).toNat
    e.etype = 3 → e.vpos = 0 → a < 0x40000 → a % size = 0 → poisoned (engBase n + a) size s = false →
    Effect (.vftap n va vx vy gc conj rc cdir .clean fetch) s fun t =>
      let h : CInt := if rc then ⟨signed 16 (memNat (engBase n + a) 2 s), 0⟩ else cint16 (memNat (engBase n + a) 4 s)
      accumulates e (eng n t) none va (fun i => (cint16 (elem 32 (e.vr vx) i)).mul (if conj then ⟨h.re, -h.im⟩ else h)) ∧
      (eng n t).gr gc = (if cdir then e.gr gc + BitVec.ofNat 32 size else e.gr gc - BitVec.ofNat 32 size) ∧
      OthersKept gc e (eng n t) ∧
      (∀ i, i < 16 → elem 32 ((eng n t).vr vx) i =
        if i + 1 < e.vcnt then elem 32 (e.vr vx) (i + 1) else if i + 1 = e.vcnt then elem 32 (e.vr vy) 0 else elem 32 (e.vr vx) i) ∧
      (∀ i, i < 16 → elem 32 ((eng n t).vr vy) i =
        if i + 1 < e.vcnt then elem 32 (e.vr vy) (i + 1) else if i + 1 = e.vcnt then 0 else elem 32 (e.vr vy) i) ∧
      (∀ q, q ≠ vx → q ≠ vy → (eng n t).vr q = e.vr q) ∧ t.mem = s.mem ∧ Completes n u t ∧ OnlyEngine n u t

/-- Compares write predicate bits by the fill rules with bits from NMAX on zero; pand, por, pxor and pnot act on all 64 bits; vsel selects by
predicate; vbcast copies a scalar to the active elements; vins writes and vext reads one element; vtperm looks up the active elements in a
table of registers; each is usable in the second cycle, what vext reads in the third; vsum writes, for the third, the wrapping sum of the
active elements to element 0, and the fill rules act on the others. (R112, R115, R125, R119) -/
def Obligations.VectorMoveResults : Prop :=
  GivesP (fun n pd va vb fetch => .vcmpEq n pd va vb fetch) (fun _ x y => x == y) ∧
  GivesP (fun n pd va vb fetch => .vcmpLt n pd va vb fetch) (fun w x y => decide (signed w x < signed w y)) ∧
  GivesP (fun n pd va vb fetch => .vcmpLtu n pd va vb fetch) (fun _ x y => decide (x < y)) ∧
  (∀ n pd pa pb, GivesMask (fun fetch => .pand n pd pa pb fetch) n pd (fun e => e.pr pa &&& e.pr pb) ∧
    GivesMask (fun fetch => .por n pd pa pb fetch) n pd (fun e => e.pr pa ||| e.pr pb) ∧
    GivesMask (fun fetch => .pxor n pd pa pb fetch) n pd (fun e => e.pr pa ^^^ e.pr pb) ∧
    GivesMask (fun fetch => .pnot n pd pa fetch) n pd (fun e => 2 ^ 64 - 1 - e.pr pa)) ∧
  (∀ n vd p va vb fetch s, (Instr.vsel n vd p va vb fetch).wf = true → VFree n isVecArith fetch [] [] s →
    let u := vissuing n [] fetch s
    let e := eng n u
    e.etype ≤ 6 →
    Effect (.vsel n vd p va vb fetch) s fun t =>
      LandsV 2 vd e (eng n t) (Elements none vd (fun i => elem e.ew (e.vr (if bitOf (e.pr p) i then va else vb)) i) e) ∧
      VKept e (eng n t) ∧ (eng n t).vpos = 0 ∧ Completes n u t ∧ OnlyEngine n u t) ∧
  (∀ n vd gs p fetch s, (Instr.vbcast n vd gs p fetch).wf = true → VFree n isVecArith fetch [gs] [gs] s →
    let u := vissuing n [gs] fetch s
    let e := eng n u
    e.etype ≤ 6 → e.etype ≠ 4 →
    Effect (.vbcast n vd gs p fetch) s fun t => LandsV 2 vd e (eng n t) (Elements p vd (fun _ => (e.gr gs).toNat) e) ∧
      VKept e (eng n t) ∧ (eng n t).vpos = 0 ∧ Completes n u t ∧ OnlyEngine n u t) ∧
  (∀ n vd gs i fetch s, (Instr.vins n vd gs i fetch).wf = true → VFree n isVecArith fetch [gs] [gs] s →
    let u := vissuing n [gs] fetch s
    let e := eng n u
    e.etype ≤ 6 → e.etype ≠ 4 → i < e.nmax →
    Effect (.vins n vd gs i fetch) s fun t =>
      LandsV 2 vd e (eng n t) (fun x => ∀ j, j < e.nmax → elem e.ew x j =
        if j = i then (e.gr gs).toNat % 2 ^ e.ew else elem e.ew (e.vr vd) j) ∧
      VKept e (eng n t) ∧ (eng n t).vpos = e.vpos ∧ Completes n u t ∧ OnlyEngine n u t) ∧
  (∀ n gd va i fetch s, (Instr.vext n gd va i fetch).wf = true → VFree n isVecArith fetch [] [gd] s →
    let u := vissuing n [] fetch s
    let e := eng n u
    e.etype ≤ 6 → e.etype ≠ 4 → i < e.nmax →
    Effect (.vext n gd va i fetch) s fun t =>
      (∃ v, AfterCycles 3 gd v e (eng n t) ∧ v.toNat % 2 ^ e.ew = elem e.ew (e.vr va) i) ∧
      VKept e (eng n t) ∧ (eng n t).vpos = e.vpos ∧ Completes n u t ∧ OnlyEngine n u { t with free := s.free }) ∧
  (∀ n vd vt k vi p fetch s, (Instr.vtperm n vd vt k vi p fetch).wf = true → VFree n isVecArith fetch [] [] s → vt + k ≤ 32 →
    (vd < vt ∨ vt + k ≤ vd) → vd ≠ vi →
    let u := vissuing n [] fetch s
    let e := eng n u
    e.etype ≤ 6 →
    Effect (.vtperm n vd vt k vi p fetch) s fun t =>
      LandsV 2 vd e (eng n t) (Elements p vd (fun i =>
        let j := elem e.ew (e.vr vi) i
        if j < k * e.nmax then elem e.ew (e.vr (vt + j / e.nmax)) (j % e.nmax) else 0) e) ∧
      VKept e (eng n t) ∧ (eng n t).vpos = 0 ∧ Completes n u t ∧ OnlyEngine n u t) ∧
  ∀ n vd va p fetch s, (Instr.vsum n vd va p fetch).wf = true → VFree n isVecArith fetch [] [] s →
    let u := vissuing n [] fetch s
    let e := eng n u
    e.etype ≤ 2 → e.vpos = 0 → 0 < e.vcnt →
    Effect (.vsum n vd va p fetch) s fun t =>
      LandsV 3 vd e (eng n t) (fun x =>
        elem e.ew x 0 = (((upto e.vcnt).filter (e.activeAt p)).map fun i => elem e.ew (e.vr va) i).sum % 2 ^ e.ew ∧
        ∀ i, 0 < i → i < e.nmax → elem e.ew x i =
          if i < e.vcnt then (if e.activeAt p i then elem e.ew (e.vr vd) i else if bitOf e.vfmt 4 then 0 else elem e.ew (e.vr vd) i)
          else if bitOf e.vfmt 3 then 0 else elem e.ew (e.vr vd) i) ∧
      VKept e (eng n t) ∧ Completes n u t ∧ OnlyEngine n u t

/-- cop with no earlier far store, request or withdrawal outstanding and an aligned descriptor address sends the request to its slot and waits
at its address; an accept writes 1 to the result register, sets the withdrawal mask and goes on; a busy answer writes 0 and goes on with B
set, and without B the instruction waits to issue again; a refusal enters the COPREF handler; the answer to a withdrawal is taken. (R132,
R134, R147) -/
def Obligations.CoprocessorResults : Prop :=
  (∀ n w fetch s, (Instr.cop n w fetch).wf = true → Free n w fetch [fieldOf w 7 4, 2 * fieldOf w 3 1, 2 * fieldOf w 3 1 + 1] s →
    fieldOf w 8 8 = 0 → fieldOf w 0 0 = 0 → fieldOf w 25 19 < 68 →
    let u := issuing n fetch s
    let e := eng n u
    let a := farAddr e (fieldOf w 3 1)
    copHeld n e s = false → a % 64 = 0 →
    Effect (.cop n w fetch) s fun t =>
      Requests (.eng n) a (.cop (fieldOf w 25 19) (fieldOf w 18 11) a n) s t ∧
      (eng n t).wait = .cop ∧ (eng n t).pc = e.pc ∧ GKept e (eng n t) ∧
      (∃ c, (eng n t).cop = some c ∧ c.id = nextTxn s ∧ c.gr = fieldOf w 7 4 ∧ c.slot = fieldOf w 25 19 ∧ c.b = decide (fieldOf w 9 9 = 1)) ∧
      t.mem = s.mem ∧ ∀ m, m ≠ n → eng m t = eng m s) ∧
  (∀ n s c x r, Running s → n < 512 → (eng n s).cop = some c → txnOf c.id s = some x → x.ans = some (0, [r]) → c.discard = false →
    (eng n s).kill = 0 → (eng n s).rem = 0 →
    let e := eng n (settle n s)
    Effect (.copAnswer n) s fun t =>
      t.mem = s.mem ∧ (∀ m, m ≠ n → eng m t = eng m s) ∧ (x.late = false → txnOf c.id t = none) ∧
      (r = copAccept → (eng n t).gr c.gr = 1 ∧ (eng n t).pc = (e.pc + 4) % 2 ^ 32 ∧ c.slot ∈ (eng n t).mask ∧ (eng n t).wait = .none ∧
        OthersKept c.gr e (eng n t)) ∧
      (r = copBusy → c.b = true → (eng n t).gr c.gr = 0 ∧ (eng n t).pc = (e.pc + 4) % 2 ^ 32 ∧ (eng n t).wait = .none ∧
        OthersKept c.gr e (eng n t)) ∧
      (r = copBusy → c.b = false → GKept e (eng n t) ∧ (eng n t).pc = e.pc ∧ (eng n t).wait = .none) ∧
      (r = copRefuse → e.bank = 0 → Entered n 2 1 0x10001 e.pc 0 0 (settle n s) t)) ∧
  ∀ n id s x, Running s → n < 512 → txnOf id s = some x → x.agent = .eng n → x.use = useWithdraw → x.ans.isSome = true → x.late = false →
    Effect (.withdrawAnswer n id) s fun t => txnOf id t = none ∧ t.eng = s.eng ∧ t.csr = s.csr ∧ t.mem = s.mem

/-- A request to an enabled, known, unheld unit with queue room starts the 64-byte fetch of the descriptor; with EN 0 or an unknown OPC it is
refused with the STATUS write at descriptor + 60; a held or full unit answers busy with its jobs unchanged; a fetched header keeps 64 bytes;
a descriptor that passes the checks becomes the last job of the queue and the request is accepted; a withdrawal marks the jobs of its engine
whose STATUS has not issued; a flush aborts every job that has issued neither RESULT nor STATUS. (R137, R140, R141, R142, R147, R150) -/
def Obligations.AcceleratorAttempts : Prop :=
  (∀ k id s x slot opc desc e, Running s → k < 68 → txnOf id s = some x → x.body = .cop slot opc desc e → slot = k → x.stage = .accepted →
    x.ans = none →
    (∀ a ∈ (acc k s).attempts, a.id ≠ id) → (∀ r ∈ (acc k s).refusals, r.2 ≠ id) →
    Effect (.accRequest k id) s fun t =>
      (flagOn (Reg.ACC_CTRL k) 0 s = false → Requests (.acc k) (desc + 60) (.write (leBytes 4 (0x80000000 + k * 0x1000000 + 0x80))) s t ∧
        (acc k t).refusals = (acc k s).refusals ++ [(nextTxn s, id)] ∧ (acc k t).jobs = (acc k s).jobs ∧
        Counted (Reg.ACC_REFUSE_CNT k) s t ∧ rd (Reg.ACC_LAST_REFUSE k) t = dw (opc % 256 * 256 + 0x80)) ∧
      (flagOn (Reg.ACC_CTRL k) 0 s = true → opcKnown (slotKind k) opc = false →
        Requests (.acc k) (desc + 60) (.write (leBytes 4 (0x80000000 + k * 0x1000000 + opc % 256 * 65536 + 0x81))) s t) ∧
      (flagOn (Reg.ACC_CTRL k) 0 s = true → opcKnown (slotKind k) opc = true →
        (accHeld k s = true ∨ queueLimit k s ≤ (acc k s).jobs.length + (acc k s).attempts.length) →
        Answered id 0 [copBusy] s t ∧ t.acc = s.acc ∧ Counted (Reg.ACC_BUSY_CNT k) s t) ∧
      (flagOn (Reg.ACC_CTRL k) 0 s = true → opcKnown (slotKind k) opc = true → accHeld k s = false →
        (acc k s).jobs.length + (acc k s).attempts.length < queueLimit k s →
        Requests (.acc k) desc (.read 64) s t ∧ (acc k t).attempts = (acc k s).attempts ++ [⟨id, e, opc, desc, none⟩] ∧
        (acc k t).jobs = (acc k s).jobs) ∧ t.mem = s.mem ∧ t.eng = s.eng) ∧
  (∀ k id s a, Running s → k < 68 → (acc k s).attempts.find? (fun b => b.id == id) = some a → unanswered (.acc k) (useFetch id) s = false →
    firstBad (answersOf (.acc k) (useFetch id) s) = none →
    Effect (.accDescriptorFetched k id) s fun t =>
      let l := answersOf (.acc k) (useFetch id) s
      t.mem = s.mem ∧
      (a.header = none → ∃ b ∈ (acc k t).attempts, b.id = id ∧ b.header = some (gathered l a.desc 64)) ∧
      ∀ hdr, a.header = some hdr →
        let ents := gathered l (a.desc + 64) (16 * (hNin hdr + hNout hdr))
        let par := gathered l (hParam hdr) (64 * hPlen hdr)
        lateRefusal (slotKind k) a.opc hdr ents par = none →
          (∃ j, (acc k t).jobs = (acc k s).jobs ++ [j] ∧ j.eng = a.eng ∧ j.opc = a.opc ∧ j.desc = a.desc ∧ j.hdr = hdr ∧ j.ents = ents ∧ j.par = par ∧
            j.phase = 0) ∧ (∀ b ∈ (acc k t).attempts, b.id ≠ id) ∧ Counted (Reg.ACC_ACCEPT_CNT k) s t ∧
          ((∀ x, txnOf id s = some x → x.ans = none) → Answered id 0 [copAccept] s t)) ∧
  (∀ k id s x e, Running s → k < 68 → txnOf id s = some x → x.body = .withdraw k e → x.stage = .accepted → x.ans = none →
    Effect (.withdraw k id) s fun t =>
      (acc k t).jobs = (acc k s).jobs.map (fun j => if j.eng = e ∧ j.phase < 4 then { j with withdrawn := true } else j) ∧
      Answered id 0 [] s t ∧ t.mem = s.mem ∧ t.eng = s.eng) ∧
  ∀ src k v s, Running s → k < 68 → v < 2 ^ 64 → Open src (Reg.ACC_CTRL k) false true (withBits v 1 1 1) s →
    Effect (.flush src k v) s fun t =>
      (∀ j ∈ (acc k s).jobs, j.phase < 3 → ∃ j' ∈ (acc k t).jobs, j'.no = j.no ∧ j'.aborted = true) ∧
      (∀ j ∈ (acc k s).jobs, ¬ j.phase < 3 → j ∈ (acc k t).jobs) ∧ (acc k t).attempts = (acc k s).attempts ∧ t.mem = s.mem

/-- The job at the head of the queue starts: it reads its inputs, or past its DEADLINE issues STATUS at once; while one is past its last output
write the first input of the next is read ahead; what an input read brings is kept, and pieces of output that have their inputs issue; when
all input is in the last outputs issue, computed from the inputs; when they are answered RESULT is written at descriptor + 56, and after it
STATUS at descriptor + 60; when STATUS is answered the job leaves the queue, is counted, and posts its token where the header asks; a
refusal whose STATUS is answered draws the refuse answer. (R143, R144, R145, R146, R155) -/
def Obligations.AcceleratorJobs : Prop :=
  (∀ k s j r, Running s → k < 68 → (acc k s).jobs = j :: r → domSleeps (accDom k) s = false →
    Effect (.jobStart k) s fun t =>
      t.mem = s.mem ∧ OnlySends (.acc k) s t ∧
      (j.phase = 0 → j.aborted = false → (hw j.hdr 2 = 0 ∨ deadlineOver (roundNow s) (hw j.hdr 2) = false) → j.err = none →
        (acc k t).jobs = { j with phase := 1, seed := s.free } :: r ∧ t.free = s.free + 1) ∧
      (j.phase = 0 → j.aborted = false → hw j.hdr 2 ≠ 0 → deadlineOver (roundNow s) (hw j.hdr 2) = true →
        (acc k t).jobs = { j with expired := true, phase := 4, statusId := nextTxn s } :: r ∧
        (j.withdrawn = false → Requests (.acc k) (j.desc + 60) (.write (leBytes 4 (0x80000000 + k * 0x1000000 + 4))) s t)) ∧
      (∀ q r', 2 ≤ j.phase → r = q :: r' → q.ahead = false → q.aborted = false → j.no ≠ q.no → (∀ x ∈ r', x.no ≠ q.no) →
        (acc k t).jobs = j :: { q with ahead := true } :: r')) ∧
  (∀ k id s x j r i data, Running s → k < 68 → (acc k s).jobs = j :: r → txnOf id s = some x → x.agent = .acc k → x.use = useJob j.no i → i < 8 →
    x.ans = some (0, data) → j.phase = 1 → j.aborted = false → (∀ q ∈ r, q.no ≠ j.no) →
    Effect (.accInputReadAnswer k id 0 0 0) s fun t =>
      let got := { j with ins := tabSet (fun _ => []) j.ins (i * 2 ^ 32 + (x.addr - entAddr j.ents i)) data }
      (∃ m ex, m ≤ got.ready (slotKind k) ∧ (acc k t).jobs = { got with sent := j.sent + m, excess := ex } :: r) ∧
      (x.late = false → id < nextTxn s → txnOf id t = none) ∧ t.free = s.free + 1 ∧ t.mem = s.mem) ∧
  (∀ k s j r, Running s → k < 68 → (acc k s).jobs = j :: r → j.phase = 1 → inputsOpen k j s = false →
    Effect (.lastOutputWrite k 0 0 0) s fun t =>
      let w := j.work (slotKind k)
      (∃ ex, (acc k t).jobs = { j with phase := 2, sent := j.sent + w.1.length, fail := j.fail ||| w.2.fail, result := w.2.result,
                                       excess := ex } :: r) ∧
      OnlySends (.acc k) s t ∧ rd (Reg.ACC_KIND_CNT k 0) t = dw (min ((rd (Reg.ACC_KIND_CNT k 0) s).toNat + w.2.c0) 0xFFFFFFFF) ∧ t.mem = s.mem) ∧
  (∀ k s j r, Running s → k < 68 → (acc k s).jobs = j :: r → j.phase = 2 →
    (∀ i, i < 8 → unanswered (.acc k) (useJob j.no (useOut + i)) s = false) → firstBad (outAnswers k j s) = none →
    Effect (.outputWritesAccepted k) s fun t =>
      (acc k t).jobs = { j with phase := 3 } :: r ∧ Sent (.acc k) (j.desc + 56) (.write (leBytes 4 j.result)) s t ∧ t.mem = s.mem) ∧
  (∀ k s j r x d, Running s → k < 68 → (acc k s).jobs = j :: r → j.phase = 3 → waitingAns (.acc k) (useJob j.no useResult) s = some (x, 0, d) →
    Effect (.resultWriteAccepted k) s fun t =>
      (acc k t).jobs = { j with phase := 4, statusId := nextTxn s } :: r ∧
      Sent (.acc k) (j.desc + 60) (.write (leBytes 4 (j.statusWord k))) s t ∧ t.mem = s.mem) ∧
  (∀ k id s x d, Running s → k < 68 → txnOf id s = some x → x.ans = some (0, d) →
    (∀ j r, (acc k s).refusals.find? (fun q => q.1 == id) = none → (acc k s).jobs = j :: r → j.phase = 4 → j.statusId = id →
      (∀ j' ∈ r, j'.aborted = false) →
      Effect (.statusWriteAccepted k id) s fun t =>
        (acc k t).jobs = r ∧ t.mem = s.mem ∧
        ((j.status.1 = 1 ∨ j.status.1 = 2) → Counted (Reg.ACC_DONE_CNT k) s t) ∧
        (j.status.1 = 3 → Counted (Reg.ACC_ORPHAN_CNT k) s t) ∧ (j.status.1 = 4 → Counted (Reg.ACC_EXPIRED_CNT k) s t) ∧
        (bitOf (hw j.hdr 0) 12 = true → j.status.1 ≠ 3 →
          let tok : Payload := .token (bitsOf (hw j.hdr 1) 15 13) (bitsOf (hw j.hdr 1) 12 0) (bitsOf (hw j.hdr 1) 18 16) (j.statusWord k % 2 ^ 32)
          originCode (srcOf (.acc k) s) 3 0 tok s = none → ∃ y ∈ t.noc.txns, y.agent = .acc k ∧ y.body = tok ∧ y.posted = true)) ∧
    ∀ q, (acc k s).refusals.find? (fun q => q.1 == id) = some q → q.2 ≠ id →
      Effect (.statusWriteAccepted k id) s fun t =>
        (∀ u ∈ (acc k t).refusals, u.1 ≠ id) ∧ Answered q.2 0 [copRefuse] s t ∧ (acc k t).jobs = (acc k s).jobs ∧ t.mem = s.mem)

/-- DEFINE of a context that is IDLE or CANCELLED stores words 0 to 5 unless a field is bad; ARM of an IDLE context with expected tokens makes
it WAITING with none held; CANCEL makes a context CANCELLED and a running one is killed; READ copies the context to CHURN_CTX_DATA and
changes no context; RELEASE makes a CANCELLED context IDLE; each answers its CMD_STATUS code and does nothing in another state. A read of
CHURN_NEXT with no task running takes the first visible entry, whose context becomes RUNNING, or returns zero. (R191, R192, R193, R194,
R204, R205) -/
def Obligations.ChurnCommands : Prop :=
  (∀ src sl c s, Running s → sl < 8 → c < 8192 → Open src (Reg.CHURN_CMD sl) false true (0x10000000 + c) s →
    Effect (.define src sl c) s fun t =>
      let x := ctx sl c s
      t.mem = s.mem ∧ (∀ d, d ≠ c → ctx sl d t = ctx sl d s) ∧
      (x.state ≠ stIdle → x.state ≠ stCancelled → ChurnAnswers 1 sl t ∧ ctx sl c t = x) ∧
      ((x.state = stIdle ∨ x.state = stCancelled) → badField sl (definedCtx sl c s) s = true → ChurnAnswers 2 sl t ∧ ctx sl c t = x) ∧
      ((x.state = stIdle ∨ x.state = stCancelled) → badField sl (definedCtx sl c s) s = false → ChurnAnswers 0 sl t ∧
        (ctx sl c t).state = x.state ∧ ∀ i, i < 6 → (ctx sl c t).w i = (rd (Reg.CHURN_CTX_DATA sl i) s).toNat)) ∧
  (∀ src sl c s, Running s → sl < 8 → c < 8192 → Open src (Reg.CHURN_CMD sl) false true (0x20000000 + c) s →
    Effect (.arm src sl c) s fun t =>
      ((ctx sl c s).state = stIdle → (ctx sl c s).slots ≠ 0 → ChurnAnswers 0 sl t ∧ (ctx sl c t).state = stWaiting ∧ (ctx sl c t).held = 0) ∧
      ((ctx sl c s).state ≠ stIdle → ChurnAnswers 1 sl t ∧ ctx sl c t = ctx sl c s)) ∧
  (∀ src sl c s, Running s → sl < 8 → c < 8192 → Open src (Reg.CHURN_CMD sl) false true (0x30000000 + c) s →
    Effect (.cancel src sl c) s fun t =>
      ((ctx sl c s).state = stIdle → ChurnAnswers 1 sl t ∧ ctx sl c t = ctx sl c s) ∧
      ((ctx sl c s).state ≠ stIdle → ChurnAnswers 0 sl t ∧ (ctx sl c t).state = stCancelled) ∧
      ((ctx sl c s).state ≠ stIdle → (ctx sl c s).state ≠ stCancelled → (ctx sl c t).held = 0 ∧ Counted (Reg.CHURN_CANCEL_CNT sl) s t) ∧
      ((ctx sl c s).state = stRunning → (slice sl t).killing (ctx sl c s).eng = true)) ∧
  (∀ src sl c s, Running s → sl < 8 → c < 8192 → Open src (Reg.CHURN_CMD sl) false true (0x40000000 + c) s →
    Effect (.read src sl c) s fun t => ChurnAnswers 0 sl t ∧ t.churn = s.churn ∧ t.mem = s.mem ∧
      (∀ i, i < 6 → rd (Reg.CHURN_CTX_DATA sl i) t = dw ((ctx sl c s).w i)) ∧
      rd (Reg.CHURN_CTX_DATA sl 6) t = dw ((ctx sl c s).state * 0x20000000 + (ctx sl c s).held * 0x10000 + b2n (ctx sl c s).oneng * 0x8000 +
        (ctx sl c s).eng * 0x200) ∧
      rd (Reg.CHURN_CTX_DATA sl 7) t = dw (ctx sl c s).deadline) ∧
  (∀ src sl c s, Running s → sl < 8 → c < 8192 → Open src (Reg.CHURN_CMD sl) false true (0x50000000 + c) s →
    Effect (.release src sl c) s fun t =>
      ((ctx sl c s).state = stCancelled → ChurnAnswers 0 sl t ∧ (ctx sl c t).state = stIdle) ∧
      ((ctx sl c s).state ≠ stCancelled → ChurnAnswers 1 sl t ∧ ctx sl c t = ctx sl c s)) ∧
  ∀ src sl e s, Running s → sl < 8 → e < 64 → Open src (Reg.CHURN_NEXT sl e) true false 0 s → (slice sl s).run e = none →
    (slice sl s).killing e = false →
    Effect (.churnNextRead src sl e) s fun t =>
      t.csr.respCode = 0 ∧ t.csr.respEnd = false ∧ t.mem = s.mem ∧
      ((slice sl s).d e = [] → t.csr.respData = 0 ∧ t.churn = s.churn) ∧
      ∀ d r, (slice sl s).d e = d :: r → d.visible = true → t.csr.respData = dw (entryWord sl d.ctx (ctx sl d.ctx s)) ∧
        (slice sl t).d e = r ∧ (slice sl t).run e = some d.ctx ∧ (ctx sl d.ctx t).state = stRunning

/-- A token for an expected slot of a WAITING context is counted and held with its value, and the context waits on while a token is missing; a
second token of a slot is counted as a duplicate, one no context expects is dropped and counted; an arm message arms an IDLE context and a cancel
message cancels a context that is not IDLE; a message with a reserved bit set is dropped and counted; DISPATCH places the best task at the next open
engine; an accepted operand area makes its entry visible; the acknowledgement of a kill ends it; in ENFORCE the held token that is due is accepted,
and the recorded entries of the Round become due. (R195, R196, R199, R200, R202, R203, R206, R213) -/
def Obligations.ChurnEvents : Prop :=
  (∀ sl w0 w1 src s, Running s → sl < 8 → w0 < 2 ^ 32 → w1 < 2 ^ 32 → bitsOf w0 31 28 = 1 → bitsOf w0 27 19 = 0 → bitsOf w0 15 13 = sl →
    orderMode sl s = 0 → (slice sl s).buffer = [] →
    Effect (.token sl w0 w1 src 0) s fun t =>
      let c := w0 % 0x2000
      let n := bitsOf w0 18 16
      let x := ctx sl c s
      t.mem = s.mem ∧ Counted (Reg.CHURN_TOKEN_CNT sl) s t ∧
      (x.state = stWaiting → x.slots.testBit n = true → x.held.testBit n = false → x.slots &&& (x.held ||| 2 ^ n) ≠ x.slots →
        (ctx sl c t).state = stWaiting ∧ (ctx sl c t).held = x.held ||| 2 ^ n ∧ tabGet (fun _ => 0) (ctx sl c t).values n = w1) ∧
      (x.state = stWaiting → x.slots.testBit n = true → x.held.testBit n = false → x.slots &&& (x.held ||| 2 ^ n) = x.slots → x.dlMode = 0 →
        (ctx sl c t).state = stReady ∧ tabGet (fun _ => 0) (ctx sl c t).inst n = w1) ∧
      (x.state = stWaiting → x.slots.testBit n = true → x.held.testBit n = true → Counted (Reg.CHURN_TOK_DUP_CNT sl) s t ∧ ctx sl c t = x) ∧
      ((x.state = stIdle ∨ x.state = stCancelled ∨ x.slots.testBit n = false) → Counted (Reg.CHURN_TOK_DROP_CNT sl) s t ∧ t.churn = s.churn)) ∧
  (∀ sl w0 src s, Running s → sl < 8 → w0 < 2 ^ 32 → bitsOf w0 27 19 = 0 → bitsOf w0 15 13 = sl → (ctx sl (w0 % 0x2000) s).slots ≠ 0 →
    Effect (.armMessage sl w0 src 0) s fun t =>
      ((ctx sl (w0 % 0x2000) s).state = stIdle → (ctx sl (w0 % 0x2000) t).state = stWaiting) ∧
      ((ctx sl (w0 % 0x2000) s).state ≠ stIdle → ctx sl (w0 % 0x2000) t = ctx sl (w0 % 0x2000) s ∧ Counted (Reg.CHURN_BAD_MSG_CNT sl) s t)) ∧
  (∀ sl w0 src s, Running s → sl < 8 → w0 < 2 ^ 32 → bitsOf w0 27 19 = 0 → bitsOf w0 15 13 = sl →
    Effect (.cancelMessage sl w0 src 0) s fun t =>
      ((ctx sl (w0 % 0x2000) s).state ≠ stIdle → (ctx sl (w0 % 0x2000) t).state = stCancelled) ∧
      ((ctx sl (w0 % 0x2000) s).state = stIdle → ctx sl (w0 % 0x2000) t = ctx sl (w0 % 0x2000) s ∧ Counted (Reg.CHURN_BAD_MSG_CNT sl) s t)) ∧
  (∀ sl w0 w1 src res s, Running s → sl < 8 → w0 < 2 ^ 32 → w1 < 2 ^ 32 → res ≠ 0 →
    ∀ i ∈ [Instr.token sl w0 w1 src res, .armMessage sl w0 src res, .cancelMessage sl w0 src res],
      Effect i s fun t => Counted (Reg.CHURN_BAD_MSG_CNT sl) s t ∧ ∀ c, ctx sl c t = ctx sl c s) ∧
  (∀ sl s e r k, Running s → sl < 8 → orderMode sl s = 2 → (slice sl s).enforcing = true → (slice sl s).due = e :: r →
    (slice sl s).buffer.find? (fun q => q.key == e.1 && q.src == e.2) = some k →
    Effect (.heldTokenAccepted sl) s fun t => (slice sl t).due = r ∧ (slice sl t).buffer = (slice sl s).buffer.erase k ∧
      Counted (Reg.CHURN_TOKEN_CNT sl) s t) ∧
  (∀ sl s, Running s → sl < 8 → orderMode sl s = 2 → (slice sl s).enforcing = true → (slice sl s).logEnded = false →
    Effect (.orderLogReadAnswer sl) s fun t => (slice sl t).due = recordedTokens sl (roundNow s) s ∧ (slice sl t).logEnded = true ∧
      (slice sl t).ctxs = (slice sl s).ctxs ∧ t.mem = s.mem) ∧
  (∀ sl s, Running s → sl < 8 → flagOn (Reg.CHURN_CTRL sl) 0 s = true →
    Effect (.dispatch sl) s fun t =>
      let next := ((upto 64).map fun i => ((slice sl s).rr + i) % 64).find? (fun e => engineOpen sl e s && (bestTask sl e s).isSome)
      t.mem = s.mem ∧ (next = none → t = s) ∧
      ∀ e c, next = some e → bestTask sl e s = some c →
        (ctx sl c t).state = stDispatched ∧ (ctx sl c t).eng = e ∧ (ctx sl c t).oneng = true ∧
        (slice sl t).d e = (slice sl s).d e ++ [⟨c, !(ctx sl c s).valEn⟩] ∧ (slice sl t).rr = (e + 1) % 64 ∧
        Counted (Reg.CHURN_DISPATCH_CNT sl) s t) ∧
  (∀ sl e s d, Running s → sl < 8 → e < 64 →
    ((slice sl s).d e).find? (fun d => !d.visible && !(unaccepted (.churn sl) (useArea d.ctx) s)) = some d →
    Effect (.operandAreaAccepted sl e) s fun t => (⟨d.ctx, true⟩ : DispEntry) ∈ (slice sl t).d e ∧ (slice sl t).ctxs = (slice sl s).ctxs ∧
      t.mem = s.mem) ∧
  ∀ sl e s k, Running s → sl < 8 → e < 64 → (slice sl s).kills.find? (fun q => q.eng == e) = some k →
    Effect (.killAcknowledgement sl e) s fun t => (slice sl t).killing e = false ∧ t.mem = s.mem ∧ (k.live = true → (ctx sl k.ctx t).oneng = false) ∧
      (k.live = false → ∀ c, ctx sl c t = ctx sl c s)

/-- A packet for plain memory is accepted by its target in the order of acceptances; a register read of a width other than 4 or 8 is answered
SLVERR, or DECERR where no register lies; a notice marks its packet, and completes a posted one, which counts at its NI; a request whose timer runs
out draws TIMEOUT, is counted and raises NOC_TIMEOUT; a late answer is discarded and counted; 65,536 cycles later its place is free; a held request
is injected when a place is free. (R229, R236, R238, R240, R255) -/
def Obligations.FabricFlow : Prop :=
  (∀ id s x, Running s → txnOf id s = some x → x.stage = .sent → oldestOf x s = true → portTurn x s = true → x.guardCode s = none →
    Effect (.packetAccepted id) s fun t =>
      (inMemory x.addr = true → ((∃ n, x.body = .read n) ∨ ∃ bs, x.body = .write bs) →
        (∃ y, txnOf id t = some y ∧ y.stage = .accepted ∧ y.arr = s.noc.arrivals) ∧ t.noc.arrivals = s.noc.arrivals + 1 ∧ t.mem = s.mem ∧
        (∀ n, x.body = .read n → t.csr = s.csr ∧ MemKept s t) ∧ ∀ n, ∃ l, eng n t = { eng n s with stale := (eng n s).stale ++ l }) ∧
      (∀ n, x.body = .read n → n ≠ 4 → n ≠ 8 → inCsr x.addr = true →
        Answered id (if (findReg ((x.addr - 0x40000000) % 0x8000000 / 4 * 4)).isNone then 2 else 1) [] s t ∧ MemKept s t)) ∧
  (∀ id s x, Running s → txnOf id s = some x → x.stage = .accepted → x.noticed = false → (∀ e ch, x.agent ≠ .dma e ch) →
    Effect (.acceptanceNotice id) s fun t => (∃ y, txnOf id t = some y ∧ y.noticed = true ∧ y.stage = .accepted) ∧
      (x.posted = true ∨ x.cls ≠ 0 → Counted (Reg.NI_PKTS (srcNode x.src) (srcPort x.src) x.cls) s t) ∧ MemKept s t) ∧
  (∀ id s x, Running s → txnOf id s = some x → x.inFlight = true →
    Effect (.requestTimeout id) s fun t => (∃ y, txnOf id t = some y ∧ y.ans = some (3, []) ∧ y.late = true) ∧
      Counted (Reg.NI_TIMEOUT_CNT (srcNode x.src) (srcPort x.src)) s t ∧ flagOn Reg.NOC_EVT_STATUS 2 t = true ∧
      Raised 0x102 (srcNode x.src * 8 + srcPort x.src) s t ∧ MemKept s t) ∧
  (∀ id s x, Running s → txnOf id s = some x → x.late = true → x.stage = .served → x.ans = none →
    Effect (.lateAnswer id) s fun t => txnOf id t = none ∧ Counted (Reg.NI_LATE_RSP_CNT (srcNode x.src) (srcPort x.src)) s t ∧ MemKept s t) ∧
  (∀ id s x, Running s → txnOf id s = some x → x.late = true → x.stage ≠ .lost →
    Effect (.placeFreed id) s fun t => (∃ y, txnOf id t = some y ∧ Txn.holdsPlace (srcNode x.src) (srcPort x.src) y = false ∧ y.late = true) ∧
      t.csr = s.csr ∧ MemKept s t) ∧
  ∀ id s x, Running s → txnOf id s = some x → x.stage = .heldLimit → x.posted = false → oldestOf x s = true →
    placesUsed (srcNode x.src) (srcPort x.src) s < niLimitNow (srcNode x.src) (srcPort x.src) s → originCode x.src x.cls x.addr x.body s = none →
    drainHolds (srcNode x.src) (srcPort x.src) x.node x.cls x.body s = false →
    bookHolds (srcNode x.src) (srcPort x.src) x.node x.port x.cls s = false →
    Effect (.heldRequestInjected id) s fun t => StageOf id .sent t ∧ t.noc.injections = s.noc.injections + 1 ∧ MemKept s t

/-- A packet at a fenced domain draws FENCED and one at a sleeping domain ASLEEP unless it auto-wakes: then it takes a slot and wakes the domain, or
is turned away with eight slots taken or booked, and one that no register answers draws DECERR; NACK sends a booking, which is queued or, with 64
queued, denied and sent again later; a grant moves the packet into the slot and counts; a router with nothing in flight applies its settings, and
the last of the set ends the drain; a slow drain is reported once. (R237, R241, R242, R252, R253, R254, R472) -/
def Obligations.FabricGuards : Prop :=
  (∀ id s x, Running s → txnOf id s = some x → x.stage = .sent → oldestOf x s = true → portTurn x s = true →
    Effect (.guardAccess id) s fun t => MemKept s t ∧
      (x.guardCode s = none → t = s) ∧ (∀ code, x.guardCode s = some code → (code ≠ 4 ∨ x.aw = false) → Answered id code [] s t) ∧
      (x.guardCode s = some 4 → x.aw = true → 8 ≤ (guard (guardKey x) s).slots.length + (guard (guardKey x) s).booked.length → StageOf id .nacked t) ∧
      (x.guardCode s = some 4 → x.aw = true → (guard (guardKey x) s).slots.length + (guard (guardKey x) s).booked.length < 8 →
        StageOf id .guardSlot t ∧ id ∈ (guard (guardKey x) t).slots ∧
        ∀ d, x.dom = some d → (dom d s).failed = false → (dom d s).entering = none → (dom d t).waking = true)) ∧
  (∀ id s x, Running s → txnOf id s = some x → x.stage = .nacked →
    Effect (.nack id) s fun t => StageOf id .bookSent t ∧ t.csr = s.csr ∧ MemKept s t ∧
      ∀ u ∈ t.noc.txns, u.src / 128 = x.src / 128 → u.cls = x.cls → u.node = x.node → u.port = x.port → u.stage ≠ .heldLimit) ∧
  (∀ id s x, Running s → txnOf id s = some x → x.stage = .bookSent → (guard (guardKey x) s).booked.length < 64 →
    Effect (.book id) s fun t => StageOf id .booked t ∧ (guard (guardKey x) t).booked = (guard (guardKey x) s).booked ++ [id] ∧ MemKept s t) ∧
  (∀ id s x, Running s → txnOf id s = some x → x.stage = .bookSent → 64 ≤ (guard (guardKey x) s).booked.length →
    Effect (.deny id) s fun t => StageOf id .denied t ∧ t.noc.guards = s.noc.guards ∧ t.csr = s.csr) ∧
  (∀ id s x, Running s → txnOf id s = some x → x.stage = .denied →
    Effect (.bookRetry id) s fun t => StageOf id .bookSent t ∧ t.noc.guards = s.noc.guards ∧ t.csr = s.csr) ∧
  (∀ id s x, Running s → txnOf id s = some x → x.stage = .booked → (guard (guardKey x) s).booked.head? = some id →
    (guard (guardKey x) s).slots.length < 8 → mayResend x s = true → heldBehind x s ≠ some id →
    Effect (.grant id) s fun t => (if (x.guardCode s).isSome then StageOf id .guardSlot t else StageOf id .sent t) ∧
      (guard (guardKey x) t).booked = (guard (guardKey x) s).booked.tail ∧ Counted (Reg.NI_BOOK_CNT (srcNode x.src) (srcPort x.src)) s t ∧
        MemKept s t) ∧
  (∀ n s, Running s → n < 48 → s.noc.draining = true → n ∈ s.noc.drainNodes → drainBusy n s = false →
    Effect (.routerApply n) s fun t => n ∉ t.noc.drainNodes ∧ MemKept s t ∧
      ((∃ m ∈ s.noc.drainNodes, m ≠ n) → t.noc.draining = true ∧ t.noc.txns = s.noc.txns) ∧
      ((∀ m ∈ s.noc.drainNodes, m = n) → t.noc.draining = false ∧ t.noc.routes = [] ∧ t.noc.rtr = [] ∧ Counted Reg.NOC_DRAIN_CNT s t)) ∧
  ∀ s, Running s → s.noc.draining = true → s.noc.slow = false →
    Effect .nocDrainSlow s fun t => flagOn Reg.NOC_EVT_STATUS 4 t = true ∧ Raised 0x104 0 s t ∧ exec .nocDrainSlow t = .next t

/-- A send posts the packet of the values in shared memory, or answers SLVERR past its end; a setup with a new tag and room becomes active, another
is refused and counted; a send of a range with an uncorrectable word sends nothing; a router adds a packet to the buffer of its key, gives it a free
buffer, or passes it on and counts; a buffer leaves when its hold expires; a partial joins its reduction and the last starts the table read; the
table entry says where the result is written; the accepted result frees the tag and posts its token; a partial of no active tag is an error. (R243,
R244, R245, R246, R247, R248, R249) -/
def Obligations.Reductions : Prop :=
  (∀ src c v s, Running s → c < 32 → v < 2 ^ 64 → Open src (Reg.NI_RED_SEND (8 + c) 0) true true v s →
    let len := 64 * (bitsOf v 45 44 + 1)
    let off := 64 * bitsOf v 19 6
    let p : RedPkt := ⟨bitsOf v 63 52, bitsOf v 27 22, bitsOf v 48 48, len, bitsOf v 43 28, 1,
      words32 (memRead (0x10000000 + c * 0x100000 + off) len s)⟩
    Effect (.niRedSend src c v .clean) s fun t => MemKept s t ∧
      (0x100000 < off + len → t.csr.respCode = 1 ∧ t.noc = s.noc) ∧
      (off + len ≤ 0x100000 → poisoned (0x10000000 + c * 0x100000 + off) len s = true → t.csr.respCode = 1 ∧ t.noc = s.noc) ∧
      (off + len ≤ 0x100000 → poisoned (0x10000000 + c * 0x100000 + off) len s = false → t.csr.respCode = 0 ∧
        (originCode (srcOf (.coll c) s) 3 0 (.red p) s = none →
        ∃ x, t.noc.txns = s.noc.txns ++ [x] ∧ x.agent = .coll c ∧ x.cls = 3 ∧ x.body = .red p ∧ x.posted = true))) ∧
  (∀ src c tag count cls s, Running s → c < 32 → tag < 4096 → count < 2 ^ 16 → cls < 8 →
    Open src (Reg.NI_RED_SETUP (8 + c) 0) true true (cls * 2 ^ 58 + count * 2 ^ 32 + tag) s →
    let used := (reductions c s).foldl (fun n r => n + r.booked) 0
    Effect (.niRedSetup src c tag count cls) s fun t => MemKept s t ∧
      ((count = 0 ∨ (∃ r ∈ reductions c s, r.tag = tag) ∨ 64 ≤ (reductions c s).length ∨ 64 < used + min count 4) →
        t.csr.respCode = 7 ∧ reductions c t = reductions c s ∧ Counted Reg.NOC_RED_ERR_CNT s t) ∧
      (count ≠ 0 → (∀ r ∈ reductions c s, r.tag ≠ tag) → (reductions c s).length < 64 → used + min count 4 ≤ 64 →
        t.csr.respCode = 0 ∧ ∃ r, reductions c t = reductions c s ++ [r] ∧ r.tag = tag ∧ r.n = count ∧ r.cls = cls ∧ r.cnt = 0 ∧
          r.setRound = roundNow s)) ∧
  (∀ id s x node tag count cls, Running s → txnOf id s = some x → x.body = .redSetup node tag count cls → x.stage = .accepted →
    count ≠ 0 → (∀ r ∈ reductions (node - 8) s, r.tag ≠ tag) → (reductions (node - 8) s).length < 64 →
    (reductions (node - 8) s).foldl (fun n r => n + r.booked) 0 + min count 4 ≤ 64 →
    Effect (.redSetupReceived id) s fun t => Answered id 0 [] s t ∧ MemKept s t ∧
      ∃ r, reductions (node - 8) t = reductions (node - 8) s ++ [r] ∧ r.tag = tag ∧ r.n = count) ∧
  (∀ n id s x p, Running s → n < 48 → txnOf id s = some x → x.body = .red p → x.stage = .sent → touches n x = true →
    flagOn Reg.NOC_CTRL 8 s = true →
    let free := decide ((redBufs n s).length < min 32 (bitsOf (rtrUse n s) 13 8))
    Effect (.redPacketAtRouter n id) s fun t => MemKept s t ∧
      ((∀ b ∈ redBufs n s, ∀ q, b.red = some q → q.sameKey p = false) → free = false → redBufs n t = redBufs n s ∧
        Counted (Reg.NOC_RTR_RED_PASS_CNT n) s t ∧ t.noc.txns = s.noc.txns) ∧
      ((∀ b ∈ redBufs n s, ∀ q, b.red = some q → q.sameKey p = false) → free = true → p.cnt < p.n →
        txnOf id t = none ∧ ∃ b, redBufs n t = redBufs n s ++ [b] ∧ b.body = .red p) ∧
      (∀ b q, redBufs n s = [b] → b.body = .red q → q.sameKey p = true → q.cnt + p.cnt < q.n →
        txnOf id t = none ∧ Counted (Reg.NOC_RTR_RED_MERGE_CNT n) s t ∧
        redBufs n t = [{ b with body := .red { q with cnt := q.cnt + p.cnt, sum := addSums q.sum p.sum } }])) ∧
  (∀ n i s b, Running s → n < 48 → i < 32 → (redBufs n s)[i]? = some b →
    Effect (.redHoldExpiry n i) s fun t => redBufs n t = (redBufs n s).eraseIdx i ∧ t.noc.txns = s.noc.txns ++ [b] ∧ MemKept s t) ∧
  (∀ c id s x p, Running s → c < 32 → txnOf id s = some x → x.body = .red p → x.stage = .accepted → p.coll = 8 + c →
    (∀ u ∈ partialsAt c s, x.arr ≤ u.arr) →
    Effect (.redPartial c id) s fun t => MemKept s t ∧
      ((∀ r ∈ reductions c s, r.tag ≠ p.tag) → Counted Reg.NOC_RED_ERR_CNT s t ∧ reductions c t = reductions c s ∧
        rd Reg.NOC_RED_LAST_ERR t = dw (0x20000000 + (8 + c) * 0x10000 + p.tag)) ∧
      ∀ r, (reductions c s).find? (fun r => r.tag == p.tag) = some r → p.n = r.n → (r.cnt = 0 ∨ (p.typ = r.typ ∧ p.len = r.len)) →
        (∃ r' ∈ reductions c t, r'.tag = p.tag ∧ r'.cnt = r.cnt + p.cnt ∧ r'.sum = (if r.cnt = 0 then p.sum else addSums r.sum p.sum) ∧
          r'.phase = if r.phase = 0 ∧ r.n ≤ r.cnt + p.cnt then 1 else r.phase) ∧
        (r.n < r.cnt + p.cnt → Counted Reg.NOC_RED_ERR_CNT s t ∧ rd Reg.NOC_RED_LAST_ERR t = dw (0x40000000 + (8 + c) * 0x10000 + p.tag)) ∧
        (r.phase = 0 → r.n ≤ r.cnt + p.cnt →
          Sent (.coll c) (bitsOf (rd (Reg.NI_RED_TABLE (8 + c) 0) s).toNat 47 6 * 64 + 16 * p.tag) (.read 16) s t)) ∧
  (∀ c tag s x code data r, Running s → c < 32 → tag < 4096 → waitingAns (.coll c) (useRedTable tag) s = some (x, code, data) →
    (reductions c s).find? (fun r => r.tag == tag && r.phase == 1) = some r →
    Effect (.redTableAnswer c tag) s fun t => MemKept s t ∧
      (code ≠ 0 → ∀ q ∈ reductions c t, q.tag ≠ tag) ∧
      (code = 0 → (∃ q ∈ reductions c t, q.tag = tag ∧ q.phase = 2 ∧ q.entry = data) ∧
        (r.result ≠ [] → leAt data 0 6 % 256 + r.result.length ≤ 256 → originCode (srcOf (.coll c) s) 2 (leAt data 0 6) (.write r.result) s = none →
          ∃ y ∈ t.noc.txns, y.agent = .coll c ∧ y.addr = leAt data 0 6 ∧ y.body = .write r.result ∧ y.posted = true))) ∧
  ∀ c tag s r, Running s → c < 32 → tag < 4096 → (reductions c s).find? (fun r => r.tag == tag && r.phase == 2) = some r →
    unaccepted (.coll c) (useRedResult tag) s = false →
    Effect (.redResultAccepted c tag) s fun t => (∀ q ∈ reductions c t, q.tag ≠ tag) ∧ Counted Reg.NOC_RED_DONE_CNT s t ∧ MemKept s t ∧
      let w := leAt r.entry 8 4
      let tok : Payload := .token (bitsOf w 15 13) (bitsOf w 12 0) (bitsOf w 18 16) ((tag + 0x80000000 * b2n r.excess) % 2 ^ 32)
      (bitOf w 31 = true → originCode (srcOf (.coll c) s) 3 0 tok s = none → ∃ y ∈ t.noc.txns, y.agent = .coll c ∧ y.body = tok ∧ y.posted = true)

/-- An accepted read of sound memory is answered OK with the bytes at its address and changes no memory; an accepted write stores its bytes
there, leaves every other byte as it was, and is answered OK; a Cold Room access that is not allowed is answered REFUSED and changes no
memory. Training ends in service or failed, the temperature bit follows the devices, and a scrub pass counts. (R265, R268, R271, R272, R547) -/
def Obligations.MemoryAccesses : Prop :=
  (∀ id ecc s x, Running s → txnOf id s = some x → x.stage = .accepted → inMemory x.addr = true → dramMode x.addr s = 0 → firstOnLine x s = true →
    Effect (.memoryAccessServed id ecc) s fun t =>
      let cold := decide (0x20000000 ≤ x.addr ∧ x.addr < 0x20040000)
      (∀ n, x.body = .read n → t.mem = s.mem ∧
        (cold = true → coldOk x.agent false x.addr n = false → Answered id 7 [] s t) ∧
        ((cold = false ∨ coldOk x.agent false x.addr n = true) → eccFinds ecc x.addr n s = .clean → Answered id 0 (memRead x.addr n s) s t) ∧
        ((cold = false ∨ coldOk x.agent false x.addr n = true) → eccFinds ecc x.addr n s = .uncorrectable → Answered id 1 [] s t)) ∧
      (∀ bs, x.body = .write bs →
        (cold = true → coldOk x.agent true x.addr bs.length = false → t.mem = s.mem ∧ Answered id 7 [] s t) ∧
        ((cold = false ∨ coldOk x.agent true x.addr bs.length = true) → Answered id 0 [] s t ∧
          ∀ a, memByte a t = if x.addr ≤ a ∧ a < x.addr + bs.length then bs.getD (a - x.addr) 0 else memByte a s)) ∧ t.eng = s.eng) ∧
  (∀ ch failed s, Running s → ch < 4 → fld (Reg.DRAM_STATUS ch) 1 0 s = 2 →
    Effect (.dramTrainingEnd ch failed) s fun t => fld (Reg.DRAM_STATUS ch) 1 0 t = (if failed then 3 else 0) ∧
      (∀ off, off ≠ Reg.DRAM_STATUS ch → rd off t = rd off s) ∧ MemKept s t) ∧
  (∀ ch hot s, Running s → ch < 4 →
    Effect (.dramTemperatureRead ch hot) s fun t => flagOn (Reg.DRAM_STATUS ch) 8 t = hot ∧ (∀ off, off ≠ Reg.DRAM_STATUS ch → rd off t = rd off s) ∧
      MemKept s t) ∧
  ∀ ch corr s, Running s → ch < 4 → flagOn (Reg.DRAM_CFG ch) 16 s = true → fld (Reg.DRAM_STATUS ch) 1 0 s = 0 →
    Effect (.scrubPass ch corr) s fun t => Counted (Reg.DRAM_SCRUB_PASS_CNT ch) s t ∧
      rd (Reg.DRAM_CORR_CNT ch) t = dw (min ((rd (Reg.DRAM_CORR_CNT ch) s).toNat + corr) 0xFFFFFFFF) ∧ MemKept s t

/-- A start of an IDLE channel at a multiple of 32 makes it ACTIVE with its descriptor address current, its count 0 and its fetch to come;
another is REFUSED or SLVERR and starts nothing; a stop makes an ACTIVE channel STOPPING; a stop completes with the channel IDLE and code 4;
when nothing is outstanding after a bus error every channel is HALTED_BUS, the error is recorded and DMA_BUS_ERR raised; BUS_CLR makes them
IDLE again, and is REFUSED before. (R283, R284, R285, R287, R288) -/
def Obligations.DmaStartsAndStops : Prop :=
  (∀ src e ch addr s, Running s → DmaNamed e ch → addr < 2 ^ 48 → Open src (Reg.DMA_CH_START e ch) true true addr s →
    Effect (.dmaChStart src e ch addr) s fun t => MemKept s t ∧
      (dmaState e ch s ≠ 0 → t.csr.respCode = 7 ∧ t.dma = s.dma) ∧
      (dmaState e ch s = 0 → addr % 32 ≠ 0 → t.csr.respCode = 1 ∧ t.dma = s.dma) ∧
      (dmaState e ch s = 0 → addr % 32 = 0 → t.csr.respCode = 0 ∧ dmaState e ch t = 1 ∧ rd (Reg.DMA_CH_CUR e ch) t = dw addr ∧
        rd (Reg.DMA_CH_DESC_CNT e ch) t = 0 ∧ (dmaChan e ch t).want = true ∧ (dmaChan e ch t).fetchAddr = addr)) ∧
  (∀ src e ch s, Running s → DmaNamed e ch → Open src (Reg.DMA_CH_CTRL e ch) false true 1 s →
    Effect (.dmaChStop src e ch) s fun t => MemKept s t ∧ t.noc = s.noc ∧ dmaState e ch t = if dmaState e ch s = 1 then 2 else dmaState e ch s) ∧
  (∀ e ch s, Running s → DmaNamed e ch → dmaState e ch s = 2 → dmaHalting e s = false → (dmaChan e ch s).phase ≤ 2 →
    openUse (.dma e ch) useDesc s = false → openUse (.dma e ch) useRead s = false → unaccepted (.dma e ch) useWrite s = false →
    (dmaStopFetched e ch s = true → dmaPick e false s = some ch ∧ inCsr (dmaCur e ch s + 28) = false ∧
      originCode (srcOf (.dma e ch) s) 2 (dmaCur e ch s + 28) (.write (leBytes 4 (dmaStatusWord ch 4))) s = none) →
    Effect (.dmaStopComplete e ch) s fun t => MemKept s t ∧ dmaState e ch t = 0 ∧ fld (Reg.DMA_CH_STATUS e ch) 10 8 t = 4 ∧
      (dmaStopFetched e ch s = true → Posted (.dma e ch) (dmaCur e ch s + 28) (leBytes 4 (0x80000000 + ch * 256 + 4)) s t)) ∧
  (∀ e s a kind code, Running s → e < 33 → (dmaEng e s).first = some (a, kind, code) → dmaOutstanding e s = 0 →
    dmaFinishing e s = false →
    Effect (.dmaQuiet e) s fun t => MemKept s t ∧ (∀ ch, ch < dmaChans e → dmaState e ch t = 3) ∧ rd (Reg.DMA_BUS_ERR_ADDR e) t = dw a ∧
      rd (Reg.DMA_BUS_ERR_INFO e) t = dw (kind * 256 + code) ∧ flagOn (Reg.DMA_EVT_STATUS e) 1 t = true ∧ flagOn (Reg.DMA_STATUS e) 16 t = true ∧
      Raised 0x125 (e * 64) s t) ∧
  ∀ src e en s, Running s → e < 33 → Open src (Reg.DMA_CTRL e) false true (2 + b2n en) s →
    Effect (.busClr src e en) s fun t => MemKept s t ∧
      (dmaHalting e s = true → flagOn (Reg.DMA_STATUS e) 16 s = true → t.csr.respCode = 0 ∧ dmaHalting e t = false ∧
        ∀ ch, ch < dmaChans e → dmaState e ch s = 3 → dmaState e ch t = 0) ∧
      (dmaHalting e s = true → flagOn (Reg.DMA_STATUS e) 16 s = false → t.csr.respCode = 7 ∧ dmaHalting e t = true)

/-- A fetched descriptor with OWN 1 that passes the checks is executed from its first byte, one with OWN 0 ends the activation NOT_OWNED, a failed
fetch is a bus error; the engine issues the next fetch, data read or prefetch of the channel its order picks; data read is written to the
destination, and its bytes counted once sent; when all data is accepted the CRC or STATUS is written, after the CRC the STATUS, after STATUS word 0
with OWN 0, each in the channel's turn, and then the descriptor counts as done and the chain ends or goes on. (R273, R274, R276, R277, R278, R279,
R280, R285) -/
def Obligations.DmaTransfers : Prop :=
  (∀ e ch s x code d, Running s → DmaNamed e ch → waitingAns (.dma e ch) useDesc s = some (x, code, d) → dmaHalting e s = false →
    dmaState e ch s = 1 → (dmaChan e ch s).fetching = 1 →
    Effect (.dmaDescriptorFetched e ch) s fun t => MemKept s t ∧
      (code ≠ 0 → dmaHalting e t = true ∧ Counted (Reg.DMA_BUS_ERR_CNT e) s t) ∧
      (code = 0 → dOwn d = false → dmaState e ch t = 0 ∧ fld (Reg.DMA_CH_STATUS e ch) 10 8 t = 2 ∧ rd (Reg.DMA_CH_CUR e ch) t = dw x.addr ∧
        Raised 0x123 (e * 64 + ch) s t) ∧
      (code = 0 → dOwn d = true → dCheck e d = 0 → (dmaChan e ch t).desc = some d ∧ (dmaChan e ch t).phase = 1 ∧ (dmaChan e ch t).issued = 0 ∧
        rd (Reg.DMA_CH_CUR e ch) t = dw x.addr ∧ dmaState e ch t = 1)) ∧
  (∀ e pre s, Running s → e < 33 →
    Effect (.dmaBurstIssue e pre) s fun t => MemKept s t ∧ (dmaPick e pre s = none → t = s) ∧
      ∀ ch, dmaPick e pre s = some ch → tabGet (fun _ => dmaChans e - 1) (dmaEng e t).rr (dmaPrio e ch s) = ch ∧
        (dmaReady e ch pre s = 1 → inCsr (dmaChan e ch s).fetchAddr = false →
          Requests (.dma e ch) (dmaChan e ch s).fetchAddr (.read 32) s t ∧ (dmaChan e ch t).want = false ∧ (dmaChan e ch t).fetching = 1) ∧
        (∀ d, dmaReady e ch pre s = 2 → (dmaChan e ch s).desc = some d → inCsr (dSrc d + (dmaChan e ch s).issued) = false →
          Requests (.dma e ch) (dSrc d + (dmaChan e ch s).issued) (.read (dmaBurst d (dmaChan e ch s).issued)) s t ∧
          (dmaChan e ch t).issued = (dmaChan e ch s).issued + dmaBurst d (dmaChan e ch s).issued) ∧
        (∀ d, dmaReady e ch pre s = 3 → (dmaChan e ch s).desc = some d → inCsr (dNext d) = false →
          Requests (.dma e ch) (dNext d) (.read 32) s t ∧ (dmaChan e ch t).fetching = 2)) ∧
  (∀ e ch id s x bs d, Running s → DmaNamed e ch → txnOf id s = some x → x.agent = .dma e ch → x.use = useRead → x.ans = some (0, bs) →
    dmaHalting e s = false → (dmaChan e ch s).desc = some d →
    let a := dDst d + (x.addr - dSrc d)
    Effect (.dmaReadAnswer e ch id) s fun t => MemKept s t ∧ Posted (.dma e ch) a (swapBytes (dSwap d) bs) s t ∧
      (inCsr a = true → rd (Reg.DMA_CH_BYTES e ch) t = rd (Reg.DMA_CH_BYTES e ch) s) ∧
      (inCsr a = false → originCode (srcOf (.dma e ch) s) 2 a (.write (swapBytes (dSwap d) bs)) s = none → s.noc.draining = false →
        (∀ y ∈ s.noc.txns, y.id ≠ nextTxn s) →
        (rd (Reg.DMA_CH_BYTES e ch) t).toNat = min ((rd (Reg.DMA_CH_BYTES e ch) s).toNat + bs.length) (2 ^ 64 - 1))) ∧
  (∀ e ch s d, Running s → DmaNamed e ch → (dmaChan e ch s).desc = some d → (dmaChan e ch s).phase = 1 → dLen d ≤ (dmaChan e ch s).issued →
    openUse (.dma e ch) useRead s = false → unaccepted (.dma e ch) useWrite s = false → dmaState e ch s = 1 → dmaHalting e s = false →
    dmaPick e false s = some ch →
    Effect (.dmaDataAccepted e ch) s fun t => MemKept s t ∧
      (dCrc d = false → WritesOn e ch 3 (dmaCur e ch s + 28) (leBytes 4 (0x80000000 + ch * 256 + (dmaChan e ch s).code)) s t) ∧
      (dCrc d = true → WritesOn e ch 2 (if epochA s then dmaCur e ch s + 32 else dDst d + dLen d)
        (leBytes 4 (crc32c (dmaChan e ch s).crc ((dmaChan e ch s).data.flatMap (·.2)) ^^^ 0xFFFFFFFF)) s t)) ∧
  (∀ e ch s d, Running s → DmaNamed e ch → (dmaChan e ch s).desc = some d → (dmaChan e ch s).phase = 2 → unaccepted (.dma e ch) useCrc s = false →
    dmaState e ch s = 1 → dmaHalting e s = false → dmaPick e false s = some ch →
    Effect (.dmaCrcAccepted e ch) s fun t => MemKept s t ∧
      WritesOn e ch 3 (dmaCur e ch s + 28) (leBytes 4 (0x80000000 + ch * 256 + (dmaChan e ch s).code)) s t) ∧
  (∀ e ch s d, Running s → DmaNamed e ch → (dmaChan e ch s).desc = some d → (dmaChan e ch s).phase = 3 →
    unaccepted (.dma e ch) useStat s = false →
    Effect (.dmaStatusAccepted e ch) s fun t => MemKept s t ∧
      ((dmaChan e ch s).code ≠ 1 → dmaState e ch t = 0 ∧ fld (Reg.DMA_CH_STATUS e ch) 10 8 t = (dmaChan e ch s).code % 8) ∧
      ((dmaChan e ch s).code = 1 → (dmaStream (dmaChan e ch s) && bitOf (dmaChan e ch s).cfg 30) = true →
        Counted (Reg.DMA_DESC_DONE_CNT e) s t ∧ Counted (Reg.DMA_CH_DESC_CNT e ch) s t) ∧
      ((dmaChan e ch s).code = 1 → (dmaStream (dmaChan e ch s) && bitOf (dmaChan e ch s).cfg 30) = false → dmaPick e false s = some ch →
        WritesOn e ch 4 (dmaCur e ch s) (leBytes 4 (withBits (dWord d 0) 31 31 0)) s t)) ∧
  ∀ e ch s d, Running s → DmaNamed e ch → (dmaChan e ch s).desc = some d → (dmaChan e ch s).phase = 4 → unaccepted (.dma e ch) useOwn s = false →
    Effect (.dmaOwnAccepted e ch) s fun t => MemKept s t ∧ Counted (Reg.DMA_DESC_DONE_CNT e) s t ∧ Counted (Reg.DMA_CH_DESC_CNT e ch) s t ∧
      (dEnd d = true → dmaState e ch t = 0 ∧ fld (Reg.DMA_CH_STATUS e ch) 10 8 t = 1) ∧
      (dEnd d = false → bitsOf (dmaChan e ch s).cfg 15 0 = 0 → (dmaChan e ch s).pre = none → (dmaChan e ch s).fetching = 0 → dmaState e ch s = 1 →
        dmaHalting e s = false → (dmaChan e ch t).want = true ∧ (dmaChan e ch t).fetchAddr = dNext d ∧ (dmaChan e ch t).desc = none ∧
        rd (Reg.DMA_CH_CUR e ch) t = dw (dNext d)) ∧
      (dTok d = true →
        let w := (dmaChan e ch s).tok
        let tok : Payload := .token (bitsOf w 15 13) (bitsOf w 12 0) (bitsOf w 18 16) ((dUser d * 65536 + ch * 256 + 1) % 2 ^ 32)
        originCode (srcOf (.dma e ch) s) 3 0 tok s = none → ∃ y ∈ t.noc.txns, y.agent = .dma e ch ∧ y.body = tok ∧ y.posted = true)

/-- A write of CFA_CH_READY sets the ready count; a coefficient is written unless its set is in use, which refuses it; a hand-over at a half is
answered and each running channel of its range with TOK counts it and posts its token; a downlink channel reads its next line once READY
covers it and keeps what arrives; a completed window is reported in PEAK and RMS; a channel whose lane does not serve takes or discards the
samples of its period. (R301, R302, R307, R309, R311, R314) -/
def Obligations.CarrierFilters : Prop :=
  (∀ src ch v s, Running s → ch < 1024 → v < 2 ^ 32 → Open src (Reg.CFA_CH_READY ch) false true v s →
    Effect (.cfaChReadyWrite src ch v) s fun t => rd (Reg.CFA_CH_READY ch) t = dw v ∧ t.csr.respCode = 0 ∧ MemKept s t ∧ t.cfa = s.cfa ∧
      ∀ off, off ≠ Reg.CFA_CH_READY ch → rd off t = rd off s) ∧
  (∀ src k i v s, Running s → k < 256 → i < 384 → v < 2 ^ 32 → Open src (Reg.CFA_COEF k i) false true v s →
    Effect (.cfaCoefWrite src k i v) s fun t => MemKept s t ∧
      (setInUse k s = true → t.csr.respCode = 7 ∧ t.cfa = s.cfa ∧ ∀ off, rd off t = rd off s) ∧
      (setInUse k s = false → t.csr.respCode = 0 ∧ rd (Reg.CFA_COEF k i) t = dw v ∧ (k * 384 + i) ∉ t.cfa.bad ∧
        ∀ off, off ≠ Reg.CFA_COEF k i → rd off t = rd off s)) ∧
  (∀ id s x half ch, Running s → txnOf id s = some x → x.body = .handover half ch 1 → x.stage = .accepted → x.ans = none → x.posted = false →
    Effect (.cfaHandover id) s fun t => Answered id 0 [] s t ∧ MemKept s t ∧
      (ch / 512 = half → ch < 1024 → cfaRuns ch s = true → cgTok (cfaCfg ch s) = true →
        let w := (rd (Reg.CFA_CH_TOKEN ch) s).toNat
        let n := if cgDown (cfaCfg ch s) then cfaCount ch s else acceptedTo ch s
        let tok : Payload := .token (bitsOf w 15 13) (bitsOf w 12 0) (bitsOf w 18 16) (n % 2 ^ 32)
        Counted (Reg.CFA_CH_HANDOVER_CNT ch) s t ∧
        (originCode (srcOf (.cfa ch) s) 3 0 tok s = none → ∃ y ∈ t.noc.txns, y.agent = .cfa ch ∧ y.body = tok ∧ y.posted = true))) ∧
  (∀ ch s, Running s → ch < 1024 → cfaRuns ch s = true → cgDown (cfaCfg ch s) = true →
    let here := cfaCount ch s / 16 * 16
    let next := if ((cfaChan ch s).next + 2 ^ 32 - here) % 2 ^ 32 < 64 then (cfaChan ch s).next else here
    readyIn 1 ch (next + 15) s = true → (linesKept ch s).length < 4 → (∀ l ∈ linesKept ch s, l.1 ≠ next) →
    Effect (.cfaLineRead ch) s fun t => Requests (.cfa ch) (lineAddr ch next s) (.read 64) s t ∧
      (cfaChan ch t).ahead = linesKept ch s ++ [(next, none)] ∧ MemKept s t) ∧
  (∀ ch id s x code bs, Running s → ch < 1024 → txnOf id s = some x → x.ans = some (code, bs) → x.agent = .cfa ch → x.use % 2 = 0 → x.posted = false →
    Effect (.cfaLineReadAnswer ch id) s fun t => MemKept s t ∧ (x.late = false → txnOf id t = none) ∧
      (code ≠ 0 → t.cfa = s.cfa) ∧
      (code = 0 → (cfaChan ch t).ahead =
        (cfaChan ch s).ahead.map fun l => if l.1 = x.use / 2 * 16 then (l.1, some ((upto 16).map (sampleOf bs))) else l)) ∧
  (∀ ch s peak rms r, Running s → ch < 1024 → (cfaChan ch s).done = (peak, rms) :: r →
    Effect (.detectorWindowEnd ch) s fun t => rd (Reg.CFA_CH_PEAK ch) t = dw peak ∧ rd (Reg.CFA_CH_RMS ch) t = dw rms ∧ (cfaChan ch t).done = r ∧
      MemKept s t ∧
      (rd (Reg.CFA_CH_PK_THRESH ch) s ≠ 0 → (rd (Reg.CFA_CH_PK_THRESH ch) s).toNat ≤ peak → 0 ∉ (cfaChan ch s).raised → Raised 0x400 ch s t)) ∧
  ∀ ch s, Running s → ch < 1024 → cfaRuns ch s = true → laneServes ch s = false →
    Effect (.cfaSamplePeriod ch) s fun t => MemKept s t ∧
      (cgDown (cfaCfg ch s) = false → flagOn (Reg.CFA_CH_STATUS ch) 29 t = true ∧
        rd (Reg.CFA_CH_GAP_CNT ch) t = dw (min ((rd (Reg.CFA_CH_GAP_CNT ch) s).toNat + cfaTotal ch s) 0xFFFFFFFF)) ∧
      (cgDown (cfaCfg ch s) = true → cfaTotal ch s = 1 → (cfaChan ch s).out = [] → cgStages (cfaCfg ch s) = 0 →
        rd (Reg.CFA_CH_COUNT ch) t = dw ((cfaCount ch s + 1) % 2 ^ 32))

/-- A gate that runs reads the next table entry of the Round at the decision cycle, the later of its launch instant less LEAD and C0+72, and passes
over one whose instant lies past the end of the Round; an entry whose read failed is an error and one with VALID 0 is passed over; a
ready entry reads its frame; the frame read is built with its sequence number, which then counts; at the launch instant the built frame is
handed to a MAC that is up, the time counter being at that instant or past it, and a MAC that is down discards and counts it. A job given up in
between is dropped at its answer. That the decision cycle is placed by the OFFSET then in memory is log 68. (R322, R324, R325, R326, R327,
R328, R331, R369) -/
def Obligations.FronthaulGates : Prop :=
  (∀ m s, Running s → m < 16 → gateOn m s = true →
    let x := gateTurn m s
    let off := memNat (gateEntry m x.next s) 3 s
    let start := gateBase x.inst s
    let due := max (gateBase 0 s + 36) (if offsetPast off s then 0 else start + off - max 400 (fld (Reg.FHG_CFG m) 15 0 s))
    x.next < gateCount m s →
    Effect (.gateDecision m) s fun t => t.mem = s.mem ∧
      (offsetPast off s = false → beforeEnd (start + off) s = false → (mac m t).next = x.next + 1 ∧ t.noc = s.noc ∧ MemKept s t) ∧
      (offsetPast off s = true ∨ beforeEnd (start + off) s = true → room (due - s.time.steps) s = true →
        let u := passSteps (due - s.time.steps) s
        Requests (.fhg m) (gateEntry m x.next s) (.read 28) u t ∧ MemKept u t ∧
        (mac m t).next = x.next + 1 ∧ (mac m t).jobNo = x.jobNo + 1 ∧ t.time.steps = max s.time.steps due ∧
        ∃ j, (mac m t).jobs = x.jobs ++ [j] ∧ j.no = x.jobNo ∧ j.idx = x.next ∧ j.inst = x.inst ∧ j.round = roundNow s ∧ j.stage = 0 ∧
          j.addr = gateEntry m x.next s ∧ j.base = start ∧ j.launch = start + off)) ∧
  (∀ m s j x code e, Running s → m < 17 → (mac m s).jobs.find? (fun j => j.stage == 0) = some j →
    waitingAns (.fhg m) (useGate j.no 0) s = some (x, code, e) →
    Effect (.gateEntryReadAnswer m) s fun t => MemKept s t ∧
      (j.gone = true → (mac m t).jobs = (mac m s).jobs.filter (fun g => g.no != j.no)) ∧
      (j.gone = false → code ≠ 0 → (∀ g ∈ (mac m t).jobs, g.no ≠ j.no) ∧ Counted (Reg.FHG_ERR_CNT m) s t) ∧
      (code = 0 → bitOf (geWord e 0) 31 = false → (mac m t).jobs = (mac m s).jobs.filter (fun g => g.no != j.no)) ∧
      (j.gone = false → code = 0 → bitOf (geWord e 0) 31 = true → offsetPast (geOffset e) s = false →
        gateInRound j (j.base + geOffset e) s = true → geBad m e s = false → j.inst = 0 → geWord e 1 = j.round % 2 ^ 32 →
        ∃ g ∈ (mac m t).jobs, g.no = j.no ∧ g.stage = 1 ∧ g.entry = e ∧ g.blank = false ∧ g.launch = j.base + geOffset e)) ∧
  (∀ m s j, Running s → m < 17 → (mac m s).jobs.find? (fun j => j.stage == 1) = some j →
    answersOf (.fhg m) (useGate j.no 1) s ≠ [] → unanswered (.fhg m) (useGate j.no 1) s = false →
    Effect (.gateFrameReadAnswer m) s fun t => MemKept s t ∧
      let l := answersOf (.fhg m) (useGate j.no 1) s
      let seq := bitsOf (geWord j.entry 6) 13 8
      (j.gone = true → ∀ g ∈ (mac m t).jobs, g.no ≠ j.no) ∧
      (j.gone = false → (firstBad l).isSome = true → Counted (Reg.FHG_ERR_CNT m) s t ∧ ∀ g ∈ (mac m t).jobs, g.no ≠ j.no) ∧
      (j.gone = false → firstBad l = none →
        (∃ g ∈ (mac m t).jobs, g.no = j.no ∧ g.stage = 2 ∧ g.frame = (gateBuild m j (l.flatMap (·.2.2)) s).1) ∧
        tabGet (fun _ => 0) (mac m t).seqs seq = (tabGet (fun _ => 0) (mac m s).seqs seq + 1) % 256)) ∧
  ∀ m s j, Running s → m < 17 → (mac m s).jobs.find? (fun j => j.stage != 3 && !j.gone) = some j → j.stage = 2 → beforeEnd j.launch s = true →
    Effect (.gateLaunch m) s fun t => t.mem = s.mem ∧ t.time.steps = max s.time.steps j.launch ∧ s.tod ≤ t.tod ∧
      (macUp m s = true → ∃ g ∈ (mac m t).jobs, g.no = j.no ∧ g.stage = 3 ∧ g.frame = j.frame) ∧
      (macUp m s = false → (∀ g ∈ (mac m t).jobs, g.no ≠ j.no) ∧ Counted (Reg.MAC_TX_DROP_CNT m) s t)

/-- Negotiation of the configured ability takes the port to TRAINING with pause and EEE as resolved from both ends' abilities (the resolution is
log 66's), another is counted and changes no state;
training complete, or a C2M link gained, takes the port UP and the MAC with it, and raises ETH_LINK of its first lane; a lost link takes the
MAC down and brings the port up again from negotiation, or from DOWN on C2M. (R333, R337, R338, R369, R388) -/
def Obligations.EthernetPorts : Prop :=
  (∀ m same sym asym eee s, Running s → m < 16 → portLive m s = true → portState m s = 1 →
    Effect (.anComplete m same sym asym eee) s fun t => MemKept s t ∧
      let own := flagOn (Reg.MAC_PAUSE_CFG m) 0 s
      let ownAsym := flagOn (Reg.MAC_PAUSE_CFG m) 1 s
      (same = true → portState m t = 2 ∧ flagOn (Reg.MAC_STATUS m) 6 t = (eee && flagOn (Reg.MAC_EEE_CFG m) 0 s) ∧
        flagOn (Reg.MAC_STATUS m) 5 t = (own && sym || own && ownAsym && !sym && asym) ∧
        flagOn (Reg.MAC_STATUS m) 4 t = (own && sym || !own && ownAsym && sym && asym)) ∧
      (same = false → portState m t = 1 ∧ Counted (Reg.LANE_ETH_AN_FAIL_CNT (portFirst m s)) s t)) ∧
  (∀ m s, Running s → m < 16 → portLive m s = true → portState m s = 2 →
    Effect (.linkTrainingComplete m) s fun t => MemKept s t ∧ portState m t = 3 ∧ flagOn (Reg.MAC_STATUS m) 0 t = true ∧
      flagOn (Reg.LANE_EVT_STATUS (portFirst m s)) 5 t = true) ∧
  (∀ m s a b c d, Running s → m < 16 → macPort m s = some (a, b, c, 0, d) → portLive m s = true → portState m s = 0 →
    Effect (.c2mPortUp m) s fun t => MemKept s t ∧ portState m t = 3 ∧ flagOn (Reg.MAC_STATUS m) 0 t = true ∧ fld (Reg.MAC_STATUS m) 6 4 t = 3 ∧
      flagOn (Reg.LANE_EVT_STATUS (portFirst m s)) 5 t = true) ∧
  ∀ m s a b c phy d, Running s → m < 16 → macPort m s = some (a, b, c, phy, d) → portLive m s = true → portState m s = 3 →
    Effect (.portLinkLoss m) s fun t => MemKept s t ∧ portState m t = (if phy = 0 then 0 else 1) ∧ flagOn (Reg.MAC_STATUS m) 0 t = false ∧
      flagOn (Reg.LANE_EVT_STATUS (portFirst m s)) 5 t = true

/-- An attempt counts; a receiver detected leads to TRAIN, bit lock to LOCK, symbol lock to CAPS, and at the end of the last step of a leader to
ACTIVE; three identical good capability sets are accepted and reported, a bad one starts the count again; a TSC begins a follower's step,
and the ends switch with COUNT 0; each timeout, loss or restart enters DETECT with its cause, and a failed step sets CEIL to the rate
stepped from; CLR_CEIL makes it 6. (R343, R344, R345, R346, R347, R348, R349) -/
def Obligations.TetherBringUp : Prop :=
  (∀ l s, Running s → l < 32 → laneLive l s = true → laneState l s = 0 →
    Effect (.detectAttempt l) s (fun t => Counted (Reg.LANE_TDETECT_CNT l) s t ∧ laneState l t = 0 ∧
      fld (Reg.LANE_STATUS l) 13 10 t = min 15 (fld (Reg.LANE_STATUS l) 13 10 s + 1)) ∧
    Effect (.receiverDetected l) s fun t => laneState l t = 1 ∧ fld (Reg.LANE_STATUS l) 13 10 t = (lane l s).failBefore % 16) ∧
  (∀ l s, Running s → l < 32 → laneLive l s = true →
    Effect (.bitLock l) s fun t => MemKept s t ∧ (laneState l s = 1 → laneState l t = 2) ∧
      (laneState l s = 4 → (lane l s).rxSw = true → (lane l t).bit = true ∧ laneState l t = 4)) ∧
  (∀ l viol s, Running s → l < 32 → laneLive l s = true →
    Effect (.symbolLock l viol) s fun t => MemKept s t ∧ Violations l viol s t ∧ (laneState l s = 2 → laneState l t = 3) ∧
      (laneState l s = 4 → (lane l s).stepping = true → (lane l s).txSw = true → (lane l s).rxSw = true → (lane l s).bit = true →
        (lane l s).next = (lane l s).target → flagOn (Reg.LANE_STATUS l) 7 s = true → laneState l t = 5 ∧
          flagOn (Reg.LANE_EVT_STATUS l) 0 t = true)) ∧
  (∀ l s, Running s → l < 32 → laneLive l s = true →
    (laneState l s = 1 → Effect (.trainTimeout l) s (Downed l 1 s)) ∧ 
    (∀ viol, laneState l s = 2 → Effect (.lockTimeout l viol) s fun t => Downed l 2 s t ∧ Violations l viol s t) ∧
    (laneState l s = 3 → Effect (.capsTimeout l) s (Downed l 3 s)) ∧
    (∀ viol, laneState l s = 5 → Effect (.lockLoss l viol) s fun t => Downed l 5 s t ∧ Violations l viol s t) ∧
    ((laneState l s = 2 ∨ laneState l s = 3 ∨ laneState l s = 5) → Effect (.signalLoss l) s (Downed l 9 s)) ∧
    (∀ viol, laneState l s = 4 → (lane l s).stepping = true → Effect (.stepTimeout l viol) s fun t => Downed l 4 s t ∧ Violations l viol s t ∧
      laneCeil l t = (lane l s).stepFrom % 8 ∧ (lane l t).ceilId = some (partnerId l s) ∧ Counted (Reg.LANE_TSTEPFAIL_CNT l) s t)) ∧
  (∀ l gs viol s, Running s → l < 32 → laneLive l s = true → laneState l s = 3 →
    Effect (.capsSetReceived l gs viol) s fun t => MemKept s t ∧
      let r := laneRead l (laneGroups l gs s) s
      let bs := (capsOf r.1).1
      Violations l (viol + r.2.1) s t ∧
      ((capsOf r.1).2 = false → (lane l t).caps = [] ∧ (lane l t).same = 0) ∧
      ((capsOf r.1).2 = true → (lane l s).caps ≠ bs → (lane l t).caps = bs ∧ (lane l t).same = 1) ∧
      ((capsOf r.1).2 = true → (lane l s).caps = bs → (lane l s).same = 2 → leAt bs 0 1 ≠ 1 → bitOf (leAt bs 4 1) 0 = false →
        (lane l t).ack = true ∧ ∀ n, n < 8 → rd (Reg.LANE_TPARTNER_CAPS l n) t = dw (leAt bs (4 * n) 4))) ∧
  (∀ l gs viol next count s, Running s → l < 32 → laneLive l s = true → tscOf (laneRead l (laneGroups l gs s) s).1 = some (next, count) →
    (laneState l s = 3 ∧ (lane l s).done = true ∨ laneState l s = 4) →
    Effect (.tscReceived l gs viol) s fun t => MemKept s t ∧ Violations l (viol + (laneRead l (laneGroups l gs s) s).2.1) s t ∧
      (laneState l s = 3 → flagOn (Reg.LANE_STATUS l) 7 s = false → (lane l s).stepping = false → count ≠ 0 →
        laneState l t = 4 ∧ (lane l t).stepping = true ∧ (lane l t).next = next ∧ (lane l t).stepFrom = laneRate l s ∧ (lane l t).count = count) ∧
      (laneState l s = 4 → (lane l s).stepping = true → (lane l s).refuse = false → (lane l s).next = next → count = 0 →
        (lane l t).rxSw = true ∧ ((lane l s).txSw = true → next < 8 → laneRate l t = next))) ∧
  (∀ l s, Running s → l < 32 → laneLive l s = true → laneState l s = 4 → (lane l s).stepping = true → (lane l s).refuse = false →
    (flagOn (Reg.LANE_STATUS l) 7 s = true ∨ (lane l s).rxSw = true) →
    Effect (.tscCountZeroSent l) s fun t => MemKept s t ∧ (lane l t).txSw = true ∧
      ((lane l s).rxSw = true → (lane l s).next < 8 → laneRate l t = (lane l s).next)) ∧
  (∀ src l s, Running s → l < 32 → Open src (Reg.LANE_CTRL l) false true 1 s → laneState l s ≠ 6 →
    Effect (.tetherRestart src l) s fun t => Downed l 7 s t ∧ fld (Reg.LANE_STATUS l) 13 10 t = 0 ∧ t.csr.respCode = 0) ∧
  ∀ src l s, Running s → l < 32 → Open src (Reg.LANE_CTRL l) false true 2 s →
    Effect (.clrCeil src l) s fun t => laneCeil l t = 6 ∧ (lane l t).ceilId = none ∧ laneState l t = laneState l s ∧ t.csr.respCode = 0 ∧ MemKept s t

/-- A block sent moves the block count of a superblock on and takes the next eight bytes of a control message; a good received block reports the
partner's request and echo, one with LEAVE takes the lane to DETECT, one with a bad CRC and a short one are counted; 16 code violations in one
block, or four blocks in a row with no K, lose lock (cause 5); every code violation counts; after LEAVE was carried
the lane is quiet; a written control message advances PROD with its event; the next transmit entry is read, and sent with its CRC or skipped
and counted; CTLE moves one step within 0 to 36. (R339, R343, R352, R355, R356, R357, R358, R360, R361, R364) -/
def Obligations.TetherTraffic : Prop :=
  (∀ l turn cut word s, Running s → l < 32 → laneState l s = 5 → (lane l s).quiet = false → laneLoop l s = 0 →
    Effect (.tetherBlockSend l turn cut .clean word) s fun t => MemKept s t ∧ laneState l t = 5 ∧
      (lane l t).blk = (if (lane l s).super then (lane l s).blk + 1 else (lane l s).blk) ∧
      ((lane l s).super = false ∨ 2 ≤ (lane l s).blk → (lane l t).ctlTx = (lane l s).ctlTx.drop 8) ∧
      ((lane l s).super = false → (lane l s).leave = 1 → (lane l t).leave = 2 ∧ (lane l t).leaveSent = (lane l s).leaveSent + 1)) ∧
  (∀ l gs viol arrive word s, Running s → l < 32 → inReplay s = false → laneLoop l s = 0 → laneState l s = 5 → (lane l s).quiet = false →
    Effect (.tetherBlockReceived l gs viol arrive .clean word 0) s fun t => MemKept s t ∧
      let r := laneRead l (laneGroups l gs s) s
      let bs := r.1.map (·.2)
      Violations l (viol + r.2.1) s t ∧
      (bs.length < blockLen (laneRate l s) → Counted (Reg.LANE_TSHORT_CNT l) s t) ∧
      (bs.length = blockLen (laneRate l s) → blockGood l bs s = false → Counted (Reg.LANE_TCRC_CNT l) s t) ∧
      (blockGood l bs s = true → bitOf (leAt bs 22 1) 0 = false → (lane l t).echo = some (leAt bs 20 1) ∧
        fld (Reg.LANE_TPM_STATUS l) 1 0 t = leAt bs 19 1 % 4) ∧
      (blockGood l bs s = true → bitOf (leAt bs 22 1) 0 = true → Downed l 6 s t) ∧
      (blockGood l bs s = false ∨ bitOf (leAt bs 22 1) 0 = false →
        let k := decide (r.1.head? = some k285 ∨ r.1.head? = some k281)
        (16 ≤ r.2.1 ∨ k = false ∧ 3 ≤ (lane l s).noK → Downed l 5 s t) ∧
        (r.2.1 < 16 → (k = true ∨ (lane l s).noK < 3) → laneState l t = 5 ∧ (lane l t).noK = if k then 0 else (lane l s).noK + 1))) ∧
  (∀ l s, Running s → l < 32 → laneState l s = 5 → (lane l s).leave = 2 →
    (if (lane l s).super then 120 * 2 ^ fld Reg.ROUND_CFG 2 0 s else 240) ≤ (lane l s).leaveSent →
    Effect (.leaveComplete l) s fun t => (lane l t).quiet = true ∧ (lane l t).leave = 0 ∧ t.csr = s.csr ∧ MemKept s t) ∧
  (∀ l s n r, Running s → l < 32 → (lane l s).rxPend = n :: r →
    unaccepted (.lane l) (useCtlWrite (fld (Reg.LANE_TCTL_PTR l) 7 0 s % 16)) s = false →
    Effect (.ctlRingWriteAccepted l) s fun t => (lane l t).rxPend = r ∧
      fld (Reg.LANE_TCTL_PTR l) 7 0 t = (fld (Reg.LANE_TCTL_PTR l) 7 0 s + 1) % 256 ∧ flagOn (Reg.LANE_EVT_STATUS l) 4 t = true ∧ MemKept s t) ∧
  (∀ l s, Running s → l < 32 → laneState l s = 5 → fld (Reg.LANE_TCTL_PTR l) 23 16 s ≠ fld (Reg.LANE_TCTL_PTR l) 31 24 s →
    (lane l s).ctlTx = [] → (lane l s).ctlRead = false →
    Effect (.ctlTxEntryRead l) s fun t => (lane l t).ctlRead = true ∧ MemKept s t ∧
      Requests (.lane l) (fld (Reg.LANE_TCTL_TX_BASE l) 47 12 s * 4096 + fld (Reg.LANE_TCTL_PTR l) 23 16 s % 16 * 256) (.read 256) s t) ∧
  (∀ l s x code bs, Running s → l < 32 → laneState l s = 5 → waitingAns (.lane l) useCtlRead s = some (x, code, bs) →
    Effect (.ctlTxEntryAnswer l) s fun t =>
      let n := leAt bs 0 1
      let m := leBytes 1 n ++ sliceOf bs 8 n
      (lane l t).ctlRead = false ∧ MemKept s t ∧
      (code = 0 → 1 ≤ n → n ≤ 248 → (lane l t).ctlTx = (0x7E : Byte) :: m ++ crc16Bytes m) ∧
      ((code ≠ 0 ∨ n = 0 ∨ 248 < n) → Counted (Reg.LANE_TCTL_ERR_CNT l) s t ∧
        fld (Reg.LANE_TCTL_PTR l) 23 16 t = (fld (Reg.LANE_TCTL_PTR l) 23 16 s + 1) % 256)) ∧
  ∀ l up s, Running s → l < 32 → laneState l s = 5 → eqAuto l s = true → laneLoop l s = 0 →
    Effect (.ctleAdapt l up) s fun t =>
      fld (Reg.LANE_EQ_STATUS l) 5 0 t = (if up then min 36 (fld (Reg.LANE_EQ_STATUS l) 5 0 s + 1) else fld (Reg.LANE_EQ_STATUS l) 5 0 s - 1) ∧
      (∀ off, off ≠ Reg.LANE_EQ_STATUS l → rd off t = rd off s) ∧ MemKept s t

/-- A frame with broken fragments and a short frame are counted; a good data frame for a queue joins the receive buffer; the queue entry read is
kept until the next commit; a full status entry drops the frame and counts it, a free one starts the writes; when they are accepted the
status entry is written, and when that is accepted the producer advances and the frame counts; MAC_RXQ_RESET sets the producer to 0 from the
next frame; a pause holds the queues it names, a zero time and the end of the time release them, and pause is repeated while the buffer
stays above XON. (R371, R372, R373, R375, R376, R377, R378, R386, R388) -/
def Obligations.EthernetReceive : Prop :=
  (∀ m bs mark frag back s, Running s → m < 16 → flagOn (Reg.MAC_STATUS m) 0 s = true → macLoop m s = false → inReplay s = false →
    Effect (.frameReceived m bs mark frag back) s fun t => MemKept s t ∧
      (frag = true → Counted (Reg.MAC_PRE_ERR_CNT m) s t ∧ t.mac = s.mac) ∧
      (frag = false → flagOn (Reg.MAC_CFG m) 19 s = false → t = s) ∧
      (frag = false → flagOn (Reg.MAC_CFG m) 19 s = true → flagOn Reg.REC_SRC_MAC m s = false → rxOccupancy m s + maxFrame m s + 8 ≤ 262144 →
        (bs.length < 18 → Counted (Reg.MAC_RX_RUNT_CNT m) s t ∧ (mac m t).rx = (mac m s).rx) ∧
        (frameBad m bs mark s = none → (beNat (sliceOf bs 12 2) ≠ 0x8808 ∨ pauseOf bs = none) → isMgmt m bs s = false →
          leAt bs 0 6 = fld (Reg.MAC_ADDR m) 47 0 s →
          ∀ rule q, frameQueue m bs s = some (rule, q) → (rxq m q s).copy = none →
            ∃ f ∈ (mac m t).rx, f.no = (mac m s).rxNo ∧ f.q = q ∧ f.rule = rule ∧ f.bytes = bs ∧ f.flags = 0))) ∧
  (∀ m q s x code bs, Running s → m < 17 → q < 256 → waitingAns (.mac m) (useEntry q) s = some (x, code, bs) →
    Effect (.rxqEntryAnswer m q) s fun t => (rxq m q t).copy = some (if code = 0 then bs else []) ∧ (rxq m q t).asked = false ∧ MemKept s t) ∧
  (∀ m q s f x code bs, Running s → m < 17 → q < 256 → rxHead m q s = some f → waitingAns (.mac m) (useRxStat f.no) s = some (x, code, bs) →
    Effect (.rxStatusReadAnswer m q) s fun t => MemKept s t ∧
      ((code ≠ 0 ∨ bitOf (leNat bs) 31 = true) → (∀ r ∈ (mac m t).rx, r.no ≠ f.no) ∧ Counted (Reg.MAC_RX_DROP_FULL_CNT m) s t) ∧
      (code = 0 → bitOf (leNat bs) 31 = false → (rxWritten f).length ≤ qeSlotSize f.entry → ∃ r ∈ (mac m t).rx, r.no = f.no ∧ r.stage = 2)) ∧
  (∀ m q s f, Running s → m < 17 → q < 256 → rxHead m q s = some f → f.stage = 2 → unaccepted (.mac m) (useRxData f.no) s = false →
    Effect (.rxFrameWritesAccepted m q) s fun t => (∃ r ∈ (mac m t).rx, r.no = f.no ∧ r.stage = 3) ∧ MemKept s t ∧
      Posted (.mac m) (qeStat f.entry + 32 * (rxq m q s).p) (statusEntry f ((rxq m q s).seq + 1)) s t) ∧
  (∀ m q s f, Running s → m < 17 → q < 256 → rxHead m q s = some f → f.stage = 3 → unaccepted (.mac m) (useRxDone f.no) s = false →
    Effect (.rxStatusWriteAccepted m q) s fun t => (∀ r ∈ (mac m t).rx, r.no ≠ f.no) ∧ Counted (Reg.MAC_RX_FRAMES_CNT m) s t ∧ MemKept s t ∧
      (rd (Reg.MAC_RX_BYTES m) t).toNat = min ((rd (Reg.MAC_RX_BYTES m) s).toNat + (rxWritten f).length) (2 ^ 64 - 1) ∧
      (rxq m q t).p = (if (rxq m q s).resetP ∨ (rxq m q s).p = qeSlots f.entry then 0 else (rxq m q s).p + 1)) ∧
  (∀ src m q s, Running s → m < 17 → q < 256 → Open src (Reg.MAC_RXQ_RESET m) false true q s →
    Effect (.macRxqReset src m q) s fun t => t.csr.respCode = 0 ∧ MemKept s t ∧
      (rxHead m q s = none → (rxq m q t).p = 0 ∧ (rxq m q t).seq = 0) ∧ ((rxHead m q s).isSome = true → (rxq m q t).resetP = true)) ∧
  (∀ m pfc mask none0 s, Running s → m < 17 → mask < 256 → macUp m s = true → flagOn (Reg.MAC_CFG m) 19 s = true →
    Effect (.pauseFrameReceived m pfc mask none0) s fun t => Counted (Reg.MAC_RX_PAUSE_CNT m) s t ∧ MemKept s t ∧
      ((flagOn (Reg.MAC_PAUSE_CFG m) 3 s = false ∨ flagOn (Reg.MAC_STATUS m) 5 s = false) → t.mac = s.mac) ∧
      (flagOn (Reg.MAC_PAUSE_CFG m) 3 s = true → flagOn (Reg.MAC_STATUS m) 5 s = true → flagOn (Reg.MAC_PAUSE_CFG m) 5 s = pfc →
        (pfc = false → none0 = 0 → ∀ q, q < 8 → (mac m t).held.testBit q = true) ∧
        (pfc = false → none0 = 0 → flagOn (Reg.MAC_PAUSE_CFG m) 6 s = false → (mac m t).held.testBit 8 = true) ∧
        (pfc = false → none0 ≠ 0 → (mac m t).held = 0) ∧
        (pfc = true → ∀ q, q < 8 → (mac m t).held.testBit q = (((mac m s).held.testBit q || mask.testBit q) && !(none0.testBit q))))) ∧
  (∀ m mask s, Running s → m < 17 → mask < 512 →
    Effect (.pauseTimerEnd m mask) s fun t => (∀ q, q < 9 → (mac m t).held.testBit q = ((mac m s).held.testBit q && !(mask.testBit q))) ∧
      MemKept s t) ∧
  ∀ m s, Running s → m < 17 → (mac m s).xoff = true → pauseGen m s = true → fld (Reg.MAC_PAUSE_THR m) 15 0 s * 1024 ≤ rxOccupancy m s →
    Effect (.pauseRepeat m) s fun t => (mac m t).ctl = (mac m s).ctl ++ [pauseFrame m (fld (Reg.MAC_PAUSE_CFG m) 31 16 s) s] ∧ t.csr = s.csr ∧
      MemKept s t

/-- A queue with a descriptor to come reads it; a good descriptor reads its frame; the frame read is ready; the MAC starts the highest-priority
ready frame: MAC Control before the queues; a preemptable frame on the wire is cut for an express one; the end of a frame counts it and its bytes;
accepted completions advance CONS modulo the ring; verification is sent three times and then FAILED, a response makes preemption ACTIVE, and the
gate asserts hold HOLD_ADV steps before its next launch instant; low-power idle is entered, left, and reported for the partner. (R380, R381, R382,
R383, R384, R385, R386, R387, R389) -/
def Obligations.EthernetTransmit : Prop :=
  (∀ m q s, Running s → m < 17 → q < 8 → flagOn (Reg.MAC_CFG m) 18 s = true → flagOn (Reg.MAC_TX_CFG m) q s = true → txProd m q s ≠ txCons m q s →
    txJob m q s = none → macUp m s = true →
    Effect (.txDescriptorRead m q) s fun t => Requests (.mac m) (txBase m q s + 32 * txCons m q s) (.read 32) s t ∧ MemKept s t ∧
      ∃ j, (mac m t).tx = (mac m s).tx ++ [j] ∧ j.q = q ∧ j.idx = txCons m q s ∧ j.stage = 0) ∧
  (∀ m q s x d j, Running s → m < 17 → q < 8 → waitingAns (.mac m) (useTxDesc q) s = some (x, 0, d) → txJob m q s = some j → macUp m s = true →
    j.old = false →
    bitOf (leAt d 0 4) 31 = false → bitsOf (leAt d 0 4) 27 14 = 0 → leAt d 12 4 = 0 → bitOf (leAt d 0 4) 28 = false →
    bitsOf (leAt d 0 4) 13 0 ≤ maxFrame m s + 4 → bitsOf (leAt d 0 4) 13 0 ≠ 0 →
    Effect (.txDescriptorAnswer m q) s fun t => MemKept s t ∧ (∃ g ∈ (mac m t).tx, g.q = q ∧ g.desc = d ∧ g.stage = 1) ∧
      Sent (.mac m) (leAt d 4 6) (.read (min (bitsOf (leAt d 0 4) 13 0) (256 - leAt d 4 6 % 256))) s t) ∧
  (∀ m q s j, Running s → m < 17 → q < 8 → txJob m q s = some j → j.stage = 1 → j.old = false → macUp m s = true →
    answersOf (.mac m) (useTxData q) s ≠ [] →
    unanswered (.mac m) (useTxData q) s = false → firstBad (answersOf (.mac m) (useTxData q) s) = none →
    let bs := (answersOf (.mac m) (useTxData q) s).flatMap (·.2.2)
    bs.length + 4 ≤ frameLimit m bs s →
    Effect (.txFrameReadAnswer m q) s fun t => MemKept s t ∧ ∃ g ∈ (mac m t).tx, g.q = q ∧ g.frame = bs ∧ g.stage = 2) ∧
  (∀ m s, Running s → m < 17 → macUp m s = true → flagOn (Reg.MAC_CFG m) 18 s = true → (mac m s).wire = none →
    flagOn (Reg.MAC_STATUS m) 10 s = false →
    (∀ g ∈ (mac m s).jobs, g.stage ≠ 3) →
    Effect (.txFrameStart m) s fun t => MemKept s t ∧
      (∀ c r, (mac m s).ctl = c :: r → (mac m t).wire = some { kind := 1, q := 0, bytes := framed c } ∧ (mac m t).ctl = r ∧
        Counted (Reg.MAC_TX_PAUSE_CNT m) s t) ∧
      (∀ q j, (mac m s).ctl = [] → (mac m s).mgmt = [] → (mac m s).cut = none → (mac m s).hold = false →
        (upto 8).reverse.find? (fun q => txMay m false q s) = some q → txJob m q s = some j →
        ∃ w, (mac m t).wire = some w ∧ w.kind = 3 ∧ w.q = q ∧ w.frags = 0 ∧ (bitOf (leAt j.desc 0 4) 28 = false → w.bytes = framed j.frame))) ∧
  (∀ m n s w, Running s → m < 17 → (mac m s).wire = some w → preState m s = 2 → w.kind = 3 → flagOn (Reg.MAC_TX_CFG m) (8 + w.q) s = true →
    (mac m s).cut = none → (expressReady m s = true ∨ (mac m s).hold = true) → 64 * (1 + fld (Reg.MAC_PRE_CFG m) 3 2 s) ≤ n →
    w.sent + n + 64 ≤ w.bytes.length →
    Effect (.fragmentPreempt m n) s fun t => (mac m t).wire = none ∧
      (mac m t).cut = some { w with frags := w.frags + 1, sent := w.sent + n } ∧
      Counted (Reg.MAC_PRE_FRAG_TX_CNT m) s t ∧ MemKept s t) ∧
  (∀ m s w, Running s → m < 16 → (mac m s).wire = some w → macLoop m s = false →
    Effect (.txFrameEnd m) s fun t => (mac m t).wire = none ∧ Counted (Reg.MAC_TX_FRAMES_CNT m) s t ∧
      (rd (Reg.MAC_TX_BYTES m) t).toNat = min ((rd (Reg.MAC_TX_BYTES m) s).toNat + w.bytes.length) (2 ^ 64 - 1) ∧ MemKept s t) ∧
  (∀ m q s j, Running s → m < 17 → q < 8 → txJob m q s = some j → j.stage = 4 → unaccepted (.mac m) (useTxDone q) s = false →
    Effect (.txCompletionAccepted m q) s fun t =>
      (j.old = false → txCons m q t = (if txCons m q s = txSize m q s then 0 else txCons m q s + 1) % 2 ^ 16) ∧
      (j.old = true → txCons m q t = txCons m q s) ∧
      txProd m q t = txProd m q s ∧ txJob m q t = none ∧ MemKept s t) ∧
  (∀ m s, Running s → m < 17 → preState m s = 1 →
    Effect (.verifyTimeout m) s (fun t => MemKept s t ∧ ((mac m s).verify < 3 → (mac m t).verify = (mac m s).verify + 1 ∧ preState m t = 1) ∧
      (3 ≤ (mac m s).verify → preState m t = 3)) ∧
    Effect (.verifyResponseReceived m) s fun t => preState m t = 2 ∧ MemKept s t) ∧
  (∀ m s n, Running s → m < 17 → gateOn m s = true → gateNext m s = some n →
    let adv := fld (Reg.MAC_PRE_CFG m) 31 16 s
    adv ≠ 0 → beforeEnd (n - adv) s = true →
    Effect (.holdAssert m) s fun t => (mac m t).hold = true ∧ t.time.steps = max s.time.steps (n - adv) ∧ t.mem = s.mem ∧ t.noc = s.noc) ∧
  (∀ m s, Running s → m < 17 → macUp m s = true → lpiMay m s = true → txReady m s = false → (mac m s).wire = none →
    flagOn (Reg.MAC_STATUS m) 10 s = false →
    Effect (.lpiEntry m) s fun t => flagOn (Reg.MAC_STATUS m) 10 t = true ∧ Counted (Reg.MAC_LPI_TX_CNT m) s t ∧ MemKept s t) ∧
  (∀ m s, Running s → m < 17 → flagOn (Reg.MAC_STATUS m) 10 s = true → txReady m s = true →
    Effect (.lpiWakeDone m) s fun t => flagOn (Reg.MAC_STATUS m) 10 t = false ∧ t.mac = s.mac ∧ MemKept s t) ∧
  ∀ m on s, Running s → m < 17 →
    Effect (.lpiRx m on) s fun t => flagOn (Reg.MAC_STATUS m) 11 t = on ∧ MemKept s t ∧
      (on = true → flagOn (Reg.MAC_STATUS m) 11 s = false → Counted (Reg.MAC_LPI_RX_CNT m) s t)

/-- A write of TIME_INC or TIME_SLEW_INC from 1.249 to 1.251 ns is taken and any other answered SLVERR without effect; a write of TIME_SLEW_CNT
starts or ends a slew; VALID follows its writes, and TIME_LOST is raised when it falls while Rounds run; a load is answered SLVERR while
Rounds run, and otherwise sets the time of day and counts STEP_SEQ; the end of a slew passes its steps. A rising edge on TIME_IN_n is
captured with the input delay of 2.8 ns removed, counted and raises TIME_CAPTURE; one within 1 microsecond of the last is ignored, as are
all while the pin is looped back or in Replay; an armed trigger fires at its target: it counts in FIRED, stays armed only when periodic, and
acts as its configuration selects; a pulse ends low WIDTH steps after its rise. (R393, R394, R396, R397, R401, R402, R403, R510) -/
def Obligations.TimeRegisters : Prop :=
  ((∀ src v s, Running s → v < 2 ^ 64 → Open src Reg.TIME_INC true true v s →
    Effect (.timeIncWrite src v) s fun t => MemKept s t ∧ t.tod = s.tod ∧
      (bitsOf v 35 32 = 1 → 0x3FAE147B ≤ bitsOf v 31 0 → bitsOf v 31 0 ≤ 0x4051EB85 → t.csr.respCode = 0 ∧ rd Reg.TIME_INC t = dw (v % 2 ^ 36)) ∧
      (bitsOf v 35 32 ≠ 1 ∨ bitsOf v 31 0 < 0x3FAE147B ∨ 0x4051EB85 < bitsOf v 31 0 → t.csr.respCode = 1 ∧ t.csr.live = s.csr.live) ∧
      ∀ off, off ≠ Reg.TIME_INC → rd off t = rd off s) ∧
  (∀ src v s, Running s → v < 2 ^ 64 → Open src Reg.TIME_SLEW_INC true true v s →
    Effect (.timeSlewIncWrite src v) s fun t => MemKept s t ∧ t.tod = s.tod ∧
      (bitsOf v 35 32 = 1 → 0x3FAE147B ≤ bitsOf v 31 0 → bitsOf v 31 0 ≤ 0x4051EB85 →
        t.csr.respCode = 0 ∧ rd Reg.TIME_SLEW_INC t = dw (v % 2 ^ 36)) ∧
      (bitsOf v 35 32 ≠ 1 ∨ bitsOf v 31 0 < 0x3FAE147B ∨ 0x4051EB85 < bitsOf v 31 0 → t.csr.respCode = 1 ∧ t.csr.live = s.csr.live) ∧
      ∀ off, off ≠ Reg.TIME_SLEW_INC → rd off t = rd off s) ∧
  (∀ src v s, Running s → v < 2 ^ 64 → Open src Reg.TIME_SLEW_CNT false true v s →
    Effect (.timeSlewCntWrite src v) s fun t => MemKept s t ∧ t.csr.respCode = 0 ∧ t.tod = s.tod ∧
      rd Reg.TIME_SLEW_CNT t = dw (v % 2 ^ 32) ∧ flagOn Reg.TIME_STATUS 1 t = decide (v % 2 ^ 32 ≠ 0)) ∧
  (∀ src on s, Running s → Open src Reg.TIME_CTRL false true (b2n on) s →
    Effect (.timeValidWrite src on) s fun t => MemKept s t ∧ t.csr.respCode = 0 ∧ t.tod = s.tod ∧ flagOn Reg.TIME_STATUS 0 t = on ∧
      flagOn Reg.TIME_CTRL 0 t = on ∧
      (flagOn Reg.TIME_CTRL 0 s = true → on = false → roundsRun s = true → flagOn Reg.TIME_EVT_STATUS 3 t = true ∧ Raised 0x024 0 s t) ∧
      ((flagOn Reg.TIME_CTRL 0 s = false ∨ on = true ∨ roundsRun s = false) → t.evt = s.evt)) ∧
  (∀ src valid s, Running s → Open src Reg.TIME_CTRL false true (2 + b2n valid) s →
    Effect (.timeLoad src valid) s fun t => MemKept s t ∧
      (roundsRun s = true → t.csr.respCode = 1 ∧ t.tod = s.tod ∧ t.csr.live = s.csr.live) ∧
      (roundsRun s = false → t.csr.respCode = 0 ∧ stepSeq t = (stepSeq s + 1) % 4 ∧ flagOn Reg.TIME_STATUS 0 t = valid ∧
        t.tod = (bitsOf (rd Reg.TIME_LOAD_SEC s).toNat 47 0 * 1000000000 + bitsOf (rd Reg.TIME_LOAD_SUB s).toNat 31 0) * nsUnit +
          bitsOf (rd Reg.TIME_LOAD_SUB s).toNat 47 32 * 65536)) ∧
  ∀ s, Running s → rd Reg.TIME_SLEW_CNT s ≠ 0 → room (rd Reg.TIME_SLEW_CNT s).toNat s = true →
    Effect .slewEnd s fun t => t.mem = s.mem ∧ t.tod = s.tod + (rd Reg.TIME_SLEW_CNT s).toNat * max 1 (rd Reg.TIME_SLEW_INC s).toNat ∧
      rd Reg.TIME_SLEW_CNT t = 0 ∧ flagOn Reg.TIME_STATUS 1 t = false ∧
        ∀ off, off ≠ Reg.TIME_SLEW_CNT → off ≠ Reg.TIME_STATUS → rd off t = rd off s) ∧
  ((∀ n s, Running s → n < 2 →
    let x := s.tod - 28 * nsUnit / 10
    let last := tabGet (fun _ => 0) s.time.edges n
    Effect (.timeCapture n) s fun t => MemKept s t ∧
      (flagOn Reg.SPARE_LOOP_TIME n s = false → inReplay s = false → (last = 0 ∨ x < last ∨ last + 1000 * nsUnit ≤ x) →
        rd (Reg.TIME_CAP_SEC n) t = dw (todSec x % 2 ^ 48) ∧ rd (Reg.TIME_CAP_SUB n) t = subWord x s ∧ Counted (Reg.TIME_CAP_CNT n) s t ∧
        flagOn Reg.TIME_EVT_STATUS 2 t = true ∧ Noted 0x023 n s t ∧ t.tod = s.tod) ∧
      ((flagOn Reg.SPARE_LOOP_TIME n s = true ∨ inReplay s = true ∨ (last ≠ 0 ∧ last ≤ x ∧ x < last + 1000 * nsUnit)) → t = s)) ∧
  (∀ n s, Running s → n < 16 →
    Effect (.timeTrig n) s fun t => t.mem = s.mem ∧ (trigArmed n s = false ∨ reaches (trig n s).target s = false → t = s) ∧
      (trigArmed n s = true → reaches (trig n s).target s = true →
        t.tod = (advanceTo (trig n s).target s).tod ∧ (trig n s).target ≤ t.tod ∧ s.tod ≤ t.tod ∧
        fld (Reg.TIME_TRIG_STATUS n) 31 16 t = (fld (Reg.TIME_TRIG_STATUS n) 31 16 s + 1) % 65536 ∧
        flagOn (Reg.TIME_TRIG_STATUS n) 0 t = trigPeriodic n s ∧ flagOn (Reg.TIME_TRIG_STATUS n) 1 t = false ∧
        (trigPeriodic n s = true → (trig n t).target = (trig n s).target + trigPeriod n s) ∧
        (flagOn (Reg.TIME_TRIG_CFG n) 24 s = true → Noted 0x020 ((fld (Reg.TIME_TRIG_STATUS n) 31 16 s + 1) % 65536 * 65536 + n) s t) ∧
        (flagOn (Reg.TIME_TRIG_CFG n) 25 s = true → n < 4 →
          (trig n t).pulse = true ∧ (trig n t).fall = t.time.steps + max 1 (fld (Reg.TIME_TRIG_CFG n) 15 0 s)))) ∧
  ∀ n s, Running s → n < 4 → (trig n s).pulse = true →
    let d := (trig n s).fall - s.time.steps
    (d = 0 ∨ room d s = true) →
    Effect (.timeOutPulseEnd n) s fun t => (trig n t).pulse = false ∧ (trig n t).target = (trig n s).target ∧ t.mem = s.mem ∧ s.tod ≤ t.tod ∧
      t.time.steps = max s.time.steps (trig n s).fall ∧ ∀ off, off ≠ Reg.TIME_SLEW_CNT → off ≠ Reg.TIME_STATUS → rd off t = rd off s)

/-- A read of TIME_NOW_SEC returns the seconds of the current step and captures the whole time of day for its reader; that reader's next read of
TIME_NOW_SUB returns the captured remainder and uses it up; with no capture it returns the current one; no other initiator's capture is
touched. (R395) -/
def Obligations.TimeOfDayReads : Prop :=
  (∀ src s, Running s → Open src Reg.TIME_NOW_SEC true false 0 s →
    Effect (.timeNowSecRead src) s fun t => MemKept s t ∧ t.csr.respCode = 0 ∧ t.csr.respData = dw (todSec s.tod % 2 ^ 48) ∧ t.csr.live = s.csr.live ∧
      t.tod = s.tod ∧ (∀ x, x ≠ src → tabGet (fun _ => 0) t.time.held x = tabGet (fun _ => 0) s.time.held x) ∧
      ∀ u, Running u → Open src Reg.TIME_NOW_SUB true false 0 u → tabGet (fun _ => 0) u.time.held src = tabGet (fun _ => 0) t.time.held src →
        Effect (.timeNowSubRead src) u fun v => v.csr.respCode = 0 ∧ v.csr.respData = subWord s.tod s ∧ tabGet (fun _ => 0) v.time.held src = 0) ∧
  ∀ src s, Running s → Open src Reg.TIME_NOW_SUB true false 0 s →
    Effect (.timeNowSubRead src) s fun t => MemKept s t ∧ t.csr.respCode = 0 ∧ t.csr.live = s.csr.live ∧ t.tod = s.tod ∧
      tabGet (fun _ => 0) t.time.held src = 0 ∧ (∀ x, x ≠ src → tabGet (fun _ => 0) t.time.held x = tabGet (fun _ => 0) s.time.held x) ∧
      (tabGet (fun _ => 0) s.time.held src = 0 → t.csr.respData = subWord s.tod s)

/-- A probe leaves a SILENT pair; a probe received makes it PROBE; PROBE ends at the baud that gives the greatest sum of both directions' rates
(the group's where one is in use), with the orders both partners chose and the SNR recorded, in ECTRAIN; ECTRAIN ends in EXCHANGE at an echo
of -60 dB, or of -50 dB after 8 ms, and else fails; EXCHANGE ends in DATA; timeouts, loss of signal, FEC failure and RESTART return the pair
to SILENT with their causes; LPI is entered in either direction; a refresh burst leaves a pair in LPI. (R412, R413, R414, R415, R416, R417,
R433) -/
def Obligations.LinePairBringUp : Prop :=
  (∀ p s, Running s → p < 16 → inReplay s = false → pairState p s = 1 →
    Effect (.silentProbe p) s fun t => (pair p t).sent = 1 ∧ t.csr = s.csr ∧ MemKept s t) ∧
  (∀ p s, Running s → p < 16 → inReplay s = false → pairState p s = 1 → Effect (.probeReceived p) s fun t => pairState p t = 2 ∧ MemKept s t) ∧
  (∀ p snr theirs s, Running s → p < 16 → inReplay s = false → pairState p s = 2 →
    let g := pairGroup p s
    let mine := fun b : Nat => pamFor g (snr.getD b 0) s
    let good := fun b : Nat => mine b ≠ 0 ∧ min 3 (theirs.getD b 0) ≠ 0
    let rate := fun b : Nat => mbaud b * (mine b + 1 + (min 3 (theirs.getD b 0) + 1))
    Effect (.probeComplete p snr theirs) s fun t => MemKept s t ∧
      ∀ b, (grpBaud g s = some b ∧ good b ∨
          grpBaud g s = none ∧ b ≤ grpMaxBaud g s ∧ good b ∧ ∀ c, c ≤ grpMaxBaud g s → good c → c ≠ b → rate c < rate b ∨ (rate c = rate b ∧ b < c)) →
        pairState p t = 3 ∧ fld (Reg.LINE_PAIR_STATUS p) 14 12 t = b ∧ fld (Reg.LINE_PAIR_STATUS p) 11 10 t = mine b - 1 ∧
        fld (Reg.LINE_PAIR_STATUS p) 9 8 t = min 3 (theirs.getD b 0) - 1 ∧ rd (Reg.LINE_PAIR_SNR p) t = dw (snr.getD b 0 % 65536)) ∧
  (∀ p s, Running s → p < 16 → inReplay s = false → pairState p s = 2 → Effect (.probeTimeout p) s fun t => Silenced p 1 s t ∧ MemKept s t) ∧
  (∀ p s, Running s → p < 16 → inReplay s = false → pairState p s = 3 → Effect (.ectrainTimeout p) s fun t => Silenced p 2 s t ∧ MemKept s t) ∧
  (∀ p s, Running s → p < 16 → inReplay s = false → pairState p s = 4 → Effect (.exchangeTimeout p) s fun t => Silenced p 3 s t ∧ MemKept s t) ∧
  (∀ p echo s, Running s → p < 16 → inReplay s = false → pairState p s = 3 → 60 ≤ echo →
    Effect (.ectrainComplete p echo) s fun t => pairState p t = 4 ∧ fld (Reg.LINE_PAIR_STATUS p) 31 24 t = min 255 echo ∧ MemKept s t) ∧
  (∀ p echo s, Running s → p < 16 → inReplay s = false → pairState p s = 3 →
    Effect (.echoCheck8ms p echo) s fun t => MemKept s t ∧ (50 ≤ echo → pairState p t = 4 ∧ fld (Reg.LINE_PAIR_STATUS p) 31 24 t = min 255 echo) ∧
      (echo < 50 → Silenced p 2 s t)) ∧
  (∀ p s, Running s → p < 16 → inReplay s = false → pairState p s = 4 →
    Effect (.exchangeComplete p) s fun t => pairState p t = 5 ∧ MemKept s t ∧
      ((pair p s).raised.contains 0 = false → flagOn Reg.LINE_EVT_STATUS 0 t = true)) ∧
  (∀ p s, Running s → p < 16 → inReplay s = false → pairCarries p s = true →
    Effect (.lineSignalLoss p) s (fun t => Silenced p 4 s t ∧ MemKept s t) ∧ Effect (.fecFail p) s (fun t => Silenced p 5 s t ∧ MemKept s t) ∧
    Effect (.lineLpiEntry p true) s (fun t => (pair p t).rxLpi = true ∧ (pair p t).qual = 0 ∧ pairDet p t = 0 ∧ pairState p t = pairState p s ∧
      MemKept s t)) ∧
  (∀ src p s, Running s → p < 16 → Open src (Reg.LINE_PAIR_CTRL p) false true 1 s →
    Effect (.linePairRestart src p) s fun t => t.csr.respCode = 0 ∧ MemKept s t ∧ (pairState p s ≠ 0 → Silenced p 7 s t) ∧
      (pairState p s = 0 → t.csr.live = s.csr.live ∧ t.line = s.line)) ∧
  (∀ p s, Running s → p < 16 → inReplay s = false → pairState p s = 5 → (mac 16 s).wire = none →
    flagOn (Reg.LINE_GRP_CFG (pairGroup p s)) 8 s = true →
    Effect (.lineLpiEntry p false) s fun t => pairState p t = 6 ∧ MemKept s t) ∧
  ∀ p s, Running s → p < 16 → inReplay s = false → pairState p s = 6 → (pair p s).left = false →
    Effect (.refreshBurst p) s fun t => (pair p t).sent = 2 ∧ (pair p t).out = burstBare p 0 s ∧ t.csr = s.csr ∧ MemKept s t

/-- QUIET ends in ACQUIRE when the energy of eight symbols reaches LINE_DET_THRESH; the early test, at the alignment of the greatest correlation,
and the full test go on at their correlation thresholds and reject below them (where every symbol is zero rho has no value, log 66); a rise by
REARM_DB reacquires; a delimiter with a wrong complement is rejected, one of another pair counted and taken as foreign, LEAVE silences the pair, and
else the burst is received; a stronger burst captures the receiver outside Epoch A; the end of a burst returns to QUIET, or to continuous reception
after KIND 2; HOLDOFF ends 3 dB below the threshold or at a rise; codewords reach reassembly or are counted uncorrectable. (R417, R418, R420, R421,
R422, R423, R424, R425) -/
def Obligations.LineBursts : Prop :=
  (∀ p x s, Running s → p < 16 → detIn p 0 s = true →
    Effect (.energyDetect p x) s fun t => MemKept s t ∧ (atThresh (energy8 x) 0 s = false → t = s) ∧
      (atThresh (energy8 x) 0 s = true → Acquires p (energy8 x) t ∧ Counted (Reg.LINE_DET_CNT p) s t)) ∧
  (∀ p before after x s, Running s → p < 16 → detIn p 1 s = true → (pair p s).qual = 0 →
    Effect (.earlyTest p before after x) s fun t => MemKept s t ∧
      let r := before ++ after
      ∃ b, b ≤ 16 ∧
      (∀ i, i ≤ 16 → (corr 32 (r.drop i)).1 * (corr 32 (r.drop b)).2 ≤ (corr 32 (r.drop b)).1 * (corr 32 (r.drop i)).2) ∧
      let c := corr 32 (r.drop b)
      let thr := fld Reg.LINE_DET_CFG 15 8 s
      c.2 ≠ 0 → (c.1 * 65536 < thr * thr * c.2 → Rejects p (energy8 x) s t) ∧
        (thr * thr * c.2 ≤ c.1 * 65536 → (pair p t).start = Int.ofNat b - 16 ∧ (pair p t).qual = 1 ∧ t.csr = s.csr)) ∧
  (∀ p r x s, Running s → p < 16 → detIn p 1 s = true → (pair p s).qual = 1 →
    let c := corr 64 r
    let thr := fld Reg.LINE_DET_CFG 7 0 s
    Effect (.fullTest p r x) s fun t => MemKept s t ∧ (c.2 ≠ 0 → (c.1 * 65536 < thr * thr * c.2 → Rejects p (energy8 x) s t) ∧
      (thr * thr * c.2 ≤ c.1 * 65536 →
        (rose (pair p s).e0 (energy8 x) (rearmDb s) = true → Acquires p (energy8 x) t ∧ Counted (Reg.LINE_REACQ_CNT p) s t) ∧
        (rose (pair p s).e0 (energy8 x) (rearmDb s) = false →
          (pair p t).qual = 2 ∧ (pair p t).pRef = power16 (r.drop 48) ∧ t.csr = s.csr)))) ∧
  (∀ p d inv x s, Running s → p < 16 → detIn p 1 s = true → (pair p s).qual = 2 →
    Effect (.delimiterCheck p d inv x) s fun t => MemKept s t ∧ (inv ≠ ~~~d → Rejects p (energy8 x) s t) ∧
      (inv = ~~~d →
        ((bitsOf d.toNat 3 0 ≠ p ∨ bitsOf d.toNat 5 4 ≠ pairGroup p s) →
          pairDet p t = 2 ∧ (pair p t).foreign = true ∧ Counted (Reg.LINE_ID_CNT p) s t) ∧
        (bitsOf d.toNat 3 0 = p → bitsOf d.toNat 5 4 = pairGroup p s →
          (bitsOf d.toNat 7 6 = 3 → Silenced p 6 s t) ∧
          (bitsOf d.toNat 7 6 ≠ 3 → pairDet p t = 2 ∧ (pair p t).foreign = false ∧ (pair p t).kind = bitsOf d.toNat 7 6)))) ∧
  (∀ p x s, Running s → p < 16 → detIn p 1 s = true → (pair p s).qual < 2 → rose (pair p s).e0 (energy8 x) (rearmDb s) = true →
    Effect (.reacquire p x) s fun t => Acquires p (energy8 x) t ∧ Counted (Reg.LINE_REACQ_CNT p) s t ∧ MemKept s t) ∧
  (∀ p r x s, Running s → p < 16 → detIn p 2 s = true → rose (pair p s).pRef (power16 r) (captureDb s) = true →
    Effect (.capture p r x) s fun t => MemKept s t ∧ (epochA s = true → t = s) ∧
      (epochA s = false → Acquires p (energy8 x) t ∧ Counted (Reg.LINE_CAPTURE_CNT p) s t)) ∧
  (∀ p s, Running s → p < 16 → detIn p 2 s = true →
    Effect (.burstEnd p) s fun t => MemKept s t ∧ pairDet p t = 0 ∧ Counted (Reg.LINE_BURST_CNT p) s t ∧ (pair p t).foreign = false ∧
      (pair p t).rxLpi = ((pair p s).foreign || decide ((pair p s).kind ≠ 2))) ∧
  (∀ p x s, Running s → p < 16 → detIn p 3 s = true →
    Effect (.holdoffExit p x) s fun t => MemKept s t ∧ (atThresh (energy8 x) 12 s = false → pairDet p t = 0) ∧
      (atThresh (energy8 x) 12 s = true → rose (pair p s).eFail (energy8 x) (rearmDb s) = true → Acquires p (energy8 x) t) ∧
      (atThresh (energy8 x) 12 s = true → rose (pair p s).eFail (energy8 x) (rearmDb s) = false → t = s)) ∧
  ∀ p ok s, Running s → p < 16 → pairDelivers p s = true →
    Effect (.codewordReceived p ok) s fun t => MemKept s t ∧ (ok = true → (pair p t).bytes = (pair p s).bytes + 239 ∧ t.csr = s.csr) ∧
      (ok = false → Counted (Reg.LINE_CW_UNCORR_CNT p) s t ∧ t.line = s.line)

/-- The next fragment of the frame on MAC_16 leaves on the pair on which it finishes first, or that of the time frames, with the next sequence
number, the first with the frame's timestamp; a fragment received is counted, out of its window or twice it is discarded and counted, in order it
joins the frame in assembly, and LEAVE silences its pair; after the reassembly timeout the gap is passed over and counted, and LINE_REASM_ERR raised
once a Round. (R427, R428, R429, R430) -/
def Obligations.LineFragments : Prop :=
  (∀ p cont s w, Running s → p < 16 → (mac 16 s).wire = some w → pairSends p s = true → s.line.txOff < w.bytes.length →
    fragPair w s.line.txOff s = some p →
    Effect (.fragmentSend p cont) s fun t => MemKept s t ∧ t.line.txSeq = (s.line.txSeq + 1) % 16384 ∧ (pair p t).sent = 3 ∧
      Counted Reg.LINE_FRAG_TX_CNT s t ∧
      ((w.kind = 3 → w.q = 7 → timePair s = some p) ∧ (s.line.txOff = 0 → w.kind = 3 → ∀ j, txJob 16 w.q s = some j →
        ∃ g, txJob 16 w.q t = some g ∧ g.stage = 3 ∧ g.stamp = tsCorrect 16 true (lineConst p true s) s.tod s)) ∧
      (¬(w.kind = 3 ∧ w.q = 7) → (s.line.txOff ≠ 0 ∨ w.kind ≠ 3) →
        t.line.txOff = min w.bytes.length (s.line.txOff + 64 * (1 + fld Reg.LINE_CFG 10 8 s))) ∧
      (cont = true → pairState p s = 6 → pairState p t = 5) ∧ (cont = false → pairState p t = pairState p s)) ∧
  (∀ p hdr bs back s, Running s → p < 16 → pairDelivers p s = true → pairLoop p s = 0 → 4 + bs.length ≤ (pair p s).bytes →
    bs.length = bitsOf hdr 15 0 → hdr ≠ 0 → bs.length ≤ 9224 →
    Effect (.fragmentReceived p hdr bs back) s fun t => MemKept s t ∧
      (bs.length = 0 → bitsOf hdr 31 30 = 3 → Silenced p 6 s t) ∧
      (bs.length = 0 → bitsOf hdr 31 30 ≠ 3 → Counted Reg.LINE_FRAG_RX_CNT s t ∧ Counted Reg.LINE_REASM_ERR_CNT s t) ∧
      (bs.length ≠ 0 → Counted Reg.LINE_FRAG_RX_CNT s t ∧
        ((s.line.held.any (fun f => f.seq == bitsOf hdr 29 16) = true ∨ 8192 ≤ (bitsOf hdr 29 16 + 16384 - s.line.rxSeq) % 16384) →
          Counted Reg.LINE_REASM_ERR_CNT s t ∧ t.line.held = s.line.held ∧ t.line.rxSeq = s.line.rxSeq) ∧
        (s.line.held = [] → s.line.rxSeq = bitsOf hdr 29 16 →
          t.line.held = [] ∧ t.line.rxSeq = (s.line.rxSeq + 1) % 16384 ∧
          (bitOf hdr 31 = true → bitOf hdr 30 = false → ∃ x, t.line.asm = some (bs, x)) ∧
          (bitOf hdr 31 = false → bitOf hdr 30 = false → s.line.skip = false →
            ∀ a, s.line.asm = some a → t.line.asm = some (a.1 ++ bs, a.2))))) ∧
  ∀ s, Running s →
    Effect .reassemblyTimeout s fun t => MemKept s t ∧ (s.line.held = [] → t = s) ∧
      (∀ f, s.line.held = [f] → f.seq < 16384 → s.line.rxSeq < 16384 →
        Counted Reg.LINE_REASM_ERR_CNT s t ∧ t.line.held = [] ∧ t.line.rxSeq = (f.seq + 1) % 16384 ∧ (f.sof = false → t.line.asm = none) ∧
        (s.line.reasm = false → flagOn Reg.LINE_EVT_STATUS 4 t = true ∧ Noted 0x224 0 s t))

/-- The Starter tries the slot the boot record names first: accepted, SEC_BOOT_STATUS says so and names the slot, as DEV_STATUS does, and
SEC_BOOT_DONE is raised; rejected, its cause is noted and the other slot is tried, whose acceptance also sets FALLBACK; with both rejected
the module enters recovery with the causes noted, HOST_MODE 2 and FAULT; a PLL that fails to lock leads to Standby. (R435, R440, R443, R444,
R485) -/
def Obligations.StarterRuns : Prop :=
  ∀ pll nor bad s, StarterDue s → Effect (.starterRun pll nor bad) s fun t =>
    let u := starterFrom s
    let p := (bootRecord u).2.2
    let a := slotTry p nor bad bad u
    let b := slotTry (1 - p) nor bad (bad / 16) (noteCause p a.1 a.2)
    (pll = true → flagOn Reg.PWR_FAULT 0 t = true ∧ t.pwr.target = 2 ∧ t.pwr.phase = 2) ∧
    (pll = false → a.1 = 0 → fld Reg.SEC_BOOT_STATUS 1 0 t = 1 + 2 * p ∧ fld Reg.DEV_STATUS 2 2 t = p ∧ flagOn Reg.SEC_EVT_STATUS 0 t = true) ∧
    (pll = false → a.1 ≠ 0 → b.1 = 0 → fld Reg.SEC_BOOT_STATUS 1 0 t = 1 + 2 * (1 - p) ∧ fld Reg.DEV_STATUS 2 2 t = 1 - p ∧
      flagOn Reg.SEC_BOOT_STATUS 2 t = true ∧ flagOn Reg.SEC_EVT_STATUS 1 t = true) ∧
    (pll = false → a.1 ≠ 0 → b.1 ≠ 0 → recovering t = true ∧ flagOn Reg.SEC_BOOT_STATUS 0 t = false ∧ fld Reg.SEC_HOST_POLICY 1 0 t = 2 ∧
      flagOn Reg.DEV_STATUS 3 t = true ∧ fld Reg.SEC_BOOT_STATUS (19 + 4 * p) (16 + 4 * p) t = a.1 ∧
      fld Reg.SEC_BOOT_STATUS (19 + 4 * (1 - p)) (16 + 4 * (1 - p)) t = b.1)

/-- If the Starter reports an accepted image, some slot of the flash whose reads succeed holds an image with a good signature by a fused,
enabled and unrevoked key, and an SVN not below the fused one. (R438, R439, R440, R443) -/
def Obligations.OnlySignedImagesRun : Prop :=
  ∀ pll nor bad s t, StarterDue s → exec (.starterRun pll nor bad) s = .next t → flagOn Reg.SEC_BOOT_STATUS 0 t = true →
    ∃ slot, slot < 2 ∧ nor.testBit slot = false ∧ ImageSigned slot s

/-- An access the host mode forbids is counted and raised, and a read of it ends in Completer Abort; in Standby all but the open registers
answers as a sleeping domain; an allowed register access goes into the fabric; a completion at the link answers its host-window request; a
function-level reset clears Bus Master Enable and returns the MSI-X registers and PCIE_FWIN_BASE to reset, a reset signal takes the link
down too; the link state, its loss and its change are recorded; Bus Master Enable follows the host. (R446, R447, R448, R449, R450, R463,
R473, R474) -/
def Obligations.HostInterface : Prop :=
  (∀ csr off data len s, Running s → (∀ x ∈ s.noc.txns, x.agent = .host → x.ans = none) →
    let n := match data with | some bs => bs.length | none => len
    let open' := csr && hostOpen (off % 0x8000000)
    Effect (.hostAccess csr off data len) s fun t => MemKept s t ∧
      (flagOn Reg.PCIE_LINK_STATUS 16 s = false → t = s) ∧
      (flagOn Reg.PCIE_LINK_STATUS 16 s = true → hostAllowed csr off data.isSome n s = false →
        Counted Reg.PCIE_HOST_REFUSED_CNT s t ∧ flagOn Reg.PCIE_EVT_STATUS 1 t = true ∧ Raised 0x049 0 s t ∧ t.noc = s.noc ∧
        (data = none → t.sec.hostCpl = some (2, []))) ∧
      (flagOn Reg.PCIE_LINK_STATUS 16 s = true → hostAllowed csr off data.isSome n s = true → devState s = 2 → open' = false → data = none →
        t.sec.hostCpl = some (2, []) ∧ t.noc = s.noc) ∧
      (flagOn Reg.PCIE_LINK_STATUS 16 s = true → hostAllowed csr off data.isSome n s = true → (devState s ≠ 2 ∨ open' = true) → csr = true →
        (data = none → Sent .host (0x40000000 + off % 0x10000000) (.read len) s t) ∧
        (∀ bs, data = some bs → flagOn Reg.REC_SRC 4 s = false →
          originCode (srcOf .host s) 0 (0x40000000 + off % 0x10000000) (.write bs) s = none →
          ∃ y ∈ t.noc.txns, y.agent = .host ∧ y.cls = 0 ∧ y.addr = 0x40000000 + off % 0x10000000 ∧ y.body = .write bs ∧ y.posted = true)) ∧
      (flagOn Reg.PCIE_LINK_STATUS 16 s = true → hostAllowed csr off data.isSome n s = true → devState s ≠ 2 → csr = false → data = none →
        ∀ q ∈ piecesOf (hostAddr false off s) len, ∃ y ∈ t.noc.txns, y.agent = .host ∧ y.addr = q.1 ∧ y.body = .read q.2 ∧ y.posted = false)) ∧
  (∀ id outcome data s x, Running s → txnOf id s = some x → x.stage = .accepted → inHostWindow x.addr = true →
    Effect (.hostWindowCompletion id outcome data) s fun t => MemKept s t ∧
      (∀ len, x.body = .read len → replayHost s = false → flagOn Reg.REC_SRC 4 s = false →
        (outcome = 0 → data.length = len → Answered id 0 data s t) ∧ (outcome = 1 → Answered id 2 [] s t) ∧ (outcome = 2 → Answered id 1 [] s t) ∧
        (3 ≤ outcome → Answered id 3 [] s t)) ∧
      (∀ bs, x.body = .write bs → x.posted = false →
        Answered id (if outcome = 0 then 0 else if outcome = 1 then 2 else if outcome = 2 then 1 else 3) [] s t)) ∧
  (∀ s, Running s →
    Effect .functionLevelReset s fun t => MemKept s t ∧ t.sec.bme = false ∧
      (∀ o, 0xE10000 ≤ o → o < 0xE18100 → rd o t = resetOf o) ∧ rd Reg.PCIE_FWIN_BASE t = resetOf Reg.PCIE_FWIN_BASE ∧
      ∀ o, (o < 0xE10000 ∨ 0xE18100 ≤ o) → (o < Reg.PCIE_FWIN_BASE ∨ Reg.PCIE_FWIN_BASE + 8 ≤ o) → rd o t = rd o s) ∧
  (∀ s, Running s →
    Effect .pcieResetSignal s fun t => MemKept s t ∧ t.sec.bme = false ∧ rd Reg.PCIE_LINK_STATUS t = 0 ∧
      (∀ o, 0xE10000 ≤ o → o < 0xE18100 → rd o t = resetOf o) ∧ rd Reg.PCIE_FWIN_BASE t = resetOf Reg.PCIE_FWIN_BASE ∧
      (flagOn Reg.PCIE_LINK_STATUS 16 s = true → Counted Reg.PCIE_LINK_DOWN_CNT s t ∧ Raised 0x048 0 s t)) ∧
  (∀ up gen width flit s, Running s →
    let top := if fld Reg.PWR_STATUS 10 8 s = 4 then max 1 (fld Reg.PWR_SHED_CFG 10 8 s) else 7
    Effect (.pcieLink up gen width flit) s fun t => MemKept s t ∧ flagOn Reg.PCIE_LINK_STATUS 16 t = up ∧
      (up = true → fld Reg.PCIE_LINK_STATUS 2 0 t = min (gen % 8) top ∧ fld Reg.PCIE_LINK_STATUS 12 8 t = width % 32 ∧
        flagOn Reg.PCIE_LINK_STATUS 15 t = flit) ∧
      (up = false → rd Reg.PCIE_LINK_STATUS t = 0) ∧
      (flagOn Reg.PCIE_LINK_STATUS 16 s = true → up = false → Counted Reg.PCIE_LINK_DOWN_CNT s t) ∧
      (flagOn Reg.PCIE_LINK_STATUS 16 s ≠ up → flagOn Reg.PCIE_EVT_STATUS 0 t = true ∧ Raised 0x048 0 s t) ∧
      (flagOn Reg.PCIE_LINK_STATUS 16 s = up → t.evt = s.evt)) ∧
  ∀ on s, Running s →
    Effect (.busMasterEnable on) s fun t => t.csr = s.csr ∧ MemKept s t ∧
      (flagOn Reg.PCIE_LINK_STATUS 16 s = true → t.sec.bme = on) ∧ (flagOn Reg.PCIE_LINK_STATUS 16 s = false → t = s)

/-- A status, register, counter, attestation or attestation key command that passes the checks is counted and answered DONE with its data;
GET_ATTEST_CERT starts the read of the certificate area, whose end answers it; a command too short for a header is answered FORMAT, and an
unknown one OPCODE. (R452, R455, R459, R461, R462) -/
def Obligations.SecurityQueries : Prop :=
  Query .getStatus 1 (fun _ u => leBytes 4 (regNow Reg.DEV_STATUS u) ++ leBytes 4 (regNow Reg.SEC_BOOT_STATUS u) ++
      leBytes 4 (regNow Reg.SEC_FUSE_POLICY u) ++ leBytes 4 (regNow Reg.ROUND_STATUS u) ++ leBytes 8 (roundNow u)) ∧
  Query .readRegs 2 (fun p u => (readWords ((upto (p.length / 4)).map fun i => leAt p (4 * i) 4) u).1) ∧
  Query .getCounter 3 (fun p u => leBytes 8 (keyCounter (leAt p 0 4) u)) ∧
  Query .attest 4 (fun p u => attestReport p u ++ fitBytes 2420 (Config.mldsaSign (attestSeed u) (sha3 (attestReport p u)) "CALYMIN-ATTEST")) ∧
  Query .getAttestKey 5 (fun _ u => fitBytes 1312 (Config.mldsaPublic (attestSeed u))) ∧
  (∀ src f bs s, Running s → Offered src 6 f bs s → Effect (.getAttestCert src) s fun t =>
    t.sec.proc = some ⟨1, f, bs, none⟩ ∧ Counted Reg.SEC_CMD_OK_CNT s t ∧ MemKept s t) ∧
  (∀ s c, Running s → s.sec.proc = some c → c.kind = 1 → s.sec.bootWrite = none → leAt (cmdPayload c.bytes) 4 4 ≤ 4032 →
    Effect .certReadDone s fun t => t.sec.proc = none ∧ MemKept s t ∧
      Responds c.src (cmdOp c.bytes) 1 (roundNow s) (norRead (0x20000 + leAt (cmdPayload c.bytes) 0 4) (leAt (cmdPayload c.bytes) 4 4) s) s t) ∧
  ∀ src f n bs st cnt s, Running s → Failing src f n bs st cnt s → (n < 32 ∨ cmdKnown (cmdOp bs) = false) →
    Effect (.badOpcode src) s fun t => Responds f (cmdOp bs) st (roundNow s) [] s t ∧ Counted cnt s t ∧ t.sec.proc = none ∧ MemKept s t ∧
      (s.pwr.eject < 2 → inReplay s = false → n < 32 → st = 0x10 ∧ cnt = Reg.SEC_REJECT_CNT) ∧
      (s.pwr.eject < 2 → inReplay s = false → 32 ≤ n → formatOk n bs s = true → st = 0x11 ∧ cnt = Reg.SEC_REJECT_CNT)

/-- Each critical command that passes steps 1 to 8 waits for its journal record with its target resolved, and changes nothing else; one whose
tag is wrong is answered TAG and counted, one whose counter is not above its key's last STALE and counted, and SEC_CMD_REJECT is raised.
(R453, R454, R455, R456, R457, R459) -/
def Obligations.CriticalCommands : Prop :=
  Critical .writeRegs 0x8001 ∧ Critical .switchImage 0x8002 ∧ Critical .writeImage 0x8003 ∧ Critical .keyRevoke 0x8004 ∧
  Critical .slotRevoke 0x8005 ∧ Critical .svnAdvance 0x8006 ∧ Critical .power 0x8007 ∧ Critical .replayEnter 0x8008 ∧
  Critical .replayExit 0x8009 ∧ Critical .reset 0x800A ∧
  ∀ src f n bs st cnt s, Running s → Failing src f n bs st cnt s → 32 ≤ n → cmdOp bs = 0x8001 → s.pwr.eject < 2 → inReplay s = false →
    formatOk n bs s = true → ∀ k, keyPerms (cmdKey bs) s = some k →
    Effect (.writeRegs src) s fun t => Responds f 0x8001 st (roundNow s) [] s t ∧ t.sec.proc = none ∧ flagOn Reg.SEC_EVT_STATUS 2 t = true ∧
      MemKept s t ∧
      (tagOk bs s = false → st = 0x13 ∧ Counted Reg.SEC_TAG_FAIL_CNT s t) ∧
      (tagOk bs s = true → cmdCounter bs ≤ keyCounter (cmdKey bs) s → st = 0x14 ∧ Counted Reg.SEC_STALE_CNT s t)

/-- Whatever a source hands over, a critical command that comes to be processed bears the tag of its key and a counter above the last accepted
for that key. (R453, R454, R455, R456) -/
def Obligations.CriticalCommandsNeedTags : Prop :=
  TagNeeded .writeRegs ∧ TagNeeded .switchImage ∧ TagNeeded .writeImage ∧ TagNeeded .keyRevoke ∧ TagNeeded .slotRevoke ∧
  TagNeeded .svnAdvance ∧ TagNeeded .power ∧ TagNeeded .replayEnter ∧ TagNeeded .replayExit ∧ TagNeeded .reset

/-- A journal record that fails answers NOR_FAIL; one written raises the key's last counter, and the command is accepted and counted if its
target is still allowed, else answered TARGET: revocations and SVN_ADVANCE act at once, WRITE_IMAGE starts its write, others join the queue;
in the Round before its target a queued WRITE_REGS command has its writes issued in order; a failed write answer is counted; a flash write
ends with its bytes in place, or in EXEC_ERR; a boot record written restarts the module into the slot it names. (R435, R436, R455, R456,
R458, R459, R460, R442) -/
def Obligations.SecurityCompletions : Prop :=
  (∀ ok s c, Running s → s.sec.proc = some c → c.kind = 0 → inReplay s = false →
    Effect (.journalWriteDone ok) s fun t =>
      (ok = false → t.sec.proc = none ∧ Responds c.src (cmdOp c.bytes) 0x18 (roundNow s) [] s t ∧ Counted Reg.SEC_REJECT_CNT s t ∧ MemKept s t) ∧
      (ok = true → stillAllowed (cmdOp c.bytes) c.target s = false →
        t.sec.proc = none ∧ Responds c.src (cmdOp c.bytes) 0x16 (roundNow s) [] s t ∧ Counted Reg.SEC_REJECT_CNT s t ∧ MemKept s t ∧
        cmdCounter c.bytes ≤ keyCounter (cmdKey c.bytes) t) ∧
      (ok = true → stillAllowed (cmdOp c.bytes) c.target s = true → cmdOp c.bytes ≠ 0x8007 →
        Counted Reg.SEC_CMD_OK_CNT s t ∧ MemKept s t ∧ cmdCounter c.bytes ≤ keyCounter (cmdKey c.bytes) t ∧
        (cmdOp c.bytes ≠ 0x8003 → t.sec.proc = none ∧ Responds c.src (cmdOp c.bytes) 0 (c.target.getD (roundNow s)) [] s t) ∧
        (cmdOp c.bytes = 0x8003 → t.sec.proc = some ⟨2, c.src, c.bytes, none⟩) ∧
        (cmdOp c.bytes = 0x8004 → revokedMark ≤ keyCounter (leAt (cmdPayload c.bytes) 0 4) t) ∧
        (cmdOp c.bytes = 0x8005 → leAt (cmdPayload c.bytes) 0 1 < 4 → flagOn Reg.SEC_FUSE_POLICY (8 + leAt (cmdPayload c.bytes) 0 1) t = true) ∧
        (cmdOp c.bytes = 0x8006 → svnFused t = leAt (cmdPayload c.bytes) 0 1 % 128) ∧
        (cmdAtOnce (cmdOp c.bytes) = false → c.target.isSome = true →
          t.sec.cmds = s.sec.cmds ++ [⟨s.sec.cmdNo, c.src.path, c.bytes, c.target, false, false, false, false, 0⟩] ∧ t.sec.cmdNo = s.sec.cmdNo + 1)) ∧
      (ok = true → stillAllowed (cmdOp c.bytes) c.target s = true → cmdOp c.bytes = 0x8007 → 2 ≤ roundState s →
        Counted Reg.SEC_CMD_OK_CNT s t ∧ MemKept s t ∧ t.sec.proc = none ∧
        Responds c.src (cmdOp c.bytes) 0 (c.target.getD (roundNow s)) [] s t ∧ ∃ x ∈ t.sec.cmds, x.no = s.sec.cmdNo ∧ x.bytes = c.bytes ∧
          x.target = c.target)) ∧
  (∀ s c, Running s → targetsRun s = true → windowOpen s = false →
    s.sec.cmds.find? (fun x => !x.issued && (match x.target with | some r => decide (r ≤ nextRound s) | none => false)) = some c →
    (∀ x ∈ s.sec.cmds, x.no = c.no → x = c) →
    Effect .commandExecutionStart s fun t => MemKept s t ∧ (∀ x ∈ t.sec.cmds, x.no = c.no → x.issued = true) ∧ OnlySends .sec s t ∧
      (cmdOp c.bytes = 0x8001 → ∀ i, i < (cmdPayload c.bytes).length / 8 → ∃ x ∈ t.noc.txns, x.agent = .sec ∧ x.use = useCmd c.no ∧
        x.addr = 0x40000000 + leAt (cmdPayload c.bytes) (8 * i) 4 ∧ x.body = .write (sliceOf (cmdPayload c.bytes) (8 * i + 4) 4))) ∧
  (∀ no s x code bs, Running s → waitingAns .sec (useCmd no) s = some (x, code, bs) → txnOf x.id s = some x →
    Effect (.commandWriteAnswer no) s fun t => MemKept s t ∧ (x.late = false → txnOf x.id t = none) ∧
      (code = 0 → rd Reg.SEC_EXEC_ERR_CNT t = rd Reg.SEC_EXEC_ERR_CNT s) ∧ (code ≠ 0 → Counted Reg.SEC_EXEC_ERR_CNT s t)) ∧
  (∀ ok s c, Running s → s.sec.proc = some c → c.kind = 2 → c.src.path < 256 → inReplay s = false →
    Effect (.imageWriteDone ok) s fun t => t.sec.proc = none ∧ MemKept s t ∧ flagOn Reg.SEC_EVT_STATUS 3 t = true ∧
      (ok = true → norRead (imageAt (cmdPayload c.bytes)) ((cmdPayload c.bytes).length - 16) t = (cmdPayload c.bytes).drop 16 ∧
        Responds c.src (cmdOp c.bytes) 1 (roundNow s) [] s t ∧ fld Reg.SEC_LAST_CMD 63 56 t = 1) ∧
      (ok = false → Responds c.src (cmdOp c.bytes) 0x18 (roundNow s) [] s t ∧ fld Reg.SEC_LAST_CMD 63 56 t = 0x20)) ∧
  ∀ ok s b, Running s → s.sec.bootWrite = some b →
    Effect (.bootRecordWriteDone ok) s fun t => t.sec.bootWrite = none ∧
      (ok = true → rd Reg.SEC_RESET_CAUSE t = 2 ∧ t.sec.counters = s.sec.counters ∧ t.tod = s.tod ∧
        (b.1 < 2 → (bootRecord s).2.1 + 1 < 2 ^ 32 → (bootRecord t).2.2 = b.1)) ∧
      (ok = false → t.sec.nor = s.sec.nor ∧ MemKept s t)

/-- With every engine halted DMA is stopped; with everything quiet the domains go down; with the last one down the module is in Standby with the
time invalid, or goes on to Deep Standby; a shedding decision measures, raises the level above LIMIT or at SHED_C and lowers it after
RESTORE low intervals; PWR_HOT is raised once; a thermal trip enters Deep Standby with FAULT, where only the Cold Room keeps its memory;
WAKE_IN leaves it; a failed main PLL halts every engine on the way to Standby. (R468, R473, R474, R475, R477, R485, R486) -/
def Obligations.StandbyAndShedding : Prop :=
  (∀ s, Running s → s.pwr.phase = 2 → (∀ n, n < 512 → (eng n s).mode = .halted ∨ (eng n s).mode = .faulted ∨ (eng n s).mode = .off) →
    Effect .standbyHaltDone s fun t => t.pwr.phase = 3 ∧ MemKept s t ∧ ∀ e ch, DmaNamed e ch → dmaState e ch t ≠ 1) ∧
  (∀ s, Running s → s.pwr.phase = 3 → (∀ e, e < 33 → flagOn (Reg.DMA_STATUS e) 16 s = true) → (∀ k, k < 68 → accEmpty k s = true) →
    Effect .standbyQuietDone s fun t => t.pwr.phase = 4 ∧ t.mem = s.mem ∧
      (∀ i, i < 11 → (dom (ioDom i) s).st ≠ .off → Closing (ioDom i) .off t) ∧
      (∀ k, k < 68 → (dom (accDom k) s).st ≠ .off → Closing (accDom k) .off t) ∧
      ∀ n, n < 512 → (eng n s).mode.depth < 2 → Closing (engDom n) .doze t) ∧
  (∀ s, Running s → s.pwr.phase = 4 → (∀ d, d < devDom → (dom d s).entering = none ∨ domQuiet d s = true) →
    Effect .standbyDomainsDown s fun t => flagOn Reg.TIME_STATUS 0 t = false ∧ t.pwr.phase = 0 ∧ t.pwr.target = 0 ∧
      (s.pwr.target = 3 → devState t = 3) ∧ (s.pwr.target ≠ 3 → devState t = 2 ∧ (dom devDom t).st = .off)) ∧
  (∀ power volt temp s, Running s → roundState s ≤ 1 → inReplay s = false →
    let limit := fld Reg.PWR_CAP 15 0 s
    let level := fld Reg.PWR_STATUS 10 8 s
    let hot := Int.ofNat (min 105 (fld Reg.PWR_THERM 7 0 s)) ≤ temp
    Effect (.shedDecision power volt temp) s fun t => t.mem = s.mem ∧ rd Reg.PWR_INPUT t = dw (volt % 65536 * 65536 + power % 65536) ∧
      (limit = 0 → fld Reg.PWR_STATUS 10 8 t = 0) ∧
      (limit ≠ 0 → (limit < power ∨ hot) → level < 4 → fld Reg.PWR_STATUS 10 8 t = level + 1 ∧ flagOn Reg.PWR_EVT_STATUS 1 t = true) ∧
      (limit ≠ 0 → power + 4 * fld Reg.PWR_CAP 23 16 s < limit → ¬hot → 0 < level → level ≤ 4 →
        max 1 (fld Reg.PWR_CAP 30 24 s) ≤ s.pwr.below + 1 → fld Reg.PWR_STATUS 10 8 t = level - 1) ∧
      (limit ≠ 0 → power + 4 * fld Reg.PWR_CAP 23 16 s < limit → ¬hot → 0 < level →
        s.pwr.below + 1 < max 1 (fld Reg.PWR_CAP 30 24 s) → fld Reg.PWR_STATUS 10 8 t = level ∧ t.pwr.below = s.pwr.below + 1)) ∧
  (∀ s, Running s →
    Effect .pwrHot s fun t => MemKept s t ∧ t.pwr.hot = true ∧ (s.pwr.hot = true → t = s) ∧
      (s.pwr.hot = false → flagOn Reg.PWR_EVT_STATUS 3 t = true ∧ Raised 0x063 0 s t)) ∧
  (∀ s, Running s →
    Effect .thermalTrip s fun t => devState t = 3 ∧ flagOn Reg.PWR_FAULT 4 t = true ∧ flagOn Reg.DEV_STATUS 3 t = true ∧ ColdRoomKept s t ∧
      t.tod = s.tod ∧ t.noc.txns = [] ∧ t.pending = s.pending) ∧
  (∀ s, Powered s → devState s = 3 →
    Effect .wakeIn s fun t => Released (if flagOn Reg.PWR_FAULT 4 s = true then 2 else 1) s t ∧ ColdRoomKept s t ∧
      fld Reg.PWR_WAKE_SOURCE 31 24 t = 6) ∧
  ∀ s, Running s → devState s ≤ 1 →
    Effect .mainPllFailure s fun t => flagOn Reg.PWR_FAULT 0 t = true ∧ Counted Reg.PWR_WAKE_FAIL_CNT s t ∧ t.pwr.phase = 2 ∧ t.pwr.target = 2 ∧
      roundState t = 0 ∧ t.mem = s.mem ∧ ∀ n, n < 512 → flagOn (Reg.ENG_CTRL n) 0 t = true

/-- A write of PWR_CAP, PWR_SHED_CFG or PWR_THERM by the SEC initiator waits in its shadow and is answered OK; one by any other initiator is
answered REFUSED and leaves registers, shadows and stamps as they were. (R470) -/
def Obligations.PowerRegistersNeedSec : Prop :=
  ∀ src off v s, Running s → v < 2 ^ 32 → (off = Reg.PWR_CAP ∨ off = Reg.PWR_SHED_CFG ∨ off = Reg.PWR_THERM) → Open src off false true v s →
    Effect (.csrWrite src off false v) s fun t => MemKept s t ∧
      (src ≠ srcOf .sec s → t.csr = { s.csr with respCode := 7, respData := 0, respEnd := false }) ∧
      (src = srcOf .sec s → t.csr.respCode = 0 ∧ ∃ m, t.csr.shadow = s.csr.shadow ++ [⟨off, m, v &&& m, src⟩] ∧ (off = Reg.PWR_CAP → m = 0xFFFFFFFF) ∧
        (off = Reg.PWR_SHED_CFG → m = 0x73F) ∧ (off = Reg.PWR_THERM → m = 0xFF))

/-- A closed fence whose traffic has drained puts its domain in its state, an engine that dozes with its state saved in the Cold Room; a domain
whose power is good is awake, its wake source recorded, a napping engine going on and a dozing one restored from its save area; up to three
timeouts power it down for a retry, the fourth is a wake failure. (R471, R479, R480, R481, R485, R486, R487) -/
def Obligations.DomainsSleepAndWake : Prop :=
  (∀ d m s, Running s → d < 640 → (dom d s).entering = some m → domQuiet d s = true → (dom d s).held = none → (d < 512 → engCopying d s = false) →
    Effect (.fenceDrained d) s fun t => (dom d t).entering = none ∧ (dom d t).fenced = false ∧ domState d t = m ∧
      (d < 512 → m = .doze → (eng d s).mode ≠ .doze → memRead (0x20000000 + d * 0x100) 256 t = saveArea (eng d s) (roundNow s)) ∧
      ((512 ≤ d ∨ m ≠ .doze) → t.mem = s.mem)) ∧
  (∀ d ecc s, Running s → d < 640 → (dom d s).waking = true → (dom d s).down = false →
    Effect (.domainWakeDone d ecc) s fun t => (dom d t).waking = false ∧ (dom d t).tries = 0 ∧
      rd Reg.PWR_WAKE_SOURCE t = dw ((dom d s).codeRound % 2 ^ 32 * 2 ^ 32 + (dom d s).code * 2 ^ 24 + (domKind d).1 * 65536 + (domKind d).2) ∧
      (512 ≤ d → (dom d t).st = .run) ∧
      (d < 512 → (eng d s).mode = .nap → (eng d s).resetPend = false → t.mem = s.mem ∧
        (eng d t).mode = (if (dom d s).code = 5 ∧ flagOn (Reg.ENG_CTRL d) 0 s = true then .halted else .run) ∧
        (eng d t).g = (eng d s).g ∧ (eng d t).pc = (eng d s).pc) ∧
      (d < 512 → (eng d s).mode = .doze → (eng d s).resetPend = false → ecc = .clean → poisoned (0x20000000 + d * 0x100) 256 s = false →
        memNat (0x20000000 + d * 0x100 + 232) 4 s = 1 →
        (eng d t).bank = 0 ∧ (∀ r, r < 32 → (eng d t).gr r = BitVec.ofNat 32 (memNat (0x20000000 + d * 0x100 + 4 * r) 4 s)) ∧
        (eng d t).pc = memNat (0x20000000 + d * 0x100 + 208) 4 s / 4 * 4 ∧ memNat (0x20000000 + d * 0x100 + 232) 4 t = 0)) ∧
  (∀ s ecc, Running s → (dom devDom s).waking = true → (dom devDom s).down = false →
    Effect (.domainWakeDone devDom ecc) s fun t => (dom devDom t).waking = false ∧ devState t ≤ 1 ∧ t.mem = s.mem) ∧
  (∀ d s, Running s → d < 640 → (dom d s).waking = true → (dom d s).down = false →
    Effect (.wakeTimeout d) s fun t => t.mem = s.mem ∧
      ((dom d s).tries < 3 → Counted Reg.PWR_WAKE_RETRY_CNT s t ∧ (dom d t).down = true ∧ (dom d t).waking = true ∧
        (dom d t).tries = (dom d s).tries + 1) ∧
      (3 ≤ (dom d s).tries → Counted Reg.PWR_WAKE_FAIL_CNT s t ∧ (dom d t).failed = true ∧ (dom d t).waking = false ∧
        flagOn Reg.PWR_EVT_STATUS 0 t = true)) ∧
  ∀ d s, Running s → d < 641 → (dom d s).waking = true → (dom d s).down = true →
    Effect (.wakeRetry d) s fun t => (dom d t).down = false ∧ (dom d t).waking = true ∧ MemKept s t ∧ t.noc = s.noc

/-- The plug stages follow contact, input and rails, and reset is released once the rails are good and PRESENT has been seen; a loss of power
good restarts them; removal or a low or tripped input holds the module in reset; a press of the latch runs the removal sequence, which stops
Rounds and DMA, closes the domains and asserts SAFE_TO_REMOVE; a latch closed then begins as after power-on with the Cold Room kept. (R466,
R488, R489, R490, R495) -/
def Obligations.HotPlug : Prop :=
  (∀ s, s.pwr.plug = 0 → Effect .prechargeContact s fun t => t.pwr.plug = 1 ∧ OnlyStages s t) ∧
  (∀ s, s.pwr.plug = 1 → Effect .vinRise s fun t => t.pwr.plug = (if s.pwr.trip = true then 1 else 2) ∧ OnlyStages s t) ∧
  (∀ s, s.pwr.plug = 2 → Effect .railsGood s fun t => (s.pwr.present = false → t.pwr.plug = 3 ∧ OnlyStages s t) ∧
    (s.pwr.present = true → t.pwr.plug = 4 ∧ Released 0 s t ∧ t.mem.cells = [])) ∧
  (∀ s, s.pwr.plug < 4 → Effect .presentDebounced s fun t => (s.pwr.plug ≠ 3 → t.pwr.present = true ∧ t.pwr.plug = s.pwr.plug ∧ OnlyStages s t) ∧
    (s.pwr.plug = 3 → t.pwr.plug = 4 ∧ Released 0 s t ∧ t.mem.cells = [])) ∧
  (∀ s, 1 ≤ s.pwr.plug → s.pwr.plug < 4 → Effect .powerGoodLoss s fun t => t.pwr.plug = 1 ∧ t.pwr.present = false ∧ OnlyStages s t) ∧
  (∀ s, Effect .presentLost s fun t => (s.pwr.plug = 4 → HeldInReset (if s.pwr.eject = 6 then 0 else 1) s t) ∧
    (s.pwr.plug ≠ 4 → t.pwr.plug = min s.pwr.plug 1 ∧ t.pwr.present = false ∧ OnlyStages s t)) ∧
  (∀ s, Effect .vinLow s fun t => (s.pwr.plug = 4 → HeldInReset 1 s t) ∧
    (s.pwr.plug ≠ 4 → t.pwr.plug = min s.pwr.plug 1 ∧ t.pwr.present = false ∧ OnlyStages s t)) ∧
  (∀ s, 2 ≤ s.pwr.plug → Effect .currentLimitTrip s fun t => HeldInReset 1 s t ∧ t.pwr.trip = true) ∧
  (∀ s, Effect .tripRestart s fun t => t.pwr.trip = false ∧ OnlyStages s t) ∧
  (∀ s, Powered s → s.pwr.eject = 0 → Effect .ejectReq s fun t => t.pwr.eject = 1 ∧ t = { s with pwr := { s.pwr with eject := 1 } }) ∧
  (∀ s, s.pwr.eject = 1 → Effect .ejectDebounced s fun t => flagOn Reg.PWR_STATUS 12 t = true ∧ flagOn Reg.PWR_EVT_STATUS 4 t = true ∧ MemKept s t ∧
    (devState s < 2 → 2 ≤ roundState s → roundState s ≠ 5 → t.pwr.eject = 2) ∧ (devState s < 2 → roundState s = 5 → t.pwr.eject = 3) ∧
    ((2 ≤ devState s ∨ roundState s < 2) → t.pwr.eject = 4 ∧ ∀ e ch, DmaNamed e ch → dmaState e ch t ≠ 1)) ∧
  (∀ s, s.pwr.eject = 4 → (∀ e, e < 33 → flagOn (Reg.DMA_STATUS e) 16 s = true) → s.sec.proc = none → s.sec.bootWrite = none →
    Effect .removalQuiesced s fun t => t.pwr.eject = 5 ∧ t.mem = s.mem ∧
      (devState s ≤ 1 → ∀ i, i < 11 → (dom (ioDom i) s).st ≠ .off → Closing (ioDom i) .off t)) ∧
  (∀ s, s.pwr.eject = 5 → Effect .removalPoweredDown s fun t => t.pwr.eject = 6 ∧ flagOn Reg.PWR_STATUS 11 t = true) ∧
  ∀ s, s.pwr.eject = 6 → Effect .latchClose s fun t => Released 3 s t ∧ ColdRoomKept s t

/-- A pass starts at the first enabled entry as MODE says; the codes of an entry are averaged into its result, in 1/16 of a code, which is
compared with its window, and the pass goes on or ends counted; an over-current is counted, raised and asks for urgent conversions, whose
results are written with their wait and counted. (R492, R493, R494, R496) -/
def Obligations.HousekeepingConverter : Prop :=
  (∀ s n, Running s → s.hkc.pass = none → hkcNext 0 s = some n →
    (hkcMode s = 1 ∨ hkcMode s = 2 ∧ s.hkc.want = true ∨ hkcMode s = 3 ∧ roundsRun s = true ∧ s.hkc.began = false) →
    Effect .hkcPassStart s fun t => t.hkc.pass = some n ∧ t.hkc.want = false ∧ t.hkc.began = true ∧ t.hkc.values = [] ∧ t.csr = s.csr ∧ MemKept s t) ∧
  (∀ codes s n, Running s → s.hkc.pass = some n → n < 32 → codes.length = 2 ^ fld (Reg.HKC_SEQ n) 10 8 s → (∀ c ∈ codes, c < 4096) →
    inReplay s = false →
    let v := 16 * codes.foldl (· + ·) 0 / codes.length
    Effect (.hkcEntryDone codes) s fun t => MemKept s t ∧ rd (Reg.HKC_RESULT n) t = dw (0x10000 + v) ∧ t.hkc.pass = hkcNext (n + 1) s ∧
      (hkcNext (n + 1) s = none → Counted Reg.HKC_PASS_CNT s t) ∧
      (flagOn (Reg.HKC_SEQ n) 30 s = true → (v < fld (Reg.HKC_WIN n) 15 0 s ∨ fld (Reg.HKC_WIN n) 31 16 s < v) →
        tabGet (fun _ => 0) s.hkc.prev n ≠ 2 → flagOn Reg.HKC_OUT_STATUS n t = true ∧
        (s.hkc.raised.contains n = false → flagOn Reg.HKC_EVT_STATUS 0 t = true ∧ Noted 0x480 n s t)) ∧
      (flagOn (Reg.HKC_SEQ n) 30 s = true → fld (Reg.HKC_WIN n) 15 0 s ≤ v → v ≤ fld (Reg.HKC_WIN n) 31 16 s →
        tabGet (fun _ => 0) s.hkc.prev n = 2 → flagOn Reg.HKC_OUT_STATUS n t = false)) ∧
  (∀ ma s, Running s →
    Effect (.overCurrentDetect ma) s fun t => MemKept s t ∧
      ((flagOn Reg.HKC_OCD_CFG 16 s = false ∨ ma ≤ fld Reg.HKC_OCD_CFG 15 0 s) → t = s) ∧
      (flagOn Reg.HKC_OCD_CFG 16 s = true → fld Reg.HKC_OCD_CFG 15 0 s < ma → Counted Reg.HKC_OCD_CNT s t ∧
        (s.hkc.raised.contains 64 = false → flagOn Reg.HKC_EVT_STATUS 2 t = true ∧ Raised 0x482 0 s t) ∧
        ∃ l, t.hkc.urgent = s.hkc.urgent ++ l ∧
          ∀ u, u ∈ l ↔ u < 4 ∧ flagOn (Reg.HKC_URGENT_CFG u) 31 s = true ∧ fld (Reg.HKC_URGENT_CFG u) 20 16 s = 16)) ∧
  ∀ code wait s u r, Running s → s.hkc.urgent = u :: r → u < 4 → code < 4096 → wait ≤ 80 → inReplay s = false →
    Effect (.hkcUrgentDone code wait) s fun t => MemKept s t ∧ t.hkc.urgent = r ∧ rd (Reg.HKC_URGENT_RESULT u) t = dw (wait * 2 ^ 24 + code) ∧
      Counted Reg.HKC_URGENT_CNT s t

/-- A margin read below AGE_MIN marks its engine or accelerator; errors on a wire mark it when they reach WIRE_MAX in a window; a marked engine
that is quiescent is fenced and copied; a request or test is a committed write of its register; a test that ends leaves its result, returns
a pool position or retires it, and counts and raises a failure. (R500, R501, R502, R503, R504, R507, R508, R509) -/
def Obligations.SparesAndTests : Prop :=
  (∀ kind idx code s, Running s →
    let below := code % 256 < fld Reg.SPARE_THRESH 31 24 s
    Effect (.ageMark kind idx code) s fun t => MemKept s t ∧
      (kind = 1 → tabGet (fun _ => 255) t.spare.ages (18 * (idx / 16) + engPhys idx s) = code % 256 ∧ (below → Marked 1 idx 3 s t) ∧
        (¬below → t.spare.marks = s.spare.marks)) ∧
      (kind = 2 → rd (Reg.SPARE_AGE_ACC (accPhys idx s)) t = dw (code % 256) ∧ (below → idx < 64 → Marked 2 idx 3 s t) ∧
        (¬below → t.spare.marks = s.spare.marks)) ∧
      (kind = 0 ∨ 2 < kind → t = s)) ∧
  (∀ n d w errs s, Running s → n < 48 → d < 4 → s.spare.window = windowOf s →
    let was := tabGet (fun _ => 0) s.spare.wires ((n * 4 + d) * 1024 + w)
    let most := max 1 (fld Reg.SPARE_THRESH 23 16 s)
    Effect (.wireMark n d w errs) s fun t => MemKept s t ∧ tabGet (fun _ => 0) t.spare.wires ((n * 4 + d) * 1024 + w) = was + errs ∧
      (was < most → most ≤ was + errs → (neighbour n d).isSome = true →
        t.spare.wireMarks = s.spare.wireMarks ++ [n * 4 + d] ∧ flagOn Reg.SPARE_STATUS 8 t = true) ∧
      ((most ≤ was ∨ was + errs < most ∨ neighbour n d = none) → t.spare.wireMarks = s.spare.wireMarks ∧ t.csr = s.csr)) ∧
  (∀ n s, Running s → n < 512 → (∃ m ∈ s.spare.marks, m.kind = 1 ∧ m.index = n ∧ m.stage = 1) → (eng n s).mode ≠ .run →
    (slice (n / 64) s).run (n % 64) = none → (dom (engDom n) s).entering = none → (dom (engDom n) s).waking = false →
    Effect (.engineQuiescent n) s fun t => Closing (engDom n) (eng n s).mode t ∧ MemKept s t ∧
      ∃ m ∈ t.spare.marks, m.kind = 1 ∧ m.index = n ∧ m.stage = 2) ∧
  (∀ n s, Running s → n < 512 → (∃ m ∈ s.spare.marks, m.kind = 1 ∧ m.index = n ∧ m.stage = 2) →
    Effect (.spareCopyDone n) s fun t => t.csr = s.csr ∧ MemKept s t ∧ (∃ m ∈ t.spare.marks, m.kind = 1 ∧ m.index = n ∧ m.stage = 3) ∧
      ∀ m ∈ t.spare.marks, m.kind = 1 → m.index = n → m.stage = 3) ∧
  (∀ src n rotate s, Running s → n < 512 → Open src Reg.SPARE_REQ false true (0x10000000 + b2n rotate * 0x8000000 + n) s →
    Effect (.spareReqEngine src n rotate) s fun t => Shadowed src Reg.SPARE_REQ 0xF80001FF (0x10000000 + b2n rotate * 0x8000000 + n) s t ∧
      MemKept s t) ∧
  (∀ src k s, Running s → k < 68 → Open src Reg.SPARE_REQ false true (0x20000000 + k) s →
    Effect (.spareReqAccelerator src k) s fun t => Shadowed src Reg.SPARE_REQ 0xF80001FF (0x20000000 + k) s t ∧ MemKept s t) ∧
  (∀ src l s, Running s → l < 32 → Open src Reg.SPARE_REQ false true (0x30000000 + l) s →
    Effect (.spareReqLane src l) s fun t => Shadowed src Reg.SPARE_REQ 0xF80001FF (0x30000000 + l) s t ∧ MemKept s t) ∧
  (∀ src kind c p s, Running s → kind < 16 → c < 32 → p < 128 → Open src Reg.SPARE_BIST false true (kind * 0x10000000 + c * 256 + p) s →
    Effect (.spareBist src kind c p) s fun t => Shadowed src Reg.SPARE_BIST 0xF0001F7F (kind * 0x10000000 + c * 256 + p) s t ∧ MemKept s t) ∧
  ∀ fail s w pool rest, Running s → s.spare.bists = (w, pool) :: rest →
    Effect (.bistDone fail) s fun t => MemKept s t ∧ t.spare.bists = rest ∧
      t.spare.bistResult = some ((if fail then 2 else 1) * 2 ^ 30 + bitsOf w 31 28 % 4 * 2 ^ 28 + bitsOf w 12 8 * 256 + bitsOf w 6 0) ∧
      (bitsOf w 31 28 = 1 → bitsOf w 6 0 < 18 → posState (bitsOf w 12 8) (bitsOf w 6 0) t = if pool = true ∧ fail = false then 1 else 2) ∧
      (bitsOf w 31 28 = 2 → pool = true → fail = true → 64 ≤ bitsOf w 6 0 → bitsOf w 6 0 < 68 →
        flagOn Reg.SPARE_STATUS (bitsOf w 6 0 - 64) t = false) ∧
      (pool = true → fail = true → Counted Reg.SPARE_BIST_FAIL_CNT s t ∧ flagOn Reg.SPARE_EVT_STATUS 2 t = true)

/-- A write of TRIG while recording notes the position, raises REC_TRIG and counts Rounds to the freeze, while EN of the same write waits for
its commit; in Replay it has no effect. In Replay the next recorded input of the running Round is delivered at its offset to the point where
it was recorded, a capture to its capture registers; the record of a commit waits for that commit, and one of a later Round for its Round.
(R512, R515, R519, R532) -/
def Obligations.RecorderAndReplay : Prop :=
  (∀ src en s, Running s → Open src Reg.REC_CTRL false true (2 + b2n en) s →
    Effect (.recTrig src en) s fun t => t.csr.respCode = 0 ∧ MemKept s t ∧ (inReplay s = true → t.csr.live = s.csr.live ∧
      t.csr.shadow = s.csr.shadow) ∧
      (inReplay s = false → t.csr.shadow = s.csr.shadow ++ [⟨Reg.REC_CTRL, 1, b2n en, src⟩] ∧
        (recState s ≠ 1 → recState t = recState s) ∧
        (recState s = 1 → flagOn Reg.REC_EVT_STATUS 0 t = true ∧ Noted 0x078 0 s t ∧
          (s.recorder.gapRecs = 0 → recBuffered s + 64 ≤ 0x100000 →
            ((rd Reg.REC_WR s).toNat + 64 ≤ ringSize s →
              recState t = 2 ∧ rd Reg.REC_TRIG_POS t = rd Reg.REC_WR s ∧ t.recorder.postLeft = fld Reg.REC_CFG 23 0 s) ∧
            (ringSize s < (rd Reg.REC_WR s).toNat + 64 → flagOn Reg.REC_CFG 31 s = true → recState t = 4))))) ∧
  ∀ s, Running s → inReplay s = true → recState s = 5 → roundsRun s = true →
    let u := recNext s
    let pos := u.recorder.repPos
    let h := recAt pos u
    let n := h.2.2.2.1 - s.round.sinceC0
    let w := modRec (fun x => { x with repPos := recAfter pos u }) u
    let v := if room n w then passSteps n w else w
    Effect .replayRecordDelivery s fun t =>
      ((recEnd s ≤ pos ∨ h.2.2.1 ≠ roundNow s % 2 ^ 32 ∨ h.1 = 4 ∧ h.2.1 = 0) → t = inOrder s u) ∧
      (pos < recEnd s → h.2.2.1 = roundNow s % 2 ^ 32 → ¬(h.1 = 4 ∧ h.2.1 = 0) →
        t = inOrder s (replayDeliver h.1 h.2.1 h.2.2.2.1 (recPayload pos u) v) ∧ (room n w = true → h.2.2.2.1 ≤ v.round.sinceC0) ∧
        v.recorder.repPos = recAfter pos u ∧
        (h.1 = 4 → 1 ≤ h.2.1 → h.2.1 ≤ 2 → tabGet (fun _ => 0) s.time.edges (h.2.1 - 1) = 0 →
          rd (Reg.TIME_CAP_SEC (h.2.1 - 1)) t =
            dw (todSec (unitsOf (leAt (recPayload pos u) 0 8) (leAt (recPayload pos u) 8 8)) % 2 ^ 48)))

/-- At a boundary the commit window still open ends first, with the accesses stalled in it; while Rounds run the time of day goes on to the
grid boundary, the next Round is numbered, its instant noted and the window opened, and the commit follows; in STOPPING the boundary ends
the run; in WAIT_TIME the first boundary at or past now begins the first Round once the time is valid; the first P of an overlong Round ends
once; RUN starts WAIT_TIME or takes back a STOP, STOP ends WAIT_TIME at once or lets the Round run out; a manual commit acts only in STOPPED;
the epoch is a committed field, written only in STOPPED and held by the strap; a stamp read returns its reader's stamp. (R20, R21, R24, R25, R26, R27, R29, R34, R51, R60) -/
def Obligations.RoundsAndCommits : Prop :=
  (∀ power volt temp s, Running s →
    let shed := shedDecide power volt temp
    let v := windowCloses (s.csr.stalled.length + 1) s
    let n := stepsFor (v.tod - epoch v) (period v)
    let number := if v.round.started then max (n + (rd Reg.ROUND_OFFSET v).toNat) (roundNow v + 1) else n
    Effect (.roundBoundary power volt temp) s fun t =>
      (boundaryDue s = none → t = s) ∧ (∀ x, boundaryDue s = some x → boundaryDue v = none → t = inOrder s v) ∧
      ∀ x, boundaryDue s = some x → Running v → inReplay v = false → v.pwr.eject ≠ 2 →
        (2 ≤ roundState v → roundState v ≤ 4 → ∃ u, t = inOrder s (commitEnds (roundBegins (commitRun true false (some (roundNow v)) shed u))) ∧
          Opened (nextRound v) v.round.endGrid v u ∧ roundState u = 2) ∧
        (roundState v = 5 → ∃ u, t = inOrder s (commitEnds (roundsStop (commitRun false false (some (roundNow v)) shed u))) ∧
          Opened (nextRound v) v.round.endGrid v u ∧ roundState u = 5) ∧
        (roundState v = 1 → fld Reg.TIME_STATUS 0 0 v = 1 →
          ∃ u, t = inOrder s (commitEnds (roundBegins (commitRun true false none shed u))) ∧ Opened number n v u ∧ roundState u = 2)) ∧
  (∀ s, (boundaryDue s = none) ↔ ¬(2 ≤ roundState s) ∧ ¬(roundState s = 1 ∧ fld Reg.TIME_STATUS 0 0 s = 1)) ∧
  (∀ s, s.csr.stalled = [] → windowCloses 1 s = passSteps (windowLeft s) s) ∧
  (∀ s, Running s → s.round.overlong = true → s.round.beyondP = false → roundsRun s = true →
    Effect .roundFirstPEnd s fun t => t.mem = s.mem ∧ s.tod ≤ t.tod ∧
      (reaches (s.round.startTod + period s) s = true → t.round.beyondP = true ∧ s.round.startTod + period s ≤ t.tod) ∧
      (reaches (s.round.startTod + period s) s = false → t = s)) ∧
  (∀ src s, Running s → inReplay s = false → Open src Reg.ROUND_CTRL false true 1 s →
    Effect (.run src) s fun t => t.csr.respCode = 0 ∧ MemKept s t ∧ flagOn Reg.ROUND_CTRL 0 t = true ∧ t.csr.shadow = s.csr.shadow ∧
      roundState t = if roundState s = 0 then 1 else if roundState s = 5 then s.round.leftState % 8 else roundState s) ∧
  (∀ src s, Running s → Open src Reg.ROUND_CTRL false true 0 s →
    Effect (.stop src) s fun t => t.csr.respCode = 0 ∧ MemKept s t ∧ flagOn Reg.ROUND_CTRL 0 t = false ∧ t.csr.shadow = s.csr.shadow ∧
      roundState t = (if roundState s = 1 then 0 else if 2 ≤ roundState s ∧ roundState s ≤ 4 then 5 else roundState s) ∧
      (2 ≤ roundState s → roundState s ≤ 4 → t.round.leftState = roundState s)) ∧
  (∀ src s, Running s → Open src Reg.ROUND_CTRL false true 2 s →
    Effect (.manualCommit src) s fun t =>
      (roundState s ≠ 0 → t.csr.respCode = 1 ∧ t.csr.live = s.csr.live ∧ t.csr.shadow = s.csr.shadow ∧ t.round = s.round) ∧
      (roundState s = 0 → let u := commitEnds (commitRun false true none id { s with round := { s.round with sinceC0 := 0 } })
        t = inOrder s { u with csr := { u.csr with respCode := 0, respData := 0, respEnd := false } })) ∧
  (∀ src s, Running s → Open src Reg.SHADOW_STAMP true false 0 s →
    Effect (.shadowStampRead src) s fun t => t.csr.respCode = 0 ∧ t.csr.respData = stampOf src s ∧ t.csr.live = s.csr.live ∧
      t.csr.stamps = s.csr.stamps) ∧
  ∀ src a s, Running s → Open src Reg.DEV_CTRL false true (b2n a) s →
    Effect (.epochWrite src a) s fun t => MemKept s t ∧ (∀ o, rd o t = rd o s) ∧
      (roundState s ≠ 0 → t.csr.respCode = 1 ∧ t.csr.shadow = s.csr.shadow) ∧
      (roundState s = 0 → s.sec.strap = true → a = false → t.csr.respCode = 0 ∧ t.csr.shadow = s.csr.shadow) ∧
      (roundState s = 0 → (s.sec.strap = false ∨ a = true) → Shadowed src Reg.DEV_CTRL 1 (b2n a) s t)

/-- A write of a register without an effect of its own (CSR_WRITE, W1C_CLEAR, COUNTER_CLEAR) puts committed fields into a shadow, sets live fields
and clears flags, and changes nothing else; an access that suits no register is answered DECERR or SLVERR and one to a sleeping or fenced domain
ASLEEP or FENCED, without effect, the live mirror being folded back first; one that stalls in the commit window waits, and after the window the
oldest is accepted. The apply stage transfers every waiting write to its register in order and leaves none waiting; the snapshot takes every
register's value, with ROUND_SNAP_ROUND the Round; a counter whose clear was written starts again at its reset value, and no other register changes.
(R11, R12, R15, R28, R30, R31, R34, R36, R39, R472, R27, R35) -/
def Obligations.RegisterAccesses : Prop :=
  ((∀ src off wide v, PlainWrite (.csrWrite src off wide v) src off wide v) ∧ (∀ src off v, PlainWrite (.w1cClear src off v) src off false v) ∧
  (∀ src off, PlainWrite (.counterClear src off) src off false 1) ∧
  (∀ src off wide v s, Running s → v < 2 ^ 64 →
    let o := foldMirror off
    let a : Access := ⟨src, o, wide, true, v, false, none⟩
    let d := addrDom (0x40000000 + o)
    Effect (.csrWrite src off wide v) s fun t =>
      (∀ x code, d = some x → guardCode x s = some code →
        t.csr.respCode = (if accessCode o wide = 2 then 2 else code) ∧ t.csr.live = s.csr.live ∧ t.csr.shadow = s.csr.shadow) ∧
      ((∀ x, d = some x → guardCode x s = none) →
        (accessStalls a s = true → t.csr.stalled = s.csr.stalled ++ [a] ∧ t.csr.live = s.csr.live ∧ t.csr.shadow = s.csr.shadow) ∧
        (accessStalls a s = false → (accessCodeNow o wide s ≠ 0 ∨ writeRefused src o s = true) →
          t.csr.respCode = (if accessCode o wide = 2 then 2 else if writeRefused src o s then 7 else accessCodeNow o wide s) ∧
          t.csr.live = s.csr.live ∧ t.csr.shadow = s.csr.shadow))) ∧
  (∀ off, off < 0x8000000 → foldMirror (off + 0x8000000) = off ∧ foldMirror off = off) ∧
  ∀ s, Running s →
    let u := windowRuns s
    Effect .stalledAccessAccepted s fun t => (windowOpen u = true → t = u) ∧ (room (windowLeft s) s = true → windowOpen u = false) ∧
      (windowOpen u = false →
        (s.csr.stalled = [] → t = u) ∧
        (∀ a, s.csr.stalled = [a] → stampWaits a [] u = false →
          t = inOrder s (accessEnd a (accessNow a { u with csr := { u.csr with stalled := [] } }))) ∧
        ∀ a rest, stalledNext [] s.csr.stalled u = some (a, rest) →
          t = inOrder s (accessEnd a (accessNow a { u with csr := { u.csr with stalled := rest } })))) ∧
  ((∀ s, (applyShadows s).csr.shadow = [] ∧ ∀ off, off ≠ Reg.TIME_STEP → off ≠ Reg.ROUND_OVR_POLICY →
    rd off (applyShadows s) = (s.csr.shadow.filter fun x => x.off == off).foldl (fun v x => dw (masked v.toNat x.mask x.value)) (rd off s)) ∧
  (∀ s off, tabGet resetOf (snapshot s).csr.snap off = (if off = Reg.ROUND_SNAP_ROUND then rd Reg.ROUND_NOW s else rd off s) ∧
    (snapshot s).csr.snapSeq = s.csr.snapSeq + 1) ∧
  ∀ s l o d r c, findReg o = some (d, r) → clearOf d o = some c →
    (c ∈ l → flagOn c 0 s = true → rd o (counterClears l s) = resetOf o) ∧ ((c ∉ l ∨ flagOn c 0 s = false) → rd o (counterClears l s) = rd o s))

/-- A fetched line joins the plan, and a failed fetch ends it at its first entry (the model's reading, log 62), counted and raised; each entry
issues in its turn at its instant what its KIND says: nothing, a DMA start, a hand-over to both halves, a reduction setup, a token, or a register
write; a failed issue is counted and raised. The oldest occurrence is delivered by its routing entry as an interrupt write, a token or a vector,
counted, or misrouted; a vector is dropped while the host is not reachable and pends while masked; a failed interrupt write is counted. (R43, R44,
R45, R46, R55, R56, R57, R451) -/
def Obligations.PlanAndRouter : Prop :=
  (∀ s x code d, Running s → s.noc.txns.find? (fun t => decide (t.agent = .plan) && t.use % 2 == 1 && t.ans.isSome) = some x →
    x.ans = some (code, d) →
    let p := s.round.plan
    Effect .planFetchAnswer s fun t => MemKept s t ∧
      (code ≠ 0 → Counted Reg.ROUND_PLAN_ERR_CNT s t ∧ flagOn Reg.ROUND_EVT_STATUS 7 t = true ∧ Raised 0x017 0 s t) ∧
      ((x.use ≠ usePlanFetch p.tag ∨ p.active = false) → t.round = s.round ∧ (code = 0 → t.csr = s.csr)) ∧
      (x.use = usePlanFetch p.tag → p.active = true →
        (code ≠ 0 → t.round = { s.round with plan := { p with count := min p.count ((x.addr - p.base) / 16) } }) ∧
        (code = 0 → p.fetched = [] → (∀ i, i < d.length / 16 → p.halted.testBit (peClass (sliceOf d (16 * i) 16)) = false ∧
          peKind (sliceOf d (16 * i) 16) < 6) →
          t.round.plan.fetched = (upto (d.length / 16)).map (fun i => ((x.addr - p.base) / 16 + i, sliceOf d (16 * i) 16)) ∧
          t.round.plan.nextIssue = p.nextIssue))) ∧
  PlanIssues .planNoOperation 0 (fun _ s t => t.noc = s.noc) ∧
  PlanIssues .planDmaStart 1 (fun e s t => Sent .plan 0 (.dmaStart (bitsOf (peTarget e) 15 8) (bitsOf (peTarget e) 7 0) (bitsOf (peArg e) 47 0)) s t) ∧
  PlanIssues .planCfaHandover 2 (fun e s t => ∀ half, half < 2 → ∃ x ∈ t.noc.txns, x.id = nextTxn s + half ∧ x.agent = .plan ∧
    x.body = .handover half (bitsOf (peTarget e) 9 0) (bitsOf (peArg e) 10 0)) ∧
  PlanIssues .planRedSetup 3 (fun e s t =>
    Sent .plan 0 (.redSetup (bitsOf (peTarget e) 31 16) (bitsOf (peTarget e) 11 0) (bitsOf (peArg e) 15 0) (peClass e)) s t) ∧
  PlanIssues .planToken 4 (fun e s t =>
    let b : Payload := .token (bitsOf (peTarget e) 15 13) (bitsOf (peTarget e) 12 0) (bitsOf (peArg e) 2 0) (roundNow s % 2 ^ 32)
    originCode (srcOf .plan s) 3 0 b s = none → ∃ x ∈ t.noc.txns, x.id = nextTxn s ∧ x.agent = .plan ∧ x.cls = 3 ∧ x.body = b ∧ x.posted = true) ∧
  PlanIssues .planRegWrite 5 (fun e s t => peTarget e < 0x10000000 → Sent .plan (0x40000000 + peTarget e) (.write (leBytes 4 (peArg e))) s t) ∧
  (∀ s x code d, Running s → waitingAns .plan usePlanIssue s = some (x, code, d) →
    Effect .planIssueAnswer s fun t => MemKept s t ∧ (code = 0 → t.csr = s.csr ∧ t.evt = s.evt) ∧
      (code ≠ 0 → Counted Reg.ROUND_PLAN_ERR_CNT s t ∧ flagOn Reg.ROUND_EVT_STATUS 7 t = true ∧ Raised 0x017 0 s t)) ∧
  (∀ s o rest, Running s → s.evt = o :: rest → o.num < 4096 → ¬(flagOn Reg.REC_TRIG_CFG 31 s = true ∧ fld Reg.REC_TRIG_CFG 11 0 s = o.num) →
    let e := (rd (Reg.EVT_ROUTE o.num) s).toNat
    let kind := bitsOf e 30 29
    let add := if bitOf e 28 then o.inst % 65536 else 0
    Effect .occurrenceTaken s fun t => MemKept s t ∧
      ((bitOf e 31 = false ∨ kind = 0) → e &&& routeReserved kind = 0 → t = { s with evt := rest }) ∧
      (e &&& routeReserved kind ≠ 0 → Counted Reg.EVT_MISROUTE_CNT s t ∧ t.evt = rest) ∧
      (bitOf e 31 = true → kind = 1 → e &&& routeReserved kind = 0 → bitsOf e 8 0 + add ≤ 511 → Counted Reg.EVT_DELIVER_CNT s t ∧
        Sent .evt (0x40000000 + Reg.ENG_IRQ_SET (bitsOf e 8 0 + add)) (.write (leBytes 4 (2 ^ bitsOf e 20 16))) s t) ∧
      (bitOf e 31 = true → kind = 1 → 511 < bitsOf e 8 0 + add → Counted Reg.EVT_MISROUTE_CNT s t ∧ t.evt = rest) ∧
      (bitOf e 31 = true → kind = 2 → e &&& routeReserved kind = 0 → bitsOf e 15 0 + add ≤ 65535 → Counted Reg.EVT_DELIVER_CNT s t ∧
        let b : Payload := .token ((bitsOf e 15 0 + add) / 8192) ((bitsOf e 15 0 + add) % 8192) (bitsOf e 18 16) (eventValue o % 2 ^ 32)
        (originCode (srcOf .evt s) 3 0 b s = none → ∃ x ∈ t.noc.txns, x.id = nextTxn s ∧ x.agent = .evt ∧ x.cls = 3 ∧ x.body = b)) ∧
      (bitOf e 31 = true → kind = 3 → e &&& routeReserved kind = 0 → bitsOf e 10 0 + add ≤ 2047 → Counted Reg.EVT_DELIVER_CNT s t ∧ t.evt = rest ∧
        (flagOn Reg.PCIE_LINK_STATUS 16 s = false ∨ s.sec.bme = false → Counted Reg.PCIE_MSIX_DROP_CNT s t) ∧
        (flagOn Reg.PCIE_LINK_STATUS 16 s = true → s.sec.bme = true →
          (flagOn (Reg.PCIE_MSIX (bitsOf e 10 0 + add) 1) 32 s = true →
            flagOn (Reg.PCIE_PBA ((bitsOf e 10 0 + add) / 64)) ((bitsOf e 10 0 + add) % 64) t = true ∧ t.sec.msix = s.sec.msix) ∧
          (flagOn (Reg.PCIE_MSIX (bitsOf e 10 0 + add) 1) 32 s = false → t.sec.msix = some (bitsOf e 10 0 + add))))) ∧
  ∀ s x code d, Running s → waitingAns .evt useIrq s = some (x, code, d) →
    Effect .interruptWriteAnswer s fun t => MemKept s t ∧ (code = 0 → t.csr = s.csr) ∧ (code ≠ 0 → Counted Reg.EVT_MISROUTE_CNT s t)

/-- With a command at the front of its queue a step is that command's effect on the state with the rest of the queue; with an empty queue a step
of the time counter passes, unless the next is C0 of a boundary, which its command brings (the model's choice, log 2): the time of day goes on
by TIME_INC where no slew runs and no engine has a result on its way. (01_the_round.md, The commit sequence, R393) -/
def Obligations.StepRunsFrontCommand : Prop :=
  (∀ (c : Instr) (cs : List Instr) (s : State), step { s with pending := c :: cs } = exec c { s with pending := cs }) ∧
  (∀ s : State, s.pending = [] → Running s → step s = .next (if room 1 s then passSteps 1 s else s)) ∧
  ∀ s : State, s.pending = [] → Running s → room 1 s = true → rd Reg.TIME_SLEW_CNT s = 0 → (∀ x ∈ s.eng, x.2.land = []) →
    step s = .next { s with
      tod := s.tod + max 1 (rd Reg.TIME_INC s).toNat
      time := { s.time with steps := s.time.steps + 1 }
      round := { s.round with sinceC0 := s.round.sinceC0 + 1 } }

/-- After reset no command waits, no packet is in the fabric, memory lists no byte and is in canonical form, as the register file is; Rounds are
stopped at number 0, TIME_INC is 1.25 ns, ROUND_CFG selects 125 microseconds, every engine stands at pc 0 in bank 0, and every register
reads the reset value of its card. (R18, R21, R58, R393, R407, 02_engine_scalar.md, Engine control block) -/
def Obligations.ResetState : Prop :=
  State.reset.pending = [] ∧ State.reset.noc.txns = [] ∧ State.reset.mem.cells = [] ∧ Canonical State.reset ∧ roundState State.reset = 0 ∧
  roundNow State.reset = 0 ∧ rd Reg.TIME_INC State.reset = 0x140000000 ∧ period State.reset = 125000 * nsUnit ∧
  (∀ n, (eng n State.reset).pc = 0 ∧ (eng n State.reset).bank = 0) ∧ ∀ off, rd off State.reset = resetOf off

/-- Every command is answered with a next state. One that names what the module does not have changes nothing; while the module is held in reset
only the commands of the plug and of waking act (the model's choice, log 1). (R468, R473, R488) -/
def Obligations.EveryCommandCompletes : Prop :=
  (∀ c s, ∃ t, exec c s = .next t) ∧ (∀ c s, c.wf = false → exec c s = .next s) ∧
  ∀ c s, s.pwr.plug ≠ 4 → c ∉ [.wakeIn, .prechargeContact, .vinRise, .railsGood, .presentDebounced, .powerGoodLoss, .ejectReq, .ejectDebounced,
      .removalQuiesced, .removalPoweredDown, .latchClose, .presentLost, .vinLow, .currentLimitTrip, .tripRestart] → exec c s = .next s

/-- Whatever command a step runs, in whatever state, memory in canonical form (addresses strictly rising, no byte listed that reads as an
unlisted one) is left in canonical form, so that equal memories stay equal data. (08_memory.md, The fabric address map, R8) -/
def Obligations.MemoryStaysCanonical : Prop :=
  ∀ s t, s.mem.wf = true → step s = .next t → t.mem.wf = true
end

