-- ==== Sys2Proof/Laws/Bits.lean ====
section
/-! SUPPORT. The laws of bit fields: a field written reads back, and other fields stay. -/
namespace Sys2Proof.Machine

theorem bitsOf_lt (v hi lo : Nat) : bitsOf v hi lo < 2 ^ (hi + 1 - lo) := Nat.mod_lt _ (Nat.two_pow_pos _)

/-- `withBits` as arithmetic on the quotient and remainder at `lo`. -/
theorem withBits_eq (v hi lo x : Nat) :
    withBits v hi lo x = v % 2 ^ lo + (v / 2 ^ lo - v / 2 ^ lo % 2 ^ (hi + 1 - lo) + x % 2 ^ (hi + 1 - lo)) * 2 ^ lo := by
  simp only [withBits, bitsOf, Nat.shiftLeft_eq, Nat.shiftRight_eq_div_pow]
  generalize hi + 1 - lo = w
  have h1 := Nat.mod_add_div v (2 ^ lo)
  have h2 : v / 2 ^ lo % 2 ^ w ≤ v / 2 ^ lo := Nat.mod_le _ _
  have h3 : v / 2 ^ lo * 2 ^ lo ≤ v := Nat.div_mul_le_self _ _
  have h4 : v / 2 ^ lo % 2 ^ w * 2 ^ lo ≤ v / 2 ^ lo * 2 ^ lo := Nat.mul_le_mul_right _ h2
  rw [Nat.add_mul, Nat.sub_mul]
  have h5 : 2 ^ lo * (v / 2 ^ lo) = v / 2 ^ lo * 2 ^ lo := Nat.mul_comm _ _
  omega

/-- A field written reads back what was written, as far as it fits. -/
theorem bitsOf_withBits_same (v hi lo x : Nat) : bitsOf (withBits v hi lo x) hi lo = x % 2 ^ (hi + 1 - lo) := by
  rw [withBits_eq]
  simp only [bitsOf, Nat.shiftRight_eq_div_pow]
  generalize hi + 1 - lo = w
  rw [Nat.add_mul_div_right _ _ (Nat.two_pow_pos lo), Nat.div_eq_of_lt (Nat.mod_lt _ (Nat.two_pow_pos lo)), Nat.zero_add]
  have h : v / 2 ^ lo - v / 2 ^ lo % 2 ^ w = 2 ^ w * (v / 2 ^ lo / 2 ^ w) := by
    have := Nat.mod_add_div (v / 2 ^ lo) (2 ^ w)
    omega
  rw [h, Nat.mul_add_mod, Nat.mod_mod]

theorem testBit_withBits (v hi lo x i : Nat) :
    (withBits v hi lo x).testBit i = if lo ≤ i ∧ i < lo + (hi + 1 - lo) then (x % 2 ^ (hi + 1 - lo)).testBit (i - lo) else v.testBit i := by
  rw [withBits_eq]
  generalize hi + 1 - lo = w
  have hq : v / 2 ^ lo - v / 2 ^ lo % 2 ^ w = 2 ^ w * (v / 2 ^ lo / 2 ^ w) := by
    have := Nat.mod_add_div (v / 2 ^ lo) (2 ^ w)
    omega
  rw [hq, Nat.add_comm, Nat.mul_comm _ (2 ^ lo), Nat.testBit_two_pow_mul_add _ (Nat.mod_lt _ (Nat.two_pow_pos lo)),
    Nat.testBit_two_pow_mul_add _ (Nat.mod_lt _ (Nat.two_pow_pos w))]
  by_cases h1 : i < lo
  · simp [h1, Nat.testBit_mod_two_pow]
  · by_cases h2 : i - lo < w
    · simp only [h1, h2, if_true, if_false]
      rw [if_pos (by omega)]
    · simp only [h1, h2, if_false]
      rw [if_neg (by omega), Nat.testBit_div_two_pow, Nat.testBit_div_two_pow]
      congr 1
      omega

/-- A field that shares no bit with the one written stays. -/
theorem bitsOf_withBits_other (v hi lo x hi2 lo2 : Nat) (h : hi2 < lo ∨ hi < lo2) :
    bitsOf (withBits v hi lo x) hi2 lo2 = bitsOf v hi2 lo2 := by
  apply Nat.eq_of_testBit_eq
  intro i
  simp only [bitsOf, Nat.testBit_mod_two_pow, Nat.testBit_shiftRight, testBit_withBits]
  by_cases hi' : i < hi2 + 1 - lo2
  · rw [if_neg (by omega)]
  · simp [hi']

/-- A field written inside 64 bits leaves 64 bits. -/
theorem withBits_lt (v hi lo x : Nat) (hv : v < 2 ^ 64) (hh : hi < 64) : withBits v hi lo x < 2 ^ 64 := by
  apply Nat.lt_pow_two_of_testBit
  intro i hi'
  rw [testBit_withBits]
  split
  · omega
  · exact Nat.testBit_lt_two_pow (Nat.lt_of_lt_of_le hv (Nat.pow_le_pow_right (by omega) hi'))

end Sys2Proof.Machine
end

