-- ==== Sys2Proof/Laws/Exec.lean ====
section
/-! SUPPORT. What `exec` answers for each command: the command's operation where the command acts (`gated_acts`), else the state. -/
namespace Sys2Proof.Machine

theorem exec_roundBoundary (power volt : Nat) (temp : Int) (s : State) :
    exec (.roundBoundary power volt temp) s = .next (gated false true (opRoundBoundary power volt temp) s) := rfl
theorem exec_roundFirstPEnd (s : State) :
    exec .roundFirstPEnd s = .next (gated false true opRoundFirstPEnd s) := rfl
theorem exec_run (src : Nat) (s : State) :
    exec (.run src) s = .next (gated false true (opRun src) s) := rfl
theorem exec_stop (src : Nat) (s : State) :
    exec (.stop src) s = .next (gated false true (opStop src) s) := rfl
theorem exec_manualCommit (src : Nat) (s : State) :
    exec (.manualCommit src) s = .next (gated false true (opManualCommit src) s) := rfl
theorem exec_planFetchAnswer (s : State) :
    exec .planFetchAnswer s = .next (gated false true opPlanFetchAnswer s) := rfl
theorem exec_planNoOperation (s : State) :
    exec .planNoOperation s = .next (gated false true opPlanNoOperation s) := rfl
theorem exec_planDmaStart (s : State) :
    exec .planDmaStart s = .next (gated false true opPlanDmaStart s) := rfl
theorem exec_planCfaHandover (s : State) :
    exec .planCfaHandover s = .next (gated false true opPlanCfaHandover s) := rfl
theorem exec_planRedSetup (s : State) :
    exec .planRedSetup s = .next (gated false true opPlanRedSetup s) := rfl
theorem exec_planToken (s : State) :
    exec .planToken s = .next (gated false true opPlanToken s) := rfl
theorem exec_planRegWrite (s : State) :
    exec .planRegWrite s = .next (gated false true opPlanRegWrite s) := rfl
theorem exec_occurrenceTaken (s : State) :
    exec .occurrenceTaken s = .next (gated false true opOccurrenceTaken s) := rfl
theorem exec_shadowStampRead (src : Nat) (s : State) :
    exec (.shadowStampRead src) s = .next (gated false true (opShadowStampRead src) s) := rfl
theorem exec_epochWrite (src : Nat) (a : Bool) (s : State) :
    exec (.epochWrite src a) s = .next (gated false true (opEpochWrite src a) s) := rfl
theorem exec_csrWrite (src off : Nat) (wide : Bool) (v : Nat) (s : State) :
    exec (.csrWrite src off wide v) s = .next (gated false (below 18446744073709551616 v) (opCsrWrite src off wide v) s) := rfl
theorem exec_w1cClear (src off v : Nat) (s : State) :
    exec (.w1cClear src off v) s = .next (gated false (below 18446744073709551616 v) (opW1cClear src off v) s) := rfl
theorem exec_counterClear (src off : Nat) (s : State) :
    exec (.counterClear src off) s = .next (gated false true (opCounterClear src off) s) := rfl
theorem exec_stalledAccessAccepted (s : State) :
    exec .stalledAccessAccepted s = .next (gated false true opStalledAccessAccepted s) := rfl
theorem exec_add (n : Nat) (w : Word) (fetch : Ecc) (s : State) :
    exec (.add n w fetch) s = .next (gated false (below 512 n && (isAlu w 0 || isOp w 2)) (opAdd n w fetch) s) := rfl
theorem exec_sub (n : Nat) (w : Word) (fetch : Ecc) (s : State) :
    exec (.sub n w fetch) s = .next (gated false (below 512 n && (isAlu w 1 || isOp w 3)) (opSub n w fetch) s) := rfl
theorem exec_and (n : Nat) (w : Word) (fetch : Ecc) (s : State) :
    exec (.and n w fetch) s = .next (gated false (below 512 n && (isAlu w 2 || isOp w 4)) (opAnd n w fetch) s) := rfl
theorem exec_or (n : Nat) (w : Word) (fetch : Ecc) (s : State) :
    exec (.or n w fetch) s = .next (gated false (below 512 n && (isAlu w 3 || isOp w 5)) (opOr n w fetch) s) := rfl
theorem exec_xor (n : Nat) (w : Word) (fetch : Ecc) (s : State) :
    exec (.xor n w fetch) s = .next (gated false (below 512 n && (isAlu w 4 || isOp w 6)) (opXor n w fetch) s) := rfl
theorem exec_shl (n : Nat) (w : Word) (fetch : Ecc) (s : State) :
    exec (.shl n w fetch) s = .next (gated false (below 512 n && (isAlu w 5 || isShift w 0)) (opShl n w fetch) s) := rfl
theorem exec_shr (n : Nat) (w : Word) (fetch : Ecc) (s : State) :
    exec (.shr n w fetch) s = .next (gated false (below 512 n && (isAlu w 6 || isShift w 1)) (opShr n w fetch) s) := rfl
theorem exec_sar (n : Nat) (w : Word) (fetch : Ecc) (s : State) :
    exec (.sar n w fetch) s = .next (gated false (below 512 n && (isAlu w 7 || isShift w 2)) (opSar n w fetch) s) := rfl
theorem exec_cmpEq (n : Nat) (w : Word) (fetch : Ecc) (s : State) :
    exec (.cmpEq n w fetch) s = .next (gated false (below 512 n && isAlu w 8) (opCmpEq n w fetch) s) := rfl
theorem exec_cmpLt (n : Nat) (w : Word) (fetch : Ecc) (s : State) :
    exec (.cmpLt n w fetch) s = .next (gated false (below 512 n && isAlu w 9) (opCmpLt n w fetch) s) := rfl
theorem exec_cmpLtu (n : Nat) (w : Word) (fetch : Ecc) (s : State) :
    exec (.cmpLtu n w fetch) s = .next (gated false (below 512 n && isAlu w 10) (opCmpLtu n w fetch) s) := rfl
theorem exec_min (n : Nat) (w : Word) (fetch : Ecc) (s : State) :
    exec (.min n w fetch) s = .next (gated false (below 512 n && isAlu w 11) (opMin n w fetch) s) := rfl
theorem exec_max (n : Nat) (w : Word) (fetch : Ecc) (s : State) :
    exec (.max n w fetch) s = .next (gated false (below 512 n && isAlu w 12) (opMax n w fetch) s) := rfl
theorem exec_abs (n : Nat) (w : Word) (fetch : Ecc) (s : State) :
    exec (.abs n w fetch) s = .next (gated false (below 512 n && isAlu w 13) (opAbs n w fetch) s) := rfl
theorem exec_mov (n : Nat) (w : Word) (fetch : Ecc) (s : State) :
    exec (.mov n w fetch) s = .next (gated false (below 512 n && isAlu w 14) (opMov n w fetch) s) := rfl
theorem exec_movi (n : Nat) (w : Word) (fetch : Ecc) (s : State) :
    exec (.movi n w fetch) s = .next (gated false (below 512 n && isOp w 8) (opMovi n w fetch) s) := rfl
theorem exec_movhi (n : Nat) (w : Word) (fetch : Ecc) (s : State) :
    exec (.movhi n w fetch) s = .next (gated false (below 512 n && isOp w 9) (opMovhi n w fetch) s) := rfl
theorem exec_mul (n : Nat) (w : Word) (fetch : Ecc) (s : State) :
    exec (.mul n w fetch) s = .next (gated false (below 512 n && isAlu w 15) (opMul n w fetch) s) := rfl
theorem exec_mulh (n : Nat) (w : Word) (fetch : Ecc) (s : State) :
    exec (.mulh n w fetch) s = .next (gated false (below 512 n && isAlu w 16) (opMulh n w fetch) s) := rfl
theorem exec_cmac (n : Nat) (w : Word) (fetch : Ecc) (s : State) :
    exec (.cmac n w fetch) s = .next (gated false (below 512 n && isMac w 0) (opCmac n w fetch) s) := rfl
theorem exec_cmacc (n : Nat) (w : Word) (fetch : Ecc) (s : State) :
    exec (.cmacc n w fetch) s = .next (gated false (below 512 n && isMac w 1) (opCmacc n w fetch) s) := rfl
theorem exec_cmsu (n : Nat) (w : Word) (fetch : Ecc) (s : State) :
    exec (.cmsu n w fetch) s = .next (gated false (below 512 n && isMac w 2) (opCmsu n w fetch) s) := rfl
theorem exec_rmac (n : Nat) (w : Word) (fetch : Ecc) (s : State) :
    exec (.rmac n w fetch) s = .next (gated false (below 512 n && isMac w 3) (opRmac n w fetch) s) := rfl
theorem exec_clr (n : Nat) (w : Word) (fetch : Ecc) (s : State) :
    exec (.clr n w fetch) s = .next (gated false (below 512 n && isOp w 11) (opClr n w fetch) s) := rfl
theorem exec_racc (n : Nat) (w : Word) (fetch : Ecc) (s : State) :
    exec (.racc n w fetch) s = .next (gated false (below 512 n && isOp w 12) (opRacc n w fetch) s) := rfl
theorem exec_mva (n : Nat) (w : Word) (fetch : Ecc) (s : State) :
    exec (.mva n w fetch) s = .next (gated false (below 512 n && isOp w 13) (opMva n w fetch) s) := rfl
theorem exec_ftap (n : Nat) (w : Word) (ecc fetch : Ecc) (s : State) :
    exec (.ftap n w ecc fetch) s = .next (gated false (below 512 n && isOp w 49) (opFtap n w ecc fetch) s) := rfl
theorem exec_ldB (n : Nat) (w : Word) (ecc fetch : Ecc) (s : State) :
    exec (.ldB n w ecc fetch) s = .next (gated false (below 512 n && isOp w 16) (opLdB n w ecc fetch) s) := rfl
theorem exec_ldBu (n : Nat) (w : Word) (ecc fetch : Ecc) (s : State) :
    exec (.ldBu n w ecc fetch) s = .next (gated false (below 512 n && isOp w 17) (opLdBu n w ecc fetch) s) := rfl
theorem exec_ldH (n : Nat) (w : Word) (ecc fetch : Ecc) (s : State) :
    exec (.ldH n w ecc fetch) s = .next (gated false (below 512 n && isOp w 18) (opLdH n w ecc fetch) s) := rfl
theorem exec_ldHu (n : Nat) (w : Word) (ecc fetch : Ecc) (s : State) :
    exec (.ldHu n w ecc fetch) s = .next (gated false (below 512 n && isOp w 19) (opLdHu n w ecc fetch) s) := rfl
theorem exec_ldW (n : Nat) (w : Word) (ecc fetch : Ecc) (s : State) :
    exec (.ldW n w ecc fetch) s = .next (gated false (below 512 n && isOp w 20) (opLdW n w ecc fetch) s) := rfl
theorem exec_ldD (n : Nat) (w : Word) (ecc fetch : Ecc) (s : State) :
    exec (.ldD n w ecc fetch) s = .next (gated false (below 512 n && isOp w 21) (opLdD n w ecc fetch) s) := rfl
theorem exec_stB (n : Nat) (w : Word) (ecc fetch : Ecc) (s : State) :
    exec (.stB n w ecc fetch) s = .next (gated false (below 512 n && isOp w 24) (opStB n w ecc fetch) s) := rfl
theorem exec_stH (n : Nat) (w : Word) (ecc fetch : Ecc) (s : State) :
    exec (.stH n w ecc fetch) s = .next (gated false (below 512 n && isOp w 25) (opStH n w ecc fetch) s) := rfl
theorem exec_stW (n : Nat) (w : Word) (fetch : Ecc) (s : State) :
    exec (.stW n w fetch) s = .next (gated false (below 512 n && isOp w 26) (opStW n w fetch) s) := rfl
theorem exec_stD (n : Nat) (w : Word) (fetch : Ecc) (s : State) :
    exec (.stD n w fetch) s = .next (gated false (below 512 n && isOp w 27) (opStD n w fetch) s) := rfl
theorem exec_undef (n : Nat) (w : Word) (fetch : Ecc) (s : State) :
    exec (.undef n w fetch) s = .next (gated false (below 512 n && isUnallocated w) (opUndef n w fetch) s) := rfl
theorem exec_ldf (n : Nat) (w : Word) (fetch : Ecc) (s : State) :
    exec (.ldf n w fetch) s = .next (gated false (below 512 n && isOp w 28) (opLdf n w fetch) s) := rfl
theorem exec_stf (n : Nat) (w : Word) (fetch : Ecc) (s : State) :
    exec (.stf n w fetch) s = .next (gated false (below 512 n && isOp w 29) (opStf n w fetch) s) := rfl
theorem exec_stfAck (n : Nat) (w : Word) (fetch : Ecc) (s : State) :
    exec (.stfAck n w fetch) s = .next (gated false (below 512 n && isOp w 30) (opStfAck n w fetch) s) := rfl
theorem exec_farStoreInjected (n : Nat) (s : State) :
    exec (.farStoreInjected n) s = .next (gated false (below 512 n) (opFarStoreInjected n) s) := rfl
theorem exec_farResponse (n id : Nat) (s : State) :
    exec (.farResponse n id) s = .next (gated false (below 512 n) (opFarResponse n id) s) := rfl
theorem exec_farErr (n : Nat) (s : State) :
    exec (.farErr n) s = .next (gated false (below 512 n) (opFarErr n) s) := rfl
theorem exec_fencef (n : Nat) (w : Word) (fetch : Ecc) (s : State) :
    exec (.fencef n w fetch) s = .next (gated false (below 512 n && isSys w 4) (opFencef n w fetch) s) := rfl
theorem exec_b (n : Nat) (w : Word) (fetch : Ecc) (s : State) :
    exec (.b n w fetch) s = .next (gated false (below 512 n && isOp w 32) (opB n w fetch) s) := rfl
theorem exec_bz (n : Nat) (w : Word) (fetch : Ecc) (s : State) :
    exec (.bz n w fetch) s = .next (gated false (below 512 n && isOp w 33) (opBz n w fetch) s) := rfl
theorem exec_bnz (n : Nat) (w : Word) (fetch : Ecc) (s : State) :
    exec (.bnz n w fetch) s = .next (gated false (below 512 n && isOp w 34) (opBnz n w fetch) s) := rfl
theorem exec_bl (n : Nat) (w : Word) (fetch : Ecc) (s : State) :
    exec (.bl n w fetch) s = .next (gated false (below 512 n && isOp w 35) (opBl n w fetch) s) := rfl
theorem exec_jr (n : Nat) (w : Word) (fetch : Ecc) (s : State) :
    exec (.jr n w fetch) s = .next (gated false (below 512 n && isOp w 36) (opJr n w fetch) s) := rfl
theorem exec_jal (n : Nat) (w : Word) (fetch : Ecc) (s : State) :
    exec (.jal n w fetch) s = .next (gated false (below 512 n && isOp w 37) (opJal n w fetch) s) := rfl
theorem exec_rpt (n : Nat) (w : Word) (fetch : Ecc) (s : State) :
    exec (.rpt n w fetch) s = .next (gated false (below 512 n && isOp w 48) (opRpt n w fetch) s) := rfl
theorem exec_repeatEnd (n : Nat) (s : State) :
    exec (.repeatEnd n) s = .next (gated false (below 512 n) (opRepeatEnd n) s) := rfl
theorem exec_wait (n : Nat) (w : Word) (fetch : Ecc) (s : State) :
    exec (.wait n w fetch) s = .next (gated false (below 512 n && isSys w 0) (opWait n w fetch) s) := rfl
theorem exec_waitDrainDone (n : Nat) (s : State) :
    exec (.waitDrainDone n) s = .next (gated false (below 512 n) (opWaitDrainDone n) s) := rfl
theorem exec_reti (n : Nat) (w : Word) (fetch : Ecc) (s : State) :
    exec (.reti n w fetch) s = .next (gated false (below 512 n && isSys w 1) (opReti n w fetch) s) := rfl
theorem exec_trap (n : Nat) (w : Word) (fetch : Ecc) (s : State) :
    exec (.trap n w fetch) s = .next (gated false (below 512 n && isSys w 2) (opTrap n w fetch) s) := rfl
theorem exec_brk (n : Nat) (w : Word) (fetch : Ecc) (s : State) :
    exec (.brk n w fetch) s = .next (gated false (below 512 n && isSys w 3) (opBrk n w fetch) s) := rfl
theorem exec_mfs (n : Nat) (w : Word) (fetch : Ecc) (s : State) :
    exec (.mfs n w fetch) s = .next (gated false (below 512 n && isSys w 5) (opMfs n w fetch) s) := rfl
theorem exec_mts (n : Nat) (w : Word) (fetch : Ecc) (s : State) :
    exec (.mts n w fetch) s = .next (gated false (below 512 n && isSys w 6) (opMts n w fetch) s) := rfl
theorem exec_nop (n : Nat) (w : Word) (fetch : Ecc) (s : State) :
    exec (.nop n w fetch) s = .next (gated false (below 512 n && isOp w 0) (opNop n w fetch) s) := rfl
theorem exec_interrupt (n : Nat) (s : State) :
    exec (.interrupt n) s = .next (gated false (below 512 n) (opInterrupt n) s) := rfl
theorem exec_engIrqSet (src n mask : Nat) (s : State) :
    exec (.engIrqSet src n mask) s = .next (gated false (below 512 n && below 4294967296 mask) (opEngIrqSet src n mask) s) := rfl
theorem exec_engIrqLate (n line : Nat) (s : State) :
    exec (.engIrqLate n line) s = .next (gated false (below 512 n && below 32 line) (opEngIrqLate n line) s) := rfl
theorem exec_taskKill (n : Nat) (src : Option (Nat × Bool)) (s : State) :
    exec (.taskKill n src) s = .next (gated false (below 512 n) (opTaskKill n src) s) := rfl
theorem exec_killed (n : Nat) (s : State) :
    exec (.killed n) s = .next (gated false (below 512 n) (opKilled n) s) := rfl
theorem exec_engineReset (src n : Nat) (halt : Bool) (s : State) :
    exec (.engineReset src n halt) s = .next (gated false (below 512 n) (opEngineReset src n halt) s) := rfl
theorem exec_halt (src n : Nat) (s : State) :
    exec (.halt src n) s = .next (gated false (below 512 n) (opHalt src n) s) := rfl
theorem exec_haltClear (src n : Nat) (s : State) :
    exec (.haltClear src n) s = .next (gated false (below 512 n) (opHaltClear src n) s) := rfl
theorem exec_step (src n : Nat) (s : State) :
    exec (.step src n) s = .next (gated false (below 512 n) (opStep src n) s) := rfl
theorem exec_engHalted (n : Nat) (s : State) :
    exec (.engHalted n) s = .next (gated false (below 512 n) (opEngHalted n) s) := rfl
theorem exec_setvl (n : Nat) (w : Word) (fetch : Ecc) (s : State) :
    exec (.setvl n w fetch) s = .next (gated false (below 512 n && isOp w 60) (opSetvl n w fetch) s) := rfl
theorem exec_vrd (n : Nat) (w : Word) (fetch : Ecc) (s : State) :
    exec (.vrd n w fetch) s = .next (gated false (below 512 n && isOp w 40) (opVrd n w fetch) s) := rfl
theorem exec_vwr (n : Nat) (w : Word) (fetch : Ecc) (s : State) :
    exec (.vwr n w fetch) s = .next (gated false (below 512 n && isOp w 41) (opVwr n w fetch) s) := rfl
theorem exec_vld (n vd gb : Nat) (imm : Word) (post : Bool) (ecc : Option Nat) (corr : Nat) (fetch : Ecc) (s : State) :
    exec (.vld n vd gb imm post ecc corr fetch) s = .next (gated false (below 512 n && below 32 vd && below 32 gb && optBelow 64 ecc) (opVld n vd gb imm post ecc corr fetch) s) := rfl
theorem exec_vst (n vs gb : Nat) (imm : Word) (post : Bool) (ecc : Option Nat) (corr : Nat) (fetch : Ecc) (s : State) :
    exec (.vst n vs gb imm post ecc corr fetch) s = .next (gated false (below 512 n && below 32 vs && below 32 gb && optBelow 64 ecc) (opVst n vs gb imm post ecc corr fetch) s) := rfl
theorem exec_vlds (n vd gb gs : Nat) (ecc : Option Nat) (corr : Nat) (fetch : Ecc) (s : State) :
    exec (.vlds n vd gb gs ecc corr fetch) s = .next (gated false (below 512 n && below 32 vd && below 32 gb && below 32 gs && optBelow 64 ecc) (opVlds n vd gb gs ecc corr fetch) s) := rfl
theorem exec_vsts (n vs gb gs : Nat) (ecc : Option Nat) (corr : Nat) (fetch : Ecc) (s : State) :
    exec (.vsts n vs gb gs ecc corr fetch) s = .next (gated false (below 512 n && below 32 vs && below 32 gb && below 32 gs && optBelow 64 ecc) (opVsts n vs gb gs ecc corr fetch) s) := rfl
theorem exec_vldx (n vd gb vi : Nat) (fetch : Ecc) (s : State) :
    exec (.vldx n vd gb vi fetch) s = .next (gated false (below 512 n && below 32 vd && below 32 gb && below 32 vi) (opVldx n vd gb vi fetch) s) := rfl
theorem exec_vstx (n vs gb vi : Nat) (fetch : Ecc) (s : State) :
    exec (.vstx n vs gb vi fetch) s = .next (gated false (below 512 n && below 32 vs && below 32 gb && below 32 vi) (opVstx n vs gb vi fetch) s) := rfl
theorem exec_gatherComplete (n : Nat) (ecc : Option Nat) (corr : Nat) (s : State) :
    exec (.gatherComplete n ecc corr) s = .next (gated false (below 512 n && optBelow 64 ecc) (opGatherComplete n ecc corr) s) := rfl
theorem exec_vadd (n vd va vb : Nat) (p : Option Nat) (fetch : Ecc) (s : State) :
    exec (.vadd n vd va vb p fetch) s = .next (gated false (below 512 n && below 32 vd && below 32 va && below 32 vb && optBelow 8 p) (opVadd n vd va vb p fetch) s) := rfl
theorem exec_vsub (n vd va vb : Nat) (p : Option Nat) (fetch : Ecc) (s : State) :
    exec (.vsub n vd va vb p fetch) s = .next (gated false (below 512 n && below 32 vd && below 32 va && below 32 vb && optBelow 8 p) (opVsub n vd va vb p fetch) s) := rfl
theorem exec_vmul (n vd va vb : Nat) (p : Option Nat) (fetch : Ecc) (s : State) :
    exec (.vmul n vd va vb p fetch) s = .next (gated false (below 512 n && below 32 vd && below 32 va && below 32 vb && optBelow 8 p) (opVmul n vd va vb p fetch) s) := rfl
theorem exec_vadds (n vd va vb : Nat) (p : Option Nat) (fetch : Ecc) (s : State) :
    exec (.vadds n vd va vb p fetch) s = .next (gated false (below 512 n && below 32 vd && below 32 va && below 32 vb && optBelow 8 p) (opVadds n vd va vb p fetch) s) := rfl
theorem exec_vsubs (n vd va vb : Nat) (p : Option Nat) (fetch : Ecc) (s : State) :
    exec (.vsubs n vd va vb p fetch) s = .next (gated false (below 512 n && below 32 vd && below 32 va && below 32 vb && optBelow 8 p) (opVsubs n vd va vb p fetch) s) := rfl
theorem exec_vcmul (n vd va vb : Nat) (p : Option Nat) (fetch : Ecc) (s : State) :
    exec (.vcmul n vd va vb p fetch) s = .next (gated false (below 512 n && below 32 vd && below 32 va && below 32 vb && optBelow 8 p) (opVcmul n vd va vb p fetch) s) := rfl
theorem exec_vcmulc (n vd va vb : Nat) (p : Option Nat) (fetch : Ecc) (s : State) :
    exec (.vcmulc n vd va vb p fetch) s = .next (gated false (below 512 n && below 32 vd && below 32 va && below 32 vb && optBelow 8 p) (opVcmulc n vd va vb p fetch) s) := rfl
theorem exec_vcmacW (n vd va vb : Nat) (p : Option Nat) (fetch : Ecc) (s : State) :
    exec (.vcmacW n vd va vb p fetch) s = .next (gated false (below 512 n && below 32 vd && below 32 va && below 32 vb && optBelow 8 p) (opVcmacW n vd va vb p fetch) s) := rfl
theorem exec_vcmaccW (n vd va vb : Nat) (p : Option Nat) (fetch : Ecc) (s : State) :
    exec (.vcmaccW n vd va vb p fetch) s = .next (gated false (below 512 n && below 32 vd && below 32 va && below 32 vb && optBelow 8 p) (opVcmaccW n vd va vb p fetch) s) := rfl
theorem exec_vracc (n vd va sh : Nat) (fetch : Ecc) (s : State) :
    exec (.vracc n vd va sh fetch) s = .next (gated false (below 512 n && below 32 vd && below 32 va && below 32 sh) (opVracc n vd va sh fetch) s) := rfl
theorem exec_vftap (n va vx vy gc : Nat) (conj rc cdir : Bool) (ecc fetch : Ecc) (s : State) :
    exec (.vftap n va vx vy gc conj rc cdir ecc fetch) s = .next (gated false (below 512 n && below 32 va && below 32 vx && below 32 vy && below 32 gc) (opVftap n va vx vy gc conj rc cdir ecc fetch) s) := rfl
theorem exec_vfadd (n vd va vb : Nat) (p : Option Nat) (fetch : Ecc) (s : State) :
    exec (.vfadd n vd va vb p fetch) s = .next (gated false (below 512 n && below 32 vd && below 32 va && below 32 vb && optBelow 8 p) (opVfadd n vd va vb p fetch) s) := rfl
theorem exec_vfsub (n vd va vb : Nat) (p : Option Nat) (fetch : Ecc) (s : State) :
    exec (.vfsub n vd va vb p fetch) s = .next (gated false (below 512 n && below 32 vd && below 32 va && below 32 vb && optBelow 8 p) (opVfsub n vd va vb p fetch) s) := rfl
theorem exec_vfmul (n vd va vb : Nat) (p : Option Nat) (fetch : Ecc) (s : State) :
    exec (.vfmul n vd va vb p fetch) s = .next (gated false (below 512 n && below 32 vd && below 32 va && below 32 vb && optBelow 8 p) (opVfmul n vd va vb p fetch) s) := rfl
theorem exec_vfma (n vd va vb : Nat) (p : Option Nat) (fetch : Ecc) (s : State) :
    exec (.vfma n vd va vb p fetch) s = .next (gated false (below 512 n && below 32 vd && below 32 va && below 32 vb && optBelow 8 p) (opVfma n vd va vb p fetch) s) := rfl
theorem exec_vcmpEq (n pd va vb : Nat) (fetch : Ecc) (s : State) :
    exec (.vcmpEq n pd va vb fetch) s = .next (gated false (below 512 n && below 8 pd && below 32 va && below 32 vb) (opVcmpEq n pd va vb fetch) s) := rfl
theorem exec_vcmpLt (n pd va vb : Nat) (fetch : Ecc) (s : State) :
    exec (.vcmpLt n pd va vb fetch) s = .next (gated false (below 512 n && below 8 pd && below 32 va && below 32 vb) (opVcmpLt n pd va vb fetch) s) := rfl
theorem exec_vcmpLtu (n pd va vb : Nat) (fetch : Ecc) (s : State) :
    exec (.vcmpLtu n pd va vb fetch) s = .next (gated false (below 512 n && below 8 pd && below 32 va && below 32 vb) (opVcmpLtu n pd va vb fetch) s) := rfl
theorem exec_pand (n pd pa pb : Nat) (fetch : Ecc) (s : State) :
    exec (.pand n pd pa pb fetch) s = .next (gated false (below 512 n && below 8 pd && below 8 pa && below 8 pb) (opPand n pd pa pb fetch) s) := rfl
theorem exec_por (n pd pa pb : Nat) (fetch : Ecc) (s : State) :
    exec (.por n pd pa pb fetch) s = .next (gated false (below 512 n && below 8 pd && below 8 pa && below 8 pb) (opPor n pd pa pb fetch) s) := rfl
theorem exec_pxor (n pd pa pb : Nat) (fetch : Ecc) (s : State) :
    exec (.pxor n pd pa pb fetch) s = .next (gated false (below 512 n && below 8 pd && below 8 pa && below 8 pb) (opPxor n pd pa pb fetch) s) := rfl
theorem exec_pnot (n pd pa : Nat) (fetch : Ecc) (s : State) :
    exec (.pnot n pd pa fetch) s = .next (gated false (below 512 n && below 8 pd && below 8 pa) (opPnot n pd pa fetch) s) := rfl
theorem exec_vsel (n vd p va vb : Nat) (fetch : Ecc) (s : State) :
    exec (.vsel n vd p va vb fetch) s = .next (gated false (below 512 n && below 32 vd && below 8 p && below 32 va && below 32 vb) (opVsel n vd p va vb fetch) s) := rfl
theorem exec_vbcast (n vd gs : Nat) (p : Option Nat) (fetch : Ecc) (s : State) :
    exec (.vbcast n vd gs p fetch) s = .next (gated false (below 512 n && below 32 vd && below 32 gs && optBelow 8 p) (opVbcast n vd gs p fetch) s) := rfl
theorem exec_vins (n vd gs i : Nat) (fetch : Ecc) (s : State) :
    exec (.vins n vd gs i fetch) s = .next (gated false (below 512 n && below 32 vd && below 32 gs && below 64 i) (opVins n vd gs i fetch) s) := rfl
theorem exec_vext (n gd va i : Nat) (fetch : Ecc) (s : State) :
    exec (.vext n gd va i fetch) s = .next (gated false (below 512 n && below 32 gd && below 32 va && below 64 i) (opVext n gd va i fetch) s) := rfl
theorem exec_vtperm (n vd vt k vi : Nat) (p : Option Nat) (fetch : Ecc) (s : State) :
    exec (.vtperm n vd vt k vi p fetch) s = .next (gated false (below 512 n && below 32 vd && below 32 vt && within 1 4 k && below 32 vi && optBelow 8 p) (opVtperm n vd vt k vi p fetch) s) := rfl
theorem exec_vsum (n vd va : Nat) (p : Option Nat) (fetch : Ecc) (s : State) :
    exec (.vsum n vd va p fetch) s = .next (gated false (below 512 n && below 32 vd && below 32 va && optBelow 8 p) (opVsum n vd va p fetch) s) := rfl
theorem exec_vectorPowerDown (n : Nat) (s : State) :
    exec (.vectorPowerDown n) s = .next (gated false (below 512 n) (opVectorPowerDown n) s) := rfl
theorem exec_vectorWakeDone (n : Nat) (s : State) :
    exec (.vectorWakeDone n) s = .next (gated false (below 512 n) (opVectorWakeDone n) s) := rfl
theorem exec_cop (n : Nat) (w : Word) (fetch : Ecc) (s : State) :
    exec (.cop n w fetch) s = .next (gated false (below 512 n && isOp w 56) (opCop n w fetch) s) := rfl
theorem exec_copAnswer (n : Nat) (s : State) :
    exec (.copAnswer n) s = .next (gated false (below 512 n) (opCopAnswer n) s) := rfl
theorem exec_accRequest (k id : Nat) (s : State) :
    exec (.accRequest k id) s = .next (gated false (below 68 k) (opAccRequest k id) s) := rfl
theorem exec_accDescriptorFetched (k id : Nat) (s : State) :
    exec (.accDescriptorFetched k id) s = .next (gated false (below 68 k) (opAccDescriptorFetched k id) s) := rfl
theorem exec_jobStart (k : Nat) (s : State) :
    exec (.jobStart k) s = .next (gated false (below 68 k) (opJobStart k) s) := rfl
theorem exec_accInputReadAnswer (k id corr uncorr row : Nat) (s : State) :
    exec (.accInputReadAnswer k id corr uncorr row) s = .next (gated false (below 68 k) (opAccInputReadAnswer k id corr uncorr row) s) := rfl
theorem exec_outputWritesAccepted (k : Nat) (s : State) :
    exec (.outputWritesAccepted k) s = .next (gated false (below 68 k) (opOutputWritesAccepted k) s) := rfl
theorem exec_resultWriteAccepted (k : Nat) (s : State) :
    exec (.resultWriteAccepted k) s = .next (gated false (below 68 k) (opResultWriteAccepted k) s) := rfl
theorem exec_statusWriteAccepted (k id : Nat) (s : State) :
    exec (.statusWriteAccepted k id) s = .next (gated false (below 68 k) (opStatusWriteAccepted k id) s) := rfl
theorem exec_withdraw (k id : Nat) (s : State) :
    exec (.withdraw k id) s = .next (gated false (below 68 k) (opWithdraw k id) s) := rfl
theorem exec_withdrawAnswer (n id : Nat) (s : State) :
    exec (.withdrawAnswer n id) s = .next (gated false (below 512 n) (opWithdrawAnswer n id) s) := rfl
theorem exec_flush (src k v : Nat) (s : State) :
    exec (.flush src k v) s = .next (gated false (below 68 k && below 18446744073709551616 v) (opFlush src k v) s) := rfl
theorem exec_define (src sl c : Nat) (s : State) :
    exec (.define src sl c) s = .next (gated false (below 8 sl && below 8192 c) (opDefine src sl c) s) := rfl
theorem exec_arm (src sl c : Nat) (s : State) :
    exec (.arm src sl c) s = .next (gated false (below 8 sl && below 8192 c) (opArm src sl c) s) := rfl
theorem exec_cancel (src sl c : Nat) (s : State) :
    exec (.cancel src sl c) s = .next (gated false (below 8 sl && below 8192 c) (opCancel src sl c) s) := rfl
theorem exec_read (src sl c : Nat) (s : State) :
    exec (.read src sl c) s = .next (gated false (below 8 sl && below 8192 c) (opRead src sl c) s) := rfl
theorem exec_release (src sl c : Nat) (s : State) :
    exec (.release src sl c) s = .next (gated false (below 8 sl && below 8192 c) (opRelease src sl c) s) := rfl
theorem exec_token (sl w0 w1 src res : Nat) (s : State) :
    exec (.token sl w0 w1 src res) s = .next (gated false (below 8 sl && below 4294967296 w0 && below 4294967296 w1) (opToken sl w0 w1 src res) s) := rfl
theorem exec_armMessage (sl w0 src res : Nat) (s : State) :
    exec (.armMessage sl w0 src res) s = .next (gated false (below 8 sl && below 4294967296 w0) (opArmMessage sl w0 src res) s) := rfl
theorem exec_cancelMessage (sl w0 src res : Nat) (s : State) :
    exec (.cancelMessage sl w0 src res) s = .next (gated false (below 8 sl && below 4294967296 w0) (opCancelMessage sl w0 src res) s) := rfl
theorem exec_heldTokenAccepted (sl : Nat) (s : State) :
    exec (.heldTokenAccepted sl) s = .next (gated false (below 8 sl) (opHeldTokenAccepted sl) s) := rfl
theorem exec_orderLogReadAnswer (sl : Nat) (s : State) :
    exec (.orderLogReadAnswer sl) s = .next (gated false (below 8 sl) (opOrderLogReadAnswer sl) s) := rfl
theorem exec_dispatch (sl : Nat) (s : State) :
    exec (.dispatch sl) s = .next (gated false (below 8 sl) (opDispatch sl) s) := rfl
theorem exec_operandAreaAccepted (sl e : Nat) (s : State) :
    exec (.operandAreaAccepted sl e) s = .next (gated false (below 8 sl && below 64 e) (opOperandAreaAccepted sl e) s) := rfl
theorem exec_churnNextRead (src sl e : Nat) (s : State) :
    exec (.churnNextRead src sl e) s = .next (gated false (below 8 sl && below 64 e) (opChurnNextRead src sl e) s) := rfl
theorem exec_killAcknowledgement (sl e : Nat) (s : State) :
    exec (.killAcknowledgement sl e) s = .next (gated false (below 8 sl && below 64 e) (opKillAcknowledgement sl e) s) := rfl
theorem exec_packetAccepted (id : Nat) (s : State) :
    exec (.packetAccepted id) s = .next (gated false true (opPacketAccepted id) s) := rfl
theorem exec_acceptanceNotice (id : Nat) (s : State) :
    exec (.acceptanceNotice id) s = .next (gated false true (opAcceptanceNotice id) s) := rfl
theorem exec_requestTimeout (id : Nat) (s : State) :
    exec (.requestTimeout id) s = .next (gated false true (opRequestTimeout id) s) := rfl
theorem exec_lateAnswer (id : Nat) (s : State) :
    exec (.lateAnswer id) s = .next (gated false true (opLateAnswer id) s) := rfl
theorem exec_placeFreed (id : Nat) (s : State) :
    exec (.placeFreed id) s = .next (gated false true (opPlaceFreed id) s) := rfl
theorem exec_heldRequestInjected (id : Nat) (s : State) :
    exec (.heldRequestInjected id) s = .next (gated false true (opHeldRequestInjected id) s) := rfl
theorem exec_routerApply (n : Nat) (s : State) :
    exec (.routerApply n) s = .next (gated false (below 48 n) (opRouterApply n) s) := rfl
theorem exec_nocDrainSlow (s : State) :
    exec .nocDrainSlow s = .next (gated false true opNocDrainSlow s) := rfl
theorem exec_guardAccess (id : Nat) (s : State) :
    exec (.guardAccess id) s = .next (gated false true (opGuardAccess id) s) := rfl
theorem exec_nack (id : Nat) (s : State) :
    exec (.nack id) s = .next (gated false true (opNack id) s) := rfl
theorem exec_book (id : Nat) (s : State) :
    exec (.book id) s = .next (gated false true (opBook id) s) := rfl
theorem exec_deny (id : Nat) (s : State) :
    exec (.deny id) s = .next (gated false true (opDeny id) s) := rfl
theorem exec_bookRetry (id : Nat) (s : State) :
    exec (.bookRetry id) s = .next (gated false true (opBookRetry id) s) := rfl
theorem exec_grant (id : Nat) (s : State) :
    exec (.grant id) s = .next (gated false true (opGrant id) s) := rfl
theorem exec_niRedSend (src c v : Nat) (ecc : Ecc) (s : State) :
    exec (.niRedSend src c v ecc) s = .next (gated false (below 32 c && below 18446744073709551616 v) (opNiRedSend src c v ecc) s) := rfl
theorem exec_redPacketAtRouter (n id : Nat) (s : State) :
    exec (.redPacketAtRouter n id) s = .next (gated false (below 48 n) (opRedPacketAtRouter n id) s) := rfl
theorem exec_redHoldExpiry (n i : Nat) (s : State) :
    exec (.redHoldExpiry n i) s = .next (gated false (below 48 n && below 32 i) (opRedHoldExpiry n i) s) := rfl
theorem exec_niRedSetup (src c tag count cls : Nat) (s : State) :
    exec (.niRedSetup src c tag count cls) s = .next (gated false (below 32 c && below 4096 tag && below 8 cls) (opNiRedSetup src c tag count cls) s) := rfl
theorem exec_redSetupReceived (id : Nat) (s : State) :
    exec (.redSetupReceived id) s = .next (gated false true (opRedSetupReceived id) s) := rfl
theorem exec_redPartial (c id : Nat) (s : State) :
    exec (.redPartial c id) s = .next (gated false (below 32 c) (opRedPartial c id) s) := rfl
theorem exec_redTableAnswer (c tag : Nat) (s : State) :
    exec (.redTableAnswer c tag) s = .next (gated false (below 32 c && below 4096 tag) (opRedTableAnswer c tag) s) := rfl
theorem exec_redResultAccepted (c tag : Nat) (s : State) :
    exec (.redResultAccepted c tag) s = .next (gated false (below 32 c && below 4096 tag) (opRedResultAccepted c tag) s) := rfl
theorem exec_memoryAccessServed (id : Nat) (ecc : Ecc) (s : State) :
    exec (.memoryAccessServed id ecc) s = .next (gated false true (opMemoryAccessServed id ecc) s) := rfl
theorem exec_dramTrainingEnd (ch : Nat) (failed : Bool) (s : State) :
    exec (.dramTrainingEnd ch failed) s = .next (gated false (below 4 ch) (opDramTrainingEnd ch failed) s) := rfl
theorem exec_dramTemperatureRead (ch : Nat) (hot : Bool) (s : State) :
    exec (.dramTemperatureRead ch hot) s = .next (gated false (below 4 ch) (opDramTemperatureRead ch hot) s) := rfl
theorem exec_scrubPass (ch corr : Nat) (s : State) :
    exec (.scrubPass ch corr) s = .next (gated false (below 4 ch) (opScrubPass ch corr) s) := rfl
theorem exec_dmaChStart (src e ch addr : Nat) (s : State) :
    exec (.dmaChStart src e ch addr) s = .next (gated false (below 33 e && chanOk e ch) (opDmaChStart src e ch addr) s) := rfl
theorem exec_dmaDescriptorFetched (e ch : Nat) (s : State) :
    exec (.dmaDescriptorFetched e ch) s = .next (gated false (below 33 e && chanOk e ch) (opDmaDescriptorFetched e ch) s) := rfl
theorem exec_dmaBurstIssue (e : Nat) (pre : Bool) (s : State) :
    exec (.dmaBurstIssue e pre) s = .next (gated false (below 33 e) (opDmaBurstIssue e pre) s) := rfl
theorem exec_dmaReadAnswer (e ch id : Nat) (s : State) :
    exec (.dmaReadAnswer e ch id) s = .next (gated false (below 33 e && chanOk e ch) (opDmaReadAnswer e ch id) s) := rfl
theorem exec_dmaQuiet (e : Nat) (s : State) :
    exec (.dmaQuiet e) s = .next (gated false (below 33 e) (opDmaQuiet e) s) := rfl
theorem exec_busClr (src e : Nat) (en : Bool) (s : State) :
    exec (.busClr src e en) s = .next (gated false (below 33 e) (opBusClr src e en) s) := rfl
theorem exec_dmaDataAccepted (e ch : Nat) (s : State) :
    exec (.dmaDataAccepted e ch) s = .next (gated false (below 33 e && chanOk e ch) (opDmaDataAccepted e ch) s) := rfl
theorem exec_dmaCrcAccepted (e ch : Nat) (s : State) :
    exec (.dmaCrcAccepted e ch) s = .next (gated false (below 33 e && chanOk e ch) (opDmaCrcAccepted e ch) s) := rfl
theorem exec_dmaStatusAccepted (e ch : Nat) (s : State) :
    exec (.dmaStatusAccepted e ch) s = .next (gated false (below 33 e && chanOk e ch) (opDmaStatusAccepted e ch) s) := rfl
theorem exec_dmaOwnAccepted (e ch : Nat) (s : State) :
    exec (.dmaOwnAccepted e ch) s = .next (gated false (below 33 e && chanOk e ch) (opDmaOwnAccepted e ch) s) := rfl
theorem exec_dmaChStop (src e ch : Nat) (s : State) :
    exec (.dmaChStop src e ch) s = .next (gated false (below 33 e && chanOk e ch) (opDmaChStop src e ch) s) := rfl
theorem exec_dmaStopComplete (e ch : Nat) (s : State) :
    exec (.dmaStopComplete e ch) s = .next (gated false (below 33 e && chanOk e ch) (opDmaStopComplete e ch) s) := rfl
theorem exec_cfaChReadyWrite (src ch v : Nat) (s : State) :
    exec (.cfaChReadyWrite src ch v) s = .next (gated false (below 1024 ch && below 18446744073709551616 v) (opCfaChReadyWrite src ch v) s) := rfl
theorem exec_cfaHandover (id : Nat) (s : State) :
    exec (.cfaHandover id) s = .next (gated false true (opCfaHandover id) s) := rfl
theorem exec_cfaCoefWrite (src k i v : Nat) (s : State) :
    exec (.cfaCoefWrite src k i v) s = .next (gated false (below 256 k && below 384 i && below 18446744073709551616 v) (opCfaCoefWrite src k i v) s) := rfl
theorem exec_cfaLineRead (ch : Nat) (s : State) :
    exec (.cfaLineRead ch) s = .next (gated false (below 1024 ch) (opCfaLineRead ch) s) := rfl
theorem exec_cfaLineReadAnswer (ch id : Nat) (s : State) :
    exec (.cfaLineReadAnswer ch id) s = .next (gated false (below 1024 ch) (opCfaLineReadAnswer ch id) s) := rfl
theorem exec_detectorWindowEnd (ch : Nat) (s : State) :
    exec (.detectorWindowEnd ch) s = .next (gated false (below 1024 ch) (opDetectorWindowEnd ch) s) := rfl
theorem exec_gateDecision (m : Nat) (s : State) :
    exec (.gateDecision m) s = .next (gated false (below 17 m) (opGateDecision m) s) := rfl
theorem exec_gateEntryReadAnswer (m : Nat) (s : State) :
    exec (.gateEntryReadAnswer m) s = .next (gated false (below 17 m) (opGateEntryReadAnswer m) s) := rfl
theorem exec_gateFrameReadAnswer (m : Nat) (s : State) :
    exec (.gateFrameReadAnswer m) s = .next (gated false (below 17 m) (opGateFrameReadAnswer m) s) := rfl
theorem exec_gateLaunch (m : Nat) (s : State) :
    exec (.gateLaunch m) s = .next (gated false (below 17 m) (opGateLaunch m) s) := rfl
theorem exec_anComplete (m : Nat) (same sym asym eee : Bool) (s : State) :
    exec (.anComplete m same sym asym eee) s = .next (gated false (below 16 m) (opAnComplete m same sym asym eee) s) := rfl
theorem exec_linkTrainingComplete (m : Nat) (s : State) :
    exec (.linkTrainingComplete m) s = .next (gated false (below 16 m) (opLinkTrainingComplete m) s) := rfl
theorem exec_portLinkLoss (m : Nat) (s : State) :
    exec (.portLinkLoss m) s = .next (gated false (below 17 m) (opPortLinkLoss m) s) := rfl
theorem exec_detectAttempt (l : Nat) (s : State) :
    exec (.detectAttempt l) s = .next (gated false (below 32 l) (opDetectAttempt l) s) := rfl
theorem exec_receiverDetected (l : Nat) (s : State) :
    exec (.receiverDetected l) s = .next (gated false (below 32 l) (opReceiverDetected l) s) := rfl
theorem exec_bitLock (l : Nat) (s : State) :
    exec (.bitLock l) s = .next (gated false (below 32 l) (opBitLock l) s) := rfl
theorem exec_symbolLock (l viol : Nat) (s : State) :
    exec (.symbolLock l viol) s = .next (gated false (below 32 l) (opSymbolLock l viol) s) := rfl
theorem exec_trainTimeout (l : Nat) (s : State) :
    exec (.trainTimeout l) s = .next (gated false (below 32 l) (opTrainTimeout l) s) := rfl
theorem exec_lockTimeout (l viol : Nat) (s : State) :
    exec (.lockTimeout l viol) s = .next (gated false (below 32 l) (opLockTimeout l viol) s) := rfl
theorem exec_capsTimeout (l : Nat) (s : State) :
    exec (.capsTimeout l) s = .next (gated false (below 32 l) (opCapsTimeout l) s) := rfl
theorem exec_stepTimeout (l viol : Nat) (s : State) :
    exec (.stepTimeout l viol) s = .next (gated false (below 32 l) (opStepTimeout l viol) s) := rfl
theorem exec_capsSetReceived (l : Nat) (gs : List Nat) (viol : Nat) (s : State) :
    exec (.capsSetReceived l gs viol) s = .next (gated false (below 32 l) (opCapsSetReceived l gs viol) s) := rfl
theorem exec_tscReceived (l : Nat) (gs : List Nat) (viol : Nat) (s : State) :
    exec (.tscReceived l gs viol) s = .next (gated false (below 32 l) (opTscReceived l gs viol) s) := rfl
theorem exec_tscCountZeroSent (l : Nat) (s : State) :
    exec (.tscCountZeroSent l) s = .next (gated false (below 32 l) (opTscCountZeroSent l) s) := rfl
theorem exec_lockLoss (l viol : Nat) (s : State) :
    exec (.lockLoss l viol) s = .next (gated false (below 32 l) (opLockLoss l viol) s) := rfl
theorem exec_signalLoss (l : Nat) (s : State) :
    exec (.signalLoss l) s = .next (gated false (below 32 l) (opSignalLoss l) s) := rfl
theorem exec_tetherRestart (src l : Nat) (s : State) :
    exec (.tetherRestart src l) s = .next (gated false (below 32 l) (opTetherRestart src l) s) := rfl
theorem exec_clrCeil (src l : Nat) (s : State) :
    exec (.clrCeil src l) s = .next (gated false (below 32 l) (opClrCeil src l) s) := rfl
theorem exec_tetherBlockSend (l turn : Nat) (cut : Option Nat) (ecc : Ecc) (word : Nat) (s : State) :
    exec (.tetherBlockSend l turn cut ecc word) s = .next (gated false (below 32 l) (opTetherBlockSend l turn cut ecc word) s) := rfl
theorem exec_tetherBlockReceived (l : Nat) (gs : List Nat) (viol arrive : Nat) (ecc : Ecc) (word prbs : Nat) (s : State) :
    exec (.tetherBlockReceived l gs viol arrive ecc word prbs) s = .next (gated false (below 32 l) (opTetherBlockReceived l gs viol arrive ecc word prbs) s) := rfl
theorem exec_leaveComplete (l : Nat) (s : State) :
    exec (.leaveComplete l) s = .next (gated false (below 32 l) (opLeaveComplete l) s) := rfl
theorem exec_ctlRingWriteAccepted (l : Nat) (s : State) :
    exec (.ctlRingWriteAccepted l) s = .next (gated false (below 32 l) (opCtlRingWriteAccepted l) s) := rfl
theorem exec_ctlTxEntryRead (l : Nat) (s : State) :
    exec (.ctlTxEntryRead l) s = .next (gated false (below 32 l) (opCtlTxEntryRead l) s) := rfl
theorem exec_ctlTxEntryAnswer (l : Nat) (s : State) :
    exec (.ctlTxEntryAnswer l) s = .next (gated false (below 32 l) (opCtlTxEntryAnswer l) s) := rfl
theorem exec_ctleAdapt (l : Nat) (up : Bool) (s : State) :
    exec (.ctleAdapt l up) s = .next (gated false (below 32 l) (opCtleAdapt l up) s) := rfl
theorem exec_frameReceived (m : Nat) (bs : List Byte) (mark frag : Bool) (back : Nat) (s : State) :
    exec (.frameReceived m bs mark frag back) s = .next (gated false (below 17 m) (opFrameReceived m bs mark frag back) s) := rfl
theorem exec_rxqEntryAnswer (m q : Nat) (s : State) :
    exec (.rxqEntryAnswer m q) s = .next (gated false (below 17 m && below 256 q) (opRxqEntryAnswer m q) s) := rfl
theorem exec_rxStatusReadAnswer (m q : Nat) (s : State) :
    exec (.rxStatusReadAnswer m q) s = .next (gated false (below 17 m && below 256 q) (opRxStatusReadAnswer m q) s) := rfl
theorem exec_rxFrameWritesAccepted (m q : Nat) (s : State) :
    exec (.rxFrameWritesAccepted m q) s = .next (gated false (below 17 m && below 256 q) (opRxFrameWritesAccepted m q) s) := rfl
theorem exec_rxStatusWriteAccepted (m q : Nat) (s : State) :
    exec (.rxStatusWriteAccepted m q) s = .next (gated false (below 17 m && below 256 q) (opRxStatusWriteAccepted m q) s) := rfl
theorem exec_macRxqReset (src m q : Nat) (s : State) :
    exec (.macRxqReset src m q) s = .next (gated false (below 17 m && below 256 q) (opMacRxqReset src m q) s) := rfl
theorem exec_pauseFrameReceived (m : Nat) (pfc : Bool) (mask none0 : Nat) (s : State) :
    exec (.pauseFrameReceived m pfc mask none0) s = .next (gated false (below 17 m && below 256 mask) (opPauseFrameReceived m pfc mask none0) s) := rfl
theorem exec_pauseTimerEnd (m mask : Nat) (s : State) :
    exec (.pauseTimerEnd m mask) s = .next (gated false (below 17 m && below 512 mask) (opPauseTimerEnd m mask) s) := rfl
theorem exec_pauseRepeat (m : Nat) (s : State) :
    exec (.pauseRepeat m) s = .next (gated false (below 17 m) (opPauseRepeat m) s) := rfl
theorem exec_txDescriptorRead (m q : Nat) (s : State) :
    exec (.txDescriptorRead m q) s = .next (gated false (below 17 m && below 8 q) (opTxDescriptorRead m q) s) := rfl
theorem exec_txDescriptorAnswer (m q : Nat) (s : State) :
    exec (.txDescriptorAnswer m q) s = .next (gated false (below 17 m && below 8 q) (opTxDescriptorAnswer m q) s) := rfl
theorem exec_txFrameReadAnswer (m q : Nat) (s : State) :
    exec (.txFrameReadAnswer m q) s = .next (gated false (below 17 m && below 8 q) (opTxFrameReadAnswer m q) s) := rfl
theorem exec_txFrameStart (m : Nat) (s : State) :
    exec (.txFrameStart m) s = .next (gated false (below 17 m) (opTxFrameStart m) s) := rfl
theorem exec_fragmentPreempt (m n : Nat) (s : State) :
    exec (.fragmentPreempt m n) s = .next (gated false (below 17 m) (opFragmentPreempt m n) s) := rfl
theorem exec_txFrameEnd (m : Nat) (s : State) :
    exec (.txFrameEnd m) s = .next (gated false (below 17 m) (opTxFrameEnd m) s) := rfl
theorem exec_txCompletionAccepted (m q : Nat) (s : State) :
    exec (.txCompletionAccepted m q) s = .next (gated false (below 17 m && below 8 q) (opTxCompletionAccepted m q) s) := rfl
theorem exec_verifyTimeout (m : Nat) (s : State) :
    exec (.verifyTimeout m) s = .next (gated false (below 17 m) (opVerifyTimeout m) s) := rfl
theorem exec_verifyResponseReceived (m : Nat) (s : State) :
    exec (.verifyResponseReceived m) s = .next (gated false (below 17 m) (opVerifyResponseReceived m) s) := rfl
theorem exec_holdAssert (m : Nat) (s : State) :
    exec (.holdAssert m) s = .next (gated false (below 17 m) (opHoldAssert m) s) := rfl
theorem exec_lpiEntry (m : Nat) (s : State) :
    exec (.lpiEntry m) s = .next (gated false (below 17 m) (opLpiEntry m) s) := rfl
theorem exec_lpiWakeDone (m : Nat) (s : State) :
    exec (.lpiWakeDone m) s = .next (gated false (below 17 m) (opLpiWakeDone m) s) := rfl
theorem exec_timeIncWrite (src v : Nat) (s : State) :
    exec (.timeIncWrite src v) s = .next (gated false (below 18446744073709551616 v) (opTimeIncWrite src v) s) := rfl
theorem exec_timeSlewIncWrite (src v : Nat) (s : State) :
    exec (.timeSlewIncWrite src v) s = .next (gated false (below 18446744073709551616 v) (opTimeSlewIncWrite src v) s) := rfl
theorem exec_timeSlewCntWrite (src v : Nat) (s : State) :
    exec (.timeSlewCntWrite src v) s = .next (gated false (below 18446744073709551616 v) (opTimeSlewCntWrite src v) s) := rfl
theorem exec_slewEnd (s : State) :
    exec .slewEnd s = .next (gated true true opSlewEnd s) := rfl
theorem exec_timeNowSecRead (src : Nat) (s : State) :
    exec (.timeNowSecRead src) s = .next (gated false true (opTimeNowSecRead src) s) := rfl
theorem exec_timeNowSubRead (src : Nat) (s : State) :
    exec (.timeNowSubRead src) s = .next (gated false true (opTimeNowSubRead src) s) := rfl
theorem exec_timeValidWrite (src : Nat) (on : Bool) (s : State) :
    exec (.timeValidWrite src on) s = .next (gated false true (opTimeValidWrite src on) s) := rfl
theorem exec_timeLoad (src : Nat) (valid : Bool) (s : State) :
    exec (.timeLoad src valid) s = .next (gated false true (opTimeLoad src valid) s) := rfl
theorem exec_timeCapture (n : Nat) (s : State) :
    exec (.timeCapture n) s = .next (gated true (below 2 n) (opTimeCapture n) s) := rfl
theorem exec_timeTrig (n : Nat) (s : State) :
    exec (.timeTrig n) s = .next (gated true (below 16 n) (opTimeTrig n) s) := rfl
theorem exec_timeOutPulseEnd (n : Nat) (s : State) :
    exec (.timeOutPulseEnd n) s = .next (gated true (below 4 n) (opTimeOutPulseEnd n) s) := rfl
theorem exec_silentProbe (p : Nat) (s : State) :
    exec (.silentProbe p) s = .next (gated false (below 16 p) (opSilentProbe p) s) := rfl
theorem exec_probeReceived (p : Nat) (s : State) :
    exec (.probeReceived p) s = .next (gated false (below 16 p) (opProbeReceived p) s) := rfl
theorem exec_probeComplete (p : Nat) (snr theirs : List Nat) (s : State) :
    exec (.probeComplete p snr theirs) s = .next (gated false (below 16 p) (opProbeComplete p snr theirs) s) := rfl
theorem exec_probeTimeout (p : Nat) (s : State) :
    exec (.probeTimeout p) s = .next (gated false (below 16 p) (opProbeTimeout p) s) := rfl
theorem exec_ectrainComplete (p echo : Nat) (s : State) :
    exec (.ectrainComplete p echo) s = .next (gated false (below 16 p) (opEctrainComplete p echo) s) := rfl
theorem exec_echoCheck8ms (p echo : Nat) (s : State) :
    exec (.echoCheck8ms p echo) s = .next (gated false (below 16 p) (opEchoCheck8ms p echo) s) := rfl
theorem exec_ectrainTimeout (p : Nat) (s : State) :
    exec (.ectrainTimeout p) s = .next (gated false (below 16 p) (opEctrainTimeout p) s) := rfl
theorem exec_exchangeComplete (p : Nat) (s : State) :
    exec (.exchangeComplete p) s = .next (gated false (below 16 p) (opExchangeComplete p) s) := rfl
theorem exec_exchangeTimeout (p : Nat) (s : State) :
    exec (.exchangeTimeout p) s = .next (gated false (below 16 p) (opExchangeTimeout p) s) := rfl
theorem exec_lineSignalLoss (p : Nat) (s : State) :
    exec (.lineSignalLoss p) s = .next (gated false (below 16 p) (opLineSignalLoss p) s) := rfl
theorem exec_fecFail (p : Nat) (s : State) :
    exec (.fecFail p) s = .next (gated false (below 16 p) (opFecFail p) s) := rfl
theorem exec_linePairRestart (src p : Nat) (s : State) :
    exec (.linePairRestart src p) s = .next (gated false (below 16 p) (opLinePairRestart src p) s) := rfl
theorem exec_lineLpiEntry (p : Nat) (rx : Bool) (s : State) :
    exec (.lineLpiEntry p rx) s = .next (gated false (below 16 p) (opLineLpiEntry p rx) s) := rfl
theorem exec_refreshBurst (p : Nat) (s : State) :
    exec (.refreshBurst p) s = .next (gated false (below 16 p) (opRefreshBurst p) s) := rfl
theorem exec_energyDetect (p : Nat) (x : List Nat) (s : State) :
    exec (.energyDetect p x) s = .next (gated false (below 16 p) (opEnergyDetect p x) s) := rfl
theorem exec_earlyTest (p : Nat) (before r : List Int) (x : List Nat) (s : State) :
    exec (.earlyTest p before r x) s = .next (gated false (below 16 p) (opEarlyTest p before r x) s) := rfl
theorem exec_fullTest (p : Nat) (r : List Int) (x : List Nat) (s : State) :
    exec (.fullTest p r x) s = .next (gated false (below 16 p) (opFullTest p r x) s) := rfl
theorem exec_delimiterCheck (p : Nat) (d inv : Byte) (x : List Nat) (s : State) :
    exec (.delimiterCheck p d inv x) s = .next (gated false (below 16 p) (opDelimiterCheck p d inv x) s) := rfl
theorem exec_reacquire (p : Nat) (x : List Nat) (s : State) :
    exec (.reacquire p x) s = .next (gated false (below 16 p) (opReacquire p x) s) := rfl
theorem exec_capture (p : Nat) (r : List Int) (x : List Nat) (s : State) :
    exec (.capture p r x) s = .next (gated false (below 16 p) (opCapture p r x) s) := rfl
theorem exec_burstEnd (p : Nat) (s : State) :
    exec (.burstEnd p) s = .next (gated false (below 16 p) (opBurstEnd p) s) := rfl
theorem exec_holdoffExit (p : Nat) (x : List Nat) (s : State) :
    exec (.holdoffExit p x) s = .next (gated false (below 16 p) (opHoldoffExit p x) s) := rfl
theorem exec_codewordReceived (p : Nat) (ok : Bool) (s : State) :
    exec (.codewordReceived p ok) s = .next (gated false (below 16 p) (opCodewordReceived p ok) s) := rfl
theorem exec_fragmentSend (p : Nat) (cont : Bool) (s : State) :
    exec (.fragmentSend p cont) s = .next (gated false (below 16 p) (opFragmentSend p cont) s) := rfl
theorem exec_fragmentReceived (p hdr : Nat) (bs : List Byte) (back : Nat) (s : State) :
    exec (.fragmentReceived p hdr bs back) s = .next (gated false (below 16 p) (opFragmentReceived p hdr bs back) s) := rfl
theorem exec_reassemblyTimeout (s : State) :
    exec .reassemblyTimeout s = .next (gated false true opReassemblyTimeout s) := rfl
theorem exec_starterRun (pll : Bool) (nor bad : Nat) (s : State) :
    exec (.starterRun pll nor bad) s = .next (gated false true (opStarterRun pll nor bad) s) := rfl
theorem exec_hostAccess (csr : Bool) (off : Nat) (data : Option (List Byte)) (len : Nat) (s : State) :
    exec (.hostAccess csr off data len) s = .next (gated false true (opHostAccess csr off data len) s) := rfl
theorem exec_hostWindowCompletion (id outcome : Nat) (data : List Byte) (s : State) :
    exec (.hostWindowCompletion id outcome data) s = .next (gated false true (opHostWindowCompletion id outcome data) s) := rfl
theorem exec_pcieResetSignal (s : State) :
    exec .pcieResetSignal s = .next (gated false true opPcieResetSignal s) := rfl
theorem exec_functionLevelReset (s : State) :
    exec .functionLevelReset s = .next (gated false true opFunctionLevelReset s) := rfl
theorem exec_pcieLink (up : Bool) (gen width : Nat) (flit : Bool) (s : State) :
    exec (.pcieLink up gen width flit) s = .next (gated false true (opPcieLink up gen width flit) s) := rfl
theorem exec_getStatus (src : CmdSrc) (s : State) :
    exec (.getStatus src) s = .next (gated true true (opGetStatus src) s) := rfl
theorem exec_readRegs (src : CmdSrc) (s : State) :
    exec (.readRegs src) s = .next (gated true true (opReadRegs src) s) := rfl
theorem exec_getCounter (src : CmdSrc) (s : State) :
    exec (.getCounter src) s = .next (gated true true (opGetCounter src) s) := rfl
theorem exec_attest (src : CmdSrc) (s : State) :
    exec (.attest src) s = .next (gated true true (opAttest src) s) := rfl
theorem exec_getAttestKey (src : CmdSrc) (s : State) :
    exec (.getAttestKey src) s = .next (gated true true (opGetAttestKey src) s) := rfl
theorem exec_getAttestCert (src : CmdSrc) (s : State) :
    exec (.getAttestCert src) s = .next (gated true true (opGetAttestCert src) s) := rfl
theorem exec_certReadDone (s : State) :
    exec .certReadDone s = .next (gated true true opCertReadDone s) := rfl
theorem exec_writeRegs (src : CmdSrc) (s : State) :
    exec (.writeRegs src) s = .next (gated true true (opWriteRegs src) s) := rfl
theorem exec_switchImage (src : CmdSrc) (s : State) :
    exec (.switchImage src) s = .next (gated true true (opSwitchImage src) s) := rfl
theorem exec_writeImage (src : CmdSrc) (s : State) :
    exec (.writeImage src) s = .next (gated true true (opWriteImage src) s) := rfl
theorem exec_imageWriteDone (ok : Bool) (s : State) :
    exec (.imageWriteDone ok) s = .next (gated true true (opImageWriteDone ok) s) := rfl
theorem exec_keyRevoke (src : CmdSrc) (s : State) :
    exec (.keyRevoke src) s = .next (gated true true (opKeyRevoke src) s) := rfl
theorem exec_slotRevoke (src : CmdSrc) (s : State) :
    exec (.slotRevoke src) s = .next (gated true true (opSlotRevoke src) s) := rfl
theorem exec_svnAdvance (src : CmdSrc) (s : State) :
    exec (.svnAdvance src) s = .next (gated true true (opSvnAdvance src) s) := rfl
theorem exec_power (src : CmdSrc) (s : State) :
    exec (.power src) s = .next (gated true true (opPower src) s) := rfl
theorem exec_replayEnter (src : CmdSrc) (s : State) :
    exec (.replayEnter src) s = .next (gated true true (opReplayEnter src) s) := rfl
theorem exec_replayExit (src : CmdSrc) (s : State) :
    exec (.replayExit src) s = .next (gated true true (opReplayExit src) s) := rfl
theorem exec_reset (src : CmdSrc) (s : State) :
    exec (.reset src) s = .next (gated true true (opReset src) s) := rfl
theorem exec_journalWriteDone (ok : Bool) (s : State) :
    exec (.journalWriteDone ok) s = .next (gated true true (opJournalWriteDone ok) s) := rfl
theorem exec_commandExecutionStart (s : State) :
    exec .commandExecutionStart s = .next (gated true true opCommandExecutionStart s) := rfl
theorem exec_bootRecordWriteDone (ok : Bool) (s : State) :
    exec (.bootRecordWriteDone ok) s = .next (gated true true (opBootRecordWriteDone ok) s) := rfl
theorem exec_standbyHaltDone (s : State) :
    exec .standbyHaltDone s = .next (gated false true opStandbyHaltDone s) := rfl
theorem exec_standbyQuietDone (s : State) :
    exec .standbyQuietDone s = .next (gated false true opStandbyQuietDone s) := rfl
theorem exec_standbyDomainsDown (s : State) :
    exec .standbyDomainsDown s = .next (gated false true opStandbyDomainsDown s) := rfl
theorem exec_shedDecision (power volt : Nat) (temp : Int) (s : State) :
    exec (.shedDecision power volt temp) s = .next (gated false true (opShedDecision power volt temp) s) := rfl
theorem exec_pwrHot (s : State) :
    exec .pwrHot s = .next (gated false true opPwrHot s) := rfl
theorem exec_thermalTrip (s : State) :
    exec .thermalTrip s = .next (gated false true opThermalTrip s) := rfl
theorem exec_wakeIn (s : State) :
    exec .wakeIn s = .next (wellFormed true opWakeIn s) := rfl
theorem exec_domainWakeDone (d : Nat) (ecc : Ecc) (s : State) :
    exec (.domainWakeDone d ecc) s = .next (gated false (below 641 d) (opDomainWakeDone d ecc) s) := rfl
theorem exec_wakeTimeout (d : Nat) (s : State) :
    exec (.wakeTimeout d) s = .next (gated false (below 641 d) (opWakeTimeout d) s) := rfl
theorem exec_wakeRetry (d : Nat) (s : State) :
    exec (.wakeRetry d) s = .next (gated false (below 641 d) (opWakeRetry d) s) := rfl
theorem exec_fenceDrained (d : Nat) (s : State) :
    exec (.fenceDrained d) s = .next (gated false (below 641 d) (opFenceDrained d) s) := rfl
theorem exec_prechargeContact (s : State) :
    exec .prechargeContact s = .next (wellFormed true opPrechargeContact s) := rfl
theorem exec_vinRise (s : State) :
    exec .vinRise s = .next (wellFormed true opVinRise s) := rfl
theorem exec_railsGood (s : State) :
    exec .railsGood s = .next (wellFormed true opRailsGood s) := rfl
theorem exec_presentDebounced (s : State) :
    exec .presentDebounced s = .next (wellFormed true opPresentDebounced s) := rfl
theorem exec_powerGoodLoss (s : State) :
    exec .powerGoodLoss s = .next (wellFormed true opPowerGoodLoss s) := rfl
theorem exec_ejectReq (s : State) :
    exec .ejectReq s = .next (wellFormed true opEjectReq s) := rfl
theorem exec_ejectDebounced (s : State) :
    exec .ejectDebounced s = .next (wellFormed true opEjectDebounced s) := rfl
theorem exec_removalQuiesced (s : State) :
    exec .removalQuiesced s = .next (wellFormed true opRemovalQuiesced s) := rfl
theorem exec_removalPoweredDown (s : State) :
    exec .removalPoweredDown s = .next (wellFormed true opRemovalPoweredDown s) := rfl
theorem exec_latchClose (s : State) :
    exec .latchClose s = .next (wellFormed true opLatchClose s) := rfl
theorem exec_presentLost (s : State) :
    exec .presentLost s = .next (wellFormed true opPresentLost s) := rfl
theorem exec_vinLow (s : State) :
    exec .vinLow s = .next (wellFormed true opVinLow s) := rfl
theorem exec_currentLimitTrip (s : State) :
    exec .currentLimitTrip s = .next (wellFormed true opCurrentLimitTrip s) := rfl
theorem exec_tripRestart (s : State) :
    exec .tripRestart s = .next (wellFormed true opTripRestart s) := rfl
theorem exec_hkcPassStart (s : State) :
    exec .hkcPassStart s = .next (gated true true opHkcPassStart s) := rfl
theorem exec_hkcEntryDone (codes : List Nat) (s : State) :
    exec (.hkcEntryDone codes) s = .next (gated true true (opHkcEntryDone codes) s) := rfl
theorem exec_overCurrentDetect (ma : Nat) (s : State) :
    exec (.overCurrentDetect ma) s = .next (gated true true (opOverCurrentDetect ma) s) := rfl
theorem exec_hkcUrgentDone (code wait : Nat) (s : State) :
    exec (.hkcUrgentDone code wait) s = .next (gated true true (opHkcUrgentDone code wait) s) := rfl
theorem exec_ageMark (kind idx code : Nat) (s : State) :
    exec (.ageMark kind idx code) s = .next (gated false true (opAgeMark kind idx code) s) := rfl
theorem exec_wireMark (n d w errs : Nat) (s : State) :
    exec (.wireMark n d w errs) s = .next (gated false (below 48 n && below 4 d) (opWireMark n d w errs) s) := rfl
theorem exec_engineQuiescent (n : Nat) (s : State) :
    exec (.engineQuiescent n) s = .next (gated false (below 512 n) (opEngineQuiescent n) s) := rfl
theorem exec_spareCopyDone (n : Nat) (s : State) :
    exec (.spareCopyDone n) s = .next (gated false (below 512 n) (opSpareCopyDone n) s) := rfl
theorem exec_spareReqEngine (src n : Nat) (rotate : Bool) (s : State) :
    exec (.spareReqEngine src n rotate) s = .next (gated false (below 512 n) (opSpareReqEngine src n rotate) s) := rfl
theorem exec_spareReqAccelerator (src k : Nat) (s : State) :
    exec (.spareReqAccelerator src k) s = .next (gated false (below 68 k) (opSpareReqAccelerator src k) s) := rfl
theorem exec_spareReqLane (src l : Nat) (s : State) :
    exec (.spareReqLane src l) s = .next (gated false (below 32 l) (opSpareReqLane src l) s) := rfl
theorem exec_spareBist (src kind cluster target : Nat) (s : State) :
    exec (.spareBist src kind cluster target) s = .next (gated false true (opSpareBist src kind cluster target) s) := rfl
theorem exec_bistDone (fail : Bool) (s : State) :
    exec (.bistDone fail) s = .next (gated false true (opBistDone fail) s) := rfl
theorem exec_recTrig (src : Nat) (en : Bool) (s : State) :
    exec (.recTrig src en) s = .next (gated false true (opRecTrig src en) s) := rfl
theorem exec_replayRecordDelivery (s : State) :
    exec .replayRecordDelivery s = .next (gated false true opReplayRecordDelivery s) := rfl
theorem exec_planIssueAnswer (s : State) :
    exec .planIssueAnswer s = .next (gated false true opPlanIssueAnswer s) := rfl
theorem exec_interruptWriteAnswer (s : State) :
    exec .interruptWriteAnswer s = .next (gated false true opInterruptWriteAnswer s) := rfl
theorem exec_commandWriteAnswer (no : Nat) (s : State) :
    exec (.commandWriteAnswer no) s = .next (gated true true (opCommandWriteAnswer no) s) := rfl
theorem exec_lastOutputWrite (k corr uncorr row : Nat) (s : State) :
    exec (.lastOutputWrite k corr uncorr row) s = .next (gated false (below 68 k) (opLastOutputWrite k corr uncorr row) s) := rfl
theorem exec_mainPllFailure (s : State) :
    exec .mainPllFailure s = .next (gated false true opMainPllFailure s) := rfl
theorem exec_badOpcode (src : CmdSrc) (s : State) :
    exec (.badOpcode src) s = .next (gated true true (opBadOpcode src) s) := rfl
theorem exec_c2mPortUp (m : Nat) (s : State) :
    exec (.c2mPortUp m) s = .next (gated false (below 16 m) (opC2mPortUp m) s) := rfl
theorem exec_cfaSamplePeriod (ch : Nat) (s : State) :
    exec (.cfaSamplePeriod ch) s = .next (gated false (below 1024 ch) (opCfaSamplePeriod ch) s) := rfl
theorem exec_lpiRx (m : Nat) (on : Bool) (s : State) :
    exec (.lpiRx m on) s = .next (gated false (below 17 m) (opLpiRx m on) s) := rfl
theorem exec_busMasterEnable (on : Bool) (s : State) :
    exec (.busMasterEnable on) s = .next (gated false true (opBusMasterEnable on) s) := rfl

end Sys2Proof.Machine
end

