-- ==== Sys2Proof/Laws/State.lean ====
section
/-! SUPPORT. What each basic update of the state leaves as it was: one lemma per field and update, so that no proof unfolds a record update. -/
namespace Sys2Proof.Machine

@[simp] theorem wr_round (off : Nat) (v : DWord) (s : State) : (wr off v s).round = s.round := rfl
@[simp] theorem wr_evt (off : Nat) (v : DWord) (s : State) : (wr off v s).evt = s.evt := rfl
@[simp] theorem wr_noc (off : Nat) (v : DWord) (s : State) : (wr off v s).noc = s.noc := rfl
@[simp] theorem wr_mem (off : Nat) (v : DWord) (s : State) : (wr off v s).mem = s.mem := rfl
@[simp] theorem wr_dma (off : Nat) (v : DWord) (s : State) : (wr off v s).dma = s.dma := rfl
@[simp] theorem wr_cfa (off : Nat) (v : DWord) (s : State) : (wr off v s).cfa = s.cfa := rfl
@[simp] theorem wr_mac (off : Nat) (v : DWord) (s : State) : (wr off v s).mac = s.mac := rfl
@[simp] theorem wr_lane (off : Nat) (v : DWord) (s : State) : (wr off v s).lane = s.lane := rfl
@[simp] theorem wr_line (off : Nat) (v : DWord) (s : State) : (wr off v s).line = s.line := rfl
@[simp] theorem wr_time (off : Nat) (v : DWord) (s : State) : (wr off v s).time = s.time := rfl
@[simp] theorem wr_hkc (off : Nat) (v : DWord) (s : State) : (wr off v s).hkc = s.hkc := rfl
@[simp] theorem wr_eng (off : Nat) (v : DWord) (s : State) : (wr off v s).eng = s.eng := rfl
@[simp] theorem wr_dom (off : Nat) (v : DWord) (s : State) : (wr off v s).dom = s.dom := rfl
@[simp] theorem wr_recorder (off : Nat) (v : DWord) (s : State) : (wr off v s).recorder = s.recorder := rfl
@[simp] theorem wr_acc (off : Nat) (v : DWord) (s : State) : (wr off v s).acc = s.acc := rfl
@[simp] theorem wr_churn (off : Nat) (v : DWord) (s : State) : (wr off v s).churn = s.churn := rfl
@[simp] theorem wr_spare (off : Nat) (v : DWord) (s : State) : (wr off v s).spare = s.spare := rfl
@[simp] theorem wr_sec (off : Nat) (v : DWord) (s : State) : (wr off v s).sec = s.sec := rfl
@[simp] theorem wr_pwr (off : Nat) (v : DWord) (s : State) : (wr off v s).pwr = s.pwr := rfl
@[simp] theorem wr_tod (off : Nat) (v : DWord) (s : State) : (wr off v s).tod = s.tod := rfl
@[simp] theorem wr_free (off : Nat) (v : DWord) (s : State) : (wr off v s).free = s.free := rfl
@[simp] theorem wr_pending (off : Nat) (v : DWord) (s : State) : (wr off v s).pending = s.pending := rfl

@[simp] theorem setFld_round (off hi lo x : Nat) (s : State) : (setFld off hi lo x s).round = s.round := rfl
@[simp] theorem setFld_evt (off hi lo x : Nat) (s : State) : (setFld off hi lo x s).evt = s.evt := rfl
@[simp] theorem setFld_noc (off hi lo x : Nat) (s : State) : (setFld off hi lo x s).noc = s.noc := rfl
@[simp] theorem setFld_mem (off hi lo x : Nat) (s : State) : (setFld off hi lo x s).mem = s.mem := rfl
@[simp] theorem setFld_dma (off hi lo x : Nat) (s : State) : (setFld off hi lo x s).dma = s.dma := rfl
@[simp] theorem setFld_cfa (off hi lo x : Nat) (s : State) : (setFld off hi lo x s).cfa = s.cfa := rfl
@[simp] theorem setFld_mac (off hi lo x : Nat) (s : State) : (setFld off hi lo x s).mac = s.mac := rfl
@[simp] theorem setFld_lane (off hi lo x : Nat) (s : State) : (setFld off hi lo x s).lane = s.lane := rfl
@[simp] theorem setFld_line (off hi lo x : Nat) (s : State) : (setFld off hi lo x s).line = s.line := rfl
@[simp] theorem setFld_time (off hi lo x : Nat) (s : State) : (setFld off hi lo x s).time = s.time := rfl
@[simp] theorem setFld_hkc (off hi lo x : Nat) (s : State) : (setFld off hi lo x s).hkc = s.hkc := rfl
@[simp] theorem setFld_eng (off hi lo x : Nat) (s : State) : (setFld off hi lo x s).eng = s.eng := rfl
@[simp] theorem setFld_dom (off hi lo x : Nat) (s : State) : (setFld off hi lo x s).dom = s.dom := rfl
@[simp] theorem setFld_recorder (off hi lo x : Nat) (s : State) : (setFld off hi lo x s).recorder = s.recorder := rfl
@[simp] theorem setFld_acc (off hi lo x : Nat) (s : State) : (setFld off hi lo x s).acc = s.acc := rfl
@[simp] theorem setFld_churn (off hi lo x : Nat) (s : State) : (setFld off hi lo x s).churn = s.churn := rfl
@[simp] theorem setFld_spare (off hi lo x : Nat) (s : State) : (setFld off hi lo x s).spare = s.spare := rfl
@[simp] theorem setFld_sec (off hi lo x : Nat) (s : State) : (setFld off hi lo x s).sec = s.sec := rfl
@[simp] theorem setFld_pwr (off hi lo x : Nat) (s : State) : (setFld off hi lo x s).pwr = s.pwr := rfl
@[simp] theorem setFld_tod (off hi lo x : Nat) (s : State) : (setFld off hi lo x s).tod = s.tod := rfl
@[simp] theorem setFld_free (off hi lo x : Nat) (s : State) : (setFld off hi lo x s).free = s.free := rfl
@[simp] theorem setFld_pending (off hi lo x : Nat) (s : State) : (setFld off hi lo x s).pending = s.pending := rfl

@[simp] theorem setFlag_round (off i : Nat) (s : State) : (setFlag off i s).round = s.round := rfl
@[simp] theorem setFlag_evt (off i : Nat) (s : State) : (setFlag off i s).evt = s.evt := rfl
@[simp] theorem setFlag_noc (off i : Nat) (s : State) : (setFlag off i s).noc = s.noc := rfl
@[simp] theorem setFlag_mem (off i : Nat) (s : State) : (setFlag off i s).mem = s.mem := rfl
@[simp] theorem setFlag_dma (off i : Nat) (s : State) : (setFlag off i s).dma = s.dma := rfl
@[simp] theorem setFlag_cfa (off i : Nat) (s : State) : (setFlag off i s).cfa = s.cfa := rfl
@[simp] theorem setFlag_mac (off i : Nat) (s : State) : (setFlag off i s).mac = s.mac := rfl
@[simp] theorem setFlag_lane (off i : Nat) (s : State) : (setFlag off i s).lane = s.lane := rfl
@[simp] theorem setFlag_line (off i : Nat) (s : State) : (setFlag off i s).line = s.line := rfl
@[simp] theorem setFlag_time (off i : Nat) (s : State) : (setFlag off i s).time = s.time := rfl
@[simp] theorem setFlag_hkc (off i : Nat) (s : State) : (setFlag off i s).hkc = s.hkc := rfl
@[simp] theorem setFlag_eng (off i : Nat) (s : State) : (setFlag off i s).eng = s.eng := rfl
@[simp] theorem setFlag_dom (off i : Nat) (s : State) : (setFlag off i s).dom = s.dom := rfl
@[simp] theorem setFlag_recorder (off i : Nat) (s : State) : (setFlag off i s).recorder = s.recorder := rfl
@[simp] theorem setFlag_acc (off i : Nat) (s : State) : (setFlag off i s).acc = s.acc := rfl
@[simp] theorem setFlag_churn (off i : Nat) (s : State) : (setFlag off i s).churn = s.churn := rfl
@[simp] theorem setFlag_spare (off i : Nat) (s : State) : (setFlag off i s).spare = s.spare := rfl
@[simp] theorem setFlag_sec (off i : Nat) (s : State) : (setFlag off i s).sec = s.sec := rfl
@[simp] theorem setFlag_pwr (off i : Nat) (s : State) : (setFlag off i s).pwr = s.pwr := rfl
@[simp] theorem setFlag_tod (off i : Nat) (s : State) : (setFlag off i s).tod = s.tod := rfl
@[simp] theorem setFlag_free (off i : Nat) (s : State) : (setFlag off i s).free = s.free := rfl
@[simp] theorem setFlag_pending (off i : Nat) (s : State) : (setFlag off i s).pending = s.pending := rfl

@[simp] theorem bumpBy_round (off k : Nat) (s : State) : (bumpBy off k s).round = s.round := rfl
@[simp] theorem bumpBy_evt (off k : Nat) (s : State) : (bumpBy off k s).evt = s.evt := rfl
@[simp] theorem bumpBy_noc (off k : Nat) (s : State) : (bumpBy off k s).noc = s.noc := rfl
@[simp] theorem bumpBy_mem (off k : Nat) (s : State) : (bumpBy off k s).mem = s.mem := rfl
@[simp] theorem bumpBy_dma (off k : Nat) (s : State) : (bumpBy off k s).dma = s.dma := rfl
@[simp] theorem bumpBy_cfa (off k : Nat) (s : State) : (bumpBy off k s).cfa = s.cfa := rfl
@[simp] theorem bumpBy_mac (off k : Nat) (s : State) : (bumpBy off k s).mac = s.mac := rfl
@[simp] theorem bumpBy_lane (off k : Nat) (s : State) : (bumpBy off k s).lane = s.lane := rfl
@[simp] theorem bumpBy_line (off k : Nat) (s : State) : (bumpBy off k s).line = s.line := rfl
@[simp] theorem bumpBy_time (off k : Nat) (s : State) : (bumpBy off k s).time = s.time := rfl
@[simp] theorem bumpBy_hkc (off k : Nat) (s : State) : (bumpBy off k s).hkc = s.hkc := rfl
@[simp] theorem bumpBy_eng (off k : Nat) (s : State) : (bumpBy off k s).eng = s.eng := rfl
@[simp] theorem bumpBy_dom (off k : Nat) (s : State) : (bumpBy off k s).dom = s.dom := rfl
@[simp] theorem bumpBy_recorder (off k : Nat) (s : State) : (bumpBy off k s).recorder = s.recorder := rfl
@[simp] theorem bumpBy_acc (off k : Nat) (s : State) : (bumpBy off k s).acc = s.acc := rfl
@[simp] theorem bumpBy_churn (off k : Nat) (s : State) : (bumpBy off k s).churn = s.churn := rfl
@[simp] theorem bumpBy_spare (off k : Nat) (s : State) : (bumpBy off k s).spare = s.spare := rfl
@[simp] theorem bumpBy_sec (off k : Nat) (s : State) : (bumpBy off k s).sec = s.sec := rfl
@[simp] theorem bumpBy_pwr (off k : Nat) (s : State) : (bumpBy off k s).pwr = s.pwr := rfl
@[simp] theorem bumpBy_tod (off k : Nat) (s : State) : (bumpBy off k s).tod = s.tod := rfl
@[simp] theorem bumpBy_free (off k : Nat) (s : State) : (bumpBy off k s).free = s.free := rfl
@[simp] theorem bumpBy_pending (off k : Nat) (s : State) : (bumpBy off k s).pending = s.pending := rfl

@[simp] theorem bump_round (off : Nat) (s : State) : (bump off s).round = s.round := rfl
@[simp] theorem bump_evt (off : Nat) (s : State) : (bump off s).evt = s.evt := rfl
@[simp] theorem bump_noc (off : Nat) (s : State) : (bump off s).noc = s.noc := rfl
@[simp] theorem bump_mem (off : Nat) (s : State) : (bump off s).mem = s.mem := rfl
@[simp] theorem bump_dma (off : Nat) (s : State) : (bump off s).dma = s.dma := rfl
@[simp] theorem bump_cfa (off : Nat) (s : State) : (bump off s).cfa = s.cfa := rfl
@[simp] theorem bump_mac (off : Nat) (s : State) : (bump off s).mac = s.mac := rfl
@[simp] theorem bump_lane (off : Nat) (s : State) : (bump off s).lane = s.lane := rfl
@[simp] theorem bump_line (off : Nat) (s : State) : (bump off s).line = s.line := rfl
@[simp] theorem bump_time (off : Nat) (s : State) : (bump off s).time = s.time := rfl
@[simp] theorem bump_hkc (off : Nat) (s : State) : (bump off s).hkc = s.hkc := rfl
@[simp] theorem bump_eng (off : Nat) (s : State) : (bump off s).eng = s.eng := rfl
@[simp] theorem bump_dom (off : Nat) (s : State) : (bump off s).dom = s.dom := rfl
@[simp] theorem bump_recorder (off : Nat) (s : State) : (bump off s).recorder = s.recorder := rfl
@[simp] theorem bump_acc (off : Nat) (s : State) : (bump off s).acc = s.acc := rfl
@[simp] theorem bump_churn (off : Nat) (s : State) : (bump off s).churn = s.churn := rfl
@[simp] theorem bump_spare (off : Nat) (s : State) : (bump off s).spare = s.spare := rfl
@[simp] theorem bump_sec (off : Nat) (s : State) : (bump off s).sec = s.sec := rfl
@[simp] theorem bump_pwr (off : Nat) (s : State) : (bump off s).pwr = s.pwr := rfl
@[simp] theorem bump_tod (off : Nat) (s : State) : (bump off s).tod = s.tod := rfl
@[simp] theorem bump_free (off : Nat) (s : State) : (bump off s).free = s.free := rfl
@[simp] theorem bump_pending (off : Nat) (s : State) : (bump off s).pending = s.pending := rfl

@[simp] theorem bump64_round (off k : Nat) (s : State) : (bump64 off k s).round = s.round := rfl
@[simp] theorem bump64_evt (off k : Nat) (s : State) : (bump64 off k s).evt = s.evt := rfl
@[simp] theorem bump64_noc (off k : Nat) (s : State) : (bump64 off k s).noc = s.noc := rfl
@[simp] theorem bump64_mem (off k : Nat) (s : State) : (bump64 off k s).mem = s.mem := rfl
@[simp] theorem bump64_dma (off k : Nat) (s : State) : (bump64 off k s).dma = s.dma := rfl
@[simp] theorem bump64_cfa (off k : Nat) (s : State) : (bump64 off k s).cfa = s.cfa := rfl
@[simp] theorem bump64_mac (off k : Nat) (s : State) : (bump64 off k s).mac = s.mac := rfl
@[simp] theorem bump64_lane (off k : Nat) (s : State) : (bump64 off k s).lane = s.lane := rfl
@[simp] theorem bump64_line (off k : Nat) (s : State) : (bump64 off k s).line = s.line := rfl
@[simp] theorem bump64_time (off k : Nat) (s : State) : (bump64 off k s).time = s.time := rfl
@[simp] theorem bump64_hkc (off k : Nat) (s : State) : (bump64 off k s).hkc = s.hkc := rfl
@[simp] theorem bump64_eng (off k : Nat) (s : State) : (bump64 off k s).eng = s.eng := rfl
@[simp] theorem bump64_dom (off k : Nat) (s : State) : (bump64 off k s).dom = s.dom := rfl
@[simp] theorem bump64_recorder (off k : Nat) (s : State) : (bump64 off k s).recorder = s.recorder := rfl
@[simp] theorem bump64_acc (off k : Nat) (s : State) : (bump64 off k s).acc = s.acc := rfl
@[simp] theorem bump64_churn (off k : Nat) (s : State) : (bump64 off k s).churn = s.churn := rfl
@[simp] theorem bump64_spare (off k : Nat) (s : State) : (bump64 off k s).spare = s.spare := rfl
@[simp] theorem bump64_sec (off k : Nat) (s : State) : (bump64 off k s).sec = s.sec := rfl
@[simp] theorem bump64_pwr (off k : Nat) (s : State) : (bump64 off k s).pwr = s.pwr := rfl
@[simp] theorem bump64_tod (off k : Nat) (s : State) : (bump64 off k s).tod = s.tod := rfl
@[simp] theorem bump64_free (off k : Nat) (s : State) : (bump64 off k s).free = s.free := rfl
@[simp] theorem bump64_pending (off k : Nat) (s : State) : (bump64 off k s).pending = s.pending := rfl

@[simp] theorem raise_round (num inst : Nat) (s : State) : (raise num inst s).round = s.round := by unfold raise; split <;> rfl
@[simp] theorem raise_noc (num inst : Nat) (s : State) : (raise num inst s).noc = s.noc := by unfold raise; split <;> rfl
@[simp] theorem raise_mem (num inst : Nat) (s : State) : (raise num inst s).mem = s.mem := by unfold raise; split <;> rfl
@[simp] theorem raise_dma (num inst : Nat) (s : State) : (raise num inst s).dma = s.dma := by unfold raise; split <;> rfl
@[simp] theorem raise_cfa (num inst : Nat) (s : State) : (raise num inst s).cfa = s.cfa := by unfold raise; split <;> rfl
@[simp] theorem raise_mac (num inst : Nat) (s : State) : (raise num inst s).mac = s.mac := by unfold raise; split <;> rfl
@[simp] theorem raise_lane (num inst : Nat) (s : State) : (raise num inst s).lane = s.lane := by unfold raise; split <;> rfl
@[simp] theorem raise_line (num inst : Nat) (s : State) : (raise num inst s).line = s.line := by unfold raise; split <;> rfl
@[simp] theorem raise_time (num inst : Nat) (s : State) : (raise num inst s).time = s.time := by unfold raise; split <;> rfl
@[simp] theorem raise_hkc (num inst : Nat) (s : State) : (raise num inst s).hkc = s.hkc := by unfold raise; split <;> rfl
@[simp] theorem raise_eng (num inst : Nat) (s : State) : (raise num inst s).eng = s.eng := by unfold raise; split <;> rfl
@[simp] theorem raise_dom (num inst : Nat) (s : State) : (raise num inst s).dom = s.dom := by unfold raise; split <;> rfl
@[simp] theorem raise_recorder (num inst : Nat) (s : State) : (raise num inst s).recorder = s.recorder := by unfold raise; split <;> rfl
@[simp] theorem raise_acc (num inst : Nat) (s : State) : (raise num inst s).acc = s.acc := by unfold raise; split <;> rfl
@[simp] theorem raise_churn (num inst : Nat) (s : State) : (raise num inst s).churn = s.churn := by unfold raise; split <;> rfl
@[simp] theorem raise_spare (num inst : Nat) (s : State) : (raise num inst s).spare = s.spare := by unfold raise; split <;> rfl
@[simp] theorem raise_sec (num inst : Nat) (s : State) : (raise num inst s).sec = s.sec := by unfold raise; split <;> rfl
@[simp] theorem raise_pwr (num inst : Nat) (s : State) : (raise num inst s).pwr = s.pwr := by unfold raise; split <;> rfl
@[simp] theorem raise_tod (num inst : Nat) (s : State) : (raise num inst s).tod = s.tod := by unfold raise; split <;> rfl
@[simp] theorem raise_free (num inst : Nat) (s : State) : (raise num inst s).free = s.free := by unfold raise; split <;> rfl
@[simp] theorem raise_pending (num inst : Nat) (s : State) : (raise num inst s).pending = s.pending := by unfold raise; split <;> rfl

@[simp] theorem flagEvent_round (off bit num inst : Nat) (s : State) : (flagEvent off bit num inst s).round = s.round := by simp only [flagEvent, raise_round, setFlag_round]
@[simp] theorem flagEvent_noc (off bit num inst : Nat) (s : State) : (flagEvent off bit num inst s).noc = s.noc := by simp only [flagEvent, raise_noc, setFlag_noc]
@[simp] theorem flagEvent_mem (off bit num inst : Nat) (s : State) : (flagEvent off bit num inst s).mem = s.mem := by simp only [flagEvent, raise_mem, setFlag_mem]
@[simp] theorem flagEvent_dma (off bit num inst : Nat) (s : State) : (flagEvent off bit num inst s).dma = s.dma := by simp only [flagEvent, raise_dma, setFlag_dma]
@[simp] theorem flagEvent_cfa (off bit num inst : Nat) (s : State) : (flagEvent off bit num inst s).cfa = s.cfa := by simp only [flagEvent, raise_cfa, setFlag_cfa]
@[simp] theorem flagEvent_mac (off bit num inst : Nat) (s : State) : (flagEvent off bit num inst s).mac = s.mac := by simp only [flagEvent, raise_mac, setFlag_mac]
@[simp] theorem flagEvent_lane (off bit num inst : Nat) (s : State) : (flagEvent off bit num inst s).lane = s.lane := by simp only [flagEvent, raise_lane, setFlag_lane]
@[simp] theorem flagEvent_line (off bit num inst : Nat) (s : State) : (flagEvent off bit num inst s).line = s.line := by simp only [flagEvent, raise_line, setFlag_line]
@[simp] theorem flagEvent_time (off bit num inst : Nat) (s : State) : (flagEvent off bit num inst s).time = s.time := by simp only [flagEvent, raise_time, setFlag_time]
@[simp] theorem flagEvent_hkc (off bit num inst : Nat) (s : State) : (flagEvent off bit num inst s).hkc = s.hkc := by simp only [flagEvent, raise_hkc, setFlag_hkc]
@[simp] theorem flagEvent_eng (off bit num inst : Nat) (s : State) : (flagEvent off bit num inst s).eng = s.eng := by simp only [flagEvent, raise_eng, setFlag_eng]
@[simp] theorem flagEvent_dom (off bit num inst : Nat) (s : State) : (flagEvent off bit num inst s).dom = s.dom := by simp only [flagEvent, raise_dom, setFlag_dom]
@[simp] theorem flagEvent_recorder (off bit num inst : Nat) (s : State) : (flagEvent off bit num inst s).recorder = s.recorder := by simp only [flagEvent, raise_recorder, setFlag_recorder]
@[simp] theorem flagEvent_acc (off bit num inst : Nat) (s : State) : (flagEvent off bit num inst s).acc = s.acc := by simp only [flagEvent, raise_acc, setFlag_acc]
@[simp] theorem flagEvent_churn (off bit num inst : Nat) (s : State) : (flagEvent off bit num inst s).churn = s.churn := by simp only [flagEvent, raise_churn, setFlag_churn]
@[simp] theorem flagEvent_spare (off bit num inst : Nat) (s : State) : (flagEvent off bit num inst s).spare = s.spare := by simp only [flagEvent, raise_spare, setFlag_spare]
@[simp] theorem flagEvent_sec (off bit num inst : Nat) (s : State) : (flagEvent off bit num inst s).sec = s.sec := by simp only [flagEvent, raise_sec, setFlag_sec]
@[simp] theorem flagEvent_pwr (off bit num inst : Nat) (s : State) : (flagEvent off bit num inst s).pwr = s.pwr := by simp only [flagEvent, raise_pwr, setFlag_pwr]
@[simp] theorem flagEvent_tod (off bit num inst : Nat) (s : State) : (flagEvent off bit num inst s).tod = s.tod := by simp only [flagEvent, raise_tod, setFlag_tod]
@[simp] theorem flagEvent_free (off bit num inst : Nat) (s : State) : (flagEvent off bit num inst s).free = s.free := by simp only [flagEvent, raise_free, setFlag_free]
@[simp] theorem flagEvent_pending (off bit num inst : Nat) (s : State) : (flagEvent off bit num inst s).pending = s.pending := by simp only [flagEvent, raise_pending, setFlag_pending]

@[simp] theorem countEvent_round (cnt off bit num inst : Nat) (s : State) : (countEvent cnt off bit num inst s).round = s.round := by simp only [countEvent, flagEvent_round, bump_round]
@[simp] theorem countEvent_noc (cnt off bit num inst : Nat) (s : State) : (countEvent cnt off bit num inst s).noc = s.noc := by simp only [countEvent, flagEvent_noc, bump_noc]
@[simp] theorem countEvent_mem (cnt off bit num inst : Nat) (s : State) : (countEvent cnt off bit num inst s).mem = s.mem := by simp only [countEvent, flagEvent_mem, bump_mem]
@[simp] theorem countEvent_dma (cnt off bit num inst : Nat) (s : State) : (countEvent cnt off bit num inst s).dma = s.dma := by simp only [countEvent, flagEvent_dma, bump_dma]
@[simp] theorem countEvent_cfa (cnt off bit num inst : Nat) (s : State) : (countEvent cnt off bit num inst s).cfa = s.cfa := by simp only [countEvent, flagEvent_cfa, bump_cfa]
@[simp] theorem countEvent_mac (cnt off bit num inst : Nat) (s : State) : (countEvent cnt off bit num inst s).mac = s.mac := by simp only [countEvent, flagEvent_mac, bump_mac]
@[simp] theorem countEvent_lane (cnt off bit num inst : Nat) (s : State) : (countEvent cnt off bit num inst s).lane = s.lane := by simp only [countEvent, flagEvent_lane, bump_lane]
@[simp] theorem countEvent_line (cnt off bit num inst : Nat) (s : State) : (countEvent cnt off bit num inst s).line = s.line := by simp only [countEvent, flagEvent_line, bump_line]
@[simp] theorem countEvent_time (cnt off bit num inst : Nat) (s : State) : (countEvent cnt off bit num inst s).time = s.time := by simp only [countEvent, flagEvent_time, bump_time]
@[simp] theorem countEvent_hkc (cnt off bit num inst : Nat) (s : State) : (countEvent cnt off bit num inst s).hkc = s.hkc := by simp only [countEvent, flagEvent_hkc, bump_hkc]
@[simp] theorem countEvent_eng (cnt off bit num inst : Nat) (s : State) : (countEvent cnt off bit num inst s).eng = s.eng := by simp only [countEvent, flagEvent_eng, bump_eng]
@[simp] theorem countEvent_dom (cnt off bit num inst : Nat) (s : State) : (countEvent cnt off bit num inst s).dom = s.dom := by simp only [countEvent, flagEvent_dom, bump_dom]
@[simp] theorem countEvent_recorder (cnt off bit num inst : Nat) (s : State) : (countEvent cnt off bit num inst s).recorder = s.recorder := by simp only [countEvent, flagEvent_recorder, bump_recorder]
@[simp] theorem countEvent_acc (cnt off bit num inst : Nat) (s : State) : (countEvent cnt off bit num inst s).acc = s.acc := by simp only [countEvent, flagEvent_acc, bump_acc]
@[simp] theorem countEvent_churn (cnt off bit num inst : Nat) (s : State) : (countEvent cnt off bit num inst s).churn = s.churn := by simp only [countEvent, flagEvent_churn, bump_churn]
@[simp] theorem countEvent_spare (cnt off bit num inst : Nat) (s : State) : (countEvent cnt off bit num inst s).spare = s.spare := by simp only [countEvent, flagEvent_spare, bump_spare]
@[simp] theorem countEvent_sec (cnt off bit num inst : Nat) (s : State) : (countEvent cnt off bit num inst s).sec = s.sec := by simp only [countEvent, flagEvent_sec, bump_sec]
@[simp] theorem countEvent_pwr (cnt off bit num inst : Nat) (s : State) : (countEvent cnt off bit num inst s).pwr = s.pwr := by simp only [countEvent, flagEvent_pwr, bump_pwr]
@[simp] theorem countEvent_tod (cnt off bit num inst : Nat) (s : State) : (countEvent cnt off bit num inst s).tod = s.tod := by simp only [countEvent, flagEvent_tod, bump_tod]
@[simp] theorem countEvent_free (cnt off bit num inst : Nat) (s : State) : (countEvent cnt off bit num inst s).free = s.free := by simp only [countEvent, flagEvent_free, bump_free]
@[simp] theorem countEvent_pending (cnt off bit num inst : Nat) (s : State) : (countEvent cnt off bit num inst s).pending = s.pending := by simp only [countEvent, flagEvent_pending, bump_pending]

@[simp] theorem drawn_csr (s : State) : (drawn s).csr = s.csr := rfl
@[simp] theorem drawn_round (s : State) : (drawn s).round = s.round := rfl
@[simp] theorem drawn_evt (s : State) : (drawn s).evt = s.evt := rfl
@[simp] theorem drawn_noc (s : State) : (drawn s).noc = s.noc := rfl
@[simp] theorem drawn_mem (s : State) : (drawn s).mem = s.mem := rfl
@[simp] theorem drawn_dma (s : State) : (drawn s).dma = s.dma := rfl
@[simp] theorem drawn_cfa (s : State) : (drawn s).cfa = s.cfa := rfl
@[simp] theorem drawn_mac (s : State) : (drawn s).mac = s.mac := rfl
@[simp] theorem drawn_lane (s : State) : (drawn s).lane = s.lane := rfl
@[simp] theorem drawn_line (s : State) : (drawn s).line = s.line := rfl
@[simp] theorem drawn_time (s : State) : (drawn s).time = s.time := rfl
@[simp] theorem drawn_hkc (s : State) : (drawn s).hkc = s.hkc := rfl
@[simp] theorem drawn_eng (s : State) : (drawn s).eng = s.eng := rfl
@[simp] theorem drawn_dom (s : State) : (drawn s).dom = s.dom := rfl
@[simp] theorem drawn_recorder (s : State) : (drawn s).recorder = s.recorder := rfl
@[simp] theorem drawn_acc (s : State) : (drawn s).acc = s.acc := rfl
@[simp] theorem drawn_churn (s : State) : (drawn s).churn = s.churn := rfl
@[simp] theorem drawn_spare (s : State) : (drawn s).spare = s.spare := rfl
@[simp] theorem drawn_sec (s : State) : (drawn s).sec = s.sec := rfl
@[simp] theorem drawn_pwr (s : State) : (drawn s).pwr = s.pwr := rfl
@[simp] theorem drawn_tod (s : State) : (drawn s).tod = s.tod := rfl
@[simp] theorem drawn_pending (s : State) : (drawn s).pending = s.pending := rfl

@[simp] theorem memWrite_csr (a : Nat) (bs : List Byte) (s : State) : (memWrite a bs s).csr = s.csr := rfl
@[simp] theorem memWrite_round (a : Nat) (bs : List Byte) (s : State) : (memWrite a bs s).round = s.round := rfl
@[simp] theorem memWrite_evt (a : Nat) (bs : List Byte) (s : State) : (memWrite a bs s).evt = s.evt := rfl
@[simp] theorem memWrite_noc (a : Nat) (bs : List Byte) (s : State) : (memWrite a bs s).noc = s.noc := rfl
@[simp] theorem memWrite_dma (a : Nat) (bs : List Byte) (s : State) : (memWrite a bs s).dma = s.dma := rfl
@[simp] theorem memWrite_cfa (a : Nat) (bs : List Byte) (s : State) : (memWrite a bs s).cfa = s.cfa := rfl
@[simp] theorem memWrite_mac (a : Nat) (bs : List Byte) (s : State) : (memWrite a bs s).mac = s.mac := rfl
@[simp] theorem memWrite_lane (a : Nat) (bs : List Byte) (s : State) : (memWrite a bs s).lane = s.lane := rfl
@[simp] theorem memWrite_line (a : Nat) (bs : List Byte) (s : State) : (memWrite a bs s).line = s.line := rfl
@[simp] theorem memWrite_time (a : Nat) (bs : List Byte) (s : State) : (memWrite a bs s).time = s.time := rfl
@[simp] theorem memWrite_hkc (a : Nat) (bs : List Byte) (s : State) : (memWrite a bs s).hkc = s.hkc := rfl
@[simp] theorem memWrite_eng (a : Nat) (bs : List Byte) (s : State) : (memWrite a bs s).eng = s.eng := rfl
@[simp] theorem memWrite_dom (a : Nat) (bs : List Byte) (s : State) : (memWrite a bs s).dom = s.dom := rfl
@[simp] theorem memWrite_recorder (a : Nat) (bs : List Byte) (s : State) : (memWrite a bs s).recorder = s.recorder := rfl
@[simp] theorem memWrite_acc (a : Nat) (bs : List Byte) (s : State) : (memWrite a bs s).acc = s.acc := rfl
@[simp] theorem memWrite_churn (a : Nat) (bs : List Byte) (s : State) : (memWrite a bs s).churn = s.churn := rfl
@[simp] theorem memWrite_spare (a : Nat) (bs : List Byte) (s : State) : (memWrite a bs s).spare = s.spare := rfl
@[simp] theorem memWrite_sec (a : Nat) (bs : List Byte) (s : State) : (memWrite a bs s).sec = s.sec := rfl
@[simp] theorem memWrite_pwr (a : Nat) (bs : List Byte) (s : State) : (memWrite a bs s).pwr = s.pwr := rfl
@[simp] theorem memWrite_tod (a : Nat) (bs : List Byte) (s : State) : (memWrite a bs s).tod = s.tod := rfl
@[simp] theorem memWrite_free (a : Nat) (bs : List Byte) (s : State) : (memWrite a bs s).free = s.free := rfl
@[simp] theorem memWrite_pending (a : Nat) (bs : List Byte) (s : State) : (memWrite a bs s).pending = s.pending := rfl

@[simp] theorem setEng_round (n : Nat) (e : Engine) (s : State) : (setEng n e s).round = s.round := rfl
@[simp] theorem setEng_evt (n : Nat) (e : Engine) (s : State) : (setEng n e s).evt = s.evt := rfl
@[simp] theorem setEng_noc (n : Nat) (e : Engine) (s : State) : (setEng n e s).noc = s.noc := rfl
@[simp] theorem setEng_mem (n : Nat) (e : Engine) (s : State) : (setEng n e s).mem = s.mem := rfl
@[simp] theorem setEng_dma (n : Nat) (e : Engine) (s : State) : (setEng n e s).dma = s.dma := rfl
@[simp] theorem setEng_cfa (n : Nat) (e : Engine) (s : State) : (setEng n e s).cfa = s.cfa := rfl
@[simp] theorem setEng_mac (n : Nat) (e : Engine) (s : State) : (setEng n e s).mac = s.mac := rfl
@[simp] theorem setEng_lane (n : Nat) (e : Engine) (s : State) : (setEng n e s).lane = s.lane := rfl
@[simp] theorem setEng_line (n : Nat) (e : Engine) (s : State) : (setEng n e s).line = s.line := rfl
@[simp] theorem setEng_time (n : Nat) (e : Engine) (s : State) : (setEng n e s).time = s.time := rfl
@[simp] theorem setEng_hkc (n : Nat) (e : Engine) (s : State) : (setEng n e s).hkc = s.hkc := rfl
@[simp] theorem setEng_dom (n : Nat) (e : Engine) (s : State) : (setEng n e s).dom = s.dom := rfl
@[simp] theorem setEng_recorder (n : Nat) (e : Engine) (s : State) : (setEng n e s).recorder = s.recorder := rfl
@[simp] theorem setEng_acc (n : Nat) (e : Engine) (s : State) : (setEng n e s).acc = s.acc := rfl
@[simp] theorem setEng_churn (n : Nat) (e : Engine) (s : State) : (setEng n e s).churn = s.churn := rfl
@[simp] theorem setEng_spare (n : Nat) (e : Engine) (s : State) : (setEng n e s).spare = s.spare := rfl
@[simp] theorem setEng_sec (n : Nat) (e : Engine) (s : State) : (setEng n e s).sec = s.sec := rfl
@[simp] theorem setEng_pwr (n : Nat) (e : Engine) (s : State) : (setEng n e s).pwr = s.pwr := rfl
@[simp] theorem setEng_tod (n : Nat) (e : Engine) (s : State) : (setEng n e s).tod = s.tod := rfl
@[simp] theorem setEng_free (n : Nat) (e : Engine) (s : State) : (setEng n e s).free = s.free := rfl
@[simp] theorem setEng_pending (n : Nat) (e : Engine) (s : State) : (setEng n e s).pending = s.pending := rfl

@[simp] theorem modEng_round (n : Nat) (f : Engine → Engine) (s : State) : (modEng n f s).round = s.round := rfl
@[simp] theorem modEng_evt (n : Nat) (f : Engine → Engine) (s : State) : (modEng n f s).evt = s.evt := rfl
@[simp] theorem modEng_noc (n : Nat) (f : Engine → Engine) (s : State) : (modEng n f s).noc = s.noc := rfl
@[simp] theorem modEng_mem (n : Nat) (f : Engine → Engine) (s : State) : (modEng n f s).mem = s.mem := rfl
@[simp] theorem modEng_dma (n : Nat) (f : Engine → Engine) (s : State) : (modEng n f s).dma = s.dma := rfl
@[simp] theorem modEng_cfa (n : Nat) (f : Engine → Engine) (s : State) : (modEng n f s).cfa = s.cfa := rfl
@[simp] theorem modEng_mac (n : Nat) (f : Engine → Engine) (s : State) : (modEng n f s).mac = s.mac := rfl
@[simp] theorem modEng_lane (n : Nat) (f : Engine → Engine) (s : State) : (modEng n f s).lane = s.lane := rfl
@[simp] theorem modEng_line (n : Nat) (f : Engine → Engine) (s : State) : (modEng n f s).line = s.line := rfl
@[simp] theorem modEng_time (n : Nat) (f : Engine → Engine) (s : State) : (modEng n f s).time = s.time := rfl
@[simp] theorem modEng_hkc (n : Nat) (f : Engine → Engine) (s : State) : (modEng n f s).hkc = s.hkc := rfl
@[simp] theorem modEng_dom (n : Nat) (f : Engine → Engine) (s : State) : (modEng n f s).dom = s.dom := rfl
@[simp] theorem modEng_recorder (n : Nat) (f : Engine → Engine) (s : State) : (modEng n f s).recorder = s.recorder := rfl
@[simp] theorem modEng_acc (n : Nat) (f : Engine → Engine) (s : State) : (modEng n f s).acc = s.acc := rfl
@[simp] theorem modEng_churn (n : Nat) (f : Engine → Engine) (s : State) : (modEng n f s).churn = s.churn := rfl
@[simp] theorem modEng_spare (n : Nat) (f : Engine → Engine) (s : State) : (modEng n f s).spare = s.spare := rfl
@[simp] theorem modEng_sec (n : Nat) (f : Engine → Engine) (s : State) : (modEng n f s).sec = s.sec := rfl
@[simp] theorem modEng_pwr (n : Nat) (f : Engine → Engine) (s : State) : (modEng n f s).pwr = s.pwr := rfl
@[simp] theorem modEng_tod (n : Nat) (f : Engine → Engine) (s : State) : (modEng n f s).tod = s.tod := rfl
@[simp] theorem modEng_free (n : Nat) (f : Engine → Engine) (s : State) : (modEng n f s).free = s.free := rfl
@[simp] theorem modEng_pending (n : Nat) (f : Engine → Engine) (s : State) : (modEng n f s).pending = s.pending := rfl

@[simp] theorem modRound_csr (f : Round → Round) (s : State) : (modRound f s).csr = s.csr := rfl
@[simp] theorem modRound_evt (f : Round → Round) (s : State) : (modRound f s).evt = s.evt := rfl
@[simp] theorem modRound_noc (f : Round → Round) (s : State) : (modRound f s).noc = s.noc := rfl
@[simp] theorem modRound_mem (f : Round → Round) (s : State) : (modRound f s).mem = s.mem := rfl
@[simp] theorem modRound_dma (f : Round → Round) (s : State) : (modRound f s).dma = s.dma := rfl
@[simp] theorem modRound_cfa (f : Round → Round) (s : State) : (modRound f s).cfa = s.cfa := rfl
@[simp] theorem modRound_mac (f : Round → Round) (s : State) : (modRound f s).mac = s.mac := rfl
@[simp] theorem modRound_lane (f : Round → Round) (s : State) : (modRound f s).lane = s.lane := rfl
@[simp] theorem modRound_line (f : Round → Round) (s : State) : (modRound f s).line = s.line := rfl
@[simp] theorem modRound_time (f : Round → Round) (s : State) : (modRound f s).time = s.time := rfl
@[simp] theorem modRound_hkc (f : Round → Round) (s : State) : (modRound f s).hkc = s.hkc := rfl
@[simp] theorem modRound_eng (f : Round → Round) (s : State) : (modRound f s).eng = s.eng := rfl
@[simp] theorem modRound_dom (f : Round → Round) (s : State) : (modRound f s).dom = s.dom := rfl
@[simp] theorem modRound_recorder (f : Round → Round) (s : State) : (modRound f s).recorder = s.recorder := rfl
@[simp] theorem modRound_acc (f : Round → Round) (s : State) : (modRound f s).acc = s.acc := rfl
@[simp] theorem modRound_churn (f : Round → Round) (s : State) : (modRound f s).churn = s.churn := rfl
@[simp] theorem modRound_spare (f : Round → Round) (s : State) : (modRound f s).spare = s.spare := rfl
@[simp] theorem modRound_sec (f : Round → Round) (s : State) : (modRound f s).sec = s.sec := rfl
@[simp] theorem modRound_pwr (f : Round → Round) (s : State) : (modRound f s).pwr = s.pwr := rfl
@[simp] theorem modRound_tod (f : Round → Round) (s : State) : (modRound f s).tod = s.tod := rfl
@[simp] theorem modRound_free (f : Round → Round) (s : State) : (modRound f s).free = s.free := rfl
@[simp] theorem modRound_pending (f : Round → Round) (s : State) : (modRound f s).pending = s.pending := rfl

@[simp] theorem modPwr_csr (f : Pwr → Pwr) (s : State) : (modPwr f s).csr = s.csr := rfl
@[simp] theorem modPwr_round (f : Pwr → Pwr) (s : State) : (modPwr f s).round = s.round := rfl
@[simp] theorem modPwr_evt (f : Pwr → Pwr) (s : State) : (modPwr f s).evt = s.evt := rfl
@[simp] theorem modPwr_noc (f : Pwr → Pwr) (s : State) : (modPwr f s).noc = s.noc := rfl
@[simp] theorem modPwr_mem (f : Pwr → Pwr) (s : State) : (modPwr f s).mem = s.mem := rfl
@[simp] theorem modPwr_dma (f : Pwr → Pwr) (s : State) : (modPwr f s).dma = s.dma := rfl
@[simp] theorem modPwr_cfa (f : Pwr → Pwr) (s : State) : (modPwr f s).cfa = s.cfa := rfl
@[simp] theorem modPwr_mac (f : Pwr → Pwr) (s : State) : (modPwr f s).mac = s.mac := rfl
@[simp] theorem modPwr_lane (f : Pwr → Pwr) (s : State) : (modPwr f s).lane = s.lane := rfl
@[simp] theorem modPwr_line (f : Pwr → Pwr) (s : State) : (modPwr f s).line = s.line := rfl
@[simp] theorem modPwr_time (f : Pwr → Pwr) (s : State) : (modPwr f s).time = s.time := rfl
@[simp] theorem modPwr_hkc (f : Pwr → Pwr) (s : State) : (modPwr f s).hkc = s.hkc := rfl
@[simp] theorem modPwr_eng (f : Pwr → Pwr) (s : State) : (modPwr f s).eng = s.eng := rfl
@[simp] theorem modPwr_dom (f : Pwr → Pwr) (s : State) : (modPwr f s).dom = s.dom := rfl
@[simp] theorem modPwr_recorder (f : Pwr → Pwr) (s : State) : (modPwr f s).recorder = s.recorder := rfl
@[simp] theorem modPwr_acc (f : Pwr → Pwr) (s : State) : (modPwr f s).acc = s.acc := rfl
@[simp] theorem modPwr_churn (f : Pwr → Pwr) (s : State) : (modPwr f s).churn = s.churn := rfl
@[simp] theorem modPwr_spare (f : Pwr → Pwr) (s : State) : (modPwr f s).spare = s.spare := rfl
@[simp] theorem modPwr_sec (f : Pwr → Pwr) (s : State) : (modPwr f s).sec = s.sec := rfl
@[simp] theorem modPwr_tod (f : Pwr → Pwr) (s : State) : (modPwr f s).tod = s.tod := rfl
@[simp] theorem modPwr_free (f : Pwr → Pwr) (s : State) : (modPwr f s).free = s.free := rfl
@[simp] theorem modPwr_pending (f : Pwr → Pwr) (s : State) : (modPwr f s).pending = s.pending := rfl

@[simp] theorem modSec_csr (f : Sec → Sec) (s : State) : (modSec f s).csr = s.csr := rfl
@[simp] theorem modSec_round (f : Sec → Sec) (s : State) : (modSec f s).round = s.round := rfl
@[simp] theorem modSec_evt (f : Sec → Sec) (s : State) : (modSec f s).evt = s.evt := rfl
@[simp] theorem modSec_noc (f : Sec → Sec) (s : State) : (modSec f s).noc = s.noc := rfl
@[simp] theorem modSec_mem (f : Sec → Sec) (s : State) : (modSec f s).mem = s.mem := rfl
@[simp] theorem modSec_dma (f : Sec → Sec) (s : State) : (modSec f s).dma = s.dma := rfl
@[simp] theorem modSec_cfa (f : Sec → Sec) (s : State) : (modSec f s).cfa = s.cfa := rfl
@[simp] theorem modSec_mac (f : Sec → Sec) (s : State) : (modSec f s).mac = s.mac := rfl
@[simp] theorem modSec_lane (f : Sec → Sec) (s : State) : (modSec f s).lane = s.lane := rfl
@[simp] theorem modSec_line (f : Sec → Sec) (s : State) : (modSec f s).line = s.line := rfl
@[simp] theorem modSec_time (f : Sec → Sec) (s : State) : (modSec f s).time = s.time := rfl
@[simp] theorem modSec_hkc (f : Sec → Sec) (s : State) : (modSec f s).hkc = s.hkc := rfl
@[simp] theorem modSec_eng (f : Sec → Sec) (s : State) : (modSec f s).eng = s.eng := rfl
@[simp] theorem modSec_dom (f : Sec → Sec) (s : State) : (modSec f s).dom = s.dom := rfl
@[simp] theorem modSec_recorder (f : Sec → Sec) (s : State) : (modSec f s).recorder = s.recorder := rfl
@[simp] theorem modSec_acc (f : Sec → Sec) (s : State) : (modSec f s).acc = s.acc := rfl
@[simp] theorem modSec_churn (f : Sec → Sec) (s : State) : (modSec f s).churn = s.churn := rfl
@[simp] theorem modSec_spare (f : Sec → Sec) (s : State) : (modSec f s).spare = s.spare := rfl
@[simp] theorem modSec_pwr (f : Sec → Sec) (s : State) : (modSec f s).pwr = s.pwr := rfl
@[simp] theorem modSec_tod (f : Sec → Sec) (s : State) : (modSec f s).tod = s.tod := rfl
@[simp] theorem modSec_free (f : Sec → Sec) (s : State) : (modSec f s).free = s.free := rfl
@[simp] theorem modSec_pending (f : Sec → Sec) (s : State) : (modSec f s).pending = s.pending := rfl

@[simp] theorem modSpare_csr (f : Spare → Spare) (s : State) : (modSpare f s).csr = s.csr := rfl
@[simp] theorem modSpare_round (f : Spare → Spare) (s : State) : (modSpare f s).round = s.round := rfl
@[simp] theorem modSpare_evt (f : Spare → Spare) (s : State) : (modSpare f s).evt = s.evt := rfl
@[simp] theorem modSpare_noc (f : Spare → Spare) (s : State) : (modSpare f s).noc = s.noc := rfl
@[simp] theorem modSpare_mem (f : Spare → Spare) (s : State) : (modSpare f s).mem = s.mem := rfl
@[simp] theorem modSpare_dma (f : Spare → Spare) (s : State) : (modSpare f s).dma = s.dma := rfl
@[simp] theorem modSpare_cfa (f : Spare → Spare) (s : State) : (modSpare f s).cfa = s.cfa := rfl
@[simp] theorem modSpare_mac (f : Spare → Spare) (s : State) : (modSpare f s).mac = s.mac := rfl
@[simp] theorem modSpare_lane (f : Spare → Spare) (s : State) : (modSpare f s).lane = s.lane := rfl
@[simp] theorem modSpare_line (f : Spare → Spare) (s : State) : (modSpare f s).line = s.line := rfl
@[simp] theorem modSpare_time (f : Spare → Spare) (s : State) : (modSpare f s).time = s.time := rfl
@[simp] theorem modSpare_hkc (f : Spare → Spare) (s : State) : (modSpare f s).hkc = s.hkc := rfl
@[simp] theorem modSpare_eng (f : Spare → Spare) (s : State) : (modSpare f s).eng = s.eng := rfl
@[simp] theorem modSpare_dom (f : Spare → Spare) (s : State) : (modSpare f s).dom = s.dom := rfl
@[simp] theorem modSpare_recorder (f : Spare → Spare) (s : State) : (modSpare f s).recorder = s.recorder := rfl
@[simp] theorem modSpare_acc (f : Spare → Spare) (s : State) : (modSpare f s).acc = s.acc := rfl
@[simp] theorem modSpare_churn (f : Spare → Spare) (s : State) : (modSpare f s).churn = s.churn := rfl
@[simp] theorem modSpare_sec (f : Spare → Spare) (s : State) : (modSpare f s).sec = s.sec := rfl
@[simp] theorem modSpare_pwr (f : Spare → Spare) (s : State) : (modSpare f s).pwr = s.pwr := rfl
@[simp] theorem modSpare_tod (f : Spare → Spare) (s : State) : (modSpare f s).tod = s.tod := rfl
@[simp] theorem modSpare_free (f : Spare → Spare) (s : State) : (modSpare f s).free = s.free := rfl
@[simp] theorem modSpare_pending (f : Spare → Spare) (s : State) : (modSpare f s).pending = s.pending := rfl

@[simp] theorem modTime_csr (f : TimeUnit → TimeUnit) (s : State) : (modTime f s).csr = s.csr := rfl
@[simp] theorem modTime_round (f : TimeUnit → TimeUnit) (s : State) : (modTime f s).round = s.round := rfl
@[simp] theorem modTime_evt (f : TimeUnit → TimeUnit) (s : State) : (modTime f s).evt = s.evt := rfl
@[simp] theorem modTime_noc (f : TimeUnit → TimeUnit) (s : State) : (modTime f s).noc = s.noc := rfl
@[simp] theorem modTime_mem (f : TimeUnit → TimeUnit) (s : State) : (modTime f s).mem = s.mem := rfl
@[simp] theorem modTime_dma (f : TimeUnit → TimeUnit) (s : State) : (modTime f s).dma = s.dma := rfl
@[simp] theorem modTime_cfa (f : TimeUnit → TimeUnit) (s : State) : (modTime f s).cfa = s.cfa := rfl
@[simp] theorem modTime_mac (f : TimeUnit → TimeUnit) (s : State) : (modTime f s).mac = s.mac := rfl
@[simp] theorem modTime_lane (f : TimeUnit → TimeUnit) (s : State) : (modTime f s).lane = s.lane := rfl
@[simp] theorem modTime_line (f : TimeUnit → TimeUnit) (s : State) : (modTime f s).line = s.line := rfl
@[simp] theorem modTime_hkc (f : TimeUnit → TimeUnit) (s : State) : (modTime f s).hkc = s.hkc := rfl
@[simp] theorem modTime_eng (f : TimeUnit → TimeUnit) (s : State) : (modTime f s).eng = s.eng := rfl
@[simp] theorem modTime_dom (f : TimeUnit → TimeUnit) (s : State) : (modTime f s).dom = s.dom := rfl
@[simp] theorem modTime_recorder (f : TimeUnit → TimeUnit) (s : State) : (modTime f s).recorder = s.recorder := rfl
@[simp] theorem modTime_acc (f : TimeUnit → TimeUnit) (s : State) : (modTime f s).acc = s.acc := rfl
@[simp] theorem modTime_churn (f : TimeUnit → TimeUnit) (s : State) : (modTime f s).churn = s.churn := rfl
@[simp] theorem modTime_spare (f : TimeUnit → TimeUnit) (s : State) : (modTime f s).spare = s.spare := rfl
@[simp] theorem modTime_sec (f : TimeUnit → TimeUnit) (s : State) : (modTime f s).sec = s.sec := rfl
@[simp] theorem modTime_pwr (f : TimeUnit → TimeUnit) (s : State) : (modTime f s).pwr = s.pwr := rfl
@[simp] theorem modTime_tod (f : TimeUnit → TimeUnit) (s : State) : (modTime f s).tod = s.tod := rfl
@[simp] theorem modTime_free (f : TimeUnit → TimeUnit) (s : State) : (modTime f s).free = s.free := rfl
@[simp] theorem modTime_pending (f : TimeUnit → TimeUnit) (s : State) : (modTime f s).pending = s.pending := rfl

@[simp] theorem modTrig_csr (n : Nat) (f : Trig → Trig) (s : State) : (modTrig n f s).csr = s.csr := rfl
@[simp] theorem modTrig_round (n : Nat) (f : Trig → Trig) (s : State) : (modTrig n f s).round = s.round := rfl
@[simp] theorem modTrig_evt (n : Nat) (f : Trig → Trig) (s : State) : (modTrig n f s).evt = s.evt := rfl
@[simp] theorem modTrig_noc (n : Nat) (f : Trig → Trig) (s : State) : (modTrig n f s).noc = s.noc := rfl
@[simp] theorem modTrig_mem (n : Nat) (f : Trig → Trig) (s : State) : (modTrig n f s).mem = s.mem := rfl
@[simp] theorem modTrig_dma (n : Nat) (f : Trig → Trig) (s : State) : (modTrig n f s).dma = s.dma := rfl
@[simp] theorem modTrig_cfa (n : Nat) (f : Trig → Trig) (s : State) : (modTrig n f s).cfa = s.cfa := rfl
@[simp] theorem modTrig_mac (n : Nat) (f : Trig → Trig) (s : State) : (modTrig n f s).mac = s.mac := rfl
@[simp] theorem modTrig_lane (n : Nat) (f : Trig → Trig) (s : State) : (modTrig n f s).lane = s.lane := rfl
@[simp] theorem modTrig_line (n : Nat) (f : Trig → Trig) (s : State) : (modTrig n f s).line = s.line := rfl
@[simp] theorem modTrig_hkc (n : Nat) (f : Trig → Trig) (s : State) : (modTrig n f s).hkc = s.hkc := rfl
@[simp] theorem modTrig_eng (n : Nat) (f : Trig → Trig) (s : State) : (modTrig n f s).eng = s.eng := rfl
@[simp] theorem modTrig_dom (n : Nat) (f : Trig → Trig) (s : State) : (modTrig n f s).dom = s.dom := rfl
@[simp] theorem modTrig_recorder (n : Nat) (f : Trig → Trig) (s : State) : (modTrig n f s).recorder = s.recorder := rfl
@[simp] theorem modTrig_acc (n : Nat) (f : Trig → Trig) (s : State) : (modTrig n f s).acc = s.acc := rfl
@[simp] theorem modTrig_churn (n : Nat) (f : Trig → Trig) (s : State) : (modTrig n f s).churn = s.churn := rfl
@[simp] theorem modTrig_spare (n : Nat) (f : Trig → Trig) (s : State) : (modTrig n f s).spare = s.spare := rfl
@[simp] theorem modTrig_sec (n : Nat) (f : Trig → Trig) (s : State) : (modTrig n f s).sec = s.sec := rfl
@[simp] theorem modTrig_pwr (n : Nat) (f : Trig → Trig) (s : State) : (modTrig n f s).pwr = s.pwr := rfl
@[simp] theorem modTrig_tod (n : Nat) (f : Trig → Trig) (s : State) : (modTrig n f s).tod = s.tod := rfl
@[simp] theorem modTrig_free (n : Nat) (f : Trig → Trig) (s : State) : (modTrig n f s).free = s.free := rfl
@[simp] theorem modTrig_pending (n : Nat) (f : Trig → Trig) (s : State) : (modTrig n f s).pending = s.pending := rfl

@[simp] theorem modHkc_csr (f : Hkc → Hkc) (s : State) : (modHkc f s).csr = s.csr := rfl
@[simp] theorem modHkc_round (f : Hkc → Hkc) (s : State) : (modHkc f s).round = s.round := rfl
@[simp] theorem modHkc_evt (f : Hkc → Hkc) (s : State) : (modHkc f s).evt = s.evt := rfl
@[simp] theorem modHkc_noc (f : Hkc → Hkc) (s : State) : (modHkc f s).noc = s.noc := rfl
@[simp] theorem modHkc_mem (f : Hkc → Hkc) (s : State) : (modHkc f s).mem = s.mem := rfl
@[simp] theorem modHkc_dma (f : Hkc → Hkc) (s : State) : (modHkc f s).dma = s.dma := rfl
@[simp] theorem modHkc_cfa (f : Hkc → Hkc) (s : State) : (modHkc f s).cfa = s.cfa := rfl
@[simp] theorem modHkc_mac (f : Hkc → Hkc) (s : State) : (modHkc f s).mac = s.mac := rfl
@[simp] theorem modHkc_lane (f : Hkc → Hkc) (s : State) : (modHkc f s).lane = s.lane := rfl
@[simp] theorem modHkc_line (f : Hkc → Hkc) (s : State) : (modHkc f s).line = s.line := rfl
@[simp] theorem modHkc_time (f : Hkc → Hkc) (s : State) : (modHkc f s).time = s.time := rfl
@[simp] theorem modHkc_eng (f : Hkc → Hkc) (s : State) : (modHkc f s).eng = s.eng := rfl
@[simp] theorem modHkc_dom (f : Hkc → Hkc) (s : State) : (modHkc f s).dom = s.dom := rfl
@[simp] theorem modHkc_recorder (f : Hkc → Hkc) (s : State) : (modHkc f s).recorder = s.recorder := rfl
@[simp] theorem modHkc_acc (f : Hkc → Hkc) (s : State) : (modHkc f s).acc = s.acc := rfl
@[simp] theorem modHkc_churn (f : Hkc → Hkc) (s : State) : (modHkc f s).churn = s.churn := rfl
@[simp] theorem modHkc_spare (f : Hkc → Hkc) (s : State) : (modHkc f s).spare = s.spare := rfl
@[simp] theorem modHkc_sec (f : Hkc → Hkc) (s : State) : (modHkc f s).sec = s.sec := rfl
@[simp] theorem modHkc_pwr (f : Hkc → Hkc) (s : State) : (modHkc f s).pwr = s.pwr := rfl
@[simp] theorem modHkc_tod (f : Hkc → Hkc) (s : State) : (modHkc f s).tod = s.tod := rfl
@[simp] theorem modHkc_free (f : Hkc → Hkc) (s : State) : (modHkc f s).free = s.free := rfl
@[simp] theorem modHkc_pending (f : Hkc → Hkc) (s : State) : (modHkc f s).pending = s.pending := rfl

@[simp] theorem setLane_csr (l : Nat) (x : Lane) (s : State) : (setLane l x s).csr = s.csr := rfl
@[simp] theorem setLane_round (l : Nat) (x : Lane) (s : State) : (setLane l x s).round = s.round := rfl
@[simp] theorem setLane_evt (l : Nat) (x : Lane) (s : State) : (setLane l x s).evt = s.evt := rfl
@[simp] theorem setLane_noc (l : Nat) (x : Lane) (s : State) : (setLane l x s).noc = s.noc := rfl
@[simp] theorem setLane_mem (l : Nat) (x : Lane) (s : State) : (setLane l x s).mem = s.mem := rfl
@[simp] theorem setLane_dma (l : Nat) (x : Lane) (s : State) : (setLane l x s).dma = s.dma := rfl
@[simp] theorem setLane_cfa (l : Nat) (x : Lane) (s : State) : (setLane l x s).cfa = s.cfa := rfl
@[simp] theorem setLane_mac (l : Nat) (x : Lane) (s : State) : (setLane l x s).mac = s.mac := rfl
@[simp] theorem setLane_line (l : Nat) (x : Lane) (s : State) : (setLane l x s).line = s.line := rfl
@[simp] theorem setLane_time (l : Nat) (x : Lane) (s : State) : (setLane l x s).time = s.time := rfl
@[simp] theorem setLane_hkc (l : Nat) (x : Lane) (s : State) : (setLane l x s).hkc = s.hkc := rfl
@[simp] theorem setLane_eng (l : Nat) (x : Lane) (s : State) : (setLane l x s).eng = s.eng := rfl
@[simp] theorem setLane_dom (l : Nat) (x : Lane) (s : State) : (setLane l x s).dom = s.dom := rfl
@[simp] theorem setLane_recorder (l : Nat) (x : Lane) (s : State) : (setLane l x s).recorder = s.recorder := rfl
@[simp] theorem setLane_acc (l : Nat) (x : Lane) (s : State) : (setLane l x s).acc = s.acc := rfl
@[simp] theorem setLane_churn (l : Nat) (x : Lane) (s : State) : (setLane l x s).churn = s.churn := rfl
@[simp] theorem setLane_spare (l : Nat) (x : Lane) (s : State) : (setLane l x s).spare = s.spare := rfl
@[simp] theorem setLane_sec (l : Nat) (x : Lane) (s : State) : (setLane l x s).sec = s.sec := rfl
@[simp] theorem setLane_pwr (l : Nat) (x : Lane) (s : State) : (setLane l x s).pwr = s.pwr := rfl
@[simp] theorem setLane_tod (l : Nat) (x : Lane) (s : State) : (setLane l x s).tod = s.tod := rfl
@[simp] theorem setLane_free (l : Nat) (x : Lane) (s : State) : (setLane l x s).free = s.free := rfl
@[simp] theorem setLane_pending (l : Nat) (x : Lane) (s : State) : (setLane l x s).pending = s.pending := rfl

@[simp] theorem modLane_csr (l : Nat) (f : Lane → Lane) (s : State) : (modLane l f s).csr = s.csr := rfl
@[simp] theorem modLane_round (l : Nat) (f : Lane → Lane) (s : State) : (modLane l f s).round = s.round := rfl
@[simp] theorem modLane_evt (l : Nat) (f : Lane → Lane) (s : State) : (modLane l f s).evt = s.evt := rfl
@[simp] theorem modLane_noc (l : Nat) (f : Lane → Lane) (s : State) : (modLane l f s).noc = s.noc := rfl
@[simp] theorem modLane_mem (l : Nat) (f : Lane → Lane) (s : State) : (modLane l f s).mem = s.mem := rfl
@[simp] theorem modLane_dma (l : Nat) (f : Lane → Lane) (s : State) : (modLane l f s).dma = s.dma := rfl
@[simp] theorem modLane_cfa (l : Nat) (f : Lane → Lane) (s : State) : (modLane l f s).cfa = s.cfa := rfl
@[simp] theorem modLane_mac (l : Nat) (f : Lane → Lane) (s : State) : (modLane l f s).mac = s.mac := rfl
@[simp] theorem modLane_line (l : Nat) (f : Lane → Lane) (s : State) : (modLane l f s).line = s.line := rfl
@[simp] theorem modLane_time (l : Nat) (f : Lane → Lane) (s : State) : (modLane l f s).time = s.time := rfl
@[simp] theorem modLane_hkc (l : Nat) (f : Lane → Lane) (s : State) : (modLane l f s).hkc = s.hkc := rfl
@[simp] theorem modLane_eng (l : Nat) (f : Lane → Lane) (s : State) : (modLane l f s).eng = s.eng := rfl
@[simp] theorem modLane_dom (l : Nat) (f : Lane → Lane) (s : State) : (modLane l f s).dom = s.dom := rfl
@[simp] theorem modLane_recorder (l : Nat) (f : Lane → Lane) (s : State) : (modLane l f s).recorder = s.recorder := rfl
@[simp] theorem modLane_acc (l : Nat) (f : Lane → Lane) (s : State) : (modLane l f s).acc = s.acc := rfl
@[simp] theorem modLane_churn (l : Nat) (f : Lane → Lane) (s : State) : (modLane l f s).churn = s.churn := rfl
@[simp] theorem modLane_spare (l : Nat) (f : Lane → Lane) (s : State) : (modLane l f s).spare = s.spare := rfl
@[simp] theorem modLane_sec (l : Nat) (f : Lane → Lane) (s : State) : (modLane l f s).sec = s.sec := rfl
@[simp] theorem modLane_pwr (l : Nat) (f : Lane → Lane) (s : State) : (modLane l f s).pwr = s.pwr := rfl
@[simp] theorem modLane_tod (l : Nat) (f : Lane → Lane) (s : State) : (modLane l f s).tod = s.tod := rfl
@[simp] theorem modLane_free (l : Nat) (f : Lane → Lane) (s : State) : (modLane l f s).free = s.free := rfl
@[simp] theorem modLane_pending (l : Nat) (f : Lane → Lane) (s : State) : (modLane l f s).pending = s.pending := rfl

@[simp] theorem setMac_csr (m : Nat) (x : Mac) (s : State) : (setMac m x s).csr = s.csr := rfl
@[simp] theorem setMac_round (m : Nat) (x : Mac) (s : State) : (setMac m x s).round = s.round := rfl
@[simp] theorem setMac_evt (m : Nat) (x : Mac) (s : State) : (setMac m x s).evt = s.evt := rfl
@[simp] theorem setMac_noc (m : Nat) (x : Mac) (s : State) : (setMac m x s).noc = s.noc := rfl
@[simp] theorem setMac_mem (m : Nat) (x : Mac) (s : State) : (setMac m x s).mem = s.mem := rfl
@[simp] theorem setMac_dma (m : Nat) (x : Mac) (s : State) : (setMac m x s).dma = s.dma := rfl
@[simp] theorem setMac_cfa (m : Nat) (x : Mac) (s : State) : (setMac m x s).cfa = s.cfa := rfl
@[simp] theorem setMac_lane (m : Nat) (x : Mac) (s : State) : (setMac m x s).lane = s.lane := rfl
@[simp] theorem setMac_line (m : Nat) (x : Mac) (s : State) : (setMac m x s).line = s.line := rfl
@[simp] theorem setMac_time (m : Nat) (x : Mac) (s : State) : (setMac m x s).time = s.time := rfl
@[simp] theorem setMac_hkc (m : Nat) (x : Mac) (s : State) : (setMac m x s).hkc = s.hkc := rfl
@[simp] theorem setMac_eng (m : Nat) (x : Mac) (s : State) : (setMac m x s).eng = s.eng := rfl
@[simp] theorem setMac_dom (m : Nat) (x : Mac) (s : State) : (setMac m x s).dom = s.dom := rfl
@[simp] theorem setMac_recorder (m : Nat) (x : Mac) (s : State) : (setMac m x s).recorder = s.recorder := rfl
@[simp] theorem setMac_acc (m : Nat) (x : Mac) (s : State) : (setMac m x s).acc = s.acc := rfl
@[simp] theorem setMac_churn (m : Nat) (x : Mac) (s : State) : (setMac m x s).churn = s.churn := rfl
@[simp] theorem setMac_spare (m : Nat) (x : Mac) (s : State) : (setMac m x s).spare = s.spare := rfl
@[simp] theorem setMac_sec (m : Nat) (x : Mac) (s : State) : (setMac m x s).sec = s.sec := rfl
@[simp] theorem setMac_pwr (m : Nat) (x : Mac) (s : State) : (setMac m x s).pwr = s.pwr := rfl
@[simp] theorem setMac_tod (m : Nat) (x : Mac) (s : State) : (setMac m x s).tod = s.tod := rfl
@[simp] theorem setMac_free (m : Nat) (x : Mac) (s : State) : (setMac m x s).free = s.free := rfl
@[simp] theorem setMac_pending (m : Nat) (x : Mac) (s : State) : (setMac m x s).pending = s.pending := rfl

@[simp] theorem modMac_csr (m : Nat) (f : Mac → Mac) (s : State) : (modMac m f s).csr = s.csr := rfl
@[simp] theorem modMac_round (m : Nat) (f : Mac → Mac) (s : State) : (modMac m f s).round = s.round := rfl
@[simp] theorem modMac_evt (m : Nat) (f : Mac → Mac) (s : State) : (modMac m f s).evt = s.evt := rfl
@[simp] theorem modMac_noc (m : Nat) (f : Mac → Mac) (s : State) : (modMac m f s).noc = s.noc := rfl
@[simp] theorem modMac_mem (m : Nat) (f : Mac → Mac) (s : State) : (modMac m f s).mem = s.mem := rfl
@[simp] theorem modMac_dma (m : Nat) (f : Mac → Mac) (s : State) : (modMac m f s).dma = s.dma := rfl
@[simp] theorem modMac_cfa (m : Nat) (f : Mac → Mac) (s : State) : (modMac m f s).cfa = s.cfa := rfl
@[simp] theorem modMac_lane (m : Nat) (f : Mac → Mac) (s : State) : (modMac m f s).lane = s.lane := rfl
@[simp] theorem modMac_line (m : Nat) (f : Mac → Mac) (s : State) : (modMac m f s).line = s.line := rfl
@[simp] theorem modMac_time (m : Nat) (f : Mac → Mac) (s : State) : (modMac m f s).time = s.time := rfl
@[simp] theorem modMac_hkc (m : Nat) (f : Mac → Mac) (s : State) : (modMac m f s).hkc = s.hkc := rfl
@[simp] theorem modMac_eng (m : Nat) (f : Mac → Mac) (s : State) : (modMac m f s).eng = s.eng := rfl
@[simp] theorem modMac_dom (m : Nat) (f : Mac → Mac) (s : State) : (modMac m f s).dom = s.dom := rfl
@[simp] theorem modMac_recorder (m : Nat) (f : Mac → Mac) (s : State) : (modMac m f s).recorder = s.recorder := rfl
@[simp] theorem modMac_acc (m : Nat) (f : Mac → Mac) (s : State) : (modMac m f s).acc = s.acc := rfl
@[simp] theorem modMac_churn (m : Nat) (f : Mac → Mac) (s : State) : (modMac m f s).churn = s.churn := rfl
@[simp] theorem modMac_spare (m : Nat) (f : Mac → Mac) (s : State) : (modMac m f s).spare = s.spare := rfl
@[simp] theorem modMac_sec (m : Nat) (f : Mac → Mac) (s : State) : (modMac m f s).sec = s.sec := rfl
@[simp] theorem modMac_pwr (m : Nat) (f : Mac → Mac) (s : State) : (modMac m f s).pwr = s.pwr := rfl
@[simp] theorem modMac_tod (m : Nat) (f : Mac → Mac) (s : State) : (modMac m f s).tod = s.tod := rfl
@[simp] theorem modMac_free (m : Nat) (f : Mac → Mac) (s : State) : (modMac m f s).free = s.free := rfl
@[simp] theorem modMac_pending (m : Nat) (f : Mac → Mac) (s : State) : (modMac m f s).pending = s.pending := rfl

@[simp] theorem modLine_csr (f : LinePort → LinePort) (s : State) : (modLine f s).csr = s.csr := rfl
@[simp] theorem modLine_round (f : LinePort → LinePort) (s : State) : (modLine f s).round = s.round := rfl
@[simp] theorem modLine_evt (f : LinePort → LinePort) (s : State) : (modLine f s).evt = s.evt := rfl
@[simp] theorem modLine_noc (f : LinePort → LinePort) (s : State) : (modLine f s).noc = s.noc := rfl
@[simp] theorem modLine_mem (f : LinePort → LinePort) (s : State) : (modLine f s).mem = s.mem := rfl
@[simp] theorem modLine_dma (f : LinePort → LinePort) (s : State) : (modLine f s).dma = s.dma := rfl
@[simp] theorem modLine_cfa (f : LinePort → LinePort) (s : State) : (modLine f s).cfa = s.cfa := rfl
@[simp] theorem modLine_mac (f : LinePort → LinePort) (s : State) : (modLine f s).mac = s.mac := rfl
@[simp] theorem modLine_lane (f : LinePort → LinePort) (s : State) : (modLine f s).lane = s.lane := rfl
@[simp] theorem modLine_time (f : LinePort → LinePort) (s : State) : (modLine f s).time = s.time := rfl
@[simp] theorem modLine_hkc (f : LinePort → LinePort) (s : State) : (modLine f s).hkc = s.hkc := rfl
@[simp] theorem modLine_eng (f : LinePort → LinePort) (s : State) : (modLine f s).eng = s.eng := rfl
@[simp] theorem modLine_dom (f : LinePort → LinePort) (s : State) : (modLine f s).dom = s.dom := rfl
@[simp] theorem modLine_recorder (f : LinePort → LinePort) (s : State) : (modLine f s).recorder = s.recorder := rfl
@[simp] theorem modLine_acc (f : LinePort → LinePort) (s : State) : (modLine f s).acc = s.acc := rfl
@[simp] theorem modLine_churn (f : LinePort → LinePort) (s : State) : (modLine f s).churn = s.churn := rfl
@[simp] theorem modLine_spare (f : LinePort → LinePort) (s : State) : (modLine f s).spare = s.spare := rfl
@[simp] theorem modLine_sec (f : LinePort → LinePort) (s : State) : (modLine f s).sec = s.sec := rfl
@[simp] theorem modLine_pwr (f : LinePort → LinePort) (s : State) : (modLine f s).pwr = s.pwr := rfl
@[simp] theorem modLine_tod (f : LinePort → LinePort) (s : State) : (modLine f s).tod = s.tod := rfl
@[simp] theorem modLine_free (f : LinePort → LinePort) (s : State) : (modLine f s).free = s.free := rfl
@[simp] theorem modLine_pending (f : LinePort → LinePort) (s : State) : (modLine f s).pending = s.pending := rfl

@[simp] theorem modPair_csr (p : Nat) (f : Pair → Pair) (s : State) : (modPair p f s).csr = s.csr := rfl
@[simp] theorem modPair_round (p : Nat) (f : Pair → Pair) (s : State) : (modPair p f s).round = s.round := rfl
@[simp] theorem modPair_evt (p : Nat) (f : Pair → Pair) (s : State) : (modPair p f s).evt = s.evt := rfl
@[simp] theorem modPair_noc (p : Nat) (f : Pair → Pair) (s : State) : (modPair p f s).noc = s.noc := rfl
@[simp] theorem modPair_mem (p : Nat) (f : Pair → Pair) (s : State) : (modPair p f s).mem = s.mem := rfl
@[simp] theorem modPair_dma (p : Nat) (f : Pair → Pair) (s : State) : (modPair p f s).dma = s.dma := rfl
@[simp] theorem modPair_cfa (p : Nat) (f : Pair → Pair) (s : State) : (modPair p f s).cfa = s.cfa := rfl
@[simp] theorem modPair_mac (p : Nat) (f : Pair → Pair) (s : State) : (modPair p f s).mac = s.mac := rfl
@[simp] theorem modPair_lane (p : Nat) (f : Pair → Pair) (s : State) : (modPair p f s).lane = s.lane := rfl
@[simp] theorem modPair_time (p : Nat) (f : Pair → Pair) (s : State) : (modPair p f s).time = s.time := rfl
@[simp] theorem modPair_hkc (p : Nat) (f : Pair → Pair) (s : State) : (modPair p f s).hkc = s.hkc := rfl
@[simp] theorem modPair_eng (p : Nat) (f : Pair → Pair) (s : State) : (modPair p f s).eng = s.eng := rfl
@[simp] theorem modPair_dom (p : Nat) (f : Pair → Pair) (s : State) : (modPair p f s).dom = s.dom := rfl
@[simp] theorem modPair_recorder (p : Nat) (f : Pair → Pair) (s : State) : (modPair p f s).recorder = s.recorder := rfl
@[simp] theorem modPair_acc (p : Nat) (f : Pair → Pair) (s : State) : (modPair p f s).acc = s.acc := rfl
@[simp] theorem modPair_churn (p : Nat) (f : Pair → Pair) (s : State) : (modPair p f s).churn = s.churn := rfl
@[simp] theorem modPair_spare (p : Nat) (f : Pair → Pair) (s : State) : (modPair p f s).spare = s.spare := rfl
@[simp] theorem modPair_sec (p : Nat) (f : Pair → Pair) (s : State) : (modPair p f s).sec = s.sec := rfl
@[simp] theorem modPair_pwr (p : Nat) (f : Pair → Pair) (s : State) : (modPair p f s).pwr = s.pwr := rfl
@[simp] theorem modPair_tod (p : Nat) (f : Pair → Pair) (s : State) : (modPair p f s).tod = s.tod := rfl
@[simp] theorem modPair_free (p : Nat) (f : Pair → Pair) (s : State) : (modPair p f s).free = s.free := rfl
@[simp] theorem modPair_pending (p : Nat) (f : Pair → Pair) (s : State) : (modPair p f s).pending = s.pending := rfl

@[simp] theorem setDma_csr (e : Nat) (x : DmaEng) (s : State) : (setDma e x s).csr = s.csr := rfl
@[simp] theorem setDma_round (e : Nat) (x : DmaEng) (s : State) : (setDma e x s).round = s.round := rfl
@[simp] theorem setDma_evt (e : Nat) (x : DmaEng) (s : State) : (setDma e x s).evt = s.evt := rfl
@[simp] theorem setDma_noc (e : Nat) (x : DmaEng) (s : State) : (setDma e x s).noc = s.noc := rfl
@[simp] theorem setDma_mem (e : Nat) (x : DmaEng) (s : State) : (setDma e x s).mem = s.mem := rfl
@[simp] theorem setDma_cfa (e : Nat) (x : DmaEng) (s : State) : (setDma e x s).cfa = s.cfa := rfl
@[simp] theorem setDma_mac (e : Nat) (x : DmaEng) (s : State) : (setDma e x s).mac = s.mac := rfl
@[simp] theorem setDma_lane (e : Nat) (x : DmaEng) (s : State) : (setDma e x s).lane = s.lane := rfl
@[simp] theorem setDma_line (e : Nat) (x : DmaEng) (s : State) : (setDma e x s).line = s.line := rfl
@[simp] theorem setDma_time (e : Nat) (x : DmaEng) (s : State) : (setDma e x s).time = s.time := rfl
@[simp] theorem setDma_hkc (e : Nat) (x : DmaEng) (s : State) : (setDma e x s).hkc = s.hkc := rfl
@[simp] theorem setDma_eng (e : Nat) (x : DmaEng) (s : State) : (setDma e x s).eng = s.eng := rfl
@[simp] theorem setDma_dom (e : Nat) (x : DmaEng) (s : State) : (setDma e x s).dom = s.dom := rfl
@[simp] theorem setDma_recorder (e : Nat) (x : DmaEng) (s : State) : (setDma e x s).recorder = s.recorder := rfl
@[simp] theorem setDma_acc (e : Nat) (x : DmaEng) (s : State) : (setDma e x s).acc = s.acc := rfl
@[simp] theorem setDma_churn (e : Nat) (x : DmaEng) (s : State) : (setDma e x s).churn = s.churn := rfl
@[simp] theorem setDma_spare (e : Nat) (x : DmaEng) (s : State) : (setDma e x s).spare = s.spare := rfl
@[simp] theorem setDma_sec (e : Nat) (x : DmaEng) (s : State) : (setDma e x s).sec = s.sec := rfl
@[simp] theorem setDma_pwr (e : Nat) (x : DmaEng) (s : State) : (setDma e x s).pwr = s.pwr := rfl
@[simp] theorem setDma_tod (e : Nat) (x : DmaEng) (s : State) : (setDma e x s).tod = s.tod := rfl
@[simp] theorem setDma_free (e : Nat) (x : DmaEng) (s : State) : (setDma e x s).free = s.free := rfl
@[simp] theorem setDma_pending (e : Nat) (x : DmaEng) (s : State) : (setDma e x s).pending = s.pending := rfl

@[simp] theorem modDmaCh_csr (e ch : Nat) (f : DmaChan → DmaChan) (s : State) : (modDmaCh e ch f s).csr = s.csr := rfl
@[simp] theorem modDmaCh_round (e ch : Nat) (f : DmaChan → DmaChan) (s : State) : (modDmaCh e ch f s).round = s.round := rfl
@[simp] theorem modDmaCh_evt (e ch : Nat) (f : DmaChan → DmaChan) (s : State) : (modDmaCh e ch f s).evt = s.evt := rfl
@[simp] theorem modDmaCh_noc (e ch : Nat) (f : DmaChan → DmaChan) (s : State) : (modDmaCh e ch f s).noc = s.noc := rfl
@[simp] theorem modDmaCh_mem (e ch : Nat) (f : DmaChan → DmaChan) (s : State) : (modDmaCh e ch f s).mem = s.mem := rfl
@[simp] theorem modDmaCh_cfa (e ch : Nat) (f : DmaChan → DmaChan) (s : State) : (modDmaCh e ch f s).cfa = s.cfa := rfl
@[simp] theorem modDmaCh_mac (e ch : Nat) (f : DmaChan → DmaChan) (s : State) : (modDmaCh e ch f s).mac = s.mac := rfl
@[simp] theorem modDmaCh_lane (e ch : Nat) (f : DmaChan → DmaChan) (s : State) : (modDmaCh e ch f s).lane = s.lane := rfl
@[simp] theorem modDmaCh_line (e ch : Nat) (f : DmaChan → DmaChan) (s : State) : (modDmaCh e ch f s).line = s.line := rfl
@[simp] theorem modDmaCh_time (e ch : Nat) (f : DmaChan → DmaChan) (s : State) : (modDmaCh e ch f s).time = s.time := rfl
@[simp] theorem modDmaCh_hkc (e ch : Nat) (f : DmaChan → DmaChan) (s : State) : (modDmaCh e ch f s).hkc = s.hkc := rfl
@[simp] theorem modDmaCh_eng (e ch : Nat) (f : DmaChan → DmaChan) (s : State) : (modDmaCh e ch f s).eng = s.eng := rfl
@[simp] theorem modDmaCh_dom (e ch : Nat) (f : DmaChan → DmaChan) (s : State) : (modDmaCh e ch f s).dom = s.dom := rfl
@[simp] theorem modDmaCh_recorder (e ch : Nat) (f : DmaChan → DmaChan) (s : State) : (modDmaCh e ch f s).recorder = s.recorder := rfl
@[simp] theorem modDmaCh_acc (e ch : Nat) (f : DmaChan → DmaChan) (s : State) : (modDmaCh e ch f s).acc = s.acc := rfl
@[simp] theorem modDmaCh_churn (e ch : Nat) (f : DmaChan → DmaChan) (s : State) : (modDmaCh e ch f s).churn = s.churn := rfl
@[simp] theorem modDmaCh_spare (e ch : Nat) (f : DmaChan → DmaChan) (s : State) : (modDmaCh e ch f s).spare = s.spare := rfl
@[simp] theorem modDmaCh_sec (e ch : Nat) (f : DmaChan → DmaChan) (s : State) : (modDmaCh e ch f s).sec = s.sec := rfl
@[simp] theorem modDmaCh_pwr (e ch : Nat) (f : DmaChan → DmaChan) (s : State) : (modDmaCh e ch f s).pwr = s.pwr := rfl
@[simp] theorem modDmaCh_tod (e ch : Nat) (f : DmaChan → DmaChan) (s : State) : (modDmaCh e ch f s).tod = s.tod := rfl
@[simp] theorem modDmaCh_free (e ch : Nat) (f : DmaChan → DmaChan) (s : State) : (modDmaCh e ch f s).free = s.free := rfl
@[simp] theorem modDmaCh_pending (e ch : Nat) (f : DmaChan → DmaChan) (s : State) : (modDmaCh e ch f s).pending = s.pending := rfl

@[simp] theorem setCfa_csr (ch : Nat) (x : CfaChan) (s : State) : (setCfa ch x s).csr = s.csr := rfl
@[simp] theorem setCfa_round (ch : Nat) (x : CfaChan) (s : State) : (setCfa ch x s).round = s.round := rfl
@[simp] theorem setCfa_evt (ch : Nat) (x : CfaChan) (s : State) : (setCfa ch x s).evt = s.evt := rfl
@[simp] theorem setCfa_noc (ch : Nat) (x : CfaChan) (s : State) : (setCfa ch x s).noc = s.noc := rfl
@[simp] theorem setCfa_mem (ch : Nat) (x : CfaChan) (s : State) : (setCfa ch x s).mem = s.mem := rfl
@[simp] theorem setCfa_dma (ch : Nat) (x : CfaChan) (s : State) : (setCfa ch x s).dma = s.dma := rfl
@[simp] theorem setCfa_mac (ch : Nat) (x : CfaChan) (s : State) : (setCfa ch x s).mac = s.mac := rfl
@[simp] theorem setCfa_lane (ch : Nat) (x : CfaChan) (s : State) : (setCfa ch x s).lane = s.lane := rfl
@[simp] theorem setCfa_line (ch : Nat) (x : CfaChan) (s : State) : (setCfa ch x s).line = s.line := rfl
@[simp] theorem setCfa_time (ch : Nat) (x : CfaChan) (s : State) : (setCfa ch x s).time = s.time := rfl
@[simp] theorem setCfa_hkc (ch : Nat) (x : CfaChan) (s : State) : (setCfa ch x s).hkc = s.hkc := rfl
@[simp] theorem setCfa_eng (ch : Nat) (x : CfaChan) (s : State) : (setCfa ch x s).eng = s.eng := rfl
@[simp] theorem setCfa_dom (ch : Nat) (x : CfaChan) (s : State) : (setCfa ch x s).dom = s.dom := rfl
@[simp] theorem setCfa_recorder (ch : Nat) (x : CfaChan) (s : State) : (setCfa ch x s).recorder = s.recorder := rfl
@[simp] theorem setCfa_acc (ch : Nat) (x : CfaChan) (s : State) : (setCfa ch x s).acc = s.acc := rfl
@[simp] theorem setCfa_churn (ch : Nat) (x : CfaChan) (s : State) : (setCfa ch x s).churn = s.churn := rfl
@[simp] theorem setCfa_spare (ch : Nat) (x : CfaChan) (s : State) : (setCfa ch x s).spare = s.spare := rfl
@[simp] theorem setCfa_sec (ch : Nat) (x : CfaChan) (s : State) : (setCfa ch x s).sec = s.sec := rfl
@[simp] theorem setCfa_pwr (ch : Nat) (x : CfaChan) (s : State) : (setCfa ch x s).pwr = s.pwr := rfl
@[simp] theorem setCfa_tod (ch : Nat) (x : CfaChan) (s : State) : (setCfa ch x s).tod = s.tod := rfl
@[simp] theorem setCfa_free (ch : Nat) (x : CfaChan) (s : State) : (setCfa ch x s).free = s.free := rfl
@[simp] theorem setCfa_pending (ch : Nat) (x : CfaChan) (s : State) : (setCfa ch x s).pending = s.pending := rfl

@[simp] theorem modCfa_csr (ch : Nat) (f : CfaChan → CfaChan) (s : State) : (modCfa ch f s).csr = s.csr := rfl
@[simp] theorem modCfa_round (ch : Nat) (f : CfaChan → CfaChan) (s : State) : (modCfa ch f s).round = s.round := rfl
@[simp] theorem modCfa_evt (ch : Nat) (f : CfaChan → CfaChan) (s : State) : (modCfa ch f s).evt = s.evt := rfl
@[simp] theorem modCfa_noc (ch : Nat) (f : CfaChan → CfaChan) (s : State) : (modCfa ch f s).noc = s.noc := rfl
@[simp] theorem modCfa_mem (ch : Nat) (f : CfaChan → CfaChan) (s : State) : (modCfa ch f s).mem = s.mem := rfl
@[simp] theorem modCfa_dma (ch : Nat) (f : CfaChan → CfaChan) (s : State) : (modCfa ch f s).dma = s.dma := rfl
@[simp] theorem modCfa_mac (ch : Nat) (f : CfaChan → CfaChan) (s : State) : (modCfa ch f s).mac = s.mac := rfl
@[simp] theorem modCfa_lane (ch : Nat) (f : CfaChan → CfaChan) (s : State) : (modCfa ch f s).lane = s.lane := rfl
@[simp] theorem modCfa_line (ch : Nat) (f : CfaChan → CfaChan) (s : State) : (modCfa ch f s).line = s.line := rfl
@[simp] theorem modCfa_time (ch : Nat) (f : CfaChan → CfaChan) (s : State) : (modCfa ch f s).time = s.time := rfl
@[simp] theorem modCfa_hkc (ch : Nat) (f : CfaChan → CfaChan) (s : State) : (modCfa ch f s).hkc = s.hkc := rfl
@[simp] theorem modCfa_eng (ch : Nat) (f : CfaChan → CfaChan) (s : State) : (modCfa ch f s).eng = s.eng := rfl
@[simp] theorem modCfa_dom (ch : Nat) (f : CfaChan → CfaChan) (s : State) : (modCfa ch f s).dom = s.dom := rfl
@[simp] theorem modCfa_recorder (ch : Nat) (f : CfaChan → CfaChan) (s : State) : (modCfa ch f s).recorder = s.recorder := rfl
@[simp] theorem modCfa_acc (ch : Nat) (f : CfaChan → CfaChan) (s : State) : (modCfa ch f s).acc = s.acc := rfl
@[simp] theorem modCfa_churn (ch : Nat) (f : CfaChan → CfaChan) (s : State) : (modCfa ch f s).churn = s.churn := rfl
@[simp] theorem modCfa_spare (ch : Nat) (f : CfaChan → CfaChan) (s : State) : (modCfa ch f s).spare = s.spare := rfl
@[simp] theorem modCfa_sec (ch : Nat) (f : CfaChan → CfaChan) (s : State) : (modCfa ch f s).sec = s.sec := rfl
@[simp] theorem modCfa_pwr (ch : Nat) (f : CfaChan → CfaChan) (s : State) : (modCfa ch f s).pwr = s.pwr := rfl
@[simp] theorem modCfa_tod (ch : Nat) (f : CfaChan → CfaChan) (s : State) : (modCfa ch f s).tod = s.tod := rfl
@[simp] theorem modCfa_free (ch : Nat) (f : CfaChan → CfaChan) (s : State) : (modCfa ch f s).free = s.free := rfl
@[simp] theorem modCfa_pending (ch : Nat) (f : CfaChan → CfaChan) (s : State) : (modCfa ch f s).pending = s.pending := rfl

@[simp] theorem setTxns_csr (l : List Txn) (s : State) : (setTxns l s).csr = s.csr := rfl
@[simp] theorem setTxns_round (l : List Txn) (s : State) : (setTxns l s).round = s.round := rfl
@[simp] theorem setTxns_evt (l : List Txn) (s : State) : (setTxns l s).evt = s.evt := rfl
@[simp] theorem setTxns_mem (l : List Txn) (s : State) : (setTxns l s).mem = s.mem := rfl
@[simp] theorem setTxns_dma (l : List Txn) (s : State) : (setTxns l s).dma = s.dma := rfl
@[simp] theorem setTxns_cfa (l : List Txn) (s : State) : (setTxns l s).cfa = s.cfa := rfl
@[simp] theorem setTxns_mac (l : List Txn) (s : State) : (setTxns l s).mac = s.mac := rfl
@[simp] theorem setTxns_lane (l : List Txn) (s : State) : (setTxns l s).lane = s.lane := rfl
@[simp] theorem setTxns_line (l : List Txn) (s : State) : (setTxns l s).line = s.line := rfl
@[simp] theorem setTxns_time (l : List Txn) (s : State) : (setTxns l s).time = s.time := rfl
@[simp] theorem setTxns_hkc (l : List Txn) (s : State) : (setTxns l s).hkc = s.hkc := rfl
@[simp] theorem setTxns_eng (l : List Txn) (s : State) : (setTxns l s).eng = s.eng := rfl
@[simp] theorem setTxns_dom (l : List Txn) (s : State) : (setTxns l s).dom = s.dom := rfl
@[simp] theorem setTxns_recorder (l : List Txn) (s : State) : (setTxns l s).recorder = s.recorder := rfl
@[simp] theorem setTxns_acc (l : List Txn) (s : State) : (setTxns l s).acc = s.acc := rfl
@[simp] theorem setTxns_churn (l : List Txn) (s : State) : (setTxns l s).churn = s.churn := rfl
@[simp] theorem setTxns_spare (l : List Txn) (s : State) : (setTxns l s).spare = s.spare := rfl
@[simp] theorem setTxns_sec (l : List Txn) (s : State) : (setTxns l s).sec = s.sec := rfl
@[simp] theorem setTxns_pwr (l : List Txn) (s : State) : (setTxns l s).pwr = s.pwr := rfl
@[simp] theorem setTxns_tod (l : List Txn) (s : State) : (setTxns l s).tod = s.tod := rfl
@[simp] theorem setTxns_free (l : List Txn) (s : State) : (setTxns l s).free = s.free := rfl
@[simp] theorem setTxns_pending (l : List Txn) (s : State) : (setTxns l s).pending = s.pending := rfl

@[simp] theorem modRec_csr (f : Rec → Rec) (s : State) : (modRec f s).csr = s.csr := rfl
@[simp] theorem modRec_round (f : Rec → Rec) (s : State) : (modRec f s).round = s.round := rfl
@[simp] theorem modRec_evt (f : Rec → Rec) (s : State) : (modRec f s).evt = s.evt := rfl
@[simp] theorem modRec_noc (f : Rec → Rec) (s : State) : (modRec f s).noc = s.noc := rfl
@[simp] theorem modRec_mem (f : Rec → Rec) (s : State) : (modRec f s).mem = s.mem := rfl
@[simp] theorem modRec_dma (f : Rec → Rec) (s : State) : (modRec f s).dma = s.dma := rfl
@[simp] theorem modRec_cfa (f : Rec → Rec) (s : State) : (modRec f s).cfa = s.cfa := rfl
@[simp] theorem modRec_mac (f : Rec → Rec) (s : State) : (modRec f s).mac = s.mac := rfl
@[simp] theorem modRec_lane (f : Rec → Rec) (s : State) : (modRec f s).lane = s.lane := rfl
@[simp] theorem modRec_line (f : Rec → Rec) (s : State) : (modRec f s).line = s.line := rfl
@[simp] theorem modRec_time (f : Rec → Rec) (s : State) : (modRec f s).time = s.time := rfl
@[simp] theorem modRec_hkc (f : Rec → Rec) (s : State) : (modRec f s).hkc = s.hkc := rfl
@[simp] theorem modRec_eng (f : Rec → Rec) (s : State) : (modRec f s).eng = s.eng := rfl
@[simp] theorem modRec_dom (f : Rec → Rec) (s : State) : (modRec f s).dom = s.dom := rfl
@[simp] theorem modRec_acc (f : Rec → Rec) (s : State) : (modRec f s).acc = s.acc := rfl
@[simp] theorem modRec_churn (f : Rec → Rec) (s : State) : (modRec f s).churn = s.churn := rfl
@[simp] theorem modRec_spare (f : Rec → Rec) (s : State) : (modRec f s).spare = s.spare := rfl
@[simp] theorem modRec_sec (f : Rec → Rec) (s : State) : (modRec f s).sec = s.sec := rfl
@[simp] theorem modRec_pwr (f : Rec → Rec) (s : State) : (modRec f s).pwr = s.pwr := rfl
@[simp] theorem modRec_tod (f : Rec → Rec) (s : State) : (modRec f s).tod = s.tod := rfl
@[simp] theorem modRec_free (f : Rec → Rec) (s : State) : (modRec f s).free = s.free := rfl
@[simp] theorem modRec_pending (f : Rec → Rec) (s : State) : (modRec f s).pending = s.pending := rfl

@[simp] theorem setAccUnit_round (k : Nat) (u : AccUnit) (s : State) : (setAccUnit k u s).round = s.round := by simp only [setAccUnit, setFld_round]
@[simp] theorem setAccUnit_evt (k : Nat) (u : AccUnit) (s : State) : (setAccUnit k u s).evt = s.evt := by simp only [setAccUnit, setFld_evt]
@[simp] theorem setAccUnit_noc (k : Nat) (u : AccUnit) (s : State) : (setAccUnit k u s).noc = s.noc := by simp only [setAccUnit, setFld_noc]
@[simp] theorem setAccUnit_mem (k : Nat) (u : AccUnit) (s : State) : (setAccUnit k u s).mem = s.mem := by simp only [setAccUnit, setFld_mem]
@[simp] theorem setAccUnit_dma (k : Nat) (u : AccUnit) (s : State) : (setAccUnit k u s).dma = s.dma := by simp only [setAccUnit, setFld_dma]
@[simp] theorem setAccUnit_cfa (k : Nat) (u : AccUnit) (s : State) : (setAccUnit k u s).cfa = s.cfa := by simp only [setAccUnit, setFld_cfa]
@[simp] theorem setAccUnit_mac (k : Nat) (u : AccUnit) (s : State) : (setAccUnit k u s).mac = s.mac := by simp only [setAccUnit, setFld_mac]
@[simp] theorem setAccUnit_lane (k : Nat) (u : AccUnit) (s : State) : (setAccUnit k u s).lane = s.lane := by simp only [setAccUnit, setFld_lane]
@[simp] theorem setAccUnit_line (k : Nat) (u : AccUnit) (s : State) : (setAccUnit k u s).line = s.line := by simp only [setAccUnit, setFld_line]
@[simp] theorem setAccUnit_time (k : Nat) (u : AccUnit) (s : State) : (setAccUnit k u s).time = s.time := by simp only [setAccUnit, setFld_time]
@[simp] theorem setAccUnit_hkc (k : Nat) (u : AccUnit) (s : State) : (setAccUnit k u s).hkc = s.hkc := by simp only [setAccUnit, setFld_hkc]
@[simp] theorem setAccUnit_eng (k : Nat) (u : AccUnit) (s : State) : (setAccUnit k u s).eng = s.eng := by simp only [setAccUnit, setFld_eng]
@[simp] theorem setAccUnit_dom (k : Nat) (u : AccUnit) (s : State) : (setAccUnit k u s).dom = s.dom := by simp only [setAccUnit, setFld_dom]
@[simp] theorem setAccUnit_recorder (k : Nat) (u : AccUnit) (s : State) : (setAccUnit k u s).recorder = s.recorder := by simp only [setAccUnit, setFld_recorder]
@[simp] theorem setAccUnit_churn (k : Nat) (u : AccUnit) (s : State) : (setAccUnit k u s).churn = s.churn := by simp only [setAccUnit, setFld_churn]
@[simp] theorem setAccUnit_spare (k : Nat) (u : AccUnit) (s : State) : (setAccUnit k u s).spare = s.spare := by simp only [setAccUnit, setFld_spare]
@[simp] theorem setAccUnit_sec (k : Nat) (u : AccUnit) (s : State) : (setAccUnit k u s).sec = s.sec := by simp only [setAccUnit, setFld_sec]
@[simp] theorem setAccUnit_pwr (k : Nat) (u : AccUnit) (s : State) : (setAccUnit k u s).pwr = s.pwr := by simp only [setAccUnit, setFld_pwr]
@[simp] theorem setAccUnit_tod (k : Nat) (u : AccUnit) (s : State) : (setAccUnit k u s).tod = s.tod := by simp only [setAccUnit, setFld_tod]
@[simp] theorem setAccUnit_free (k : Nat) (u : AccUnit) (s : State) : (setAccUnit k u s).free = s.free := by simp only [setAccUnit, setFld_free]
@[simp] theorem setAccUnit_pending (k : Nat) (u : AccUnit) (s : State) : (setAccUnit k u s).pending = s.pending := by simp only [setAccUnit, setFld_pending]

@[simp] theorem modAcc_round (k : Nat) (f : AccUnit → AccUnit) (s : State) : (modAcc k f s).round = s.round := setAccUnit_round k _ s
@[simp] theorem modAcc_evt (k : Nat) (f : AccUnit → AccUnit) (s : State) : (modAcc k f s).evt = s.evt := setAccUnit_evt k _ s
@[simp] theorem modAcc_noc (k : Nat) (f : AccUnit → AccUnit) (s : State) : (modAcc k f s).noc = s.noc := setAccUnit_noc k _ s
@[simp] theorem modAcc_mem (k : Nat) (f : AccUnit → AccUnit) (s : State) : (modAcc k f s).mem = s.mem := setAccUnit_mem k _ s
@[simp] theorem modAcc_dma (k : Nat) (f : AccUnit → AccUnit) (s : State) : (modAcc k f s).dma = s.dma := setAccUnit_dma k _ s
@[simp] theorem modAcc_cfa (k : Nat) (f : AccUnit → AccUnit) (s : State) : (modAcc k f s).cfa = s.cfa := setAccUnit_cfa k _ s
@[simp] theorem modAcc_mac (k : Nat) (f : AccUnit → AccUnit) (s : State) : (modAcc k f s).mac = s.mac := setAccUnit_mac k _ s
@[simp] theorem modAcc_lane (k : Nat) (f : AccUnit → AccUnit) (s : State) : (modAcc k f s).lane = s.lane := setAccUnit_lane k _ s
@[simp] theorem modAcc_line (k : Nat) (f : AccUnit → AccUnit) (s : State) : (modAcc k f s).line = s.line := setAccUnit_line k _ s
@[simp] theorem modAcc_time (k : Nat) (f : AccUnit → AccUnit) (s : State) : (modAcc k f s).time = s.time := setAccUnit_time k _ s
@[simp] theorem modAcc_hkc (k : Nat) (f : AccUnit → AccUnit) (s : State) : (modAcc k f s).hkc = s.hkc := setAccUnit_hkc k _ s
@[simp] theorem modAcc_eng (k : Nat) (f : AccUnit → AccUnit) (s : State) : (modAcc k f s).eng = s.eng := setAccUnit_eng k _ s
@[simp] theorem modAcc_dom (k : Nat) (f : AccUnit → AccUnit) (s : State) : (modAcc k f s).dom = s.dom := setAccUnit_dom k _ s
@[simp] theorem modAcc_recorder (k : Nat) (f : AccUnit → AccUnit) (s : State) : (modAcc k f s).recorder = s.recorder := setAccUnit_recorder k _ s
@[simp] theorem modAcc_churn (k : Nat) (f : AccUnit → AccUnit) (s : State) : (modAcc k f s).churn = s.churn := setAccUnit_churn k _ s
@[simp] theorem modAcc_spare (k : Nat) (f : AccUnit → AccUnit) (s : State) : (modAcc k f s).spare = s.spare := setAccUnit_spare k _ s
@[simp] theorem modAcc_sec (k : Nat) (f : AccUnit → AccUnit) (s : State) : (modAcc k f s).sec = s.sec := setAccUnit_sec k _ s
@[simp] theorem modAcc_pwr (k : Nat) (f : AccUnit → AccUnit) (s : State) : (modAcc k f s).pwr = s.pwr := setAccUnit_pwr k _ s
@[simp] theorem modAcc_tod (k : Nat) (f : AccUnit → AccUnit) (s : State) : (modAcc k f s).tod = s.tod := setAccUnit_tod k _ s
@[simp] theorem modAcc_free (k : Nat) (f : AccUnit → AccUnit) (s : State) : (modAcc k f s).free = s.free := setAccUnit_free k _ s
@[simp] theorem modAcc_pending (k : Nat) (f : AccUnit → AccUnit) (s : State) : (modAcc k f s).pending = s.pending := setAccUnit_pending k _ s

@[simp] theorem setSlice_round (sl : Nat) (x : Slice) (s : State) : (setSlice sl x s).round = s.round := by simp only [setSlice, setFld_round]
@[simp] theorem setSlice_evt (sl : Nat) (x : Slice) (s : State) : (setSlice sl x s).evt = s.evt := by simp only [setSlice, setFld_evt]
@[simp] theorem setSlice_noc (sl : Nat) (x : Slice) (s : State) : (setSlice sl x s).noc = s.noc := by simp only [setSlice, setFld_noc]
@[simp] theorem setSlice_mem (sl : Nat) (x : Slice) (s : State) : (setSlice sl x s).mem = s.mem := by simp only [setSlice, setFld_mem]
@[simp] theorem setSlice_dma (sl : Nat) (x : Slice) (s : State) : (setSlice sl x s).dma = s.dma := by simp only [setSlice, setFld_dma]
@[simp] theorem setSlice_cfa (sl : Nat) (x : Slice) (s : State) : (setSlice sl x s).cfa = s.cfa := by simp only [setSlice, setFld_cfa]
@[simp] theorem setSlice_mac (sl : Nat) (x : Slice) (s : State) : (setSlice sl x s).mac = s.mac := by simp only [setSlice, setFld_mac]
@[simp] theorem setSlice_lane (sl : Nat) (x : Slice) (s : State) : (setSlice sl x s).lane = s.lane := by simp only [setSlice, setFld_lane]
@[simp] theorem setSlice_line (sl : Nat) (x : Slice) (s : State) : (setSlice sl x s).line = s.line := by simp only [setSlice, setFld_line]
@[simp] theorem setSlice_time (sl : Nat) (x : Slice) (s : State) : (setSlice sl x s).time = s.time := by simp only [setSlice, setFld_time]
@[simp] theorem setSlice_hkc (sl : Nat) (x : Slice) (s : State) : (setSlice sl x s).hkc = s.hkc := by simp only [setSlice, setFld_hkc]
@[simp] theorem setSlice_eng (sl : Nat) (x : Slice) (s : State) : (setSlice sl x s).eng = s.eng := by simp only [setSlice, setFld_eng]
@[simp] theorem setSlice_dom (sl : Nat) (x : Slice) (s : State) : (setSlice sl x s).dom = s.dom := by simp only [setSlice, setFld_dom]
@[simp] theorem setSlice_recorder (sl : Nat) (x : Slice) (s : State) : (setSlice sl x s).recorder = s.recorder := by simp only [setSlice, setFld_recorder]
@[simp] theorem setSlice_acc (sl : Nat) (x : Slice) (s : State) : (setSlice sl x s).acc = s.acc := by simp only [setSlice, setFld_acc]
@[simp] theorem setSlice_spare (sl : Nat) (x : Slice) (s : State) : (setSlice sl x s).spare = s.spare := by simp only [setSlice, setFld_spare]
@[simp] theorem setSlice_sec (sl : Nat) (x : Slice) (s : State) : (setSlice sl x s).sec = s.sec := by simp only [setSlice, setFld_sec]
@[simp] theorem setSlice_pwr (sl : Nat) (x : Slice) (s : State) : (setSlice sl x s).pwr = s.pwr := by simp only [setSlice, setFld_pwr]
@[simp] theorem setSlice_tod (sl : Nat) (x : Slice) (s : State) : (setSlice sl x s).tod = s.tod := by simp only [setSlice, setFld_tod]
@[simp] theorem setSlice_free (sl : Nat) (x : Slice) (s : State) : (setSlice sl x s).free = s.free := by simp only [setSlice, setFld_free]
@[simp] theorem setSlice_pending (sl : Nat) (x : Slice) (s : State) : (setSlice sl x s).pending = s.pending := by simp only [setSlice, setFld_pending]

@[simp] theorem modSlice_round (sl : Nat) (f : Slice → Slice) (s : State) : (modSlice sl f s).round = s.round := setSlice_round sl _ s
@[simp] theorem modSlice_evt (sl : Nat) (f : Slice → Slice) (s : State) : (modSlice sl f s).evt = s.evt := setSlice_evt sl _ s
@[simp] theorem modSlice_noc (sl : Nat) (f : Slice → Slice) (s : State) : (modSlice sl f s).noc = s.noc := setSlice_noc sl _ s
@[simp] theorem modSlice_mem (sl : Nat) (f : Slice → Slice) (s : State) : (modSlice sl f s).mem = s.mem := setSlice_mem sl _ s
@[simp] theorem modSlice_dma (sl : Nat) (f : Slice → Slice) (s : State) : (modSlice sl f s).dma = s.dma := setSlice_dma sl _ s
@[simp] theorem modSlice_cfa (sl : Nat) (f : Slice → Slice) (s : State) : (modSlice sl f s).cfa = s.cfa := setSlice_cfa sl _ s
@[simp] theorem modSlice_mac (sl : Nat) (f : Slice → Slice) (s : State) : (modSlice sl f s).mac = s.mac := setSlice_mac sl _ s
@[simp] theorem modSlice_lane (sl : Nat) (f : Slice → Slice) (s : State) : (modSlice sl f s).lane = s.lane := setSlice_lane sl _ s
@[simp] theorem modSlice_line (sl : Nat) (f : Slice → Slice) (s : State) : (modSlice sl f s).line = s.line := setSlice_line sl _ s
@[simp] theorem modSlice_time (sl : Nat) (f : Slice → Slice) (s : State) : (modSlice sl f s).time = s.time := setSlice_time sl _ s
@[simp] theorem modSlice_hkc (sl : Nat) (f : Slice → Slice) (s : State) : (modSlice sl f s).hkc = s.hkc := setSlice_hkc sl _ s
@[simp] theorem modSlice_eng (sl : Nat) (f : Slice → Slice) (s : State) : (modSlice sl f s).eng = s.eng := setSlice_eng sl _ s
@[simp] theorem modSlice_dom (sl : Nat) (f : Slice → Slice) (s : State) : (modSlice sl f s).dom = s.dom := setSlice_dom sl _ s
@[simp] theorem modSlice_recorder (sl : Nat) (f : Slice → Slice) (s : State) : (modSlice sl f s).recorder = s.recorder := setSlice_recorder sl _ s
@[simp] theorem modSlice_acc (sl : Nat) (f : Slice → Slice) (s : State) : (modSlice sl f s).acc = s.acc := setSlice_acc sl _ s
@[simp] theorem modSlice_spare (sl : Nat) (f : Slice → Slice) (s : State) : (modSlice sl f s).spare = s.spare := setSlice_spare sl _ s
@[simp] theorem modSlice_sec (sl : Nat) (f : Slice → Slice) (s : State) : (modSlice sl f s).sec = s.sec := setSlice_sec sl _ s
@[simp] theorem modSlice_pwr (sl : Nat) (f : Slice → Slice) (s : State) : (modSlice sl f s).pwr = s.pwr := setSlice_pwr sl _ s
@[simp] theorem modSlice_tod (sl : Nat) (f : Slice → Slice) (s : State) : (modSlice sl f s).tod = s.tod := setSlice_tod sl _ s
@[simp] theorem modSlice_free (sl : Nat) (f : Slice → Slice) (s : State) : (modSlice sl f s).free = s.free := setSlice_free sl _ s
@[simp] theorem modSlice_pending (sl : Nat) (f : Slice → Slice) (s : State) : (modSlice sl f s).pending = s.pending := setSlice_pending sl _ s

@[simp] theorem setDom_round (d : Nat) (x : Dom) (s : State) : (setDom d x s).round = s.round := by simp only [setDom]; (repeat' split) <;> simp only [wr_round]
@[simp] theorem setDom_evt (d : Nat) (x : Dom) (s : State) : (setDom d x s).evt = s.evt := by simp only [setDom]; (repeat' split) <;> simp only [wr_evt]
@[simp] theorem setDom_noc (d : Nat) (x : Dom) (s : State) : (setDom d x s).noc = s.noc := by simp only [setDom]; (repeat' split) <;> simp only [wr_noc]
@[simp] theorem setDom_mem (d : Nat) (x : Dom) (s : State) : (setDom d x s).mem = s.mem := by simp only [setDom]; (repeat' split) <;> simp only [wr_mem]
@[simp] theorem setDom_dma (d : Nat) (x : Dom) (s : State) : (setDom d x s).dma = s.dma := by simp only [setDom]; (repeat' split) <;> simp only [wr_dma]
@[simp] theorem setDom_cfa (d : Nat) (x : Dom) (s : State) : (setDom d x s).cfa = s.cfa := by simp only [setDom]; (repeat' split) <;> simp only [wr_cfa]
@[simp] theorem setDom_mac (d : Nat) (x : Dom) (s : State) : (setDom d x s).mac = s.mac := by simp only [setDom]; (repeat' split) <;> simp only [wr_mac]
@[simp] theorem setDom_lane (d : Nat) (x : Dom) (s : State) : (setDom d x s).lane = s.lane := by simp only [setDom]; (repeat' split) <;> simp only [wr_lane]
@[simp] theorem setDom_line (d : Nat) (x : Dom) (s : State) : (setDom d x s).line = s.line := by simp only [setDom]; (repeat' split) <;> simp only [wr_line]
@[simp] theorem setDom_time (d : Nat) (x : Dom) (s : State) : (setDom d x s).time = s.time := by simp only [setDom]; (repeat' split) <;> simp only [wr_time]
@[simp] theorem setDom_hkc (d : Nat) (x : Dom) (s : State) : (setDom d x s).hkc = s.hkc := by simp only [setDom]; (repeat' split) <;> simp only [wr_hkc]
@[simp] theorem setDom_eng (d : Nat) (x : Dom) (s : State) : (setDom d x s).eng = s.eng := by simp only [setDom]; (repeat' split) <;> simp only [wr_eng]
@[simp] theorem setDom_recorder (d : Nat) (x : Dom) (s : State) : (setDom d x s).recorder = s.recorder := by simp only [setDom]; (repeat' split) <;> simp only [wr_recorder]
@[simp] theorem setDom_acc (d : Nat) (x : Dom) (s : State) : (setDom d x s).acc = s.acc := by simp only [setDom]; (repeat' split) <;> simp only [wr_acc]
@[simp] theorem setDom_churn (d : Nat) (x : Dom) (s : State) : (setDom d x s).churn = s.churn := by simp only [setDom]; (repeat' split) <;> simp only [wr_churn]
@[simp] theorem setDom_spare (d : Nat) (x : Dom) (s : State) : (setDom d x s).spare = s.spare := by simp only [setDom]; (repeat' split) <;> simp only [wr_spare]
@[simp] theorem setDom_sec (d : Nat) (x : Dom) (s : State) : (setDom d x s).sec = s.sec := by simp only [setDom]; (repeat' split) <;> simp only [wr_sec]
@[simp] theorem setDom_pwr (d : Nat) (x : Dom) (s : State) : (setDom d x s).pwr = s.pwr := by simp only [setDom]; (repeat' split) <;> simp only [wr_pwr]
@[simp] theorem setDom_tod (d : Nat) (x : Dom) (s : State) : (setDom d x s).tod = s.tod := by simp only [setDom]; (repeat' split) <;> simp only [wr_tod]
@[simp] theorem setDom_free (d : Nat) (x : Dom) (s : State) : (setDom d x s).free = s.free := by simp only [setDom]; (repeat' split) <;> simp only [wr_free]
@[simp] theorem setDom_pending (d : Nat) (x : Dom) (s : State) : (setDom d x s).pending = s.pending := by simp only [setDom]; (repeat' split) <;> simp only [wr_pending]

@[simp] theorem modDom_round (d : Nat) (f : Dom → Dom) (s : State) : (modDom d f s).round = s.round := setDom_round d _ s
@[simp] theorem modDom_evt (d : Nat) (f : Dom → Dom) (s : State) : (modDom d f s).evt = s.evt := setDom_evt d _ s
@[simp] theorem modDom_noc (d : Nat) (f : Dom → Dom) (s : State) : (modDom d f s).noc = s.noc := setDom_noc d _ s
@[simp] theorem modDom_mem (d : Nat) (f : Dom → Dom) (s : State) : (modDom d f s).mem = s.mem := setDom_mem d _ s
@[simp] theorem modDom_dma (d : Nat) (f : Dom → Dom) (s : State) : (modDom d f s).dma = s.dma := setDom_dma d _ s
@[simp] theorem modDom_cfa (d : Nat) (f : Dom → Dom) (s : State) : (modDom d f s).cfa = s.cfa := setDom_cfa d _ s
@[simp] theorem modDom_mac (d : Nat) (f : Dom → Dom) (s : State) : (modDom d f s).mac = s.mac := setDom_mac d _ s
@[simp] theorem modDom_lane (d : Nat) (f : Dom → Dom) (s : State) : (modDom d f s).lane = s.lane := setDom_lane d _ s
@[simp] theorem modDom_line (d : Nat) (f : Dom → Dom) (s : State) : (modDom d f s).line = s.line := setDom_line d _ s
@[simp] theorem modDom_time (d : Nat) (f : Dom → Dom) (s : State) : (modDom d f s).time = s.time := setDom_time d _ s
@[simp] theorem modDom_hkc (d : Nat) (f : Dom → Dom) (s : State) : (modDom d f s).hkc = s.hkc := setDom_hkc d _ s
@[simp] theorem modDom_eng (d : Nat) (f : Dom → Dom) (s : State) : (modDom d f s).eng = s.eng := setDom_eng d _ s
@[simp] theorem modDom_recorder (d : Nat) (f : Dom → Dom) (s : State) : (modDom d f s).recorder = s.recorder := setDom_recorder d _ s
@[simp] theorem modDom_acc (d : Nat) (f : Dom → Dom) (s : State) : (modDom d f s).acc = s.acc := setDom_acc d _ s
@[simp] theorem modDom_churn (d : Nat) (f : Dom → Dom) (s : State) : (modDom d f s).churn = s.churn := setDom_churn d _ s
@[simp] theorem modDom_spare (d : Nat) (f : Dom → Dom) (s : State) : (modDom d f s).spare = s.spare := setDom_spare d _ s
@[simp] theorem modDom_sec (d : Nat) (f : Dom → Dom) (s : State) : (modDom d f s).sec = s.sec := setDom_sec d _ s
@[simp] theorem modDom_pwr (d : Nat) (f : Dom → Dom) (s : State) : (modDom d f s).pwr = s.pwr := setDom_pwr d _ s
@[simp] theorem modDom_tod (d : Nat) (f : Dom → Dom) (s : State) : (modDom d f s).tod = s.tod := setDom_tod d _ s
@[simp] theorem modDom_free (d : Nat) (f : Dom → Dom) (s : State) : (modDom d f s).free = s.free := setDom_free d _ s
@[simp] theorem modDom_pending (d : Nat) (f : Dom → Dom) (s : State) : (modDom d f s).pending = s.pending := setDom_pending d _ s

@[simp] theorem setRoundState_round (n : Nat) (s : State) : (setRoundState n s).round = s.round := rfl
@[simp] theorem setRoundState_evt (n : Nat) (s : State) : (setRoundState n s).evt = s.evt := rfl
@[simp] theorem setRoundState_noc (n : Nat) (s : State) : (setRoundState n s).noc = s.noc := rfl
@[simp] theorem setRoundState_mem (n : Nat) (s : State) : (setRoundState n s).mem = s.mem := rfl
@[simp] theorem setRoundState_dma (n : Nat) (s : State) : (setRoundState n s).dma = s.dma := rfl
@[simp] theorem setRoundState_cfa (n : Nat) (s : State) : (setRoundState n s).cfa = s.cfa := rfl
@[simp] theorem setRoundState_mac (n : Nat) (s : State) : (setRoundState n s).mac = s.mac := rfl
@[simp] theorem setRoundState_lane (n : Nat) (s : State) : (setRoundState n s).lane = s.lane := rfl
@[simp] theorem setRoundState_line (n : Nat) (s : State) : (setRoundState n s).line = s.line := rfl
@[simp] theorem setRoundState_time (n : Nat) (s : State) : (setRoundState n s).time = s.time := rfl
@[simp] theorem setRoundState_hkc (n : Nat) (s : State) : (setRoundState n s).hkc = s.hkc := rfl
@[simp] theorem setRoundState_eng (n : Nat) (s : State) : (setRoundState n s).eng = s.eng := rfl
@[simp] theorem setRoundState_dom (n : Nat) (s : State) : (setRoundState n s).dom = s.dom := rfl
@[simp] theorem setRoundState_recorder (n : Nat) (s : State) : (setRoundState n s).recorder = s.recorder := rfl
@[simp] theorem setRoundState_acc (n : Nat) (s : State) : (setRoundState n s).acc = s.acc := rfl
@[simp] theorem setRoundState_churn (n : Nat) (s : State) : (setRoundState n s).churn = s.churn := rfl
@[simp] theorem setRoundState_spare (n : Nat) (s : State) : (setRoundState n s).spare = s.spare := rfl
@[simp] theorem setRoundState_sec (n : Nat) (s : State) : (setRoundState n s).sec = s.sec := rfl
@[simp] theorem setRoundState_pwr (n : Nat) (s : State) : (setRoundState n s).pwr = s.pwr := rfl
@[simp] theorem setRoundState_tod (n : Nat) (s : State) : (setRoundState n s).tod = s.tod := rfl
@[simp] theorem setRoundState_free (n : Nat) (s : State) : (setRoundState n s).free = s.free := rfl
@[simp] theorem setRoundState_pending (n : Nat) (s : State) : (setRoundState n s).pending = s.pending := rfl

@[simp] theorem modGuard_csr (k : Nat) (f : Guard → Guard) (s : State) : (modGuard k f s).csr = s.csr := rfl
@[simp] theorem modGuard_round (k : Nat) (f : Guard → Guard) (s : State) : (modGuard k f s).round = s.round := rfl
@[simp] theorem modGuard_evt (k : Nat) (f : Guard → Guard) (s : State) : (modGuard k f s).evt = s.evt := rfl
@[simp] theorem modGuard_mem (k : Nat) (f : Guard → Guard) (s : State) : (modGuard k f s).mem = s.mem := rfl
@[simp] theorem modGuard_dma (k : Nat) (f : Guard → Guard) (s : State) : (modGuard k f s).dma = s.dma := rfl
@[simp] theorem modGuard_cfa (k : Nat) (f : Guard → Guard) (s : State) : (modGuard k f s).cfa = s.cfa := rfl
@[simp] theorem modGuard_mac (k : Nat) (f : Guard → Guard) (s : State) : (modGuard k f s).mac = s.mac := rfl
@[simp] theorem modGuard_lane (k : Nat) (f : Guard → Guard) (s : State) : (modGuard k f s).lane = s.lane := rfl
@[simp] theorem modGuard_line (k : Nat) (f : Guard → Guard) (s : State) : (modGuard k f s).line = s.line := rfl
@[simp] theorem modGuard_time (k : Nat) (f : Guard → Guard) (s : State) : (modGuard k f s).time = s.time := rfl
@[simp] theorem modGuard_hkc (k : Nat) (f : Guard → Guard) (s : State) : (modGuard k f s).hkc = s.hkc := rfl
@[simp] theorem modGuard_eng (k : Nat) (f : Guard → Guard) (s : State) : (modGuard k f s).eng = s.eng := rfl
@[simp] theorem modGuard_dom (k : Nat) (f : Guard → Guard) (s : State) : (modGuard k f s).dom = s.dom := rfl
@[simp] theorem modGuard_recorder (k : Nat) (f : Guard → Guard) (s : State) : (modGuard k f s).recorder = s.recorder := rfl
@[simp] theorem modGuard_acc (k : Nat) (f : Guard → Guard) (s : State) : (modGuard k f s).acc = s.acc := rfl
@[simp] theorem modGuard_churn (k : Nat) (f : Guard → Guard) (s : State) : (modGuard k f s).churn = s.churn := rfl
@[simp] theorem modGuard_spare (k : Nat) (f : Guard → Guard) (s : State) : (modGuard k f s).spare = s.spare := rfl
@[simp] theorem modGuard_sec (k : Nat) (f : Guard → Guard) (s : State) : (modGuard k f s).sec = s.sec := rfl
@[simp] theorem modGuard_pwr (k : Nat) (f : Guard → Guard) (s : State) : (modGuard k f s).pwr = s.pwr := rfl
@[simp] theorem modGuard_tod (k : Nat) (f : Guard → Guard) (s : State) : (modGuard k f s).tod = s.tod := rfl
@[simp] theorem modGuard_free (k : Nat) (f : Guard → Guard) (s : State) : (modGuard k f s).free = s.free := rfl
@[simp] theorem modGuard_pending (k : Nat) (f : Guard → Guard) (s : State) : (modGuard k f s).pending = s.pending := rfl

@[simp] theorem setReductions_csr (c : Nat) (l : List Reduction) (s : State) : (setReductions c l s).csr = s.csr := rfl
@[simp] theorem setReductions_round (c : Nat) (l : List Reduction) (s : State) : (setReductions c l s).round = s.round := rfl
@[simp] theorem setReductions_evt (c : Nat) (l : List Reduction) (s : State) : (setReductions c l s).evt = s.evt := rfl
@[simp] theorem setReductions_mem (c : Nat) (l : List Reduction) (s : State) : (setReductions c l s).mem = s.mem := rfl
@[simp] theorem setReductions_dma (c : Nat) (l : List Reduction) (s : State) : (setReductions c l s).dma = s.dma := rfl
@[simp] theorem setReductions_cfa (c : Nat) (l : List Reduction) (s : State) : (setReductions c l s).cfa = s.cfa := rfl
@[simp] theorem setReductions_mac (c : Nat) (l : List Reduction) (s : State) : (setReductions c l s).mac = s.mac := rfl
@[simp] theorem setReductions_lane (c : Nat) (l : List Reduction) (s : State) : (setReductions c l s).lane = s.lane := rfl
@[simp] theorem setReductions_line (c : Nat) (l : List Reduction) (s : State) : (setReductions c l s).line = s.line := rfl
@[simp] theorem setReductions_time (c : Nat) (l : List Reduction) (s : State) : (setReductions c l s).time = s.time := rfl
@[simp] theorem setReductions_hkc (c : Nat) (l : List Reduction) (s : State) : (setReductions c l s).hkc = s.hkc := rfl
@[simp] theorem setReductions_eng (c : Nat) (l : List Reduction) (s : State) : (setReductions c l s).eng = s.eng := rfl
@[simp] theorem setReductions_dom (c : Nat) (l : List Reduction) (s : State) : (setReductions c l s).dom = s.dom := rfl
@[simp] theorem setReductions_recorder (c : Nat) (l : List Reduction) (s : State) : (setReductions c l s).recorder = s.recorder := rfl
@[simp] theorem setReductions_acc (c : Nat) (l : List Reduction) (s : State) : (setReductions c l s).acc = s.acc := rfl
@[simp] theorem setReductions_churn (c : Nat) (l : List Reduction) (s : State) : (setReductions c l s).churn = s.churn := rfl
@[simp] theorem setReductions_spare (c : Nat) (l : List Reduction) (s : State) : (setReductions c l s).spare = s.spare := rfl
@[simp] theorem setReductions_sec (c : Nat) (l : List Reduction) (s : State) : (setReductions c l s).sec = s.sec := rfl
@[simp] theorem setReductions_pwr (c : Nat) (l : List Reduction) (s : State) : (setReductions c l s).pwr = s.pwr := rfl
@[simp] theorem setReductions_tod (c : Nat) (l : List Reduction) (s : State) : (setReductions c l s).tod = s.tod := rfl
@[simp] theorem setReductions_free (c : Nat) (l : List Reduction) (s : State) : (setReductions c l s).free = s.free := rfl
@[simp] theorem setReductions_pending (c : Nat) (l : List Reduction) (s : State) : (setReductions c l s).pending = s.pending := rfl

end Sys2Proof.Machine
end

