-- ==== Sys2Proof/Laws/Table.lean ====
section
/-! SUPPORT. The laws of sparse tables: read after write on every table, and the canonical form. -/
namespace Sys2Proof.Machine

theorem tabGet_tabDrop_same {α : Type} {d : Nat → α} {t : List (Nat × α)} {k : Nat} : tabGet d (tabDrop t k) k = d k := by
  induction t with
  | nil => rfl
  | cons x r ih =>
    simp only [tabDrop]
    split
    · exact ih
    · simp only [tabGet]
      rw [if_neg (fun h => ‹¬x.1 = k› h.symm)]
      exact ih

theorem tabGet_tabDrop_other {α : Type} {d : Nat → α} {t : List (Nat × α)} {k i : Nat} (h : i ≠ k) :
    tabGet d (tabDrop t k) i = tabGet d t i := by
  induction t with
  | nil => rfl
  | cons x r ih =>
    simp only [tabDrop, tabGet]
    split
    · subst_vars
      rw [if_neg h]
      exact ih
    · simp only [tabGet]
      rw [ih]

theorem tabGet_tabPut_same {α : Type} {d : Nat → α} {t : List (Nat × α)} {k : Nat} {v : α} (h : tabDrop t k = t) :
    tabGet d (tabPut t k v) k = v := by
  induction t with
  | nil => simp [tabPut, tabGet]
  | cons x r ih =>
    simp only [tabDrop] at h
    split at h
    · have := congrArg List.length h
      have hl : ∀ l : List (Nat × α), (tabDrop l k).length ≤ l.length := by
        intro l
        induction l with
        | nil => simp [tabDrop]
        | cons y z iz =>
          simp only [tabDrop]
          split
          · exact Nat.le_succ_of_le iz
          · simpa using iz
      have := hl r
      rw [h, List.length_cons] at this
      omega
    · simp only [tabPut]
      split
      · simp [tabGet]
      · simp only [tabGet]
        rw [if_neg (fun e => ‹¬x.1 = k› e.symm)]
        exact ih (by simpa using h)

theorem tabGet_tabPut_other {α : Type} {d : Nat → α} {t : List (Nat × α)} {k i : Nat} {v : α} (h : i ≠ k) :
    tabGet d (tabPut t k v) i = tabGet d t i := by
  induction t with
  | nil => simp [tabPut, tabGet, h]
  | cons x r ih =>
    simp only [tabPut]
    split
    · simp [tabGet, h]
    · simp only [tabGet]
      rw [ih]

theorem tabDrop_tabDrop {α : Type} {t : List (Nat × α)} {k : Nat} : tabDrop (tabDrop t k) k = tabDrop t k := by
  induction t with
  | nil => rfl
  | cons x r ih =>
    simp only [tabDrop]
    split
    · exact ih
    · simp only [tabDrop]
      rw [if_neg (by assumption), ih]

/-- A read of the key written gives the value written. -/
@[simp] theorem tabGet_tabSet_same {α : Type} [DecidableEq α] {d : Nat → α} {t : List (Nat × α)} {k : Nat} {v : α} :
    tabGet d (tabSet d t k v) k = v := by
  unfold tabSet
  split
  · rw [tabGet_tabDrop_same]
    exact (by assumption : v = d k).symm
  · exact tabGet_tabPut_same tabDrop_tabDrop

/-- A read of another key gives what it gave. -/
theorem tabGet_tabSet_other {α : Type} [DecidableEq α] {d : Nat → α} {t : List (Nat × α)} {k i : Nat} {v : α} (h : i ≠ k) :
    tabGet d (tabSet d t k v) i = tabGet d t i := by
  unfold tabSet
  split
  · exact tabGet_tabDrop_other h
  · rw [tabGet_tabPut_other h, tabGet_tabDrop_other h]

/-- A read after a write, by cases on the key. -/
theorem tabGet_tabSet {α : Type} [DecidableEq α] {d : Nat → α} {t : List (Nat × α)} {k i : Nat} {v : α} :
    tabGet d (tabSet d t k v) i = if i = k then v else tabGet d t i := by
  split
  · subst_vars
    exact tabGet_tabSet_same
  · exact tabGet_tabSet_other (by assumption)

/-- The canonical form from a key on holds from every smaller key on. -/
theorem tabWfFrom_mono {α : Type} [DecidableEq α] {d : Nat → α} {t : List (Nat × α)} {lo lo' : Nat} (h : tabWfFrom d lo t = true)
    (hl : lo' ≤ lo) : tabWfFrom d lo' t = true := by
  cases t with
  | nil => rfl
  | cons x r =>
    simp only [tabWfFrom, Bool.and_eq_true, decide_eq_true_eq] at h ⊢
    exact ⟨⟨by omega, h.1.2⟩, h.2⟩

theorem tabWfFrom_tabDrop {α : Type} [DecidableEq α] {d : Nat → α} {t : List (Nat × α)} {lo k : Nat} (h : tabWfFrom d lo t = true) :
    tabWfFrom d lo (tabDrop t k) = true := by
  induction t generalizing lo with
  | nil => rfl
  | cons x r ih =>
    simp only [tabWfFrom, Bool.and_eq_true, decide_eq_true_eq] at h
    simp only [tabDrop]
    split
    · exact tabWfFrom_mono (ih h.2) (by omega)
    · simp only [tabWfFrom, Bool.and_eq_true, decide_eq_true_eq]
      exact ⟨h.1, ih h.2⟩

theorem tabWfFrom_tabPut {α : Type} [DecidableEq α] {d : Nat → α} {t : List (Nat × α)} {lo k : Nat} {v : α}
    (h : tabWfFrom d lo t = true) (hk : lo ≤ k) (hv : v ≠ d k) (hd : tabDrop t k = t) : tabWfFrom d lo (tabPut t k v) = true := by
  induction t generalizing lo with
  | nil => simp [tabPut, tabWfFrom, hk, hv]
  | cons x r ih =>
    simp only [tabWfFrom, Bool.and_eq_true, decide_eq_true_eq] at h
    have hne : x.1 ≠ k ∧ tabDrop r k = r := by
      simp only [tabDrop] at hd
      split at hd
      · have hl : ∀ l : List (Nat × α), (tabDrop l k).length ≤ l.length := by
          intro l
          induction l with
          | nil => simp [tabDrop]
          | cons y z iz =>
            simp only [tabDrop]
            split
            · exact Nat.le_succ_of_le iz
            · simpa using iz
        have h1 := congrArg List.length hd
        have h2 := hl r
        simp only [List.length_cons] at h1
        omega
      · exact ⟨by assumption, by simpa using hd⟩
    simp only [tabPut]
    split
    · simp only [tabWfFrom, Bool.and_eq_true, decide_eq_true_eq]
      exact ⟨⟨hk, hv⟩, ⟨by omega, h.1.2⟩, h.2⟩
    · simp only [tabWfFrom, Bool.and_eq_true, decide_eq_true_eq]
      exact ⟨h.1, ih h.2 (by have := hne.1; omega) hne.2⟩

/-- Writing keeps the canonical form of a table. -/
theorem tabWf_tabSet {α : Type} [DecidableEq α] {d : Nat → α} {t : List (Nat × α)} {k : Nat} {v : α} (h : tabWf d t = true) :
    tabWf d (tabSet d t k v) = true := by
  unfold tabSet
  split
  · exact tabWfFrom_tabDrop h
  · exact tabWfFrom_tabPut (tabWfFrom_tabDrop h) (Nat.zero_le k) (by assumption) tabDrop_tabDrop

/-- Changing one value keeps the canonical form of a table. -/
theorem tabWf_tabMod {α : Type} [DecidableEq α] {d : Nat → α} {t : List (Nat × α)} {k : Nat} {f : α → α} (h : tabWf d t = true) :
    tabWf d (tabMod d t k f) = true := tabWf_tabSet h

/-- Dropping entries keeps the canonical form. -/
theorem tabWfFrom_filter {α : Type} [DecidableEq α] {d : Nat → α} (p : Nat × α → Bool) {t : List (Nat × α)} {lo : Nat}
    (h : tabWfFrom d lo t = true) : tabWfFrom d lo (t.filter p) = true := by
  induction t generalizing lo with
  | nil => rfl
  | cons x r ih =>
    simp only [tabWfFrom, Bool.and_eq_true, decide_eq_true_eq] at h
    simp only [List.filter]
    split
    · simp only [tabWfFrom, Bool.and_eq_true, decide_eq_true_eq]
      exact ⟨h.1, ih h.2⟩
    · exact tabWfFrom_mono (ih h.2) (by omega)

/-- Dropping entries keeps the canonical form of a table. -/
theorem tabWf_filter {α : Type} [DecidableEq α] {d : Nat → α} (p : Nat × α → Bool) {t : List (Nat × α)} (h : tabWf d t = true) :
    tabWf d (t.filter p) = true := tabWfFrom_filter p h

end Sys2Proof.Machine
end

