-- ==== Sys2Proof/Laws/Ops.lean ====
section
/-! SUPPORT. What the shared operations do: registers, fields, counters, events, memory bytes, engines, and when a command acts. -/
namespace Sys2Proof.Machine

/-! ## Registers -/

@[simp] theorem rd_wr_same (off : Nat) (v : DWord) (s : State) : rd off (wr off v s) = v := tabGet_tabSet_same

theorem rd_wr_other {a b : Nat} (h : a ≠ b) (v : DWord) (s : State) : rd a (wr b v s) = rd a s := tabGet_tabSet_other h

/-- A register read after a register write. -/
theorem rd_wr (a b : Nat) (v : DWord) (s : State) : rd a (wr b v s) = if a = b then v else rd a s := tabGet_tabSet

/-- Registers are read from the CSR file alone. -/
theorem rd_congr {s t : State} (h : s.csr = t.csr) (off : Nat) : rd off s = rd off t := by simp only [rd, h]

theorem fld_congr {s t : State} (h : s.csr = t.csr) (off hi lo : Nat) : fld off hi lo s = fld off hi lo t := by
  simp only [fld, rd_congr h]

theorem fld_wr_same (off hi lo : Nat) (v : DWord) (s : State) : fld off hi lo (wr off v s) = bitsOf v.toNat hi lo := by
  simp only [fld, rd_wr_same]

theorem fld_wr_other {a b : Nat} (h : a ≠ b) (hi lo : Nat) (v : DWord) (s : State) : fld a hi lo (wr b v s) = fld a hi lo s := by
  simp only [fld, rd_wr_other h]

/-- A field written reads back. -/
theorem fld_setFld_same (off hi lo x : Nat) (s : State) (h : hi < 64) :
    fld off hi lo (setFld off hi lo x s) = x % 2 ^ (hi + 1 - lo) := by
  simp only [setFld, fld_wr_same, dw, BitVec.toNat_ofNat]
  rw [Nat.mod_eq_of_lt (withBits_lt _ hi lo x (BitVec.isLt _) h), bitsOf_withBits_same]

/-- A field that shares no bit with the one written stays. -/
theorem fld_setFld_disjoint (off hi lo x hi2 lo2 : Nat) (s : State) (h : hi < 64) (hd : hi2 < lo ∨ hi < lo2) :
    fld off hi2 lo2 (setFld off hi lo x s) = fld off hi2 lo2 s := by
  simp only [setFld, fld_wr_same, dw, BitVec.toNat_ofNat]
  rw [Nat.mod_eq_of_lt (withBits_lt _ hi lo x (BitVec.isLt _) h), bitsOf_withBits_other _ _ _ _ _ _ hd]
  rfl

theorem rd_setFld_other {a b : Nat} (h : a ≠ b) (hi lo x : Nat) (s : State) : rd a (setFld b hi lo x s) = rd a s := rd_wr_other h _ s

theorem fld_setFld_other {a b : Nat} (h : a ≠ b) (hi2 lo2 hi lo x : Nat) (s : State) :
    fld a hi2 lo2 (setFld b hi lo x s) = fld a hi2 lo2 s := fld_wr_other h hi2 lo2 _ s

theorem rd_setFlag_other {a b : Nat} (h : a ≠ b) (i : Nat) (s : State) : rd a (setFlag b i s) = rd a s := rd_setFld_other h _ _ _ s

theorem flagOn_setFlag_same (off i : Nat) (s : State) (h : i < 64) : flagOn off i (setFlag off i s) = true := by
  simp [flagOn, setFlag, fld_setFld_same off i i 1 s h]

theorem rd_bump_other {a b : Nat} (h : a ≠ b) (s : State) : rd a (bump b s) = rd a s := rd_wr_other h _ s

theorem rd_bumpBy_same (off k : Nat) (s : State) : rd off (bumpBy off k s) = dw (min ((rd off s).toNat + k) 0xFFFFFFFF) := rd_wr_same _ _ _

theorem rd_bump64_same (off k : Nat) (s : State) : rd off (bump64 off k s) = dw (min ((rd off s).toNat + k) 0xFFFFFFFFFFFFFFFF) := rd_wr_same _ _ _

/-! ## Events (R55) -/

/-- Raising an event writes no register but the count of dropped ones. -/
theorem rd_raise {off : Nat} (h : off ≠ Reg.EVT_DROP_CNT) (num inst : Nat) (s : State) : rd off (raise num inst s) = rd off s := by
  unfold raise
  split
  · rfl
  · exact rd_bump_other h s

theorem fld_raise {off : Nat} (h : off ≠ Reg.EVT_DROP_CNT) (hi lo num inst : Nat) (s : State) :
    fld off hi lo (raise num inst s) = fld off hi lo s := by simp only [fld, rd_raise h]

/-- What raising an event does: it is appended, or with 1,024 waiting it is counted as dropped. -/
theorem raise_cases (num inst : Nat) (s : State) :
    (s.evt.length < 1024 ∧ raise num inst s = { s with evt := s.evt ++ [⟨num, inst, s.round.stage⟩] }) ∨
    (1024 ≤ s.evt.length ∧ raise num inst s = bump Reg.EVT_DROP_CNT s) := by
  unfold raise
  split
  · exact .inl ⟨by assumption, rfl⟩
  · exact .inr ⟨by omega, rfl⟩

/-! ## Memory -/

/-- A stored byte reads back. -/
theorem tabGet_putBytes (l : List Host.Cell) (a : Nat) (bs : List Byte) (x : Nat) :
    tabGet memDefault (putBytes l a bs) x = if a ≤ x ∧ x < a + bs.length then bs.getD (x - a) 0 else tabGet memDefault l x := by
  induction bs generalizing l a with
  | nil => simp only [putBytes, List.length_nil]; rw [if_neg (by omega)]
  | cons b t ih =>
    simp only [putBytes, ih, List.length_cons]
    by_cases h : x = a
    · subst h
      rw [if_neg (by omega), if_pos (by omega), tabGet_tabSet_same]
      simp
    · rw [tabGet_tabSet_other h]
      by_cases h2 : a + 1 ≤ x ∧ x < a + 1 + t.length
      · rw [if_pos h2, if_pos (by omega)]
        have : x - a = (x - (a + 1)) + 1 := by omega
        rw [this, List.getD_cons_succ]
      · rw [if_neg h2, if_neg (by omega)]

/-- A memory byte after a store: what was stored, or what was there. -/
theorem memByte_memWrite (a : Nat) (bs : List Byte) (x : Nat) (s : State) :
    memByte x (memWrite a bs s) = if a ≤ x ∧ x < a + bs.length then bs.getD (x - a) 0 else memByte x s :=
  tabGet_putBytes s.mem.cells a bs x

theorem memByte_congr {s t : State} (h : s.mem = t.mem) (x : Nat) : memByte x s = memByte x t := by simp only [memByte, h]

theorem tabWf_putBytes {l : List Host.Cell} {a : Nat} {bs : List Byte} (h : tabWf memDefault l = true) :
    tabWf memDefault (putBytes l a bs) = true := by
  induction bs generalizing l a with
  | nil => exact h
  | cons b t ih => exact ih (tabWf_tabSet h)

/-- A store keeps the canonical form of memory. -/
theorem memWrite_wf {a : Nat} {bs : List Byte} {s : State} (h : s.mem.wf = true) : (memWrite a bs s).mem.wf = true := tabWf_putBytes h

/-- What a reset keeps of memory is in canonical form. -/
theorem keepCells_wf {cold dram : Bool} {l : List Host.Cell} (h : tabWf memDefault l = true) :
    tabWf memDefault (keepCells cold dram l) = true := tabWf_filter _ h

/-- Losing a range of memory keeps the canonical form. -/
theorem memClear_wf {a n : Nat} {s : State} (h : s.mem.wf = true) : (memClear a n s).mem.wf = true := tabWf_filter _ h

/-! ## Engines -/

theorem eng_congr {s t : State} (h : s.eng = t.eng) (n : Nat) : eng n s = eng n t := by simp only [eng, h]

@[simp] theorem eng_setEng_same (n : Nat) (e : Engine) (s : State) : eng n (setEng n e s) = e := tabGet_tabSet_same

theorem eng_setEng_other {m n : Nat} (h : m ≠ n) (e : Engine) (s : State) : eng m (setEng n e s) = eng m s := tabGet_tabSet_other h

@[simp] theorem eng_modEng_same (n : Nat) (f : Engine → Engine) (s : State) : eng n (modEng n f s) = f (eng n s) := eng_setEng_same _ _ _

@[simp] theorem eng_wr (n off : Nat) (v : DWord) (s : State) : eng n (wr off v s) = eng n s := rfl
@[simp] theorem eng_setFld (n off hi lo x : Nat) (s : State) : eng n (setFld off hi lo x s) = eng n s := rfl
@[simp] theorem eng_bump (n off : Nat) (s : State) : eng n (bump off s) = eng n s := rfl
@[simp] theorem eng_bump64 (n off k : Nat) (s : State) : eng n (bump64 off k s) = eng n s := rfl
@[simp] theorem eng_raise (n num inst : Nat) (s : State) : eng n (raise num inst s) = eng n s := eng_congr (raise_eng num inst s) n
@[simp] theorem eng_flagEvent (n off bit num inst : Nat) (s : State) : eng n (flagEvent off bit num inst s) = eng n s :=
  eng_congr (flagEvent_eng off bit num inst s) n
@[simp] theorem eng_memWrite (n a : Nat) (bs : List Byte) (s : State) : eng n (memWrite a bs s) = eng n s := rfl
@[simp] theorem eng_drawn (n : Nat) (s : State) : eng n (drawn s) = eng n s := rfl

/-- The keys of the 32 registers of a bank differ. -/
theorem gKey_inj {b r q : Nat} (hr : r < 32) (hq : q < 32) (h : gKey b r = gKey b q) : r = q := by
  unfold gKey at h
  split at h <;> split at h <;> omega

@[simp] theorem setG_gr_same (e : Engine) (r : Nat) (v : Word) : (e.setG r v).gr r = v := tabGet_tabSet_same

theorem setG_gr_other (e : Engine) {r q : Nat} (v : Word) (hr : r < 32) (hq : q < 32) (h : q ≠ r) : (e.setG r v).gr q = e.gr q :=
  tabGet_tabSet_other (fun k => h (gKey_inj hq hr k))

/-! ## When a command acts -/

@[simp] theorem inOrder_csr (s t : State) : (inOrder s t).csr = t.csr := rfl
@[simp] theorem inOrder_round (s t : State) : (inOrder s t).round = t.round := rfl
@[simp] theorem inOrder_noc (s t : State) : (inOrder s t).noc = t.noc := rfl
@[simp] theorem inOrder_mem (s t : State) : (inOrder s t).mem = t.mem := rfl
@[simp] theorem inOrder_dma (s t : State) : (inOrder s t).dma = t.dma := rfl
@[simp] theorem inOrder_cfa (s t : State) : (inOrder s t).cfa = t.cfa := rfl
@[simp] theorem inOrder_mac (s t : State) : (inOrder s t).mac = t.mac := rfl
@[simp] theorem inOrder_lane (s t : State) : (inOrder s t).lane = t.lane := rfl
@[simp] theorem inOrder_line (s t : State) : (inOrder s t).line = t.line := rfl
@[simp] theorem inOrder_time (s t : State) : (inOrder s t).time = t.time := rfl
@[simp] theorem inOrder_hkc (s t : State) : (inOrder s t).hkc = t.hkc := rfl
@[simp] theorem inOrder_eng (s t : State) : (inOrder s t).eng = t.eng := rfl
@[simp] theorem inOrder_dom (s t : State) : (inOrder s t).dom = t.dom := rfl
@[simp] theorem inOrder_recorder (s t : State) : (inOrder s t).recorder = t.recorder := rfl
@[simp] theorem inOrder_acc (s t : State) : (inOrder s t).acc = t.acc := rfl
@[simp] theorem inOrder_churn (s t : State) : (inOrder s t).churn = t.churn := rfl
@[simp] theorem inOrder_spare (s t : State) : (inOrder s t).spare = t.spare := rfl
@[simp] theorem inOrder_sec (s t : State) : (inOrder s t).sec = t.sec := rfl
@[simp] theorem inOrder_pwr (s t : State) : (inOrder s t).pwr = t.pwr := rfl
@[simp] theorem inOrder_tod (s t : State) : (inOrder s t).tod = t.tod := rfl
@[simp] theorem inOrder_free (s t : State) : (inOrder s t).free = t.free := rfl
@[simp] theorem inOrder_pending (s t : State) : (inOrder s t).pending = t.pending := rfl

/-- A command that raised nothing leaves the router's order as it is, and so does one that raised one event. -/
theorem inOrder_same {s t : State} (h : t.evt = s.evt) : inOrder s t = t := by
  simp [inOrder, ← h]

theorem inOrder_one {s t : State} {o : Occurrence} (h : t.evt = s.evt ++ [o]) : inOrder s t = t := by
  unfold inOrder
  rw [h]
  simp only [List.drop_left', List.take_left', List.foldr_cons, List.foldr_nil, occPut]
  rw [← h]

/-- A well-formed command of a running module acts; the events it raised are put in order. -/
theorem gated_acts {deep wf : Bool} {f : State → State} {s : State} (hp : s.pwr.plug = 4)
    (hd : deep = true ∨ fld Reg.PWR_STATUS 1 0 s ≠ 3) (hw : wf = true) : gated deep wf f s = inOrder s (f s) := by
  subst hw
  unfold gated wellFormed
  rw [if_pos (by cases hd <;> simp [*]), if_pos rfl]

/-- A command that is not well formed changes nothing. -/
theorem gated_illFormed {deep : Bool} {f : State → State} {s : State} : gated deep false f s = s := by
  unfold gated wellFormed
  split
  · exact inOrder_same rfl
  · rfl

/-- What a gated command can do: nothing, or its effect. -/
theorem gated_cases (deep wf : Bool) (f : State → State) (s : State) : gated deep wf f s = s ∨ gated deep wf f s = inOrder s (f s) := by
  unfold gated wellFormed
  split
  · split
    · exact .inr rfl
    · exact .inl (inOrder_same rfl)
  · exact .inl rfl

end Sys2Proof.Machine
end

