-- ==== Sys2Proof/Laws/Scalar.lean ====
section
/-! SUPPORT. What the issue of an instruction does, once for all instructions. -/
namespace Sys2Proof.Machine
open Sys2Proof.Safety

/-- A free engine issues an instruction with no reserved field set, outside the places it is forbidden in. -/
theorem issue_free {n : Nat} {w : Word} {fetch : Ecc} {bad forb : Bool} {regs writes : List Nat} {body : Engine → Issue} {s : State}
    (h : Free n w fetch regs s) (hb : bad = false) (hf : forb = false ∨ (eng n (atIssue n false [] s)).rem = 0) :
    issue n w fetch bad forb regs writes body s =
      finish n (some writes) 3 (body (eng n (atIssue n false [] s)).issued) (issuing n fetch s) := by
  obtain ⟨-, -, hc, hw, hs, hi⟩ := h
  subst hb
  have hr : (forb && (eng n (atIssue n false [] s)).inRepeat) = false := by
    cases hf with
    | inl h => simp [h]
    | inr h => simp [Engine.inRepeat, h]
  unfold issue issueWith
  simp [hc, hw, hs, hi, hr, issuing]

/-- The engine after an instruction that completes, past whose registers a vector instruction may join it. -/
theorem finish_regs_eng (n k : Nat) (ws : Option (List Nat)) (e : Engine) (s : State) :
    eng n (finish n ws k (.regs e) s) = { e.advance with pair := ws } := by
  simp [finish, Issue.regs, countIssue]

/-- The engine of a state in which the issue of an instruction is counted. -/
theorem eng_countIssue_same (n : Nat) (s : State) : eng n (countIssue n s) = eng n s := rfl

/-- Engine registers of an instruction's issue are four. -/
theorem rd_setEng {off n : Nat} (h : off ∉ [Reg.ENG_STATUS n, Reg.ENG_PC n, Reg.VEC_STATUS n]) (e : Engine) (s : State) :
    rd off (setEng n e s) = rd off s := by
  simp only [List.mem_cons, List.not_mem_nil, or_false, not_or] at h
  simp only [setEng]
  rw [rd_wr_other h.2.2, rd_wr_other h.2.1, rd_wr_other h.1]
  rfl

theorem rd_modEng {off n : Nat} (h : off ∉ [Reg.ENG_STATUS n, Reg.ENG_PC n, Reg.VEC_STATUS n]) (f : Engine → Engine) (s : State) :
    rd off (modEng n f s) = rd off s := rd_setEng h _ s

/-- The count of instructions is no register that follows the engine. -/
theorem issueCnt_free (n : Nat) : Reg.ENG_ISSUE_CNT n ∉ [Reg.ENG_STATUS n, Reg.ENG_PC n, Reg.VEC_STATUS n] := by
  simp [Reg.ENG_ISSUE_CNT, Reg.ENG_STATUS, Reg.ENG_PC, Reg.VEC_STATUS]

/-- An update of the engine and its count changes nothing else. -/
theorem onlyEngine_setEng (n : Nat) (e : Engine) (s : State) : OnlyEngine n s (setEng n e s) := by
  refine ⟨rfl, rfl, fun m hm => eng_setEng_other hm e s, fun off h => rd_setEng ?_ e s⟩
  simp only [List.mem_cons, List.not_mem_nil, or_false, not_or] at h ⊢
  exact h.2

theorem onlyEngine_bump64 (n : Nat) (k : Nat) (s : State) : OnlyEngine n s (bump64 (Reg.ENG_ISSUE_CNT n) k s) := by
  refine ⟨rfl, rfl, fun m _ => rfl, fun off h => rd_wr_other ?_ _ s⟩
  simp only [List.mem_cons, List.not_mem_nil, or_false, not_or] at h
  exact h.1

theorem onlyEngine_trans {n : Nat} {s t u : State} (h : OnlyEngine n s t) (k : OnlyEngine n t u) : OnlyEngine n s u := by
  obtain ⟨h1, h2, h3, h4⟩ := h
  obtain ⟨k1, k2, k3, k4⟩ := k
  refine ⟨?_, ?_, fun m hm => (k3 m hm).trans (h3 m hm), fun off ho => (k4 off ho).trans (h4 off ho)⟩
  · rw [k1, h1]
  · rw [k2, h2]

/-- What an instruction that completes does: the engine is `e` at the next instruction, one more is counted, nothing else changes. -/
theorem finish_regs (n k : Nat) (ws : Option (List Nat)) (e : Engine) (s : State) :
    eng n (finish n ws k (.regs e) s) = { e.advance with pair := ws } ∧
    rd (Reg.ENG_ISSUE_CNT n) (finish n ws k (.regs e) s) = dw (min ((rd (Reg.ENG_ISSUE_CNT n) s).toNat + 1) 0xFFFFFFFFFFFFFFFF) ∧
    OnlyEngine n s (finish n ws k (.regs e) s) := by
  refine ⟨finish_regs_eng n k ws e s, ?_, ?_⟩
  · simp only [finish, Issue.regs, countIssue, id]
    rw [rd_bump64_same, rd_setEng (issueCnt_free n)]
  · simp only [finish, Issue.regs, countIssue, id]
    exact onlyEngine_trans (onlyEngine_setEng n _ s) (onlyEngine_bump64 n 1 _)

/-- Outside a repeat, the next instruction is four bytes on. -/
theorem advance_plain {e : Engine} (h : e.rem = 0) : e.advance = { e with pc := (e.pc + 4) % 2 ^ 32, step := false } := by
  simp [Engine.advance, h]

/-- Moving on changes the pc and the tracking of the repeat alone. -/
theorem advance_regsOnly (e : Engine) (ws : Option (List Nat)) : RegsOnly e { e.advance with pair := ws } := by
  unfold RegsOnly Engine.advance Engine.setRs
  split
  · rfl
  · split
    · split <;> rfl
    · split
      · split <;> rfl
      · rfl

/-- Moving on leaves the bank and the g registers. -/
theorem advance_bank (e : Engine) : e.advance.bank = e.bank ∧ e.advance.g = e.g := by
  unfold Engine.advance Engine.setRs
  split
  · exact ⟨rfl, rfl⟩
  · split
    · split <;> exact ⟨rfl, rfl⟩
    · split
      · split <;> exact ⟨rfl, rfl⟩
      · exact ⟨rfl, rfl⟩

theorem advance_gr (e : Engine) (ws : Option (List Nat)) (q : Nat) : ({ e.advance with pair := ws } : Engine).gr q = e.gr q := by
  simp only [Engine.gr, (advance_bank e).1, (advance_bank e).2]

/-- An instruction that completes with the engine at `e`, its RS as before: it is counted, and the engine goes on. -/
theorem finish_completes (n k : Nat) (ws : Option (List Nat)) (e : Engine) (s : State) (hp : e.pc = (eng n s).pc) (hr : e.rs = (eng n s).rs) :
    Completes n s (finish n ws k (.regs e) s) := by
  refine ⟨?_, fun h => ?_⟩
  · rw [(finish_regs n k ws e s).2.1]
    simp only [dw, BitVec.toNat_ofNat]
    omega
  · have h0 : e.rem = 0 := by simpa only [Engine.rem, hr] using h
    rw [(finish_regs n k ws e s).1, advance_plain h0]
    exact ⟨by rw [hp], hr⟩

end Sys2Proof.Machine
end

