-- ==== Sys2Proof/Laws/Sec.lean ====
section
/-! SUPPORT. Commands of the security controller: what a source's row does with a command that passes or fails, and that a header followed
by its tag passes the tag check. -/
namespace Sys2Proof.Machine

/-- A command whose turn it is, of the row's kind, that passes steps 1 to 8: the row's own effect. -/
theorem cmdStart_passes {want : Nat → Nat → Bool} {go : CmdFrom → List Byte → State → State} {src : CmdSrc} {s : State} {f : CmdFrom} {n : Nat}
    {bs : List Byte} (hp : s.sec.proc = none) (hu : ∀ b, src = .uart b → s.sec.waits = [] ∧ uartGood b = true)
    (hd : fld Reg.PWR_STATUS 1 0 s ≠ 3) (hn : cmdNext src s = some (f, n, bs)) (hw : want n (cmdOp bs) = true) (hf : cmdFails n bs s = none) :
    cmdStart want go src s = go f bs (cmdTaken src s) := by
  cases src with
  | uart b =>
    obtain ⟨h1, h2⟩ := hu b rfl
    obtain ⟨rfl, rfl, rfl⟩ : ({ path := 2 } : CmdFrom) = f ∧ b.length - 2 = n ∧ b.take (b.length - 2) = bs := by simpa [cmdNext] using hn
    simp [cmdStart, hp, h1, h2, hw, hf, cmdTaken]
  | _ => simp [cmdStart, hp, hd, hn, hw, hf]

/-- One that fails a step is answered with its status. -/
theorem cmdStart_fails {want : Nat → Nat → Bool} {go : CmdFrom → List Byte → State → State} {src : CmdSrc} {s : State} {f : CmdFrom} {n : Nat}
    {bs : List Byte} {st cnt : Nat} (hp : s.sec.proc = none) (hu : ∀ b, src = .uart b → s.sec.waits = [] ∧ uartGood b = true)
    (hd : fld Reg.PWR_STATUS 1 0 s ≠ 3) (hn : cmdNext src s = some (f, n, bs)) (hw : want n (cmdOp bs) = true)
    (hf : cmdFails n bs s = some (st, cnt)) : cmdStart want go src s = cmdReject f bs st cnt (cmdTaken src s) := by
  cases src with
  | uart b =>
    obtain ⟨h1, h2⟩ := hu b rfl
    obtain ⟨rfl, rfl, rfl⟩ : ({ path := 2 } : CmdFrom) = f ∧ b.length - 2 = n ∧ b.take (b.length - 2) = bs := by simpa [cmdNext] using hn
    simp [cmdStart, hp, h1, h2, hw, hf, cmdTaken]
  | _ => simp [cmdStart, hp, hd, hn, hw, hf]

/-- A byte of the flash after bytes are programmed: the byte programmed there, else as before. -/
theorem tabGet_norPut : ∀ (bs : List Byte) (t : List (Nat × Byte)) (a k : Nat), tabGet norDefault (norPut t a bs) k =
    if h : a ≤ k ∧ k < a + bs.length then bs[k - a]'(by omega) else tabGet norDefault t k
  | [], t, a, k => by rw [norPut, dif_neg (by simp only [List.length_nil]; omega)]
  | b :: bs, t, a, k => by
    rw [norPut, tabGet_norPut bs, tabGet_tabSet]
    by_cases h : k = a
    · subst h
      rw [dif_neg (by omega), if_pos rfl, dif_pos (by simp)]; simp
    · by_cases h2 : a + 1 ≤ k ∧ k < a + 1 + bs.length
      · have h3 : a ≤ k ∧ k < a + (b :: bs).length := by simp; omega
        have h4 : k - a = (k - (a + 1)) + 1 := by omega
        rw [dif_pos h2, dif_pos h3]; simp only [h4, List.getElem_cons_succ]
      · have h3 : ¬(a ≤ k ∧ k < a + (b :: bs).length) := by simp; omega
        rw [dif_neg h2, dif_neg h3, if_neg h]

/-- Bytes within those programmed read as programmed. -/
theorem norRead_norWrite {a i n : Nat} {bs : List Byte} {s : State} (h : i + n ≤ bs.length) : norRead (a + i) n (norWrite a bs s) = sliceOf bs i n := by
  apply List.ext_getElem
  · simp [norRead, upto, sliceOf]; omega
  · intro j h1 h2
    simp only [norRead, upto, List.length_map, List.length_range] at h1
    simp only [norRead, upto, List.getElem_map, List.getElem_range, norWrite, modSec, tabGet_norPut]
    have h3 : a ≤ a + i + j ∧ a + i + j < a + bs.length := by omega
    rw [dif_pos h3]
    simp only [sliceOf, List.getElem_take, List.getElem_drop]
    congr 1; omega

/-- Bytes apart from those programmed read as before. -/
theorem norRead_norWrite_apart {a b n : Nat} {bs : List Byte} {s : State} (h : b + n ≤ a ∨ a + bs.length ≤ b) :
    norRead b n (norWrite a bs s) = norRead b n s := by
  unfold norRead
  apply List.map_congr_left
  intro j hj
  have hj := List.mem_range.mp hj
  simp only [norWrite, modSec, tabGet_norPut]
  rw [dif_neg (by omega)]

/-- A slice that ends within the first of two byte lists. -/
theorem sliceOf_append {a b : List Byte} {i n : Nat} (h : i + n ≤ a.length) : sliceOf (a ++ b) i n = sliceOf a i n := by
  unfold sliceOf
  rw [List.drop_append_of_le_length (by omega), List.take_append_of_le_length (by simp; omega)]

theorem leAt_append {a b : List Byte} {i n : Nat} (h : i + n ≤ a.length) : leAt (a ++ b) i n = leAt a i n := by
  unfold leAt; rw [sliceOf_append h]

theorem keccakRound_length (a : Lanes) (rc : Nat) : (keccakRound a rc).length = 25 := by
  have h : (chiStep (thetaRhoPi a)).length = 25 := by simp [chiStep, upto]
  unfold keccakRound
  cases hc : chiStep (thetaRhoPi a) with
  | nil => rw [hc] at h; exact h
  | cons x t => rw [hc] at h; exact h

theorem keccakF_length (a : Lanes) : (keccakF a).length = 25 := by
  unfold keccakF
  rw [show upto 24 = List.range 23 ++ [23] from rfl, List.foldl_append]
  exact keccakRound_length _ _

theorem absorbAll_length : ∀ (n : Nat) (a : Lanes) (bs : List Byte), a.length = 25 → (absorbAll n a bs).length = 25
  | 0, _, _, h => h
  | _ + 1, _, [], h => h
  | n + 1, _, _ :: _, _ => absorbAll_length n _ _ (keccakF_length _)

/-- A KMAC of up to 200 bytes has the length asked for. -/
theorem kmac_length (key data : List Byte) (bits : Nat) (custom : String) (h : bits / 8 ≤ 200) : (kmac key data bits custom).length = bits / 8 := by
  have leB : ∀ n v, (leBytes n v).length = n := by intro n; induction n with
    | zero => intro v; rfl
    | succ n ih => intro v; simp [leBytes, ih]
  unfold kmac sponge
  simp only [List.length_take, List.length_flatMap]
  rw [List.map_congr_left (g := fun _ => 8) (fun l _ => leB 8 _), List.map_const', List.sum_replicate_nat, absorbAll_length _ _ _ (by simp)]
  simp; omega

/-- The 16-byte tag that makes a header and payload a command of a key that has permissions. -/
def goodTag (hdr : List Byte) (s : State) : List Byte :=
  match keyPerms (cmdKey hdr) s with
  | none => []
  | some k => kmac (cmdKeyBytes (cmdKey hdr) k.1 s) hdr 128 "CALYMIN-CMD"

/-- Steps 1 to 3 of R455 for a critical command's header and payload, which 16 bytes are to follow, and that its key has permissions. -/
def headGood (hdr : List Byte) (s : State) : Bool :=
  decide (32 ≤ hdr.length) && decide (hdr.length = 32 + cmdLen hdr) && cmdCritical hdr && decide (s.pwr.eject < 2) && !(inReplay s) &&
  formatOk (hdr.length + 16) (hdr ++ List.replicate 16 0) s && cmdKnown (cmdOp hdr) && (keyPerms (cmdKey hdr) s).isSome

/-- Steps 5 to 8. -/
def headFails (hdr : List Byte) (s : State) : Option (Nat × Nat) :=
  match keyPerms (cmdKey hdr) s with
  | none => none
  | some k =>
    if cmdCounter hdr ≤ keyCounter (cmdKey hdr) s then some (0x14, Reg.SEC_STALE_CNT)
    else if !(k.2.testBit (cmdClass (cmdOp hdr))) then some (0x15, Reg.SEC_REJECT_CNT)
    else if (resolveTarget (cmdOp hdr) (cmdTarget hdr) s).isNone then some (0x16, Reg.SEC_REJECT_CNT)
    else if 16 ≤ waitingCmds s then some (0x17, Reg.SEC_REJECT_CNT) else none

theorem goodTag_length {hdr : List Byte} {s : State} (h : headGood hdr s = true) : (goodTag hdr s).length = 16 := by
  simp only [headGood, Bool.and_eq_true] at h
  unfold goodTag
  cases hk : keyPerms (cmdKey hdr) s with
  | none => rw [hk] at h; exact absurd h.2 (by simp)
  | some k => exact kmac_length _ _ _ _ (by decide)

/-- The fields of a header and payload followed by 16 bytes, and what the format and tag checks say of it. -/
theorem headGood_fields {hdr tag : List Byte} {s : State} (h : headGood hdr s = true) (ht : tag.length = 16) :
    cmdOp (hdr ++ tag) = cmdOp hdr ∧ cmdKey (hdr ++ tag) = cmdKey hdr ∧ cmdTarget (hdr ++ tag) = cmdTarget hdr ∧
    cmdCounter (hdr ++ tag) = cmdCounter hdr ∧ cmdLen (hdr ++ tag) = cmdLen hdr ∧ formatOk (hdr.length + 16) (hdr ++ tag) s = true ∧
    tagOk (hdr ++ tag) s = decide (tag = goodTag hdr s) := by
  simp only [headGood, Bool.and_eq_true, decide_eq_true_eq, Bool.not_eq_true'] at h
  obtain ⟨⟨⟨⟨⟨⟨⟨h32, hlen⟩, hc⟩, hej⟩, hre⟩, hfo⟩, hkn⟩, hk⟩ := h
  have a := fun (x : List Byte) (i n : Nat) (hh : i + n ≤ hdr.length) => leAt_append (a := hdr) (b := x) hh
  have eop : ∀ x, cmdOp (hdr ++ x) = cmdOp hdr := fun x => a x 0 2 (by omega)
  have eln : ∀ x, cmdLen (hdr ++ x) = cmdLen hdr := fun x => a x 2 2 (by omega)
  have eky : ∀ x, cmdKey (hdr ++ x) = cmdKey hdr := fun x => a x 4 4 (by omega)
  have ect : ∀ x, cmdCounter (hdr ++ x) = cmdCounter hdr := fun x => a x 16 8 (by omega)
  have ecr : ∀ x, cmdCritical (hdr ++ x) = cmdCritical hdr := fun x => by unfold cmdCritical; rw [eop]
  have epl : ∀ x, cmdPayload (hdr ++ x) = cmdPayload hdr := fun x => by unfold cmdPayload; rw [eln, sliceOf_append (by omega)]
  have ers : ∀ x, sliceOf (hdr ++ x) 24 8 = sliceOf hdr 24 8 := fun x => sliceOf_append (by omega)
  have t1 : cmdTag (hdr ++ tag) = tag := by unfold cmdTag sliceOf; rw [eln, ← hlen, List.drop_left]; exact List.take_of_length_le (by omega)
  have t2 : (hdr ++ tag).take (32 + cmdLen hdr) = hdr := by rw [← hlen, List.take_left]
  obtain ⟨k, hkp⟩ := Option.isSome_iff_exists.mp hk
  have e : goodTag hdr s = kmac (cmdKeyBytes (cmdKey hdr) k.1 s) hdr 128 "CALYMIN-CMD" := by unfold goodTag; rw [hkp]
  refine ⟨eop _, eky _, a tag 8 8 (by omega), ect _, eln _, ?_, ?_⟩
  · rw [← hfo]; unfold formatOk cmdTotal; simp only [eop, eln, eky, ect, ecr, epl, ers]
  · unfold tagOk; rw [eky, hkp]; simp only [t1, eln, t2, e]

/-- Steps 1 to 8 of a header and payload followed by 16 bytes: what the tag decides. -/
theorem cmdFails_tag {hdr tag : List Byte} {s : State} (h : headGood hdr s = true) (ht : tag.length = 16) :
    cmdFails (hdr.length + 16) (hdr ++ tag) s = (if tag = goodTag hdr s then headFails hdr s else some (0x13, Reg.SEC_TAG_FAIL_CNT)) := by
  obtain ⟨eop, eky, etg, ect, eln, hfo', htag⟩ := headGood_fields h ht
  have ecr : cmdCritical (hdr ++ tag) = cmdCritical hdr := by unfold cmdCritical; rw [eop]
  simp only [headGood, Bool.and_eq_true, decide_eq_true_eq, Bool.not_eq_true'] at h
  obtain ⟨⟨⟨⟨⟨⟨⟨h32, hlen⟩, hc⟩, hej⟩, hre⟩, hfo⟩, hkn⟩, hk⟩ := h
  obtain ⟨k, hkp⟩ := Option.isSome_iff_exists.mp hk
  unfold cmdFails headFails
  rw [if_neg (by omega), hre, hfo', htag]
  simp only [eop, eky, ect, etg, ecr, hkn, hc, hkp, Bool.false_and, Bool.not_true, if_true, Bool.false_eq_true, if_false]
  by_cases hd : tag = goodTag hdr s <;> simp [hd]

/-- A header and payload followed by their tag fail at step 5 to 8 or not at all. -/
theorem goodTag_fails {hdr : List Byte} {s : State} (h : headGood hdr s = true) :
    cmdFails (hdr.length + 16) (hdr ++ goodTag hdr s) s = headFails hdr s := by rw [cmdFails_tag h (goodTag_length h), if_pos rfl]

/-- The tag depends on the keys, the fuses and whether the module recovers. -/
theorem goodTag_congr {hdr : List Byte} {s t : State} (h1 : t.sec.counters = s.sec.counters) (h2 : t.sec.keys = s.sec.keys)
    (h3 : t.sec.kDev = s.sec.kDev) (h4 : t.csr = s.csr) : goodTag hdr t = goodTag hdr s := by
  unfold goodTag keyPerms cmdKeyBytes keyCounter recovering flagOn fld rd
  rw [h1, h2, h3, h4]

end Sys2Proof.Machine
end

