-- ==== Sys2Proof/Tests/Slice0.lean ====
section
/-! SUPPORT. Tests: commands that name nothing are refused by `Instr.wf`, single steps with results taken from the manual, and for each
statement concrete inputs that meet its hypotheses. -/
open Sys2Proof.Machine Sys2Proof.Safety
namespace Sys2Proof.Tests
set_option Elab.async false

/-! ## Small states -/

/-- Registers set to these values. -/
def regs (l : List (Nat × Nat)) (s : State := .reset) : State := l.foldl (fun s p => wr p.1 (dw p.2) s) s

/-- Engine `n` is `e`, running. -/
def runs (n : Nat) (e : Engine := {}) (s : State := .reset) : State :=
  wr (Reg.ENG_CTRL n) 0 { s with eng := [(n, { e with mode := .run })] }

/-- Engine `n` is `e`, running, with the instruction word `w` at its pc. -/
def loaded (n : Nat) (w : Word) (e : Engine := {}) : State := memWrite (engBase n + e.pc) (leBytes 4 w.toNat) (runs n e)

/-- These packets are in the fabric. -/
def flying (l : List Txn) (s : State := .reset) : State := { s with noc := { s.noc with txns := l, nextId := 100 } }

/-- A packet of `ag`. -/
def pkt (id : Nat) (ag : Agent) (use : Nat) (body : Payload) (stage : Stage := .sent) (addr : Nat := 0) (ans : Option (Nat × List Byte) := none) : Txn :=
  { id := id, agent := ag, use := use, src := srcOf ag .reset, cls := 0, addr := addr, body := body, posted := false, aw := false,
    node := 0, port := 0, stage := stage, ans := ans }

/-- A posted packet of `ag`. -/
def post (id : Nat) (ag : Agent) (use : Nat) (body : Payload) (stage : Stage := .sent) (addr : Nat := 0) : Txn :=
  { pkt id ag use body stage addr with cls := 2, posted := true }

/-- A word of the register form: opcode, gD, gA, gB, FUNC (R72). -/
def rf (op d a b f : Nat) : Word := BitVec.ofNat 32 (op * 2 ^ 26 + d * 2 ^ 21 + a * 2 ^ 16 + b * 2 ^ 11 + f)

/-- A word of fields, each placed at its lowest bit. -/
def word (fs : List (Nat × Nat)) : Word := BitVec.ofNat 32 (fs.foldl (fun n f => n + f.2 * 2 ^ f.1) 0)

/-- A local load or store: opcode, gG, gB, MODE, SEL, imm12 (R82). -/
def mf (op g b mode sel imm : Nat) : Word := word [(26, op), (21, g), (16, b), (14, mode), (12, sel), (0, imm)]

/-- A far load or store: opcode, gG, pair, AW, D (R86). -/
def ff (op g m aw d : Nat) : Word := word [(26, op), (21, g), (17, m), (16, aw), (15, d)]

/-- A word of the system group: SUB, register, number. -/
def sf (sub g i : Nat) : Word := word [(26, 0x32), (21, sub), (16, g), (0, i)]

/-- What `p` says of the state a command answers. -/
def ran (c : Instr) (s : State) (p : State → Bool) : Bool := match exec c s with | .next t => p t | _ => false

/-- `Open` as a check. -/
def opens (src off : Nat) (wide write : Bool) (v : Nat) (s : State) : Bool :=
  (match addrDom (0x40000000 + off) with | some d => guardCode d s == none | none => true) &&
  !accessStalls ⟨src, off, wide, write, v, false, none⟩ s && accessCodeNow off wide s == 0

theorem open_of {src off : Nat} {wide write : Bool} {v : Nat} {s : State} (h : opens src off wide write v s = true) :
    Open src off wide write v s := by
  simp only [opens, Bool.and_eq_true, Bool.not_eq_true', beq_iff_eq] at h
  refine ⟨fun d hd => ?_, h.1.2, h.2⟩
  have := h.1.1; rw [hd] at this; simpa using this

/-- `Sound` as a check. -/
def sounds (n : Nat) (store : Bool) (addr : Nat → Nat) (s : State) : Bool :=
  (List.range (eng n s).vcnt).all fun i =>
    decide (localFault (addr i) (eng n s).eb store = 0) && (store || !poisoned (engBase n + addr i) (eng n s).eb s)

theorem sound_of {n : Nat} {store : Bool} {addr : Nat → Nat} {s : State} (h : sounds n store addr s = true) : Sound n store addr s := by
  intro i _ hi
  have := List.all_eq_true.mp h i (List.mem_range.mpr hi)
  simp only [Bool.and_eq_true, decide_eq_true_eq, Bool.or_eq_true, Bool.not_eq_true'] at this
  refine ⟨this.1, fun hs => ?_⟩
  rcases this.2 with h' | h'
  · rw [hs] at h'; exact absurd h' (by decide)
  · exact h'


/-! ## Ill-formed commands -/

theorem test_illFormed_below_engine : (Instr.nop 512 0).wf = false := by decide

theorem test_illFormed_below_value : (Instr.csrWrite 0 0 true 0x10000000000000000).wf = false := by decide

theorem test_illFormed_below_line : (Instr.engIrqLate 0 32).wf = false := by decide

theorem test_illFormed_isAlu : (Instr.add 0 (rf 1 0 0 0 1)).wf = false := by decide

theorem test_illFormed_isOp : (Instr.b 0 (rf 33 0 0 0 0)).wf = false := by decide

theorem test_illFormed_isShift : (Instr.shl 0 (rf 7 0 0 0 32)).wf = false := by decide

theorem test_illFormed_isMac : (Instr.cmac 0 (rf 10 0 0 0 1)).wf = false := by decide

theorem test_illFormed_isSys : (Instr.reti 0 (sf 2 0 0)).wf = false := by decide

theorem test_illFormed_isUnallocated : (Instr.undef 0 (rf 1 0 0 0 16)).wf = false := by decide

theorem test_illFormed_within : (Instr.vtperm 0 0 0 5 0 none).wf = false := by decide

theorem test_illFormed_optBelow : (Instr.vtperm 0 0 0 1 0 (some 8)).wf = false := by decide

theorem test_illFormed_chanOk : (Instr.dmaDescriptorFetched 0 8).wf = false := by decide

theorem test_wellFormed : (Instr.undef 511 (rf 1 0 0 0 17)).wf = true ∧ (Instr.vtperm 0 0 0 4 0 (some 7)).wf = true ∧
    (Instr.dmaDescriptorFetched 32 63).wf = true := by decide

/-- A command that names no unit changes nothing. -/
theorem test_illFormed_no_effect : exec (.nop 512 0) .reset = .next .reset := rfl

/-! ## Single steps and worked examples of the manual -/

/-- `add g3, g3, #64` is 0x0863_0040 (R546). -/
theorem test_add_example : ran (.add 0 0x08630040) (loaded 0 0x08630040 { g := [(3, 0xFFFFFFF0)] }) (fun t => (eng 0 t).gr 3 == 0x30) = true := by decide +kernel

/-- 0 − 1 wraps; the source is also the destination (R72). -/
theorem test_sub_wraps : ran (.sub 7 (rf 3 4 4 0 1)) (loaded 7 (rf 3 4 4 0 1)) (fun t => (eng 7 t).gr 4 == 0xFFFFFFFF && (eng 7 t).pc == 4) = true := by decide +kernel

/-- An arithmetic shift fills with the sign (R546). -/
theorem test_sar_sign : ran (.sar 0 (rf 7 1 2 0 95)) (loaded 0 (rf 7 1 2 0 95) { g := [(2, 0x80000000)] }) (fun t => (eng 0 t).gr 1 == 0xFFFFFFFF) = true := by decide +kernel

/-- mulh is the high half of a signed product, found by later readers (R546, R67). -/
theorem test_mulh_signed : ran (.mulh 0 (rf 1 1 2 3 16)) (loaded 0 (rf 1 1 2 3 16) { g := [(2, 0xFFFFFFFF), (3, 2)] }) (fun t => (eng 0 t).gr 1 == 0 && (eng 0 (settle 0 t)).gr 1 == 0xFFFFFFFF) = true := by decide +kernel

/-- Bit-reversed read of 8 points: from element 0 the next is element 4 (R84). -/
theorem test_bit_reversed : ran (.ldW 0 (mf 20 9 1 3 2 16) .clean) (loaded 0 (mf 20 9 1 3 2 16) { g := [(1, 0x16000)], cb := [(4, 0x16000), (5, 32)] }) (fun t => (eng 0 t).gr 1 == 0x16010) = true := by decide +kernel

/-- From element 7 it returns to element 0 (R84). -/
theorem test_bit_reversed_wraps : ran (.ldW 0 (mf 20 9 1 3 2 16) .clean) (loaded 0 (mf 20 9 1 3 2 16) { g := [(1, 0x1601C)], cb := [(4, 0x16000), (5, 32)] }) (fun t => (eng 0 t).gr 1 == 0x16000) = true := by decide +kernel

/-- A circular update subtracts CB_LEN past the end (R83). -/
theorem test_circular : ran (.stW 0 (mf 26 9 1 2 0 8)) (loaded 0 (mf 26 9 1 2 0 8) { g := [(1, 0x1601C)], cb := [(0, 0x16000), (1, 32)] }) (fun t => (eng 0 t).gr 1 == 0x16004) = true := by decide +kernel

/-- `setvl g9, g10, #0x03` is 0xF12A_0003: 100 elements asked, 16 given (R109). -/
theorem test_setvl_example : ran (.setvl 0 0xF12A0003) (loaded 0 0xF12A0003 { g := [(10, 100)] }) (fun t => (eng 0 t).vcnt == 16 && (eng 0 t).gr 9 == 16) = true := by decide +kernel

/-- With 7 asked, 7 (R109). -/
theorem test_setvl_small : ran (.setvl 0 0xF12A0003) (loaded 0 0xF12A0003 { g := [(10, 7)] }) (fun t => (eng 0 t).vcnt == 7) = true := by decide +kernel

/-- `setvl.all g9, #0x02` is 0xF120_8002 (R109). -/
theorem test_setvl_all : ran (.setvl 0 0xF1208002) (loaded 0 0xF1208002) (fun t => (eng 0 t).vcnt == 16) = true := by decide +kernel

/-- `cop.b #12, #0x21, g5, g2` is 0xE061_0A52 (R130): its fields reach the engine's wait for the answer. -/
theorem test_cop_example : ran (.cop 0 0xE0610A52) (loaded 0 0xE0610A52 { g := [(2, 0x10000)] }) (fun t => (eng 0 t).cop.isSome) = true := by decide +kernel

/-- The interleave of A = 0x2_0003_0300 (R269). -/
theorem test_dram_interleave : dramChannel 0x200030300 = 0 := by decide +kernel

/-- The route from node 10 to node 47: 1 (E), 0, 0, 0, 0, 2 (right), 0, 0, 0, 3 (R231, R232). -/
theorem test_xy_codes : xyCodes 10 47 = 1 + 2 * 4 ^ 5 + 3 * 4 ^ 9 := by decide +kernel

/-- CRC-16 of the bytes 1 to 9 in ASCII, polynomial 0x1021, from all ones (R342). -/
theorem test_crc16 : crc16 [49, 50, 51, 52, 53, 54, 55, 56, 57] = 0x29B1 := by decide +kernel

/-- The FCS of the bytes 1 to 9 in ASCII (IEEE 802.3). -/
theorem test_fcs : fcsOf [49, 50, 51, 52, 53, 54, 55, 56, 57] = [0x26, 0x39, 0xF4, 0xCB] := by decide +kernel

/-- CRC-32C of the bytes 1 to 9 in ASCII (R280). -/
theorem test_crc32c : crc32c 0xFFFFFFFF [49, 50, 51, 52, 53, 54, 55, 56, 57] ^^^ 0xFFFFFFFF = 0xE3069283 := by decide +kernel

/-- MU 1, SYMBOL 5, SLOT_ADV 1, grid index 8,001: frame 100, subframe 0, slot 1 (R326). -/
theorem test_gate_fields : ((gateBuild 0 ⟨0, 0, 1, 8000, 0, 0, 8001, leBytes 4 0x10000000 ++ List.replicate 20 0 ++ leBytes 4 0x51, [], false, 0, 0, false⟩
    (List.replicate 64 0)
    .reset).1.drop 9).take 3 = [100, 0, 69] := by decide +kernel

/-- Round 1,000 of 125 µs from an epoch of 1,700,000,000 s begins at 0.125 s past it (R21). -/
theorem test_grid_instant : gridInstant 1000 (regs [(Reg.ROUND_EPOCH_SEC, 1700000000)]) = (1700000000 * 1000000000 + 125000000) * nsUnit := by decide +kernel

/-- TIME_INC of the frequency example takes effect at once (R393). -/
theorem test_time_inc : ran (.timeIncWrite 0 0x13FFFFF38) .reset (fun t => t.csr.respCode == 0 && rd Reg.TIME_INC t == 0x13FFFFF38) = true := by decide +kernel

/-- An unrouted occurrence is taken without effect (R55). -/
theorem test_occurrence_counter : ran (.occurrenceTaken) { State.reset with evt := [⟨5, 0, 0⟩] } (fun t => t.evt.isEmpty) = true := by decide +kernel

/-- The first timeout of a wake is retried (R485). -/
theorem test_wake_timeout_retry : ran (.wakeTimeout 639) { State.reset with dom := [(639, { waking := true })] } (fun t => (dom 639 t).tries == 1 && rd Reg.PWR_WAKE_RETRY_CNT t == 1) = true := by decide +kernel

/-- STOP in WAIT_TIME ends it at once (R26). -/
theorem test_stop_in_wait : ran (.stop 0) (regs [(Reg.ROUND_STATUS, 1), (Reg.ROUND_CTRL, 1)]) (fun t => roundState t == 0) = true := by decide +kernel

/-- A write of PWR_CAP by initiator 0 is answered REFUSED (R470). -/
theorem test_power_cap_refused : ran (.csrWrite 0 Reg.PWR_CAP false 5) .reset (fun t => t.csr.respCode == 7) = true := by decide +kernel

/-- Two codes 1 and 2 average to 1.5, 24 in 1/16 (R492). -/
theorem test_hkc_average : ran (.hkcEntryDone [1, 2]) (regs [(Reg.HKC_SEQ 0, 0x80000100)] { State.reset with hkc := { pass := some 0 } }) (fun t => rd (Reg.HKC_RESULT 0) t == 0x10018) = true := by decide +kernel

/-- A step runs the front command on the rest of the queue. -/
theorem test_front_command : (step { State.reset with pending := [.vinLow, .occurrenceTaken] } matches .next _) = true := by decide +kernel

/-- Concrete inputs meet the hypotheses of ArithmeticResults, clause by clause. -/
theorem witness_ArithmeticResults :
  ((Instr.add 511 (rf 1 31 0 15 0)).wf = true ∧ Free 511 (rf 1 31 0 15 0) .clean (aluRegs (rf 1 31 0 15 0)) (loaded 511 (rf 1 31 0 15 0)) ∧
    opReserved (rf 1 31 0 15 0) = false) ∧
  ((Instr.add 0 (rf 2 0 31 1 0x7FF)).wf = true ∧
    Free 0 (rf 2 0 31 1 0x7FF) .clean (aluRegs (rf 2 0 31 1 0x7FF)) (loaded 0 (rf 2 0 31 1 0x7FF)) ∧
    opReserved (rf 2 0 31 1 0x7FF) = false) ∧
  ((Instr.sub 511 (rf 1 31 0 15 1)).wf = true ∧ Free 511 (rf 1 31 0 15 1) .clean (aluRegs (rf 1 31 0 15 1)) (loaded 511 (rf 1 31 0 15 1)) ∧
    opReserved (rf 1 31 0 15 1) = false) ∧
  ((Instr.sub 0 (rf 3 0 31 1 0x7FF)).wf = true ∧
    Free 0 (rf 3 0 31 1 0x7FF) .clean (aluRegs (rf 3 0 31 1 0x7FF)) (loaded 0 (rf 3 0 31 1 0x7FF)) ∧
    opReserved (rf 3 0 31 1 0x7FF) = false) ∧
  ((Instr.and 511 (rf 1 31 0 15 2)).wf = true ∧ Free 511 (rf 1 31 0 15 2) .clean (aluRegs (rf 1 31 0 15 2)) (loaded 511 (rf 1 31 0 15 2)) ∧
    opReserved (rf 1 31 0 15 2) = false) ∧
  ((Instr.and 0 (rf 4 0 31 1 0x7FF)).wf = true ∧
    Free 0 (rf 4 0 31 1 0x7FF) .clean (aluRegs (rf 4 0 31 1 0x7FF)) (loaded 0 (rf 4 0 31 1 0x7FF)) ∧
    opReserved (rf 4 0 31 1 0x7FF) = false) ∧
  ((Instr.or 511 (rf 1 31 0 15 3)).wf = true ∧ Free 511 (rf 1 31 0 15 3) .clean (aluRegs (rf 1 31 0 15 3)) (loaded 511 (rf 1 31 0 15 3)) ∧
    opReserved (rf 1 31 0 15 3) = false) ∧
  ((Instr.or 0 (rf 5 0 31 1 0x7FF)).wf = true ∧
    Free 0 (rf 5 0 31 1 0x7FF) .clean (aluRegs (rf 5 0 31 1 0x7FF)) (loaded 0 (rf 5 0 31 1 0x7FF)) ∧
    opReserved (rf 5 0 31 1 0x7FF) = false) ∧
  ((Instr.xor 511 (rf 1 31 0 15 4)).wf = true ∧ Free 511 (rf 1 31 0 15 4) .clean (aluRegs (rf 1 31 0 15 4)) (loaded 511 (rf 1 31 0 15 4)) ∧
    opReserved (rf 1 31 0 15 4) = false) ∧
  ((Instr.xor 0 (rf 6 0 31 1 0x7FF)).wf = true ∧
    Free 0 (rf 6 0 31 1 0x7FF) .clean (aluRegs (rf 6 0 31 1 0x7FF)) (loaded 0 (rf 6 0 31 1 0x7FF)) ∧
    opReserved (rf 6 0 31 1 0x7FF) = false) ∧
  ((Instr.shl 511 (rf 1 31 0 15 5)).wf = true ∧ Free 511 (rf 1 31 0 15 5) .clean (aluRegs (rf 1 31 0 15 5)) (loaded 511 (rf 1 31 0 15 5)) ∧
    opReserved (rf 1 31 0 15 5) = false) ∧
  ((Instr.shl 0 (rf 7 0 31 0 (0 * 32 + 31))).wf = true ∧
    Free 0 (rf 7 0 31 0 (0 * 32 + 31)) .clean (aluRegs (rf 7 0 31 0 (0 * 32 + 31))) (loaded 0 (rf 7 0 31 0 (0 * 32 + 31))) ∧
    opReserved (rf 7 0 31 0 (0 * 32 + 31)) = false) ∧
  ((Instr.shr 511 (rf 1 31 0 15 6)).wf = true ∧ Free 511 (rf 1 31 0 15 6) .clean (aluRegs (rf 1 31 0 15 6)) (loaded 511 (rf 1 31 0 15 6)) ∧
    opReserved (rf 1 31 0 15 6) = false) ∧
  ((Instr.shr 0 (rf 7 0 31 0 (1 * 32 + 31))).wf = true ∧
    Free 0 (rf 7 0 31 0 (1 * 32 + 31)) .clean (aluRegs (rf 7 0 31 0 (1 * 32 + 31))) (loaded 0 (rf 7 0 31 0 (1 * 32 + 31))) ∧
    opReserved (rf 7 0 31 0 (1 * 32 + 31)) = false) ∧
  ((Instr.sar 511 (rf 1 31 0 15 7)).wf = true ∧ Free 511 (rf 1 31 0 15 7) .clean (aluRegs (rf 1 31 0 15 7)) (loaded 511 (rf 1 31 0 15 7)) ∧
    opReserved (rf 1 31 0 15 7) = false) ∧
  ((Instr.sar 0 (rf 7 0 31 0 (2 * 32 + 31))).wf = true ∧
    Free 0 (rf 7 0 31 0 (2 * 32 + 31)) .clean (aluRegs (rf 7 0 31 0 (2 * 32 + 31))) (loaded 0 (rf 7 0 31 0 (2 * 32 + 31))) ∧
    opReserved (rf 7 0 31 0 (2 * 32 + 31)) = false) ∧
  ((Instr.cmpEq 511 (rf 1 31 0 15 8)).wf = true ∧
    Free 511 (rf 1 31 0 15 8) .clean (aluRegs (rf 1 31 0 15 8)) (loaded 511 (rf 1 31 0 15 8)) ∧ opReserved (rf 1 31 0 15 8) = false) ∧
  ((Instr.cmpLt 511 (rf 1 31 0 15 9)).wf = true ∧
    Free 511 (rf 1 31 0 15 9) .clean (aluRegs (rf 1 31 0 15 9)) (loaded 511 (rf 1 31 0 15 9)) ∧ opReserved (rf 1 31 0 15 9) = false) ∧
  ((Instr.cmpLtu 511 (rf 1 31 0 15 10)).wf = true ∧
    Free 511 (rf 1 31 0 15 10) .clean (aluRegs (rf 1 31 0 15 10)) (loaded 511 (rf 1 31 0 15 10)) ∧ opReserved (rf 1 31 0 15 10) = false) ∧
  ((Instr.min 511 (rf 1 31 0 15 11)).wf = true ∧
    Free 511 (rf 1 31 0 15 11) .clean (aluRegs (rf 1 31 0 15 11)) (loaded 511 (rf 1 31 0 15 11)) ∧ opReserved (rf 1 31 0 15 11) = false) ∧
  ((Instr.max 511 (rf 1 31 0 15 12)).wf = true ∧
    Free 511 (rf 1 31 0 15 12) .clean (aluRegs (rf 1 31 0 15 12)) (loaded 511 (rf 1 31 0 15 12)) ∧ opReserved (rf 1 31 0 15 12) = false) ∧
  ((Instr.mul 511 (rf 1 31 0 15 15)).wf = true ∧
    Free 511 (rf 1 31 0 15 15) .clean (aluRegs (rf 1 31 0 15 15)) (loaded 511 (rf 1 31 0 15 15)) ∧ opReserved (rf 1 31 0 15 15) = false) ∧
  ((Instr.mulh 511 (rf 1 31 0 15 16)).wf = true ∧
    Free 511 (rf 1 31 0 15 16) .clean (aluRegs (rf 1 31 0 15 16)) (loaded 511 (rf 1 31 0 15 16)) ∧ opReserved (rf 1 31 0 15 16) = false) ∧
  (opcOf (rf 1 0 0 0 0) = 1) ∧
  (opcOf (rf 7 0 0 0 0) = 7) ∧
  (opcOf (rf 2 0 0 0 0) ≠ 1 ∧ opcOf (rf 2 0 0 0 0) ≠ 7) := by
  with_reducible and_intros
  all_goals
    first
    | decide +kernel
    | (unfold Free Running Ready; decide +kernel)

/-- Concrete inputs meet the hypotheses of MoveResults, clause by clause. -/
theorem witness_MoveResults :
  ((Instr.abs 511 (rf 1 31 0 0 13)).wf = true ∧
    Free 511 (rf 1 31 0 0 13) .clean [fieldOf (rf 1 31 0 0 13) 25 21, fieldOf (rf 1 31 0 0 13) 20 16] (loaded 511 (rf 1 31 0 0 13)) ∧
    aluReserved (rf 1 31 0 0 13) true = false) ∧
  ((Instr.mov 511 (rf 1 31 0 0 14)).wf = true ∧
    Free 511 (rf 1 31 0 0 14) .clean [fieldOf (rf 1 31 0 0 14) 25 21, fieldOf (rf 1 31 0 0 14) 20 16] (loaded 511 (rf 1 31 0 0 14)) ∧
    aluReserved (rf 1 31 0 0 14) true = false) ∧
  ((Instr.movi 511 (rf 8 31 0 31 0x7FF)).wf = true ∧
    Free 511 (rf 8 31 0 31 0x7FF) .clean [fieldOf (rf 8 31 0 31 0x7FF) 25 21] (loaded 511 (rf 8 31 0 31 0x7FF)) ∧
    decide (fieldOf (rf 8 31 0 31 0x7FF) 20 16 ≠ 0) = false) ∧
  ((Instr.movhi 511 (rf 9 31 0 31 0x7FF)).wf = true ∧
    Free 511 (rf 9 31 0 31 0x7FF) .clean [fieldOf (rf 9 31 0 31 0x7FF) 25 21] (loaded 511 (rf 9 31 0 31 0x7FF)) ∧
    decide (fieldOf (rf 9 31 0 31 0x7FF) 20 16 ≠ 0) = false) ∧
  ((Instr.nop 511 (rf 0 0 0 0 0)).wf = true ∧ Free 511 (rf 0 0 0 0 0) .clean [] (loaded 511 (rf 0 0 0 0 0)) ∧
    fieldOf (rf 0 0 0 0 0) 25 0 = 0) ∧
  (Free 511 (rf 0 0 0 0 0) .clean [] (loaded 511 (rf 0 0 0 0 0) { land := [⟨1, .g 31 7⟩] }) ∧
    (eng 511 (loaded 511 (rf 0 0 0 0 0) { land := [⟨1, .g 31 7⟩] })).gap = 1 ∧
    (eng 511 (loaded 511 (rf 0 0 0 0 0) { land := [⟨1, .g 31 7⟩] })).land = [⟨1, .g 31 7⟩]) ∧
  (Free 511 (rf 0 0 0 0 0) .clean [] (loaded 511 (rf 0 0 0 0 0) { land := [⟨1 + 1, .g 31 7⟩] }) ∧
    (eng 511 (loaded 511 (rf 0 0 0 0 0) { land := [⟨1 + 1, .g 31 7⟩] })).gap = 1 ∧
    (eng 511 (loaded 511 (rf 0 0 0 0 0) { land := [⟨1 + 1, .g 31 7⟩] })).land = [⟨1 + 1, .g 31 7⟩]) := by
  with_reducible and_intros
  all_goals
    first
    | decide +kernel
    | (unfold Free Running Ready; decide +kernel)

/-- Concrete inputs meet the hypotheses of AccumulatorResults, clause by clause. -/
theorem witness_AccumulatorResults :
  ((Instr.cmac 511 (rf 10 28 31 0 0)).wf = true ∧
    Free 511 (rf 10 28 31 0 0) .clean [fieldOf (rf 10 28 31 0 0) 20 16, fieldOf (rf 10 28 31 0 0) 15 11] (loaded 511 (rf 10 28 31 0 0)) ∧
    fieldOf (rf 10 28 31 0 0) 22 21 = 0 ∧ fieldOf (rf 10 28 31 0 0) 10 2 = 0) ∧
  ((Instr.cmacc 511 (rf 10 28 31 0 1)).wf = true ∧
    Free 511 (rf 10 28 31 0 1) .clean [fieldOf (rf 10 28 31 0 1) 20 16, fieldOf (rf 10 28 31 0 1) 15 11] (loaded 511 (rf 10 28 31 0 1)) ∧
    fieldOf (rf 10 28 31 0 1) 22 21 = 0 ∧ fieldOf (rf 10 28 31 0 1) 10 2 = 0) ∧
  ((Instr.cmsu 511 (rf 10 28 31 0 2)).wf = true ∧
    Free 511 (rf 10 28 31 0 2) .clean [fieldOf (rf 10 28 31 0 2) 20 16, fieldOf (rf 10 28 31 0 2) 15 11] (loaded 511 (rf 10 28 31 0 2)) ∧
    fieldOf (rf 10 28 31 0 2) 22 21 = 0 ∧ fieldOf (rf 10 28 31 0 2) 10 2 = 0) ∧
  ((Instr.rmac 511 (rf 10 28 31 0 3)).wf = true ∧
    Free 511 (rf 10 28 31 0 3) .clean [fieldOf (rf 10 28 31 0 3) 20 16, fieldOf (rf 10 28 31 0 3) 15 11] (loaded 511 (rf 10 28 31 0 3)) ∧
    fieldOf (rf 10 28 31 0 3) 22 21 = 0 ∧ fieldOf (rf 10 28 31 0 3) 10 2 = 0) ∧
  ((Instr.clr 511 (rf 11 28 0 0 0)).wf = true ∧ Free 511 (rf 11 28 0 0 0) .clean [] (loaded 511 (rf 11 28 0 0 0)) ∧
    fieldOf (rf 11 28 0 0 0) 22 0 = 0) ∧
  ((Instr.racc 511 (rf 12 31 28 0 31)).wf = true ∧
    Free 511 (rf 12 31 28 0 31) .clean [fieldOf (rf 12 31 28 0 31) 25 21] (loaded 511 (rf 12 31 28 0 31)) ∧
    decide (fieldOf (rf 12 31 28 0 31) 17 5 ≠ 0) = false) ∧
  ((Instr.mva 511 (rf 13 31 28 0 63)).wf = true ∧
    Free 511 (rf 13 31 28 0 63) .clean [fieldOf (rf 13 31 28 0 63) 25 21] (loaded 511 (rf 13 31 28 0 63)) ∧
    decide (fieldOf (rf 13 31 28 0 63) 17 6 ≠ 0) = false) ∧
  ((Instr.ftap 511 (word [(26, 49), (23, 7), (18, 1), (13, 2), (11, 0)]) .clean).wf = true ∧
    Free 511 (word [(26, 49), (23, 7), (18, 1), (13, 2), (11, 0)]) .clean [fieldOf (word [(26, 49), (23, 7), (18, 1), (13, 2), (11, 0)]) 22 18, fieldOf (word [(26, 49), (23, 7), (18, 1), (13, 2), (11, 0)]) 17 13] (loaded 511 (word [(26, 49), (23, 7), (18, 1), (13, 2), (11, 0)]) { g := [(1, 65536), (2, 262140)] }) ∧
    fieldOf (word [(26, 49), (23, 7), (18, 1), (13, 2), (11, 0)]) 6 0 = 0 ∧
    fieldOf (word [(26, 49), (23, 7), (18, 1), (13, 2), (11, 0)]) 9 9 = 0 ∧
    fieldOf (word [(26, 49), (23, 7), (18, 1), (13, 2), (11, 0)]) 22 18 ≠ fieldOf (word [(26, 49), (23, 7), (18, 1), (13, 2), (11, 0)]) 17 13 ∧
    ((eng 511 (issuing 511 .clean (loaded 511 (word [(26, 49), (23, 7), (18, 1), (13, 2), (11, 0)]) { g := [(1, 65536), (2, 262140)] }))).gr (fieldOf (word [(26, 49), (23, 7), (18, 1), (13, 2), (11, 0)]) 22 18)).toNat = 65536 ∧
    ((eng 511 (issuing 511 .clean (loaded 511 (word [(26, 49), (23, 7), (18, 1), (13, 2), (11, 0)]) { g := [(1, 65536), (2, 262140)] }))).gr (fieldOf (word [(26, 49), (23, 7), (18, 1), (13, 2), (11, 0)]) 17 13)).toNat = 262140 ∧
    65536 % 4 = 0 ∧ 262140 % (if fieldOf (word [(26, 49), (23, 7), (18, 1), (13, 2), (11, 0)]) 11 11 = 1 then 2 else 4) = 0 ∧
    0x10000 ≤ 65536 ∧ 65536 + 4 < 0x40000 ∧ 262140 < 0x40000 ∧
    poisoned (engBase 511 + 65536) 4 (loaded 511 (word [(26, 49), (23, 7), (18, 1), (13, 2), (11, 0)]) { g := [(1, 65536), (2, 262140)] }) = false ∧
    poisoned (engBase 511 + 262140) 4 (loaded 511 (word [(26, 49), (23, 7), (18, 1), (13, 2), (11, 0)]) { g := [(1, 65536), (2, 262140)] }) = false) ∧
  ((Instr.ftap 511 (word [(26, 49), (23, 7), (18, 1), (13, 2), (11, 1)]) .clean).wf = true ∧
    Free 511 (word [(26, 49), (23, 7), (18, 1), (13, 2), (11, 1)]) .clean [fieldOf (word [(26, 49), (23, 7), (18, 1), (13, 2), (11, 1)]) 22 18, fieldOf (word [(26, 49), (23, 7), (18, 1), (13, 2), (11, 1)]) 17 13] (loaded 511 (word [(26, 49), (23, 7), (18, 1), (13, 2), (11, 1)]) { g := [(1, 262136), (2, 262142)] }) ∧
    fieldOf (word [(26, 49), (23, 7), (18, 1), (13, 2), (11, 1)]) 6 0 = 0 ∧
    fieldOf (word [(26, 49), (23, 7), (18, 1), (13, 2), (11, 1)]) 9 9 = 0 ∧
    fieldOf (word [(26, 49), (23, 7), (18, 1), (13, 2), (11, 1)]) 22 18 ≠ fieldOf (word [(26, 49), (23, 7), (18, 1), (13, 2), (11, 1)]) 17 13 ∧
    ((eng 511 (issuing 511 .clean (loaded 511 (word [(26, 49), (23, 7), (18, 1), (13, 2), (11, 1)]) { g := [(1, 262136), (2, 262142)] }))).gr (fieldOf (word [(26, 49), (23, 7), (18, 1), (13, 2), (11, 1)]) 22 18)).toNat = 262136 ∧
    ((eng 511 (issuing 511 .clean (loaded 511 (word [(26, 49), (23, 7), (18, 1), (13, 2), (11, 1)]) { g := [(1, 262136), (2, 262142)] }))).gr (fieldOf (word [(26, 49), (23, 7), (18, 1), (13, 2), (11, 1)]) 17 13)).toNat = 262142 ∧
    262136 % 4 = 0 ∧ 262142 % (if fieldOf (word [(26, 49), (23, 7), (18, 1), (13, 2), (11, 1)]) 11 11 = 1 then 2 else 4) = 0 ∧
    0x10000 ≤ 262136 ∧ 262136 + 4 < 0x40000 ∧ 262142 < 0x40000 ∧
    poisoned (engBase 511 + 262136) 4 (loaded 511 (word [(26, 49), (23, 7), (18, 1), (13, 2), (11, 1)]) { g := [(1, 262136), (2, 262142)] }) = false ∧
    poisoned (engBase 511 + 262142) 4 (loaded 511 (word [(26, 49), (23, 7), (18, 1), (13, 2), (11, 1)]) { g := [(1, 262136), (2, 262142)] }) = false) := by
  with_reducible and_intros
  all_goals
    first
    | decide +kernel
    | (unfold Free Running Ready; decide +kernel)

/-- Concrete inputs meet the hypotheses of LocalLoadResults, clause by clause. -/
theorem witness_LocalLoadResults :
  ((Instr.ldB 511 (mf 16 30 1 0 0 0) .clean).wf = true ∧
    Free 511 (mf 16 30 1 0 0 0) .clean (memRegs (mf 16 30 1 0 0 0) false) (loaded 511 (mf 16 30 1 0 0 0) { g := [(1, 0x3ffff)] }) ∧
    memReserved (mf 16 30 1 0 0 0) false = false ∧
    (memForm (eng 511 (issuing 511 .clean (loaded 511 (mf 16 30 1 0 0 0) { g := [(1, 0x3ffff)] }))) (mf 16 30 1 0 0 0) 0).1.toNat < 0x40000 ∧
    (memForm (eng 511 (issuing 511 .clean (loaded 511 (mf 16 30 1 0 0 0) { g := [(1, 0x3ffff)] }))) (mf 16 30 1 0 0 0) 0).1.toNat % 1 = 0 ∧
    eccFinds .clean (engBase 511 + (memForm (eng 511 (issuing 511 .clean (loaded 511 (mf 16 30 1 0 0 0) { g := [(1, 0x3ffff)] }))) (mf 16 30 1 0 0 0) 0).1.toNat) 1 (loaded 511 (mf 16 30 1 0 0 0) { g := [(1, 0x3ffff)] }) ≠ .uncorrectable) ∧
  ((Instr.ldBu 511 (mf 17 30 1 1 0 0) .clean).wf = true ∧
    Free 511 (mf 17 30 1 1 0 0) .clean (memRegs (mf 17 30 1 1 0 0) false) (loaded 511 (mf 17 30 1 1 0 0) { g := [(1, 0x3ffff)] }) ∧
    memReserved (mf 17 30 1 1 0 0) false = false ∧
    (memForm (eng 511 (issuing 511 .clean (loaded 511 (mf 17 30 1 1 0 0) { g := [(1, 0x3ffff)] }))) (mf 17 30 1 1 0 0) 0).1.toNat < 0x40000 ∧
    (memForm (eng 511 (issuing 511 .clean (loaded 511 (mf 17 30 1 1 0 0) { g := [(1, 0x3ffff)] }))) (mf 17 30 1 1 0 0) 0).1.toNat % 1 = 0 ∧
    eccFinds .clean (engBase 511 + (memForm (eng 511 (issuing 511 .clean (loaded 511 (mf 17 30 1 1 0 0) { g := [(1, 0x3ffff)] }))) (mf 17 30 1 1 0 0) 0).1.toNat) 1 (loaded 511 (mf 17 30 1 1 0 0) { g := [(1, 0x3ffff)] }) ≠ .uncorrectable) ∧
  ((Instr.ldH 511 (mf 18 30 1 2 3 0) .clean).wf = true ∧
    Free 511 (mf 18 30 1 2 3 0) .clean (memRegs (mf 18 30 1 2 3 0) false) (loaded 511 (mf 18 30 1 2 3 0) { g := [(1, 0x3fffe)] }) ∧
    memReserved (mf 18 30 1 2 3 0) false = false ∧
    (memForm (eng 511 (issuing 511 .clean (loaded 511 (mf 18 30 1 2 3 0) { g := [(1, 0x3fffe)] }))) (mf 18 30 1 2 3 0) 1).1.toNat < 0x40000 ∧
    (memForm (eng 511 (issuing 511 .clean (loaded 511 (mf 18 30 1 2 3 0) { g := [(1, 0x3fffe)] }))) (mf 18 30 1 2 3 0) 1).1.toNat % 2 = 0 ∧
    eccFinds .clean (engBase 511 + (memForm (eng 511 (issuing 511 .clean (loaded 511 (mf 18 30 1 2 3 0) { g := [(1, 0x3fffe)] }))) (mf 18 30 1 2 3 0) 1).1.toNat) 2 (loaded 511 (mf 18 30 1 2 3 0) { g := [(1, 0x3fffe)] }) ≠ .uncorrectable) ∧
  ((Instr.ldHu 511 (mf 19 30 1 3 3 0) .clean).wf = true ∧
    Free 511 (mf 19 30 1 3 3 0) .clean (memRegs (mf 19 30 1 3 3 0) false) (loaded 511 (mf 19 30 1 3 3 0) { g := [(1, 0x3fffe)] }) ∧
    memReserved (mf 19 30 1 3 3 0) false = false ∧
    (memForm (eng 511 (issuing 511 .clean (loaded 511 (mf 19 30 1 3 3 0) { g := [(1, 0x3fffe)] }))) (mf 19 30 1 3 3 0) 1).1.toNat < 0x40000 ∧
    (memForm (eng 511 (issuing 511 .clean (loaded 511 (mf 19 30 1 3 3 0) { g := [(1, 0x3fffe)] }))) (mf 19 30 1 3 3 0) 1).1.toNat % 2 = 0 ∧
    eccFinds .clean (engBase 511 + (memForm (eng 511 (issuing 511 .clean (loaded 511 (mf 19 30 1 3 3 0) { g := [(1, 0x3fffe)] }))) (mf 19 30 1 3 3 0) 1).1.toNat) 2 (loaded 511 (mf 19 30 1 3 3 0) { g := [(1, 0x3fffe)] }) ≠ .uncorrectable) ∧
  ((Instr.ldW 511 (mf 20 30 1 0 0 0) .clean).wf = true ∧
    Free 511 (mf 20 30 1 0 0 0) .clean (memRegs (mf 20 30 1 0 0 0) false) (loaded 511 (mf 20 30 1 0 0 0) { g := [(1, 0x3fffc)] }) ∧
    memReserved (mf 20 30 1 0 0 0) false = false ∧
    (memForm (eng 511 (issuing 511 .clean (loaded 511 (mf 20 30 1 0 0 0) { g := [(1, 0x3fffc)] }))) (mf 20 30 1 0 0 0) 2).1.toNat < 0x40000 ∧
    (memForm (eng 511 (issuing 511 .clean (loaded 511 (mf 20 30 1 0 0 0) { g := [(1, 0x3fffc)] }))) (mf 20 30 1 0 0 0) 2).1.toNat % 4 = 0 ∧
    eccFinds .clean (engBase 511 + (memForm (eng 511 (issuing 511 .clean (loaded 511 (mf 20 30 1 0 0 0) { g := [(1, 0x3fffc)] }))) (mf 20 30 1 0 0 0) 2).1.toNat) 4 (loaded 511 (mf 20 30 1 0 0 0) { g := [(1, 0x3fffc)] }) ≠ .uncorrectable) ∧
  ((Instr.ldD 511 (mf 21 30 1 1 0 0) .clean).wf = true ∧
    Free 511 (mf 21 30 1 1 0 0) .clean (memRegs (mf 21 30 1 1 0 0) true) (loaded 511 (mf 21 30 1 1 0 0) { g := [(1, 0x3fff8)] }) ∧
    memReserved (mf 21 30 1 1 0 0) true = false ∧
    (memForm (eng 511 (issuing 511 .clean (loaded 511 (mf 21 30 1 1 0 0) { g := [(1, 0x3fff8)] }))) (mf 21 30 1 1 0 0) 3).1.toNat < 0x40000 ∧
    (memForm (eng 511 (issuing 511 .clean (loaded 511 (mf 21 30 1 1 0 0) { g := [(1, 0x3fff8)] }))) (mf 21 30 1 1 0 0) 3).1.toNat % 8 = 0 ∧
    eccFinds .clean (engBase 511 + (memForm (eng 511 (issuing 511 .clean (loaded 511 (mf 21 30 1 1 0 0) { g := [(1, 0x3fff8)] }))) (mf 21 30 1 1 0 0) 3).1.toNat) 8 (loaded 511 (mf 21 30 1 1 0 0) { g := [(1, 0x3fff8)] }) ≠ .uncorrectable) := by
  with_reducible and_intros
  all_goals
    first
    | decide +kernel
    | (unfold Free Running Ready; decide +kernel)

/-- Concrete inputs meet the hypotheses of LocalStoreResults, clause by clause. -/
theorem witness_LocalStoreResults :
  ((Instr.stB 511 (mf 24 30 1 0 0 0)).wf = true ∧
    Free 511 (mf 24 30 1 0 0 0) .clean (memRegs (mf 24 30 1 0 0 0) false) (loaded 511 (mf 24 30 1 0 0 0) { g := [(1, 0x10000)] }) ∧
    memReserved (mf 24 30 1 0 0 0) false = false ∧
    0x10000 ≤ (memForm (eng 511 (issuing 511 .clean (loaded 511 (mf 24 30 1 0 0 0) { g := [(1, 0x10000)] }))) (mf 24 30 1 0 0 0) 0).1.toNat ∧
    (memForm (eng 511 (issuing 511 .clean (loaded 511 (mf 24 30 1 0 0 0) { g := [(1, 0x10000)] }))) (mf 24 30 1 0 0 0) 0).1.toNat < 0x40000 ∧
    (memForm (eng 511 (issuing 511 .clean (loaded 511 (mf 24 30 1 0 0 0) { g := [(1, 0x10000)] }))) (mf 24 30 1 0 0 0) 0).1.toNat % 1 = 0) ∧
  ((Instr.stB 511 (mf 24 30 1 3 0 0)).wf = true ∧
    Free 511 (mf 24 30 1 3 0 0) .clean (memRegs (mf 24 30 1 3 0 0) false) (loaded 511 (mf 24 30 1 3 0 0) { g := [(1, 0x3ffff)] }) ∧
    memReserved (mf 24 30 1 3 0 0) false = false ∧
    0x10000 ≤ (memForm (eng 511 (issuing 511 .clean (loaded 511 (mf 24 30 1 3 0 0) { g := [(1, 0x3ffff)] }))) (mf 24 30 1 3 0 0) 0).1.toNat ∧
    (memForm (eng 511 (issuing 511 .clean (loaded 511 (mf 24 30 1 3 0 0) { g := [(1, 0x3ffff)] }))) (mf 24 30 1 3 0 0) 0).1.toNat < 0x40000 ∧
    (memForm (eng 511 (issuing 511 .clean (loaded 511 (mf 24 30 1 3 0 0) { g := [(1, 0x3ffff)] }))) (mf 24 30 1 3 0 0) 0).1.toNat % 1 = 0) ∧
  ((Instr.stH 511 (mf 25 30 1 0 0 0)).wf = true ∧
    Free 511 (mf 25 30 1 0 0 0) .clean (memRegs (mf 25 30 1 0 0 0) false) (loaded 511 (mf 25 30 1 0 0 0) { g := [(1, 0x10000)] }) ∧
    memReserved (mf 25 30 1 0 0 0) false = false ∧
    0x10000 ≤ (memForm (eng 511 (issuing 511 .clean (loaded 511 (mf 25 30 1 0 0 0) { g := [(1, 0x10000)] }))) (mf 25 30 1 0 0 0) 1).1.toNat ∧
    (memForm (eng 511 (issuing 511 .clean (loaded 511 (mf 25 30 1 0 0 0) { g := [(1, 0x10000)] }))) (mf 25 30 1 0 0 0) 1).1.toNat < 0x40000 ∧
    (memForm (eng 511 (issuing 511 .clean (loaded 511 (mf 25 30 1 0 0 0) { g := [(1, 0x10000)] }))) (mf 25 30 1 0 0 0) 1).1.toNat % 2 = 0) ∧
  ((Instr.stH 511 (mf 25 30 1 3 0 0)).wf = true ∧
    Free 511 (mf 25 30 1 3 0 0) .clean (memRegs (mf 25 30 1 3 0 0) false) (loaded 511 (mf 25 30 1 3 0 0) { g := [(1, 0x3fffe)] }) ∧
    memReserved (mf 25 30 1 3 0 0) false = false ∧
    0x10000 ≤ (memForm (eng 511 (issuing 511 .clean (loaded 511 (mf 25 30 1 3 0 0) { g := [(1, 0x3fffe)] }))) (mf 25 30 1 3 0 0) 1).1.toNat ∧
    (memForm (eng 511 (issuing 511 .clean (loaded 511 (mf 25 30 1 3 0 0) { g := [(1, 0x3fffe)] }))) (mf 25 30 1 3 0 0) 1).1.toNat < 0x40000 ∧
    (memForm (eng 511 (issuing 511 .clean (loaded 511 (mf 25 30 1 3 0 0) { g := [(1, 0x3fffe)] }))) (mf 25 30 1 3 0 0) 1).1.toNat % 2 = 0) ∧
  ((Instr.stW 511 (mf 26 30 1 0 0 0)).wf = true ∧
    Free 511 (mf 26 30 1 0 0 0) .clean (memRegs (mf 26 30 1 0 0 0) false) (loaded 511 (mf 26 30 1 0 0 0) { g := [(1, 0x10000)] }) ∧
    memReserved (mf 26 30 1 0 0 0) false = false ∧
    0x10000 ≤ (memForm (eng 511 (issuing 511 .clean (loaded 511 (mf 26 30 1 0 0 0) { g := [(1, 0x10000)] }))) (mf 26 30 1 0 0 0) 2).1.toNat ∧
    (memForm (eng 511 (issuing 511 .clean (loaded 511 (mf 26 30 1 0 0 0) { g := [(1, 0x10000)] }))) (mf 26 30 1 0 0 0) 2).1.toNat < 0x40000 ∧
    (memForm (eng 511 (issuing 511 .clean (loaded 511 (mf 26 30 1 0 0 0) { g := [(1, 0x10000)] }))) (mf 26 30 1 0 0 0) 2).1.toNat % 4 = 0) ∧
  ((Instr.stW 511 (mf 26 30 1 3 0 0)).wf = true ∧
    Free 511 (mf 26 30 1 3 0 0) .clean (memRegs (mf 26 30 1 3 0 0) false) (loaded 511 (mf 26 30 1 3 0 0) { g := [(1, 0x3fffc)] }) ∧
    memReserved (mf 26 30 1 3 0 0) false = false ∧
    0x10000 ≤ (memForm (eng 511 (issuing 511 .clean (loaded 511 (mf 26 30 1 3 0 0) { g := [(1, 0x3fffc)] }))) (mf 26 30 1 3 0 0) 2).1.toNat ∧
    (memForm (eng 511 (issuing 511 .clean (loaded 511 (mf 26 30 1 3 0 0) { g := [(1, 0x3fffc)] }))) (mf 26 30 1 3 0 0) 2).1.toNat < 0x40000 ∧
    (memForm (eng 511 (issuing 511 .clean (loaded 511 (mf 26 30 1 3 0 0) { g := [(1, 0x3fffc)] }))) (mf 26 30 1 3 0 0) 2).1.toNat % 4 = 0) ∧
  ((Instr.stD 511 (mf 27 30 1 0 0 0)).wf = true ∧
    Free 511 (mf 27 30 1 0 0 0) .clean (memRegs (mf 27 30 1 0 0 0) true) (loaded 511 (mf 27 30 1 0 0 0) { g := [(1, 0x10000)] }) ∧
    memReserved (mf 27 30 1 0 0 0) true = false ∧
    0x10000 ≤ (memForm (eng 511 (issuing 511 .clean (loaded 511 (mf 27 30 1 0 0 0) { g := [(1, 0x10000)] }))) (mf 27 30 1 0 0 0) 3).1.toNat ∧
    (memForm (eng 511 (issuing 511 .clean (loaded 511 (mf 27 30 1 0 0 0) { g := [(1, 0x10000)] }))) (mf 27 30 1 0 0 0) 3).1.toNat < 0x40000 ∧
    (memForm (eng 511 (issuing 511 .clean (loaded 511 (mf 27 30 1 0 0 0) { g := [(1, 0x10000)] }))) (mf 27 30 1 0 0 0) 3).1.toNat % 8 = 0) ∧
  ((Instr.stD 511 (mf 27 30 1 3 0 0)).wf = true ∧
    Free 511 (mf 27 30 1 3 0 0) .clean (memRegs (mf 27 30 1 3 0 0) true) (loaded 511 (mf 27 30 1 3 0 0) { g := [(1, 0x3fff8)] }) ∧
    memReserved (mf 27 30 1 3 0 0) true = false ∧
    0x10000 ≤ (memForm (eng 511 (issuing 511 .clean (loaded 511 (mf 27 30 1 3 0 0) { g := [(1, 0x3fff8)] }))) (mf 27 30 1 3 0 0) 3).1.toNat ∧
    (memForm (eng 511 (issuing 511 .clean (loaded 511 (mf 27 30 1 3 0 0) { g := [(1, 0x3fff8)] }))) (mf 27 30 1 3 0 0) 3).1.toNat < 0x40000 ∧
    (memForm (eng 511 (issuing 511 .clean (loaded 511 (mf 27 30 1 3 0 0) { g := [(1, 0x3fff8)] }))) (mf 27 30 1 3 0 0) 3).1.toNat % 8 = 0) := by
  with_reducible and_intros
  all_goals
    first
    | decide +kernel
    | (unfold Free Running Ready; decide +kernel)

/-- Addresses just past each bound of R85 meet the hypotheses of the ADDR traps. -/
theorem witness_LocalStoreResults_traps :
  ((Instr.ldB 511 (mf 16 30 1 0 0 0) .clean).wf = true ∧
    Free 511 (mf 16 30 1 0 0 0) .clean (memRegs (mf 16 30 1 0 0 0) false) (loaded 511 (mf 16 30 1 0 0 0) { g := [(1, 0x40000)] }) ∧
    memReserved (mf 16 30 1 0 0 0) false = false ∧
    (eng 511 (issuing 511 .clean (loaded 511 (mf 16 30 1 0 0 0) { g := [(1, 0x40000)] }))).bank = 0 ∧
    (0x40000 ≤ (memForm (eng 511 (issuing 511 .clean (loaded 511 (mf 16 30 1 0 0 0) { g := [(1, 0x40000)] }))) (mf 16 30 1 0 0 0) 0).1.toNat ∨ (memForm (eng 511 (issuing 511 .clean (loaded 511 (mf 16 30 1 0 0 0) { g := [(1, 0x40000)] }))) (mf 16 30 1 0 0 0) 0).1.toNat % 1 ≠ 0 ∨ false = true ∧
    (memForm (eng 511 (issuing 511 .clean (loaded 511 (mf 16 30 1 0 0 0) { g := [(1, 0x40000)] }))) (mf 16 30 1 0 0 0) 0).1.toNat < 0x10000)) ∧
  ((Instr.ldBu 511 (mf 17 30 1 0 0 0) .clean).wf = true ∧
    Free 511 (mf 17 30 1 0 0 0) .clean (memRegs (mf 17 30 1 0 0 0) false) (loaded 511 (mf 17 30 1 0 0 0) { g := [(1, 0x40000)] }) ∧
    memReserved (mf 17 30 1 0 0 0) false = false ∧
    (eng 511 (issuing 511 .clean (loaded 511 (mf 17 30 1 0 0 0) { g := [(1, 0x40000)] }))).bank = 0 ∧
    (0x40000 ≤ (memForm (eng 511 (issuing 511 .clean (loaded 511 (mf 17 30 1 0 0 0) { g := [(1, 0x40000)] }))) (mf 17 30 1 0 0 0) 0).1.toNat ∨ (memForm (eng 511 (issuing 511 .clean (loaded 511 (mf 17 30 1 0 0 0) { g := [(1, 0x40000)] }))) (mf 17 30 1 0 0 0) 0).1.toNat % 1 ≠ 0 ∨ false = true ∧
    (memForm (eng 511 (issuing 511 .clean (loaded 511 (mf 17 30 1 0 0 0) { g := [(1, 0x40000)] }))) (mf 17 30 1 0 0 0) 0).1.toNat < 0x10000)) ∧
  ((Instr.ldH 511 (mf 18 30 1 0 0 0) .clean).wf = true ∧
    Free 511 (mf 18 30 1 0 0 0) .clean (memRegs (mf 18 30 1 0 0 0) false) (loaded 511 (mf 18 30 1 0 0 0) { g := [(1, 0x40000)] }) ∧
    memReserved (mf 18 30 1 0 0 0) false = false ∧
    (eng 511 (issuing 511 .clean (loaded 511 (mf 18 30 1 0 0 0) { g := [(1, 0x40000)] }))).bank = 0 ∧
    (0x40000 ≤ (memForm (eng 511 (issuing 511 .clean (loaded 511 (mf 18 30 1 0 0 0) { g := [(1, 0x40000)] }))) (mf 18 30 1 0 0 0) 1).1.toNat ∨ (memForm (eng 511 (issuing 511 .clean (loaded 511 (mf 18 30 1 0 0 0) { g := [(1, 0x40000)] }))) (mf 18 30 1 0 0 0) 1).1.toNat % 2 ≠ 0 ∨ false = true ∧
    (memForm (eng 511 (issuing 511 .clean (loaded 511 (mf 18 30 1 0 0 0) { g := [(1, 0x40000)] }))) (mf 18 30 1 0 0 0) 1).1.toNat < 0x10000)) ∧
  ((Instr.ldH 511 (mf 18 30 1 0 0 0) .clean).wf = true ∧
    Free 511 (mf 18 30 1 0 0 0) .clean (memRegs (mf 18 30 1 0 0 0) false) (loaded 511 (mf 18 30 1 0 0 0) { g := [(1, 0x3ffff)] }) ∧
    memReserved (mf 18 30 1 0 0 0) false = false ∧
    (eng 511 (issuing 511 .clean (loaded 511 (mf 18 30 1 0 0 0) { g := [(1, 0x3ffff)] }))).bank = 0 ∧
    (0x40000 ≤ (memForm (eng 511 (issuing 511 .clean (loaded 511 (mf 18 30 1 0 0 0) { g := [(1, 0x3ffff)] }))) (mf 18 30 1 0 0 0) 1).1.toNat ∨ (memForm (eng 511 (issuing 511 .clean (loaded 511 (mf 18 30 1 0 0 0) { g := [(1, 0x3ffff)] }))) (mf 18 30 1 0 0 0) 1).1.toNat % 2 ≠ 0 ∨ false = true ∧
    (memForm (eng 511 (issuing 511 .clean (loaded 511 (mf 18 30 1 0 0 0) { g := [(1, 0x3ffff)] }))) (mf 18 30 1 0 0 0) 1).1.toNat < 0x10000)) ∧
  ((Instr.ldHu 511 (mf 19 30 1 0 0 0) .clean).wf = true ∧
    Free 511 (mf 19 30 1 0 0 0) .clean (memRegs (mf 19 30 1 0 0 0) false) (loaded 511 (mf 19 30 1 0 0 0) { g := [(1, 0x40000)] }) ∧
    memReserved (mf 19 30 1 0 0 0) false = false ∧
    (eng 511 (issuing 511 .clean (loaded 511 (mf 19 30 1 0 0 0) { g := [(1, 0x40000)] }))).bank = 0 ∧
    (0x40000 ≤ (memForm (eng 511 (issuing 511 .clean (loaded 511 (mf 19 30 1 0 0 0) { g := [(1, 0x40000)] }))) (mf 19 30 1 0 0 0) 1).1.toNat ∨ (memForm (eng 511 (issuing 511 .clean (loaded 511 (mf 19 30 1 0 0 0) { g := [(1, 0x40000)] }))) (mf 19 30 1 0 0 0) 1).1.toNat % 2 ≠ 0 ∨ false = true ∧
    (memForm (eng 511 (issuing 511 .clean (loaded 511 (mf 19 30 1 0 0 0) { g := [(1, 0x40000)] }))) (mf 19 30 1 0 0 0) 1).1.toNat < 0x10000)) ∧
  ((Instr.ldHu 511 (mf 19 30 1 0 0 0) .clean).wf = true ∧
    Free 511 (mf 19 30 1 0 0 0) .clean (memRegs (mf 19 30 1 0 0 0) false) (loaded 511 (mf 19 30 1 0 0 0) { g := [(1, 0x3ffff)] }) ∧
    memReserved (mf 19 30 1 0 0 0) false = false ∧
    (eng 511 (issuing 511 .clean (loaded 511 (mf 19 30 1 0 0 0) { g := [(1, 0x3ffff)] }))).bank = 0 ∧
    (0x40000 ≤ (memForm (eng 511 (issuing 511 .clean (loaded 511 (mf 19 30 1 0 0 0) { g := [(1, 0x3ffff)] }))) (mf 19 30 1 0 0 0) 1).1.toNat ∨ (memForm (eng 511 (issuing 511 .clean (loaded 511 (mf 19 30 1 0 0 0) { g := [(1, 0x3ffff)] }))) (mf 19 30 1 0 0 0) 1).1.toNat % 2 ≠ 0 ∨ false = true ∧
    (memForm (eng 511 (issuing 511 .clean (loaded 511 (mf 19 30 1 0 0 0) { g := [(1, 0x3ffff)] }))) (mf 19 30 1 0 0 0) 1).1.toNat < 0x10000)) ∧
  ((Instr.ldW 511 (mf 20 30 1 0 0 0) .clean).wf = true ∧
    Free 511 (mf 20 30 1 0 0 0) .clean (memRegs (mf 20 30 1 0 0 0) false) (loaded 511 (mf 20 30 1 0 0 0) { g := [(1, 0x40000)] }) ∧
    memReserved (mf 20 30 1 0 0 0) false = false ∧
    (eng 511 (issuing 511 .clean (loaded 511 (mf 20 30 1 0 0 0) { g := [(1, 0x40000)] }))).bank = 0 ∧
    (0x40000 ≤ (memForm (eng 511 (issuing 511 .clean (loaded 511 (mf 20 30 1 0 0 0) { g := [(1, 0x40000)] }))) (mf 20 30 1 0 0 0) 2).1.toNat ∨ (memForm (eng 511 (issuing 511 .clean (loaded 511 (mf 20 30 1 0 0 0) { g := [(1, 0x40000)] }))) (mf 20 30 1 0 0 0) 2).1.toNat % 4 ≠ 0 ∨ false = true ∧
    (memForm (eng 511 (issuing 511 .clean (loaded 511 (mf 20 30 1 0 0 0) { g := [(1, 0x40000)] }))) (mf 20 30 1 0 0 0) 2).1.toNat < 0x10000)) ∧
  ((Instr.ldW 511 (mf 20 30 1 0 0 0) .clean).wf = true ∧
    Free 511 (mf 20 30 1 0 0 0) .clean (memRegs (mf 20 30 1 0 0 0) false) (loaded 511 (mf 20 30 1 0 0 0) { g := [(1, 0x3ffff)] }) ∧
    memReserved (mf 20 30 1 0 0 0) false = false ∧
    (eng 511 (issuing 511 .clean (loaded 511 (mf 20 30 1 0 0 0) { g := [(1, 0x3ffff)] }))).bank = 0 ∧
    (0x40000 ≤ (memForm (eng 511 (issuing 511 .clean (loaded 511 (mf 20 30 1 0 0 0) { g := [(1, 0x3ffff)] }))) (mf 20 30 1 0 0 0) 2).1.toNat ∨ (memForm (eng 511 (issuing 511 .clean (loaded 511 (mf 20 30 1 0 0 0) { g := [(1, 0x3ffff)] }))) (mf 20 30 1 0 0 0) 2).1.toNat % 4 ≠ 0 ∨ false = true ∧
    (memForm (eng 511 (issuing 511 .clean (loaded 511 (mf 20 30 1 0 0 0) { g := [(1, 0x3ffff)] }))) (mf 20 30 1 0 0 0) 2).1.toNat < 0x10000)) ∧
  ((Instr.ldD 511 (mf 21 30 1 0 0 0) .clean).wf = true ∧
    Free 511 (mf 21 30 1 0 0 0) .clean (memRegs (mf 21 30 1 0 0 0) true) (loaded 511 (mf 21 30 1 0 0 0) { g := [(1, 0x40000)] }) ∧
    memReserved (mf 21 30 1 0 0 0) true = false ∧
    (eng 511 (issuing 511 .clean (loaded 511 (mf 21 30 1 0 0 0) { g := [(1, 0x40000)] }))).bank = 0 ∧
    (0x40000 ≤ (memForm (eng 511 (issuing 511 .clean (loaded 511 (mf 21 30 1 0 0 0) { g := [(1, 0x40000)] }))) (mf 21 30 1 0 0 0) 3).1.toNat ∨ (memForm (eng 511 (issuing 511 .clean (loaded 511 (mf 21 30 1 0 0 0) { g := [(1, 0x40000)] }))) (mf 21 30 1 0 0 0) 3).1.toNat % 8 ≠ 0 ∨ false = true ∧
    (memForm (eng 511 (issuing 511 .clean (loaded 511 (mf 21 30 1 0 0 0) { g := [(1, 0x40000)] }))) (mf 21 30 1 0 0 0) 3).1.toNat < 0x10000)) ∧
  ((Instr.ldD 511 (mf 21 30 1 0 0 0) .clean).wf = true ∧
    Free 511 (mf 21 30 1 0 0 0) .clean (memRegs (mf 21 30 1 0 0 0) true) (loaded 511 (mf 21 30 1 0 0 0) { g := [(1, 0x3ffff)] }) ∧
    memReserved (mf 21 30 1 0 0 0) true = false ∧
    (eng 511 (issuing 511 .clean (loaded 511 (mf 21 30 1 0 0 0) { g := [(1, 0x3ffff)] }))).bank = 0 ∧
    (0x40000 ≤ (memForm (eng 511 (issuing 511 .clean (loaded 511 (mf 21 30 1 0 0 0) { g := [(1, 0x3ffff)] }))) (mf 21 30 1 0 0 0) 3).1.toNat ∨ (memForm (eng 511 (issuing 511 .clean (loaded 511 (mf 21 30 1 0 0 0) { g := [(1, 0x3ffff)] }))) (mf 21 30 1 0 0 0) 3).1.toNat % 8 ≠ 0 ∨ false = true ∧
    (memForm (eng 511 (issuing 511 .clean (loaded 511 (mf 21 30 1 0 0 0) { g := [(1, 0x3ffff)] }))) (mf 21 30 1 0 0 0) 3).1.toNat < 0x10000)) ∧
  ((Instr.stB 511 (mf 24 30 1 0 0 0) .clean).wf = true ∧
    Free 511 (mf 24 30 1 0 0 0) .clean (memRegs (mf 24 30 1 0 0 0) false) (loaded 511 (mf 24 30 1 0 0 0) { g := [(1, 0x40000)] }) ∧
    memReserved (mf 24 30 1 0 0 0) false = false ∧
    (eng 511 (issuing 511 .clean (loaded 511 (mf 24 30 1 0 0 0) { g := [(1, 0x40000)] }))).bank = 0 ∧
    (0x40000 ≤ (memForm (eng 511 (issuing 511 .clean (loaded 511 (mf 24 30 1 0 0 0) { g := [(1, 0x40000)] }))) (mf 24 30 1 0 0 0) 0).1.toNat ∨ (memForm (eng 511 (issuing 511 .clean (loaded 511 (mf 24 30 1 0 0 0) { g := [(1, 0x40000)] }))) (mf 24 30 1 0 0 0) 0).1.toNat % 1 ≠ 0 ∨ true = true ∧
    (memForm (eng 511 (issuing 511 .clean (loaded 511 (mf 24 30 1 0 0 0) { g := [(1, 0x40000)] }))) (mf 24 30 1 0 0 0) 0).1.toNat < 0x10000)) ∧
  ((Instr.stB 511 (mf 24 30 1 0 0 0) .clean).wf = true ∧
    Free 511 (mf 24 30 1 0 0 0) .clean (memRegs (mf 24 30 1 0 0 0) false) (loaded 511 (mf 24 30 1 0 0 0) { g := [(1, 0xffff)] }) ∧
    memReserved (mf 24 30 1 0 0 0) false = false ∧
    (eng 511 (issuing 511 .clean (loaded 511 (mf 24 30 1 0 0 0) { g := [(1, 0xffff)] }))).bank = 0 ∧
    (0x40000 ≤ (memForm (eng 511 (issuing 511 .clean (loaded 511 (mf 24 30 1 0 0 0) { g := [(1, 0xffff)] }))) (mf 24 30 1 0 0 0) 0).1.toNat ∨ (memForm (eng 511 (issuing 511 .clean (loaded 511 (mf 24 30 1 0 0 0) { g := [(1, 0xffff)] }))) (mf 24 30 1 0 0 0) 0).1.toNat % 1 ≠ 0 ∨ true = true ∧
    (memForm (eng 511 (issuing 511 .clean (loaded 511 (mf 24 30 1 0 0 0) { g := [(1, 0xffff)] }))) (mf 24 30 1 0 0 0) 0).1.toNat < 0x10000)) ∧
  ((Instr.stH 511 (mf 25 30 1 0 0 0) .clean).wf = true ∧
    Free 511 (mf 25 30 1 0 0 0) .clean (memRegs (mf 25 30 1 0 0 0) false) (loaded 511 (mf 25 30 1 0 0 0) { g := [(1, 0x40000)] }) ∧
    memReserved (mf 25 30 1 0 0 0) false = false ∧
    (eng 511 (issuing 511 .clean (loaded 511 (mf 25 30 1 0 0 0) { g := [(1, 0x40000)] }))).bank = 0 ∧
    (0x40000 ≤ (memForm (eng 511 (issuing 511 .clean (loaded 511 (mf 25 30 1 0 0 0) { g := [(1, 0x40000)] }))) (mf 25 30 1 0 0 0) 1).1.toNat ∨ (memForm (eng 511 (issuing 511 .clean (loaded 511 (mf 25 30 1 0 0 0) { g := [(1, 0x40000)] }))) (mf 25 30 1 0 0 0) 1).1.toNat % 2 ≠ 0 ∨ true = true ∧
    (memForm (eng 511 (issuing 511 .clean (loaded 511 (mf 25 30 1 0 0 0) { g := [(1, 0x40000)] }))) (mf 25 30 1 0 0 0) 1).1.toNat < 0x10000)) ∧
  ((Instr.stH 511 (mf 25 30 1 0 0 0) .clean).wf = true ∧
    Free 511 (mf 25 30 1 0 0 0) .clean (memRegs (mf 25 30 1 0 0 0) false) (loaded 511 (mf 25 30 1 0 0 0) { g := [(1, 0x3ffff)] }) ∧
    memReserved (mf 25 30 1 0 0 0) false = false ∧
    (eng 511 (issuing 511 .clean (loaded 511 (mf 25 30 1 0 0 0) { g := [(1, 0x3ffff)] }))).bank = 0 ∧
    (0x40000 ≤ (memForm (eng 511 (issuing 511 .clean (loaded 511 (mf 25 30 1 0 0 0) { g := [(1, 0x3ffff)] }))) (mf 25 30 1 0 0 0) 1).1.toNat ∨ (memForm (eng 511 (issuing 511 .clean (loaded 511 (mf 25 30 1 0 0 0) { g := [(1, 0x3ffff)] }))) (mf 25 30 1 0 0 0) 1).1.toNat % 2 ≠ 0 ∨ true = true ∧
    (memForm (eng 511 (issuing 511 .clean (loaded 511 (mf 25 30 1 0 0 0) { g := [(1, 0x3ffff)] }))) (mf 25 30 1 0 0 0) 1).1.toNat < 0x10000)) ∧
  ((Instr.stH 511 (mf 25 30 1 0 0 0) .clean).wf = true ∧
    Free 511 (mf 25 30 1 0 0 0) .clean (memRegs (mf 25 30 1 0 0 0) false) (loaded 511 (mf 25 30 1 0 0 0) { g := [(1, 0xfffe)] }) ∧
    memReserved (mf 25 30 1 0 0 0) false = false ∧
    (eng 511 (issuing 511 .clean (loaded 511 (mf 25 30 1 0 0 0) { g := [(1, 0xfffe)] }))).bank = 0 ∧
    (0x40000 ≤ (memForm (eng 511 (issuing 511 .clean (loaded 511 (mf 25 30 1 0 0 0) { g := [(1, 0xfffe)] }))) (mf 25 30 1 0 0 0) 1).1.toNat ∨ (memForm (eng 511 (issuing 511 .clean (loaded 511 (mf 25 30 1 0 0 0) { g := [(1, 0xfffe)] }))) (mf 25 30 1 0 0 0) 1).1.toNat % 2 ≠ 0 ∨ true = true ∧
    (memForm (eng 511 (issuing 511 .clean (loaded 511 (mf 25 30 1 0 0 0) { g := [(1, 0xfffe)] }))) (mf 25 30 1 0 0 0) 1).1.toNat < 0x10000)) ∧
  ((Instr.stW 511 (mf 26 30 1 0 0 0)).wf = true ∧
    Free 511 (mf 26 30 1 0 0 0) .clean (memRegs (mf 26 30 1 0 0 0) false) (loaded 511 (mf 26 30 1 0 0 0) { g := [(1, 0x40000)] }) ∧
    memReserved (mf 26 30 1 0 0 0) false = false ∧
    (eng 511 (issuing 511 .clean (loaded 511 (mf 26 30 1 0 0 0) { g := [(1, 0x40000)] }))).bank = 0 ∧
    (0x40000 ≤ (memForm (eng 511 (issuing 511 .clean (loaded 511 (mf 26 30 1 0 0 0) { g := [(1, 0x40000)] }))) (mf 26 30 1 0 0 0) 2).1.toNat ∨ (memForm (eng 511 (issuing 511 .clean (loaded 511 (mf 26 30 1 0 0 0) { g := [(1, 0x40000)] }))) (mf 26 30 1 0 0 0) 2).1.toNat % 4 ≠ 0 ∨ true = true ∧
    (memForm (eng 511 (issuing 511 .clean (loaded 511 (mf 26 30 1 0 0 0) { g := [(1, 0x40000)] }))) (mf 26 30 1 0 0 0) 2).1.toNat < 0x10000)) ∧
  ((Instr.stW 511 (mf 26 30 1 0 0 0)).wf = true ∧
    Free 511 (mf 26 30 1 0 0 0) .clean (memRegs (mf 26 30 1 0 0 0) false) (loaded 511 (mf 26 30 1 0 0 0) { g := [(1, 0x3ffff)] }) ∧
    memReserved (mf 26 30 1 0 0 0) false = false ∧
    (eng 511 (issuing 511 .clean (loaded 511 (mf 26 30 1 0 0 0) { g := [(1, 0x3ffff)] }))).bank = 0 ∧
    (0x40000 ≤ (memForm (eng 511 (issuing 511 .clean (loaded 511 (mf 26 30 1 0 0 0) { g := [(1, 0x3ffff)] }))) (mf 26 30 1 0 0 0) 2).1.toNat ∨ (memForm (eng 511 (issuing 511 .clean (loaded 511 (mf 26 30 1 0 0 0) { g := [(1, 0x3ffff)] }))) (mf 26 30 1 0 0 0) 2).1.toNat % 4 ≠ 0 ∨ true = true ∧
    (memForm (eng 511 (issuing 511 .clean (loaded 511 (mf 26 30 1 0 0 0) { g := [(1, 0x3ffff)] }))) (mf 26 30 1 0 0 0) 2).1.toNat < 0x10000)) ∧
  ((Instr.stW 511 (mf 26 30 1 0 0 0)).wf = true ∧
    Free 511 (mf 26 30 1 0 0 0) .clean (memRegs (mf 26 30 1 0 0 0) false) (loaded 511 (mf 26 30 1 0 0 0) { g := [(1, 0xfffc)] }) ∧
    memReserved (mf 26 30 1 0 0 0) false = false ∧
    (eng 511 (issuing 511 .clean (loaded 511 (mf 26 30 1 0 0 0) { g := [(1, 0xfffc)] }))).bank = 0 ∧
    (0x40000 ≤ (memForm (eng 511 (issuing 511 .clean (loaded 511 (mf 26 30 1 0 0 0) { g := [(1, 0xfffc)] }))) (mf 26 30 1 0 0 0) 2).1.toNat ∨ (memForm (eng 511 (issuing 511 .clean (loaded 511 (mf 26 30 1 0 0 0) { g := [(1, 0xfffc)] }))) (mf 26 30 1 0 0 0) 2).1.toNat % 4 ≠ 0 ∨ true = true ∧
    (memForm (eng 511 (issuing 511 .clean (loaded 511 (mf 26 30 1 0 0 0) { g := [(1, 0xfffc)] }))) (mf 26 30 1 0 0 0) 2).1.toNat < 0x10000)) ∧
  ((Instr.stD 511 (mf 27 30 1 0 0 0)).wf = true ∧
    Free 511 (mf 27 30 1 0 0 0) .clean (memRegs (mf 27 30 1 0 0 0) true) (loaded 511 (mf 27 30 1 0 0 0) { g := [(1, 0x40000)] }) ∧
    memReserved (mf 27 30 1 0 0 0) true = false ∧
    (eng 511 (issuing 511 .clean (loaded 511 (mf 27 30 1 0 0 0) { g := [(1, 0x40000)] }))).bank = 0 ∧
    (0x40000 ≤ (memForm (eng 511 (issuing 511 .clean (loaded 511 (mf 27 30 1 0 0 0) { g := [(1, 0x40000)] }))) (mf 27 30 1 0 0 0) 3).1.toNat ∨ (memForm (eng 511 (issuing 511 .clean (loaded 511 (mf 27 30 1 0 0 0) { g := [(1, 0x40000)] }))) (mf 27 30 1 0 0 0) 3).1.toNat % 8 ≠ 0 ∨ true = true ∧
    (memForm (eng 511 (issuing 511 .clean (loaded 511 (mf 27 30 1 0 0 0) { g := [(1, 0x40000)] }))) (mf 27 30 1 0 0 0) 3).1.toNat < 0x10000)) ∧
  ((Instr.stD 511 (mf 27 30 1 0 0 0)).wf = true ∧
    Free 511 (mf 27 30 1 0 0 0) .clean (memRegs (mf 27 30 1 0 0 0) true) (loaded 511 (mf 27 30 1 0 0 0) { g := [(1, 0x3ffff)] }) ∧
    memReserved (mf 27 30 1 0 0 0) true = false ∧
    (eng 511 (issuing 511 .clean (loaded 511 (mf 27 30 1 0 0 0) { g := [(1, 0x3ffff)] }))).bank = 0 ∧
    (0x40000 ≤ (memForm (eng 511 (issuing 511 .clean (loaded 511 (mf 27 30 1 0 0 0) { g := [(1, 0x3ffff)] }))) (mf 27 30 1 0 0 0) 3).1.toNat ∨ (memForm (eng 511 (issuing 511 .clean (loaded 511 (mf 27 30 1 0 0 0) { g := [(1, 0x3ffff)] }))) (mf 27 30 1 0 0 0) 3).1.toNat % 8 ≠ 0 ∨ true = true ∧
    (memForm (eng 511 (issuing 511 .clean (loaded 511 (mf 27 30 1 0 0 0) { g := [(1, 0x3ffff)] }))) (mf 27 30 1 0 0 0) 3).1.toNat < 0x10000)) ∧
  ((Instr.stD 511 (mf 27 30 1 0 0 0)).wf = true ∧
    Free 511 (mf 27 30 1 0 0 0) .clean (memRegs (mf 27 30 1 0 0 0) true) (loaded 511 (mf 27 30 1 0 0 0) { g := [(1, 0xfff8)] }) ∧
    memReserved (mf 27 30 1 0 0 0) true = false ∧
    (eng 511 (issuing 511 .clean (loaded 511 (mf 27 30 1 0 0 0) { g := [(1, 0xfff8)] }))).bank = 0 ∧
    (0x40000 ≤ (memForm (eng 511 (issuing 511 .clean (loaded 511 (mf 27 30 1 0 0 0) { g := [(1, 0xfff8)] }))) (mf 27 30 1 0 0 0) 3).1.toNat ∨ (memForm (eng 511 (issuing 511 .clean (loaded 511 (mf 27 30 1 0 0 0) { g := [(1, 0xfff8)] }))) (mf 27 30 1 0 0 0) 3).1.toNat % 8 ≠ 0 ∨ true = true ∧
    (memForm (eng 511 (issuing 511 .clean (loaded 511 (mf 27 30 1 0 0 0) { g := [(1, 0xfff8)] }))) (mf 27 30 1 0 0 0) 3).1.toNat < 0x10000)) := by
  with_reducible and_intros
  all_goals
    first
    | decide +kernel
    | (unfold Free Running Ready; decide +kernel)

/-- Concrete inputs meet the hypotheses of FarAccessIssue, clause by clause. -/
theorem witness_FarAccessIssue :
  ((Instr.ldf 511 (ff 28 30 15 0 0)).wf = true ∧
    Free 511 (ff 28 30 15 0 0) .clean (farRegs (ff 28 30 15 0 0)) (loaded 511 (ff 28 30 15 0 0) { g := [(30, 8), (31, 0x1000)] }) ∧
    farReserved (ff 28 30 15 0 0) = false ∧
    ((eng 511 (issuing 511 .clean (loaded 511 (ff 28 30 15 0 0) { g := [(30, 8), (31, 0x1000)] }))).gr (2 * fieldOf (ff 28 30 15 0 0) 20 17)).toNat % (if fieldOf (ff 28 30 15 0 0) 15 15 = 1 then 8 else 4) = 0 ∧
    (eng 511 (issuing 511 .clean (loaded 511 (ff 28 30 15 0 0) { g := [(30, 8), (31, 0x1000)] }))).far.length < 16) ∧
  ((Instr.ldf 511 (ff 28 30 15 0 1)).wf = true ∧
    Free 511 (ff 28 30 15 0 1) .clean (farRegs (ff 28 30 15 0 1)) (loaded 511 (ff 28 30 15 0 1) { g := [(30, 8), (31, 0x1000)] }) ∧
    farReserved (ff 28 30 15 0 1) = false ∧
    ((eng 511 (issuing 511 .clean (loaded 511 (ff 28 30 15 0 1) { g := [(30, 8), (31, 0x1000)] }))).gr (2 * fieldOf (ff 28 30 15 0 1) 20 17)).toNat % (if fieldOf (ff 28 30 15 0 1) 15 15 = 1 then 8 else 4) = 0 ∧
    (eng 511 (issuing 511 .clean (loaded 511 (ff 28 30 15 0 1) { g := [(30, 8), (31, 0x1000)] }))).far.length < 16) ∧
  ((Instr.stf 511 (ff 29 30 15 0 1)).wf = true ∧
    Free 511 (ff 29 30 15 0 1) .clean (farRegs (ff 29 30 15 0 1)) (loaded 511 (ff 29 30 15 0 1) { g := [(30, 8), (31, 0x1000)] }) ∧
    farReserved (ff 29 30 15 0 1) = false ∧
    ((eng 511 (issuing 511 .clean (loaded 511 (ff 29 30 15 0 1) { g := [(30, 8), (31, 0x1000)] }))).gr (2 * fieldOf (ff 29 30 15 0 1) 20 17)).toNat % (if fieldOf (ff 29 30 15 0 1) 15 15 = 1 then 8 else 4) = 0 ∧
    (eng 511 (issuing 511 .clean (loaded 511 (ff 29 30 15 0 1) { g := [(30, 8), (31, 0x1000)] }))).stq.length < 32) ∧
  ((Instr.stfAck 511 (ff 30 30 15 0 0)).wf = true ∧
    Free 511 (ff 30 30 15 0 0) .clean (farRegs (ff 30 30 15 0 0)) (loaded 511 (ff 30 30 15 0 0) { g := [(30, 8), (31, 0x1000)] }) ∧
    farReserved (ff 30 30 15 0 0) = false ∧
    ((eng 511 (issuing 511 .clean (loaded 511 (ff 30 30 15 0 0) { g := [(30, 8), (31, 0x1000)] }))).gr (2 * fieldOf (ff 30 30 15 0 0) 20 17)).toNat % (if fieldOf (ff 30 30 15 0 0) 15 15 = 1 then 8 else 4) = 0 ∧
    (eng 511 (issuing 511 .clean (loaded 511 (ff 30 30 15 0 0) { g := [(30, 8), (31, 0x1000)] }))).far.length < 16) ∧
  ((Instr.fencef 0 (sf 4 0 0)).wf = true ∧ Free 0 (sf 4 0 0) .clean [] (loaded 0 (sf 4 0 0)) ∧ fieldOf (sf 4 0 0) 20 0 = 0 ∧
    (eng 0 (issuing 0 .clean (loaded 0 (sf 4 0 0)))).far = [] ∧ (eng 0 (issuing 0 .clean (loaded 0 (sf 4 0 0)))).stq = [] ∧
    unaccepted (.eng 0) useStf (issuing 0 .clean (loaded 0 (sf 4 0 0))) = false) ∧
  ((Instr.fencef 0 (sf 4 0 0)).wf = true ∧
    Free 0 (sf 4 0 0) .clean [] (loaded 0 (sf 4 0 0) { stq := [⟨0x10000000, [1, 2, 3, 4], false⟩] }) ∧ fieldOf (sf 4 0 0) 20 0 = 0 ∧
    (eng 0 (issuing 0 .clean (loaded 0 (sf 4 0 0) { stq := [⟨0x10000000, [1, 2, 3, 4], false⟩] }))).stq ≠ []) ∧
  (Running (runs 0 { stq := [⟨0x10000000, [1, 2, 3, 4], false⟩] }) ∧
    (eng 0 (runs 0 { stq := [⟨0x10000000, [1, 2, 3, 4], false⟩] })).stq = ⟨0x10000000, [1, 2, 3, 4], false⟩ :: [] ∧
    originCode (srcOf (.eng 0) (runs 0 { stq := [⟨0x10000000, [1, 2, 3, 4], false⟩] })) 2 0x10000000 (.write [1, 2, 3, 4]) (runs 0 { stq := [⟨0x10000000, [1, 2, 3, 4], false⟩] }) = none) := by
  with_reducible and_intros
  all_goals
    first
    | decide +kernel
    | (unfold Running; decide +kernel)
    | (unfold Free Running Ready; decide +kernel)

/-- Concrete inputs meet the hypotheses of FarResponseLands, clause by clause. -/
theorem witness_FarResponseLands :
  (Running (flying [pkt 9 (.eng 511) useFar (.read 4) .served 0x10000000 (some (0, [1, 2, 3, 4]))] (runs 511 { far := [⟨9, [31], 0, 0x10000000⟩] })) ∧
    txnOf 9 (flying [pkt 9 (.eng 511) useFar (.read 4) .served 0x10000000 (some (0, [1, 2, 3, 4]))] (runs 511 { far := [⟨9, [31], 0, 0x10000000⟩] })) = some (pkt 9 (.eng 511) useFar (.read 4) .served 0x10000000 (some (0, [1, 2, 3, 4]))) ∧
    (eng 511 (flying [pkt 9 (.eng 511) useFar (.read 4) .served 0x10000000 (some (0, [1, 2, 3, 4]))] (runs 511 { far := [⟨9, [31], 0, 0x10000000⟩] }))).far.find? (fun y => y.id == 9) = some ⟨9, [31], 0, 0x10000000⟩) ∧
  (Running (flying [pkt 9 (.eng 511) useFar (.read 4) .served 0x10000000 (some (7, [1, 2, 3, 4]))] (runs 511 { far := [⟨9, [31], 0, 0x10000000⟩] })) ∧
    txnOf 9 (flying [pkt 9 (.eng 511) useFar (.read 4) .served 0x10000000 (some (7, [1, 2, 3, 4]))] (runs 511 { far := [⟨9, [31], 0, 0x10000000⟩] })) = some (pkt 9 (.eng 511) useFar (.read 4) .served 0x10000000 (some (7, [1, 2, 3, 4]))) ∧
    (eng 511 (flying [pkt 9 (.eng 511) useFar (.read 4) .served 0x10000000 (some (7, [1, 2, 3, 4]))] (runs 511 { far := [⟨9, [31], 0, 0x10000000⟩] }))).far.find? (fun y => y.id == 9) = some ⟨9, [31], 0, 0x10000000⟩) := by
  with_reducible and_intros
  all_goals
    first
    | decide +kernel
    | (unfold Running; decide +kernel)

/-- Concrete inputs meet the hypotheses of ControlTransfers, clause by clause. -/
theorem witness_ControlTransfers :
  ((eng 511 (issuing 511 .clean (loaded 511 (word [(26, 32), (21, 0), (0, 32768)]) { pc := 0xFFFC, g := [(31, 0xFFFFFFFC)] }))).rem = 0 ∧
    (Instr.b 511 (word [(26, 32), (21, 0), (0, 32768)])).wf = true ∧
    Free 511 (word [(26, 32), (21, 0), (0, 32768)]) .clean [] (loaded 511 (word [(26, 32), (21, 0), (0, 32768)]) { pc := 0xFFFC, g := [(31, 0xFFFFFFFC)] }) ∧
    fieldOf (word [(26, 32), (21, 0), (0, 32768)]) 25 16 = 0) ∧
  ((eng 511 (issuing 511 .clean (loaded 511 (word [(26, 33), (21, 31), (0, 32767)]) { pc := 0xFFFC, g := [(31, 0xFFFFFFFC)] }))).rem = 0 ∧
    (Instr.bz 511 (word [(26, 33), (21, 31), (0, 32767)])).wf = true ∧
    Free 511 (word [(26, 33), (21, 31), (0, 32767)]) .clean [fieldOf (word [(26, 33), (21, 31), (0, 32767)]) 25 21] (loaded 511 (word [(26, 33), (21, 31), (0, 32767)]) { pc := 0xFFFC, g := [(31, 0xFFFFFFFC)] }) ∧
    fieldOf (word [(26, 33), (21, 31), (0, 32767)]) 20 16 = 0) ∧
  ((eng 511 (issuing 511 .clean (loaded 511 (word [(26, 34), (21, 31), (0, 32768)]) { pc := 0xFFFC, g := [(31, 0xFFFFFFFC)] }))).rem = 0 ∧
    (Instr.bnz 511 (word [(26, 34), (21, 31), (0, 32768)])).wf = true ∧
    Free 511 (word [(26, 34), (21, 31), (0, 32768)]) .clean [fieldOf (word [(26, 34), (21, 31), (0, 32768)]) 25 21] (loaded 511 (word [(26, 34), (21, 31), (0, 32768)]) { pc := 0xFFFC, g := [(31, 0xFFFFFFFC)] }) ∧
    fieldOf (word [(26, 34), (21, 31), (0, 32768)]) 20 16 = 0) ∧
  ((eng 511 (issuing 511 .clean (loaded 511 (word [(26, 35), (21, 0), (0, 32768)]) { pc := 0xFFFC, g := [(31, 0xFFFFFFFC)] }))).rem = 0 ∧
    (Instr.bl 511 (word [(26, 35), (21, 0), (0, 32768)])).wf = true ∧
    Free 511 (word [(26, 35), (21, 0), (0, 32768)]) .clean [15] (loaded 511 (word [(26, 35), (21, 0), (0, 32768)]) { pc := 0xFFFC, g := [(31, 0xFFFFFFFC)] }) ∧
    fieldOf (word [(26, 35), (21, 0), (0, 32768)]) 25 16 = 0) ∧
  ((eng 511 (issuing 511 .clean (loaded 511 (word [(26, 36), (21, 31), (0, 0)]) { pc := 0xFFFC, g := [(31, 0xFFFFFFFC)] }))).rem = 0 ∧
    (Instr.jr 511 (word [(26, 36), (21, 31), (0, 0)])).wf = true ∧
    Free 511 (word [(26, 36), (21, 31), (0, 0)]) .clean [fieldOf (word [(26, 36), (21, 31), (0, 0)]) 25 21] (loaded 511 (word [(26, 36), (21, 31), (0, 0)]) { pc := 0xFFFC, g := [(31, 0xFFFFFFFC)] }) ∧
    fieldOf (word [(26, 36), (21, 31), (0, 0)]) 20 0 = 0 ∧
    ((eng 511 (issuing 511 .clean (loaded 511 (word [(26, 36), (21, 31), (0, 0)]) { pc := 0xFFFC, g := [(31, 0xFFFFFFFC)] }))).gr (fieldOf (word [(26, 36), (21, 31), (0, 0)]) 25 21)).toNat % 4 = 0) ∧
  ((eng 511 (issuing 511 .clean (loaded 511 (word [(26, 37), (21, 31), (0, 0)]) { pc := 0xFFFC, g := [(31, 0xFFFFFFFC)] }))).rem = 0 ∧
    (Instr.jal 511 (word [(26, 37), (21, 31), (0, 0)])).wf = true ∧
    Free 511 (word [(26, 37), (21, 31), (0, 0)]) .clean [fieldOf (word [(26, 37), (21, 31), (0, 0)]) 25 21, 15] (loaded 511 (word [(26, 37), (21, 31), (0, 0)]) { pc := 0xFFFC, g := [(31, 0xFFFFFFFC)] }) ∧
    fieldOf (word [(26, 37), (21, 31), (0, 0)]) 20 0 = 0 ∧
    ((eng 511 (issuing 511 .clean (loaded 511 (word [(26, 37), (21, 31), (0, 0)]) { pc := 0xFFFC, g := [(31, 0xFFFFFFFC)] }))).gr (fieldOf (word [(26, 37), (21, 31), (0, 0)]) 25 21)).toNat % 4 = 0) ∧
  ((eng 511 (issuing 511 .clean (loaded 511 (word [(26, 36), (21, 31), (0, 0)]) { pc := 0xFFFC, g := [(31, 0xFFFFFFFF)] }))).rem = 0 ∧
    (Instr.jr 511 (word [(26, 36), (21, 31), (0, 0)])).wf = true ∧
    Free 511 (word [(26, 36), (21, 31), (0, 0)]) .clean [fieldOf (word [(26, 36), (21, 31), (0, 0)]) 25 21] (loaded 511 (word [(26, 36), (21, 31), (0, 0)]) { pc := 0xFFFC, g := [(31, 0xFFFFFFFF)] }) ∧
    ((eng 511 (issuing 511 .clean (loaded 511 (word [(26, 36), (21, 31), (0, 0)]) { pc := 0xFFFC, g := [(31, 0xFFFFFFFF)] }))).gr (fieldOf (word [(26, 36), (21, 31), (0, 0)]) 25 21)).toNat % 4 ≠ 0 ∧
    (eng 511 (issuing 511 .clean (loaded 511 (word [(26, 36), (21, 31), (0, 0)]) { pc := 0xFFFC, g := [(31, 0xFFFFFFFF)] }))).bank = 0) ∧
  ((eng 511 (issuing 511 .clean (loaded 511 (word [(26, 37), (21, 31), (0, 0)]) { pc := 0xFFFC, g := [(31, 0xFFFFFFFF)] }))).rem = 0 ∧
    (Instr.jal 511 (word [(26, 37), (21, 31), (0, 0)])).wf = true ∧
    Free 511 (word [(26, 37), (21, 31), (0, 0)]) .clean [fieldOf (word [(26, 37), (21, 31), (0, 0)]) 25 21, 15] (loaded 511 (word [(26, 37), (21, 31), (0, 0)]) { pc := 0xFFFC, g := [(31, 0xFFFFFFFF)] }) ∧
    ((eng 511 (issuing 511 .clean (loaded 511 (word [(26, 37), (21, 31), (0, 0)]) { pc := 0xFFFC, g := [(31, 0xFFFFFFFF)] }))).gr (fieldOf (word [(26, 37), (21, 31), (0, 0)]) 25 21)).toNat % 4 ≠ 0 ∧
    (eng 511 (issuing 511 .clean (loaded 511 (word [(26, 37), (21, 31), (0, 0)]) { pc := 0xFFFC, g := [(31, 0xFFFFFFFF)] }))).bank = 0) := by
  with_reducible and_intros
  all_goals
    first
    | decide +kernel
    | (unfold Free Running Ready; decide +kernel)

/-- Concrete inputs meet the hypotheses of RepeatAndSystemResults, clause by clause. -/
theorem witness_RepeatAndSystemResults :
  ((Instr.rpt 0 (word [(26, 48), (19, 63), (0, 0xFFFF)])).wf = true ∧
    Free 0 (word [(26, 48), (19, 63), (0, 0xFFFF)]) .clean (if fieldOf (word [(26, 48), (19, 63), (0, 0xFFFF)]) 25 25 = 1 then [fieldOf (word [(26, 48), (19, 63), (0, 0xFFFF)]) 4 0] else []) (loaded 0 (word [(26, 48), (19, 63), (0, 0xFFFF)])) ∧
    (eng 0 (issuing 0 .clean (loaded 0 (word [(26, 48), (19, 63), (0, 0xFFFF)])))).rem = 0 ∧
    fieldOf (word [(26, 48), (19, 63), (0, 0xFFFF)]) 18 16 = 0 ∧ fieldOf (word [(26, 48), (19, 63), (0, 0xFFFF)]) 25 25 = 0 ∧
    fieldOf (word [(26, 48), (19, 63), (0, 0xFFFF)]) 15 0 + 1 ≤ 65536) ∧
  ((Instr.rpt 0 (word [(26, 48), (25, 1), (0, 31)])).wf = true ∧
    Free 0 (word [(26, 48), (25, 1), (0, 31)]) .clean (if fieldOf (word [(26, 48), (25, 1), (0, 31)]) 25 25 = 1 then [fieldOf (word [(26, 48), (25, 1), (0, 31)]) 4 0] else []) (loaded 0 (word [(26, 48), (25, 1), (0, 31)]) { g := [(31, 65536)] }) ∧
    (eng 0 (issuing 0 .clean (loaded 0 (word [(26, 48), (25, 1), (0, 31)]) { g := [(31, 65536)] }))).rem = 0 ∧
    fieldOf (word [(26, 48), (25, 1), (0, 31)]) 18 16 = 0 ∧ fieldOf (word [(26, 48), (25, 1), (0, 31)]) 25 25 = 1 ∧
    fieldOf (word [(26, 48), (25, 1), (0, 31)]) 15 5 = 0 ∧
    ((eng 0 (issuing 0 .clean (loaded 0 (word [(26, 48), (25, 1), (0, 31)]) { g := [(31, 65536)] }))).gr (fieldOf (word [(26, 48), (25, 1), (0, 31)]) 4 0)).toNat ≤ 65536) ∧
  ((Instr.rpt 0 (word [(26, 48), (25, 1), (0, 31)])).wf = true ∧
    Free 0 (word [(26, 48), (25, 1), (0, 31)]) .clean (if fieldOf (word [(26, 48), (25, 1), (0, 31)]) 25 25 = 1 then [fieldOf (word [(26, 48), (25, 1), (0, 31)]) 4 0] else []) (loaded 0 (word [(26, 48), (25, 1), (0, 31)])) ∧
    (eng 0 (issuing 0 .clean (loaded 0 (word [(26, 48), (25, 1), (0, 31)])))).rem = 0 ∧
    fieldOf (word [(26, 48), (25, 1), (0, 31)]) 18 16 = 0 ∧ fieldOf (word [(26, 48), (25, 1), (0, 31)]) 25 25 = 1 ∧
    fieldOf (word [(26, 48), (25, 1), (0, 31)]) 15 5 = 0 ∧
    ((eng 0 (issuing 0 .clean (loaded 0 (word [(26, 48), (25, 1), (0, 31)])))).gr (fieldOf (word [(26, 48), (25, 1), (0, 31)]) 4 0)).toNat ≤ 65536) ∧
  (Running (runs 0 { rptEnd := true }) ∧ (eng 0 (runs 0 { rptEnd := true })).rptEnd = true) ∧
  ((Instr.wait 0 (sf 0 0 0)).wf = true ∧ Free 0 (sf 0 0 0) .clean [] (loaded 0 (sf 0 0 0) { bank := 0 }) ∧
    (eng 0 (issuing 0 .clean (loaded 0 (sf 0 0 0) { bank := 0 }))).rem = 0 ∧ fieldOf (sf 0 0 0) 20 0 = 0 ∧
    (eng 0 (issuing 0 .clean (loaded 0 (sf 0 0 0) { bank := 0 }))).bank = 0) ∧
  ((Instr.wait 0 (sf 0 0 0)).wf = true ∧ Free 0 (sf 0 0 0) .clean [] (loaded 0 (sf 0 0 0) { bank := 1 }) ∧
    (eng 0 (issuing 0 .clean (loaded 0 (sf 0 0 0) { bank := 1 }))).rem = 0 ∧ fieldOf (sf 0 0 0) 20 0 = 0 ∧
    (eng 0 (issuing 0 .clean (loaded 0 (sf 0 0 0) { bank := 1 }))).bank = 1) ∧
  ((Instr.reti 0 (sf 1 0 0)).wf = true ∧ Free 0 (sf 1 0 0) .clean [31] (loaded 0 (sf 1 0 0) { bank := 1 }) ∧
    (eng 0 (issuing 0 .clean (loaded 0 (sf 1 0 0) { bank := 1 }))).rem = 0 ∧ fieldOf (sf 1 0 0) 20 0 = 0 ∧
    (eng 0 (loaded 0 (sf 1 0 0) { bank := 1 })).bank = 1) ∧
  ((Instr.mfs 511 (sf 5 31 0)).wf = true ∧ Free 511 (sf 5 31 0) .clean [fieldOf (sf 5 31 0) 20 16] (loaded 511 (sf 5 31 0)) ∧
    (fieldOf (sf 5 31 0) 15 0 < 5 ∨ 8 ≤ fieldOf (sf 5 31 0) 15 0 ∧ fieldOf (sf 5 31 0) 15 0 ≤ 16)) ∧
  ((Instr.mfs 511 (sf 5 31 1)).wf = true ∧ Free 511 (sf 5 31 1) .clean [fieldOf (sf 5 31 1) 20 16] (loaded 511 (sf 5 31 1)) ∧
    (fieldOf (sf 5 31 1) 15 0 < 5 ∨ 8 ≤ fieldOf (sf 5 31 1) 15 0 ∧ fieldOf (sf 5 31 1) 15 0 ≤ 16)) ∧
  ((Instr.mfs 511 (sf 5 31 2)).wf = true ∧ Free 511 (sf 5 31 2) .clean [fieldOf (sf 5 31 2) 20 16] (loaded 511 (sf 5 31 2)) ∧
    (fieldOf (sf 5 31 2) 15 0 < 5 ∨ 8 ≤ fieldOf (sf 5 31 2) 15 0 ∧ fieldOf (sf 5 31 2) 15 0 ≤ 16)) ∧
  ((Instr.mfs 511 (sf 5 31 3)).wf = true ∧ Free 511 (sf 5 31 3) .clean [fieldOf (sf 5 31 3) 20 16] (loaded 511 (sf 5 31 3)) ∧
    (fieldOf (sf 5 31 3) 15 0 < 5 ∨ 8 ≤ fieldOf (sf 5 31 3) 15 0 ∧ fieldOf (sf 5 31 3) 15 0 ≤ 16)) ∧
  ((Instr.mfs 511 (sf 5 31 4)).wf = true ∧ Free 511 (sf 5 31 4) .clean [fieldOf (sf 5 31 4) 20 16] (loaded 511 (sf 5 31 4)) ∧
    (fieldOf (sf 5 31 4) 15 0 < 5 ∨ 8 ≤ fieldOf (sf 5 31 4) 15 0 ∧ fieldOf (sf 5 31 4) 15 0 ≤ 16)) ∧
  ((Instr.mfs 511 (sf 5 31 5)).wf = true ∧ Free 511 (sf 5 31 5) .clean [fieldOf (sf 5 31 5) 20 16] (loaded 511 (sf 5 31 5)) ∧
    fieldOf (sf 5 31 5) 15 0 = 5) ∧
  ((Instr.mfs 511 (sf 5 31 8)).wf = true ∧ Free 511 (sf 5 31 8) .clean [fieldOf (sf 5 31 8) 20 16] (loaded 511 (sf 5 31 8)) ∧
    (fieldOf (sf 5 31 8) 15 0 < 5 ∨ 8 ≤ fieldOf (sf 5 31 8) 15 0 ∧ fieldOf (sf 5 31 8) 15 0 ≤ 16)) ∧
  ((Instr.mfs 511 (sf 5 31 15)).wf = true ∧ Free 511 (sf 5 31 15) .clean [fieldOf (sf 5 31 15) 20 16] (loaded 511 (sf 5 31 15)) ∧
    (fieldOf (sf 5 31 15) 15 0 < 5 ∨ 8 ≤ fieldOf (sf 5 31 15) 15 0 ∧ fieldOf (sf 5 31 15) 15 0 ≤ 16)) ∧
  ((Instr.mfs 511 (sf 5 31 16)).wf = true ∧ Free 511 (sf 5 31 16) .clean [fieldOf (sf 5 31 16) 20 16] (loaded 511 (sf 5 31 16)) ∧
    (fieldOf (sf 5 31 16) 15 0 < 5 ∨ 8 ≤ fieldOf (sf 5 31 16) 15 0 ∧ fieldOf (sf 5 31 16) 15 0 ≤ 16)) ∧
  ((Instr.mts 511 (sf 6 31 0)).wf = true ∧
    Free 511 (sf 6 31 0) .clean [fieldOf (sf 6 31 0) 20 16] (loaded 511 (sf 6 31 0) { g := [(31, 0xFFFE0000)] }) ∧
    (fieldOf (sf 6 31 0) 15 0 ≤ 5 ∨ 8 ≤ fieldOf (sf 6 31 0) 15 0 ∧ fieldOf (sf 6 31 0) 15 0 ≤ 16) ∧ fieldOf (sf 6 31 0) 15 0 = 0 ∧
    (eng 511 (issuing 511 .clean (loaded 511 (sf 6 31 0) { g := [(31, 0xFFFE0000)] }))).land = [] ∧
    ((eng 511 (issuing 511 .clean (loaded 511 (sf 6 31 0) { g := [(31, 0xFFFE0000)] }))).gr (fieldOf (sf 6 31 0) 20 16)).toNat % 2 ^ 17 = 0) ∧
  ((Instr.mts 511 (sf 6 31 1)).wf = true ∧
    Free 511 (sf 6 31 1) .clean [fieldOf (sf 6 31 1) 20 16] (loaded 511 (sf 6 31 1) { g := [(31, 0xFFFE0000)] }) ∧
    (fieldOf (sf 6 31 1) 15 0 ≤ 5 ∨ 8 ≤ fieldOf (sf 6 31 1) 15 0 ∧ fieldOf (sf 6 31 1) 15 0 ≤ 16) ∧ fieldOf (sf 6 31 1) 15 0 = 1 ∧
    (eng 511 (issuing 511 .clean (loaded 511 (sf 6 31 1) { g := [(31, 0xFFFE0000)] }))).land = [] ∧
    ((eng 511 (issuing 511 .clean (loaded 511 (sf 6 31 1) { g := [(31, 0xFFFE0000)] }))).gr (fieldOf (sf 6 31 1) 20 16)).toNat % 2 ^ 17 = 0) ∧
  ((Instr.mts 511 (sf 6 31 2)).wf = true ∧
    Free 511 (sf 6 31 2) .clean [fieldOf (sf 6 31 2) 20 16] (loaded 511 (sf 6 31 2) { g := [(31, 0xFFFE0000)] }) ∧
    (fieldOf (sf 6 31 2) 15 0 ≤ 5 ∨ 8 ≤ fieldOf (sf 6 31 2) 15 0 ∧ fieldOf (sf 6 31 2) 15 0 ≤ 16) ∧ fieldOf (sf 6 31 2) 15 0 = 2 ∧
    (eng 511 (issuing 511 .clean (loaded 511 (sf 6 31 2) { g := [(31, 0xFFFE0000)] }))).land = [] ∧
    ((eng 511 (issuing 511 .clean (loaded 511 (sf 6 31 2) { g := [(31, 0xFFFE0000)] }))).gr (fieldOf (sf 6 31 2) 20 16)).toNat % 2 ^ 17 = 0) ∧
  ((Instr.mts 511 (sf 6 31 3)).wf = true ∧
    Free 511 (sf 6 31 3) .clean [fieldOf (sf 6 31 3) 20 16] (loaded 511 (sf 6 31 3) { g := [(31, 0xFFFE0000)] }) ∧
    (fieldOf (sf 6 31 3) 15 0 ≤ 5 ∨ 8 ≤ fieldOf (sf 6 31 3) 15 0 ∧ fieldOf (sf 6 31 3) 15 0 ≤ 16) ∧ fieldOf (sf 6 31 3) 15 0 = 3 ∧
    (eng 511 (issuing 511 .clean (loaded 511 (sf 6 31 3) { g := [(31, 0xFFFE0000)] }))).land = [] ∧
    ((eng 511 (issuing 511 .clean (loaded 511 (sf 6 31 3) { g := [(31, 0xFFFE0000)] }))).gr (fieldOf (sf 6 31 3) 20 16)).toNat % 2 ^ 17 = 0) ∧
  ((Instr.mts 511 (sf 6 31 4)).wf = true ∧
    Free 511 (sf 6 31 4) .clean [fieldOf (sf 6 31 4) 20 16] (loaded 511 (sf 6 31 4) { g := [(31, 0xFFFE0000)] }) ∧
    (fieldOf (sf 6 31 4) 15 0 ≤ 5 ∨ 8 ≤ fieldOf (sf 6 31 4) 15 0 ∧ fieldOf (sf 6 31 4) 15 0 ≤ 16) ∧ fieldOf (sf 6 31 4) 15 0 = 4 ∧
    (eng 511 (issuing 511 .clean (loaded 511 (sf 6 31 4) { g := [(31, 0xFFFE0000)] }))).land = [] ∧
    ((eng 511 (issuing 511 .clean (loaded 511 (sf 6 31 4) { g := [(31, 0xFFFE0000)] }))).gr (fieldOf (sf 6 31 4) 20 16)).toNat % 2 ^ 17 = 0) ∧
  ((Instr.mts 511 (sf 6 31 5)).wf = true ∧
    Free 511 (sf 6 31 5) .clean [fieldOf (sf 6 31 5) 20 16] (loaded 511 (sf 6 31 5) { g := [(31, 0xFFFE0000)] }) ∧
    (fieldOf (sf 6 31 5) 15 0 ≤ 5 ∨ 8 ≤ fieldOf (sf 6 31 5) 15 0 ∧ fieldOf (sf 6 31 5) 15 0 ≤ 16) ∧ fieldOf (sf 6 31 5) 15 0 = 5 ∧
    (eng 511 (issuing 511 .clean (loaded 511 (sf 6 31 5) { g := [(31, 0xFFFE0000)] }))).land = [] ∧
    ((eng 511 (issuing 511 .clean (loaded 511 (sf 6 31 5) { g := [(31, 0xFFFE0000)] }))).gr (fieldOf (sf 6 31 5) 20 16)).toNat % 2 ^ 17 = 0) ∧
  ((Instr.mts 511 (sf 6 31 8)).wf = true ∧
    Free 511 (sf 6 31 8) .clean [fieldOf (sf 6 31 8) 20 16] (loaded 511 (sf 6 31 8) { g := [(31, 0xFFFE0000)] }) ∧
    (fieldOf (sf 6 31 8) 15 0 ≤ 5 ∨ 8 ≤ fieldOf (sf 6 31 8) 15 0 ∧ fieldOf (sf 6 31 8) 15 0 ≤ 16) ∧ fieldOf (sf 6 31 8) 15 0 = 8 ∧
    (eng 511 (issuing 511 .clean (loaded 511 (sf 6 31 8) { g := [(31, 0xFFFE0000)] }))).land = [] ∧
    ((eng 511 (issuing 511 .clean (loaded 511 (sf 6 31 8) { g := [(31, 0xFFFE0000)] }))).gr (fieldOf (sf 6 31 8) 20 16)).toNat % 2 ^ 17 = 0) ∧
  ((Instr.mts 511 (sf 6 31 15)).wf = true ∧
    Free 511 (sf 6 31 15) .clean [fieldOf (sf 6 31 15) 20 16] (loaded 511 (sf 6 31 15) { g := [(31, 0xFFFE0000)] }) ∧
    (fieldOf (sf 6 31 15) 15 0 ≤ 5 ∨ 8 ≤ fieldOf (sf 6 31 15) 15 0 ∧ fieldOf (sf 6 31 15) 15 0 ≤ 16) ∧ fieldOf (sf 6 31 15) 15 0 = 15 ∧
    (eng 511 (issuing 511 .clean (loaded 511 (sf 6 31 15) { g := [(31, 0xFFFE0000)] }))).land = [] ∧
    ((eng 511 (issuing 511 .clean (loaded 511 (sf 6 31 15) { g := [(31, 0xFFFE0000)] }))).gr (fieldOf (sf 6 31 15) 20 16)).toNat % 2 ^ 17 = 0) ∧
  ((Instr.mts 511 (sf 6 31 16)).wf = true ∧
    Free 511 (sf 6 31 16) .clean [fieldOf (sf 6 31 16) 20 16] (loaded 511 (sf 6 31 16) { g := [(31, 0xFFFE0000)] }) ∧
    (fieldOf (sf 6 31 16) 15 0 ≤ 5 ∨ 8 ≤ fieldOf (sf 6 31 16) 15 0 ∧ fieldOf (sf 6 31 16) 15 0 ≤ 16) ∧ fieldOf (sf 6 31 16) 15 0 = 16 ∧
    (eng 511 (issuing 511 .clean (loaded 511 (sf 6 31 16) { g := [(31, 0xFFFE0000)] }))).land = [] ∧
    ((eng 511 (issuing 511 .clean (loaded 511 (sf 6 31 16) { g := [(31, 0xFFFE0000)] }))).gr (fieldOf (sf 6 31 16) 20 16)).toNat % 2 ^ 17 = 0) := by
  with_reducible and_intros
  all_goals
    first
    | decide +kernel
    | (unfold Running; decide +kernel)
    | (unfold Free Running Ready; decide +kernel)

/-- Concrete inputs meet the hypotheses of TrapEntry, clause by clause. -/
theorem witness_TrapEntry :
  ((Instr.trap 511 (sf 2 0 65535)).wf = true ∧ Free 511 (sf 2 0 65535) .clean [] (loaded 511 (sf 2 0 65535)) ∧
    fieldOf (sf 2 0 65535) 20 16 = 0 ∧ (eng 511 (issuing 511 .clean (loaded 511 (sf 2 0 65535)))).bank = 0 ∧
    (eng 511 (issuing 511 .clean (loaded 511 (sf 2 0 65535)))).rem = 0) ∧
  ((Instr.brk 511 (sf 3 0 0)).wf = true ∧ Free 511 (sf 3 0 0) .clean [] (loaded 511 (sf 3 0 0)) ∧ fieldOf (sf 3 0 0) 20 0 = 0 ∧
    (eng 511 (issuing 511 .clean (loaded 511 (sf 3 0 0)))).bank = 0 ∧ (eng 511 (issuing 511 .clean (loaded 511 (sf 3 0 0)))).rem = 0) ∧
  ((Instr.undef 511 (rf 0x0E 0 0 0 0)).wf = true ∧ Free 511 (rf 0x0E 0 0 0 0) .clean [] (loaded 511 (rf 0x0E 0 0 0 0)) ∧
    (eng 511 (issuing 511 .clean (loaded 511 (rf 0x0E 0 0 0 0)))).bank = 0) ∧
  ((Instr.undef 511 (rf 1 0 0 0 17)).wf = true ∧ Free 511 (rf 1 0 0 0 17) .clean [] (loaded 511 (rf 1 0 0 0 17)) ∧
    (eng 511 (issuing 511 .clean (loaded 511 (rf 1 0 0 0 17)))).bank = 0) ∧
  ((Instr.undef 511 (rf 0x3B 31 31 31 0x7FF)).wf = true ∧
    Free 511 (rf 0x3B 31 31 31 0x7FF) .clean [] (loaded 511 (rf 0x3B 31 31 31 0x7FF)) ∧
    (eng 511 (issuing 511 .clean (loaded 511 (rf 0x3B 31 31 31 0x7FF)))).bank = 0) ∧
  ((Instr.undef 511 (sf 7 0 0)).wf = true ∧ Free 511 (sf 7 0 0) .clean [] (loaded 511 (sf 7 0 0)) ∧
    (eng 511 (issuing 511 .clean (loaded 511 (sf 7 0 0)))).bank = 0) ∧
  (Running (runs 511 { farErr := [(7, 0xFFFFFFFFFFFF, 0)] }) ∧
    (eng 511 (runs 511 { farErr := [(7, 0xFFFFFFFFFFFF, 0)] })).farErr = (7, 0xFFFFFFFFFFFF, 0) :: [] ∧
    (eng 511 (runs 511 { farErr := [(7, 0xFFFFFFFFFFFF, 0)] })).mode = .run ∧
    (eng 511 (runs 511 { farErr := [(7, 0xFFFFFFFFFFFF, 0)] })).wait = .none ∧
    (eng 511 (runs 511 { farErr := [(7, 0xFFFFFFFFFFFF, 0)] })).bank = 0 ∧
    (eng 511 (runs 511 { farErr := [(7, 0xFFFFFFFFFFFF, 0)] })).kill = 0) ∧
  (Running (regs [(Reg.ENG_IRQ_EN 511, 1), (Reg.ENG_IRQ_PEND 511, 1)] (runs 511 { st0 := 7 })) ∧
    canInterrupt 511 (atIssue 511 false [] (regs [(Reg.ENG_IRQ_EN 511, 1), (Reg.ENG_IRQ_PEND 511, 1)] (runs 511 { st0 := 7 }))) = true ∧
    (eng 511 (atIssue 511 false [] (regs [(Reg.ENG_IRQ_EN 511, 1), (Reg.ENG_IRQ_PEND 511, 1)] (runs 511 { st0 := 7 })))).rem = 0 ∧
    (irqReady 511 (atIssue 511 false [] (regs [(Reg.ENG_IRQ_EN 511, 1), (Reg.ENG_IRQ_PEND 511, 1)] (runs 511 { st0 := 7 })))).testBit 0 = true ∧
    (∀ j, j < 0 → (irqReady 511 (atIssue 511 false [] (regs [(Reg.ENG_IRQ_EN 511, 1), (Reg.ENG_IRQ_PEND 511, 1)] (runs 511 { st0 := 7 })))).testBit j = false)) ∧
  (Running (regs [(Reg.ENG_IRQ_EN 511, 2147483648), (Reg.ENG_IRQ_PEND 511, 2147483648)] (runs 511 { st0 := 7 })) ∧
    canInterrupt 511 (atIssue 511 false [] (regs [(Reg.ENG_IRQ_EN 511, 2147483648), (Reg.ENG_IRQ_PEND 511, 2147483648)] (runs 511 { st0 := 7 }))) = true ∧
    (eng 511 (atIssue 511 false [] (regs [(Reg.ENG_IRQ_EN 511, 2147483648), (Reg.ENG_IRQ_PEND 511, 2147483648)] (runs 511 { st0 := 7 })))).rem = 0 ∧
    (irqReady 511 (atIssue 511 false [] (regs [(Reg.ENG_IRQ_EN 511, 2147483648), (Reg.ENG_IRQ_PEND 511, 2147483648)] (runs 511 { st0 := 7 })))).testBit 31 = true ∧
    (∀ j, j < 31 → (irqReady 511 (atIssue 511 false [] (regs [(Reg.ENG_IRQ_EN 511, 2147483648), (Reg.ENG_IRQ_PEND 511, 2147483648)] (runs 511 { st0 := 7 })))).testBit j = false)) := by
  with_reducible and_intros
  all_goals
    first
    | decide +kernel
    | (unfold Running; decide +kernel)
    | (unfold Free Running Ready; decide +kernel)

/-- Concrete inputs meet the hypotheses of EngineControlResults, clause by clause. -/
theorem witness_EngineControlResults :
  (Running (runs 511) ∧ Open 0 (Reg.ENG_IRQ_SET 511) false true 0xFFFFFFFF (runs 511)) ∧
  (Running (regs [(Reg.ENG_IRQ_EN 511, 0x80000000), (Reg.ENG_IRQ_PEND 511, 0x80000000), (Reg.ENG_IRQ_WAIT_LIMIT 511, 1)] (runs 511)) ∧
    fld (Reg.ENG_IRQ_WAIT_LIMIT 511) 23 0 (regs [(Reg.ENG_IRQ_EN 511, 0x80000000), (Reg.ENG_IRQ_PEND 511, 0x80000000), (Reg.ENG_IRQ_WAIT_LIMIT 511, 1)] (runs 511)) ≠ 0 ∧
    (irqReady 511 (regs [(Reg.ENG_IRQ_EN 511, 0x80000000), (Reg.ENG_IRQ_PEND 511, 0x80000000), (Reg.ENG_IRQ_WAIT_LIMIT 511, 1)] (runs 511))).testBit 31 = true ∧
    31 ∉ (eng 511 (regs [(Reg.ENG_IRQ_EN 511, 0x80000000), (Reg.ENG_IRQ_PEND 511, 0x80000000), (Reg.ENG_IRQ_WAIT_LIMIT 511, 1)] (runs 511))).late) ∧
  (Running (runs 511) ∧ Open 0 (Reg.ENG_CTRL 511) false true (8 + b2n true) (runs 511) ∧
    Open 0 (Reg.ENG_CTRL 511) false true (8 + b2n false) (runs 511)) ∧
  (Running (runs 511 { kill := 2 }) ∧ (eng 511 (runs 511 { kill := 2 })).kill ≠ 0 ∧ (eng 511 (runs 511 { kill := 2 })).mode = .run ∧
    (eng 511 (runs 511 { kill := 2 })).wait = .none ∧ (eng 511 (runs 511 { kill := 2 })).rem = 0 ∧
    engCopying 511 (runs 511 { kill := 2 }) = false) ∧
  (Running (runs 511) ∧ Open 0 (Reg.ENG_CTRL 511) false true (4 + b2n true) (runs 511) ∧
    Open 0 (Reg.ENG_CTRL 511) false true (4 + b2n false) (runs 511) ∧ domSleeps (engDom 511) (runs 511) = false ∧
    (dom (engDom 511) (runs 511)).entering = none) ∧
  (Running (runs 511) ∧ Open 0 (Reg.ENG_CTRL 511) false true 1 (runs 511)) ∧
  (Running .reset ∧ Open 0 (Reg.ENG_CTRL 511) false true 0 .reset ∧ Open 0 (Reg.ENG_CTRL 511) false true 3 .reset ∧
    (eng 511 .reset).mode = .halted ∧ domSleeps (engDom 511) .reset = false ∧ (dom (engDom 511) .reset).entering = none) ∧
  (Running (regs [(Reg.ENG_CTRL 511, 1)] (runs 511)) ∧ flagOn (Reg.ENG_CTRL 511) 0 (regs [(Reg.ENG_CTRL 511, 1)] (runs 511)) = true ∧
    (eng 511 (regs [(Reg.ENG_CTRL 511, 1)] (runs 511))).mode = .run ∧ (eng 511 (regs [(Reg.ENG_CTRL 511, 1)] (runs 511))).wait = .none ∧
    (eng 511 (regs [(Reg.ENG_CTRL 511, 1)] (runs 511))).step = false ∧ (eng 511 (regs [(Reg.ENG_CTRL 511, 1)] (runs 511))).rem = 0 ∧
    (eng 511 (regs [(Reg.ENG_CTRL 511, 1)] (runs 511))).far = [] ∧ (eng 511 (regs [(Reg.ENG_CTRL 511, 1)] (runs 511))).stq = []) ∧
  (Running (runs 511 { wait := .waitDrain, kill := 1 }) ∧ (eng 511 (runs 511 { wait := .waitDrain, kill := 1 })).wait = .waitDrain ∧
    (eng 511 (runs 511 { wait := .waitDrain, kill := 1 })).mode = .run ∧ (eng 511 (runs 511 { wait := .waitDrain, kill := 1 })).far = [] ∧
    (eng 511 (runs 511 { wait := .waitDrain, kill := 1 })).stq = [] ∧ wakeHolds 511 (runs 511 { wait := .waitDrain, kill := 1 }) = true) ∧
  (Running (runs 511 { wait := .waitDrain }) ∧ (eng 511 (runs 511 { wait := .waitDrain })).wait = .waitDrain ∧
    (eng 511 (runs 511 { wait := .waitDrain })).mode = .run ∧ (eng 511 (runs 511 { wait := .waitDrain })).far = [] ∧
    (eng 511 (runs 511 { wait := .waitDrain })).stq = [] ∧ wakeHolds 511 (runs 511 { wait := .waitDrain }) = false ∧
    fld (Reg.PWR_MODE 511) 1 0 (runs 511 { wait := .waitDrain }) = 0) := by
  with_reducible and_intros
  all_goals
    first
    | decide +kernel
    | (unfold Running; decide +kernel)
    | exact open_of (by decide +kernel)

/-- Concrete inputs meet the hypotheses of VectorControlResults, clause by clause. -/
theorem witness_VectorControlResults :
  ((Instr.setvl 511 (word [(26, 60), (21, 31), (16, 30), (15, 0), (0, 6)])).wf = true ∧
    fieldOf (word [(26, 60), (21, 31), (16, 30), (15, 0), (0, 6)]) 14 5 = 0 ∧
    fieldOf (word [(26, 60), (21, 31), (16, 30), (15, 0), (0, 6)]) 2 0 ≠ 7 ∧
    (fieldOf (word [(26, 60), (21, 31), (16, 30), (15, 0), (0, 6)]) 15 15 = 1 → fieldOf (word [(26, 60), (21, 31), (16, 30), (15, 0), (0, 6)]) 20 16 = 0) ∧
    Free 511 (word [(26, 60), (21, 31), (16, 30), (15, 0), (0, 6)]) .clean ([fieldOf (word [(26, 60), (21, 31), (16, 30), (15, 0), (0, 6)]) 25 21] ++ (if fieldOf (word [(26, 60), (21, 31), (16, 30), (15, 0), (0, 6)]) 15 15 = 0 then [fieldOf (word [(26, 60), (21, 31), (16, 30), (15, 0), (0, 6)]) 20 16] else [])) (loaded 511 (word [(26, 60), (21, 31), (16, 30), (15, 0), (0, 6)]))) ∧
  ((Instr.setvl 511 (word [(26, 60), (21, 31), (16, 0), (15, 1), (0, 30)])).wf = true ∧
    fieldOf (word [(26, 60), (21, 31), (16, 0), (15, 1), (0, 30)]) 14 5 = 0 ∧
    fieldOf (word [(26, 60), (21, 31), (16, 0), (15, 1), (0, 30)]) 2 0 ≠ 7 ∧
    (fieldOf (word [(26, 60), (21, 31), (16, 0), (15, 1), (0, 30)]) 15 15 = 1 → fieldOf (word [(26, 60), (21, 31), (16, 0), (15, 1), (0, 30)]) 20 16 = 0) ∧
    Free 511 (word [(26, 60), (21, 31), (16, 0), (15, 1), (0, 30)]) .clean ([fieldOf (word [(26, 60), (21, 31), (16, 0), (15, 1), (0, 30)]) 25 21] ++ (if fieldOf (word [(26, 60), (21, 31), (16, 0), (15, 1), (0, 30)]) 15 15 = 0 then [fieldOf (word [(26, 60), (21, 31), (16, 0), (15, 1), (0, 30)]) 20 16] else [])) (loaded 511 (word [(26, 60), (21, 31), (16, 0), (15, 1), (0, 30)]))) ∧
  ((Instr.vrd 511 (word [(26, 40), (21, 31), (0, 0)])).wf = true ∧
    Free 511 (word [(26, 40), (21, 31), (0, 0)]) .clean [fieldOf (word [(26, 40), (21, 31), (0, 0)]) 25 21] (loaded 511 (word [(26, 40), (21, 31), (0, 0)])) ∧
    fieldOf (word [(26, 40), (21, 31), (0, 0)]) 20 2 = 0 ∧ fieldOf (word [(26, 40), (21, 31), (0, 0)]) 1 0 = 0) ∧
  ((Instr.vrd 511 (word [(26, 40), (21, 31), (0, 1)])).wf = true ∧
    Free 511 (word [(26, 40), (21, 31), (0, 1)]) .clean [fieldOf (word [(26, 40), (21, 31), (0, 1)]) 25 21] (loaded 511 (word [(26, 40), (21, 31), (0, 1)])) ∧
    fieldOf (word [(26, 40), (21, 31), (0, 1)]) 20 2 = 0 ∧ fieldOf (word [(26, 40), (21, 31), (0, 1)]) 1 0 = 1) ∧
  ((Instr.vrd 511 (word [(26, 40), (21, 31), (0, 2)])).wf = true ∧
    Free 511 (word [(26, 40), (21, 31), (0, 2)]) .clean [fieldOf (word [(26, 40), (21, 31), (0, 2)]) 25 21] (loaded 511 (word [(26, 40), (21, 31), (0, 2)])) ∧
    fieldOf (word [(26, 40), (21, 31), (0, 2)]) 20 2 = 0 ∧ fieldOf (word [(26, 40), (21, 31), (0, 2)]) 1 0 = 2) ∧
  ((Instr.vrd 511 (word [(26, 40), (21, 31), (0, 3)])).wf = true ∧
    Free 511 (word [(26, 40), (21, 31), (0, 3)]) .clean [fieldOf (word [(26, 40), (21, 31), (0, 3)]) 25 21] (loaded 511 (word [(26, 40), (21, 31), (0, 3)])) ∧
    fieldOf (word [(26, 40), (21, 31), (0, 3)]) 20 2 = 0 ∧ fieldOf (word [(26, 40), (21, 31), (0, 3)]) 1 0 = 3) ∧
  ((Instr.vwr 511 (word [(26, 41), (21, 31), (0, 0)])).wf = true ∧
    Free 511 (word [(26, 41), (21, 31), (0, 0)]) .clean [fieldOf (word [(26, 41), (21, 31), (0, 0)]) 25 21] (loaded 511 (word [(26, 41), (21, 31), (0, 0)]) { g := [(31, 64)], vfmt := 0 }) ∧
    (eng 511 (issuing 511 .clean (loaded 511 (word [(26, 41), (21, 31), (0, 0)]) { g := [(31, 64)], vfmt := 0 }))).land = [] ∧
    fieldOf (word [(26, 41), (21, 31), (0, 0)]) 20 2 = 0 ∧ fieldOf (word [(26, 41), (21, 31), (0, 0)]) 1 0 = 0 ∧
    ((eng 511 (issuing 511 .clean (loaded 511 (word [(26, 41), (21, 31), (0, 0)]) { g := [(31, 64)], vfmt := 0 }))).gr (fieldOf (word [(26, 41), (21, 31), (0, 0)]) 25 21)).toNat ≤ (eng 511 (issuing 511 .clean (loaded 511 (word [(26, 41), (21, 31), (0, 0)]) { g := [(31, 64)], vfmt := 0 }))).nmax ∧
    ((eng 511 (issuing 511 .clean (loaded 511 (word [(26, 41), (21, 31), (0, 0)]) { g := [(31, 64)], vfmt := 0 }))).gr (fieldOf (word [(26, 41), (21, 31), (0, 0)]) 25 21)).toNat < 128) ∧
  ((Instr.vwr 511 (word [(26, 41), (21, 31), (0, 1)])).wf = true ∧
    Free 511 (word [(26, 41), (21, 31), (0, 1)]) .clean [fieldOf (word [(26, 41), (21, 31), (0, 1)]) 25 21] (loaded 511 (word [(26, 41), (21, 31), (0, 1)]) { g := [(31, 30)], vfmt := 0 }) ∧
    (eng 511 (issuing 511 .clean (loaded 511 (word [(26, 41), (21, 31), (0, 1)]) { g := [(31, 30)], vfmt := 0 }))).land = [] ∧
    fieldOf (word [(26, 41), (21, 31), (0, 1)]) 20 2 = 0 ∧ fieldOf (word [(26, 41), (21, 31), (0, 1)]) 1 0 = 1 ∧
    ((eng 511 (issuing 511 .clean (loaded 511 (word [(26, 41), (21, 31), (0, 1)]) { g := [(31, 30)], vfmt := 0 }))).gr (fieldOf (word [(26, 41), (21, 31), (0, 1)]) 25 21)).toNat < 32 ∧
    ((eng 511 (issuing 511 .clean (loaded 511 (word [(26, 41), (21, 31), (0, 1)]) { g := [(31, 30)], vfmt := 0 }))).gr (fieldOf (word [(26, 41), (21, 31), (0, 1)]) 25 21)).toNat % 8 ≠ 7) ∧
  ((Instr.vwr 511 (word [(26, 41), (21, 31), (0, 2)])).wf = true ∧
    Free 511 (word [(26, 41), (21, 31), (0, 2)]) .clean [fieldOf (word [(26, 41), (21, 31), (0, 2)]) 25 21] (loaded 511 (word [(26, 41), (21, 31), (0, 2)]) { g := [(31, 4294967295)], vfmt := 0 }) ∧
    (eng 511 (issuing 511 .clean (loaded 511 (word [(26, 41), (21, 31), (0, 2)]) { g := [(31, 4294967295)], vfmt := 0 }))).land = [] ∧
    fieldOf (word [(26, 41), (21, 31), (0, 2)]) 20 2 = 0 ∧ fieldOf (word [(26, 41), (21, 31), (0, 2)]) 1 0 = 2) ∧
  (Running (regs [(Reg.VEC_PWR_CTRL 511, 1)] (runs 511 { vpwr := 0 })) ∧
    (eng 511 (regs [(Reg.VEC_PWR_CTRL 511, 1)] (runs 511 { vpwr := 0 }))).vpwr = 0 ∧
    (eng 511 (regs [(Reg.VEC_PWR_CTRL 511, 1)] (runs 511 { vpwr := 0 }))).mode = .run ∧
    fld (Reg.VEC_PWR_CTRL 511) 15 0 (regs [(Reg.VEC_PWR_CTRL 511, 1)] (runs 511 { vpwr := 0 })) ≠ 0 ∧
    flagOn (Reg.VEC_PWR_CTRL 511) 16 (regs [(Reg.VEC_PWR_CTRL 511, 1)] (runs 511 { vpwr := 0 })) = false ∧
    (eng 511 (regs [(Reg.VEC_PWR_CTRL 511, 1)] (runs 511 { vpwr := 0 }))).gather = none ∧
    (∀ x ∈ (eng 511 (regs [(Reg.VEC_PWR_CTRL 511, 1)] (runs 511 { vpwr := 0 }))).land, x.what.isVector = false)) ∧
  (Running (runs 511 { vpwr := 1 }) ∧ (eng 511 (runs 511 { vpwr := 1 })).vpwr = 1) := by
  with_reducible and_intros
  all_goals
    first
    | decide +kernel
    | (unfold Running; decide +kernel)
    | (unfold Free Running Ready; decide +kernel)

/-- Concrete inputs meet the hypotheses of VectorMemoryResults, clause by clause. -/
theorem witness_VectorMemoryResults :
  ((Instr.vld 511 31 31 0 false none 0).wf = true ∧
    VFree 511 isVecMem .clean [31] [31] (loaded 511 0xF8000000 { vpwr := 0, vfmt := 6, vcnt := 16, g := [(31, 0x3FFC0)] }) ∧
    (eng 511 (vissuing 511 [31] .clean (loaded 511 0xF8000000 { vpwr := 0, vfmt := 6, vcnt := 16, g := [(31, 0x3FFC0)] }))).etype ≤ 6 ∧
    Sound 511 false (fun j => ((if false then (eng 511 (vissuing 511 [31] .clean (loaded 511 0xF8000000 { vpwr := 0, vfmt := 6, vcnt := 16, g := [(31, 0x3FFC0)] }))).gr 31 else (eng 511 (vissuing 511 [31] .clean (loaded 511 0xF8000000 { vpwr := 0, vfmt := 6, vcnt := 16, g := [(31, 0x3FFC0)] }))).gr 31 + 0) + BitVec.ofNat 32 (j * (eng 511 (vissuing 511 [31] .clean (loaded 511 0xF8000000 { vpwr := 0, vfmt := 6, vcnt := 16, g := [(31, 0x3FFC0)] }))).eb)).toNat) (vissuing 511 [31] .clean (loaded 511 0xF8000000 { vpwr := 0, vfmt := 6, vcnt := 16, g := [(31, 0x3FFC0)] }))) ∧
  ((Instr.vld 511 31 31 0 true none 0).wf = true ∧
    VFree 511 isVecMem .clean [31] [31] (loaded 511 0xF8000000 { vpwr := 0, vfmt := 6, vcnt := 16, g := [(31, 0x3FFC0)] }) ∧
    (eng 511 (vissuing 511 [31] .clean (loaded 511 0xF8000000 { vpwr := 0, vfmt := 6, vcnt := 16, g := [(31, 0x3FFC0)] }))).etype ≤ 6 ∧
    Sound 511 false (fun j => ((if true then (eng 511 (vissuing 511 [31] .clean (loaded 511 0xF8000000 { vpwr := 0, vfmt := 6, vcnt := 16, g := [(31, 0x3FFC0)] }))).gr 31 else (eng 511 (vissuing 511 [31] .clean (loaded 511 0xF8000000 { vpwr := 0, vfmt := 6, vcnt := 16, g := [(31, 0x3FFC0)] }))).gr 31 + 0) + BitVec.ofNat 32 (j * (eng 511 (vissuing 511 [31] .clean (loaded 511 0xF8000000 { vpwr := 0, vfmt := 6, vcnt := 16, g := [(31, 0x3FFC0)] }))).eb)).toNat) (vissuing 511 [31] .clean (loaded 511 0xF8000000 { vpwr := 0, vfmt := 6, vcnt := 16, g := [(31, 0x3FFC0)] }))) ∧
  ((Instr.vst 511 31 31 0 false none 0).wf = true ∧
    VFree 511 isVecMem .clean [31] [31] (loaded 511 0xF8000000 { vpwr := 0, vfmt := 6, vcnt := 16, g := [(31, 0x3FFC0)] }) ∧
    (eng 511 (vissuing 511 [31] .clean (loaded 511 0xF8000000 { vpwr := 0, vfmt := 6, vcnt := 16, g := [(31, 0x3FFC0)] }))).etype ≤ 6 ∧
    Sound 511 true (fun j => ((if false then (eng 511 (vissuing 511 [31] .clean (loaded 511 0xF8000000 { vpwr := 0, vfmt := 6, vcnt := 16, g := [(31, 0x3FFC0)] }))).gr 31 else (eng 511 (vissuing 511 [31] .clean (loaded 511 0xF8000000 { vpwr := 0, vfmt := 6, vcnt := 16, g := [(31, 0x3FFC0)] }))).gr 31 + 0) + BitVec.ofNat 32 (j * (eng 511 (vissuing 511 [31] .clean (loaded 511 0xF8000000 { vpwr := 0, vfmt := 6, vcnt := 16, g := [(31, 0x3FFC0)] }))).eb)).toNat) (vissuing 511 [31] .clean (loaded 511 0xF8000000 { vpwr := 0, vfmt := 6, vcnt := 16, g := [(31, 0x3FFC0)] }))) ∧
  ((Instr.vst 511 31 31 0 true none 0).wf = true ∧
    VFree 511 isVecMem .clean [31] [31] (loaded 511 0xF8000000 { vpwr := 0, vfmt := 6, vcnt := 16, g := [(31, 0x3FFC0)] }) ∧
    (eng 511 (vissuing 511 [31] .clean (loaded 511 0xF8000000 { vpwr := 0, vfmt := 6, vcnt := 16, g := [(31, 0x3FFC0)] }))).etype ≤ 6 ∧
    Sound 511 true (fun j => ((if true then (eng 511 (vissuing 511 [31] .clean (loaded 511 0xF8000000 { vpwr := 0, vfmt := 6, vcnt := 16, g := [(31, 0x3FFC0)] }))).gr 31 else (eng 511 (vissuing 511 [31] .clean (loaded 511 0xF8000000 { vpwr := 0, vfmt := 6, vcnt := 16, g := [(31, 0x3FFC0)] }))).gr 31 + 0) + BitVec.ofNat 32 (j * (eng 511 (vissuing 511 [31] .clean (loaded 511 0xF8000000 { vpwr := 0, vfmt := 6, vcnt := 16, g := [(31, 0x3FFC0)] }))).eb)).toNat) (vissuing 511 [31] .clean (loaded 511 0xF8000000 { vpwr := 0, vfmt := 6, vcnt := 16, g := [(31, 0x3FFC0)] }))) ∧
  ((Instr.vlds 511 31 30 31 none 0).wf = true ∧
    VFree 511 isVecMem .clean [30, 31] [30, 31] (loaded 511 0xF8000000 { vpwr := 0, vfmt := 6, vcnt := 2, g := [(30, 0x3FFFC), (31, 0xFFFFFFFC)] }) ∧
    (eng 511 (vissuing 511 [30, 31] .clean (loaded 511 0xF8000000 { vpwr := 0, vfmt := 6, vcnt := 2, g := [(30, 0x3FFFC), (31, 0xFFFFFFFC)] }))).etype ≤ 6 ∧
    Sound 511 false (fun j => ((eng 511 (vissuing 511 [30, 31] .clean (loaded 511 0xF8000000 { vpwr := 0, vfmt := 6, vcnt := 2, g := [(30, 0x3FFFC), (31, 0xFFFFFFFC)] }))).gr 30 + BitVec.ofNat 32 j * (eng 511 (vissuing 511 [30, 31] .clean (loaded 511 0xF8000000 { vpwr := 0, vfmt := 6, vcnt := 2, g := [(30, 0x3FFFC), (31, 0xFFFFFFFC)] }))).gr 31).toNat) (vissuing 511 [30, 31] .clean (loaded 511 0xF8000000 { vpwr := 0, vfmt := 6, vcnt := 2, g := [(30, 0x3FFFC), (31, 0xFFFFFFFC)] }))) ∧
  ((Instr.vsts 511 31 30 31 none 0).wf = true ∧
    VFree 511 isVecMem .clean [30, 31] [30, 31] (loaded 511 0xF8000000 { vpwr := 0, vfmt := 6, vcnt := 2, g := [(30, 0x3FFFC), (31, 0xFFFFFFFC)] }) ∧
    (eng 511 (vissuing 511 [30, 31] .clean (loaded 511 0xF8000000 { vpwr := 0, vfmt := 6, vcnt := 2, g := [(30, 0x3FFFC), (31, 0xFFFFFFFC)] }))).etype ≤ 6 ∧
    Sound 511 true (fun j => ((eng 511 (vissuing 511 [30, 31] .clean (loaded 511 0xF8000000 { vpwr := 0, vfmt := 6, vcnt := 2, g := [(30, 0x3FFFC), (31, 0xFFFFFFFC)] }))).gr 30 + BitVec.ofNat 32 j * (eng 511 (vissuing 511 [30, 31] .clean (loaded 511 0xF8000000 { vpwr := 0, vfmt := 6, vcnt := 2, g := [(30, 0x3FFFC), (31, 0xFFFFFFFC)] }))).gr 31).toNat) (vissuing 511 [30, 31] .clean (loaded 511 0xF8000000 { vpwr := 0, vfmt := 6, vcnt := 2, g := [(30, 0x3FFFC), (31, 0xFFFFFFFC)] }))) ∧
  ((Instr.vldx 511 31 31 30).wf = true ∧ VFree 511 isVecMem .clean [31] [31] (loaded 511 0xF8000000 { vpwr := 0, vfmt := 0, vcnt := 1 }) ∧
    (eng 511 (vissuing 511 [31] .clean (loaded 511 0xF8000000 { vpwr := 0, vfmt := 0, vcnt := 1 }))).etype ≤ 6 ∧ 31 ≠ 30) ∧
  ((Instr.vstx 511 31 31 30).wf = true ∧ VFree 511 isVecMem .clean [31] [31] (loaded 511 0xF8000000 { vpwr := 0, vfmt := 0, vcnt := 1 }) ∧
    (eng 511 (vissuing 511 [31] .clean (loaded 511 0xF8000000 { vpwr := 0, vfmt := 0, vcnt := 1 }))).etype ≤ 6) ∧
  (Running (loaded 511 0xF8000000 { vpwr := 0, vfmt := 0, vcnt := 64, g := [(31, 0x20000)], wait := .gather, gather := some ⟨false, 31, 31, 30, 0⟩ }) ∧
    (eng 511 (loaded 511 0xF8000000 { vpwr := 0, vfmt := 0, vcnt := 64, g := [(31, 0x20000)], wait := .gather, gather := some ⟨false, 31, 31, 30, 0⟩ })).wait = .gather ∧
    (eng 511 (loaded 511 0xF8000000 { vpwr := 0, vfmt := 0, vcnt := 64, g := [(31, 0x20000)], wait := .gather, gather := some ⟨false, 31, 31, 30, 0⟩ })).gather = some ⟨false, 31, 31, 30, 0⟩ ∧
    (eng 511 (loaded 511 0xF8000000 { vpwr := 0, vfmt := 0, vcnt := 64, g := [(31, 0x20000)], wait := .gather, gather := some ⟨false, 31, 31, 30, 0⟩ })).etype ≤ 6 ∧
    (eng 511 (loaded 511 0xF8000000 { vpwr := 0, vfmt := 0, vcnt := 64, g := [(31, 0x20000)], wait := .gather, gather := some ⟨false, 31, 31, 30, 0⟩ })).rem = 0 ∧
    (eng 511 (loaded 511 0xF8000000 { vpwr := 0, vfmt := 0, vcnt := 64, g := [(31, 0x20000)], wait := .gather, gather := some ⟨false, 31, 31, 30, 0⟩ })).land = [] ∧
    Sound 511 false (fun j => ((eng 511 (loaded 511 0xF8000000 { vpwr := 0, vfmt := 0, vcnt := 64, g := [(31, 0x20000)], wait := .gather, gather := some ⟨false, 31, 31, 30, 0⟩ })).gr 31 + BitVec.ofNat 32 (elem (eng 511 (loaded 511 0xF8000000 { vpwr := 0, vfmt := 0, vcnt := 64, g := [(31, 0x20000)], wait := .gather, gather := some ⟨false, 31, 31, 30, 0⟩ })).ew ((eng 511 (loaded 511 0xF8000000 { vpwr := 0, vfmt := 0, vcnt := 64, g := [(31, 0x20000)], wait := .gather, gather := some ⟨false, 31, 31, 30, 0⟩ })).vr 30) j % 2 ^ 32)).toNat) (loaded 511 0xF8000000 { vpwr := 0, vfmt := 0, vcnt := 64, g := [(31, 0x20000)], wait := .gather, gather := some ⟨false, 31, 31, 30, 0⟩ })) ∧
  (Running (loaded 511 0xF8000000 { vpwr := 0, vfmt := 0, vcnt := 64, g := [(31, 0x20000)], wait := .gather, gather := some ⟨true, 31, 31, 30, 0⟩ }) ∧
    (eng 511 (loaded 511 0xF8000000 { vpwr := 0, vfmt := 0, vcnt := 64, g := [(31, 0x20000)], wait := .gather, gather := some ⟨true, 31, 31, 30, 0⟩ })).wait = .gather ∧
    (eng 511 (loaded 511 0xF8000000 { vpwr := 0, vfmt := 0, vcnt := 64, g := [(31, 0x20000)], wait := .gather, gather := some ⟨true, 31, 31, 30, 0⟩ })).gather = some ⟨true, 31, 31, 30, 0⟩ ∧
    (eng 511 (loaded 511 0xF8000000 { vpwr := 0, vfmt := 0, vcnt := 64, g := [(31, 0x20000)], wait := .gather, gather := some ⟨true, 31, 31, 30, 0⟩ })).etype ≤ 6 ∧
    (eng 511 (loaded 511 0xF8000000 { vpwr := 0, vfmt := 0, vcnt := 64, g := [(31, 0x20000)], wait := .gather, gather := some ⟨true, 31, 31, 30, 0⟩ })).rem = 0 ∧
    (eng 511 (loaded 511 0xF8000000 { vpwr := 0, vfmt := 0, vcnt := 64, g := [(31, 0x20000)], wait := .gather, gather := some ⟨true, 31, 31, 30, 0⟩ })).land = [] ∧
    Sound 511 true (fun j => ((eng 511 (loaded 511 0xF8000000 { vpwr := 0, vfmt := 0, vcnt := 64, g := [(31, 0x20000)], wait := .gather, gather := some ⟨true, 31, 31, 30, 0⟩ })).gr 31 + BitVec.ofNat 32 (elem (eng 511 (loaded 511 0xF8000000 { vpwr := 0, vfmt := 0, vcnt := 64, g := [(31, 0x20000)], wait := .gather, gather := some ⟨true, 31, 31, 30, 0⟩ })).ew ((eng 511 (loaded 511 0xF8000000 { vpwr := 0, vfmt := 0, vcnt := 64, g := [(31, 0x20000)], wait := .gather, gather := some ⟨true, 31, 31, 30, 0⟩ })).vr 30) j % 2 ^ 32)).toNat) (loaded 511 0xF8000000 { vpwr := 0, vfmt := 0, vcnt := 64, g := [(31, 0x20000)], wait := .gather, gather := some ⟨true, 31, 31, 30, 0⟩ })) := by
  with_reducible and_intros
  all_goals
    first
    | decide +kernel
    | (unfold Running; decide +kernel)
    | exact sound_of (by decide +kernel)
    | (unfold VFree Running Ready; decide +kernel)

/-- Concrete inputs meet the hypotheses of VectorArithmeticResults, clause by clause. -/
theorem witness_VectorArithmeticResults :
  ((Instr.vadd 511 31 31 0 (some 7)).wf = true ∧
    VFree 511 isVecArith .clean [] [] (loaded 511 0xF4000000 { vpwr := 0, vfmt := 4, vcnt := 1 }) ∧
    decide ((eng 511 (vissuing 511 [] .clean (loaded 511 0xF4000000 { vpwr := 0, vfmt := 4, vcnt := 1 }))).etype ≤ 4) = true) ∧
  ((Instr.vadd 511 31 31 0 (some 7)).wf = true ∧
    VFree 511 isVecArith .clean [] [] (loaded 511 0xF4000000 { vpwr := 0, vfmt := 5, vcnt := 1 }) ∧
    decide ((eng 511 (vissuing 511 [] .clean (loaded 511 0xF4000000 { vpwr := 0, vfmt := 5, vcnt := 1 }))).etype ≤ 4) = false ∧
    (eng 511 (vissuing 511 [] .clean (loaded 511 0xF4000000 { vpwr := 0, vfmt := 5, vcnt := 1 }))).bank = 0) ∧
  ((Instr.vsub 511 31 31 0 (some 7)).wf = true ∧
    VFree 511 isVecArith .clean [] [] (loaded 511 0xF4000000 { vpwr := 0, vfmt := 4, vcnt := 1 }) ∧
    decide ((eng 511 (vissuing 511 [] .clean (loaded 511 0xF4000000 { vpwr := 0, vfmt := 4, vcnt := 1 }))).etype ≤ 4) = true) ∧
  ((Instr.vsub 511 31 31 0 (some 7)).wf = true ∧
    VFree 511 isVecArith .clean [] [] (loaded 511 0xF4000000 { vpwr := 0, vfmt := 5, vcnt := 1 }) ∧
    decide ((eng 511 (vissuing 511 [] .clean (loaded 511 0xF4000000 { vpwr := 0, vfmt := 5, vcnt := 1 }))).etype ≤ 4) = false ∧
    (eng 511 (vissuing 511 [] .clean (loaded 511 0xF4000000 { vpwr := 0, vfmt := 5, vcnt := 1 }))).bank = 0) ∧
  ((Instr.vmul 511 31 31 0 (some 7)).wf = true ∧
    VFree 511 isVecArith .clean [] [] (loaded 511 0xF4000000 { vpwr := 0, vfmt := 2, vcnt := 1 }) ∧
    decide ((eng 511 (vissuing 511 [] .clean (loaded 511 0xF4000000 { vpwr := 0, vfmt := 2, vcnt := 1 }))).etype ≤ 2) = true) ∧
  ((Instr.vmul 511 31 31 0 (some 7)).wf = true ∧
    VFree 511 isVecArith .clean [] [] (loaded 511 0xF4000000 { vpwr := 0, vfmt := 3, vcnt := 1 }) ∧
    decide ((eng 511 (vissuing 511 [] .clean (loaded 511 0xF4000000 { vpwr := 0, vfmt := 3, vcnt := 1 }))).etype ≤ 2) = false ∧
    (eng 511 (vissuing 511 [] .clean (loaded 511 0xF4000000 { vpwr := 0, vfmt := 3, vcnt := 1 }))).bank = 0) ∧
  ((Instr.vadds 511 31 31 0 (some 7)).wf = true ∧
    VFree 511 isVecArith .clean [] [] (loaded 511 0xF4000000 { vpwr := 0, vfmt := 4, vcnt := 1 }) ∧
    decide ((eng 511 (vissuing 511 [] .clean (loaded 511 0xF4000000 { vpwr := 0, vfmt := 4, vcnt := 1 }))).etype ≤ 4) = true) ∧
  ((Instr.vadds 511 31 31 0 (some 7)).wf = true ∧
    VFree 511 isVecArith .clean [] [] (loaded 511 0xF4000000 { vpwr := 0, vfmt := 5, vcnt := 1 }) ∧
    decide ((eng 511 (vissuing 511 [] .clean (loaded 511 0xF4000000 { vpwr := 0, vfmt := 5, vcnt := 1 }))).etype ≤ 4) = false ∧
    (eng 511 (vissuing 511 [] .clean (loaded 511 0xF4000000 { vpwr := 0, vfmt := 5, vcnt := 1 }))).bank = 0) ∧
  ((Instr.vsubs 511 31 31 0 (some 7)).wf = true ∧
    VFree 511 isVecArith .clean [] [] (loaded 511 0xF4000000 { vpwr := 0, vfmt := 4, vcnt := 1 }) ∧
    decide ((eng 511 (vissuing 511 [] .clean (loaded 511 0xF4000000 { vpwr := 0, vfmt := 4, vcnt := 1 }))).etype ≤ 4) = true) ∧
  ((Instr.vsubs 511 31 31 0 (some 7)).wf = true ∧
    VFree 511 isVecArith .clean [] [] (loaded 511 0xF4000000 { vpwr := 0, vfmt := 5, vcnt := 1 }) ∧
    decide ((eng 511 (vissuing 511 [] .clean (loaded 511 0xF4000000 { vpwr := 0, vfmt := 5, vcnt := 1 }))).etype ≤ 4) = false ∧
    (eng 511 (vissuing 511 [] .clean (loaded 511 0xF4000000 { vpwr := 0, vfmt := 5, vcnt := 1 }))).bank = 0) ∧
  ((Instr.vfadd 511 31 31 0 none).wf = true ∧
    VFree 511 isVecArith .clean [] [] (loaded 511 0xF4000000 { vpwr := 0, vfmt := 5, vcnt := 1 }) ∧
    ((eng 511 (vissuing 511 [] .clean (loaded 511 0xF4000000 { vpwr := 0, vfmt := 5, vcnt := 1 }))).etype == 5 || (eng 511 (vissuing 511 [] .clean (loaded 511 0xF4000000 { vpwr := 0, vfmt := 5, vcnt := 1 }))).etype == 6) = true) ∧
  ((Instr.vfadd 511 31 31 0 none).wf = true ∧
    VFree 511 isVecArith .clean [] [] (loaded 511 0xF4000000 { vpwr := 0, vfmt := 6, vcnt := 1 }) ∧
    ((eng 511 (vissuing 511 [] .clean (loaded 511 0xF4000000 { vpwr := 0, vfmt := 6, vcnt := 1 }))).etype == 5 || (eng 511 (vissuing 511 [] .clean (loaded 511 0xF4000000 { vpwr := 0, vfmt := 6, vcnt := 1 }))).etype == 6) = true) ∧
  ((Instr.vfadd 511 31 31 0 none).wf = true ∧
    VFree 511 isVecArith .clean [] [] (loaded 511 0xF4000000 { vpwr := 0, vfmt := 4, vcnt := 1 }) ∧
    ((eng 511 (vissuing 511 [] .clean (loaded 511 0xF4000000 { vpwr := 0, vfmt := 4, vcnt := 1 }))).etype == 5 || (eng 511 (vissuing 511 [] .clean (loaded 511 0xF4000000 { vpwr := 0, vfmt := 4, vcnt := 1 }))).etype == 6) = false ∧
    (eng 511 (vissuing 511 [] .clean (loaded 511 0xF4000000 { vpwr := 0, vfmt := 4, vcnt := 1 }))).bank = 0) ∧
  ((Instr.vfsub 511 31 31 0 none).wf = true ∧
    VFree 511 isVecArith .clean [] [] (loaded 511 0xF4000000 { vpwr := 0, vfmt := 5, vcnt := 1 }) ∧
    ((eng 511 (vissuing 511 [] .clean (loaded 511 0xF4000000 { vpwr := 0, vfmt := 5, vcnt := 1 }))).etype == 5 || (eng 511 (vissuing 511 [] .clean (loaded 511 0xF4000000 { vpwr := 0, vfmt := 5, vcnt := 1 }))).etype == 6) = true) ∧
  ((Instr.vfsub 511 31 31 0 none).wf = true ∧
    VFree 511 isVecArith .clean [] [] (loaded 511 0xF4000000 { vpwr := 0, vfmt := 6, vcnt := 1 }) ∧
    ((eng 511 (vissuing 511 [] .clean (loaded 511 0xF4000000 { vpwr := 0, vfmt := 6, vcnt := 1 }))).etype == 5 || (eng 511 (vissuing 511 [] .clean (loaded 511 0xF4000000 { vpwr := 0, vfmt := 6, vcnt := 1 }))).etype == 6) = true) ∧
  ((Instr.vfsub 511 31 31 0 none).wf = true ∧
    VFree 511 isVecArith .clean [] [] (loaded 511 0xF4000000 { vpwr := 0, vfmt := 4, vcnt := 1 }) ∧
    ((eng 511 (vissuing 511 [] .clean (loaded 511 0xF4000000 { vpwr := 0, vfmt := 4, vcnt := 1 }))).etype == 5 || (eng 511 (vissuing 511 [] .clean (loaded 511 0xF4000000 { vpwr := 0, vfmt := 4, vcnt := 1 }))).etype == 6) = false ∧
    (eng 511 (vissuing 511 [] .clean (loaded 511 0xF4000000 { vpwr := 0, vfmt := 4, vcnt := 1 }))).bank = 0) ∧
  ((Instr.vfmul 511 31 31 0 none).wf = true ∧
    VFree 511 isVecArith .clean [] [] (loaded 511 0xF4000000 { vpwr := 0, vfmt := 5, vcnt := 1 }) ∧
    ((eng 511 (vissuing 511 [] .clean (loaded 511 0xF4000000 { vpwr := 0, vfmt := 5, vcnt := 1 }))).etype == 5 || (eng 511 (vissuing 511 [] .clean (loaded 511 0xF4000000 { vpwr := 0, vfmt := 5, vcnt := 1 }))).etype == 6) = true) ∧
  ((Instr.vfmul 511 31 31 0 none).wf = true ∧
    VFree 511 isVecArith .clean [] [] (loaded 511 0xF4000000 { vpwr := 0, vfmt := 6, vcnt := 1 }) ∧
    ((eng 511 (vissuing 511 [] .clean (loaded 511 0xF4000000 { vpwr := 0, vfmt := 6, vcnt := 1 }))).etype == 5 || (eng 511 (vissuing 511 [] .clean (loaded 511 0xF4000000 { vpwr := 0, vfmt := 6, vcnt := 1 }))).etype == 6) = true) ∧
  ((Instr.vfmul 511 31 31 0 none).wf = true ∧
    VFree 511 isVecArith .clean [] [] (loaded 511 0xF4000000 { vpwr := 0, vfmt := 4, vcnt := 1 }) ∧
    ((eng 511 (vissuing 511 [] .clean (loaded 511 0xF4000000 { vpwr := 0, vfmt := 4, vcnt := 1 }))).etype == 5 || (eng 511 (vissuing 511 [] .clean (loaded 511 0xF4000000 { vpwr := 0, vfmt := 4, vcnt := 1 }))).etype == 6) = false ∧
    (eng 511 (vissuing 511 [] .clean (loaded 511 0xF4000000 { vpwr := 0, vfmt := 4, vcnt := 1 }))).bank = 0) ∧
  ((Instr.vfma 511 31 31 0 none).wf = true ∧
    VFree 511 isVecArith .clean [] [] (loaded 511 0xF4000000 { vpwr := 0, vfmt := 5, vcnt := 1 }) ∧
    ((eng 511 (vissuing 511 [] .clean (loaded 511 0xF4000000 { vpwr := 0, vfmt := 5, vcnt := 1 }))).etype = 5 ∨ (eng 511 (vissuing 511 [] .clean (loaded 511 0xF4000000 { vpwr := 0, vfmt := 5, vcnt := 1 }))).etype = 6)) ∧
  ((Instr.vcmul 511 31 31 0 none).wf = true ∧
    VFree 511 isVecArith .clean [] [] (loaded 511 0xF4000000 { vpwr := 0, vfmt := 3, vcnt := 1 }) ∧
    (eng 511 (vissuing 511 [] .clean (loaded 511 0xF4000000 { vpwr := 0, vfmt := 3, vcnt := 1 }))).etype = 3) := by
  with_reducible and_intros
  all_goals
    first
    | decide +kernel
    | (unfold VFree Running Ready; decide +kernel)

/-- Concrete inputs meet the hypotheses of VectorAccumulateResults, clause by clause. -/
theorem witness_VectorAccumulateResults :
  ((Instr.vcmacW 511 30 31 0 none).wf = true ∧
    VFree 511 isVecArith .clean [] [] (loaded 511 0xF4000000 { vpwr := 0, vfmt := 3, vcnt := 16 }) ∧
    (eng 511 (vissuing 511 [] .clean (loaded 511 0xF4000000 { vpwr := 0, vfmt := 3, vcnt := 16 }))).etype = 3 ∧ 30 % 2 = 0) ∧
  ((Instr.vracc 511 0 30 31).wf = true ∧ VFree 511 isVecArith .clean [] [] (loaded 511 0xF4000000 { vpwr := 0, vfmt := 3, vcnt := 16 }) ∧
    (eng 511 (vissuing 511 [] .clean (loaded 511 0xF4000000 { vpwr := 0, vfmt := 3, vcnt := 16 }))).etype = 3 ∧ 30 % 2 = 0 ∧ 0 ≠ 30 ∧
    0 ≠ 30 + 1) ∧
  ((Instr.vftap 511 30 0 1 31 true true true .clean).wf = true ∧
    VFree 511 (fun w => isVecArith w || isVecMem w) .clean [31] [31] (loaded 511 0xF4000000 { vpwr := 0, vfmt := 3, vcnt := 16, g := [(31, 0x3FFFE)] }) ∧
    (eng 511 (vissuing 511 [31] .clean (loaded 511 0xF4000000 { vpwr := 0, vfmt := 3, vcnt := 16, g := [(31, 0x3FFFE)] }))).etype = 3 ∧
    30 % 2 = 0 ∧ 0 ≠ 1 ∧ 0 ≠ 30 ∧ 0 ≠ 31 ∧ 1 ≠ 30 ∧ 1 ≠ 31 ∧
    (eng 511 (vissuing 511 [31] .clean (loaded 511 0xF4000000 { vpwr := 0, vfmt := 3, vcnt := 16, g := [(31, 0x3FFFE)] }))).vpos = 0 ∧
    ((eng 511 (vissuing 511 [31] .clean (loaded 511 0xF4000000 { vpwr := 0, vfmt := 3, vcnt := 16, g := [(31, 0x3FFFE)] }))).gr 31).toNat < 0x40000 ∧
    ((eng 511 (vissuing 511 [31] .clean (loaded 511 0xF4000000 { vpwr := 0, vfmt := 3, vcnt := 16, g := [(31, 0x3FFFE)] }))).gr 31).toNat % (if true then 2 else 4) = 0 ∧
    poisoned (engBase 511 + ((eng 511 (vissuing 511 [31] .clean (loaded 511 0xF4000000 { vpwr := 0, vfmt := 3, vcnt := 16, g := [(31, 0x3FFFE)] }))).gr 31).toNat) (if true then 2 else 4) (loaded 511 0xF4000000 { vpwr := 0, vfmt := 3, vcnt := 16, g := [(31, 0x3FFFE)] }) = false) ∧
  ((Instr.vftap 511 30 0 1 31 true false true .clean).wf = true ∧
    VFree 511 (fun w => isVecArith w || isVecMem w) .clean [31] [31] (loaded 511 0xF4000000 { vpwr := 0, vfmt := 3, vcnt := 16, g := [(31, 0x3FFFC)] }) ∧
    (eng 511 (vissuing 511 [31] .clean (loaded 511 0xF4000000 { vpwr := 0, vfmt := 3, vcnt := 16, g := [(31, 0x3FFFC)] }))).etype = 3 ∧
    30 % 2 = 0 ∧ 0 ≠ 1 ∧ 0 ≠ 30 ∧ 0 ≠ 31 ∧ 1 ≠ 30 ∧ 1 ≠ 31 ∧
    (eng 511 (vissuing 511 [31] .clean (loaded 511 0xF4000000 { vpwr := 0, vfmt := 3, vcnt := 16, g := [(31, 0x3FFFC)] }))).vpos = 0 ∧
    ((eng 511 (vissuing 511 [31] .clean (loaded 511 0xF4000000 { vpwr := 0, vfmt := 3, vcnt := 16, g := [(31, 0x3FFFC)] }))).gr 31).toNat < 0x40000 ∧
    ((eng 511 (vissuing 511 [31] .clean (loaded 511 0xF4000000 { vpwr := 0, vfmt := 3, vcnt := 16, g := [(31, 0x3FFFC)] }))).gr 31).toNat % (if false then 2 else 4) = 0 ∧
    poisoned (engBase 511 + ((eng 511 (vissuing 511 [31] .clean (loaded 511 0xF4000000 { vpwr := 0, vfmt := 3, vcnt := 16, g := [(31, 0x3FFFC)] }))).gr 31).toNat) (if false then 2 else 4) (loaded 511 0xF4000000 { vpwr := 0, vfmt := 3, vcnt := 16, g := [(31, 0x3FFFC)] }) = false) := by
  with_reducible and_intros
  all_goals
    first
    | decide +kernel
    | (unfold VFree Running Ready; decide +kernel)

/-- Concrete inputs meet the hypotheses of VectorMoveResults, clause by clause. -/
theorem witness_VectorMoveResults :
  ((Instr.vcmpEq 511 7 31 0).wf = true ∧ VFree 511 isVecArith .clean [] [] (loaded 511 0xF4000000 { vpwr := 0, vfmt := 2, vcnt := 16 }) ∧
    (eng 511 (vissuing 511 [] .clean (loaded 511 0xF4000000 { vpwr := 0, vfmt := 2, vcnt := 16 }))).etype ≤ 2) ∧
  ((Instr.vcmpLt 511 7 31 0).wf = true ∧ VFree 511 isVecArith .clean [] [] (loaded 511 0xF4000000 { vpwr := 0, vfmt := 2, vcnt := 16 }) ∧
    (eng 511 (vissuing 511 [] .clean (loaded 511 0xF4000000 { vpwr := 0, vfmt := 2, vcnt := 16 }))).etype ≤ 2) ∧
  ((Instr.vcmpLtu 511 7 31 0).wf = true ∧ VFree 511 isVecArith .clean [] [] (loaded 511 0xF4000000 { vpwr := 0, vfmt := 2, vcnt := 16 }) ∧
    (eng 511 (vissuing 511 [] .clean (loaded 511 0xF4000000 { vpwr := 0, vfmt := 2, vcnt := 16 }))).etype ≤ 2) ∧
  ((Instr.pand 511 7 7 0).wf = true ∧ VFree 511 isVecArith .clean [] [] (loaded 511 0xF4000000 { vpwr := 0, vfmt := 2, vcnt := 16 })) ∧
  ((Instr.por 511 7 7 0).wf = true ∧ VFree 511 isVecArith .clean [] [] (loaded 511 0xF4000000 { vpwr := 0, vfmt := 2, vcnt := 16 })) ∧
  ((Instr.pxor 511 7 7 0).wf = true ∧ VFree 511 isVecArith .clean [] [] (loaded 511 0xF4000000 { vpwr := 0, vfmt := 2, vcnt := 16 })) ∧
  ((Instr.pnot 511 7 0).wf = true ∧ VFree 511 isVecArith .clean [] [] (loaded 511 0xF4000000 { vpwr := 0, vfmt := 2, vcnt := 16 })) ∧
  ((Instr.vsel 511 31 7 31 0).wf = true ∧ VFree 511 isVecArith .clean [] [] (loaded 511 0xF4000000 { vpwr := 0, vfmt := 6, vcnt := 16 }) ∧
    (eng 511 (vissuing 511 [] .clean (loaded 511 0xF4000000 { vpwr := 0, vfmt := 6, vcnt := 16 }))).etype ≤ 6) ∧
  ((Instr.vbcast 511 31 31 none).wf = true ∧
    VFree 511 isVecArith .clean [31] [31] (loaded 511 0xF4000000 { vpwr := 0, vfmt := 6, vcnt := 16 }) ∧
    (eng 511 (vissuing 511 [31] .clean (loaded 511 0xF4000000 { vpwr := 0, vfmt := 6, vcnt := 16 }))).etype ≤ 6 ∧
    (eng 511 (vissuing 511 [31] .clean (loaded 511 0xF4000000 { vpwr := 0, vfmt := 6, vcnt := 16 }))).etype ≠ 4) ∧
  ((Instr.vins 511 31 31 15).wf = true ∧
    VFree 511 isVecArith .clean [31] [31] (loaded 511 0xF4000000 { vpwr := 0, vfmt := 6, vcnt := 16 }) ∧
    (eng 511 (vissuing 511 [31] .clean (loaded 511 0xF4000000 { vpwr := 0, vfmt := 6, vcnt := 16 }))).etype ≤ 6 ∧
    (eng 511 (vissuing 511 [31] .clean (loaded 511 0xF4000000 { vpwr := 0, vfmt := 6, vcnt := 16 }))).etype ≠ 4 ∧
    15 < (eng 511 (vissuing 511 [31] .clean (loaded 511 0xF4000000 { vpwr := 0, vfmt := 6, vcnt := 16 }))).nmax) ∧
  ((Instr.vext 511 31 31 15).wf = true ∧ VFree 511 isVecArith .clean [] [31] (loaded 511 0xF4000000 { vpwr := 0, vfmt := 6, vcnt := 16 }) ∧
    (eng 511 (vissuing 511 [] .clean (loaded 511 0xF4000000 { vpwr := 0, vfmt := 6, vcnt := 16 }))).etype ≤ 6 ∧
    (eng 511 (vissuing 511 [] .clean (loaded 511 0xF4000000 { vpwr := 0, vfmt := 6, vcnt := 16 }))).etype ≠ 4 ∧
    15 < (eng 511 (vissuing 511 [] .clean (loaded 511 0xF4000000 { vpwr := 0, vfmt := 6, vcnt := 16 }))).nmax) ∧
  ((Instr.vtperm 511 0 28 4 1 none).wf = true ∧
    VFree 511 isVecArith .clean [] [] (loaded 511 0xF4000000 { vpwr := 0, vfmt := 6, vcnt := 16 }) ∧
    (eng 511 (vissuing 511 [] .clean (loaded 511 0xF4000000 { vpwr := 0, vfmt := 6, vcnt := 16 }))).etype ≤ 6 ∧ 28 + 4 ≤ 32 ∧
    (0 < 28 ∨ 28 + 4 ≤ 0) ∧ 0 ≠ 1) ∧
  ((Instr.vsum 511 31 31 none).wf = true ∧ VFree 511 isVecArith .clean [] [] (loaded 511 0xF4000000 { vpwr := 0, vfmt := 2, vcnt := 16 }) ∧
    (eng 511 (vissuing 511 [] .clean (loaded 511 0xF4000000 { vpwr := 0, vfmt := 2, vcnt := 16 }))).etype ≤ 2 ∧
    (eng 511 (vissuing 511 [] .clean (loaded 511 0xF4000000 { vpwr := 0, vfmt := 2, vcnt := 16 }))).vpos = 0 ∧
    0 < (eng 511 (vissuing 511 [] .clean (loaded 511 0xF4000000 { vpwr := 0, vfmt := 2, vcnt := 16 }))).vcnt) := by
  with_reducible and_intros
  all_goals
    first
    | decide +kernel
    | (unfold VFree Running Ready; decide +kernel)

/-- Concrete inputs meet the hypotheses of CoprocessorResults, clause by clause. -/
theorem witness_CoprocessorResults :
  ((Instr.cop 511 (word [(26, 56), (19, 67), (11, 1), (9, 1), (4, 15), (1, 7)])).wf = true ∧
    Free 511 (word [(26, 56), (19, 67), (11, 1), (9, 1), (4, 15), (1, 7)]) .clean [fieldOf (word [(26, 56), (19, 67), (11, 1), (9, 1), (4, 15), (1, 7)]) 7 4, 2 * fieldOf (word [(26, 56), (19, 67), (11, 1), (9, 1), (4, 15), (1, 7)]) 3 1, 2 * fieldOf (word [(26, 56), (19, 67), (11, 1), (9, 1), (4, 15), (1, 7)]) 3 1 + 1] (loaded 511 (word [(26, 56), (19, 67), (11, 1), (9, 1), (4, 15), (1, 7)]) { g := [(14, 0x40)] }) ∧
    fieldOf (word [(26, 56), (19, 67), (11, 1), (9, 1), (4, 15), (1, 7)]) 8 8 = 0 ∧
    fieldOf (word [(26, 56), (19, 67), (11, 1), (9, 1), (4, 15), (1, 7)]) 0 0 = 0 ∧
    fieldOf (word [(26, 56), (19, 67), (11, 1), (9, 1), (4, 15), (1, 7)]) 25 19 < 68 ∧
    copHeld 511 (eng 511 (issuing 511 .clean (loaded 511 (word [(26, 56), (19, 67), (11, 1), (9, 1), (4, 15), (1, 7)]) { g := [(14, 0x40)] }))) (loaded 511 (word [(26, 56), (19, 67), (11, 1), (9, 1), (4, 15), (1, 7)]) { g := [(14, 0x40)] }) = false ∧
    farAddr (eng 511 (issuing 511 .clean (loaded 511 (word [(26, 56), (19, 67), (11, 1), (9, 1), (4, 15), (1, 7)]) { g := [(14, 0x40)] }))) (fieldOf (word [(26, 56), (19, 67), (11, 1), (9, 1), (4, 15), (1, 7)]) 3 1) % 64 = 0) ∧
  (Running (flying [(pkt 9 (.eng 511) useCop (.cop 67 1 0 511) .served 0 (some (0, [copAccept])))] (runs 511 { wait := .cop, cop := some ⟨67, 15, true, 0, 9, false⟩ })) ∧
    (eng 511 (flying [(pkt 9 (.eng 511) useCop (.cop 67 1 0 511) .served 0 (some (0, [copAccept])))] (runs 511 { wait := .cop, cop := some ⟨67, 15, true, 0, 9, false⟩ }))).cop = some ⟨67, 15, true, 0, 9, false⟩ ∧
    txnOf 9 (flying [(pkt 9 (.eng 511) useCop (.cop 67 1 0 511) .served 0 (some (0, [copAccept])))] (runs 511 { wait := .cop, cop := some ⟨67, 15, true, 0, 9, false⟩ })) = some (pkt 9 (.eng 511) useCop (.cop 67 1 0 511) .served 0 (some (0, [copAccept]))) ∧
    (pkt 9 (.eng 511) useCop (.cop 67 1 0 511) .served 0 (some (0, [copAccept]))).late = false ∧
    (eng 511 (flying [(pkt 9 (.eng 511) useCop (.cop 67 1 0 511) .served 0 (some (0, [copAccept])))] (runs 511 { wait := .cop, cop := some ⟨67, 15, true, 0, 9, false⟩ }))).kill = 0 ∧
    (eng 511 (flying [(pkt 9 (.eng 511) useCop (.cop 67 1 0 511) .served 0 (some (0, [copAccept])))] (runs 511 { wait := .cop, cop := some ⟨67, 15, true, 0, 9, false⟩ }))).rem = 0 ∧
    (eng 511 (settle 511 (flying [(pkt 9 (.eng 511) useCop (.cop 67 1 0 511) .served 0 (some (0, [copAccept])))] (runs 511 { wait := .cop, cop := some ⟨67, 15, true, 0, 9, false⟩ })))).bank = 0) ∧
  (Running (flying [(pkt 9 (.eng 511) useCop (.cop 67 1 0 511) .served 0 (some (0, [copBusy])))] (runs 511 { wait := .cop, cop := some ⟨67, 15, true, 0, 9, false⟩ })) ∧
    (eng 511 (flying [(pkt 9 (.eng 511) useCop (.cop 67 1 0 511) .served 0 (some (0, [copBusy])))] (runs 511 { wait := .cop, cop := some ⟨67, 15, true, 0, 9, false⟩ }))).cop = some ⟨67, 15, true, 0, 9, false⟩ ∧
    txnOf 9 (flying [(pkt 9 (.eng 511) useCop (.cop 67 1 0 511) .served 0 (some (0, [copBusy])))] (runs 511 { wait := .cop, cop := some ⟨67, 15, true, 0, 9, false⟩ })) = some (pkt 9 (.eng 511) useCop (.cop 67 1 0 511) .served 0 (some (0, [copBusy]))) ∧
    (pkt 9 (.eng 511) useCop (.cop 67 1 0 511) .served 0 (some (0, [copBusy]))).late = false ∧
    (eng 511 (flying [(pkt 9 (.eng 511) useCop (.cop 67 1 0 511) .served 0 (some (0, [copBusy])))] (runs 511 { wait := .cop, cop := some ⟨67, 15, true, 0, 9, false⟩ }))).kill = 0 ∧
    (eng 511 (flying [(pkt 9 (.eng 511) useCop (.cop 67 1 0 511) .served 0 (some (0, [copBusy])))] (runs 511 { wait := .cop, cop := some ⟨67, 15, true, 0, 9, false⟩ }))).rem = 0 ∧
    (eng 511 (settle 511 (flying [(pkt 9 (.eng 511) useCop (.cop 67 1 0 511) .served 0 (some (0, [copBusy])))] (runs 511 { wait := .cop, cop := some ⟨67, 15, true, 0, 9, false⟩ })))).bank = 0) ∧
  (Running (flying [(pkt 9 (.eng 511) useCop (.cop 67 1 0 511) .served 0 (some (0, [copBusy])))] (runs 511 { wait := .cop, cop := some ⟨67, 15, false, 0, 9, false⟩ })) ∧
    (eng 511 (flying [(pkt 9 (.eng 511) useCop (.cop 67 1 0 511) .served 0 (some (0, [copBusy])))] (runs 511 { wait := .cop, cop := some ⟨67, 15, false, 0, 9, false⟩ }))).cop = some ⟨67, 15, false, 0, 9, false⟩ ∧
    txnOf 9 (flying [(pkt 9 (.eng 511) useCop (.cop 67 1 0 511) .served 0 (some (0, [copBusy])))] (runs 511 { wait := .cop, cop := some ⟨67, 15, false, 0, 9, false⟩ })) = some (pkt 9 (.eng 511) useCop (.cop 67 1 0 511) .served 0 (some (0, [copBusy]))) ∧
    (pkt 9 (.eng 511) useCop (.cop 67 1 0 511) .served 0 (some (0, [copBusy]))).late = false ∧
    (eng 511 (flying [(pkt 9 (.eng 511) useCop (.cop 67 1 0 511) .served 0 (some (0, [copBusy])))] (runs 511 { wait := .cop, cop := some ⟨67, 15, false, 0, 9, false⟩ }))).kill = 0 ∧
    (eng 511 (flying [(pkt 9 (.eng 511) useCop (.cop 67 1 0 511) .served 0 (some (0, [copBusy])))] (runs 511 { wait := .cop, cop := some ⟨67, 15, false, 0, 9, false⟩ }))).rem = 0 ∧
    (eng 511 (settle 511 (flying [(pkt 9 (.eng 511) useCop (.cop 67 1 0 511) .served 0 (some (0, [copBusy])))] (runs 511 { wait := .cop, cop := some ⟨67, 15, false, 0, 9, false⟩ })))).bank = 0) ∧
  (Running (flying [(pkt 9 (.eng 511) useCop (.cop 67 1 0 511) .served 0 (some (0, [copRefuse])))] (runs 511 { wait := .cop, cop := some ⟨67, 15, false, 0, 9, false⟩ })) ∧
    (eng 511 (flying [(pkt 9 (.eng 511) useCop (.cop 67 1 0 511) .served 0 (some (0, [copRefuse])))] (runs 511 { wait := .cop, cop := some ⟨67, 15, false, 0, 9, false⟩ }))).cop = some ⟨67, 15, false, 0, 9, false⟩ ∧
    txnOf 9 (flying [(pkt 9 (.eng 511) useCop (.cop 67 1 0 511) .served 0 (some (0, [copRefuse])))] (runs 511 { wait := .cop, cop := some ⟨67, 15, false, 0, 9, false⟩ })) = some (pkt 9 (.eng 511) useCop (.cop 67 1 0 511) .served 0 (some (0, [copRefuse]))) ∧
    (pkt 9 (.eng 511) useCop (.cop 67 1 0 511) .served 0 (some (0, [copRefuse]))).late = false ∧
    (eng 511 (flying [(pkt 9 (.eng 511) useCop (.cop 67 1 0 511) .served 0 (some (0, [copRefuse])))] (runs 511 { wait := .cop, cop := some ⟨67, 15, false, 0, 9, false⟩ }))).kill = 0 ∧
    (eng 511 (flying [(pkt 9 (.eng 511) useCop (.cop 67 1 0 511) .served 0 (some (0, [copRefuse])))] (runs 511 { wait := .cop, cop := some ⟨67, 15, false, 0, 9, false⟩ }))).rem = 0 ∧
    (eng 511 (settle 511 (flying [(pkt 9 (.eng 511) useCop (.cop 67 1 0 511) .served 0 (some (0, [copRefuse])))] (runs 511 { wait := .cop, cop := some ⟨67, 15, false, 0, 9, false⟩ })))).bank = 0) ∧
  (Running (flying [(pkt 9 (.eng 511) useWithdraw (.withdraw 67 511) .served 0 (some (0, [])))] (runs 511)) ∧
    txnOf 9 (flying [(pkt 9 (.eng 511) useWithdraw (.withdraw 67 511) .served 0 (some (0, [])))] (runs 511)) = some (pkt 9 (.eng 511) useWithdraw (.withdraw 67 511) .served 0 (some (0, []))) ∧
    (pkt 9 (.eng 511) useWithdraw (.withdraw 67 511) .served 0 (some (0, []))).agent = .eng 511 ∧
    (pkt 9 (.eng 511) useWithdraw (.withdraw 67 511) .served 0 (some (0, []))).use = useWithdraw ∧
    (pkt 9 (.eng 511) useWithdraw (.withdraw 67 511) .served 0 (some (0, []))).ans.isSome = true ∧
    (pkt 9 (.eng 511) useWithdraw (.withdraw 67 511) .served 0 (some (0, []))).late = false) := by
  with_reducible and_intros
  all_goals
    first
    | decide +kernel
    | (unfold Running; decide +kernel)
    | (unfold Free Running Ready; decide +kernel)

/-- An accelerator unit `k` that is `u`. -/
def unit (k : Nat) (u : AccUnit) : State := { State.reset with acc := [(k, u)] }

/-- A parameter block of a transform of one block of 2 samples (R179), its header and buffer entries (R137, R138). -/
def ftPar : List Byte := leBytes 4 1 ++ leBytes 4 0 ++ leBytes 4 2 ++ List.replicate 52 0
def ftHdr : List Byte := leBytes 4 0x15110000 ++ List.replicate 12 0 ++ leBytes 4 0x1000 ++ leBytes 4 0x10000 ++ List.replicate 40 0
def ftEnts : List Byte := leBytes 8 0x2000 ++ leBytes 8 64 ++ leBytes 8 0x3000 ++ leBytes 8 64

/-- A job of it, queued. -/
def aJob : Job := { no := 1, eng := 511, opc := 1, desc := 0x40, hdr := ftHdr, ents := ftEnts, par := ftPar }

/-- Concrete inputs meet the hypotheses of AcceleratorAttempts, clause by clause. -/
theorem witness_AcceleratorAttempts :
  (Running (flying [(pkt 9 (.eng 511) useCop (.cop 67 1 0x40 511) .accepted)] (regs [(Reg.ACC_CTRL 67, 0)])) ∧
    txnOf 9 (flying [(pkt 9 (.eng 511) useCop (.cop 67 1 0x40 511) .accepted)] (regs [(Reg.ACC_CTRL 67, 0)])) = some (pkt 9 (.eng 511) useCop (.cop 67 1 0x40 511) .accepted) ∧
    (pkt 9 (.eng 511) useCop (.cop 67 1 0x40 511) .accepted).body = (.cop 67 1 0x40 511) ∧
    (pkt 9 (.eng 511) useCop (.cop 67 1 0x40 511) .accepted).stage = .accepted ∧
    (pkt 9 (.eng 511) useCop (.cop 67 1 0x40 511) .accepted).ans = none ∧
    (∀ a ∈ (acc 67 (flying [(pkt 9 (.eng 511) useCop (.cop 67 1 0x40 511) .accepted)] (regs [(Reg.ACC_CTRL 67, 0)]))).attempts, a.id ≠ 9) ∧
    (∀ r ∈ (acc 67 (flying [(pkt 9 (.eng 511) useCop (.cop 67 1 0x40 511) .accepted)] (regs [(Reg.ACC_CTRL 67, 0)]))).refusals, r.2 ≠ 9) ∧
    flagOn (Reg.ACC_CTRL 67) 0 (flying [(pkt 9 (.eng 511) useCop (.cop 67 1 0x40 511) .accepted)] (regs [(Reg.ACC_CTRL 67, 0)])) = false) ∧
  (Running (flying [(pkt 9 (.eng 511) useCop (.cop 67 1 0x40 511) .accepted)] (regs [(Reg.ACC_CTRL 67, 1)])) ∧
    txnOf 9 (flying [(pkt 9 (.eng 511) useCop (.cop 67 1 0x40 511) .accepted)] (regs [(Reg.ACC_CTRL 67, 1)])) = some (pkt 9 (.eng 511) useCop (.cop 67 1 0x40 511) .accepted) ∧
    (pkt 9 (.eng 511) useCop (.cop 67 1 0x40 511) .accepted).body = (.cop 67 1 0x40 511) ∧
    (pkt 9 (.eng 511) useCop (.cop 67 1 0x40 511) .accepted).stage = .accepted ∧
    (pkt 9 (.eng 511) useCop (.cop 67 1 0x40 511) .accepted).ans = none ∧
    (∀ a ∈ (acc 67 (flying [(pkt 9 (.eng 511) useCop (.cop 67 1 0x40 511) .accepted)] (regs [(Reg.ACC_CTRL 67, 1)]))).attempts, a.id ≠ 9) ∧
    (∀ r ∈ (acc 67 (flying [(pkt 9 (.eng 511) useCop (.cop 67 1 0x40 511) .accepted)] (regs [(Reg.ACC_CTRL 67, 1)]))).refusals, r.2 ≠ 9) ∧
    flagOn (Reg.ACC_CTRL 67) 0 (flying [(pkt 9 (.eng 511) useCop (.cop 67 1 0x40 511) .accepted)] (regs [(Reg.ACC_CTRL 67, 1)])) = true ∧
    opcKnown (slotKind 67) 1 = true ∧
    accHeld 67 (flying [(pkt 9 (.eng 511) useCop (.cop 67 1 0x40 511) .accepted)] (regs [(Reg.ACC_CTRL 67, 1)])) = false ∧
    (acc 67 (flying [(pkt 9 (.eng 511) useCop (.cop 67 1 0x40 511) .accepted)] (regs [(Reg.ACC_CTRL 67, 1)]))).jobs.length + (acc 67 (flying [(pkt 9 (.eng 511) useCop (.cop 67 1 0x40 511) .accepted)] (regs [(Reg.ACC_CTRL 67, 1)]))).attempts.length < queueLimit 67 (flying [(pkt 9 (.eng 511) useCop (.cop 67 1 0x40 511) .accepted)] (regs [(Reg.ACC_CTRL 67, 1)]))) ∧
  (Running (flying [(pkt 9 (.eng 511) useCop (.cop 67 2 0x40 511) .accepted)] (regs [(Reg.ACC_CTRL 67, 1)])) ∧
    txnOf 9 (flying [(pkt 9 (.eng 511) useCop (.cop 67 2 0x40 511) .accepted)] (regs [(Reg.ACC_CTRL 67, 1)])) = some (pkt 9 (.eng 511) useCop (.cop 67 2 0x40 511) .accepted) ∧
    (∀ a ∈ (acc 67 (flying [(pkt 9 (.eng 511) useCop (.cop 67 2 0x40 511) .accepted)] (regs [(Reg.ACC_CTRL 67, 1)]))).attempts, a.id ≠ 9) ∧
    (∀ r ∈ (acc 67 (flying [(pkt 9 (.eng 511) useCop (.cop 67 2 0x40 511) .accepted)] (regs [(Reg.ACC_CTRL 67, 1)]))).refusals, r.2 ≠ 9) ∧
    flagOn (Reg.ACC_CTRL 67) 0 (flying [(pkt 9 (.eng 511) useCop (.cop 67 2 0x40 511) .accepted)] (regs [(Reg.ACC_CTRL 67, 1)])) = true ∧
    opcKnown (slotKind 67) 2 = false) ∧
  (Running (flying [(pkt 9 (.eng 511) useCop (.cop 67 1 0x40 511) .accepted)] (regs [(Reg.ACC_CTRL 67, 0x10001)] (unit 67 { jobs := [aJob] }))) ∧
    txnOf 9 (flying [(pkt 9 (.eng 511) useCop (.cop 67 1 0x40 511) .accepted)] (regs [(Reg.ACC_CTRL 67, 0x10001)] (unit 67 { jobs := [aJob] }))) = some (pkt 9 (.eng 511) useCop (.cop 67 1 0x40 511) .accepted) ∧
    (∀ a ∈ (acc 67 (flying [(pkt 9 (.eng 511) useCop (.cop 67 1 0x40 511) .accepted)] (regs [(Reg.ACC_CTRL 67, 0x10001)] (unit 67 { jobs := [aJob] })))).attempts, a.id ≠ 9) ∧
    (∀ r ∈ (acc 67 (flying [(pkt 9 (.eng 511) useCop (.cop 67 1 0x40 511) .accepted)] (regs [(Reg.ACC_CTRL 67, 0x10001)] (unit 67 { jobs := [aJob] })))).refusals, r.2 ≠ 9) ∧
    flagOn (Reg.ACC_CTRL 67) 0 (flying [(pkt 9 (.eng 511) useCop (.cop 67 1 0x40 511) .accepted)] (regs [(Reg.ACC_CTRL 67, 0x10001)] (unit 67 { jobs := [aJob] }))) = true ∧
    opcKnown (slotKind 67) 1 = true ∧
    (accHeld 67 (flying [(pkt 9 (.eng 511) useCop (.cop 67 1 0x40 511) .accepted)] (regs [(Reg.ACC_CTRL 67, 0x10001)] (unit 67 { jobs := [aJob] }))) = true ∨ queueLimit 67 (flying [(pkt 9 (.eng 511) useCop (.cop 67 1 0x40 511) .accepted)] (regs [(Reg.ACC_CTRL 67, 0x10001)] (unit 67 { jobs := [aJob] }))) ≤ (acc 67 (flying [(pkt 9 (.eng 511) useCop (.cop 67 1 0x40 511) .accepted)] (regs [(Reg.ACC_CTRL 67, 0x10001)] (unit 67 { jobs := [aJob] })))).jobs.length + (acc 67 (flying [(pkt 9 (.eng 511) useCop (.cop 67 1 0x40 511) .accepted)] (regs [(Reg.ACC_CTRL 67, 0x10001)] (unit 67 { jobs := [aJob] })))).attempts.length)) ∧
  (Running (flying [pkt 9 (.eng 511) useCop (.cop 36 1 0x40 511) .accepted, pkt 10 (.acc 36) (useFetch 9) (.read 64) .served 0x40 (some (0, ftHdr))] (unit 36 { attempts := [(⟨9, 511, 1, 0x40, none⟩ : Attempt)] })) ∧
    (acc 36 (flying [pkt 9 (.eng 511) useCop (.cop 36 1 0x40 511) .accepted, pkt 10 (.acc 36) (useFetch 9) (.read 64) .served 0x40 (some (0, ftHdr))] (unit 36 { attempts := [(⟨9, 511, 1, 0x40, none⟩ : Attempt)] }))).attempts.find? (fun b => b.id == 9) = some (⟨9, 511, 1, 0x40, none⟩ : Attempt) ∧
    unanswered (.acc 36) (useFetch 9) (flying [pkt 9 (.eng 511) useCop (.cop 36 1 0x40 511) .accepted, pkt 10 (.acc 36) (useFetch 9) (.read 64) .served 0x40 (some (0, ftHdr))] (unit 36 { attempts := [(⟨9, 511, 1, 0x40, none⟩ : Attempt)] })) = false ∧
    firstBad (answersOf (.acc 36) (useFetch 9) (flying [pkt 9 (.eng 511) useCop (.cop 36 1 0x40 511) .accepted, pkt 10 (.acc 36) (useFetch 9) (.read 64) .served 0x40 (some (0, ftHdr))] (unit 36 { attempts := [(⟨9, 511, 1, 0x40, none⟩ : Attempt)] }))) = none) ∧
  (Running (flying [pkt 9 (.eng 511) useCop (.cop 36 1 0x40 511) .accepted, pkt 10 (.acc 36) (useFetch 9) (.read 32) .served 0x80 (some (0, ftEnts)), pkt 11 (.acc 36) (useFetch 9) (.read 64) .served 0x1000 (some (0, ftPar))] (unit 36 { attempts := [(⟨9, 511, 1, 0x40, some ftHdr⟩ : Attempt)] })) ∧
    (acc 36 (flying [pkt 9 (.eng 511) useCop (.cop 36 1 0x40 511) .accepted, pkt 10 (.acc 36) (useFetch 9) (.read 32) .served 0x80 (some (0, ftEnts)), pkt 11 (.acc 36) (useFetch 9) (.read 64) .served 0x1000 (some (0, ftPar))] (unit 36 { attempts := [(⟨9, 511, 1, 0x40, some ftHdr⟩ : Attempt)] }))).attempts.find? (fun b => b.id == 9) = some (⟨9, 511, 1, 0x40, some ftHdr⟩ : Attempt) ∧
    unanswered (.acc 36) (useFetch 9) (flying [pkt 9 (.eng 511) useCop (.cop 36 1 0x40 511) .accepted, pkt 10 (.acc 36) (useFetch 9) (.read 32) .served 0x80 (some (0, ftEnts)), pkt 11 (.acc 36) (useFetch 9) (.read 64) .served 0x1000 (some (0, ftPar))] (unit 36 { attempts := [(⟨9, 511, 1, 0x40, some ftHdr⟩ : Attempt)] })) = false ∧
    firstBad (answersOf (.acc 36) (useFetch 9) (flying [pkt 9 (.eng 511) useCop (.cop 36 1 0x40 511) .accepted, pkt 10 (.acc 36) (useFetch 9) (.read 32) .served 0x80 (some (0, ftEnts)), pkt 11 (.acc 36) (useFetch 9) (.read 64) .served 0x1000 (some (0, ftPar))] (unit 36 { attempts := [(⟨9, 511, 1, 0x40, some ftHdr⟩ : Attempt)] }))) = none ∧
    lateRefusal (slotKind 36) 1 ftHdr (gathered (answersOf (.acc 36) (useFetch 9) (flying [pkt 9 (.eng 511) useCop (.cop 36 1 0x40 511) .accepted, pkt 10 (.acc 36) (useFetch 9) (.read 32) .served 0x80 (some (0, ftEnts)), pkt 11 (.acc 36) (useFetch 9) (.read 64) .served 0x1000 (some (0, ftPar))] (unit 36 { attempts := [(⟨9, 511, 1, 0x40, some ftHdr⟩ : Attempt)] }))) (0x40 + 64) (16 * (hNin ftHdr + hNout ftHdr))) (gathered (answersOf (.acc 36) (useFetch 9) (flying [pkt 9 (.eng 511) useCop (.cop 36 1 0x40 511) .accepted, pkt 10 (.acc 36) (useFetch 9) (.read 32) .served 0x80 (some (0, ftEnts)), pkt 11 (.acc 36) (useFetch 9) (.read 64) .served 0x1000 (some (0, ftPar))] (unit 36 { attempts := [(⟨9, 511, 1, 0x40, some ftHdr⟩ : Attempt)] }))) (hParam ftHdr) (64 * hPlen ftHdr)) = none ∧
    (∀ x, txnOf 9 (flying [pkt 9 (.eng 511) useCop (.cop 36 1 0x40 511) .accepted, pkt 10 (.acc 36) (useFetch 9) (.read 32) .served 0x80 (some (0, ftEnts)), pkt 11 (.acc 36) (useFetch 9) (.read 64) .served 0x1000 (some (0, ftPar))] (unit 36 { attempts := [(⟨9, 511, 1, 0x40, some ftHdr⟩ : Attempt)] })) = some x → x.ans = none)) ∧
  (Running (flying [(pkt 9 (.eng 511) useWithdraw (.withdraw 67 511) .accepted)]) ∧
    txnOf 9 (flying [(pkt 9 (.eng 511) useWithdraw (.withdraw 67 511) .accepted)]) = some (pkt 9 (.eng 511) useWithdraw (.withdraw 67 511) .accepted) ∧
    (pkt 9 (.eng 511) useWithdraw (.withdraw 67 511) .accepted).body = .withdraw 67 511 ∧
    (pkt 9 (.eng 511) useWithdraw (.withdraw 67 511) .accepted).stage = .accepted ∧
    (pkt 9 (.eng 511) useWithdraw (.withdraw 67 511) .accepted).ans = none) ∧
  (Running (regs [(Reg.ACC_CTRL 67, 1)] (unit 67 { jobs := [aJob] })) ∧
    Open 0 (Reg.ACC_CTRL 67) false true (withBits 1 1 1 1) (regs [(Reg.ACC_CTRL 67, 1)] (unit 67 { jobs := [aJob] })) ∧
    (∀ j ∈ (acc 67 (regs [(Reg.ACC_CTRL 67, 1)] (unit 67 { jobs := [aJob] }))).jobs, j.phase < 3)) ∧
  (Running (regs [(Reg.ACC_CTRL 67, 1)] (unit 67 { jobs := [{ aJob with phase := 3 }] })) ∧
    Open 0 (Reg.ACC_CTRL 67) false true (withBits 1 1 1 1) (regs [(Reg.ACC_CTRL 67, 1)] (unit 67 { jobs := [{ aJob with phase := 3 }] })) ∧
    (∀ j ∈ (acc 67 (regs [(Reg.ACC_CTRL 67, 1)] (unit 67 { jobs := [{ aJob with phase := 3 }] }))).jobs, ¬ j.phase < 3)) := by
  with_reducible and_intros
  all_goals
    first
    | decide +kernel
    | (unfold Running; decide +kernel)
    | exact open_of (by decide +kernel)

/-- A job with DEADLINE 1, to be written as withdrawn or not, ended OK, its token asked for. -/
def lateJob : Job := { aJob with hdr := leBytes 4 0x15111000 ++ List.replicate 4 0 ++ leBytes 4 1 ++ ftHdr.drop 12 }

/-- Concrete inputs meet the hypotheses of AcceleratorJobs, clause by clause. -/
theorem witness_AcceleratorJobs :
  (Running (unit 36 { jobs := [aJob] }) ∧ (acc 36 (unit 36 { jobs := [aJob] })).jobs = aJob :: [] ∧ aJob.phase = 0 ∧ aJob.aborted = false ∧
    domSleeps (accDom 36) (unit 36 { jobs := [aJob] }) = false ∧ hw aJob.hdr 2 = 0 ∧ aJob.err = none) ∧
  (Running (unit 36 { jobs := [{ aJob with phase := 2 }, { aJob with no := 2 }] }) ∧
    (acc 36 (unit 36 { jobs := [{ aJob with phase := 2 }, { aJob with no := 2 }] })).jobs = ({ aJob with phase := 2 } : Job) :: [({ aJob with no := 2 } : Job)] ∧
    domSleeps (accDom 36) (unit 36 { jobs := [{ aJob with phase := 2 }, { aJob with no := 2 }] }) = false ∧
    2 ≤ ({ aJob with phase := 2 } : Job).phase ∧ ({ aJob with no := 2 } : Job).ahead = false ∧
    ({ aJob with no := 2 } : Job).aborted = false ∧ aJob.no ≠ 2) ∧
  (Running (regs [(Reg.ROUND_NOW, 2)] (unit 36 { jobs := [lateJob] })) ∧
    (acc 36 (regs [(Reg.ROUND_NOW, 2)] (unit 36 { jobs := [lateJob] }))).jobs = lateJob :: [] ∧ lateJob.phase = 0 ∧
    lateJob.aborted = false ∧ domSleeps (accDom 36) (regs [(Reg.ROUND_NOW, 2)] (unit 36 { jobs := [lateJob] })) = false ∧
    hw lateJob.hdr 2 ≠ 0 ∧ deadlineOver (roundNow (regs [(Reg.ROUND_NOW, 2)] (unit 36 { jobs := [lateJob] }))) (hw lateJob.hdr 2) = true ∧
    lateJob.withdrawn = false) ∧
  (Running (flying [(pkt 9 (.acc 36) (useJob 1 7) (.read 8) .served 0x2000 (some (0, [1, 2, 3, 4, 5, 6, 7, 8])))] (unit 36 { jobs := [{ aJob with phase := 1 }] })) ∧
    (acc 36 (flying [(pkt 9 (.acc 36) (useJob 1 7) (.read 8) .served 0x2000 (some (0, [1, 2, 3, 4, 5, 6, 7, 8])))] (unit 36 { jobs := [{ aJob with phase := 1 }] }))).jobs = ({ aJob with phase := 1 } : Job) :: [] ∧
    txnOf 9 (flying [(pkt 9 (.acc 36) (useJob 1 7) (.read 8) .served 0x2000 (some (0, [1, 2, 3, 4, 5, 6, 7, 8])))] (unit 36 { jobs := [{ aJob with phase := 1 }] })) = some (pkt 9 (.acc 36) (useJob 1 7) (.read 8) .served 0x2000 (some (0, [1, 2, 3, 4, 5, 6, 7, 8]))) ∧
    (pkt 9 (.acc 36) (useJob 1 7) (.read 8) .served 0x2000 (some (0, [1, 2, 3, 4, 5, 6, 7, 8]))).agent = .acc 36 ∧
    (pkt 9 (.acc 36) (useJob 1 7) (.read 8) .served 0x2000 (some (0, [1, 2, 3, 4, 5, 6, 7, 8]))).use = useJob 1 7 ∧
    (pkt 9 (.acc 36) (useJob 1 7) (.read 8) .served 0x2000 (some (0, [1, 2, 3, 4, 5, 6, 7, 8]))).ans = some (0, [1, 2, 3, 4, 5, 6, 7, 8]) ∧
    ({ aJob with phase := 1 } : Job).phase = 1 ∧ ({ aJob with phase := 1 } : Job).aborted = false ∧
    (pkt 9 (.acc 36) (useJob 1 7) (.read 8) .served 0x2000 (some (0, [1, 2, 3, 4, 5, 6, 7, 8]))).late = false ∧
    9 < nextTxn (flying [(pkt 9 (.acc 36) (useJob 1 7) (.read 8) .served 0x2000 (some (0, [1, 2, 3, 4, 5, 6, 7, 8])))] (unit 36 { jobs := [{ aJob with phase := 1 }] }))) ∧
  (Running (unit 36 { jobs := [{ aJob with phase := 1 }] }) ∧
    (acc 36 (unit 36 { jobs := [{ aJob with phase := 1 }] })).jobs = ({ aJob with phase := 1 } : Job) :: [] ∧
    inputsOpen 36 ({ aJob with phase := 1 }) (unit 36 { jobs := [{ aJob with phase := 1 }] }) = false) ∧
  (Running (unit 36 { jobs := [{ aJob with phase := 2 }] }) ∧
    (acc 36 (unit 36 { jobs := [{ aJob with phase := 2 }] })).jobs = ({ aJob with phase := 2 } : Job) :: [] ∧
    (∀ i, i < 8 → unanswered (.acc 36) (useJob 1 (useOut + i)) (unit 36 { jobs := [{ aJob with phase := 2 }] }) = false) ∧
    firstBad (outAnswers 36 ({ aJob with phase := 2 }) (unit 36 { jobs := [{ aJob with phase := 2 }] })) = none) ∧
  (Running (flying [(pkt 9 (.acc 36) (useJob 1 useResult) (.write [0, 0, 0, 0]) .served 0x78 (some (0, [])))] (unit 36 { jobs := [{ aJob with phase := 3 }] })) ∧
    (acc 36 (flying [(pkt 9 (.acc 36) (useJob 1 useResult) (.write [0, 0, 0, 0]) .served 0x78 (some (0, [])))] (unit 36 { jobs := [{ aJob with phase := 3 }] }))).jobs = ({ aJob with phase := 3 } : Job) :: [] ∧
    waitingAns (.acc 36) (useJob 1 useResult) (flying [(pkt 9 (.acc 36) (useJob 1 useResult) (.write [0, 0, 0, 0]) .served 0x78 (some (0, [])))] (unit 36 { jobs := [{ aJob with phase := 3 }] })) = some ((pkt 9 (.acc 36) (useJob 1 useResult) (.write [0, 0, 0, 0]) .served 0x78 (some (0, []))), 0, [])) ∧
  (Running (flying [(pkt 9 (.acc 36) (useJob 1 useStatus) (.write [0, 0, 0, 0]) .served 0x7C (some (0, [])))] (unit 36 { jobs := [{ lateJob with phase := 4, statusId := 9, withdrawn := false }] })) ∧
    txnOf 9 (flying [(pkt 9 (.acc 36) (useJob 1 useStatus) (.write [0, 0, 0, 0]) .served 0x7C (some (0, [])))] (unit 36 { jobs := [{ lateJob with phase := 4, statusId := 9, withdrawn := false }] })) = some (pkt 9 (.acc 36) (useJob 1 useStatus) (.write [0, 0, 0, 0]) .served 0x7C (some (0, []))) ∧
    (acc 36 (flying [(pkt 9 (.acc 36) (useJob 1 useStatus) (.write [0, 0, 0, 0]) .served 0x7C (some (0, [])))] (unit 36 { jobs := [{ lateJob with phase := 4, statusId := 9, withdrawn := false }] }))).refusals.find? (fun q => q.1 == 9) = none ∧
    (acc 36 (flying [(pkt 9 (.acc 36) (useJob 1 useStatus) (.write [0, 0, 0, 0]) .served 0x7C (some (0, [])))] (unit 36 { jobs := [{ lateJob with phase := 4, statusId := 9, withdrawn := false }] }))).jobs = ({ lateJob with phase := 4, statusId := 9, withdrawn := false } : Job) :: [] ∧
    ({ lateJob with phase := 4, statusId := 9, withdrawn := false } : Job).status.1 = 1 ∧ bitOf (hw lateJob.hdr 0) 12 = true ∧
    originCode (srcOf (.acc 36) (flying [(pkt 9 (.acc 36) (useJob 1 useStatus) (.write [0, 0, 0, 0]) .served 0x7C (some (0, [])))] (unit 36 { jobs := [{ lateJob with phase := 4, statusId := 9, withdrawn := false }] }))) 3 0 (.token (bitsOf (hw lateJob.hdr 1) 15 13) (bitsOf (hw lateJob.hdr 1) 12 0) (bitsOf (hw lateJob.hdr 1) 18 16) (({ lateJob with phase := 4, statusId := 9, withdrawn := false } : Job).statusWord 36 % 4294967296)) (flying [(pkt 9 (.acc 36) (useJob 1 useStatus) (.write [0, 0, 0, 0]) .served 0x7C (some (0, [])))] (unit 36 { jobs := [{ lateJob with phase := 4, statusId := 9, withdrawn := false }] })) = none) ∧
  (Running (flying [(pkt 9 (.acc 36) (useJob 1 useStatus) (.write [0, 0, 0, 0]) .served 0x7C (some (0, [])))] (unit 36 { jobs := [{ lateJob with phase := 4, statusId := 9, fail := 1 }] })) ∧
    txnOf 9 (flying [(pkt 9 (.acc 36) (useJob 1 useStatus) (.write [0, 0, 0, 0]) .served 0x7C (some (0, [])))] (unit 36 { jobs := [{ lateJob with phase := 4, statusId := 9, fail := 1 }] })) = some (pkt 9 (.acc 36) (useJob 1 useStatus) (.write [0, 0, 0, 0]) .served 0x7C (some (0, []))) ∧
    (acc 36 (flying [(pkt 9 (.acc 36) (useJob 1 useStatus) (.write [0, 0, 0, 0]) .served 0x7C (some (0, [])))] (unit 36 { jobs := [{ lateJob with phase := 4, statusId := 9, fail := 1 }] }))).refusals.find? (fun q => q.1 == 9) = none ∧
    (acc 36 (flying [(pkt 9 (.acc 36) (useJob 1 useStatus) (.write [0, 0, 0, 0]) .served 0x7C (some (0, [])))] (unit 36 { jobs := [{ lateJob with phase := 4, statusId := 9, fail := 1 }] }))).jobs = ({ lateJob with phase := 4, statusId := 9, fail := 1 } : Job) :: [] ∧
    ({ lateJob with phase := 4, statusId := 9, fail := 1 } : Job).status.1 = 2) ∧
  (Running (flying [(pkt 9 (.acc 36) (useJob 1 useStatus) (.write [0, 0, 0, 0]) .served 0x7C (some (0, [])))] (unit 36 { jobs := [{ lateJob with phase := 4, statusId := 9, withdrawn := true }] })) ∧
    txnOf 9 (flying [(pkt 9 (.acc 36) (useJob 1 useStatus) (.write [0, 0, 0, 0]) .served 0x7C (some (0, [])))] (unit 36 { jobs := [{ lateJob with phase := 4, statusId := 9, withdrawn := true }] })) = some (pkt 9 (.acc 36) (useJob 1 useStatus) (.write [0, 0, 0, 0]) .served 0x7C (some (0, []))) ∧
    (acc 36 (flying [(pkt 9 (.acc 36) (useJob 1 useStatus) (.write [0, 0, 0, 0]) .served 0x7C (some (0, [])))] (unit 36 { jobs := [{ lateJob with phase := 4, statusId := 9, withdrawn := true }] }))).refusals.find? (fun q => q.1 == 9) = none ∧
    (acc 36 (flying [(pkt 9 (.acc 36) (useJob 1 useStatus) (.write [0, 0, 0, 0]) .served 0x7C (some (0, [])))] (unit 36 { jobs := [{ lateJob with phase := 4, statusId := 9, withdrawn := true }] }))).jobs = ({ lateJob with phase := 4, statusId := 9, withdrawn := true } : Job) :: [] ∧
    ({ lateJob with phase := 4, statusId := 9, withdrawn := true } : Job).status.1 = 3) ∧
  (Running (flying [(pkt 9 (.acc 36) (useJob 1 useStatus) (.write [0, 0, 0, 0]) .served 0x7C (some (0, [])))] (unit 36 { jobs := [{ lateJob with phase := 4, statusId := 9, expired := true }] })) ∧
    txnOf 9 (flying [(pkt 9 (.acc 36) (useJob 1 useStatus) (.write [0, 0, 0, 0]) .served 0x7C (some (0, [])))] (unit 36 { jobs := [{ lateJob with phase := 4, statusId := 9, expired := true }] })) = some (pkt 9 (.acc 36) (useJob 1 useStatus) (.write [0, 0, 0, 0]) .served 0x7C (some (0, []))) ∧
    (acc 36 (flying [(pkt 9 (.acc 36) (useJob 1 useStatus) (.write [0, 0, 0, 0]) .served 0x7C (some (0, [])))] (unit 36 { jobs := [{ lateJob with phase := 4, statusId := 9, expired := true }] }))).refusals.find? (fun q => q.1 == 9) = none ∧
    (acc 36 (flying [(pkt 9 (.acc 36) (useJob 1 useStatus) (.write [0, 0, 0, 0]) .served 0x7C (some (0, [])))] (unit 36 { jobs := [{ lateJob with phase := 4, statusId := 9, expired := true }] }))).jobs = ({ lateJob with phase := 4, statusId := 9, expired := true } : Job) :: [] ∧
    ({ lateJob with phase := 4, statusId := 9, expired := true } : Job).status.1 = 4) ∧
  (Running (flying [(pkt 9 (.acc 36) (useJob 1 useStatus) (.write [0, 0, 0, 0]) .served 0x7C (some (0, []))), pkt 5 (.eng 0) useCop (.cop 36 1 0x40 0) .accepted] (unit 36 { refusals := [(9, 5)] })) ∧
    txnOf 9 (flying [(pkt 9 (.acc 36) (useJob 1 useStatus) (.write [0, 0, 0, 0]) .served 0x7C (some (0, []))), pkt 5 (.eng 0) useCop (.cop 36 1 0x40 0) .accepted] (unit 36 { refusals := [(9, 5)] })) = some (pkt 9 (.acc 36) (useJob 1 useStatus) (.write [0, 0, 0, 0]) .served 0x7C (some (0, []))) ∧
    (acc 36 (flying [(pkt 9 (.acc 36) (useJob 1 useStatus) (.write [0, 0, 0, 0]) .served 0x7C (some (0, []))), pkt 5 (.eng 0) useCop (.cop 36 1 0x40 0) .accepted] (unit 36 { refusals := [(9, 5)] }))).refusals.find? (fun q => q.1 == 9) = some (9, 5) ∧
    5 ≠ 9) := by
  with_reducible and_intros
  all_goals
    first
    | decide +kernel
    | (unfold Running; decide +kernel)

/-- Slice 7 is `x`. -/
def churnIs (x : Slice) : State := { State.reset with churn := [(7, x)] }

/-- Its context 8191 in a state, with token slot 7 expected. -/
def oneCtx (st : Nat) (c : Context := {}) : State :=
  churnIs { ctxs := [(8191, { c with state := st, words := [(0, 0xC0)] })] }

/-- Concrete inputs meet the hypotheses of ChurnCommands, clause by clause. -/
theorem witness_ChurnCommands :
  (Running (oneCtx stIdle) ∧ Open 0 (Reg.CHURN_CMD 7) false true (0x10000000 + 8191) (oneCtx stIdle) ∧
    (ctx 7 8191 (oneCtx stIdle)).state = stIdle ∧ badField 7 (definedCtx 7 8191 (oneCtx stIdle)) (oneCtx stIdle) = false) ∧
  (Running (oneCtx stRunning) ∧ Open 0 (Reg.CHURN_CMD 7) false true (0x10000000 + 8191) (oneCtx stRunning) ∧
    (ctx 7 8191 (oneCtx stRunning)).state = stRunning) ∧
  (Running (oneCtx stCancelled) ∧ Open 0 (Reg.CHURN_CMD 7) false true (0x10000000 + 8191) (oneCtx stCancelled) ∧
    (ctx 7 8191 (oneCtx stCancelled)).state = stCancelled ∧
    badField 7 (definedCtx 7 8191 (oneCtx stCancelled)) (oneCtx stCancelled) = false) ∧
  (Running (oneCtx stIdle) ∧ Open 0 (Reg.CHURN_CMD 7) false true (0x20000000 + 8191) (oneCtx stIdle) ∧
    (ctx 7 8191 (oneCtx stIdle)).state = stIdle ∧ (ctx 7 8191 (oneCtx stIdle)).slots ≠ 0) ∧
  (Running (oneCtx stRunning) ∧ Open 0 (Reg.CHURN_CMD 7) false true (0x20000000 + 8191) (oneCtx stRunning) ∧
    (ctx 7 8191 (oneCtx stRunning)).state = stRunning ∧ (ctx 7 8191 (oneCtx stRunning)).slots ≠ 0) ∧
  (Running (oneCtx stCancelled) ∧ Open 0 (Reg.CHURN_CMD 7) false true (0x20000000 + 8191) (oneCtx stCancelled) ∧
    (ctx 7 8191 (oneCtx stCancelled)).state = stCancelled ∧ (ctx 7 8191 (oneCtx stCancelled)).slots ≠ 0) ∧
  (Running (oneCtx stIdle) ∧ Open 0 (Reg.CHURN_CMD 7) false true (0x30000000 + 8191) (oneCtx stIdle) ∧
    (ctx 7 8191 (oneCtx stIdle)).state = stIdle) ∧
  (Running (oneCtx stRunning) ∧ Open 0 (Reg.CHURN_CMD 7) false true (0x30000000 + 8191) (oneCtx stRunning) ∧
    (ctx 7 8191 (oneCtx stRunning)).state = stRunning) ∧
  (Running (oneCtx stCancelled) ∧ Open 0 (Reg.CHURN_CMD 7) false true (0x30000000 + 8191) (oneCtx stCancelled) ∧
    (ctx 7 8191 (oneCtx stCancelled)).state = stCancelled) ∧
  (Running (oneCtx stIdle) ∧ Open 0 (Reg.CHURN_CMD 7) false true (0x40000000 + 8191) (oneCtx stIdle) ∧
    (ctx 7 8191 (oneCtx stIdle)).state = stIdle) ∧
  (Running (oneCtx stRunning) ∧ Open 0 (Reg.CHURN_CMD 7) false true (0x40000000 + 8191) (oneCtx stRunning) ∧
    (ctx 7 8191 (oneCtx stRunning)).state = stRunning) ∧
  (Running (oneCtx stCancelled) ∧ Open 0 (Reg.CHURN_CMD 7) false true (0x40000000 + 8191) (oneCtx stCancelled) ∧
    (ctx 7 8191 (oneCtx stCancelled)).state = stCancelled) ∧
  (Running (oneCtx stIdle) ∧ Open 0 (Reg.CHURN_CMD 7) false true (0x50000000 + 8191) (oneCtx stIdle) ∧
    (ctx 7 8191 (oneCtx stIdle)).state = stIdle) ∧
  (Running (oneCtx stRunning) ∧ Open 0 (Reg.CHURN_CMD 7) false true (0x50000000 + 8191) (oneCtx stRunning) ∧
    (ctx 7 8191 (oneCtx stRunning)).state = stRunning) ∧
  (Running (oneCtx stCancelled) ∧ Open 0 (Reg.CHURN_CMD 7) false true (0x50000000 + 8191) (oneCtx stCancelled) ∧
    (ctx 7 8191 (oneCtx stCancelled)).state = stCancelled) ∧
  (Running (regs [(Reg.CHURN_CTX_DATA 7 0, 0x3000000)] (oneCtx stIdle)) ∧
    Open 0 (Reg.CHURN_CMD 7) false true (0x10000000 + 8191) (regs [(Reg.CHURN_CTX_DATA 7 0, 0x3000000)] (oneCtx stIdle)) ∧
    badField 7 (definedCtx 7 8191 (regs [(Reg.CHURN_CTX_DATA 7 0, 0x3000000)] (oneCtx stIdle))) (regs [(Reg.CHURN_CTX_DATA 7 0, 0x3000000)] (oneCtx stIdle)) = true) ∧
  (Running (churnIs {  }) ∧ Open 0 (Reg.CHURN_NEXT 7 63) true false 0 (churnIs {  }) ∧ (slice 7 (churnIs {  })).run 63 = none ∧
    (slice 7 (churnIs {  })).killing 63 = false ∧ (slice 7 (churnIs {  })).d 63 = []) ∧
  (Running (churnIs { disp := [(63, [⟨8191, true⟩])] }) ∧
    Open 0 (Reg.CHURN_NEXT 7 63) true false 0 (churnIs { disp := [(63, [⟨8191, true⟩])] }) ∧
    (slice 7 (churnIs { disp := [(63, [⟨8191, true⟩])] })).run 63 = none ∧
    (slice 7 (churnIs { disp := [(63, [⟨8191, true⟩])] })).killing 63 = false ∧
    (slice 7 (churnIs { disp := [(63, [⟨8191, true⟩])] })).d 63 = ⟨8191, true⟩ :: []) := by
  with_reducible and_intros
  all_goals
    first
    | decide +kernel
    | (unfold Running; decide +kernel)
    | exact open_of (by decide +kernel)

/-- Concrete inputs meet the hypotheses of ChurnEvents, clause by clause. -/
theorem witness_ChurnEvents :
  (Running (oneCtx stWaiting) ∧ bitsOf 0x1007FFFF 31 28 = 1 ∧ bitsOf 0x1007FFFF 27 19 = 0 ∧ bitsOf 0x1007FFFF 15 13 = 7 ∧
    0x1007FFFF % 0x2000 = 8191 ∧ bitsOf 0x1007FFFF 18 16 = 7 ∧ orderMode 7 (oneCtx stWaiting) = 0 ∧
    (slice 7 (oneCtx stWaiting)).buffer = [] ∧ (ctx 7 8191 (oneCtx stWaiting)).slots.testBit 7 = true ∧
    (ctx 7 8191 (oneCtx stWaiting)).dlMode = 0 ∧ (ctx 7 8191 (oneCtx stWaiting)).held.testBit 7 = false) ∧
  (Running (oneCtx stWaiting { held := 0x40 }) ∧ bitsOf 0x1007FFFF 31 28 = 1 ∧ bitsOf 0x1007FFFF 27 19 = 0 ∧ bitsOf 0x1007FFFF 15 13 = 7 ∧
    0x1007FFFF % 0x2000 = 8191 ∧ bitsOf 0x1007FFFF 18 16 = 7 ∧ orderMode 7 (oneCtx stWaiting { held := 0x40 }) = 0 ∧
    (slice 7 (oneCtx stWaiting { held := 0x40 })).buffer = [] ∧ (ctx 7 8191 (oneCtx stWaiting { held := 0x40 })).slots.testBit 7 = true ∧
    (ctx 7 8191 (oneCtx stWaiting { held := 0x40 })).dlMode = 0 ∧
    (ctx 7 8191 (oneCtx stWaiting { held := 0x40 })).slots &&& ((ctx 7 8191 (oneCtx stWaiting { held := 0x40 })).held ||| 128) = (ctx 7 8191 (oneCtx stWaiting { held := 0x40 })).slots) ∧
  (Running (oneCtx stWaiting { held := 0x80 }) ∧ bitsOf 0x1007FFFF 31 28 = 1 ∧ bitsOf 0x1007FFFF 27 19 = 0 ∧ bitsOf 0x1007FFFF 15 13 = 7 ∧
    0x1007FFFF % 0x2000 = 8191 ∧ bitsOf 0x1007FFFF 18 16 = 7 ∧ orderMode 7 (oneCtx stWaiting { held := 0x80 }) = 0 ∧
    (slice 7 (oneCtx stWaiting { held := 0x80 })).buffer = [] ∧ (ctx 7 8191 (oneCtx stWaiting { held := 0x80 })).slots.testBit 7 = true ∧
    (ctx 7 8191 (oneCtx stWaiting { held := 0x80 })).dlMode = 0 ∧ (ctx 7 8191 (oneCtx stWaiting { held := 0x80 })).held.testBit 7 = true) ∧
  (Running (oneCtx stIdle) ∧ bitsOf 0x1007FFFF 31 28 = 1 ∧ bitsOf 0x1007FFFF 27 19 = 0 ∧ bitsOf 0x1007FFFF 15 13 = 7 ∧
    0x1007FFFF % 0x2000 = 8191 ∧ bitsOf 0x1007FFFF 18 16 = 7 ∧ orderMode 7 (oneCtx stIdle) = 0 ∧ (slice 7 (oneCtx stIdle)).buffer = [] ∧
    (ctx 7 8191 (oneCtx stIdle)).slots.testBit 7 = true ∧ (ctx 7 8191 (oneCtx stIdle)).dlMode = 0 ∧
    (ctx 7 8191 (oneCtx stIdle)).state = stIdle) ∧
  (Running (oneCtx stIdle) ∧ bitsOf 0x2000FFFF 27 19 = 0 ∧ bitsOf 0x2000FFFF 15 13 = 7 ∧
    (ctx 7 (0x2000FFFF % 0x2000) (oneCtx stIdle)).slots ≠ 0 ∧ (ctx 7 (0x2000FFFF % 0x2000) (oneCtx stIdle)).state = stIdle) ∧
  (Running (oneCtx stRunning) ∧ bitsOf 0x2000FFFF 27 19 = 0 ∧ bitsOf 0x2000FFFF 15 13 = 7 ∧
    (ctx 7 (0x2000FFFF % 0x2000) (oneCtx stRunning)).slots ≠ 0 ∧ (ctx 7 (0x2000FFFF % 0x2000) (oneCtx stRunning)).state = stRunning) ∧
  (Running (regs [(Reg.CHURN_CTRL 7, 0x2000)] (churnIs { enforcing := true, due := [(5, 6)], buffer := [⟨5, 6, 7⟩] })) ∧
    orderMode 7 (regs [(Reg.CHURN_CTRL 7, 0x2000)] (churnIs { enforcing := true, due := [(5, 6)], buffer := [⟨5, 6, 7⟩] })) = 2 ∧
    (slice 7 (regs [(Reg.CHURN_CTRL 7, 0x2000)] (churnIs { enforcing := true, due := [(5, 6)], buffer := [⟨5, 6, 7⟩] }))).enforcing = true ∧
    (slice 7 (regs [(Reg.CHURN_CTRL 7, 0x2000)] (churnIs { enforcing := true, due := [(5, 6)], buffer := [⟨5, 6, 7⟩] }))).due = (5, 6) :: [] ∧
    (slice 7 (regs [(Reg.CHURN_CTRL 7, 0x2000)] (churnIs { enforcing := true, due := [(5, 6)], buffer := [⟨5, 6, 7⟩] }))).buffer.find? (fun q => q.key == 5 && q.src == 6) = some ⟨5, 6, 7⟩ ∧
    (slice 7 (regs [(Reg.CHURN_CTRL 7, 0x2000)] (churnIs { enforcing := true, due := [(5, 6)], buffer := [⟨5, 6, 7⟩] }))).logEnded = false) ∧
  (Running (regs [(Reg.CHURN_CTRL 7, 1), (Reg.CHURN_ENG_MASK 7, 0x8000000000000000)] (oneCtx stReady)) ∧
    flagOn (Reg.CHURN_CTRL 7) 0 (regs [(Reg.CHURN_CTRL 7, 1), (Reg.CHURN_ENG_MASK 7, 0x8000000000000000)] (oneCtx stReady)) = true ∧
    ((upto 64).map fun i => ((slice 7 (regs [(Reg.CHURN_CTRL 7, 1), (Reg.CHURN_ENG_MASK 7, 0x8000000000000000)] (oneCtx stReady))).rr + i) % 64).find? (fun e => engineOpen 7 e (regs [(Reg.CHURN_CTRL 7, 1), (Reg.CHURN_ENG_MASK 7, 0x8000000000000000)] (oneCtx stReady)) && (bestTask 7 e (regs [(Reg.CHURN_CTRL 7, 1), (Reg.CHURN_ENG_MASK 7, 0x8000000000000000)] (oneCtx stReady))).isSome) = some 63 ∧
    bestTask 7 63 (regs [(Reg.CHURN_CTRL 7, 1), (Reg.CHURN_ENG_MASK 7, 0x8000000000000000)] (oneCtx stReady)) = some 8191) ∧
  (Running (regs [(Reg.CHURN_CTRL 7, 1), (Reg.CHURN_ENG_MASK 7, 0)] (oneCtx stReady)) ∧
    flagOn (Reg.CHURN_CTRL 7) 0 (regs [(Reg.CHURN_CTRL 7, 1), (Reg.CHURN_ENG_MASK 7, 0)] (oneCtx stReady)) = true ∧
    ((upto 64).map fun i => ((slice 7 (regs [(Reg.CHURN_CTRL 7, 1), (Reg.CHURN_ENG_MASK 7, 0)] (oneCtx stReady))).rr + i) % 64).find? (fun e => engineOpen 7 e (regs [(Reg.CHURN_CTRL 7, 1), (Reg.CHURN_ENG_MASK 7, 0)] (oneCtx stReady)) && (bestTask 7 e (regs [(Reg.CHURN_CTRL 7, 1), (Reg.CHURN_ENG_MASK 7, 0)] (oneCtx stReady))).isSome) = none) ∧
  (Running (churnIs { disp := [(63, [⟨8191, false⟩])] }) ∧
    ((slice 7 (churnIs { disp := [(63, [⟨8191, false⟩])] })).d 63).find? (fun d => !d.visible && !(unaccepted (.churn 7) (useArea d.ctx) (churnIs { disp := [(63, [⟨8191, false⟩])] }))) = some ⟨8191, false⟩) ∧
  (Running (churnIs { kills := [⟨63, 8191, none, true⟩] }) ∧
    (slice 7 (churnIs { kills := [⟨63, 8191, none, true⟩] })).kills.find? (fun q => q.eng == 63) = some ⟨63, 8191, none, true⟩) ∧
  (Running (churnIs { kills := [⟨63, 8191, none, false⟩] }) ∧
    (slice 7 (churnIs { kills := [⟨63, 8191, none, false⟩] })).kills.find? (fun q => q.eng == 63) = some ⟨63, 8191, none, false⟩) ∧
  (Running .reset ∧ 7 < 8 ∧ 0xFFFFFFFF < 2 ^ 32 ∧ 0xFFFFFFFFFFFF ≠ 0) := by
  with_reducible and_intros
  all_goals
    first
    | decide +kernel
    | (unfold Running; decide +kernel)

/-- Concrete inputs meet the hypotheses of FabricFlow, clause by clause. -/
theorem witness_FabricFlow :
  (Running (flying [(pkt 9 (.eng 511) useFar (.read 256) .sent (0x10000000))]) ∧
    txnOf 9 (flying [(pkt 9 (.eng 511) useFar (.read 256) .sent (0x10000000))]) = some (pkt 9 (.eng 511) useFar (.read 256) .sent (0x10000000)) ∧
    (pkt 9 (.eng 511) useFar (.read 256) .sent (0x10000000)).stage = .sent ∧
    oldestOf (pkt 9 (.eng 511) useFar (.read 256) .sent (0x10000000)) (flying [(pkt 9 (.eng 511) useFar (.read 256) .sent (0x10000000))]) = true ∧
    portTurn (pkt 9 (.eng 511) useFar (.read 256) .sent (0x10000000)) (flying [(pkt 9 (.eng 511) useFar (.read 256) .sent (0x10000000))]) = true ∧
    (pkt 9 (.eng 511) useFar (.read 256) .sent (0x10000000)).guardCode (flying [(pkt 9 (.eng 511) useFar (.read 256) .sent (0x10000000))]) = none ∧
    inMemory (pkt 9 (.eng 511) useFar (.read 256) .sent (0x10000000)).addr = true) ∧
  (Running (flying [(pkt 9 (.eng 511) useFar (.read 1) .sent (0x40000000))]) ∧
    txnOf 9 (flying [(pkt 9 (.eng 511) useFar (.read 1) .sent (0x40000000))]) = some (pkt 9 (.eng 511) useFar (.read 1) .sent (0x40000000)) ∧
    (pkt 9 (.eng 511) useFar (.read 1) .sent (0x40000000)).stage = .sent ∧
    oldestOf (pkt 9 (.eng 511) useFar (.read 1) .sent (0x40000000)) (flying [(pkt 9 (.eng 511) useFar (.read 1) .sent (0x40000000))]) = true ∧
    portTurn (pkt 9 (.eng 511) useFar (.read 1) .sent (0x40000000)) (flying [(pkt 9 (.eng 511) useFar (.read 1) .sent (0x40000000))]) = true ∧
    (pkt 9 (.eng 511) useFar (.read 1) .sent (0x40000000)).guardCode (flying [(pkt 9 (.eng 511) useFar (.read 1) .sent (0x40000000))]) = none ∧
    inCsr (pkt 9 (.eng 511) useFar (.read 1) .sent (0x40000000)).addr = true) ∧
  (Running (flying [(pkt 9 (.eng 511) useFar (.read 9) .sent (0x4FFFFFFF))]) ∧
    txnOf 9 (flying [(pkt 9 (.eng 511) useFar (.read 9) .sent (0x4FFFFFFF))]) = some (pkt 9 (.eng 511) useFar (.read 9) .sent (0x4FFFFFFF)) ∧
    (pkt 9 (.eng 511) useFar (.read 9) .sent (0x4FFFFFFF)).stage = .sent ∧
    oldestOf (pkt 9 (.eng 511) useFar (.read 9) .sent (0x4FFFFFFF)) (flying [(pkt 9 (.eng 511) useFar (.read 9) .sent (0x4FFFFFFF))]) = true ∧
    portTurn (pkt 9 (.eng 511) useFar (.read 9) .sent (0x4FFFFFFF)) (flying [(pkt 9 (.eng 511) useFar (.read 9) .sent (0x4FFFFFFF))]) = true ∧
    (pkt 9 (.eng 511) useFar (.read 9) .sent (0x4FFFFFFF)).guardCode (flying [(pkt 9 (.eng 511) useFar (.read 9) .sent (0x4FFFFFFF))]) = none ∧
    inCsr (pkt 9 (.eng 511) useFar (.read 9) .sent (0x4FFFFFFF)).addr = true) ∧
  (Running (flying [(post 9 (.eng 511) useStf (.write [1]) .sent 0x10000000)]) ∧
    txnOf 9 (flying [(post 9 (.eng 511) useStf (.write [1]) .sent 0x10000000)]) = some (post 9 (.eng 511) useStf (.write [1]) .sent 0x10000000) ∧
    oldestOf (post 9 (.eng 511) useStf (.write [1]) .sent 0x10000000) (flying [(post 9 (.eng 511) useStf (.write [1]) .sent 0x10000000)]) = true ∧
    portTurn (post 9 (.eng 511) useStf (.write [1]) .sent 0x10000000) (flying [(post 9 (.eng 511) useStf (.write [1]) .sent 0x10000000)]) = true ∧
    (post 9 (.eng 511) useStf (.write [1]) .sent 0x10000000).guardCode (flying [(post 9 (.eng 511) useStf (.write [1]) .sent 0x10000000)]) = none ∧
    inMemory (post 9 (.eng 511) useStf (.write [1]) .sent 0x10000000).addr = true) ∧
  (Running (flying [(post 9 (.eng 511) useStf (.write [1]) .accepted 0x10000000)]) ∧
    txnOf 9 (flying [(post 9 (.eng 511) useStf (.write [1]) .accepted 0x10000000)]) = some (post 9 (.eng 511) useStf (.write [1]) .accepted 0x10000000) ∧
    (post 9 (.eng 511) useStf (.write [1]) .accepted 0x10000000).stage = .accepted ∧
    (post 9 (.eng 511) useStf (.write [1]) .accepted 0x10000000).noticed = false ∧
    (∀ e ch, (post 9 (.eng 511) useStf (.write [1]) .accepted 0x10000000).agent ≠ .dma e ch) ∧
    (post 9 (.eng 511) useStf (.write [1]) .accepted 0x10000000).posted = true) ∧
  (Running (flying [(pkt 9 (.eng 511) useFar (.read 4) .sent 0x10000000)]) ∧
    txnOf 9 (flying [(pkt 9 (.eng 511) useFar (.read 4) .sent 0x10000000)]) = some (pkt 9 (.eng 511) useFar (.read 4) .sent 0x10000000) ∧
    (pkt 9 (.eng 511) useFar (.read 4) .sent 0x10000000).inFlight = true) ∧
  (Running (flying [({ (pkt 9 (.eng 511) useFar (.read 4) .served 0x10000000) with late := true } : Txn)]) ∧
    txnOf 9 (flying [({ (pkt 9 (.eng 511) useFar (.read 4) .served 0x10000000) with late := true } : Txn)]) = some ({ (pkt 9 (.eng 511) useFar (.read 4) .served 0x10000000) with late := true } : Txn) ∧
    ({ (pkt 9 (.eng 511) useFar (.read 4) .served 0x10000000) with late := true } : Txn).late = true ∧
    ({ (pkt 9 (.eng 511) useFar (.read 4) .served 0x10000000) with late := true } : Txn).stage = .served ∧
    ({ (pkt 9 (.eng 511) useFar (.read 4) .served 0x10000000) with late := true } : Txn).ans = none ∧
    ({ (pkt 9 (.eng 511) useFar (.read 4) .served 0x10000000) with late := true } : Txn).stage ≠ .lost) ∧
  (Running (flying [(pkt 9 (.eng 511) useFar (.read 4) .heldLimit 0x10000000)]) ∧
    txnOf 9 (flying [(pkt 9 (.eng 511) useFar (.read 4) .heldLimit 0x10000000)]) = some (pkt 9 (.eng 511) useFar (.read 4) .heldLimit 0x10000000) ∧
    (pkt 9 (.eng 511) useFar (.read 4) .heldLimit 0x10000000).stage = .heldLimit ∧
    (pkt 9 (.eng 511) useFar (.read 4) .heldLimit 0x10000000).posted = false ∧
    oldestOf (pkt 9 (.eng 511) useFar (.read 4) .heldLimit 0x10000000) (flying [(pkt 9 (.eng 511) useFar (.read 4) .heldLimit 0x10000000)]) = true ∧
    placesUsed (srcNode (pkt 9 (.eng 511) useFar (.read 4) .heldLimit 0x10000000).src) (srcPort (pkt 9 (.eng 511) useFar (.read 4) .heldLimit 0x10000000).src) (flying [(pkt 9 (.eng 511) useFar (.read 4) .heldLimit 0x10000000)]) < niLimitNow (srcNode (pkt 9 (.eng 511) useFar (.read 4) .heldLimit 0x10000000).src) (srcPort (pkt 9 (.eng 511) useFar (.read 4) .heldLimit 0x10000000).src) (flying [(pkt 9 (.eng 511) useFar (.read 4) .heldLimit 0x10000000)]) ∧
    originCode (pkt 9 (.eng 511) useFar (.read 4) .heldLimit 0x10000000).src (pkt 9 (.eng 511) useFar (.read 4) .heldLimit 0x10000000).cls (pkt 9 (.eng 511) useFar (.read 4) .heldLimit 0x10000000).addr (pkt 9 (.eng 511) useFar (.read 4) .heldLimit 0x10000000).body (flying [(pkt 9 (.eng 511) useFar (.read 4) .heldLimit 0x10000000)]) = none ∧
    drainHolds (srcNode (pkt 9 (.eng 511) useFar (.read 4) .heldLimit 0x10000000).src) (srcPort (pkt 9 (.eng 511) useFar (.read 4) .heldLimit 0x10000000).src) (pkt 9 (.eng 511) useFar (.read 4) .heldLimit 0x10000000).node (pkt 9 (.eng 511) useFar (.read 4) .heldLimit 0x10000000).cls (pkt 9 (.eng 511) useFar (.read 4) .heldLimit 0x10000000).body (flying [(pkt 9 (.eng 511) useFar (.read 4) .heldLimit 0x10000000)]) = false ∧
    bookHolds (srcNode (pkt 9 (.eng 511) useFar (.read 4) .heldLimit 0x10000000).src) (srcPort (pkt 9 (.eng 511) useFar (.read 4) .heldLimit 0x10000000).src) (pkt 9 (.eng 511) useFar (.read 4) .heldLimit 0x10000000).node (pkt 9 (.eng 511) useFar (.read 4) .heldLimit 0x10000000).port (pkt 9 (.eng 511) useFar (.read 4) .heldLimit 0x10000000).cls (flying [(pkt 9 (.eng 511) useFar (.read 4) .heldLimit 0x10000000)]) = false) := by
  with_reducible and_intros
  all_goals
    first
    | decide +kernel
    | (unfold Running; decide +kernel)
    | exact fun _ _ h => by simp [post, pkt] at h

/-- Domain `d` is `x`. -/
def domIs (d : Nat) (x : Dom) (s : State := .reset) : State := { s with dom := [(d, x)] }

/-- The guard of node 0, port 0 is `g`. -/
def guardIs (g : Guard) (s : State) : State := { s with noc := { s.noc with guards := [(0, g)] } }

/-- A drain for these nodes. -/
def drains (l : List Nat) : State := { State.reset with noc := { draining := true, drainNodes := l } }

/-- Concrete inputs meet the hypotheses of FabricGuards, clause by clause. -/
theorem witness_FabricGuards :
  (Running (flying [({ (pkt 9 (.eng 511) useFar (.read 4) .sent 0x11F00000) with aw := false } : Txn)]) ∧
    txnOf 9 (flying [({ (pkt 9 (.eng 511) useFar (.read 4) .sent 0x11F00000) with aw := false } : Txn)]) = some ({ (pkt 9 (.eng 511) useFar (.read 4) .sent 0x11F00000) with aw := false } : Txn) ∧
    oldestOf ({ (pkt 9 (.eng 511) useFar (.read 4) .sent 0x11F00000) with aw := false } : Txn) (flying [({ (pkt 9 (.eng 511) useFar (.read 4) .sent 0x11F00000) with aw := false } : Txn)]) = true ∧
    portTurn ({ (pkt 9 (.eng 511) useFar (.read 4) .sent 0x11F00000) with aw := false } : Txn) (flying [({ (pkt 9 (.eng 511) useFar (.read 4) .sent 0x11F00000) with aw := false } : Txn)]) = true ∧
    ({ (pkt 9 (.eng 511) useFar (.read 4) .sent 0x11F00000) with aw := false } : Txn).guardCode (flying [({ (pkt 9 (.eng 511) useFar (.read 4) .sent 0x11F00000) with aw := false } : Txn)]) = none) ∧
  (Running (flying [({ (pkt 9 (.eng 511) useFar (.read 4) .sent 0x11F00000) with aw := false } : Txn)] (domIs 543 { fenced := true })) ∧
    txnOf 9 (flying [({ (pkt 9 (.eng 511) useFar (.read 4) .sent 0x11F00000) with aw := false } : Txn)] (domIs 543 { fenced := true })) = some ({ (pkt 9 (.eng 511) useFar (.read 4) .sent 0x11F00000) with aw := false } : Txn) ∧
    oldestOf ({ (pkt 9 (.eng 511) useFar (.read 4) .sent 0x11F00000) with aw := false } : Txn) (flying [({ (pkt 9 (.eng 511) useFar (.read 4) .sent 0x11F00000) with aw := false } : Txn)] (domIs 543 { fenced := true })) = true ∧
    portTurn ({ (pkt 9 (.eng 511) useFar (.read 4) .sent 0x11F00000) with aw := false } : Txn) (flying [({ (pkt 9 (.eng 511) useFar (.read 4) .sent 0x11F00000) with aw := false } : Txn)] (domIs 543 { fenced := true })) = true ∧
    ({ (pkt 9 (.eng 511) useFar (.read 4) .sent 0x11F00000) with aw := false } : Txn).guardCode (flying [({ (pkt 9 (.eng 511) useFar (.read 4) .sent 0x11F00000) with aw := false } : Txn)] (domIs 543 { fenced := true })) = some 5) ∧
  (Running (flying [({ (pkt 9 (.eng 511) useFar (.read 4) .sent 0x11F00000) with aw := false } : Txn)] (domIs 543 { st := .off })) ∧
    txnOf 9 (flying [({ (pkt 9 (.eng 511) useFar (.read 4) .sent 0x11F00000) with aw := false } : Txn)] (domIs 543 { st := .off })) = some ({ (pkt 9 (.eng 511) useFar (.read 4) .sent 0x11F00000) with aw := false } : Txn) ∧
    oldestOf ({ (pkt 9 (.eng 511) useFar (.read 4) .sent 0x11F00000) with aw := false } : Txn) (flying [({ (pkt 9 (.eng 511) useFar (.read 4) .sent 0x11F00000) with aw := false } : Txn)] (domIs 543 { st := .off })) = true ∧
    portTurn ({ (pkt 9 (.eng 511) useFar (.read 4) .sent 0x11F00000) with aw := false } : Txn) (flying [({ (pkt 9 (.eng 511) useFar (.read 4) .sent 0x11F00000) with aw := false } : Txn)] (domIs 543 { st := .off })) = true ∧
    ({ (pkt 9 (.eng 511) useFar (.read 4) .sent 0x11F00000) with aw := false } : Txn).guardCode (flying [({ (pkt 9 (.eng 511) useFar (.read 4) .sent 0x11F00000) with aw := false } : Txn)] (domIs 543 { st := .off })) = some 4 ∧
    ({ (pkt 9 (.eng 511) useFar (.read 4) .sent 0x11F00000) with aw := false } : Txn).aw = false) ∧
  (Running (guardIs { slots := [1, 2, 3, 4, 5, 6, 7, 8] } (flying [({ (pkt 9 (.eng 511) useFar (.read 4) .sent 0x11F00000) with aw := true } : Txn)] (domIs 543 { st := .off }))) ∧
    txnOf 9 (guardIs { slots := [1, 2, 3, 4, 5, 6, 7, 8] } (flying [({ (pkt 9 (.eng 511) useFar (.read 4) .sent 0x11F00000) with aw := true } : Txn)] (domIs 543 { st := .off }))) = some ({ (pkt 9 (.eng 511) useFar (.read 4) .sent 0x11F00000) with aw := true } : Txn) ∧
    oldestOf ({ (pkt 9 (.eng 511) useFar (.read 4) .sent 0x11F00000) with aw := true } : Txn) (guardIs { slots := [1, 2, 3, 4, 5, 6, 7, 8] } (flying [({ (pkt 9 (.eng 511) useFar (.read 4) .sent 0x11F00000) with aw := true } : Txn)] (domIs 543 { st := .off }))) = true ∧
    portTurn ({ (pkt 9 (.eng 511) useFar (.read 4) .sent 0x11F00000) with aw := true } : Txn) (guardIs { slots := [1, 2, 3, 4, 5, 6, 7, 8] } (flying [({ (pkt 9 (.eng 511) useFar (.read 4) .sent 0x11F00000) with aw := true } : Txn)] (domIs 543 { st := .off }))) = true ∧
    ({ (pkt 9 (.eng 511) useFar (.read 4) .sent 0x11F00000) with aw := true } : Txn).guardCode (guardIs { slots := [1, 2, 3, 4, 5, 6, 7, 8] } (flying [({ (pkt 9 (.eng 511) useFar (.read 4) .sent 0x11F00000) with aw := true } : Txn)] (domIs 543 { st := .off }))) = some 4 ∧
    ({ (pkt 9 (.eng 511) useFar (.read 4) .sent 0x11F00000) with aw := true } : Txn).aw = true ∧
    8 ≤ (guard (guardKey ({ (pkt 9 (.eng 511) useFar (.read 4) .sent 0x11F00000) with aw := true } : Txn)) (guardIs { slots := [1, 2, 3, 4, 5, 6, 7, 8] } (flying [({ (pkt 9 (.eng 511) useFar (.read 4) .sent 0x11F00000) with aw := true } : Txn)] (domIs 543 { st := .off })))).slots.length + (guard (guardKey ({ (pkt 9 (.eng 511) useFar (.read 4) .sent 0x11F00000) with aw := true } : Txn)) (guardIs { slots := [1, 2, 3, 4, 5, 6, 7, 8] } (flying [({ (pkt 9 (.eng 511) useFar (.read 4) .sent 0x11F00000) with aw := true } : Txn)] (domIs 543 { st := .off })))).booked.length) ∧
  (Running (guardIs { slots := [1, 2, 3, 4, 5, 6, 7] } (flying [({ (pkt 9 (.eng 511) useFar (.read 4) .sent 0x11F00000) with aw := true } : Txn)] (domIs 543 { st := .off }))) ∧
    txnOf 9 (guardIs { slots := [1, 2, 3, 4, 5, 6, 7] } (flying [({ (pkt 9 (.eng 511) useFar (.read 4) .sent 0x11F00000) with aw := true } : Txn)] (domIs 543 { st := .off }))) = some ({ (pkt 9 (.eng 511) useFar (.read 4) .sent 0x11F00000) with aw := true } : Txn) ∧
    oldestOf ({ (pkt 9 (.eng 511) useFar (.read 4) .sent 0x11F00000) with aw := true } : Txn) (guardIs { slots := [1, 2, 3, 4, 5, 6, 7] } (flying [({ (pkt 9 (.eng 511) useFar (.read 4) .sent 0x11F00000) with aw := true } : Txn)] (domIs 543 { st := .off }))) = true ∧
    portTurn ({ (pkt 9 (.eng 511) useFar (.read 4) .sent 0x11F00000) with aw := true } : Txn) (guardIs { slots := [1, 2, 3, 4, 5, 6, 7] } (flying [({ (pkt 9 (.eng 511) useFar (.read 4) .sent 0x11F00000) with aw := true } : Txn)] (domIs 543 { st := .off }))) = true ∧
    ({ (pkt 9 (.eng 511) useFar (.read 4) .sent 0x11F00000) with aw := true } : Txn).guardCode (guardIs { slots := [1, 2, 3, 4, 5, 6, 7] } (flying [({ (pkt 9 (.eng 511) useFar (.read 4) .sent 0x11F00000) with aw := true } : Txn)] (domIs 543 { st := .off }))) = some 4 ∧
    ({ (pkt 9 (.eng 511) useFar (.read 4) .sent 0x11F00000) with aw := true } : Txn).aw = true ∧
    (guard (guardKey ({ (pkt 9 (.eng 511) useFar (.read 4) .sent 0x11F00000) with aw := true } : Txn)) (guardIs { slots := [1, 2, 3, 4, 5, 6, 7] } (flying [({ (pkt 9 (.eng 511) useFar (.read 4) .sent 0x11F00000) with aw := true } : Txn)] (domIs 543 { st := .off })))).slots.length + (guard (guardKey ({ (pkt 9 (.eng 511) useFar (.read 4) .sent 0x11F00000) with aw := true } : Txn)) (guardIs { slots := [1, 2, 3, 4, 5, 6, 7] } (flying [({ (pkt 9 (.eng 511) useFar (.read 4) .sent 0x11F00000) with aw := true } : Txn)] (domIs 543 { st := .off })))).booked.length < 8 ∧
    ({ (pkt 9 (.eng 511) useFar (.read 4) .sent 0x11F00000) with aw := true } : Txn).dom = some 543 ∧
    (dom 543 (guardIs { slots := [1, 2, 3, 4, 5, 6, 7] } (flying [({ (pkt 9 (.eng 511) useFar (.read 4) .sent 0x11F00000) with aw := true } : Txn)] (domIs 543 { st := .off })))).failed = false ∧
    (dom 543 (guardIs { slots := [1, 2, 3, 4, 5, 6, 7] } (flying [({ (pkt 9 (.eng 511) useFar (.read 4) .sent 0x11F00000) with aw := true } : Txn)] (domIs 543 { st := .off })))).entering = none) ∧
  (Running (flying [({ (pkt 9 (.eng 511) useFar (.read 4) .nacked 0x11F00000) with aw := true } : Txn)]) ∧
    txnOf 9 (flying [({ (pkt 9 (.eng 511) useFar (.read 4) .nacked 0x11F00000) with aw := true } : Txn)]) = some ({ (pkt 9 (.eng 511) useFar (.read 4) .nacked 0x11F00000) with aw := true } : Txn) ∧
    ({ (pkt 9 (.eng 511) useFar (.read 4) .nacked 0x11F00000) with aw := true } : Txn).stage = .nacked) ∧
  (Running (guardIs { booked := List.range 63 } (flying [({ (pkt 9 (.eng 511) useFar (.read 4) .bookSent 0x11F00000) with aw := true } : Txn)])) ∧
    txnOf 9 (guardIs { booked := List.range 63 } (flying [({ (pkt 9 (.eng 511) useFar (.read 4) .bookSent 0x11F00000) with aw := true } : Txn)])) = some ({ (pkt 9 (.eng 511) useFar (.read 4) .bookSent 0x11F00000) with aw := true } : Txn) ∧
    ({ (pkt 9 (.eng 511) useFar (.read 4) .bookSent 0x11F00000) with aw := true } : Txn).stage = .bookSent ∧
    (guard (guardKey ({ (pkt 9 (.eng 511) useFar (.read 4) .bookSent 0x11F00000) with aw := true } : Txn)) (guardIs { booked := List.range 63 } (flying [({ (pkt 9 (.eng 511) useFar (.read 4) .bookSent 0x11F00000) with aw := true } : Txn)]))).booked.length < 64) ∧
  (Running (guardIs { booked := List.range 64 } (flying [({ (pkt 9 (.eng 511) useFar (.read 4) .bookSent 0x11F00000) with aw := true } : Txn)])) ∧
    txnOf 9 (guardIs { booked := List.range 64 } (flying [({ (pkt 9 (.eng 511) useFar (.read 4) .bookSent 0x11F00000) with aw := true } : Txn)])) = some ({ (pkt 9 (.eng 511) useFar (.read 4) .bookSent 0x11F00000) with aw := true } : Txn) ∧
    ({ (pkt 9 (.eng 511) useFar (.read 4) .bookSent 0x11F00000) with aw := true } : Txn).stage = .bookSent ∧
    64 ≤ (guard (guardKey ({ (pkt 9 (.eng 511) useFar (.read 4) .bookSent 0x11F00000) with aw := true } : Txn)) (guardIs { booked := List.range 64 } (flying [({ (pkt 9 (.eng 511) useFar (.read 4) .bookSent 0x11F00000) with aw := true } : Txn)]))).booked.length) ∧
  (Running (flying [({ (pkt 9 (.eng 511) useFar (.read 4) .denied 0x11F00000) with aw := true } : Txn)]) ∧
    txnOf 9 (flying [({ (pkt 9 (.eng 511) useFar (.read 4) .denied 0x11F00000) with aw := true } : Txn)]) = some ({ (pkt 9 (.eng 511) useFar (.read 4) .denied 0x11F00000) with aw := true } : Txn) ∧
    ({ (pkt 9 (.eng 511) useFar (.read 4) .denied 0x11F00000) with aw := true } : Txn).stage = .denied) ∧
  (Running (guardIs { booked := [9], slots := [1, 2, 3, 4, 5, 6, 7] } (flying [({ (pkt 9 (.eng 511) useFar (.read 4) .booked 0x11F00000) with aw := true } : Txn)] (domIs 543 {  }))) ∧
    txnOf 9 (guardIs { booked := [9], slots := [1, 2, 3, 4, 5, 6, 7] } (flying [({ (pkt 9 (.eng 511) useFar (.read 4) .booked 0x11F00000) with aw := true } : Txn)] (domIs 543 {  }))) = some ({ (pkt 9 (.eng 511) useFar (.read 4) .booked 0x11F00000) with aw := true } : Txn) ∧
    ({ (pkt 9 (.eng 511) useFar (.read 4) .booked 0x11F00000) with aw := true } : Txn).stage = .booked ∧
    (guard (guardKey ({ (pkt 9 (.eng 511) useFar (.read 4) .booked 0x11F00000) with aw := true } : Txn)) (guardIs { booked := [9], slots := [1, 2, 3, 4, 5, 6, 7] } (flying [({ (pkt 9 (.eng 511) useFar (.read 4) .booked 0x11F00000) with aw := true } : Txn)] (domIs 543 {  })))).booked.head? = some 9 ∧
    (guard (guardKey ({ (pkt 9 (.eng 511) useFar (.read 4) .booked 0x11F00000) with aw := true } : Txn)) (guardIs { booked := [9], slots := [1, 2, 3, 4, 5, 6, 7] } (flying [({ (pkt 9 (.eng 511) useFar (.read 4) .booked 0x11F00000) with aw := true } : Txn)] (domIs 543 {  })))).slots.length < 8 ∧
    mayResend ({ (pkt 9 (.eng 511) useFar (.read 4) .booked 0x11F00000) with aw := true } : Txn) (guardIs { booked := [9], slots := [1, 2, 3, 4, 5, 6, 7] } (flying [({ (pkt 9 (.eng 511) useFar (.read 4) .booked 0x11F00000) with aw := true } : Txn)] (domIs 543 {  }))) = true ∧
    heldBehind ({ (pkt 9 (.eng 511) useFar (.read 4) .booked 0x11F00000) with aw := true } : Txn) (guardIs { booked := [9], slots := [1, 2, 3, 4, 5, 6, 7] } (flying [({ (pkt 9 (.eng 511) useFar (.read 4) .booked 0x11F00000) with aw := true } : Txn)] (domIs 543 {  }))) ≠ some 9 ∧
    (({ (pkt 9 (.eng 511) useFar (.read 4) .booked 0x11F00000) with aw := true } : Txn).guardCode (guardIs { booked := [9], slots := [1, 2, 3, 4, 5, 6, 7] } (flying [({ (pkt 9 (.eng 511) useFar (.read 4) .booked 0x11F00000) with aw := true } : Txn)] (domIs 543 {  })))).isSome = false) ∧
  (Running (guardIs { booked := [9], slots := [1, 2, 3, 4, 5, 6, 7] } (flying [({ (pkt 9 (.eng 511) useFar (.read 4) .booked 0x11F00000) with aw := true } : Txn)] (domIs 543 { st := .off }))) ∧
    txnOf 9 (guardIs { booked := [9], slots := [1, 2, 3, 4, 5, 6, 7] } (flying [({ (pkt 9 (.eng 511) useFar (.read 4) .booked 0x11F00000) with aw := true } : Txn)] (domIs 543 { st := .off }))) = some ({ (pkt 9 (.eng 511) useFar (.read 4) .booked 0x11F00000) with aw := true } : Txn) ∧
    ({ (pkt 9 (.eng 511) useFar (.read 4) .booked 0x11F00000) with aw := true } : Txn).stage = .booked ∧
    (guard (guardKey ({ (pkt 9 (.eng 511) useFar (.read 4) .booked 0x11F00000) with aw := true } : Txn)) (guardIs { booked := [9], slots := [1, 2, 3, 4, 5, 6, 7] } (flying [({ (pkt 9 (.eng 511) useFar (.read 4) .booked 0x11F00000) with aw := true } : Txn)] (domIs 543 { st := .off })))).booked.head? = some 9 ∧
    (guard (guardKey ({ (pkt 9 (.eng 511) useFar (.read 4) .booked 0x11F00000) with aw := true } : Txn)) (guardIs { booked := [9], slots := [1, 2, 3, 4, 5, 6, 7] } (flying [({ (pkt 9 (.eng 511) useFar (.read 4) .booked 0x11F00000) with aw := true } : Txn)] (domIs 543 { st := .off })))).slots.length < 8 ∧
    mayResend ({ (pkt 9 (.eng 511) useFar (.read 4) .booked 0x11F00000) with aw := true } : Txn) (guardIs { booked := [9], slots := [1, 2, 3, 4, 5, 6, 7] } (flying [({ (pkt 9 (.eng 511) useFar (.read 4) .booked 0x11F00000) with aw := true } : Txn)] (domIs 543 { st := .off }))) = true ∧
    heldBehind ({ (pkt 9 (.eng 511) useFar (.read 4) .booked 0x11F00000) with aw := true } : Txn) (guardIs { booked := [9], slots := [1, 2, 3, 4, 5, 6, 7] } (flying [({ (pkt 9 (.eng 511) useFar (.read 4) .booked 0x11F00000) with aw := true } : Txn)] (domIs 543 { st := .off }))) ≠ some 9 ∧
    (({ (pkt 9 (.eng 511) useFar (.read 4) .booked 0x11F00000) with aw := true } : Txn).guardCode (guardIs { booked := [9], slots := [1, 2, 3, 4, 5, 6, 7] } (flying [({ (pkt 9 (.eng 511) useFar (.read 4) .booked 0x11F00000) with aw := true } : Txn)] (domIs 543 { st := .off })))).isSome = true) ∧
  (Running (drains [46, 47]) ∧ (drains [46, 47]).noc.draining = true ∧ 47 ∈ (drains [46, 47]).noc.drainNodes ∧
    drainBusy 47 (drains [46, 47]) = false ∧ (∃ m ∈ (drains [46, 47]).noc.drainNodes, m ≠ 47) ∧ (drains [46, 47]).noc.slow = false) ∧
  (Running (drains [47]) ∧ (drains [47]).noc.draining = true ∧ 47 ∈ (drains [47]).noc.drainNodes ∧ drainBusy 47 (drains [47]) = false ∧
    (∀ m ∈ (drains [47]).noc.drainNodes, m = 47) ∧ (drains [47]).noc.slow = false) := by
  with_reducible and_intros
  all_goals
    first
    | decide +kernel
    | (unfold Running; decide +kernel)

/-- A partial sum of cluster 31's tag 4095, of `n` contributions of which `c` are held. -/
def part (n c : Nat) : RedPkt := ⟨4095, 39, 0, 64, n, c, List.replicate 16 1⟩

/-- Cluster 31 holds these reductions; router 47 these buffers. -/
def reducing (l : List Reduction) : State := { State.reset with noc := { reductions := [(31, l)], nextId := 100 } }
def buffered (l : List Txn) (s : State) : State := { s with noc := { s.noc with redBufs := [(47, l)] } }

/-- Concrete inputs meet the hypotheses of Reductions, clause by clause. -/
theorem witness_Reductions_setup :
  (Running .reset ∧ Open 0 (Reg.NI_RED_SEND (8 + 31) 0) true true 0xfff0000049cfffc0 .reset ∧
    64 * bitsOf 0xfff0000049cfffc0 19 6 + 64 * (bitsOf 0xfff0000049cfffc0 45 44 + 1) ≤ 0x100000 ∧
    poisoned (0x10000000 + 31 * 0x100000 + 64 * bitsOf 0xfff0000049cfffc0 19 6) (64 * (bitsOf 0xfff0000049cfffc0 45 44 + 1)) .reset = false ∧
    originCode (srcOf (.coll 31) .reset) 3 0 (.red (⟨bitsOf 0xfff0000049cfffc0 63 52, bitsOf 0xfff0000049cfffc0 27 22, bitsOf 0xfff0000049cfffc0 48 48, 64, bitsOf 0xfff0000049cfffc0 43 28, 1, words32 (memRead (0x10000000 + 31 * 0x100000 + 64 * bitsOf 0xfff0000049cfffc0 19 6) 64 .reset)⟩ : RedPkt)) .reset = none) ∧
  (Running .reset ∧ Open 0 (Reg.NI_RED_SEND (8 + 31) 0) true true 0xfff0300049cfffc0 .reset ∧
    0x100000 < 64 * bitsOf 0xfff0300049cfffc0 19 6 + 64 * (bitsOf 0xfff0300049cfffc0 45 44 + 1)) ∧
  (Running ({ State.reset with mem := { State.reset.mem with poison := [0x11FFFFFC] } } : State) ∧
    Open 0 (Reg.NI_RED_SEND (8 + 31) 0) true true 0xfff0000049cfffc0 ({ State.reset with mem := { State.reset.mem with poison := [0x11FFFFFC] } } : State) ∧
    64 * bitsOf 0xfff0000049cfffc0 19 6 + 64 * (bitsOf 0xfff0000049cfffc0 45 44 + 1) ≤ 0x100000 ∧
    poisoned (0x10000000 + 31 * 0x100000 + 64 * bitsOf 0xfff0000049cfffc0 19 6) (64 * (bitsOf 0xfff0000049cfffc0 45 44 + 1)) ({ State.reset with mem := { State.reset.mem with poison := [0x11FFFFFC] } } : State) = true) ∧
  (Running (reducing []) ∧ Open 0 (Reg.NI_RED_SETUP (8 + 31) 0) true true 0x1c00000000000fff (reducing []) ∧
    (0 = 0 ∨ (∃ r ∈ reductions 31 (reducing []), r.tag = 4095) ∨ 64 ≤ (reductions 31 (reducing [])).length ∨ 64 < ((reductions 31 (reducing [])).foldl (fun n r => n + r.booked) 0) + min 0 4)) ∧
  (Running (reducing []) ∧ Open 0 (Reg.NI_RED_SETUP (8 + 31) 0) true true 0x1c00ffff00000fff (reducing []) ∧ 65535 ≠ 0 ∧
    (∀ r ∈ reductions 31 (reducing []), r.tag ≠ 4095) ∧ (reductions 31 (reducing [])).length < 64 ∧
    ((reductions 31 (reducing [])).foldl (fun n r => n + r.booked) 0) + min 65535 4 ≤ 64) ∧
  (Running (reducing [⟨4095, 1, 0, 0, 1, 0, 0, 0, [], false, 0, []⟩]) ∧
    Open 0 (Reg.NI_RED_SETUP (8 + 31) 0) true true 0x1c00000100000fff (reducing [⟨4095, 1, 0, 0, 1, 0, 0, 0, [], false, 0, []⟩]) ∧
    (1 = 0 ∨ (∃ r ∈ reductions 31 (reducing [⟨4095, 1, 0, 0, 1, 0, 0, 0, [], false, 0, []⟩]), r.tag = 4095) ∨ 64 ≤ (reductions 31 (reducing [⟨4095, 1, 0, 0, 1, 0, 0, 0, [], false, 0, []⟩])).length ∨ 64 < ((reductions 31 (reducing [⟨4095, 1, 0, 0, 1, 0, 0, 0, [], false, 0, []⟩])).foldl (fun n r => n + r.booked) 0) + min 1 4)) ∧
  (Running (reducing [⟨7, 1, 0, 0, 61, 0, 0, 0, [], false, 0, []⟩]) ∧
    Open 0 (Reg.NI_RED_SETUP (8 + 31) 0) true true 0x1c00000400000fff (reducing [⟨7, 1, 0, 0, 61, 0, 0, 0, [], false, 0, []⟩]) ∧
    (4 = 0 ∨ (∃ r ∈ reductions 31 (reducing [⟨7, 1, 0, 0, 61, 0, 0, 0, [], false, 0, []⟩]), r.tag = 4095) ∨ 64 ≤ (reductions 31 (reducing [⟨7, 1, 0, 0, 61, 0, 0, 0, [], false, 0, []⟩])).length ∨ 64 < ((reductions 31 (reducing [⟨7, 1, 0, 0, 61, 0, 0, 0, [], false, 0, []⟩])).foldl (fun n r => n + r.booked) 0) + min 4 4)) ∧
  (Running (reducing [⟨7, 1, 0, 0, 60, 0, 0, 0, [], false, 0, []⟩]) ∧
    Open 0 (Reg.NI_RED_SETUP (8 + 31) 0) true true 0x1c00000400000fff (reducing [⟨7, 1, 0, 0, 60, 0, 0, 0, [], false, 0, []⟩]) ∧ 4 ≠ 0 ∧
    (∀ r ∈ reductions 31 (reducing [⟨7, 1, 0, 0, 60, 0, 0, 0, [], false, 0, []⟩]), r.tag ≠ 4095) ∧
    (reductions 31 (reducing [⟨7, 1, 0, 0, 60, 0, 0, 0, [], false, 0, []⟩])).length < 64 ∧
    ((reductions 31 (reducing [⟨7, 1, 0, 0, 60, 0, 0, 0, [], false, 0, []⟩])).foldl (fun n r => n + r.booked) 0) + min 4 4 ≤ 64) ∧
  (Running (flying [(pkt 9 .plan 0 (.redSetup 39 4095 4 0) .accepted)] (reducing [])) ∧
    txnOf 9 (flying [(pkt 9 .plan 0 (.redSetup 39 4095 4 0) .accepted)] (reducing [])) = some (pkt 9 .plan 0 (.redSetup 39 4095 4 0) .accepted) ∧
    (pkt 9 .plan 0 (.redSetup 39 4095 4 0) .accepted).stage = .accepted ∧ 4 ≠ 0 ∧
    (∀ r ∈ reductions 31 (flying [(pkt 9 .plan 0 (.redSetup 39 4095 4 0) .accepted)] (reducing [])), r.tag ≠ 4095) ∧
    (reductions 31 (flying [(pkt 9 .plan 0 (.redSetup 39 4095 4 0) .accepted)] (reducing []))).length < 64 ∧
    (reductions 31 (flying [(pkt 9 .plan 0 (.redSetup 39 4095 4 0) .accepted)] (reducing []))).foldl (fun n r => n + r.booked) 0 + min 4 4 ≤ 64) := by
  with_reducible and_intros
  all_goals
    first
    | decide +kernel
    | (unfold Running; decide +kernel)
    | exact open_of (by decide +kernel)

/-- A reduction of tag 4095 at a phase. -/
def redAt (phase : Nat) (entry : List Byte := []) : Reduction := ⟨4095, 4, 0, 0, 4, 0, 64, 0, List.replicate 16 1, false, phase, entry⟩

/-- Concrete inputs meet the hypotheses of Reductions, clause by clause. -/
theorem witness_Reductions_running :
  (Running (flying [({ (post 9 (.coll 31) 0 (.red (part 4 1))) with cls := 3, path := [(47, 0)] } : Txn)] (regs [(Reg.NOC_CTRL, 0x100), (Reg.NOC_RTR_CTRL 47, 0)])) ∧
    txnOf 9 (flying [({ (post 9 (.coll 31) 0 (.red (part 4 1))) with cls := 3, path := [(47, 0)] } : Txn)] (regs [(Reg.NOC_CTRL, 0x100), (Reg.NOC_RTR_CTRL 47, 0)])) = some ({ (post 9 (.coll 31) 0 (.red (part 4 1))) with cls := 3, path := [(47, 0)] } : Txn) ∧
    ({ (post 9 (.coll 31) 0 (.red (part 4 1))) with cls := 3, path := [(47, 0)] } : Txn).stage = .sent ∧
    touches 47 ({ (post 9 (.coll 31) 0 (.red (part 4 1))) with cls := 3, path := [(47, 0)] } : Txn) = true ∧
    flagOn Reg.NOC_CTRL 8 (flying [({ (post 9 (.coll 31) 0 (.red (part 4 1))) with cls := 3, path := [(47, 0)] } : Txn)] (regs [(Reg.NOC_CTRL, 0x100), (Reg.NOC_RTR_CTRL 47, 0)])) = true ∧
    redBufs 47 (flying [({ (post 9 (.coll 31) 0 (.red (part 4 1))) with cls := 3, path := [(47, 0)] } : Txn)] (regs [(Reg.NOC_CTRL, 0x100), (Reg.NOC_RTR_CTRL 47, 0)])) = [] ∧
    decide ((redBufs 47 (flying [({ (post 9 (.coll 31) 0 (.red (part 4 1))) with cls := 3, path := [(47, 0)] } : Txn)] (regs [(Reg.NOC_CTRL, 0x100), (Reg.NOC_RTR_CTRL 47, 0)]))).length < min 32 (bitsOf (rtrUse 47 (flying [({ (post 9 (.coll 31) 0 (.red (part 4 1))) with cls := 3, path := [(47, 0)] } : Txn)] (regs [(Reg.NOC_CTRL, 0x100), (Reg.NOC_RTR_CTRL 47, 0)]))) 13 8)) = false ∧
    (part 4 1).cnt < (part 4 1).n) ∧
  (Running (flying [({ (post 9 (.coll 31) 0 (.red (part 4 1))) with cls := 3, path := [(47, 0)] } : Txn)] (regs [(Reg.NOC_CTRL, 0x100), (Reg.NOC_RTR_CTRL 47, 256)])) ∧
    txnOf 9 (flying [({ (post 9 (.coll 31) 0 (.red (part 4 1))) with cls := 3, path := [(47, 0)] } : Txn)] (regs [(Reg.NOC_CTRL, 0x100), (Reg.NOC_RTR_CTRL 47, 256)])) = some ({ (post 9 (.coll 31) 0 (.red (part 4 1))) with cls := 3, path := [(47, 0)] } : Txn) ∧
    ({ (post 9 (.coll 31) 0 (.red (part 4 1))) with cls := 3, path := [(47, 0)] } : Txn).stage = .sent ∧
    touches 47 ({ (post 9 (.coll 31) 0 (.red (part 4 1))) with cls := 3, path := [(47, 0)] } : Txn) = true ∧
    flagOn Reg.NOC_CTRL 8 (flying [({ (post 9 (.coll 31) 0 (.red (part 4 1))) with cls := 3, path := [(47, 0)] } : Txn)] (regs [(Reg.NOC_CTRL, 0x100), (Reg.NOC_RTR_CTRL 47, 256)])) = true ∧
    redBufs 47 (flying [({ (post 9 (.coll 31) 0 (.red (part 4 1))) with cls := 3, path := [(47, 0)] } : Txn)] (regs [(Reg.NOC_CTRL, 0x100), (Reg.NOC_RTR_CTRL 47, 256)])) = [] ∧
    decide ((redBufs 47 (flying [({ (post 9 (.coll 31) 0 (.red (part 4 1))) with cls := 3, path := [(47, 0)] } : Txn)] (regs [(Reg.NOC_CTRL, 0x100), (Reg.NOC_RTR_CTRL 47, 256)]))).length < min 32 (bitsOf (rtrUse 47 (flying [({ (post 9 (.coll 31) 0 (.red (part 4 1))) with cls := 3, path := [(47, 0)] } : Txn)] (regs [(Reg.NOC_CTRL, 0x100), (Reg.NOC_RTR_CTRL 47, 256)]))) 13 8)) = true ∧
    (part 4 1).cnt < (part 4 1).n) ∧
  (Running (buffered [({ (post 8 (.coll 31) 0 (.red (part 4 1))) with cls := 3, path := [(47, 0)] } : Txn)] (flying [({ (post 9 (.coll 31) 0 (.red (part 4 1))) with cls := 3, path := [(47, 0)] } : Txn)] (regs [(Reg.NOC_CTRL, 0x100), (Reg.NOC_RTR_CTRL 47, 256)]))) ∧
    txnOf 9 (buffered [({ (post 8 (.coll 31) 0 (.red (part 4 1))) with cls := 3, path := [(47, 0)] } : Txn)] (flying [({ (post 9 (.coll 31) 0 (.red (part 4 1))) with cls := 3, path := [(47, 0)] } : Txn)] (regs [(Reg.NOC_CTRL, 0x100), (Reg.NOC_RTR_CTRL 47, 256)]))) = some ({ (post 9 (.coll 31) 0 (.red (part 4 1))) with cls := 3, path := [(47, 0)] } : Txn) ∧
    ({ (post 9 (.coll 31) 0 (.red (part 4 1))) with cls := 3, path := [(47, 0)] } : Txn).stage = .sent ∧
    touches 47 ({ (post 9 (.coll 31) 0 (.red (part 4 1))) with cls := 3, path := [(47, 0)] } : Txn) = true ∧
    flagOn Reg.NOC_CTRL 8 (buffered [({ (post 8 (.coll 31) 0 (.red (part 4 1))) with cls := 3, path := [(47, 0)] } : Txn)] (flying [({ (post 9 (.coll 31) 0 (.red (part 4 1))) with cls := 3, path := [(47, 0)] } : Txn)] (regs [(Reg.NOC_CTRL, 0x100), (Reg.NOC_RTR_CTRL 47, 256)]))) = true ∧
    redBufs 47 (buffered [({ (post 8 (.coll 31) 0 (.red (part 4 1))) with cls := 3, path := [(47, 0)] } : Txn)] (flying [({ (post 9 (.coll 31) 0 (.red (part 4 1))) with cls := 3, path := [(47, 0)] } : Txn)] (regs [(Reg.NOC_CTRL, 0x100), (Reg.NOC_RTR_CTRL 47, 256)]))) = [({ (post 8 (.coll 31) 0 (.red (part 4 1))) with cls := 3, path := [(47, 0)] } : Txn)] ∧
    (part 4 1).sameKey (part 4 1) = true ∧ (part 4 1).cnt + (part 4 1).cnt < (part 4 1).n) ∧
  (Running (buffered [({ (post 8 (.coll 31) 0 (.red (part 4 1))) with cls := 3, path := [(47, 0)] } : Txn)] (flying [({ (post 9 (.coll 31) 0 (.red (part 4 1))) with cls := 3, path := [(47, 0)] } : Txn)] (regs [(Reg.NOC_CTRL, 0x100), (Reg.NOC_RTR_CTRL 47, 256)]))) ∧
    (redBufs 47 (buffered [({ (post 8 (.coll 31) 0 (.red (part 4 1))) with cls := 3, path := [(47, 0)] } : Txn)] (flying [({ (post 9 (.coll 31) 0 (.red (part 4 1))) with cls := 3, path := [(47, 0)] } : Txn)] (regs [(Reg.NOC_CTRL, 0x100), (Reg.NOC_RTR_CTRL 47, 256)]))))[0]? = some ({ (post 8 (.coll 31) 0 (.red (part 4 1))) with cls := 3, path := [(47, 0)] } : Txn)) ∧
  (Running (flying [({ (post 9 (.coll 0) 0 (.red (part 4 4)) .accepted) with cls := 3 } : Txn)] (reducing [])) ∧
    txnOf 9 (flying [({ (post 9 (.coll 0) 0 (.red (part 4 4)) .accepted) with cls := 3 } : Txn)] (reducing [])) = some ({ (post 9 (.coll 0) 0 (.red (part 4 4)) .accepted) with cls := 3 } : Txn) ∧
    ({ (post 9 (.coll 0) 0 (.red (part 4 4)) .accepted) with cls := 3 } : Txn).stage = .accepted ∧ (part 4 4).coll = 8 + 31 ∧
    (∀ u ∈ partialsAt 31 (flying [({ (post 9 (.coll 0) 0 (.red (part 4 4)) .accepted) with cls := 3 } : Txn)] (reducing [])), ({ (post 9 (.coll 0) 0 (.red (part 4 4)) .accepted) with cls := 3 } : Txn).arr ≤ u.arr) ∧
    (∀ r ∈ reductions 31 (flying [({ (post 9 (.coll 0) 0 (.red (part 4 4)) .accepted) with cls := 3 } : Txn)] (reducing [])), r.tag ≠ 4095)) ∧
  (Running (flying [({ (post 9 (.coll 0) 0 (.red (part 4 4)) .accepted) with cls := 3 } : Txn)] (reducing [redAt 0])) ∧
    txnOf 9 (flying [({ (post 9 (.coll 0) 0 (.red (part 4 4)) .accepted) with cls := 3 } : Txn)] (reducing [redAt 0])) = some ({ (post 9 (.coll 0) 0 (.red (part 4 4)) .accepted) with cls := 3 } : Txn) ∧
    ({ (post 9 (.coll 0) 0 (.red (part 4 4)) .accepted) with cls := 3 } : Txn).stage = .accepted ∧ (part 4 4).coll = 8 + 31 ∧
    (∀ u ∈ partialsAt 31 (flying [({ (post 9 (.coll 0) 0 (.red (part 4 4)) .accepted) with cls := 3 } : Txn)] (reducing [redAt 0])), ({ (post 9 (.coll 0) 0 (.red (part 4 4)) .accepted) with cls := 3 } : Txn).arr ≤ u.arr) ∧
    (reductions 31 (flying [({ (post 9 (.coll 0) 0 (.red (part 4 4)) .accepted) with cls := 3 } : Txn)] (reducing [redAt 0]))).find? (fun r => r.tag == 4095) = some (redAt 0) ∧
    (part 4 4).n = (redAt 0).n ∧ (redAt 0).cnt = 0 ∧ (redAt 0).n ≤ (redAt 0).cnt + (part 4 4).cnt) ∧
  (Running (flying [(pkt 9 (.coll 31) (useRedTable 4095) (.read 16) .served 0 (some (0, leBytes 16 0x10000000)))] (reducing [redAt 1])) ∧
    waitingAns (.coll 31) (useRedTable 4095) (flying [(pkt 9 (.coll 31) (useRedTable 4095) (.read 16) .served 0 (some (0, leBytes 16 0x10000000)))] (reducing [redAt 1])) = some ((pkt 9 (.coll 31) (useRedTable 4095) (.read 16) .served 0 (some (0, leBytes 16 0x10000000))), 0, leBytes 16 0x10000000) ∧
    (reductions 31 (flying [(pkt 9 (.coll 31) (useRedTable 4095) (.read 16) .served 0 (some (0, leBytes 16 0x10000000)))] (reducing [redAt 1]))).find? (fun r => r.tag == 4095 && r.phase == 1) = some (redAt 1) ∧
    (redAt 1).result ≠ [] ∧ leAt (leBytes 16 0x10000000) 0 6 % 256 + (redAt 1).result.length ≤ 256 ∧
    originCode (srcOf (.coll 31) (flying [(pkt 9 (.coll 31) (useRedTable 4095) (.read 16) .served 0 (some (0, leBytes 16 0x10000000)))] (reducing [redAt 1]))) 2 (leAt (leBytes 16 0x10000000) 0 6) (.write (redAt 1).result) (flying [(pkt 9 (.coll 31) (useRedTable 4095) (.read 16) .served 0 (some (0, leBytes 16 0x10000000)))] (reducing [redAt 1])) = none) ∧
  (Running (flying [(pkt 9 (.coll 31) (useRedTable 4095) (.read 16) .served 0 (some (1, leBytes 16 0x10000000)))] (reducing [redAt 1])) ∧
    waitingAns (.coll 31) (useRedTable 4095) (flying [(pkt 9 (.coll 31) (useRedTable 4095) (.read 16) .served 0 (some (1, leBytes 16 0x10000000)))] (reducing [redAt 1])) = some ((pkt 9 (.coll 31) (useRedTable 4095) (.read 16) .served 0 (some (1, leBytes 16 0x10000000))), 1, leBytes 16 0x10000000) ∧
    (reductions 31 (flying [(pkt 9 (.coll 31) (useRedTable 4095) (.read 16) .served 0 (some (1, leBytes 16 0x10000000)))] (reducing [redAt 1]))).find? (fun r => r.tag == 4095 && r.phase == 1) = some (redAt 1)) ∧
  (Running (reducing [redAt 2 (leBytes 16 0x800000000000000010000000)]) ∧
    (reductions 31 (reducing [redAt 2 (leBytes 16 0x800000000000000010000000)])).find? (fun r => r.tag == 4095 && r.phase == 2) = some (redAt 2 (leBytes 16 0x800000000000000010000000)) ∧
    unaccepted (.coll 31) (useRedResult 4095) (reducing [redAt 2 (leBytes 16 0x800000000000000010000000)]) = false ∧
    bitOf (leAt (leBytes 16 0x800000000000000010000000) 8 4) 31 = true ∧
    originCode (srcOf (.coll 31) (reducing [redAt 2 (leBytes 16 0x800000000000000010000000)])) 3 0 (.token (bitsOf (leAt (leBytes 16 0x800000000000000010000000) 8 4) 15 13) (bitsOf (leAt (leBytes 16 0x800000000000000010000000) 8 4) 12 0) (bitsOf (leAt (leBytes 16 0x800000000000000010000000) 8 4) 18 16) ((4095 + 0x80000000 * b2n (redAt 2 (leBytes 16 0x800000000000000010000000)).excess) % 4294967296)) (reducing [redAt 2 (leBytes 16 0x800000000000000010000000)]) = none) := by
  with_reducible and_intros
  all_goals
    first
    | decide +kernel
    | (unfold Running; decide +kernel)

/-- Concrete inputs meet the hypotheses of MemoryAccesses, clause by clause. -/
theorem witness_MemoryAccesses :
  (Running (flying [({ (pkt 9 (.eng 511) useFar (.read 256) .accepted 0x7FFFF00) with arr := 5 } : Txn)]) ∧
    txnOf 9 (flying [({ (pkt 9 (.eng 511) useFar (.read 256) .accepted 0x7FFFF00) with arr := 5 } : Txn)]) = some ({ (pkt 9 (.eng 511) useFar (.read 256) .accepted 0x7FFFF00) with arr := 5 } : Txn) ∧
    ({ (pkt 9 (.eng 511) useFar (.read 256) .accepted 0x7FFFF00) with arr := 5 } : Txn).stage = .accepted ∧
    inMemory ({ (pkt 9 (.eng 511) useFar (.read 256) .accepted 0x7FFFF00) with arr := 5 } : Txn).addr = true ∧
    dramMode ({ (pkt 9 (.eng 511) useFar (.read 256) .accepted 0x7FFFF00) with arr := 5 } : Txn).addr (flying [({ (pkt 9 (.eng 511) useFar (.read 256) .accepted 0x7FFFF00) with arr := 5 } : Txn)]) = 0 ∧
    firstOnLine ({ (pkt 9 (.eng 511) useFar (.read 256) .accepted 0x7FFFF00) with arr := 5 } : Txn) (flying [({ (pkt 9 (.eng 511) useFar (.read 256) .accepted 0x7FFFF00) with arr := 5 } : Txn)]) = true ∧
    eccFinds .clean ({ (pkt 9 (.eng 511) useFar (.read 256) .accepted 0x7FFFF00) with arr := 5 } : Txn).addr 256 (flying [({ (pkt 9 (.eng 511) useFar (.read 256) .accepted 0x7FFFF00) with arr := 5 } : Txn)]) = .clean) ∧
  (Running (flying [({ (pkt 9 (.eng 511) useFar (.read 4) .accepted 0x11FFFFFC) with arr := 5 } : Txn)]) ∧
    txnOf 9 (flying [({ (pkt 9 (.eng 511) useFar (.read 4) .accepted 0x11FFFFFC) with arr := 5 } : Txn)]) = some ({ (pkt 9 (.eng 511) useFar (.read 4) .accepted 0x11FFFFFC) with arr := 5 } : Txn) ∧
    ({ (pkt 9 (.eng 511) useFar (.read 4) .accepted 0x11FFFFFC) with arr := 5 } : Txn).stage = .accepted ∧
    inMemory ({ (pkt 9 (.eng 511) useFar (.read 4) .accepted 0x11FFFFFC) with arr := 5 } : Txn).addr = true ∧
    dramMode ({ (pkt 9 (.eng 511) useFar (.read 4) .accepted 0x11FFFFFC) with arr := 5 } : Txn).addr (flying [({ (pkt 9 (.eng 511) useFar (.read 4) .accepted 0x11FFFFFC) with arr := 5 } : Txn)]) = 0 ∧
    firstOnLine ({ (pkt 9 (.eng 511) useFar (.read 4) .accepted 0x11FFFFFC) with arr := 5 } : Txn) (flying [({ (pkt 9 (.eng 511) useFar (.read 4) .accepted 0x11FFFFFC) with arr := 5 } : Txn)]) = true ∧
    eccFinds .uncorrectable ({ (pkt 9 (.eng 511) useFar (.read 4) .accepted 0x11FFFFFC) with arr := 5 } : Txn).addr 4 (flying [({ (pkt 9 (.eng 511) useFar (.read 4) .accepted 0x11FFFFFC) with arr := 5 } : Txn)]) = .uncorrectable) ∧
  (Running (flying [({ (pkt 9 (.eng 511) useFar (.read 4) .accepted 0x20020000) with arr := 5 } : Txn)]) ∧
    txnOf 9 (flying [({ (pkt 9 (.eng 511) useFar (.read 4) .accepted 0x20020000) with arr := 5 } : Txn)]) = some ({ (pkt 9 (.eng 511) useFar (.read 4) .accepted 0x20020000) with arr := 5 } : Txn) ∧
    ({ (pkt 9 (.eng 511) useFar (.read 4) .accepted 0x20020000) with arr := 5 } : Txn).stage = .accepted ∧
    inMemory ({ (pkt 9 (.eng 511) useFar (.read 4) .accepted 0x20020000) with arr := 5 } : Txn).addr = true ∧
    dramMode ({ (pkt 9 (.eng 511) useFar (.read 4) .accepted 0x20020000) with arr := 5 } : Txn).addr (flying [({ (pkt 9 (.eng 511) useFar (.read 4) .accepted 0x20020000) with arr := 5 } : Txn)]) = 0 ∧
    firstOnLine ({ (pkt 9 (.eng 511) useFar (.read 4) .accepted 0x20020000) with arr := 5 } : Txn) (flying [({ (pkt 9 (.eng 511) useFar (.read 4) .accepted 0x20020000) with arr := 5 } : Txn)]) = true ∧
    coldOk ({ (pkt 9 (.eng 511) useFar (.read 4) .accepted 0x20020000) with arr := 5 } : Txn).agent false ({ (pkt 9 (.eng 511) useFar (.read 4) .accepted 0x20020000) with arr := 5 } : Txn).addr 4 = false) ∧
  (Running (flying [({ (pkt 9 .host useFar (.write [1]) .accepted 0x2003FFFF) with arr := 5 } : Txn)]) ∧
    txnOf 9 (flying [({ (pkt 9 .host useFar (.write [1]) .accepted 0x2003FFFF) with arr := 5 } : Txn)]) = some ({ (pkt 9 .host useFar (.write [1]) .accepted 0x2003FFFF) with arr := 5 } : Txn) ∧
    ({ (pkt 9 .host useFar (.write [1]) .accepted 0x2003FFFF) with arr := 5 } : Txn).stage = .accepted ∧
    inMemory ({ (pkt 9 .host useFar (.write [1]) .accepted 0x2003FFFF) with arr := 5 } : Txn).addr = true ∧
    dramMode ({ (pkt 9 .host useFar (.write [1]) .accepted 0x2003FFFF) with arr := 5 } : Txn).addr (flying [({ (pkt 9 .host useFar (.write [1]) .accepted 0x2003FFFF) with arr := 5 } : Txn)]) = 0 ∧
    firstOnLine ({ (pkt 9 .host useFar (.write [1]) .accepted 0x2003FFFF) with arr := 5 } : Txn) (flying [({ (pkt 9 .host useFar (.write [1]) .accepted 0x2003FFFF) with arr := 5 } : Txn)]) = true ∧
    coldOk ({ (pkt 9 .host useFar (.write [1]) .accepted 0x2003FFFF) with arr := 5 } : Txn).agent true ({ (pkt 9 .host useFar (.write [1]) .accepted 0x2003FFFF) with arr := 5 } : Txn).addr 1 = false) ∧
  (Running (flying [({ (pkt 9 (.eng 511) useFar (.write [1]) .accepted 0x7FFFFFF) with arr := 5 } : Txn)]) ∧
    txnOf 9 (flying [({ (pkt 9 (.eng 511) useFar (.write [1]) .accepted 0x7FFFFFF) with arr := 5 } : Txn)]) = some ({ (pkt 9 (.eng 511) useFar (.write [1]) .accepted 0x7FFFFFF) with arr := 5 } : Txn) ∧
    ({ (pkt 9 (.eng 511) useFar (.write [1]) .accepted 0x7FFFFFF) with arr := 5 } : Txn).stage = .accepted ∧
    inMemory ({ (pkt 9 (.eng 511) useFar (.write [1]) .accepted 0x7FFFFFF) with arr := 5 } : Txn).addr = true ∧
    dramMode ({ (pkt 9 (.eng 511) useFar (.write [1]) .accepted 0x7FFFFFF) with arr := 5 } : Txn).addr (flying [({ (pkt 9 (.eng 511) useFar (.write [1]) .accepted 0x7FFFFFF) with arr := 5 } : Txn)]) = 0 ∧
    firstOnLine ({ (pkt 9 (.eng 511) useFar (.write [1]) .accepted 0x7FFFFFF) with arr := 5 } : Txn) (flying [({ (pkt 9 (.eng 511) useFar (.write [1]) .accepted 0x7FFFFFF) with arr := 5 } : Txn)]) = true) ∧
  (Running (regs [(Reg.DRAM_STATUS 3, 2)]) ∧ fld (Reg.DRAM_STATUS 3) 1 0 (regs [(Reg.DRAM_STATUS 3, 2)]) = 2) ∧
  (Running (regs [(Reg.DRAM_CFG 3, 0x10000), (Reg.DRAM_STATUS 3, 0)]) ∧
    flagOn (Reg.DRAM_CFG 3) 16 (regs [(Reg.DRAM_CFG 3, 0x10000), (Reg.DRAM_STATUS 3, 0)]) = true ∧
    fld (Reg.DRAM_STATUS 3) 1 0 (regs [(Reg.DRAM_CFG 3, 0x10000), (Reg.DRAM_STATUS 3, 0)]) = 0) := by
  with_reducible and_intros
  all_goals
    first
    | decide +kernel
    | (unfold Running; decide +kernel)

/-- A descriptor: word 0, LEN, SRC, DST, NEXT (R276). -/
def dmaDesc (w0 len src dst next : Nat) : List Byte := leBytes 4 w0 ++ leBytes 4 len ++ leBytes 8 src ++ leBytes 4 dst ++ leBytes 4 0 ++ leBytes 4 next ++ leBytes 4 0

/-- Channel 7 of cluster engine 31 is `x` in a state, with these registers too. -/
def chanIs (st : Nat) (x : DmaChan) (l : List (Nat × Nat) := []) : State :=
  regs ([(Reg.DMA_CH_STATUS 31 7, st), (Reg.DMA_CTRL 31, 1), (Reg.DMA_CH_CUR 31 7, 0x10000000)] ++ l) { State.reset with dma := [(31, { chans := [(7, x)] })] }

/-- Concrete inputs meet the hypotheses of DmaStartsAndStops, clause by clause. -/
theorem witness_DmaStartsAndStops :
  (Running (chanIs 1 {}) ∧ DmaNamed 31 7 ∧ Open 0 (Reg.DMA_CH_START 31 7) true true 0x0 (chanIs 1 {}) ∧ dmaState 31 7 (chanIs 1 {}) = 1 ∧
    0x0 % 32 = 0) ∧
  (Running (chanIs 0 {}) ∧ DmaNamed 31 7 ∧ Open 0 (Reg.DMA_CH_START 31 7) true true 0x10 (chanIs 0 {}) ∧ dmaState 31 7 (chanIs 0 {}) = 0 ∧
    0x10 % 32 = 16) ∧
  (Running (chanIs 0 {}) ∧ DmaNamed 31 7 ∧ Open 0 (Reg.DMA_CH_START 31 7) true true 0xffffffffffe0 (chanIs 0 {}) ∧
    dmaState 31 7 (chanIs 0 {}) = 0 ∧ 0xffffffffffe0 % 32 = 0) ∧
  (Running (chanIs 1 {}) ∧ Open 0 (Reg.DMA_CH_CTRL 31 7) false true 1 (chanIs 1 {})) ∧
  (Running (chanIs 2 { phase := 0, desc := none }) ∧ DmaNamed 31 7 ∧ dmaState 31 7 (chanIs 2 { phase := 0, desc := none }) = 2 ∧
    dmaHalting 31 (chanIs 2 { phase := 0, desc := none }) = false ∧ (dmaChan 31 7 (chanIs 2 { phase := 0, desc := none })).phase ≤ 2 ∧
    openUse (.dma 31 7) useDesc (chanIs 2 { phase := 0, desc := none }) = false ∧
    openUse (.dma 31 7) useRead (chanIs 2 { phase := 0, desc := none }) = false ∧
    unaccepted (.dma 31 7) useWrite (chanIs 2 { phase := 0, desc := none }) = false ∧
    dmaStopFetched 31 7 (chanIs 2 { phase := 0, desc := none }) = false) ∧
  (Running (chanIs 2 { phase := 2, desc := some (dmaDesc 0x80000000 64 0x10000000 0x11F00000 0) }) ∧ DmaNamed 31 7 ∧
    dmaState 31 7 (chanIs 2 { phase := 2, desc := some (dmaDesc 0x80000000 64 0x10000000 0x11F00000 0) }) = 2 ∧
    dmaHalting 31 (chanIs 2 { phase := 2, desc := some (dmaDesc 0x80000000 64 0x10000000 0x11F00000 0) }) = false ∧
    (dmaChan 31 7 (chanIs 2 { phase := 2, desc := some (dmaDesc 0x80000000 64 0x10000000 0x11F00000 0) })).phase ≤ 2 ∧
    openUse (.dma 31 7) useDesc (chanIs 2 { phase := 2, desc := some (dmaDesc 0x80000000 64 0x10000000 0x11F00000 0) }) = false ∧
    openUse (.dma 31 7) useRead (chanIs 2 { phase := 2, desc := some (dmaDesc 0x80000000 64 0x10000000 0x11F00000 0) }) = false ∧
    unaccepted (.dma 31 7) useWrite (chanIs 2 { phase := 2, desc := some (dmaDesc 0x80000000 64 0x10000000 0x11F00000 0) }) = false ∧
    dmaStopFetched 31 7 (chanIs 2 { phase := 2, desc := some (dmaDesc 0x80000000 64 0x10000000 0x11F00000 0) }) = true ∧
    dmaPick 31 false (chanIs 2 { phase := 2, desc := some (dmaDesc 0x80000000 64 0x10000000 0x11F00000 0) }) = some 7 ∧
    inCsr (dmaCur 31 7 (chanIs 2 { phase := 2, desc := some (dmaDesc 0x80000000 64 0x10000000 0x11F00000 0) }) + 28) = false ∧
    originCode (srcOf (.dma 31 7) (chanIs 2 { phase := 2, desc := some (dmaDesc 0x80000000 64 0x10000000 0x11F00000 0) })) 2 (dmaCur 31 7 (chanIs 2 { phase := 2, desc := some (dmaDesc 0x80000000 64 0x10000000 0x11F00000 0) }) + 28) (.write (leBytes 4 (dmaStatusWord 7 4))) (chanIs 2 { phase := 2, desc := some (dmaDesc 0x80000000 64 0x10000000 0x11F00000 0) }) = none) ∧
  (Running (chanIs 2 { phase := 0, desc := none, pre := some (0x10000000, (dmaDesc 0x80000000 64 0x10000000 0x11F00000 0)) }) ∧
    DmaNamed 31 7 ∧
    dmaState 31 7 (chanIs 2 { phase := 0, desc := none, pre := some (0x10000000, (dmaDesc 0x80000000 64 0x10000000 0x11F00000 0)) }) = 2 ∧
    dmaHalting 31 (chanIs 2 { phase := 0, desc := none, pre := some (0x10000000, (dmaDesc 0x80000000 64 0x10000000 0x11F00000 0)) }) = false ∧
    (dmaChan 31 7 (chanIs 2 { phase := 0, desc := none, pre := some (0x10000000, (dmaDesc 0x80000000 64 0x10000000 0x11F00000 0)) })).phase ≤ 2 ∧
    openUse (.dma 31 7) useDesc (chanIs 2 { phase := 0, desc := none, pre := some (0x10000000, (dmaDesc 0x80000000 64 0x10000000 0x11F00000 0)) }) = false ∧
    openUse (.dma 31 7) useRead (chanIs 2 { phase := 0, desc := none, pre := some (0x10000000, (dmaDesc 0x80000000 64 0x10000000 0x11F00000 0)) }) = false ∧
    unaccepted (.dma 31 7) useWrite (chanIs 2 { phase := 0, desc := none, pre := some (0x10000000, (dmaDesc 0x80000000 64 0x10000000 0x11F00000 0)) }) = false ∧
    dmaStopFetched 31 7 (chanIs 2 { phase := 0, desc := none, pre := some (0x10000000, (dmaDesc 0x80000000 64 0x10000000 0x11F00000 0)) }) = true ∧
    dmaPick 31 false (chanIs 2 { phase := 0, desc := none, pre := some (0x10000000, (dmaDesc 0x80000000 64 0x10000000 0x11F00000 0)) }) = some 7 ∧
    inCsr (dmaCur 31 7 (chanIs 2 { phase := 0, desc := none, pre := some (0x10000000, (dmaDesc 0x80000000 64 0x10000000 0x11F00000 0)) }) + 28) = false ∧
    originCode (srcOf (.dma 31 7) (chanIs 2 { phase := 0, desc := none, pre := some (0x10000000, (dmaDesc 0x80000000 64 0x10000000 0x11F00000 0)) })) 2 (dmaCur 31 7 (chanIs 2 { phase := 0, desc := none, pre := some (0x10000000, (dmaDesc 0x80000000 64 0x10000000 0x11F00000 0)) }) + 28) (.write (leBytes 4 (dmaStatusWord 7 4))) (chanIs 2 { phase := 0, desc := none, pre := some (0x10000000, (dmaDesc 0x80000000 64 0x10000000 0x11F00000 0)) }) = none) ∧
  (Running (regs [(Reg.DMA_STATUS 32, 0x20000)] { State.reset with dma := [(32, { first := some (0x1000, 2, 1) })] }) ∧
    (dmaEng 32 (regs [(Reg.DMA_STATUS 32, 0x20000)] { State.reset with dma := [(32, { first := some (0x1000, 2, 1) })] })).first = some (0x1000, 2, 1) ∧
    dmaOutstanding 32 (regs [(Reg.DMA_STATUS 32, 0x20000)] { State.reset with dma := [(32, { first := some (0x1000, 2, 1) })] }) = 0 ∧
    dmaFinishing 32 (regs [(Reg.DMA_STATUS 32, 0x20000)] { State.reset with dma := [(32, { first := some (0x1000, 2, 1) })] }) = false) ∧
  (Running (chanIs 3 {} [(Reg.DMA_STATUS 31, 0x20000)]) ∧
    Open 0 (Reg.DMA_CTRL 31) false true (2 + b2n true) (chanIs 3 {} [(Reg.DMA_STATUS 31, 0x20000)]) ∧
    dmaHalting 31 (chanIs 3 {} [(Reg.DMA_STATUS 31, 0x20000)]) = true ∧
    flagOn (Reg.DMA_STATUS 31) 16 (chanIs 3 {} [(Reg.DMA_STATUS 31, 0x20000)]) = false ∧
    dmaState 31 7 (chanIs 3 {} [(Reg.DMA_STATUS 31, 0x20000)]) = 3) ∧
  (Running (chanIs 3 {} [(Reg.DMA_STATUS 31, 0x30000)]) ∧
    Open 0 (Reg.DMA_CTRL 31) false true (2 + b2n true) (chanIs 3 {} [(Reg.DMA_STATUS 31, 0x30000)]) ∧
    dmaHalting 31 (chanIs 3 {} [(Reg.DMA_STATUS 31, 0x30000)]) = true ∧
    flagOn (Reg.DMA_STATUS 31) 16 (chanIs 3 {} [(Reg.DMA_STATUS 31, 0x30000)]) = true ∧
    dmaState 31 7 (chanIs 3 {} [(Reg.DMA_STATUS 31, 0x30000)]) = 3) := by
  with_reducible and_intros
  all_goals
    first
    | decide +kernel
    | (unfold Running; decide +kernel)
    | (unfold DmaNamed; decide +kernel)
    | exact open_of (by decide +kernel)

/-- Concrete inputs meet the hypotheses of DmaTransfers, clause by clause. -/
theorem witness_DmaTransfers :
  (Running (flying [(pkt 9 (.dma 31 7) useDesc (.read 32) .served 0x10000000 (some (1, (dmaDesc 0x80000000 64 0x10000000 0x11F00000 0))))] (chanIs 1 { fetching := 1 })) ∧
    DmaNamed 31 7 ∧
    waitingAns (.dma 31 7) useDesc (flying [(pkt 9 (.dma 31 7) useDesc (.read 32) .served 0x10000000 (some (1, (dmaDesc 0x80000000 64 0x10000000 0x11F00000 0))))] (chanIs 1 { fetching := 1 })) = some ((pkt 9 (.dma 31 7) useDesc (.read 32) .served 0x10000000 (some (1, (dmaDesc 0x80000000 64 0x10000000 0x11F00000 0)))), 1, (dmaDesc 0x80000000 64 0x10000000 0x11F00000 0)) ∧
    dmaHalting 31 (flying [(pkt 9 (.dma 31 7) useDesc (.read 32) .served 0x10000000 (some (1, (dmaDesc 0x80000000 64 0x10000000 0x11F00000 0))))] (chanIs 1 { fetching := 1 })) = false ∧
    dmaState 31 7 (flying [(pkt 9 (.dma 31 7) useDesc (.read 32) .served 0x10000000 (some (1, (dmaDesc 0x80000000 64 0x10000000 0x11F00000 0))))] (chanIs 1 { fetching := 1 })) = 1 ∧
    (dmaChan 31 7 (flying [(pkt 9 (.dma 31 7) useDesc (.read 32) .served 0x10000000 (some (1, (dmaDesc 0x80000000 64 0x10000000 0x11F00000 0))))] (chanIs 1 { fetching := 1 }))).fetching = 1) ∧
  (Running (flying [(pkt 9 (.dma 31 7) useDesc (.read 32) .served 0x10000000 (some (0, (dmaDesc 0x0 64 0x10000000 0x11F00000 0))))] (chanIs 1 { fetching := 1 })) ∧
    DmaNamed 31 7 ∧
    waitingAns (.dma 31 7) useDesc (flying [(pkt 9 (.dma 31 7) useDesc (.read 32) .served 0x10000000 (some (0, (dmaDesc 0x0 64 0x10000000 0x11F00000 0))))] (chanIs 1 { fetching := 1 })) = some ((pkt 9 (.dma 31 7) useDesc (.read 32) .served 0x10000000 (some (0, (dmaDesc 0x0 64 0x10000000 0x11F00000 0)))), 0, (dmaDesc 0x0 64 0x10000000 0x11F00000 0)) ∧
    dmaHalting 31 (flying [(pkt 9 (.dma 31 7) useDesc (.read 32) .served 0x10000000 (some (0, (dmaDesc 0x0 64 0x10000000 0x11F00000 0))))] (chanIs 1 { fetching := 1 })) = false ∧
    dmaState 31 7 (flying [(pkt 9 (.dma 31 7) useDesc (.read 32) .served 0x10000000 (some (0, (dmaDesc 0x0 64 0x10000000 0x11F00000 0))))] (chanIs 1 { fetching := 1 })) = 1 ∧
    (dmaChan 31 7 (flying [(pkt 9 (.dma 31 7) useDesc (.read 32) .served 0x10000000 (some (0, (dmaDesc 0x0 64 0x10000000 0x11F00000 0))))] (chanIs 1 { fetching := 1 }))).fetching = 1 ∧
    dOwn (dmaDesc 0x0 64 0x10000000 0x11F00000 0) = false) ∧
  (Running (flying [(pkt 9 (.dma 31 7) useDesc (.read 32) .served 0x10000000 (some (0, (dmaDesc 0x80000000 64 0x10000000 0x11F00000 0))))] (chanIs 1 { fetching := 1 })) ∧
    DmaNamed 31 7 ∧
    waitingAns (.dma 31 7) useDesc (flying [(pkt 9 (.dma 31 7) useDesc (.read 32) .served 0x10000000 (some (0, (dmaDesc 0x80000000 64 0x10000000 0x11F00000 0))))] (chanIs 1 { fetching := 1 })) = some ((pkt 9 (.dma 31 7) useDesc (.read 32) .served 0x10000000 (some (0, (dmaDesc 0x80000000 64 0x10000000 0x11F00000 0)))), 0, (dmaDesc 0x80000000 64 0x10000000 0x11F00000 0)) ∧
    dmaHalting 31 (flying [(pkt 9 (.dma 31 7) useDesc (.read 32) .served 0x10000000 (some (0, (dmaDesc 0x80000000 64 0x10000000 0x11F00000 0))))] (chanIs 1 { fetching := 1 })) = false ∧
    dmaState 31 7 (flying [(pkt 9 (.dma 31 7) useDesc (.read 32) .served 0x10000000 (some (0, (dmaDesc 0x80000000 64 0x10000000 0x11F00000 0))))] (chanIs 1 { fetching := 1 })) = 1 ∧
    (dmaChan 31 7 (flying [(pkt 9 (.dma 31 7) useDesc (.read 32) .served 0x10000000 (some (0, (dmaDesc 0x80000000 64 0x10000000 0x11F00000 0))))] (chanIs 1 { fetching := 1 }))).fetching = 1 ∧
    dOwn (dmaDesc 0x80000000 64 0x10000000 0x11F00000 0) = true ∧ dCheck 31 (dmaDesc 0x80000000 64 0x10000000 0x11F00000 0) = 0) ∧
  (Running (chanIs 1 { want := true, fetchAddr := 0x10000000 }) ∧
    dmaPick 31 true (chanIs 1 { want := true, fetchAddr := 0x10000000 }) = some 7 ∧
    dmaReady 31 7 true (chanIs 1 { want := true, fetchAddr := 0x10000000 }) = 1 ∧
    inCsr (dmaChan 31 7 (chanIs 1 { want := true, fetchAddr := 0x10000000 })).fetchAddr = false) ∧
  (Running (chanIs 1 { phase := 1, desc := some (dmaDesc 0x80000000 64 0x10000000 0x11F00000 0x10000020) }) ∧
    dmaPick 31 true (chanIs 1 { phase := 1, desc := some (dmaDesc 0x80000000 64 0x10000000 0x11F00000 0x10000020) }) = some 7 ∧
    dmaReady 31 7 true (chanIs 1 { phase := 1, desc := some (dmaDesc 0x80000000 64 0x10000000 0x11F00000 0x10000020) }) = 2 ∧
    (dmaChan 31 7 (chanIs 1 { phase := 1, desc := some (dmaDesc 0x80000000 64 0x10000000 0x11F00000 0x10000020) })).desc = some (dmaDesc 0x80000000 64 0x10000000 0x11F00000 0x10000020) ∧
    inCsr (dSrc (dmaDesc 0x80000000 64 0x10000000 0x11F00000 0x10000020) + (dmaChan 31 7 (chanIs 1 { phase := 1, desc := some (dmaDesc 0x80000000 64 0x10000000 0x11F00000 0x10000020) })).issued) = false) ∧
  (Running (flying [pkt 9 (.dma 31 7) useRead (.read 64) .sent 0x10000000] (chanIs 1 { phase := 1, code := 1, issued := 64, desc := some (dmaDesc 0x80000000 64 0x10000000 0x11F00000 0x10000020) })) ∧
    dmaPick 31 true (flying [pkt 9 (.dma 31 7) useRead (.read 64) .sent 0x10000000] (chanIs 1 { phase := 1, code := 1, issued := 64, desc := some (dmaDesc 0x80000000 64 0x10000000 0x11F00000 0x10000020) })) = some 7 ∧
    dmaReady 31 7 true (flying [pkt 9 (.dma 31 7) useRead (.read 64) .sent 0x10000000] (chanIs 1 { phase := 1, code := 1, issued := 64, desc := some (dmaDesc 0x80000000 64 0x10000000 0x11F00000 0x10000020) })) = 3 ∧
    (dmaChan 31 7 (flying [pkt 9 (.dma 31 7) useRead (.read 64) .sent 0x10000000] (chanIs 1 { phase := 1, code := 1, issued := 64, desc := some (dmaDesc 0x80000000 64 0x10000000 0x11F00000 0x10000020) }))).desc = some (dmaDesc 0x80000000 64 0x10000000 0x11F00000 0x10000020) ∧
    inCsr (dNext (dmaDesc 0x80000000 64 0x10000000 0x11F00000 0x10000020)) = false) ∧
  (Running (chanIs 0 {}) ∧ dmaPick 31 true (chanIs 0 {}) = none) ∧
  (Running (flying [(pkt 9 (.dma 31 7) useRead (.read 64) .served 0x10000000 (some (0, List.replicate 64 7)))] (chanIs 1 { phase := 1, issued := 64, desc := some (dmaDesc 0x80000000 64 0x10000000 0x11F00000 0x10000020) })) ∧
    DmaNamed 31 7 ∧
    txnOf 9 (flying [(pkt 9 (.dma 31 7) useRead (.read 64) .served 0x10000000 (some (0, List.replicate 64 7)))] (chanIs 1 { phase := 1, issued := 64, desc := some (dmaDesc 0x80000000 64 0x10000000 0x11F00000 0x10000020) })) = some (pkt 9 (.dma 31 7) useRead (.read 64) .served 0x10000000 (some (0, List.replicate 64 7))) ∧
    (pkt 9 (.dma 31 7) useRead (.read 64) .served 0x10000000 (some (0, List.replicate 64 7))).agent = .dma 31 7 ∧
    (pkt 9 (.dma 31 7) useRead (.read 64) .served 0x10000000 (some (0, List.replicate 64 7))).use = useRead ∧
    (pkt 9 (.dma 31 7) useRead (.read 64) .served 0x10000000 (some (0, List.replicate 64 7))).ans = some (0, List.replicate 64 7) ∧
    dmaHalting 31 (flying [(pkt 9 (.dma 31 7) useRead (.read 64) .served 0x10000000 (some (0, List.replicate 64 7)))] (chanIs 1 { phase := 1, issued := 64, desc := some (dmaDesc 0x80000000 64 0x10000000 0x11F00000 0x10000020) })) = false ∧
    (dmaChan 31 7 (flying [(pkt 9 (.dma 31 7) useRead (.read 64) .served 0x10000000 (some (0, List.replicate 64 7)))] (chanIs 1 { phase := 1, issued := 64, desc := some (dmaDesc 0x80000000 64 0x10000000 0x11F00000 0x10000020) }))).desc = some (dmaDesc 0x80000000 64 0x10000000 0x11F00000 0x10000020) ∧
    inCsr (dDst (dmaDesc 0x80000000 64 0x10000000 0x11F00000 0x10000020) + ((pkt 9 (.dma 31 7) useRead (.read 64) .served 0x10000000 (some (0, List.replicate 64 7))).addr - dSrc (dmaDesc 0x80000000 64 0x10000000 0x11F00000 0x10000020))) = false ∧
    (flying [(pkt 9 (.dma 31 7) useRead (.read 64) .served 0x10000000 (some (0, List.replicate 64 7)))] (chanIs 1 { phase := 1, issued := 64, desc := some (dmaDesc 0x80000000 64 0x10000000 0x11F00000 0x10000020) })).noc.draining = false ∧
    (∀ y ∈ (flying [(pkt 9 (.dma 31 7) useRead (.read 64) .served 0x10000000 (some (0, List.replicate 64 7)))] (chanIs 1 { phase := 1, issued := 64, desc := some (dmaDesc 0x80000000 64 0x10000000 0x11F00000 0x10000020) })).noc.txns, y.id ≠ nextTxn (flying [(pkt 9 (.dma 31 7) useRead (.read 64) .served 0x10000000 (some (0, List.replicate 64 7)))] (chanIs 1 { phase := 1, issued := 64, desc := some (dmaDesc 0x80000000 64 0x10000000 0x11F00000 0x10000020) }))) ∧
    originCode (srcOf (.dma 31 7) (flying [(pkt 9 (.dma 31 7) useRead (.read 64) .served 0x10000000 (some (0, List.replicate 64 7)))] (chanIs 1 { phase := 1, issued := 64, desc := some (dmaDesc 0x80000000 64 0x10000000 0x11F00000 0x10000020) }))) 2 (dDst (dmaDesc 0x80000000 64 0x10000000 0x11F00000 0x10000020) + ((pkt 9 (.dma 31 7) useRead (.read 64) .served 0x10000000 (some (0, List.replicate 64 7))).addr - dSrc (dmaDesc 0x80000000 64 0x10000000 0x11F00000 0x10000020))) (.write (swapBytes (dSwap (dmaDesc 0x80000000 64 0x10000000 0x11F00000 0x10000020)) (List.replicate 64 7))) (flying [(pkt 9 (.dma 31 7) useRead (.read 64) .served 0x10000000 (some (0, List.replicate 64 7)))] (chanIs 1 { phase := 1, issued := 64, desc := some (dmaDesc 0x80000000 64 0x10000000 0x11F00000 0x10000020) })) = none) ∧
  (Running (flying [(pkt 9 (.dma 31 7) useRead (.read 64) .served 0x10000000 (some (0, List.replicate 64 7)))] (chanIs 1 { phase := 1, issued := 64, desc := some (dmaDesc 0x80000000 64 0x10000000 0x40000000 0x10000020) })) ∧
    DmaNamed 31 7 ∧
    txnOf 9 (flying [(pkt 9 (.dma 31 7) useRead (.read 64) .served 0x10000000 (some (0, List.replicate 64 7)))] (chanIs 1 { phase := 1, issued := 64, desc := some (dmaDesc 0x80000000 64 0x10000000 0x40000000 0x10000020) })) = some (pkt 9 (.dma 31 7) useRead (.read 64) .served 0x10000000 (some (0, List.replicate 64 7))) ∧
    (pkt 9 (.dma 31 7) useRead (.read 64) .served 0x10000000 (some (0, List.replicate 64 7))).agent = .dma 31 7 ∧
    (pkt 9 (.dma 31 7) useRead (.read 64) .served 0x10000000 (some (0, List.replicate 64 7))).use = useRead ∧
    (pkt 9 (.dma 31 7) useRead (.read 64) .served 0x10000000 (some (0, List.replicate 64 7))).ans = some (0, List.replicate 64 7) ∧
    dmaHalting 31 (flying [(pkt 9 (.dma 31 7) useRead (.read 64) .served 0x10000000 (some (0, List.replicate 64 7)))] (chanIs 1 { phase := 1, issued := 64, desc := some (dmaDesc 0x80000000 64 0x10000000 0x40000000 0x10000020) })) = false ∧
    (dmaChan 31 7 (flying [(pkt 9 (.dma 31 7) useRead (.read 64) .served 0x10000000 (some (0, List.replicate 64 7)))] (chanIs 1 { phase := 1, issued := 64, desc := some (dmaDesc 0x80000000 64 0x10000000 0x40000000 0x10000020) }))).desc = some (dmaDesc 0x80000000 64 0x10000000 0x40000000 0x10000020) ∧
    inCsr (dDst (dmaDesc 0x80000000 64 0x10000000 0x40000000 0x10000020) + ((pkt 9 (.dma 31 7) useRead (.read 64) .served 0x10000000 (some (0, List.replicate 64 7))).addr - dSrc (dmaDesc 0x80000000 64 0x10000000 0x40000000 0x10000020))) = true) ∧
  (Running (chanIs 1 { phase := 1, issued := 64, desc := some (dmaDesc 0x80000000 64 0x10000000 0x11F00000 0) } [(Reg.DEV_STATUS, 0)]) ∧
    DmaNamed 31 7 ∧
    (dmaChan 31 7 (chanIs 1 { phase := 1, issued := 64, desc := some (dmaDesc 0x80000000 64 0x10000000 0x11F00000 0) } [(Reg.DEV_STATUS, 0)])).desc = some (dmaDesc 0x80000000 64 0x10000000 0x11F00000 0) ∧
    (dmaChan 31 7 (chanIs 1 { phase := 1, issued := 64, desc := some (dmaDesc 0x80000000 64 0x10000000 0x11F00000 0) } [(Reg.DEV_STATUS, 0)])).phase = 1 ∧
    dLen (dmaDesc 0x80000000 64 0x10000000 0x11F00000 0) ≤ (dmaChan 31 7 (chanIs 1 { phase := 1, issued := 64, desc := some (dmaDesc 0x80000000 64 0x10000000 0x11F00000 0) } [(Reg.DEV_STATUS, 0)])).issued ∧
    openUse (.dma 31 7) useRead (chanIs 1 { phase := 1, issued := 64, desc := some (dmaDesc 0x80000000 64 0x10000000 0x11F00000 0) } [(Reg.DEV_STATUS, 0)]) = false ∧
    unaccepted (.dma 31 7) useWrite (chanIs 1 { phase := 1, issued := 64, desc := some (dmaDesc 0x80000000 64 0x10000000 0x11F00000 0) } [(Reg.DEV_STATUS, 0)]) = false ∧
    dmaState 31 7 (chanIs 1 { phase := 1, issued := 64, desc := some (dmaDesc 0x80000000 64 0x10000000 0x11F00000 0) } [(Reg.DEV_STATUS, 0)]) = 1 ∧
    dmaHalting 31 (chanIs 1 { phase := 1, issued := 64, desc := some (dmaDesc 0x80000000 64 0x10000000 0x11F00000 0) } [(Reg.DEV_STATUS, 0)]) = false ∧
    dmaPick 31 false (chanIs 1 { phase := 1, issued := 64, desc := some (dmaDesc 0x80000000 64 0x10000000 0x11F00000 0) } [(Reg.DEV_STATUS, 0)]) = some 7 ∧
    dCrc (dmaDesc 0x80000000 64 0x10000000 0x11F00000 0) = false ∧
    epochA (chanIs 1 { phase := 1, issued := 64, desc := some (dmaDesc 0x80000000 64 0x10000000 0x11F00000 0) } [(Reg.DEV_STATUS, 0)]) = false) ∧
  (Running (chanIs 1 { phase := 1, issued := 64, desc := some (dmaDesc 0x82000000 64 0x10000000 0x11F00000 0) } [(Reg.DEV_STATUS, 2)]) ∧
    DmaNamed 31 7 ∧
    (dmaChan 31 7 (chanIs 1 { phase := 1, issued := 64, desc := some (dmaDesc 0x82000000 64 0x10000000 0x11F00000 0) } [(Reg.DEV_STATUS, 2)])).desc = some (dmaDesc 0x82000000 64 0x10000000 0x11F00000 0) ∧
    (dmaChan 31 7 (chanIs 1 { phase := 1, issued := 64, desc := some (dmaDesc 0x82000000 64 0x10000000 0x11F00000 0) } [(Reg.DEV_STATUS, 2)])).phase = 1 ∧
    dLen (dmaDesc 0x82000000 64 0x10000000 0x11F00000 0) ≤ (dmaChan 31 7 (chanIs 1 { phase := 1, issued := 64, desc := some (dmaDesc 0x82000000 64 0x10000000 0x11F00000 0) } [(Reg.DEV_STATUS, 2)])).issued ∧
    openUse (.dma 31 7) useRead (chanIs 1 { phase := 1, issued := 64, desc := some (dmaDesc 0x82000000 64 0x10000000 0x11F00000 0) } [(Reg.DEV_STATUS, 2)]) = false ∧
    unaccepted (.dma 31 7) useWrite (chanIs 1 { phase := 1, issued := 64, desc := some (dmaDesc 0x82000000 64 0x10000000 0x11F00000 0) } [(Reg.DEV_STATUS, 2)]) = false ∧
    dmaState 31 7 (chanIs 1 { phase := 1, issued := 64, desc := some (dmaDesc 0x82000000 64 0x10000000 0x11F00000 0) } [(Reg.DEV_STATUS, 2)]) = 1 ∧
    dmaHalting 31 (chanIs 1 { phase := 1, issued := 64, desc := some (dmaDesc 0x82000000 64 0x10000000 0x11F00000 0) } [(Reg.DEV_STATUS, 2)]) = false ∧
    dmaPick 31 false (chanIs 1 { phase := 1, issued := 64, desc := some (dmaDesc 0x82000000 64 0x10000000 0x11F00000 0) } [(Reg.DEV_STATUS, 2)]) = some 7 ∧
    dCrc (dmaDesc 0x82000000 64 0x10000000 0x11F00000 0) = true ∧
    epochA (chanIs 1 { phase := 1, issued := 64, desc := some (dmaDesc 0x82000000 64 0x10000000 0x11F00000 0) } [(Reg.DEV_STATUS, 2)]) = true) ∧
  (Running (chanIs 1 { phase := 1, issued := 64, desc := some (dmaDesc 0x82000000 64 0x10000000 0x11F00000 0) } [(Reg.DEV_STATUS, 0)]) ∧
    DmaNamed 31 7 ∧
    (dmaChan 31 7 (chanIs 1 { phase := 1, issued := 64, desc := some (dmaDesc 0x82000000 64 0x10000000 0x11F00000 0) } [(Reg.DEV_STATUS, 0)])).desc = some (dmaDesc 0x82000000 64 0x10000000 0x11F00000 0) ∧
    (dmaChan 31 7 (chanIs 1 { phase := 1, issued := 64, desc := some (dmaDesc 0x82000000 64 0x10000000 0x11F00000 0) } [(Reg.DEV_STATUS, 0)])).phase = 1 ∧
    dLen (dmaDesc 0x82000000 64 0x10000000 0x11F00000 0) ≤ (dmaChan 31 7 (chanIs 1 { phase := 1, issued := 64, desc := some (dmaDesc 0x82000000 64 0x10000000 0x11F00000 0) } [(Reg.DEV_STATUS, 0)])).issued ∧
    openUse (.dma 31 7) useRead (chanIs 1 { phase := 1, issued := 64, desc := some (dmaDesc 0x82000000 64 0x10000000 0x11F00000 0) } [(Reg.DEV_STATUS, 0)]) = false ∧
    unaccepted (.dma 31 7) useWrite (chanIs 1 { phase := 1, issued := 64, desc := some (dmaDesc 0x82000000 64 0x10000000 0x11F00000 0) } [(Reg.DEV_STATUS, 0)]) = false ∧
    dmaState 31 7 (chanIs 1 { phase := 1, issued := 64, desc := some (dmaDesc 0x82000000 64 0x10000000 0x11F00000 0) } [(Reg.DEV_STATUS, 0)]) = 1 ∧
    dmaHalting 31 (chanIs 1 { phase := 1, issued := 64, desc := some (dmaDesc 0x82000000 64 0x10000000 0x11F00000 0) } [(Reg.DEV_STATUS, 0)]) = false ∧
    dmaPick 31 false (chanIs 1 { phase := 1, issued := 64, desc := some (dmaDesc 0x82000000 64 0x10000000 0x11F00000 0) } [(Reg.DEV_STATUS, 0)]) = some 7 ∧
    dCrc (dmaDesc 0x82000000 64 0x10000000 0x11F00000 0) = true ∧
    epochA (chanIs 1 { phase := 1, issued := 64, desc := some (dmaDesc 0x82000000 64 0x10000000 0x11F00000 0) } [(Reg.DEV_STATUS, 0)]) = false) ∧
  (Running (chanIs 1 { phase := 2, desc := some (dmaDesc 0x80000000 64 0x10000000 0x11F00000 0x10000020) }) ∧ DmaNamed 31 7 ∧
    (dmaChan 31 7 (chanIs 1 { phase := 2, desc := some (dmaDesc 0x80000000 64 0x10000000 0x11F00000 0x10000020) })).desc = some (dmaDesc 0x80000000 64 0x10000000 0x11F00000 0x10000020) ∧
    (dmaChan 31 7 (chanIs 1 { phase := 2, desc := some (dmaDesc 0x80000000 64 0x10000000 0x11F00000 0x10000020) })).phase = 2 ∧
    unaccepted (.dma 31 7) useCrc (chanIs 1 { phase := 2, desc := some (dmaDesc 0x80000000 64 0x10000000 0x11F00000 0x10000020) }) = false ∧
    dmaState 31 7 (chanIs 1 { phase := 2, desc := some (dmaDesc 0x80000000 64 0x10000000 0x11F00000 0x10000020) }) = 1 ∧
    dmaHalting 31 (chanIs 1 { phase := 2, desc := some (dmaDesc 0x80000000 64 0x10000000 0x11F00000 0x10000020) }) = false ∧
    dmaPick 31 false (chanIs 1 { phase := 2, desc := some (dmaDesc 0x80000000 64 0x10000000 0x11F00000 0x10000020) }) = some 7) ∧
  (Running (chanIs 1 { phase := 3, code := 0, cfg := 0x0, desc := some (dmaDesc 0x80000000 64 0x10000000 0x11F00000 0x10000020) }) ∧
    DmaNamed 31 7 ∧
    (dmaChan 31 7 (chanIs 1 { phase := 3, code := 0, cfg := 0x0, desc := some (dmaDesc 0x80000000 64 0x10000000 0x11F00000 0x10000020) })).desc = some (dmaDesc 0x80000000 64 0x10000000 0x11F00000 0x10000020) ∧
    (dmaChan 31 7 (chanIs 1 { phase := 3, code := 0, cfg := 0x0, desc := some (dmaDesc 0x80000000 64 0x10000000 0x11F00000 0x10000020) })).phase = 3 ∧
    unaccepted (.dma 31 7) useStat (chanIs 1 { phase := 3, code := 0, cfg := 0x0, desc := some (dmaDesc 0x80000000 64 0x10000000 0x11F00000 0x10000020) }) = false ∧
    (dmaChan 31 7 (chanIs 1 { phase := 3, code := 0, cfg := 0x0, desc := some (dmaDesc 0x80000000 64 0x10000000 0x11F00000 0x10000020) })).code = 0 ∧
    (dmaStream (dmaChan 31 7 (chanIs 1 { phase := 3, code := 0, cfg := 0x0, desc := some (dmaDesc 0x80000000 64 0x10000000 0x11F00000 0x10000020) })) && bitOf (dmaChan 31 7 (chanIs 1 { phase := 3, code := 0, cfg := 0x0, desc := some (dmaDesc 0x80000000 64 0x10000000 0x11F00000 0x10000020) })).cfg 30) = false) ∧
  (Running (chanIs 1 { phase := 3, code := 1, cfg := 0x0, desc := some (dmaDesc 0x80000000 64 0x10000000 0x11F00000 0x10000020) }) ∧
    DmaNamed 31 7 ∧
    (dmaChan 31 7 (chanIs 1 { phase := 3, code := 1, cfg := 0x0, desc := some (dmaDesc 0x80000000 64 0x10000000 0x11F00000 0x10000020) })).desc = some (dmaDesc 0x80000000 64 0x10000000 0x11F00000 0x10000020) ∧
    (dmaChan 31 7 (chanIs 1 { phase := 3, code := 1, cfg := 0x0, desc := some (dmaDesc 0x80000000 64 0x10000000 0x11F00000 0x10000020) })).phase = 3 ∧
    unaccepted (.dma 31 7) useStat (chanIs 1 { phase := 3, code := 1, cfg := 0x0, desc := some (dmaDesc 0x80000000 64 0x10000000 0x11F00000 0x10000020) }) = false ∧
    (dmaChan 31 7 (chanIs 1 { phase := 3, code := 1, cfg := 0x0, desc := some (dmaDesc 0x80000000 64 0x10000000 0x11F00000 0x10000020) })).code = 1 ∧
    (dmaStream (dmaChan 31 7 (chanIs 1 { phase := 3, code := 1, cfg := 0x0, desc := some (dmaDesc 0x80000000 64 0x10000000 0x11F00000 0x10000020) })) && bitOf (dmaChan 31 7 (chanIs 1 { phase := 3, code := 1, cfg := 0x0, desc := some (dmaDesc 0x80000000 64 0x10000000 0x11F00000 0x10000020) })).cfg 30) = false ∧
    dmaPick 31 false (chanIs 1 { phase := 3, code := 1, cfg := 0x0, desc := some (dmaDesc 0x80000000 64 0x10000000 0x11F00000 0x10000020) }) = some 7) ∧
  (Running (chanIs 1 { phase := 3, code := 1, cfg := 0xc0000000, desc := some (dmaDesc 0x80000000 64 0x10000000 0x11F00000 0x10000020) }) ∧
    DmaNamed 31 7 ∧
    (dmaChan 31 7 (chanIs 1 { phase := 3, code := 1, cfg := 0xc0000000, desc := some (dmaDesc 0x80000000 64 0x10000000 0x11F00000 0x10000020) })).desc = some (dmaDesc 0x80000000 64 0x10000000 0x11F00000 0x10000020) ∧
    (dmaChan 31 7 (chanIs 1 { phase := 3, code := 1, cfg := 0xc0000000, desc := some (dmaDesc 0x80000000 64 0x10000000 0x11F00000 0x10000020) })).phase = 3 ∧
    unaccepted (.dma 31 7) useStat (chanIs 1 { phase := 3, code := 1, cfg := 0xc0000000, desc := some (dmaDesc 0x80000000 64 0x10000000 0x11F00000 0x10000020) }) = false ∧
    (dmaChan 31 7 (chanIs 1 { phase := 3, code := 1, cfg := 0xc0000000, desc := some (dmaDesc 0x80000000 64 0x10000000 0x11F00000 0x10000020) })).code = 1 ∧
    (dmaStream (dmaChan 31 7 (chanIs 1 { phase := 3, code := 1, cfg := 0xc0000000, desc := some (dmaDesc 0x80000000 64 0x10000000 0x11F00000 0x10000020) })) && bitOf (dmaChan 31 7 (chanIs 1 { phase := 3, code := 1, cfg := 0xc0000000, desc := some (dmaDesc 0x80000000 64 0x10000000 0x11F00000 0x10000020) })).cfg 30) = true) ∧
  (Running (chanIs 1 { phase := 4, code := 1, desc := some (dmaDesc 0xc0000000 64 0x10000000 0x11F00000 0) }) ∧ DmaNamed 31 7 ∧
    (dmaChan 31 7 (chanIs 1 { phase := 4, code := 1, desc := some (dmaDesc 0xc0000000 64 0x10000000 0x11F00000 0) })).desc = some (dmaDesc 0xc0000000 64 0x10000000 0x11F00000 0) ∧
    (dmaChan 31 7 (chanIs 1 { phase := 4, code := 1, desc := some (dmaDesc 0xc0000000 64 0x10000000 0x11F00000 0) })).phase = 4 ∧
    unaccepted (.dma 31 7) useOwn (chanIs 1 { phase := 4, code := 1, desc := some (dmaDesc 0xc0000000 64 0x10000000 0x11F00000 0) }) = false ∧
    dEnd (dmaDesc 0xc0000000 64 0x10000000 0x11F00000 0) = true) ∧
  (Running (chanIs 1 { phase := 4, code := 1, desc := some (dmaDesc 0xa0000000 64 0x10000000 0x11F00000 0) }) ∧ DmaNamed 31 7 ∧
    (dmaChan 31 7 (chanIs 1 { phase := 4, code := 1, desc := some (dmaDesc 0xa0000000 64 0x10000000 0x11F00000 0) })).desc = some (dmaDesc 0xa0000000 64 0x10000000 0x11F00000 0) ∧
    (dmaChan 31 7 (chanIs 1 { phase := 4, code := 1, desc := some (dmaDesc 0xa0000000 64 0x10000000 0x11F00000 0) })).phase = 4 ∧
    unaccepted (.dma 31 7) useOwn (chanIs 1 { phase := 4, code := 1, desc := some (dmaDesc 0xa0000000 64 0x10000000 0x11F00000 0) }) = false ∧
    dEnd (dmaDesc 0xa0000000 64 0x10000000 0x11F00000 0) = false ∧
    bitsOf (dmaChan 31 7 (chanIs 1 { phase := 4, code := 1, desc := some (dmaDesc 0xa0000000 64 0x10000000 0x11F00000 0) })).cfg 15 0 = 0 ∧
    (dmaChan 31 7 (chanIs 1 { phase := 4, code := 1, desc := some (dmaDesc 0xa0000000 64 0x10000000 0x11F00000 0) })).pre = none ∧
    (dmaChan 31 7 (chanIs 1 { phase := 4, code := 1, desc := some (dmaDesc 0xa0000000 64 0x10000000 0x11F00000 0) })).fetching = 0 ∧
    dmaState 31 7 (chanIs 1 { phase := 4, code := 1, desc := some (dmaDesc 0xa0000000 64 0x10000000 0x11F00000 0) }) = 1 ∧
    dmaHalting 31 (chanIs 1 { phase := 4, code := 1, desc := some (dmaDesc 0xa0000000 64 0x10000000 0x11F00000 0) }) = false ∧
    dTok (dmaDesc 0xa0000000 64 0x10000000 0x11F00000 0) = true ∧
    originCode (srcOf (.dma 31 7) (chanIs 1 { phase := 4, code := 1, desc := some (dmaDesc 0xa0000000 64 0x10000000 0x11F00000 0) })) 3 0 (.token (bitsOf (dmaChan 31 7 (chanIs 1 { phase := 4, code := 1, desc := some (dmaDesc 0xa0000000 64 0x10000000 0x11F00000 0) })).tok 15 13) (bitsOf (dmaChan 31 7 (chanIs 1 { phase := 4, code := 1, desc := some (dmaDesc 0xa0000000 64 0x10000000 0x11F00000 0) })).tok 12 0) (bitsOf (dmaChan 31 7 (chanIs 1 { phase := 4, code := 1, desc := some (dmaDesc 0xa0000000 64 0x10000000 0x11F00000 0) })).tok 18 16) ((dUser (dmaDesc 0xa0000000 64 0x10000000 0x11F00000 0) * 65536 + 7 * 256 + 1) % 4294967296)) (chanIs 1 { phase := 4, code := 1, desc := some (dmaDesc 0xa0000000 64 0x10000000 0x11F00000 0) }) = none) := by
  with_reducible and_intros
  all_goals
    first
    | decide +kernel
    | (unfold Running; decide +kernel)
    | (unfold DmaNamed; decide +kernel)

/-- Concrete inputs meet the hypotheses of CarrierFilters, clause by clause. -/
theorem witness_CarrierFilters :
  (Running .reset ∧ Open 0 (Reg.CFA_CH_READY 1023) false true 0xFFFFFFFF .reset) ∧
  (Running (regs []) ∧ Open 0 (Reg.CFA_COEF 255 383) false true 0xFFFFFFFF (regs []) ∧ setInUse 255 (regs []) = false) ∧
  (Running (regs [(Reg.CFA_CH_CFG 0, 0xC4000000), (Reg.CFA_CH_STAGE 0 0, 0xFF000000)]) ∧
    Open 0 (Reg.CFA_COEF 255 383) false true 0xFFFFFFFF (regs [(Reg.CFA_CH_CFG 0, 0xC4000000), (Reg.CFA_CH_STAGE 0 0, 0xFF000000)]) ∧
    setInUse 255 (regs [(Reg.CFA_CH_CFG 0, 0xC4000000), (Reg.CFA_CH_STAGE 0 0, 0xFF000000)]) = true) ∧
  (Running (flying [(pkt 9 .plan 0 (.handover 1 1023 1) .accepted)] (regs [(Reg.CFA_CTRL, 1), (Reg.CFA_CH_CFG 1023, 0x90000000)])) ∧
    txnOf 9 (flying [(pkt 9 .plan 0 (.handover 1 1023 1) .accepted)] (regs [(Reg.CFA_CTRL, 1), (Reg.CFA_CH_CFG 1023, 0x90000000)])) = some (pkt 9 .plan 0 (.handover 1 1023 1) .accepted) ∧
    (pkt 9 .plan 0 (.handover 1 1023 1) .accepted).body = .handover 1 1023 1 ∧
    (pkt 9 .plan 0 (.handover 1 1023 1) .accepted).stage = .accepted ∧ (pkt 9 .plan 0 (.handover 1 1023 1) .accepted).ans = none ∧
    (pkt 9 .plan 0 (.handover 1 1023 1) .accepted).posted = false ∧ 1023 / 512 = 1 ∧
    cfaRuns 1023 (flying [(pkt 9 .plan 0 (.handover 1 1023 1) .accepted)] (regs [(Reg.CFA_CTRL, 1), (Reg.CFA_CH_CFG 1023, 0x90000000)])) = true ∧
    cgTok (cfaCfg 1023 (flying [(pkt 9 .plan 0 (.handover 1 1023 1) .accepted)] (regs [(Reg.CFA_CTRL, 1), (Reg.CFA_CH_CFG 1023, 0x90000000)]))) = true ∧
    originCode (srcOf (.cfa 1023) (flying [(pkt 9 .plan 0 (.handover 1 1023 1) .accepted)] (regs [(Reg.CFA_CTRL, 1), (Reg.CFA_CH_CFG 1023, 0x90000000)]))) 3 0 (.token (bitsOf (rd (Reg.CFA_CH_TOKEN 1023) (flying [(pkt 9 .plan 0 (.handover 1 1023 1) .accepted)] (regs [(Reg.CFA_CTRL, 1), (Reg.CFA_CH_CFG 1023, 0x90000000)]))).toNat 15 13) (bitsOf (rd (Reg.CFA_CH_TOKEN 1023) (flying [(pkt 9 .plan 0 (.handover 1 1023 1) .accepted)] (regs [(Reg.CFA_CTRL, 1), (Reg.CFA_CH_CFG 1023, 0x90000000)]))).toNat 12 0) (bitsOf (rd (Reg.CFA_CH_TOKEN 1023) (flying [(pkt 9 .plan 0 (.handover 1 1023 1) .accepted)] (regs [(Reg.CFA_CTRL, 1), (Reg.CFA_CH_CFG 1023, 0x90000000)]))).toNat 18 16) ((if cgDown (cfaCfg 1023 (flying [(pkt 9 .plan 0 (.handover 1 1023 1) .accepted)] (regs [(Reg.CFA_CTRL, 1), (Reg.CFA_CH_CFG 1023, 0x90000000)]))) then cfaCount 1023 (flying [(pkt 9 .plan 0 (.handover 1 1023 1) .accepted)] (regs [(Reg.CFA_CTRL, 1), (Reg.CFA_CH_CFG 1023, 0x90000000)])) else acceptedTo 1023 (flying [(pkt 9 .plan 0 (.handover 1 1023 1) .accepted)] (regs [(Reg.CFA_CTRL, 1), (Reg.CFA_CH_CFG 1023, 0x90000000)]))) % 4294967296)) (flying [(pkt 9 .plan 0 (.handover 1 1023 1) .accepted)] (regs [(Reg.CFA_CTRL, 1), (Reg.CFA_CH_CFG 1023, 0x90000000)])) = none) ∧
  (Running (flying [(pkt 9 .plan 0 (.handover 1 1023 1) .accepted)] (regs [(Reg.CFA_CTRL, 1), (Reg.CFA_CH_CFG 1023, 0xD0000000)])) ∧
    txnOf 9 (flying [(pkt 9 .plan 0 (.handover 1 1023 1) .accepted)] (regs [(Reg.CFA_CTRL, 1), (Reg.CFA_CH_CFG 1023, 0xD0000000)])) = some (pkt 9 .plan 0 (.handover 1 1023 1) .accepted) ∧
    (pkt 9 .plan 0 (.handover 1 1023 1) .accepted).body = .handover 1 1023 1 ∧
    (pkt 9 .plan 0 (.handover 1 1023 1) .accepted).stage = .accepted ∧ (pkt 9 .plan 0 (.handover 1 1023 1) .accepted).ans = none ∧
    (pkt 9 .plan 0 (.handover 1 1023 1) .accepted).posted = false ∧ 1023 / 512 = 1 ∧
    cfaRuns 1023 (flying [(pkt 9 .plan 0 (.handover 1 1023 1) .accepted)] (regs [(Reg.CFA_CTRL, 1), (Reg.CFA_CH_CFG 1023, 0xD0000000)])) = true ∧
    cgTok (cfaCfg 1023 (flying [(pkt 9 .plan 0 (.handover 1 1023 1) .accepted)] (regs [(Reg.CFA_CTRL, 1), (Reg.CFA_CH_CFG 1023, 0xD0000000)]))) = true ∧
    originCode (srcOf (.cfa 1023) (flying [(pkt 9 .plan 0 (.handover 1 1023 1) .accepted)] (regs [(Reg.CFA_CTRL, 1), (Reg.CFA_CH_CFG 1023, 0xD0000000)]))) 3 0 (.token (bitsOf (rd (Reg.CFA_CH_TOKEN 1023) (flying [(pkt 9 .plan 0 (.handover 1 1023 1) .accepted)] (regs [(Reg.CFA_CTRL, 1), (Reg.CFA_CH_CFG 1023, 0xD0000000)]))).toNat 15 13) (bitsOf (rd (Reg.CFA_CH_TOKEN 1023) (flying [(pkt 9 .plan 0 (.handover 1 1023 1) .accepted)] (regs [(Reg.CFA_CTRL, 1), (Reg.CFA_CH_CFG 1023, 0xD0000000)]))).toNat 12 0) (bitsOf (rd (Reg.CFA_CH_TOKEN 1023) (flying [(pkt 9 .plan 0 (.handover 1 1023 1) .accepted)] (regs [(Reg.CFA_CTRL, 1), (Reg.CFA_CH_CFG 1023, 0xD0000000)]))).toNat 18 16) ((if cgDown (cfaCfg 1023 (flying [(pkt 9 .plan 0 (.handover 1 1023 1) .accepted)] (regs [(Reg.CFA_CTRL, 1), (Reg.CFA_CH_CFG 1023, 0xD0000000)]))) then cfaCount 1023 (flying [(pkt 9 .plan 0 (.handover 1 1023 1) .accepted)] (regs [(Reg.CFA_CTRL, 1), (Reg.CFA_CH_CFG 1023, 0xD0000000)])) else acceptedTo 1023 (flying [(pkt 9 .plan 0 (.handover 1 1023 1) .accepted)] (regs [(Reg.CFA_CTRL, 1), (Reg.CFA_CH_CFG 1023, 0xD0000000)]))) % 4294967296)) (flying [(pkt 9 .plan 0 (.handover 1 1023 1) .accepted)] (regs [(Reg.CFA_CTRL, 1), (Reg.CFA_CH_CFG 1023, 0xD0000000)])) = none) ∧
  (Running (regs [(Reg.CFA_CTRL, 1), (Reg.CFA_CH_CFG 1023, 0xC0000000), (Reg.CFA_CH_READY 1023, 16)]) ∧
    cfaRuns 1023 (regs [(Reg.CFA_CTRL, 1), (Reg.CFA_CH_CFG 1023, 0xC0000000), (Reg.CFA_CH_READY 1023, 16)]) = true ∧
    cgDown (cfaCfg 1023 (regs [(Reg.CFA_CTRL, 1), (Reg.CFA_CH_CFG 1023, 0xC0000000), (Reg.CFA_CH_READY 1023, 16)])) = true ∧
    cfaCount 1023 (regs [(Reg.CFA_CTRL, 1), (Reg.CFA_CH_CFG 1023, 0xC0000000), (Reg.CFA_CH_READY 1023, 16)]) / 16 * 16 = 0 ∧
    (cfaChan 1023 (regs [(Reg.CFA_CTRL, 1), (Reg.CFA_CH_CFG 1023, 0xC0000000), (Reg.CFA_CH_READY 1023, 16)])).next = 0 ∧
    readyIn 1 1023 (0 + 15) (regs [(Reg.CFA_CTRL, 1), (Reg.CFA_CH_CFG 1023, 0xC0000000), (Reg.CFA_CH_READY 1023, 16)]) = true ∧
    (linesKept 1023 (regs [(Reg.CFA_CTRL, 1), (Reg.CFA_CH_CFG 1023, 0xC0000000), (Reg.CFA_CH_READY 1023, 16)])).length < 4 ∧
    (∀ l ∈ linesKept 1023 (regs [(Reg.CFA_CTRL, 1), (Reg.CFA_CH_CFG 1023, 0xC0000000), (Reg.CFA_CH_READY 1023, 16)]), l.1 ≠ 0)) ∧
  (Running (flying [(pkt 9 (.cfa 1023) 0 (.read 64) .served 0 (some (0, List.replicate 64 1)))]) ∧
    txnOf 9 (flying [(pkt 9 (.cfa 1023) 0 (.read 64) .served 0 (some (0, List.replicate 64 1)))]) = some (pkt 9 (.cfa 1023) 0 (.read 64) .served 0 (some (0, List.replicate 64 1))) ∧
    (pkt 9 (.cfa 1023) 0 (.read 64) .served 0 (some (0, List.replicate 64 1))).ans = some (0, List.replicate 64 1) ∧
    (pkt 9 (.cfa 1023) 0 (.read 64) .served 0 (some (0, List.replicate 64 1))).agent = .cfa 1023 ∧
    (pkt 9 (.cfa 1023) 0 (.read 64) .served 0 (some (0, List.replicate 64 1))).use % 2 = 0 ∧
    (pkt 9 (.cfa 1023) 0 (.read 64) .served 0 (some (0, List.replicate 64 1))).posted = false ∧
    (pkt 9 (.cfa 1023) 0 (.read 64) .served 0 (some (0, List.replicate 64 1))).late = false) ∧
  (Running (flying [(pkt 9 (.cfa 1023) 0 (.read 64) .served 0 (some (1, List.replicate 64 1)))]) ∧
    txnOf 9 (flying [(pkt 9 (.cfa 1023) 0 (.read 64) .served 0 (some (1, List.replicate 64 1)))]) = some (pkt 9 (.cfa 1023) 0 (.read 64) .served 0 (some (1, List.replicate 64 1))) ∧
    (pkt 9 (.cfa 1023) 0 (.read 64) .served 0 (some (1, List.replicate 64 1))).ans = some (1, List.replicate 64 1) ∧
    (pkt 9 (.cfa 1023) 0 (.read 64) .served 0 (some (1, List.replicate 64 1))).agent = .cfa 1023 ∧
    (pkt 9 (.cfa 1023) 0 (.read 64) .served 0 (some (1, List.replicate 64 1))).use % 2 = 0 ∧
    (pkt 9 (.cfa 1023) 0 (.read 64) .served 0 (some (1, List.replicate 64 1))).posted = false ∧
    (pkt 9 (.cfa 1023) 0 (.read 64) .served 0 (some (1, List.replicate 64 1))).late = false) ∧
  (Running (regs [(Reg.CFA_CH_PK_THRESH 1023, 5)] { State.reset with cfa := { chans := [(1023, { done := [(5, 3)] })] } }) ∧
    (cfaChan 1023 (regs [(Reg.CFA_CH_PK_THRESH 1023, 5)] { State.reset with cfa := { chans := [(1023, { done := [(5, 3)] })] } })).done = (5, 3) :: [] ∧
    rd (Reg.CFA_CH_PK_THRESH 1023) (regs [(Reg.CFA_CH_PK_THRESH 1023, 5)] { State.reset with cfa := { chans := [(1023, { done := [(5, 3)] })] } }) ≠ 0 ∧
    (rd (Reg.CFA_CH_PK_THRESH 1023) (regs [(Reg.CFA_CH_PK_THRESH 1023, 5)] { State.reset with cfa := { chans := [(1023, { done := [(5, 3)] })] } })).toNat ≤ 5 ∧
    0 ∉ (cfaChan 1023 (regs [(Reg.CFA_CH_PK_THRESH 1023, 5)] { State.reset with cfa := { chans := [(1023, { done := [(5, 3)] })] } })).raised) ∧
  (Running (regs [(Reg.CFA_CTRL, 1), (Reg.CFA_CH_CFG 1023, 0x80000000)]) ∧
    cfaRuns 1023 (regs [(Reg.CFA_CTRL, 1), (Reg.CFA_CH_CFG 1023, 0x80000000)]) = true ∧
    laneServes 1023 (regs [(Reg.CFA_CTRL, 1), (Reg.CFA_CH_CFG 1023, 0x80000000)]) = false ∧
    cgDown (cfaCfg 1023 (regs [(Reg.CFA_CTRL, 1), (Reg.CFA_CH_CFG 1023, 0x80000000)])) = false ∧
    cfaTotal 1023 (regs [(Reg.CFA_CTRL, 1), (Reg.CFA_CH_CFG 1023, 0x80000000)]) = 1 ∧
    (cfaChan 1023 (regs [(Reg.CFA_CTRL, 1), (Reg.CFA_CH_CFG 1023, 0x80000000)])).out = [] ∧
    cgStages (cfaCfg 1023 (regs [(Reg.CFA_CTRL, 1), (Reg.CFA_CH_CFG 1023, 0x80000000)])) = 0) ∧
  (Running (regs [(Reg.CFA_CTRL, 1), (Reg.CFA_CH_CFG 1023, 0xC0000000)]) ∧
    cfaRuns 1023 (regs [(Reg.CFA_CTRL, 1), (Reg.CFA_CH_CFG 1023, 0xC0000000)]) = true ∧
    laneServes 1023 (regs [(Reg.CFA_CTRL, 1), (Reg.CFA_CH_CFG 1023, 0xC0000000)]) = false ∧
    cgDown (cfaCfg 1023 (regs [(Reg.CFA_CTRL, 1), (Reg.CFA_CH_CFG 1023, 0xC0000000)])) = true ∧
    cfaTotal 1023 (regs [(Reg.CFA_CTRL, 1), (Reg.CFA_CH_CFG 1023, 0xC0000000)]) = 1 ∧
    (cfaChan 1023 (regs [(Reg.CFA_CTRL, 1), (Reg.CFA_CH_CFG 1023, 0xC0000000)])).out = [] ∧
    cgStages (cfaCfg 1023 (regs [(Reg.CFA_CTRL, 1), (Reg.CFA_CH_CFG 1023, 0xC0000000)])) = 0) := by
  with_reducible and_intros
  all_goals
    first
    | decide +kernel
    | (unfold Running; decide +kernel)
    | exact open_of (by decide +kernel)

/-- MAC or gate `m` is `x`, Rounds running. -/
def macIs (m : Nat) (x : Mac) (l : List (Nat × Nat) := []) : State :=
  regs ((Reg.ROUND_STATUS, 2) :: l) { State.reset with mac := [(m, x)], round := { endGrid := 1 } }

/-- Gate 15 runs at `ns` nanoseconds of Round 0, at instance `k` of its first entry, whose OFFSET is `o`. -/
def gateAt (ns k o : Nat) : State :=
  memWrite 0 (leBytes 3 o) { macIs 15 { inst := k } [(Reg.FHG_CFG 15, 0x80010000)] with tod := ns * nsUnit, time := { steps := 100 } }

/-- A gate's job for entry 0 of Round 0, that has read `e`, at a stage. -/
def gJob (e : List Byte) (stage : Nat) (gone : Bool := false) : GateJob :=
  { no := 0, idx := 0, inst := 0, round := 0, entry := e, launch := 7, stage := stage, gone := gone }

/-- A gate entry of a C-plane frame of 60 bytes at OFFSET 0 for Round 0 (R323). -/
def gateEnt (w0 : Nat) : List Byte := leBytes 4 w0 ++ leBytes 8 0 ++ leBytes 4 0x3C0000 ++ List.replicate 12 0

/-- Concrete inputs meet the hypotheses of FronthaulGates, clause by clause. -/
theorem witness_FronthaulGates :
  (Running (gateAt 0 0 0x0) ∧ gateOn 15 (gateAt 0 0 0x0) = true ∧ (gateTurn 15 (gateAt 0 0 0x0)).next < gateCount 15 (gateAt 0 0 0x0) ∧
    (offsetPast (memNat (gateEntry 15 (gateTurn 15 (gateAt 0 0 0x0)).next (gateAt 0 0 0x0)) 3 (gateAt 0 0 0x0)) (gateAt 0 0 0x0) = true ∨ beforeEnd ((gateBase (gateTurn 15 (gateAt 0 0 0x0)).inst (gateAt 0 0 0x0)) + (memNat (gateEntry 15 (gateTurn 15 (gateAt 0 0 0x0)).next (gateAt 0 0 0x0)) 3 (gateAt 0 0 0x0))) (gateAt 0 0 0x0) = true) ∧
    room ((max (gateBase 0 (gateAt 0 0 0x0) + 36) (if offsetPast (memNat (gateEntry 15 (gateTurn 15 (gateAt 0 0 0x0)).next (gateAt 0 0 0x0)) 3 (gateAt 0 0 0x0)) (gateAt 0 0 0x0) then 0 else (gateBase (gateTurn 15 (gateAt 0 0 0x0)).inst (gateAt 0 0 0x0)) + (memNat (gateEntry 15 (gateTurn 15 (gateAt 0 0 0x0)).next (gateAt 0 0 0x0)) 3 (gateAt 0 0 0x0)) - max 400 (fld (Reg.FHG_CFG 15) 15 0 (gateAt 0 0 0x0)))) - (gateAt 0 0 0x0).time.steps) (gateAt 0 0 0x0) = true) ∧
  (Running (gateAt 0 0 0xffffff) ∧ gateOn 15 (gateAt 0 0 0xffffff) = true ∧
    (gateTurn 15 (gateAt 0 0 0xffffff)).next < gateCount 15 (gateAt 0 0 0xffffff) ∧
    (offsetPast (memNat (gateEntry 15 (gateTurn 15 (gateAt 0 0 0xffffff)).next (gateAt 0 0 0xffffff)) 3 (gateAt 0 0 0xffffff)) (gateAt 0 0 0xffffff) = true ∨ beforeEnd ((gateBase (gateTurn 15 (gateAt 0 0 0xffffff)).inst (gateAt 0 0 0xffffff)) + (memNat (gateEntry 15 (gateTurn 15 (gateAt 0 0 0xffffff)).next (gateAt 0 0 0xffffff)) 3 (gateAt 0 0 0xffffff))) (gateAt 0 0 0xffffff) = true) ∧
    room ((max (gateBase 0 (gateAt 0 0 0xffffff) + 36) (if offsetPast (memNat (gateEntry 15 (gateTurn 15 (gateAt 0 0 0xffffff)).next (gateAt 0 0 0xffffff)) 3 (gateAt 0 0 0xffffff)) (gateAt 0 0 0xffffff) then 0 else (gateBase (gateTurn 15 (gateAt 0 0 0xffffff)).inst (gateAt 0 0 0xffffff)) + (memNat (gateEntry 15 (gateTurn 15 (gateAt 0 0 0xffffff)).next (gateAt 0 0 0xffffff)) 3 (gateAt 0 0 0xffffff)) - max 400 (fld (Reg.FHG_CFG 15) 15 0 (gateAt 0 0 0xffffff)))) - (gateAt 0 0 0xffffff).time.steps) (gateAt 0 0 0xffffff) = true) ∧
  (Running (gateAt 60000 1 0x3e8) ∧ gateOn 15 (gateAt 60000 1 0x3e8) = true ∧
    (gateTurn 15 (gateAt 60000 1 0x3e8)).next < gateCount 15 (gateAt 60000 1 0x3e8) ∧
    offsetPast (memNat (gateEntry 15 (gateTurn 15 (gateAt 60000 1 0x3e8)).next (gateAt 60000 1 0x3e8)) 3 (gateAt 60000 1 0x3e8)) (gateAt 60000 1 0x3e8) = false ∧
    beforeEnd ((gateBase (gateTurn 15 (gateAt 60000 1 0x3e8)).inst (gateAt 60000 1 0x3e8)) + (memNat (gateEntry 15 (gateTurn 15 (gateAt 60000 1 0x3e8)).next (gateAt 60000 1 0x3e8)) 3 (gateAt 60000 1 0x3e8))) (gateAt 60000 1 0x3e8) = false) ∧
  (Running (flying [(pkt 9 (.fhg 15) (useGate 0 0) (.read 28) .served 0 (some (0, (gateEnt 0x0))))] (macIs 15 { jobs := [(gJob [] 0 true)] })) ∧
    (mac 15 (flying [(pkt 9 (.fhg 15) (useGate 0 0) (.read 28) .served 0 (some (0, (gateEnt 0x0))))] (macIs 15 { jobs := [(gJob [] 0 true)] }))).jobs.find? (fun j => j.stage == 0) = some (gJob [] 0 true) ∧
    waitingAns (.fhg 15) (useGate (gJob [] 0 true).no 0) (flying [(pkt 9 (.fhg 15) (useGate 0 0) (.read 28) .served 0 (some (0, (gateEnt 0x0))))] (macIs 15 { jobs := [(gJob [] 0 true)] })) = some ((pkt 9 (.fhg 15) (useGate 0 0) (.read 28) .served 0 (some (0, (gateEnt 0x0)))), 0, (gateEnt 0x0)) ∧
    (gJob [] 0 true).gone = true) ∧
  (Running (flying [(pkt 9 (.fhg 15) (useGate 0 0) (.read 28) .served 0 (some (1, (gateEnt 0x0))))] (macIs 15 { jobs := [(gJob [] 0 false)] })) ∧
    (mac 15 (flying [(pkt 9 (.fhg 15) (useGate 0 0) (.read 28) .served 0 (some (1, (gateEnt 0x0))))] (macIs 15 { jobs := [(gJob [] 0 false)] }))).jobs.find? (fun j => j.stage == 0) = some (gJob [] 0 false) ∧
    waitingAns (.fhg 15) (useGate (gJob [] 0 false).no 0) (flying [(pkt 9 (.fhg 15) (useGate 0 0) (.read 28) .served 0 (some (1, (gateEnt 0x0))))] (macIs 15 { jobs := [(gJob [] 0 false)] })) = some ((pkt 9 (.fhg 15) (useGate 0 0) (.read 28) .served 0 (some (1, (gateEnt 0x0)))), 1, (gateEnt 0x0)) ∧
    (gJob [] 0 false).gone = false) ∧
  (Running (flying [(pkt 9 (.fhg 15) (useGate 0 0) (.read 28) .served 0 (some (0, (gateEnt 0x0))))] (macIs 15 { jobs := [(gJob [] 0 false)] })) ∧
    (mac 15 (flying [(pkt 9 (.fhg 15) (useGate 0 0) (.read 28) .served 0 (some (0, (gateEnt 0x0))))] (macIs 15 { jobs := [(gJob [] 0 false)] }))).jobs.find? (fun j => j.stage == 0) = some (gJob [] 0 false) ∧
    waitingAns (.fhg 15) (useGate (gJob [] 0 false).no 0) (flying [(pkt 9 (.fhg 15) (useGate 0 0) (.read 28) .served 0 (some (0, (gateEnt 0x0))))] (macIs 15 { jobs := [(gJob [] 0 false)] })) = some ((pkt 9 (.fhg 15) (useGate 0 0) (.read 28) .served 0 (some (0, (gateEnt 0x0)))), 0, (gateEnt 0x0)) ∧
    (gJob [] 0 false).gone = false ∧ bitOf (geWord (gateEnt 0x0) 0) 31 = false) ∧
  (Running (flying [(pkt 9 (.fhg 15) (useGate 0 0) (.read 28) .served 0 (some (0, (gateEnt 0xc0000000))))] (macIs 15 { jobs := [(gJob [] 0 false)] })) ∧
    (mac 15 (flying [(pkt 9 (.fhg 15) (useGate 0 0) (.read 28) .served 0 (some (0, (gateEnt 0xc0000000))))] (macIs 15 { jobs := [(gJob [] 0 false)] }))).jobs.find? (fun j => j.stage == 0) = some (gJob [] 0 false) ∧
    waitingAns (.fhg 15) (useGate (gJob [] 0 false).no 0) (flying [(pkt 9 (.fhg 15) (useGate 0 0) (.read 28) .served 0 (some (0, (gateEnt 0xc0000000))))] (macIs 15 { jobs := [(gJob [] 0 false)] })) = some ((pkt 9 (.fhg 15) (useGate 0 0) (.read 28) .served 0 (some (0, (gateEnt 0xc0000000)))), 0, (gateEnt 0xc0000000)) ∧
    (gJob [] 0 false).gone = false ∧ bitOf (geWord (gateEnt 0xc0000000) 0) 31 = true ∧
    offsetPast (geOffset (gateEnt 0xc0000000)) (flying [(pkt 9 (.fhg 15) (useGate 0 0) (.read 28) .served 0 (some (0, (gateEnt 0xc0000000))))] (macIs 15 { jobs := [(gJob [] 0 false)] })) = false ∧
    gateInRound (gJob [] 0 false) ((gJob [] 0 false).base + geOffset (gateEnt 0xc0000000)) (flying [(pkt 9 (.fhg 15) (useGate 0 0) (.read 28) .served 0 (some (0, (gateEnt 0xc0000000))))] (macIs 15 { jobs := [(gJob [] 0 false)] })) = true ∧
    geBad 15 (gateEnt 0xc0000000) (flying [(pkt 9 (.fhg 15) (useGate 0 0) (.read 28) .served 0 (some (0, (gateEnt 0xc0000000))))] (macIs 15 { jobs := [(gJob [] 0 false)] })) = false ∧
    (gJob [] 0 false).inst = 0 ∧ geWord (gateEnt 0xc0000000) 1 = (gJob [] 0 false).round % 4294967296) ∧
  (Running (flying [(pkt 9 (.fhg 15) (useGate 0 1) (.read 60) .served 0 (some (0, List.replicate 60 0)))] (macIs 15 { jobs := [(gJob (gateEnt 0xC0000000) 1 true)] })) ∧
    (mac 15 (flying [(pkt 9 (.fhg 15) (useGate 0 1) (.read 60) .served 0 (some (0, List.replicate 60 0)))] (macIs 15 { jobs := [(gJob (gateEnt 0xC0000000) 1 true)] }))).jobs.find? (fun j => j.stage == 1) = some (gJob (gateEnt 0xC0000000) 1 true) ∧
    answersOf (.fhg 15) (useGate (gJob (gateEnt 0xC0000000) 1 true).no 1) (flying [(pkt 9 (.fhg 15) (useGate 0 1) (.read 60) .served 0 (some (0, List.replicate 60 0)))] (macIs 15 { jobs := [(gJob (gateEnt 0xC0000000) 1 true)] })) ≠ [] ∧
    unanswered (.fhg 15) (useGate (gJob (gateEnt 0xC0000000) 1 true).no 1) (flying [(pkt 9 (.fhg 15) (useGate 0 1) (.read 60) .served 0 (some (0, List.replicate 60 0)))] (macIs 15 { jobs := [(gJob (gateEnt 0xC0000000) 1 true)] })) = false ∧
    (gJob (gateEnt 0xC0000000) 1 true).gone = true ∧
    (firstBad (answersOf (.fhg 15) (useGate (gJob (gateEnt 0xC0000000) 1 true).no 1) (flying [(pkt 9 (.fhg 15) (useGate 0 1) (.read 60) .served 0 (some (0, List.replicate 60 0)))] (macIs 15 { jobs := [(gJob (gateEnt 0xC0000000) 1 true)] })))).isSome = false) ∧
  (Running (flying [(pkt 9 (.fhg 15) (useGate 0 1) (.read 60) .served 0 (some (0, List.replicate 60 0)))] (macIs 15 { jobs := [(gJob (gateEnt 0xC0000000) 1 false)] })) ∧
    (mac 15 (flying [(pkt 9 (.fhg 15) (useGate 0 1) (.read 60) .served 0 (some (0, List.replicate 60 0)))] (macIs 15 { jobs := [(gJob (gateEnt 0xC0000000) 1 false)] }))).jobs.find? (fun j => j.stage == 1) = some (gJob (gateEnt 0xC0000000) 1 false) ∧
    answersOf (.fhg 15) (useGate (gJob (gateEnt 0xC0000000) 1 false).no 1) (flying [(pkt 9 (.fhg 15) (useGate 0 1) (.read 60) .served 0 (some (0, List.replicate 60 0)))] (macIs 15 { jobs := [(gJob (gateEnt 0xC0000000) 1 false)] })) ≠ [] ∧
    unanswered (.fhg 15) (useGate (gJob (gateEnt 0xC0000000) 1 false).no 1) (flying [(pkt 9 (.fhg 15) (useGate 0 1) (.read 60) .served 0 (some (0, List.replicate 60 0)))] (macIs 15 { jobs := [(gJob (gateEnt 0xC0000000) 1 false)] })) = false ∧
    (gJob (gateEnt 0xC0000000) 1 false).gone = false ∧
    (firstBad (answersOf (.fhg 15) (useGate (gJob (gateEnt 0xC0000000) 1 false).no 1) (flying [(pkt 9 (.fhg 15) (useGate 0 1) (.read 60) .served 0 (some (0, List.replicate 60 0)))] (macIs 15 { jobs := [(gJob (gateEnt 0xC0000000) 1 false)] })))).isSome = false) ∧
  (Running (flying [(pkt 9 (.fhg 15) (useGate 0 1) (.read 60) .served 0 (some (1, List.replicate 60 0)))] (macIs 15 { jobs := [(gJob (gateEnt 0xC0000000) 1 false)] })) ∧
    (mac 15 (flying [(pkt 9 (.fhg 15) (useGate 0 1) (.read 60) .served 0 (some (1, List.replicate 60 0)))] (macIs 15 { jobs := [(gJob (gateEnt 0xC0000000) 1 false)] }))).jobs.find? (fun j => j.stage == 1) = some (gJob (gateEnt 0xC0000000) 1 false) ∧
    answersOf (.fhg 15) (useGate (gJob (gateEnt 0xC0000000) 1 false).no 1) (flying [(pkt 9 (.fhg 15) (useGate 0 1) (.read 60) .served 0 (some (1, List.replicate 60 0)))] (macIs 15 { jobs := [(gJob (gateEnt 0xC0000000) 1 false)] })) ≠ [] ∧
    unanswered (.fhg 15) (useGate (gJob (gateEnt 0xC0000000) 1 false).no 1) (flying [(pkt 9 (.fhg 15) (useGate 0 1) (.read 60) .served 0 (some (1, List.replicate 60 0)))] (macIs 15 { jobs := [(gJob (gateEnt 0xC0000000) 1 false)] })) = false ∧
    (gJob (gateEnt 0xC0000000) 1 false).gone = false ∧
    (firstBad (answersOf (.fhg 15) (useGate (gJob (gateEnt 0xC0000000) 1 false).no 1) (flying [(pkt 9 (.fhg 15) (useGate 0 1) (.read 60) .served 0 (some (1, List.replicate 60 0)))] (macIs 15 { jobs := [(gJob (gateEnt 0xC0000000) 1 false)] })))).isSome = true) ∧
  (Running (macIs 15 { jobs := [(gJob [] 2)] } [(Reg.MAC_STATUS 15, 0)]) ∧
    (mac 15 (macIs 15 { jobs := [(gJob [] 2)] } [(Reg.MAC_STATUS 15, 0)])).jobs.find? (fun j => j.stage != 3 && !j.gone) = some (gJob [] 2) ∧
    (gJob [] 2).stage = 2 ∧ beforeEnd (gJob [] 2).launch (macIs 15 { jobs := [(gJob [] 2)] } [(Reg.MAC_STATUS 15, 0)]) = true ∧
    macUp 15 (macIs 15 { jobs := [(gJob [] 2)] } [(Reg.MAC_STATUS 15, 0)]) = false) ∧
  (Running (macIs 15 { jobs := [(gJob [] 2)] } [(Reg.MAC_STATUS 15, 1)]) ∧
    (mac 15 (macIs 15 { jobs := [(gJob [] 2)] } [(Reg.MAC_STATUS 15, 1)])).jobs.find? (fun j => j.stage != 3 && !j.gone) = some (gJob [] 2) ∧
    (gJob [] 2).stage = 2 ∧ beforeEnd (gJob [] 2).launch (macIs 15 { jobs := [(gJob [] 2)] } [(Reg.MAC_STATUS 15, 1)]) = true ∧
    macUp 15 (macIs 15 { jobs := [(gJob [] 2)] } [(Reg.MAC_STATUS 15, 1)]) = true) := by
  with_reducible and_intros
  all_goals
    first
    | decide +kernel
    | (unfold Running; decide +kernel)

/-- Concrete inputs meet the hypotheses of EthernetPorts, clause by clause. -/
theorem witness_EthernetPorts :
  (Running (regs [(Reg.LANE_QUAD_CFG 7, 0x12005), (Reg.LANE_QUAD_STATUS 7, 4)]) ∧
    portLive 15 (regs [(Reg.LANE_QUAD_CFG 7, 0x12005), (Reg.LANE_QUAD_STATUS 7, 4)]) = true ∧
    portState 15 (regs [(Reg.LANE_QUAD_CFG 7, 0x12005), (Reg.LANE_QUAD_STATUS 7, 4)]) = 1) ∧
  (Running (regs [(Reg.LANE_QUAD_CFG 7, 0x12005), (Reg.LANE_QUAD_STATUS 7, 8)]) ∧
    portLive 15 (regs [(Reg.LANE_QUAD_CFG 7, 0x12005), (Reg.LANE_QUAD_STATUS 7, 8)]) = true ∧
    portState 15 (regs [(Reg.LANE_QUAD_CFG 7, 0x12005), (Reg.LANE_QUAD_STATUS 7, 8)]) = 2) ∧
  (Running (regs [(Reg.LANE_QUAD_CFG 7, 0x12005), (Reg.LANE_QUAD_STATUS 7, 12)]) ∧
    portLive 15 (regs [(Reg.LANE_QUAD_CFG 7, 0x12005), (Reg.LANE_QUAD_STATUS 7, 12)]) = true ∧
    portState 15 (regs [(Reg.LANE_QUAD_CFG 7, 0x12005), (Reg.LANE_QUAD_STATUS 7, 12)]) = 3 ∧
    macPort 15 (regs [(Reg.LANE_QUAD_CFG 7, 0x12005), (Reg.LANE_QUAD_STATUS 7, 12)]) = some (2, 2, 2, 1, 0)) ∧
  (Running (regs [(Reg.LANE_QUAD_CFG 7, 0x2005), (Reg.LANE_QUAD_STATUS 7, 0)]) ∧
    macPort 15 (regs [(Reg.LANE_QUAD_CFG 7, 0x2005), (Reg.LANE_QUAD_STATUS 7, 0)]) = some (2, 2, 2, 0, 0) ∧
    portLive 15 (regs [(Reg.LANE_QUAD_CFG 7, 0x2005), (Reg.LANE_QUAD_STATUS 7, 0)]) = true ∧
    portState 15 (regs [(Reg.LANE_QUAD_CFG 7, 0x2005), (Reg.LANE_QUAD_STATUS 7, 0)]) = 0) ∧
  (Running (regs [(Reg.LANE_QUAD_CFG 7, 0x2005), (Reg.LANE_QUAD_STATUS 7, 12)]) ∧
    macPort 15 (regs [(Reg.LANE_QUAD_CFG 7, 0x2005), (Reg.LANE_QUAD_STATUS 7, 12)]) = some (2, 2, 2, 0, 0) ∧
    portLive 15 (regs [(Reg.LANE_QUAD_CFG 7, 0x2005), (Reg.LANE_QUAD_STATUS 7, 12)]) = true ∧
    portState 15 (regs [(Reg.LANE_QUAD_CFG 7, 0x2005), (Reg.LANE_QUAD_STATUS 7, 12)]) = 3) := by
  with_reducible and_intros
  all_goals
    first
    | decide +kernel
    | (unfold Running; decide +kernel)

/-- Lane 31 is `x` in a state at a rate; `w` are further bits of LANE_STATUS. -/
def laneIs (st : Nat) (x : Lane := {}) (w : Nat := 0) (rate : Nat := 1) : State :=
  regs [(Reg.LANE_STATUS 31, w + 16 * rate + st), (Reg.LANE_CFG 31, 1)] { State.reset with lane := [(31, x)] }

/-- The code groups of characters, from negative disparity. -/
def groups (cs : List LaneChar) : List Nat := (codeGroups false cs).1

/-- A block of 32 bytes, as a CAPS set carries it. -/
def capBlock : List Byte := List.replicate 32 2

/-- Concrete inputs meet the hypotheses of TetherBringUp, clause by clause. -/
theorem witness_TetherBringUp :
  (Running (laneIs 0 {} 0 1) ∧ laneLive 31 (laneIs 0 {} 0 1) = true ∧ laneState 31 (laneIs 0 {} 0 1) = 0) ∧
  (Running (laneIs 1 {} 0 1) ∧ laneLive 31 (laneIs 1 {} 0 1) = true ∧ laneState 31 (laneIs 1 {} 0 1) = 1) ∧
  (Running (laneIs 2 {} 0 1) ∧ laneLive 31 (laneIs 2 {} 0 1) = true ∧ laneState 31 (laneIs 2 {} 0 1) = 2) ∧
  (Running (laneIs 3 {} 0 1) ∧ laneLive 31 (laneIs 3 {} 0 1) = true ∧ laneState 31 (laneIs 3 {} 0 1) = 3) ∧
  (Running (laneIs 5 {} 0 1) ∧ laneLive 31 (laneIs 5 {} 0 1) = true ∧ laneState 31 (laneIs 5 {} 0 1) = 5) ∧
  (Running (laneIs 4 { rxSw := true } 0 1) ∧ laneLive 31 (laneIs 4 { rxSw := true } 0 1) = true ∧
    laneState 31 (laneIs 4 { rxSw := true } 0 1) = 4 ∧ (lane 31 (laneIs 4 { rxSw := true } 0 1)).rxSw = true) ∧
  (Running (laneIs 4 { stepping := true, txSw := true, rxSw := true, bit := true, next := 6, target := 6 } 128 1) ∧
    laneLive 31 (laneIs 4 { stepping := true, txSw := true, rxSw := true, bit := true, next := 6, target := 6 } 128 1) = true ∧
    laneState 31 (laneIs 4 { stepping := true, txSw := true, rxSw := true, bit := true, next := 6, target := 6 } 128 1) = 4 ∧
    (lane 31 (laneIs 4 { stepping := true, txSw := true, rxSw := true, bit := true, next := 6, target := 6 } 128 1)).stepping = true ∧
    (lane 31 (laneIs 4 { stepping := true, txSw := true, rxSw := true, bit := true, next := 6, target := 6 } 128 1)).txSw = true ∧
    (lane 31 (laneIs 4 { stepping := true, txSw := true, rxSw := true, bit := true, next := 6, target := 6 } 128 1)).rxSw = true ∧
    (lane 31 (laneIs 4 { stepping := true, txSw := true, rxSw := true, bit := true, next := 6, target := 6 } 128 1)).bit = true ∧
    (lane 31 (laneIs 4 { stepping := true, txSw := true, rxSw := true, bit := true, next := 6, target := 6 } 128 1)).next = (lane 31 (laneIs 4 { stepping := true, txSw := true, rxSw := true, bit := true, next := 6, target := 6 } 128 1)).target ∧
    flagOn (Reg.LANE_STATUS 31) 7 (laneIs 4 { stepping := true, txSw := true, rxSw := true, bit := true, next := 6, target := 6 } 128 1) = true) ∧
  (Running (laneIs 3 { caps := capBlock, same := 2 } 0 1) ∧ laneLive 31 (laneIs 3 { caps := capBlock, same := 2 } 0 1) = true ∧
    laneState 31 (laneIs 3 { caps := capBlock, same := 2 } 0 1) = 3 ∧
    capsOf (laneRead 31 (laneGroups 31 (groups (capsSet capBlock)) (laneIs 3 { caps := capBlock, same := 2 } 0 1)) (laneIs 3 { caps := capBlock, same := 2 } 0 1)).1 = (capBlock, true) ∧
    (lane 31 (laneIs 3 { caps := capBlock, same := 2 } 0 1)).caps = capBlock ∧
    (lane 31 (laneIs 3 { caps := capBlock, same := 2 } 0 1)).same = 2 ∧ leAt capBlock 0 1 ≠ 1 ∧ bitOf (leAt capBlock 4 1) 0 = false) ∧
  (Running (laneIs 3 {} 0 1) ∧ laneLive 31 (laneIs 3 {} 0 1) = true ∧ laneState 31 (laneIs 3 {} 0 1) = 3 ∧
    capsOf (laneRead 31 (laneGroups 31 (groups (capsSet capBlock)) (laneIs 3 {} 0 1)) (laneIs 3 {} 0 1)).1 = (capBlock, true) ∧
    (lane 31 (laneIs 3 {} 0 1)).caps ≠ capBlock) ∧
  (Running (laneIs 3 {} 0 1) ∧ laneLive 31 (laneIs 3 {} 0 1) = true ∧ laneState 31 (laneIs 3 {} 0 1) = 3 ∧
    (capsOf (laneRead 31 (laneGroups 31 (groups (orderedSet 40 [0x43])) (laneIs 3 {} 0 1)) (laneIs 3 {} 0 1)).1).2 = false) ∧
  (Running (laneIs 3 { done := true } 0 1) ∧ laneLive 31 (laneIs 3 { done := true } 0 1) = true ∧
    tscOf (laneRead 31 (laneGroups 31 (groups (tscSet 1 6 63)) (laneIs 3 { done := true } 0 1)) (laneIs 3 { done := true } 0 1)).1 = some (6, 63) ∧
    (laneState 31 (laneIs 3 { done := true } 0 1) = 3 ∧
    (lane 31 (laneIs 3 { done := true } 0 1)).done = true ∨ laneState 31 (laneIs 3 { done := true } 0 1) = 4) ∧
    flagOn (Reg.LANE_STATUS 31) 7 (laneIs 3 { done := true } 0 1) = false ∧ (lane 31 (laneIs 3 { done := true } 0 1)).stepping = false) ∧
  (Running (laneIs 4 { stepping := true, next := 6, txSw := true } 0 1) ∧
    laneLive 31 (laneIs 4 { stepping := true, next := 6, txSw := true } 0 1) = true ∧
    tscOf (laneRead 31 (laneGroups 31 (groups (tscSet 1 6 0)) (laneIs 4 { stepping := true, next := 6, txSw := true } 0 1)) (laneIs 4 { stepping := true, next := 6, txSw := true } 0 1)).1 = some (6, 0) ∧
    (laneState 31 (laneIs 4 { stepping := true, next := 6, txSw := true } 0 1) = 3 ∧
    (lane 31 (laneIs 4 { stepping := true, next := 6, txSw := true } 0 1)).done = true ∨ laneState 31 (laneIs 4 { stepping := true, next := 6, txSw := true } 0 1) = 4) ∧
    laneState 31 (laneIs 4 { stepping := true, next := 6, txSw := true } 0 1) = 4 ∧
    (lane 31 (laneIs 4 { stepping := true, next := 6, txSw := true } 0 1)).stepping = true ∧
    (lane 31 (laneIs 4 { stepping := true, next := 6, txSw := true } 0 1)).refuse = false ∧
    (lane 31 (laneIs 4 { stepping := true, next := 6, txSw := true } 0 1)).next = 6 ∧
    (lane 31 (laneIs 4 { stepping := true, next := 6, txSw := true } 0 1)).txSw = true ∧ 6 < 8) ∧
  (Running (laneIs 4 { stepping := true } 0 1) ∧ laneLive 31 (laneIs 4 { stepping := true } 0 1) = true ∧
    laneState 31 (laneIs 4 { stepping := true } 0 1) = 4 ∧ (lane 31 (laneIs 4 { stepping := true } 0 1)).stepping = true) ∧
  (Running (laneIs 4 { stepping := true, next := 6, rxSw := true } 128 1) ∧
    laneLive 31 (laneIs 4 { stepping := true, next := 6, rxSw := true } 128 1) = true ∧
    laneState 31 (laneIs 4 { stepping := true, next := 6, rxSw := true } 128 1) = 4 ∧
    (lane 31 (laneIs 4 { stepping := true, next := 6, rxSw := true } 128 1)).stepping = true ∧
    (lane 31 (laneIs 4 { stepping := true, next := 6, rxSw := true } 128 1)).refuse = false ∧
    (flagOn (Reg.LANE_STATUS 31) 7 (laneIs 4 { stepping := true, next := 6, rxSw := true } 128 1) = true ∨ (lane 31 (laneIs 4 { stepping := true, next := 6, rxSw := true } 128 1)).rxSw = true) ∧
    (lane 31 (laneIs 4 { stepping := true, next := 6, rxSw := true } 128 1)).rxSw = true ∧
    (lane 31 (laneIs 4 { stepping := true, next := 6, rxSw := true } 128 1)).next < 8) ∧
  (Running (laneIs 5 {} 0 1) ∧ Open 0 (Reg.LANE_CTRL 31) false true 1 (laneIs 5 {} 0 1) ∧ laneState 31 (laneIs 5 {} 0 1) ≠ 6 ∧
    Open 0 (Reg.LANE_CTRL 31) false true 2 (laneIs 5 {} 0 1)) := by
  with_reducible and_intros
  all_goals
    first
    | decide +kernel
    | (unfold Running; decide +kernel)
    | exact open_of (by decide +kernel)

/-- A block of 64 characters with its CRC, flags `f` in byte 22 (R352, R355). -/
def block (f : Byte) : List Byte := let b := List.replicate 21 0 ++ [f] ++ List.replicate 39 0; (0xBC : Byte) :: b ++ crc16Bytes b

/-- Concrete inputs meet the hypotheses of TetherTraffic, clause by clause. -/
theorem witness_TetherTraffic :
  (Running (laneIs 5 { leave := 1 } 0 1) ∧ laneState 31 (laneIs 5 { leave := 1 } 0 1) = 5 ∧
    (lane 31 (laneIs 5 { leave := 1 } 0 1)).quiet = false ∧ laneLoop 31 (laneIs 5 { leave := 1 } 0 1) = 0 ∧
    (lane 31 (laneIs 5 { leave := 1 } 0 1)).super = false ∧
    ((lane 31 (laneIs 5 { leave := 1 } 0 1)).super = false ∨ 2 ≤ (lane 31 (laneIs 5 { leave := 1 } 0 1)).blk) ∧
    (lane 31 (laneIs 5 { leave := 1 } 0 1)).leave = 1) ∧
  (Running (laneIs 5 { super := true, blk := 2 } 0 1) ∧ laneState 31 (laneIs 5 { super := true, blk := 2 } 0 1) = 5 ∧
    (lane 31 (laneIs 5 { super := true, blk := 2 } 0 1)).quiet = false ∧ laneLoop 31 (laneIs 5 { super := true, blk := 2 } 0 1) = 0 ∧
    (lane 31 (laneIs 5 { super := true, blk := 2 } 0 1)).super = true ∧
    ((lane 31 (laneIs 5 { super := true, blk := 2 } 0 1)).super = false ∨ 2 ≤ (lane 31 (laneIs 5 { super := true, blk := 2 } 0 1)).blk)) ∧
  (Running (laneIs 5 {} 0 1) ∧ inReplay (laneIs 5 {} 0 1) = false ∧ laneLoop 31 (laneIs 5 {} 0 1) = 0 ∧
    laneState 31 (laneIs 5 {} 0 1) = 5 ∧ (lane 31 (laneIs 5 {} 0 1)).quiet = false ∧
    ((laneRead 31 (laneGroups 31 [] (laneIs 5 {} 0 1)) (laneIs 5 {} 0 1)).1.map (·.2)).length < blockLen (laneRate 31 (laneIs 5 {} 0 1))) ∧
  (Running (laneIs 5 {} 0 1) ∧ inReplay (laneIs 5 {} 0 1) = false ∧ laneLoop 31 (laneIs 5 {} 0 1) = 0 ∧
    laneState 31 (laneIs 5 {} 0 1) = 5 ∧ (lane 31 (laneIs 5 {} 0 1)).quiet = false ∧
    ((laneRead 31 (laneGroups 31 (groups (k285 :: dataChars (List.replicate 63 0))) (laneIs 5 {} 0 1)) (laneIs 5 {} 0 1)).1.map (·.2)).length = blockLen (laneRate 31 (laneIs 5 {} 0 1)) ∧
    blockGood 31 ((laneRead 31 (laneGroups 31 (groups (k285 :: dataChars (List.replicate 63 0))) (laneIs 5 {} 0 1)) (laneIs 5 {} 0 1)).1.map (·.2)) (laneIs 5 {} 0 1) = false ∧
    (laneRead 31 (laneGroups 31 (groups (k285 :: dataChars (List.replicate 63 0))) (laneIs 5 {} 0 1)) (laneIs 5 {} 0 1)).2.1 < 16 ∧
    (decide ((laneRead 31 (laneGroups 31 (groups (k285 :: dataChars (List.replicate 63 0))) (laneIs 5 {} 0 1)) (laneIs 5 {} 0 1)).1.head? = some k285 ∨ (laneRead 31 (laneGroups 31 (groups (k285 :: dataChars (List.replicate 63 0))) (laneIs 5 {} 0 1)) (laneIs 5 {} 0 1)).1.head? = some k281) = true)) ∧
  (Running (laneIs 5 {} 0 1) ∧ inReplay (laneIs 5 {} 0 1) = false ∧ laneLoop 31 (laneIs 5 {} 0 1) = 0 ∧
    laneState 31 (laneIs 5 {} 0 1) = 5 ∧ (lane 31 (laneIs 5 {} 0 1)).quiet = false ∧
    blockGood 31 ((laneRead 31 (laneGroups 31 (groups (k285 :: dataChars ((block 0).drop 1))) (laneIs 5 {} 0 1)) (laneIs 5 {} 0 1)).1.map (·.2)) (laneIs 5 {} 0 1) = true ∧
    bitOf (leAt ((laneRead 31 (laneGroups 31 (groups (k285 :: dataChars ((block 0).drop 1))) (laneIs 5 {} 0 1)) (laneIs 5 {} 0 1)).1.map (·.2)) 22 1) 0 = false) ∧
  (Running (laneIs 5 {} 0 1) ∧ inReplay (laneIs 5 {} 0 1) = false ∧ laneLoop 31 (laneIs 5 {} 0 1) = 0 ∧
    laneState 31 (laneIs 5 {} 0 1) = 5 ∧ (lane 31 (laneIs 5 {} 0 1)).quiet = false ∧
    blockGood 31 ((laneRead 31 (laneGroups 31 (groups (k285 :: dataChars ((block 1).drop 1))) (laneIs 5 {} 0 1)) (laneIs 5 {} 0 1)).1.map (·.2)) (laneIs 5 {} 0 1) = true ∧
    bitOf (leAt ((laneRead 31 (laneGroups 31 (groups (k285 :: dataChars ((block 1).drop 1))) (laneIs 5 {} 0 1)) (laneIs 5 {} 0 1)).1.map (·.2)) 22 1) 0 = true) ∧
  (Running (laneIs 5 {} 0 1) ∧ inReplay (laneIs 5 {} 0 1) = false ∧ laneLoop 31 (laneIs 5 {} 0 1) = 0 ∧
    laneState 31 (laneIs 5 {} 0 1) = 5 ∧ (lane 31 (laneIs 5 {} 0 1)).quiet = false ∧
    blockGood 31 ((laneRead 31 (laneGroups 31 (List.replicate 64 (codeGroup true k281)) (laneIs 5 {} 0 1)) (laneIs 5 {} 0 1)).1.map (·.2)) (laneIs 5 {} 0 1) = false ∧
    16 ≤ (laneRead 31 (laneGroups 31 (List.replicate 64 (codeGroup true k281)) (laneIs 5 {} 0 1)) (laneIs 5 {} 0 1)).2.1) ∧
  (Running (laneIs 5 { noK := 2 } 0 1) ∧ inReplay (laneIs 5 { noK := 2 } 0 1) = false ∧ laneLoop 31 (laneIs 5 { noK := 2 } 0 1) = 0 ∧
    laneState 31 (laneIs 5 { noK := 2 } 0 1) = 5 ∧ (lane 31 (laneIs 5 { noK := 2 } 0 1)).quiet = false ∧
    blockGood 31 ((laneRead 31 (laneGroups 31 (groups (dataChars (List.replicate 64 0))) (laneIs 5 { noK := 2 } 0 1)) (laneIs 5 { noK := 2 } 0 1)).1.map (·.2)) (laneIs 5 { noK := 2 } 0 1) = false ∧
    (decide ((laneRead 31 (laneGroups 31 (groups (dataChars (List.replicate 64 0))) (laneIs 5 { noK := 2 } 0 1)) (laneIs 5 { noK := 2 } 0 1)).1.head? = some k285 ∨ (laneRead 31 (laneGroups 31 (groups (dataChars (List.replicate 64 0))) (laneIs 5 { noK := 2 } 0 1)) (laneIs 5 { noK := 2 } 0 1)).1.head? = some k281) = false) ∧
    (lane 31 (laneIs 5 { noK := 2 } 0 1)).noK < 3 ∧
    (laneRead 31 (laneGroups 31 (groups (dataChars (List.replicate 64 0))) (laneIs 5 { noK := 2 } 0 1)) (laneIs 5 { noK := 2 } 0 1)).2.1 < 16) ∧
  (Running (laneIs 5 { noK := 3 } 0 1) ∧ inReplay (laneIs 5 { noK := 3 } 0 1) = false ∧ laneLoop 31 (laneIs 5 { noK := 3 } 0 1) = 0 ∧
    laneState 31 (laneIs 5 { noK := 3 } 0 1) = 5 ∧ (lane 31 (laneIs 5 { noK := 3 } 0 1)).quiet = false ∧
    blockGood 31 ((laneRead 31 (laneGroups 31 (groups (dataChars (List.replicate 64 0))) (laneIs 5 { noK := 3 } 0 1)) (laneIs 5 { noK := 3 } 0 1)).1.map (·.2)) (laneIs 5 { noK := 3 } 0 1) = false ∧
    (decide ((laneRead 31 (laneGroups 31 (groups (dataChars (List.replicate 64 0))) (laneIs 5 { noK := 3 } 0 1)) (laneIs 5 { noK := 3 } 0 1)).1.head? = some k285 ∨ (laneRead 31 (laneGroups 31 (groups (dataChars (List.replicate 64 0))) (laneIs 5 { noK := 3 } 0 1)) (laneIs 5 { noK := 3 } 0 1)).1.head? = some k281) = false) ∧
    3 ≤ (lane 31 (laneIs 5 { noK := 3 } 0 1)).noK) ∧
  (Running (laneIs 5 { leave := 2, leaveSent := 240 } 0 1) ∧ laneState 31 (laneIs 5 { leave := 2, leaveSent := 240 } 0 1) = 5 ∧
    (lane 31 (laneIs 5 { leave := 2, leaveSent := 240 } 0 1)).leave = 2 ∧
    (if (lane 31 (laneIs 5 { leave := 2, leaveSent := 240 } 0 1)).super then 120 * 2 ^ fld Reg.ROUND_CFG 2 0 (laneIs 5 { leave := 2, leaveSent := 240 } 0 1) else 240) ≤ (lane 31 (laneIs 5 { leave := 2, leaveSent := 240 } 0 1)).leaveSent) ∧
  (Running (laneIs 5 { super := true, leave := 2, leaveSent := 15360 } 0 1) ∧
    laneState 31 (laneIs 5 { super := true, leave := 2, leaveSent := 15360 } 0 1) = 5 ∧
    (lane 31 (laneIs 5 { super := true, leave := 2, leaveSent := 15360 } 0 1)).leave = 2 ∧
    (if (lane 31 (laneIs 5 { super := true, leave := 2, leaveSent := 15360 } 0 1)).super then 120 * 2 ^ fld Reg.ROUND_CFG 2 0 (laneIs 5 { super := true, leave := 2, leaveSent := 15360 } 0 1) else 240) ≤ (lane 31 (laneIs 5 { super := true, leave := 2, leaveSent := 15360 } 0 1)).leaveSent) ∧
  (Running (laneIs 5 { rxPend := [9] } 0 1) ∧ (lane 31 (laneIs 5 { rxPend := [9] } 0 1)).rxPend = 9 :: [] ∧
    unaccepted (.lane 31) (useCtlWrite (fld (Reg.LANE_TCTL_PTR 31) 7 0 (laneIs 5 { rxPend := [9] } 0 1) % 16)) (laneIs 5 { rxPend := [9] } 0 1) = false) ∧
  (Running (regs [(Reg.LANE_TCTL_PTR 31, 0x1000000)] (laneIs 5)) ∧ laneState 31 (regs [(Reg.LANE_TCTL_PTR 31, 0x1000000)] (laneIs 5)) = 5 ∧
    fld (Reg.LANE_TCTL_PTR 31) 23 16 (regs [(Reg.LANE_TCTL_PTR 31, 0x1000000)] (laneIs 5)) ≠ fld (Reg.LANE_TCTL_PTR 31) 31 24 (regs [(Reg.LANE_TCTL_PTR 31, 0x1000000)] (laneIs 5)) ∧
    (lane 31 (regs [(Reg.LANE_TCTL_PTR 31, 0x1000000)] (laneIs 5))).ctlTx = [] ∧
    (lane 31 (regs [(Reg.LANE_TCTL_PTR 31, 0x1000000)] (laneIs 5))).ctlRead = false) ∧
  (Running (flying [(pkt 9 (.lane 31) useCtlRead (.read 256) .served 0 (some (0, ((1 : Byte) :: List.replicate 255 0))))] (laneIs 5)) ∧
    laneState 31 (flying [(pkt 9 (.lane 31) useCtlRead (.read 256) .served 0 (some (0, ((1 : Byte) :: List.replicate 255 0))))] (laneIs 5)) = 5 ∧
    waitingAns (.lane 31) useCtlRead (flying [(pkt 9 (.lane 31) useCtlRead (.read 256) .served 0 (some (0, ((1 : Byte) :: List.replicate 255 0))))] (laneIs 5)) = some ((pkt 9 (.lane 31) useCtlRead (.read 256) .served 0 (some (0, ((1 : Byte) :: List.replicate 255 0)))), 0, ((1 : Byte) :: List.replicate 255 0)) ∧
    1 ≤ leAt ((1 : Byte) :: List.replicate 255 0) 0 1 ∧ leAt ((1 : Byte) :: List.replicate 255 0) 0 1 ≤ 248) ∧
  (Running (flying [(pkt 9 (.lane 31) useCtlRead (.read 256) .served 0 (some (0, ((248 : Byte) :: List.replicate 255 0))))] (laneIs 5)) ∧
    laneState 31 (flying [(pkt 9 (.lane 31) useCtlRead (.read 256) .served 0 (some (0, ((248 : Byte) :: List.replicate 255 0))))] (laneIs 5)) = 5 ∧
    waitingAns (.lane 31) useCtlRead (flying [(pkt 9 (.lane 31) useCtlRead (.read 256) .served 0 (some (0, ((248 : Byte) :: List.replicate 255 0))))] (laneIs 5)) = some ((pkt 9 (.lane 31) useCtlRead (.read 256) .served 0 (some (0, ((248 : Byte) :: List.replicate 255 0)))), 0, ((248 : Byte) :: List.replicate 255 0)) ∧
    1 ≤ leAt ((248 : Byte) :: List.replicate 255 0) 0 1 ∧ leAt ((248 : Byte) :: List.replicate 255 0) 0 1 ≤ 248) ∧
  (Running (flying [(pkt 9 (.lane 31) useCtlRead (.read 256) .served 0 (some (0, ((249 : Byte) :: List.replicate 255 0))))] (laneIs 5)) ∧
    laneState 31 (flying [(pkt 9 (.lane 31) useCtlRead (.read 256) .served 0 (some (0, ((249 : Byte) :: List.replicate 255 0))))] (laneIs 5)) = 5 ∧
    waitingAns (.lane 31) useCtlRead (flying [(pkt 9 (.lane 31) useCtlRead (.read 256) .served 0 (some (0, ((249 : Byte) :: List.replicate 255 0))))] (laneIs 5)) = some ((pkt 9 (.lane 31) useCtlRead (.read 256) .served 0 (some (0, ((249 : Byte) :: List.replicate 255 0)))), 0, ((249 : Byte) :: List.replicate 255 0)) ∧
    (0 ≠ 0 ∨ leAt ((249 : Byte) :: List.replicate 255 0) 0 1 = 0 ∨ 248 < leAt ((249 : Byte) :: List.replicate 255 0) 0 1)) ∧
  (Running (flying [(pkt 9 (.lane 31) useCtlRead (.read 256) .served 0 (some (0, ((0 : Byte) :: List.replicate 255 0))))] (laneIs 5)) ∧
    laneState 31 (flying [(pkt 9 (.lane 31) useCtlRead (.read 256) .served 0 (some (0, ((0 : Byte) :: List.replicate 255 0))))] (laneIs 5)) = 5 ∧
    waitingAns (.lane 31) useCtlRead (flying [(pkt 9 (.lane 31) useCtlRead (.read 256) .served 0 (some (0, ((0 : Byte) :: List.replicate 255 0))))] (laneIs 5)) = some ((pkt 9 (.lane 31) useCtlRead (.read 256) .served 0 (some (0, ((0 : Byte) :: List.replicate 255 0)))), 0, ((0 : Byte) :: List.replicate 255 0)) ∧
    (0 ≠ 0 ∨ leAt ((0 : Byte) :: List.replicate 255 0) 0 1 = 0 ∨ 248 < leAt ((0 : Byte) :: List.replicate 255 0) 0 1)) ∧
  (Running (flying [(pkt 9 (.lane 31) useCtlRead (.read 256) .served 0 (some (1, ((1 : Byte) :: List.replicate 255 0))))] (laneIs 5)) ∧
    laneState 31 (flying [(pkt 9 (.lane 31) useCtlRead (.read 256) .served 0 (some (1, ((1 : Byte) :: List.replicate 255 0))))] (laneIs 5)) = 5 ∧
    waitingAns (.lane 31) useCtlRead (flying [(pkt 9 (.lane 31) useCtlRead (.read 256) .served 0 (some (1, ((1 : Byte) :: List.replicate 255 0))))] (laneIs 5)) = some ((pkt 9 (.lane 31) useCtlRead (.read 256) .served 0 (some (1, ((1 : Byte) :: List.replicate 255 0)))), 1, ((1 : Byte) :: List.replicate 255 0)) ∧
    (1 ≠ 0 ∨ leAt ((1 : Byte) :: List.replicate 255 0) 0 1 = 0 ∨ 248 < leAt ((1 : Byte) :: List.replicate 255 0) 0 1)) ∧
  (Running (laneIs 5 {} 0 1) ∧ laneState 31 (laneIs 5 {} 0 1) = 5 ∧ eqAuto 31 (laneIs 5 {} 0 1) = true ∧ laneLoop 31 (laneIs 5 {} 0 1) = 0) := by
  with_reducible and_intros
  all_goals
    first
    | decide +kernel
    | (unfold Running; decide +kernel)

/-- A frame of 64 bytes with its FCS, to address 0, of type 0x88B6. -/
def aFrame : List Byte := framed (List.replicate 12 0 ++ [0x88, 0xB6] ++ List.replicate 46 0)

/-- A received frame for queue 255 at a stage, its slots of 64 bytes. -/
def rxAt (stage : Nat) : RxFrame := ⟨0, 255, 0, aFrame, 64, 0, 0, 0, 0, leBytes 6 0 ++ leBytes 2 1 ++ List.replicate 24 0, stage⟩

/-- Concrete inputs meet the hypotheses of EthernetReceive, clause by clause. -/
theorem witness_EthernetReceive :
  (Running (regs [(Reg.MAC_STATUS 15, 1), (Reg.MAC_CFG 15, 0)]) ∧
    flagOn (Reg.MAC_STATUS 15) 0 (regs [(Reg.MAC_STATUS 15, 1), (Reg.MAC_CFG 15, 0)]) = true ∧
    macLoop 15 (regs [(Reg.MAC_STATUS 15, 1), (Reg.MAC_CFG 15, 0)]) = false ∧
    inReplay (regs [(Reg.MAC_STATUS 15, 1), (Reg.MAC_CFG 15, 0)]) = false ∧
    flagOn (Reg.MAC_CFG 15) 19 (regs [(Reg.MAC_STATUS 15, 1), (Reg.MAC_CFG 15, 0)]) = false) ∧
  (Running (regs [(Reg.MAC_STATUS 15, 1), (Reg.MAC_CFG 15, 0x80000), (Reg.MAC_RX_CFG 15, 0x1FF), (Reg.MAC_RXQ_TABLE 15, 0x100000000000000)]) ∧
    flagOn (Reg.MAC_STATUS 15) 0 (regs [(Reg.MAC_STATUS 15, 1), (Reg.MAC_CFG 15, 0x80000), (Reg.MAC_RX_CFG 15, 0x1FF), (Reg.MAC_RXQ_TABLE 15, 0x100000000000000)]) = true ∧
    macLoop 15 (regs [(Reg.MAC_STATUS 15, 1), (Reg.MAC_CFG 15, 0x80000), (Reg.MAC_RX_CFG 15, 0x1FF), (Reg.MAC_RXQ_TABLE 15, 0x100000000000000)]) = false ∧
    inReplay (regs [(Reg.MAC_STATUS 15, 1), (Reg.MAC_CFG 15, 0x80000), (Reg.MAC_RX_CFG 15, 0x1FF), (Reg.MAC_RXQ_TABLE 15, 0x100000000000000)]) = false ∧
    flagOn (Reg.MAC_CFG 15) 19 (regs [(Reg.MAC_STATUS 15, 1), (Reg.MAC_CFG 15, 0x80000), (Reg.MAC_RX_CFG 15, 0x1FF), (Reg.MAC_RXQ_TABLE 15, 0x100000000000000)]) = true ∧
    flagOn Reg.REC_SRC_MAC 15 (regs [(Reg.MAC_STATUS 15, 1), (Reg.MAC_CFG 15, 0x80000), (Reg.MAC_RX_CFG 15, 0x1FF), (Reg.MAC_RXQ_TABLE 15, 0x100000000000000)]) = false ∧
    rxOccupancy 15 (regs [(Reg.MAC_STATUS 15, 1), (Reg.MAC_CFG 15, 0x80000), (Reg.MAC_RX_CFG 15, 0x1FF), (Reg.MAC_RXQ_TABLE 15, 0x100000000000000)]) + maxFrame 15 (regs [(Reg.MAC_STATUS 15, 1), (Reg.MAC_CFG 15, 0x80000), (Reg.MAC_RX_CFG 15, 0x1FF), (Reg.MAC_RXQ_TABLE 15, 0x100000000000000)]) + 8 ≤ 262144 ∧
    (List.replicate 17 (0 : Byte)).length < 18 ∧
    frameBad 15 aFrame false (regs [(Reg.MAC_STATUS 15, 1), (Reg.MAC_CFG 15, 0x80000), (Reg.MAC_RX_CFG 15, 0x1FF), (Reg.MAC_RXQ_TABLE 15, 0x100000000000000)]) = none ∧
    beNat (sliceOf aFrame 12 2) ≠ 0x8808 ∧
    isMgmt 15 aFrame (regs [(Reg.MAC_STATUS 15, 1), (Reg.MAC_CFG 15, 0x80000), (Reg.MAC_RX_CFG 15, 0x1FF), (Reg.MAC_RXQ_TABLE 15, 0x100000000000000)]) = false ∧
    leAt aFrame 0 6 = fld (Reg.MAC_ADDR 15) 47 0 (regs [(Reg.MAC_STATUS 15, 1), (Reg.MAC_CFG 15, 0x80000), (Reg.MAC_RX_CFG 15, 0x1FF), (Reg.MAC_RXQ_TABLE 15, 0x100000000000000)]) ∧
    frameQueue 15 aFrame (regs [(Reg.MAC_STATUS 15, 1), (Reg.MAC_CFG 15, 0x80000), (Reg.MAC_RX_CFG 15, 0x1FF), (Reg.MAC_RXQ_TABLE 15, 0x100000000000000)]) = some (255, 255) ∧
    (rxq 15 255 (regs [(Reg.MAC_STATUS 15, 1), (Reg.MAC_CFG 15, 0x80000), (Reg.MAC_RX_CFG 15, 0x1FF), (Reg.MAC_RXQ_TABLE 15, 0x100000000000000)])).copy = none) ∧
  (Running (flying [(pkt 9 (.mac 16) (useEntry 255) (.read 32) .served 0 (some (0, List.replicate 32 0)))]) ∧
    waitingAns (.mac 16) (useEntry 255) (flying [(pkt 9 (.mac 16) (useEntry 255) (.read 32) .served 0 (some (0, List.replicate 32 0)))]) = some ((pkt 9 (.mac 16) (useEntry 255) (.read 32) .served 0 (some (0, List.replicate 32 0))), 0, List.replicate 32 0)) ∧
  (Running (flying [(pkt 9 (.mac 16) (useEntry 255) (.read 32) .served 0 (some (1, List.replicate 32 0)))]) ∧
    waitingAns (.mac 16) (useEntry 255) (flying [(pkt 9 (.mac 16) (useEntry 255) (.read 32) .served 0 (some (1, List.replicate 32 0)))]) = some ((pkt 9 (.mac 16) (useEntry 255) (.read 32) .served 0 (some (1, List.replicate 32 0))), 1, List.replicate 32 0)) ∧
  (Running (flying [(pkt 9 (.mac 16) (useRxStat 0) (.read 4) .served 0 (some (0, [0, 0, 0, 0])))] (macIs 16 { rx := [rxAt 1] })) ∧
    rxHead 16 255 (flying [(pkt 9 (.mac 16) (useRxStat 0) (.read 4) .served 0 (some (0, [0, 0, 0, 0])))] (macIs 16 { rx := [rxAt 1] })) = some (rxAt 1) ∧
    waitingAns (.mac 16) (useRxStat (rxAt 1).no) (flying [(pkt 9 (.mac 16) (useRxStat 0) (.read 4) .served 0 (some (0, [0, 0, 0, 0])))] (macIs 16 { rx := [rxAt 1] })) = some ((pkt 9 (.mac 16) (useRxStat 0) (.read 4) .served 0 (some (0, [0, 0, 0, 0]))), 0, [0, 0, 0, 0]) ∧
    bitOf (leNat [0, 0, 0, 0]) 31 = false ∧ (rxWritten (rxAt 1)).length ≤ qeSlotSize (rxAt 1).entry) ∧
  (Running (flying [(pkt 9 (.mac 16) (useRxStat 0) (.read 4) .served 0 (some (0, [0, 0, 0, 128])))] (macIs 16 { rx := [rxAt 1] })) ∧
    rxHead 16 255 (flying [(pkt 9 (.mac 16) (useRxStat 0) (.read 4) .served 0 (some (0, [0, 0, 0, 128])))] (macIs 16 { rx := [rxAt 1] })) = some (rxAt 1) ∧
    waitingAns (.mac 16) (useRxStat (rxAt 1).no) (flying [(pkt 9 (.mac 16) (useRxStat 0) (.read 4) .served 0 (some (0, [0, 0, 0, 128])))] (macIs 16 { rx := [rxAt 1] })) = some ((pkt 9 (.mac 16) (useRxStat 0) (.read 4) .served 0 (some (0, [0, 0, 0, 128]))), 0, [0, 0, 0, 128]) ∧
    (0 ≠ 0 ∨ bitOf (leNat [0, 0, 0, 128]) 31 = true)) ∧
  (Running (flying [(pkt 9 (.mac 16) (useRxStat 0) (.read 4) .served 0 (some (1, [])))] (macIs 16 { rx := [rxAt 1] })) ∧
    rxHead 16 255 (flying [(pkt 9 (.mac 16) (useRxStat 0) (.read 4) .served 0 (some (1, [])))] (macIs 16 { rx := [rxAt 1] })) = some (rxAt 1) ∧
    waitingAns (.mac 16) (useRxStat (rxAt 1).no) (flying [(pkt 9 (.mac 16) (useRxStat 0) (.read 4) .served 0 (some (1, [])))] (macIs 16 { rx := [rxAt 1] })) = some ((pkt 9 (.mac 16) (useRxStat 0) (.read 4) .served 0 (some (1, []))), 1, []) ∧
    (1 ≠ 0 ∨ bitOf (leNat []) 31 = true)) ∧
  (Running (macIs 16 { rx := [rxAt 2] }) ∧ rxHead 16 255 (macIs 16 { rx := [rxAt 2] }) = some (rxAt 2) ∧ (rxAt 2).stage = 2 ∧
    unaccepted (.mac 16) (useRxData (rxAt 2).no) (macIs 16 { rx := [rxAt 2] }) = false ∧
    inCsr (qeStat (rxAt 2).entry + 32 * (rxq 16 255 (macIs 16 { rx := [rxAt 2] })).p) = false ∧
    originCode (srcOf (.mac 16) (macIs 16 { rx := [rxAt 2] })) 2 (qeStat (rxAt 2).entry + 32 * (rxq 16 255 (macIs 16 { rx := [rxAt 2] })).p) (.write (statusEntry (rxAt 2) ((rxq 16 255 (macIs 16 { rx := [rxAt 2] })).seq + 1))) (macIs 16 { rx := [rxAt 2] }) = none) ∧
  (Running (macIs 16 { rx := [rxAt 3] }) ∧ rxHead 16 255 (macIs 16 { rx := [rxAt 3] }) = some (rxAt 3) ∧ (rxAt 3).stage = 3 ∧
    unaccepted (.mac 16) (useRxDone (rxAt 3).no) (macIs 16 { rx := [rxAt 3] }) = false) ∧
  (Running (macIs 16 { rx := [rxAt 3] }) ∧ Open 0 (Reg.MAC_RXQ_RESET 16) false true 255 (macIs 16 { rx := [rxAt 3] }) ∧
    (rxHead 16 255 (macIs 16 { rx := [rxAt 3] })).isSome = true) ∧
  (Running .reset ∧ Open 0 (Reg.MAC_RXQ_RESET 16) false true 255 .reset ∧ rxHead 16 255 .reset = none) ∧
  (Running (regs [(Reg.MAC_STATUS 16, 1), (Reg.MAC_CFG 16, 0x80000), (Reg.MAC_PAUSE_CFG 16, 0)]) ∧
    macUp 16 (regs [(Reg.MAC_STATUS 16, 1), (Reg.MAC_CFG 16, 0x80000), (Reg.MAC_PAUSE_CFG 16, 0)]) = true ∧
    flagOn (Reg.MAC_CFG 16) 19 (regs [(Reg.MAC_STATUS 16, 1), (Reg.MAC_CFG 16, 0x80000), (Reg.MAC_PAUSE_CFG 16, 0)]) = true ∧
    flagOn (Reg.MAC_PAUSE_CFG 16) 3 (regs [(Reg.MAC_STATUS 16, 1), (Reg.MAC_CFG 16, 0x80000), (Reg.MAC_PAUSE_CFG 16, 0)]) = false ∧
    flagOn (Reg.MAC_STATUS 16) 5 (regs [(Reg.MAC_STATUS 16, 1), (Reg.MAC_CFG 16, 0x80000), (Reg.MAC_PAUSE_CFG 16, 0)]) = false ∧
    flagOn (Reg.MAC_PAUSE_CFG 16) 5 (regs [(Reg.MAC_STATUS 16, 1), (Reg.MAC_CFG 16, 0x80000), (Reg.MAC_PAUSE_CFG 16, 0)]) = false ∧
    flagOn (Reg.MAC_PAUSE_CFG 16) 6 (regs [(Reg.MAC_STATUS 16, 1), (Reg.MAC_CFG 16, 0x80000), (Reg.MAC_PAUSE_CFG 16, 0)]) = false) ∧
  (Running (regs [(Reg.MAC_STATUS 16, 33), (Reg.MAC_CFG 16, 0x80000), (Reg.MAC_PAUSE_CFG 16, 8)]) ∧
    macUp 16 (regs [(Reg.MAC_STATUS 16, 33), (Reg.MAC_CFG 16, 0x80000), (Reg.MAC_PAUSE_CFG 16, 8)]) = true ∧
    flagOn (Reg.MAC_CFG 16) 19 (regs [(Reg.MAC_STATUS 16, 33), (Reg.MAC_CFG 16, 0x80000), (Reg.MAC_PAUSE_CFG 16, 8)]) = true ∧
    flagOn (Reg.MAC_PAUSE_CFG 16) 3 (regs [(Reg.MAC_STATUS 16, 33), (Reg.MAC_CFG 16, 0x80000), (Reg.MAC_PAUSE_CFG 16, 8)]) = true ∧
    flagOn (Reg.MAC_STATUS 16) 5 (regs [(Reg.MAC_STATUS 16, 33), (Reg.MAC_CFG 16, 0x80000), (Reg.MAC_PAUSE_CFG 16, 8)]) = true ∧
    flagOn (Reg.MAC_PAUSE_CFG 16) 5 (regs [(Reg.MAC_STATUS 16, 33), (Reg.MAC_CFG 16, 0x80000), (Reg.MAC_PAUSE_CFG 16, 8)]) = false ∧
    flagOn (Reg.MAC_PAUSE_CFG 16) 6 (regs [(Reg.MAC_STATUS 16, 33), (Reg.MAC_CFG 16, 0x80000), (Reg.MAC_PAUSE_CFG 16, 8)]) = false) ∧
  (Running (regs [(Reg.MAC_STATUS 16, 33), (Reg.MAC_CFG 16, 0x80000), (Reg.MAC_PAUSE_CFG 16, 40)]) ∧
    macUp 16 (regs [(Reg.MAC_STATUS 16, 33), (Reg.MAC_CFG 16, 0x80000), (Reg.MAC_PAUSE_CFG 16, 40)]) = true ∧
    flagOn (Reg.MAC_CFG 16) 19 (regs [(Reg.MAC_STATUS 16, 33), (Reg.MAC_CFG 16, 0x80000), (Reg.MAC_PAUSE_CFG 16, 40)]) = true ∧
    flagOn (Reg.MAC_PAUSE_CFG 16) 3 (regs [(Reg.MAC_STATUS 16, 33), (Reg.MAC_CFG 16, 0x80000), (Reg.MAC_PAUSE_CFG 16, 40)]) = true ∧
    flagOn (Reg.MAC_STATUS 16) 5 (regs [(Reg.MAC_STATUS 16, 33), (Reg.MAC_CFG 16, 0x80000), (Reg.MAC_PAUSE_CFG 16, 40)]) = true ∧
    flagOn (Reg.MAC_PAUSE_CFG 16) 5 (regs [(Reg.MAC_STATUS 16, 33), (Reg.MAC_CFG 16, 0x80000), (Reg.MAC_PAUSE_CFG 16, 40)]) = true ∧
    flagOn (Reg.MAC_PAUSE_CFG 16) 6 (regs [(Reg.MAC_STATUS 16, 33), (Reg.MAC_CFG 16, 0x80000), (Reg.MAC_PAUSE_CFG 16, 40)]) = false) ∧
  (Running (regs [(Reg.MAC_STATUS 16, 0x11), (Reg.MAC_PAUSE_CFG 16, 0x10)] (macIs 16 { xoff := true, rx := [{ rxAt 0 with size := 1024 }] } [(Reg.MAC_PAUSE_THR 16, 1)])) ∧
    (mac 16 (regs [(Reg.MAC_STATUS 16, 0x11), (Reg.MAC_PAUSE_CFG 16, 0x10)] (macIs 16 { xoff := true, rx := [{ rxAt 0 with size := 1024 }] } [(Reg.MAC_PAUSE_THR 16, 1)]))).xoff = true ∧
    pauseGen 16 (regs [(Reg.MAC_STATUS 16, 0x11), (Reg.MAC_PAUSE_CFG 16, 0x10)] (macIs 16 { xoff := true, rx := [{ rxAt 0 with size := 1024 }] } [(Reg.MAC_PAUSE_THR 16, 1)])) = true ∧
    fld (Reg.MAC_PAUSE_THR 16) 15 0 (regs [(Reg.MAC_STATUS 16, 0x11), (Reg.MAC_PAUSE_CFG 16, 0x10)] (macIs 16 { xoff := true, rx := [{ rxAt 0 with size := 1024 }] } [(Reg.MAC_PAUSE_THR 16, 1)])) * 1024 ≤ rxOccupancy 16 (regs [(Reg.MAC_STATUS 16, 0x11), (Reg.MAC_PAUSE_CFG 16, 0x10)] (macIs 16 { xoff := true, rx := [{ rxAt 0 with size := 1024 }] } [(Reg.MAC_PAUSE_THR 16, 1)]))) := by
  with_reducible and_intros
  all_goals
    first
    | decide +kernel
    | (unfold Running; decide +kernel)
    | exact open_of (by decide +kernel)

/-- Concrete inputs meet the hypotheses of EthernetTransmit, clause by clause. -/
theorem witness_EthernetTransmit :
  (Running (regs [(Reg.MAC_STATUS 16, 1), (Reg.MAC_CFG 16, 0x40000), (Reg.MAC_TX_CFG 16, 0x80), (Reg.MAC_TXQ_PTR 16 7, 0x10000)]) ∧
    flagOn (Reg.MAC_CFG 16) 18 (regs [(Reg.MAC_STATUS 16, 1), (Reg.MAC_CFG 16, 0x40000), (Reg.MAC_TX_CFG 16, 0x80), (Reg.MAC_TXQ_PTR 16 7, 0x10000)]) = true ∧
    flagOn (Reg.MAC_TX_CFG 16) 7 (regs [(Reg.MAC_STATUS 16, 1), (Reg.MAC_CFG 16, 0x40000), (Reg.MAC_TX_CFG 16, 0x80), (Reg.MAC_TXQ_PTR 16 7, 0x10000)]) = true ∧
    txProd 16 7 (regs [(Reg.MAC_STATUS 16, 1), (Reg.MAC_CFG 16, 0x40000), (Reg.MAC_TX_CFG 16, 0x80), (Reg.MAC_TXQ_PTR 16 7, 0x10000)]) ≠ txCons 16 7 (regs [(Reg.MAC_STATUS 16, 1), (Reg.MAC_CFG 16, 0x40000), (Reg.MAC_TX_CFG 16, 0x80), (Reg.MAC_TXQ_PTR 16 7, 0x10000)]) ∧
    txJob 16 7 (regs [(Reg.MAC_STATUS 16, 1), (Reg.MAC_CFG 16, 0x40000), (Reg.MAC_TX_CFG 16, 0x80), (Reg.MAC_TXQ_PTR 16 7, 0x10000)]) = none ∧
    macUp 16 (regs [(Reg.MAC_STATUS 16, 1), (Reg.MAC_CFG 16, 0x40000), (Reg.MAC_TX_CFG 16, 0x80), (Reg.MAC_TXQ_PTR 16 7, 0x10000)]) = true) ∧
  (Running (flying [(pkt 9 (.mac 16) (useTxDesc 7) (.read 32) .served 0 (some (0, (leBytes 4 60 ++ List.replicate 28 0))))] (macIs 16 { tx := [{ q := 7, idx := 0 }] } [(Reg.MAC_STATUS 16, 1)])) ∧
    waitingAns (.mac 16) (useTxDesc 7) (flying [(pkt 9 (.mac 16) (useTxDesc 7) (.read 32) .served 0 (some (0, (leBytes 4 60 ++ List.replicate 28 0))))] (macIs 16 { tx := [{ q := 7, idx := 0 }] } [(Reg.MAC_STATUS 16, 1)])) = some ((pkt 9 (.mac 16) (useTxDesc 7) (.read 32) .served 0 (some (0, (leBytes 4 60 ++ List.replicate 28 0)))), 0, (leBytes 4 60 ++ List.replicate 28 0)) ∧
    txJob 16 7 (flying [(pkt 9 (.mac 16) (useTxDesc 7) (.read 32) .served 0 (some (0, (leBytes 4 60 ++ List.replicate 28 0))))] (macIs 16 { tx := [{ q := 7, idx := 0 }] } [(Reg.MAC_STATUS 16, 1)])) = some { q := 7, idx := 0 } ∧
    macUp 16 (flying [(pkt 9 (.mac 16) (useTxDesc 7) (.read 32) .served 0 (some (0, (leBytes 4 60 ++ List.replicate 28 0))))] (macIs 16 { tx := [{ q := 7, idx := 0 }] } [(Reg.MAC_STATUS 16, 1)])) = true ∧
    ({ q := 7, idx := 0 } : TxJob).old = false ∧ bitOf (leAt (leBytes 4 60 ++ List.replicate 28 0) 0 4) 31 = false ∧
    bitsOf (leAt (leBytes 4 60 ++ List.replicate 28 0) 0 4) 27 14 = 0 ∧ leAt (leBytes 4 60 ++ List.replicate 28 0) 12 4 = 0 ∧
    bitOf (leAt (leBytes 4 60 ++ List.replicate 28 0) 0 4) 28 = false ∧
    bitsOf (leAt (leBytes 4 60 ++ List.replicate 28 0) 0 4) 13 0 ≤ maxFrame 16 (flying [(pkt 9 (.mac 16) (useTxDesc 7) (.read 32) .served 0 (some (0, (leBytes 4 60 ++ List.replicate 28 0))))] (macIs 16 { tx := [{ q := 7, idx := 0 }] } [(Reg.MAC_STATUS 16, 1)])) + 4 ∧
    bitsOf (leAt (leBytes 4 60 ++ List.replicate 28 0) 0 4) 13 0 ≠ 0) ∧
  (Running (flying [(pkt 9 (.mac 16) (useTxData 7) (.read 60) .served 0 (some (0, List.replicate 60 0)))] (macIs 16 { tx := [{ q := 7, idx := 0, stage := 1 }] } [(Reg.MAC_STATUS 16, 1)])) ∧
    txJob 16 7 (flying [(pkt 9 (.mac 16) (useTxData 7) (.read 60) .served 0 (some (0, List.replicate 60 0)))] (macIs 16 { tx := [{ q := 7, idx := 0, stage := 1 }] } [(Reg.MAC_STATUS 16, 1)])) = some { q := 7, idx := 0, stage := 1 } ∧
    (answersOf (.mac 16) (useTxData 7) (flying [(pkt 9 (.mac 16) (useTxData 7) (.read 60) .served 0 (some (0, List.replicate 60 0)))] (macIs 16 { tx := [{ q := 7, idx := 0, stage := 1 }] } [(Reg.MAC_STATUS 16, 1)]))) ≠ [] ∧
    unanswered (.mac 16) (useTxData 7) (flying [(pkt 9 (.mac 16) (useTxData 7) (.read 60) .served 0 (some (0, List.replicate 60 0)))] (macIs 16 { tx := [{ q := 7, idx := 0, stage := 1 }] } [(Reg.MAC_STATUS 16, 1)])) = false ∧
    firstBad (answersOf (.mac 16) (useTxData 7) (flying [(pkt 9 (.mac 16) (useTxData 7) (.read 60) .served 0 (some (0, List.replicate 60 0)))] (macIs 16 { tx := [{ q := 7, idx := 0, stage := 1 }] } [(Reg.MAC_STATUS 16, 1)]))) = none ∧
    ((answersOf (.mac 16) (useTxData 7) (flying [(pkt 9 (.mac 16) (useTxData 7) (.read 60) .served 0 (some (0, List.replicate 60 0)))] (macIs 16 { tx := [{ q := 7, idx := 0, stage := 1 }] } [(Reg.MAC_STATUS 16, 1)]))).flatMap (·.2.2)).length + 4 ≤ frameLimit 16 ((answersOf (.mac 16) (useTxData 7) (flying [(pkt 9 (.mac 16) (useTxData 7) (.read 60) .served 0 (some (0, List.replicate 60 0)))] (macIs 16 { tx := [{ q := 7, idx := 0, stage := 1 }] } [(Reg.MAC_STATUS 16, 1)]))).flatMap (·.2.2)) (flying [(pkt 9 (.mac 16) (useTxData 7) (.read 60) .served 0 (some (0, List.replicate 60 0)))] (macIs 16 { tx := [{ q := 7, idx := 0, stage := 1 }] } [(Reg.MAC_STATUS 16, 1)]))) ∧
  (Running (macIs 16 { ctl := [[1, 2]] } [(Reg.MAC_STATUS 16, 1), (Reg.MAC_CFG 16, 0x40000)]) ∧
    macUp 16 (macIs 16 { ctl := [[1, 2]] } [(Reg.MAC_STATUS 16, 1), (Reg.MAC_CFG 16, 0x40000)]) = true ∧
    flagOn (Reg.MAC_CFG 16) 18 (macIs 16 { ctl := [[1, 2]] } [(Reg.MAC_STATUS 16, 1), (Reg.MAC_CFG 16, 0x40000)]) = true ∧
    (mac 16 (macIs 16 { ctl := [[1, 2]] } [(Reg.MAC_STATUS 16, 1), (Reg.MAC_CFG 16, 0x40000)])).wire = none ∧
    flagOn (Reg.MAC_STATUS 16) 10 (macIs 16 { ctl := [[1, 2]] } [(Reg.MAC_STATUS 16, 1), (Reg.MAC_CFG 16, 0x40000)]) = false ∧
    (∀ g ∈ (mac 16 (macIs 16 { ctl := [[1, 2]] } [(Reg.MAC_STATUS 16, 1), (Reg.MAC_CFG 16, 0x40000)])).jobs, g.stage ≠ 3) ∧
    (mac 16 (macIs 16 { ctl := [[1, 2]] } [(Reg.MAC_STATUS 16, 1), (Reg.MAC_CFG 16, 0x40000)])).ctl = [1, 2] :: []) ∧
  (Running (macIs 16 { tx := [{ q := 7, idx := 0, desc := List.replicate 32 0, stage := 2 }] } [(Reg.MAC_STATUS 16, 1), (Reg.MAC_CFG 16, 0x40000)]) ∧
    macUp 16 (macIs 16 { tx := [{ q := 7, idx := 0, desc := List.replicate 32 0, stage := 2 }] } [(Reg.MAC_STATUS 16, 1), (Reg.MAC_CFG 16, 0x40000)]) = true ∧
    flagOn (Reg.MAC_CFG 16) 18 (macIs 16 { tx := [{ q := 7, idx := 0, desc := List.replicate 32 0, stage := 2 }] } [(Reg.MAC_STATUS 16, 1), (Reg.MAC_CFG 16, 0x40000)]) = true ∧
    (mac 16 (macIs 16 { tx := [{ q := 7, idx := 0, desc := List.replicate 32 0, stage := 2 }] } [(Reg.MAC_STATUS 16, 1), (Reg.MAC_CFG 16, 0x40000)])).wire = none ∧
    flagOn (Reg.MAC_STATUS 16) 10 (macIs 16 { tx := [{ q := 7, idx := 0, desc := List.replicate 32 0, stage := 2 }] } [(Reg.MAC_STATUS 16, 1), (Reg.MAC_CFG 16, 0x40000)]) = false ∧
    (∀ g ∈ (mac 16 (macIs 16 { tx := [{ q := 7, idx := 0, desc := List.replicate 32 0, stage := 2 }] } [(Reg.MAC_STATUS 16, 1), (Reg.MAC_CFG 16, 0x40000)])).jobs, g.stage ≠ 3) ∧
    (mac 16 (macIs 16 { tx := [{ q := 7, idx := 0, desc := List.replicate 32 0, stage := 2 }] } [(Reg.MAC_STATUS 16, 1), (Reg.MAC_CFG 16, 0x40000)])).ctl = [] ∧
    (mac 16 (macIs 16 { tx := [{ q := 7, idx := 0, desc := List.replicate 32 0, stage := 2 }] } [(Reg.MAC_STATUS 16, 1), (Reg.MAC_CFG 16, 0x40000)])).mgmt = [] ∧
    (mac 16 (macIs 16 { tx := [{ q := 7, idx := 0, desc := List.replicate 32 0, stage := 2 }] } [(Reg.MAC_STATUS 16, 1), (Reg.MAC_CFG 16, 0x40000)])).cut = none ∧
    (mac 16 (macIs 16 { tx := [{ q := 7, idx := 0, desc := List.replicate 32 0, stage := 2 }] } [(Reg.MAC_STATUS 16, 1), (Reg.MAC_CFG 16, 0x40000)])).hold = false ∧
    (upto 8).reverse.find? (fun q => txMay 16 false q (macIs 16 { tx := [{ q := 7, idx := 0, desc := List.replicate 32 0, stage := 2 }] } [(Reg.MAC_STATUS 16, 1), (Reg.MAC_CFG 16, 0x40000)])) = some 7 ∧
    txJob 16 7 (macIs 16 { tx := [{ q := 7, idx := 0, desc := List.replicate 32 0, stage := 2 }] } [(Reg.MAC_STATUS 16, 1), (Reg.MAC_CFG 16, 0x40000)]) = some { q := 7, idx := 0, desc := List.replicate 32 0, stage := 2 } ∧
    bitOf (leAt (List.replicate 32 0) 0 4) 28 = false) ∧
  (Running (macIs 16 { wire := some { kind := 3, q := 7, bytes := List.replicate 128 0 }, hold := true } [(Reg.MAC_STATUS 16, 0x101), (Reg.MAC_TX_CFG 16, 0x8000)]) ∧
    (mac 16 (macIs 16 { wire := some { kind := 3, q := 7, bytes := List.replicate 128 0 }, hold := true } [(Reg.MAC_STATUS 16, 0x101), (Reg.MAC_TX_CFG 16, 0x8000)])).wire = some { kind := 3, q := 7, bytes := List.replicate 128 0 } ∧
    preState 16 (macIs 16 { wire := some { kind := 3, q := 7, bytes := List.replicate 128 0 }, hold := true } [(Reg.MAC_STATUS 16, 0x101), (Reg.MAC_TX_CFG 16, 0x8000)]) = 2 ∧
    flagOn (Reg.MAC_TX_CFG 16) (8 + 7) (macIs 16 { wire := some { kind := 3, q := 7, bytes := List.replicate 128 0 }, hold := true } [(Reg.MAC_STATUS 16, 0x101), (Reg.MAC_TX_CFG 16, 0x8000)]) = true ∧
    (mac 16 (macIs 16 { wire := some { kind := 3, q := 7, bytes := List.replicate 128 0 }, hold := true } [(Reg.MAC_STATUS 16, 0x101), (Reg.MAC_TX_CFG 16, 0x8000)])).cut = none ∧
    (expressReady 16 (macIs 16 { wire := some { kind := 3, q := 7, bytes := List.replicate 128 0 }, hold := true } [(Reg.MAC_STATUS 16, 0x101), (Reg.MAC_TX_CFG 16, 0x8000)]) = true ∨ (mac 16 (macIs 16 { wire := some { kind := 3, q := 7, bytes := List.replicate 128 0 }, hold := true } [(Reg.MAC_STATUS 16, 0x101), (Reg.MAC_TX_CFG 16, 0x8000)])).hold = true) ∧
    64 * (1 + fld (Reg.MAC_PRE_CFG 16) 3 2 (macIs 16 { wire := some { kind := 3, q := 7, bytes := List.replicate 128 0 }, hold := true } [(Reg.MAC_STATUS 16, 0x101), (Reg.MAC_TX_CFG 16, 0x8000)])) ≤ 64 ∧
    ({ kind := 3, q := 7, bytes := List.replicate 128 0 } : Wire).sent + 64 + 64 ≤ ({ kind := 3, q := 7, bytes := List.replicate 128 0 } : Wire).bytes.length) ∧
  (Running (macIs 16 { wire := some { kind := 3, q := 7, bytes := List.replicate 128 0 }, ctl := [[1]] } [(Reg.MAC_STATUS 16, 0x101), (Reg.MAC_TX_CFG 16, 0x8000)]) ∧
    (mac 16 (macIs 16 { wire := some { kind := 3, q := 7, bytes := List.replicate 128 0 }, ctl := [[1]] } [(Reg.MAC_STATUS 16, 0x101), (Reg.MAC_TX_CFG 16, 0x8000)])).wire = some { kind := 3, q := 7, bytes := List.replicate 128 0 } ∧
    preState 16 (macIs 16 { wire := some { kind := 3, q := 7, bytes := List.replicate 128 0 }, ctl := [[1]] } [(Reg.MAC_STATUS 16, 0x101), (Reg.MAC_TX_CFG 16, 0x8000)]) = 2 ∧
    flagOn (Reg.MAC_TX_CFG 16) (8 + 7) (macIs 16 { wire := some { kind := 3, q := 7, bytes := List.replicate 128 0 }, ctl := [[1]] } [(Reg.MAC_STATUS 16, 0x101), (Reg.MAC_TX_CFG 16, 0x8000)]) = true ∧
    (mac 16 (macIs 16 { wire := some { kind := 3, q := 7, bytes := List.replicate 128 0 }, ctl := [[1]] } [(Reg.MAC_STATUS 16, 0x101), (Reg.MAC_TX_CFG 16, 0x8000)])).cut = none ∧
    (expressReady 16 (macIs 16 { wire := some { kind := 3, q := 7, bytes := List.replicate 128 0 }, ctl := [[1]] } [(Reg.MAC_STATUS 16, 0x101), (Reg.MAC_TX_CFG 16, 0x8000)]) = true ∨ (mac 16 (macIs 16 { wire := some { kind := 3, q := 7, bytes := List.replicate 128 0 }, ctl := [[1]] } [(Reg.MAC_STATUS 16, 0x101), (Reg.MAC_TX_CFG 16, 0x8000)])).hold = true) ∧
    64 * (1 + fld (Reg.MAC_PRE_CFG 16) 3 2 (macIs 16 { wire := some { kind := 3, q := 7, bytes := List.replicate 128 0 }, ctl := [[1]] } [(Reg.MAC_STATUS 16, 0x101), (Reg.MAC_TX_CFG 16, 0x8000)])) ≤ 64 ∧
    ({ kind := 3, q := 7, bytes := List.replicate 128 0 } : Wire).sent + 64 + 64 ≤ ({ kind := 3, q := 7, bytes := List.replicate 128 0 } : Wire).bytes.length) ∧
  (Running (macIs 15 { wire := some ⟨3, 7, [], 0, 0⟩ }) ∧
    (mac 15 (macIs 15 { wire := some ⟨3, 7, [], 0, 0⟩ })).wire = some ⟨3, 7, [], 0, 0⟩ ∧
    macLoop 15 (macIs 15 { wire := some ⟨3, 7, [], 0, 0⟩ }) = false) ∧
  (Running (macIs 16 { tx := [{ q := 7, idx := 0, stage := 4 }] }) ∧
    txJob 16 7 (macIs 16 { tx := [{ q := 7, idx := 0, stage := 4 }] }) = some { q := 7, idx := 0, stage := 4 } ∧
    unaccepted (.mac 16) (useTxDone 7) (macIs 16 { tx := [{ q := 7, idx := 0, stage := 4 }] }) = false) ∧
  (Running (macIs 16 { verify := 2 } [(Reg.MAC_STATUS 16, 0x81)]) ∧
    preState 16 (macIs 16 { verify := 2 } [(Reg.MAC_STATUS 16, 0x81)]) = 1 ∧
    (mac 16 (macIs 16 { verify := 2 } [(Reg.MAC_STATUS 16, 0x81)])).verify = 2) ∧
  (Running (macIs 16 { verify := 3 } [(Reg.MAC_STATUS 16, 0x81)]) ∧
    preState 16 (macIs 16 { verify := 3 } [(Reg.MAC_STATUS 16, 0x81)]) = 1 ∧
    (mac 16 (macIs 16 { verify := 3 } [(Reg.MAC_STATUS 16, 0x81)])).verify = 3) ∧
  (Running (regs [(Reg.MAC_PRE_CFG 15, 0x10000)] (gateAt 0 0 9)) ∧ gateOn 15 (regs [(Reg.MAC_PRE_CFG 15, 0x10000)] (gateAt 0 0 9)) = true ∧
    gateNext 15 (regs [(Reg.MAC_PRE_CFG 15, 0x10000)] (gateAt 0 0 9)) = some 61 ∧
    fld (Reg.MAC_PRE_CFG 15) 31 16 (regs [(Reg.MAC_PRE_CFG 15, 0x10000)] (gateAt 0 0 9)) ≠ 0 ∧
    beforeEnd (61 - fld (Reg.MAC_PRE_CFG 15) 31 16 (regs [(Reg.MAC_PRE_CFG 15, 0x10000)] (gateAt 0 0 9))) (regs [(Reg.MAC_PRE_CFG 15, 0x10000)] (gateAt 0 0 9)) = true) ∧
  (Running (macIs 15 { jobs := [gJob [] 2] } [(Reg.MAC_PRE_CFG 15, 0x10000), (Reg.FHG_CFG 15, 0x80010000)]) ∧
    gateOn 15 (macIs 15 { jobs := [gJob [] 2] } [(Reg.MAC_PRE_CFG 15, 0x10000), (Reg.FHG_CFG 15, 0x80010000)]) = true ∧
    gateNext 15 (macIs 15 { jobs := [gJob [] 2] } [(Reg.MAC_PRE_CFG 15, 0x10000), (Reg.FHG_CFG 15, 0x80010000)]) = some 7 ∧
    fld (Reg.MAC_PRE_CFG 15) 31 16 (macIs 15 { jobs := [gJob [] 2] } [(Reg.MAC_PRE_CFG 15, 0x10000), (Reg.FHG_CFG 15, 0x80010000)]) ≠ 0 ∧
    beforeEnd (7 - fld (Reg.MAC_PRE_CFG 15) 31 16 (macIs 15 { jobs := [gJob [] 2] } [(Reg.MAC_PRE_CFG 15, 0x10000), (Reg.FHG_CFG 15, 0x80010000)])) (macIs 15 { jobs := [gJob [] 2] } [(Reg.MAC_PRE_CFG 15, 0x10000), (Reg.FHG_CFG 15, 0x80010000)]) = true) ∧
  (Running (regs [(Reg.MAC_STATUS 14, 0x41), (Reg.MAC_EEE_CFG 14, 2), (Reg.LANE_QUAD_CFG 7, 0x211)]) ∧
    macUp 14 (regs [(Reg.MAC_STATUS 14, 0x41), (Reg.MAC_EEE_CFG 14, 2), (Reg.LANE_QUAD_CFG 7, 0x211)]) = true ∧
    lpiMay 14 (regs [(Reg.MAC_STATUS 14, 0x41), (Reg.MAC_EEE_CFG 14, 2), (Reg.LANE_QUAD_CFG 7, 0x211)]) = true ∧
    txReady 14 (regs [(Reg.MAC_STATUS 14, 0x41), (Reg.MAC_EEE_CFG 14, 2), (Reg.LANE_QUAD_CFG 7, 0x211)]) = false ∧
    (mac 14 (regs [(Reg.MAC_STATUS 14, 0x41), (Reg.MAC_EEE_CFG 14, 2), (Reg.LANE_QUAD_CFG 7, 0x211)])).wire = none ∧
    flagOn (Reg.MAC_STATUS 14) 10 (regs [(Reg.MAC_STATUS 14, 0x41), (Reg.MAC_EEE_CFG 14, 2), (Reg.LANE_QUAD_CFG 7, 0x211)]) = false) ∧
  (Running (macIs 16 { ctl := [[1]] } [(Reg.MAC_STATUS 16, 0x401)]) ∧
    flagOn (Reg.MAC_STATUS 16) 10 (macIs 16 { ctl := [[1]] } [(Reg.MAC_STATUS 16, 0x401)]) = true ∧
    txReady 16 (macIs 16 { ctl := [[1]] } [(Reg.MAC_STATUS 16, 0x401)]) = true) ∧
  (Running .reset ∧ flagOn (Reg.MAC_STATUS 16) 11 .reset = false) := by
  with_reducible and_intros
  all_goals
    first
    | decide +kernel
    | (unfold Running; decide +kernel)

/-- The time of day is `n` nanoseconds; the last edge on TIME_IN_1 came at `e`. -/
def timeAt (n : Nat) (e : Nat := 0) : State := { State.reset with tod := n * nsUnit, time := { edges := if e = 0 then [] else [(1, e * nsUnit)] } }

/-- Concrete inputs meet the hypotheses of TimeRegisters, clause by clause. -/
theorem witness_TimeRegisters_writes :
  (Running .reset ∧ Open 0 Reg.TIME_INC true true 0x13fae147b .reset ∧ bitsOf 0x13fae147b 35 32 = 1 ∧ 0x3FAE147B ≤ bitsOf 0x13fae147b 31 0 ∧
    bitsOf 0x13fae147b 31 0 ≤ 0x4051EB85) ∧
  (Running .reset ∧ Open 0 Reg.TIME_INC true true 0x14051eb85 .reset ∧ bitsOf 0x14051eb85 35 32 = 1 ∧
    0x3FAE147B ≤ bitsOf 0x14051eb85 31 0 ∧ bitsOf 0x14051eb85 31 0 ≤ 0x4051EB85) ∧
  (Open 0 Reg.TIME_INC true true 0x13fae147a .reset ∧
    (bitsOf 0x13fae147a 35 32 ≠ 1 ∨ bitsOf 0x13fae147a 31 0 < 0x3FAE147B ∨ 0x4051EB85 < bitsOf 0x13fae147a 31 0)) ∧
  (Open 0 Reg.TIME_INC true true 0x14051eb86 .reset ∧
    (bitsOf 0x14051eb86 35 32 ≠ 1 ∨ bitsOf 0x14051eb86 31 0 < 0x3FAE147B ∨ 0x4051EB85 < bitsOf 0x14051eb86 31 0)) ∧
  (Open 0 Reg.TIME_INC true true 0xffffffffffffffff .reset ∧
    (bitsOf 0xffffffffffffffff 35 32 ≠ 1 ∨ bitsOf 0xffffffffffffffff 31 0 < 0x3FAE147B ∨ 0x4051EB85 < bitsOf 0xffffffffffffffff 31 0)) ∧
  (Running .reset ∧ Open 0 Reg.TIME_SLEW_INC true true 0x13fae147b .reset ∧ bitsOf 0x13fae147b 35 32 = 1 ∧
    0x3FAE147B ≤ bitsOf 0x13fae147b 31 0 ∧ bitsOf 0x13fae147b 31 0 ≤ 0x4051EB85) ∧
  (Running .reset ∧ Open 0 Reg.TIME_SLEW_INC true true 0x14051eb85 .reset ∧ bitsOf 0x14051eb85 35 32 = 1 ∧
    0x3FAE147B ≤ bitsOf 0x14051eb85 31 0 ∧ bitsOf 0x14051eb85 31 0 ≤ 0x4051EB85) ∧
  (Open 0 Reg.TIME_SLEW_INC true true 0x13fae147a .reset ∧
    (bitsOf 0x13fae147a 35 32 ≠ 1 ∨ bitsOf 0x13fae147a 31 0 < 0x3FAE147B ∨ 0x4051EB85 < bitsOf 0x13fae147a 31 0)) ∧
  (Open 0 Reg.TIME_SLEW_INC true true 0x14051eb86 .reset ∧
    (bitsOf 0x14051eb86 35 32 ≠ 1 ∨ bitsOf 0x14051eb86 31 0 < 0x3FAE147B ∨ 0x4051EB85 < bitsOf 0x14051eb86 31 0)) ∧
  (Open 0 Reg.TIME_SLEW_INC true true 0xffffffffffffffff .reset ∧
    (bitsOf 0xffffffffffffffff 35 32 ≠ 1 ∨ bitsOf 0xffffffffffffffff 31 0 < 0x3FAE147B ∨ 0x4051EB85 < bitsOf 0xffffffffffffffff 31 0)) ∧
  (Running .reset ∧ Open 0 Reg.TIME_SLEW_CNT false true 0xFFFFFFFFFFFFFFFF .reset ∧ Open 0 Reg.TIME_CTRL false true (b2n true) .reset ∧
    Open 0 Reg.TIME_CTRL false true (2 + b2n true) .reset ∧ roundsRun .reset = false) ∧
  (Running (regs [(Reg.TIME_CTRL, 1), (Reg.ROUND_STATUS, 2)]) ∧
    Open 0 Reg.TIME_CTRL false true (b2n false) (regs [(Reg.TIME_CTRL, 1), (Reg.ROUND_STATUS, 2)]) ∧
    Open 0 Reg.TIME_CTRL false true (2 + b2n false) (regs [(Reg.TIME_CTRL, 1), (Reg.ROUND_STATUS, 2)]) ∧
    flagOn Reg.TIME_CTRL 0 (regs [(Reg.TIME_CTRL, 1), (Reg.ROUND_STATUS, 2)]) = true ∧
    roundsRun (regs [(Reg.TIME_CTRL, 1), (Reg.ROUND_STATUS, 2)]) = true) ∧
  (Running (regs [(Reg.TIME_SLEW_CNT, 1)] { State.reset with round := { endGrid := 1 } }) ∧
    rd Reg.TIME_SLEW_CNT (regs [(Reg.TIME_SLEW_CNT, 1)] { State.reset with round := { endGrid := 1 } }) ≠ 0 ∧
    room (rd Reg.TIME_SLEW_CNT (regs [(Reg.TIME_SLEW_CNT, 1)] { State.reset with round := { endGrid := 1 } })).toNat (regs [(Reg.TIME_SLEW_CNT, 1)] { State.reset with round := { endGrid := 1 } }) = true) := by
  with_reducible and_intros
  all_goals
    first
    | decide +kernel
    | (unfold Running; decide +kernel)
    | exact open_of (by decide +kernel)

/-- Concrete inputs meet the hypotheses of TimeRegisters, clause by clause. -/
theorem witness_TimeRegisters_events :
  (Running (timeAt 5000) ∧ flagOn Reg.SPARE_LOOP_TIME 1 (timeAt 5000) = false ∧ inReplay (timeAt 5000) = false ∧
    (tabGet (fun _ => 0) (timeAt 5000).time.edges 1 = 0 ∨ ((timeAt 5000).tod - 28 * nsUnit / 10) < tabGet (fun _ => 0) (timeAt 5000).time.edges 1 ∨ tabGet (fun _ => 0) (timeAt 5000).time.edges 1 + 1000 * nsUnit ≤ ((timeAt 5000).tod - 28 * nsUnit / 10))) ∧
  (Running (timeAt 5000 3997) ∧ flagOn Reg.SPARE_LOOP_TIME 1 (timeAt 5000 3997) = false ∧ inReplay (timeAt 5000 3997) = false ∧
    (tabGet (fun _ => 0) (timeAt 5000 3997).time.edges 1 = 0 ∨ ((timeAt 5000 3997).tod - 28 * nsUnit / 10) < tabGet (fun _ => 0) (timeAt 5000 3997).time.edges 1 ∨ tabGet (fun _ => 0) (timeAt 5000 3997).time.edges 1 + 1000 * nsUnit ≤ ((timeAt 5000 3997).tod - 28 * nsUnit / 10))) ∧
  (Running (timeAt 5000 3998) ∧ tabGet (fun _ => 0) (timeAt 5000 3998).time.edges 1 ≠ 0 ∧
    tabGet (fun _ => 0) (timeAt 5000 3998).time.edges 1 ≤ ((timeAt 5000 3998).tod - 28 * nsUnit / 10) ∧
    ((timeAt 5000 3998).tod - 28 * nsUnit / 10) < tabGet (fun _ => 0) (timeAt 5000 3998).time.edges 1 + 1000 * nsUnit) ∧
  (Running .reset ∧ (trigArmed 15 .reset = false ∨ reaches (trig 15 .reset).target .reset = false)) ∧
  (Running (regs [(Reg.TIME_TRIG_STATUS 15, 1), (Reg.TIME_TRIG_CFG 15, 0x1000000)]) ∧
    trigArmed 15 (regs [(Reg.TIME_TRIG_STATUS 15, 1), (Reg.TIME_TRIG_CFG 15, 0x1000000)]) = true ∧
    reaches (trig 15 (regs [(Reg.TIME_TRIG_STATUS 15, 1), (Reg.TIME_TRIG_CFG 15, 0x1000000)])).target (regs [(Reg.TIME_TRIG_STATUS 15, 1), (Reg.TIME_TRIG_CFG 15, 0x1000000)]) = true ∧
    flagOn (Reg.TIME_TRIG_CFG 15) 24 (regs [(Reg.TIME_TRIG_STATUS 15, 1), (Reg.TIME_TRIG_CFG 15, 0x1000000)]) = true ∧
    trigPeriodic 15 (regs [(Reg.TIME_TRIG_STATUS 15, 1), (Reg.TIME_TRIG_CFG 15, 0x1000000)]) = false) ∧
  (Running (regs [(Reg.TIME_TRIG_STATUS 3, 1), (Reg.TIME_TRIG_CFG 3, 0x42000000)]) ∧
    trigArmed 3 (regs [(Reg.TIME_TRIG_STATUS 3, 1), (Reg.TIME_TRIG_CFG 3, 0x42000000)]) = true ∧
    reaches (trig 3 (regs [(Reg.TIME_TRIG_STATUS 3, 1), (Reg.TIME_TRIG_CFG 3, 0x42000000)])).target (regs [(Reg.TIME_TRIG_STATUS 3, 1), (Reg.TIME_TRIG_CFG 3, 0x42000000)]) = true ∧
    flagOn (Reg.TIME_TRIG_CFG 3) 25 (regs [(Reg.TIME_TRIG_STATUS 3, 1), (Reg.TIME_TRIG_CFG 3, 0x42000000)]) = true ∧
    trigPeriodic 3 (regs [(Reg.TIME_TRIG_STATUS 3, 1), (Reg.TIME_TRIG_CFG 3, 0x42000000)]) = true) ∧
  (Running { State.reset with time := { trigs := [(3, { pulse := true, fall := 0 })] } } ∧
    (trig 3 { State.reset with time := { trigs := [(3, { pulse := true, fall := 0 })] } }).pulse = true ∧
    ((trig 3 { State.reset with time := { trigs := [(3, { pulse := true, fall := 0 })] } }).fall - ({ State.reset with time := { trigs := [(3, { pulse := true, fall := 0 })] } } : State).time.steps = 0 ∨ room ((trig 3 { State.reset with time := { trigs := [(3, { pulse := true, fall := 0 })] } }).fall - ({ State.reset with time := { trigs := [(3, { pulse := true, fall := 0 })] } } : State).time.steps) { State.reset with time := { trigs := [(3, { pulse := true, fall := 0 })] } } = true)) ∧
  (Running { State.reset with time := { trigs := [(3, { pulse := true, fall := 9 })] } } ∧
    (trig 3 { State.reset with time := { trigs := [(3, { pulse := true, fall := 9 })] } }).pulse = true ∧
    ((trig 3 { State.reset with time := { trigs := [(3, { pulse := true, fall := 9 })] } }).fall - ({ State.reset with time := { trigs := [(3, { pulse := true, fall := 9 })] } } : State).time.steps = 0 ∨ room ((trig 3 { State.reset with time := { trigs := [(3, { pulse := true, fall := 9 })] } }).fall - ({ State.reset with time := { trigs := [(3, { pulse := true, fall := 9 })] } } : State).time.steps) { State.reset with time := { trigs := [(3, { pulse := true, fall := 9 })] } } = true)) := by
  with_reducible and_intros
  all_goals
    first
    | decide +kernel
    | (unfold Running; decide +kernel)

/-- Concrete inputs meet the hypotheses of TimeOfDayReads, clause by clause. -/
theorem witness_TimeOfDayReads :
  (Running .reset ∧ Open 0 Reg.TIME_NOW_SEC true false 0 .reset ∧ Open 0 Reg.TIME_NOW_SUB true false 0 .reset ∧
    tabGet (fun _ => 0) State.reset.time.held 0 = 0) := by
  with_reducible and_intros
  all_goals
    first
    | decide +kernel
    | (unfold Running; decide +kernel)
    | exact open_of (by decide +kernel)

/-- Pair 15 is `x` in a state, its detector in state `d`. -/
def pairIs (st : Nat) (x : Pair := {}) (d : Nat := 0) (l : List (Nat × Nat) := []) : State :=
  regs ((Reg.LINE_PAIR_STATUS 15, d * 65536 + st) :: l) { State.reset with line := { pairs := [(15, x)] } }

/-- Concrete inputs meet the hypotheses of LinePairBringUp, clause by clause. -/
theorem witness_LinePairBringUp :
  (Running (pairIs 1) ∧ inReplay (pairIs 1) = false ∧ pairState 15 (pairIs 1) = 1) ∧
  (Running (pairIs 2) ∧ inReplay (pairIs 2) = false ∧ pairState 15 (pairIs 2) = 2) ∧
  (Running (pairIs 3) ∧ inReplay (pairIs 3) = false ∧ pairState 15 (pairIs 3) = 3 ∧ 60 ≤ 60) ∧
  (Running (pairIs 4) ∧ inReplay (pairIs 4) = false ∧ pairState 15 (pairIs 4) = 4 ∧ (pair 15 (pairIs 4)).raised.contains 0 = false) ∧
  (Running (pairIs 2 {} 0 [(Reg.LINE_GRP_CFG 0, 0x24)]) ∧ inReplay (pairIs 2 {} 0 [(Reg.LINE_GRP_CFG 0, 0x24)]) = false ∧
    pairState 15 (pairIs 2 {} 0 [(Reg.LINE_GRP_CFG 0, 0x24)]) = 2 ∧
    grpBaud (pairGroup 15 (pairIs 2 {} 0 [(Reg.LINE_GRP_CFG 0, 0x24)])) (pairIs 2 {} 0 [(Reg.LINE_GRP_CFG 0, 0x24)]) = none ∧
    4 ≤ grpMaxBaud (pairGroup 15 (pairIs 2 {} 0 [(Reg.LINE_GRP_CFG 0, 0x24)])) (pairIs 2 {} 0 [(Reg.LINE_GRP_CFG 0, 0x24)]) ∧
    (pamFor (pairGroup 15 (pairIs 2 {} 0 [(Reg.LINE_GRP_CFG 0, 0x24)])) ([0, 0, 0, 0, 9000].getD 4 0) (pairIs 2 {} 0 [(Reg.LINE_GRP_CFG 0, 0x24)]) ≠ 0 ∧
    min 3 ([0, 0, 0, 0, 3].getD 4 0) ≠ 0) ∧
    (∀ c, c ≤ grpMaxBaud (pairGroup 15 (pairIs 2 {} 0 [(Reg.LINE_GRP_CFG 0, 0x24)])) (pairIs 2 {} 0 [(Reg.LINE_GRP_CFG 0, 0x24)]) → (pamFor (pairGroup 15 (pairIs 2 {} 0 [(Reg.LINE_GRP_CFG 0, 0x24)])) ([0, 0, 0, 0, 9000].getD c 0) (pairIs 2 {} 0 [(Reg.LINE_GRP_CFG 0, 0x24)]) ≠ 0 ∧
    min 3 ([0, 0, 0, 0, 3].getD c 0) ≠ 0) → c = 4)) ∧
  (Running (pairIs 2 {} 0 [(Reg.LINE_GRP_CFG 0, 0x24), (Reg.LINE_PAIR_STATUS 0, 0x4005)]) ∧
    pairState 15 (pairIs 2 {} 0 [(Reg.LINE_GRP_CFG 0, 0x24), (Reg.LINE_PAIR_STATUS 0, 0x4005)]) = 2 ∧
    grpBaud (pairGroup 15 (pairIs 2 {} 0 [(Reg.LINE_GRP_CFG 0, 0x24), (Reg.LINE_PAIR_STATUS 0, 0x4005)])) (pairIs 2 {} 0 [(Reg.LINE_GRP_CFG 0, 0x24), (Reg.LINE_PAIR_STATUS 0, 0x4005)]) = some 4 ∧
    (pamFor (pairGroup 15 (pairIs 2 {} 0 [(Reg.LINE_GRP_CFG 0, 0x24), (Reg.LINE_PAIR_STATUS 0, 0x4005)])) ([0, 0, 0, 0, 9000].getD 4 0) (pairIs 2 {} 0 [(Reg.LINE_GRP_CFG 0, 0x24), (Reg.LINE_PAIR_STATUS 0, 0x4005)]) ≠ 0 ∧
    min 3 ([0, 0, 0, 0, 3].getD 4 0) ≠ 0)) ∧
  (Running (pairIs 5) ∧ inReplay (pairIs 5) = false ∧ pairCarries 15 (pairIs 5) = true) ∧
  (Running (pairIs 6) ∧ inReplay (pairIs 6) = false ∧ pairCarries 15 (pairIs 6) = true) ∧
  (Running (pairIs 0) ∧ Open 0 (Reg.LINE_PAIR_CTRL 15) false true 1 (pairIs 0) ∧ pairState 15 (pairIs 0) = 0) ∧
  (Running (pairIs 1) ∧ Open 0 (Reg.LINE_PAIR_CTRL 15) false true 1 (pairIs 1) ∧ pairState 15 (pairIs 1) = 1) ∧
  (Running (pairIs 5 {} 0 [(Reg.LINE_GRP_CFG 0, 0x100)]) ∧ inReplay (pairIs 5 {} 0 [(Reg.LINE_GRP_CFG 0, 0x100)]) = false ∧
    pairState 15 (pairIs 5 {} 0 [(Reg.LINE_GRP_CFG 0, 0x100)]) = 5 ∧ (mac 16 (pairIs 5 {} 0 [(Reg.LINE_GRP_CFG 0, 0x100)])).wire = none ∧
    flagOn (Reg.LINE_GRP_CFG (pairGroup 15 (pairIs 5 {} 0 [(Reg.LINE_GRP_CFG 0, 0x100)]))) 8 (pairIs 5 {} 0 [(Reg.LINE_GRP_CFG 0, 0x100)]) = true) ∧
  (Running (pairIs 6) ∧ inReplay (pairIs 6) = false ∧ pairState 15 (pairIs 6) = 6 ∧ (pair 15 (pairIs 6)).left = false) := by
  with_reducible and_intros
  all_goals
    first
    | decide +kernel
    | (unfold Running; decide +kernel)
    | exact open_of (by decide +kernel)

/-- Concrete inputs meet the hypotheses of LineBursts, clause by clause. -/
theorem witness_LineBursts :
  (Running (pairIs 6 { rxLpi := true } 0) ∧ detIn 15 0 (pairIs 6 { rxLpi := true } 0) = true ∧
    atThresh (energy8 []) 0 (pairIs 6 { rxLpi := true } 0) = false ∧ atThresh (energy8 [10 ^ 20]) 0 (pairIs 6 { rxLpi := true } 0) = true) ∧
  (Running (pairIs 6 { rxLpi := true } 1 [(Reg.LINE_DET_CFG, 0x8080)]) ∧
    detIn 15 1 (pairIs 6 { rxLpi := true } 1 [(Reg.LINE_DET_CFG, 0x8080)]) = true ∧
    (pair 15 (pairIs 6 { rxLpi := true } 1 [(Reg.LINE_DET_CFG, 0x8080)])).qual = 0 ∧
    (∀ i < 17, (corr 32 ((List.replicate 16 0 ++ seqQ).drop i)).1 * (corr 32 ((List.replicate 16 0 ++ seqQ).drop 16)).2 ≤ (corr 32 ((List.replicate 16 0 ++ seqQ).drop 16)).1 * (corr 32 ((List.replicate 16 0 ++ seqQ).drop i)).2) ∧
    (fld Reg.LINE_DET_CFG 15 8 (pairIs 6 { rxLpi := true } 1 [(Reg.LINE_DET_CFG, 0x8080)])) * (fld Reg.LINE_DET_CFG 15 8 (pairIs 6 { rxLpi := true } 1 [(Reg.LINE_DET_CFG, 0x8080)])) * (corr 32 ((List.replicate 16 0 ++ seqQ).drop 16)).2 ≤ (corr 32 ((List.replicate 16 0 ++ seqQ).drop 16)).1 * 65536 ∧
    (corr 32 ((List.replicate 16 0 ++ seqQ).drop 16)).2 ≠ 0) ∧
  ((∀ i < 17, (corr 32 ([1].drop i)).1 * (corr 32 ([1].drop 0)).2 ≤ (corr 32 ([1].drop 0)).1 * (corr 32 ([1].drop i)).2) ∧
    (corr 32 ([1].drop 0)).1 * 65536 < (fld Reg.LINE_DET_CFG 15 8 (pairIs 6 { rxLpi := true } 1 [(Reg.LINE_DET_CFG, 0x8080)])) * (fld Reg.LINE_DET_CFG 15 8 (pairIs 6 { rxLpi := true } 1 [(Reg.LINE_DET_CFG, 0x8080)])) * (corr 32 ([1].drop 0)).2 ∧
    (corr 32 ([1].drop 0)).2 ≠ 0) ∧
  (Running (pairIs 6 { rxLpi := true, qual := 1, e0 := 1 } 1 [(Reg.LINE_DET_CFG, 0x8080)]) ∧
    detIn 15 1 (pairIs 6 { rxLpi := true, qual := 1, e0 := 1 } 1 [(Reg.LINE_DET_CFG, 0x8080)]) = true ∧
    (pair 15 (pairIs 6 { rxLpi := true, qual := 1, e0 := 1 } 1 [(Reg.LINE_DET_CFG, 0x8080)])).qual = 1 ∧
    (fld Reg.LINE_DET_CFG 7 0 (pairIs 6 { rxLpi := true, qual := 1, e0 := 1 } 1 [(Reg.LINE_DET_CFG, 0x8080)])) * (fld Reg.LINE_DET_CFG 7 0 (pairIs 6 { rxLpi := true, qual := 1, e0 := 1 } 1 [(Reg.LINE_DET_CFG, 0x8080)])) * (corr 64 seqQ).2 ≤ (corr 64 seqQ).1 * 65536 ∧
    (corr 64 seqQ).2 ≠ 0 ∧
    (corr 64 [1]).1 * 65536 < (fld Reg.LINE_DET_CFG 7 0 (pairIs 6 { rxLpi := true, qual := 1, e0 := 1 } 1 [(Reg.LINE_DET_CFG, 0x8080)])) * (fld Reg.LINE_DET_CFG 7 0 (pairIs 6 { rxLpi := true, qual := 1, e0 := 1 } 1 [(Reg.LINE_DET_CFG, 0x8080)])) * (corr 64 [1]).2 ∧
    (corr 64 [1]).2 ≠ 0 ∧
    rose (pair 15 (pairIs 6 { rxLpi := true, qual := 1, e0 := 1 } 1 [(Reg.LINE_DET_CFG, 0x8080)])).e0 (energy8 []) (rearmDb (pairIs 6 { rxLpi := true, qual := 1, e0 := 1 } 1 [(Reg.LINE_DET_CFG, 0x8080)])) = false ∧
    rose (pair 15 (pairIs 6 { rxLpi := true, qual := 1, e0 := 1 } 1 [(Reg.LINE_DET_CFG, 0x8080)])).e0 (energy8 [10 ^ 20]) (rearmDb (pairIs 6 { rxLpi := true, qual := 1, e0 := 1 } 1 [(Reg.LINE_DET_CFG, 0x8080)])) = true) ∧
  (Running (pairIs 6 { rxLpi := true, qual := 2 } 1) ∧ detIn 15 1 (pairIs 6 { rxLpi := true, qual := 2 } 1) = true ∧
    (pair 15 (pairIs 6 { rxLpi := true, qual := 2 } 1)).qual = 2 ∧ (0xF0 : Byte) = ~~~0x0F ∧ (0 : Byte) ≠ ~~~0 ∧
    bitsOf (0x0F : Byte).toNat 3 0 = 15 ∧ bitsOf (0x0F : Byte).toNat 5 4 = pairGroup 15 (pairIs 6 { rxLpi := true, qual := 2 } 1) ∧
    bitsOf (0x0F : Byte).toNat 7 6 ≠ 3 ∧ bitsOf (0xCF : Byte).toNat 7 6 = 3 ∧
    bitsOf (0xCF : Byte).toNat 5 4 = pairGroup 15 (pairIs 6 { rxLpi := true, qual := 2 } 1) ∧
    (bitsOf (0x0E : Byte).toNat 3 0 ≠ 15 ∨ bitsOf (0x0E : Byte).toNat 5 4 ≠ pairGroup 15 (pairIs 6 { rxLpi := true, qual := 2 } 1))) ∧
  (Running (pairIs 6 { rxLpi := true, qual := 1 } 1) ∧ detIn 15 1 (pairIs 6 { rxLpi := true, qual := 1 } 1) = true ∧
    (pair 15 (pairIs 6 { rxLpi := true, qual := 1 } 1)).qual < 2 ∧
    rose (pair 15 (pairIs 6 { rxLpi := true, qual := 1 } 1)).e0 (energy8 [10 ^ 20]) (rearmDb (pairIs 6 { rxLpi := true, qual := 1 } 1)) = true) ∧
  (Running (pairIs 6 { rxLpi := true } 2 [(Reg.DEV_STATUS, 0)]) ∧ detIn 15 2 (pairIs 6 { rxLpi := true } 2 [(Reg.DEV_STATUS, 0)]) = true ∧
    rose (pair 15 (pairIs 6 { rxLpi := true } 2 [(Reg.DEV_STATUS, 0)])).pRef (power16 [1000000]) (captureDb (pairIs 6 { rxLpi := true } 2 [(Reg.DEV_STATUS, 0)])) = true ∧
    epochA (pairIs 6 { rxLpi := true } 2 [(Reg.DEV_STATUS, 0)]) = false) ∧
  (Running (pairIs 6 { rxLpi := true } 2 [(Reg.DEV_STATUS, 2)]) ∧ detIn 15 2 (pairIs 6 { rxLpi := true } 2 [(Reg.DEV_STATUS, 2)]) = true ∧
    rose (pair 15 (pairIs 6 { rxLpi := true } 2 [(Reg.DEV_STATUS, 2)])).pRef (power16 [1000000]) (captureDb (pairIs 6 { rxLpi := true } 2 [(Reg.DEV_STATUS, 2)])) = true ∧
    epochA (pairIs 6 { rxLpi := true } 2 [(Reg.DEV_STATUS, 2)]) = true) ∧
  (Running (pairIs 6 { rxLpi := true, eFail := 1 } 3) ∧ detIn 15 3 (pairIs 6 { rxLpi := true, eFail := 1 } 3) = true ∧
    atThresh (energy8 []) 12 (pairIs 6 { rxLpi := true, eFail := 1 } 3) = false ∧
    atThresh (energy8 [10 ^ 20]) 12 (pairIs 6 { rxLpi := true, eFail := 1 } 3) = true ∧
    rose (pair 15 (pairIs 6 { rxLpi := true, eFail := 1 } 3)).eFail (energy8 [10 ^ 20]) (rearmDb (pairIs 6 { rxLpi := true, eFail := 1 } 3)) = true) ∧
  (Running (pairIs 6 { rxLpi := true, eFail := 10 ^ 20 } 3) ∧ detIn 15 3 (pairIs 6 { rxLpi := true, eFail := 10 ^ 20 } 3) = true ∧
    atThresh (energy8 [10 ^ 20]) 12 (pairIs 6 { rxLpi := true, eFail := 10 ^ 20 } 3) = true ∧
    rose (pair 15 (pairIs 6 { rxLpi := true, eFail := 10 ^ 20 } 3)).eFail (energy8 [10 ^ 20]) (rearmDb (pairIs 6 { rxLpi := true, eFail := 10 ^ 20 } 3)) = false) ∧
  (Running (pairIs 5) ∧ pairDelivers 15 (pairIs 5) = true) ∧
  (Running (pairIs 6 { rxLpi := true } 2) ∧ pairDelivers 15 (pairIs 6 { rxLpi := true } 2) = true) := by
  with_reducible and_intros
  all_goals
    first
    | decide +kernel
    | (unfold Running; decide +kernel)

/-- Concrete inputs meet the hypotheses of LineFragments, clause by clause. -/
theorem witness_LineFragments :
  (Running ({ (pairIs 5) with mac := [(16, { wire := some ⟨0, 0, List.replicate 128 0, 0, 0⟩ })], line := { pairs := [(15, {})], txOff := 0 } } : State) ∧
    (mac 16 ({ (pairIs 5) with mac := [(16, { wire := some ⟨0, 0, List.replicate 128 0, 0, 0⟩ })], line := { pairs := [(15, {})], txOff := 0 } } : State)).wire = some ⟨0, 0, List.replicate 128 0, 0, 0⟩ ∧
    pairSends 15 ({ (pairIs 5) with mac := [(16, { wire := some ⟨0, 0, List.replicate 128 0, 0, 0⟩ })], line := { pairs := [(15, {})], txOff := 0 } } : State) = true ∧
    ({ (pairIs 5) with mac := [(16, { wire := some ⟨0, 0, List.replicate 128 0, 0, 0⟩ })], line := { pairs := [(15, {})], txOff := 0 } } : State).line.txOff < 128 ∧
    fragPair ⟨0, 0, List.replicate 128 0, 0, 0⟩ ({ (pairIs 5) with mac := [(16, { wire := some ⟨0, 0, List.replicate 128 0, 0, 0⟩ })], line := { pairs := [(15, {})], txOff := 0 } } : State).line.txOff ({ (pairIs 5) with mac := [(16, { wire := some ⟨0, 0, List.replicate 128 0, 0, 0⟩ })], line := { pairs := [(15, {})], txOff := 0 } } : State) = some 15 ∧
    ¬(0 = 3 ∧ 0 = 7) ∧
    (({ (pairIs 5) with mac := [(16, { wire := some ⟨0, 0, List.replicate 128 0, 0, 0⟩ })], line := { pairs := [(15, {})], txOff := 0 } } : State).line.txOff ≠ 0 ∨ 0 ≠ 3) ∧
    pairState 15 ({ (pairIs 5) with mac := [(16, { wire := some ⟨0, 0, List.replicate 128 0, 0, 0⟩ })], line := { pairs := [(15, {})], txOff := 0 } } : State) = 5) ∧
  (Running ({ (pairIs 6) with mac := [(16, { wire := some ⟨3, 0, List.replicate 128 0, 0, 0⟩ })], line := { pairs := [(15, {})], txOff := 64 } } : State) ∧
    (mac 16 ({ (pairIs 6) with mac := [(16, { wire := some ⟨3, 0, List.replicate 128 0, 0, 0⟩ })], line := { pairs := [(15, {})], txOff := 64 } } : State)).wire = some ⟨3, 0, List.replicate 128 0, 0, 0⟩ ∧
    pairSends 15 ({ (pairIs 6) with mac := [(16, { wire := some ⟨3, 0, List.replicate 128 0, 0, 0⟩ })], line := { pairs := [(15, {})], txOff := 64 } } : State) = true ∧
    ({ (pairIs 6) with mac := [(16, { wire := some ⟨3, 0, List.replicate 128 0, 0, 0⟩ })], line := { pairs := [(15, {})], txOff := 64 } } : State).line.txOff < 128 ∧
    fragPair ⟨3, 0, List.replicate 128 0, 0, 0⟩ ({ (pairIs 6) with mac := [(16, { wire := some ⟨3, 0, List.replicate 128 0, 0, 0⟩ })], line := { pairs := [(15, {})], txOff := 64 } } : State).line.txOff ({ (pairIs 6) with mac := [(16, { wire := some ⟨3, 0, List.replicate 128 0, 0, 0⟩ })], line := { pairs := [(15, {})], txOff := 64 } } : State) = some 15 ∧
    ¬(3 = 3 ∧ 0 = 7) ∧
    (({ (pairIs 6) with mac := [(16, { wire := some ⟨3, 0, List.replicate 128 0, 0, 0⟩ })], line := { pairs := [(15, {})], txOff := 64 } } : State).line.txOff ≠ 0 ∨ 3 ≠ 3) ∧
    pairState 15 ({ (pairIs 6) with mac := [(16, { wire := some ⟨3, 0, List.replicate 128 0, 0, 0⟩ })], line := { pairs := [(15, {})], txOff := 64 } } : State) = 6) ∧
  (Running ({ (pairIs 5) with line := { pairs := [(15, { bytes := 239 })], rxSeq := 0 } } : State) ∧
    pairDelivers 15 ({ (pairIs 5) with line := { pairs := [(15, { bytes := 239 })], rxSeq := 0 } } : State) = true ∧
    pairLoop 15 ({ (pairIs 5) with line := { pairs := [(15, { bytes := 239 })], rxSeq := 0 } } : State) = 0 ∧
    4 + 0 ≤ (pair 15 ({ (pairIs 5) with line := { pairs := [(15, { bytes := 239 })], rxSeq := 0 } } : State)).bytes ∧
    0 = bitsOf 0xc0000000 15 0 ∧ 0xc0000000 ≠ 0 ∧ 0 ≤ 9224 ∧ bitsOf 0xc0000000 31 30 = 3) ∧
  (Running ({ (pairIs 5) with line := { pairs := [(15, { bytes := 239 })], rxSeq := 0 } } : State) ∧
    pairDelivers 15 ({ (pairIs 5) with line := { pairs := [(15, { bytes := 239 })], rxSeq := 0 } } : State) = true ∧
    pairLoop 15 ({ (pairIs 5) with line := { pairs := [(15, { bytes := 239 })], rxSeq := 0 } } : State) = 0 ∧
    4 + 0 ≤ (pair 15 ({ (pairIs 5) with line := { pairs := [(15, { bytes := 239 })], rxSeq := 0 } } : State)).bytes ∧
    0 = bitsOf 0x40000000 15 0 ∧ 0x40000000 ≠ 0 ∧ 0 ≤ 9224 ∧ bitsOf 0x40000000 31 30 ≠ 3) ∧
  (Running ({ (pairIs 5) with line := { pairs := [(15, { bytes := 239 })], rxSeq := 16383 } } : State) ∧
    pairDelivers 15 ({ (pairIs 5) with line := { pairs := [(15, { bytes := 239 })], rxSeq := 16383 } } : State) = true ∧
    pairLoop 15 ({ (pairIs 5) with line := { pairs := [(15, { bytes := 239 })], rxSeq := 16383 } } : State) = 0 ∧
    4 + 64 ≤ (pair 15 ({ (pairIs 5) with line := { pairs := [(15, { bytes := 239 })], rxSeq := 16383 } } : State)).bytes ∧
    64 = bitsOf 0xbfff0040 15 0 ∧ 0xbfff0040 ≠ 0 ∧ 64 ≤ 9224 ∧
    ({ (pairIs 5) with line := { pairs := [(15, { bytes := 239 })], rxSeq := 16383 } } : State).line.held = [] ∧
    ({ (pairIs 5) with line := { pairs := [(15, { bytes := 239 })], rxSeq := 16383 } } : State).line.rxSeq = bitsOf 0xbfff0040 29 16 ∧
    bitOf 0xbfff0040 31 = true ∧ bitOf 0xbfff0040 30 = false) ∧
  (Running ({ (pairIs 5) with line := { pairs := [(15, { bytes := 239 })], rxSeq := 16383, asm := some ([1], 7) } } : State) ∧
    pairDelivers 15 ({ (pairIs 5) with line := { pairs := [(15, { bytes := 239 })], rxSeq := 16383, asm := some ([1], 7) } } : State) = true ∧
    pairLoop 15 ({ (pairIs 5) with line := { pairs := [(15, { bytes := 239 })], rxSeq := 16383, asm := some ([1], 7) } } : State) = 0 ∧
    4 + 64 ≤ (pair 15 ({ (pairIs 5) with line := { pairs := [(15, { bytes := 239 })], rxSeq := 16383, asm := some ([1], 7) } } : State)).bytes ∧
    64 = bitsOf 0x3fff0040 15 0 ∧ 0x3fff0040 ≠ 0 ∧ 64 ≤ 9224 ∧
    ({ (pairIs 5) with line := { pairs := [(15, { bytes := 239 })], rxSeq := 16383, asm := some ([1], 7) } } : State).line.held = [] ∧
    ({ (pairIs 5) with line := { pairs := [(15, { bytes := 239 })], rxSeq := 16383, asm := some ([1], 7) } } : State).line.rxSeq = bitsOf 0x3fff0040 29 16 ∧
    bitOf 0x3fff0040 31 = false ∧ bitOf 0x3fff0040 30 = false ∧
    ({ (pairIs 5) with line := { pairs := [(15, { bytes := 239 })], rxSeq := 16383, asm := some ([1], 7) } } : State).line.skip = false ∧
    ({ (pairIs 5) with line := { pairs := [(15, { bytes := 239 })], rxSeq := 16383, asm := some ([1], 7) } } : State).line.asm = some ([1], 7)) ∧
  (Running ({ (pairIs 5) with line := { pairs := [(15, { bytes := 239 })], rxSeq := 0 } } : State) ∧
    pairDelivers 15 ({ (pairIs 5) with line := { pairs := [(15, { bytes := 239 })], rxSeq := 0 } } : State) = true ∧
    pairLoop 15 ({ (pairIs 5) with line := { pairs := [(15, { bytes := 239 })], rxSeq := 0 } } : State) = 0 ∧
    4 + 64 ≤ (pair 15 ({ (pairIs 5) with line := { pairs := [(15, { bytes := 239 })], rxSeq := 0 } } : State)).bytes ∧
    64 = bitsOf 0x20000040 15 0 ∧ 0x20000040 ≠ 0 ∧ 64 ≤ 9224 ∧
    (({ (pairIs 5) with line := { pairs := [(15, { bytes := 239 })], rxSeq := 0 } } : State).line.held.any (fun f => f.seq == bitsOf 0x20000040 29 16) = true ∨ 8192 ≤ (bitsOf 0x20000040 29 16 + 16384 - ({ (pairIs 5) with line := { pairs := [(15, { bytes := 239 })], rxSeq := 0 } } : State).line.rxSeq) % 16384)) ∧
  (Running ({ State.reset with line := { held := [⟨16383, false, false, [1], 0⟩], rxSeq := 5 } } : State) ∧
    ({ State.reset with line := { held := [⟨16383, false, false, [1], 0⟩], rxSeq := 5 } } : State).line.held = [⟨16383, false, false, [1], 0⟩] ∧
    16383 < 16384 ∧ ({ State.reset with line := { held := [⟨16383, false, false, [1], 0⟩], rxSeq := 5 } } : State).line.rxSeq < 16384 ∧
    ({ State.reset with line := { held := [⟨16383, false, false, [1], 0⟩], rxSeq := 5 } } : State).line.reasm = false) := by
  with_reducible and_intros
  all_goals
    first
    | decide +kernel
    | (unfold Running; decide +kernel)

/-- SHA3-256 of no bytes (FIPS 202). -/
theorem test_sha3_empty : sha3 [] = leBytes 32 33591244640371925502122120465629805428922884526608935689726864827131003076519 := by decide +kernel

/-- The Starter's two attempts in a state whose flash reads as `nor` says. -/
def tryFirst (nor : Nat) (s : State) : Nat × State := slotTry (bootRecord (starterFrom s)).2.2 nor 0 0 (starterFrom s)
def trySecond (nor : Nat) (s : State) : Nat × State :=
  let p := (bootRecord (starterFrom s)).2.2
  slotTry (1 - p) nor 0 0 (noteCause p (tryFirst nor s).1 (tryFirst nor s).2)

/-- The module after a reset that kept the Cold Room. -/
def cold : State := { State.reset with sec := { coldValid := true } }

/-- A section table of one padding section of no bytes, and a header of an image of SVN 5. -/
def imageTable : List Byte := leBytes 4 0 ++ leBytes 4 320 ++ List.replicate 24 0 ++
  leBytes 32 33591244640371925502122120465629805428922884526608935689726864827131003076519
def imageHeader : List Byte := leBytes 4 0x4741454B ++ leBytes 2 1 ++ [1, 0] ++ leBytes 4 8192 ++ leBytes 2 5 ++ leBytes 2 1 ++ leBytes 4 1024 ++
  leBytes 4 4096 ++ List.replicate 232 0

/-- A flash whose slot `k` holds that image, its key and signature not written; the rest is erased. Rounds run. -/
def imaged (k : Nat) : State :=
  norWrite (slotBase k) (imageHeader ++ imageTable)
    (wr Reg.ROUND_STATUS 2 <| wr Reg.SEC_FUSE_POLICY 0x10 { State.reset with sec := { keyHash := [(0, sha3 (slotRead k 1024 1312 .reset))], coldValid := true } })

/-- A slot that passes all checks but the signature passes with a good one. -/
theorem slotCause_ok {slot : Nat} {s : State} (hv : ∀ a k m c g, Config.mldsaVerify a k m c g = true)
    (h : let h := slotRead slot 0 256 s
      headerBad h = false ∧ regionsBad h (slotRead slot 256 (64 * imgSections h) s) = false ∧ imgAlg h = 1 ∧ imgKeySlot h = 0 ∧
      flagOn Reg.SEC_FUSE_POLICY 4 s = true ∧ flagOn Reg.SEC_FUSE_POLICY 8 s = false ∧ svnFused s ≤ imgSvn h)
    (hk : tabGet (fun _ => []) s.sec.keyHash 0 = sha3 (slotRead slot (imgKeyOff (slotRead slot 0 256 s)) 1312 s)) : slotCause slot false s = 0 := by
  obtain ⟨h1, h2, h3, h4, h5, h6, h7⟩ := h
  unfold slotCause
  simp only [hv, h1, h2, h3, h4, h5, h6, hk, keyLen]
  simp; omega

theorem imaged_head (k : Nat) : slotRead k 0 256 (imaged k) = imageHeader := by
  rw [slotRead, imaged, norRead_norWrite (by decide +kernel)]; decide +kernel
theorem imaged_table (k : Nat) : slotRead k 256 64 (imaged k) = imageTable := by
  rw [slotRead, imaged, norRead_norWrite (by decide +kernel)]; decide +kernel

theorem trySecond_eq {s u : State} {nor p c : Nat} (h1 : starterFrom s = u) (h2 : (bootRecord u).2.2 = p) (h3 : tryFirst nor s = (c, u)) :
    trySecond nor s = slotTry (1 - p) nor 0 0 (noteCause p c u) := by
  unfold trySecond; rw [h1, h2, h3]

theorem noteCause_sec (k c : Nat) (s : State) : (noteCause k c s).sec = s.sec := rfl

theorem imaged_boot (k : Nat) : (bootRecord (imaged k)).2.2 = 0 := by
  have h : ∀ i, i < 2 → ∀ n, n ≤ 0x10000 → norRead (0x10000 * i) n (imaged k) = norRead (0x10000 * i) n .reset := fun i hi n hn => by
    rw [imaged, norRead_norWrite_apart (.inl (by unfold slotBase; split <;> omega))]; rfl
  have e : bootRecord (imaged k) = bootRecord .reset := by
    unfold bootRecord bootCopy; simp only [h 0 (by decide) 16 (by decide), h 1 (by decide) 16 (by decide)]
  rw [e]; decide +kernel

theorem starterFrom_self {s : State} (h1 : s.sec.coldValid = true) (h2 : inReplay s = false) : starterFrom s = s := by
  unfold starterFrom dramReady; rw [h1]; simp [h2]

/-- An attempt at a slot whose checks hold is that at its sections. -/
theorem slotTry_ok {slot bad next : Nat} {s : State} (h : slotCause slot false s = 0) : slotTry slot 0 bad next s =
    loadSections slot 0 next bad [] (sectionsOf (slotRead slot 256 (64 * imgSections (slotRead slot 0 256 s)) s)) s := by
  unfold slotTry; rw [show norFails 0 slot 0 = false by simp [norFails], h]; rfl

/-- A good verification makes the image of `imaged` pass every check. -/
theorem imaged_passes {k : Nat} {s : State} (hv : ∀ a k m c g, Config.mldsaVerify a k m c g = true) (hs : s.sec = (imaged k).sec)
    (hf : flagOn Reg.SEC_FUSE_POLICY 4 s = true ∧ flagOn Reg.SEC_FUSE_POLICY 8 s = false ∧ svnFused s ≤ 5) : slotTry k 0 0 0 s = (0, s) := by
  have same : ∀ o n, slotRead k o n s = slotRead k o n (imaged k) := fun o n => by unfold slotRead norRead; rw [hs]
  have n1 : imgSections imageHeader = 1 := by decide +kernel
  have h1 : slotRead k 1024 1312 (imaged k) = slotRead k 1024 1312 .reset := by
    rw [slotRead, imaged, norRead_norWrite_apart (.inr (by rw [show (imageHeader ++ imageTable).length = 320 by decide +kernel]; omega))]; rfl
  have h2 : tabGet (fun _ => []) s.sec.keyHash 0 = sha3 (slotRead k 1024 1312 .reset) := by
    rw [hs]; unfold imaged norWrite modSec; simp [wr, tabGet]
  have h4 : slotCause k false s = 0 := by
    refine slotCause_ok hv ?_ ?_
    · rw [same, imaged_head]; dsimp only; rw [n1, same, imaged_table]
      exact ⟨by decide +kernel, by decide +kernel, by decide +kernel, by decide +kernel, hf.1, hf.2.1, hf.2.2⟩
    · rw [same 0, imaged_head, h2, show imgKeyOff imageHeader = 1024 by decide +kernel, same, h1]
  rw [slotTry_ok h4, same 0, imaged_head, n1, same, imaged_table, show sectionsOf imageTable = [imageTable] by decide +kernel]
  have h5 : slotRead k (secOffset imageTable) (secLength imageTable) s = [] := by
    rw [show secLength imageTable = 0 by decide +kernel]; rfl
  simp only [loadSections, h5, test_sha3_empty, show ∀ i, norFails 0 k i = false from fun i => by simp [norFails], Bool.false_eq_true, if_false]
  rw [if_neg (by decide +kernel), if_neg (by decide +kernel), if_neg (by decide +kernel), if_neg (by decide +kernel)]

/-- A flash whose slot 0 passes with a good verification is accepted at once; one whose slot 1 does, after slot 0 is rejected. -/
theorem witness_StarterRuns_accepted (hv : ∀ a k m c g, Config.mldsaVerify a k m c g = true) :
    (StarterDue (imaged 0) ∧ (tryFirst 0 (imaged 0)).1 = 0) ∧
    (StarterDue (imaged 1) ∧ (tryFirst 0 (imaged 1)).1 ≠ 0 ∧ (trySecond 0 (imaged 1)).1 = 0) := by
  have p0 : (bootRecord (imaged 0)).2.2 = 0 := imaged_boot 0
  have p1 : (bootRecord (imaged 1)).2.2 = 0 := imaged_boot 1
  have e0 : starterFrom (imaged 0) = imaged 0 := starterFrom_self rfl (by decide +kernel)
  have e1 : starterFrom (imaged 1) = imaged 1 := starterFrom_self rfl (by decide +kernel)
  have t0 : tryFirst 0 (imaged 0) = (0, imaged 0) := by
    unfold tryFirst; rw [e0, p0]; exact imaged_passes hv rfl (by decide +kernel)
  have h : slotRead 0 0 256 (imaged 1) = slotRead 0 0 256 .reset := by
    rw [slotRead, imaged, norRead_norWrite_apart (.inl (by decide))]; rfl
  have c1 : slotCause 0 false (imaged 1) = 2 := by
    unfold slotCause; rw [h]; dsimp only
    rw [show headerBad (slotRead 0 0 256 .reset) = true by decide +kernel, if_neg (by decide), Bool.true_or, if_pos rfl]
  have t1 : tryFirst 0 (imaged 1) = (2, imaged 1) := by
    unfold tryFirst; rw [e1, p1]; unfold slotTry; rw [show norFails 0 0 0 = false by decide]; dsimp only; rw [c1, if_pos (by decide)]
  refine ⟨⟨by unfold StarterDue Running; decide +kernel, by rw [t0]⟩, by unfold StarterDue Running; decide +kernel, by rw [t1]; decide, ?_⟩
  have p := imaged_passes (k := 1) (s := noteCause 0 2 (imaged 1)) hv (noteCause_sec 0 2 _) (by decide +kernel)
  exact congrArg Prod.fst ((trySecond_eq e1 p1 t1).trans p)

/-- A Starter that accepts an image reports it. -/
theorem witness_OnlySignedImagesRun (hv : ∀ a k m c g, Config.mldsaVerify a k m c g = true) :
    ∃ t, exec (.starterRun false 0 0) (imaged 0) = .next t ∧ StarterDue (imaged 0) ∧ flagOn Reg.SEC_BOOT_STATUS 0 t = true := by
  refine ⟨inOrder (imaged 0) (starterApply 0 0 (imaged 0)), ?_, (witness_StarterRuns_accepted hv).1.1, ?_⟩
  · have p0 : (bootRecord (imaged 0)).2.2 = 0 := imaged_boot 0
    have e0 : dramReady (imaged 0) = imaged 0 := by unfold dramReady; rw [if_neg (by decide +kernel)]
    have t0 : slotTry 0 0 0 0 (imaged 0) = (0, imaged 0) := imaged_passes hv rfl (by decide +kernel)
    have r : opStarterRun false 0 0 (imaged 0) = starterApply 0 0 (imaged 0) := by
      unfold opStarterRun
      rw [if_pos (by decide +kernel), if_neg (by decide), show (imaged 0).sec.coldValid = true from rfl, if_pos rfl, e0]
      unfold starterSlots
      rw [p0]; dsimp only; rw [t0, if_pos rfl]
    rw [exec_starterRun, gated_acts (by decide +kernel) (by decide +kernel) rfl, r]
  · unfold inOrder starterApply
    rw [imaged_head]; dsimp only
    rw [show imgSections imageHeader = 1 by decide +kernel, imaged_table, show sectionsOf imageTable = [imageTable] by decide +kernel]
    decide +kernel

/-- Concrete inputs meet the hypotheses of StarterRuns, clause by clause. -/
theorem witness_StarterRuns :
  (StarterDue cold) ∧
  (StarterDue cold ∧ (tryFirst 0 cold).1 ≠ 0 ∧ (trySecond 0 cold).1 ≠ 0) ∧
  (StarterDue cold ∧ (tryFirst 3 cold).1 ≠ 0 ∧ (trySecond 3 cold).1 ≠ 0) := by
  with_reducible and_intros
  all_goals
    first
    | decide +kernel
    | (unfold StarterDue Running; decide +kernel)

/-- Concrete inputs meet the hypotheses of HostInterface, clause by clause. -/
theorem witness_HostInterface :
  (Running .reset ∧ ((∀ x ∈ State.reset.noc.txns, x.agent = .host → x.ans = none)) ∧ flagOn Reg.PCIE_LINK_STATUS 16 .reset = false) ∧
  (Running (regs [(Reg.PCIE_LINK_STATUS, 0x10000), (Reg.SEC_HOST_POLICY, 2)]) ∧
    ((∀ x ∈ (regs [(Reg.PCIE_LINK_STATUS, 0x10000), (Reg.SEC_HOST_POLICY, 2)]).noc.txns, x.agent = .host → x.ans = none)) ∧
    flagOn Reg.PCIE_LINK_STATUS 16 (regs [(Reg.PCIE_LINK_STATUS, 0x10000), (Reg.SEC_HOST_POLICY, 2)]) = true ∧
    hostAllowed false 0 false 4 (regs [(Reg.PCIE_LINK_STATUS, 0x10000), (Reg.SEC_HOST_POLICY, 2)]) = false) ∧
  (Running (regs [(Reg.PCIE_LINK_STATUS, 0x10000), (Reg.SEC_HOST_POLICY, 1)]) ∧
    ((∀ x ∈ (regs [(Reg.PCIE_LINK_STATUS, 0x10000), (Reg.SEC_HOST_POLICY, 1)]).noc.txns, x.agent = .host → x.ans = none)) ∧
    flagOn Reg.PCIE_LINK_STATUS 16 (regs [(Reg.PCIE_LINK_STATUS, 0x10000), (Reg.SEC_HOST_POLICY, 1)]) = true ∧
    hostAllowed true 0 true 4 (regs [(Reg.PCIE_LINK_STATUS, 0x10000), (Reg.SEC_HOST_POLICY, 1)]) = false) ∧
  (Running (regs [(Reg.PCIE_LINK_STATUS, 0x10000), (Reg.SEC_HOST_POLICY, 0), (Reg.PWR_STATUS, 2)]) ∧
    ((∀ x ∈ (regs [(Reg.PCIE_LINK_STATUS, 0x10000), (Reg.SEC_HOST_POLICY, 0), (Reg.PWR_STATUS, 2)]).noc.txns, x.agent = .host → x.ans = none)) ∧
    flagOn Reg.PCIE_LINK_STATUS 16 (regs [(Reg.PCIE_LINK_STATUS, 0x10000), (Reg.SEC_HOST_POLICY, 0), (Reg.PWR_STATUS, 2)]) = true ∧
    hostAllowed true 0 false 4 (regs [(Reg.PCIE_LINK_STATUS, 0x10000), (Reg.SEC_HOST_POLICY, 0), (Reg.PWR_STATUS, 2)]) = true ∧
    devState (regs [(Reg.PCIE_LINK_STATUS, 0x10000), (Reg.SEC_HOST_POLICY, 0), (Reg.PWR_STATUS, 2)]) = 2 ∧
    (true && hostOpen (0 % 0x8000000)) = false) ∧
  (Running (regs [(Reg.PCIE_LINK_STATUS, 0x10000), (Reg.SEC_HOST_POLICY, 0)]) ∧
    ((∀ x ∈ (regs [(Reg.PCIE_LINK_STATUS, 0x10000), (Reg.SEC_HOST_POLICY, 0)]).noc.txns, x.agent = .host → x.ans = none)) ∧
    flagOn Reg.PCIE_LINK_STATUS 16 (regs [(Reg.PCIE_LINK_STATUS, 0x10000), (Reg.SEC_HOST_POLICY, 0)]) = true ∧
    hostAllowed true 0x100000 false 4 (regs [(Reg.PCIE_LINK_STATUS, 0x10000), (Reg.SEC_HOST_POLICY, 0)]) = true ∧
    devState (regs [(Reg.PCIE_LINK_STATUS, 0x10000), (Reg.SEC_HOST_POLICY, 0)]) ≠ 2) ∧
  (Running (regs [(Reg.PCIE_LINK_STATUS, 0x10000), (Reg.SEC_HOST_POLICY, 0)]) ∧
    ((∀ x ∈ (regs [(Reg.PCIE_LINK_STATUS, 0x10000), (Reg.SEC_HOST_POLICY, 0)]).noc.txns, x.agent = .host → x.ans = none)) ∧
    flagOn Reg.PCIE_LINK_STATUS 16 (regs [(Reg.PCIE_LINK_STATUS, 0x10000), (Reg.SEC_HOST_POLICY, 0)]) = true ∧
    hostAllowed false 0x100000 false 4 (regs [(Reg.PCIE_LINK_STATUS, 0x10000), (Reg.SEC_HOST_POLICY, 0)]) = true ∧
    devState (regs [(Reg.PCIE_LINK_STATUS, 0x10000), (Reg.SEC_HOST_POLICY, 0)]) ≠ 2) ∧
  (Running (regs [(Reg.PCIE_LINK_STATUS, 0x10000), (Reg.SEC_HOST_POLICY, 0)]) ∧
    ((∀ x ∈ (regs [(Reg.PCIE_LINK_STATUS, 0x10000), (Reg.SEC_HOST_POLICY, 0)]).noc.txns, x.agent = .host → x.ans = none)) ∧
    hostAllowed true 0x100 true 4 (regs [(Reg.PCIE_LINK_STATUS, 0x10000), (Reg.SEC_HOST_POLICY, 0)]) = true ∧
    flagOn Reg.REC_SRC 4 (regs [(Reg.PCIE_LINK_STATUS, 0x10000), (Reg.SEC_HOST_POLICY, 0)]) = false ∧
    originCode (srcOf .host (regs [(Reg.PCIE_LINK_STATUS, 0x10000), (Reg.SEC_HOST_POLICY, 0)])) 0 (0x40000000 + 0x100 % 0x10000000) (.write [0, 0, 0, 0]) (regs [(Reg.PCIE_LINK_STATUS, 0x10000), (Reg.SEC_HOST_POLICY, 0)]) = none) ∧
  (Running (flying [(pkt 9 (.dma 0 0) 0 (.read 4) .accepted 0x800000000000)]) ∧
    txnOf 9 (flying [(pkt 9 (.dma 0 0) 0 (.read 4) .accepted 0x800000000000)]) = some (pkt 9 (.dma 0 0) 0 (.read 4) .accepted 0x800000000000) ∧
    (pkt 9 (.dma 0 0) 0 (.read 4) .accepted 0x800000000000).stage = .accepted ∧
    inHostWindow (pkt 9 (.dma 0 0) 0 (.read 4) .accepted 0x800000000000).addr = true ∧
    replayHost (flying [(pkt 9 (.dma 0 0) 0 (.read 4) .accepted 0x800000000000)]) = false ∧
    flagOn Reg.REC_SRC 4 (flying [(pkt 9 (.dma 0 0) 0 (.read 4) .accepted 0x800000000000)]) = false) ∧
  (Running (flying [(pkt 9 (.dma 0 0) 0 (.write [0, 0, 0, 0]) .accepted 0x800000000000)]) ∧
    txnOf 9 (flying [(pkt 9 (.dma 0 0) 0 (.write [0, 0, 0, 0]) .accepted 0x800000000000)]) = some (pkt 9 (.dma 0 0) 0 (.write [0, 0, 0, 0]) .accepted 0x800000000000) ∧
    (pkt 9 (.dma 0 0) 0 (.write [0, 0, 0, 0]) .accepted 0x800000000000).stage = .accepted ∧
    inHostWindow (pkt 9 (.dma 0 0) 0 (.write [0, 0, 0, 0]) .accepted 0x800000000000).addr = true ∧
    replayHost (flying [(pkt 9 (.dma 0 0) 0 (.write [0, 0, 0, 0]) .accepted 0x800000000000)]) = false ∧
    flagOn Reg.REC_SRC 4 (flying [(pkt 9 (.dma 0 0) 0 (.write [0, 0, 0, 0]) .accepted 0x800000000000)]) = false) ∧
  (Running .reset ∧ fld Reg.PWR_STATUS 10 8 .reset ≠ 4 ∧ flagOn Reg.PCIE_LINK_STATUS 16 .reset = false) ∧
  (Running (regs [(Reg.PCIE_LINK_STATUS, 0x10000), (Reg.PWR_STATUS, 0x400)]) ∧
    fld Reg.PWR_STATUS 10 8 (regs [(Reg.PCIE_LINK_STATUS, 0x10000), (Reg.PWR_STATUS, 0x400)]) = 4 ∧
    flagOn Reg.PCIE_LINK_STATUS 16 (regs [(Reg.PCIE_LINK_STATUS, 0x10000), (Reg.PWR_STATUS, 0x400)]) = true) := by
  with_reducible and_intros
  all_goals
    first
    | decide +kernel
    | (unfold Running; decide +kernel)

/-- A command of opcode `op`, key, target, counter and payload, without a tag. -/
def hdrOf (op key target counter : Nat) (p : List Byte) : List Byte :=
  leBytes 2 op ++ leBytes 2 p.length ++ leBytes 4 key ++ leBytes 8 target ++ leBytes 8 counter ++ List.replicate 8 0 ++ p

/-- A command that waits as a management frame of MAC 16. -/
def framed1 (bs : List Byte) (s : State := .reset) : State := { s with sec := { s.sec with waits := [1], frames := [(16, [], bs)] } }

/-- `Offered` and `Failing` as checks. -/
def offers (src : CmdSrc) (op : Nat) (f : CmdFrom) (bs : List Byte) (s : State) : Bool :=
  s.sec.proc.isNone && (match src with | .uart b => s.sec.waits.isEmpty && uartGood b | _ => true) &&
  decide (32 ≤ bs.length) && decide (cmdNext src s = some (f, bs.length, bs)) && cmdOp bs == op && (cmdFails bs.length bs s).isNone
def failing (src : CmdSrc) (f : CmdFrom) (n : Nat) (bs : List Byte) (st cnt : Nat) (s : State) : Bool :=
  s.sec.proc.isNone && (match src with | .uart b => s.sec.waits.isEmpty && uartGood b | _ => true) &&
  decide (cmdNext src s = some (f, n, bs)) && decide (cmdFails n bs s = some (st, cnt))

theorem offered_of {src : CmdSrc} {op : Nat} {f : CmdFrom} {bs : List Byte} {s : State} (h : offers src op f bs s = true) : Offered src op f bs s := by
  simp only [offers, Bool.and_eq_true, decide_eq_true_eq, beq_iff_eq, Option.isNone_iff_eq_none] at h
  obtain ⟨⟨⟨⟨⟨h1, h2⟩, h3⟩, h4⟩, h5⟩, h6⟩ := h
  refine ⟨h1, ?_, bs.length, h3, h4, h5, h6⟩
  rintro b rfl; simpa using h2

theorem failing_of {src : CmdSrc} {f : CmdFrom} {n : Nat} {bs : List Byte} {st cnt : Nat} {s : State} (h : failing src f n bs st cnt s = true) :
    Failing src f n bs st cnt s := by
  simp only [failing, Bool.and_eq_true, decide_eq_true_eq, Option.isNone_iff_eq_none] at h
  obtain ⟨⟨⟨h1, h2⟩, h3⟩, h4⟩ := h
  refine ⟨h1, ?_, h3, h4⟩
  rintro b rfl; simpa using h2

/-- The mailbox holds these bytes. -/
def mailed (bs : List Byte) (s : State := .reset) : State :=
  regs ((upto ((bs.length + 3) / 4)).map fun i => (Reg.SEC_MBOX_REQ i, leAt bs (4 * i) 4)) { s with sec := { s.sec with waits := [0], mboxLen := bs.length } }

/-- Bytes with their CRC, as a UART frame carries them. -/
def uarted (bs : List Byte) : List Byte := bs ++ crc16Bytes bs

/-- Concrete inputs meet the hypotheses of SecurityQueries, clause by clause. -/
theorem witness_SecurityQueries :
  (Running (framed1 (hdrOf 1 0 0 0 [])) ∧ Offered .frame 1 { path := 1, mac := 16 } (hdrOf 1 0 0 0 []) (framed1 (hdrOf 1 0 0 0 []))) ∧
  (Running (mailed (hdrOf 1 0 0 0 [])) ∧ Offered .mailbox 1 { path := 0 } (hdrOf 1 0 0 0 []) (mailed (hdrOf 1 0 0 0 []))) ∧
  (Running (framed1 (hdrOf 2 0 0 0 (leBytes 4 0x20 ++ leBytes 4 0))) ∧
    Offered .frame 2 { path := 1, mac := 16 } (hdrOf 2 0 0 0 (leBytes 4 0x20 ++ leBytes 4 0)) (framed1 (hdrOf 2 0 0 0 (leBytes 4 0x20 ++ leBytes 4 0)))) ∧
  (Running (mailed (hdrOf 2 0 0 0 (leBytes 4 0x20 ++ leBytes 4 0))) ∧
    Offered .mailbox 2 { path := 0 } (hdrOf 2 0 0 0 (leBytes 4 0x20 ++ leBytes 4 0)) (mailed (hdrOf 2 0 0 0 (leBytes 4 0x20 ++ leBytes 4 0)))) ∧
  (Running (framed1 (hdrOf 3 0 0 0 (leBytes 8 1))) ∧
    Offered .frame 3 { path := 1, mac := 16 } (hdrOf 3 0 0 0 (leBytes 8 1)) (framed1 (hdrOf 3 0 0 0 (leBytes 8 1)))) ∧
  (Running (mailed (hdrOf 3 0 0 0 (leBytes 8 1))) ∧
    Offered .mailbox 3 { path := 0 } (hdrOf 3 0 0 0 (leBytes 8 1)) (mailed (hdrOf 3 0 0 0 (leBytes 8 1)))) ∧
  (Running (framed1 (hdrOf 4 0 0 0 (List.replicate 32 7))) ∧
    Offered .frame 4 { path := 1, mac := 16 } (hdrOf 4 0 0 0 (List.replicate 32 7)) (framed1 (hdrOf 4 0 0 0 (List.replicate 32 7)))) ∧
  (Running (mailed (hdrOf 4 0 0 0 (List.replicate 32 7))) ∧
    Offered .mailbox 4 { path := 0 } (hdrOf 4 0 0 0 (List.replicate 32 7)) (mailed (hdrOf 4 0 0 0 (List.replicate 32 7)))) ∧
  (Running (framed1 (hdrOf 5 0 0 0 [])) ∧ Offered .frame 5 { path := 1, mac := 16 } (hdrOf 5 0 0 0 []) (framed1 (hdrOf 5 0 0 0 []))) ∧
  (Running (mailed (hdrOf 5 0 0 0 [])) ∧ Offered .mailbox 5 { path := 0 } (hdrOf 5 0 0 0 []) (mailed (hdrOf 5 0 0 0 []))) ∧
  (Running (framed1 (hdrOf 6 0 0 0 (leBytes 4 913472 ++ leBytes 4 4032))) ∧
    Offered .frame 6 { path := 1, mac := 16 } (hdrOf 6 0 0 0 (leBytes 4 913472 ++ leBytes 4 4032)) (framed1 (hdrOf 6 0 0 0 (leBytes 4 913472 ++ leBytes 4 4032)))) ∧
  (Running (mailed (hdrOf 6 0 0 0 (leBytes 4 913472 ++ leBytes 4 4032))) ∧
    Offered .mailbox 6 { path := 0 } (hdrOf 6 0 0 0 (leBytes 4 913472 ++ leBytes 4 4032)) (mailed (hdrOf 6 0 0 0 (leBytes 4 913472 ++ leBytes 4 4032)))) ∧
  (Running .reset ∧ Offered (.uart (uarted (hdrOf 1 0 0 0 []))) 1 { path := 2 } (hdrOf 1 0 0 0 []) .reset) ∧
  (Running ({ State.reset with sec := { proc := some ⟨1, { path := 1 }, hdrOf 6 0 0 0 (leBytes 4 913472 ++ leBytes 4 4032), none⟩ } } : State) ∧
    ({ State.reset with sec := { proc := some ⟨1, { path := 1 }, hdrOf 6 0 0 0 (leBytes 4 913472 ++ leBytes 4 4032), none⟩ } } : State).sec.proc = some ⟨1, { path := 1 }, hdrOf 6 0 0 0 (leBytes 4 913472 ++ leBytes 4 4032), none⟩ ∧
    CmdProc.kind ⟨1, { path := 1 }, hdrOf 6 0 0 0 (leBytes 4 913472 ++ leBytes 4 4032), none⟩ = 1 ∧
    ({ State.reset with sec := { proc := some ⟨1, { path := 1 }, hdrOf 6 0 0 0 (leBytes 4 913472 ++ leBytes 4 4032), none⟩ } } : State).sec.bootWrite = none ∧
    leAt (cmdPayload (CmdProc.bytes ⟨1, { path := 1 }, hdrOf 6 0 0 0 (leBytes 4 913472 ++ leBytes 4 4032), none⟩)) 4 4 ≤ 4032) ∧
  (Running (framed1 (List.replicate 31 0)) ∧
    Failing .frame { path := 1, mac := 16 } 31 (List.replicate 31 0) 16 Reg.SEC_REJECT_CNT (framed1 (List.replicate 31 0)) ∧
    (31 < 32 ∨ cmdKnown (cmdOp (List.replicate 31 0)) = false) ∧ (framed1 (List.replicate 31 0)).pwr.eject < 2 ∧
    inReplay (framed1 (List.replicate 31 0)) = false) ∧
  (Running (framed1 (hdrOf 7 0 0 0 [])) ∧
    Failing .frame { path := 1, mac := 16 } 32 (hdrOf 7 0 0 0 []) 17 Reg.SEC_REJECT_CNT (framed1 (hdrOf 7 0 0 0 [])) ∧
    (32 < 32 ∨ cmdKnown (cmdOp (hdrOf 7 0 0 0 [])) = false) ∧ (framed1 (hdrOf 7 0 0 0 [])).pwr.eject < 2 ∧
    inReplay (framed1 (hdrOf 7 0 0 0 [])) = false) ∧
  (Running (framed1 (hdrOf 0x1002 0 0 0 [])) ∧
    Failing .frame { path := 1, mac := 16 } 32 (hdrOf 0x1002 0 0 0 []) 17 Reg.SEC_REJECT_CNT (framed1 (hdrOf 0x1002 0 0 0 [])) ∧
    (32 < 32 ∨ cmdKnown (cmdOp (hdrOf 0x1002 0 0 0 [])) = false) ∧ (framed1 (hdrOf 0x1002 0 0 0 [])).pwr.eject < 2 ∧
    inReplay (framed1 (hdrOf 0x1002 0 0 0 [])) = false) := by
  with_reducible and_intros
  all_goals
    first
    | decide +kernel
    | (unfold Running; decide +kernel)
    | exact offered_of (by decide +kernel)
    | exact failing_of (by decide +kernel)

/-- The critical command of this header and payload, with its tag, waits as a management frame. -/
def crit (hdr : List Byte) (s : State) : State := framed1 (hdr ++ goodTag hdr s) s

/-- What a header and payload have to meet, but for the tag. -/
def critOk (op : Nat) (hdr : List Byte) (t : State) : Bool :=
  headGood hdr t && t.sec.proc.isNone && decide (cmdOp hdr = op) && decide (t.pwr.plug = 4) && decide (fld Reg.PWR_STATUS 1 0 t ≠ 3)

/-- Such a command, followed by 16 bytes, waits, and passes or fails as they and `headFails` say. -/
theorem tagged_next {op : Nat} {hdr tag : List Byte} {s : State} (h : critOk op hdr (framed1 (hdr ++ tag) s) = true) (ht : tag.length = 16) :
    Running (framed1 (hdr ++ tag) s) ∧ (framed1 (hdr ++ tag) s).sec.proc = none ∧ 32 ≤ hdr.length ∧ cmdOp (hdr ++ tag) = op ∧
    cmdNext .frame (framed1 (hdr ++ tag) s) = some ({ path := 1, mac := 16 }, hdr.length + 16, hdr ++ tag) ∧
    cmdFails (hdr.length + 16) (hdr ++ tag) (framed1 (hdr ++ tag) s) =
      (if tag = goodTag hdr s then headFails hdr (framed1 (hdr ++ tag) s) else some (0x13, Reg.SEC_TAG_FAIL_CNT)) ∧
    tagOk (hdr ++ tag) (framed1 (hdr ++ tag) s) = decide (tag = goodTag hdr s) ∧
    formatOk (hdr.length + 16) (hdr ++ tag) (framed1 (hdr ++ tag) s) = true ∧
    cmdKey (hdr ++ tag) = cmdKey hdr ∧ cmdCounter (hdr ++ tag) = cmdCounter hdr := by
  simp only [critOk, Bool.and_eq_true, decide_eq_true_eq, Option.isNone_iff_eq_none] at h
  obtain ⟨⟨⟨⟨hg, hp⟩, ho⟩, h4⟩, h3⟩ := h
  have e : goodTag hdr (framed1 (hdr ++ tag) s) = goodTag hdr s := goodTag_congr rfl rfl rfl rfl
  have hf := cmdFails_tag hg ht
  obtain ⟨o, ky, _, ct, n, fo, tk⟩ := headGood_fields hg ht
  rw [e] at hf tk
  simp only [headGood, Bool.and_eq_true, decide_eq_true_eq, Bool.not_eq_true'] at hg
  obtain ⟨⟨⟨⟨⟨⟨⟨h32, hlen⟩, hc⟩, hej⟩, hre⟩, hfo⟩, hkn⟩, hk⟩ := hg
  have tt : cmdTotal (hdr ++ tag) = hdr.length + 16 := by unfold cmdTotal cmdCritical at *; rw [n, o, hc, if_pos rfl]; omega
  have len : (hdr ++ tag).length = hdr.length + 16 := by rw [List.length_append, ht]
  refine ⟨⟨h4, h3⟩, hp, h32, o.trans ho, ?_, hf, tk, fo, ky, ct⟩
  have nx : cmdNext .frame (framed1 (hdr ++ tag) s) =
      some ({ path := 1, mac := 16 }, if (hdr ++ tag).length < 32 then (hdr ++ tag).length else min (hdr ++ tag).length (cmdTotal (hdr ++ tag)),
        (hdr ++ tag).take (if (hdr ++ tag).length < 32 then (hdr ++ tag).length else min (hdr ++ tag).length (cmdTotal (hdr ++ tag)))) := rfl
  rw [nx, tt, len, if_neg (by omega), Nat.min_self, List.take_of_length_le (by omega)]

/-- What a command with its tag meets. -/
theorem crit_next {op : Nat} {hdr : List Byte} {s : State} (h : critOk op hdr (crit hdr s) = true) :
    Running (crit hdr s) ∧ (crit hdr s).sec.proc = none ∧ 32 ≤ hdr.length ∧ cmdOp (hdr ++ goodTag hdr s) = op ∧
    cmdNext .frame (crit hdr s) = some ({ path := 1, mac := 16 }, hdr.length + 16, hdr ++ goodTag hdr s) ∧
    cmdFails (hdr.length + 16) (hdr ++ goodTag hdr s) (crit hdr s) = headFails hdr (crit hdr s) := by
  have hl : (goodTag hdr s).length = 16 := by
    simp only [critOk, Bool.and_eq_true] at h
    rw [← goodTag_congr (hdr := hdr) (s := s) (t := crit hdr s) rfl rfl rfl rfl]; exact goodTag_length h.1.1.1.1
  obtain ⟨h1, h2, h3, h4, h5, h6, _⟩ := tagged_next h hl
  exact ⟨h1, h2, h3, h4, h5, h6.trans (if_pos rfl)⟩

theorem crit_offered {op : Nat} {hdr : List Byte} {s : State} (h : critOk op hdr (crit hdr s) = true) (hf : headFails hdr (crit hdr s) = none) :
    Offered .frame op { path := 1, mac := 16 } (hdr ++ goodTag hdr s) (crit hdr s) := by
  obtain ⟨_, h1, h2, h3, h4, h5⟩ := crit_next h
  exact ⟨h1, fun b hb => (by cases hb), hdr.length + 16, by omega, h4, h3, h5.trans hf⟩

theorem crit_failing {op : Nat} {hdr : List Byte} {s : State} {st cnt : Nat} (h : critOk op hdr (crit hdr s) = true)
    (hf : headFails hdr (crit hdr s) = some (st, cnt)) :
    Failing .frame { path := 1, mac := 16 } (hdr.length + 16) (hdr ++ goodTag hdr s) st cnt (crit hdr s) := by
  obtain ⟨_, h1, h2, h3, h4, h5⟩ := crit_next h
  exact ⟨h1, fun b hb => (by cases hb), h4, h5.trans hf⟩

/-- A module with a key of every permission, two enabled slots of keys, and an image of SVN 5. -/
def keyed : State := regs [(Reg.SEC_FUSE_POLICY, 0x30), (Reg.SEC_IMAGE_INFO, 0x50000)] { State.reset with
  sec := { keys := [(5, 0, 0x3F)], counters := [(5, 6)] },
  mem := { cells := [(0x100000000, 0x52), (0x100000001, 0x45), (0x100000002, 0x43), (0x100000003, 0x30), (0x100000004, 8)] } }

theorem critical_writeRegs : Running (crit (hdrOf 0x8001 5 0 7 (leBytes 4 (Reg.EVT_ROUTE 0) ++ leBytes 4 1)) keyed) ∧
    Offered .frame 0x8001 { path := 1, mac := 16 } ((hdrOf 0x8001 5 0 7 (leBytes 4 (Reg.EVT_ROUTE 0) ++ leBytes 4 1)) ++ goodTag (hdrOf 0x8001 5 0 7 (leBytes 4 (Reg.EVT_ROUTE 0) ++ leBytes 4 1)) keyed) (crit (hdrOf 0x8001 5 0 7 (leBytes 4 (Reg.EVT_ROUTE 0) ++ leBytes 4 1)) keyed) :=
  ⟨(crit_next (op := 0x8001) (by decide +kernel)).1, crit_offered (by decide +kernel) (by decide +kernel)⟩

theorem critical_switchImage : Running (crit (hdrOf 0x8002 5 0 7 (leBytes 8 1)) keyed) ∧
    Offered .frame 0x8002 { path := 1, mac := 16 } ((hdrOf 0x8002 5 0 7 (leBytes 8 1)) ++ goodTag (hdrOf 0x8002 5 0 7 (leBytes 8 1)) keyed) (crit (hdrOf 0x8002 5 0 7 (leBytes 8 1)) keyed) :=
  ⟨(crit_next (op := 0x8002) (by decide +kernel)).1, crit_offered (by decide +kernel) (by decide +kernel)⟩

theorem critical_writeImage : Running (crit (hdrOf 0x8003 5 0 7 (leBytes 8 0 ++ leBytes 8 0 ++ leBytes 8 0xAB)) keyed) ∧
    Offered .frame 0x8003 { path := 1, mac := 16 } ((hdrOf 0x8003 5 0 7 (leBytes 8 0 ++ leBytes 8 0 ++ leBytes 8 0xAB)) ++ goodTag (hdrOf 0x8003 5 0 7 (leBytes 8 0 ++ leBytes 8 0 ++ leBytes 8 0xAB)) keyed) (crit (hdrOf 0x8003 5 0 7 (leBytes 8 0 ++ leBytes 8 0 ++ leBytes 8 0xAB)) keyed) :=
  ⟨(crit_next (op := 0x8003) (by decide +kernel)).1, crit_offered (by decide +kernel) (by decide +kernel)⟩

theorem critical_keyRevoke : Running (crit (hdrOf 0x8004 5 0 7 (leBytes 8 9)) keyed) ∧
    Offered .frame 0x8004 { path := 1, mac := 16 } ((hdrOf 0x8004 5 0 7 (leBytes 8 9)) ++ goodTag (hdrOf 0x8004 5 0 7 (leBytes 8 9)) keyed) (crit (hdrOf 0x8004 5 0 7 (leBytes 8 9)) keyed) :=
  ⟨(crit_next (op := 0x8004) (by decide +kernel)).1, crit_offered (by decide +kernel) (by decide +kernel)⟩

theorem critical_slotRevoke : Running (crit (hdrOf 0x8005 5 0 7 (leBytes 8 0)) keyed) ∧
    Offered .frame 0x8005 { path := 1, mac := 16 } ((hdrOf 0x8005 5 0 7 (leBytes 8 0)) ++ goodTag (hdrOf 0x8005 5 0 7 (leBytes 8 0)) keyed) (crit (hdrOf 0x8005 5 0 7 (leBytes 8 0)) keyed) :=
  ⟨(crit_next (op := 0x8005) (by decide +kernel)).1, crit_offered (by decide +kernel) (by decide +kernel)⟩

theorem critical_svnAdvance : Running (crit (hdrOf 0x8006 5 0 7 (leBytes 8 5)) keyed) ∧
    Offered .frame 0x8006 { path := 1, mac := 16 } ((hdrOf 0x8006 5 0 7 (leBytes 8 5)) ++ goodTag (hdrOf 0x8006 5 0 7 (leBytes 8 5)) keyed) (crit (hdrOf 0x8006 5 0 7 (leBytes 8 5)) keyed) :=
  ⟨(crit_next (op := 0x8006) (by decide +kernel)).1, crit_offered (by decide +kernel) (by decide +kernel)⟩

theorem critical_power : Running (crit (hdrOf 0x8007 5 0 7 (leBytes 8 2)) keyed) ∧
    Offered .frame 0x8007 { path := 1, mac := 16 } ((hdrOf 0x8007 5 0 7 (leBytes 8 2)) ++ goodTag (hdrOf 0x8007 5 0 7 (leBytes 8 2)) keyed) (crit (hdrOf 0x8007 5 0 7 (leBytes 8 2)) keyed) :=
  ⟨(crit_next (op := 0x8007) (by decide +kernel)).1, crit_offered (by decide +kernel) (by decide +kernel)⟩

theorem critical_replayEnter : Running (crit (hdrOf 0x8008 5 0 7 (leBytes 8 0x100000000 ++ leBytes 8 1 ++ leBytes 8 0x100100000 ++ leBytes 8 1)) keyed) ∧
    Offered .frame 0x8008 { path := 1, mac := 16 } ((hdrOf 0x8008 5 0 7 (leBytes 8 0x100000000 ++ leBytes 8 1 ++ leBytes 8 0x100100000 ++ leBytes 8 1)) ++ goodTag (hdrOf 0x8008 5 0 7 (leBytes 8 0x100000000 ++ leBytes 8 1 ++ leBytes 8 0x100100000 ++ leBytes 8 1)) keyed) (crit (hdrOf 0x8008 5 0 7 (leBytes 8 0x100000000 ++ leBytes 8 1 ++ leBytes 8 0x100100000 ++ leBytes 8 1)) keyed) :=
  ⟨(crit_next (op := 0x8008) (by decide +kernel)).1, crit_offered (by decide +kernel) (by decide +kernel)⟩

theorem critical_replayExit : Running (crit (hdrOf 0x8009 5 0 7 []) keyed) ∧
    Offered .frame 0x8009 { path := 1, mac := 16 } ((hdrOf 0x8009 5 0 7 []) ++ goodTag (hdrOf 0x8009 5 0 7 []) keyed) (crit (hdrOf 0x8009 5 0 7 []) keyed) :=
  ⟨(crit_next (op := 0x8009) (by decide +kernel)).1, crit_offered (by decide +kernel) (by decide +kernel)⟩

theorem critical_reset : Running (crit (hdrOf 0x800a 5 0 7 []) keyed) ∧
    Offered .frame 0x800a { path := 1, mac := 16 } ((hdrOf 0x800a 5 0 7 []) ++ goodTag (hdrOf 0x800a 5 0 7 []) keyed) (crit (hdrOf 0x800a 5 0 7 []) keyed) :=
  ⟨(crit_next (op := 0x800a) (by decide +kernel)).1, crit_offered (by decide +kernel) (by decide +kernel)⟩

/-- Some command of opcode `op` is offered by some source. -/
def Offers (op : Nat) : Prop := ∃ src f bs s, Running s ∧ Offered src op f bs s

/-- Concrete inputs meet the hypotheses of CriticalCommands, clause by clause. -/
theorem witness_CriticalCommands : Offers 0x8001 ∧ Offers 0x8002 ∧ Offers 0x8003 ∧ Offers 0x8004 ∧ Offers 0x8005 ∧ Offers 0x8006 ∧ Offers 0x8007 ∧ Offers 0x8008 ∧ Offers 0x8009 ∧ Offers 0x800a :=
  ⟨⟨_, _, _, _, critical_writeRegs⟩, ⟨_, _, _, _, critical_switchImage⟩, ⟨_, _, _, _, critical_writeImage⟩, ⟨_, _, _, _, critical_keyRevoke⟩, ⟨_, _, _, _, critical_slotRevoke⟩, ⟨_, _, _, _, critical_svnAdvance⟩, ⟨_, _, _, _, critical_power⟩, ⟨_, _, _, _, critical_replayEnter⟩, ⟨_, _, _, _, critical_replayExit⟩, ⟨_, _, _, _, critical_reset⟩⟩

/-- A wrong tag: of two tags at least one is. -/
theorem witness_CriticalCommands_tag : ∃ s f n bs k, Running s ∧ Failing .frame f n bs 0x13 Reg.SEC_TAG_FAIL_CNT s ∧ 32 ≤ n ∧ cmdOp bs = 0x8001 ∧
    s.pwr.eject < 2 ∧ inReplay s = false ∧ formatOk n bs s = true ∧ keyPerms (cmdKey bs) s = some k ∧ tagOk bs s = false := by
  have w : ∀ tag : List Byte, tag.length = 16 → critOk 0x8001 (hdrOf 0x8001 5 0 7 []) (framed1 (hdrOf 0x8001 5 0 7 [] ++ tag) keyed) = true →
      keyPerms 5 (framed1 (hdrOf 0x8001 5 0 7 [] ++ tag) keyed) = some (0, 0x3F) → tag ≠ goodTag (hdrOf 0x8001 5 0 7 []) keyed →
      ∃ s f n bs k, Running s ∧ Failing .frame f n bs 0x13 Reg.SEC_TAG_FAIL_CNT s ∧ 32 ≤ n ∧ cmdOp bs = 0x8001 ∧ s.pwr.eject < 2 ∧
        inReplay s = false ∧ formatOk n bs s = true ∧ keyPerms (cmdKey bs) s = some k ∧ tagOk bs s = false := fun tag hl hc hk hn => by
    obtain ⟨h1, h2, h3, h4, h5, h6, h7, h8, h9, _⟩ := tagged_next hc hl
    refine ⟨_, _, _, _, (0, 0x3F), h1, ⟨h2, fun b hb => (by cases hb), h5, h6.trans (if_neg hn)⟩, by omega, h4, ?_, ?_, h8, ?_, ?_⟩
    · exact (by decide : (0 : Nat) < 2)
    · simp only [critOk, headGood, Bool.and_eq_true, Bool.not_eq_true'] at hc; exact hc.1.1.1.1.1.1.1.2
    · rw [h9]; exact hk
    · rw [h7]; exact decide_eq_false hn
  by_cases h : List.replicate 16 (0 : Byte) = goodTag (hdrOf 0x8001 5 0 7 []) keyed
  · exact w (List.replicate 16 1) (by decide) (by decide +kernel) (by decide +kernel) (fun h' => absurd (h.trans h'.symm) (by decide))
  · exact w (List.replicate 16 0) (by decide) (by decide +kernel) (by decide +kernel) h

/-- A good tag and a counter that is not above the last of its key. -/
theorem witness_CriticalCommands_stale : ∃ s f n bs k, Running s ∧ Failing .frame f n bs 0x14 Reg.SEC_STALE_CNT s ∧ 32 ≤ n ∧ cmdOp bs = 0x8001 ∧
    s.pwr.eject < 2 ∧ inReplay s = false ∧ formatOk n bs s = true ∧ keyPerms (cmdKey bs) s = some k ∧ tagOk bs s = true ∧
    cmdCounter bs ≤ keyCounter (cmdKey bs) s := by
  have hc : critOk 0x8001 (hdrOf 0x8001 5 0 6 []) (crit (hdrOf 0x8001 5 0 6 []) keyed) = true := by decide +kernel
  have hl : (goodTag (hdrOf 0x8001 5 0 6 []) keyed).length = 16 := by
    simp only [critOk, Bool.and_eq_true] at hc
    rw [← goodTag_congr (s := keyed) (t := crit (hdrOf 0x8001 5 0 6 []) keyed) rfl rfl rfl rfl]; exact goodTag_length hc.1.1.1.1
  obtain ⟨h1, h2, h3, h4, h5, h6, h7, h8, h9, h10⟩ := tagged_next hc hl
  refine ⟨_, _, _, _, (0, 0x3F), h1, crit_failing hc (by decide +kernel), by omega, h4, by decide, by decide +kernel, h8, ?_, ?_, ?_⟩
  · rw [h9]; decide +kernel
  · rw [h7]; exact decide_eq_true rfl
  · rw [h9, h10]; decide +kernel

/-- A row whose command passes has it in progress. -/
theorem starts {mk : CmdSrc → Instr} {op : Nat} {f : CmdFrom} {src : CmdSrc} {bs : List Byte} {s : State} (hr : Running s)
    (h : Offered src op f bs s) (he : exec (mk src) s = .next (gated true true (cmdStart (forOp op) toJournal src) s)) :
    ∃ t c, s.sec.proc = none ∧ exec (mk src) s = .next t ∧ t.sec.proc = some c := by
  obtain ⟨h1, h2, n, h3, h4, h5, h6⟩ := h
  refine ⟨_, ⟨0, f, bs, (resolveTarget (cmdOp bs) (cmdTarget bs) (cmdTaken src s)).getD none⟩, h1, he, ?_⟩
  rw [gated_acts hr.1 (.inl rfl) rfl, cmdStart_passes h1 h2 hr.2 h4 (by simp [forOp, h3, h5]) h6]
  rfl

/-- Every critical row has a command that comes to be processed. -/
theorem witness_CriticalCommandsNeedTags :
    (∃ src s t c, Running s ∧ s.sec.proc = none ∧ exec (.writeRegs src) s = .next t ∧ t.sec.proc = some c) ∧
    (∃ src s t c, Running s ∧ s.sec.proc = none ∧ exec (.switchImage src) s = .next t ∧ t.sec.proc = some c) ∧
    (∃ src s t c, Running s ∧ s.sec.proc = none ∧ exec (.writeImage src) s = .next t ∧ t.sec.proc = some c) ∧
    (∃ src s t c, Running s ∧ s.sec.proc = none ∧ exec (.keyRevoke src) s = .next t ∧ t.sec.proc = some c) ∧
    (∃ src s t c, Running s ∧ s.sec.proc = none ∧ exec (.slotRevoke src) s = .next t ∧ t.sec.proc = some c) ∧
    (∃ src s t c, Running s ∧ s.sec.proc = none ∧ exec (.svnAdvance src) s = .next t ∧ t.sec.proc = some c) ∧
    (∃ src s t c, Running s ∧ s.sec.proc = none ∧ exec (.power src) s = .next t ∧ t.sec.proc = some c) ∧
    (∃ src s t c, Running s ∧ s.sec.proc = none ∧ exec (.replayEnter src) s = .next t ∧ t.sec.proc = some c) ∧
    (∃ src s t c, Running s ∧ s.sec.proc = none ∧ exec (.replayExit src) s = .next t ∧ t.sec.proc = some c) ∧
    (∃ src s t c, Running s ∧ s.sec.proc = none ∧ exec (.reset src) s = .next t ∧ t.sec.proc = some c) := by
  refine ⟨?_, ?_, ?_, ?_, ?_, ?_, ?_, ?_, ?_, ?_⟩
  · obtain ⟨t, c, h⟩ := starts (mk := .writeRegs) critical_writeRegs.1 critical_writeRegs.2 rfl; exact ⟨_, _, t, c, critical_writeRegs.1, h⟩
  · obtain ⟨t, c, h⟩ := starts (mk := .switchImage) critical_switchImage.1 critical_switchImage.2 rfl; exact ⟨_, _, t, c, critical_switchImage.1, h⟩
  · obtain ⟨t, c, h⟩ := starts (mk := .writeImage) critical_writeImage.1 critical_writeImage.2 rfl; exact ⟨_, _, t, c, critical_writeImage.1, h⟩
  · obtain ⟨t, c, h⟩ := starts (mk := .keyRevoke) critical_keyRevoke.1 critical_keyRevoke.2 rfl; exact ⟨_, _, t, c, critical_keyRevoke.1, h⟩
  · obtain ⟨t, c, h⟩ := starts (mk := .slotRevoke) critical_slotRevoke.1 critical_slotRevoke.2 rfl; exact ⟨_, _, t, c, critical_slotRevoke.1, h⟩
  · obtain ⟨t, c, h⟩ := starts (mk := .svnAdvance) critical_svnAdvance.1 critical_svnAdvance.2 rfl; exact ⟨_, _, t, c, critical_svnAdvance.1, h⟩
  · obtain ⟨t, c, h⟩ := starts (mk := .power) critical_power.1 critical_power.2 rfl; exact ⟨_, _, t, c, critical_power.1, h⟩
  · obtain ⟨t, c, h⟩ := starts (mk := .replayEnter) critical_replayEnter.1 critical_replayEnter.2 rfl; exact ⟨_, _, t, c, critical_replayEnter.1, h⟩
  · obtain ⟨t, c, h⟩ := starts (mk := .replayExit) critical_replayExit.1 critical_replayExit.2 rfl; exact ⟨_, _, t, c, critical_replayExit.1, h⟩
  · obtain ⟨t, c, h⟩ := starts (mk := .reset) critical_reset.1 critical_reset.2 rfl; exact ⟨_, _, t, c, critical_reset.1, h⟩

/-- Concrete inputs meet the hypotheses of SecurityCompletions, clause by clause. -/
theorem witness_SecurityCompletions :
  (Running (regs [] { State.reset with sec := { proc := some (⟨0, { path := 0 }, hdrOf 0x8001 5 0 7 [], none⟩ : CmdProc) } }) ∧
    (regs [] { State.reset with sec := { proc := some (⟨0, { path := 0 }, hdrOf 0x8001 5 0 7 [], none⟩ : CmdProc) } }).sec.proc = some (⟨0, { path := 0 }, hdrOf 0x8001 5 0 7 [], none⟩ : CmdProc) ∧
    (⟨0, { path := 0 }, hdrOf 0x8001 5 0 7 [], none⟩ : CmdProc).kind = 0 ∧
    inReplay (regs [] { State.reset with sec := { proc := some (⟨0, { path := 0 }, hdrOf 0x8001 5 0 7 [], none⟩ : CmdProc) } }) = false ∧
    stillAllowed (cmdOp (⟨0, { path := 0 }, hdrOf 0x8001 5 0 7 [], none⟩ : CmdProc).bytes) (⟨0, { path := 0 }, hdrOf 0x8001 5 0 7 [], none⟩ : CmdProc).target (regs [] { State.reset with sec := { proc := some (⟨0, { path := 0 }, hdrOf 0x8001 5 0 7 [], none⟩ : CmdProc) } }) = true) ∧
  (Running (regs [] { State.reset with sec := { proc := some (⟨0, { path := 0 }, hdrOf 0x8001 5 0 7 [], some 0⟩ : CmdProc) } }) ∧
    (regs [] { State.reset with sec := { proc := some (⟨0, { path := 0 }, hdrOf 0x8001 5 0 7 [], some 0⟩ : CmdProc) } }).sec.proc = some (⟨0, { path := 0 }, hdrOf 0x8001 5 0 7 [], some 0⟩ : CmdProc) ∧
    (⟨0, { path := 0 }, hdrOf 0x8001 5 0 7 [], some 0⟩ : CmdProc).kind = 0 ∧
    inReplay (regs [] { State.reset with sec := { proc := some (⟨0, { path := 0 }, hdrOf 0x8001 5 0 7 [], some 0⟩ : CmdProc) } }) = false ∧
    stillAllowed (cmdOp (⟨0, { path := 0 }, hdrOf 0x8001 5 0 7 [], some 0⟩ : CmdProc).bytes) (⟨0, { path := 0 }, hdrOf 0x8001 5 0 7 [], some 0⟩ : CmdProc).target (regs [] { State.reset with sec := { proc := some (⟨0, { path := 0 }, hdrOf 0x8001 5 0 7 [], some 0⟩ : CmdProc) } }) = false) ∧
  (Running (regs [(Reg.ROUND_STATUS, 2)] { State.reset with sec := { proc := some (⟨0, { path := 0 }, hdrOf 0x8001 5 0 7 [], some 2⟩ : CmdProc) } }) ∧
    (regs [(Reg.ROUND_STATUS, 2)] { State.reset with sec := { proc := some (⟨0, { path := 0 }, hdrOf 0x8001 5 0 7 [], some 2⟩ : CmdProc) } }).sec.proc = some (⟨0, { path := 0 }, hdrOf 0x8001 5 0 7 [], some 2⟩ : CmdProc) ∧
    (⟨0, { path := 0 }, hdrOf 0x8001 5 0 7 [], some 2⟩ : CmdProc).kind = 0 ∧
    inReplay (regs [(Reg.ROUND_STATUS, 2)] { State.reset with sec := { proc := some (⟨0, { path := 0 }, hdrOf 0x8001 5 0 7 [], some 2⟩ : CmdProc) } }) = false ∧
    stillAllowed (cmdOp (⟨0, { path := 0 }, hdrOf 0x8001 5 0 7 [], some 2⟩ : CmdProc).bytes) (⟨0, { path := 0 }, hdrOf 0x8001 5 0 7 [], some 2⟩ : CmdProc).target (regs [(Reg.ROUND_STATUS, 2)] { State.reset with sec := { proc := some (⟨0, { path := 0 }, hdrOf 0x8001 5 0 7 [], some 2⟩ : CmdProc) } }) = true) ∧
  (Running (regs [(Reg.ROUND_STATUS, 2)] { State.reset with sec := { proc := some (⟨0, { path := 0 }, hdrOf 0x8003 5 0 7 (leBytes 8 0 ++ leBytes 8 0), none⟩ : CmdProc) } }) ∧
    (regs [(Reg.ROUND_STATUS, 2)] { State.reset with sec := { proc := some (⟨0, { path := 0 }, hdrOf 0x8003 5 0 7 (leBytes 8 0 ++ leBytes 8 0), none⟩ : CmdProc) } }).sec.proc = some (⟨0, { path := 0 }, hdrOf 0x8003 5 0 7 (leBytes 8 0 ++ leBytes 8 0), none⟩ : CmdProc) ∧
    (⟨0, { path := 0 }, hdrOf 0x8003 5 0 7 (leBytes 8 0 ++ leBytes 8 0), none⟩ : CmdProc).kind = 0 ∧
    inReplay (regs [(Reg.ROUND_STATUS, 2)] { State.reset with sec := { proc := some (⟨0, { path := 0 }, hdrOf 0x8003 5 0 7 (leBytes 8 0 ++ leBytes 8 0), none⟩ : CmdProc) } }) = false ∧
    stillAllowed (cmdOp (⟨0, { path := 0 }, hdrOf 0x8003 5 0 7 (leBytes 8 0 ++ leBytes 8 0), none⟩ : CmdProc).bytes) (⟨0, { path := 0 }, hdrOf 0x8003 5 0 7 (leBytes 8 0 ++ leBytes 8 0), none⟩ : CmdProc).target (regs [(Reg.ROUND_STATUS, 2)] { State.reset with sec := { proc := some (⟨0, { path := 0 }, hdrOf 0x8003 5 0 7 (leBytes 8 0 ++ leBytes 8 0), none⟩ : CmdProc) } }) = true) ∧
  (Running (regs [] { State.reset with sec := { proc := some (⟨0, { path := 0 }, hdrOf 0x8004 5 0 7 (leBytes 8 9), none⟩ : CmdProc) } }) ∧
    (regs [] { State.reset with sec := { proc := some (⟨0, { path := 0 }, hdrOf 0x8004 5 0 7 (leBytes 8 9), none⟩ : CmdProc) } }).sec.proc = some (⟨0, { path := 0 }, hdrOf 0x8004 5 0 7 (leBytes 8 9), none⟩ : CmdProc) ∧
    (⟨0, { path := 0 }, hdrOf 0x8004 5 0 7 (leBytes 8 9), none⟩ : CmdProc).kind = 0 ∧
    inReplay (regs [] { State.reset with sec := { proc := some (⟨0, { path := 0 }, hdrOf 0x8004 5 0 7 (leBytes 8 9), none⟩ : CmdProc) } }) = false ∧
    stillAllowed (cmdOp (⟨0, { path := 0 }, hdrOf 0x8004 5 0 7 (leBytes 8 9), none⟩ : CmdProc).bytes) (⟨0, { path := 0 }, hdrOf 0x8004 5 0 7 (leBytes 8 9), none⟩ : CmdProc).target (regs [] { State.reset with sec := { proc := some (⟨0, { path := 0 }, hdrOf 0x8004 5 0 7 (leBytes 8 9), none⟩ : CmdProc) } }) = true) ∧
  (Running (regs [] { State.reset with sec := { proc := some (⟨0, { path := 0 }, hdrOf 0x8005 5 0 7 (leBytes 8 3), none⟩ : CmdProc) } }) ∧
    (regs [] { State.reset with sec := { proc := some (⟨0, { path := 0 }, hdrOf 0x8005 5 0 7 (leBytes 8 3), none⟩ : CmdProc) } }).sec.proc = some (⟨0, { path := 0 }, hdrOf 0x8005 5 0 7 (leBytes 8 3), none⟩ : CmdProc) ∧
    (⟨0, { path := 0 }, hdrOf 0x8005 5 0 7 (leBytes 8 3), none⟩ : CmdProc).kind = 0 ∧
    inReplay (regs [] { State.reset with sec := { proc := some (⟨0, { path := 0 }, hdrOf 0x8005 5 0 7 (leBytes 8 3), none⟩ : CmdProc) } }) = false ∧
    stillAllowed (cmdOp (⟨0, { path := 0 }, hdrOf 0x8005 5 0 7 (leBytes 8 3), none⟩ : CmdProc).bytes) (⟨0, { path := 0 }, hdrOf 0x8005 5 0 7 (leBytes 8 3), none⟩ : CmdProc).target (regs [] { State.reset with sec := { proc := some (⟨0, { path := 0 }, hdrOf 0x8005 5 0 7 (leBytes 8 3), none⟩ : CmdProc) } }) = true) ∧
  (Running (regs [] { State.reset with sec := { proc := some (⟨0, { path := 0 }, hdrOf 0x8006 5 0 7 (leBytes 8 127), none⟩ : CmdProc) } }) ∧
    (regs [] { State.reset with sec := { proc := some (⟨0, { path := 0 }, hdrOf 0x8006 5 0 7 (leBytes 8 127), none⟩ : CmdProc) } }).sec.proc = some (⟨0, { path := 0 }, hdrOf 0x8006 5 0 7 (leBytes 8 127), none⟩ : CmdProc) ∧
    (⟨0, { path := 0 }, hdrOf 0x8006 5 0 7 (leBytes 8 127), none⟩ : CmdProc).kind = 0 ∧
    inReplay (regs [] { State.reset with sec := { proc := some (⟨0, { path := 0 }, hdrOf 0x8006 5 0 7 (leBytes 8 127), none⟩ : CmdProc) } }) = false ∧
    stillAllowed (cmdOp (⟨0, { path := 0 }, hdrOf 0x8006 5 0 7 (leBytes 8 127), none⟩ : CmdProc).bytes) (⟨0, { path := 0 }, hdrOf 0x8006 5 0 7 (leBytes 8 127), none⟩ : CmdProc).target (regs [] { State.reset with sec := { proc := some (⟨0, { path := 0 }, hdrOf 0x8006 5 0 7 (leBytes 8 127), none⟩ : CmdProc) } }) = true) ∧
  (Running (regs [(Reg.ROUND_STATUS, 2)] { State.reset with sec := { proc := some (⟨0, { path := 0 }, hdrOf 0x8007 5 0 7 (leBytes 8 2), some 2⟩ : CmdProc) } }) ∧
    (regs [(Reg.ROUND_STATUS, 2)] { State.reset with sec := { proc := some (⟨0, { path := 0 }, hdrOf 0x8007 5 0 7 (leBytes 8 2), some 2⟩ : CmdProc) } }).sec.proc = some (⟨0, { path := 0 }, hdrOf 0x8007 5 0 7 (leBytes 8 2), some 2⟩ : CmdProc) ∧
    (⟨0, { path := 0 }, hdrOf 0x8007 5 0 7 (leBytes 8 2), some 2⟩ : CmdProc).kind = 0 ∧
    inReplay (regs [(Reg.ROUND_STATUS, 2)] { State.reset with sec := { proc := some (⟨0, { path := 0 }, hdrOf 0x8007 5 0 7 (leBytes 8 2), some 2⟩ : CmdProc) } }) = false ∧
    stillAllowed (cmdOp (⟨0, { path := 0 }, hdrOf 0x8007 5 0 7 (leBytes 8 2), some 2⟩ : CmdProc).bytes) (⟨0, { path := 0 }, hdrOf 0x8007 5 0 7 (leBytes 8 2), some 2⟩ : CmdProc).target (regs [(Reg.ROUND_STATUS, 2)] { State.reset with sec := { proc := some (⟨0, { path := 0 }, hdrOf 0x8007 5 0 7 (leBytes 8 2), some 2⟩ : CmdProc) } }) = true ∧
    2 ≤ roundState (regs [(Reg.ROUND_STATUS, 2)] { State.reset with sec := { proc := some (⟨0, { path := 0 }, hdrOf 0x8007 5 0 7 (leBytes 8 2), some 2⟩ : CmdProc) } })) ∧
  (Running (regs [(Reg.ROUND_STATUS, 2)] { State.reset with sec := { cmds := [(⟨3, 0, hdrOf 0x8001 5 1 7 (leBytes 4 (Reg.EVT_ROUTE 0) ++ leBytes 4 1), some 1, false, false, false, false, 0⟩ : SecCmd)] } }) ∧
    targetsRun (regs [(Reg.ROUND_STATUS, 2)] { State.reset with sec := { cmds := [(⟨3, 0, hdrOf 0x8001 5 1 7 (leBytes 4 (Reg.EVT_ROUTE 0) ++ leBytes 4 1), some 1, false, false, false, false, 0⟩ : SecCmd)] } }) = true ∧
    windowOpen (regs [(Reg.ROUND_STATUS, 2)] { State.reset with sec := { cmds := [(⟨3, 0, hdrOf 0x8001 5 1 7 (leBytes 4 (Reg.EVT_ROUTE 0) ++ leBytes 4 1), some 1, false, false, false, false, 0⟩ : SecCmd)] } }) = false ∧
    (regs [(Reg.ROUND_STATUS, 2)] { State.reset with sec := { cmds := [(⟨3, 0, hdrOf 0x8001 5 1 7 (leBytes 4 (Reg.EVT_ROUTE 0) ++ leBytes 4 1), some 1, false, false, false, false, 0⟩ : SecCmd)] } }).sec.cmds.find? (fun x => !x.issued && (match x.target with | some r => decide (r ≤ nextRound (regs [(Reg.ROUND_STATUS, 2)] { State.reset with sec := { cmds := [(⟨3, 0, hdrOf 0x8001 5 1 7 (leBytes 4 (Reg.EVT_ROUTE 0) ++ leBytes 4 1), some 1, false, false, false, false, 0⟩ : SecCmd)] } })) | none => false)) = some (⟨3, 0, hdrOf 0x8001 5 1 7 (leBytes 4 (Reg.EVT_ROUTE 0) ++ leBytes 4 1), some 1, false, false, false, false, 0⟩ : SecCmd) ∧
    ((∀ x ∈ (regs [(Reg.ROUND_STATUS, 2)] { State.reset with sec := { cmds := [(⟨3, 0, hdrOf 0x8001 5 1 7 (leBytes 4 (Reg.EVT_ROUTE 0) ++ leBytes 4 1), some 1, false, false, false, false, 0⟩ : SecCmd)] } }).sec.cmds, x.no = (⟨3, 0, hdrOf 0x8001 5 1 7 (leBytes 4 (Reg.EVT_ROUTE 0) ++ leBytes 4 1), some 1, false, false, false, false, 0⟩ : SecCmd).no → x = (⟨3, 0, hdrOf 0x8001 5 1 7 (leBytes 4 (Reg.EVT_ROUTE 0) ++ leBytes 4 1), some 1, false, false, false, false, 0⟩ : SecCmd))) ∧
    cmdOp (⟨3, 0, hdrOf 0x8001 5 1 7 (leBytes 4 (Reg.EVT_ROUTE 0) ++ leBytes 4 1), some 1, false, false, false, false, 0⟩ : SecCmd).bytes = 0x8001 ∧
    0 < (cmdPayload (⟨3, 0, hdrOf 0x8001 5 1 7 (leBytes 4 (Reg.EVT_ROUTE 0) ++ leBytes 4 1), some 1, false, false, false, false, 0⟩ : SecCmd).bytes).length / 8) ∧
  (Running (flying [(pkt 9 .sec (useCmd 3) (.write [0, 0, 0, 0]) .served 0 (some (0, [])))]) ∧
    waitingAns .sec (useCmd 3) (flying [(pkt 9 .sec (useCmd 3) (.write [0, 0, 0, 0]) .served 0 (some (0, [])))]) = some ((pkt 9 .sec (useCmd 3) (.write [0, 0, 0, 0]) .served 0 (some (0, []))), 0, []) ∧
    txnOf (pkt 9 .sec (useCmd 3) (.write [0, 0, 0, 0]) .served 0 (some (0, []))).id (flying [(pkt 9 .sec (useCmd 3) (.write [0, 0, 0, 0]) .served 0 (some (0, [])))]) = some (pkt 9 .sec (useCmd 3) (.write [0, 0, 0, 0]) .served 0 (some (0, []))) ∧
    (pkt 9 .sec (useCmd 3) (.write [0, 0, 0, 0]) .served 0 (some (0, []))).late = false) ∧
  (Running (flying [(pkt 9 .sec (useCmd 3) (.write [0, 0, 0, 0]) .served 0 (some (1, [])))]) ∧
    waitingAns .sec (useCmd 3) (flying [(pkt 9 .sec (useCmd 3) (.write [0, 0, 0, 0]) .served 0 (some (1, [])))]) = some ((pkt 9 .sec (useCmd 3) (.write [0, 0, 0, 0]) .served 0 (some (1, []))), 1, []) ∧
    txnOf (pkt 9 .sec (useCmd 3) (.write [0, 0, 0, 0]) .served 0 (some (1, []))).id (flying [(pkt 9 .sec (useCmd 3) (.write [0, 0, 0, 0]) .served 0 (some (1, [])))]) = some (pkt 9 .sec (useCmd 3) (.write [0, 0, 0, 0]) .served 0 (some (1, []))) ∧
    (pkt 9 .sec (useCmd 3) (.write [0, 0, 0, 0]) .served 0 (some (1, []))).late = false) ∧
  (Running (regs [] { State.reset with sec := { proc := some (⟨2, { path := 1 }, hdrOf 0x8003 5 0 7 (leBytes 8 0 ++ leBytes 8 0 ++ leBytes 8 0xAB), none⟩ : CmdProc) } }) ∧
    (regs [] { State.reset with sec := { proc := some (⟨2, { path := 1 }, hdrOf 0x8003 5 0 7 (leBytes 8 0 ++ leBytes 8 0 ++ leBytes 8 0xAB), none⟩ : CmdProc) } }).sec.proc = some (⟨2, { path := 1 }, hdrOf 0x8003 5 0 7 (leBytes 8 0 ++ leBytes 8 0 ++ leBytes 8 0xAB), none⟩ : CmdProc) ∧
    (⟨2, { path := 1 }, hdrOf 0x8003 5 0 7 (leBytes 8 0 ++ leBytes 8 0 ++ leBytes 8 0xAB), none⟩ : CmdProc).kind = 2 ∧
    (⟨2, { path := 1 }, hdrOf 0x8003 5 0 7 (leBytes 8 0 ++ leBytes 8 0 ++ leBytes 8 0xAB), none⟩ : CmdProc).src.path < 256 ∧
    inReplay (regs [] { State.reset with sec := { proc := some (⟨2, { path := 1 }, hdrOf 0x8003 5 0 7 (leBytes 8 0 ++ leBytes 8 0 ++ leBytes 8 0xAB), none⟩ : CmdProc) } }) = false) ∧
  (Running ({ State.reset with sec := { bootWrite := some (1, 0), coldValid := true } } : State) ∧
    ({ State.reset with sec := { bootWrite := some (1, 0), coldValid := true } } : State).sec.bootWrite = some (1, 0) ∧ 1 < 2 ∧
    (bootRecord ({ State.reset with sec := { bootWrite := some (1, 0), coldValid := true } } : State)).2.1 + 1 < 4294967296) := by
  with_reducible and_intros
  all_goals
    first
    | decide +kernel
    | (unfold Running; decide +kernel)

/-- Every DMA engine is idle. -/
def dmaIdle (s : State) : State := (upto 33).foldl (fun s e => wr (Reg.DMA_STATUS e) 0x10000 s) s

/-- Concrete inputs meet the hypotheses of StandbyAndShedding, clause by clause. -/
theorem witness_StandbyAndShedding :
  (Running (regs [] { State.reset with pwr := { phase := 2 } }) ∧ (regs [] { State.reset with pwr := { phase := 2 } }).pwr.phase = 2 ∧
    ((∀ n, n < 512 → (eng n (regs [] { State.reset with pwr := { phase := 2 } })).mode = .halted ∨ (eng n (regs [] { State.reset with pwr := { phase := 2 } })).mode = .faulted ∨ (eng n (regs [] { State.reset with pwr := { phase := 2 } })).mode = .off))) ∧
  (Running (dmaIdle (regs [] { State.reset with pwr := { phase := 3 } })) ∧
    (dmaIdle (regs [] { State.reset with pwr := { phase := 3 } })).pwr.phase = 3 ∧
    ((∀ e, e < 33 → flagOn (Reg.DMA_STATUS e) 16 (dmaIdle (regs [] { State.reset with pwr := { phase := 3 } })) = true)) ∧
    ((∀ k, k < 68 → accEmpty k (dmaIdle (regs [] { State.reset with pwr := { phase := 3 } })) = true))) ∧
  (Running (regs [] { State.reset with pwr := { phase := 4, target := 2 } }) ∧
    (regs [] { State.reset with pwr := { phase := 4, target := 2 } }).pwr.phase = 4 ∧
    ((∀ d, d < devDom → (dom d (regs [] { State.reset with pwr := { phase := 4, target := 2 } })).entering = none ∨ domQuiet d (regs [] { State.reset with pwr := { phase := 4, target := 2 } }) = true)) ∧
    (regs [] { State.reset with pwr := { phase := 4, target := 2 } }).pwr.target ≠ 3) ∧
  (Running (regs [] { State.reset with pwr := { phase := 4, target := 3 } }) ∧
    (regs [] { State.reset with pwr := { phase := 4, target := 3 } }).pwr.phase = 4 ∧
    ((∀ d, d < devDom → (dom d (regs [] { State.reset with pwr := { phase := 4, target := 3 } })).entering = none ∨ domQuiet d (regs [] { State.reset with pwr := { phase := 4, target := 3 } }) = true)) ∧
    (regs [] { State.reset with pwr := { phase := 4, target := 3 } }).pwr.target = 3) ∧
  (Running (regs [(Reg.PWR_CAP, 0x0), (Reg.PWR_STATUS, 0x0), (Reg.PWR_THERM, 105)] { State.reset with pwr := { below := 0 } }) ∧
    roundState (regs [(Reg.PWR_CAP, 0x0), (Reg.PWR_STATUS, 0x0), (Reg.PWR_THERM, 105)] { State.reset with pwr := { below := 0 } }) ≤ 1 ∧
    inReplay (regs [(Reg.PWR_CAP, 0x0), (Reg.PWR_STATUS, 0x0), (Reg.PWR_THERM, 105)] { State.reset with pwr := { below := 0 } }) = false ∧
    fld Reg.PWR_CAP 15 0 (regs [(Reg.PWR_CAP, 0x0), (Reg.PWR_STATUS, 0x0), (Reg.PWR_THERM, 105)] { State.reset with pwr := { below := 0 } }) = 0) ∧
  (Running (regs [(Reg.PWR_CAP, 0x3e8), (Reg.PWR_STATUS, 0x300), (Reg.PWR_THERM, 105)] { State.reset with pwr := { below := 0 } }) ∧
    roundState (regs [(Reg.PWR_CAP, 0x3e8), (Reg.PWR_STATUS, 0x300), (Reg.PWR_THERM, 105)] { State.reset with pwr := { below := 0 } }) ≤ 1 ∧
    inReplay (regs [(Reg.PWR_CAP, 0x3e8), (Reg.PWR_STATUS, 0x300), (Reg.PWR_THERM, 105)] { State.reset with pwr := { below := 0 } }) = false ∧
    fld Reg.PWR_CAP 15 0 (regs [(Reg.PWR_CAP, 0x3e8), (Reg.PWR_STATUS, 0x300), (Reg.PWR_THERM, 105)] { State.reset with pwr := { below := 0 } }) ≠ 0 ∧
    fld Reg.PWR_CAP 15 0 (regs [(Reg.PWR_CAP, 0x3e8), (Reg.PWR_STATUS, 0x300), (Reg.PWR_THERM, 105)] { State.reset with pwr := { below := 0 } }) < 1001 ∧
    fld Reg.PWR_STATUS 10 8 (regs [(Reg.PWR_CAP, 0x3e8), (Reg.PWR_STATUS, 0x300), (Reg.PWR_THERM, 105)] { State.reset with pwr := { below := 0 } }) < 4) ∧
  (Running (regs [(Reg.PWR_CAP, 0x3e8), (Reg.PWR_STATUS, 0x0), (Reg.PWR_THERM, 105)] { State.reset with pwr := { below := 0 } }) ∧
    roundState (regs [(Reg.PWR_CAP, 0x3e8), (Reg.PWR_STATUS, 0x0), (Reg.PWR_THERM, 105)] { State.reset with pwr := { below := 0 } }) ≤ 1 ∧
    inReplay (regs [(Reg.PWR_CAP, 0x3e8), (Reg.PWR_STATUS, 0x0), (Reg.PWR_THERM, 105)] { State.reset with pwr := { below := 0 } }) = false ∧
    fld Reg.PWR_CAP 15 0 (regs [(Reg.PWR_CAP, 0x3e8), (Reg.PWR_STATUS, 0x0), (Reg.PWR_THERM, 105)] { State.reset with pwr := { below := 0 } }) ≠ 0 ∧
    Int.ofNat (min 105 (fld Reg.PWR_THERM 7 0 (regs [(Reg.PWR_CAP, 0x3e8), (Reg.PWR_STATUS, 0x0), (Reg.PWR_THERM, 105)] { State.reset with pwr := { below := 0 } }))) ≤ 105 ∧
    fld Reg.PWR_STATUS 10 8 (regs [(Reg.PWR_CAP, 0x3e8), (Reg.PWR_STATUS, 0x0), (Reg.PWR_THERM, 105)] { State.reset with pwr := { below := 0 } }) < 4) ∧
  (Running (regs [(Reg.PWR_CAP, 0x20003e8), (Reg.PWR_STATUS, 0x400), (Reg.PWR_THERM, 105)] { State.reset with pwr := { below := 1 } }) ∧
    roundState (regs [(Reg.PWR_CAP, 0x20003e8), (Reg.PWR_STATUS, 0x400), (Reg.PWR_THERM, 105)] { State.reset with pwr := { below := 1 } }) ≤ 1 ∧
    inReplay (regs [(Reg.PWR_CAP, 0x20003e8), (Reg.PWR_STATUS, 0x400), (Reg.PWR_THERM, 105)] { State.reset with pwr := { below := 1 } }) = false ∧
    fld Reg.PWR_CAP 15 0 (regs [(Reg.PWR_CAP, 0x20003e8), (Reg.PWR_STATUS, 0x400), (Reg.PWR_THERM, 105)] { State.reset with pwr := { below := 1 } }) ≠ 0 ∧
    999 + 4 * fld Reg.PWR_CAP 23 16 (regs [(Reg.PWR_CAP, 0x20003e8), (Reg.PWR_STATUS, 0x400), (Reg.PWR_THERM, 105)] { State.reset with pwr := { below := 1 } }) < fld Reg.PWR_CAP 15 0 (regs [(Reg.PWR_CAP, 0x20003e8), (Reg.PWR_STATUS, 0x400), (Reg.PWR_THERM, 105)] { State.reset with pwr := { below := 1 } }) ∧
    ¬Int.ofNat (min 105 (fld Reg.PWR_THERM 7 0 (regs [(Reg.PWR_CAP, 0x20003e8), (Reg.PWR_STATUS, 0x400), (Reg.PWR_THERM, 105)] { State.reset with pwr := { below := 1 } }))) ≤ 20 ∧
    0 < fld Reg.PWR_STATUS 10 8 (regs [(Reg.PWR_CAP, 0x20003e8), (Reg.PWR_STATUS, 0x400), (Reg.PWR_THERM, 105)] { State.reset with pwr := { below := 1 } }) ∧
    fld Reg.PWR_STATUS 10 8 (regs [(Reg.PWR_CAP, 0x20003e8), (Reg.PWR_STATUS, 0x400), (Reg.PWR_THERM, 105)] { State.reset with pwr := { below := 1 } }) ≤ 4 ∧
    max 1 (fld Reg.PWR_CAP 30 24 (regs [(Reg.PWR_CAP, 0x20003e8), (Reg.PWR_STATUS, 0x400), (Reg.PWR_THERM, 105)] { State.reset with pwr := { below := 1 } })) ≤ (regs [(Reg.PWR_CAP, 0x20003e8), (Reg.PWR_STATUS, 0x400), (Reg.PWR_THERM, 105)] { State.reset with pwr := { below := 1 } }).pwr.below + 1) ∧
  (Running (regs [(Reg.PWR_CAP, 0x20003e8), (Reg.PWR_STATUS, 0x100), (Reg.PWR_THERM, 105)] { State.reset with pwr := { below := 0 } }) ∧
    roundState (regs [(Reg.PWR_CAP, 0x20003e8), (Reg.PWR_STATUS, 0x100), (Reg.PWR_THERM, 105)] { State.reset with pwr := { below := 0 } }) ≤ 1 ∧
    inReplay (regs [(Reg.PWR_CAP, 0x20003e8), (Reg.PWR_STATUS, 0x100), (Reg.PWR_THERM, 105)] { State.reset with pwr := { below := 0 } }) = false ∧
    fld Reg.PWR_CAP 15 0 (regs [(Reg.PWR_CAP, 0x20003e8), (Reg.PWR_STATUS, 0x100), (Reg.PWR_THERM, 105)] { State.reset with pwr := { below := 0 } }) ≠ 0 ∧
    999 + 4 * fld Reg.PWR_CAP 23 16 (regs [(Reg.PWR_CAP, 0x20003e8), (Reg.PWR_STATUS, 0x100), (Reg.PWR_THERM, 105)] { State.reset with pwr := { below := 0 } }) < fld Reg.PWR_CAP 15 0 (regs [(Reg.PWR_CAP, 0x20003e8), (Reg.PWR_STATUS, 0x100), (Reg.PWR_THERM, 105)] { State.reset with pwr := { below := 0 } }) ∧
    ¬Int.ofNat (min 105 (fld Reg.PWR_THERM 7 0 (regs [(Reg.PWR_CAP, 0x20003e8), (Reg.PWR_STATUS, 0x100), (Reg.PWR_THERM, 105)] { State.reset with pwr := { below := 0 } }))) ≤ 20 ∧
    0 < fld Reg.PWR_STATUS 10 8 (regs [(Reg.PWR_CAP, 0x20003e8), (Reg.PWR_STATUS, 0x100), (Reg.PWR_THERM, 105)] { State.reset with pwr := { below := 0 } }) ∧
    (regs [(Reg.PWR_CAP, 0x20003e8), (Reg.PWR_STATUS, 0x100), (Reg.PWR_THERM, 105)] { State.reset with pwr := { below := 0 } }).pwr.below + 1 < max 1 (fld Reg.PWR_CAP 30 24 (regs [(Reg.PWR_CAP, 0x20003e8), (Reg.PWR_STATUS, 0x100), (Reg.PWR_THERM, 105)] { State.reset with pwr := { below := 0 } }))) ∧
  (Running (regs [] { State.reset with pwr := { hot := true } }) ∧ (regs [] { State.reset with pwr := { hot := true } }).pwr.hot = true) ∧
  (Running (regs [] { State.reset with pwr := { hot := false } }) ∧
    (regs [] { State.reset with pwr := { hot := false } }).pwr.hot = false) ∧
  (Powered (regs [(Reg.PWR_STATUS, 3)]) ∧ devState (regs [(Reg.PWR_STATUS, 3)]) = 3 ∧
    flagOn Reg.PWR_FAULT 4 (regs [(Reg.PWR_STATUS, 3)]) = false) ∧
  (Powered (regs [(Reg.PWR_STATUS, 3), (Reg.PWR_FAULT, 16)]) ∧ devState (regs [(Reg.PWR_STATUS, 3), (Reg.PWR_FAULT, 16)]) = 3 ∧
    flagOn Reg.PWR_FAULT 4 (regs [(Reg.PWR_STATUS, 3), (Reg.PWR_FAULT, 16)]) = true) ∧
  (Running .reset ∧ devState .reset ≤ 1) := by
  with_reducible and_intros
  all_goals
    first
    | decide +kernel
    | (unfold Running; decide +kernel)
    | (unfold Powered; decide +kernel)

/-- Concrete inputs meet the hypotheses of PowerRegistersNeedSec, clause by clause. -/
theorem witness_PowerRegistersNeedSec :
  (Running .reset ∧ Open (srcOf .sec .reset) Reg.PWR_CAP false true 0xFFFFFFFF .reset ∧ (srcOf .sec .reset) = srcOf .sec .reset) ∧
  (Running .reset ∧ Open (srcOf .host .reset) Reg.PWR_CAP false true 0xFFFFFFFF .reset ∧ (srcOf .host .reset) ≠ srcOf .sec .reset) ∧
  (Running .reset ∧ Open (srcOf .sec .reset) Reg.PWR_SHED_CFG false true 0xFFFFFFFF .reset ∧ (srcOf .sec .reset) = srcOf .sec .reset) ∧
  (Running .reset ∧ Open (srcOf .host .reset) Reg.PWR_SHED_CFG false true 0xFFFFFFFF .reset ∧ (srcOf .host .reset) ≠ srcOf .sec .reset) ∧
  (Running .reset ∧ Open (srcOf .sec .reset) Reg.PWR_THERM false true 0xFFFFFFFF .reset ∧ (srcOf .sec .reset) = srcOf .sec .reset) ∧
  (Running .reset ∧ Open (srcOf .host .reset) Reg.PWR_THERM false true 0xFFFFFFFF .reset ∧ (srcOf .host .reset) ≠ srcOf .sec .reset) := by
  with_reducible and_intros
  all_goals
    first
    | decide +kernel
    | (unfold Running; decide +kernel)
    | exact open_of (by decide +kernel)

/-- Concrete inputs meet the hypotheses of DomainsSleepAndWake, clause by clause. -/
theorem witness_DomainsSleepAndWake :
  (Running (regs [] { State.reset with dom := [(511, { fenced := true, entering := some .doze })], eng := [(511, { mode := .nap })] }) ∧
    (dom 511 (regs [] { State.reset with dom := [(511, { fenced := true, entering := some .doze })], eng := [(511, { mode := .nap })] })).entering = some .doze ∧
    domQuiet 511 (regs [] { State.reset with dom := [(511, { fenced := true, entering := some .doze })], eng := [(511, { mode := .nap })] }) = true ∧
    (dom 511 (regs [] { State.reset with dom := [(511, { fenced := true, entering := some .doze })], eng := [(511, { mode := .nap })] })).held = none ∧
    engCopying 511 (regs [] { State.reset with dom := [(511, { fenced := true, entering := some .doze })], eng := [(511, { mode := .nap })] }) = false ∧
    (eng 511 (regs [] { State.reset with dom := [(511, { fenced := true, entering := some .doze })], eng := [(511, { mode := .nap })] })).mode ≠ .doze) ∧
  (Running (regs [] { State.reset with dom := [(511, { fenced := true, entering := some .nap })], eng := [(511, { mode := .run })] }) ∧
    (dom 511 (regs [] { State.reset with dom := [(511, { fenced := true, entering := some .nap })], eng := [(511, { mode := .run })] })).entering = some .nap ∧
    domQuiet 511 (regs [] { State.reset with dom := [(511, { fenced := true, entering := some .nap })], eng := [(511, { mode := .run })] }) = true ∧
    (dom 511 (regs [] { State.reset with dom := [(511, { fenced := true, entering := some .nap })], eng := [(511, { mode := .run })] })).held = none ∧
    engCopying 511 (regs [] { State.reset with dom := [(511, { fenced := true, entering := some .nap })], eng := [(511, { mode := .run })] }) = false) ∧
  (Running (regs [] { State.reset with dom := [(639, { fenced := true, entering := some .off })] }) ∧
    (dom 639 (regs [] { State.reset with dom := [(639, { fenced := true, entering := some .off })] })).entering = some .off ∧
    domQuiet 639 (regs [] { State.reset with dom := [(639, { fenced := true, entering := some .off })] }) = true ∧
    (dom 639 (regs [] { State.reset with dom := [(639, { fenced := true, entering := some .off })] })).held = none) ∧
  (Running (regs [] { State.reset with dom := [(639, { waking := true, down := false })] }) ∧
    (dom 639 (regs [] { State.reset with dom := [(639, { waking := true, down := false })] })).waking = true ∧
    (dom 639 (regs [] { State.reset with dom := [(639, { waking := true, down := false })] })).down = false) ∧
  (Running (regs [] { State.reset with dom := [(511, { waking := true, down := false })], eng := [(511, { mode := .nap })] }) ∧
    (dom 511 (regs [] { State.reset with dom := [(511, { waking := true, down := false })], eng := [(511, { mode := .nap })] })).waking = true ∧
    (dom 511 (regs [] { State.reset with dom := [(511, { waking := true, down := false })], eng := [(511, { mode := .nap })] })).down = false ∧
    (eng 511 (regs [] { State.reset with dom := [(511, { waking := true, down := false })], eng := [(511, { mode := .nap })] })).mode = .nap ∧
    (eng 511 (regs [] { State.reset with dom := [(511, { waking := true, down := false })], eng := [(511, { mode := .nap })] })).resetPend = false) ∧
  (Running (regs [] { State.reset with dom := [(511, { waking := true, down := false })], eng := [(511, { mode := .doze })] }) ∧
    (dom 511 (regs [] { State.reset with dom := [(511, { waking := true, down := false })], eng := [(511, { mode := .doze })] })).waking = true ∧
    (dom 511 (regs [] { State.reset with dom := [(511, { waking := true, down := false })], eng := [(511, { mode := .doze })] })).down = false ∧
    (eng 511 (regs [] { State.reset with dom := [(511, { waking := true, down := false })], eng := [(511, { mode := .doze })] })).mode = .doze ∧
    (eng 511 (regs [] { State.reset with dom := [(511, { waking := true, down := false })], eng := [(511, { mode := .doze })] })).resetPend = false) ∧
  (Running ({ (regs [] { State.reset with dom := [(511, { waking := true, down := false })], eng := [(511, { mode := .doze })] }) with mem := { cells := [(0x20000000 + 511 * 0x100 + 232, 1)] } } : State) ∧
    (dom 511 ({ (regs [] { State.reset with dom := [(511, { waking := true, down := false })], eng := [(511, { mode := .doze })] }) with mem := { cells := [(0x20000000 + 511 * 0x100 + 232, 1)] } } : State)).waking = true ∧
    (dom 511 ({ (regs [] { State.reset with dom := [(511, { waking := true, down := false })], eng := [(511, { mode := .doze })] }) with mem := { cells := [(0x20000000 + 511 * 0x100 + 232, 1)] } } : State)).down = false ∧
    (eng 511 ({ (regs [] { State.reset with dom := [(511, { waking := true, down := false })], eng := [(511, { mode := .doze })] }) with mem := { cells := [(0x20000000 + 511 * 0x100 + 232, 1)] } } : State)).mode = .doze ∧
    (eng 511 ({ (regs [] { State.reset with dom := [(511, { waking := true, down := false })], eng := [(511, { mode := .doze })] }) with mem := { cells := [(0x20000000 + 511 * 0x100 + 232, 1)] } } : State)).resetPend = false ∧
    poisoned (0x20000000 + 511 * 0x100) 256 ({ (regs [] { State.reset with dom := [(511, { waking := true, down := false })], eng := [(511, { mode := .doze })] }) with mem := { cells := [(0x20000000 + 511 * 0x100 + 232, 1)] } } : State) = false ∧
    memNat (0x20000000 + 511 * 0x100 + 232) 4 ({ (regs [] { State.reset with dom := [(511, { waking := true, down := false })], eng := [(511, { mode := .doze })] }) with mem := { cells := [(0x20000000 + 511 * 0x100 + 232, 1)] } } : State) = 1) ∧
  (Running (regs [] { State.reset with dom := [(devDom, { waking := true, down := false })] }) ∧
    (dom devDom (regs [] { State.reset with dom := [(devDom, { waking := true, down := false })] })).waking = true ∧
    (dom devDom (regs [] { State.reset with dom := [(devDom, { waking := true, down := false })] })).down = false) ∧
  (Running (regs [] { State.reset with dom := [(639, { waking := true, down := false, tries := 2 })] }) ∧
    (dom 639 (regs [] { State.reset with dom := [(639, { waking := true, down := false, tries := 2 })] })).waking = true ∧
    (dom 639 (regs [] { State.reset with dom := [(639, { waking := true, down := false, tries := 2 })] })).down = false ∧
    (dom 639 (regs [] { State.reset with dom := [(639, { waking := true, down := false, tries := 2 })] })).tries < 3) ∧
  (Running (regs [] { State.reset with dom := [(639, { waking := true, down := false, tries := 3 })] }) ∧
    (dom 639 (regs [] { State.reset with dom := [(639, { waking := true, down := false, tries := 3 })] })).waking = true ∧
    (dom 639 (regs [] { State.reset with dom := [(639, { waking := true, down := false, tries := 3 })] })).down = false ∧
    3 ≤ (dom 639 (regs [] { State.reset with dom := [(639, { waking := true, down := false, tries := 3 })] })).tries) ∧
  (Running (regs [] { State.reset with dom := [(640, { waking := true, down := true })] }) ∧
    (dom 640 (regs [] { State.reset with dom := [(640, { waking := true, down := true })] })).waking = true ∧
    (dom 640 (regs [] { State.reset with dom := [(640, { waking := true, down := true })] })).down = true) := by
  with_reducible and_intros
  all_goals
    first
    | decide +kernel
    | (unfold Running; decide +kernel)

/-- Concrete inputs meet the hypotheses of HotPlug, clause by clause. -/
theorem witness_HotPlug :
  (({ State.reset with pwr := { plug := 0 } } : State).pwr.plug = 0 ∧ ({ State.reset with pwr := { plug := 0 } } : State).pwr.plug < 4 ∧
    ({ State.reset with pwr := { plug := 0 } } : State).pwr.plug ≠ 3 ∧ ({ State.reset with pwr := { plug := 0 } } : State).pwr.plug ≠ 4) ∧
  (({ State.reset with pwr := { plug := 1, trip := true } } : State).pwr.plug = 1) ∧
  (({ State.reset with pwr := { plug := 2, present := true } } : State).pwr.plug = 2 ∧
    ({ State.reset with pwr := { plug := 2, present := true } } : State).pwr.present = true ∧
    2 ≤ ({ State.reset with pwr := { plug := 2, present := true } } : State).pwr.plug) ∧
  (({ State.reset with pwr := { plug := 2, present := false } } : State).pwr.plug = 2 ∧
    ({ State.reset with pwr := { plug := 2, present := false } } : State).pwr.present = false ∧
    2 ≤ ({ State.reset with pwr := { plug := 2, present := false } } : State).pwr.plug) ∧
  (({ State.reset with pwr := { plug := 3 } } : State).pwr.plug = 3 ∧ ({ State.reset with pwr := { plug := 3 } } : State).pwr.plug < 4 ∧
    1 ≤ ({ State.reset with pwr := { plug := 3 } } : State).pwr.plug) ∧
  (({ State.reset with pwr := { eject := 6 } } : State).pwr.plug = 4 ∧ ({ State.reset with pwr := { eject := 6 } } : State).pwr.eject = 6) ∧
  (Powered .reset ∧ State.reset.pwr.eject = 0) ∧
  ((regs [(Reg.PWR_STATUS, 0), (Reg.ROUND_STATUS, 0)] { State.reset with pwr := { eject := 1 } }).pwr.eject = 1 ∧
    ((2 ≤ devState (regs [(Reg.PWR_STATUS, 0), (Reg.ROUND_STATUS, 0)] { State.reset with pwr := { eject := 1 } }) ∨ roundState (regs [(Reg.PWR_STATUS, 0), (Reg.ROUND_STATUS, 0)] { State.reset with pwr := { eject := 1 } }) < 2))) ∧
  ((regs [(Reg.PWR_STATUS, 0), (Reg.ROUND_STATUS, 2)] { State.reset with pwr := { eject := 1 } }).pwr.eject = 1 ∧
    devState (regs [(Reg.PWR_STATUS, 0), (Reg.ROUND_STATUS, 2)] { State.reset with pwr := { eject := 1 } }) < 2 ∧
    2 ≤ roundState (regs [(Reg.PWR_STATUS, 0), (Reg.ROUND_STATUS, 2)] { State.reset with pwr := { eject := 1 } }) ∧
    roundState (regs [(Reg.PWR_STATUS, 0), (Reg.ROUND_STATUS, 2)] { State.reset with pwr := { eject := 1 } }) ≠ 5) ∧
  ((regs [(Reg.PWR_STATUS, 0), (Reg.ROUND_STATUS, 5)] { State.reset with pwr := { eject := 1 } }).pwr.eject = 1 ∧
    devState (regs [(Reg.PWR_STATUS, 0), (Reg.ROUND_STATUS, 5)] { State.reset with pwr := { eject := 1 } }) < 2 ∧
    roundState (regs [(Reg.PWR_STATUS, 0), (Reg.ROUND_STATUS, 5)] { State.reset with pwr := { eject := 1 } }) = 5) ∧
  ((regs [(Reg.PWR_STATUS, 2), (Reg.ROUND_STATUS, 0)] { State.reset with pwr := { eject := 1 } }).pwr.eject = 1 ∧
    ((2 ≤ devState (regs [(Reg.PWR_STATUS, 2), (Reg.ROUND_STATUS, 0)] { State.reset with pwr := { eject := 1 } }) ∨ roundState (regs [(Reg.PWR_STATUS, 2), (Reg.ROUND_STATUS, 0)] { State.reset with pwr := { eject := 1 } }) < 2))) ∧
  ((dmaIdle (regs [] { State.reset with pwr := { eject := 4 } })).pwr.eject = 4 ∧
    ((∀ e, e < 33 → flagOn (Reg.DMA_STATUS e) 16 (dmaIdle (regs [] { State.reset with pwr := { eject := 4 } })) = true)) ∧
    (dmaIdle (regs [] { State.reset with pwr := { eject := 4 } })).sec.proc = none ∧
    (dmaIdle (regs [] { State.reset with pwr := { eject := 4 } })).sec.bootWrite = none ∧
    devState (dmaIdle (regs [] { State.reset with pwr := { eject := 4 } })) ≤ 1) ∧
  (({ State.reset with pwr := { eject := 5 } } : State).pwr.eject = 5) := by
  with_reducible and_intros
  all_goals
    first
    | decide +kernel
    | (unfold Powered; decide +kernel)

/-- Concrete inputs meet the hypotheses of HousekeepingConverter, clause by clause. -/
theorem witness_HousekeepingConverter :
  (Running (regs [(Reg.HKC_CTRL, 1), (Reg.HKC_SEQ 31, 0xC0000700)] { State.reset with hkc := {  } }) ∧
    (regs [(Reg.HKC_CTRL, 1), (Reg.HKC_SEQ 31, 0xC0000700)] { State.reset with hkc := {  } }).hkc.pass = none ∧
    hkcNext 0 (regs [(Reg.HKC_CTRL, 1), (Reg.HKC_SEQ 31, 0xC0000700)] { State.reset with hkc := {  } }) = some 31 ∧
    ((hkcMode (regs [(Reg.HKC_CTRL, 1), (Reg.HKC_SEQ 31, 0xC0000700)] { State.reset with hkc := {  } }) = 1 ∨ hkcMode (regs [(Reg.HKC_CTRL, 1), (Reg.HKC_SEQ 31, 0xC0000700)] { State.reset with hkc := {  } }) = 2 ∧
    (regs [(Reg.HKC_CTRL, 1), (Reg.HKC_SEQ 31, 0xC0000700)] { State.reset with hkc := {  } }).hkc.want = true ∨ hkcMode (regs [(Reg.HKC_CTRL, 1), (Reg.HKC_SEQ 31, 0xC0000700)] { State.reset with hkc := {  } }) = 3 ∧
    roundsRun (regs [(Reg.HKC_CTRL, 1), (Reg.HKC_SEQ 31, 0xC0000700)] { State.reset with hkc := {  } }) = true ∧
    (regs [(Reg.HKC_CTRL, 1), (Reg.HKC_SEQ 31, 0xC0000700)] { State.reset with hkc := {  } }).hkc.began = false))) ∧
  (Running (regs [(Reg.HKC_CTRL, 2), (Reg.HKC_SEQ 31, 0xC0000700)] { State.reset with hkc := { want := true } }) ∧
    (regs [(Reg.HKC_CTRL, 2), (Reg.HKC_SEQ 31, 0xC0000700)] { State.reset with hkc := { want := true } }).hkc.pass = none ∧
    hkcNext 0 (regs [(Reg.HKC_CTRL, 2), (Reg.HKC_SEQ 31, 0xC0000700)] { State.reset with hkc := { want := true } }) = some 31 ∧
    ((hkcMode (regs [(Reg.HKC_CTRL, 2), (Reg.HKC_SEQ 31, 0xC0000700)] { State.reset with hkc := { want := true } }) = 1 ∨ hkcMode (regs [(Reg.HKC_CTRL, 2), (Reg.HKC_SEQ 31, 0xC0000700)] { State.reset with hkc := { want := true } }) = 2 ∧
    (regs [(Reg.HKC_CTRL, 2), (Reg.HKC_SEQ 31, 0xC0000700)] { State.reset with hkc := { want := true } }).hkc.want = true ∨ hkcMode (regs [(Reg.HKC_CTRL, 2), (Reg.HKC_SEQ 31, 0xC0000700)] { State.reset with hkc := { want := true } }) = 3 ∧
    roundsRun (regs [(Reg.HKC_CTRL, 2), (Reg.HKC_SEQ 31, 0xC0000700)] { State.reset with hkc := { want := true } }) = true ∧
    (regs [(Reg.HKC_CTRL, 2), (Reg.HKC_SEQ 31, 0xC0000700)] { State.reset with hkc := { want := true } }).hkc.began = false))) ∧
  (Running (regs [(Reg.HKC_CTRL, 3), (Reg.HKC_SEQ 31, 0xC0000700), (Reg.ROUND_STATUS, 2)] { State.reset with hkc := { began := false } }) ∧
    (regs [(Reg.HKC_CTRL, 3), (Reg.HKC_SEQ 31, 0xC0000700), (Reg.ROUND_STATUS, 2)] { State.reset with hkc := { began := false } }).hkc.pass = none ∧
    hkcNext 0 (regs [(Reg.HKC_CTRL, 3), (Reg.HKC_SEQ 31, 0xC0000700), (Reg.ROUND_STATUS, 2)] { State.reset with hkc := { began := false } }) = some 31 ∧
    ((hkcMode (regs [(Reg.HKC_CTRL, 3), (Reg.HKC_SEQ 31, 0xC0000700), (Reg.ROUND_STATUS, 2)] { State.reset with hkc := { began := false } }) = 1 ∨ hkcMode (regs [(Reg.HKC_CTRL, 3), (Reg.HKC_SEQ 31, 0xC0000700), (Reg.ROUND_STATUS, 2)] { State.reset with hkc := { began := false } }) = 2 ∧
    (regs [(Reg.HKC_CTRL, 3), (Reg.HKC_SEQ 31, 0xC0000700), (Reg.ROUND_STATUS, 2)] { State.reset with hkc := { began := false } }).hkc.want = true ∨ hkcMode (regs [(Reg.HKC_CTRL, 3), (Reg.HKC_SEQ 31, 0xC0000700), (Reg.ROUND_STATUS, 2)] { State.reset with hkc := { began := false } }) = 3 ∧
    roundsRun (regs [(Reg.HKC_CTRL, 3), (Reg.HKC_SEQ 31, 0xC0000700), (Reg.ROUND_STATUS, 2)] { State.reset with hkc := { began := false } }) = true ∧
    (regs [(Reg.HKC_CTRL, 3), (Reg.HKC_SEQ 31, 0xC0000700), (Reg.ROUND_STATUS, 2)] { State.reset with hkc := { began := false } }).hkc.began = false))) ∧
  (Running (regs [(Reg.HKC_SEQ 31, 0xC0000700), (Reg.HKC_WIN 31, 0xffef0000)] { State.reset with hkc := { pass := some 31 } }) ∧
    (regs [(Reg.HKC_SEQ 31, 0xC0000700), (Reg.HKC_WIN 31, 0xffef0000)] { State.reset with hkc := { pass := some 31 } }).hkc.pass = some 31 ∧
    (List.replicate 128 4095).length = 2 ^ fld (Reg.HKC_SEQ 31) 10 8 (regs [(Reg.HKC_SEQ 31, 0xC0000700), (Reg.HKC_WIN 31, 0xffef0000)] { State.reset with hkc := { pass := some 31 } }) ∧
    ((∀ c ∈ (List.replicate 128 4095), c < 4096)) ∧
    inReplay (regs [(Reg.HKC_SEQ 31, 0xC0000700), (Reg.HKC_WIN 31, 0xffef0000)] { State.reset with hkc := { pass := some 31 } }) = false ∧
    hkcNext (31 + 1) (regs [(Reg.HKC_SEQ 31, 0xC0000700), (Reg.HKC_WIN 31, 0xffef0000)] { State.reset with hkc := { pass := some 31 } }) = none ∧
    flagOn (Reg.HKC_SEQ 31) 30 (regs [(Reg.HKC_SEQ 31, 0xC0000700), (Reg.HKC_WIN 31, 0xffef0000)] { State.reset with hkc := { pass := some 31 } }) = true ∧
    ((16 * (List.replicate 128 4095).foldl (· + ·) 0 / (List.replicate 128 4095).length < fld (Reg.HKC_WIN 31) 15 0 (regs [(Reg.HKC_SEQ 31, 0xC0000700), (Reg.HKC_WIN 31, 0xffef0000)] { State.reset with hkc := { pass := some 31 } }) ∨ fld (Reg.HKC_WIN 31) 31 16 (regs [(Reg.HKC_SEQ 31, 0xC0000700), (Reg.HKC_WIN 31, 0xffef0000)] { State.reset with hkc := { pass := some 31 } }) < 16 * (List.replicate 128 4095).foldl (· + ·) 0 / (List.replicate 128 4095).length)) ∧
    tabGet (fun _ => 0) (regs [(Reg.HKC_SEQ 31, 0xC0000700), (Reg.HKC_WIN 31, 0xffef0000)] { State.reset with hkc := { pass := some 31 } }).hkc.prev 31 ≠ 2 ∧
    (regs [(Reg.HKC_SEQ 31, 0xC0000700), (Reg.HKC_WIN 31, 0xffef0000)] { State.reset with hkc := { pass := some 31 } }).hkc.raised.contains 31 = false) ∧
  (Running (regs [(Reg.HKC_SEQ 31, 0xC0000700), (Reg.HKC_WIN 31, 0xfff0fff0)] { State.reset with hkc := { pass := some 31, prev := [(31, 2)] } }) ∧
    (regs [(Reg.HKC_SEQ 31, 0xC0000700), (Reg.HKC_WIN 31, 0xfff0fff0)] { State.reset with hkc := { pass := some 31, prev := [(31, 2)] } }).hkc.pass = some 31 ∧
    (List.replicate 128 4095).length = 2 ^ fld (Reg.HKC_SEQ 31) 10 8 (regs [(Reg.HKC_SEQ 31, 0xC0000700), (Reg.HKC_WIN 31, 0xfff0fff0)] { State.reset with hkc := { pass := some 31, prev := [(31, 2)] } }) ∧
    ((∀ c ∈ (List.replicate 128 4095), c < 4096)) ∧
    inReplay (regs [(Reg.HKC_SEQ 31, 0xC0000700), (Reg.HKC_WIN 31, 0xfff0fff0)] { State.reset with hkc := { pass := some 31, prev := [(31, 2)] } }) = false ∧
    hkcNext (31 + 1) (regs [(Reg.HKC_SEQ 31, 0xC0000700), (Reg.HKC_WIN 31, 0xfff0fff0)] { State.reset with hkc := { pass := some 31, prev := [(31, 2)] } }) = none ∧
    flagOn (Reg.HKC_SEQ 31) 30 (regs [(Reg.HKC_SEQ 31, 0xC0000700), (Reg.HKC_WIN 31, 0xfff0fff0)] { State.reset with hkc := { pass := some 31, prev := [(31, 2)] } }) = true ∧
    fld (Reg.HKC_WIN 31) 15 0 (regs [(Reg.HKC_SEQ 31, 0xC0000700), (Reg.HKC_WIN 31, 0xfff0fff0)] { State.reset with hkc := { pass := some 31, prev := [(31, 2)] } }) ≤ 16 * (List.replicate 128 4095).foldl (· + ·) 0 / (List.replicate 128 4095).length ∧
    16 * (List.replicate 128 4095).foldl (· + ·) 0 / (List.replicate 128 4095).length ≤ fld (Reg.HKC_WIN 31) 31 16 (regs [(Reg.HKC_SEQ 31, 0xC0000700), (Reg.HKC_WIN 31, 0xfff0fff0)] { State.reset with hkc := { pass := some 31, prev := [(31, 2)] } }) ∧
    tabGet (fun _ => 0) (regs [(Reg.HKC_SEQ 31, 0xC0000700), (Reg.HKC_WIN 31, 0xfff0fff0)] { State.reset with hkc := { pass := some 31, prev := [(31, 2)] } }).hkc.prev 31 = 2) ∧
  (Running (regs [(Reg.HKC_OCD_CFG, 0x10064)]) ∧ flagOn Reg.HKC_OCD_CFG 16 (regs [(Reg.HKC_OCD_CFG, 0x10064)]) = true ∧
    fld Reg.HKC_OCD_CFG 15 0 (regs [(Reg.HKC_OCD_CFG, 0x10064)]) < 101 ∧
    101 - 1 ≤ fld Reg.HKC_OCD_CFG 15 0 (regs [(Reg.HKC_OCD_CFG, 0x10064)]) ∧
    (regs [(Reg.HKC_OCD_CFG, 0x10064)]).hkc.raised.contains 64 = false) ∧
  (Running (regs [] { State.reset with hkc := { urgent := [3] } }) ∧
    (regs [] { State.reset with hkc := { urgent := [3] } }).hkc.urgent = 3 :: [] ∧
    inReplay (regs [] { State.reset with hkc := { urgent := [3] } }) = false ∧ 4095 < 4096 ∧ 80 ≤ 80) := by
  with_reducible and_intros
  all_goals
    first
    | decide +kernel
    | (unfold Running; decide +kernel)

/-- Concrete inputs meet the hypotheses of SparesAndTests, clause by clause. -/
theorem witness_SparesAndTests :
  (Running .reset ∧ 31 % 256 < fld Reg.SPARE_THRESH 31 24 .reset) ∧
  (Running .reset ∧ ¬(32 % 256 < fld Reg.SPARE_THRESH 31 24 .reset)) ∧
  (Running .reset ∧ 31 % 256 < fld Reg.SPARE_THRESH 31 24 .reset) ∧
  (Running .reset ∧ ¬(32 % 256 < fld Reg.SPARE_THRESH 31 24 .reset)) ∧
  (Running .reset ∧ ((0 = 0 ∨ 2 < 0))) ∧
  (Running .reset ∧ ((3 = 0 ∨ 2 < 3))) ∧
  (Running (regs [] { State.reset with spare := { wires := [(165887, 15)] } }) ∧ 40 < 48 ∧ 1 < 4 ∧
    (regs [] { State.reset with spare := { wires := [(165887, 15)] } }).spare.window = windowOf (regs [] { State.reset with spare := { wires := [(165887, 15)] } }) ∧
    tabGet (fun _ => 0) (regs [] { State.reset with spare := { wires := [(165887, 15)] } }).spare.wires ((40 * 4 + 1) * 1024 + 1023) < max 1 (fld Reg.SPARE_THRESH 23 16 (regs [] { State.reset with spare := { wires := [(165887, 15)] } })) ∧
    max 1 (fld Reg.SPARE_THRESH 23 16 (regs [] { State.reset with spare := { wires := [(165887, 15)] } })) ≤ tabGet (fun _ => 0) (regs [] { State.reset with spare := { wires := [(165887, 15)] } }).spare.wires ((40 * 4 + 1) * 1024 + 1023) + 1 ∧
    (neighbour 40 1).isSome = true) ∧
  (Running (regs [] { State.reset with spare := { wires := [(165887, 14)] } }) ∧ 40 < 48 ∧ 1 < 4 ∧
    (regs [] { State.reset with spare := { wires := [(165887, 14)] } }).spare.window = windowOf (regs [] { State.reset with spare := { wires := [(165887, 14)] } }) ∧
    tabGet (fun _ => 0) (regs [] { State.reset with spare := { wires := [(165887, 14)] } }).spare.wires ((40 * 4 + 1) * 1024 + 1023) + 1 < max 1 (fld Reg.SPARE_THRESH 23 16 (regs [] { State.reset with spare := { wires := [(165887, 14)] } }))) ∧
  (Running (regs [] { State.reset with spare := { wires := [(165887, 16)] } }) ∧ 40 < 48 ∧ 1 < 4 ∧
    (regs [] { State.reset with spare := { wires := [(165887, 16)] } }).spare.window = windowOf (regs [] { State.reset with spare := { wires := [(165887, 16)] } }) ∧
    max 1 (fld Reg.SPARE_THRESH 23 16 (regs [] { State.reset with spare := { wires := [(165887, 16)] } })) ≤ tabGet (fun _ => 0) (regs [] { State.reset with spare := { wires := [(165887, 16)] } }).spare.wires ((40 * 4 + 1) * 1024 + 1023)) ∧
  (Running (regs [] { State.reset with spare := {  } }) ∧ 47 < 48 ∧ 1 < 4 ∧
    (regs [] { State.reset with spare := {  } }).spare.window = windowOf (regs [] { State.reset with spare := {  } }) ∧
    neighbour 47 1 = none) ∧
  (Running (regs [] { State.reset with spare := { marks := [⟨1, 511, 3, false, 1, 0, false, 0, false⟩] }, eng := [(511, { mode := .nap })] }) ∧
    ((∃ m ∈ (regs [] { State.reset with spare := { marks := [⟨1, 511, 3, false, 1, 0, false, 0, false⟩] }, eng := [(511, { mode := .nap })] }).spare.marks, m.kind = 1 ∧
    m.index = 511 ∧ m.stage = 1)) ∧
    (eng 511 (regs [] { State.reset with spare := { marks := [⟨1, 511, 3, false, 1, 0, false, 0, false⟩] }, eng := [(511, { mode := .nap })] })).mode ≠ .run ∧
    (slice (511 / 64) (regs [] { State.reset with spare := { marks := [⟨1, 511, 3, false, 1, 0, false, 0, false⟩] }, eng := [(511, { mode := .nap })] })).run (511 % 64) = none ∧
    (dom (engDom 511) (regs [] { State.reset with spare := { marks := [⟨1, 511, 3, false, 1, 0, false, 0, false⟩] }, eng := [(511, { mode := .nap })] })).entering = none ∧
    (dom (engDom 511) (regs [] { State.reset with spare := { marks := [⟨1, 511, 3, false, 1, 0, false, 0, false⟩] }, eng := [(511, { mode := .nap })] })).waking = false) ∧
  (Running (regs [] { State.reset with spare := { marks := [⟨1, 511, 3, false, 2, 0, false, 0, false⟩] }, eng := [(511, { mode := .nap })] }) ∧
    ((∃ m ∈ (regs [] { State.reset with spare := { marks := [⟨1, 511, 3, false, 2, 0, false, 0, false⟩] }, eng := [(511, { mode := .nap })] }).spare.marks, m.kind = 1 ∧
    m.index = 511 ∧ m.stage = 2))) ∧
  (Running .reset ∧ Open 0 Reg.SPARE_REQ false true (0x10000000 + b2n true * 0x8000000 + 511) .reset) ∧
  (Running .reset ∧ Open 0 Reg.SPARE_REQ false true (0x20000000 + 67) .reset) ∧
  (Running .reset ∧ Open 0 Reg.SPARE_REQ false true (0x30000000 + 31) .reset) ∧
  (Running .reset ∧ Open 0 Reg.SPARE_BIST false true (15 * 0x10000000 + 31 * 256 + 127) .reset) ∧
  (Running (regs [] { State.reset with spare := { bists := [((1 * 0x10000000 + 31 * 256 + 17), true)] } }) ∧
    (regs [] { State.reset with spare := { bists := [((1 * 0x10000000 + 31 * 256 + 17), true)] } }).spare.bists = ((1 * 0x10000000 + 31 * 256 + 17), true) :: [] ∧
    bitsOf (1 * 0x10000000 + 31 * 256 + 17) 31 28 = 1 ∧ bitsOf (1 * 0x10000000 + 31 * 256 + 17) 6 0 = 17) ∧
  (Running (regs [] { State.reset with spare := { bists := [((1 * 0x10000000 + 31 * 256 + 17), false)] } }) ∧
    (regs [] { State.reset with spare := { bists := [((1 * 0x10000000 + 31 * 256 + 17), false)] } }).spare.bists = ((1 * 0x10000000 + 31 * 256 + 17), false) :: [] ∧
    bitsOf (1 * 0x10000000 + 31 * 256 + 17) 31 28 = 1 ∧ bitsOf (1 * 0x10000000 + 31 * 256 + 17) 6 0 = 17) ∧
  (Running (regs [] { State.reset with spare := { bists := [((2 * 0x10000000 + 0 * 256 + 67), true)] } }) ∧
    (regs [] { State.reset with spare := { bists := [((2 * 0x10000000 + 0 * 256 + 67), true)] } }).spare.bists = ((2 * 0x10000000 + 0 * 256 + 67), true) :: [] ∧
    bitsOf (2 * 0x10000000 + 0 * 256 + 67) 31 28 = 2 ∧ bitsOf (2 * 0x10000000 + 0 * 256 + 67) 6 0 = 67) := by
  with_reducible and_intros
  all_goals
    first
    | decide +kernel
    | (unfold Running; decide +kernel)
    | exact open_of (by decide +kernel)

/-- Concrete inputs meet the hypotheses of RecorderAndReplay, clause by clause. -/
theorem witness_RecorderAndReplay :
  (Running (regs [(Reg.REC_STATUS, 16)]) ∧ Open 0 Reg.REC_CTRL false true (2 + b2n true) (regs [(Reg.REC_STATUS, 16)]) ∧
    inReplay (regs [(Reg.REC_STATUS, 16)]) = false ∧ recState (regs [(Reg.REC_STATUS, 16)]) = 1) ∧
  (Running (regs [(Reg.REC_STATUS, 32)]) ∧ Open 0 Reg.REC_CTRL false true (2 + b2n true) (regs [(Reg.REC_STATUS, 32)]) ∧
    inReplay (regs [(Reg.REC_STATUS, 32)]) = false ∧ recState (regs [(Reg.REC_STATUS, 32)]) = 2) ∧
  (Running (regs [(Reg.REC_STATUS, 81)]) ∧ Open 0 Reg.REC_CTRL false true (2 + b2n true) (regs [(Reg.REC_STATUS, 81)]) ∧
    inReplay (regs [(Reg.REC_STATUS, 81)]) = true ∧ recState (regs [(Reg.REC_STATUS, 81)]) = 5) ∧
  (Running (regs [(Reg.REC_STATUS, 16), (Reg.REC_CFG, 0x0), (Reg.REC_RING, 0), (Reg.REC_WR, 4294967295)]) ∧
    Open 0 Reg.REC_CTRL false true (2 + b2n true) (regs [(Reg.REC_STATUS, 16), (Reg.REC_CFG, 0x0), (Reg.REC_RING, 0), (Reg.REC_WR, 4294967295)]) ∧
    inReplay (regs [(Reg.REC_STATUS, 16), (Reg.REC_CFG, 0x0), (Reg.REC_RING, 0), (Reg.REC_WR, 4294967295)]) = false ∧
    recState (regs [(Reg.REC_STATUS, 16), (Reg.REC_CFG, 0x0), (Reg.REC_RING, 0), (Reg.REC_WR, 4294967295)]) = 1 ∧
    (regs [(Reg.REC_STATUS, 16), (Reg.REC_CFG, 0x0), (Reg.REC_RING, 0), (Reg.REC_WR, 4294967295)]).recorder.gapRecs = 0 ∧
    recBuffered (regs [(Reg.REC_STATUS, 16), (Reg.REC_CFG, 0x0), (Reg.REC_RING, 0), (Reg.REC_WR, 4294967295)]) + 64 ≤ 0x100000 ∧
    ringSize (regs [(Reg.REC_STATUS, 16), (Reg.REC_CFG, 0x0), (Reg.REC_RING, 0), (Reg.REC_WR, 4294967295)]) < (rd Reg.REC_WR (regs [(Reg.REC_STATUS, 16), (Reg.REC_CFG, 0x0), (Reg.REC_RING, 0), (Reg.REC_WR, 4294967295)])).toNat + 64) ∧
  (Running (regs [(Reg.REC_STATUS, 16), (Reg.REC_CFG, 0x80000000), (Reg.REC_RING, 0), (Reg.REC_WR, 4294967295)]) ∧
    Open 0 Reg.REC_CTRL false true (2 + b2n true) (regs [(Reg.REC_STATUS, 16), (Reg.REC_CFG, 0x80000000), (Reg.REC_RING, 0), (Reg.REC_WR, 4294967295)]) ∧
    inReplay (regs [(Reg.REC_STATUS, 16), (Reg.REC_CFG, 0x80000000), (Reg.REC_RING, 0), (Reg.REC_WR, 4294967295)]) = false ∧
    recState (regs [(Reg.REC_STATUS, 16), (Reg.REC_CFG, 0x80000000), (Reg.REC_RING, 0), (Reg.REC_WR, 4294967295)]) = 1 ∧
    (regs [(Reg.REC_STATUS, 16), (Reg.REC_CFG, 0x80000000), (Reg.REC_RING, 0), (Reg.REC_WR, 4294967295)]).recorder.gapRecs = 0 ∧
    recBuffered (regs [(Reg.REC_STATUS, 16), (Reg.REC_CFG, 0x80000000), (Reg.REC_RING, 0), (Reg.REC_WR, 4294967295)]) + 64 ≤ 0x100000 ∧
    ringSize (regs [(Reg.REC_STATUS, 16), (Reg.REC_CFG, 0x80000000), (Reg.REC_RING, 0), (Reg.REC_WR, 4294967295)]) < (rd Reg.REC_WR (regs [(Reg.REC_STATUS, 16), (Reg.REC_CFG, 0x80000000), (Reg.REC_RING, 0), (Reg.REC_WR, 4294967295)])).toNat + 64 ∧
    flagOn Reg.REC_CFG 31 (regs [(Reg.REC_STATUS, 16), (Reg.REC_CFG, 0x80000000), (Reg.REC_RING, 0), (Reg.REC_WR, 4294967295)]) = true) ∧
  (Running (regs [(Reg.REC_STATUS, 16), (Reg.REC_CFG, 0x0), (Reg.REC_RING, 281474976710656), (Reg.REC_WR, 0)]) ∧
    Open 0 Reg.REC_CTRL false true (2 + b2n true) (regs [(Reg.REC_STATUS, 16), (Reg.REC_CFG, 0x0), (Reg.REC_RING, 281474976710656), (Reg.REC_WR, 0)]) ∧
    inReplay (regs [(Reg.REC_STATUS, 16), (Reg.REC_CFG, 0x0), (Reg.REC_RING, 281474976710656), (Reg.REC_WR, 0)]) = false ∧
    recState (regs [(Reg.REC_STATUS, 16), (Reg.REC_CFG, 0x0), (Reg.REC_RING, 281474976710656), (Reg.REC_WR, 0)]) = 1 ∧
    (regs [(Reg.REC_STATUS, 16), (Reg.REC_CFG, 0x0), (Reg.REC_RING, 281474976710656), (Reg.REC_WR, 0)]).recorder.gapRecs = 0 ∧
    recBuffered (regs [(Reg.REC_STATUS, 16), (Reg.REC_CFG, 0x0), (Reg.REC_RING, 281474976710656), (Reg.REC_WR, 0)]) + 64 ≤ 0x100000 ∧
    (rd Reg.REC_WR (regs [(Reg.REC_STATUS, 16), (Reg.REC_CFG, 0x0), (Reg.REC_RING, 281474976710656), (Reg.REC_WR, 0)])).toNat + 64 ≤ ringSize (regs [(Reg.REC_STATUS, 16), (Reg.REC_CFG, 0x0), (Reg.REC_RING, 281474976710656), (Reg.REC_WR, 0)])) ∧
  (Running (regs [(Reg.REC_STATUS, 0x51), (Reg.ROUND_STATUS, 2)] { State.reset with round := { endGrid := 1 }, recorder := { repBase := 0x100000000, repSize := 0x100000 }, mem := { cells := [(0x100000010, 192), (0x100000082, 1), (0x100000083, 4)] } }) ∧
    inReplay (regs [(Reg.REC_STATUS, 0x51), (Reg.ROUND_STATUS, 2)] { State.reset with round := { endGrid := 1 }, recorder := { repBase := 0x100000000, repSize := 0x100000 }, mem := { cells := [(0x100000010, 192), (0x100000082, 1), (0x100000083, 4)] } }) = true ∧
    recState (regs [(Reg.REC_STATUS, 0x51), (Reg.ROUND_STATUS, 2)] { State.reset with round := { endGrid := 1 }, recorder := { repBase := 0x100000000, repSize := 0x100000 }, mem := { cells := [(0x100000010, 192), (0x100000082, 1), (0x100000083, 4)] } }) = 5 ∧
    roundsRun (regs [(Reg.REC_STATUS, 0x51), (Reg.ROUND_STATUS, 2)] { State.reset with round := { endGrid := 1 }, recorder := { repBase := 0x100000000, repSize := 0x100000 }, mem := { cells := [(0x100000010, 192), (0x100000082, 1), (0x100000083, 4)] } }) = true ∧
    (recNext (regs [(Reg.REC_STATUS, 0x51), (Reg.ROUND_STATUS, 2)] { State.reset with round := { endGrid := 1 }, recorder := { repBase := 0x100000000, repSize := 0x100000 }, mem := { cells := [(0x100000010, 192), (0x100000082, 1), (0x100000083, 4)] } })).recorder.repPos < recEnd (regs [(Reg.REC_STATUS, 0x51), (Reg.ROUND_STATUS, 2)] { State.reset with round := { endGrid := 1 }, recorder := { repBase := 0x100000000, repSize := 0x100000 }, mem := { cells := [(0x100000010, 192), (0x100000082, 1), (0x100000083, 4)] } }) ∧
    (recAt (recNext (regs [(Reg.REC_STATUS, 0x51), (Reg.ROUND_STATUS, 2)] { State.reset with round := { endGrid := 1 }, recorder := { repBase := 0x100000000, repSize := 0x100000 }, mem := { cells := [(0x100000010, 192), (0x100000082, 1), (0x100000083, 4)] } })).recorder.repPos (recNext (regs [(Reg.REC_STATUS, 0x51), (Reg.ROUND_STATUS, 2)] { State.reset with round := { endGrid := 1 }, recorder := { repBase := 0x100000000, repSize := 0x100000 }, mem := { cells := [(0x100000010, 192), (0x100000082, 1), (0x100000083, 4)] } }))).2.2.1 = roundNow (regs [(Reg.REC_STATUS, 0x51), (Reg.ROUND_STATUS, 2)] { State.reset with round := { endGrid := 1 }, recorder := { repBase := 0x100000000, repSize := 0x100000 }, mem := { cells := [(0x100000010, 192), (0x100000082, 1), (0x100000083, 4)] } }) % 4294967296 ∧
    ¬((recAt (recNext (regs [(Reg.REC_STATUS, 0x51), (Reg.ROUND_STATUS, 2)] { State.reset with round := { endGrid := 1 }, recorder := { repBase := 0x100000000, repSize := 0x100000 }, mem := { cells := [(0x100000010, 192), (0x100000082, 1), (0x100000083, 4)] } })).recorder.repPos (recNext (regs [(Reg.REC_STATUS, 0x51), (Reg.ROUND_STATUS, 2)] { State.reset with round := { endGrid := 1 }, recorder := { repBase := 0x100000000, repSize := 0x100000 }, mem := { cells := [(0x100000010, 192), (0x100000082, 1), (0x100000083, 4)] } }))).1 = 4 ∧
    (recAt (recNext (regs [(Reg.REC_STATUS, 0x51), (Reg.ROUND_STATUS, 2)] { State.reset with round := { endGrid := 1 }, recorder := { repBase := 0x100000000, repSize := 0x100000 }, mem := { cells := [(0x100000010, 192), (0x100000082, 1), (0x100000083, 4)] } })).recorder.repPos (recNext (regs [(Reg.REC_STATUS, 0x51), (Reg.ROUND_STATUS, 2)] { State.reset with round := { endGrid := 1 }, recorder := { repBase := 0x100000000, repSize := 0x100000 }, mem := { cells := [(0x100000010, 192), (0x100000082, 1), (0x100000083, 4)] } }))).2.1 = 0) ∧
    (recAt (recNext (regs [(Reg.REC_STATUS, 0x51), (Reg.ROUND_STATUS, 2)] { State.reset with round := { endGrid := 1 }, recorder := { repBase := 0x100000000, repSize := 0x100000 }, mem := { cells := [(0x100000010, 192), (0x100000082, 1), (0x100000083, 4)] } })).recorder.repPos (recNext (regs [(Reg.REC_STATUS, 0x51), (Reg.ROUND_STATUS, 2)] { State.reset with round := { endGrid := 1 }, recorder := { repBase := 0x100000000, repSize := 0x100000 }, mem := { cells := [(0x100000010, 192), (0x100000082, 1), (0x100000083, 4)] } }))).1 = 4 ∧
    1 ≤ (recAt (recNext (regs [(Reg.REC_STATUS, 0x51), (Reg.ROUND_STATUS, 2)] { State.reset with round := { endGrid := 1 }, recorder := { repBase := 0x100000000, repSize := 0x100000 }, mem := { cells := [(0x100000010, 192), (0x100000082, 1), (0x100000083, 4)] } })).recorder.repPos (recNext (regs [(Reg.REC_STATUS, 0x51), (Reg.ROUND_STATUS, 2)] { State.reset with round := { endGrid := 1 }, recorder := { repBase := 0x100000000, repSize := 0x100000 }, mem := { cells := [(0x100000010, 192), (0x100000082, 1), (0x100000083, 4)] } }))).2.1 ∧
    (recAt (recNext (regs [(Reg.REC_STATUS, 0x51), (Reg.ROUND_STATUS, 2)] { State.reset with round := { endGrid := 1 }, recorder := { repBase := 0x100000000, repSize := 0x100000 }, mem := { cells := [(0x100000010, 192), (0x100000082, 1), (0x100000083, 4)] } })).recorder.repPos (recNext (regs [(Reg.REC_STATUS, 0x51), (Reg.ROUND_STATUS, 2)] { State.reset with round := { endGrid := 1 }, recorder := { repBase := 0x100000000, repSize := 0x100000 }, mem := { cells := [(0x100000010, 192), (0x100000082, 1), (0x100000083, 4)] } }))).2.1 ≤ 2 ∧
    tabGet (fun _ => 0) (regs [(Reg.REC_STATUS, 0x51), (Reg.ROUND_STATUS, 2)] { State.reset with round := { endGrid := 1 }, recorder := { repBase := 0x100000000, repSize := 0x100000 }, mem := { cells := [(0x100000010, 192), (0x100000082, 1), (0x100000083, 4)] } }).time.edges ((recAt (recNext (regs [(Reg.REC_STATUS, 0x51), (Reg.ROUND_STATUS, 2)] { State.reset with round := { endGrid := 1 }, recorder := { repBase := 0x100000000, repSize := 0x100000 }, mem := { cells := [(0x100000010, 192), (0x100000082, 1), (0x100000083, 4)] } })).recorder.repPos (recNext (regs [(Reg.REC_STATUS, 0x51), (Reg.ROUND_STATUS, 2)] { State.reset with round := { endGrid := 1 }, recorder := { repBase := 0x100000000, repSize := 0x100000 }, mem := { cells := [(0x100000010, 192), (0x100000082, 1), (0x100000083, 4)] } }))).2.1 - 1) = 0 ∧
    room ((recAt (recNext (regs [(Reg.REC_STATUS, 0x51), (Reg.ROUND_STATUS, 2)] { State.reset with round := { endGrid := 1 }, recorder := { repBase := 0x100000000, repSize := 0x100000 }, mem := { cells := [(0x100000010, 192), (0x100000082, 1), (0x100000083, 4)] } })).recorder.repPos (recNext (regs [(Reg.REC_STATUS, 0x51), (Reg.ROUND_STATUS, 2)] { State.reset with round := { endGrid := 1 }, recorder := { repBase := 0x100000000, repSize := 0x100000 }, mem := { cells := [(0x100000010, 192), (0x100000082, 1), (0x100000083, 4)] } }))).2.2.2.1 - (regs [(Reg.REC_STATUS, 0x51), (Reg.ROUND_STATUS, 2)] { State.reset with round := { endGrid := 1 }, recorder := { repBase := 0x100000000, repSize := 0x100000 }, mem := { cells := [(0x100000010, 192), (0x100000082, 1), (0x100000083, 4)] } }).round.sinceC0) (modRec (fun x => { x with repPos := recAfter (recNext (regs [(Reg.REC_STATUS, 0x51), (Reg.ROUND_STATUS, 2)] { State.reset with round := { endGrid := 1 }, recorder := { repBase := 0x100000000, repSize := 0x100000 }, mem := { cells := [(0x100000010, 192), (0x100000082, 1), (0x100000083, 4)] } })).recorder.repPos (recNext (regs [(Reg.REC_STATUS, 0x51), (Reg.ROUND_STATUS, 2)] { State.reset with round := { endGrid := 1 }, recorder := { repBase := 0x100000000, repSize := 0x100000 }, mem := { cells := [(0x100000010, 192), (0x100000082, 1), (0x100000083, 4)] } })) }) (recNext (regs [(Reg.REC_STATUS, 0x51), (Reg.ROUND_STATUS, 2)] { State.reset with round := { endGrid := 1 }, recorder := { repBase := 0x100000000, repSize := 0x100000 }, mem := { cells := [(0x100000010, 192), (0x100000082, 1), (0x100000083, 4)] } }))) = true) ∧
  (Running (regs [(Reg.REC_STATUS, 0x51), (Reg.ROUND_STATUS, 2)] { State.reset with round := { endGrid := 1 }, recorder := { repBase := 0x100000000, repSize := 0x100000 }, mem := { cells := [(0x100000010, 192), (0x100000083, 4)] } }) ∧
    inReplay (regs [(Reg.REC_STATUS, 0x51), (Reg.ROUND_STATUS, 2)] { State.reset with round := { endGrid := 1 }, recorder := { repBase := 0x100000000, repSize := 0x100000 }, mem := { cells := [(0x100000010, 192), (0x100000083, 4)] } }) = true ∧
    recState (regs [(Reg.REC_STATUS, 0x51), (Reg.ROUND_STATUS, 2)] { State.reset with round := { endGrid := 1 }, recorder := { repBase := 0x100000000, repSize := 0x100000 }, mem := { cells := [(0x100000010, 192), (0x100000083, 4)] } }) = 5 ∧
    roundsRun (regs [(Reg.REC_STATUS, 0x51), (Reg.ROUND_STATUS, 2)] { State.reset with round := { endGrid := 1 }, recorder := { repBase := 0x100000000, repSize := 0x100000 }, mem := { cells := [(0x100000010, 192), (0x100000083, 4)] } }) = true ∧
    (recAt (recNext (regs [(Reg.REC_STATUS, 0x51), (Reg.ROUND_STATUS, 2)] { State.reset with round := { endGrid := 1 }, recorder := { repBase := 0x100000000, repSize := 0x100000 }, mem := { cells := [(0x100000010, 192), (0x100000083, 4)] } })).recorder.repPos (recNext (regs [(Reg.REC_STATUS, 0x51), (Reg.ROUND_STATUS, 2)] { State.reset with round := { endGrid := 1 }, recorder := { repBase := 0x100000000, repSize := 0x100000 }, mem := { cells := [(0x100000010, 192), (0x100000083, 4)] } }))).1 = 4 ∧
    (recAt (recNext (regs [(Reg.REC_STATUS, 0x51), (Reg.ROUND_STATUS, 2)] { State.reset with round := { endGrid := 1 }, recorder := { repBase := 0x100000000, repSize := 0x100000 }, mem := { cells := [(0x100000010, 192), (0x100000083, 4)] } })).recorder.repPos (recNext (regs [(Reg.REC_STATUS, 0x51), (Reg.ROUND_STATUS, 2)] { State.reset with round := { endGrid := 1 }, recorder := { repBase := 0x100000000, repSize := 0x100000 }, mem := { cells := [(0x100000010, 192), (0x100000083, 4)] } }))).2.1 = 0) ∧
  (Running (regs [(Reg.REC_STATUS, 0x51), (Reg.ROUND_STATUS, 2)] { State.reset with round := { endGrid := 1 }, recorder := { repBase := 0x100000000, repSize := 0x100000 }, mem := { cells := [(0x100000010, 192), (0x100000083, 1), (0x100000084, 1)] } }) ∧
    inReplay (regs [(Reg.REC_STATUS, 0x51), (Reg.ROUND_STATUS, 2)] { State.reset with round := { endGrid := 1 }, recorder := { repBase := 0x100000000, repSize := 0x100000 }, mem := { cells := [(0x100000010, 192), (0x100000083, 1), (0x100000084, 1)] } }) = true ∧
    recState (regs [(Reg.REC_STATUS, 0x51), (Reg.ROUND_STATUS, 2)] { State.reset with round := { endGrid := 1 }, recorder := { repBase := 0x100000000, repSize := 0x100000 }, mem := { cells := [(0x100000010, 192), (0x100000083, 1), (0x100000084, 1)] } }) = 5 ∧
    roundsRun (regs [(Reg.REC_STATUS, 0x51), (Reg.ROUND_STATUS, 2)] { State.reset with round := { endGrid := 1 }, recorder := { repBase := 0x100000000, repSize := 0x100000 }, mem := { cells := [(0x100000010, 192), (0x100000083, 1), (0x100000084, 1)] } }) = true ∧
    (recAt (recNext (regs [(Reg.REC_STATUS, 0x51), (Reg.ROUND_STATUS, 2)] { State.reset with round := { endGrid := 1 }, recorder := { repBase := 0x100000000, repSize := 0x100000 }, mem := { cells := [(0x100000010, 192), (0x100000083, 1), (0x100000084, 1)] } })).recorder.repPos (recNext (regs [(Reg.REC_STATUS, 0x51), (Reg.ROUND_STATUS, 2)] { State.reset with round := { endGrid := 1 }, recorder := { repBase := 0x100000000, repSize := 0x100000 }, mem := { cells := [(0x100000010, 192), (0x100000083, 1), (0x100000084, 1)] } }))).2.2.1 ≠ roundNow (regs [(Reg.REC_STATUS, 0x51), (Reg.ROUND_STATUS, 2)] { State.reset with round := { endGrid := 1 }, recorder := { repBase := 0x100000000, repSize := 0x100000 }, mem := { cells := [(0x100000010, 192), (0x100000083, 1), (0x100000084, 1)] } }) % 4294967296) ∧
  (Running (regs [(Reg.REC_STATUS, 0x51), (Reg.ROUND_STATUS, 2)] { State.reset with round := { endGrid := 1 }, recorder := { repBase := 0x100000000, repSize := 0x100000 }, mem := { cells := [(0x100000010, 128), (0x100000082, 1), (0x100000083, 4)] } }) ∧
    inReplay (regs [(Reg.REC_STATUS, 0x51), (Reg.ROUND_STATUS, 2)] { State.reset with round := { endGrid := 1 }, recorder := { repBase := 0x100000000, repSize := 0x100000 }, mem := { cells := [(0x100000010, 128), (0x100000082, 1), (0x100000083, 4)] } }) = true ∧
    recState (regs [(Reg.REC_STATUS, 0x51), (Reg.ROUND_STATUS, 2)] { State.reset with round := { endGrid := 1 }, recorder := { repBase := 0x100000000, repSize := 0x100000 }, mem := { cells := [(0x100000010, 128), (0x100000082, 1), (0x100000083, 4)] } }) = 5 ∧
    roundsRun (regs [(Reg.REC_STATUS, 0x51), (Reg.ROUND_STATUS, 2)] { State.reset with round := { endGrid := 1 }, recorder := { repBase := 0x100000000, repSize := 0x100000 }, mem := { cells := [(0x100000010, 128), (0x100000082, 1), (0x100000083, 4)] } }) = true ∧
    recEnd (regs [(Reg.REC_STATUS, 0x51), (Reg.ROUND_STATUS, 2)] { State.reset with round := { endGrid := 1 }, recorder := { repBase := 0x100000000, repSize := 0x100000 }, mem := { cells := [(0x100000010, 128), (0x100000082, 1), (0x100000083, 4)] } }) ≤ (recNext (regs [(Reg.REC_STATUS, 0x51), (Reg.ROUND_STATUS, 2)] { State.reset with round := { endGrid := 1 }, recorder := { repBase := 0x100000000, repSize := 0x100000 }, mem := { cells := [(0x100000010, 128), (0x100000082, 1), (0x100000083, 4)] } })).recorder.repPos) := by
  with_reducible and_intros
  all_goals
    first
    | decide +kernel
    | (unfold Running; decide +kernel)
    | exact open_of (by decide +kernel)

/-- Concrete inputs meet the hypotheses of RoundsAndCommits, clause by clause. -/
theorem witness_RoundsAndCommits :
  (Running (regs [(Reg.ROUND_STATUS, 0), (Reg.TIME_STATUS, 0)]) ∧
    (regs [(Reg.ROUND_STATUS, 0), (Reg.TIME_STATUS, 0)]).csr.stalled.length + 1 = 1 ∧
    boundaryDue (regs [(Reg.ROUND_STATUS, 0), (Reg.TIME_STATUS, 0)]) = none) ∧
  (Running (regs [(Reg.ROUND_STATUS, 2), (Reg.TIME_STATUS, 0)]) ∧
    (regs [(Reg.ROUND_STATUS, 2), (Reg.TIME_STATUS, 0)]).csr.stalled.length + 1 = 1 ∧
    (boundaryDue (regs [(Reg.ROUND_STATUS, 2), (Reg.TIME_STATUS, 0)])).isSome = true ∧
    Running (windowCloses 1 (regs [(Reg.ROUND_STATUS, 2), (Reg.TIME_STATUS, 0)])) ∧
    inReplay (windowCloses 1 (regs [(Reg.ROUND_STATUS, 2), (Reg.TIME_STATUS, 0)])) = false ∧
    (windowCloses 1 (regs [(Reg.ROUND_STATUS, 2), (Reg.TIME_STATUS, 0)])).pwr.eject ≠ 2 ∧
    roundState (windowCloses 1 (regs [(Reg.ROUND_STATUS, 2), (Reg.TIME_STATUS, 0)])) = 2 ∧
    fld Reg.TIME_STATUS 0 0 (windowCloses 1 (regs [(Reg.ROUND_STATUS, 2), (Reg.TIME_STATUS, 0)])) = 0) ∧
  (Running (regs [(Reg.ROUND_STATUS, 3), (Reg.TIME_STATUS, 0)]) ∧
    (regs [(Reg.ROUND_STATUS, 3), (Reg.TIME_STATUS, 0)]).csr.stalled.length + 1 = 1 ∧
    (boundaryDue (regs [(Reg.ROUND_STATUS, 3), (Reg.TIME_STATUS, 0)])).isSome = true ∧
    Running (windowCloses 1 (regs [(Reg.ROUND_STATUS, 3), (Reg.TIME_STATUS, 0)])) ∧
    inReplay (windowCloses 1 (regs [(Reg.ROUND_STATUS, 3), (Reg.TIME_STATUS, 0)])) = false ∧
    (windowCloses 1 (regs [(Reg.ROUND_STATUS, 3), (Reg.TIME_STATUS, 0)])).pwr.eject ≠ 2 ∧
    roundState (windowCloses 1 (regs [(Reg.ROUND_STATUS, 3), (Reg.TIME_STATUS, 0)])) = 3 ∧
    fld Reg.TIME_STATUS 0 0 (windowCloses 1 (regs [(Reg.ROUND_STATUS, 3), (Reg.TIME_STATUS, 0)])) = 0) ∧
  (Running (regs [(Reg.ROUND_STATUS, 4), (Reg.TIME_STATUS, 0)]) ∧
    (regs [(Reg.ROUND_STATUS, 4), (Reg.TIME_STATUS, 0)]).csr.stalled.length + 1 = 1 ∧
    (boundaryDue (regs [(Reg.ROUND_STATUS, 4), (Reg.TIME_STATUS, 0)])).isSome = true ∧
    Running (windowCloses 1 (regs [(Reg.ROUND_STATUS, 4), (Reg.TIME_STATUS, 0)])) ∧
    inReplay (windowCloses 1 (regs [(Reg.ROUND_STATUS, 4), (Reg.TIME_STATUS, 0)])) = false ∧
    (windowCloses 1 (regs [(Reg.ROUND_STATUS, 4), (Reg.TIME_STATUS, 0)])).pwr.eject ≠ 2 ∧
    roundState (windowCloses 1 (regs [(Reg.ROUND_STATUS, 4), (Reg.TIME_STATUS, 0)])) = 4 ∧
    fld Reg.TIME_STATUS 0 0 (windowCloses 1 (regs [(Reg.ROUND_STATUS, 4), (Reg.TIME_STATUS, 0)])) = 0) ∧
  (Running (regs [(Reg.ROUND_STATUS, 5), (Reg.TIME_STATUS, 0)]) ∧
    (regs [(Reg.ROUND_STATUS, 5), (Reg.TIME_STATUS, 0)]).csr.stalled.length + 1 = 1 ∧
    (boundaryDue (regs [(Reg.ROUND_STATUS, 5), (Reg.TIME_STATUS, 0)])).isSome = true ∧
    Running (windowCloses 1 (regs [(Reg.ROUND_STATUS, 5), (Reg.TIME_STATUS, 0)])) ∧
    inReplay (windowCloses 1 (regs [(Reg.ROUND_STATUS, 5), (Reg.TIME_STATUS, 0)])) = false ∧
    (windowCloses 1 (regs [(Reg.ROUND_STATUS, 5), (Reg.TIME_STATUS, 0)])).pwr.eject ≠ 2 ∧
    roundState (windowCloses 1 (regs [(Reg.ROUND_STATUS, 5), (Reg.TIME_STATUS, 0)])) = 5 ∧
    fld Reg.TIME_STATUS 0 0 (windowCloses 1 (regs [(Reg.ROUND_STATUS, 5), (Reg.TIME_STATUS, 0)])) = 0) ∧
  (Running (regs [(Reg.ROUND_STATUS, 1), (Reg.TIME_STATUS, 0)]) ∧
    (regs [(Reg.ROUND_STATUS, 1), (Reg.TIME_STATUS, 0)]).csr.stalled.length + 1 = 1 ∧
    boundaryDue (regs [(Reg.ROUND_STATUS, 1), (Reg.TIME_STATUS, 0)]) = none) ∧
  (Running (regs [(Reg.ROUND_STATUS, 1), (Reg.TIME_STATUS, 1)]) ∧
    (regs [(Reg.ROUND_STATUS, 1), (Reg.TIME_STATUS, 1)]).csr.stalled.length + 1 = 1 ∧
    (boundaryDue (regs [(Reg.ROUND_STATUS, 1), (Reg.TIME_STATUS, 1)])).isSome = true ∧
    Running (windowCloses 1 (regs [(Reg.ROUND_STATUS, 1), (Reg.TIME_STATUS, 1)])) ∧
    inReplay (windowCloses 1 (regs [(Reg.ROUND_STATUS, 1), (Reg.TIME_STATUS, 1)])) = false ∧
    (windowCloses 1 (regs [(Reg.ROUND_STATUS, 1), (Reg.TIME_STATUS, 1)])).pwr.eject ≠ 2 ∧
    roundState (windowCloses 1 (regs [(Reg.ROUND_STATUS, 1), (Reg.TIME_STATUS, 1)])) = 1 ∧
    fld Reg.TIME_STATUS 0 0 (windowCloses 1 (regs [(Reg.ROUND_STATUS, 1), (Reg.TIME_STATUS, 1)])) = 1) ∧
  (Running (regs [(Reg.ROUND_STATUS, 1), (Reg.TIME_STATUS, 1), (Reg.ROUND_CTRL, 1)] { State.reset with csr := { stalled := [(⟨0, Reg.ROUND_CTRL, false, true, 0, false, none⟩ : Access)] }, round := { sinceC0 := 9 } }) ∧
    (boundaryDue (regs [(Reg.ROUND_STATUS, 1), (Reg.TIME_STATUS, 1), (Reg.ROUND_CTRL, 1)] { State.reset with csr := { stalled := [(⟨0, Reg.ROUND_CTRL, false, true, 0, false, none⟩ : Access)] }, round := { sinceC0 := 9 } })).isSome = true ∧
    boundaryDue (windowCloses ((regs [(Reg.ROUND_STATUS, 1), (Reg.TIME_STATUS, 1), (Reg.ROUND_CTRL, 1)] { State.reset with csr := { stalled := [(⟨0, Reg.ROUND_CTRL, false, true, 0, false, none⟩ : Access)] }, round := { sinceC0 := 9 } }).csr.stalled.length + 1) (regs [(Reg.ROUND_STATUS, 1), (Reg.TIME_STATUS, 1), (Reg.ROUND_CTRL, 1)] { State.reset with csr := { stalled := [(⟨0, Reg.ROUND_CTRL, false, true, 0, false, none⟩ : Access)] }, round := { sinceC0 := 9 } })) = none) ∧
  (State.reset.csr.stalled = []) ∧
  (Running (regs [(Reg.ROUND_STATUS, 2)] { State.reset with round := { overlong := true, endGrid := 9 } }) ∧
    (regs [(Reg.ROUND_STATUS, 2)] { State.reset with round := { overlong := true, endGrid := 9 } }).round.overlong = true ∧
    (regs [(Reg.ROUND_STATUS, 2)] { State.reset with round := { overlong := true, endGrid := 9 } }).round.beyondP = false ∧
    roundsRun (regs [(Reg.ROUND_STATUS, 2)] { State.reset with round := { overlong := true, endGrid := 9 } }) = true ∧
    reaches ((regs [(Reg.ROUND_STATUS, 2)] { State.reset with round := { overlong := true, endGrid := 9 } }).round.startTod + period (regs [(Reg.ROUND_STATUS, 2)] { State.reset with round := { overlong := true, endGrid := 9 } })) (regs [(Reg.ROUND_STATUS, 2)] { State.reset with round := { overlong := true, endGrid := 9 } }) = true) ∧
  (Running (regs [(Reg.ROUND_STATUS, 2)] { State.reset with round := { overlong := true, endGrid := 0 } }) ∧
    (regs [(Reg.ROUND_STATUS, 2)] { State.reset with round := { overlong := true, endGrid := 0 } }).round.overlong = true ∧
    (regs [(Reg.ROUND_STATUS, 2)] { State.reset with round := { overlong := true, endGrid := 0 } }).round.beyondP = false ∧
    roundsRun (regs [(Reg.ROUND_STATUS, 2)] { State.reset with round := { overlong := true, endGrid := 0 } }) = true ∧
    reaches ((regs [(Reg.ROUND_STATUS, 2)] { State.reset with round := { overlong := true, endGrid := 0 } }).round.startTod + period (regs [(Reg.ROUND_STATUS, 2)] { State.reset with round := { overlong := true, endGrid := 0 } })) (regs [(Reg.ROUND_STATUS, 2)] { State.reset with round := { overlong := true, endGrid := 0 } }) = false) ∧
  (Running (regs [(Reg.ROUND_STATUS, 0)]) ∧ inReplay (regs [(Reg.ROUND_STATUS, 0)]) = false ∧
    Open 0 Reg.ROUND_CTRL false true 1 (regs [(Reg.ROUND_STATUS, 0)]) ∧ Open 0 Reg.ROUND_CTRL false true 0 (regs [(Reg.ROUND_STATUS, 0)]) ∧
    Open 0 Reg.ROUND_CTRL false true 2 (regs [(Reg.ROUND_STATUS, 0)]) ∧ roundState (regs [(Reg.ROUND_STATUS, 0)]) = 0) ∧
  (Running (regs [(Reg.ROUND_STATUS, 1)]) ∧ inReplay (regs [(Reg.ROUND_STATUS, 1)]) = false ∧
    Open 0 Reg.ROUND_CTRL false true 1 (regs [(Reg.ROUND_STATUS, 1)]) ∧ Open 0 Reg.ROUND_CTRL false true 0 (regs [(Reg.ROUND_STATUS, 1)]) ∧
    Open 0 Reg.ROUND_CTRL false true 2 (regs [(Reg.ROUND_STATUS, 1)]) ∧ roundState (regs [(Reg.ROUND_STATUS, 1)]) = 1) ∧
  (Running (regs [(Reg.ROUND_STATUS, 2)]) ∧ inReplay (regs [(Reg.ROUND_STATUS, 2)]) = false ∧
    Open 0 Reg.ROUND_CTRL false true 1 (regs [(Reg.ROUND_STATUS, 2)]) ∧ Open 0 Reg.ROUND_CTRL false true 0 (regs [(Reg.ROUND_STATUS, 2)]) ∧
    Open 0 Reg.ROUND_CTRL false true 2 (regs [(Reg.ROUND_STATUS, 2)]) ∧ roundState (regs [(Reg.ROUND_STATUS, 2)]) = 2) ∧
  (Running (regs [(Reg.ROUND_STATUS, 3)]) ∧ inReplay (regs [(Reg.ROUND_STATUS, 3)]) = false ∧
    Open 0 Reg.ROUND_CTRL false true 1 (regs [(Reg.ROUND_STATUS, 3)]) ∧ Open 0 Reg.ROUND_CTRL false true 0 (regs [(Reg.ROUND_STATUS, 3)]) ∧
    Open 0 Reg.ROUND_CTRL false true 2 (regs [(Reg.ROUND_STATUS, 3)]) ∧ roundState (regs [(Reg.ROUND_STATUS, 3)]) = 3) ∧
  (Running (regs [(Reg.ROUND_STATUS, 4)]) ∧ inReplay (regs [(Reg.ROUND_STATUS, 4)]) = false ∧
    Open 0 Reg.ROUND_CTRL false true 1 (regs [(Reg.ROUND_STATUS, 4)]) ∧ Open 0 Reg.ROUND_CTRL false true 0 (regs [(Reg.ROUND_STATUS, 4)]) ∧
    Open 0 Reg.ROUND_CTRL false true 2 (regs [(Reg.ROUND_STATUS, 4)]) ∧ roundState (regs [(Reg.ROUND_STATUS, 4)]) = 4) ∧
  (Running (regs [(Reg.ROUND_STATUS, 5)]) ∧ inReplay (regs [(Reg.ROUND_STATUS, 5)]) = false ∧
    Open 0 Reg.ROUND_CTRL false true 1 (regs [(Reg.ROUND_STATUS, 5)]) ∧ Open 0 Reg.ROUND_CTRL false true 0 (regs [(Reg.ROUND_STATUS, 5)]) ∧
    Open 0 Reg.ROUND_CTRL false true 2 (regs [(Reg.ROUND_STATUS, 5)]) ∧ roundState (regs [(Reg.ROUND_STATUS, 5)]) = 5) ∧
  (Running .reset ∧ Open 0 Reg.SHADOW_STAMP true false 0 .reset) ∧
  (Running (regs [(Reg.ROUND_STATUS, 2)] { State.reset with sec := { strap := false } }) ∧
    Open 0 Reg.DEV_CTRL false true (b2n true) (regs [(Reg.ROUND_STATUS, 2)] { State.reset with sec := { strap := false } }) ∧
    roundState (regs [(Reg.ROUND_STATUS, 2)] { State.reset with sec := { strap := false } }) = 2 ∧
    (regs [(Reg.ROUND_STATUS, 2)] { State.reset with sec := { strap := false } }).sec.strap = false) ∧
  (Running (regs [(Reg.ROUND_STATUS, 0)] { State.reset with sec := { strap := true } }) ∧
    Open 0 Reg.DEV_CTRL false true (b2n false) (regs [(Reg.ROUND_STATUS, 0)] { State.reset with sec := { strap := true } }) ∧
    roundState (regs [(Reg.ROUND_STATUS, 0)] { State.reset with sec := { strap := true } }) = 0 ∧
    (regs [(Reg.ROUND_STATUS, 0)] { State.reset with sec := { strap := true } }).sec.strap = true) ∧
  (Running (regs [(Reg.ROUND_STATUS, 0)] { State.reset with sec := { strap := true } }) ∧
    Open 0 Reg.DEV_CTRL false true (b2n true) (regs [(Reg.ROUND_STATUS, 0)] { State.reset with sec := { strap := true } }) ∧
    roundState (regs [(Reg.ROUND_STATUS, 0)] { State.reset with sec := { strap := true } }) = 0 ∧
    (regs [(Reg.ROUND_STATUS, 0)] { State.reset with sec := { strap := true } }).sec.strap = true) ∧
  (Running (regs [(Reg.ROUND_STATUS, 0)] { State.reset with sec := { strap := false } }) ∧
    Open 0 Reg.DEV_CTRL false true (b2n false) (regs [(Reg.ROUND_STATUS, 0)] { State.reset with sec := { strap := false } }) ∧
    roundState (regs [(Reg.ROUND_STATUS, 0)] { State.reset with sec := { strap := false } }) = 0 ∧
    (regs [(Reg.ROUND_STATUS, 0)] { State.reset with sec := { strap := false } }).sec.strap = false) := by
  with_reducible and_intros
  all_goals
    first
    | decide +kernel
    | (unfold Running; decide +kernel)
    | exact open_of (by decide +kernel)

/-- Plain registers: a committed one, one of flags, and one that clears counters; the last two clauses are of a counter and its clear. -/
theorem witness_RegisterAccesses :
    (∃ s d, Running s ∧ Open 0 (Reg.HKC_WIN 31) false true 0xFFFFFFFF s ∧ findReg (Reg.HKC_WIN 31) = some (d, 0) ∧
      Reg.HKC_WIN 31 < 0x8000000 ∧ writeRefused 0 (Reg.HKC_WIN 31) s = false ∧ (d.rw ||| d.wo) &&& d.cm &&& (2 ^ 32 - 1) &&& reachedBits (Reg.HKC_WIN 31) ≠ 0 ∧
      ∀ m w, writeReg 0 (Reg.HKC_WIN 31) m w false d s = (0, writePlain 0 (Reg.HKC_WIN 31) m w d s)) ∧
    (∃ s d, Running s ∧ Open 0 Reg.HKC_EVT_STATUS false true 5 s ∧ findReg Reg.HKC_EVT_STATUS = some (d, 0) ∧
      Reg.HKC_EVT_STATUS < 0x8000000 ∧ writeRefused 0 Reg.HKC_EVT_STATUS s = false ∧ (d.rw ||| d.wo) &&& d.cm &&& (2 ^ 32 - 1) = 0 ∧
      ∀ m w, writeReg 0 Reg.HKC_EVT_STATUS m w false d s = (0, writePlain 0 Reg.HKC_EVT_STATUS m w d s)) ∧
    (∃ s d, Running s ∧ Open 0 Reg.HKC_CNT_CLR false true 1 s ∧ findReg Reg.HKC_CNT_CLR = some (d, 0) ∧
      Reg.HKC_CNT_CLR < 0x8000000 ∧ writeRefused 0 Reg.HKC_CNT_CLR s = false ∧ ∀ m w, writeReg 0 Reg.HKC_CNT_CLR m w false d s = (0, writePlain 0 Reg.HKC_CNT_CLR m w d s)) ∧
    (∃ d s, findReg Reg.HKC_OCD_CNT = some (d, 0) ∧ clearOf d Reg.HKC_OCD_CNT = some Reg.HKC_CNT_CLR ∧ flagOn Reg.HKC_CNT_CLR 0 s = true) ∧
    (∃ d s, findReg Reg.HKC_OCD_CNT = some (d, 0) ∧ clearOf d Reg.HKC_OCD_CNT = some Reg.HKC_CNT_CLR ∧ flagOn Reg.HKC_CNT_CLR 0 s = false) := by
  refine ⟨⟨.reset, _, ⟨rfl, by decide +kernel⟩, open_of (by decide +kernel), rfl, by decide, by decide +kernel, by decide +kernel, fun _ _ => rfl⟩,
    ⟨.reset, _, ⟨rfl, by decide +kernel⟩, open_of (by decide +kernel), rfl, by decide, by decide +kernel, by decide, fun _ _ => rfl⟩,
    ⟨.reset, _, ⟨rfl, by decide +kernel⟩, open_of (by decide +kernel), rfl, by decide, by decide +kernel, fun _ _ => rfl⟩,
    ⟨_, regs [(Reg.HKC_CNT_CLR, 1)], rfl, by decide +kernel, by decide +kernel⟩, ⟨_, .reset, rfl, by decide +kernel, by decide +kernel⟩⟩

/-- Concrete inputs meet the hypotheses of RegisterAccesses, clause by clause. -/
theorem witness_RegisterAccesses_stops :
  (Running (regs [(Reg.ROUND_STATUS, 0)] { State.reset with dom := [(611, { st := .off }), (610, { fenced := true })] }) ∧
    addrDom (0x40000000 + (Reg.ACC_CTRL 67)) = some 611 ∧
    guardCode 611 (regs [(Reg.ROUND_STATUS, 0)] { State.reset with dom := [(611, { st := .off }), (610, { fenced := true })] }) = some 4) ∧
  (Running (regs [(Reg.ROUND_STATUS, 0)] { State.reset with dom := [(611, { st := .off }), (610, { fenced := true })] }) ∧
    addrDom (0x40000000 + (Reg.ACC_CTRL 66)) = some 610 ∧
    guardCode 610 (regs [(Reg.ROUND_STATUS, 0)] { State.reset with dom := [(611, { st := .off }), (610, { fenced := true })] }) = some 5) ∧
  (Running ({ State.reset with round := { sinceC0 := 47 } } : State) ∧
    ((∀ x, addrDom (0x40000000 + Reg.HKC_WIN 31) = some x → guardCode x ({ State.reset with round := { sinceC0 := 47 } } : State) = none)) ∧
    accessStalls (⟨0, Reg.HKC_WIN 31, false, true, 5, false, none⟩ : Access) ({ State.reset with round := { sinceC0 := 47 } } : State) = true) ∧
  (Running .reset ∧ accessStalls (⟨0, 0x3, false, true, 5, false, none⟩ : Access) .reset = false ∧
    (accessCodeNow 0x3 false .reset ≠ 0 ∨ writeRefused 0 0x3 .reset = true)) ∧
  (Running .reset ∧ accessStalls (⟨0, (Reg.HKC_WIN 31), true, true, 5, false, none⟩ : Access) .reset = false ∧
    (accessCodeNow (Reg.HKC_WIN 31) true .reset ≠ 0 ∨ writeRefused 0 (Reg.HKC_WIN 31) .reset = true)) ∧
  (Running (regs [(Reg.SEC_MBOX_STATUS, 1)]) ∧
    accessStalls (⟨0, Reg.SEC_MBOX_CTRL, false, true, 5, false, none⟩ : Access) (regs [(Reg.SEC_MBOX_STATUS, 1)]) = false ∧
    (accessCodeNow Reg.SEC_MBOX_CTRL false (regs [(Reg.SEC_MBOX_STATUS, 1)]) ≠ 0 ∨ writeRefused 0 Reg.SEC_MBOX_CTRL (regs [(Reg.SEC_MBOX_STATUS, 1)]) = true) ∧
    Reg.SEC_MBOX_CTRL < 0x8000000) ∧
  (Running ({ State.reset with csr := { stalled := [(⟨0, Reg.HKC_WIN 31, false, true, 5, false, none⟩ : Access)] }, round := { sinceC0 := 39 } } : State) ∧
    room (windowLeft ({ State.reset with csr := { stalled := [(⟨0, Reg.HKC_WIN 31, false, true, 5, false, none⟩ : Access)] }, round := { sinceC0 := 39 } } : State)) ({ State.reset with csr := { stalled := [(⟨0, Reg.HKC_WIN 31, false, true, 5, false, none⟩ : Access)] }, round := { sinceC0 := 39 } } : State) = true ∧
    windowOpen (windowRuns ({ State.reset with csr := { stalled := [(⟨0, Reg.HKC_WIN 31, false, true, 5, false, none⟩ : Access)] }, round := { sinceC0 := 39 } } : State)) = false ∧
    ({ State.reset with csr := { stalled := [(⟨0, Reg.HKC_WIN 31, false, true, 5, false, none⟩ : Access)] }, round := { sinceC0 := 39 } } : State).csr.stalled = [(⟨0, Reg.HKC_WIN 31, false, true, 5, false, none⟩ : Access)] ∧
    stampWaits (⟨0, Reg.HKC_WIN 31, false, true, 5, false, none⟩ : Access) [] (windowRuns ({ State.reset with csr := { stalled := [(⟨0, Reg.HKC_WIN 31, false, true, 5, false, none⟩ : Access)] }, round := { sinceC0 := 39 } } : State)) = false) ∧
  (Running ({ State.reset with csr := { stalled := [] }, round := { sinceC0 := 39 } } : State) ∧
    ({ State.reset with csr := { stalled := [] }, round := { sinceC0 := 39 } } : State).csr.stalled = []) ∧
  (Running (regs [(Reg.ROUND_STATUS, 2)] ({ State.reset with csr := { stalled := [(⟨0, Reg.HKC_WIN 31, false, true, 5, false, none⟩ : Access)] }, round := { sinceC0 := 39 } } : State)) ∧
    windowOpen (windowRuns (regs [(Reg.ROUND_STATUS, 2)] ({ State.reset with csr := { stalled := [(⟨0, Reg.HKC_WIN 31, false, true, 5, false, none⟩ : Access)] }, round := { sinceC0 := 39 } } : State))) = true) ∧
  (Running ({ State.reset with csr := { stalled := [(⟨0, Reg.HKC_WIN 31, false, true, 5, false, none⟩ : Access), (⟨1, Reg.EVT_ROUTE 1, false, true, 5, false, none⟩ : Access)] } } : State) ∧
    windowOpen (windowRuns ({ State.reset with csr := { stalled := [(⟨0, Reg.HKC_WIN 31, false, true, 5, false, none⟩ : Access), (⟨1, Reg.EVT_ROUTE 1, false, true, 5, false, none⟩ : Access)] } } : State)) = false ∧
    stalledNext [] ({ State.reset with csr := { stalled := [(⟨0, Reg.HKC_WIN 31, false, true, 5, false, none⟩ : Access), (⟨1, Reg.EVT_ROUTE 1, false, true, 5, false, none⟩ : Access)] } } : State).csr.stalled (windowRuns ({ State.reset with csr := { stalled := [(⟨0, Reg.HKC_WIN 31, false, true, 5, false, none⟩ : Access), (⟨1, Reg.EVT_ROUTE 1, false, true, 5, false, none⟩ : Access)] } } : State)) = some ((⟨0, Reg.HKC_WIN 31, false, true, 5, false, none⟩ : Access), [(⟨1, Reg.EVT_ROUTE 1, false, true, 5, false, none⟩ : Access)])) := by
  with_reducible and_intros
  all_goals
    first
    | decide +kernel
    | (unfold Running; decide +kernel)

/-- Concrete inputs meet the hypotheses of PlanAndRouter, clause by clause. -/
theorem witness_PlanAndRouter :
  (Running (regs [(Reg.ROUND_STATUS, 2)] { State.reset with round := { endGrid := 1, plan := { active := true, tag := 3, count := 9 } }, noc := { txns := [(pkt 9 .plan 5 (.read 64) .served 0 (some (0, (List.replicate 64 0))))], nextId := 100 } }) ∧
    (regs [(Reg.ROUND_STATUS, 2)] { State.reset with round := { endGrid := 1, plan := { active := true, tag := 3, count := 9 } }, noc := { txns := [(pkt 9 .plan 5 (.read 64) .served 0 (some (0, (List.replicate 64 0))))], nextId := 100 } }).noc.txns.find? (fun t => decide (t.agent = .plan) && t.use % 2 == 1 && t.ans.isSome) = some (pkt 9 .plan 5 (.read 64) .served 0 (some (0, (List.replicate 64 0)))) ∧
    (pkt 9 .plan 5 (.read 64) .served 0 (some (0, (List.replicate 64 0)))).ans = some (0, (List.replicate 64 0)) ∧
    (((pkt 9 .plan 5 (.read 64) .served 0 (some (0, (List.replicate 64 0)))).use ≠ usePlanFetch (regs [(Reg.ROUND_STATUS, 2)] { State.reset with round := { endGrid := 1, plan := { active := true, tag := 3, count := 9 } }, noc := { txns := [(pkt 9 .plan 5 (.read 64) .served 0 (some (0, (List.replicate 64 0))))], nextId := 100 } }).round.plan.tag ∨ (regs [(Reg.ROUND_STATUS, 2)] { State.reset with round := { endGrid := 1, plan := { active := true, tag := 3, count := 9 } }, noc := { txns := [(pkt 9 .plan 5 (.read 64) .served 0 (some (0, (List.replicate 64 0))))], nextId := 100 } }).round.plan.active = false))) ∧
  (Running (regs [(Reg.ROUND_STATUS, 2)] { State.reset with round := { endGrid := 1, plan := { active := true, tag := 3, count := 9 } }, noc := { txns := [(pkt 9 .plan 7 (.read 64) .served 0 (some (1, (List.replicate 64 0))))], nextId := 100 } }) ∧
    (regs [(Reg.ROUND_STATUS, 2)] { State.reset with round := { endGrid := 1, plan := { active := true, tag := 3, count := 9 } }, noc := { txns := [(pkt 9 .plan 7 (.read 64) .served 0 (some (1, (List.replicate 64 0))))], nextId := 100 } }).noc.txns.find? (fun t => decide (t.agent = .plan) && t.use % 2 == 1 && t.ans.isSome) = some (pkt 9 .plan 7 (.read 64) .served 0 (some (1, (List.replicate 64 0)))) ∧
    (pkt 9 .plan 7 (.read 64) .served 0 (some (1, (List.replicate 64 0)))).ans = some (1, (List.replicate 64 0)) ∧
    (pkt 9 .plan 7 (.read 64) .served 0 (some (1, (List.replicate 64 0)))).use = usePlanFetch (regs [(Reg.ROUND_STATUS, 2)] { State.reset with round := { endGrid := 1, plan := { active := true, tag := 3, count := 9 } }, noc := { txns := [(pkt 9 .plan 7 (.read 64) .served 0 (some (1, (List.replicate 64 0))))], nextId := 100 } }).round.plan.tag ∧
    (regs [(Reg.ROUND_STATUS, 2)] { State.reset with round := { endGrid := 1, plan := { active := true, tag := 3, count := 9 } }, noc := { txns := [(pkt 9 .plan 7 (.read 64) .served 0 (some (1, (List.replicate 64 0))))], nextId := 100 } }).round.plan.active = true) ∧
  (Running (regs [(Reg.ROUND_STATUS, 2)] { State.reset with round := { endGrid := 1, plan := { active := true, tag := 3, count := 9 } }, noc := { txns := [(pkt 9 .plan 7 (.read 64) .served 0 (some (0, (List.replicate 64 0))))], nextId := 100 } }) ∧
    (regs [(Reg.ROUND_STATUS, 2)] { State.reset with round := { endGrid := 1, plan := { active := true, tag := 3, count := 9 } }, noc := { txns := [(pkt 9 .plan 7 (.read 64) .served 0 (some (0, (List.replicate 64 0))))], nextId := 100 } }).noc.txns.find? (fun t => decide (t.agent = .plan) && t.use % 2 == 1 && t.ans.isSome) = some (pkt 9 .plan 7 (.read 64) .served 0 (some (0, (List.replicate 64 0)))) ∧
    (pkt 9 .plan 7 (.read 64) .served 0 (some (0, (List.replicate 64 0)))).ans = some (0, (List.replicate 64 0)) ∧
    (pkt 9 .plan 7 (.read 64) .served 0 (some (0, (List.replicate 64 0)))).use = usePlanFetch (regs [(Reg.ROUND_STATUS, 2)] { State.reset with round := { endGrid := 1, plan := { active := true, tag := 3, count := 9 } }, noc := { txns := [(pkt 9 .plan 7 (.read 64) .served 0 (some (0, (List.replicate 64 0))))], nextId := 100 } }).round.plan.tag ∧
    (regs [(Reg.ROUND_STATUS, 2)] { State.reset with round := { endGrid := 1, plan := { active := true, tag := 3, count := 9 } }, noc := { txns := [(pkt 9 .plan 7 (.read 64) .served 0 (some (0, (List.replicate 64 0))))], nextId := 100 } }).round.plan.active = true ∧
    (regs [(Reg.ROUND_STATUS, 2)] { State.reset with round := { endGrid := 1, plan := { active := true, tag := 3, count := 9 } }, noc := { txns := [(pkt 9 .plan 7 (.read 64) .served 0 (some (0, (List.replicate 64 0))))], nextId := 100 } }).round.plan.fetched = [] ∧
    ((∀ i, i < (List.replicate 64 0).length / 16 → (regs [(Reg.ROUND_STATUS, 2)] { State.reset with round := { endGrid := 1, plan := { active := true, tag := 3, count := 9 } }, noc := { txns := [(pkt 9 .plan 7 (.read 64) .served 0 (some (0, (List.replicate 64 0))))], nextId := 100 } }).round.plan.halted.testBit (peClass (sliceOf (List.replicate 64 0) (16 * i) 16)) = false ∧
    peKind (sliceOf (List.replicate 64 0) (16 * i) 16) < 6))) ∧
  (Running (regs [(Reg.ROUND_STATUS, 2)] { State.reset with round := { endGrid := 1, plan := { active := true, count := 9, nextIssue := 8, fetched := [(8, (leBytes 4 0x1869f ++ leBytes 4 0x0 ++ leBytes 8 0x0))] } }, noc := { txns := [], nextId := 100 } }) ∧
    planNext (regs [(Reg.ROUND_STATUS, 2)] { State.reset with round := { endGrid := 1, plan := { active := true, count := 9, nextIssue := 8, fetched := [(8, (leBytes 4 0x1869f ++ leBytes 4 0x0 ++ leBytes 8 0x0))] } }, noc := { txns := [], nextId := 100 } }) = some (leBytes 4 0x1869f ++ leBytes 4 0x0 ++ leBytes 8 0x0) ∧
    peKind (leBytes 4 0x1869f ++ leBytes 4 0x0 ++ leBytes 8 0x0) = 0 ∧
    roundsRun (regs [(Reg.ROUND_STATUS, 2)] { State.reset with round := { endGrid := 1, plan := { active := true, count := 9, nextIssue := 8, fetched := [(8, (leBytes 4 0x1869f ++ leBytes 4 0x0 ++ leBytes 8 0x0))] } }, noc := { txns := [], nextId := 100 } }) = true ∧
    room (max 36 (peOffset (leBytes 4 0x1869f ++ leBytes 4 0x0 ++ leBytes 8 0x0)) - (regs [(Reg.ROUND_STATUS, 2)] { State.reset with round := { endGrid := 1, plan := { active := true, count := 9, nextIssue := 8, fetched := [(8, (leBytes 4 0x1869f ++ leBytes 4 0x0 ++ leBytes 8 0x0))] } }, noc := { txns := [], nextId := 100 } }).round.sinceC0) (regs [(Reg.ROUND_STATUS, 2)] { State.reset with round := { endGrid := 1, plan := { active := true, count := 9, nextIssue := 8, fetched := [(8, (leBytes 4 0x1869f ++ leBytes 4 0x0 ++ leBytes 8 0x0))] } }, noc := { txns := [], nextId := 100 } }) = true) ∧
  (Running (regs [(Reg.ROUND_STATUS, 2)] { State.reset with round := { endGrid := 1, plan := { active := true, count := 9, nextIssue := 8, fetched := [(8, (leBytes 4 0x10000000 ++ leBytes 4 0x20ff ++ leBytes 8 0xffffffffffff))] } }, noc := { txns := [], nextId := 100 } }) ∧
    planNext (regs [(Reg.ROUND_STATUS, 2)] { State.reset with round := { endGrid := 1, plan := { active := true, count := 9, nextIssue := 8, fetched := [(8, (leBytes 4 0x10000000 ++ leBytes 4 0x20ff ++ leBytes 8 0xffffffffffff))] } }, noc := { txns := [], nextId := 100 } }) = some (leBytes 4 0x10000000 ++ leBytes 4 0x20ff ++ leBytes 8 0xffffffffffff) ∧
    peKind (leBytes 4 0x10000000 ++ leBytes 4 0x20ff ++ leBytes 8 0xffffffffffff) = 1 ∧
    roundsRun (regs [(Reg.ROUND_STATUS, 2)] { State.reset with round := { endGrid := 1, plan := { active := true, count := 9, nextIssue := 8, fetched := [(8, (leBytes 4 0x10000000 ++ leBytes 4 0x20ff ++ leBytes 8 0xffffffffffff))] } }, noc := { txns := [], nextId := 100 } }) = true ∧
    room (max 36 (peOffset (leBytes 4 0x10000000 ++ leBytes 4 0x20ff ++ leBytes 8 0xffffffffffff)) - (regs [(Reg.ROUND_STATUS, 2)] { State.reset with round := { endGrid := 1, plan := { active := true, count := 9, nextIssue := 8, fetched := [(8, (leBytes 4 0x10000000 ++ leBytes 4 0x20ff ++ leBytes 8 0xffffffffffff))] } }, noc := { txns := [], nextId := 100 } }).round.sinceC0) (regs [(Reg.ROUND_STATUS, 2)] { State.reset with round := { endGrid := 1, plan := { active := true, count := 9, nextIssue := 8, fetched := [(8, (leBytes 4 0x10000000 ++ leBytes 4 0x20ff ++ leBytes 8 0xffffffffffff))] } }, noc := { txns := [], nextId := 100 } }) = true) ∧
  (Running (regs [(Reg.ROUND_STATUS, 2)] { State.reset with round := { endGrid := 1, plan := { active := true, count := 9, nextIssue := 8, fetched := [(8, (leBytes 4 0x20000024 ++ leBytes 4 0x3ff ++ leBytes 8 0x7ff))] } }, noc := { txns := [], nextId := 100 } }) ∧
    planNext (regs [(Reg.ROUND_STATUS, 2)] { State.reset with round := { endGrid := 1, plan := { active := true, count := 9, nextIssue := 8, fetched := [(8, (leBytes 4 0x20000024 ++ leBytes 4 0x3ff ++ leBytes 8 0x7ff))] } }, noc := { txns := [], nextId := 100 } }) = some (leBytes 4 0x20000024 ++ leBytes 4 0x3ff ++ leBytes 8 0x7ff) ∧
    peKind (leBytes 4 0x20000024 ++ leBytes 4 0x3ff ++ leBytes 8 0x7ff) = 2 ∧
    roundsRun (regs [(Reg.ROUND_STATUS, 2)] { State.reset with round := { endGrid := 1, plan := { active := true, count := 9, nextIssue := 8, fetched := [(8, (leBytes 4 0x20000024 ++ leBytes 4 0x3ff ++ leBytes 8 0x7ff))] } }, noc := { txns := [], nextId := 100 } }) = true ∧
    room (max 36 (peOffset (leBytes 4 0x20000024 ++ leBytes 4 0x3ff ++ leBytes 8 0x7ff)) - (regs [(Reg.ROUND_STATUS, 2)] { State.reset with round := { endGrid := 1, plan := { active := true, count := 9, nextIssue := 8, fetched := [(8, (leBytes 4 0x20000024 ++ leBytes 4 0x3ff ++ leBytes 8 0x7ff))] } }, noc := { txns := [], nextId := 100 } }).round.sinceC0) (regs [(Reg.ROUND_STATUS, 2)] { State.reset with round := { endGrid := 1, plan := { active := true, count := 9, nextIssue := 8, fetched := [(8, (leBytes 4 0x20000024 ++ leBytes 4 0x3ff ++ leBytes 8 0x7ff))] } }, noc := { txns := [], nextId := 100 } }) = true) ∧
  (Running (regs [(Reg.ROUND_STATUS, 2)] { State.reset with round := { endGrid := 1, plan := { active := true, count := 9, nextIssue := 8, fetched := [(8, (leBytes 4 0x30000025 ++ leBytes 4 0xffff0fff ++ leBytes 8 0xffff))] } }, noc := { txns := [], nextId := 100 } }) ∧
    planNext (regs [(Reg.ROUND_STATUS, 2)] { State.reset with round := { endGrid := 1, plan := { active := true, count := 9, nextIssue := 8, fetched := [(8, (leBytes 4 0x30000025 ++ leBytes 4 0xffff0fff ++ leBytes 8 0xffff))] } }, noc := { txns := [], nextId := 100 } }) = some (leBytes 4 0x30000025 ++ leBytes 4 0xffff0fff ++ leBytes 8 0xffff) ∧
    peKind (leBytes 4 0x30000025 ++ leBytes 4 0xffff0fff ++ leBytes 8 0xffff) = 3 ∧
    roundsRun (regs [(Reg.ROUND_STATUS, 2)] { State.reset with round := { endGrid := 1, plan := { active := true, count := 9, nextIssue := 8, fetched := [(8, (leBytes 4 0x30000025 ++ leBytes 4 0xffff0fff ++ leBytes 8 0xffff))] } }, noc := { txns := [], nextId := 100 } }) = true ∧
    room (max 36 (peOffset (leBytes 4 0x30000025 ++ leBytes 4 0xffff0fff ++ leBytes 8 0xffff)) - (regs [(Reg.ROUND_STATUS, 2)] { State.reset with round := { endGrid := 1, plan := { active := true, count := 9, nextIssue := 8, fetched := [(8, (leBytes 4 0x30000025 ++ leBytes 4 0xffff0fff ++ leBytes 8 0xffff))] } }, noc := { txns := [], nextId := 100 } }).round.sinceC0) (regs [(Reg.ROUND_STATUS, 2)] { State.reset with round := { endGrid := 1, plan := { active := true, count := 9, nextIssue := 8, fetched := [(8, (leBytes 4 0x30000025 ++ leBytes 4 0xffff0fff ++ leBytes 8 0xffff))] } }, noc := { txns := [], nextId := 100 } }) = true) ∧
  (Running (regs [(Reg.ROUND_STATUS, 2)] { State.reset with round := { endGrid := 1, plan := { active := true, count := 9, nextIssue := 8, fetched := [(8, (leBytes 4 0x40000000 ++ leBytes 4 0xffff ++ leBytes 8 0x7))] } }, noc := { txns := [], nextId := 100 } }) ∧
    planNext (regs [(Reg.ROUND_STATUS, 2)] { State.reset with round := { endGrid := 1, plan := { active := true, count := 9, nextIssue := 8, fetched := [(8, (leBytes 4 0x40000000 ++ leBytes 4 0xffff ++ leBytes 8 0x7))] } }, noc := { txns := [], nextId := 100 } }) = some (leBytes 4 0x40000000 ++ leBytes 4 0xffff ++ leBytes 8 0x7) ∧
    peKind (leBytes 4 0x40000000 ++ leBytes 4 0xffff ++ leBytes 8 0x7) = 4 ∧
    roundsRun (regs [(Reg.ROUND_STATUS, 2)] { State.reset with round := { endGrid := 1, plan := { active := true, count := 9, nextIssue := 8, fetched := [(8, (leBytes 4 0x40000000 ++ leBytes 4 0xffff ++ leBytes 8 0x7))] } }, noc := { txns := [], nextId := 100 } }) = true ∧
    room (max 36 (peOffset (leBytes 4 0x40000000 ++ leBytes 4 0xffff ++ leBytes 8 0x7)) - (regs [(Reg.ROUND_STATUS, 2)] { State.reset with round := { endGrid := 1, plan := { active := true, count := 9, nextIssue := 8, fetched := [(8, (leBytes 4 0x40000000 ++ leBytes 4 0xffff ++ leBytes 8 0x7))] } }, noc := { txns := [], nextId := 100 } }).round.sinceC0) (regs [(Reg.ROUND_STATUS, 2)] { State.reset with round := { endGrid := 1, plan := { active := true, count := 9, nextIssue := 8, fetched := [(8, (leBytes 4 0x40000000 ++ leBytes 4 0xffff ++ leBytes 8 0x7))] } }, noc := { txns := [], nextId := 100 } }) = true ∧
    originCode (srcOf .plan (regs [(Reg.ROUND_STATUS, 2)] { State.reset with round := { endGrid := 1, plan := { active := true, count := 9, nextIssue := 8, fetched := [(8, (leBytes 4 0x40000000 ++ leBytes 4 0xffff ++ leBytes 8 0x7))] } }, noc := { txns := [], nextId := 100 } })) 3 0 (.token (bitsOf (peTarget (leBytes 4 0x40000000 ++ leBytes 4 0xffff ++ leBytes 8 0x7)) 15 13) (bitsOf (peTarget (leBytes 4 0x40000000 ++ leBytes 4 0xffff ++ leBytes 8 0x7)) 12 0) (bitsOf (peArg (leBytes 4 0x40000000 ++ leBytes 4 0xffff ++ leBytes 8 0x7)) 2 0) (roundNow (planAt (leBytes 4 0x40000000 ++ leBytes 4 0xffff ++ leBytes 8 0x7) (regs [(Reg.ROUND_STATUS, 2)] { State.reset with round := { endGrid := 1, plan := { active := true, count := 9, nextIssue := 8, fetched := [(8, (leBytes 4 0x40000000 ++ leBytes 4 0xffff ++ leBytes 8 0x7))] } }, noc := { txns := [], nextId := 100 } })) % 4294967296)) (planAt (leBytes 4 0x40000000 ++ leBytes 4 0xffff ++ leBytes 8 0x7) (regs [(Reg.ROUND_STATUS, 2)] { State.reset with round := { endGrid := 1, plan := { active := true, count := 9, nextIssue := 8, fetched := [(8, (leBytes 4 0x40000000 ++ leBytes 4 0xffff ++ leBytes 8 0x7))] } }, noc := { txns := [], nextId := 100 } })) = none) ∧
  (Running (regs [(Reg.ROUND_STATUS, 2)] { State.reset with round := { endGrid := 1, plan := { active := true, count := 9, nextIssue := 8, fetched := [(8, (leBytes 4 0x50000000 ++ leBytes 4 0xffffffc ++ leBytes 8 0xffffffff))] } }, noc := { txns := [], nextId := 100 } }) ∧
    planNext (regs [(Reg.ROUND_STATUS, 2)] { State.reset with round := { endGrid := 1, plan := { active := true, count := 9, nextIssue := 8, fetched := [(8, (leBytes 4 0x50000000 ++ leBytes 4 0xffffffc ++ leBytes 8 0xffffffff))] } }, noc := { txns := [], nextId := 100 } }) = some (leBytes 4 0x50000000 ++ leBytes 4 0xffffffc ++ leBytes 8 0xffffffff) ∧
    peKind (leBytes 4 0x50000000 ++ leBytes 4 0xffffffc ++ leBytes 8 0xffffffff) = 5 ∧
    roundsRun (regs [(Reg.ROUND_STATUS, 2)] { State.reset with round := { endGrid := 1, plan := { active := true, count := 9, nextIssue := 8, fetched := [(8, (leBytes 4 0x50000000 ++ leBytes 4 0xffffffc ++ leBytes 8 0xffffffff))] } }, noc := { txns := [], nextId := 100 } }) = true ∧
    room (max 36 (peOffset (leBytes 4 0x50000000 ++ leBytes 4 0xffffffc ++ leBytes 8 0xffffffff)) - (regs [(Reg.ROUND_STATUS, 2)] { State.reset with round := { endGrid := 1, plan := { active := true, count := 9, nextIssue := 8, fetched := [(8, (leBytes 4 0x50000000 ++ leBytes 4 0xffffffc ++ leBytes 8 0xffffffff))] } }, noc := { txns := [], nextId := 100 } }).round.sinceC0) (regs [(Reg.ROUND_STATUS, 2)] { State.reset with round := { endGrid := 1, plan := { active := true, count := 9, nextIssue := 8, fetched := [(8, (leBytes 4 0x50000000 ++ leBytes 4 0xffffffc ++ leBytes 8 0xffffffff))] } }, noc := { txns := [], nextId := 100 } }) = true ∧
    peTarget (leBytes 4 0x50000000 ++ leBytes 4 0xffffffc ++ leBytes 8 0xffffffff) < 0x10000000) ∧
  (Running (flying [(pkt 9 .plan usePlanIssue (.write [0, 0, 0, 0]) .served 0 (some (0, [])))]) ∧
    waitingAns .plan usePlanIssue (flying [(pkt 9 .plan usePlanIssue (.write [0, 0, 0, 0]) .served 0 (some (0, [])))]) = some ((pkt 9 .plan usePlanIssue (.write [0, 0, 0, 0]) .served 0 (some (0, []))), 0, [])) ∧
  (Running (flying [(pkt 9 .evt useIrq (.write [0, 0, 0, 0]) .served 0 (some (0, [])))]) ∧
    waitingAns .evt useIrq (flying [(pkt 9 .evt useIrq (.write [0, 0, 0, 0]) .served 0 (some (0, [])))]) = some ((pkt 9 .evt useIrq (.write [0, 0, 0, 0]) .served 0 (some (0, []))), 0, [])) ∧
  (Running (flying [(pkt 9 .plan usePlanIssue (.write [0, 0, 0, 0]) .served 0 (some (1, [])))]) ∧
    waitingAns .plan usePlanIssue (flying [(pkt 9 .plan usePlanIssue (.write [0, 0, 0, 0]) .served 0 (some (1, [])))]) = some ((pkt 9 .plan usePlanIssue (.write [0, 0, 0, 0]) .served 0 (some (1, []))), 1, [])) ∧
  (Running (flying [(pkt 9 .evt useIrq (.write [0, 0, 0, 0]) .served 0 (some (1, [])))]) ∧
    waitingAns .evt useIrq (flying [(pkt 9 .evt useIrq (.write [0, 0, 0, 0]) .served 0 (some (1, [])))]) = some ((pkt 9 .evt useIrq (.write [0, 0, 0, 0]) .served 0 (some (1, []))), 1, [])) ∧
  (Running (regs [(Reg.EVT_ROUTE 4095, 0x0)] { State.reset with evt := [(⟨4095, 5, 0⟩ : Occurrence)], sec := { bme := false } }) ∧
    (regs [(Reg.EVT_ROUTE 4095, 0x0)] { State.reset with evt := [(⟨4095, 5, 0⟩ : Occurrence)], sec := { bme := false } }).evt = (⟨4095, 5, 0⟩ : Occurrence) :: [] ∧
    (⟨4095, 5, 0⟩ : Occurrence).num < 4096 ∧
    ¬(flagOn Reg.REC_TRIG_CFG 31 (regs [(Reg.EVT_ROUTE 4095, 0x0)] { State.reset with evt := [(⟨4095, 5, 0⟩ : Occurrence)], sec := { bme := false } }) = true ∧
    fld Reg.REC_TRIG_CFG 11 0 (regs [(Reg.EVT_ROUTE 4095, 0x0)] { State.reset with evt := [(⟨4095, 5, 0⟩ : Occurrence)], sec := { bme := false } }) = (⟨4095, 5, 0⟩ : Occurrence).num) ∧
    (rd (Reg.EVT_ROUTE 4095) (regs [(Reg.EVT_ROUTE 4095, 0x0)] { State.reset with evt := [(⟨4095, 5, 0⟩ : Occurrence)], sec := { bme := false } })).toNat = 0x0 ∧
    bitOf 0x0 31 = false ∧ (bitOf 0x0 31 = false ∨ bitsOf 0x0 30 29 = 0) ∧ 0x0 &&& routeReserved (bitsOf 0x0 30 29) = 0) ∧
  (Running (regs [(Reg.EVT_ROUTE 4095, 0xa0000200)] { State.reset with evt := [(⟨4095, 5, 0⟩ : Occurrence)], sec := { bme := false } }) ∧
    (regs [(Reg.EVT_ROUTE 4095, 0xa0000200)] { State.reset with evt := [(⟨4095, 5, 0⟩ : Occurrence)], sec := { bme := false } }).evt = (⟨4095, 5, 0⟩ : Occurrence) :: [] ∧
    (⟨4095, 5, 0⟩ : Occurrence).num < 4096 ∧
    ¬(flagOn Reg.REC_TRIG_CFG 31 (regs [(Reg.EVT_ROUTE 4095, 0xa0000200)] { State.reset with evt := [(⟨4095, 5, 0⟩ : Occurrence)], sec := { bme := false } }) = true ∧
    fld Reg.REC_TRIG_CFG 11 0 (regs [(Reg.EVT_ROUTE 4095, 0xa0000200)] { State.reset with evt := [(⟨4095, 5, 0⟩ : Occurrence)], sec := { bme := false } }) = (⟨4095, 5, 0⟩ : Occurrence).num) ∧
    (rd (Reg.EVT_ROUTE 4095) (regs [(Reg.EVT_ROUTE 4095, 0xa0000200)] { State.reset with evt := [(⟨4095, 5, 0⟩ : Occurrence)], sec := { bme := false } })).toNat = 0xa0000200 ∧
    bitOf 0xa0000200 31 = true ∧ 0xa0000200 &&& routeReserved (bitsOf 0xa0000200 30 29) ≠ 0) ∧
  (Running (regs [(Reg.EVT_ROUTE 4095, 0xb00001fa)] { State.reset with evt := [(⟨4095, 5, 0⟩ : Occurrence)], sec := { bme := false } }) ∧
    (regs [(Reg.EVT_ROUTE 4095, 0xb00001fa)] { State.reset with evt := [(⟨4095, 5, 0⟩ : Occurrence)], sec := { bme := false } }).evt = (⟨4095, 5, 0⟩ : Occurrence) :: [] ∧
    (⟨4095, 5, 0⟩ : Occurrence).num < 4096 ∧
    ¬(flagOn Reg.REC_TRIG_CFG 31 (regs [(Reg.EVT_ROUTE 4095, 0xb00001fa)] { State.reset with evt := [(⟨4095, 5, 0⟩ : Occurrence)], sec := { bme := false } }) = true ∧
    fld Reg.REC_TRIG_CFG 11 0 (regs [(Reg.EVT_ROUTE 4095, 0xb00001fa)] { State.reset with evt := [(⟨4095, 5, 0⟩ : Occurrence)], sec := { bme := false } }) = (⟨4095, 5, 0⟩ : Occurrence).num) ∧
    (rd (Reg.EVT_ROUTE 4095) (regs [(Reg.EVT_ROUTE 4095, 0xb00001fa)] { State.reset with evt := [(⟨4095, 5, 0⟩ : Occurrence)], sec := { bme := false } })).toNat = 0xb00001fa ∧
    bitOf 0xb00001fa 31 = true ∧ bitsOf 0xb00001fa 30 29 = 1 ∧ 0xb00001fa &&& routeReserved (bitsOf 0xb00001fa 30 29) = 0 ∧
    bitsOf 0xb00001fa 8 0 + (if bitOf 0xb00001fa 28 then 5 % 65536 else 0) ≤ 511) ∧
  (Running (regs [(Reg.EVT_ROUTE 4095, 0xb00001fb)] { State.reset with evt := [(⟨4095, 5, 0⟩ : Occurrence)], sec := { bme := false } }) ∧
    (regs [(Reg.EVT_ROUTE 4095, 0xb00001fb)] { State.reset with evt := [(⟨4095, 5, 0⟩ : Occurrence)], sec := { bme := false } }).evt = (⟨4095, 5, 0⟩ : Occurrence) :: [] ∧
    (⟨4095, 5, 0⟩ : Occurrence).num < 4096 ∧
    ¬(flagOn Reg.REC_TRIG_CFG 31 (regs [(Reg.EVT_ROUTE 4095, 0xb00001fb)] { State.reset with evt := [(⟨4095, 5, 0⟩ : Occurrence)], sec := { bme := false } }) = true ∧
    fld Reg.REC_TRIG_CFG 11 0 (regs [(Reg.EVT_ROUTE 4095, 0xb00001fb)] { State.reset with evt := [(⟨4095, 5, 0⟩ : Occurrence)], sec := { bme := false } }) = (⟨4095, 5, 0⟩ : Occurrence).num) ∧
    (rd (Reg.EVT_ROUTE 4095) (regs [(Reg.EVT_ROUTE 4095, 0xb00001fb)] { State.reset with evt := [(⟨4095, 5, 0⟩ : Occurrence)], sec := { bme := false } })).toNat = 0xb00001fb ∧
    bitOf 0xb00001fb 31 = true ∧ bitsOf 0xb00001fb 30 29 = 1 ∧
    511 < bitsOf 0xb00001fb 8 0 + (if bitOf 0xb00001fb 28 then 5 % 65536 else 0)) ∧
  (Running (regs [(Reg.EVT_ROUTE 4095, 0xd000fffa)] { State.reset with evt := [(⟨4095, 5, 0⟩ : Occurrence)], sec := { bme := false } }) ∧
    (regs [(Reg.EVT_ROUTE 4095, 0xd000fffa)] { State.reset with evt := [(⟨4095, 5, 0⟩ : Occurrence)], sec := { bme := false } }).evt = (⟨4095, 5, 0⟩ : Occurrence) :: [] ∧
    (⟨4095, 5, 0⟩ : Occurrence).num < 4096 ∧
    ¬(flagOn Reg.REC_TRIG_CFG 31 (regs [(Reg.EVT_ROUTE 4095, 0xd000fffa)] { State.reset with evt := [(⟨4095, 5, 0⟩ : Occurrence)], sec := { bme := false } }) = true ∧
    fld Reg.REC_TRIG_CFG 11 0 (regs [(Reg.EVT_ROUTE 4095, 0xd000fffa)] { State.reset with evt := [(⟨4095, 5, 0⟩ : Occurrence)], sec := { bme := false } }) = (⟨4095, 5, 0⟩ : Occurrence).num) ∧
    (rd (Reg.EVT_ROUTE 4095) (regs [(Reg.EVT_ROUTE 4095, 0xd000fffa)] { State.reset with evt := [(⟨4095, 5, 0⟩ : Occurrence)], sec := { bme := false } })).toNat = 0xd000fffa ∧
    bitOf 0xd000fffa 31 = true ∧ bitsOf 0xd000fffa 30 29 = 2 ∧ 0xd000fffa &&& routeReserved (bitsOf 0xd000fffa 30 29) = 0 ∧
    bitsOf 0xd000fffa 15 0 + (if bitOf 0xd000fffa 28 then 5 % 65536 else 0) ≤ 65535) ∧
  (Running (regs [(Reg.EVT_ROUTE 4095, 0xf00007fa)] { State.reset with evt := [(⟨4095, 5, 0⟩ : Occurrence)], sec := { bme := false } }) ∧
    (regs [(Reg.EVT_ROUTE 4095, 0xf00007fa)] { State.reset with evt := [(⟨4095, 5, 0⟩ : Occurrence)], sec := { bme := false } }).evt = (⟨4095, 5, 0⟩ : Occurrence) :: [] ∧
    (⟨4095, 5, 0⟩ : Occurrence).num < 4096 ∧
    ¬(flagOn Reg.REC_TRIG_CFG 31 (regs [(Reg.EVT_ROUTE 4095, 0xf00007fa)] { State.reset with evt := [(⟨4095, 5, 0⟩ : Occurrence)], sec := { bme := false } }) = true ∧
    fld Reg.REC_TRIG_CFG 11 0 (regs [(Reg.EVT_ROUTE 4095, 0xf00007fa)] { State.reset with evt := [(⟨4095, 5, 0⟩ : Occurrence)], sec := { bme := false } }) = (⟨4095, 5, 0⟩ : Occurrence).num) ∧
    (rd (Reg.EVT_ROUTE 4095) (regs [(Reg.EVT_ROUTE 4095, 0xf00007fa)] { State.reset with evt := [(⟨4095, 5, 0⟩ : Occurrence)], sec := { bme := false } })).toNat = 0xf00007fa ∧
    bitOf 0xf00007fa 31 = true ∧ bitsOf 0xf00007fa 30 29 = 3 ∧ 0xf00007fa &&& routeReserved (bitsOf 0xf00007fa 30 29) = 0 ∧
    bitsOf 0xf00007fa 10 0 + (if bitOf 0xf00007fa 28 then 5 % 65536 else 0) ≤ 2047 ∧
    ((flagOn Reg.PCIE_LINK_STATUS 16 (regs [(Reg.EVT_ROUTE 4095, 0xf00007fa)] { State.reset with evt := [(⟨4095, 5, 0⟩ : Occurrence)], sec := { bme := false } }) = false ∨ (regs [(Reg.EVT_ROUTE 4095, 0xf00007fa)] { State.reset with evt := [(⟨4095, 5, 0⟩ : Occurrence)], sec := { bme := false } }).sec.bme = false))) ∧
  (Running (regs [(Reg.EVT_ROUTE 4095, 0xf00007fa), (Reg.PCIE_LINK_STATUS, 0x10000), (Reg.PCIE_MSIX 2047 1, 0x100000000)] { State.reset with evt := [(⟨4095, 5, 0⟩ : Occurrence)], sec := { bme := true } }) ∧
    (regs [(Reg.EVT_ROUTE 4095, 0xf00007fa), (Reg.PCIE_LINK_STATUS, 0x10000), (Reg.PCIE_MSIX 2047 1, 0x100000000)] { State.reset with evt := [(⟨4095, 5, 0⟩ : Occurrence)], sec := { bme := true } }).evt = (⟨4095, 5, 0⟩ : Occurrence) :: [] ∧
    (⟨4095, 5, 0⟩ : Occurrence).num < 4096 ∧
    ¬(flagOn Reg.REC_TRIG_CFG 31 (regs [(Reg.EVT_ROUTE 4095, 0xf00007fa), (Reg.PCIE_LINK_STATUS, 0x10000), (Reg.PCIE_MSIX 2047 1, 0x100000000)] { State.reset with evt := [(⟨4095, 5, 0⟩ : Occurrence)], sec := { bme := true } }) = true ∧
    fld Reg.REC_TRIG_CFG 11 0 (regs [(Reg.EVT_ROUTE 4095, 0xf00007fa), (Reg.PCIE_LINK_STATUS, 0x10000), (Reg.PCIE_MSIX 2047 1, 0x100000000)] { State.reset with evt := [(⟨4095, 5, 0⟩ : Occurrence)], sec := { bme := true } }) = (⟨4095, 5, 0⟩ : Occurrence).num) ∧
    (rd (Reg.EVT_ROUTE 4095) (regs [(Reg.EVT_ROUTE 4095, 0xf00007fa), (Reg.PCIE_LINK_STATUS, 0x10000), (Reg.PCIE_MSIX 2047 1, 0x100000000)] { State.reset with evt := [(⟨4095, 5, 0⟩ : Occurrence)], sec := { bme := true } })).toNat = 0xf00007fa ∧
    bitOf 0xf00007fa 31 = true ∧ bitsOf 0xf00007fa 10 0 + (if bitOf 0xf00007fa 28 then 5 % 65536 else 0) = 2047 ∧
    flagOn Reg.PCIE_LINK_STATUS 16 (regs [(Reg.EVT_ROUTE 4095, 0xf00007fa), (Reg.PCIE_LINK_STATUS, 0x10000), (Reg.PCIE_MSIX 2047 1, 0x100000000)] { State.reset with evt := [(⟨4095, 5, 0⟩ : Occurrence)], sec := { bme := true } }) = true ∧
    (regs [(Reg.EVT_ROUTE 4095, 0xf00007fa), (Reg.PCIE_LINK_STATUS, 0x10000), (Reg.PCIE_MSIX 2047 1, 0x100000000)] { State.reset with evt := [(⟨4095, 5, 0⟩ : Occurrence)], sec := { bme := true } }).sec.bme = true ∧
    flagOn (Reg.PCIE_MSIX 2047 1) 32 (regs [(Reg.EVT_ROUTE 4095, 0xf00007fa), (Reg.PCIE_LINK_STATUS, 0x10000), (Reg.PCIE_MSIX 2047 1, 0x100000000)] { State.reset with evt := [(⟨4095, 5, 0⟩ : Occurrence)], sec := { bme := true } }) = true) ∧
  (Running (regs [(Reg.EVT_ROUTE 4095, 0xf00007fa), (Reg.PCIE_LINK_STATUS, 0x10000), (Reg.PCIE_MSIX 2047 1, 0)] { State.reset with evt := [(⟨4095, 5, 0⟩ : Occurrence)], sec := { bme := true } }) ∧
    (regs [(Reg.EVT_ROUTE 4095, 0xf00007fa), (Reg.PCIE_LINK_STATUS, 0x10000), (Reg.PCIE_MSIX 2047 1, 0)] { State.reset with evt := [(⟨4095, 5, 0⟩ : Occurrence)], sec := { bme := true } }).evt = (⟨4095, 5, 0⟩ : Occurrence) :: [] ∧
    (⟨4095, 5, 0⟩ : Occurrence).num < 4096 ∧
    ¬(flagOn Reg.REC_TRIG_CFG 31 (regs [(Reg.EVT_ROUTE 4095, 0xf00007fa), (Reg.PCIE_LINK_STATUS, 0x10000), (Reg.PCIE_MSIX 2047 1, 0)] { State.reset with evt := [(⟨4095, 5, 0⟩ : Occurrence)], sec := { bme := true } }) = true ∧
    fld Reg.REC_TRIG_CFG 11 0 (regs [(Reg.EVT_ROUTE 4095, 0xf00007fa), (Reg.PCIE_LINK_STATUS, 0x10000), (Reg.PCIE_MSIX 2047 1, 0)] { State.reset with evt := [(⟨4095, 5, 0⟩ : Occurrence)], sec := { bme := true } }) = (⟨4095, 5, 0⟩ : Occurrence).num) ∧
    (rd (Reg.EVT_ROUTE 4095) (regs [(Reg.EVT_ROUTE 4095, 0xf00007fa), (Reg.PCIE_LINK_STATUS, 0x10000), (Reg.PCIE_MSIX 2047 1, 0)] { State.reset with evt := [(⟨4095, 5, 0⟩ : Occurrence)], sec := { bme := true } })).toNat = 0xf00007fa ∧
    bitOf 0xf00007fa 31 = true ∧ bitsOf 0xf00007fa 10 0 + (if bitOf 0xf00007fa 28 then 5 % 65536 else 0) = 2047 ∧
    flagOn Reg.PCIE_LINK_STATUS 16 (regs [(Reg.EVT_ROUTE 4095, 0xf00007fa), (Reg.PCIE_LINK_STATUS, 0x10000), (Reg.PCIE_MSIX 2047 1, 0)] { State.reset with evt := [(⟨4095, 5, 0⟩ : Occurrence)], sec := { bme := true } }) = true ∧
    (regs [(Reg.EVT_ROUTE 4095, 0xf00007fa), (Reg.PCIE_LINK_STATUS, 0x10000), (Reg.PCIE_MSIX 2047 1, 0)] { State.reset with evt := [(⟨4095, 5, 0⟩ : Occurrence)], sec := { bme := true } }).sec.bme = true ∧
    flagOn (Reg.PCIE_MSIX 2047 1) 32 (regs [(Reg.EVT_ROUTE 4095, 0xf00007fa), (Reg.PCIE_LINK_STATUS, 0x10000), (Reg.PCIE_MSIX 2047 1, 0)] { State.reset with evt := [(⟨4095, 5, 0⟩ : Occurrence)], sec := { bme := true } }) = false) := by
  with_reducible and_intros
  all_goals
    first
    | decide +kernel
    | (unfold Running; decide +kernel)

/-- Concrete inputs meet the hypotheses of StepRunsFrontCommand, clause by clause. -/
theorem witness_StepRunsFrontCommand :
  (State.reset.pending = [] ∧ Running .reset ∧ room 1 .reset = true ∧ rd Reg.TIME_SLEW_CNT .reset = 0 ∧ State.reset.eng = []) := by
  with_reducible and_intros
  all_goals
    first
    | decide +kernel
    | (unfold Running; decide +kernel)

/-- A command that names what the module does not have; and commands while the module is held in reset. -/
theorem witness_EveryCommandCompletes : (Instr.add 512 0).wf = false ∧ ({ State.reset with pwr := { plug := 3 } } : State).pwr.plug ≠ 4 ∧
    Instr.occurrenceTaken ∉ [.wakeIn, .prechargeContact, .vinRise, .railsGood, .presentDebounced, .powerGoodLoss, .ejectReq, .ejectDebounced,
      .removalQuiesced, .removalPoweredDown, .latchClose, .presentLost, .vinLow, .currentLimitTrip, .tripRestart] :=
  ⟨by decide, by decide, by simp⟩

/-- A memory with a byte listed, and a command in front that changes it. -/
theorem witness_MemoryStaysCanonical :
    ∃ s t, s.mem.wf = true ∧ s.mem.cells ≠ [] ∧ step s = .next t ∧ t.mem.cells ≠ s.mem.cells :=
  ⟨{ loaded 511 (mf 24 2 1 0 0 0) { g := [(1, 0x10000), (2, 7)] } with pending := [.stB 511 (mf 24 2 1 0 0 0)] }, _, by decide +kernel,
    by decide +kernel, rfl, by decide +kernel⟩

end Sys2Proof.Tests
end

section
/-! What an issued instruction does outside its engine: `r.Does P` says it once for every outcome of `Issue`, so that a fact about `issue` needs
only the fact about the instruction's body. -/
namespace Sys2Proof.Machine

/-- The effect of `r` outside its engine, if it has one, satisfies `P`. -/
def Issue.Does (P : (State → State) → Prop) : Issue → Prop
  | .done _ f => P f
  | .act f => P f
  | _ => True

/-- `f` leaves memory as it is. -/
def KeepsMem (f : State → State) : Prop := ∀ s, (f s).mem = s.mem

@[simp] theorem keepsMem_iff (f : State → State) : KeepsMem f ↔ ∀ s, (f s).mem = s.mem := Iff.rfl

@[simp] theorem does_wait (P : (State → State) → Prop) : Issue.wait.Does P := trivial
@[simp] theorem does_fault (P : (State → State) → Prop) (code sub g29 g28 : Nat) : (Issue.fault code sub g29 g28).Does P := trivial
@[simp] theorem does_jump (P : (State → State) → Prop) (e : Engine) (pc : Nat) : (Issue.jump e pc).Does P := trivial
@[simp] theorem does_thenTrap (P : (State → State) → Prop) (code sub g29 : Nat) : (Issue.thenTrap code sub g29).Does P := trivial
@[simp] theorem does_done (P : (State → State) → Prop) (e : Engine) (f : State → State) : (Issue.done e f).Does P ↔ P f := Iff.rfl
@[simp] theorem does_act (P : (State → State) → Prop) (f : State → State) : (Issue.act f).Does P ↔ P f := Iff.rfl
@[simp] theorem does_regs (P : (State → State) → Prop) (e : Engine) : (Issue.regs e).Does P ↔ P id := Iff.rfl
@[simp] theorem does_ite (P : (State → State) → Prop) (c : Prop) [Decidable c] (a b : Issue) :
    (if c then a else b).Does P ↔ if c then a.Does P else b.Does P := by split <;> rfl

end Sys2Proof.Machine
end

section
/-! Memory under the basic updates (R8). A lemma `mem_<update>` states one of the model's own `<update>_mem` laws as an equation `simp`
rewrites with, from the outside in (`↓`): a rewrite step keeps the state an opaque term, where unfolding it would have the kernel compare
whole states. -/
namespace Sys2Proof.Machine

@[simp ↓] theorem mem_wr (off : Nat) (v : DWord) (s : State) : (wr off v s).mem = s.mem :=
  Eq.trans (wr_mem off v s) (Eq.refl _)
@[simp ↓] theorem mem_setFld (off hi lo x : Nat) (s : State) : (setFld off hi lo x s).mem = s.mem :=
  Eq.trans (setFld_mem off hi lo x s) (Eq.refl _)
@[simp ↓] theorem mem_setFlag (off i : Nat) (s : State) : (setFlag off i s).mem = s.mem :=
  Eq.trans (setFlag_mem off i s) (Eq.refl _)
@[simp ↓] theorem mem_bumpBy (off k : Nat) (s : State) : (bumpBy off k s).mem = s.mem :=
  Eq.trans (bumpBy_mem off k s) (Eq.refl _)
@[simp ↓] theorem mem_bump (off : Nat) (s : State) : (bump off s).mem = s.mem :=
  Eq.trans (bump_mem off s) (Eq.refl _)
@[simp ↓] theorem mem_bump64 (off k : Nat) (s : State) : (bump64 off k s).mem = s.mem :=
  Eq.trans (bump64_mem off k s) (Eq.refl _)
@[simp ↓] theorem mem_raise (num inst : Nat) (s : State) : (raise num inst s).mem = s.mem :=
  Eq.trans (raise_mem num inst s) (Eq.refl _)
@[simp ↓] theorem mem_flagEvent (off bit num inst : Nat) (s : State) : (flagEvent off bit num inst s).mem = s.mem :=
  Eq.trans (flagEvent_mem off bit num inst s) (Eq.refl _)
@[simp ↓] theorem mem_countEvent (cnt off bit num inst : Nat) (s : State) : (countEvent cnt off bit num inst s).mem = s.mem :=
  Eq.trans (countEvent_mem cnt off bit num inst s) (Eq.refl _)
@[simp ↓] theorem mem_drawn (s : State) : (drawn s).mem = s.mem :=
  Eq.trans (drawn_mem s) (Eq.refl _)
@[simp ↓] theorem mem_setEng (n : Nat) (e : Engine) (s : State) : (setEng n e s).mem = s.mem :=
  Eq.trans (setEng_mem n e s) (Eq.refl _)
@[simp ↓] theorem mem_modEng (n : Nat) (f : Engine → Engine) (s : State) : (modEng n f s).mem = s.mem :=
  Eq.trans (modEng_mem n f s) (Eq.refl _)
@[simp ↓] theorem mem_modRound (f : Round → Round) (s : State) : (modRound f s).mem = s.mem :=
  Eq.trans (modRound_mem f s) (Eq.refl _)
@[simp ↓] theorem mem_modPwr (f : Pwr → Pwr) (s : State) : (modPwr f s).mem = s.mem :=
  Eq.trans (modPwr_mem f s) (Eq.refl _)
@[simp ↓] theorem mem_modSec (f : Sec → Sec) (s : State) : (modSec f s).mem = s.mem :=
  Eq.trans (modSec_mem f s) (Eq.refl _)
@[simp ↓] theorem mem_modSpare (f : Spare → Spare) (s : State) : (modSpare f s).mem = s.mem :=
  Eq.trans (modSpare_mem f s) (Eq.refl _)
@[simp ↓] theorem mem_modTime (f : TimeUnit → TimeUnit) (s : State) : (modTime f s).mem = s.mem :=
  Eq.trans (modTime_mem f s) (Eq.refl _)
@[simp ↓] theorem mem_modTrig (n : Nat) (f : Trig → Trig) (s : State) : (modTrig n f s).mem = s.mem :=
  Eq.trans (modTrig_mem n f s) (Eq.refl _)
@[simp ↓] theorem mem_modHkc (f : Hkc → Hkc) (s : State) : (modHkc f s).mem = s.mem :=
  Eq.trans (modHkc_mem f s) (Eq.refl _)
@[simp ↓] theorem mem_setLane (l : Nat) (x : Lane) (s : State) : (setLane l x s).mem = s.mem :=
  Eq.trans (setLane_mem l x s) (Eq.refl _)
@[simp ↓] theorem mem_modLane (l : Nat) (f : Lane → Lane) (s : State) : (modLane l f s).mem = s.mem :=
  Eq.trans (modLane_mem l f s) (Eq.refl _)
@[simp ↓] theorem mem_setMac (m : Nat) (x : Mac) (s : State) : (setMac m x s).mem = s.mem :=
  Eq.trans (setMac_mem m x s) (Eq.refl _)
@[simp ↓] theorem mem_modMac (m : Nat) (f : Mac → Mac) (s : State) : (modMac m f s).mem = s.mem :=
  Eq.trans (modMac_mem m f s) (Eq.refl _)
@[simp ↓] theorem mem_modLine (f : LinePort → LinePort) (s : State) : (modLine f s).mem = s.mem :=
  Eq.trans (modLine_mem f s) (Eq.refl _)
@[simp ↓] theorem mem_modPair (p : Nat) (f : Pair → Pair) (s : State) : (modPair p f s).mem = s.mem :=
  Eq.trans (modPair_mem p f s) (Eq.refl _)
@[simp ↓] theorem mem_setDma (e : Nat) (x : DmaEng) (s : State) : (setDma e x s).mem = s.mem :=
  Eq.trans (setDma_mem e x s) (Eq.refl _)
@[simp ↓] theorem mem_modDmaCh (e ch : Nat) (f : DmaChan → DmaChan) (s : State) : (modDmaCh e ch f s).mem = s.mem :=
  Eq.trans (modDmaCh_mem e ch f s) (Eq.refl _)
@[simp ↓] theorem mem_setCfa (ch : Nat) (x : CfaChan) (s : State) : (setCfa ch x s).mem = s.mem :=
  Eq.trans (setCfa_mem ch x s) (Eq.refl _)
@[simp ↓] theorem mem_modCfa (ch : Nat) (f : CfaChan → CfaChan) (s : State) : (modCfa ch f s).mem = s.mem :=
  Eq.trans (modCfa_mem ch f s) (Eq.refl _)
@[simp ↓] theorem mem_setTxns (l : List Txn) (s : State) : (setTxns l s).mem = s.mem :=
  Eq.trans (setTxns_mem l s) (Eq.refl _)
@[simp ↓] theorem mem_modRec (f : Rec → Rec) (s : State) : (modRec f s).mem = s.mem :=
  Eq.trans (modRec_mem f s) (Eq.refl _)
@[simp ↓] theorem mem_setAccUnit (k : Nat) (u : AccUnit) (s : State) : (setAccUnit k u s).mem = s.mem :=
  Eq.trans (setAccUnit_mem k u s) (Eq.refl _)
@[simp ↓] theorem mem_modAcc (k : Nat) (f : AccUnit → AccUnit) (s : State) : (modAcc k f s).mem = s.mem :=
  Eq.trans (modAcc_mem k f s) (Eq.refl _)
@[simp ↓] theorem mem_setSlice (sl : Nat) (x : Slice) (s : State) : (setSlice sl x s).mem = s.mem :=
  Eq.trans (setSlice_mem sl x s) (Eq.refl _)
@[simp ↓] theorem mem_modSlice (sl : Nat) (f : Slice → Slice) (s : State) : (modSlice sl f s).mem = s.mem :=
  Eq.trans (modSlice_mem sl f s) (Eq.refl _)
@[simp ↓] theorem mem_setDom (d : Nat) (x : Dom) (s : State) : (setDom d x s).mem = s.mem :=
  Eq.trans (setDom_mem d x s) (Eq.refl _)
@[simp ↓] theorem mem_modDom (d : Nat) (f : Dom → Dom) (s : State) : (modDom d f s).mem = s.mem :=
  Eq.trans (modDom_mem d f s) (Eq.refl _)
@[simp ↓] theorem mem_setRoundState (n : Nat) (s : State) : (setRoundState n s).mem = s.mem :=
  Eq.trans (setRoundState_mem n s) (Eq.refl _)
@[simp ↓] theorem mem_modGuard (k : Nat) (f : Guard → Guard) (s : State) : (modGuard k f s).mem = s.mem :=
  Eq.trans (modGuard_mem k f s) (Eq.refl _)
@[simp ↓] theorem mem_setReductions (c : Nat) (l : List Reduction) (s : State) : (setReductions c l s).mem = s.mem :=
  Eq.trans (setReductions_mem c l s) (Eq.refl _)
@[simp ↓] theorem mem_inOrder (s t : State) : (inOrder s t).mem = t.mem :=
  Eq.trans (inOrder_mem s t) (Eq.refl _)

/-! Memory of a choice, of a pair's state and of a fold: the shapes the frame lemmas below meet. -/

@[simp ↓] theorem mem_ite (c : Prop) [Decidable c] (s t : State) :
    (if c then s else t).mem = if c then s.mem else t.mem := apply_ite _ _ _ _

@[simp ↓] theorem snd_mem_ite {α : Type} (c : Prop) [Decidable c] (p q : α × State) :
    (if c then p else q).2.mem = if c then p.2.mem else q.2.mem := by split <;> rfl

@[simp ↓] theorem snd_mem_mk {α : Type} (a : α) (s : State) : (a, s).2.mem = s.mem := Eq.trans rfl (Eq.refl _)

@[simp ↓] theorem snd_snd_mem_mk {α β : Type} (a : α) (b : β) (s : State) : (a, b, s).2.2.mem = s.mem := Eq.trans rfl (Eq.refl _)

theorem mem_withRecorder (s : State) (r : Rec) : ({ s with recorder := r } : State).mem = s.mem := rfl

theorem jumpFault_does {P : (State → State) → Prop} (w : Word) (e : Engine) (r : Issue) (h : jumpFault w e = some r) : r.Does P := by
  unfold jumpFault at h
  split at h
  · cases h; trivial
  · cases h

@[simp ↓] theorem foldl_mem {α : Type} {f : State → α → State} (h : ∀ s x, (f s x).mem = s.mem) (l : List α) (s : State) :
    (l.foldl f s).mem = s.mem := by
  induction l generalizing s with
  | nil => rfl
  | cons x t ih => rw [List.foldl_cons, ih, h]

@[simp ↓] theorem foldl_snd_mem {α β : Type} {f : β × State → α → β × State} (h : ∀ a x, (f a x).2.mem = a.2.mem) (l : List α) (a : β × State) :
    (l.foldl f a).2.mem = a.2.mem := by
  induction l generalizing a with
  | nil => rfl
  | cons x t ih => rw [List.foldl_cons, ih, h]

@[simp ↓] theorem forEach_mem {α : Type} {f : α → State → State} (h : ∀ x s, (f x s).mem = s.mem) (l : List α) (s : State) :
    (forEach l f s).mem = s.mem := foldl_mem (fun s x => h x s) l s

end Sys2Proof.Machine
end

section
/-! The frame of memory: one lemma for each function of the model that leaves memory as it was, in the order of the model's files. A function's
lemma is proved from those of the functions it calls. -/
namespace Sys2Proof.Machine

/-! ### Sys2Proof/Machine/Ops.lean -/

@[simp ↓] theorem when'_mem {f : State → State} (hf : KeepsMem f) (c : Bool) (s : State) : (when' c f s).mem = s.mem := by
  unfold when'
  split
  · exact hf s
  · rfl

/-! ### Sys2Proof/Machine/Fabric.lean -/

@[simp ↓] theorem niSync_mem (n p : Nat) (s : State) : (niSync n p s).mem = s.mem := by unfold niSync; simp
@[simp ↓] theorem txnMod_mem (id : Nat) (f : Txn → Txn) (s : State) : (txnMod id f s).mem = s.mem := by unfold txnMod; simp
@[simp ↓] theorem txnDrop_mem (id : Nat) (s : State) : (txnDrop id s).mem = s.mem := by unfold txnDrop; simp
@[simp ↓] theorem niCount_mem (src c bytes : Nat) (s : State) : (niCount src c bytes s).mem = s.mem := by unfold niCount; simp
@[simp ↓] theorem postedError_mem (n p addr src code : Nat) (s : State) : (postedError n p addr src code s).mem = s.mem := by
  unfold postedError
  simp
@[simp ↓] theorem niCodeGiven_mem (n p code : Nat) (s : State) : (niCodeGiven n p code s).mem = s.mem := by unfold niCodeGiven; simp
@[simp ↓] theorem enqueue_mem (t : Txn) (s : State) : (enqueue t s).mem = s.mem := by unfold enqueue; simp
@[simp ↓] theorem send_mem (ag : Agent) (use cls addr : Nat) (body : Payload) (posted aw : Bool) (s : State) :
    (send ag use cls addr body posted aw s).mem = s.mem := by
  unfold send
  split
  · dsimp only
    split <;> simp
  · dsimp only
    split <;> simp
@[simp ↓] theorem postedDone_mem (id : Nat) (s : State) : (postedDone id s).mem = s.mem := by
  unfold postedDone
  split <;> simp
@[simp ↓] theorem answer_mem (id code : Nat) (data : List Byte) (s : State) : (answer id code data s).mem = s.mem := by
  unfold answer
  split
  · simp
  · split
    · simp
    · split <;> simp
@[simp ↓] theorem takeAns_mem (id : Nat) (s : State) : (takeAns id s).mem = s.mem := by
  unfold takeAns
  split <;> simp
@[simp ↓] theorem consume_mem (b : Payload) (s : State) : (consume b s).mem = s.mem := by
  unfold consume
  split <;> simp
@[simp ↓] theorem postToken_mem (ag : Agent) (slice ctx slot value : Nat) (s : State) :
    (postToken ag slice ctx slot value s).mem = s.mem := by
  unfold postToken
  simp
@[simp ↓] theorem postWrite_mem (ag : Agent) (use addr : Nat) (bs : List Byte) (aw : Bool) (s : State) :
    (postWrite ag use addr bs aw s).mem = s.mem := by
  unfold postWrite
  simp
@[simp ↓] theorem reqWrite_mem (ag : Agent) (use addr : Nat) (bs : List Byte) (aw : Bool) (s : State) :
    (reqWrite ag use addr bs aw s).mem = s.mem := by
  unfold reqWrite
  simp
@[simp ↓] theorem reqRead_mem (ag : Agent) (use addr len : Nat) (aw : Bool) (s : State) : (reqRead ag use addr len aw s).mem = s.mem := by
  unfold reqRead
  simp

/-! ### Sys2Proof/Machine/Marks.lean -/

@[simp ↓] theorem freshWindow_mem (s : State) : (freshWindow s).mem = s.mem := by unfold freshWindow; simp
@[simp ↓] theorem addMark_mem (kind index cause : Nat) (rotate : Bool) (s : State) : (addMark kind index cause rotate s).mem = s.mem := by
  unfold addMark
  simp
@[simp ↓] theorem markRow_mem (bank row : Nat) (s : State) : (markRow bank row s).mem = s.mem := by unfold markRow; simp
@[simp ↓] theorem noteCorrected_mem (res : Option Nat) (bank row : Nat) (s : State) : (noteCorrected res bank row s).mem = s.mem := by
  unfold noteCorrected
  split <;> simp
@[simp ↓] theorem noteEccAt_mem (ecc : Ecc) (a : Nat) (s : State) : (noteEccAt ecc a s).mem = s.mem := by
  unfold noteEccAt
  split <;> simp

/-! ### Sys2Proof/Machine/Operands.lean -/

@[simp ↓] theorem latePrune_mem (n : Nat) (s : State) : (latePrune n s).mem = s.mem := by unfold latePrune; simp
@[simp ↓] theorem landOne_mem (n : Nat) (x : Landed) (s : State) : (landOne n x s).mem = s.mem := by
  unfold landOne
  split <;> simp
@[simp ↓] theorem cycleEnds_mem (n : Nat) (s : State) : (cycleEnds n s).mem = s.mem := by unfold cycleEnds; simp
@[simp ↓] theorem cyclesPass_mem (n k : Nat) (s : State) : (cyclesPass n k s).mem = s.mem := by unfold cyclesPass; simp
@[simp ↓] theorem settle_mem (n : Nat) (s : State) : (settle n s).mem = s.mem := by unfold settle; simp
@[simp ↓] theorem enginesRun_mem (k : Nat) (s : State) : (enginesRun k s).mem = s.mem := by unfold enginesRun; simp
@[simp ↓] theorem atIssue_mem (n : Nat) (vector : Bool) (reads : List Nat) (s : State) : (atIssue n vector reads s).mem = s.mem := by
  unfold atIssue
  simp

/-! ### Sys2Proof/Machine/Scalar.lean -/

@[simp ↓] theorem recordTrap_mem (n cause pc : Nat) (s : State) : (recordTrap n cause pc s).mem = s.mem := by unfold recordTrap; simp
@[simp ↓] theorem discards_mem (n k : Nat) (s : State) : (discards n k s).mem = s.mem := by unfold discards; simp
@[simp ↓] theorem doubleFault_mem (n cause pc : Nat) (s : State) : (doubleFault n cause pc s).mem = s.mem := by unfold doubleFault; simp
@[simp ↓] theorem takeTrap_mem (n k code cause pc ret g29 g28 : Nat) (s : State) :
    (takeTrap n k code cause pc ret g29 g28 s).mem = s.mem := by
  unfold takeTrap
  simp
@[simp ↓] theorem syncTrap_mem (n code sub g29 g28 : Nat) (s : State) : (syncTrap n code sub g29 g28 s).mem = s.mem := by
  unfold syncTrap
  simp
@[simp ↓] theorem countIssue_mem (n : Nat) (s : State) : (countIssue n s).mem = s.mem := by unfold countIssue; simp
@[simp ↓] theorem finish_mem {r : Issue} (hr : r.Does KeepsMem) (n : Nat) (writes : Option (List Nat)) (behind : Nat) (s : State) :
    (finish n writes behind r s).mem = s.mem := by
  unfold finish
  split
  · rfl
  · simp
  · rw [hr, countIssue_mem, mem_setEng]
  · simp
  · dsimp only
    split <;> simp
  · rw [hr, countIssue_mem, mem_modEng]
@[simp ↓] theorem staleWords_mem (a n : Nat) (s : State) : (staleWords a n s).mem = s.mem := by unfold staleWords; simp
@[simp ↓] theorem eccCorrected_mem (n addr : Nat) (s : State) : (eccCorrected n addr s).mem = s.mem := by unfold eccCorrected; simp
@[simp ↓] theorem fetchNoted_mem (n : Nat) (fetch : Ecc) (s : State) : (fetchNoted n fetch s).mem = s.mem := by
  unfold fetchNoted
  split <;> simp
@[simp ↓] theorem fetchTrap_mem (n : Nat) (fetch : Ecc) (s : State) : (fetchTrap n fetch s).mem = s.mem := by unfold fetchTrap; simp
@[simp ↓] theorem issueWith_mem {early : Engine → Option Issue} {body : Engine → Issue} (he : ∀ e r, early e = some r → r.Does KeepsMem)
    (hb : ∀ e, (body e).Does KeepsMem) (n : Nat) (w : Word) (fetch : Ecc) (bad forb : Bool) (regs writes : List Nat) (s : State) :
    (issueWith n w fetch early bad forb regs writes body s).mem = s.mem := by
  unfold issueWith
  dsimp only
  split
  · split
    · simp
    · split
      · simp
      · rw [finish_mem, fetchNoted_mem, atIssue_mem]
        split
        · exact he _ _ ‹_›
        · simp [hb]
  · rfl
@[simp ↓] theorem issue_mem {body : Engine → Issue} (hb : ∀ e, (body e).Does KeepsMem) (n : Nat) (w : Word) (fetch : Ecc) (bad forb : Bool)
    (regs writes : List Nat) (s : State) :
    (issue n w fetch bad forb regs writes body s).mem = s.mem := issueWith_mem (by simp) hb _ _ _ _ _ _ _ _
@[simp ↓] theorem alu2_mem (n : Nat) (w : Word) (fetch : Ecc) (f : Word → Word → Word) (s : State) : (alu2 n w fetch f s).mem = s.mem := by
  unfold alu2
  simp
@[simp ↓] theorem mulOp_mem (n : Nat) (w : Word) (fetch : Ecc) (f : Word → Word → Word) (s : State) :
    (mulOp n w fetch f s).mem = s.mem := by
  unfold mulOp
  simp
@[simp ↓] theorem opAdd_mem (n : Nat) (w : Word) (fetch : Ecc) (s : State) : (opAdd n w fetch s).mem = s.mem := by unfold opAdd; simp
@[simp ↓] theorem opSub_mem (n : Nat) (w : Word) (fetch : Ecc) (s : State) : (opSub n w fetch s).mem = s.mem := by unfold opSub; simp
@[simp ↓] theorem opAnd_mem (n : Nat) (w : Word) (fetch : Ecc) (s : State) : (opAnd n w fetch s).mem = s.mem := by unfold opAnd; simp
@[simp ↓] theorem opOr_mem (n : Nat) (w : Word) (fetch : Ecc) (s : State) : (opOr n w fetch s).mem = s.mem := by unfold opOr; simp
@[simp ↓] theorem opXor_mem (n : Nat) (w : Word) (fetch : Ecc) (s : State) : (opXor n w fetch s).mem = s.mem := by unfold opXor; simp
@[simp ↓] theorem opShl_mem (n : Nat) (w : Word) (fetch : Ecc) (s : State) : (opShl n w fetch s).mem = s.mem := by unfold opShl; simp
@[simp ↓] theorem opShr_mem (n : Nat) (w : Word) (fetch : Ecc) (s : State) : (opShr n w fetch s).mem = s.mem := by unfold opShr; simp
@[simp ↓] theorem opSar_mem (n : Nat) (w : Word) (fetch : Ecc) (s : State) : (opSar n w fetch s).mem = s.mem := by unfold opSar; simp
@[simp ↓] theorem opCmpEq_mem (n : Nat) (w : Word) (fetch : Ecc) (s : State) : (opCmpEq n w fetch s).mem = s.mem := by unfold opCmpEq; simp
@[simp ↓] theorem opCmpLt_mem (n : Nat) (w : Word) (fetch : Ecc) (s : State) : (opCmpLt n w fetch s).mem = s.mem := by unfold opCmpLt; simp
@[simp ↓] theorem opCmpLtu_mem (n : Nat) (w : Word) (fetch : Ecc) (s : State) : (opCmpLtu n w fetch s).mem = s.mem := by
  unfold opCmpLtu
  simp
@[simp ↓] theorem opMin_mem (n : Nat) (w : Word) (fetch : Ecc) (s : State) : (opMin n w fetch s).mem = s.mem := by unfold opMin; simp
@[simp ↓] theorem opMax_mem (n : Nat) (w : Word) (fetch : Ecc) (s : State) : (opMax n w fetch s).mem = s.mem := by unfold opMax; simp
@[simp ↓] theorem opMul_mem (n : Nat) (w : Word) (fetch : Ecc) (s : State) : (opMul n w fetch s).mem = s.mem := by unfold opMul; simp
@[simp ↓] theorem opMulh_mem (n : Nat) (w : Word) (fetch : Ecc) (s : State) : (opMulh n w fetch s).mem = s.mem := by unfold opMulh; simp
@[simp ↓] theorem opAbs_mem (n : Nat) (w : Word) (fetch : Ecc) (s : State) : (opAbs n w fetch s).mem = s.mem := by unfold opAbs; simp
@[simp ↓] theorem opMov_mem (n : Nat) (w : Word) (fetch : Ecc) (s : State) : (opMov n w fetch s).mem = s.mem := by unfold opMov; simp
@[simp ↓] theorem opMovi_mem (n : Nat) (w : Word) (fetch : Ecc) (s : State) : (opMovi n w fetch s).mem = s.mem := by unfold opMovi; simp
@[simp ↓] theorem opMovhi_mem (n : Nat) (w : Word) (fetch : Ecc) (s : State) : (opMovhi n w fetch s).mem = s.mem := by unfold opMovhi; simp
@[simp ↓] theorem opNop_mem (n : Nat) (w : Word) (fetch : Ecc) (s : State) : (opNop n w fetch s).mem = s.mem := by unfold opNop; simp
@[simp ↓] theorem macOp_mem (n : Nat) (w : Word) (fetch : Ecc) (f : CInt → CInt → CInt) (s : State) :
    (macOp n w fetch f s).mem = s.mem := by
  unfold macOp
  simp
@[simp ↓] theorem opCmac_mem (n : Nat) (w : Word) (fetch : Ecc) (s : State) : (opCmac n w fetch s).mem = s.mem := by unfold opCmac; simp
@[simp ↓] theorem opCmacc_mem (n : Nat) (w : Word) (fetch : Ecc) (s : State) : (opCmacc n w fetch s).mem = s.mem := by unfold opCmacc; simp
@[simp ↓] theorem opCmsu_mem (n : Nat) (w : Word) (fetch : Ecc) (s : State) : (opCmsu n w fetch s).mem = s.mem := by unfold opCmsu; simp
@[simp ↓] theorem opRmac_mem (n : Nat) (w : Word) (fetch : Ecc) (s : State) : (opRmac n w fetch s).mem = s.mem := by unfold opRmac; simp
@[simp ↓] theorem opClr_mem (n : Nat) (w : Word) (fetch : Ecc) (s : State) : (opClr n w fetch s).mem = s.mem := by unfold opClr; simp
@[simp ↓] theorem opRacc_mem (n : Nat) (w : Word) (fetch : Ecc) (s : State) : (opRacc n w fetch s).mem = s.mem := by unfold opRacc; simp
@[simp ↓] theorem opMva_mem (n : Nat) (w : Word) (fetch : Ecc) (s : State) : (opMva n w fetch s).mem = s.mem := by unfold opMva; simp
@[simp ↓] theorem eccTrap_mem (n addr : Nat) (s : State) : (eccTrap n addr s).mem = s.mem := by unfold eccTrap; simp
@[simp ↓] theorem loadOp_mem (n : Nat) (w : Word) (fetch : Ecc) (a : Nat) (ecc : Ecc) (put : Engine → Nat → Engine) (s : State) :
    (loadOp n w fetch a ecc put s).mem = s.mem := by
  unfold loadOp
  refine issue_mem (fun e => ?_) _ _ _ _ _ _ _ _
  dsimp only
  split
  · simp
  · split <;> simp
@[simp ↓] theorem opLdB_mem (n : Nat) (w : Word) (ecc fetch : Ecc) (s : State) : (opLdB n w ecc fetch s).mem = s.mem := by
  unfold opLdB
  simp
@[simp ↓] theorem opLdBu_mem (n : Nat) (w : Word) (ecc fetch : Ecc) (s : State) : (opLdBu n w ecc fetch s).mem = s.mem := by
  unfold opLdBu
  simp
@[simp ↓] theorem opLdH_mem (n : Nat) (w : Word) (ecc fetch : Ecc) (s : State) : (opLdH n w ecc fetch s).mem = s.mem := by
  unfold opLdH
  simp
@[simp ↓] theorem opLdHu_mem (n : Nat) (w : Word) (ecc fetch : Ecc) (s : State) : (opLdHu n w ecc fetch s).mem = s.mem := by
  unfold opLdHu
  simp
@[simp ↓] theorem opLdW_mem (n : Nat) (w : Word) (ecc fetch : Ecc) (s : State) : (opLdW n w ecc fetch s).mem = s.mem := by
  unfold opLdW
  simp
@[simp ↓] theorem opLdD_mem (n : Nat) (w : Word) (ecc fetch : Ecc) (s : State) : (opLdD n w ecc fetch s).mem = s.mem := by
  unfold opLdD
  simp
@[simp ↓] theorem farOp_mem {f : Engine → Nat → Issue} (hf : ∀ e a, (f e a).Does KeepsMem) (n : Nat) (w : Word) (fetch : Ecc)
    (writes : List Nat) (s : State) :
    (farOp n w fetch writes f s).mem = s.mem := issue_mem (fun e => by simp [hf]) _ _ _ _ _ _ _ _
@[simp ↓] theorem opLdf_mem (n : Nat) (w : Word) (fetch : Ecc) (s : State) : (opLdf n w fetch s).mem = s.mem := by unfold opLdf; simp
@[simp ↓] theorem opStf_mem (n : Nat) (w : Word) (fetch : Ecc) (s : State) : (opStf n w fetch s).mem = s.mem := by unfold opStf; simp
@[simp ↓] theorem opStfAck_mem (n : Nat) (w : Word) (fetch : Ecc) (s : State) : (opStfAck n w fetch s).mem = s.mem := by
  unfold opStfAck
  simp
@[simp ↓] theorem opFarStoreInjected_mem (n : Nat) (s : State) : (opFarStoreInjected n s).mem = s.mem := by
  unfold opFarStoreInjected
  split <;> simp
@[simp ↓] theorem opFarResponse_mem (n id : Nat) (s : State) : (opFarResponse n id s).mem = s.mem := by
  unfold opFarResponse
  split
  · simp
  · split
    · split
      · simp
      · split
        · split
          · dsimp only
            split <;> simp
          · dsimp only
            split <;> simp
        · split
          · dsimp only
            split <;> simp
          · dsimp only
            split <;> simp
    · simp
@[simp ↓] theorem opFarErr_mem (n : Nat) (s : State) : (opFarErr n s).mem = s.mem := by
  unfold opFarErr
  dsimp only
  split <;> simp
@[simp ↓] theorem opFencef_mem (n : Nat) (w : Word) (fetch : Ecc) (s : State) : (opFencef n w fetch s).mem = s.mem := by
  unfold opFencef
  simp
@[simp ↓] theorem opB_mem (n : Nat) (w : Word) (fetch : Ecc) (s : State) : (opB n w fetch s).mem = s.mem := by unfold opB; simp
@[simp ↓] theorem opBz_mem (n : Nat) (w : Word) (fetch : Ecc) (s : State) : (opBz n w fetch s).mem = s.mem := by unfold opBz; simp
@[simp ↓] theorem opBnz_mem (n : Nat) (w : Word) (fetch : Ecc) (s : State) : (opBnz n w fetch s).mem = s.mem := by unfold opBnz; simp
@[simp ↓] theorem opBl_mem (n : Nat) (w : Word) (fetch : Ecc) (s : State) : (opBl n w fetch s).mem = s.mem := by unfold opBl; simp
@[simp ↓] theorem opJr_mem (n : Nat) (w : Word) (fetch : Ecc) (s : State) : (opJr n w fetch s).mem = s.mem :=
  issueWith_mem (jumpFault_does w) (by simp) _ _ _ _ _ _ _ _
@[simp ↓] theorem opJal_mem (n : Nat) (w : Word) (fetch : Ecc) (s : State) :
    (opJal n w fetch s).mem = s.mem := issueWith_mem (jumpFault_does w) (by simp) _ _ _ _ _ _ _ _
@[simp ↓] theorem opRpt_mem (n : Nat) (w : Word) (fetch : Ecc) (s : State) : (opRpt n w fetch s).mem = s.mem := by unfold opRpt; simp
@[simp ↓] theorem opRepeatEnd_mem (n : Nat) (s : State) : (opRepeatEnd n s).mem = s.mem := by unfold opRepeatEnd; simp
@[simp ↓] theorem opWait_mem (n : Nat) (w : Word) (fetch : Ecc) (s : State) : (opWait n w fetch s).mem = s.mem := by unfold opWait; simp
@[simp ↓] theorem opReti_mem (n : Nat) (w : Word) (fetch : Ecc) (s : State) : (opReti n w fetch s).mem = s.mem := by unfold opReti; simp
@[simp ↓] theorem opTrap_mem (n : Nat) (w : Word) (fetch : Ecc) (s : State) : (opTrap n w fetch s).mem = s.mem := by unfold opTrap; simp
@[simp ↓] theorem opBrk_mem (n : Nat) (w : Word) (fetch : Ecc) (s : State) : (opBrk n w fetch s).mem = s.mem := by unfold opBrk; simp
@[simp ↓] theorem opUndef_mem (n : Nat) (w : Word) (fetch : Ecc) (s : State) : (opUndef n w fetch s).mem = s.mem := by unfold opUndef; simp
@[simp ↓] theorem opMfs_mem (n : Nat) (w : Word) (fetch : Ecc) (s : State) : (opMfs n w fetch s).mem = s.mem := by unfold opMfs; simp
@[simp ↓] theorem opMts_mem (n : Nat) (w : Word) (fetch : Ecc) (s : State) : (opMts n w fetch s).mem = s.mem := by unfold opMts; simp

/-! ### Sys2Proof/Machine/Domain.lean -/

@[simp ↓] theorem startWake_mem (d code : Nat) (s : State) : (startWake d code s).mem = s.mem := by unfold startWake; simp
@[simp ↓] theorem engineWake_mem (n code : Nat) (s : State) : (engineWake n code s).mem = s.mem := by
  unfold engineWake
  split <;> simp
@[simp ↓] theorem irqSet_mem (n mask : Nat) (s : State) : (irqSet n mask s).mem = s.mem := by unfold irqSet; simp
@[simp ↓] theorem enterSleep_mem (d : Nat) (target : EngMode) (s : State) : (enterSleep d target s).mem = s.mem := by
  unfold enterSleep
  simp

/-! ### Sys2Proof/Machine/EngCtl.lean -/

@[simp ↓] theorem opInterrupt_mem (n : Nat) (s : State) : (opInterrupt n s).mem = s.mem := by unfold opInterrupt; simp
@[simp ↓] theorem opEngIrqLate_mem (n line : Nat) (s : State) : (opEngIrqLate n line s).mem = s.mem := by unfold opEngIrqLate; simp
@[simp ↓] theorem withdrawAll_mem (n : Nat) (s : State) : (withdrawAll n s).mem = s.mem := by unfold withdrawAll; simp
@[simp ↓] theorem opWithdrawAnswer_mem (n id : Nat) (s : State) : (opWithdrawAnswer n id s).mem = s.mem := by
  unfold opWithdrawAnswer
  split <;> simp
@[simp ↓] theorem killAck_mem (n : Nat) (s : State) : (killAck n s).mem = s.mem := by unfold killAck; simp
@[simp ↓] theorem killPend_mem (n who : Nat) (s : State) : (killPend n who s).mem = s.mem := by unfold killPend; simp
@[simp ↓] theorem killMessage_mem (n : Nat) (s : State) : (killMessage n s).mem = s.mem := by unfold killMessage; simp
@[simp ↓] theorem opKilled_mem (n : Nat) (s : State) : (opKilled n s).mem = s.mem := by unfold opKilled; simp
@[simp ↓] theorem engineReset_mem (n : Nat) (s : State) : (engineReset n s).mem = s.mem := by unfold engineReset; simp
@[simp ↓] theorem engCtrlWrite_mem (n v : Nat) (s : State) : (engCtrlWrite n v s).mem = s.mem := by unfold engCtrlWrite; simp
@[simp ↓] theorem opEngHalted_mem (n : Nat) (s : State) : (opEngHalted n s).mem = s.mem := by unfold opEngHalted; simp
@[simp ↓] theorem opWaitDrainDone_mem (n : Nat) (s0 : State) : (opWaitDrainDone n s0).mem = s0.mem := by unfold opWaitDrainDone; simp
@[simp ↓] theorem opCop_mem (n : Nat) (w : Word) (fetch : Ecc) (s : State) : (opCop n w fetch s).mem = s.mem := by unfold opCop; simp
@[simp ↓] theorem opCopAnswer_mem (n : Nat) (s : State) : (opCopAnswer n s).mem = s.mem := by
  unfold opCopAnswer
  dsimp only
  split
  · simp
  · split <;> simp

/-! ### Sys2Proof/Machine/Accelerator.lean -/

@[simp ↓] theorem modHead_mem (k : Nat) (f : Job → Job) (s : State) : (modHead k f s).mem = s.mem := by unfold modHead; simp
@[simp ↓] theorem readRange_mem (ag : Agent) (use a len : Nat) (s : State) : (readRange ag use a len s).mem = s.mem := by
  unfold readRange
  simp
@[simp ↓] theorem writeRange_mem (ag : Agent) (use a : Nat) (bs : List Byte) (s : State) : (writeRange ag use a bs s).mem = s.mem := by
  unfold writeRange
  simp
@[simp ↓] theorem dropUse_mem (ag : Agent) (use : Nat) (s : State) : (dropUse ag use s).mem = s.mem := by unfold dropUse; simp
@[simp ↓] theorem accRefuse_mem (k id e opc desc code detail : Nat) (s : State) :
    (accRefuse k id e opc desc code detail s).mem = s.mem := by
  unfold accRefuse
  simp
@[simp ↓] theorem opAccRequest_mem (k id : Nat) (s : State) : (opAccRequest k id s).mem = s.mem := by
  unfold opAccRequest
  split
  · simp
  · split <;> simp
@[simp ↓] theorem opAccDescriptorFetched_mem (k id : Nat) (s : State) : (opAccDescriptorFetched k id s).mem = s.mem := by
  unfold opAccDescriptorFetched
  split
  · simp
  · split
    · simp
    · split
      · dsimp only
        split <;> simp
      · dsimp only
        split
        · simp
        · split <;> simp
@[simp ↓] theorem issueStatus_mem (k : Nat) (s : State) : (issueStatus k s).mem = s.mem := by
  unfold issueStatus
  split <;> simp
@[simp ↓] theorem changeJob_mem (k no : Nat) (f : Job → Job) (s : State) : (changeJob k no f s).mem = s.mem := by unfold changeJob; simp
@[simp ↓] theorem readInput_mem (k : Nat) (j : Job) (i : Nat) (s : State) : (readInput k j i s).mem = s.mem := by unfold readInput; simp
@[simp ↓] theorem opJobStart_mem (k : Nat) (s : State) : (opJobStart k s).mem = s.mem := by
  unfold opJobStart
  split
  · simp
  · split
    · simp
    · split
      · simp
      · split
        · split <;> simp
        · simp
@[simp ↓] theorem outWrite_mem (k : Nat) (j : Job) (i off : Nat) (bs : List Byte) (s : State) : (outWrite k j i off bs s).mem = s.mem := by
  unfold outWrite
  simp
@[simp ↓] theorem issueOutputs_mem (k n : Nat) (s : State) : (issueOutputs k n s).mem = s.mem := by
  unfold issueOutputs
  split <;> simp
@[simp ↓] theorem accMemErrors_mem (k corr uncorr row : Nat) (s : State) : (accMemErrors k corr uncorr row s).mem = s.mem := by
  unfold accMemErrors
  simp
@[simp ↓] theorem opAccInputReadAnswer_mem (k id corr uncorr row : Nat) (s : State) :
    (opAccInputReadAnswer k id corr uncorr row s).mem = s.mem := by
  unfold opAccInputReadAnswer
  split
  · simp
  · split
    · simp
    · split
      · simp
      · split
        · simp
        · dsimp only
          split
          · split
            · simp
            · split <;> simp
          · simp
@[simp ↓] theorem opLastOutputWrite_mem (k corr uncorr row : Nat) (s : State) : (opLastOutputWrite k corr uncorr row s).mem = s.mem := by
  unfold opLastOutputWrite
  split <;> simp
@[simp ↓] theorem opOutputWritesAccepted_mem (k : Nat) (s : State) : (opOutputWritesAccepted k s).mem = s.mem := by
  unfold opOutputWritesAccepted
  split <;> simp
@[simp ↓] theorem opResultWriteAccepted_mem (k : Nat) (s : State) : (opResultWriteAccepted k s).mem = s.mem := by
  unfold opResultWriteAccepted
  split
  · simp
  · split <;> simp
@[simp ↓] theorem jobEvents_mem (k : Nat) (j : Job) (s : State) : (jobEvents k j s).mem = s.mem := by unfold jobEvents; simp
@[simp ↓] theorem afterJob_mem (k : Nat) (s : State) : (afterJob k s).mem = s.mem := by
  unfold afterJob
  split <;> simp
@[simp ↓] theorem statusFailed_mem (k code : Nat) (s : State) : (statusFailed k code s).mem = s.mem := by unfold statusFailed; simp
@[simp ↓] theorem opStatusWriteAccepted_mem (k id : Nat) (s : State) : (opStatusWriteAccepted k id s).mem = s.mem := by
  unfold opStatusWriteAccepted
  split
  · simp
  · split
    · simp
    · split <;> simp
@[simp ↓] theorem opWithdraw_mem (k id : Nat) (s : State) : (opWithdraw k id s).mem = s.mem := by
  unfold opWithdraw
  split
  · simp
  · split <;> simp
@[simp ↓] theorem accFlush_mem (k : Nat) (s : State) : (accFlush k s).mem = s.mem := by unfold accFlush; simp

/-! ### Sys2Proof/Machine/Recorder.lean -/

@[simp ↓] theorem postPieces_mem (ag : Agent) (use k a : Nat) (bs : List Byte) (s : State) : (postPieces ag use k a bs s).mem = s.mem := by
  unfold postPieces
  simp
@[simp ↓] theorem recHeader_mem (s : State) : (recHeader s).mem = s.mem := by
  unfold recHeader
  exact (postPieces_mem ..).trans (postPieces_mem ..)
@[simp ↓] theorem setRecStatus_mem (hi lo x : Nat) (s : State) : (setRecStatus hi lo x s).mem = s.mem := by unfold setRecStatus; simp
@[simp ↓] theorem recAtWr_mem (typ src : Nat) (payload : List Byte) (s : State) : (recAtWr typ src payload s).mem = s.mem := by
  rw [recAtWr, mem_bump, mem_wr, mem_withRecorder, postPieces_mem]
@[simp ↓] theorem recPlace_mem (typ src : Nat) (payload : List Byte) (s : State) : (recPlace typ src payload s).mem = s.mem := by
  unfold recPlace
  simp
@[simp ↓] theorem recLoss_mem (s : State) : (recLoss s).mem = s.mem := by unfold recLoss; simp
@[simp ↓] theorem recAppend_mem (typ src : Nat) (payload : List Byte) (s : State) : (recAppend typ src payload s).mem = s.mem := by
  unfold recAppend
  simp
@[simp ↓] theorem recKind_mem (bit typ src : Nat) (payload : List Byte) (s : State) : (recKind bit typ src payload s).mem = s.mem := by
  unfold recKind
  simp
@[simp ↓] theorem recLink_mem (src st : Nat) (s : State) : (recLink src st s).mem = s.mem := by unfold recLink; simp
@[simp ↓] theorem recTrigger_mem (num : Nat) (s : State) : (recTrigger num s).mem = s.mem := by unfold recTrigger; simp
@[simp ↓] theorem recCapture_mem (typ src : Nat) (payload : List Byte) (s : State) : (recCapture typ src payload s).mem = s.mem := by
  unfold recCapture
  simp

/-! ### Sys2Proof/Machine/Churn.lean -/

@[simp ↓] theorem modCtx_mem (sl c : Nat) (f : Context → Context) (s : State) : (modCtx sl c f s).mem = s.mem := by unfold modCtx; simp
@[simp ↓] theorem modDisp_mem (sl e : Nat) (f : List DispEntry → List DispEntry) (s : State) : (modDisp sl e f s).mem = s.mem := by
  unfold modDisp
  simp
@[simp ↓] theorem churnEvent_mem (sl bit : Nat) (s : State) : (churnEvent sl bit s).mem = s.mem := by unfold churnEvent; simp
@[simp ↓] theorem cancelCtx_mem (sl c : Nat) (s : State) : (cancelCtx sl c s).mem = s.mem := by unfold cancelCtx; simp
@[simp ↓] theorem opKillAcknowledgement_mem (sl e : Nat) (s : State) : (opKillAcknowledgement sl e s).mem = s.mem := by
  unfold opKillAcknowledgement
  dsimp only
  split <;> simp
@[simp ↓] theorem readyIf_mem (sl c : Nat) (s : State) : (readyIf sl c s).mem = s.mem := by unfold readyIf; simp
@[simp ↓] theorem landToken_mem (sl c n value : Nat) (s : State) : (landToken sl c n value s).mem = s.mem := by unfold landToken; simp
@[simp ↓] theorem flushTokens_mem (sl : Nat) (s : State) : (flushTokens sl s).mem = s.mem := by unfold flushTokens; simp
@[simp ↓] theorem logToken_mem (sl key src : Nat) (s : State) : (logToken sl key src s).mem = s.mem := by unfold logToken; simp
@[simp ↓] theorem acceptToken_mem (sl key src value : Nat) (s : State) : (acceptToken sl key src value s).mem = s.mem := by
  unfold acceptToken
  simp
@[simp ↓] theorem diverge_mem (sl : Nat) (s : State) : (diverge sl s).mem = s.mem := by unfold diverge; simp
@[simp ↓] theorem drainOne_mem (sl : Nat) (s : State) : (drainOne sl s).mem = s.mem := by
  unfold drainOne
  split
  · simp
  · split <;> simp
@[simp ↓] theorem drainAll_mem (k sl : Nat) (s : State) : (drainAll k sl s).mem = s.mem := by
  fun_induction drainAll <;> simp_all
@[simp ↓] theorem arriveToken_mem (sl key src value : Nat) (s0 : State) : (arriveToken sl key src value s0).mem = s0.mem := by
  unfold arriveToken
  dsimp only
  split
  · split <;> simp
  · simp
@[simp ↓] theorem opHeldTokenAccepted_mem (sl : Nat) (s : State) : (opHeldTokenAccepted sl s).mem = s.mem := by
  unfold opHeldTokenAccepted
  simp
@[simp ↓] theorem opOrderLogReadAnswer_mem (sl : Nat) (s : State) : (opOrderLogReadAnswer sl s).mem = s.mem := by
  unfold opOrderLogReadAnswer
  simp
@[simp ↓] theorem armCtx_mem (sl c : Nat) (s : State) : (armCtx sl c s).mem = s.mem := by unfold armCtx; simp
@[simp ↓] theorem churnDo_mem (sl op c : Nat) (s : State) : (churnDo sl op c s).2.mem = s.mem := by
  unfold churnDo
  split <;> simp
@[simp ↓] theorem churnCmd_mem (sl v : Nat) (s : State) : (churnCmd sl v s).mem = s.mem := by unfold churnCmd; simp
@[simp ↓] theorem badMsg_mem (sl : Nat) (s : State) : (badMsg sl s).mem = s.mem := by unfold badMsg; simp
@[simp ↓] theorem churnMsg_mem (sl w0 w1 src res : Nat) (s : State) : (churnMsg sl w0 w1 src res s).mem = s.mem := by
  unfold churnMsg
  split
  · simp
  · split <;> simp
@[simp ↓] theorem opToken_mem (sl w0 w1 src res : Nat) (s : State) : (opToken sl w0 w1 src res s).mem = s.mem := by unfold opToken; simp
@[simp ↓] theorem opArmMessage_mem (sl w0 src res : Nat) (s : State) : (opArmMessage sl w0 src res s).mem = s.mem := by
  unfold opArmMessage
  simp
@[simp ↓] theorem opCancelMessage_mem (sl w0 src res : Nat) (s : State) : (opCancelMessage sl w0 src res s).mem = s.mem := by
  unfold opCancelMessage
  simp
@[simp ↓] theorem notify_mem (sl e : Nat) (s : State) : (notify sl e s).mem = s.mem := by unfold notify; simp
@[simp ↓] theorem place_mem (sl e c : Nat) (s : State) : (place sl e c s).mem = s.mem := by unfold place; simp
@[simp ↓] theorem opDispatch_mem (sl : Nat) (s : State) : (opDispatch sl s).mem = s.mem := by
  unfold opDispatch
  split
  · split
    · simp
    · split <;> simp
  · simp
@[simp ↓] theorem opOperandAreaAccepted_mem (sl e : Nat) (s : State) : (opOperandAreaAccepted sl e s).mem = s.mem := by
  unfold opOperandAreaAccepted
  split <;> simp
@[simp ↓] theorem completeTask_mem (sl e c : Nat) (s : State) : (completeTask sl e c s).mem = s.mem := by unfold completeTask; simp
@[simp ↓] theorem takeNext_mem (sl e : Nat) (s : State) : (takeNext sl e s).2.mem = s.mem := by
  unfold takeNext
  split
  · simp
  · split <;> simp
@[simp ↓] theorem churnNext_mem (sl e : Nat) (s : State) : (churnNext sl e s).2.2.mem = s.mem := by
  unfold churnNext
  split
  · split <;> simp
  · simp
@[simp ↓] theorem churnBoundary_mem (sl k k' : Nat) (s : State) : (churnBoundary sl k k' s).mem = s.mem := by
  unfold churnBoundary
  dsimp only
  split <;> simp
@[simp ↓] theorem returnEntries_mem (sl e : Nat) (s : State) : (returnEntries sl e s).mem = s.mem := by unfold returnEntries; simp
@[simp ↓] theorem churnNewRound_mem (sl : Nat) (s : State) : (churnNewRound sl s).mem = s.mem := by unfold churnNewRound; simp

/-! ### Sys2Proof/Machine/DmaBus.lean -/

@[simp ↓] theorem dmaSync_mem (e : Nat) (s : State) : (dmaSync e s).mem = s.mem := by unfold dmaSync; simp
@[simp ↓] theorem dmaSetState_mem (e ch st : Nat) (s : State) : (dmaSetState e ch st s).mem = s.mem := by unfold dmaSetState; simp
@[simp ↓] theorem dmaBusErr_mem (e addr kind code : Nat) (s : State) : (dmaBusErr e addr kind code s).mem = s.mem := by
  unfold dmaBusErr
  simp
@[simp ↓] theorem dmaRefused_mem (e ch use addr code : Nat) (s : State) : (dmaRefused e ch use addr code s).mem = s.mem := by
  unfold dmaRefused
  simp
@[simp ↓] theorem dmaSent_mem (t : Txn) (s : State) : (dmaSent t s).mem = s.mem := by
  unfold dmaSent
  split <;> simp
@[simp ↓] theorem heldRefused_mem (t : Txn) (code : Nat) (s : State) : (heldRefused t code s).mem = s.mem := by
  unfold heldRefused
  split <;> simp

/-! ### Sys2Proof/Machine/Noc.lean -/

@[simp ↓] theorem countInjection_mem (s : State) : (countInjection s).mem = s.mem := by unfold countInjection; simp
@[simp ↓] theorem inject_mem (id : Nat) (s : State) : (inject id s).mem = s.mem := by
  unfold inject
  split
  · simp
  · split <;> simp
@[simp ↓] theorem opHeldRequestInjected_mem (id : Nat) (s : State) : (opHeldRequestInjected id s).mem = s.mem := by
  unfold opHeldRequestInjected
  split <;> simp
@[simp ↓] theorem opRequestTimeout_mem (id : Nat) (s : State) : (opRequestTimeout id s).mem = s.mem := by
  unfold opRequestTimeout
  split <;> simp
@[simp ↓] theorem opLateAnswer_mem (id : Nat) (s : State) : (opLateAnswer id s).mem = s.mem := by
  unfold opLateAnswer
  split <;> simp
@[simp ↓] theorem opPlaceFreed_mem (id : Nat) (s : State) : (opPlaceFreed id s).mem = s.mem := by
  unfold opPlaceFreed
  split <;> simp
@[simp ↓] theorem noticeArrives_mem (id : Nat) (s : State) : (noticeArrives id s).mem = s.mem := by
  unfold noticeArrives
  split
  · simp
  · split
    · simp
    · split <;> simp
@[simp ↓] theorem portTaken_mem (t : Txn) (s : State) : (portTaken t s).mem = s.mem := by unfold portTaken; simp
@[simp ↓] theorem guardAnswers_mem (id code : Nat) (s : State) : (guardAnswers id code s).mem = s.mem := by unfold guardAnswers; simp
@[simp ↓] theorem opGuardAccess_mem (id : Nat) (s : State) : (opGuardAccess id s).mem = s.mem := by
  unfold opGuardAccess
  split
  · simp
  · split
    · split <;> simp
    · simp
@[simp ↓] theorem opNack_mem (id : Nat) (s : State) : (opNack id s).mem = s.mem := by
  unfold opNack
  split <;> simp
@[simp ↓] theorem opBook_mem (id : Nat) (s : State) : (opBook id s).mem = s.mem := by
  unfold opBook
  split <;> simp
@[simp ↓] theorem opDeny_mem (id : Nat) (s : State) : (opDeny id s).mem = s.mem := by
  unfold opDeny
  split <;> simp
@[simp ↓] theorem opBookRetry_mem (id : Nat) (s : State) : (opBookRetry id s).mem = s.mem := by
  unfold opBookRetry
  split <;> simp
@[simp ↓] theorem opGrant_mem (id : Nat) (s : State) : (opGrant id s).mem = s.mem := by
  unfold opGrant
  split
  · simp
  · split <;> simp
@[simp ↓] theorem releaseSlots_mem (d : Nat) (woke : Bool) (s : State) : (releaseSlots d woke s).mem = s.mem := by unfold releaseSlots; simp
@[simp ↓] theorem syncRouters_mem (s : State) : (syncRouters s).mem = s.mem := by unfold syncRouters; simp
@[simp ↓] theorem drainEnd_mem (s : State) : (drainEnd s).mem = s.mem := by unfold drainEnd; simp
@[simp ↓] theorem drainStart_mem (rtrs : List (Nat × Nat)) (routes : List (Nat × DWord)) (extra : List Nat) (s : State) :
    (drainStart rtrs routes extra s).mem = s.mem := by
  unfold drainStart
  split
  · simp
  · dsimp only
    split <;> simp
@[simp ↓] theorem opRouterApply_mem (n : Nat) (s : State) : (opRouterApply n s).mem = s.mem := by unfold opRouterApply; simp
@[simp ↓] theorem opNocDrainSlow_mem (s : State) : (opNocDrainSlow s).mem = s.mem := by unfold opNocDrainSlow; simp
@[simp ↓] theorem setRedBufs_mem (n : Nat) (l : List Txn) (s : State) : (setRedBufs n l s).mem = s.mem := by unfold setRedBufs; simp
@[simp ↓] theorem redLeave_mem (n i : Nat) (s : State) : (redLeave n i s).mem = s.mem := by
  unfold redLeave
  split <;> simp
@[simp ↓] theorem opRedPacketAtRouter_mem (n id : Nat) (s : State) : (opRedPacketAtRouter n id s).mem = s.mem := by
  unfold opRedPacketAtRouter
  split
  · simp
  · split
    · simp
    · split
      · split
        · dsimp only
          split <;> simp
        · dsimp only
          split <;> simp
      · simp
@[simp ↓] theorem opRedHoldExpiry_mem (n i : Nat) (s : State) : (opRedHoldExpiry n i s).mem = s.mem := by unfold opRedHoldExpiry; simp
@[simp ↓] theorem redErr_mem (cause c tag : Nat) (s : State) : (redErr cause c tag s).mem = s.mem := by unfold redErr; simp
@[simp ↓] theorem redSetup_mem (c tag count cls : Nat) (s : State) : (redSetup c tag count cls s).2.mem = s.mem := by unfold redSetup; simp
@[simp ↓] theorem opRedSetupReceived_mem (id : Nat) (s : State) : (opRedSetupReceived id s).mem = s.mem := by
  unfold opRedSetupReceived
  split
  · simp
  · split <;> simp
@[simp ↓] theorem modRed_mem (c tag : Nat) (f : Reduction → Reduction) (s : State) : (modRed c tag f s).mem = s.mem := by
  unfold modRed
  simp
@[simp ↓] theorem opRedPartial_mem (c id : Nat) (s : State) : (opRedPartial c id s).mem = s.mem := by
  unfold opRedPartial
  split
  · simp
  · split
    · simp
    · split
      · split <;> simp
      · simp
@[simp ↓] theorem opRedTableAnswer_mem (c tag : Nat) (s : State) : (opRedTableAnswer c tag s).mem = s.mem := by
  unfold opRedTableAnswer
  split
  · simp
  · split <;> simp
@[simp ↓] theorem opRedResultAccepted_mem (c tag : Nat) (s : State) : (opRedResultAccepted c tag s).mem = s.mem := by
  unfold opRedResultAccepted
  split <;> simp
@[simp ↓] theorem redBoundary_mem (k c : Nat) (s : State) : (redBoundary k c s).mem = s.mem := by unfold redBoundary; simp

/-! ### Sys2Proof/Machine/Memory.lean -/

@[simp ↓] theorem memUncorr_mem (a node port : Nat) (s : State) : (memUncorr a node port s).mem = s.mem := by unfold memUncorr; simp
@[simp ↓] theorem memCorr_mem (a : Nat) (s : State) : (memCorr a s).mem = s.mem := by unfold memCorr; simp
@[simp ↓] theorem dramBytes_mem (write : Bool) (a n : Nat) (s : State) : (dramBytes write a n s).mem = s.mem := by unfold dramBytes; simp
@[simp ↓] theorem redSend_mem (c v : Nat) (s : State) : (redSend c v s).2.mem = s.mem := by unfold redSend; simp
@[simp ↓] theorem opDramTrainingEnd_mem (ch : Nat) (failed : Bool) (s : State) : (opDramTrainingEnd ch failed s).mem = s.mem := by
  unfold opDramTrainingEnd
  simp
@[simp ↓] theorem opDramTemperatureRead_mem (ch : Nat) (hot : Bool) (s : State) : (opDramTemperatureRead ch hot s).mem = s.mem := by
  unfold opDramTemperatureRead
  simp
@[simp ↓] theorem opScrubPass_mem (ch corr : Nat) (s : State) : (opScrubPass ch corr s).mem = s.mem := by unfold opScrubPass; simp

/-! ### Sys2Proof/Machine/Dma.lean -/

@[simp ↓] theorem opDmaQuiet_mem (e : Nat) (s : State) : (opDmaQuiet e s).mem = s.mem := by
  unfold opDmaQuiet
  split <;> simp
@[simp ↓] theorem dmaBusClr_mem (e : Nat) (s : State) : (dmaBusClr e s).2.mem = s.mem := by unfold dmaBusClr; simp
@[simp ↓] theorem dmaWrite_mem (e ch use a : Nat) (bs : List Byte) (s : State) : (dmaWrite e ch use a bs s).mem = s.mem := by
  unfold dmaWrite
  split
  · simp
  · dsimp only
    split <;> simp
@[simp ↓] theorem dmaRead_mem (e ch use a len kind : Nat) (s : State) : (dmaRead e ch use a len kind s).mem = s.mem := by
  unfold dmaRead
  simp
@[simp ↓] theorem dmaStart_mem (e ch addr : Nat) (s : State) : (dmaStart e ch addr s).2.mem = s.mem := by unfold dmaStart; simp
@[simp ↓] theorem dmaEnd_mem (e ch code : Nat) (s : State) : (dmaEnd e ch code s).mem = s.mem := by unfold dmaEnd; simp
@[simp ↓] theorem dmaHalf_mem (e ch : Nat) (s : State) : (dmaHalf e ch s).mem = s.mem := by
  unfold dmaHalf
  dsimp only
  split <;> simp
@[simp ↓] theorem dmaPut_mem (e ch use a : Nat) (bs : List Byte) (ph : Nat) (s : State) : (dmaPut e ch use a bs ph s).mem = s.mem := by
  unfold dmaPut
  simp
@[simp ↓] theorem dmaPutCrc_mem (e ch : Nat) (d : List Byte) (s : State) : (dmaPutCrc e ch d s).mem = s.mem := by unfold dmaPutCrc; simp
@[simp ↓] theorem dmaPutStatus_mem (e ch : Nat) (s : State) : (dmaPutStatus e ch s).mem = s.mem := by unfold dmaPutStatus; simp
@[simp ↓] theorem dmaPutStopped_mem (e ch : Nat) (s : State) : (dmaPutStopped e ch s).mem = s.mem := by unfold dmaPutStopped; simp
@[simp ↓] theorem dmaIssue_mem (e ch : Nat) (pre : Bool) (s : State) : (dmaIssue e ch pre s).mem = s.mem := by
  unfold dmaIssue
  dsimp only
  split <;> simp
@[simp ↓] theorem opDmaBurstIssue_mem (e : Nat) (pre : Bool) (s : State) : (opDmaBurstIssue e pre s).mem = s.mem := by
  unfold opDmaBurstIssue
  split <;> simp
@[simp ↓] theorem dmaIssueDue_mem (e ch : Nat) (s : State) : (dmaIssueDue e ch s).mem = s.mem := by unfold dmaIssueDue; simp
@[simp ↓] theorem opDmaReadAnswer_mem (e ch id : Nat) (s : State) : (opDmaReadAnswer e ch id s).mem = s.mem := by
  unfold opDmaReadAnswer
  split
  · rfl
  · split
    · rfl
    · split
      · dsimp only
        split
        · rw [dmaBusErr_mem, dmaSync_mem, takeAns_mem]
        · split
          · simp
          · split
            · simp
            · rw [dmaWrite_mem]
              split <;> simp
      · rfl
@[simp ↓] theorem dmaExecute_mem (e ch addr : Nat) (d : List Byte) (s : State) : (dmaExecute e ch addr d s).mem = s.mem := by
  unfold dmaExecute
  simp
@[simp ↓] theorem dmaJudge_mem (e ch addr : Nat) (d : List Byte) (s : State) : (dmaJudge e ch addr d s).mem = s.mem := by
  unfold dmaJudge
  simp
@[simp ↓] theorem dmaJudgePre_mem (e ch addr : Nat) (d : List Byte) (s : State) : (dmaJudgePre e ch addr d s).mem = s.mem := by
  unfold dmaJudgePre
  simp
@[simp ↓] theorem opDmaDescriptorFetched_mem (e ch : Nat) (s : State) : (opDmaDescriptorFetched e ch s).mem = s.mem := by
  unfold opDmaDescriptorFetched
  split <;> simp
@[simp ↓] theorem opDmaDataAccepted_mem (e ch : Nat) (s : State) : (opDmaDataAccepted e ch s).mem = s.mem := by
  unfold opDmaDataAccepted
  simp
@[simp ↓] theorem opDmaCrcAccepted_mem (e ch : Nat) (s : State) : (opDmaCrcAccepted e ch s).mem = s.mem := by unfold opDmaCrcAccepted; simp
@[simp ↓] theorem dmaChainOn_mem (e ch : Nat) (d : List Byte) (s : State) : (dmaChainOn e ch d s).mem = s.mem := by
  unfold dmaChainOn
  split
  · simp
  · split
    · simp
    · dsimp only
      split
      · simp
      · split <;> simp
@[simp ↓] theorem dmaComplete_mem (e ch : Nat) (d : List Byte) (s : State) : (dmaComplete e ch d s).mem = s.mem := by
  unfold dmaComplete
  simp
@[simp ↓] theorem opDmaStatusAccepted_mem (e ch : Nat) (s : State) : (opDmaStatusAccepted e ch s).mem = s.mem := by
  unfold opDmaStatusAccepted
  dsimp only
  split <;> simp
@[simp ↓] theorem opDmaOwnAccepted_mem (e ch : Nat) (s : State) : (opDmaOwnAccepted e ch s).mem = s.mem := by
  unfold opDmaOwnAccepted
  dsimp only
  split <;> simp
@[simp ↓] theorem dmaStop_mem (e ch : Nat) (s : State) : (dmaStop e ch s).mem = s.mem := by unfold dmaStop; simp
@[simp ↓] theorem opDmaStopComplete_mem (e ch : Nat) (s : State) : (opDmaStopComplete e ch s).mem = s.mem := by
  unfold opDmaStopComplete
  simp
@[simp ↓] theorem dmaBoundary_mem (k e : Nat) (s : State) : (dmaBoundary k e s).mem = s.mem := by unfold dmaBoundary; simp
@[simp ↓] theorem dmaStreams_mem (e : Nat) (old : Nat → Bool) (s : State) : (dmaStreams e old s).mem = s.mem := by
  unfold dmaStreams
  split
  · dsimp only
    split <;> simp
  · dsimp only
    split <;> simp

/-! ### Sys2Proof/Machine/Cfa.lean -/

@[simp ↓] theorem cfaEvent_mem (ch bit num : Nat) (s : State) : (cfaEvent ch bit num s).mem = s.mem := by unfold cfaEvent; simp
@[simp ↓] theorem stageIn_mem (ch i : Nat) (x : Int × Int) (s : State) : (stageIn ch i x s).2.mem = s.mem := by
  unfold stageIn
  split <;> simp
@[simp ↓] theorem stagesIn_mem (ch : Nat) (n i : Nat) (xs : List (Int × Int)) (s : State) : (stagesIn ch n i xs s).2.mem = s.mem := by
  induction n generalizing i xs s with
  | zero => rfl
  | succ n ih =>
    unfold stagesIn
    dsimp only
    rw [ih]
    exact foldl_snd_mem (f := fun a x => (a.1 ++ (stageIn ch i x a.2).1, (stageIn ch i x a.2).2)) (fun a x => stageIn_mem ch i x a.2) xs ([], s)
@[simp ↓] theorem alignIn_mem (ch : Nat) (x : Int × Int) (s : State) : (alignIn ch x s).2.mem = s.mem := by unfold alignIn; simp
@[simp ↓] theorem detectIn_mem (ch : Nat) (x : Int × Int) (s : State) : (detectIn ch x s).mem = s.mem := by unfold detectIn; simp
@[simp ↓] theorem opDetectorWindowEnd_mem (ch : Nat) (s : State) : (opDetectorWindowEnd ch s).mem = s.mem := by
  unfold opDetectorWindowEnd
  split <;> simp
@[simp ↓] theorem cfaMemErr_mem (ecc : Ecc) (word : Nat) (s : State) : (cfaMemErr ecc word s).mem = s.mem := by
  unfold cfaMemErr
  split <;> simp
@[simp ↓] theorem lineOut_mem (ch c : Nat) (xs : List (Int × Int)) (s : State) : (lineOut ch c xs s).mem = s.mem := by unfold lineOut; simp
@[simp ↓] theorem carrierUp_mem (ch : Nat) (x : Int × Int) (s : State) : (carrierUp ch x s).mem = s.mem := by unfold carrierUp; simp
@[simp ↓] theorem linkUpIn_mem (ch : Nat) (x : Int × Int) (s : State) : (linkUpIn ch x s).mem = s.mem := by unfold linkUpIn; simp
@[simp ↓] theorem cfaUp_mem (ch : Nat) (xs : List (Int × Int)) (s : State) : (cfaUp ch xs s).mem = s.mem := by unfold cfaUp; simp
@[simp ↓] theorem cfaUpZero_mem (ch k : Nat) (s : State) : (cfaUpZero ch k s).mem = s.mem := by unfold cfaUpZero; simp
@[simp ↓] theorem cfaMark_mem (ch : Nat) (s : State) : (cfaMark ch s).mem = s.mem := by unfold cfaMark; simp
@[simp ↓] theorem readyWrite_mem (ch v : Nat) (s : State) : (readyWrite ch v s).mem = s.mem := by unfold readyWrite; simp
@[simp ↓] theorem opCfaLineRead_mem (ch : Nat) (s : State) : (opCfaLineRead ch s).mem = s.mem := by unfold opCfaLineRead; simp
@[simp ↓] theorem opCfaLineReadAnswer_mem (ch id : Nat) (s : State) : (opCfaLineReadAnswer ch id s).mem = s.mem := by
  unfold opCfaLineReadAnswer
  split
  · simp
  · split <;> simp
@[simp ↓] theorem carrierDown_mem (ch : Nat) (s : State) : (carrierDown ch s).mem = s.mem := by unfold carrierDown; simp
@[simp ↓] theorem cfaDown_mem (ch k : Nat) (n : Nat) (s : State) : (cfaDown ch k n s).2.mem = s.mem := by
  fun_induction cfaDown <;> simp_all
@[simp ↓] theorem cfaSend_mem (ch k : Nat) (s : State) : (cfaSend ch k s).2.mem = s.mem := by unfold cfaSend; simp
@[simp ↓] theorem cfaHandover_mem (half first count : Nat) (s : State) : (cfaHandover half first count s).mem = s.mem := by
  unfold cfaHandover
  simp
@[simp ↓] theorem opCfaHandover_mem (id : Nat) (s : State) : (opCfaHandover id s).mem = s.mem := by
  unfold opCfaHandover
  split
  · simp
  · split <;> simp
@[simp ↓] theorem coefWrite_mem (k i v : Nat) (s : State) : (coefWrite k i v s).2.mem = s.mem := by unfold coefWrite; simp
@[simp ↓] theorem cfaCheck_mem (s : State) : (cfaCheck s).mem = s.mem := by unfold cfaCheck; simp
@[simp ↓] theorem cfaApplied_mem (ch : Nat) (s0 s : State) : (cfaApplied ch s0 s).mem = s.mem := by unfold cfaApplied; simp
@[simp ↓] theorem cfaBudget_mem (s : State) : (cfaBudget s).mem = s.mem := by unfold cfaBudget; simp
@[simp ↓] theorem cfaCommit_mem (s0 s : State) : (cfaCommit s0 s).mem = s.mem := by unfold cfaCommit; simp
@[simp ↓] theorem cfaNewRound_mem (s : State) : (cfaNewRound s).mem = s.mem := by unfold cfaNewRound; simp

/-! ### Sys2Proof/Machine/Mac.lean -/

@[simp ↓] theorem macEvent_mem (m bit : Nat) (s : State) : (macEvent m bit s).mem = s.mem := by unfold macEvent; simp
@[simp ↓] theorem fhgEvent_mem (m bit : Nat) (s : State) : (fhgEvent m bit s).mem = s.mem := by unfold fhgEvent; simp
@[simp ↓] theorem modRxq_mem (m q : Nat) (f : RxQueue → RxQueue) (s : State) : (modRxq m q f s).mem = s.mem := by unfold modRxq; simp
@[simp ↓] theorem rxDrop_mem (m reg : Nat) (s : State) : (rxDrop m reg s).mem = s.mem := by unfold rxDrop; simp
@[simp ↓] theorem pauseCheck_mem (m : Nat) (s : State) : (pauseCheck m s).mem = s.mem := by unfold pauseCheck; simp
@[simp ↓] theorem opPauseRepeat_mem (m : Nat) (s : State) : (opPauseRepeat m s).mem = s.mem := by unfold opPauseRepeat; simp
@[simp ↓] theorem modRx_mem (m no : Nat) (f : RxFrame → RxFrame) (s : State) : (modRx m no f s).mem = s.mem := by unfold modRx; simp
@[simp ↓] theorem rxRemove_mem (m no : Nat) (s : State) : (rxRemove m no s).mem = s.mem := by unfold rxRemove; simp
@[simp ↓] theorem rxPlace_mem (m : Nat) (f : RxFrame) (s : State) : (rxPlace m f s).1.mem = s.mem := by
  unfold rxPlace
  split <;> simp
@[simp ↓] theorem rxKick_mem (m q : Nat) (k : Nat) (s : State) : (rxKick m q k s).mem = s.mem := by
  induction k generalizing s with
  | zero => rfl
  | succ n ih =>
    unfold rxKick
    split
    · rfl
    · split
      · rfl
      · split
        · simp [ih]
        · split
          · split <;> simp
          · split
            · dsimp only
              split
              · split <;> simp [ih]
              · simp
            · simp [ih]
@[simp ↓] theorem rxGo_mem (m q : Nat) (s : State) : (rxGo m q s).mem = s.mem := by unfold rxGo; simp
@[simp ↓] theorem opRxqEntryAnswer_mem (m q : Nat) (s : State) : (opRxqEntryAnswer m q s).mem = s.mem := by
  unfold opRxqEntryAnswer
  split <;> simp
@[simp ↓] theorem opRxStatusReadAnswer_mem (m q : Nat) (s : State) : (opRxStatusReadAnswer m q s).mem = s.mem := by
  unfold opRxStatusReadAnswer
  split
  · simp
  · split <;> simp
@[simp ↓] theorem opRxFrameWritesAccepted_mem (m q : Nat) (s : State) : (opRxFrameWritesAccepted m q s).mem = s.mem := by
  unfold opRxFrameWritesAccepted
  split <;> simp
@[simp ↓] theorem opRxStatusWriteAccepted_mem (m q : Nat) (s : State) : (opRxStatusWriteAccepted m q s).mem = s.mem := by
  unfold opRxStatusWriteAccepted
  split <;> simp
@[simp ↓] theorem rxqReset_mem (m q : Nat) (s : State) : (rxqReset m q s).mem = s.mem := by unfold rxqReset; simp
@[simp ↓] theorem setHeld_mem (m h : Nat) (s : State) : (setHeld m h s).mem = s.mem := by unfold setHeld; simp
@[simp ↓] theorem pauseReceived_mem (m : Nat) (pfc : Bool) (mask none0 : Nat) (s : State) :
    (pauseReceived m pfc mask none0 s).mem = s.mem := by
  unfold pauseReceived
  simp
@[simp ↓] theorem opPauseFrameReceived_mem (m : Nat) (pfc : Bool) (mask none0 : Nat) (s : State) :
    (opPauseFrameReceived m pfc mask none0 s).mem = s.mem := by
  unfold opPauseFrameReceived
  simp
@[simp ↓] theorem opPauseTimerEnd_mem (m mask : Nat) (s : State) : (opPauseTimerEnd m mask s).mem = s.mem := by unfold opPauseTimerEnd; simp
@[simp ↓] theorem preStart_mem (m : Nat) (s : State) : (preStart m s).mem = s.mem := by unfold preStart; simp
@[simp ↓] theorem opVerifyTimeout_mem (m : Nat) (s : State) : (opVerifyTimeout m s).mem = s.mem := by unfold opVerifyTimeout; simp
@[simp ↓] theorem opVerifyResponseReceived_mem (m : Nat) (s : State) : (opVerifyResponseReceived m s).mem = s.mem := by
  unfold opVerifyResponseReceived
  simp
@[simp ↓] theorem modTx_mem (m q : Nat) (f : TxJob → TxJob) (s : State) : (modTx m q f s).mem = s.mem := by unfold modTx; simp
@[simp ↓] theorem opTxDescriptorRead_mem (m q : Nat) (s : State) : (opTxDescriptorRead m q s).mem = s.mem := by
  unfold opTxDescriptorRead
  simp
@[simp ↓] theorem txComplete_mem (m q : Nat) (s : State) : (txComplete m q s).mem = s.mem := by
  unfold txComplete
  split <;> simp
@[simp ↓] theorem txFail_mem (m q code : Nat) (s : State) : (txFail m q code s).mem = s.mem := by unfold txFail; simp
@[simp ↓] theorem txDrop_mem (m q : Nat) (s : State) : (txDrop m q s).mem = s.mem := by unfold txDrop; simp
@[simp ↓] theorem txDownAll_mem (m : Nat) (s : State) : (txDownAll m s).mem = s.mem := by unfold txDownAll; simp
@[simp ↓] theorem opTxDescriptorAnswer_mem (m q : Nat) (s : State) : (opTxDescriptorAnswer m q s).mem = s.mem := by
  unfold opTxDescriptorAnswer
  split <;> simp
@[simp ↓] theorem opTxFrameReadAnswer_mem (m q : Nat) (s : State) : (opTxFrameReadAnswer m q s).mem = s.mem := by
  unfold opTxFrameReadAnswer
  split <;> simp
@[simp ↓] theorem frameOut_mem (m : Nat) (bs : List Byte) (s : State) : (frameOut m bs s).mem = s.mem := by unfold frameOut; simp
@[simp ↓] theorem startWire_mem (m kind q : Nat) (bs : List Byte) (s : State) : (startWire m kind q bs s).mem = s.mem := by
  unfold startWire
  simp
@[simp ↓] theorem gateTaken_mem (m : Nat) (g : GateJob) (s : State) : (gateTaken m g s).mem = s.mem := by unfold gateTaken; simp
@[simp ↓] theorem opTxFrameStart_mem (m : Nat) (s : State) : (opTxFrameStart m s).mem = s.mem := by
  unfold opTxFrameStart
  dsimp only
  split
  · split
    · simp
    · split
      · simp
      · simp
      · split
        · split <;> simp
        · split <;> simp
  · simp
@[simp ↓] theorem opFragmentPreempt_mem (m n : Nat) (s : State) : (opFragmentPreempt m n s).mem = s.mem := by
  unfold opFragmentPreempt
  split <;> simp
@[simp ↓] theorem wireEnds_mem (m : Nat) (w : Wire) (s : State) : (wireEnds m w s).mem = s.mem := by unfold wireEnds; simp
@[simp ↓] theorem opTxCompletionAccepted_mem (m q : Nat) (s : State) : (opTxCompletionAccepted m q s).mem = s.mem := by
  unfold opTxCompletionAccepted
  split <;> simp
@[simp ↓] theorem opLpiEntry_mem (m : Nat) (s : State) : (opLpiEntry m s).mem = s.mem := by unfold opLpiEntry; simp
@[simp ↓] theorem opLpiWakeDone_mem (m : Nat) (s : State) : (opLpiWakeDone m s).mem = s.mem := by unfold opLpiWakeDone; simp
@[simp ↓] theorem opLpiRx_mem (m : Nat) (on : Bool) (s : State) : (opLpiRx m on s).mem = s.mem := by
  unfold opLpiRx
  split
  · simp
  · split <;> simp
@[simp ↓] theorem gateDiscarded_mem (m : Nat) (g : GateJob) (s : State) : (gateDiscarded m g s).mem = s.mem := by unfold gateDiscarded; simp
@[simp ↓] theorem macLink_mem (m : Nat) (up : Bool) (s : State) : (macLink m up s).mem = s.mem := by
  unfold macLink
  dsimp only
  rw [preStart_mem, txDownAll_mem]
  split <;> split <;> simp
@[simp ↓] theorem gateStops_mem (m : Nat) (s : State) : (gateStops m s).mem = s.mem := by unfold gateStops; simp
@[simp ↓] theorem lpiCommit_mem (m : Nat) (s : State) : (lpiCommit m s).mem = s.mem := by unfold lpiCommit; simp
@[simp ↓] theorem macCommit_mem (s0 s : State) : (macCommit s0 s).mem = s.mem := by unfold macCommit; simp
@[simp ↓] theorem macNewRound_mem (s : State) : (macNewRound s).mem = s.mem := by unfold macNewRound; simp

/-! ### Sys2Proof/Machine/Receive.lean -/

@[simp ↓] theorem countBad_mem (m flag : Nat) (s : State) : (countBad m flag s).mem = s.mem := by unfold countBad; simp
@[simp ↓] theorem mgmtIn_mem (m : Nat) (bs : List Byte) (s : State) : (mgmtIn m bs s).mem = s.mem := by unfold mgmtIn; simp
@[simp ↓] theorem frameFilter_mem (m : Nat) (bs : List Byte) (flags stamp : Nat) (s : State) :
    (frameFilter m bs flags stamp s).mem = s.mem := by
  unfold frameFilter
  split <;> simp
@[simp ↓] theorem frameSort_mem (m : Nat) (bs : List Byte) (bad : Option Nat) (stamp : Nat) (s : State) :
    (frameSort m bs bad stamp s).mem = s.mem := by
  unfold frameSort
  split
  · split <;> simp
  · simp
@[simp ↓] theorem frameClassify_mem (m : Nat) (bs : List Byte) (mark : Bool) (stamp : Nat) (s : State) :
    (frameClassify m bs mark stamp s).mem = s.mem := by
  unfold frameClassify
  split <;> simp
@[simp ↓] theorem frameAdmit_mem (m : Nat) (bs : List Byte) (mark : Bool) (stamp : Nat) (s : State) :
    (frameAdmit m bs mark stamp s).mem = s.mem := by
  unfold frameAdmit
  simp
@[simp ↓] theorem frameIn_mem (m : Nat) (bs : List Byte) (mark : Bool) (stamp : Nat) (s : State) :
    (frameIn m bs mark stamp s).mem = s.mem := by
  unfold frameIn
  simp
@[simp ↓] theorem opFrameReceived_mem (m : Nat) (bs : List Byte) (mark frag : Bool) (back : Nat) (s : State) :
    (opFrameReceived m bs mark frag back s).mem = s.mem := by
  unfold opFrameReceived
  simp
@[simp ↓] theorem opTxFrameEnd_mem (m : Nat) (s : State) : (opTxFrameEnd m s).mem = s.mem := by
  unfold opTxFrameEnd
  split <;> simp

/-! ### Sys2Proof/Machine/Lane.lean -/

@[simp ↓] theorem laneEvent_mem (l bit : Nat) (s : State) : (laneEvent l bit s).mem = s.mem := by unfold laneEvent; simp
@[simp ↓] theorem laneEventOnce_mem (l bit : Nat) (s : State) : (laneEventOnce l bit s).mem = s.mem := by unfold laneEventOnce; simp
@[simp ↓] theorem laneEqLoad_mem (l i : Nat) (s : State) : (laneEqLoad l i s).mem = s.mem := by unfold laneEqLoad; simp
@[simp ↓] theorem laneEq_mem (l : Nat) (s : State) : (laneEq l s).mem = s.mem := by unfold laneEq; simp
@[simp ↓] theorem opCtleAdapt_mem (l : Nat) (up : Bool) (s : State) : (opCtleAdapt l up s).mem = s.mem := by unfold opCtleAdapt; simp
@[simp ↓] theorem laneMaps_mem (l : Nat) (s : State) : (laneMaps l s).mem = s.mem := by unfold laneMaps; simp
@[simp ↓] theorem laneRdStart_mem (l : Nat) (s : State) : (laneRdStart l s).mem = s.mem := by unfold laneRdStart; simp
@[simp ↓] theorem laneSetRate_mem (l r : Nat) (s : State) : (laneSetRate l r s).mem = s.mem := by unfold laneSetRate; simp
@[simp ↓] theorem laneSetState_mem (l st : Nat) (s : State) : (laneSetState l st s).mem = s.mem := by unfold laneSetState; simp
@[simp ↓] theorem ctlTxNext_mem (l : Nat) (s : State) : (ctlTxNext l s).mem = s.mem := by unfold ctlTxNext; simp
@[simp ↓] theorem laneLeaveActive_mem (l : Nat) (s : State) : (laneLeaveActive l s).mem = s.mem := by unfold laneLeaveActive; simp
@[simp ↓] theorem laneForget_mem (l : Nat) (s : State) : (laneForget l s).mem = s.mem := by unfold laneForget; simp
@[simp ↓] theorem enterDetect_mem (l cause : Nat) (s : State) : (enterDetect l cause s).mem = s.mem := by unfold enterDetect; simp
@[simp ↓] theorem enterActive_mem (l : Nat) (s : State) : (enterActive l s).mem = s.mem := by unfold enterActive; simp
@[simp ↓] theorem opDetectAttempt_mem (l : Nat) (s : State) : (opDetectAttempt l s).mem = s.mem := by unfold opDetectAttempt; simp
@[simp ↓] theorem opReceiverDetected_mem (l : Nat) (s : State) : (opReceiverDetected l s).mem = s.mem := by unfold opReceiverDetected; simp
@[simp ↓] theorem opBitLock_mem (l : Nat) (s : State) : (opBitLock l s).mem = s.mem := by unfold opBitLock; simp
@[simp ↓] theorem laneRead_mem (l : Nat) (gs : List Nat) (s : State) : (laneRead l gs s).2.2.mem = s.mem := by unfold laneRead; simp
@[simp ↓] theorem stepBegin_mem (l next : Nat) (refuse : Bool) (s : State) : (stepBegin l next refuse s).mem = s.mem := by
  unfold stepBegin
  simp
@[simp ↓] theorem capsComplete_mem (l : Nat) (s : State) : (capsComplete l s).mem = s.mem := by
  unfold capsComplete
  dsimp only
  split <;> simp
@[simp ↓] theorem capsAccept_mem (l : Nat) (bs : List Byte) (s : State) : (capsAccept l bs s).mem = s.mem := by
  unfold capsAccept
  split <;> simp
@[simp ↓] theorem laneViolations_mem (l viol : Nat) (s : State) : (laneViolations l viol s).mem = s.mem := by unfold laneViolations; simp
@[simp ↓] theorem capsTaken_mem (l : Nat) (gs : List Nat) (s0 : State) : (capsTaken l gs s0).mem = s0.mem := by unfold capsTaken; simp
@[simp ↓] theorem opCapsSetReceived_mem (l : Nat) (gs : List Nat) (viol : Nat) (s : State) :
    (opCapsSetReceived l gs viol s).mem = s.mem := by
  unfold opCapsSetReceived
  simp
@[simp ↓] theorem stepSwitched_mem (l : Nat) (s : State) : (stepSwitched l s).mem = s.mem := by unfold stepSwitched; simp
@[simp ↓] theorem lockSymbol_mem (l : Nat) (s0 : State) : (lockSymbol l s0).mem = s0.mem := by unfold lockSymbol; simp
@[simp ↓] theorem opSymbolLock_mem (l viol : Nat) (s : State) : (opSymbolLock l viol s).mem = s.mem := by unfold opSymbolLock; simp
@[simp ↓] theorem laneTimeout_mem (l st cause : Nat) (s : State) : (laneTimeout l st cause s).mem = s.mem := by unfold laneTimeout; simp
@[simp ↓] theorem opTrainTimeout_mem (l : Nat) (s : State) : (opTrainTimeout l s).mem = s.mem := by unfold opTrainTimeout; simp
@[simp ↓] theorem opLockTimeout_mem (l viol : Nat) (s : State) : (opLockTimeout l viol s).mem = s.mem := by unfold opLockTimeout; simp
@[simp ↓] theorem opCapsTimeout_mem (l : Nat) (s : State) : (opCapsTimeout l s).mem = s.mem := by unfold opCapsTimeout; simp
@[simp ↓] theorem opStepTimeout_mem (l viol : Nat) (s0 : State) : (opStepTimeout l viol s0).mem = s0.mem := by unfold opStepTimeout; simp
@[simp ↓] theorem tscTaken_mem (l next count : Nat) (s : State) : (tscTaken l next count s).mem = s.mem := by unfold tscTaken; simp
@[simp ↓] theorem tscRead_mem (l : Nat) (gs : List Nat) (s : State) : (tscRead l gs s).mem = s.mem := by
  unfold tscRead
  split
  · dsimp only
    split <;> simp
  · simp
@[simp ↓] theorem opTscReceived_mem (l : Nat) (gs : List Nat) (viol : Nat) (s : State) : (opTscReceived l gs viol s).mem = s.mem := by
  unfold opTscReceived
  simp
@[simp ↓] theorem opTscCountZeroSent_mem (l : Nat) (s : State) : (opTscCountZeroSent l s).mem = s.mem := by unfold opTscCountZeroSent; simp
@[simp ↓] theorem opLockLoss_mem (l viol : Nat) (s : State) : (opLockLoss l viol s).mem = s.mem := by unfold opLockLoss; simp
@[simp ↓] theorem opSignalLoss_mem (l : Nat) (s : State) : (opSignalLoss l s).mem = s.mem := by unfold opSignalLoss; simp
@[simp ↓] theorem laneRestart_mem (l : Nat) (s : State) : (laneRestart l s).mem = s.mem := by unfold laneRestart; simp
@[simp ↓] theorem laneClrCeil_mem (l : Nat) (s : State) : (laneClrCeil l s).mem = s.mem := by unfold laneClrCeil; simp
@[simp ↓] theorem setPort_mem (m st : Nat) (s : State) : (setPort m st s).mem = s.mem := by unfold setPort; simp
@[simp ↓] theorem portFall_mem (m first : Nat) (s : State) : (portFall m first s).mem = s.mem := by unfold portFall; simp
@[simp ↓] theorem portStart_mem (m : Nat) (s : State) : (portStart m s).mem = s.mem := by
  unfold portStart
  split <;> simp
@[simp ↓] theorem portRise_mem (m : Nat) (s : State) : (portRise m s).mem = s.mem := by unfold portRise; simp
@[simp ↓] theorem opAnComplete_mem (m : Nat) (same sym asym eee : Bool) (s : State) : (opAnComplete m same sym asym eee s).mem = s.mem := by
  unfold opAnComplete
  simp
@[simp ↓] theorem opLinkTrainingComplete_mem (m : Nat) (s : State) : (opLinkTrainingComplete m s).mem = s.mem := by
  unfold opLinkTrainingComplete
  simp
@[simp ↓] theorem opC2mPortUp_mem (m : Nat) (s : State) : (opC2mPortUp m s).mem = s.mem := by
  unfold opC2mPortUp
  split <;> simp
@[simp ↓] theorem opPortLinkLoss_mem (m : Nat) (s : State) : (opPortLinkLoss m s).mem = s.mem := by unfold opPortLinkLoss; simp
@[simp ↓] theorem opCfaSamplePeriod_mem (ch : Nat) (s : State) : (opCfaSamplePeriod ch s).mem = s.mem := by unfold opCfaSamplePeriod; simp
@[simp ↓] theorem streamOut_mem (l st r : Nat) (s : State) : (streamOut l st r s).2.mem = s.mem := by unfold streamOut; simp
@[simp ↓] theorem streamsOut_mem (l : Nat) (rs : List Nat) (st : Nat) (s : State) : (streamsOut l rs st s).2.mem = s.mem := by
  induction rs generalizing st s with
  | nil => rfl
  | cons r t ih =>
    unfold streamsOut
    split <;> simp [ih]
@[simp ↓] theorem ctlOut_mem (l : Nat) (s : State) : (ctlOut l s).2.mem = s.mem := by unfold ctlOut; simp
@[simp ↓] theorem blockOut_mem (l : Nat) (bs : List Byte) (s : State) : (blockOut l bs s).mem = s.mem := by unfold blockOut; simp
@[simp ↓] theorem opTetherBlockSend_mem (l turn : Nat) (cut : Option Nat) (ecc : Ecc) (word : Nat) (s : State) :
    (opTetherBlockSend l turn cut ecc word s).mem = s.mem := by
  unfold opTetherBlockSend
  simp
@[simp ↓] theorem opLeaveComplete_mem (l : Nat) (s : State) : (opLeaveComplete l s).mem = s.mem := by unfold opLeaveComplete; simp
@[simp ↓] theorem laneLeave_mem (s : State) : (laneLeave s).mem = s.mem := by unfold laneLeave; simp
@[simp ↓] theorem ctlMessage_mem (l : Nat) (msg : List Byte) (s : State) : (ctlMessage l msg s).mem = s.mem := by unfold ctlMessage; simp
@[simp ↓] theorem ctlHunt_mem (l : Nat) (k : Nat) (s : State) : (ctlHunt l k s).mem = s.mem := by
  fun_induction ctlHunt <;> simp_all
@[simp ↓] theorem ctlIn_mem (l : Nat) (bs : List Byte) (s : State) : (ctlIn l bs s).mem = s.mem := by unfold ctlIn; simp
@[simp ↓] theorem opCtlRingWriteAccepted_mem (l : Nat) (s : State) : (opCtlRingWriteAccepted l s).mem = s.mem := by
  unfold opCtlRingWriteAccepted
  split <;> simp
@[simp ↓] theorem opCtlTxEntryRead_mem (l : Nat) (s : State) : (opCtlTxEntryRead l s).mem = s.mem := by unfold opCtlTxEntryRead; simp
@[simp ↓] theorem opCtlTxEntryAnswer_mem (l : Nat) (s : State) : (opCtlTxEntryAnswer l s).mem = s.mem := by
  unfold opCtlTxEntryAnswer
  split <;> simp
@[simp ↓] theorem chanIn_mem (ch off r : Nat) (bs : List Byte) (how : Nat) (s : State) : (chanIn ch off r bs how s).mem = s.mem := by
  unfold chanIn
  simp
@[simp ↓] theorem blockSamples_mem (l : Nat) (bs : List Byte) (bad : Nat) (s : State) : (blockSamples l bs bad s).mem = s.mem := by
  unfold blockSamples
  simp
@[simp ↓] theorem blockHeader_mem (l : Nat) (bs : List Byte) (arrive : Nat) (s : State) : (blockHeader l bs arrive s).mem = s.mem := by
  unfold blockHeader
  dsimp only
  split
  · simp
  · split
    · split <;> simp
    · simp
@[simp ↓] theorem blockTaken_mem (l : Nat) (bs : List Byte) (first : Bool) (arrive : Nat) (s1 : State) :
    (blockTaken l bs first arrive s1).mem = s1.mem := by
  unfold blockTaken
  simp
@[simp ↓] theorem lockKept_mem (l viol : Nat) (k : Bool) (s : State) : (lockKept l viol k s).mem = s.mem := by unfold lockKept; simp
@[simp ↓] theorem blockIn_mem (l : Nat) (cs : List LaneChar) (viol arrive : Nat) (s : State) :
    (blockIn l cs viol arrive s).mem = s.mem := by
  unfold blockIn
  simp
@[simp ↓] theorem blockReceived_mem (l : Nat) (gs : List Nat) (arrive : Nat) (ecc : Ecc) (word prbs : Nat) (s : State) :
    (blockReceived l gs arrive ecc word prbs s).mem = s.mem := by
  unfold blockReceived
  split
  · simp
  · split
    · simp
    · dsimp only
      split
      · simp
      · split <;> simp
@[simp ↓] theorem opTetherBlockReceived_mem (l : Nat) (gs : List Nat) (viol arrive : Nat) (ecc : Ecc) (word prbs : Nat) (s : State) :
    (opTetherBlockReceived l gs viol arrive ecc word prbs s).mem = s.mem := by
  unfold opTetherBlockReceived
  simp
@[simp ↓] theorem laneCheck_mem (s : State) : (laneCheck s).mem = s.mem := by unfold laneCheck; simp
@[simp ↓] theorem laneOn_mem (l : Nat) (s : State) : (laneOn l s).mem = s.mem := by unfold laneOn; simp
@[simp ↓] theorem laneOff_mem (l : Nat) (s : State) : (laneOff l s).mem = s.mem := by unfold laneOff; simp
@[simp ↓] theorem laneLooped_mem (l : Nat) (s : State) : (laneLooped l s).mem = s.mem := by unfold laneLooped; simp
@[simp ↓] theorem portEq_mem (l : Nat) (s : State) : (portEq l s).mem = s.mem := by
  unfold portEq
  split
  · split <;> simp
  · simp
@[simp ↓] theorem laneApplied_mem (l : Nat) (s0 s : State) : (laneApplied l s0 s).mem = s.mem := by
  unfold laneApplied
  extract_lets want was loop0 loop1 seq s1 s2
  have h0 : seq.mem = s.mem := by unfold seq; split <;> simp
  have h1 : s1.mem = s.mem := by unfold s1; split <;> simp [h0]
  have h2 : s2.mem = s.mem := by unfold s2; split <;> simp [h1]
  split
  · split
    · split <;> simp [h1]
    · split
      · split <;> simp [h1]
      · split
        · simp [h1]
        · split <;> simp [h2]
  · rw [portEq_mem]
    split <;> simp [h1]
@[simp ↓] theorem portApplied_mem (m : Nat) (s0 s : State) : (portApplied m s0 s).mem = s.mem := by unfold portApplied; simp
@[simp ↓] theorem laneCommit_mem (s0 s : State) : (laneCommit s0 s).mem = s.mem := by unfold laneCommit; simp
@[simp ↓] theorem laneNewRound_mem (s : State) : (laneNewRound s).mem = s.mem := by unfold laneNewRound; simp
@[simp ↓] theorem laneIdle_mem (s : State) : (laneIdle s).mem = s.mem := by unfold laneIdle; simp
@[simp ↓] theorem laneMove_mem (l : Nat) (s : State) : (laneMove l s).mem = s.mem := by unfold laneMove; simp

/-! ### Sys2Proof/Machine/Hkc.lean -/

@[simp ↓] theorem hkcEvent_mem (bit inst : Nat) (s : State) : (hkcEvent bit inst s).mem = s.mem := by unfold hkcEvent; simp
@[simp ↓] theorem opHkcPassStart_mem (s : State) : (opHkcPassStart s).mem = s.mem := by unfold opHkcPassStart; simp
@[simp ↓] theorem hkcCompare_mem (n v : Nat) (s : State) : (hkcCompare n v s).mem = s.mem := by unfold hkcCompare; simp
@[simp ↓] theorem hkcResult_mem (n v : Nat) (s : State) : (hkcResult n v s).mem = s.mem := by unfold hkcResult; simp
@[simp ↓] theorem opHkcEntryDone_mem (codes : List Nat) (s : State) : (opHkcEntryDone codes s).mem = s.mem := by
  unfold opHkcEntryDone
  split
  · simp
  · split <;> simp
@[simp ↓] theorem hkcUrgent_mem (src : Nat) (s : State) : (hkcUrgent src s).mem = s.mem := by unfold hkcUrgent; simp
@[simp ↓] theorem hkcTrigger_mem (n : Nat) (s : State) : (hkcTrigger n s).mem = s.mem := by unfold hkcTrigger; simp
@[simp ↓] theorem opOverCurrentDetect_mem (ma : Nat) (s : State) : (opOverCurrentDetect ma s).mem = s.mem := by
  unfold opOverCurrentDetect
  simp
@[simp ↓] theorem hkcUrgentResult_mem (u code wait : Nat) (s : State) : (hkcUrgentResult u code wait s).mem = s.mem := by
  unfold hkcUrgentResult
  simp
@[simp ↓] theorem opHkcUrgentDone_mem (code wait : Nat) (s : State) : (opHkcUrgentDone code wait s).mem = s.mem := by
  unfold opHkcUrgentDone
  split <;> simp
@[simp ↓] theorem hkcCommit_mem (s0 s : State) : (hkcCommit s0 s).mem = s.mem := by unfold hkcCommit; simp
@[simp ↓] theorem hkcNewRound_mem (s : State) : (hkcNewRound s).mem = s.mem := by unfold hkcNewRound; simp

/-! ### Sys2Proof/Machine/Time.lean -/

@[simp ↓] theorem setSlew_mem (n : Nat) (s : State) : (setSlew n s).mem = s.mem := by unfold setSlew; simp
@[simp ↓] theorem passSteps_mem (n : Nat) (s : State) : (passSteps n s).mem = s.mem := by unfold passSteps; simp
@[simp ↓] theorem advanceTo_mem (t : Nat) (s : State) : (advanceTo t s).mem = s.mem := by unfold advanceTo; simp
@[simp ↓] theorem windowRuns_mem (s : State) : (windowRuns s).mem = s.mem := by unfold windowRuns; simp
@[simp ↓] theorem idle_mem (s : State) : (idle s).mem = s.mem := by unfold idle; simp
@[simp ↓] theorem timeIncWrite_mem (reg v : Nat) (s : State) : (timeIncWrite reg v s).2.mem = s.mem := by unfold timeIncWrite; simp
@[simp ↓] theorem opSlewEnd_mem (s : State) : (opSlewEnd s).mem = s.mem := by unfold opSlewEnd; simp
@[simp ↓] theorem timeNowSec_mem (src : Nat) (s : State) : (timeNowSec src s).2.mem = s.mem := by unfold timeNowSec; simp
@[simp ↓] theorem timeNowSub_mem (src : Nat) (s : State) : (timeNowSub src s).2.mem = s.mem := by unfold timeNowSub; simp
@[simp ↓] theorem timeEdge_mem (n t : Nat) (s : State) : (timeEdge n t s).mem = s.mem := by unfold timeEdge; simp
@[simp ↓] theorem opTimeCapture_mem (n : Nat) (s : State) : (opTimeCapture n s).mem = s.mem := by unfold opTimeCapture; simp
@[simp ↓] theorem timeOutRise_mem (n : Nat) (s : State) : (timeOutRise n s).mem = s.mem := by unfold timeOutRise; simp
@[simp ↓] theorem trigFire_mem (n : Nat) (late : Bool) (s : State) : (trigFire n late s).mem = s.mem := by unfold trigFire; simp
@[simp ↓] theorem opTimeTrig_mem (n : Nat) (s : State) : (opTimeTrig n s).mem = s.mem := by unfold opTimeTrig; simp
@[simp ↓] theorem opTimeOutPulseEnd_mem (n : Nat) (s : State) : (opTimeOutPulseEnd n s).mem = s.mem := by unfold opTimeOutPulseEnd; simp
@[simp ↓] theorem trigStep_mem (old : Nat) (s : State) : (trigStep old s).mem = s.mem := by unfold trigStep; simp
@[simp ↓] theorem trigCommit_mem (s0 s : State) : (trigCommit s0 s).mem = s.mem := by unfold trigCommit; simp
@[simp ↓] theorem seqNext_mem (s : State) : (seqNext s).mem = s.mem := by unfold seqNext; simp
@[simp ↓] theorem timeValid_mem (on : Bool) (s : State) : (timeValid on s).mem = s.mem := by unfold timeValid; simp
@[simp ↓] theorem timeLoad_mem (s : State) : (timeLoad s).2.mem = s.mem := by unfold timeLoad; simp
@[simp ↓] theorem timeStepApply_mem (v : Nat) (s : State) : (timeStepApply v s).2.mem = s.mem := by unfold timeStepApply; simp

/-! ### Sys2Proof/Machine/Gate.lean -/

@[simp ↓] theorem gateDrop_mem (m no : Nat) (s : State) : (gateDrop m no s).mem = s.mem := by unfold gateDrop; simp
@[simp ↓] theorem gateErr_mem (m no : Nat) (s : State) : (gateErr m no s).mem = s.mem := by unfold gateErr; simp
@[simp ↓] theorem modJob_mem (m no : Nat) (f : GateJob → GateJob) (s : State) : (modJob m no f s).mem = s.mem := by unfold modJob; simp
@[simp ↓] theorem gateMiss_mem (m idx : Nat) (s : State) : (gateMiss m idx s).mem = s.mem := by unfold gateMiss; simp
@[simp ↓] theorem opGateDecision_mem (m : Nat) (s : State) : (opGateDecision m s).mem = s.mem := by unfold opGateDecision; dsimp only; simp
@[simp ↓] theorem gateDecides_mem (m : Nat) (j : GateJob) (e : List Byte) (s : State) : (gateDecides m j e s).mem = s.mem := by
  unfold gateDecides
  simp
@[simp ↓] theorem opGateEntryReadAnswer_mem (m : Nat) (s : State) : (opGateEntryReadAnswer m s).mem = s.mem := by
  unfold opGateEntryReadAnswer
  split
  · simp
  · split <;> simp
@[simp ↓] theorem opGateFrameReadAnswer_mem (m : Nat) (s : State) : (opGateFrameReadAnswer m s).mem = s.mem := by
  unfold opGateFrameReadAnswer
  split <;> simp
@[simp ↓] theorem opGateLaunch_mem (m : Nat) (s : State) : (opGateLaunch m s).mem = s.mem := by
  unfold opGateLaunch
  split <;> simp
@[simp ↓] theorem opHoldAssert_mem (m : Nat) (s : State) : (opHoldAssert m s).mem = s.mem := by
  unfold opHoldAssert
  split <;> simp
@[simp ↓] theorem gateFirstEnd_mem (m : Nat) (s : State) : (gateFirstEnd m s).mem = s.mem := by unfold gateFirstEnd; simp
@[simp ↓] theorem gateBeyond_mem (s : State) : (gateBeyond s).mem = s.mem := by unfold gateBeyond; simp
@[simp ↓] theorem gateNewRound_mem (s : State) : (gateNewRound s).mem = s.mem := by unfold gateNewRound; simp

/-! ### Sys2Proof/Machine/Line.lean -/

@[simp ↓] theorem setDet_mem (p d : Nat) (s : State) : (setDet p d s).mem = s.mem := by unfold setDet; simp
@[simp ↓] theorem pairEvent_mem (p bit : Nat) (s : State) : (pairEvent p bit s).mem = s.mem := by unfold pairEvent; simp
@[simp ↓] theorem lineLink_mem (s : State) : (lineLink s).mem = s.mem := by unfold lineLink; simp
@[simp ↓] theorem setPairState_mem (p st : Nat) (s : State) : (setPairState p st s).mem = s.mem := by unfold setPairState; simp
@[simp ↓] theorem pairSilent_mem (p cause : Nat) (s : State) : (pairSilent p cause s).mem = s.mem := by unfold pairSilent; simp
@[simp ↓] theorem pairFails_mem (p st cause : Nat) (s : State) : (pairFails p st cause s).mem = s.mem := by unfold pairFails; simp
@[simp ↓] theorem opProbeTimeout_mem (p : Nat) (s : State) : (opProbeTimeout p s).mem = s.mem := by unfold opProbeTimeout; simp
@[simp ↓] theorem opEctrainTimeout_mem (p : Nat) (s : State) : (opEctrainTimeout p s).mem = s.mem := by unfold opEctrainTimeout; simp
@[simp ↓] theorem opExchangeTimeout_mem (p : Nat) (s : State) : (opExchangeTimeout p s).mem = s.mem := by unfold opExchangeTimeout; simp
@[simp ↓] theorem opSilentProbe_mem (p : Nat) (s : State) : (opSilentProbe p s).mem = s.mem := by unfold opSilentProbe; simp
@[simp ↓] theorem opProbeReceived_mem (p : Nat) (s : State) : (opProbeReceived p s).mem = s.mem := by unfold opProbeReceived; simp
@[simp ↓] theorem opProbeComplete_mem (p : Nat) (snr theirs : List Nat) (s : State) : (opProbeComplete p snr theirs s).mem = s.mem := by
  unfold opProbeComplete
  split
  · dsimp only
    split <;> simp
  · dsimp only
    split <;> simp
@[simp ↓] theorem echoDone_mem (p echo : Nat) (s : State) : (echoDone p echo s).mem = s.mem := by unfold echoDone; simp
@[simp ↓] theorem opEctrainComplete_mem (p echo : Nat) (s : State) : (opEctrainComplete p echo s).mem = s.mem := by
  unfold opEctrainComplete
  simp
@[simp ↓] theorem opEchoCheck8ms_mem (p echo : Nat) (s : State) : (opEchoCheck8ms p echo s).mem = s.mem := by unfold opEchoCheck8ms; simp
@[simp ↓] theorem opExchangeComplete_mem (p : Nat) (s : State) : (opExchangeComplete p s).mem = s.mem := by unfold opExchangeComplete; simp
@[simp ↓] theorem opLineSignalLoss_mem (p : Nat) (s : State) : (opLineSignalLoss p s).mem = s.mem := by unfold opLineSignalLoss; simp
@[simp ↓] theorem opFecFail_mem (p : Nat) (s : State) : (opFecFail p s).mem = s.mem := by unfold opFecFail; simp
@[simp ↓] theorem pairRestart_mem (p : Nat) (s : State) : (pairRestart p s).mem = s.mem := by unfold pairRestart; simp
@[simp ↓] theorem opLineLpiEntry_mem (p : Nat) (rx : Bool) (s : State) : (opLineLpiEntry p rx s).mem = s.mem := by
  unfold opLineLpiEntry
  simp
@[simp ↓] theorem opRefreshBurst_mem (p : Nat) (s : State) : (opRefreshBurst p s).mem = s.mem := by unfold opRefreshBurst; simp
@[simp ↓] theorem acquire_mem (p e : Nat) (s : State) : (acquire p e s).mem = s.mem := by unfold acquire; simp
@[simp ↓] theorem detFails_mem (p e : Nat) (s : State) : (detFails p e s).mem = s.mem := by unfold detFails; simp
@[simp ↓] theorem opEnergyDetect_mem (p : Nat) (x : List Nat) (s : State) : (opEnergyDetect p x s).mem = s.mem := by
  unfold opEnergyDetect
  simp
@[simp ↓] theorem earlyTest_mem (p : Nat) (r : List Int) (x : List Nat) (s : State) : (earlyTest p r x s).mem = s.mem := by
  unfold earlyTest
  simp
@[simp ↓] theorem opEarlyTest_mem (p : Nat) (before r : List Int) (x : List Nat) (s : State) :
    (opEarlyTest p before r x s).mem = s.mem := by
  unfold opEarlyTest
  simp
@[simp ↓] theorem reacquire_mem (p e : Nat) (s : State) : (reacquire p e s).mem = s.mem := by unfold reacquire; simp
@[simp ↓] theorem opReacquire_mem (p : Nat) (x : List Nat) (s : State) : (opReacquire p x s).mem = s.mem := by unfold opReacquire; simp
@[simp ↓] theorem opFullTest_mem (p : Nat) (r : List Int) (x : List Nat) (s : State) : (opFullTest p r x s).mem = s.mem := by
  unfold opFullTest
  simp
@[simp ↓] theorem opDelimiterCheck_mem (p : Nat) (d inv : Byte) (x : List Nat) (s : State) :
    (opDelimiterCheck p d inv x s).mem = s.mem := by
  unfold opDelimiterCheck
  simp
@[simp ↓] theorem opCapture_mem (p : Nat) (r : List Int) (x : List Nat) (s : State) : (opCapture p r x s).mem = s.mem := by
  unfold opCapture
  simp
@[simp ↓] theorem opBurstEnd_mem (p : Nat) (s : State) : (opBurstEnd p s).mem = s.mem := by unfold opBurstEnd; simp
@[simp ↓] theorem opHoldoffExit_mem (p : Nat) (x : List Nat) (s : State) : (opHoldoffExit p x s).mem = s.mem := by
  unfold opHoldoffExit
  simp
@[simp ↓] theorem opCodewordReceived_mem (p : Nat) (ok : Bool) (s : State) : (opCodewordReceived p ok s).mem = s.mem := by
  unfold opCodewordReceived
  simp
@[simp ↓] theorem lineStamp_mem (p : Nat) (w : Wire) (s : State) : (lineStamp p w s).2.mem = s.mem := by
  unfold lineStamp
  split
  · split <;> simp
  · simp
@[simp ↓] theorem opFragmentSend_mem (p : Nat) (cont : Bool) (s : State) : (opFragmentSend p cont s).mem = s.mem := by
  unfold opFragmentSend
  split <;> simp
@[simp ↓] theorem reasmCount_mem (s : State) : (reasmCount s).mem = s.mem := by unfold reasmCount; simp
@[simp ↓] theorem reasmErr_mem (s : State) : (reasmErr s).mem = s.mem := by unfold reasmErr; simp
@[simp ↓] theorem reasmTake_mem (f : Frag) (s : State) : (reasmTake f s).mem = s.mem := by
  unfold reasmTake
  split
  · split
    · split
      · split <;> simp
      · simp
    · split
      · split
        · dsimp only
          split <;> simp
        · dsimp only
          split <;> simp
      · dsimp only
        split <;> simp
  · simp
@[simp ↓] theorem reasmGo_mem (k : Nat) (s : State) : (reasmGo k s).mem = s.mem := by
  fun_induction reasmGo <;> simp_all
@[simp ↓] theorem fragIn_mem (p hdr : Nat) (bs : List Byte) (stamp : Nat) (s : State) : (fragIn p hdr bs stamp s).mem = s.mem := by
  unfold fragIn
  simp
@[simp ↓] theorem opFragmentReceived_mem (p hdr : Nat) (bs : List Byte) (back : Nat) (s : State) :
    (opFragmentReceived p hdr bs back s).mem = s.mem := by
  unfold opFragmentReceived
  split
  · split
    · split <;> simp
    · simp
  · simp
@[simp ↓] theorem opReassemblyTimeout_mem (s : State) : (opReassemblyTimeout s).mem = s.mem := by
  unfold opReassemblyTimeout
  split <;> simp
@[simp ↓] theorem lineLeave_mem (s : State) : (lineLeave s).mem = s.mem := by unfold lineLeave; simp
@[simp ↓] theorem pairApplied_mem (p : Nat) (s0 s : State) : (pairApplied p s0 s).mem = s.mem := by unfold pairApplied; simp
@[simp ↓] theorem lineCommit_mem (s0 s : State) : (lineCommit s0 s).mem = s.mem := by unfold lineCommit; simp
@[simp ↓] theorem lineNewRound_mem (s : State) : (lineNewRound s).mem = s.mem := by unfold lineNewRound; simp

/-! ### Sys2Proof/Machine/Csr.lean -/

@[simp ↓] theorem csrRead_mem (src off : Nat) (wide mirror : Bool) (s : State) : (csrRead src off wide mirror s).2.2.mem = s.mem := by
  unfold csrRead
  split
  · split
    · split
      · simp
      · split
        · simp
        · split
          · simp
          · split <;> simp
    · split
      · simp
      · split
        · simp
        · split
          · simp
          · split <;> simp
  · simp
@[simp ↓] theorem secRead_mem (off : Nat) (s : State) : (secRead off s).2.mem = s.mem := by
  generalize hd : secRead off s = d
  unfold secRead at hd
  dsimp only at hd
  split at hd
  · rw [← hd]
  · split at hd
    · rw [← hd]
    · split at hd
      · rw [← hd]
      · split at hd <;> rw [← hd, snd_mem_mk, csrRead_mem]

/-! ### Sys2Proof/Machine/Sec.lean -/

@[simp ↓] theorem norWrite_mem (a : Nat) (bs : List Byte) (s : State) : (norWrite a bs s).mem = s.mem := by unfold norWrite; simp
@[simp ↓] theorem norErase_mem (a n : Nat) (s : State) : (norErase a n s).mem = s.mem := by unfold norErase; simp
@[simp ↓] theorem bootRewrite_mem (slot : Nat) (s : State) : (bootRewrite slot s).mem = s.mem := by unfold bootRewrite; simp
@[simp ↓] theorem noteCounter_mem (key ctr : Nat) (s : State) : (noteCounter key ctr s).mem = s.mem := by unfold noteCounter; simp
@[simp ↓] theorem journalCompact_mem (s : State) : (journalCompact s).mem = s.mem := by unfold journalCompact; simp
@[simp ↓] theorem journalAppend_mem (key ctr : Nat) (s : State) : (journalAppend key ctr s).mem = s.mem := by unfold journalAppend; simp
@[simp ↓] theorem journalRebuild_mem (s : State) : (journalRebuild s).mem = s.mem := by unfold journalRebuild; simp
@[simp ↓] theorem putRsp_mem (k : Nat) (bs : List Byte) (s : State) : (putRsp k bs s).mem = s.mem := by unfold putRsp; simp
@[simp ↓] theorem respond_mem (src : CmdFrom) (op status round : Nat) (data : List Byte) (s : State) :
    (respond src op status round data s).mem = s.mem := by
  unfold respond
  simp
@[simp ↓] theorem cmdReject_mem (src : CmdFrom) (bs : List Byte) (status cnt : Nat) (s : State) :
    (cmdReject src bs status cnt s).mem = s.mem := by
  unfold cmdReject
  simp
@[simp ↓] theorem cmdTaken_mem (src : CmdSrc) (s : State) : (cmdTaken src s).mem = s.mem := by
  unfold cmdTaken
  split <;> simp
@[simp ↓] theorem cmdStart_mem {go : CmdFrom → List Byte → State → State} (hg : ∀ f bs, KeepsMem (go f bs)) (want : Nat → Nat → Bool)
    (src : CmdSrc) (s : State) :
    (cmdStart want go src s).mem = s.mem := by
  unfold cmdStart
  dsimp only
  split
  · split
    · simp
    · split
      · split
        · simp
        · exact hg _ _ _
      · rfl
  · split
    · rfl
    · split
      · rfl
      · split
        · split
          · simp
          · rw [hg, cmdTaken_mem]
        · rfl
@[simp ↓] theorem cmdDone_mem (f : CmdFrom) (bs data : List Byte) (s : State) : (cmdDone f bs data s).mem = s.mem := by unfold cmdDone; simp
@[simp ↓] theorem opGetStatus_mem (src : CmdSrc) (s : State) : (opGetStatus src s).mem = s.mem := by unfold opGetStatus; simp
@[simp ↓] theorem readWords_mem (l : List Nat) (s : State) : (readWords l s).2.mem = s.mem := by
  induction l generalizing s with
  | nil => rfl
  | cons off t ih => exact (ih _).trans (secRead_mem ..)
@[simp ↓] theorem opReadRegs_mem (src : CmdSrc) (s : State) : (opReadRegs src s).mem = s.mem := by unfold opReadRegs; simp
@[simp ↓] theorem opGetCounter_mem (src : CmdSrc) (s : State) : (opGetCounter src s).mem = s.mem := by unfold opGetCounter; simp
@[simp ↓] theorem opAttest_mem (src : CmdSrc) (s : State) : (opAttest src s).mem = s.mem := by unfold opAttest; simp
@[simp ↓] theorem opGetAttestKey_mem (src : CmdSrc) (s : State) : (opGetAttestKey src s).mem = s.mem := by unfold opGetAttestKey; simp
@[simp ↓] theorem opGetAttestCert_mem (src : CmdSrc) (s : State) : (opGetAttestCert src s).mem = s.mem := by unfold opGetAttestCert; simp
@[simp ↓] theorem opCertReadDone_mem (s : State) : (opCertReadDone s).mem = s.mem := by
  unfold opCertReadDone
  split <;> simp
@[simp ↓] theorem opBadOpcode_mem (src : CmdSrc) (s : State) : (opBadOpcode src s).mem = s.mem := by unfold opBadOpcode; simp
@[simp ↓] theorem toJournal_mem (f : CmdFrom) (bs : List Byte) (s : State) : (toJournal f bs s).mem = s.mem := by unfold toJournal; simp
@[simp ↓] theorem opWriteRegs_mem (src : CmdSrc) (s : State) : (opWriteRegs src s).mem = s.mem := by unfold opWriteRegs; simp
@[simp ↓] theorem opSwitchImage_mem (src : CmdSrc) (s : State) : (opSwitchImage src s).mem = s.mem := by unfold opSwitchImage; simp
@[simp ↓] theorem opWriteImage_mem (src : CmdSrc) (s : State) : (opWriteImage src s).mem = s.mem := by unfold opWriteImage; simp
@[simp ↓] theorem opKeyRevoke_mem (src : CmdSrc) (s : State) : (opKeyRevoke src s).mem = s.mem := by unfold opKeyRevoke; simp
@[simp ↓] theorem opSlotRevoke_mem (src : CmdSrc) (s : State) : (opSlotRevoke src s).mem = s.mem := by unfold opSlotRevoke; simp
@[simp ↓] theorem opSvnAdvance_mem (src : CmdSrc) (s : State) : (opSvnAdvance src s).mem = s.mem := by unfold opSvnAdvance; simp
@[simp ↓] theorem opPower_mem (src : CmdSrc) (s : State) : (opPower src s).mem = s.mem := by unfold opPower; simp
@[simp ↓] theorem opReplayEnter_mem (src : CmdSrc) (s : State) : (opReplayEnter src s).mem = s.mem := by unfold opReplayEnter; simp
@[simp ↓] theorem opReplayExit_mem (src : CmdSrc) (s : State) : (opReplayExit src s).mem = s.mem := by unfold opReplayExit; simp
@[simp ↓] theorem opReset_mem (src : CmdSrc) (s : State) : (opReset src s).mem = s.mem := by unfold opReset; simp
@[simp ↓] theorem modCmd_mem (no : Nat) (f : SecCmd → SecCmd) (s : State) : (modCmd no f s).mem = s.mem := by unfold modCmd; simp
@[simp ↓] theorem cmdEnd_mem (path op status round : Nat) (s : State) : (cmdEnd path op status round s).mem = s.mem := by
  unfold cmdEnd
  simp
@[simp ↓] theorem cmdFinish_mem (no : Nat) (s : State) : (cmdFinish no s).mem = s.mem := by
  unfold cmdFinish
  split <;> simp
@[simp ↓] theorem cmdIssue_mem (no : Nat) (s : State) : (cmdIssue no s).mem = s.mem := by
  unfold cmdIssue
  split <;> simp
@[simp ↓] theorem opCommandExecutionStart_mem (s : State) : (opCommandExecutionStart s).mem = s.mem := by
  unfold opCommandExecutionStart
  split
  · split <;> simp
  · simp
@[simp ↓] theorem opCommandWriteAnswer_mem (no : Nat) (s : State) : (opCommandWriteAnswer no s).mem = s.mem := by
  unfold opCommandWriteAnswer
  split <;> simp

/-! ### Sys2Proof/Machine/Power.lean -/

@[simp ↓] theorem pwrEvent_mem (bit : Nat) (s : State) : (pwrEvent bit s).mem = s.mem := by unfold pwrEvent; simp
@[simp ↓] theorem faultSync_mem (s : State) : (faultSync s).mem = s.mem := by unfold faultSync; simp
@[simp ↓] theorem pwrFault_mem (bit : Nat) (s : State) : (pwrFault bit s).mem = s.mem := by unfold pwrFault; simp
@[simp ↓] theorem setDevState_mem (n : Nat) (s : State) : (setDevState n s).mem = s.mem := by unfold setDevState; simp
@[simp ↓] theorem noteWake_mem (d code round : Nat) (s : State) : (noteWake d code round s).mem = s.mem := by unfold noteWake; simp
@[simp ↓] theorem clearBlock_mem (lo hi : Nat) (s : State) : (clearBlock lo hi s).mem = s.mem := by unfold clearBlock; simp
@[simp ↓] theorem ioForgets_mem (i : Nat) (s : State) : (ioForgets i s).mem = s.mem := by unfold ioForgets; simp
@[simp ↓] theorem ioAwake_mem (i : Nat) (s0 s : State) : (ioAwake i s0 s).mem = s.mem := by unfold ioAwake; simp
@[simp ↓] theorem physKept_mem (d : Nat) (s0 s : State) : (physKept d s0 s).mem = s.mem := by unfold physKept; simp
@[simp ↓] theorem standbyLeft_mem (s : State) : (standbyLeft s).mem = s.mem := by
  generalize hd : standbyLeft s = d
  unfold standbyLeft at hd
  extract_lets s1 s2 s3 s4 s5 at hd
  have h1 : s1.mem = s.mem := forEach_mem (fun x t => by split <;> simp) _ _
  have h2 : s2.mem = s.mem := (forEach_mem (fun x t => by split <;> simp) _ _).trans h1
  have h3 : s3.mem = s.mem := (forEach_mem (fun x t => by split <;> simp) _ _).trans h2
  have h4 : s4.mem = s.mem := (forEach_mem (fun x t => by split <;> simp) _ _).trans h3
  have h5 : s5.mem = s.mem := (forEach_mem (fun x t => by dsimp only; split <;> simp) _ _).trans h4
  rw [← hd, setDevState_mem, mem_modPwr, h5]
@[simp ↓] theorem dropMark_mem (d : Nat) (s : State) : (dropMark d s).mem = s.mem := by unfold dropMark; simp
@[simp ↓] theorem wakeFail_mem (d : Nat) (s : State) : (wakeFail d s).mem = s.mem := by unfold wakeFail; simp
@[simp ↓] theorem opWakeTimeout_mem (d : Nat) (s : State) : (opWakeTimeout d s).mem = s.mem := by unfold opWakeTimeout; simp
@[simp ↓] theorem opWakeRetry_mem (d : Nat) (s : State) : (opWakeRetry d s).mem = s.mem := by unfold opWakeRetry; simp
@[simp ↓] theorem engSleepCommit_mem (s : State) : (engSleepCommit s).mem = s.mem := by
  refine forEach_mem (fun n t => ?_) _ _
  split
  · split <;> simp
  · rfl
@[simp ↓] theorem clusterSleep_mem (c : Nat) (m : EngMode) (s : State) : (clusterSleep c m s).mem = s.mem := by unfold clusterSleep; simp
@[simp ↓] theorem cluCommit_mem (applied : List Nat) (s : State) : (cluCommit applied s).mem = s.mem := by
  refine forEach_mem (fun c t => ?_) _ _
  extract_lets m t1
  clear_value m
  have h1 : t1.mem = t.mem := by
    unfold t1
    split
    · split
      · simp
      · split <;> simp
    · rfl
  split
  · split <;> simp [h1]
  · exact h1
@[simp ↓] theorem accCommit_mem (applied : List Nat) (s : State) : (accCommit applied s).mem = s.mem := by
  refine forEach_mem (fun k t => ?_) _ _
  extract_lets m d t1 t2
  clear_value m d
  have h1 : t1.mem = t.mem := by
    unfold t1
    split
    · split <;> split <;> simp
    · rfl
  have h2 : t2.mem = t.mem := by
    unfold t2
    split
    · split <;> simp [h1]
    · exact h1
  split <;> simp [h2]
@[simp ↓] theorem ioCommit_mem (applied : List Nat) (s : State) : (ioCommit applied s).mem = s.mem := by unfold ioCommit; simp
@[simp ↓] theorem stopRounds_mem (s : State) : (stopRounds s).mem = s.mem := by unfold stopRounds; simp
@[simp ↓] theorem stopDma_mem (s : State) : (stopDma s).mem = s.mem := by unfold stopDma; simp
@[simp ↓] theorem haltEngines_mem (s : State) : (haltEngines s).mem = s.mem := by
  generalize hd : haltEngines s = d
  unfold haltEngines at hd
  extract_lets was at hd
  rw [← hd, forEach_mem (fun n t => engCtrlWrite_mem n 1 t), mem_modPwr]
@[simp ↓] theorem standbyStart_mem (target : Nat) (s : State) : (standbyStart target s).mem = s.mem := by unfold standbyStart; simp
@[simp ↓] theorem recFreeze_mem (s : State) : (recFreeze s).mem = s.mem := by unfold recFreeze; simp
@[simp ↓] theorem opStandbyHaltDone_mem (s : State) : (opStandbyHaltDone s).mem = s.mem := by unfold opStandbyHaltDone; simp
@[simp ↓] theorem domainsDown_mem (s : State) : (domainsDown s).mem = s.mem := by
  generalize hd : domainsDown s = d
  unfold domainsDown at hd
  extract_lets s1 s2 s3 at hd
  have h1 : s1.mem = s.mem := forEach_mem (fun x t => by split <;> simp) _ _
  have h2 : s2.mem = s.mem := (forEach_mem (fun x t => by split <;> simp) _ _).trans h1
  have h3 : s3.mem = s.mem := (forEach_mem (fun x t => by split <;> simp) _ _).trans h2
  rw [← hd]
  exact (forEach_mem (fun x t => by split <;> simp) _ _).trans h3
@[simp ↓] theorem dramRest_mem (s : State) : (dramRest s).mem = s.mem := by unfold dramRest; simp
@[simp ↓] theorem opStandbyQuietDone_mem (s : State) : (opStandbyQuietDone s).mem = s.mem := by unfold opStandbyQuietDone; simp
@[simp ↓] theorem setLevel_mem (n : Nat) (s : State) : (setLevel n s).mem = s.mem := by unfold setLevel; simp
@[simp ↓] theorem shedDecide_mem (power volt : Nat) (temp : Int) (s0 : State) : (shedDecide power volt temp s0).mem = s0.mem := by
  unfold shedDecide
  extract_lets hot s limit level restore excess under at4 s1 s2
  have hs : s.mem = s0.mem := by simp only [s, mem_modPwr, mem_wr]
  split
  · simp [hs]
  · split
    · have h1 : s1.mem = s0.mem := by simp only [s1, mem_modPwr, hs]
      split
      · split <;> simp [h1]
      · split
        · have h2 : s2.mem = s0.mem := by simp only [s2, pwrEvent_mem, h1]
          split <;> simp [h2]
        · exact h1
    · split <;> simp [hs]
@[simp ↓] theorem opShedDecision_mem (power volt : Nat) (temp : Int) (s : State) : (opShedDecision power volt temp s).mem = s.mem := by
  unfold opShedDecision
  simp
@[simp ↓] theorem opPwrHot_mem (s : State) : (opPwrHot s).mem = s.mem := by unfold opPwrHot; simp
@[simp ↓] theorem opMainPllFailure_mem (s : State) : (opMainPllFailure s).mem = s.mem := by unfold opMainPllFailure; dsimp only; simp
@[simp ↓] theorem opPrechargeContact_mem (s : State) : (opPrechargeContact s).mem = s.mem := by unfold opPrechargeContact; simp
@[simp ↓] theorem opVinRise_mem (s : State) : (opVinRise s).mem = s.mem := by unfold opVinRise; simp
@[simp ↓] theorem opPowerGoodLoss_mem (s : State) : (opPowerGoodLoss s).mem = s.mem := by unfold opPowerGoodLoss; simp
@[simp ↓] theorem flashStops_mem (s : State) : (flashStops s).mem = s.mem := by
  unfold flashStops
  split
  · simp
  · split <;> simp
@[simp ↓] theorem opTripRestart_mem (s : State) : (opTripRestart s).mem = s.mem := by unfold opTripRestart; simp
@[simp ↓] theorem opEjectReq_mem (s : State) : (opEjectReq s).mem = s.mem := by unfold opEjectReq; simp
@[simp ↓] theorem ejectQuiesce_mem (s : State) : (ejectQuiesce s).mem = s.mem := by
  unfold ejectQuiesce
  dsimp only
  split <;> simp
@[simp ↓] theorem opEjectDebounced_mem (s : State) : (opEjectDebounced s).mem = s.mem := by unfold opEjectDebounced; simp
@[simp ↓] theorem opRemovalQuiesced_mem (s : State) : (opRemovalQuiesced s).mem = s.mem := by unfold opRemovalQuiesced; simp

/-! ### Sys2Proof/Machine/Spare.lean -/

@[simp ↓] theorem spareEvent_mem (bit : Nat) (s : State) : (spareEvent bit s).mem = s.mem := by unfold spareEvent; simp
@[simp ↓] theorem sparePending_mem (s : State) : (sparePending s).mem = s.mem := by unfold sparePending; simp
@[simp ↓] theorem modMark_mem (kind index : Nat) (f : Mark → Mark) (s : State) : (modMark kind index f s).mem = s.mem := by
  unfold modMark
  simp
@[simp ↓] theorem markGone_mem (kind index : Nat) (s : State) : (markGone kind index s).mem = s.mem := by unfold markGone; simp
@[simp ↓] theorem setPos_mem (c p v : Nat) (s : State) : (setPos c p v s).mem = s.mem := by unfold setPos; simp
@[simp ↓] theorem ageSync_mem (c : Nat) (s : State) : (ageSync c s).mem = s.mem := by unfold ageSync; simp
@[simp ↓] theorem opAgeMark_mem (kind idx code : Nat) (s : State) : (opAgeMark kind idx code s).mem = s.mem := by unfold opAgeMark; simp
@[simp ↓] theorem opWireMark_mem (n d w errs : Nat) (s0 : State) : (opWireMark n d w errs s0).mem = s0.mem := by unfold opWireMark; simp
@[simp ↓] theorem opEngineQuiescent_mem (n : Nat) (s : State) : (opEngineQuiescent n s).mem = s.mem := by unfold opEngineQuiescent; simp
@[simp ↓] theorem opSpareCopyDone_mem (n : Nat) (s : State) : (opSpareCopyDone n s).mem = s.mem := by unfold opSpareCopyDone; simp
@[simp ↓] theorem swapDone_mem (kind index cause phys : Nat) (s : State) : (swapDone kind index cause phys s).mem = s.mem := by
  unfold swapDone
  simp
@[simp ↓] theorem engineMoves_mem (m : Mark) (s : State) : (engineMoves m s).mem = s.mem := by unfold engineMoves; simp
@[simp ↓] theorem engineResumes_mem (n : Nat) (s : State) : (engineResumes n s).mem = s.mem := by
  unfold engineResumes
  dsimp only
  split
  · simp
  · split
    · split
      · split <;> simp
      · split
        · split <;> simp
        · split <;> simp
    · split <;> simp
@[simp ↓] theorem engineMasked_mem (n : Nat) (s : State) : (engineMasked n s).mem = s.mem := by unfold engineMasked; simp
@[simp ↓] theorem exhausted_mem (m : Mark) (s : State) : (exhausted m s).mem = s.mem := by unfold exhausted; simp
@[simp ↓] theorem accBlockServes_mem (k p : Nat) (s : State) : (accBlockServes k p s).mem = s.mem := by unfold accBlockServes; simp
@[simp ↓] theorem slotLimit_mem (p v : Nat) (s : State) : (slotLimit p v s).mem = s.mem := by unfold slotLimit; simp
@[simp ↓] theorem accMoves_mem (m : Mark) (p : Nat) (s0 : State) : (accMoves m p s0).mem = s0.mem := by unfold accMoves; simp
@[simp ↓] theorem accMark_mem (m : Mark) (s : State) : (accMark m s).mem = s.mem := by
  unfold accMark
  split
  · split
    · split
      · dsimp only
        split <;> simp
      · split
        · split
          · dsimp only
            split <;> simp
          · dsimp only
            split <;> simp
        · dsimp only
          split <;> simp
    · split
      · dsimp only
        split <;> simp
      · split
        · split
          · dsimp only
            split <;> simp
          · dsimp only
            split <;> simp
        · dsimp only
          split <;> simp
  · simp
@[simp ↓] theorem repairRow_mem (r : Nat × Nat) (s : State) : (repairRow r s).mem = s.mem := by unfold repairRow; simp
@[simp ↓] theorem mapWire_mem (link : Nat) (s : State) : (mapWire link s).mem = s.mem := by unfold mapWire; simp
@[simp ↓] theorem bistStart_mem (w : Nat) (s : State) : (bistStart w s).mem = s.mem := by
  unfold bistStart
  split <;> simp
@[simp ↓] theorem opBistDone_mem (fail : Bool) (s : State) : (opBistDone fail s).mem = s.mem := by
  unfold opBistDone
  split <;> simp
@[simp ↓] theorem autoBist_mem (s : State) : (autoBist s).mem = s.mem := by unfold autoBist; simp
@[simp ↓] theorem spareReq_mem (v : Nat) (s : State) : (spareReq v s).mem = s.mem := by
  unfold spareReq
  split
  · simp
  · simp
  · dsimp only
    split <;> simp
  · simp

/-! ### Sys2Proof/Machine/Record.lean -/

@[simp ↓] theorem recStart_mem (s : State) : (recStart s).mem = s.mem := by unfold recStart; simp
@[simp ↓] theorem recBoundary_mem (s0 : State) : (recBoundary s0).mem = s0.mem := by unfold recBoundary; simp
@[simp ↓] theorem recCommit_mem (s0 : State) (begins : Bool) (s : State) : (recCommit s0 begins s).mem = s.mem := by unfold recCommit; simp
@[simp ↓] theorem recSkip_mem (k : Nat) (s : State) : (recSkip k s).mem = s.mem := by
  fun_induction recSkip <;> simp_all
@[simp ↓] theorem recNext_mem (s : State) : (recNext s).mem = s.mem := by unfold recNext; simp
@[simp ↓] theorem recTime_mem (step : Nat) (s : State) : (recTime step s).mem = s.mem := by unfold recTime; simp
@[simp ↓] theorem replayEnd_mem (s : State) : (replayEnd s).mem = s.mem := by unfold replayEnd; simp
@[simp ↓] theorem recTrigWrite_mem (s : State) : (recTrigWrite s).mem = s.mem := by unfold recTrigWrite; simp

/-! ### Sys2Proof/Machine/Round.lean -/

@[simp ↓] theorem roundEvent_mem (bit : Nat) (s : State) : (roundEvent bit s).mem = s.mem := by unfold roundEvent; simp
@[simp ↓] theorem atCycle_mem (k : Nat) (s : State) : (atCycle k s).mem = s.mem := by unfold atCycle; simp
@[simp ↓] theorem applyOne_mem (x : Shadow) (s : State) : (applyOne x s).mem = s.mem := by unfold applyOne; simp
@[simp ↓] theorem applyShadows_mem (s : State) : (applyShadows s).mem = s.mem := by unfold applyShadows; simp
@[simp ↓] theorem epochApply_mem (s : State) : (epochApply s).mem = s.mem := by unfold epochApply; simp
@[simp ↓] theorem churnCommit_mem (s0 s : State) : (churnCommit s0 s).mem = s.mem := by unfold churnCommit; simp
@[simp ↓] theorem routeCheck_mem (x : Nat × Nat × Nat) (s : State) : (routeCheck x s).mem = s.mem := by unfold routeCheck; simp
@[simp ↓] theorem nocCommit_mem (applied wires : List Nat) (s0 s : State) : (nocCommit applied wires s0 s).mem = s.mem := by
  unfold nocCommit
  simp
@[simp ↓] theorem vectorCommit_mem (s0 s : State) : (vectorCommit s0 s).mem = s.mem := by unfold vectorCommit; simp
@[simp ↓] theorem overrun_mem (k : Nat) (s : State) : (overrun k s).mem = s.mem := by unfold overrun; simp
@[simp ↓] theorem stepOnRound_mem (v : Nat) (s : State) : (stepOnRound v s).mem = s.mem := by unfold stepOnRound; dsimp only; simp
@[simp ↓] theorem stepStage_mem (v : Nat) (begins : Bool) (s : State) : (stepStage v begins s).2.mem = s.mem := by unfold stepStage; simp
@[simp ↓] theorem snapshot_mem (s0 : State) : (snapshot s0).mem = s0.mem := by unfold snapshot; simp
@[simp ↓] theorem counterClears_mem (applied : List Nat) (s : State) : (counterClears applied s).mem = s.mem := by
  unfold counterClears
  simp
@[simp ↓] theorem writeOnlyDone_mem (applied : List Nat) (s : State) : (writeOnlyDone applied s).mem = s.mem := by
  refine forEach_mem (fun x t => ?_) _ _
  split
  · simp
  · rfl
@[simp ↓] theorem planStart_mem (s : State) : (planStart s).mem = s.mem := by unfold planStart; simp
@[simp ↓] theorem planLate_mem (s : State) : (planLate s).mem = s.mem := by unfold planLate; simp
@[simp ↓] theorem boundaryAt_mem (number grid : Nat) (s : State) : (boundaryAt number grid s).mem = s.mem := by unfold boundaryAt; simp
@[simp ↓] theorem roundOpens_mem (s : State) : (roundOpens s).mem = s.mem := by unfold roundOpens; simp
@[simp ↓] theorem roundsStop_mem (s : State) : (roundsStop s).mem = s.mem := by unfold roundsStop; simp
@[simp ↓] theorem offsetMoves_mem (m : Nat) (s : State) : (offsetMoves m s).mem = s.mem := by unfold offsetMoves; simp
@[simp ↓] theorem boundaryStops_mem (begins : Bool) (s : State) : (boundaryStops begins s).mem = s.mem := by unfold boundaryStops; simp
@[simp ↓] theorem roundBegins_mem (s : State) : (roundBegins s).mem = s.mem := by unfold roundBegins; simp
@[simp ↓] theorem stampsBegin_mem (old n : Nat) (s : State) : (stampsBegin old n s).mem = s.mem := by unfold stampsBegin; simp
@[simp ↓] theorem opRoundFirstPEnd_mem (s : State) : (opRoundFirstPEnd s).mem = s.mem := by unfold opRoundFirstPEnd; simp
@[simp ↓] theorem runWrite_mem (on : Bool) (s : State) : (runWrite on s).mem = s.mem := by unfold runWrite; simp

/-! ### Sys2Proof/Machine/Plan.lean -/

@[simp ↓] theorem modPlan_mem (f : Plan → Plan) (s : State) : (modPlan f s).mem = s.mem := by unfold modPlan; simp
@[simp ↓] theorem planSkip_mem (k : Nat) (s : State) : (planSkip k s).mem = s.mem := by
  induction k generalizing s with
  | zero => rfl
  | succ k ih =>
    unfold planSkip
    split
    · rfl
    · simp [ih]
@[simp ↓] theorem planErr_mem (s : State) : (planErr s).mem = s.mem := by unfold planErr; simp
@[simp ↓] theorem opPlanFetchAnswer_mem (s : State) : (opPlanFetchAnswer s).mem = s.mem := by
  unfold opPlanFetchAnswer
  split
  · simp
  · split <;> simp
@[simp ↓] theorem planIssue_mem {act : List Byte → State → State} (ha : ∀ e, KeepsMem (act e)) (kind : Nat) (s : State) :
    (planIssue kind act s).mem = s.mem := by
  unfold planIssue
  split
  · rfl
  · dsimp only
    split
    · rw [planSkip_mem, modPlan_mem, ha, passSteps_mem]
    · rfl
@[simp ↓] theorem opPlanNoOperation_mem (s : State) : (opPlanNoOperation s).mem = s.mem := by unfold opPlanNoOperation; simp
@[simp ↓] theorem opPlanDmaStart_mem (s : State) : (opPlanDmaStart s).mem = s.mem := by unfold opPlanDmaStart; simp
@[simp ↓] theorem opPlanCfaHandover_mem (s : State) : (opPlanCfaHandover s).mem = s.mem := by unfold opPlanCfaHandover; simp
@[simp ↓] theorem opPlanRedSetup_mem (s : State) : (opPlanRedSetup s).mem = s.mem := by unfold opPlanRedSetup; simp
@[simp ↓] theorem opPlanToken_mem (s : State) : (opPlanToken s).mem = s.mem := by unfold opPlanToken; simp
@[simp ↓] theorem opPlanRegWrite_mem (s : State) : (opPlanRegWrite s).mem = s.mem := by unfold opPlanRegWrite; simp
@[simp ↓] theorem opPlanIssueAnswer_mem (s : State) : (opPlanIssueAnswer s).mem = s.mem := by
  unfold opPlanIssueAnswer
  split <;> simp
@[simp ↓] theorem signalVector_mem (v : Nat) (s : State) : (signalVector v s).mem = s.mem := by unfold signalVector; simp
@[simp ↓] theorem deliver_mem (o : Occurrence) (s : State) : (deliver o s).mem = s.mem := by unfold deliver; simp
@[simp ↓] theorem opOccurrenceTaken_mem (s : State) : (opOccurrenceTaken s).mem = s.mem := by
  unfold opOccurrenceTaken
  split <;> simp
@[simp ↓] theorem opInterruptWriteAnswer_mem (s : State) : (opInterruptWriteAnswer s).mem = s.mem := by
  unfold opInterruptWriteAnswer
  split <;> simp

/-! ### Sys2Proof/Machine/Command.lean -/

@[simp ↓] theorem answerLive_mem (f : CmdFrom) (op status : Nat) (s : State) : (answerLive f op status s).mem = s.mem := by
  unfold answerLive
  simp
@[simp ↓] theorem opImageWriteDone_mem (ok : Bool) (s : State) : (opImageWriteDone ok s).mem = s.mem := by
  unfold opImageWriteDone
  split <;> simp

/-! ### Sys2Proof/Machine/RegWrite.lean -/

@[simp ↓] theorem shadowPut_mem (src off mask value : Nat) (s : State) : (shadowPut src off mask value s).mem = s.mem := by
  unfold shadowPut
  simp
@[simp ↓] theorem writeCommitted_mem (src off mask v : Nat) (d : RegDesc) (s : State) :
    (writeCommitted src off mask v d s).mem = s.mem := by
  unfold writeCommitted
  simp
@[simp ↓] theorem writeLive_mem (off mask v : Nat) (d : RegDesc) (s : State) : (writeLive off mask v d s).mem = s.mem := by
  unfold writeLive
  simp
@[simp ↓] theorem writePlain_mem (src off mask v : Nat) (d : RegDesc) (s : State) : (writePlain src off mask v d s).mem = s.mem := by
  unfold writePlain
  simp
@[simp ↓] theorem irqChanged_mem (n : Nat) (s : State) : (irqChanged n s).mem = s.mem := by unfold irqChanged; simp
@[simp ↓] theorem writeEngine_mem (src off mask v : Nat) (d : RegDesc) (s : State) : (writeEngine src off mask v d s).2.mem = s.mem := by
  unfold writeEngine
  simp
@[simp ↓] theorem writeAcc_mem (src off mask v : Nat) (d : RegDesc) (s : State) : (writeAcc src off mask v d s).2.mem = s.mem := by
  unfold writeAcc
  simp
@[simp ↓] theorem writeChurn_mem (src off mask v : Nat) (wide : Bool) (d : RegDesc) (s : State) :
    (writeChurn src off mask v wide d s).2.mem = s.mem := by
  unfold writeChurn
  simp
@[simp ↓] theorem writeNi_mem (src off mask v : Nat) (d : RegDesc) (s : State) : (writeNi src off mask v d s).2.mem = s.mem := by
  unfold writeNi
  simp
@[simp ↓] theorem writeDma_mem (src off mask v : Nat) (wide : Bool) (d : RegDesc) (s : State) :
    (writeDma src off mask v wide d s).2.mem = s.mem := by
  unfold writeDma
  simp
@[simp ↓] theorem writeCfa_mem (src off mask v : Nat) (d : RegDesc) (s : State) : (writeCfa src off mask v d s).2.mem = s.mem := by
  unfold writeCfa
  simp
@[simp ↓] theorem writeLane_mem (src off mask v : Nat) (d : RegDesc) (s : State) : (writeLane src off mask v d s).2.mem = s.mem := by
  unfold writeLane
  simp
@[simp ↓] theorem writeMac_mem (src off mask v : Nat) (d : RegDesc) (s : State) : (writeMac src off mask v d s).2.mem = s.mem := by
  unfold writeMac
  simp
@[simp ↓] theorem writeTime_mem (src off mask v : Nat) (wide : Bool) (d : RegDesc) (s : State) :
    (writeTime src off mask v wide d s).2.mem = s.mem := by
  unfold writeTime
  simp
@[simp ↓] theorem writeLine_mem (src off mask v : Nat) (d : RegDesc) (s : State) : (writeLine src off mask v d s).2.mem = s.mem := by
  unfold writeLine
  simp
@[simp ↓] theorem writeSec_mem (src off mask v : Nat) (d : RegDesc) (s : State) : (writeSec src off mask v d s).2.mem = s.mem := by
  unfold writeSec
  simp
@[simp ↓] theorem writePcie_mem (src off mask v : Nat) (d : RegDesc) (s : State) : (writePcie src off mask v d s).2.mem = s.mem := by
  unfold writePcie
  simp
@[simp ↓] theorem writePwr_mem (src off mask v : Nat) (d : RegDesc) (s : State) : (writePwr src off mask v d s).2.mem = s.mem := by
  unfold writePwr
  simp
@[simp ↓] theorem writeRec_mem (src off mask v : Nat) (d : RegDesc) (s : State) : (writeRec src off mask v d s).2.mem = s.mem := by
  unfold writeRec
  simp
@[simp ↓] theorem accessEnd_mem (a : Access) (r : Nat × List Byte × State) : (accessEnd a r).mem = r.2.2.mem := by
  unfold accessEnd
  split <;> simp

/-! ### Sys2Proof/Machine/Bus.lean -/

@[simp ↓] theorem markAccepted_mem (id : Nat) (s : State) : (markAccepted id s).mem = s.mem := by unfold markAccepted; simp
@[simp ↓] theorem hostPacket_mem (id : Nat) (t : Txn) (s : State) : (hostPacket id t s).mem = s.mem := by
  unfold hostPacket
  split <;> simp
@[simp ↓] theorem opAcceptanceNotice_mem (id : Nat) (s : State) : (opAcceptanceNotice id s).mem = s.mem := by
  unfold opAcceptanceNotice
  split
  · simp
  · split <;> simp
@[simp ↓] theorem hostCollect_mem (s : State) : (hostCollect s).mem = s.mem := by unfold hostCollect; simp
@[simp ↓] theorem hostAbort_mem (s : State) : (hostAbort s).mem = s.mem := by unfold hostAbort; simp
@[simp ↓] theorem hostWrite_mem (csr : Bool) (a : Nat) (bs : List Byte) (s : State) : (hostWrite csr a bs s).mem = s.mem := by
  unfold hostWrite
  simp
@[simp ↓] theorem opHostAccess_mem (csr : Bool) (off : Nat) (data : Option (List Byte)) (len : Nat) (s0 : State) :
    (opHostAccess csr off data len s0).mem = s0.mem := by
  unfold opHostAccess
  split <;> simp
@[simp ↓] theorem opHostWindowCompletion_mem (id outcome : Nat) (data : List Byte) (s : State) :
    (opHostWindowCompletion id outcome data s).mem = s.mem := by
  unfold opHostWindowCompletion
  split
  · simp
  · split
    · split <;> simp
    · simp
@[simp ↓] theorem regsReset_mem (lo hi : Nat) (s : State) : (regsReset lo hi s).mem = s.mem := by unfold regsReset; simp
@[simp ↓] theorem opFunctionLevelReset_mem (s : State) : (opFunctionLevelReset s).mem = s.mem := by unfold opFunctionLevelReset; simp
@[simp ↓] theorem opPcieLink_mem (up : Bool) (gen width : Nat) (flit : Bool) (s : State) :
    (opPcieLink up gen width flit s).mem = s.mem := by
  unfold opPcieLink
  simp
@[simp ↓] theorem opPcieResetSignal_mem (s : State) : (opPcieResetSignal s).mem = s.mem := by unfold opPcieResetSignal; simp
@[simp ↓] theorem opBusMasterEnable_mem (on : Bool) (s : State) : (opBusMasterEnable on s).mem = s.mem := by unfold opBusMasterEnable; simp

/-! ### Sys2Proof/Machine/Replay.lean -/

@[simp ↓] theorem replayFrame_mem (m : Nat) (p : List Byte) (s : State) : (replayFrame m p s).mem = s.mem := by unfold replayFrame; simp
@[simp ↓] theorem replayBlock_mem (l off : Nat) (p : List Byte) (s : State) : (replayBlock l off p s).mem = s.mem := by
  unfold replayBlock
  simp
@[simp ↓] theorem replayCapture_mem (n : Nat) (p : List Byte) (s : State) : (replayCapture n p s).mem = s.mem := by
  unfold replayCapture
  simp
@[simp ↓] theorem replayHkc_mem (src : Nat) (p : List Byte) (s : State) : (replayHkc src p s).mem = s.mem := by unfold replayHkc; simp
@[simp ↓] theorem replayHostInput_mem (src : Nat) (p : List Byte) (s : State) : (replayHostInput src p s).mem = s.mem := by
  unfold replayHostInput
  split
  · simp
  · split <;> simp
@[simp ↓] theorem replayLane_mem (l st r : Nat) (s : State) : (replayLane l st r s).mem = s.mem := by unfold replayLane; simp
@[simp ↓] theorem replayLink_mem (src w : Nat) (s : State) : (replayLink src w s).mem = s.mem := by
  unfold replayLink
  split <;> simp

/-! ### Sys2Proof/Machine/Boot.lean -/

@[simp ↓] theorem trainEnd_mem (bad : Nat) (s : State) : (trainEnd bad s).mem = s.mem := by unfold trainEnd; simp
@[simp ↓] theorem trainStart_mem (s : State) : (trainStart s).mem = s.mem := by unfold trainStart; simp
@[simp ↓] theorem regErr_mem (s : State) : (regErr s).mem = s.mem := by unfold regErr; simp
@[simp ↓] theorem applyLane_mem (e : List Byte) (s : State) : (applyLane e s).mem = s.mem := by
  unfold applyLane
  dsimp only
  split <;> simp
@[simp ↓] theorem applyLanes_mem (bs : List Byte) (s : State) : (applyLanes bs s).mem = s.mem := by unfold applyLanes; simp
@[simp ↓] theorem applyKeys_mem (bs : List Byte) (s : State) : (applyKeys bs s).mem = s.mem := by unfold applyKeys; simp
@[simp ↓] theorem applyPolicy_mem (bs : List Byte) (s : State) : (applyPolicy bs s).mem = s.mem := by unfold applyPolicy; simp
@[simp ↓] theorem applyStart_mem (bs : List Byte) (s : State) : (applyStart bs s).mem = s.mem := by unfold applyStart; simp
@[simp ↓] theorem noteImage_mem (slot : Nat) (h table : List Byte) (s : State) : (noteImage slot h table s).mem = s.mem := by
  unfold noteImage
  simp
@[simp ↓] theorem replayCheck_mem (s : State) : (replayCheck s).mem = s.mem := by unfold replayCheck; simp
@[simp ↓] theorem recovery_mem (s : State) : (recovery s).mem = s.mem := by unfold recovery; simp
@[simp ↓] theorem noteCause_mem (slot c : Nat) (s : State) : (noteCause slot c s).mem = s.mem := by unfold noteCause; simp
@[simp ↓] theorem dramReady_mem (s : State) : (dramReady s).mem = s.mem := by unfold dramReady; simp

/-! ### Sys2Proof/Machine/Vector.lean -/

@[simp ↓] theorem vissue_mem {body : Engine → Issue} (hb : ∀ e, (body e).Does KeepsMem) (n : Nat) (isIt : Word → Bool) (fetch : Ecc)
    (reads gd : List Nat)
    (sub : Engine → Nat) (s : State) : (vissue n isIt fetch reads gd sub body s).mem = s.mem := by
  unfold vissue
  dsimp only
  split
  · split
    · simp
    · split
      · simp
      · split
        · simp
        · rw [finish_mem (by simp [hb]), mem_bump64, fetchNoted_mem, atIssue_mem]
  · rfl
@[simp ↓] theorem opVectorPowerDown_mem (n : Nat) (s : State) : (opVectorPowerDown n s).mem = s.mem := by unfold opVectorPowerDown; simp
@[simp ↓] theorem opVectorWakeDone_mem (n : Nat) (s : State) : (opVectorWakeDone n s).mem = s.mem := by unfold opVectorWakeDone; simp
@[simp ↓] theorem opSetvl_mem (n : Nat) (w : Word) (fetch : Ecc) (s : State) : (opSetvl n w fetch s).mem = s.mem := by unfold opSetvl; simp
@[simp ↓] theorem opVrd_mem (n : Nat) (w : Word) (fetch : Ecc) (s : State) : (opVrd n w fetch s).mem = s.mem := by unfold opVrd; simp
@[simp ↓] theorem opVwr_mem (n : Nat) (w : Word) (fetch : Ecc) (s : State) : (opVwr n w fetch s).mem = s.mem := by unfold opVwr; simp
@[simp ↓] theorem vfault_mem (n k sub addr f pc : Nat) (s : State) : (vfault n k sub addr f pc s).mem = s.mem := by unfold vfault; simp
@[simp ↓] theorem gatherStart_mem (n : Nat) (fetch : Ecc) (store : Bool) (vd gb vi : Nat) (s : State) :
    (gatherStart n fetch store vd gb vi s).mem = s.mem := by
  unfold gatherStart
  simp
@[simp ↓] theorem opVldx_mem (n vd gb vi : Nat) (fetch : Ecc) (s : State) : (opVldx n vd gb vi fetch s).mem = s.mem := by
  unfold opVldx
  simp
@[simp ↓] theorem opVstx_mem (n vs gb vi : Nat) (fetch : Ecc) (s : State) : (opVstx n vs gb vi fetch s).mem = s.mem := by
  unfold opVstx
  simp
@[simp ↓] theorem varith_mem (n : Nat) (fetch : Ecc) (left vd : Nat) (p : Option Nat) (ok : Engine → Bool) (f : Engine → Nat → Nat × Bool)
    (s : State) :
    (varith n fetch left vd p ok f s).mem = s.mem := by
  unfold varith
  simp
@[simp ↓] theorem vint_mem (n : Nat) (fetch : Ecc) (left vd va vb : Nat) (p : Option Nat) (ok : Nat → Bool) (clamp : Bool)
    (f : Int → Int → Int) (s : State) :
    (vint n fetch left vd va vb p ok clamp f s).mem = s.mem := by
  unfold vint
  simp
@[simp ↓] theorem opVadd_mem (n vd va vb : Nat) (p : Option Nat) (fetch : Ecc) (s : State) : (opVadd n vd va vb p fetch s).mem = s.mem := by
  unfold opVadd
  simp
@[simp ↓] theorem opVsub_mem (n vd va vb : Nat) (p : Option Nat) (fetch : Ecc) (s : State) : (opVsub n vd va vb p fetch s).mem = s.mem := by
  unfold opVsub
  simp
@[simp ↓] theorem opVmul_mem (n vd va vb : Nat) (p : Option Nat) (fetch : Ecc) (s : State) : (opVmul n vd va vb p fetch s).mem = s.mem := by
  unfold opVmul
  simp
@[simp ↓] theorem opVadds_mem (n vd va vb : Nat) (p : Option Nat) (fetch : Ecc) (s : State) :
    (opVadds n vd va vb p fetch s).mem = s.mem := by
  unfold opVadds
  simp
@[simp ↓] theorem opVsubs_mem (n vd va vb : Nat) (p : Option Nat) (fetch : Ecc) (s : State) :
    (opVsubs n vd va vb p fetch s).mem = s.mem := by
  unfold opVsubs
  simp
@[simp ↓] theorem vcmulWith_mem (n : Nat) (fetch : Ecc) (vd va vb : Nat) (p : Option Nat) (f : CInt → CInt → CInt) (s : State) :
    (vcmulWith n fetch vd va vb p f s).mem = s.mem := by
  unfold vcmulWith
  simp
@[simp ↓] theorem opVcmul_mem (n vd va vb : Nat) (p : Option Nat) (fetch : Ecc) (s : State) :
    (opVcmul n vd va vb p fetch s).mem = s.mem := by
  unfold opVcmul
  simp
@[simp ↓] theorem opVcmulc_mem (n vd va vb : Nat) (p : Option Nat) (fetch : Ecc) (s : State) :
    (opVcmulc n vd va vb p fetch s).mem = s.mem := by
  unfold opVcmulc
  simp
@[simp ↓] theorem vcmacWith_mem (n : Nat) (fetch : Ecc) (vd va vb : Nat) (p : Option Nat) (f : CInt → CInt → CInt) (s : State) :
    (vcmacWith n fetch vd va vb p f s).mem = s.mem := by
  unfold vcmacWith
  simp
@[simp ↓] theorem opVcmacW_mem (n vd va vb : Nat) (p : Option Nat) (fetch : Ecc) (s : State) :
    (opVcmacW n vd va vb p fetch s).mem = s.mem := by
  unfold opVcmacW
  simp
@[simp ↓] theorem opVcmaccW_mem (n vd va vb : Nat) (p : Option Nat) (fetch : Ecc) (s : State) :
    (opVcmaccW n vd va vb p fetch s).mem = s.mem := by
  unfold opVcmaccW
  simp
@[simp ↓] theorem opVracc_mem (n vd va sh : Nat) (fetch : Ecc) (s : State) : (opVracc n vd va sh fetch s).mem = s.mem := by
  unfold opVracc
  simp
@[simp ↓] theorem opVftap_mem (n va vx vy gc : Nat) (conj rc cdir : Bool) (ecc fetch : Ecc) (s : State) :
    (opVftap n va vx vy gc conj rc cdir ecc fetch s).mem = s.mem := by
  unfold opVftap
  simp
@[simp ↓] theorem vfloat_mem (n : Nat) (fetch : Ecc) (vd va vb : Nat) (p : Option Nat) (f : Nat → Nat → Nat → Nat → Nat) (s : State) :
    (vfloat n fetch vd va vb p f s).mem = s.mem := by
  unfold vfloat
  simp
@[simp ↓] theorem opVfadd_mem (n vd va vb : Nat) (p : Option Nat) (fetch : Ecc) (s : State) :
    (opVfadd n vd va vb p fetch s).mem = s.mem := by
  unfold opVfadd
  simp
@[simp ↓] theorem opVfsub_mem (n vd va vb : Nat) (p : Option Nat) (fetch : Ecc) (s : State) :
    (opVfsub n vd va vb p fetch s).mem = s.mem := by
  unfold opVfsub
  simp
@[simp ↓] theorem opVfmul_mem (n vd va vb : Nat) (p : Option Nat) (fetch : Ecc) (s : State) :
    (opVfmul n vd va vb p fetch s).mem = s.mem := by
  unfold opVfmul
  simp
@[simp ↓] theorem opVfma_mem (n vd va vb : Nat) (p : Option Nat) (fetch : Ecc) (s : State) : (opVfma n vd va vb p fetch s).mem = s.mem := by
  unfold opVfma
  simp
@[simp ↓] theorem vcmp_mem (n : Nat) (fetch : Ecc) (pd va vb : Nat) (f : Nat → Nat → Nat → Bool) (s : State) :
    (vcmp n fetch pd va vb f s).mem = s.mem := by
  unfold vcmp
  simp
@[simp ↓] theorem opVcmpEq_mem (n pd va vb : Nat) (fetch : Ecc) (s : State) : (opVcmpEq n pd va vb fetch s).mem = s.mem := by
  unfold opVcmpEq
  simp
@[simp ↓] theorem opVcmpLt_mem (n pd va vb : Nat) (fetch : Ecc) (s : State) : (opVcmpLt n pd va vb fetch s).mem = s.mem := by
  unfold opVcmpLt
  simp
@[simp ↓] theorem opVcmpLtu_mem (n pd va vb : Nat) (fetch : Ecc) (s : State) : (opVcmpLtu n pd va vb fetch s).mem = s.mem := by
  unfold opVcmpLtu
  simp
@[simp ↓] theorem pop_mem (n : Nat) (fetch : Ecc) (pd pa pb : Nat) (f : Nat → Nat → Nat) (s : State) :
    (pop n fetch pd pa pb f s).mem = s.mem := by
  unfold pop
  simp
@[simp ↓] theorem opPand_mem (n pd pa pb : Nat) (fetch : Ecc) (s : State) : (opPand n pd pa pb fetch s).mem = s.mem := by
  unfold opPand
  simp
@[simp ↓] theorem opPor_mem (n pd pa pb : Nat) (fetch : Ecc) (s : State) : (opPor n pd pa pb fetch s).mem = s.mem := by unfold opPor; simp
@[simp ↓] theorem opPxor_mem (n pd pa pb : Nat) (fetch : Ecc) (s : State) : (opPxor n pd pa pb fetch s).mem = s.mem := by
  unfold opPxor
  simp
@[simp ↓] theorem opPnot_mem (n pd pa : Nat) (fetch : Ecc) (s : State) : (opPnot n pd pa fetch s).mem = s.mem := by unfold opPnot; simp
@[simp ↓] theorem opVsel_mem (n vd p va vb : Nat) (fetch : Ecc) (s : State) : (opVsel n vd p va vb fetch s).mem = s.mem := by
  unfold opVsel
  simp
@[simp ↓] theorem opVbcast_mem (n vd gs : Nat) (p : Option Nat) (fetch : Ecc) (s : State) : (opVbcast n vd gs p fetch s).mem = s.mem := by
  unfold opVbcast
  simp
@[simp ↓] theorem opVins_mem (n vd gs i : Nat) (fetch : Ecc) (s : State) : (opVins n vd gs i fetch s).mem = s.mem := by unfold opVins; simp
@[simp ↓] theorem opVext_mem (n gd va i : Nat) (fetch : Ecc) (s : State) : (opVext n gd va i fetch s).mem = s.mem := by unfold opVext; simp
@[simp ↓] theorem opVtperm_mem (n vd vt k vi : Nat) (p : Option Nat) (fetch : Ecc) (s : State) :
    (opVtperm n vd vt k vi p fetch s).mem = s.mem := by
  unfold opVtperm
  simp
@[simp ↓] theorem opVsum_mem (n vd va : Nat) (p : Option Nat) (fetch : Ecc) (s : State) : (opVsum n vd va p fetch s).mem = s.mem := by
  unfold opVsum
  simp

end Sys2Proof.Machine
end

section
/-! Canonical form of memory: what it is to keep it, and the stores of the engines, which go through `memWrite`. -/
namespace Sys2Proof.Machine

/-- `f` keeps memory in canonical form. -/
def KeepsWf (f : State → State) : Prop := ∀ s, s.mem.wf = true → (f s).mem.wf = true

theorem KeepsMem.keepsWf {f : State → State} (h : KeepsMem f) : KeepsWf f := fun s hs => by rw [h s]; exact hs

@[simp] theorem wf_ite (c : Prop) [Decidable c] (m m' : Memory) : (if c then m else m').wf = if c then m.wf else m'.wf := apply_ite _ _ _ _

@[simp ↓] theorem mem_wf_ite (c : Prop) [Decidable c] (s t : State) :
    (if c then s else t).mem.wf = if c then s.mem.wf else t.mem.wf := by split <;> rfl

@[simp ↓] theorem snd_mem_wf_ite {α : Type} (c : Prop) [Decidable c] (p q : α × State) :
    (if c then p else q).2.mem.wf = if c then p.2.mem.wf else q.2.mem.wf := by split <;> rfl

theorem forEach_wf {α : Type} {f : α → State → State} (hf : ∀ x s, s.mem.wf = true → (f x s).mem.wf = true) (l : List α) {s : State}
    (h : s.mem.wf = true) : (forEach l f s).mem.wf = true := by
  unfold forEach
  induction l generalizing s with
  | nil => exact h
  | cons x t ih => exact ih (hf x s h)

@[simp ↓] theorem memStore_wf (a : Nat) (bs : List Byte) {s : State} (h : s.mem.wf = true) : (memStore a bs s).mem.wf = true :=
  memWrite_wf (a := a) (bs := bs) h

@[simp ↓] theorem addPoison_wf (l : List Nat) {s : State} (h : s.mem.wf = true) : (addPoison l s).mem.wf = true := h

@[simp ↓] theorem localStore_wf (n a size v : Nat) {s : State} (h : s.mem.wf = true) : (localStore n a size v s).mem.wf = true :=
  memStore_wf _ _ h

@[simp ↓] theorem mergeNoted_wf (n a size : Nat) (ecc : Ecc) {s : State} (h : s.mem.wf = true) :
    (mergeNoted n a size ecc s).mem.wf = true := by
  unfold mergeNoted
  split
  · exact h
  · split <;> simp [h]

theorem finish_wf {r : Issue} (hr : r.Does KeepsWf) (n : Nat) (writes : Option (List Nat)) (behind : Nat) {s : State} (h : s.mem.wf = true) :
    (finish n writes behind r s).mem.wf = true := by
  cases r with
  | done e f => exact hr _ (by simp [h])
  | act f => exact hr _ (by simp [h])
  | wait => rw [finish_mem (by simp)]; exact h
  | fault => rw [finish_mem (by simp)]; exact h
  | jump => rw [finish_mem (by simp)]; exact h
  | thenTrap => rw [finish_mem (by simp)]; exact h

theorem issue_wf {body : Engine → Issue} (hb : ∀ e, (body e).Does KeepsWf) (n : Nat) (w : Word) (fetch : Ecc) (bad forb : Bool)
    (regs writes : List Nat) {s : State} (h : s.mem.wf = true) : (issue n w fetch bad forb regs writes body s).mem.wf = true := by
  unfold issue issueWith
  dsimp only
  split
  · split
    · simp [h]
    · split
      · simp [h]
      · refine finish_wf ?_ _ _ _ (by simp [h])
        split
        · trivial
        · split
          · trivial
          · exact hb _
  · exact h

theorem vissue_wf {body : Engine → Issue} (hb : ∀ e, (body e).Does KeepsWf) (n : Nat) (isIt : Word → Bool) (fetch : Ecc) (reads gd : List Nat)
    (sub : Engine → Nat) {s : State} (h : s.mem.wf = true) : (vissue n isIt fetch reads gd sub body s).mem.wf = true := by
  unfold vissue
  dsimp only
  split
  · split
    · simp [h]
    · split
      · simp [h]
      · split
        · simp [h]
        · refine finish_wf ?_ _ _ _ (by simp [h])
          split
          · trivial
          · exact hb _
  · exact h

theorem storeOp_wf (n : Nat) (w : Word) (fetch : Ecc) (a : Nat) (ecc : Ecc) {s : State} (h : s.mem.wf = true) :
    (storeOp n w fetch a ecc s).mem.wf = true := by
  refine issue_wf (fun e => ?_) _ _ _ _ _ _ _ h
  dsimp only
  split
  · trivial
  · exact fun t ht => mergeNoted_wf _ _ _ _ (localStore_wf _ _ _ _ ht)

theorem opFtap_wf (n : Nat) (w : Word) (ecc fetch : Ecc) {s : State} (h : s.mem.wf = true) : (opFtap n w ecc fetch s).mem.wf = true := by
  refine issue_wf (fun e => ?_) _ _ _ _ _ _ _ h
  have trap : ∀ a, (Issue.act (eccTrap n a)).Does KeepsWf := fun a => KeepsMem.keepsWf (eccTrap_mem n a)
  extract_lets
  split
  · trivial
  · split
    · exact trap _
    · split
      · exact trap _
      · split
        · exact trap _
        · exact fun t ht => by simp [ht]

theorem vstoreElems_wf (n eb ew v : Nat) (addr : Nat → Nat) (l : List Nat) {s : State} (h : s.mem.wf = true) :
    (vstoreElems n eb ew v addr l s).mem.wf = true := by
  induction l generalizing s with
  | nil => exact h
  | cons i t ih => exact ih (localStore_wf _ _ _ _ h)

theorem vectorEcc_wf (n : Nat) (store : Bool) (addr : Nat → Nat) (ecc : Option Nat) (corr : Nat) (l : List Nat) (e : Engine) {s : State}
    (h : s.mem.wf = true) : (vectorEcc n store addr ecc corr l e s).mem.wf = true := by
  unfold vectorEcc
  split
  · exact h
  · dsimp only
    split
    · simp [h]
    · split <;> simp [h]

theorem vaccess_wf (n : Nat) (store : Bool) (vd : Nat) (addr : Nat → Nat) (ecc : Option Nat) (corr : Nat) (e : Engine) {s : State}
    (h : s.mem.wf = true) : (vaccess n store vd addr ecc corr e s).mem.wf = true := by
  refine vectorEcc_wf _ _ _ _ _ _ _ ?_
  split
  · exact vstoreElems_wf _ _ _ _ _ _ h
  · exact h

theorem vmem_wf (n : Nat) (fetch : Ecc) (store : Bool) (vd : Nat) (regs : List Nat) (addr : Engine → Nat → Nat) (ecc : Option Nat) (corr : Nat)
    (ok : Engine → Engine) {s : State} (h : s.mem.wf = true) : (vmem n fetch store vd regs addr ecc corr ok s).mem.wf = true := by
  refine vissue_wf (fun e => ?_) _ _ _ _ _ _ h
  dsimp only
  split
  · exact fun t ht => vaccess_wf _ _ _ _ _ _ _ ht
  · exact fun t ht => by simp only [vfault_mem, discards_mem, mem_modEng]; exact vaccess_wf _ _ _ _ _ _ _ ht

theorem opGatherComplete_wf (n : Nat) (ecc : Option Nat) (corr : Nat) {s : State} (h : s.mem.wf = true) :
    (opGatherComplete n ecc corr s).mem.wf = true := by
  unfold opGatherComplete
  extract_lets e
  split
  · exact h
  · split
    · extract_lets addr flt seen k t ready
      have ht : t.mem.wf = true := by
        rw [show t.mem = _ from cyclesPass_mem ..]
        exact vaccess_wf _ _ _ _ _ _ _ (by simp [h])
      clear_value flt t ready
      split <;> simp [ht]
    · exact h

end Sys2Proof.Machine
end

section
/-! Canonical form across a reset, a power change and a domain's wake: what a reset keeps is a part of the cells in their order (`keepCells`). -/
namespace Sys2Proof.Machine

theorem resetKeeping_cells (cold dram : Bool) (s : State) : (resetKeeping cold dram s).mem.cells = keepCells cold dram s.mem.cells := by
  unfold resetKeeping
  extract_lets z z1
  split <;> rfl

@[simp ↓] theorem resetKeeping_wf (cold dram : Bool) {s : State} (h : s.mem.wf = true) : (resetKeeping cold dram s).mem.wf = true := by
  unfold Memory.wf
  rw [resetKeeping_cells]
  exact keepCells_wf h

@[simp ↓] theorem restart_wf (cause : Nat) (dram : Bool) {s : State} (h : s.mem.wf = true) : (restart cause dram s).mem.wf = true := by
  unfold restart
  simp [h]

@[simp ↓] theorem powerOn_wf (cold : Bool) (exit : Nat) {s : State} (h : s.mem.wf = true) : (powerOn cold exit s).mem.wf = true := by
  simp [powerOn, h]

@[simp ↓] theorem holdReset_wf (plug : Nat) {s : State} (h : s.mem.wf = true) : (holdReset plug s).mem.wf = true := by
  unfold holdReset
  simp [h]

@[simp ↓] theorem enterDeep_wf {s : State} (h : s.mem.wf = true) : (enterDeep s).mem.wf = true := by
  unfold enterDeep
  simp [h]

@[simp ↓] theorem surprise_wf (plug : Nat) {s : State} (h : s.mem.wf = true) : (surprise plug s).mem.wf = true := by simp [surprise, h]

@[simp ↓] theorem releaseReset_wf {s : State} (h : s.mem.wf = true) : (releaseReset s).mem.wf = true := by unfold releaseReset; simp [h]

@[simp ↓] theorem powerCommand_wf (p : List Byte) {s : State} (h : s.mem.wf = true) : (powerCommand p s).mem.wf = true := by
  unfold powerCommand
  extract_lets cap s1
  have h1 : s1.mem.wf = true := by unfold s1; split <;> simp [h]
  split <;> simp [h1]

@[simp ↓] theorem engineFromOff_wf (n : Nat) {s : State} (h : s.mem.wf = true) : (engineFromOff n s).mem.wf = true := by
  unfold engineFromOff; simp [memClear_wf, h]

@[simp ↓] theorem engineFromDoze_wf (n : Nat) (ecc : Ecc) (code : Nat) {s : State} (h : s.mem.wf = true) :
    (engineFromDoze n ecc code s).mem.wf = true := by
  unfold engineFromDoze
  extract_lets a
  split
  · simp [h]
  · extract_lets s1 mode
    have h1 : s1.mem.wf = true := by unfold s1; split <;> simp [h]
    split
    · simp [h1]
    · simp [memWrite_wf, h1]

@[simp ↓] theorem engineAwake_wf (n : Nat) (ecc : Ecc) {s : State} (h : s.mem.wf = true) : (engineAwake n ecc s).mem.wf = true := by
  unfold engineAwake
  extract_lets code s1
  have h1 : s1.mem.wf = true := by unfold s1; split <;> simp [h]
  split <;> simp [h1]

theorem domAwake_wf (d : Nat) (was : EngMode) (ecc : Ecc) {s : State} (h : s.mem.wf = true) : (domAwake d was ecc s).mem.wf = true := by
  unfold domAwake
  split
  · simp [h]
  · extract_lets s1
    have h1 : s1.mem.wf = true := by unfold s1; simp [h]
    clear_value s1
    split
    · split
      · refine memClear_wf ?_
        simp [h1]
      · exact h1
    · split
      · split
        · simp [h1]
        · exact h1
      · split
        · rw [ioAwake_mem]
          split <;> simp [h1]
        · exact h1

@[simp ↓] theorem fenceDone_wf (d : Nat) {s : State} (h : s.mem.wf = true) : (fenceDone d s).mem.wf = true := by
  unfold fenceDone
  split
  · exact h
  · extract_lets s1 s2 held s3
    have h1 : s1.mem.wf = true := by
      unfold s1
      split
      · exact memWrite_wf h
      · exact h
    have h2 : s2.mem.wf = true := by unfold s2; split <;> simp [h1]
    have h3 : s3.mem.wf = true := by unfold s3; simp [h2]
    clear_value held
    split <;> simp [h3]

end Sys2Proof.Machine
end

section
/-! Canonical form across the commit: a migrated row is copied with `memWrite`. -/
namespace Sys2Proof.Machine

@[simp ↓] theorem engineMark_wf (m : Mark) {s : State} (h : s.mem.wf = true) : (engineMark m s).mem.wf = true := by
  unfold engineMark
  extract_lets n
  split
  · split
    · simp [h]
    · split <;> simp [h]
  · split
    · split
      · split
        · simp [h]
        · split <;> simp [h]
      · exact h
    · split
      · simp [h]
      · split <;> simp [h]

@[simp ↓] theorem markCommit_wf (m : Mark) {s : State} (h : s.mem.wf = true) : (markCommit m s).mem.wf = true := by
  unfold markCommit
  split <;> simp [h]

theorem spareCommit_wf (applied : List Nat) (round : Bool) {s : State} (h : s.mem.wf = true) :
    (spareCommit applied round s).2.mem.wf = true := by
  generalize hd : spareCommit applied round s = d
  unfold spareCommit at hd
  extract_lets s1 s2 req s3 s4 links s5 s6 s7 bw s8 s9 at hd
  have h1 : s1.mem.wf = true := forEach_wf (fun i t ht => by split <;> simp [ht]) _ h
  have h2 : s2.mem.wf = true := forEach_wf (fun m t ht => markCommit_wf m ht) _ h1
  have hreq : ∀ acc t, (req acc t).mem = t.mem := fun acc t => by unfold req; split <;> simp
  have h3 : s3.mem.wf = true := forEach_wf (fun i t ht => by split <;> simp [ht]) _ (by rw [hreq]; exact h2)
  have h4 : s4.mem.wf = true := by unfold s4; split <;> simp [h3]
  have h5 : s5.mem.wf = true := by unfold s5; simp [h4]
  have h6 : s6.mem.wf = true := by unfold s6; split <;> simp [h5]
  have h7 : s7.mem.wf = true := by rw [show s7.mem = _ from hreq _ _]; exact h6
  have h8 : s8.mem.wf = true := by
    unfold s8
    split
    · split <;> simp [h7]
    · exact h7
  have h9 : s9.mem.wf = true := by unfold s9; split <;> simp [h8]
  rw [← hd, snd_mem_mk, sparePending_mem]
  exact h9

@[simp ↓] theorem cmdAction_wf (c : SecCmd) {s : State} (h : s.mem.wf = true) : (cmdAction c s).mem.wf = true := by
  unfold cmdAction; simp [h]

@[simp ↓] theorem secCommit_wf (begins manual : Bool) {s : State} (h : s.mem.wf = true) : (secCommit begins manual s).mem.wf = true :=
  forEach_wf (fun c t ht => by split <;> simp [ht]) _ h

@[simp ↓] theorem commitEnds_wf {s : State} (h : s.mem.wf = true) : (commitEnds s).mem.wf = true := by
  unfold commitEnds
  split <;> simp [h]

theorem commitRun_wf {shed : State → State} (hs : KeepsMem shed) (begins manual : Bool) (ended : Option Nat) {s : State} (h : s.mem.wf = true) :
    (commitRun begins manual ended shed s).mem.wf = true := by
  generalize hd : commitRun begins manual ended shed s = d
  unfold commitRun at hd
  extract_lets s0 applied step a1 a2 sp a3 a4 a5 a6 a7 a8 st b1 b2 at hd
  have h0 : s0.mem.wf = true := by unfold s0; simp [h]
  have h2 : a2.mem.wf = true := by unfold a2 a1; simp [h0]
  have h3 : a3.mem.wf = true := by
    unfold a3
    rw [vectorCommit_mem, nocCommit_mem]
    exact spareCommit_wf _ _ h2
  have h4 : a4.mem.wf = true := secCommit_wf _ _ (by rw [hs]; exact h3)
  have h8 : a8.mem.wf = true := by unfold a8 a7 a6 a5; simp [h4]
  have hb1 : b1.mem.wf = true := by unfold b1 st; simp [h8]
  rw [← hd, atCycle_mem, writeOnlyDone_mem, counterClears_mem, snapshot_mem]
  unfold b2
  rw [trigCommit_mem]
  split <;> simp [hb1]

@[simp ↓] theorem manualCommit_wf {s : State} (h : s.mem.wf = true) : (manualCommit s).mem.wf = true :=
  commitEnds_wf (commitRun_wf (fun _ => rfl) _ _ _ (by simp [h]))

@[simp ↓] theorem boundaryRunning_wf {shed : State → State} (hs : KeepsMem shed) {s : State} (h : s.mem.wf = true) :
    (boundaryRunning shed s).mem.wf = true := by
  generalize hd : boundaryRunning shed s = d
  unfold boundaryRunning at hd
  extract_lets k stops s1 s2 s3 s4 s5 at hd
  have h3 : s3.mem.wf = true := by unfold s3 s2 s1; simp [h]
  have h5 : s5.mem.wf = true := commitRun_wf hs _ _ _ (by unfold s4; simp [h3])
  rw [← hd]
  exact commitEnds_wf (by simp [h5])

@[simp ↓] theorem boundaryFirst_wf {shed : State → State} (hs : KeepsMem shed) (n : Nat) {s : State} (h : s.mem.wf = true) :
    (boundaryFirst shed n s).mem.wf = true := by
  generalize hd : boundaryFirst shed n s = d
  unfold boundaryFirst at hd
  extract_lets x s1 s2 s3 s4 at hd
  have h3 : s3.mem.wf = true := by unfold s3 s2 s1; simp [h]
  have h4 : s4.mem.wf = true := commitRun_wf hs _ _ _ (by simp [h3])
  rw [← hd]
  exact commitEnds_wf (by simp [h4])

end Sys2Proof.Machine
end

section
/-! Canonical form across a register access, the boundary that lets stalled ones in, and the packets that carry one. -/
namespace Sys2Proof.Machine

@[simp ↓] theorem roundCtrlWrite_wf (v : Nat) {s : State} (h : s.mem.wf = true) : (roundCtrlWrite v s).2.mem.wf = true := by
  unfold roundCtrlWrite; simp [h]

@[simp ↓] theorem writeRound_wf (src off mask v : Nat) (d : RegDesc) {s : State} (h : s.mem.wf = true) :
    (writeRound src off mask v d s).2.mem.wf = true := by
  unfold writeRound; simp [h]

theorem writeReg_wf (src off mask v : Nat) (wide : Bool) (d : RegDesc) {s : State} (h : s.mem.wf = true) :
    (writeReg src off mask v wide d s).2.mem.wf = true := by
  unfold writeReg; simp [h]

@[simp ↓] theorem csrWrite_wf (src off : Nat) (wide : Bool) (v : Nat) {s : State} (h : s.mem.wf = true) :
    (csrWrite src off wide v s).2.mem.wf = true := by
  unfold csrWrite
  split
  · exact h
  · split
    · exact h
    · split
      · split
        · exact writeReg_wf _ _ _ _ _ _ h
        · split <;> exact writeReg_wf _ _ _ _ _ _ h
      · exact h

theorem accessNow_wf (a : Access) {s : State} (h : s.mem.wf = true) : (accessNow a s).2.2.mem.wf = true := by
  unfold accessNow
  split
  · rw [snd_snd_mem_mk]
    exact csrWrite_wf _ _ _ _ h
  · rw [csrRead_mem]
    exact h

theorem accepted_wf (a : Access) {s : State} (h : s.mem.wf = true) : (accessEnd a (accessNow a s)).mem.wf = true := by
  rw [accessEnd_mem]
  exact accessNow_wf a h

@[simp ↓] theorem access_wf (a : Access) {s : State} (h : s.mem.wf = true) : (access a s).mem.wf = true := by
  unfold access
  split
  · exact h
  · exact accepted_wf a h

theorem direct_wf (a : Access) {s : State} (h : s.mem.wf = true) : (direct a s).mem.wf = true := by
  unfold direct
  split
  · rw [accessEnd_mem]
    exact h
  · exact access_wf a h

theorem dWrite_wf (src off : Nat) (wide : Bool) (v : Nat) {s : State} (h : s.mem.wf = true) : (dWrite src off wide v s).mem.wf = true :=
  direct_wf _ h

theorem dRead_wf (src off : Nat) (wide mirror : Bool) {s : State} (h : s.mem.wf = true) : (dRead src off wide mirror s).mem.wf = true :=
  direct_wf _ h

theorem windowCloses_wf (k : Nat) {s : State} (h : s.mem.wf = true) : (windowCloses k s).mem.wf = true := by
  induction k generalizing s with
  | zero => exact h
  | succ k ih =>
    unfold windowCloses
    dsimp only
    split
    · simp [h]
    · exact ih (accepted_wf _ (by simp [h]))

theorem opStalledAccessAccepted_wf {s : State} (h : s.mem.wf = true) : (opStalledAccessAccepted s).mem.wf = true := by
  unfold opStalledAccessAccepted
  dsimp only
  split
  · simp [h]
  · split
    · simp [h]
    · exact accepted_wf _ (by simp [h])

theorem opRoundBoundary_wf (power volt : Nat) (temp : Int) {s : State} (h : s.mem.wf = true) :
    (opRoundBoundary power volt temp s).mem.wf = true := by
  unfold opRoundBoundary
  split
  · exact h
  · extract_lets u shed
    have hu : u.mem.wf = true := windowCloses_wf _ h
    clear_value u
    have hs : KeepsMem shed := fun t => shedDecide_mem power volt temp t
    split
    · exact hu
    · extract_lets c
      have hc : c.mem.wf = true := by unfold c; simp [hu]
      split
      · exact boundaryFirst_wf hs _ hc
      · exact boundaryRunning_wf hs hc

theorem opTaskKill_wf (n : Nat) (src : Option (Nat × Bool)) {s : State} (h : s.mem.wf = true) : (opTaskKill n src s).mem.wf = true := by
  cases src with
  | some x => exact dWrite_wf _ _ _ _ h
  | none => simp [opTaskKill, h]

theorem withBadWord_wf {f : State → State} (hf : KeepsWf f) (a : Nat) {s : State} (h : s.mem.wf = true) :
    (withBadWord a f s).mem.wf = true := by
  unfold withBadWord
  split
  · exact hf _ h
  · exact hf _ (addPoison_wf _ h)

theorem opNiRedSend_wf (src c v : Nat) (ecc : Ecc) {s : State} (h : s.mem.wf = true) : (opNiRedSend src c v ecc s).mem.wf = true := by
  have go : KeepsWf (dWrite src (Reg.NI_RED_SEND (8 + c) 0) true v) := fun _ ht => dWrite_wf _ _ _ _ ht
  unfold opNiRedSend
  cases ecc with
  | clean => exact go _ h
  | uncorrectable => exact withBadWord_wf go _ h
  | corrected =>
    dsimp only
    split
    · exact go _ h
    · rw [memCorr_mem]
      exact go _ h

theorem csrPacket_wf (id : Nat) (t : Txn) {s : State} (h : s.mem.wf = true) : (csrPacket id t s).mem.wf = true := by
  unfold csrPacket
  extract_lets off m
  split
  · exact access_wf _ h
  · exact access_wf _ h
  · simp [h]
  · split
    · exact access_wf _ h
    · simp [h]
  · exact h

theorem opPacketAccepted_wf (id : Nat) {s : State} (h : s.mem.wf = true) : (opPacketAccepted id s).mem.wf = true := by
  unfold opPacketAccepted
  split
  · exact h
  · split
    · extract_lets s1
      have h1 : s1.mem.wf = true := by unfold s1; simp [h]
      clear_value s1
      split
      · simp [h1]
      · split
        · exact csrPacket_wf _ _ h1
        · simp [h1]
      · split
        · exact csrPacket_wf _ _ h1
        · simp [h1]
      · exact h1
    · exact h

theorem memServeWrite_wf (ecc : Ecc) (a : Nat) (bs : List Byte) (node port : Nat) {s : State} (h : s.mem.wf = true) :
    (memServeWrite ecc a bs node port s).mem.wf = true := by
  unfold memServeWrite; simp [h]

theorem opMemoryAccessServed_wf (id : Nat) (ecc : Ecc) {s : State} (h : s.mem.wf = true) :
    (opMemoryAccessServed id ecc s).mem.wf = true := by
  unfold opMemoryAccessServed
  split
  · exact h
  · split
    · dsimp only
      split
      · split
        · simp [h]
        · split
          · simp [h]
          · split <;> simp [h]
      · split
        · simp [h]
        · split
          · simp [h]
          · rw [answer_mem]
            exact memServeWrite_wf _ _ _ _ _ (by simp [h])
      · exact h
    · exact h

end Sys2Proof.Machine
end

section
/-! Canonical form across the starter, the housekeeping commands and the replay. -/
namespace Sys2Proof.Machine

theorem starterWrite_wf (off v : Nat) {s0 : State} (h : s0.mem.wf = true) : (starterWrite off v s0).mem.wf = true := by
  have hs : (windowRuns s0).mem.wf = true := by simp [h]
  generalize hd : starterWrite off v s0 = d
  unfold starterWrite at hd
  dsimp only at hd
  generalize windowRuns s0 = s at hd hs
  generalize 0x40000000 + off = a at hd
  split at hd
  · simp [← hd, hs]
  · split at hd
    · simp [← hd, hs]
    · split at hd
      · simp [← hd, hs]
      · have hr := csrWrite_wf (srcOf .sec s) (csrOff a) false v hs
        split at hd
        · rw [← hd]
          exact hr
        · rw [← hd, regErr_mem]
          exact hr

theorem applySection_wf (slot : Nat) (e : List Byte) {s : State} (h : s.mem.wf = true) : (applySection slot e s).mem.wf = true := by
  unfold applySection
  extract_lets bs
  split
  case h_3 => exact forEach_wf (fun i t ht => starterWrite_wf _ _ ht) _ h
  all_goals simp [h]

theorem loadBytes_wf (a : Nat) (bs : List Byte) {s : State} (h : s.mem.wf = true) : (loadBytes a bs s).mem.wf = true := by
  unfold loadBytes
  split
  · exact forEach_wf (fun p t ht => by simp [ht]) _ h
  · simp [h]

theorem loadSections_wf (slot nor next bad : Nat) (seen : List Nat) (l : List (List Byte)) {s : State} (h : s.mem.wf = true) :
    (loadSections slot nor next bad seen l s).2.mem.wf = true := by
  induction l generalizing bad seen s with
  | nil => exact h
  | cons e t ih =>
    unfold loadSections
    extract_lets bs
    split
    · exact h
    · split
      · exact h
      · split
        · exact h
        · split
          · refine ih _ _ (loadBytes_wf _ _ ?_)
            split <;> simp [h]
          · split
            · exact ih _ _ (by simp [h])
            · exact ih _ _ h

theorem slotTry_wf (slot nor bad next : Nat) {s : State} (h : s.mem.wf = true) : (slotTry slot nor bad next s).2.mem.wf = true := by
  unfold slotTry
  extract_lets c
  split
  · exact h
  · exact loadSections_wf _ _ _ _ _ _ h

theorem starterApply_wf (slot primary : Nat) {s : State} (h : s.mem.wf = true) : (starterApply slot primary s).mem.wf = true := by
  generalize hd : starterApply slot primary s = d
  unfold starterApply at hd
  extract_lets hh table secs s1 s2 s3 s4 s5 at hd
  have h1 : s1.mem.wf = true := forEach_wf (fun e t ht => applySection_wf slot e ht) _ (by simp [h])
  have h2 : s2.mem.wf = true := by unfold s2; simp [h1]
  have h3 : s3.mem.wf = true := by unfold s3; split <;> simp [h2]
  have h5 : s5.mem.wf = true := by unfold s5 s4; simp [h3]
  rw [← hd]
  simp [h5]

theorem starterSlots_wf (nor bad : Nat) {s : State} (h : s.mem.wf = true) : (starterSlots nor bad s).mem.wf = true := by
  unfold starterSlots
  extract_lets p a s1 q b
  have ha : a.2.mem.wf = true := slotTry_wf _ _ _ _ h
  clear_value a
  split
  · exact starterApply_wf _ _ ha
  · have hb : b.2.mem.wf = true := slotTry_wf _ _ _ _ (by unfold s1; simp [ha])
    clear_value b
    split
    · exact starterApply_wf _ _ hb
    · simp [hb]

theorem opStarterRun_wf (pll : Bool) (nor bad : Nat) {s : State} (h : s.mem.wf = true) : (opStarterRun pll nor bad s).mem.wf = true := by
  unfold opStarterRun
  split
  · split
    · simp [h]
    · exact starterSlots_wf _ _ (by simp [h])
  · exact h

theorem cmdQueue_wf (f : CmdFrom) (bs : List Byte) (t : Option Nat) {s : State} (h : s.mem.wf = true) :
    (cmdQueue f bs t s).mem.wf = true := by
  unfold cmdQueue
  extract_lets no s1 s2
  have h1 : s1.mem.wf = true := by unfold s1; simp [h]
  have h2 : s2.mem.wf = true := by unfold s2; simp [h1]
  clear_value s2
  split
  · exact h1
  · simp [h2]

theorem cmdAct_wf (f : CmdFrom) (bs : List Byte) (t : Option Nat) {s : State} (h : s.mem.wf = true) : (cmdAct f bs t s).mem.wf = true := by
  unfold cmdAct
  dsimp only
  split
  case h_5 => exact cmdQueue_wf _ _ _ h
  all_goals simp [h]

theorem cmdAccept_wf (f : CmdFrom) (bs : List Byte) (t : Option Nat) {s : State} (h : s.mem.wf = true) :
    (cmdAccept f bs t s).mem.wf = true := by
  unfold cmdAccept
  exact cmdAct_wf _ _ _ (by simp [h])

theorem opJournalWriteDone_wf (ok : Bool) {s : State} (h : s.mem.wf = true) : (opJournalWriteDone ok s).mem.wf = true := by
  unfold opJournalWriteDone
  split
  · exact h
  · split
    · exact h
    · dsimp only
      split
      · simp [h]
      · split
        · exact cmdAccept_wf _ _ _ (by simp [h])
        · simp [h]

theorem opBootRecordWriteDone_wf (ok : Bool) {s : State} (h : s.mem.wf = true) : (opBootRecordWriteDone ok s).mem.wf = true := by
  unfold opBootRecordWriteDone
  split
  · exact h
  · split <;> simp [h]

theorem opStandbyDomainsDown_wf {s : State} (h : s.mem.wf = true) : (opStandbyDomainsDown s).mem.wf = true := by
  unfold opStandbyDomainsDown
  split
  · extract_lets s1 s2
    have h1 : s1.mem.wf = true := forEach_wf (fun d t ht => fenceDone_wf d ht) _ h
    have h2 : s2.mem.wf = true := by unfold s2; simp [h1]
    clear_value s2
    split <;> simp [h2]
  · exact h

theorem opThermalTrip_wf {s : State} (h : s.mem.wf = true) : (opThermalTrip s).mem.wf = true := by unfold opThermalTrip; simp [h]
theorem opWakeIn_wf {s : State} (h : s.mem.wf = true) : (opWakeIn s).mem.wf = true := by unfold opWakeIn; simp [h]
theorem opFenceDrained_wf (d : Nat) {s : State} (h : s.mem.wf = true) : (opFenceDrained d s).mem.wf = true := by
  unfold opFenceDrained
  simp [h]
theorem opRailsGood_wf {s : State} (h : s.mem.wf = true) : (opRailsGood s).mem.wf = true := by unfold opRailsGood; simp [h]
theorem opPresentDebounced_wf {s : State} (h : s.mem.wf = true) : (opPresentDebounced s).mem.wf = true := by
  unfold opPresentDebounced
  simp [h]
theorem opLatchClose_wf {s : State} (h : s.mem.wf = true) : (opLatchClose s).mem.wf = true := by unfold opLatchClose; simp [h]
theorem opPresentLost_wf {s : State} (h : s.mem.wf = true) : (opPresentLost s).mem.wf = true := by unfold opPresentLost; simp [h]
theorem opVinLow_wf {s : State} (h : s.mem.wf = true) : (opVinLow s).mem.wf = true := by unfold opVinLow; simp [h]
theorem opCurrentLimitTrip_wf {s : State} (h : s.mem.wf = true) : (opCurrentLimitTrip s).mem.wf = true := by
  unfold opCurrentLimitTrip; simp [h]

theorem opRemovalPoweredDown_wf {s : State} (h : s.mem.wf = true) : (opRemovalPoweredDown s).mem.wf = true := by
  generalize hd : opRemovalPoweredDown s = d
  unfold opRemovalPoweredDown at hd
  extract_lets s1 at hd
  have h1 : s1.mem.wf = true := forEach_wf (fun d t ht => by simp [ht]) _ h
  clear_value s1
  rw [← hd]
  simp [h, h1]

theorem opDomainWakeDone_wf (d : Nat) (ecc : Ecc) {s : State} (h : s.mem.wf = true) : (opDomainWakeDone d ecc s).mem.wf = true := by
  unfold opDomainWakeDone
  extract_lets x was s1 s2
  have h1 : s1.mem.wf = true := by
    unfold s1
    rw [mem_setDom, noteWake_mem]
    exact domAwake_wf _ _ _ h
  have h2 : s2.mem.wf = true := by unfold s2; simp [h1]
  clear_value s2
  split
  · simp [h2]
  · exact h

theorem replayDeliver_wf (typ src off : Nat) (p : List Byte) {s : State} (h : s.mem.wf = true) :
    (replayDeliver typ src off p s).mem.wf = true := by
  unfold replayDeliver
  split
  case h_4 => exact cmdAccept_wf _ _ _ h
  all_goals simp [h]

theorem opReplayRecordDelivery_wf {s : State} (h : s.mem.wf = true) : (opReplayRecordDelivery s).mem.wf = true := by
  unfold opReplayRecordDelivery
  split
  · extract_lets s1 pos hh n s2
    have h1 : s1.mem.wf = true := by unfold s1; simp [h]
    have h2 : s2.mem.wf = true := by unfold s2; simp [h1]
    clear_value s1 s2
    split
    · exact replayDeliver_wf _ _ _ _ (by simp [h2])
    · exact h1
  · exact h

end Sys2Proof.Machine
end

section
/-! Every command keeps memory in canonical form. -/
namespace Sys2Proof.Machine

theorem gated_wf {deep wf : Bool} {f : State → State} {s : State} (hf : KeepsWf f) (h : s.mem.wf = true) :
    (gated deep wf f s).mem.wf = true := by
  obtain hg | hg := gated_cases deep wf f s
  · rw [hg]
    exact h
  · rw [hg, inOrder_mem]
    exact hf s h

/-- The command is answered with a state whose memory is in canonical form. -/
def AnswersWf (c : Instr) : Prop := ∀ s, s.mem.wf = true → ∃ t, exec c s = .next t ∧ t.mem.wf = true

theorem answersWf_gated {c : Instr} {deep wf : Bool} {f : State → State} (he : ∀ s, exec c s = .next (gated deep wf f s)) (hf : KeepsWf f) :
    AnswersWf c := fun s h => ⟨_, he s, gated_wf hf h⟩

theorem answersWf_mem {c : Instr} {deep wf : Bool} {f : State → State} (he : ∀ s, exec c s = .next (gated deep wf f s)) (hf : KeepsMem f) :
    AnswersWf c := answersWf_gated he (KeepsMem.keepsWf hf)

theorem answersWf_always {c : Instr} {f : State → State} (he : ∀ s, exec c s = .next (wellFormed true f s)) (hf : KeepsWf f) :
    AnswersWf c := fun s h => ⟨_, he s, hf s h⟩

/-- Every command: most leave memory alone (`answersWf_mem`), the others write it through the operations above. -/
theorem exec_answersWf (c : Instr) : AnswersWf c := by
  cases c with
  | roundBoundary power volt temp => exact answersWf_gated (exec_roundBoundary power volt temp) fun _ => opRoundBoundary_wf power volt temp
  | roundFirstPEnd => exact answersWf_mem exec_roundFirstPEnd opRoundFirstPEnd_mem
  | run src => exact answersWf_gated (exec_run src) fun _ => dWrite_wf _ _ _ _
  | stop src => exact answersWf_gated (exec_stop src) fun _ => dWrite_wf _ _ _ _
  | manualCommit src => exact answersWf_gated (exec_manualCommit src) fun _ => dWrite_wf _ _ _ _
  | planFetchAnswer => exact answersWf_mem exec_planFetchAnswer opPlanFetchAnswer_mem
  | planNoOperation => exact answersWf_mem exec_planNoOperation opPlanNoOperation_mem
  | planDmaStart => exact answersWf_mem exec_planDmaStart opPlanDmaStart_mem
  | planCfaHandover => exact answersWf_mem exec_planCfaHandover opPlanCfaHandover_mem
  | planRedSetup => exact answersWf_mem exec_planRedSetup opPlanRedSetup_mem
  | planToken => exact answersWf_mem exec_planToken opPlanToken_mem
  | planRegWrite => exact answersWf_mem exec_planRegWrite opPlanRegWrite_mem
  | occurrenceTaken => exact answersWf_mem exec_occurrenceTaken opOccurrenceTaken_mem
  | shadowStampRead src => exact answersWf_gated (exec_shadowStampRead src) fun _ => dRead_wf _ _ _ _
  | epochWrite src a => exact answersWf_gated (exec_epochWrite src a) fun _ => dWrite_wf _ _ _ _
  | csrWrite src off wide v => exact answersWf_gated (exec_csrWrite src off wide v) fun _ => dWrite_wf _ _ _ _
  | w1cClear src off v => exact answersWf_gated (exec_w1cClear src off v) fun _ => dWrite_wf _ _ _ _
  | counterClear src off => exact answersWf_gated (exec_counterClear src off) fun _ => dWrite_wf _ _ _ _
  | stalledAccessAccepted => exact answersWf_gated exec_stalledAccessAccepted fun _ => opStalledAccessAccepted_wf
  | add n w fetch => exact answersWf_mem (exec_add n w fetch) (opAdd_mem n w fetch)
  | sub n w fetch => exact answersWf_mem (exec_sub n w fetch) (opSub_mem n w fetch)
  | and n w fetch => exact answersWf_mem (exec_and n w fetch) (opAnd_mem n w fetch)
  | or n w fetch => exact answersWf_mem (exec_or n w fetch) (opOr_mem n w fetch)
  | xor n w fetch => exact answersWf_mem (exec_xor n w fetch) (opXor_mem n w fetch)
  | shl n w fetch => exact answersWf_mem (exec_shl n w fetch) (opShl_mem n w fetch)
  | shr n w fetch => exact answersWf_mem (exec_shr n w fetch) (opShr_mem n w fetch)
  | sar n w fetch => exact answersWf_mem (exec_sar n w fetch) (opSar_mem n w fetch)
  | cmpEq n w fetch => exact answersWf_mem (exec_cmpEq n w fetch) (opCmpEq_mem n w fetch)
  | cmpLt n w fetch => exact answersWf_mem (exec_cmpLt n w fetch) (opCmpLt_mem n w fetch)
  | cmpLtu n w fetch => exact answersWf_mem (exec_cmpLtu n w fetch) (opCmpLtu_mem n w fetch)
  | min n w fetch => exact answersWf_mem (exec_min n w fetch) (opMin_mem n w fetch)
  | max n w fetch => exact answersWf_mem (exec_max n w fetch) (opMax_mem n w fetch)
  | abs n w fetch => exact answersWf_mem (exec_abs n w fetch) (opAbs_mem n w fetch)
  | mov n w fetch => exact answersWf_mem (exec_mov n w fetch) (opMov_mem n w fetch)
  | movi n w fetch => exact answersWf_mem (exec_movi n w fetch) (opMovi_mem n w fetch)
  | movhi n w fetch => exact answersWf_mem (exec_movhi n w fetch) (opMovhi_mem n w fetch)
  | mul n w fetch => exact answersWf_mem (exec_mul n w fetch) (opMul_mem n w fetch)
  | mulh n w fetch => exact answersWf_mem (exec_mulh n w fetch) (opMulh_mem n w fetch)
  | cmac n w fetch => exact answersWf_mem (exec_cmac n w fetch) (opCmac_mem n w fetch)
  | cmacc n w fetch => exact answersWf_mem (exec_cmacc n w fetch) (opCmacc_mem n w fetch)
  | cmsu n w fetch => exact answersWf_mem (exec_cmsu n w fetch) (opCmsu_mem n w fetch)
  | rmac n w fetch => exact answersWf_mem (exec_rmac n w fetch) (opRmac_mem n w fetch)
  | clr n w fetch => exact answersWf_mem (exec_clr n w fetch) (opClr_mem n w fetch)
  | racc n w fetch => exact answersWf_mem (exec_racc n w fetch) (opRacc_mem n w fetch)
  | mva n w fetch => exact answersWf_mem (exec_mva n w fetch) (opMva_mem n w fetch)
  | ftap n w ecc fetch => exact answersWf_gated (exec_ftap n w ecc fetch) fun _ => opFtap_wf n w ecc fetch
  | ldB n w ecc fetch => exact answersWf_mem (exec_ldB n w ecc fetch) (opLdB_mem n w ecc fetch)
  | ldBu n w ecc fetch => exact answersWf_mem (exec_ldBu n w ecc fetch) (opLdBu_mem n w ecc fetch)
  | ldH n w ecc fetch => exact answersWf_mem (exec_ldH n w ecc fetch) (opLdH_mem n w ecc fetch)
  | ldHu n w ecc fetch => exact answersWf_mem (exec_ldHu n w ecc fetch) (opLdHu_mem n w ecc fetch)
  | ldW n w ecc fetch => exact answersWf_mem (exec_ldW n w ecc fetch) (opLdW_mem n w ecc fetch)
  | ldD n w ecc fetch => exact answersWf_mem (exec_ldD n w ecc fetch) (opLdD_mem n w ecc fetch)
  | stB n w ecc fetch => exact answersWf_gated (exec_stB n w ecc fetch) fun _ => storeOp_wf _ _ _ _ _
  | stH n w ecc fetch => exact answersWf_gated (exec_stH n w ecc fetch) fun _ => storeOp_wf _ _ _ _ _
  | stW n w fetch => exact answersWf_gated (exec_stW n w fetch) fun _ => storeOp_wf _ _ _ _ _
  | stD n w fetch => exact answersWf_gated (exec_stD n w fetch) fun _ => storeOp_wf _ _ _ _ _
  | undef n w fetch => exact answersWf_mem (exec_undef n w fetch) (opUndef_mem n w fetch)
  | ldf n w fetch => exact answersWf_mem (exec_ldf n w fetch) (opLdf_mem n w fetch)
  | stf n w fetch => exact answersWf_mem (exec_stf n w fetch) (opStf_mem n w fetch)
  | stfAck n w fetch => exact answersWf_mem (exec_stfAck n w fetch) (opStfAck_mem n w fetch)
  | farStoreInjected n => exact answersWf_mem (exec_farStoreInjected n) (opFarStoreInjected_mem n)
  | farResponse n id => exact answersWf_mem (exec_farResponse n id) (opFarResponse_mem n id)
  | farErr n => exact answersWf_mem (exec_farErr n) (opFarErr_mem n)
  | fencef n w fetch => exact answersWf_mem (exec_fencef n w fetch) (opFencef_mem n w fetch)
  | b n w fetch => exact answersWf_mem (exec_b n w fetch) (opB_mem n w fetch)
  | bz n w fetch => exact answersWf_mem (exec_bz n w fetch) (opBz_mem n w fetch)
  | bnz n w fetch => exact answersWf_mem (exec_bnz n w fetch) (opBnz_mem n w fetch)
  | bl n w fetch => exact answersWf_mem (exec_bl n w fetch) (opBl_mem n w fetch)
  | jr n w fetch => exact answersWf_mem (exec_jr n w fetch) (opJr_mem n w fetch)
  | jal n w fetch => exact answersWf_mem (exec_jal n w fetch) (opJal_mem n w fetch)
  | rpt n w fetch => exact answersWf_mem (exec_rpt n w fetch) (opRpt_mem n w fetch)
  | repeatEnd n => exact answersWf_mem (exec_repeatEnd n) (opRepeatEnd_mem n)
  | wait n w fetch => exact answersWf_mem (exec_wait n w fetch) (opWait_mem n w fetch)
  | waitDrainDone n => exact answersWf_mem (exec_waitDrainDone n) (opWaitDrainDone_mem n)
  | reti n w fetch => exact answersWf_mem (exec_reti n w fetch) (opReti_mem n w fetch)
  | trap n w fetch => exact answersWf_mem (exec_trap n w fetch) (opTrap_mem n w fetch)
  | brk n w fetch => exact answersWf_mem (exec_brk n w fetch) (opBrk_mem n w fetch)
  | mfs n w fetch => exact answersWf_mem (exec_mfs n w fetch) (opMfs_mem n w fetch)
  | mts n w fetch => exact answersWf_mem (exec_mts n w fetch) (opMts_mem n w fetch)
  | nop n w fetch => exact answersWf_mem (exec_nop n w fetch) (opNop_mem n w fetch)
  | interrupt n => exact answersWf_mem (exec_interrupt n) (opInterrupt_mem n)
  | engIrqSet src n mask => exact answersWf_gated (exec_engIrqSet src n mask) fun _ => dWrite_wf _ _ _ _
  | engIrqLate n line => exact answersWf_mem (exec_engIrqLate n line) (opEngIrqLate_mem n line)
  | taskKill n src => exact answersWf_gated (exec_taskKill n src) fun _ => opTaskKill_wf n src
  | killed n => exact answersWf_mem (exec_killed n) (opKilled_mem n)
  | engineReset src n halt => exact answersWf_gated (exec_engineReset src n halt) fun _ => dWrite_wf _ _ _ _
  | halt src n => exact answersWf_gated (exec_halt src n) fun _ => dWrite_wf _ _ _ _
  | haltClear src n => exact answersWf_gated (exec_haltClear src n) fun _ => dWrite_wf _ _ _ _
  | step src n => exact answersWf_gated (exec_step src n) fun _ => dWrite_wf _ _ _ _
  | engHalted n => exact answersWf_mem (exec_engHalted n) (opEngHalted_mem n)
  | setvl n w fetch => exact answersWf_mem (exec_setvl n w fetch) (opSetvl_mem n w fetch)
  | vrd n w fetch => exact answersWf_mem (exec_vrd n w fetch) (opVrd_mem n w fetch)
  | vwr n w fetch => exact answersWf_mem (exec_vwr n w fetch) (opVwr_mem n w fetch)
  | vld n vd gb imm post ecc corr fetch => exact answersWf_gated (exec_vld n vd gb imm post ecc corr fetch) fun _ => vmem_wf _ _ _ _ _ _ _ _ _
  | vst n vs gb imm post ecc corr fetch => exact answersWf_gated (exec_vst n vs gb imm post ecc corr fetch) fun _ => vmem_wf _ _ _ _ _ _ _ _ _
  | vlds n vd gb gs ecc corr fetch => exact answersWf_gated (exec_vlds n vd gb gs ecc corr fetch) fun _ => vmem_wf _ _ _ _ _ _ _ _ _
  | vsts n vs gb gs ecc corr fetch => exact answersWf_gated (exec_vsts n vs gb gs ecc corr fetch) fun _ => vmem_wf _ _ _ _ _ _ _ _ _
  | vldx n vd gb vi fetch => exact answersWf_mem (exec_vldx n vd gb vi fetch) (opVldx_mem n vd gb vi fetch)
  | vstx n vs gb vi fetch => exact answersWf_mem (exec_vstx n vs gb vi fetch) (opVstx_mem n vs gb vi fetch)
  | gatherComplete n ecc corr => exact answersWf_gated (exec_gatherComplete n ecc corr) fun _ => opGatherComplete_wf n ecc corr
  | vadd n vd va vb p fetch => exact answersWf_mem (exec_vadd n vd va vb p fetch) (opVadd_mem n vd va vb p fetch)
  | vsub n vd va vb p fetch => exact answersWf_mem (exec_vsub n vd va vb p fetch) (opVsub_mem n vd va vb p fetch)
  | vmul n vd va vb p fetch => exact answersWf_mem (exec_vmul n vd va vb p fetch) (opVmul_mem n vd va vb p fetch)
  | vadds n vd va vb p fetch => exact answersWf_mem (exec_vadds n vd va vb p fetch) (opVadds_mem n vd va vb p fetch)
  | vsubs n vd va vb p fetch => exact answersWf_mem (exec_vsubs n vd va vb p fetch) (opVsubs_mem n vd va vb p fetch)
  | vcmul n vd va vb p fetch => exact answersWf_mem (exec_vcmul n vd va vb p fetch) (opVcmul_mem n vd va vb p fetch)
  | vcmulc n vd va vb p fetch => exact answersWf_mem (exec_vcmulc n vd va vb p fetch) (opVcmulc_mem n vd va vb p fetch)
  | vcmacW n vd va vb p fetch => exact answersWf_mem (exec_vcmacW n vd va vb p fetch) (opVcmacW_mem n vd va vb p fetch)
  | vcmaccW n vd va vb p fetch => exact answersWf_mem (exec_vcmaccW n vd va vb p fetch) (opVcmaccW_mem n vd va vb p fetch)
  | vracc n vd va sh fetch => exact answersWf_mem (exec_vracc n vd va sh fetch) (opVracc_mem n vd va sh fetch)
  | vftap n va vx vy gc conj rc cdir ecc fetch =>
    exact answersWf_mem (exec_vftap n va vx vy gc conj rc cdir ecc fetch) (opVftap_mem n va vx vy gc conj rc cdir ecc fetch)
  | vfadd n vd va vb p fetch => exact answersWf_mem (exec_vfadd n vd va vb p fetch) (opVfadd_mem n vd va vb p fetch)
  | vfsub n vd va vb p fetch => exact answersWf_mem (exec_vfsub n vd va vb p fetch) (opVfsub_mem n vd va vb p fetch)
  | vfmul n vd va vb p fetch => exact answersWf_mem (exec_vfmul n vd va vb p fetch) (opVfmul_mem n vd va vb p fetch)
  | vfma n vd va vb p fetch => exact answersWf_mem (exec_vfma n vd va vb p fetch) (opVfma_mem n vd va vb p fetch)
  | vcmpEq n pd va vb fetch => exact answersWf_mem (exec_vcmpEq n pd va vb fetch) (opVcmpEq_mem n pd va vb fetch)
  | vcmpLt n pd va vb fetch => exact answersWf_mem (exec_vcmpLt n pd va vb fetch) (opVcmpLt_mem n pd va vb fetch)
  | vcmpLtu n pd va vb fetch => exact answersWf_mem (exec_vcmpLtu n pd va vb fetch) (opVcmpLtu_mem n pd va vb fetch)
  | pand n pd pa pb fetch => exact answersWf_mem (exec_pand n pd pa pb fetch) (opPand_mem n pd pa pb fetch)
  | por n pd pa pb fetch => exact answersWf_mem (exec_por n pd pa pb fetch) (opPor_mem n pd pa pb fetch)
  | pxor n pd pa pb fetch => exact answersWf_mem (exec_pxor n pd pa pb fetch) (opPxor_mem n pd pa pb fetch)
  | pnot n pd pa fetch => exact answersWf_mem (exec_pnot n pd pa fetch) (opPnot_mem n pd pa fetch)
  | vsel n vd p va vb fetch => exact answersWf_mem (exec_vsel n vd p va vb fetch) (opVsel_mem n vd p va vb fetch)
  | vbcast n vd gs p fetch => exact answersWf_mem (exec_vbcast n vd gs p fetch) (opVbcast_mem n vd gs p fetch)
  | vins n vd gs i fetch => exact answersWf_mem (exec_vins n vd gs i fetch) (opVins_mem n vd gs i fetch)
  | vext n gd va i fetch => exact answersWf_mem (exec_vext n gd va i fetch) (opVext_mem n gd va i fetch)
  | vtperm n vd vt k vi p fetch => exact answersWf_mem (exec_vtperm n vd vt k vi p fetch) (opVtperm_mem n vd vt k vi p fetch)
  | vsum n vd va p fetch => exact answersWf_mem (exec_vsum n vd va p fetch) (opVsum_mem n vd va p fetch)
  | vectorPowerDown n => exact answersWf_mem (exec_vectorPowerDown n) (opVectorPowerDown_mem n)
  | vectorWakeDone n => exact answersWf_mem (exec_vectorWakeDone n) (opVectorWakeDone_mem n)
  | cop n w fetch => exact answersWf_mem (exec_cop n w fetch) (opCop_mem n w fetch)
  | copAnswer n => exact answersWf_mem (exec_copAnswer n) (opCopAnswer_mem n)
  | accRequest k id => exact answersWf_mem (exec_accRequest k id) (opAccRequest_mem k id)
  | accDescriptorFetched k id => exact answersWf_mem (exec_accDescriptorFetched k id) (opAccDescriptorFetched_mem k id)
  | jobStart k => exact answersWf_mem (exec_jobStart k) (opJobStart_mem k)
  | accInputReadAnswer k id corr uncorr row =>
    exact answersWf_mem (exec_accInputReadAnswer k id corr uncorr row) (opAccInputReadAnswer_mem k id corr uncorr row)
  | outputWritesAccepted k => exact answersWf_mem (exec_outputWritesAccepted k) (opOutputWritesAccepted_mem k)
  | resultWriteAccepted k => exact answersWf_mem (exec_resultWriteAccepted k) (opResultWriteAccepted_mem k)
  | statusWriteAccepted k id => exact answersWf_mem (exec_statusWriteAccepted k id) (opStatusWriteAccepted_mem k id)
  | withdraw k id => exact answersWf_mem (exec_withdraw k id) (opWithdraw_mem k id)
  | withdrawAnswer n id => exact answersWf_mem (exec_withdrawAnswer n id) (opWithdrawAnswer_mem n id)
  | flush src k v => exact answersWf_gated (exec_flush src k v) fun _ => dWrite_wf _ _ _ _
  | define src sl c => exact answersWf_gated (exec_define src sl c) fun _ => dWrite_wf _ _ _ _
  | arm src sl c => exact answersWf_gated (exec_arm src sl c) fun _ => dWrite_wf _ _ _ _
  | cancel src sl c => exact answersWf_gated (exec_cancel src sl c) fun _ => dWrite_wf _ _ _ _
  | read src sl c => exact answersWf_gated (exec_read src sl c) fun _ => dWrite_wf _ _ _ _
  | release src sl c => exact answersWf_gated (exec_release src sl c) fun _ => dWrite_wf _ _ _ _
  | token sl w0 w1 src res => exact answersWf_mem (exec_token sl w0 w1 src res) (opToken_mem sl w0 w1 src res)
  | armMessage sl w0 src res => exact answersWf_mem (exec_armMessage sl w0 src res) (opArmMessage_mem sl w0 src res)
  | cancelMessage sl w0 src res => exact answersWf_mem (exec_cancelMessage sl w0 src res) (opCancelMessage_mem sl w0 src res)
  | heldTokenAccepted sl => exact answersWf_mem (exec_heldTokenAccepted sl) (opHeldTokenAccepted_mem sl)
  | orderLogReadAnswer sl => exact answersWf_mem (exec_orderLogReadAnswer sl) (opOrderLogReadAnswer_mem sl)
  | dispatch sl => exact answersWf_mem (exec_dispatch sl) (opDispatch_mem sl)
  | operandAreaAccepted sl e => exact answersWf_mem (exec_operandAreaAccepted sl e) (opOperandAreaAccepted_mem sl e)
  | churnNextRead src sl e => exact answersWf_gated (exec_churnNextRead src sl e) fun _ => dRead_wf _ _ _ _
  | killAcknowledgement sl e => exact answersWf_mem (exec_killAcknowledgement sl e) (opKillAcknowledgement_mem sl e)
  | packetAccepted id => exact answersWf_gated (exec_packetAccepted id) fun _ => opPacketAccepted_wf id
  | acceptanceNotice id => exact answersWf_mem (exec_acceptanceNotice id) (opAcceptanceNotice_mem id)
  | requestTimeout id => exact answersWf_mem (exec_requestTimeout id) (opRequestTimeout_mem id)
  | lateAnswer id => exact answersWf_mem (exec_lateAnswer id) (opLateAnswer_mem id)
  | placeFreed id => exact answersWf_mem (exec_placeFreed id) (opPlaceFreed_mem id)
  | heldRequestInjected id => exact answersWf_mem (exec_heldRequestInjected id) (opHeldRequestInjected_mem id)
  | routerApply n => exact answersWf_mem (exec_routerApply n) (opRouterApply_mem n)
  | nocDrainSlow => exact answersWf_mem exec_nocDrainSlow opNocDrainSlow_mem
  | guardAccess id => exact answersWf_mem (exec_guardAccess id) (opGuardAccess_mem id)
  | nack id => exact answersWf_mem (exec_nack id) (opNack_mem id)
  | book id => exact answersWf_mem (exec_book id) (opBook_mem id)
  | deny id => exact answersWf_mem (exec_deny id) (opDeny_mem id)
  | bookRetry id => exact answersWf_mem (exec_bookRetry id) (opBookRetry_mem id)
  | grant id => exact answersWf_mem (exec_grant id) (opGrant_mem id)
  | niRedSend src c v ecc => exact answersWf_gated (exec_niRedSend src c v ecc) fun _ => opNiRedSend_wf src c v ecc
  | redPacketAtRouter n id => exact answersWf_mem (exec_redPacketAtRouter n id) (opRedPacketAtRouter_mem n id)
  | redHoldExpiry n i => exact answersWf_mem (exec_redHoldExpiry n i) (opRedHoldExpiry_mem n i)
  | niRedSetup src c tag count cls => exact answersWf_gated (exec_niRedSetup src c tag count cls) fun _ => dWrite_wf _ _ _ _
  | redSetupReceived id => exact answersWf_mem (exec_redSetupReceived id) (opRedSetupReceived_mem id)
  | redPartial c id => exact answersWf_mem (exec_redPartial c id) (opRedPartial_mem c id)
  | redTableAnswer c tag => exact answersWf_mem (exec_redTableAnswer c tag) (opRedTableAnswer_mem c tag)
  | redResultAccepted c tag => exact answersWf_mem (exec_redResultAccepted c tag) (opRedResultAccepted_mem c tag)
  | memoryAccessServed id ecc => exact answersWf_gated (exec_memoryAccessServed id ecc) fun _ => opMemoryAccessServed_wf id ecc
  | dramTrainingEnd ch failed => exact answersWf_mem (exec_dramTrainingEnd ch failed) (opDramTrainingEnd_mem ch failed)
  | dramTemperatureRead ch hot => exact answersWf_mem (exec_dramTemperatureRead ch hot) (opDramTemperatureRead_mem ch hot)
  | scrubPass ch corr => exact answersWf_mem (exec_scrubPass ch corr) (opScrubPass_mem ch corr)
  | dmaChStart src e ch addr => exact answersWf_gated (exec_dmaChStart src e ch addr) fun _ => dWrite_wf _ _ _ _
  | dmaDescriptorFetched e ch => exact answersWf_mem (exec_dmaDescriptorFetched e ch) (opDmaDescriptorFetched_mem e ch)
  | dmaBurstIssue e pre => exact answersWf_mem (exec_dmaBurstIssue e pre) (opDmaBurstIssue_mem e pre)
  | dmaReadAnswer e ch id => exact answersWf_mem (exec_dmaReadAnswer e ch id) (opDmaReadAnswer_mem e ch id)
  | dmaQuiet e => exact answersWf_mem (exec_dmaQuiet e) (opDmaQuiet_mem e)
  | busClr src e en => exact answersWf_gated (exec_busClr src e en) fun _ => dWrite_wf _ _ _ _
  | dmaDataAccepted e ch => exact answersWf_mem (exec_dmaDataAccepted e ch) (opDmaDataAccepted_mem e ch)
  | dmaCrcAccepted e ch => exact answersWf_mem (exec_dmaCrcAccepted e ch) (opDmaCrcAccepted_mem e ch)
  | dmaStatusAccepted e ch => exact answersWf_mem (exec_dmaStatusAccepted e ch) (opDmaStatusAccepted_mem e ch)
  | dmaOwnAccepted e ch => exact answersWf_mem (exec_dmaOwnAccepted e ch) (opDmaOwnAccepted_mem e ch)
  | dmaChStop src e ch => exact answersWf_gated (exec_dmaChStop src e ch) fun _ => dWrite_wf _ _ _ _
  | dmaStopComplete e ch => exact answersWf_mem (exec_dmaStopComplete e ch) (opDmaStopComplete_mem e ch)
  | cfaChReadyWrite src ch v => exact answersWf_gated (exec_cfaChReadyWrite src ch v) fun _ => dWrite_wf _ _ _ _
  | cfaHandover id => exact answersWf_mem (exec_cfaHandover id) (opCfaHandover_mem id)
  | cfaCoefWrite src k i v => exact answersWf_gated (exec_cfaCoefWrite src k i v) fun _ => dWrite_wf _ _ _ _
  | cfaLineRead ch => exact answersWf_mem (exec_cfaLineRead ch) (opCfaLineRead_mem ch)
  | cfaLineReadAnswer ch id => exact answersWf_mem (exec_cfaLineReadAnswer ch id) (opCfaLineReadAnswer_mem ch id)
  | detectorWindowEnd ch => exact answersWf_mem (exec_detectorWindowEnd ch) (opDetectorWindowEnd_mem ch)
  | gateDecision m => exact answersWf_mem (exec_gateDecision m) (opGateDecision_mem m)
  | gateEntryReadAnswer m => exact answersWf_mem (exec_gateEntryReadAnswer m) (opGateEntryReadAnswer_mem m)
  | gateFrameReadAnswer m => exact answersWf_mem (exec_gateFrameReadAnswer m) (opGateFrameReadAnswer_mem m)
  | gateLaunch m => exact answersWf_mem (exec_gateLaunch m) (opGateLaunch_mem m)
  | anComplete m same sym asym eee => exact answersWf_mem (exec_anComplete m same sym asym eee) (opAnComplete_mem m same sym asym eee)
  | linkTrainingComplete m => exact answersWf_mem (exec_linkTrainingComplete m) (opLinkTrainingComplete_mem m)
  | portLinkLoss m => exact answersWf_mem (exec_portLinkLoss m) (opPortLinkLoss_mem m)
  | detectAttempt l => exact answersWf_mem (exec_detectAttempt l) (opDetectAttempt_mem l)
  | receiverDetected l => exact answersWf_mem (exec_receiverDetected l) (opReceiverDetected_mem l)
  | bitLock l => exact answersWf_mem (exec_bitLock l) (opBitLock_mem l)
  | symbolLock l viol => exact answersWf_mem (exec_symbolLock l viol) (opSymbolLock_mem l viol)
  | trainTimeout l => exact answersWf_mem (exec_trainTimeout l) (opTrainTimeout_mem l)
  | lockTimeout l viol => exact answersWf_mem (exec_lockTimeout l viol) (opLockTimeout_mem l viol)
  | capsTimeout l => exact answersWf_mem (exec_capsTimeout l) (opCapsTimeout_mem l)
  | stepTimeout l viol => exact answersWf_mem (exec_stepTimeout l viol) (opStepTimeout_mem l viol)
  | capsSetReceived l gs viol => exact answersWf_mem (exec_capsSetReceived l gs viol) (opCapsSetReceived_mem l gs viol)
  | tscReceived l gs viol => exact answersWf_mem (exec_tscReceived l gs viol) (opTscReceived_mem l gs viol)
  | tscCountZeroSent l => exact answersWf_mem (exec_tscCountZeroSent l) (opTscCountZeroSent_mem l)
  | lockLoss l viol => exact answersWf_mem (exec_lockLoss l viol) (opLockLoss_mem l viol)
  | signalLoss l => exact answersWf_mem (exec_signalLoss l) (opSignalLoss_mem l)
  | tetherRestart src l => exact answersWf_gated (exec_tetherRestart src l) fun _ => dWrite_wf _ _ _ _
  | clrCeil src l => exact answersWf_gated (exec_clrCeil src l) fun _ => dWrite_wf _ _ _ _
  | tetherBlockSend l turn cut ecc word => exact answersWf_mem (exec_tetherBlockSend l turn cut ecc word) (opTetherBlockSend_mem l turn cut ecc word)
  | tetherBlockReceived l gs viol arrive ecc word prbs =>
    exact answersWf_mem (exec_tetherBlockReceived l gs viol arrive ecc word prbs) (opTetherBlockReceived_mem l gs viol arrive ecc word prbs)
  | leaveComplete l => exact answersWf_mem (exec_leaveComplete l) (opLeaveComplete_mem l)
  | ctlRingWriteAccepted l => exact answersWf_mem (exec_ctlRingWriteAccepted l) (opCtlRingWriteAccepted_mem l)
  | ctlTxEntryRead l => exact answersWf_mem (exec_ctlTxEntryRead l) (opCtlTxEntryRead_mem l)
  | ctlTxEntryAnswer l => exact answersWf_mem (exec_ctlTxEntryAnswer l) (opCtlTxEntryAnswer_mem l)
  | ctleAdapt l up => exact answersWf_mem (exec_ctleAdapt l up) (opCtleAdapt_mem l up)
  | frameReceived m bs mark frag back => exact answersWf_mem (exec_frameReceived m bs mark frag back) (opFrameReceived_mem m bs mark frag back)
  | rxqEntryAnswer m q => exact answersWf_mem (exec_rxqEntryAnswer m q) (opRxqEntryAnswer_mem m q)
  | rxStatusReadAnswer m q => exact answersWf_mem (exec_rxStatusReadAnswer m q) (opRxStatusReadAnswer_mem m q)
  | rxFrameWritesAccepted m q => exact answersWf_mem (exec_rxFrameWritesAccepted m q) (opRxFrameWritesAccepted_mem m q)
  | rxStatusWriteAccepted m q => exact answersWf_mem (exec_rxStatusWriteAccepted m q) (opRxStatusWriteAccepted_mem m q)
  | macRxqReset src m q => exact answersWf_gated (exec_macRxqReset src m q) fun _ => dWrite_wf _ _ _ _
  | pauseFrameReceived m pfc mask none0 => exact answersWf_mem (exec_pauseFrameReceived m pfc mask none0) (opPauseFrameReceived_mem m pfc mask none0)
  | pauseTimerEnd m mask => exact answersWf_mem (exec_pauseTimerEnd m mask) (opPauseTimerEnd_mem m mask)
  | pauseRepeat m => exact answersWf_mem (exec_pauseRepeat m) (opPauseRepeat_mem m)
  | txDescriptorRead m q => exact answersWf_mem (exec_txDescriptorRead m q) (opTxDescriptorRead_mem m q)
  | txDescriptorAnswer m q => exact answersWf_mem (exec_txDescriptorAnswer m q) (opTxDescriptorAnswer_mem m q)
  | txFrameReadAnswer m q => exact answersWf_mem (exec_txFrameReadAnswer m q) (opTxFrameReadAnswer_mem m q)
  | txFrameStart m => exact answersWf_mem (exec_txFrameStart m) (opTxFrameStart_mem m)
  | fragmentPreempt m n => exact answersWf_mem (exec_fragmentPreempt m n) (opFragmentPreempt_mem m n)
  | txFrameEnd m => exact answersWf_mem (exec_txFrameEnd m) (opTxFrameEnd_mem m)
  | txCompletionAccepted m q => exact answersWf_mem (exec_txCompletionAccepted m q) (opTxCompletionAccepted_mem m q)
  | verifyTimeout m => exact answersWf_mem (exec_verifyTimeout m) (opVerifyTimeout_mem m)
  | verifyResponseReceived m => exact answersWf_mem (exec_verifyResponseReceived m) (opVerifyResponseReceived_mem m)
  | holdAssert m => exact answersWf_mem (exec_holdAssert m) (opHoldAssert_mem m)
  | lpiEntry m => exact answersWf_mem (exec_lpiEntry m) (opLpiEntry_mem m)
  | lpiWakeDone m => exact answersWf_mem (exec_lpiWakeDone m) (opLpiWakeDone_mem m)
  | timeIncWrite src v => exact answersWf_gated (exec_timeIncWrite src v) fun _ => dWrite_wf _ _ _ _
  | timeSlewIncWrite src v => exact answersWf_gated (exec_timeSlewIncWrite src v) fun _ => dWrite_wf _ _ _ _
  | timeSlewCntWrite src v => exact answersWf_gated (exec_timeSlewCntWrite src v) fun _ => dWrite_wf _ _ _ _
  | slewEnd => exact answersWf_mem exec_slewEnd opSlewEnd_mem
  | timeNowSecRead src => exact answersWf_gated (exec_timeNowSecRead src) fun _ => dRead_wf _ _ _ _
  | timeNowSubRead src => exact answersWf_gated (exec_timeNowSubRead src) fun _ => dRead_wf _ _ _ _
  | timeValidWrite src on => exact answersWf_gated (exec_timeValidWrite src on) fun _ => dWrite_wf _ _ _ _
  | timeLoad src valid => exact answersWf_gated (exec_timeLoad src valid) fun _ => dWrite_wf _ _ _ _
  | timeCapture n => exact answersWf_mem (exec_timeCapture n) (opTimeCapture_mem n)
  | timeTrig n => exact answersWf_mem (exec_timeTrig n) (opTimeTrig_mem n)
  | timeOutPulseEnd n => exact answersWf_mem (exec_timeOutPulseEnd n) (opTimeOutPulseEnd_mem n)
  | silentProbe p => exact answersWf_mem (exec_silentProbe p) (opSilentProbe_mem p)
  | probeReceived p => exact answersWf_mem (exec_probeReceived p) (opProbeReceived_mem p)
  | probeComplete p snr theirs => exact answersWf_mem (exec_probeComplete p snr theirs) (opProbeComplete_mem p snr theirs)
  | probeTimeout p => exact answersWf_mem (exec_probeTimeout p) (opProbeTimeout_mem p)
  | ectrainComplete p echo => exact answersWf_mem (exec_ectrainComplete p echo) (opEctrainComplete_mem p echo)
  | echoCheck8ms p echo => exact answersWf_mem (exec_echoCheck8ms p echo) (opEchoCheck8ms_mem p echo)
  | ectrainTimeout p => exact answersWf_mem (exec_ectrainTimeout p) (opEctrainTimeout_mem p)
  | exchangeComplete p => exact answersWf_mem (exec_exchangeComplete p) (opExchangeComplete_mem p)
  | exchangeTimeout p => exact answersWf_mem (exec_exchangeTimeout p) (opExchangeTimeout_mem p)
  | lineSignalLoss p => exact answersWf_mem (exec_lineSignalLoss p) (opLineSignalLoss_mem p)
  | fecFail p => exact answersWf_mem (exec_fecFail p) (opFecFail_mem p)
  | linePairRestart src p => exact answersWf_gated (exec_linePairRestart src p) fun _ => dWrite_wf _ _ _ _
  | lineLpiEntry p rx => exact answersWf_mem (exec_lineLpiEntry p rx) (opLineLpiEntry_mem p rx)
  | refreshBurst p => exact answersWf_mem (exec_refreshBurst p) (opRefreshBurst_mem p)
  | energyDetect p x => exact answersWf_mem (exec_energyDetect p x) (opEnergyDetect_mem p x)
  | earlyTest p before r x => exact answersWf_mem (exec_earlyTest p before r x) (opEarlyTest_mem p before r x)
  | fullTest p r x => exact answersWf_mem (exec_fullTest p r x) (opFullTest_mem p r x)
  | delimiterCheck p d inv x => exact answersWf_mem (exec_delimiterCheck p d inv x) (opDelimiterCheck_mem p d inv x)
  | reacquire p x => exact answersWf_mem (exec_reacquire p x) (opReacquire_mem p x)
  | capture p r x => exact answersWf_mem (exec_capture p r x) (opCapture_mem p r x)
  | burstEnd p => exact answersWf_mem (exec_burstEnd p) (opBurstEnd_mem p)
  | holdoffExit p x => exact answersWf_mem (exec_holdoffExit p x) (opHoldoffExit_mem p x)
  | codewordReceived p ok => exact answersWf_mem (exec_codewordReceived p ok) (opCodewordReceived_mem p ok)
  | fragmentSend p cont => exact answersWf_mem (exec_fragmentSend p cont) (opFragmentSend_mem p cont)
  | fragmentReceived p hdr bs back => exact answersWf_mem (exec_fragmentReceived p hdr bs back) (opFragmentReceived_mem p hdr bs back)
  | reassemblyTimeout => exact answersWf_mem exec_reassemblyTimeout opReassemblyTimeout_mem
  | starterRun pll nor bad => exact answersWf_gated (exec_starterRun pll nor bad) fun _ => opStarterRun_wf pll nor bad
  | hostAccess csr off data len => exact answersWf_mem (exec_hostAccess csr off data len) (opHostAccess_mem csr off data len)
  | hostWindowCompletion id outcome data =>
    exact answersWf_mem (exec_hostWindowCompletion id outcome data) (opHostWindowCompletion_mem id outcome data)
  | pcieResetSignal => exact answersWf_mem exec_pcieResetSignal opPcieResetSignal_mem
  | functionLevelReset => exact answersWf_mem exec_functionLevelReset opFunctionLevelReset_mem
  | pcieLink up gen width flit => exact answersWf_mem (exec_pcieLink up gen width flit) (opPcieLink_mem up gen width flit)
  | getStatus src => exact answersWf_mem (exec_getStatus src) (opGetStatus_mem src)
  | readRegs src => exact answersWf_mem (exec_readRegs src) (opReadRegs_mem src)
  | getCounter src => exact answersWf_mem (exec_getCounter src) (opGetCounter_mem src)
  | attest src => exact answersWf_mem (exec_attest src) (opAttest_mem src)
  | getAttestKey src => exact answersWf_mem (exec_getAttestKey src) (opGetAttestKey_mem src)
  | getAttestCert src => exact answersWf_mem (exec_getAttestCert src) (opGetAttestCert_mem src)
  | certReadDone => exact answersWf_mem exec_certReadDone opCertReadDone_mem
  | writeRegs src => exact answersWf_mem (exec_writeRegs src) (opWriteRegs_mem src)
  | switchImage src => exact answersWf_mem (exec_switchImage src) (opSwitchImage_mem src)
  | writeImage src => exact answersWf_mem (exec_writeImage src) (opWriteImage_mem src)
  | imageWriteDone ok => exact answersWf_mem (exec_imageWriteDone ok) (opImageWriteDone_mem ok)
  | keyRevoke src => exact answersWf_mem (exec_keyRevoke src) (opKeyRevoke_mem src)
  | slotRevoke src => exact answersWf_mem (exec_slotRevoke src) (opSlotRevoke_mem src)
  | svnAdvance src => exact answersWf_mem (exec_svnAdvance src) (opSvnAdvance_mem src)
  | power src => exact answersWf_mem (exec_power src) (opPower_mem src)
  | replayEnter src => exact answersWf_mem (exec_replayEnter src) (opReplayEnter_mem src)
  | replayExit src => exact answersWf_mem (exec_replayExit src) (opReplayExit_mem src)
  | reset src => exact answersWf_mem (exec_reset src) (opReset_mem src)
  | journalWriteDone ok => exact answersWf_gated (exec_journalWriteDone ok) fun _ => opJournalWriteDone_wf ok
  | commandExecutionStart => exact answersWf_mem exec_commandExecutionStart opCommandExecutionStart_mem
  | bootRecordWriteDone ok => exact answersWf_gated (exec_bootRecordWriteDone ok) fun _ => opBootRecordWriteDone_wf ok
  | standbyHaltDone => exact answersWf_mem exec_standbyHaltDone opStandbyHaltDone_mem
  | standbyQuietDone => exact answersWf_mem exec_standbyQuietDone opStandbyQuietDone_mem
  | standbyDomainsDown => exact answersWf_gated exec_standbyDomainsDown fun _ => opStandbyDomainsDown_wf
  | shedDecision power volt temp => exact answersWf_mem (exec_shedDecision power volt temp) (opShedDecision_mem power volt temp)
  | pwrHot => exact answersWf_mem exec_pwrHot opPwrHot_mem
  | thermalTrip => exact answersWf_gated exec_thermalTrip fun _ => opThermalTrip_wf
  | wakeIn => exact answersWf_always exec_wakeIn fun _ => opWakeIn_wf
  | domainWakeDone d ecc => exact answersWf_gated (exec_domainWakeDone d ecc) fun _ => opDomainWakeDone_wf d ecc
  | wakeTimeout d => exact answersWf_mem (exec_wakeTimeout d) (opWakeTimeout_mem d)
  | wakeRetry d => exact answersWf_mem (exec_wakeRetry d) (opWakeRetry_mem d)
  | fenceDrained d => exact answersWf_gated (exec_fenceDrained d) fun _ => opFenceDrained_wf d
  | prechargeContact => exact answersWf_always exec_prechargeContact (KeepsMem.keepsWf opPrechargeContact_mem)
  | vinRise => exact answersWf_always exec_vinRise (KeepsMem.keepsWf opVinRise_mem)
  | railsGood => exact answersWf_always exec_railsGood fun _ => opRailsGood_wf
  | presentDebounced => exact answersWf_always exec_presentDebounced fun _ => opPresentDebounced_wf
  | powerGoodLoss => exact answersWf_always exec_powerGoodLoss (KeepsMem.keepsWf opPowerGoodLoss_mem)
  | ejectReq => exact answersWf_always exec_ejectReq (KeepsMem.keepsWf opEjectReq_mem)
  | ejectDebounced => exact answersWf_always exec_ejectDebounced (KeepsMem.keepsWf opEjectDebounced_mem)
  | removalQuiesced => exact answersWf_always exec_removalQuiesced (KeepsMem.keepsWf opRemovalQuiesced_mem)
  | removalPoweredDown => exact answersWf_always exec_removalPoweredDown fun _ => opRemovalPoweredDown_wf
  | latchClose => exact answersWf_always exec_latchClose fun _ => opLatchClose_wf
  | presentLost => exact answersWf_always exec_presentLost fun _ => opPresentLost_wf
  | vinLow => exact answersWf_always exec_vinLow fun _ => opVinLow_wf
  | currentLimitTrip => exact answersWf_always exec_currentLimitTrip fun _ => opCurrentLimitTrip_wf
  | tripRestart => exact answersWf_always exec_tripRestart (KeepsMem.keepsWf opTripRestart_mem)
  | hkcPassStart => exact answersWf_mem exec_hkcPassStart opHkcPassStart_mem
  | hkcEntryDone codes => exact answersWf_mem (exec_hkcEntryDone codes) (opHkcEntryDone_mem codes)
  | overCurrentDetect ma => exact answersWf_mem (exec_overCurrentDetect ma) (opOverCurrentDetect_mem ma)
  | hkcUrgentDone code wait => exact answersWf_mem (exec_hkcUrgentDone code wait) (opHkcUrgentDone_mem code wait)
  | ageMark kind idx code => exact answersWf_mem (exec_ageMark kind idx code) (opAgeMark_mem kind idx code)
  | wireMark n d w errs => exact answersWf_mem (exec_wireMark n d w errs) (opWireMark_mem n d w errs)
  | engineQuiescent n => exact answersWf_mem (exec_engineQuiescent n) (opEngineQuiescent_mem n)
  | spareCopyDone n => exact answersWf_mem (exec_spareCopyDone n) (opSpareCopyDone_mem n)
  | spareReqEngine src n rotate => exact answersWf_gated (exec_spareReqEngine src n rotate) fun _ => dWrite_wf _ _ _ _
  | spareReqAccelerator src k => exact answersWf_gated (exec_spareReqAccelerator src k) fun _ => dWrite_wf _ _ _ _
  | spareReqLane src l => exact answersWf_gated (exec_spareReqLane src l) fun _ => dWrite_wf _ _ _ _
  | spareBist src kind cluster target => exact answersWf_gated (exec_spareBist src kind cluster target) fun _ => dWrite_wf _ _ _ _
  | bistDone fail => exact answersWf_mem (exec_bistDone fail) (opBistDone_mem fail)
  | recTrig src en => exact answersWf_gated (exec_recTrig src en) fun _ => dWrite_wf _ _ _ _
  | replayRecordDelivery => exact answersWf_gated exec_replayRecordDelivery fun _ => opReplayRecordDelivery_wf
  | planIssueAnswer => exact answersWf_mem exec_planIssueAnswer opPlanIssueAnswer_mem
  | interruptWriteAnswer => exact answersWf_mem exec_interruptWriteAnswer opInterruptWriteAnswer_mem
  | commandWriteAnswer no => exact answersWf_mem (exec_commandWriteAnswer no) (opCommandWriteAnswer_mem no)
  | lastOutputWrite k corr uncorr row => exact answersWf_mem (exec_lastOutputWrite k corr uncorr row) (opLastOutputWrite_mem k corr uncorr row)
  | mainPllFailure => exact answersWf_mem exec_mainPllFailure opMainPllFailure_mem
  | badOpcode src => exact answersWf_mem (exec_badOpcode src) (opBadOpcode_mem src)
  | c2mPortUp m => exact answersWf_mem (exec_c2mPortUp m) (opC2mPortUp_mem m)
  | cfaSamplePeriod ch => exact answersWf_mem (exec_cfaSamplePeriod ch) (opCfaSamplePeriod_mem ch)
  | lpiRx m on => exact answersWf_mem (exec_lpiRx m on) (opLpiRx_mem m on)
  | busMasterEnable on => exact answersWf_mem (exec_busMasterEnable on) (opBusMasterEnable_mem on)

/-- Settles O60: a step either idles, which leaves memory alone, or answers the first command, and no answer breaks the form. -/
theorem memoryStaysCanonical : Obligations.MemoryStaysCanonical := by
  intro s t h hst
  unfold step at hst
  split at hst
  · cases hst
    rw [idle_mem]
    exact h
  · next c rest _ =>
    obtain ⟨u, hu, hw⟩ := exec_answersWf c { s with pending := rest } h
    rw [hu] at hst
    cases hst
    exact hw

end Sys2Proof.Machine
end

section
/-! Direct accesses (R28, R37, R237, R472): the guard, the stall and the refusal an access meets before it reaches its register. -/
namespace Sys2Proof.Machine

theorem foldMirror_mirror {off : Nat} (h : off < 0x8000000) : foldMirror (off + 0x8000000) = off := by
  unfold foldMirror
  rw [if_pos (by omega)]
  omega

theorem foldMirror_own {off : Nat} (h : off < 0x8000000) : foldMirror off = off := by
  unfold foldMirror
  rw [if_pos (by omega)]
  omega

theorem direct_guarded {a : Access} {s : State} {x code : Nat} (hx : addrDom (0x40000000 + a.off) = some x) (hc : guardCode x s = some code) :
    direct a s = accessEnd a (if accessCode a.off a.wide = 2 then 2 else code, [], s) := by
  simp only [direct, hx, hc]

theorem direct_open {a : Access} {s : State} (h : ∀ x, addrDom (0x40000000 + a.off) = some x → guardCode x s = none) :
    direct a s = access a s := by
  unfold direct
  cases hx : addrDom (0x40000000 + a.off) with
  | none => rfl
  | some x => simp only [h x hx]

theorem access_stalls {a : Access} {s : State} (h : accessStalls a s = true) :
    access a s = { s with csr := { s.csr with stalled := s.csr.stalled ++ [a] } } := if_pos h

theorem access_accepted {a : Access} {s : State} (h : accessStalls a s = false) : access a s = accessEnd a (accessNow a s) :=
  if_neg (by simp [h])

theorem accessCode_of_now {off : Nat} {wide : Bool} {s : State} (h : accessCodeNow off wide s = 0) : accessCode off wide = 0 := by
  unfold accessCodeNow at h
  split at h
  · cases h
  · exact h

/-- A write that its register's block declines: the code it draws, and no effect. -/
theorem csrWrite_refused {src off v : Nat} {wide : Bool} {s : State} (h : accessCodeNow off wide s ≠ 0 ∨ writeRefused src off s = true) :
    csrWrite src off wide v s = (if accessCode off wide = 2 then 2 else if writeRefused src off s then 7 else accessCodeNow off wide s, s) := by
  unfold csrWrite
  split
  · rfl
  · split
    · rfl
    · have hc : accessCodeNow off wide s ≠ 0 := h.resolve_right (by assumption)
      split
      · next h0 _ => exact absurd h0 hc
      · rfl

/-- The words of a register a write of one width reaches, and the value it brings them. -/
def wordMask (wide : Bool) : Nat := if wide then 2 ^ 64 - 1 else 2 ^ 32 - 1
def wordValue (wide : Bool) (v : Nat) : Nat := if wide then v else v % 2 ^ 32

/-- A write at the first byte of a register writes it through its card. -/
theorem csrWrite_accepted {src off v : Nat} {wide : Bool} {d : RegDesc} {s : State} (hc : accessCodeNow off wide s = 0)
    (hr : writeRefused src off s = false) (hd : findReg off = some (d, 0)) :
    csrWrite src off wide v s = writeReg src off (wordMask wide) (wordValue wide v) wide d s := by
  unfold csrWrite
  rw [accessCode_of_now hc, hr, hc, hd]
  cases wide <;> rfl

end Sys2Proof.Machine
end

section
/-! A write without an effect of its own (R13 to R15, R30, R31, R34): its live part changes the values of registers alone, its committed part the
shadows and stamps. -/
namespace Sys2Proof.Machine
open Sys2Proof.Safety

theorem masked_zero (v x : Nat) : masked v 0 x = v := by simp [masked]

theorem rd_writeLive_same (off mask v : Nat) (d : RegDesc) (s : State) :
    rd off (writeLive off mask v d s) =
      dw (masked (masked (rd off s).toNat ((d.rw - (d.rw &&& d.cm)) &&& mask) v) (d.w1c &&& mask &&& v) 0) := by
  unfold writeLive
  dsimp only
  split
  · next h => rw [h.1, h.2, masked_zero, masked_zero, dw, BitVec.ofNat_toNat, BitVec.setWidth_eq]
  · exact rd_wr_same _ _ _

theorem rd_writeLive_other {o off : Nat} (h : o ≠ off) (mask v : Nat) (d : RegDesc) (s : State) :
    rd o (writeLive off mask v d s) = rd o s := by
  unfold writeLive
  dsimp only
  split
  · rfl
  · exact rd_wr_other h _ _

/-- The live part of a write changes the values of the registers alone. -/
theorem writeLive_eq (off mask v : Nat) (d : RegDesc) (s : State) :
    writeLive off mask v d s = { s with csr := { s.csr with live := (writeLive off mask v d s).csr.live } } := by
  unfold writeLive
  dsimp only
  split <;> rfl


theorem writeCommitted_zero {src off mask v : Nat} {d : RegDesc} (h : (d.rw ||| d.wo) &&& d.cm &&& mask &&& reachedBits off = 0) (s : State) :
    writeCommitted src off mask v d s = s := if_pos h

theorem writeCommitted_put {src off mask v : Nat} {d : RegDesc} (h : (d.rw ||| d.wo) &&& d.cm &&& mask &&& reachedBits off ≠ 0) (s : State) :
    writeCommitted src off mask v d s =
      shadowPut src off ((d.rw ||| d.wo) &&& d.cm &&& mask &&& reachedBits off)
        (shadowWord off ((d.rw ||| d.wo) &&& d.cm &&& mask &&& reachedBits off) v) s := if_neg h

theorem rd_writePlain (o src off mask v : Nat) (d : RegDesc) (s : State) :
    rd o (writePlain src off mask v d s) = rd o (writeLive off mask v d s) := by
  unfold writePlain writeCommitted
  dsimp only
  split <;> rfl

/-- A plain write changes nothing but the CSR file. -/
theorem writePlain_eq (src off mask v : Nat) (d : RegDesc) (s : State) :
    writePlain src off mask v d s = { s with csr := (writePlain src off mask v d s).csr } := by
  unfold writePlain writeCommitted
  rw [writeLive_eq]
  dsimp only
  split <;> rfl

/-- A write of neither ROUND_NOW nor ROUND_STATUS leaves the Round that committed writes take effect in. -/
theorem effectRound_writeLive {off : Nat} (hn : off ≠ Reg.ROUND_NOW) (hs : off ≠ Reg.ROUND_STATUS) (mask v : Nat) (d : RegDesc) (s : State) :
    effectRound (writeLive off mask v d s) = effectRound s := by
  have hround : (writeLive off mask v d s).round = s.round := by rw [writeLive_eq]
  have hrun : roundsRun (writeLive off mask v d s) = roundsRun s := by unfold roundsRun roundState fld; rw [rd_writeLive_other hs.symm]
  unfold effectRound nextRound roundNow
  rw [hrun, hround, rd_writeLive_other hn.symm]

/-- A stamp just put is what its initiator reads (R34): the Round it names, which with no Rounds running is ROUND_NOW + 1. -/
theorem stampOf_shadowPut (src off mask v : Nat) (s : State) : stampOf src (shadowPut src off mask v s) = dw (effectRound s) := by
  have hx : tabGet (fun _ => dw (2 ^ 64 - 1)) (shadowPut src off mask v s).csr.stamps src = dw (effectRound s) := tabGet_tabSet_same
  unfold stampOf
  rw [hx]
  dsimp only
  split
  · rfl
  · next h =>
    have hr : roundsRun s = false := decide_eq_false fun hr => h (.inr hr)
    rw [effectRound, hr]
    rfl

/-- Of the CSR file a plain write leaves the stamps and the shadows where it reaches no committed field. -/
theorem writePlain_zero {src off mask v : Nat} {d : RegDesc} (h : (d.rw ||| d.wo) &&& d.cm &&& mask &&& reachedBits off = 0) (s : State) :
    (writePlain src off mask v d s).csr.shadow = s.csr.shadow ∧ (writePlain src off mask v d s).csr.stamps = s.csr.stamps := by
  rw [writePlain, writeCommitted_zero h, writeLive_eq]
  exact ⟨rfl, rfl⟩

theorem writePlain_put {src off mask v : Nat} {d : RegDesc} (h : (d.rw ||| d.wo) &&& d.cm &&& mask &&& reachedBits off ≠ 0) (s : State) :
    (writePlain src off mask v d s).csr.shadow = s.csr.shadow ++ [⟨off, (d.rw ||| d.wo) &&& d.cm &&& mask &&& reachedBits off,
      shadowWord off ((d.rw ||| d.wo) &&& d.cm &&& mask &&& reachedBits off) v, src⟩] ∧
    (off ≠ Reg.ROUND_NOW → off ≠ Reg.ROUND_STATUS → stampOf src (writePlain src off mask v d s) = dw (effectRound s)) := by
  rw [writePlain, writeCommitted_put h]
  constructor
  · rw [writeLive_eq]
    rfl
  · intro hn hs
    rw [stampOf_shadowPut, effectRound_writeLive hn hs]

/-- A direct write that reaches a register writes it through its card, and is answered with its code. -/
theorem dWrite_open {src off v : Nat} {wide : Bool} {d : RegDesc} {s : State} (hoff : off < 0x8000000) (ho : Open src off wide true v s)
    (hd : findReg off = some (d, 0)) (hr : writeRefused src off s = false) :
    dWrite src off wide v s =
      (let r := writeReg src off (wordMask wide) (wordValue wide v) wide d s
       { r.2 with csr := { r.2.csr with respCode := r.1, respData := dw 0, respEnd := false } }) := by
  obtain ⟨hg, hst, hc⟩ := ho
  unfold dWrite
  rw [foldMirror_own hoff, direct_open hg, access_accepted hst]
  unfold accessNow
  rw [if_pos rfl, csrWrite_accepted hc hr hd]
  rfl

/-- A command that makes a direct write of a register without an effect of its own does what R13 to R15, R30 and R31 say. -/
theorem plainWrite_of_exec {i : Instr} {src off v : Nat} {wide wf : Bool}
    (he : ∀ s, exec i s = .next (gated false wf (dWrite src off wide v) s)) (hw : v < 2 ^ 64 → wf = true) : PlainWrite i src off wide v := by
  intro s d hrun hv hoff ho hd hr hplain
  dsimp only
  refine ⟨_, he s, ?_⟩
  rw [gated_acts hrun.1 (.inr hrun.2) (hw hv), dWrite_open hoff ho hd hr, hplain]
  dsimp only
  rw [inOrder_same (by rw [writePlain_eq])]
  refine ⟨rfl, ⟨?_, ?_⟩, ?_, ?_, fun h => writePlain_zero (v := wordValue wide v) (mask := wordMask wide) h s,
    fun h => writePlain_put (v := wordValue wide v) (mask := wordMask wide) h s, ?_, ?_⟩
  · rw [writePlain_eq]
  · rw [writePlain_eq]
  · rw [writePlain_eq]
  · rw [writePlain_eq]
  · exact (rd_writePlain off src off _ _ d s).trans (rd_writeLive_same off _ _ d s)
  · exact fun o h => (rd_writePlain o src off _ _ d s).trans (rd_writeLive_other h _ _ d s)

end Sys2Proof.Machine
end

section
/-! The commit window (R27, R28): the steps that pass to its end raise no event and touch no stalled access, so that what was stalled before is what
is accepted after. -/
namespace Sys2Proof.Machine

/-- Between `s` and `t` nothing of the Round, the router or the register file changed but the values of registers. -/
structure ValuesOnly (s t : State) : Prop where
  round : t.round = s.round
  evt : t.evt = s.evt
  csr : t.csr = { s.csr with live := t.csr.live }

theorem ValuesOnly.refl (s : State) : ValuesOnly s s := ⟨rfl, rfl, rfl⟩

theorem ValuesOnly.trans {s t u : State} (h : ValuesOnly s t) (k : ValuesOnly t u) : ValuesOnly s u :=
  ⟨k.round.trans h.round, k.evt.trans h.evt, by rw [k.csr, h.csr]⟩

theorem ValuesOnly.stalled {s t : State} (h : ValuesOnly s t) : t.csr.stalled = s.csr.stalled := by rw [h.csr]

theorem valuesOnly_wr (off : Nat) (v : DWord) (s : State) : ValuesOnly s (wr off v s) := ⟨rfl, rfl, rfl⟩

theorem valuesOnly_modEng (n : Nat) (f : Engine → Engine) (s : State) : ValuesOnly s (modEng n f s) := ⟨rfl, rfl, rfl⟩

theorem valuesOnly_forEach {α : Type} {f : α → State → State} (h : ∀ x s, ValuesOnly s (f x s)) (l : List α) (s : State) :
    ValuesOnly s (forEach l f s) := by
  unfold forEach
  induction l generalizing s with
  | nil => exact .refl s
  | cons x t ih => exact (h x s).trans (ih (f x s))

theorem valuesOnly_latePrune (n : Nat) (s : State) : ValuesOnly s (latePrune n s) := by
  unfold latePrune
  split
  · exact .refl s
  · exact valuesOnly_modEng _ _ s

/-- A result that lands writes a register of its engine, IRQ_EN or IRQ_PEND. -/
theorem valuesOnly_landOne (n : Nat) (x : Landed) (s : State) : ValuesOnly s (landOne n x s) := by
  unfold landOne
  split
  · exact (valuesOnly_wr _ _ s).trans (valuesOnly_latePrune _ _)
  · exact (valuesOnly_wr _ _ s).trans (valuesOnly_latePrune _ _)
  · exact valuesOnly_modEng _ _ s

theorem valuesOnly_cycleEnds (n : Nat) (s : State) : ValuesOnly s (cycleEnds n s) := by
  unfold cycleEnds
  dsimp only
  split
  · exact .refl s
  · exact (valuesOnly_modEng _ _ s).trans (valuesOnly_forEach (valuesOnly_landOne n) _ _)

theorem valuesOnly_enginesRun (k : Nat) (s : State) : ValuesOnly s (enginesRun k s) :=
  valuesOnly_forEach (fun n => valuesOnly_forEach (fun _ => valuesOnly_cycleEnds n) _) _ s

/-- The state in which the engines run on when `n` steps pass: the time of day and the step counters have advanced. -/
def stepsCounted (n : Nat) (s : State) : State :=
  { s with
    tod := s.tod + min n (rd Reg.TIME_SLEW_CNT s).toNat * max 1 (rd Reg.TIME_SLEW_INC s).toNat +
      (n - min n (rd Reg.TIME_SLEW_CNT s).toNat) * max 1 (rd Reg.TIME_INC s).toNat
    time := { s.time with steps := s.time.steps + n }
    round := { s.round with sinceC0 := s.round.sinceC0 + n } }

theorem passSteps_none {n : Nat} {s : State} (h : n = 0 ∨ fld Reg.PWR_STATUS 1 0 s = 3) : passSteps n s = s := if_pos h

/-- Steps that pass count in the time of day and since C0; beyond that they change values of registers and engines. -/
theorem valuesOnly_passSteps {n : Nat} {s : State} (h : ¬(n = 0 ∨ fld Reg.PWR_STATUS 1 0 s = 3)) :
    ValuesOnly (stepsCounted n s) (passSteps n s) := by
  unfold passSteps
  rw [if_neg h]
  dsimp only
  have hrun : ValuesOnly (stepsCounted n s) (enginesRun (engineCycles s.round.sinceC0 n) (stepsCounted n s)) := valuesOnly_enginesRun _ _
  split
  · exact hrun
  · exact hrun.trans ((valuesOnly_wr _ _ _).trans (valuesOnly_wr _ _ _))

theorem passSteps_evt (n : Nat) (s : State) : (passSteps n s).evt = s.evt := by
  by_cases h : n = 0 ∨ fld Reg.PWR_STATUS 1 0 s = 3
  · rw [passSteps_none h]
  · exact (valuesOnly_passSteps h).evt

theorem passSteps_stalled (n : Nat) (s : State) : (passSteps n s).csr.stalled = s.csr.stalled := by
  by_cases h : n = 0 ∨ fld Reg.PWR_STATUS 1 0 s = 3
  · rw [passSteps_none h]
  · exact (valuesOnly_passSteps h).stalled

theorem passSteps_sinceC0 {n : Nat} {s : State} (hs : fld Reg.PWR_STATUS 1 0 s ≠ 3) : (passSteps n s).round.sinceC0 = s.round.sinceC0 + n := by
  by_cases h : n = 0 ∨ fld Reg.PWR_STATUS 1 0 s = 3
  · rw [passSteps_none h, h.resolve_right hs, Nat.add_zero]
  · rw [(valuesOnly_passSteps h).round]
    rfl

theorem windowRuns_evt (s : State) : (windowRuns s).evt = s.evt := by
  unfold windowRuns
  split
  · exact passSteps_evt _ _
  · rfl

theorem windowRuns_stalled (s : State) : (windowRuns s).csr.stalled = s.csr.stalled := by
  unfold windowRuns
  split
  · exact passSteps_stalled _ _
  · rfl

/-- Where the next boundary leaves room for it, the window runs to its end. -/
theorem windowOpen_windowRuns {s : State} (hs : fld Reg.PWR_STATUS 1 0 s ≠ 3) (hr : room (windowLeft s) s = true) :
    windowOpen (windowRuns s) = false := by
  unfold windowRuns windowOpen
  rw [if_pos hr, passSteps_sinceC0 hs, windowLeft]
  exact decide_eq_false (by omega)

theorem opStalledAccessAccepted_window {s : State} (h : windowOpen (windowRuns s) = true) : opStalledAccessAccepted s = windowRuns s := if_pos h

theorem opStalledAccessAccepted_none {s : State} (h : windowOpen (windowRuns s) = false)
    (hn : stalledNext [] s.csr.stalled (windowRuns s) = none) : opStalledAccessAccepted s = windowRuns s := by
  unfold opStalledAccessAccepted
  simp only [h, windowRuns_stalled, hn]
  rfl

theorem opStalledAccessAccepted_some {s : State} {a : Access} {rest : List Access} (h : windowOpen (windowRuns s) = false)
    (hn : stalledNext [] s.csr.stalled (windowRuns s) = some (a, rest)) :
    opStalledAccessAccepted s =
      accessEnd a (accessNow a { windowRuns s with csr := { (windowRuns s).csr with stalled := rest } }) := by
  unfold opStalledAccessAccepted
  simp only [h, windowRuns_stalled, hn]
  rfl

theorem stalledNext_single {a : Access} {s : State} (h : stampWaits a [] s = false) : stalledNext [] [a] s = some (a, []) := by
  simp [stalledNext, h]

end Sys2Proof.Machine
end

section
/-! The commit of the registers (R27, R31, R35, R36): the apply stage is a fold over the waiting writes, a counter clear a filter of the register
file. -/
namespace Sys2Proof.Machine

theorem applyOne_shadow (x : Shadow) (s : State) : (applyOne x s).csr.shadow = s.csr.shadow := by
  unfold applyOne
  dsimp only
  split
  · rfl
  · split <;> rfl

theorem forEach_applyOne_shadow (l : List Shadow) (s : State) : (forEach l applyOne s).csr.shadow = s.csr.shadow := by
  unfold forEach
  induction l generalizing s with
  | nil => rfl
  | cons x t ih => rw [List.foldl_cons, ih, applyOne_shadow]

/-- A waiting write reaches its own register, as `masked` says, unless that register is applied in a way of its own. -/
theorem rd_applyOne {off : Nat} (ht : off ≠ Reg.TIME_STEP) (hp : off ≠ Reg.ROUND_OVR_POLICY) (x : Shadow) (s : State) :
    rd off (applyOne x s) = if x.off == off then dw (masked (rd off s).toNat x.mask x.value) else rd off s := by
  unfold applyOne
  by_cases hx : x.off = off
  · simp [hx, ht, hp]
  · simp only [beq_iff_eq, hx, if_false]
    split
    · rfl
    · split <;> exact rd_wr_other (Ne.symm hx) _ _

theorem rd_forEach_applyOne {off : Nat} (ht : off ≠ Reg.TIME_STEP) (hp : off ≠ Reg.ROUND_OVR_POLICY) (l : List Shadow) (s : State) :
    rd off (forEach l applyOne s) =
      (l.filter fun x => x.off == off).foldl (fun v x => dw (masked v.toNat x.mask x.value)) (rd off s) := by
  unfold forEach
  induction l generalizing s with
  | nil => rfl
  | cons x t ih =>
    rw [List.foldl_cons, ih, rd_applyOne ht hp, List.filter_cons]
    split <;> rfl

/-- A key whose entries a filter drops reads as its default. -/
theorem tabGet_filter_dropped {α : Type} {d : Nat → α} {p : Nat × α → Bool} {k : Nat} (hp : ∀ v, p (k, v) = false) (t : List (Nat × α)) :
    tabGet d (t.filter p) k = d k := by
  induction t with
  | nil => rfl
  | cons x r ih =>
    rw [List.filter_cons]
    split
    · next h =>
      have hne : k ≠ x.1 := fun e => by rw [show x = (k, x.2) by rw [e], hp] at h; cases h
      simp only [tabGet, if_neg hne, ih]
    · exact ih

/-- A key whose entries a filter keeps reads as before. -/
theorem tabGet_filter_kept {α : Type} {d : Nat → α} {p : Nat × α → Bool} {k : Nat} (hp : ∀ v, p (k, v) = true) (t : List (Nat × α)) :
    tabGet d (t.filter p) k = tabGet d t k := by
  induction t with
  | nil => rfl
  | cons x r ih =>
    rw [List.filter_cons]
    split
    · simp only [tabGet, ih]
    · next h =>
      have hne : k ≠ x.1 := fun e => h (by rw [show x = (k, x.2) by rw [e], hp])
      simp only [tabGet, if_neg hne, ih]

theorem rd_snapshot (off : Nat) (s : State) :
    tabGet resetOf (snapshot s).csr.snap off = if off = Reg.ROUND_SNAP_ROUND then rd Reg.ROUND_NOW s else rd off s := by
  refine (rd_wr off Reg.ROUND_SNAP_ROUND (dw (roundNow s)) s).trans ?_
  rw [roundNow, dw, BitVec.ofNat_toNat, BitVec.setWidth_eq]

/-- The counters whose clear is among the registers `l` and was written. -/
def clearedBy (l : List Nat) (s : State) (o : Nat) : Bool :=
  match findReg o with
  | some (d, _) => (match clearOf d o with | some c => (l.filter fun c => flagOn c 0 s).contains c | none => false)
  | none => false

theorem clearedBy_iff {l : List Nat} {s : State} {o r c : Nat} {d : RegDesc} (hd : findReg o = some (d, r)) (hc : clearOf d o = some c) :
    clearedBy l s o = true ↔ c ∈ l ∧ flagOn c 0 s = true := by
  simp only [clearedBy, hd, hc, List.contains_iff_mem, List.mem_filter]

/-- A register reads as before a counter clear, or, where its clear was written, as its reset value. -/
theorem rd_counterClears (l : List Nat) (s : State) (o : Nat) :
    rd o (counterClears l s) = if clearedBy l s o then resetOf o else rd o s := by
  unfold counterClears
  dsimp only
  split
  · next h =>
    have hno : clearedBy l s o = false := by
      unfold clearedBy
      rw [List.isEmpty_iff.mp h]
      split
      · split <;> rfl
      · rfl
    rw [hno]
    rfl
  · cases ho : clearedBy l s o with
    | true => exact tabGet_filter_dropped (fun _ => congrArg (!·) ho) _
    | false => exact tabGet_filter_kept (fun _ => congrArg (!·) ho) _

end Sys2Proof.Machine
end

section
/-! The register accesses of R11, R12 and R28 as commands, assembled. -/
namespace Sys2Proof.Machine
open Sys2Proof.Safety

/-- What CSR_WRITE of a register that declines it, is guarded, or stalls does. -/
theorem csrWrite_stops (src off : Nat) (wide : Bool) (v : Nat) (s : State) (hrun : Running s) (hv : v < 2 ^ 64) :
    let o := foldMirror off
    let a : Access := ⟨src, o, wide, true, v, false, none⟩
    let d := addrDom (0x40000000 + o)
    Effect (.csrWrite src off wide v) s fun t =>
      (∀ x code, d = some x → guardCode x s = some code →
        t.csr.respCode = (if accessCode o wide = 2 then 2 else code) ∧ t.csr.live = s.csr.live ∧ t.csr.shadow = s.csr.shadow) ∧
      ((∀ x, d = some x → guardCode x s = none) →
        (accessStalls a s = true → t.csr.stalled = s.csr.stalled ++ [a] ∧ t.csr.live = s.csr.live ∧ t.csr.shadow = s.csr.shadow) ∧
        (accessStalls a s = false → (accessCodeNow o wide s ≠ 0 ∨ writeRefused src o s = true) →
          t.csr.respCode = (if accessCode o wide = 2 then 2 else if writeRefused src o s then 7 else accessCodeNow o wide s) ∧
          t.csr.live = s.csr.live ∧ t.csr.shadow = s.csr.shadow)) := by
  intro o a d
  have hw : below 18446744073709551616 v = true := decide_eq_true hv
  refine ⟨_, exec_csrWrite src off wide v s, ?_⟩
  rw [gated_acts hrun.1 (.inr hrun.2) hw, show opCsrWrite src off wide v s = direct a s from rfl]
  refine ⟨fun x code hx hc => ?_, fun hopen => ⟨fun hst => ?_, fun hst href => ?_⟩⟩
  · rw [direct_guarded hx hc]
    exact ⟨rfl, rfl, rfl⟩
  · rw [direct_open hopen, access_stalls hst]
    exact ⟨rfl, rfl, rfl⟩
  · rw [direct_open hopen, access_accepted hst, show accessNow a s = _ from if_pos rfl, csrWrite_refused href]
    exact ⟨rfl, rfl, rfl⟩

/-- What STALLED_ACCESS_ACCEPTED does. -/
theorem stalledAccessAccepted_effect (s : State) (hrun : Running s) :
    let u := windowRuns s
    Effect .stalledAccessAccepted s fun t => (windowOpen u = true → t = u) ∧ (room (windowLeft s) s = true → windowOpen u = false) ∧
      (windowOpen u = false →
        (s.csr.stalled = [] → t = u) ∧
        (∀ a, s.csr.stalled = [a] → stampWaits a [] u = false →
          t = inOrder s (accessEnd a (accessNow a { u with csr := { u.csr with stalled := [] } }))) ∧
        ∀ a rest, stalledNext [] s.csr.stalled u = some (a, rest) →
          t = inOrder s (accessEnd a (accessNow a { u with csr := { u.csr with stalled := rest } }))) := by
  intro u
  have hu : inOrder s u = u := inOrder_same (windowRuns_evt s)
  refine ⟨_, exec_stalledAccessAccepted s, ?_⟩
  rw [gated_acts hrun.1 (.inr hrun.2) rfl]
  refine ⟨fun h => ?_, windowOpen_windowRuns hrun.2, fun h => ⟨fun hs => ?_, fun a hs ha => ?_, fun a rest hn => ?_⟩⟩
  · rw [opStalledAccessAccepted_window h, hu]
  · rw [opStalledAccessAccepted_none h (by rw [hs]; rfl), hu]
  · rw [opStalledAccessAccepted_some h (by rw [hs]; exact stalledNext_single ha)]
  · rw [opStalledAccessAccepted_some h hn]

/-- Settles O55: a direct access goes by guard, stall and refusal before it writes; the window that runs raises nothing and keeps the stalled
accesses; the commit's stages are folds over the waiting writes and filters of the register file. -/
theorem registerAccesses : Obligations.RegisterAccesses := by
  refine ⟨⟨fun src off wide v => ?_, fun src off v => ?_, fun src off => ?_, csrWrite_stops, fun off h => ?_, stalledAccessAccepted_effect⟩,
    fun s => ⟨?_, fun off ht hp => ?_⟩, fun s off => ?_, fun s l o d r c hd hc => ⟨fun hl hf => ?_, fun h => ?_⟩⟩
  · exact plainWrite_of_exec (exec_csrWrite src off wide v) decide_eq_true
  · exact plainWrite_of_exec (exec_w1cClear src off v) decide_eq_true
  · exact plainWrite_of_exec (exec_counterClear src off) fun _ => rfl
  · exact ⟨foldMirror_mirror h, foldMirror_own h⟩
  · exact forEach_applyOne_shadow _ _
  · exact rd_forEach_applyOne ht hp _ _
  · exact ⟨rd_snapshot off s, rfl⟩
  · rw [rd_counterClears, if_pos ((clearedBy_iff hd hc).mpr ⟨hl, hf⟩)]
  · rw [rd_counterClears, if_neg]
    rw [clearedBy_iff hd hc]
    rintro ⟨hl, hf⟩
    exact h.elim (· hl) (by simp [hf])

end Sys2Proof.Machine
end

section
/-! The module right after reset, and two statements about the Round, the plan and the router (01_the_round.md) each of which fails in a state
that its hypotheses admit. -/
namespace Sys2Proof.Machine
open Sys2Proof.Safety

/-! ### The module right after reset -/

/-- A register nothing has written reads the reset value of its card. -/
theorem rd_reset (off : Nat) : rd off State.reset = resetOf off := rfl

/-- The reset value of ROUND_CFG selects the second of the five periods (R18). -/
theorem period_reset : period State.reset = 125000 * nsUnit := by
  have hcode : fld Reg.ROUND_CFG 2 0 State.reset = 1 := by decide +kernel
  rw [period, hcode]
  rfl

/-- Settles O58: the tables of the reset state list nothing, so every register reads the reset value of its card; those the statement names are
computed. -/
theorem resetState : Obligations.ResetState := by
  have hstate : roundState State.reset = 0 := by decide +kernel
  have hnow : roundNow State.reset = 0 := by decide +kernel
  have hinc : rd Reg.TIME_INC State.reset = 0x140000000 := by decide +kernel
  have hcanonical : Canonical State.reset := ⟨rfl, rfl⟩
  have hengines : ∀ n, (eng n State.reset).pc = 0 ∧ (eng n State.reset).bank = 0 := fun _ => ⟨rfl, rfl⟩
  exact ⟨rfl, rfl, rfl, hcanonical, hstate, hnow, hinc, period_reset, hengines, rd_reset⟩

/-! ### An increment of 0 -/

/-- Refutes O54: its hypotheses admit a TIME_INC of 0, which R394 keeps out. There `stepsFor` counts one step too few, as it takes the increment as
0 where it rounds up but as 1 where it divides, while `passSteps` advances by 1; so ROUND_FIRST_P_END of an overlong Round acts one unit of the time
of day before the first P has passed. -/
theorem not_roundsAndCommits : ¬ Obligations.RoundsAndCommits := by
  rintro ⟨-, -, -, hfirst, -⟩
  let s : State := wr Reg.TIME_INC 0 (wr Reg.ROUND_STATUS 2 { State.reset with round := { overlong := true, endGrid := 2 } })
  have hrunning : Running s := ⟨rfl, by decide +kernel⟩
  have hrun : roundsRun s = true := by decide +kernel
  have hreaches : reaches (s.round.startTod + period s) s = true := by decide +kernel
  have hshort : (gated false true opRoundFirstPEnd s).tod < s.round.startTod + period s := by decide +kernel
  obtain ⟨t, hexec, -, -, hend, -⟩ := hfirst s hrunning rfl rfl hrun
  obtain ⟨-, hpast⟩ := hend hreaches
  obtain rfl : gated false true opRoundFirstPEnd s = t := by
    rw [exec_roundFirstPEnd] at hexec
    exact Host.Outcome.next.inj hexec
  omega

/-! ### An answer to a packet of another class than REQ -/

/-- Refutes O56: its hypotheses admit an answer to a packet of the plan of class 2, where `opPlanDmaStart` and its like send requests, of class 0.
Taking the answer of such a packet counts it in NI_PKTS of the plan's NI (R255), so that after an answer OK the registers are not as they were. -/
theorem not_planAndRouter : ¬ Obligations.PlanAndRouter := by
  rintro ⟨-, -, -, -, -, -, -, hanswer, -⟩
  let x : Txn := {
    id := 0, agent := .plan, use := usePlanIssue, src := srcId 43 0 0, cls := 2, addr := 0x40000000, body := .write [], posted := false, aw := false
    node := 43, port := 1, stage := .served, ans := some (0, []) }
  let s : State := { State.reset with noc := { txns := [x] } }
  have hrunning : Running s := ⟨rfl, by decide +kernel⟩
  have hwaits : waitingAns .plan usePlanIssue s = some (x, 0, []) := rfl
  have hcounts : rd (Reg.NI_PKTS 43 0 2) (gated false true opPlanIssueAnswer s) ≠ rd (Reg.NI_PKTS 43 0 2) s := by decide +kernel
  obtain ⟨t, hexec, -, hkept, -⟩ := hanswer s x 0 [] hrunning hwaits
  obtain ⟨hcsr, -⟩ := hkept rfl
  obtain rfl : gated false true opPlanIssueAnswer s = t := by
    rw [exec_planIssueAnswer] at hexec
    exact Host.Outcome.next.inj hexec
  exact hcounts (rd_congr hcsr _)

end Sys2Proof.Machine
end

section
/-! The engine under the updates an instruction makes of it: which of its fields each leaves as they were (R62 to R68). -/
namespace Sys2Proof.Machine
open Sys2Proof.Safety

/-! ### What the next instruction reads -/

/-- Going on changes the pc, the repeat's tracking and a single step alone. -/
theorem advance_eq (e : Engine) :
    e.advance = { e with pc := e.advance.pc, step := e.advance.step, rs0 := e.advance.rs0, rs1 := e.advance.rs1, rptEnd := e.advance.rptEnd } := by
  unfold Engine.advance Engine.setRs
  split
  · rfl
  · split
    · split <;> rfl
    · split
      · split <;> rfl
      · rfl

@[simp] theorem advance_land (e : Engine) : e.advance.land = e.land := by rw [advance_eq]
@[simp] theorem advance_st0 (e : Engine) : e.advance.st0 = e.st0 := by rw [advance_eq]
@[simp] theorem advance_st1 (e : Engine) : e.advance.st1 = e.st1 := by rw [advance_eq]
@[simp] theorem advance_acc (e : Engine) : e.advance.acc = e.acc := by rw [advance_eq]
@[simp] theorem advance_vbase (e : Engine) : e.advance.vbase = e.vbase := by rw [advance_eq]
@[simp] theorem advance_far (e : Engine) : e.advance.far = e.far := by rw [advance_eq]
@[simp] theorem advance_stq (e : Engine) : e.advance.stq = e.stq := by rw [advance_eq]
@[simp] theorem advance_wait (e : Engine) : e.advance.wait = e.wait := by rw [advance_eq]
@[simp] theorem advance_curBank (e : Engine) : e.advance.bank = e.bank := (advance_bank e).1
@[simp] theorem advance_g (e : Engine) : e.advance.g = e.g := (advance_bank e).2
@[simp] theorem advance_st (e : Engine) : e.advance.st = e.st := by simp [Engine.st]

/-- The engine of an instruction that completes with `e` reads as `e`. -/
@[simp] theorem done_st (e : Engine) (ws : Option (List Nat)) : ({ e.advance with pair := ws } : Engine).st = e.st := advance_st e
@[simp] theorem done_g (e : Engine) (ws : Option (List Nat)) : ({ e.advance with pair := ws } : Engine).g = e.g := advance_g e
@[simp] theorem done_bank (e : Engine) (ws : Option (List Nat)) : ({ e.advance with pair := ws } : Engine).bank = e.bank := advance_curBank e
@[simp] theorem done_land (e : Engine) (ws : Option (List Nat)) : ({ e.advance with pair := ws } : Engine).land = e.land := advance_land e
@[simp] theorem done_acc (e : Engine) (ws : Option (List Nat)) : ({ e.advance with pair := ws } : Engine).acc = e.acc := advance_acc e
@[simp] theorem done_ac (e : Engine) (ws : Option (List Nat)) (a : Nat) : ({ e.advance with pair := ws } : Engine).ac a = e.ac a := by
  simp [Engine.ac, Engine.acLanded]

/-! ### RegsOnly and RegsAndFlagsOnly compose -/

theorem regsOnly_trans {e e' e'' : Engine} (h : RegsOnly e e') (k : RegsOnly e' e'') : RegsOnly e e'' := by
  unfold RegsOnly at *
  rw [k, h]

theorem regsOnly_issued (e : Engine) : RegsOnly e e.issued := rfl
theorem regsOnly_setG (e : Engine) (r : Nat) (v : Word) : RegsOnly e (e.setG r v) := rfl
theorem regsOnly_later (e : Engine) (k : Nat) (x : Landed) : RegsOnly e (e.later k x) := rfl

/-- What an instruction that completes with registers written leaves of its engine. -/
theorem regsOnly_done {e e' : Engine} (h : RegsOnly e e') (ws : Option (List Nat)) : RegsOnly e { e'.advance with pair := ws } :=
  regsOnly_trans h (advance_regsOnly e' ws)

theorem regsOnly_flags {e e' : Engine} (h : RegsOnly e e') : RegsAndFlagsOnly e e' := by
  unfold RegsAndFlagsOnly
  have h' : ({ e with st0 := e'.st0, st1 := e'.st1 } : Engine) = e := by rw [h]
  rw [h']
  exact h

theorem regsAndFlagsOnly_trans {e e' e'' : Engine} (h : RegsAndFlagsOnly e e') (k : RegsAndFlagsOnly e' e'') : RegsAndFlagsOnly e e'' := by
  unfold RegsAndFlagsOnly RegsOnly at *
  rw [k, h]

theorem regsAndFlagsOnly_orSov (e : Engine) (c : Bool) : RegsAndFlagsOnly e (e.orSov c) := by
  unfold Engine.orSov Engine.setSt
  split
  · split <;> rfl
  · rfl

theorem regsAndFlagsOnly_orAov (e : Engine) (c : Bool) : RegsAndFlagsOnly e (e.orAov c) := by
  unfold Engine.orAov Engine.setSt
  split
  · split <;> rfl
  · rfl

/-! ### Flags (R63) -/

theorem setSt_st (e : Engine) (v : Word) : (e.setSt v).st = v := by
  unfold Engine.setSt Engine.st
  by_cases h : e.bank = 0 <;> simp [h]

theorem orSov_st (e : Engine) (c : Bool) : (e.orSov c).st = if c then e.st ||| 0x10 else e.st := by
  unfold Engine.orSov
  split
  · exact setSt_st _ _
  · rfl

theorem orAov_st (e : Engine) (c : Bool) : (e.orAov c).st = if c then e.st ||| 0x20 else e.st := by
  unfold Engine.orAov
  split
  · exact setSt_st _ _
  · rfl

/-- Putting ST changes the two copies of ST alone. -/
theorem setSt_eq (e : Engine) (v : Word) : e.setSt v = { e with st0 := (e.setSt v).st0, st1 := (e.setSt v).st1 } := by
  unfold Engine.setSt
  split <;> rfl

/-- Setting SOV changes the two copies of ST alone. -/
theorem orSov_eq (e : Engine) (c : Bool) : e.orSov c = { e with st0 := (e.orSov c).st0, st1 := (e.orSov c).st1 } := by
  unfold Engine.orSov
  split
  · exact setSt_eq _ _
  · rfl

theorem orAov_eq (e : Engine) (c : Bool) : e.orAov c = { e with st0 := (e.orAov c).st0, st1 := (e.orAov c).st1 } := by
  unfold Engine.orAov
  split
  · exact setSt_eq _ _
  · rfl

/-! ### Results in the next cycle and later ones (R67) -/

/-- A result of one cycle. -/
theorem nextCycle_setG (e : Engine) {r : Nat} (v : Word) (hr : r < 32) : NextCycle r v e (e.setG r v) :=
  ⟨setG_gr_same e r v, fun _ hq h => setG_gr_other e v hr hq h, rfl⟩

/-- Where `e'` reads as a result of one cycle leaves the g registers, so does an engine with the same g registers and results on their way. -/
theorem nextCycle_congr {r : Nat} {v : Word} {e e' e'' : Engine} (h : NextCycle r v e e') (hg : e''.g = e'.g) (hb : e''.bank = e'.bank)
    (hl : e''.land = e'.land) : NextCycle r v e e'' := by
  have hgr : ∀ q, e''.gr q = e'.gr q := fun q => by simp only [Engine.gr, hg, hb]
  obtain ⟨h1, h2, h3⟩ := h
  exact ⟨(hgr r).trans h1, fun q hq hne => (hgr q).trans (h2 q hq hne), hl.trans h3⟩

/-- A result of `k` cycles, likewise. -/
theorem afterCycles_of {k r : Nat} {v : Word} {e e' : Engine} (hg : e'.g = e.g) (hb : e'.bank = e.bank)
    (hl : e'.land = e.land ++ [⟨k, .g (gKey e.bank r) v⟩]) : AfterCycles k r v e e' :=
  ⟨fun q => by simp only [Engine.gr, hg, hb], hl⟩

theorem gKept_of {e e' : Engine} (hg : e'.g = e.g) (hb : e'.bank = e.bank) : GKept e e' := fun q => by simp only [Engine.gr, hg, hb]

/-! ### Fields of an instruction word -/

theorem fieldOf_lt (w : Word) (hi lo : Nat) : fieldOf w hi lo < 2 ^ (hi + 1 - lo) := bitsOf_lt _ _ _

/-- A field of five bits names a register. -/
theorem fieldOf_reg {w : Word} {hi lo : Nat} (h : hi + 1 - lo = 5 := by decide) : fieldOf w hi lo < 32 := by
  have := fieldOf_lt w hi lo
  rwa [h] at this

end Sys2Proof.Machine
end

section
/-! An engine's pipeline as it acts on the state (R65 to R67): cycles pass and a fetch is noted with engine `n`, values of registers and the
bookkeeping of spares changed, and nothing else. -/
namespace Sys2Proof.Machine
open Sys2Proof.Safety

/-- Between `s` and `t` only engine `n`, values of registers and the marks of R501 changed. -/
structure AtEngine (n : Nat) (s t : State) : Prop where
  state : t = { s with eng := t.eng, csr := t.csr, spare := t.spare }
  others : ∀ m, m ≠ n → eng m t = eng m s

theorem AtEngine.refl (n : Nat) (s : State) : AtEngine n s s := ⟨rfl, fun _ _ => rfl⟩

theorem AtEngine.trans {n : Nat} {s t u : State} (h : AtEngine n s t) (k : AtEngine n t u) : AtEngine n s u :=
  ⟨by rw [k.state, h.state], fun m hm => (k.others m hm).trans (h.others m hm)⟩

theorem AtEngine.evt {n : Nat} {s t : State} (h : AtEngine n s t) : t.evt = s.evt := by rw [h.state]
theorem AtEngine.noc {n : Nat} {s t : State} (h : AtEngine n s t) : t.noc = s.noc := by rw [h.state]
theorem AtEngine.mem {n : Nat} {s t : State} (h : AtEngine n s t) : t.mem = s.mem := by rw [h.state]
theorem AtEngine.free {n : Nat} {s t : State} (h : AtEngine n s t) : t.free = s.free := by rw [h.state]

theorem atEngine_wr (n off : Nat) (v : DWord) (s : State) : AtEngine n s (wr off v s) := ⟨rfl, fun _ _ => rfl⟩
theorem atEngine_setEng (n : Nat) (e : Engine) (s : State) : AtEngine n s (setEng n e s) := ⟨rfl, fun _ hm => eng_setEng_other hm e s⟩
theorem atEngine_modEng (n : Nat) (f : Engine → Engine) (s : State) : AtEngine n s (modEng n f s) := atEngine_setEng n _ s
theorem atEngine_spare (n : Nat) (x : Spare) (s : State) : AtEngine n s { s with spare := x } := ⟨rfl, fun _ _ => rfl⟩

theorem atEngine_forEach {α : Type} {n : Nat} {f : α → State → State} (h : ∀ x s, AtEngine n s (f x s)) (l : List α) (s : State) :
    AtEngine n s (forEach l f s) := by
  unfold forEach
  induction l generalizing s with
  | nil => exact .refl n s
  | cons x t ih => exact (h x s).trans (ih (f x s))

theorem atEngine_latePrune (n : Nat) (s : State) : AtEngine n s (latePrune n s) := by
  unfold latePrune
  split
  · exact .refl n s
  · exact atEngine_modEng n _ s

theorem atEngine_landOne (n : Nat) (x : Landed) (s : State) : AtEngine n s (landOne n x s) := by
  unfold landOne
  split
  · exact (atEngine_wr n _ _ s).trans (atEngine_latePrune n _)
  · exact (atEngine_wr n _ _ s).trans (atEngine_latePrune n _)
  · exact atEngine_modEng n _ s

theorem atEngine_cycleEnds (n : Nat) (s : State) : AtEngine n s (cycleEnds n s) := by
  unfold cycleEnds
  dsimp only
  split
  · exact .refl n s
  · exact (atEngine_modEng n _ s).trans (atEngine_forEach (atEngine_landOne n) _ _)

theorem atEngine_cyclesPass (n k : Nat) (s : State) : AtEngine n s (cyclesPass n k s) := atEngine_forEach (fun _ => atEngine_cycleEnds n) _ s

theorem atEngine_atIssue (n : Nat) (s : State) : AtEngine n s (atIssue n false [] s) :=
  (atEngine_cyclesPass n _ s).trans (atEngine_modEng n _ _)

/-! ### Marks for repair (R501) -/

/-- What an update of the spare unit's bookkeeping and its pending flag keep, the note of an error keeps. -/
theorem noteEccAt_keeps {P : State → Prop} (hspare : ∀ t x, P t → P { t with spare := x })
    (hflag : ∀ t, P t → P (setFlag Reg.SPARE_STATUS 8 t)) (ecc : Ecc) (a : Nat) {s : State} (h : P s) : P (noteEccAt ecc a s) := by
  have hrow : ∀ bank row t, P t → P (markRow bank row t) := fun bank row t ht => by
    unfold markRow
    split
    · exact ht
    · exact hflag _ (hspare t _ ht)
  have hmark : ∀ kind index cause rotate t, P t → P (addMark kind index cause rotate t) := fun kind index cause rotate t ht => by
    unfold addMark
    split
    · exact ht
    · exact hflag _ (hspare t _ ht)
  have hsecond : ∀ (c : Prop) [Decidable c] bank row t, P t → P (if c then markRow bank row t else t) := fun c _ bank row t ht => by
    split
    · exact hrow bank row t ht
    · exact ht
  have hfresh : P (freshWindow s) := by
    unfold freshWindow
    split
    · exact h
    · exact hspare s _ h
  cases ecc with
  | clean => exact h
  | uncorrectable => exact hrow _ _ s h
  | corrected =>
    unfold noteEccAt noteCorrected
    refine hspare _ _ (hsecond _ _ _ _ ?_)
    split
    · exact hfresh
    · dsimp only
      split
      · exact hmark _ _ _ _ _ (hspare _ _ hfresh)
      · exact hspare _ _ hfresh

theorem atEngine_noteEccAt (n : Nat) (ecc : Ecc) (a : Nat) (s : State) : AtEngine n s (noteEccAt ecc a s) :=
  noteEccAt_keeps (fun t x h => h.trans (atEngine_spare n x t)) (fun t h => h.trans (atEngine_wr n _ _ t)) ecc a (.refl n s)

theorem atEngine_eccCorrected (n addr : Nat) (s : State) : AtEngine n s (eccCorrected n addr s) :=
  (atEngine_noteEccAt n _ _ s).trans (atEngine_wr n _ _ _)

theorem atEngine_fetchNoted (n : Nat) (fetch : Ecc) (s : State) : AtEngine n s (fetchNoted n fetch s) := by
  cases fetch with
  | clean => exact .refl n s
  | corrected => exact atEngine_eccCorrected n _ s
  | uncorrectable => exact atEngine_noteEccAt n .uncorrectable _ s

theorem atEngine_issuing (n : Nat) (fetch : Ecc) (s : State) : AtEngine n s (issuing n fetch s) :=
  (atEngine_atIssue n s).trans (atEngine_fetchNoted n fetch _)

/-! ### No engine is changed by noting an error -/

theorem noteEccAt_eng (ecc : Ecc) (a : Nat) (s : State) : (noteEccAt ecc a s).eng = s.eng :=
  noteEccAt_keeps (P := fun t => t.eng = s.eng) (fun _ _ h => h) (fun _ h => h) ecc a rfl

theorem eccCorrected_eng (n addr : Nat) (s : State) : (eccCorrected n addr s).eng = s.eng := noteEccAt_eng _ _ s

theorem fetchNoted_eng (n : Nat) (fetch : Ecc) (s : State) : (fetchNoted n fetch s).eng = s.eng := by
  cases fetch with
  | clean => rfl
  | corrected => exact eccCorrected_eng _ _ s
  | uncorrectable => exact noteEccAt_eng .uncorrectable _ s

/-- What the fetch found changes no engine. -/
theorem eng_issuing (m n : Nat) (fetch : Ecc) (s : State) : eng m (issuing n fetch s) = eng m (atIssue n false [] s) :=
  eng_congr (fetchNoted_eng _ _ _) m

/-! ### Registers a noted error writes -/

theorem rd_noteEccAt {off : Nat} (h : off ≠ Reg.SPARE_STATUS) (ecc : Ecc) (a : Nat) (s : State) : rd off (noteEccAt ecc a s) = rd off s :=
  noteEccAt_keeps (P := fun t => rd off t = rd off s) (fun _ _ h => h) (fun t ht => (rd_setFlag_other h 8 t).trans ht) ecc a rfl

theorem rd_eccCorrected {off n : Nat} (h : off ≠ Reg.SPARE_STATUS) (hc : off ≠ Reg.ENG_ECC_CNT n) (addr : Nat) (s : State) :
    rd off (eccCorrected n addr s) = rd off s := (rd_bump_other hc _).trans (rd_noteEccAt h _ _ s)

theorem rd_fetchNoted {off n : Nat} (h : off ≠ Reg.SPARE_STATUS) (hc : off ≠ Reg.ENG_ECC_CNT n) (fetch : Ecc) (s : State) :
    rd off (fetchNoted n fetch s) = rd off s := by
  cases fetch with
  | clean => rfl
  | corrected => exact rd_eccCorrected h hc _ s
  | uncorrectable => exact rd_noteEccAt h .uncorrectable _ s

end Sys2Proof.Machine
end

section
/-! What a free engine's instruction answers, by the outcome of its body (R65 to R78). -/
namespace Sys2Proof.Machine
open Sys2Proof.Safety

/-- A well-formed instruction of a free engine, with no reserved field set and where it is not forbidden, is answered with its issue finished. -/
theorem exec_of_issue {c : Instr} {n : Nat} {w : Word} {fetch : Ecc} {wf bad forb : Bool} {regs writes : List Nat} {body : Engine → Issue}
    {op : State → State} {s : State} (he : exec c s = .next (gated false wf op s))
    (hop : op s = issue n w fetch bad forb regs writes body s) (hwf : wf = true)
    (h : Free n w fetch regs s) (hb : bad = false) (hf : forb = false ∨ (eng n (issuing n fetch s)).rem = 0) :
    exec c s = .next (inOrder s (finish n (some writes) 3 (body (eng n (issuing n fetch s)).issued) (issuing n fetch s))) := by
  have hrun : Running s := h.1
  rw [eng_issuing] at hf ⊢
  rw [he, gated_acts hrun.1 (.inr hrun.2) hwf, hop, issue_free h hb hf]

/-- Of the state an instruction changes no more than its engine and values of registers. -/
theorem onlyEngine_evt {n : Nat} {s t : State} (h : OnlyEngine n s t) : t.evt = s.evt := by rw [h.1]
theorem onlyEngine_noc {n : Nat} {s t : State} (h : OnlyEngine n s t) : t.noc = s.noc := by rw [h.1]
theorem onlyEngine_mem {n : Nat} {s t : State} (h : OnlyEngine n s t) : t.mem = s.mem := by rw [h.1]

/-- An instruction whose body completes with the engine at `e`, pc and RS as they were, and with `f` outside it: the engine goes on from `e`, the
instruction is counted, and then `f` acts. -/
theorem effect_of_done {c : Instr} {n : Nat} {w : Word} {fetch : Ecc} {wf bad forb : Bool} {regs writes : List Nat} {body : Engine → Issue}
    {op : State → State} {s : State} {e : Engine} {f : State → State} {post : State → Prop}
    (he : exec c s = .next (gated false wf op s)) (hop : op s = issue n w fetch bad forb regs writes body s) (hwf : wf = true)
    (h : Free n w fetch regs s) (hb : bad = false) (hf : forb = false ∨ (eng n (issuing n fetch s)).rem = 0)
    (hbody : body (eng n (issuing n fetch s)).issued = .done e f)
    (hpc : e.pc = (eng n (issuing n fetch s)).pc) (hrs : e.rs = (eng n (issuing n fetch s)).rs)
    (hpost : ∀ v, eng n v = { e.advance with pair := some writes } → Completes n (issuing n fetch s) v →
      OnlyEngine n (issuing n fetch s) v → post (inOrder s (f v))) : Effect c s post := by
  refine ⟨_, exec_of_issue he hop hwf h hb hf, ?_⟩
  rw [hbody]
  obtain ⟨heng, -, honly⟩ := finish_regs n 3 (some writes) e (issuing n fetch s)
  exact hpost _ heng (finish_completes n 3 (some writes) e _ hpc hrs) honly

/-- The same for an instruction with no effect outside its engine. -/
theorem effect_of_regs {c : Instr} {n : Nat} {w : Word} {fetch : Ecc} {wf bad forb : Bool} {regs writes : List Nat} {body : Engine → Issue}
    {op : State → State} {s : State} {e : Engine} {post : State → Prop}
    (he : exec c s = .next (gated false wf op s)) (hop : op s = issue n w fetch bad forb regs writes body s) (hwf : wf = true)
    (h : Free n w fetch regs s) (hb : bad = false) (hf : forb = false ∨ (eng n (issuing n fetch s)).rem = 0)
    (hbody : body (eng n (issuing n fetch s)).issued = .regs e)
    (hpc : e.pc = (eng n (issuing n fetch s)).pc) (hrs : e.rs = (eng n (issuing n fetch s)).rs)
    (hpost : ∀ t, eng n t = { e.advance with pair := some writes } → Completes n (issuing n fetch s) t →
      OnlyEngine n (issuing n fetch s) t → post t) : Effect c s post := by
  refine effect_of_done he hop hwf h hb hf hbody hpc hrs fun v hv hc ho => ?_
  rw [id, inOrder_same ((onlyEngine_evt ho).trans (atEngine_issuing n fetch s).evt)]
  exact hpost v hv hc ho

end Sys2Proof.Machine
end

section
/-! Two-operand instructions (R546): O1. -/
namespace Sys2Proof.Machine
open Sys2Proof.Safety

/-- The signed value of the low bits of a number is that of their bit vector. -/
theorem signed_eq_toInt (k v : Nat) : signed (k + 1) v = (BitVec.ofNat (k + 1) v).toInt := by
  have hneg : v % 2 ^ (k + 1) < 2 ^ k ↔ 2 * (v % 2 ^ (k + 1)) < 2 ^ (k + 1) := by
    rw [Nat.pow_succ']
    omega
  rw [BitVec.toInt_eq_toNat_cond, BitVec.toNat_ofNat]
  simp only [signed, Nat.add_sub_cancel, hneg]
  rfl

/-- An immediate field as a word is its sign extension. -/
theorem simm_eq_signExtend (w : Word) (k : Nat) : simm w k 0 = BitVec.signExtend 32 (w.truncate (k + 1)) := by
  have hlow : BitVec.ofNat (k + 1) (w.toNat % 2 ^ (k + 1)) = w.truncate (k + 1) := by
    apply BitVec.eq_of_toNat_eq
    simp
  simp only [simm, fieldOf, bitsOf, Nat.sub_zero, Nat.shiftRight_zero, signed_eq_toInt, hlow]
  rfl

/-- A two-operand instruction whose result is usable in the next cycle gives `f` of its operands. -/
theorem givesTwo_alu2 {mk : Nat → Word → Ecc → Instr} {f g : Word → Word → Word}
    (he : ∀ n w fetch s, exec (mk n w fetch) s = .next (gated false (mk n w fetch).wf (alu2 n w fetch g) s)) (hfg : ∀ a b, g a b = f a b) :
    GivesTwo mk NextCycle f := by
  intro n w fetch s hwf h hres
  refine effect_of_regs (he n w fetch s) rfl hwf h hres (.inl rfl) rfl rfl rfl fun t ht hc ho => ?_
  rw [ht]
  refine ⟨?_, regsOnly_done (regsOnly_trans (regsOnly_issued _) (regsOnly_setG _ _ _)) _, hc, ho⟩
  rw [← hfg]
  exact nextCycle_congr (nextCycle_setG _ _ fieldOf_reg) (done_g _ _) (done_bank _ _) (done_land _ _)

/-- A multiplication gives `f` of its operands in the second cycle. -/
theorem givesTwo_mulOp {mk : Nat → Word → Ecc → Instr} {f g : Word → Word → Word}
    (he : ∀ n w fetch s, exec (mk n w fetch) s = .next (gated false (mk n w fetch).wf (mulOp n w fetch g) s))
    (hop : ∀ n w fetch, (mk n w fetch).wf = true → opcOf w = 1) (hfg : ∀ a b, g a b = f a b) : GivesTwo mk (AfterCycles 2) f := by
  intro n w fetch s hwf h hres
  have h1 : opcOf w = 1 := hop n w fetch hwf
  have hres' : aluReserved w false = false := by simpa [opReserved, h1] using hres
  refine effect_of_regs (he n w fetch s) rfl hwf h hres' (.inl rfl) rfl rfl rfl fun t ht hc ho => ?_
  rw [ht]
  refine ⟨?_, regsOnly_done (regsOnly_trans (regsOnly_issued _) (regsOnly_later _ _ _)) _, hc, ho⟩
  rw [← hfg, secondOf, if_pos h1]
  exact afterCycles_of (done_g _ _) (done_bank _ _) (done_land _ _)

/-- The low 32 bits of the signed product. -/
theorem ofInt_mul_toInt (a b : Word) : BitVec.ofInt 32 (a.toInt * b.toInt) = a * b := by
  rw [BitVec.ofInt_mul, BitVec.ofInt_toInt, BitVec.ofInt_toInt]

/-- The high 32 bits of the signed product. -/
theorem ofInt_mul_toInt_high (a b : Word) :
    BitVec.ofInt 32 (a.toInt * b.toInt / 2 ^ 32) = ((a.signExtend 64 * b.signExtend 64) >>> (32 : Nat)).truncate 32 := by
  have h : a.signExtend 64 * b.signExtend 64 = BitVec.ofInt 64 (a.toInt * b.toInt) := by rw [BitVec.ofInt_mul]; rfl
  rw [h]
  generalize a.toInt * b.toInt = p
  apply BitVec.eq_of_toNat_eq
  rw [BitVec.toNat_ofInt, BitVec.truncate_eq_setWidth, BitVec.toNat_setWidth, BitVec.toNat_ushiftRight, BitVec.toNat_ofInt,
    Nat.shiftRight_eq_div_pow]
  push_cast
  omega

theorem boolWord_eq (b : Bool) (p : Prop) [Decidable p] (h : b = true ↔ p) : boolWord b = if p then 1 else 0 := by
  unfold boolWord
  simp only [h]

theorem opcOf_of_isAlu {n : Nat} {w : Word} {f : Nat} (h : (below 512 n && isAlu w f) = true) : opcOf w = 1 := by
  simp only [isAlu, isOp, Bool.and_eq_true, decide_eq_true_eq] at h
  exact h.2.1

/-- Settles O1: each instruction is `alu2` or `mulOp` of its own function of the operands. -/
theorem arithmeticResults : Obligations.ArithmeticResults := by
  unfold Obligations.ArithmeticResults
  refine ⟨givesTwo_alu2 (g := fun a b => a + b) exec_add fun _ _ => rfl, givesTwo_alu2 (g := fun a b => a - b) exec_sub fun _ _ => rfl,
    givesTwo_alu2 (g := fun a b => a &&& b) exec_and fun _ _ => rfl, givesTwo_alu2 (g := fun a b => a ||| b) exec_or fun _ _ => rfl,
    givesTwo_alu2 (g := fun a b => a ^^^ b) exec_xor fun _ _ => rfl,
    givesTwo_alu2 (g := fun a b => a <<< shiftCount b) exec_shl fun _ _ => rfl,
    givesTwo_alu2 (g := fun a b => a >>> shiftCount b) exec_shr fun _ _ => rfl,
    givesTwo_alu2 (g := fun a b => a.sshiftRight (shiftCount b)) exec_sar fun _ _ => rfl,
    givesTwo_alu2 (g := fun a b => boolWord (a == b)) exec_cmpEq fun _ _ => boolWord_eq _ _ beq_iff_eq,
    givesTwo_alu2 (g := fun a b => boolWord (a.slt b)) exec_cmpLt fun _ _ => boolWord_eq _ _ BitVec.slt_iff_toInt_lt,
    givesTwo_alu2 (g := fun a b => boolWord (a.ult b)) exec_cmpLtu fun _ _ => boolWord_eq _ _ BitVec.ult_iff_lt,
    givesTwo_alu2 (g := fun a b => if a.slt b then a else b) exec_min fun a b => ?_,
    givesTwo_alu2 (g := fun a b => if a.slt b then b else a) exec_max fun a b => ?_,
    givesTwo_mulOp (g := fun a b => BitVec.ofInt 32 (a.toInt * b.toInt)) exec_mul (fun _ _ _ h => opcOf_of_isAlu h) ofInt_mul_toInt,
    givesTwo_mulOp (g := fun a b => BitVec.ofInt 32 (a.toInt * b.toInt / 2 ^ 32)) exec_mulh (fun _ _ _ h => opcOf_of_isAlu h) ofInt_mul_toInt_high,
    fun e w h => if_pos h, fun e w h => ?_, fun e w h h' => ?_⟩
  · simp only [BitVec.slt_iff_toInt_lt]
  · simp only [BitVec.slt_iff_toInt_lt]
  · simp [secondOf, h]
  · simp [secondOf, h, h', simm_eq_signExtend]

end Sys2Proof.Machine
end

section
/-! Instructions that write one register and may set SOV, and `nop` (R67, R546): O2. -/
namespace Sys2Proof.Machine
open Sys2Proof.Safety

/-- An instruction whose body writes gD by `base`, and sets SOV where `sov` says, gives `f` in gD. -/
theorem givesOne_issue {mk : Nat → Word → Ecc → Instr} {bad : Word → Bool} {regs ws : Word → List Nat}
    {put : Nat → Word → Engine → Engine → Prop} {f : Engine → Word → Word} {sov sov' : Engine → Word → Bool}
    (base : Word → Engine → Engine)
    (he : ∀ n w fetch s, exec (mk n w fetch) s = .next (gated false (mk n w fetch).wf (issue n w fetch (bad w) false (regs w) (ws w)
      fun e => .regs ((base w e).orSov (sov' e w))) s))
    (hbase : ∀ w e, base w e = { e with g := (base w e).g, land := (base w e).land })
    (hput : ∀ w e e', e'.g = (base w e.issued).g → e'.bank = e.bank → e'.land = (base w e.issued).land → put (fieldOf w 25 21) (f e w) e e')
    (hsov : ∀ w e, sov' e.issued w = sov e w) : GivesOne mk bad regs put f sov := by
  intro n w fetch s hwf h hbad
  have hb : ∀ e, RegsOnly e (base w e) := fun e => by
    unfold RegsOnly
    rw [hbase]
  have hpc : ∀ (e : Engine) c, (e.orSov c).pc = e.pc ∧ (e.orSov c).rs = e.rs ∧ (e.orSov c).g = e.g ∧ (e.orSov c).bank = e.bank ∧
      (e.orSov c).land = e.land := fun e c => by
    simp only [Engine.rs]
    rw [orSov_eq]
    exact ⟨rfl, rfl, rfl, rfl, rfl⟩
  obtain ⟨hp, hr, hg, hbk, hl⟩ := hpc (base w (eng n (issuing n fetch s)).issued) (sov' (eng n (issuing n fetch s)).issued w)
  refine effect_of_regs (he n w fetch s) rfl hwf h hbad (.inl rfl) rfl ?_ ?_ fun t ht hc ho => ?_
  · rw [hp, hbase]
    rfl
  · rw [hr, hbase]
    rfl
  · rw [ht]
    refine ⟨hput _ _ _ ?_ ?_ ?_, ?_, ?_, hc, ho⟩
    · rw [done_g, hg]
    · rw [done_bank, hbk, hbase]
      rfl
    · rw [done_land, hl]
    · rw [done_st, orSov_st, hsov, hbase]
      rfl
    · refine regsAndFlagsOnly_trans (regsOnly_flags (regsOnly_trans (regsOnly_issued _) (hb _)))
        (regsAndFlagsOnly_trans (regsAndFlagsOnly_orSov _ _) (regsOnly_flags (advance_regsOnly _ _)))

/-- A result in the next cycle. -/
theorem givesOne_setG {mk : Nat → Word → Ecc → Instr} {bad : Word → Bool} {regs ws : Word → List Nat} {f : Engine → Word → Word}
    {sov : Engine → Word → Bool} (g : Engine → Word → Word) (sov' : Engine → Word → Bool)
    (he : ∀ n w fetch s, exec (mk n w fetch) s = .next (gated false (mk n w fetch).wf (issue n w fetch (bad w) false (regs w) (ws w)
      fun e => .regs ((e.setG (fieldOf w 25 21) (g e w)).orSov (sov' e w))) s))
    (hg : ∀ w e, g e.issued w = f e w) (hsov : ∀ w e, sov' e.issued w = sov e w) : GivesOne mk bad regs NextCycle f sov :=
  givesOne_issue (fun w e => e.setG (fieldOf w 25 21) (g e w)) he (fun _ _ => rfl)
    (fun w e e' h1 h2 h3 => by
      rw [← hg]
      exact nextCycle_congr (nextCycle_setG e.issued (g e.issued w) fieldOf_reg) h1 h2 h3) hsov

/-- A result in the second cycle. -/
theorem givesOne_later {mk : Nat → Word → Ecc → Instr} {bad : Word → Bool} {regs ws : Word → List Nat} {f : Engine → Word → Word}
    {sov : Engine → Word → Bool} (g : Engine → Word → Word) (sov' : Engine → Word → Bool)
    (he : ∀ n w fetch s, exec (mk n w fetch) s = .next (gated false (mk n w fetch).wf (issue n w fetch (bad w) false (regs w) (ws w)
      fun e => .regs ((e.laterG 2 (fieldOf w 25 21) (g e w)).orSov (sov' e w))) s))
    (hg : ∀ w e, g e.issued w = f e w) (hsov : ∀ w e, sov' e.issued w = sov e w) : GivesOne mk bad regs (AfterCycles 2) f sov :=
  givesOne_issue (fun w e => e.laterG 2 (fieldOf w 25 21) (g e w)) he (fun _ _ => rfl)
    (fun w e e' h1 h2 h3 => by
      rw [← hg]
      exact afterCycles_of h1 h2 h3) hsov

/-- `movhi`: the immediate over the low half. -/
theorem movhi_word (w g : Word) : BitVec.ofNat 32 (fieldOf w 15 0 * 65536 + g.toNat % 65536) = w.truncate 16 ++ g.truncate 16 := by
  apply BitVec.eq_of_toNat_eq
  have hw : fieldOf w 15 0 = w.toNat % 2 ^ 16 := rfl
  have hcat : w.toNat % 2 ^ 16 * 2 ^ 16 ||| g.toNat % 2 ^ 16 = 2 ^ 16 * (w.toNat % 2 ^ 16) + g.toNat % 2 ^ 16 := by
    rw [Nat.mul_comm, Nat.two_pow_add_eq_or_of_lt (Nat.mod_lt _ (by decide))]
  rw [BitVec.toNat_append, BitVec.truncate_eq_setWidth, BitVec.truncate_eq_setWidth, BitVec.toNat_setWidth, BitVec.toNat_setWidth,
    Nat.shiftLeft_eq, hcat, hw, BitVec.toNat_ofNat]
  omega

/-! ### A cycle of one result on its way -/

theorem landOne_g (n k : Nat) (v : Word) (s : State) : landOne n (.g k v) s = modEng n (·.landIn (.g k v)) s := rfl

/-- A cycle of a pipeline with one result on its way, due now. -/
theorem cycleEnds_due {n : Nat} {s : State} {x : Landed} (h : (eng n s).land = [⟨1, x⟩]) :
    cycleEnds n s = landOne n x (modEng n (fun e => { e with land := [] }) s) := by
  simp [cycleEnds, h, forEach]

/-- A cycle of a pipeline with one result on its way, due later. -/
theorem cycleEnds_notDue {n k : Nat} {s : State} {x : Landed} (h : (eng n s).land = [⟨k + 1, x⟩]) (hk : 1 ≤ k) :
    cycleEnds n s = modEng n (fun e => { e with land := [⟨k, x⟩] }) s := by
  have h1 : ¬k + 1 ≤ 1 := by omega
  have h2 : 0 < k := hk
  simp [cycleEnds, h, forEach, h2, Nat.ne_of_gt h2]

/-- The engine of an instruction that issues one cycle after the last. -/
theorem eng_issuing_gap_one {n : Nat} {fetch : Ecc} {s : State} (h : (eng n s).gap = 1) :
    eng n (issuing n fetch s) = { eng n (cycleEnds n s) with gap := 1, pair := none } := by
  rw [eng_issuing]
  simp [atIssue, h, cyclesPass, upto, forEach]

/-- Settles O2: each instruction writes one register, or none. -/
theorem moveResults : Obligations.MoveResults := by
  unfold Obligations.MoveResults
  refine ⟨givesOne_setG (fun e w => if e.gr (fieldOf w 20 16) = 0x80000000 then 0x7FFFFFFF
        else if (e.gr (fieldOf w 20 16)).slt 0 then -e.gr (fieldOf w 20 16) else e.gr (fieldOf w 20 16))
      (fun e w => e.gr (fieldOf w 20 16) == 0x80000000) exec_abs (fun w e => ?_) (fun _ _ => rfl),
    givesOne_setG (fun e w => e.gr (fieldOf w 20 16)) (fun _ _ => false) exec_mov (fun _ _ => rfl) (fun _ _ => rfl),
    givesOne_setG (fun _ w => simm w 15 0) (fun _ _ => false) exec_movi (fun w _ => simm_eq_signExtend w 15) (fun _ _ => rfl),
    givesOne_setG (fun e w => BitVec.ofNat 32 (fieldOf w 15 0 * 65536 + (e.gr (fieldOf w 25 21)).toNat % 65536)) (fun _ _ => false)
      exec_movhi (fun w _ => movhi_word w _) (fun _ _ => rfl), fun n w fetch s hwf h hz => ?_⟩
  · simp only [BitVec.slt_iff_toInt_lt]
    rfl
  · refine effect_of_regs (exec_nop n w fetch s) rfl hwf h (by simp [hz]) (.inl rfl) rfl rfl rfl fun t ht hc ho => ?_
    have hland : (eng n t).land = (eng n (issuing n fetch s)).land := by rw [ht]; exact done_land _ _
    have hg : (eng n t).g = (eng n (issuing n fetch s)).g := by rw [ht]; exact done_g _ _
    refine ⟨?_, hland, ?_, hc, ho, fun hgap => ⟨fun k v hl => ?_, fun k x hk hl => ?_⟩⟩
    · rw [ht]
      exact gKept_of (done_g _ _) (done_bank _ _)
    · rw [ht]
      exact regsOnly_done (regsOnly_issued _) _
    · rw [hg, hland, eng_issuing_gap_one hgap, cycleEnds_due hl, landOne_g, eng_modEng_same, eng_modEng_same]
      exact ⟨tabGet_tabSet_same, rfl⟩
    · rw [hg, hland, eng_issuing_gap_one hgap, cycleEnds_notDue hl hk, eng_modEng_same]
      exact ⟨rfl, rfl⟩

end Sys2Proof.Machine
end

section
/-! Accumulators (R62, R67, R79 to R81). -/
namespace Sys2Proof.Machine
open Sys2Proof.Safety

/-! ### What an accumulation finds -/

/-- The accumulators of a bank have keys of their own. -/
theorem aKey_inj {b x y : Nat} (hx : x < 8) (hy : y < 8) (h : aKey b x = aKey b y) : x = y := by
  unfold aKey at h
  split at h <;> split at h <;> omega

theorem newestAcc_append (k : Nat) (d : Accum) (l : List Landing) (i j : Nat) (v : Accum) :
    newestAcc k d (l ++ [⟨i, .acc j v⟩]) = if j = k then v else newestAcc k d l := by
  simp [newestAcc]

/-- Results for g registers are none for accumulators. -/
theorem newestAcc_filter_isG (k key : Nat) (l : List Landing) (d : Accum) :
    newestAcc k d (l.filter fun x => !(x.left == 1 && Landed.isG key x.what)) = newestAcc k d l := by
  unfold newestAcc
  induction l generalizing d with
  | nil => rfl
  | cons x t ih =>
    rw [List.filter_cons, List.foldl_cons]
    split
    · rw [List.foldl_cons, ih]
    · next h =>
      rw [ih]
      obtain ⟨left, what⟩ := x
      cases what with
      | g j v => rfl
      | _ => simp [Landed.isG] at h

/-- An accumulation on its way is the newest. -/
theorem setAc_ac (e : Engine) (a b : Nat) (v : Accum) : (e.setAc a v).ac b = if aKey e.bank a = aKey e.bank b then v else e.ac b :=
  newestAcc_append (aKey e.bank b) (e.acLanded b) e.land 3 (aKey e.bank a) v

theorem setAc_ac_same (e : Engine) (a : Nat) (v : Accum) : (e.setAc a v).ac a = v := by rw [setAc_ac, if_pos rfl]

theorem setAc_ac_other (e : Engine) {a b : Nat} (v : Accum) (ha : a < 8) (hb : b < 8) (h : b ≠ a) : (e.setAc a v).ac b = e.ac b := by
  rw [setAc_ac, if_neg fun k => h (aKey_inj ha hb k).symm]

theorem setG_ac (e : Engine) (r : Nat) (v : Word) (a : Nat) : (e.setG r v).ac a = e.ac a :=
  newestAcc_filter_isG (aKey e.bank a) (gKey e.bank r) e.land (e.acLanded a)

theorem orAov_ac (e : Engine) (c : Bool) (a : Nat) : (e.orAov c).ac a = e.ac a := by
  rw [orAov_eq]
  rfl

theorem orAov_gr (e : Engine) (c : Bool) (q : Nat) : (e.orAov c).gr q = e.gr q := by
  rw [orAov_eq]
  rfl

/-! ### Sums and extractions -/

/-- An exact value leaves the signed range of 40 bits. -/
theorem wraps_forty (i : Int) : wraps 40 i = true ↔ i < -2 ^ 39 ∨ 2 ^ 39 ≤ i := by
  unfold wraps sat
  simp only [decide_eq_true_eq]
  have h : (Int.ofNat (2 ^ (40 - 1))) = 2 ^ 39 := rfl
  rw [h]
  split
  · omega
  · split <;> omega

theorem extract_eq (rnd : Nat) (on : Bool) (k : Nat) (v : Int) (sh : Nat) :
    extract rnd on k v sh = (unsigned k ((if on then sat k else id) (roundShift rnd v sh)), on && wraps k (roundShift rnd v sh)) := by
  cases on <;> rfl

/-- The code of an integer is that of its bit vector. -/
theorem unsigned_eq_toNat (k : Nat) (i : Int) : unsigned k i = (BitVec.ofInt k i).toNat := (BitVec.toNat_ofInt i).symm

theorem ofNat_unsigned (i : Int) : BitVec.ofNat 32 (unsigned 32 i) = BitVec.ofInt 32 i := by
  rw [unsigned_eq_toNat, BitVec.ofNat_toNat, BitVec.setWidth_eq]

/-- Two 16-bit codes in one word. -/
theorem ofNat_pair (x y : BitVec 16) : BitVec.ofNat 32 (x.toNat * 65536 + y.toNat) = x ++ y := by
  have hcat : x.toNat * 2 ^ 16 ||| y.toNat = 2 ^ 16 * x.toNat + y.toNat := by rw [Nat.mul_comm, Nat.two_pow_add_eq_or_of_lt y.isLt]
  apply BitVec.eq_of_toNat_eq
  rw [BitVec.toNat_append, Nat.shiftLeft_eq, hcat, BitVec.toNat_ofNat]
  omega

end Sys2Proof.Machine
end

section
/-! Accumulations, clears and extractions (R67, R80, R81). -/
namespace Sys2Proof.Machine
open Sys2Proof.Safety

/-- What putting flags leaves of the engine. -/
theorem orAov_pc (e : Engine) (c : Bool) : (e.orAov c).pc = e.pc := by rw [orAov_eq]
theorem orAov_rs (e : Engine) (c : Bool) : (e.orAov c).rs = e.rs := by rw [orAov_eq]; rfl
theorem orAov_land (e : Engine) (c : Bool) : (e.orAov c).land = e.land := by rw [orAov_eq]
theorem orAov_g (e : Engine) (c : Bool) : (e.orAov c).g = e.g := by rw [orAov_eq]
theorem orAov_bank (e : Engine) (c : Bool) : (e.orAov c).bank = e.bank := by rw [orAov_eq]
theorem orAov_acc (e : Engine) (c : Bool) : (e.orAov c).acc = e.acc := by rw [orAov_eq]

/-- An accumulation adds `f` of its operands. -/
theorem accumulates_macOp {mk : Nat → Word → Ecc → Instr} {f : CInt → CInt → CInt} (g : CInt → CInt → CInt)
    (he : ∀ n w fetch s, exec (mk n w fetch) s = .next (gated false (mk n w fetch).wf (macOp n w fetch g) s)) (hfg : ∀ x h, g x h = f x h) :
    Accumulates mk f := by
  obtain rfl : g = f := funext fun x => funext (hfg x)
  intro n w fetch s hwf h h1 h2
  refine effect_of_regs (he n w fetch s) rfl hwf h (by simp [h1, h2]) (.inl rfl) rfl (orAov_pc _ _) (orAov_rs _ _) fun t ht hc ho => ?_
  dsimp only
  rw [ht]
  refine ⟨?_, ?_, ?_, fun b hb hne => ?_, ?_, ?_, ?_, hc, ho⟩
  · rw [done_ac, orAov_ac, setAc_ac_same]
    rfl
  · rw [Lands, done_land, orAov_land]
    rfl
  · rw [done_st, orAov_st]
    simp only [accumulate, Bool.or_eq_true, wraps_forty]
    rfl
  · rw [done_ac, orAov_ac, setAc_ac_other _ _ (fieldOf_lt w 25 23) hb hne]
    rfl
  · rw [done_acc, orAov_acc]
    rfl
  · refine gKept_of ?_ ?_
    · rw [done_g, orAov_g]
      rfl
    · rw [done_bank, orAov_bank]
      rfl
  · exact regsAndFlagsOnly_trans (regsOnly_flags (regsOnly_trans (regsOnly_issued _) (regsOnly_later _ _ _)))
      (regsAndFlagsOnly_trans (regsAndFlagsOnly_orAov _ _) (regsOnly_flags (advance_regsOnly _ _)))

/-- `clr`. -/
theorem clr_effect {n : Nat} {w : Word} {fetch : Ecc} {s : State} (hwf : (Instr.clr n w fetch).wf = true) (h : Free n w fetch [] s)
    (hz : fieldOf w 22 0 = 0) :
    Effect (.clr n w fetch) s fun t =>
      let u := issuing n fetch s
      (eng n t).ac (fieldOf w 25 23) = ⟨0, 0⟩ ∧ Lands 3 (.acc (aKey (eng n u).bank (fieldOf w 25 23)) ⟨0, 0⟩) (eng n u) (eng n t) ∧
      (∀ b, b < 8 → b ≠ fieldOf w 25 23 → (eng n t).ac b = (eng n u).ac b) ∧ GKept (eng n u) (eng n t) ∧
      RegsOnly (eng n u) (eng n t) ∧ Completes n u t ∧ OnlyEngine n u t := by
  refine effect_of_regs (exec_clr n w fetch s) rfl hwf h (by simp [hz]) (.inl rfl) rfl rfl rfl fun t ht hc ho => ?_
  dsimp only
  rw [ht]
  refine ⟨?_, done_land _ _, fun b hb hne => ?_, gKept_of (done_g _ _) (done_bank _ _),
    regsOnly_done (regsOnly_trans (regsOnly_issued _) (regsOnly_later _ _ _)) _, hc, ho⟩
  · rw [done_ac, setAc_ac_same]
  · rw [done_ac, setAc_ac_other _ _ (fieldOf_lt w 25 23) hb hne]
    rfl

/-- Both halves extracted, as two 16-bit codes. -/
theorem extractC_word (rnd : Nat) (on : Bool) (c : CInt) (sh : Nat) :
    BitVec.ofNat 32 (extractC rnd on c sh).1 =
      BitVec.ofInt 16 ((if on then sat 16 else id) (roundShift rnd c.im sh)) ++
      BitVec.ofInt 16 ((if on then sat 16 else id) (roundShift rnd c.re sh)) := by
  simp only [extractC, extract_eq, unsigned_eq_toNat]
  exact ofNat_pair _ _

theorem extractC_sov (rnd : Nat) (on : Bool) (c : CInt) (sh : Nat) :
    (extractC rnd on c sh).2 = (on && (wraps 16 (roundShift rnd c.re sh) || wraps 16 (roundShift rnd c.im sh))) := by
  simp only [extractC, extract_eq, Bool.and_or_distrib_left]

/-- One half of an accumulator, by its value. -/
theorem val_half (c : Prop) [Decidable c] (a : Accum) : (if c then a.val.re else a.val.im) = (if c then a.re else a.im).toInt := by
  split <;> rfl

end Sys2Proof.Machine
end

section
/-! Local memory: bytes, words and the checks of an access (R8, R82 to R85, R264 to R267). -/
namespace Sys2Proof.Machine

theorem memByte_memStore (a : Nat) (bs : List Byte) (x : Nat) (s : State) :
    memByte x (memStore a bs s) = if a ≤ x ∧ x < a + bs.length then bs.getD (x - a) 0 else memByte x s := memByte_memWrite a bs x s

@[simp] theorem leBytes_length (n v : Nat) : (leBytes n v).length = n := by
  induction n generalizing v with
  | zero => rfl
  | succ n ih => simp [leBytes, ih]

/-- The bytes of the number a list of bytes spells are the list. -/
theorem leBytes_leNat (l : List Byte) : leBytes l.length (leNat l) = l := by
  induction l with
  | nil => rfl
  | cons b t ih =>
    have hb : b.toNat < 256 := b.isLt
    have hlow : BitVec.ofNat 8 (b.toNat + 256 * leNat t) = b := by
      apply BitVec.eq_of_toNat_eq
      rw [BitVec.toNat_ofNat]
      omega
    have hhigh : (b.toNat + 256 * leNat t) / 256 = leNat t := by omega
    rw [List.length_cons, leNat, leBytes, hlow, hhigh, ih]

@[simp] theorem memRead_length (a n : Nat) (s : State) : (memRead a n s).length = n := by simp [memRead, upto]

theorem memRead_getD {a n i : Nat} (h : i < n) (s : State) : (memRead a n s).getD i 0 = memByte (a + i) s := by
  simp [memRead, upto, h]

/-- A word read and stored again keeps its bytes. -/
theorem leBytes_memNat (a n : Nat) (s : State) : leBytes n (memNat a n s) = memRead a n s := by
  have h := leBytes_leNat (memRead a n s)
  rwa [memRead_length] at h

/-- An aligned access in bounds raises no ADDR (R85). -/
theorem localFault_none {addr size : Nat} {store : Bool} (hlt : addr < 0x40000) (ha : addr % size = 0) (hs : store = true → 0x10000 ≤ addr) :
    localFault addr size store = 0 := by
  unfold localFault
  rw [if_neg (by omega), if_neg (by omega)]
  cases store with
  | false => rfl
  | true => rw [if_neg (by simp [hs rfl])]

end Sys2Proof.Machine
end

section
/-! `ftap` (R79), and O3. -/
namespace Sys2Proof.Machine
open Sys2Proof.Safety

theorem setG_pc (e : Engine) (r : Nat) (v : Word) : (e.setG r v).pc = e.pc := rfl
theorem setG_rs (e : Engine) (r : Nat) (v : Word) : (e.setG r v).rs = e.rs := rfl
theorem setAc_pc (e : Engine) (a : Nat) (v : Accum) : (e.setAc a v).pc = e.pc := rfl
theorem setAc_rs (e : Engine) (a : Nat) (v : Accum) : (e.setAc a v).rs = e.rs := rfl

/-- The engine after an `ftap` with linear pointers that adds `d`: the sum is on its way, x's pointer has gone back by 4, h's by `size` in the
direction CDIR names. -/
def ftapNext (w : Word) (size : Nat) (d : CInt) (e : Engine) : Engine :=
  let r := accumulate (e.ac (fieldOf w 25 23)) d
  let e2 := ((e.setAc (fieldOf w 25 23) r.1).orAov r.2).setG (fieldOf w 22 18) (e.gr (fieldOf w 22 18) + -4)
  e2.setG (fieldOf w 17 13)
    (if fieldOf w 10 10 = 1 then e2.gr (fieldOf w 17 13) + BitVec.ofNat 32 size else e2.gr (fieldOf w 17 13) - BitVec.ofNat 32 size)

theorem ftapNext_pc (w : Word) (size : Nat) (d : CInt) (e : Engine) : (ftapNext w size d e).pc = e.pc := by
  unfold ftapNext
  rw [setG_pc, setG_pc, orAov_pc, setAc_pc]

theorem ftapNext_rs (w : Word) (size : Nat) (d : CInt) (e : Engine) : (ftapNext w size d e).rs = e.rs := by
  unfold ftapNext
  rw [setG_rs, setG_rs, orAov_rs, setAc_rs]

theorem ftapNext_ac (w : Word) (size : Nat) (d : CInt) (e : Engine) :
    (ftapNext w size d e).ac (fieldOf w 25 23) = (accumulate (e.ac (fieldOf w 25 23)) d).1 := by
  unfold ftapNext
  rw [setG_ac, setG_ac, orAov_ac, setAc_ac_same]

/-- Of the g registers `ftap` writes its two pointers. -/
theorem ftapNext_gr {w : Word} (size : Nat) (d : CInt) (e : Engine) (hne : fieldOf w 22 18 ≠ fieldOf w 17 13) {q : Nat} (hq : q < 32) :
    (ftapNext w size d e).gr q =
      if q = fieldOf w 17 13 then
        (if fieldOf w 10 10 = 1 then e.gr (fieldOf w 17 13) + BitVec.ofNat 32 size else e.gr (fieldOf w 17 13) - BitVec.ofNat 32 size)
      else if q = fieldOf w 22 18 then e.gr (fieldOf w 22 18) - 4 else e.gr q := by
  have hd : fieldOf w 22 18 < 32 := fieldOf_reg
  have hc : fieldOf w 17 13 < 32 := fieldOf_reg
  have hkeep : ∀ p, ((e.setAc (fieldOf w 25 23) (accumulate (e.ac (fieldOf w 25 23)) d).1).orAov (accumulate (e.ac (fieldOf w 25 23)) d).2).gr p =
      e.gr p := fun p => orAov_gr _ _ p
  unfold ftapNext
  by_cases h1 : q = fieldOf w 17 13
  · rw [if_pos h1, h1, setG_gr_same, setG_gr_other _ _ hd hc hne.symm, hkeep]
  · rw [if_neg h1, setG_gr_other _ _ hc hq h1]
    by_cases h2 : q = fieldOf w 22 18
    · rw [if_pos h2, h2, setG_gr_same, BitVec.sub_eq_add_neg]
    · rw [if_neg h2, setG_gr_other _ _ hd hq h2, hkeep]

theorem ftapStep_linear {w : Word} (h : fieldOf w 9 9 = 0) (e : Engine) (g imm : Word) : ftapStep e w g imm = g + imm := by
  rw [ftapStep, if_neg (by omega)]

theorem issued_gr (e : Engine) (q : Nat) : e.issued.gr q = e.gr q := rfl
theorem issued_ac (e : Engine) (a : Nat) : e.issued.ac a = e.ac a := rfl

/-- Completing is of the registers and the engines. -/
theorem completes_congr {n : Nat} {s t t' : State} (h : Completes n s t) (hc : t'.csr = t.csr) (he : t'.eng = t.eng) : Completes n s t' := by
  rwa [Completes, rd_congr hc, eng_congr he]

/-- Bytes read and stored `k` places on. -/
theorem memByte_moved {s t : State} (h : t.mem = s.mem) (n a k y : Nat) :
    memByte y (localStore n (a + k) k (memNat (engBase n + a) k s) t) =
      if engBase n + a + k ≤ y ∧ y < engBase n + a + 2 * k then memByte (y - k) s else memByte y s := by
  have hsame : memByte y t = memByte y s := by simp only [memByte, h]
  rw [localStore, memByte_memStore, leBytes_length, leBytes_memNat, hsame]
  by_cases hin : engBase n + (a + k) ≤ y ∧ y < engBase n + (a + k) + k
  · rw [if_pos hin, if_pos (by omega), memRead_getD (by omega)]
    congr 1
    omega
  · rw [if_neg hin, if_neg (by omega)]

/-- With aligned pointers in data memory and sound data, `ftap` accumulates and moves x one place older. -/
theorem ftap_effect {n : Nat} {w : Word} {fetch : Ecc} {s : State} (hwf : (Instr.ftap n w .clean fetch).wf = true)
    (h : Free n w fetch [fieldOf w 22 18, fieldOf w 17 13] s) (hz : fieldOf w 6 0 = 0) (hlin : fieldOf w 9 9 = 0)
    (hne : fieldOf w 22 18 ≠ fieldOf w 17 13) :
    let u := issuing n fetch s
    let e := eng n u
    let gd := (e.gr (fieldOf w 22 18)).toNat
    let gc := (e.gr (fieldOf w 17 13)).toNat
    let size := if fieldOf w 11 11 = 1 then 2 else 4
    gd % 4 = 0 → gc % size = 0 → 0x10000 ≤ gd → gd + 4 < 0x40000 → gc < 0x40000 →
    poisoned (engBase n + gd) 4 s = false → poisoned (engBase n + gc) size s = false →
    Effect (.ftap n w .clean fetch) s fun t =>
      let x := memNat (engBase n + gd) 4 s
      let h : CInt := if fieldOf w 11 11 = 1 then ⟨signed 16 (memNat (engBase n + gc) 2 s), 0⟩ else cint16 (memNat (engBase n + gc) 4 s)
      let d : CInt := (cint16 x).mul (if fieldOf w 12 12 = 1 then ⟨h.re, -h.im⟩ else h)
      let a := e.ac (fieldOf w 25 23)
      (eng n t).ac (fieldOf w 25 23) = ⟨BitVec.ofInt 40 (a.re.toInt + d.re), BitVec.ofInt 40 (a.im.toInt + d.im)⟩ ∧
      (eng n t).gr (fieldOf w 22 18) = e.gr (fieldOf w 22 18) - 4 ∧
      (eng n t).gr (fieldOf w 17 13) = (if fieldOf w 10 10 = 1 then e.gr (fieldOf w 17 13) + BitVec.ofNat 32 size
        else e.gr (fieldOf w 17 13) - BitVec.ofNat 32 size) ∧
      (∀ q, q < 32 → q ≠ fieldOf w 22 18 → q ≠ fieldOf w 17 13 → (eng n t).gr q = e.gr q) ∧
      (∀ y, memByte y t = if engBase n + gd + 4 ≤ y ∧ y < engBase n + gd + 8 then memByte (y - 4) s else memByte y s) ∧
      Completes n u t ∧ ∀ m, m ≠ n → eng m t = eng m s := by
  intro u e gd gc size hgd hgc hlo hhi hcl hpd hpc
  have hdst : (e.gr (fieldOf w 22 18) + 4).toNat = gd + 4 := by
    rw [BitVec.toNat_add]
    show (gd + 4) % 2 ^ 32 = gd + 4
    omega
  have hx : ftapFault gd gc (gd + 4) size = (0, gd + 4) := by
    unfold ftapFault
    rw [localFault_none (by omega) hgd (by simp), localFault_none hcl hgc (by simp), localFault_none hhi (by omega) (fun _ => by omega)]
    rfl
  let x := memNat (engBase n + gd) 4 s
  let h : CInt := if fieldOf w 11 11 = 1 then ⟨signed 16 (memNat (engBase n + gc) 2 s), 0⟩ else cint16 (memNat (engBase n + gc) 4 s)
  let d : CInt := if fieldOf w 12 12 = 1 then (cint16 x).mul h.conj else (cint16 x).mul h
  refine effect_of_done (exec_ftap n w .clean fetch s) rfl hwf ‹_› (by simp [hz]) (.inl rfl)
    (e := ftapNext w size d e.issued) (f := fun t => localStore n (gd + 4) 4 x t) ?_ (ftapNext_pc _ _ _ _) (ftapNext_rs _ _ _ _) fun v hv hc ho => ?_
  · dsimp only
    rw [ftapStep_linear hlin, ftapStep_linear hlin, issued_gr, issued_gr]
    rw [hdst, hx, if_neg (by simp), if_neg (Bool.not_eq_true _ ▸ hpd), if_neg (Bool.not_eq_true _ ▸ hpc), if_neg (by decide)]
    rfl
  · have hgr : ∀ q, (eng n v).gr q = (ftapNext w size d e.issued).gr q := fun q => by rw [hv, advance_gr]
    have hd : fieldOf w 22 18 < 32 := fieldOf_reg
    have hc' : fieldOf w 17 13 < 32 := fieldOf_reg
    have heng : eng n (inOrder s (localStore n (gd + 4) 4 x v)) = eng n v := rfl
    have hmem : v.mem = s.mem := (onlyEngine_mem ho).trans (atEngine_issuing n fetch s).mem
    refine ⟨?_, ?_, ?_, fun q hq h1 h2 => ?_, fun y => ?_, completes_congr hc rfl rfl, fun m hm => ?_⟩
    · rw [heng, hv, done_ac, ftapNext_ac, issued_ac]
      exact congrArg (fun c : CInt => (⟨BitVec.ofInt 40 ((e.ac (fieldOf w 25 23)).re.toInt + c.re),
        BitVec.ofInt 40 ((e.ac (fieldOf w 25 23)).im.toInt + c.im)⟩ : Accum)) (apply_ite _ _ _ _).symm
    · rw [heng, hgr, ftapNext_gr size d e.issued hne hd, if_neg hne, if_pos rfl, issued_gr]
    · rw [heng, hgr, ftapNext_gr size d e.issued hne hc', if_pos rfl, issued_gr]
    · rw [heng, hgr, ftapNext_gr size d e.issued hne hq, if_neg h2, if_neg h1, issued_gr]
    · exact memByte_moved hmem n gd 4 y
    · exact (ho.2.2.1 m hm).trans ((atEngine_issuing n fetch s).others m hm)

/-- Settles O3: an accumulation adds its product, an extraction rounds and narrows, and `ftap` does the first beside its move. -/
theorem accumulatorResults : Obligations.AccumulatorResults := by
  unfold Obligations.AccumulatorResults
  refine ⟨accumulates_macOp CInt.mul exec_cmac fun _ _ => rfl, accumulates_macOp (fun x h => x.mul h.conj) exec_cmacc fun x h => ?_,
    accumulates_macOp (fun x h => ⟨-(x.mul h).re, -(x.mul h).im⟩) exec_cmsu fun x h => ?_,
    accumulates_macOp (fun x h => ⟨x.re * h.re, 0⟩) exec_rmac fun _ _ => rfl, fun _ _ _ _ => clr_effect,
    givesOne_later (fun e w => BitVec.ofNat 32 (extractC e.rnd e.satOn (e.acLanded (fieldOf w 20 18)).val (fieldOf w 4 0)).1)
      (fun e w => (extractC e.rnd e.satOn (e.acLanded (fieldOf w 20 18)).val (fieldOf w 4 0)).2) exec_racc
      (fun w e => extractC_word _ _ _ _) (fun w e => extractC_sov _ _ _ _),
    givesOne_later (fun e w => BitVec.ofNat 32 (extract e.rnd e.satOn 32
        (if fieldOf w 5 5 = 0 then (e.acLanded (fieldOf w 20 18)).val.re else (e.acLanded (fieldOf w 20 18)).val.im) (fieldOf w 4 0)).1)
      (fun e w => (extract e.rnd e.satOn 32
        (if fieldOf w 5 5 = 0 then (e.acLanded (fieldOf w 20 18)).val.re else (e.acLanded (fieldOf w 20 18)).val.im) (fieldOf w 4 0)).2) exec_mva
      (fun w e => ?_) (fun w e => ?_),
    fun _ _ _ _ => ftap_effect⟩
  · simp only [CInt.mul, CInt.conj, CInt.mk.injEq]
    constructor <;> ring
  · simp only [CInt.mul, CInt.mk.injEq, and_true]
    ring
  · rw [extract_eq, ofNat_unsigned, val_half]
    rfl
  · rw [extract_eq, val_half]
    rfl

end Sys2Proof.Machine
end

section
/-! Local loads (R82 to R84, R94): O4. -/
namespace Sys2Proof.Machine
open Sys2Proof.Safety

/-! ### Address forms -/

/-- Where a local access goes and what gB becomes are the form MODE names. -/
theorem memForm_addressForm (a : Nat) (e : Engine) (w : Word) : AddressForm a e w (memForm e w a).1 (memForm e w a).2 := by
  have himm : simm w 11 0 = BitVec.signExtend 32 (w.truncate 12) := simm_eq_signExtend w 11
  unfold AddressForm memForm
  rw [himm]
  refine ⟨fun h => ?_, fun h => ?_, fun h => ?_, fun h => ?_⟩ <;> rw [h] <;> exact ⟨rfl, rfl⟩

theorem memForm_issued (e : Engine) (w : Word) (a : Nat) : memForm e.issued w a = memForm e w a := rfl

/-- Without a post-modify update gB stays. -/
theorem memForm_base {w : Word} (h : fieldOf w 15 14 = 0) (e : Engine) (a : Nat) : (memForm e w a).2 = e.gr (fieldOf w 20 16) := by
  simp only [memForm, h]

/-- The update of gB is a result of one cycle, or none. -/
theorem baseUpdate_pc (e : Engine) (w gb : Word) : (baseUpdate e w gb).pc = e.pc := by
  unfold baseUpdate
  split <;> rfl

theorem baseUpdate_rs (e : Engine) (w gb : Word) : (baseUpdate e w gb).rs = e.rs := by
  unfold baseUpdate
  split <;> rfl

theorem baseUpdate_bank (e : Engine) (w gb : Word) : (baseUpdate e w gb).bank = e.bank := by
  unfold baseUpdate
  split <;> rfl

theorem regsOnly_baseUpdate (e : Engine) (w gb : Word) : RegsOnly e (baseUpdate e w gb) := by
  unfold baseUpdate
  split <;> rfl

theorem baseUpdate_land {e : Engine} {w gb : Word} {x : Landing} (h : x ∈ (baseUpdate e w gb).land) : x ∈ e.land := by
  unfold baseUpdate at h
  split at h
  · exact h
  · exact List.mem_of_mem_filter h

/-- The g registers after the update: gB as the form leaves it. -/
theorem baseUpdate_moved (e : Engine) (w : Word) (a : Nat) : BaseMoved e (baseUpdate e w (memForm e w a).2) w a := by
  intro q hq
  have hb : fieldOf w 20 16 < 32 := fieldOf_reg
  unfold baseUpdate
  by_cases hm : fieldOf w 15 14 = 0
  · rw [if_pos hm, memForm_base hm]
    split
    · next h => rw [h]
    · rfl
  · rw [if_neg hm]
    split
    · next h => rw [h, setG_gr_same]
    · next h => exact setG_gr_other _ _ hb hq h

theorem regsOnly_land (e : Engine) (l : List Landing) : RegsOnly e { e with land := l } := rfl

theorem baseMoved_congr {e e' e'' : Engine} {w : Word} {a : Nat} (h : BaseMoved e e' w a) (hg : e''.g = e'.g) (hb : e''.bank = e'.bank) :
    BaseMoved e e'' w a := fun q hq => by
  rw [← h q hq]
  simp only [Engine.gr, hg, hb]

/-! ### Loads -/

/-- An access of sound data, clean or corrected, finds what the outside world says. -/
theorem eccFinds_sound {ecc : Ecc} {a n : Nat} {s : State} (h : eccFinds ecc a n s ≠ .uncorrectable) : eccFinds ecc a n s = ecc := by
  unfold eccFinds at h ⊢
  split at h
  · exact absurd rfl h
  · exact if_neg ‹_›

theorem counted_bump (off : Nat) (s : State) : Counted off s (bump off s) := rd_wr_same _ _ _

/-- A corrected error counts in ENG_ECC_CNT. -/
theorem counted_eccCorrected (n addr : Nat) (s : State) : Counted (Reg.ENG_ECC_CNT n) s (eccCorrected n addr s) := by
  have h : Reg.ENG_ECC_CNT n ≠ Reg.SPARE_STATUS := by simp only [Reg.ENG_ECC_CNT, Reg.SPARE_STATUS]; omega
  rw [Counted, ← rd_noteEccAt h .corrected (engBase n + addr) s]
  exact counted_bump _ _

/-- The count of corrected errors is none of the registers that follow the engine. -/
theorem eccCnt_free (n : Nat) : Reg.ENG_ECC_CNT n ∉ [Reg.ENG_ISSUE_CNT n, Reg.ENG_STATUS n, Reg.ENG_PC n, Reg.VEC_STATUS n] := by
  simp [Reg.ENG_ECC_CNT, Reg.ENG_ISSUE_CNT, Reg.ENG_STATUS, Reg.ENG_PC, Reg.VEC_STATUS]

theorem completes_eccCorrected {n : Nat} {s t : State} (h : Completes n s t) (addr : Nat) : Completes n s (eccCorrected n addr t) := by
  have h1 : Reg.ENG_ISSUE_CNT n ≠ Reg.SPARE_STATUS := by simp only [Reg.ENG_ISSUE_CNT, Reg.SPARE_STATUS]; omega
  have h2 : Reg.ENG_ISSUE_CNT n ≠ Reg.ENG_ECC_CNT n := by simp only [Reg.ENG_ISSUE_CNT, Reg.ENG_ECC_CNT]; omega
  rwa [Completes, rd_eccCorrected h1 h2, eng_congr (eccCorrected_eng n addr t)]

/-- What a load does outside its engine: a corrected error is counted. -/
def loadNoted (n addr : Nat) (ecc : Ecc) (s : State) : State := if ecc = .corrected then eccCorrected n addr s else s

theorem loadNoted_corrected (n addr : Nat) (s : State) : loadNoted n addr .corrected s = eccCorrected n addr s := rfl

theorem atEngine_loadNoted (n addr : Nat) (ecc : Ecc) (s : State) : AtEngine n s (loadNoted n addr ecc s) := by
  unfold loadNoted
  split
  · exact atEngine_eccCorrected n _ s
  · exact .refl n s

theorem loadNoted_eng (n addr : Nat) (ecc : Ecc) (s : State) : (loadNoted n addr ecc s).eng = s.eng := by
  unfold loadNoted
  split
  · exact eccCorrected_eng n _ s
  · rfl

theorem completes_loadNoted {n : Nat} {s t : State} (h : Completes n s t) (addr : Nat) (ecc : Ecc) : Completes n s (loadNoted n addr ecc t) := by
  unfold loadNoted
  split
  · exact completes_eccCorrected h _
  · exact h

/-- The results a load of 2^a bytes `v` sends: `f v` to gG, and of a pair the high word to gG + 1. -/
def loadLandings (e : Engine) (w : Word) (a : Nat) (f : Nat → Word) (v : Nat) : List Landing :=
  ⟨3, .g (gKey e.bank (fieldOf w 25 21)) (f v)⟩ ::
    (if a = 3 then [⟨3, .g (gKey e.bank (fieldOf w 25 21 + 1)) (BitVec.ofNat 32 (v / 2 ^ 32))⟩] else [])

/-- A local load of 2^a bytes whose `put` sends those results. -/
theorem loads_loadOp {mk : Nat → Word → Ecc → Ecc → Instr} {a : Nat} {f : Nat → Word} {put : Word → Engine → Nat → Engine}
    (he : ∀ n w ecc fetch s, exec (mk n w ecc fetch) s = .next (gated false (mk n w ecc fetch).wf (loadOp n w fetch a ecc (put w)) s))
    (hput : ∀ w e v, put w e v = { e with land := e.land ++ loadLandings e w a f v }) : Loads mk a f := by
  intro n w ecc fetch s hwf h hres u e addr hlt hal hsound
  have hat : AtEngine n s u := atEngine_issuing n fetch s
  have hfault : localFault addr.toNat (2 ^ a) false = 0 := localFault_none hlt hal (by simp)
  have hecc : eccFinds ecc (engBase n + addr.toNat) (2 ^ a) s = ecc := eccFinds_sound hsound
  rw [hecc] at hsound
  let e1 := baseUpdate e.issued w (memForm e.issued w a).2
  let v := memNat (engBase n + addr.toNat) (2 ^ a) s
  refine effect_of_done (he n w ecc fetch s) rfl hwf h hres (.inl rfl) (e := put w e1 v) (f := loadNoted n addr.toNat ecc) ?_ ?_ ?_
    fun t ht hc ho => ?_
  · dsimp only
    rw [memForm_issued, hfault, if_neg (by decide), hecc]
    cases ecc with
    | clean => rfl
    | corrected => rfl
    | uncorrectable => exact absurd rfl hsound
  · rw [hput]
    exact baseUpdate_pc _ _ _
  · rw [hput]
    exact baseUpdate_rs _ _ _
  · rw [hput] at ht
    have hnoted := atEngine_loadNoted n addr.toNat ecc t
    rw [inOrder_same (hnoted.evt.trans ((onlyEngine_evt ho).trans hat.evt))]
    dsimp only
    rw [eng_congr (loadNoted_eng n _ ecc t), ht]
    refine ⟨memForm_addressForm _ _ _, ?_, ⟨e1.land, fun x => baseUpdate_land, ?_⟩, hnoted.mem.trans ((onlyEngine_mem ho).trans hat.mem), ?_,
      completes_loadNoted hc _ _, fun hcl => ?_, fun hcor => ?_⟩
    · exact baseMoved_congr (baseUpdate_moved e.issued w a) (done_g _ _) (done_bank _ _)
    · rw [done_land, loadLandings, baseUpdate_bank]
      rfl
    · exact regsOnly_done (regsOnly_trans (regsOnly_trans (regsOnly_issued e) (regsOnly_baseUpdate _ _ _)) (regsOnly_land _ _)) _
    · subst hcl
      exact ho
    · subst hcor
      have hcnt : rd (Reg.ENG_ECC_CNT n) t = rd (Reg.ENG_ECC_CNT n) u := ho.2.2.2 _ (eccCnt_free n)
      rw [loadNoted_corrected, Counted, ← hcnt]
      exact counted_eccCorrected n _ t

/-- Settles O4: the loads differ in their width and in what they make of the bytes. -/
theorem localLoadResults : Obligations.LocalLoadResults := by
  unfold Obligations.LocalLoadResults
  refine ⟨loads_loadOp (put := fun w => putSigned w 8) exec_ldB fun w e v => ?_, loads_loadOp (put := putPlain) exec_ldBu fun _ _ _ => rfl,
    loads_loadOp (put := fun w => putSigned w 16) exec_ldH fun w e v => ?_, loads_loadOp (put := putPlain) exec_ldHu fun _ _ _ => rfl,
    loads_loadOp (put := putPlain) exec_ldW fun _ _ _ => rfl, loads_loadOp (put := putPair) exec_ldD fun w e v => ?_⟩
  · rw [putSigned, signed_eq_toInt]
    rfl
  · rw [putSigned, signed_eq_toInt]
    rfl
  · simp only [putPair, Engine.laterG, Engine.later, loadLandings, List.append_assoc]
    rfl

end Sys2Proof.Machine
end

section
/-! Local stores (R82, R85, R266, R267): the completing half of O5. -/
namespace Sys2Proof.Machine
open Sys2Proof.Safety

/-! ### What the merge read of a store leaves -/

/-- An error noted changes no memory. -/
theorem noteEccAt_sameMem (ecc : Ecc) (a : Nat) (s : State) : (noteEccAt ecc a s).mem = s.mem :=
  noteEccAt_keeps (P := fun t => t.mem = s.mem) (fun _ _ h => h) (fun _ h => h) ecc a rfl

theorem noteEccAt_evt (ecc : Ecc) (a : Nat) (s : State) : (noteEccAt ecc a s).evt = s.evt :=
  noteEccAt_keeps (P := fun t => t.evt = s.evt) (fun _ _ h => h) (fun _ h => h) ecc a rfl

/-- A store of whole words reads nothing. -/
theorem mergeNoted_whole {size : Nat} (h : 4 ≤ size) (n a : Nat) (ecc : Ecc) (s : State) : mergeNoted n a size ecc s = s := by
  unfold mergeNoted
  exact if_pos h

theorem mergeNoted_clean (n a size : Nat) (s : State) : mergeNoted n a size .clean s = s := by
  unfold mergeNoted
  exact ite_self s

/-- What a corrected error's count and a note of an uncorrectable one with its mark of poison keep, the merge read keeps. -/
theorem mergeNoted_keeps {P : State → Prop} {n a : Nat} {s : State} (hs : P s) (hc : P (eccCorrected n a s))
    (hu : P (addPoison [(engBase n + a) / 4 * 4] (noteEccAt .uncorrectable (engBase n + a) s))) (size : Nat) (ecc : Ecc) :
    P (mergeNoted n a size ecc s) := by
  unfold mergeNoted
  split
  · exact hs
  · cases ecc with
    | clean => exact hs
    | corrected => exact hc
    | uncorrectable => exact hu

theorem mergeNoted_eng (n a size : Nat) (ecc : Ecc) (s : State) : (mergeNoted n a size ecc s).eng = s.eng :=
  mergeNoted_keeps (P := fun t => t.eng = s.eng) rfl (eccCorrected_eng n a s) (noteEccAt_eng .uncorrectable _ s) size ecc

theorem mergeNoted_evt (n a size : Nat) (ecc : Ecc) (s : State) : (mergeNoted n a size ecc s).evt = s.evt :=
  mergeNoted_keeps (P := fun t => t.evt = s.evt) rfl (atEngine_eccCorrected n a s).evt (noteEccAt_evt .uncorrectable _ s) size ecc

/-- A word poisoned keeps its bytes. -/
theorem memByte_mergeNoted (n a size : Nat) (ecc : Ecc) (s : State) (x : Nat) : memByte x (mergeNoted n a size ecc s) = memByte x s :=
  mergeNoted_keeps (P := fun t => memByte x t = memByte x s) rfl (memByte_congr (atEngine_eccCorrected n a s).mem x)
    (memByte_congr (noteEccAt_sameMem .uncorrectable _ s) x) size ecc

theorem completes_mergeNoted {n : Nat} {s t : State} (h : Completes n s t) (a size : Nat) (ecc : Ecc) :
    Completes n s (mergeNoted n a size ecc t) := by
  have hnote : Completes n s (noteEccAt .uncorrectable (engBase n + a) t) := by
    have hcnt : Reg.ENG_ISSUE_CNT n ≠ Reg.SPARE_STATUS := by simp only [Reg.ENG_ISSUE_CNT, Reg.SPARE_STATUS]; omega
    rwa [Completes, rd_noteEccAt hcnt, eng_congr (noteEccAt_eng _ _ t)]
  exact mergeNoted_keeps h (completes_eccCorrected h a) (completes_congr hnote rfl rfl) size ecc

/-- Words put into the list of poisoned words are poisoned. -/
theorem mem_poison_addPoison (x : Nat) (s : State) : x ∈ (addPoison [x] s).mem.poison := by
  unfold addPoison
  simp only [List.mem_append, List.mem_filter, List.mem_singleton, true_and, Bool.not_eq_true']
  by_cases h : x ∈ s.mem.poison
  · exact .inl h
  · exact .inr (by simpa using h)

/-- An uncorrectable merge read leaves the word poisoned. -/
theorem poisoned_mergeNoted {n a size : Nat} (hn : n < 512) (ha : a < 0x40000) (h0 : 0 < size) (hsize : size < 4) (s : State) :
    poisoned (engBase n + a) size (mergeNoted n a size .uncorrectable s) = true := by
  have hword : eccSize ((engBase n + a) / 4 * 4) = 4 := by
    have hlt : (engBase n + a) / 4 * 4 < 0x8000000 := by
      simp only [engBase]
      omega
    rw [eccSize, if_pos hlt]
  unfold mergeNoted
  rw [if_neg (by omega), poisoned, List.any_eq_true]
  refine ⟨(engBase n + a) / 4 * 4, mem_poison_addPoison _ _, ?_⟩
  rw [hword]
  simp only [Bool.and_eq_true, decide_eq_true_eq]
  omega

/-! ### Stores -/

theorem localStore_csr (n a size v : Nat) (s : State) : (localStore n a size v s).csr = s.csr := rfl
theorem localStore_evt (n a size v : Nat) (s : State) : (localStore n a size v s).evt = s.evt := rfl
theorem localStore_eng (n a size v : Nat) (s : State) : (localStore n a size v s).eng = s.eng := rfl

/-- A store changes memory alone. -/
theorem localStore_undone {s t : State} (h : t.mem = s.mem) (n a size v : Nat) : { localStore n a size v t with mem := s.mem } = t := by
  rw [← h]
  rfl

/-- A local store of 2^a bytes, whose merge read, where it has one, finds `ecc`. -/
theorem stores_storeOp {mk : Nat → Word → Ecc → Ecc → Instr} {a : Nat} (pick : Ecc → Ecc) (hpick : a < 2 → ∀ ecc, pick ecc = ecc)
    (he : ∀ n w ecc fetch s, exec (mk n w ecc fetch) s = .next (gated false (mk n w ecc fetch).wf (storeOp n w fetch a (pick ecc)) s)) :
    Stores mk a := by
  intro n w ecc fetch s hwf h hres u e addr hlo hlt hal
  have hn : n < 512 := h.2.1
  have hat : AtEngine n s u := atEngine_issuing n fetch s
  have hfault : localFault addr.toNat (2 ^ a) true = 0 := localFault_none hlt hal fun _ => hlo
  have hmerge : ∀ t, mergeNoted n addr.toNat (2 ^ a) (pick ecc) t = mergeNoted n addr.toNat (2 ^ a) ecc t := fun t => by
    by_cases h2 : a < 2
    · rw [hpick h2]
    · have h4 : 4 ≤ 2 ^ a := Nat.pow_le_pow_right (n := 2) (i := 2) (by decide) (by omega)
      rw [mergeNoted_whole h4, mergeNoted_whole h4]
  let v := storeValue e w (decide (a = 3))
  refine effect_of_done (he n w ecc fetch s) rfl hwf h hres (.inl rfl) (e := baseUpdate e.issued w (memForm e w a).2)
    (f := fun t => mergeNoted n addr.toNat (2 ^ a) (pick ecc) (localStore n addr.toNat (2 ^ a) v t)) ?_ (baseUpdate_pc _ _ _)
    (baseUpdate_rs _ _ _) fun t ht hc ho => ?_
  · dsimp only
    rw [memForm_issued, hfault, if_neg (by decide)]
    rfl
  · have hmem : t.mem = s.mem := (onlyEngine_mem ho).trans hat.mem
    rw [hmerge, inOrder_same ((mergeNoted_evt _ _ _ _ _).trans ((localStore_evt n _ _ _ t).trans ((onlyEngine_evt ho).trans hat.evt)))]
    dsimp only
    rw [eng_congr (mergeNoted_eng _ _ _ _ _), eng_congr (localStore_eng _ _ _ _ t), ht]
    refine ⟨memForm_addressForm _ _ _, ?_, fun x => ?_, fun x hx => ?_, ?_,
      completes_mergeNoted (completes_congr hc (localStore_csr _ _ _ _ _) (localStore_eng _ _ _ _ _)) _ _ _, fun hcl => ?_, fun hun h2 => ?_⟩
    · exact baseMoved_congr (baseUpdate_moved e.issued w a) (done_g _ _) (done_bank _ _)
    · rw [memByte_mergeNoted, localStore, memByte_memStore, leBytes_length, memByte_congr hmem]
    · rw [done_land] at hx
      exact baseUpdate_land (e := e.issued) hx
    · exact regsOnly_done (regsOnly_trans (regsOnly_issued e) (regsOnly_baseUpdate _ _ _)) _
    · have hplain : mergeNoted n addr.toNat (2 ^ a) ecc (localStore n addr.toNat (2 ^ a) v t) = localStore n addr.toNat (2 ^ a) v t := by
        rcases hcl with rfl | h2
        · exact mergeNoted_clean _ _ _ _
        · exact mergeNoted_whole (Nat.pow_le_pow_right (n := 2) (i := 2) (by decide) h2) _ _ _ _
      rw [hplain, localStore_undone hmem]
      exact ho
    · subst hun
      exact poisoned_mergeNoted hn hlt (Nat.two_pow_pos a) (Nat.pow_lt_pow_right (a := 2) (n := 2) (by decide) h2) _

end Sys2Proof.Machine
end

section
/-! Entry to a handler (R90 to R93): what of the engine an entry reads, and what it leaves. -/
namespace Sys2Proof.Machine
open Sys2Proof.Safety

/-! ### What lands does not depend on what an instruction's issue leaves elsewhere -/

/-- What an entry reads of the engine: the g registers, ST of bank 0, VBASE, and the results on their way to them. -/
def Engine.entryView (e : Engine) : List (Nat × Word) × Word × Word × List Landing := (e.g, e.st0, e.vbase, e.land)

theorem entryView_eq {e e' : Engine} :
    e'.entryView = e.entryView ↔ e'.g = e.g ∧ e'.st0 = e.st0 ∧ e'.vbase = e.vbase ∧ e'.land = e.land := by
  simp only [Engine.entryView, Prod.mk.injEq]

theorem entryView_specialWrite {e e' : Engine} (h : e'.entryView = e.entryView) (b x : Nat) (v : Word) :
    (specialWrite b x v e').entryView = (specialWrite b x v e).entryView := by
  obtain ⟨hg, hs, hv, hl⟩ := entryView_eq.1 h
  unfold specialWrite
  split
  · split
    · exact entryView_eq.2 ⟨hg, by rw [hs], hv, hl⟩
    · exact entryView_eq.2 ⟨hg, hs, hv, hl⟩
  · split
    · exact entryView_eq.2 ⟨hg, hs, hv, hl⟩
    · exact entryView_eq.2 ⟨hg, hs, hv, hl⟩
  · exact entryView_eq.2 ⟨hg, hs, rfl, hl⟩
  all_goals exact entryView_eq.2 ⟨hg, hs, hv, hl⟩

theorem entryView_vctlWrite (c : Nat) (v : Word) (e : Engine) : (vctlWrite c v e).entryView = e.entryView := by
  unfold vctlWrite
  split <;> rfl

theorem entryView_landIn {e e' : Engine} (h : e'.entryView = e.entryView) (x : Landed) : (e'.landIn x).entryView = (e.landIn x).entryView := by
  cases x with
  | special b x v => exact entryView_specialWrite h b x v
  | g k v =>
    obtain ⟨hg, hs, hv, hl⟩ := entryView_eq.1 h
    exact entryView_eq.2 ⟨congrArg (tabSet (fun _ => 0) · k v) hg, hs, hv, hl⟩
  | vctl c v => exact (entryView_vctlWrite c v e').trans (h.trans (entryView_vctlWrite c v e).symm)
  | _ => exact h

theorem latePrune_entryView (n : Nat) (s : State) : (eng n (latePrune n s)).entryView = (eng n s).entryView := by
  unfold latePrune
  split
  · rfl
  · rw [eng_modEng_same]
    rfl

theorem entryView_landOne {n : Nat} {s t : State} (h : (eng n t).entryView = (eng n s).entryView) (x : Landed) :
    (eng n (landOne n x t)).entryView = (eng n (landOne n x s)).entryView := by
  unfold landOne
  split
  · rw [latePrune_entryView, latePrune_entryView]
    exact h
  · rw [latePrune_entryView, latePrune_entryView]
    exact h
  · rw [eng_modEng_same, eng_modEng_same]
    exact entryView_landIn h _

theorem entryView_forEach {α : Type} {n : Nat} {f : α → State → State}
    (hf : ∀ x s t, (eng n t).entryView = (eng n s).entryView → (eng n (f x t)).entryView = (eng n (f x s)).entryView) (l : List α) {s t : State}
    (h : (eng n t).entryView = (eng n s).entryView) : (eng n (forEach l f t)).entryView = (eng n (forEach l f s)).entryView := by
  unfold forEach
  induction l generalizing s t with
  | nil => exact h
  | cons x l ih => exact ih (hf x s t h)

theorem entryView_cycleEnds {n : Nat} {s t : State} (h : (eng n t).entryView = (eng n s).entryView) :
    (eng n (cycleEnds n t)).entryView = (eng n (cycleEnds n s)).entryView := by
  obtain ⟨hg, hs, hv, hl⟩ := entryView_eq.1 h
  unfold cycleEnds
  dsimp only
  rw [hl]
  split
  · exact h
  · refine entryView_forEach (fun x _ _ h => entryView_landOne h x) _ ?_
    rw [eng_modEng_same, eng_modEng_same]
    exact entryView_eq.2 ⟨hg, hs, hv, rfl⟩

/-- Engines alike in what an entry reads are alike in it some cycles later. -/
theorem entryView_cyclesPass {n : Nat} {s t : State} (h : (eng n t).entryView = (eng n s).entryView) (k : Nat) :
    (eng n (cyclesPass n k t)).entryView = (eng n (cyclesPass n k s)).entryView :=
  entryView_forEach (fun _ _ _ => entryView_cycleEnds) _ h

/-! ### Entry -/

theorem setRs_eq (e : Engine) (v : Word) : e.setRs v = { e with rs0 := (e.setRs v).rs0, rs1 := (e.setRs v).rs1 } := by
  unfold Engine.setRs
  split <;> rfl

theorem setRs_g (e : Engine) (v : Word) : (e.setRs v).g = e.g := by rw [setRs_eq]

/-- An entry ends a repeat whose last body instruction has issued: RS alone is changed. -/
theorem repeatOver_keeps {α : Type} {f : Engine → α} (hf : ∀ e r0 r1 p, f { e with rs0 := r0, rs1 := r1, rptEnd := p } = f e) (e : Engine) :
    f (if e.rptEnd then { e.setRs 0 with rptEnd := false } else e) = f e := by
  split
  · rw [setRs_eq]
    exact hf e _ _ _
  · rfl

/-- The g registers at an entry: g28 to g31 of bank 1 are written. -/
theorem entryRegs_g (e : Engine) (code cause ret g29 g28 : Nat) : (entryRegs e code cause ret g29 g28).g =
    tabSet (fun _ => 0) (tabSet (fun _ => 0) (tabSet (fun _ => 0) (tabSet (fun _ => 0) e.g (gKey 1 31) (BitVec.ofNat 32 ret))
      (gKey 1 30) (BitVec.ofNat 32 cause)) (gKey 1 29) (BitVec.ofNat 32 g29)) (gKey 1 28) (BitVec.ofNat 32 g28) := by
  rw [← repeatOver_keeps (f := Engine.g) (fun _ _ _ _ => rfl) e]
  rfl

theorem entryRegs_bank (e : Engine) (code cause ret g29 g28 : Nat) : (entryRegs e code cause ret g29 g28).bank = 1 := rfl
theorem entryRegs_pc (e : Engine) (code cause ret g29 g28 : Nat) :
    (entryRegs e code cause ret g29 g28).pc = (e.vbase.toNat + code * 0x40) % 2 ^ 32 := rfl

theorem entryRegs_st0 (e : Engine) (code cause ret g29 g28 : Nat) : (entryRegs e code cause ret g29 g28).st0 = e.st0 :=
  repeatOver_keeps (f := Engine.st0) (fun _ _ _ _ => rfl) e

/-- A g register at an entry, by its key. -/
theorem entryRegs_gr (e : Engine) (code cause ret g29 g28 q : Nat) : (entryRegs e code cause ret g29 g28).gr q =
    if gKey 1 q = 60 then BitVec.ofNat 32 g28 else if gKey 1 q = 61 then BitVec.ofNat 32 g29 else if gKey 1 q = 62 then BitVec.ofNat 32 cause
    else if gKey 1 q = 63 then BitVec.ofNat 32 ret else tabGet (fun _ => 0) e.g (gKey 1 q) := by
  rw [Engine.gr, entryRegs_g, entryRegs_bank, tabGet_tabSet, tabGet_tabSet, tabGet_tabSet, tabGet_tabSet]
  rfl

/-- g0 to g15 are common to the banks. -/
theorem gKey_common {b q : Nat} (h : q < 16) : gKey b q = q := if_pos h

/-- The state after an entry: the engine alone is changed, and the cause recorded. -/
theorem eng_recordTrap (m n cause pc : Nat) (s : State) : eng m (recordTrap n cause pc s) = eng m s := rfl

/-- The cause last recorded. -/
theorem rd_recordTrap (n cause pc : Nat) (s : State) : rd (Reg.ENG_LAST_TRAP n) (recordTrap n cause pc s) = dw cause := by
  have h : Reg.ENG_LAST_TRAP n ≠ Reg.ENG_LAST_TRAP_PC n := by simp only [Reg.ENG_LAST_TRAP, Reg.ENG_LAST_TRAP_PC]; omega
  rw [recordTrap, rd_wr_other h, rd_wr_same]

/-- A trap or interrupt of bank 0 is an entry, from the view of any state that agrees with its own in what an entry reads. -/
theorem entered_takeTrap {n k code cause pc ret g29 g28 : Nat} {s t : State} (hb : (eng n t).bank = 0)
    (hview : (eng n t).entryView = (eng n s).entryView) (hcause : cause < 2 ^ 64) (hmem : t.mem = s.mem)
    (hothers : ∀ m, m ≠ n → eng m t = eng m s) : Entered n k code cause ret g29 g28 s (takeTrap n k code cause pc ret g29 g28 t) := by
  obtain ⟨hg, hst, hv, -⟩ := entryView_eq.1 (entryView_cyclesPass hview k)
  unfold takeTrap
  rw [if_pos hb]
  dsimp only [Entered]
  rw [eng_recordTrap, eng_bump, eng_setEng_same]
  refine ⟨rfl, ?_, rfl, rfl, (entryRegs_st0 _ _ _ _ _ _).trans hst, ?_, ?_, ?_, ?_, fun q hq => ?_, rfl, ?_, ?_, fun m hm => ?_⟩
  · rw [entryRegs_pc, hv]
  · exact entryRegs_gr _ _ _ _ _ _ 31
  · exact entryRegs_gr _ _ _ _ _ _ 30
  · exact entryRegs_gr _ _ _ _ _ _ 29
  · exact entryRegs_gr _ _ _ _ _ _ 28
  · rw [entryRegs_gr, gKey_common hq, if_neg (by omega), if_neg (by omega), if_neg (by omega), if_neg (by omega), hg, Engine.gr, gKey_common hq]
  · rw [rd_recordTrap]
    simp only [dw, BitVec.toNat_ofNat]
    omega
  · rw [recordTrap_mem, bump_mem, setEng_mem, cyclesPass_mem, hmem]
  · rw [eng_recordTrap, eng_bump, eng_setEng_other hm]
    exact ((atEngine_cyclesPass n k t).others m hm).trans (hothers m hm)

/-- Putting events in order changes nothing an entry speaks of. -/
theorem entered_inOrder {n k code cause ret g29 g28 : Nat} {r s t : State} (h : Entered n k code cause ret g29 g28 s t) :
    Entered n k code cause ret g29 g28 s (inOrder r t) := h

/-! ### Faults of an instruction -/

/-- What an instruction that faults leaves before the entry: it is the last issued. -/
theorem eng_discarded (m n k : Nat) (s : State) :
    eng m (discards n k (countIssue n s)) = eng m s := by
  unfold discards
  split <;> rfl

theorem mem_discarded (n k : Nat) (f : Engine → Engine) (s : State) : (discards n k (countIssue n (modEng n f s))).mem = s.mem := by
  unfold discards
  split <;> rfl

theorem entered_fault {n k code sub g29 g28 : Nat} {ws : Option (List Nat)} {s : State} (hb : (eng n s).bank = 0) (hcode : code < 0x10000) :
    Entered n 2 code (causeWord false 0 sub code) (eng n s).pc g29 g28 s (finish n ws k (.fault code sub g29 g28) s) := by
  let t := discards n k (countIssue n (modEng n Engine.issued s))
  have he : eng n t = (eng n s).issued := (eng_discarded n n k _).trans (eng_modEng_same _ _ _)
  have hpc : (eng n t).pc = (eng n s).pc := by
    rw [he]
    rfl
  show Entered n 2 code _ _ g29 g28 s (takeTrap n 2 code (causeWord false 0 sub code) (eng n t).pc (eng n t).pc g29 g28 t)
  rw [hpc]
  refine entered_takeTrap ?_ ?_ ?_ (mem_discarded _ _ _ _) fun m hm => ?_
  · rw [he]
    exact hb
  · rw [he]
    rfl
  · simp only [causeWord, Bool.false_eq_true, if_false]
    omega
  · exact (eng_discarded m n k _).trans (eng_setEng_other hm _ _)

/-- An instruction of bank 0 whose body faults enters its handler. -/
theorem effect_of_fault {c : Instr} {n : Nat} {w : Word} {fetch : Ecc} {wf bad forb : Bool} {regs writes : List Nat} {body : Engine → Issue}
    {op : State → State} {s : State} {code sub g29 g28 : Nat}
    (he : exec c s = .next (gated false wf op s)) (hop : op s = issue n w fetch bad forb regs writes body s) (hwf : wf = true)
    (h : Free n w fetch regs s) (hb : bad = false) (hf : forb = false ∨ (eng n (issuing n fetch s)).rem = 0)
    (hbody : body (eng n (issuing n fetch s)).issued = .fault code sub g29 g28) (hbank : (eng n (issuing n fetch s)).bank = 0)
    (hcode : code < 0x10000) :
    Effect c s (Entered n 2 code (causeWord false 0 sub code) (eng n (issuing n fetch s)).pc g29 g28 (issuing n fetch s)) := by
  refine ⟨_, exec_of_issue he hop hwf h hb hf, ?_⟩
  rw [hbody]
  exact entered_inOrder (entered_fault hbank hcode)

end Sys2Proof.Machine
end

section
/-! Local accesses that raise ADDR (R85, R90): the rest of O5. -/
namespace Sys2Proof.Machine
open Sys2Proof.Safety

/-- The SUB of ADDR: the first bound that is broken. -/
theorem localFault_sub {x size : Nat} {store : Bool} (h : 0x40000 ≤ x ∨ x % size ≠ 0 ∨ store = true ∧ x < 0x10000) :
    localFault x size store = if 0x40000 ≤ x then 1 else if x % size ≠ 0 then 2 else 3 := by
  unfold localFault
  by_cases h1 : 0x40000 ≤ x
  · rw [if_pos h1, if_pos h1]
  · rw [if_neg h1, if_neg h1]
    by_cases h2 : x % size ≠ 0
    · rw [if_pos h2, if_pos h2]
    · rw [if_neg h2, if_neg h2]
      have h3 : store = true ∧ x < 0x10000 := by tauto
      simp [h3.1, h3.2]

/-- The SUB of ADDR is a code from 1 to 3. -/
theorem addrSub_bounds (c d : Prop) [Decidable c] [Decidable d] :
    0 < (if c then 1 else if d then 2 else 3) ∧ (if c then 1 else if d then 2 else 3) < 4 := by
  split
  · decide
  · split <;> decide

/-- A local access whose body faults with ADDR where its address is out of bounds. -/
theorem addrTraps_issue {mk : Nat → Word → Ecc → Instr} {a : Nat} {store : Bool} {op : Nat → Word → Ecc → State → State}
    {body : Nat → Word → State → Engine → Issue} {writes : Word → List Nat}
    (he : ∀ n w fetch s, exec (mk n w fetch) s = .next (gated false (mk n w fetch).wf (op n w fetch) s))
    (hop : ∀ n w fetch s, op n w fetch s =
      issue n w fetch (memReserved w (decide (a = 3))) false (memRegs w (decide (a = 3))) (writes w) (body n w s) s)
    (hbody : ∀ n w s e, localFault (memForm e w a).1.toNat (2 ^ a) store ≠ 0 →
      body n w s e = .fault 3 (localFault (memForm e w a).1.toNat (2 ^ a) store) (memForm e w a).1.toNat 0) : AddrTraps mk a store := by
  intro n w fetch s hwf h hres u x hbank hout
  obtain ⟨hpos, hlt⟩ := addrSub_bounds (0x40000 ≤ x) (x % 2 ^ a ≠ 0)
  have hsub : localFault x (2 ^ a) store = _ := localFault_sub hout
  have hcause : causeWord false 0 (localFault x (2 ^ a) store) 3 = (if 0x40000 ≤ x then 1 else if x % 2 ^ a ≠ 0 then 2 else 3) * 0x10000 + 3 := by
    rw [hsub]
    simp only [causeWord, Bool.false_eq_true, if_false]
    omega
  rw [← hcause]
  refine effect_of_fault (he n w fetch s) (hop n w fetch s) hwf h hres (.inl rfl) (hbody n w s (eng n u).issued ?_) hbank (by decide)
  rw [memForm_issued, hsub]
  omega

theorem addrTraps_loadOp {mk : Nat → Word → Ecc → Instr} {a : Nat} {put : Word → Engine → Nat → Engine} {ecc : Ecc}
    (he : ∀ n w fetch s, exec (mk n w fetch) s = .next (gated false (mk n w fetch).wf (loadOp n w fetch a ecc (put w)) s)) :
    AddrTraps mk a false :=
  addrTraps_issue he (fun _ _ _ _ => rfl) fun _ _ _ _ h => if_pos h

theorem addrTraps_storeOp {mk : Nat → Word → Ecc → Instr} {a : Nat} {ecc : Ecc}
    (he : ∀ n w fetch s, exec (mk n w fetch) s = .next (gated false (mk n w fetch).wf (storeOp n w fetch a ecc) s)) : AddrTraps mk a true :=
  addrTraps_issue he (fun _ _ _ _ => rfl) fun _ _ _ _ h => if_pos h

/-- Settles O5: in bounds a store completes, out of bounds a load or store enters ADDR. -/
theorem localStoreResults : Obligations.LocalStoreResults := by
  unfold Obligations.LocalStoreResults
  refine ⟨⟨stores_storeOp id (fun _ _ => rfl) exec_stB, stores_storeOp id (fun _ _ => rfl) exec_stH,
    stores_storeOp (fun _ => .clean) (fun h => absurd h (by decide)) fun n w _ fetch s => exec_stW n w fetch s,
    stores_storeOp (fun _ => .clean) (fun h => absurd h (by decide)) fun n w _ fetch s => exec_stD n w fetch s⟩, fun ecc => ?_⟩
  exact ⟨addrTraps_loadOp (put := fun w => putSigned w 8) (fun n w fetch s => exec_ldB n w ecc fetch s),
    addrTraps_loadOp (put := putPlain) (fun n w fetch s => exec_ldBu n w ecc fetch s),
    addrTraps_loadOp (put := fun w => putSigned w 16) (fun n w fetch s => exec_ldH n w ecc fetch s),
    addrTraps_loadOp (put := putPlain) (fun n w fetch s => exec_ldHu n w ecc fetch s),
    addrTraps_loadOp (put := putPlain) (fun n w fetch s => exec_ldW n w ecc fetch s),
    addrTraps_loadOp (put := putPair) (fun n w fetch s => exec_ldD n w ecc fetch s),
    addrTraps_storeOp (fun n w fetch s => exec_stB n w ecc fetch s), addrTraps_storeOp (fun n w fetch s => exec_stH n w ecc fetch s),
    addrTraps_storeOp exec_stW, addrTraps_storeOp exec_stD⟩

end Sys2Proof.Machine
end

section
/-! Control transfers (R70, R91): O8. -/
namespace Sys2Proof.Machine
open Sys2Proof.Safety

/-- An instruction with no early cause, with no reserved field set and where it is not forbidden, is answered with its issue finished. -/
theorem exec_of_issueWith {c : Instr} {n : Nat} {w : Word} {fetch : Ecc} {wf bad forb : Bool} {regs writes : List Nat} {body : Engine → Issue}
    {early : Engine → Option Issue} {op : State → State} {s : State} (he : exec c s = .next (gated false wf op s))
    (hop : op s = issueWith n w fetch early bad forb regs writes body s) (hwf : wf = true)
    (h : Free n w fetch regs s) (hearly : early (eng n (issuing n fetch s)) = none) (hb : bad = false)
    (hf : forb = false ∨ (eng n (issuing n fetch s)).rem = 0) :
    exec c s = .next (inOrder s (finish n (some writes) 3 (body (eng n (issuing n fetch s)).issued) (issuing n fetch s))) := by
  have hsame : issueWith n w fetch early bad forb regs writes body s = issue n w fetch bad forb regs writes body s := by
    rw [eng_issuing] at hearly
    unfold issue issueWith
    dsimp only
    rw [hearly]
  exact exec_of_issue he (hop.trans hsame) hwf h hb hf

/-- An instruction with an early cause is answered with that. -/
theorem exec_of_early {c : Instr} {n : Nat} {w : Word} {fetch : Ecc} {wf bad forb : Bool} {regs writes : List Nat} {body : Engine → Issue}
    {early : Engine → Option Issue} {op : State → State} {s : State} {r : Issue} (he : exec c s = .next (gated false wf op s))
    (hop : op s = issueWith n w fetch early bad forb regs writes body s) (hwf : wf = true)
    (h : Free n w fetch regs s) (hearly : early (eng n (issuing n fetch s)) = some r) :
    exec c s = .next (inOrder s (finish n (some writes) 3 r (issuing n fetch s))) := by
  obtain ⟨hrun, -, hissue, hword, hsub, hlock⟩ := h
  have hplace : (canIssue n (atIssue n false [] s) && fetches n (· == w) fetch (atIssue n false [] s)) = true := by rw [hissue, hword]; rfl
  rw [eng_issuing] at hearly
  rw [he, gated_acts hrun.1 (.inr hrun.2) hwf, hop, issueWith, if_pos hplace, if_neg (by simp [hsub]), if_neg (by simp [hlock]), hearly]
  rfl

/-- What a jump leaves: the engine at its target, three cycles before its next instruction issues, and the instruction counted. -/
theorem finish_jump (n k : Nat) (ws : Option (List Nat)) (e : Engine) (pc : Nat) (s : State) :
    eng n (finish n ws k (.jump e pc) s) = { e with pc := pc / 4 * 4 % 2 ^ 32, step := false, gap := 3 } ∧
    (rd (Reg.ENG_ISSUE_CNT n) (finish n ws k (.jump e pc) s)).toNat = min ((rd (Reg.ENG_ISSUE_CNT n) s).toNat + 1) (2 ^ 64 - 1) ∧
    OnlyEngine n s (finish n ws k (.jump e pc) s) := by
  have hfinish : finish n ws k (.jump e pc) s =
      bump64 (Reg.ENG_ISSUE_CNT n) 1 (setEng n { e with pc := pc / 4 * 4 % 2 ^ 32, step := false, gap := 3 } s) := rfl
  rw [hfinish]
  refine ⟨?_, ?_, onlyEngine_trans (onlyEngine_setEng n _ s) (onlyEngine_bump64 n 1 _)⟩
  · rw [eng_bump64, eng_setEng_same]
  · rw [rd_bump64_same, rd_setEng (issueCnt_free n)]
    simp only [dw, BitVec.toNat_ofNat]
    omega

/-- Engine `n` has gone on at `pc` from `u`: the instruction is counted, and of the engine only registers changed. -/
def GoesTo (n : Nat) (u t : State) (pc : Nat) : Prop :=
  (eng n t).pc = pc ∧ (rd (Reg.ENG_ISSUE_CNT n) t).toNat = min ((rd (Reg.ENG_ISSUE_CNT n) u).toNat + 1) (2 ^ 64 - 1) ∧
  RegsOnly (eng n u) (eng n t) ∧ OnlyEngine n u t

theorem regsOnly_jumped (e : Engine) (pc : Nat) : RegsOnly e { e with pc := pc, step := false, gap := 3 } := rfl

/-- An instruction whose body jumps. -/
theorem effect_of_jumping {c : Instr} {n : Nat} {w : Word} {fetch : Ecc} {wf bad forb : Bool} {regs writes : List Nat} {body : Engine → Issue}
    {early : Engine → Option Issue} {op : State → State} {s : State} {e : Engine} {pc : Nat} {post : State → Prop}
    (he : exec c s = .next (gated false wf op s))
    (hop : op s = issueWith n w fetch early bad forb regs writes body s) (hwf : wf = true)
    (h : Free n w fetch regs s) (hearly : early (eng n (issuing n fetch s)) = none) (hb : bad = false) (hrem : (eng n (issuing n fetch s)).rem = 0)
    (hbody : body (eng n (issuing n fetch s)).issued = .jump e pc)
    (hpost : ∀ t, eng n t = { e with pc := pc / 4 * 4 % 2 ^ 32, step := false, gap := 3 } →
      (rd (Reg.ENG_ISSUE_CNT n) t).toNat = min ((rd (Reg.ENG_ISSUE_CNT n) (issuing n fetch s)).toNat + 1) (2 ^ 64 - 1) →
      OnlyEngine n (issuing n fetch s) t → post t) : Effect c s post := by
  refine ⟨_, exec_of_issueWith he hop hwf h hearly hb (.inr hrem), ?_⟩
  obtain ⟨heng, hcnt, honly⟩ := finish_jump n 3 (some writes) e pc (issuing n fetch s)
  rw [hbody, inOrder_same ((onlyEngine_evt honly).trans (atEngine_issuing n fetch s).evt)]
  exact hpost _ heng hcnt honly

/-- The same for an instruction with no early cause. -/
theorem effect_of_plainJump {c : Instr} {n : Nat} {w : Word} {fetch : Ecc} {wf bad forb : Bool} {regs writes : List Nat} {body : Engine → Issue}
    {op : State → State} {s : State} {e : Engine} {pc : Nat} {post : State → Prop} (he : exec c s = .next (gated false wf op s))
    (hop : op s = issue n w fetch bad forb regs writes body s) (hwf : wf = true) (h : Free n w fetch regs s) (hb : bad = false)
    (hrem : (eng n (issuing n fetch s)).rem = 0) (hbody : body (eng n (issuing n fetch s)).issued = .jump e pc)
    (hpost : ∀ t, eng n t = { e with pc := pc / 4 * 4 % 2 ^ 32, step := false, gap := 3 } →
      (rd (Reg.ENG_ISSUE_CNT n) t).toNat = min ((rd (Reg.ENG_ISSUE_CNT n) (issuing n fetch s)).toNat + 1) (2 ^ 64 - 1) →
      OnlyEngine n (issuing n fetch s) t → post t) : Effect c s post :=
  effect_of_jumping he (hop.trans rfl) hwf h rfl hb hrem hbody hpost

/-- A jump goes on at the target, word-aligned. -/
theorem effect_of_jump {c : Instr} {n : Nat} {w : Word} {fetch : Ecc} {wf bad forb : Bool} {regs writes : List Nat} {body : Engine → Issue}
    {early : Engine → Option Issue} {op : State → State} {s : State} {e : Engine} {pc : Nat} {post : State → Prop}
    (he : exec c s = .next (gated false wf op s))
    (hop : op s = issueWith n w fetch early bad forb regs writes body s) (hwf : wf = true)
    (h : Free n w fetch regs s) (hearly : early (eng n (issuing n fetch s)) = none) (hb : bad = false) (hrem : (eng n (issuing n fetch s)).rem = 0)
    (hbody : body (eng n (issuing n fetch s)).issued = .jump e pc) (hpc : pc < 2 ^ 32) (hregs : RegsOnly (eng n (issuing n fetch s)) e)
    (hpost : ∀ t, (eng n t).g = e.g → (eng n t).bank = e.bank → (eng n t).land = e.land → post t) :
    Effect c s fun t => GoesTo n (issuing n fetch s) t (pc / 4 * 4) ∧ post t := by
  refine effect_of_jumping he hop hwf h hearly hb hrem hbody fun t ht hcnt ho => ⟨⟨?_, hcnt, ?_, ho⟩, hpost t ?_ ?_ ?_⟩
  · rw [ht]
    exact Nat.mod_eq_of_lt (by omega)
  · rw [ht]
    exact regsOnly_trans hregs (regsOnly_jumped _ _)
  all_goals rw [ht]

/-- The target of a branch. -/
theorem branchTarget_eq (e : Engine) (w : Word) :
    branchTarget e w = ((BitVec.ofNat 32 e.pc : Word) + 4 * BitVec.signExtend 32 (w.truncate 16)).toNat := by
  have himm : simm w 15 0 = BitVec.signExtend 32 (w.truncate 16) := simm_eq_signExtend w 15
  rw [branchTarget, himm, BitVec.mul_comm]

/-- A jump to a word-aligned address meets no early cause; to another it is FETCH with SUB 3. -/
theorem jumpFault_none {w : Word} {e : Engine} (h : (e.gr (fieldOf w 25 21)).toNat % 4 = 0) : jumpFault w e = none := if_neg (by omega)
theorem jumpFault_some {w : Word} {e : Engine} (h : (e.gr (fieldOf w 25 21)).toNat % 4 ≠ 0) :
    jumpFault w e = some (.fault 4 3 (e.gr (fieldOf w 25 21)).toNat 0) := if_pos h

/-- The link register after an instruction that puts the next address there. -/
theorem link_of {e e' : Engine} (hg : e'.g = (e.issued.setG 15 (BitVec.ofNat 32 (e.pc + 4))).g)
    (hb : e'.bank = (e.issued.setG 15 (BitVec.ofNat 32 (e.pc + 4))).bank) (hl : e'.land = (e.issued.setG 15 (BitVec.ofNat 32 (e.pc + 4))).land) :
    NextCycle 15 (BitVec.ofNat 32 (e.pc + 4)) e e' :=
  nextCycle_congr (e := e) (nextCycle_setG e.issued _ (by decide)) hg hb hl

/-- A branch taken. -/
theorem effect_of_branch {c : Instr} {n : Nat} {w : Word} {fetch : Ecc} {wf bad : Bool} {regs writes : List Nat} {body : Engine → Issue}
    {op : State → State} {s : State} {e : Engine} {post : State → Prop} (he : exec c s = .next (gated false wf op s))
    (hop : op s = issue n w fetch bad true regs writes body s) (hwf : wf = true) (h : Free n w fetch regs s) (hb : bad = false)
    (hrem : (eng n (issuing n fetch s)).rem = 0)
    (hbody : body (eng n (issuing n fetch s)).issued = .jump e (branchTarget (eng n (issuing n fetch s)) w))
    (hregs : RegsOnly (eng n (issuing n fetch s)) e)
    (hpost : ∀ t, (eng n t).g = e.g → (eng n t).bank = e.bank → (eng n t).land = e.land → post t) :
    Effect c s fun t => GoesTo n (issuing n fetch s) t
      (((BitVec.ofNat 32 (eng n (issuing n fetch s)).pc : Word) + 4 * BitVec.signExtend 32 (w.truncate 16)).toNat / 4 * 4) ∧ post t := by
  rw [← branchTarget_eq]
  exact effect_of_jump he (hop.trans rfl) hwf h rfl hb hrem hbody (BitVec.isLt _) hregs hpost

/-- A branch not taken goes on at the next instruction. -/
theorem effect_of_fallthrough {c : Instr} {n : Nat} {w : Word} {fetch : Ecc} {wf bad : Bool} {regs writes : List Nat} {body : Engine → Issue}
    {op : State → State} {s : State} (he : exec c s = .next (gated false wf op s))
    (hop : op s = issue n w fetch bad true regs writes body s) (hwf : wf = true) (h : Free n w fetch regs s) (hb : bad = false)
    (hrem : (eng n (issuing n fetch s)).rem = 0)
    (hbody : body (eng n (issuing n fetch s)).issued = .regs (eng n (issuing n fetch s)).issued) :
    Effect c s fun t => GoesTo n (issuing n fetch s) t (((eng n (issuing n fetch s)).pc + 4) % 2 ^ 32) ∧
      GKept (eng n (issuing n fetch s)) (eng n t) := by
  refine effect_of_regs he hop hwf h hb (.inr hrem) hbody rfl rfl fun t ht hc ho => ?_
  obtain ⟨hcnt, hnext⟩ := hc
  refine ⟨⟨(hnext hrem).1, hcnt, ?_, ho⟩, ?_⟩
  · rw [ht]
    exact regsOnly_done (regsOnly_issued _) _
  · rw [ht]
    exact gKept_of (done_g _ _) (done_bank _ _)

/-- A jump to a word-aligned address. -/
theorem effect_of_aligned {c : Instr} {n : Nat} {w : Word} {fetch : Ecc} {wf bad : Bool} {regs writes : List Nat} {body : Engine → Issue}
    {op : State → State} {s : State} {e : Engine} {post : State → Prop} (he : exec c s = .next (gated false wf op s))
    (hop : op s = issueWith n w fetch (jumpFault w) bad true regs writes body s) (hwf : wf = true) (h : Free n w fetch regs s) (hb : bad = false)
    (hrem : (eng n (issuing n fetch s)).rem = 0) (hal : ((eng n (issuing n fetch s)).gr (fieldOf w 25 21)).toNat % 4 = 0)
    (hbody : body (eng n (issuing n fetch s)).issued = .jump e ((eng n (issuing n fetch s)).gr (fieldOf w 25 21)).toNat)
    (hregs : RegsOnly (eng n (issuing n fetch s)) e)
    (hpost : ∀ t, (eng n t).g = e.g → (eng n t).bank = e.bank → (eng n t).land = e.land → post t) :
    Effect c s fun t => GoesTo n (issuing n fetch s) t ((eng n (issuing n fetch s)).gr (fieldOf w 25 21)).toNat ∧ post t := by
  have hword : ((eng n (issuing n fetch s)).gr (fieldOf w 25 21)).toNat / 4 * 4 = ((eng n (issuing n fetch s)).gr (fieldOf w 25 21)).toNat := by
    omega
  rw [← hword]
  exact effect_of_jump he hop hwf h (jumpFault_none hal) hb hrem hbody (BitVec.isLt _) hregs hpost

/-- A jump to a misaligned address enters FETCH. -/
theorem effect_of_misaligned {c : Instr} {n : Nat} {w : Word} {fetch : Ecc} {wf bad forb : Bool} {regs writes : List Nat} {body : Engine → Issue}
    {op : State → State} {s : State} (he : exec c s = .next (gated false wf op s))
    (hop : op s = issueWith n w fetch (jumpFault w) bad forb regs writes body s) (hwf : wf = true) (h : Free n w fetch regs s)
    (hmis : ((eng n (issuing n fetch s)).gr (fieldOf w 25 21)).toNat % 4 ≠ 0) (hbank : (eng n (issuing n fetch s)).bank = 0) :
    Effect c s (Entered n 2 4 0x30004 (eng n (issuing n fetch s)).pc ((eng n (issuing n fetch s)).gr (fieldOf w 25 21)).toNat 0
      (issuing n fetch s)) :=
  ⟨_, exec_of_early he hop hwf h (jumpFault_some hmis), entered_inOrder (entered_fault hbank (by decide))⟩

/-- Settles O8: a transfer is a jump to its target, a fall to the next instruction, or an early FETCH. -/
theorem controlTransfers : Obligations.ControlTransfers := by
  unfold Obligations.ControlTransfers
  intro n w fetch s _ u e target next ga at' link hrem
  have hkept : ∀ t : State, (eng n t).g = e.issued.g → (eng n t).bank = e.issued.bank → (eng n t).land = e.issued.land → GKept e (eng n t) :=
    fun t hg hb _ => gKept_of hg hb
  have hlink : ∀ t : State, (eng n t).g = _ → (eng n t).bank = _ → (eng n t).land = _ → link t := fun t hg hb hl => link_of hg hb hl
  refine ⟨fun hwf h hz => ?_, fun hwf h hz => ?_, fun hwf h hz => ?_, fun hwf h hz => ?_, fun hwf h hz ha => ?_, fun hwf h hz ha => ?_,
    fun hwf h ha hb => ?_, fun hwf h ha hb => ?_⟩
  · exact effect_of_branch (exec_b n w fetch s) rfl hwf h (by simp [hz]) hrem rfl (regsOnly_issued e) hkept
  · by_cases ht : ga = 0
    · rw [if_pos ht]
      exact effect_of_branch (exec_bz n w fetch s) rfl hwf h (by simp [hz]) hrem (if_pos ht) (regsOnly_issued e) hkept
    · rw [if_neg ht]
      exact effect_of_fallthrough (exec_bz n w fetch s) rfl hwf h (by simp [hz]) hrem (if_neg ht)
  · by_cases ht : ga = 0
    · rw [if_pos ht]
      exact effect_of_fallthrough (exec_bnz n w fetch s) rfl hwf h (by simp [hz]) hrem (if_neg (not_not.2 ht))
    · rw [if_neg ht]
      exact effect_of_branch (exec_bnz n w fetch s) rfl hwf h (by simp [hz]) hrem (if_pos ht) (regsOnly_issued e) hkept
  · exact effect_of_branch (exec_bl n w fetch s) rfl hwf h (by simp [hz]) hrem rfl (regsOnly_trans (regsOnly_issued e) (regsOnly_setG _ _ _)) hlink
  · exact effect_of_aligned (exec_jr n w fetch s) rfl hwf h (by simp [hz]) hrem ha rfl (regsOnly_issued e) hkept
  · exact effect_of_aligned (exec_jal n w fetch s) rfl hwf h (by simp [hz]) hrem ha rfl
      (regsOnly_trans (regsOnly_issued e) (regsOnly_setG _ _ _)) hlink
  · exact effect_of_misaligned (exec_jr n w fetch s) rfl hwf h ha hb
  · exact effect_of_misaligned (exec_jal n w fetch s) rfl hwf h ha hb

end Sys2Proof.Machine
end

section
/-! Repeats (R64, R74, R75, R77) and the system group (R71, R95, R102): O9. -/
namespace Sys2Proof.Machine
open Sys2Proof.Safety

/-! ### Repeats -/

/-- The fields of an RS word. -/
theorem rsWord_fields {idx len rem : Nat} (hi : idx < 64) (hl : len < 64) (hr : rem < 2 ^ 17) :
    bitsOf (rsWord idx len rem).toNat 16 0 = rem ∧ bitsOf (rsWord idx len rem).toNat 22 17 = len ∧
    bitsOf (rsWord idx len rem).toNat 28 23 = idx := by
  have hv : (rsWord idx len rem).toNat = idx * 0x800000 + len * 0x20000 + rem := by
    rw [rsWord, BitVec.toNat_ofNat]
    omega
  simp only [hv, bitsOf, Nat.shiftRight_eq_div_pow]
  omega

theorem setRs_rs (e : Engine) (v : Word) : (e.setRs v).rs = v := by
  unfold Engine.setRs Engine.rs
  by_cases h : e.bank = 0 <;> simp [h]

theorem setRs_bank (e : Engine) (v : Word) : (e.setRs v).bank = e.bank := by rw [setRs_eq]
theorem setRs_pc (e : Engine) (v : Word) : (e.setRs v).pc = e.pc := by rw [setRs_eq]

/-- The engine where a repeat of `count` iterations of `len` + 1 instructions starts. -/
def startRepeat (len count : Nat) (step : Bool) (e : Engine) : Engine := { e.setRs (rsWord 0 len count) with step := step }

theorem startRepeat_g (len count : Nat) (step : Bool) (e : Engine) : (startRepeat len count step e).g = e.g := setRs_g _ _
theorem startRepeat_bank (len count : Nat) (step : Bool) (e : Engine) : (startRepeat len count step e).bank = e.bank := setRs_bank _ _
theorem startRepeat_pc (len count : Nat) (step : Bool) (e : Engine) : (startRepeat len count step e).pc = e.pc := setRs_pc _ _
theorem startRepeat_rs (len count : Nat) (step : Bool) (e : Engine) : (startRepeat len count step e).rs = rsWord 0 len count := setRs_rs _ _

/-- A repeat starts: RS tracks it from its first instruction on. -/
theorem rpt_effect {n : Nat} {w : Word} {fetch : Ecc} {s : State} (hwf : (Instr.rpt n w fetch).wf = true)
    (h : Free n w fetch (if fieldOf w 25 25 = 1 then [fieldOf w 4 0] else []) s) (hz : fieldOf w 18 16 = 0)
    (hz' : fieldOf w 25 25 = 1 → fieldOf w 15 5 = 0) :
    let u := issuing n fetch s
    let e := eng n u
    let count := if fieldOf w 25 25 = 0 then fieldOf w 15 0 + 1 else (e.gr (fieldOf w 4 0)).toNat
    e.rem = 0 → count ≤ 65536 →
    Effect (.rpt n w fetch) s fun t => GKept e (eng n t) ∧ (eng n t).bank = e.bank ∧
      (count = 0 → (eng n t).pc = (e.pc + 4 + 4 * (fieldOf w 24 19 + 1)) / 4 * 4 % 2 ^ 32 ∧ (eng n t).rem = 0) ∧
      (0 < count → (eng n t).pc = (e.pc + 4) % 2 ^ 32 ∧ (eng n t).rem = count ∧ (eng n t).rlen = fieldOf w 24 19 ∧
        (eng n t).ridx = 0) ∧ OnlyEngine n u t := by
  intro u e count hrem hcount
  have hres : (decide (fieldOf w 18 16 ≠ 0) || (decide (fieldOf w 25 25 = 1) && decide (fieldOf w 15 5 ≠ 0))) = false := by
    simp only [hz, Bool.or_eq_false_iff, Bool.and_eq_false_iff, decide_eq_false_iff_not]
    exact ⟨by simp, by tauto⟩
  by_cases h0 : count = 0
  · refine effect_of_plainJump (exec_rpt n w fetch s) rfl hwf h hres hrem (e := e.issued) (pc := e.pc + 4 + 4 * (fieldOf w 24 19 + 1)) ?_
      fun t ht _ ho => ?_
    · show (if 65536 < count then _ else if count = 0 then _ else _) = _
      rw [if_neg (by omega), if_pos h0]
      rfl
    · rw [ht]
      exact ⟨gKept_of rfl rfl, rfl, fun _ => ⟨rfl, hrem⟩, fun hpos => absurd h0 (by omega), ho⟩
  · refine effect_of_done (exec_rpt n w fetch s) rfl hwf h hres (.inr hrem) (e := e.issued)
      (f := modEng n (startRepeat (fieldOf w 24 19) count e.step)) ?_ rfl rfl fun t ht _ ho => ?_
    · show (if 65536 < count then _ else if count = 0 then _ else _) = _
      rw [if_neg (by omega), if_neg h0]
      rfl
    · obtain ⟨hr, hl, hi⟩ := rsWord_fields (idx := 0) (by decide) (fieldOf_lt w 24 19) (show count < 2 ^ 17 by omega)
      rw [inOrder_same (s := s) (t := modEng n _ t) ((onlyEngine_evt ho).trans (atEngine_issuing n fetch s).evt)]
      dsimp only [Engine.rem, Engine.rlen, Engine.ridx]
      rw [eng_modEng_same, startRepeat_bank, startRepeat_pc, startRepeat_rs, ht, done_bank, advance_plain (e := e.issued) hrem]
      exact ⟨gKept_of (startRepeat_g _ _ _ _) (startRepeat_bank _ _ _ _), rfl, fun h => absurd h h0, fun _ => ⟨rfl, hr, hl, hi⟩,
        onlyEngine_trans ho (onlyEngine_setEng n _ t)⟩

end Sys2Proof.Machine
end

section
/-! The system group (R71, R77, R95, R102): the rest of O9. -/
namespace Sys2Proof.Machine
open Sys2Proof.Safety

/-! ### What cycles keep of an engine -/

/-- What landing and the marks of late lines keep of an engine, the cycles between two instructions keep. -/
theorem cyclesPass_keeps {P : Engine → Prop} (hland : ∀ e x, P e → P (e.landIn x)) (hlate : ∀ e l, P e → P { e with late := l })
    (hway : ∀ e l, P e → P { e with land := l }) {n : Nat} (k : Nat) {s : State} (h : P (eng n s)) : P (eng n (cyclesPass n k s)) := by
  have hprune : ∀ s, P (eng n s) → P (eng n (latePrune n s)) := fun s h => by
    unfold latePrune
    split
    · exact h
    · rw [eng_modEng_same]
      exact hlate _ _ h
  have hone : ∀ x s, P (eng n s) → P (eng n (landOne n x s)) := fun x s h => by
    unfold landOne
    split
    · exact hprune _ h
    · exact hprune _ h
    · rw [eng_modEng_same]
      exact hland _ _ h
  have hall : ∀ (l : List Landed) s, P (eng n s) → P (eng n (forEach l (landOne n) s)) := fun l => by
    unfold forEach
    induction l with
    | nil => exact fun _ h => h
    | cons x l ih => exact fun s h => ih _ (hone x s h)
  have hcycle : ∀ s, P (eng n s) → P (eng n (cycleEnds n s)) := fun s h => by
    unfold cycleEnds
    dsimp only
    split
    · exact h
    · refine hall _ _ ?_
      rw [eng_modEng_same]
      exact hway _ _ h
  unfold cyclesPass forEach
  induction upto (min k 3) generalizing s with
  | nil => exact h
  | cons x l ih => exact ih (hcycle s h)

/-- A special register's write changes the engine's special registers alone. -/
theorem specialWrite_eq (b x : Nat) (v : Word) (e : Engine) : specialWrite b x v e = { e with
    st0 := (specialWrite b x v e).st0, st1 := (specialWrite b x v e).st1, rs0 := (specialWrite b x v e).rs0, rs1 := (specialWrite b x v e).rs1,
    vbase := (specialWrite b x v e).vbase, cb := (specialWrite b x v e).cb } := by
  unfold specialWrite
  split
  · split <;> rfl
  · split <;> rfl
  all_goals rfl

theorem vctlWrite_eq (c : Nat) (v : Word) (e : Engine) : vctlWrite c v e = { e with
    vcnt := (vctlWrite c v e).vcnt, vfmt := (vctlWrite c v e).vfmt, vpos := (vctlWrite c v e).vpos } := by
  unfold vctlWrite
  split <;> rfl

/-- What landing keeps of an engine: all that the writes of its special and vector control registers keep, and no register. -/
theorem landIn_keeps {α : Type} {f : Engine → α} (hreg : ∀ e g acc v p, f { e with g := g, acc := acc, v := v, p := p } = f e)
    (hspecial : ∀ b x v e, f (specialWrite b x v e) = f e) (hvctl : ∀ c v e, f (vctlWrite c v e) = f e) (e : Engine) (x : Landed) :
    f (e.landIn x) = f e := by
  cases x with
  | special b x v => exact hspecial b x v e
  | vctl c v => exact hvctl c v e
  | _ => exact hreg e _ _ _ _

theorem landIn_bank (e : Engine) (x : Landed) : (e.landIn x).bank = e.bank :=
  landIn_keeps (f := Engine.bank) (fun _ _ _ _ _ => rfl) (fun b x v e => by rw [specialWrite_eq]) (fun c v e => by rw [vctlWrite_eq]) e x

/-- The bank is that of the last instruction. -/
theorem issuing_bank (n : Nat) (fetch : Ecc) (s : State) : (eng n (issuing n fetch s)).bank = (eng n s).bank := by
  rw [eng_issuing, atIssue, eng_modEng_same]
  exact cyclesPass_keeps (P := fun e => e.bank = (eng n s).bank) (fun e x h => (landIn_bank e x).trans h) (fun _ _ h => h) (fun _ _ h => h) _ rfl

/-! ### The instructions -/

/-- A command of a running module, well formed, is answered with its effect. -/
theorem exec_of_gated {c : Instr} {wf : Bool} {op : State → State} {s : State} (he : exec c s = .next (gated false wf op s)) (hrun : Running s)
    (hwf : wf = true) : exec c s = .next (inOrder s (op s)) := by rw [he, gated_acts hrun.1 (.inr hrun.2) hwf]

theorem below_of_lt {k n : Nat} (h : n < k) : below k n = true := decide_eq_true h

/-- The end of a repeat's last iteration clears RS. -/
theorem repeatEnd_effect {n : Nat} {s : State} (hrun : Running s) (hn : n < 512) (hend : (eng n s).rptEnd = true) :
    Effect (.repeatEnd n) s fun t => (eng n t).rs = 0 ∧ (eng n t).rptEnd = false ∧ (eng n t).pc = (eng n s).pc ∧
      (∀ q, (eng n t).gr q = (eng n s).gr q) ∧ OnlyEngine n s t := by
  have hop : opRepeatEnd n s = modEng n (fun e => { e.setRs 0 with rptEnd := false, step := false }) s := if_pos hend
  refine ⟨_, exec_of_gated (exec_repeatEnd n s) hrun (below_of_lt hn), ?_⟩
  rw [hop, inOrder_same (s := s) (t := modEng n _ s) rfl]
  dsimp only
  rw [eng_modEng_same]
  exact ⟨setRs_rs _ _, rfl, setRs_pc _ _, gKept_of (setRs_g _ _) (setRs_bank _ _), onlyEngine_setEng n _ s⟩

/-- An engine that may issue does not wait. -/
theorem wait_none_of_free {n : Nat} {w : Word} {fetch : Ecc} {regs : List Nat} {s : State} (h : Free n w fetch regs s) :
    (eng n (issuing n fetch s)).wait = .none := by
  obtain ⟨-, -, hissue, -⟩ := h
  rw [eng_issuing]
  simp only [canIssue, Bool.and_eq_true, decide_eq_true_eq] at hissue
  exact hissue.1.1.1.1.2

theorem wait_effect {n : Nat} {w : Word} {fetch : Ecc} {s : State} (hwf : (Instr.wait n w fetch).wf = true) (h : Free n w fetch [] s)
    (hz : fieldOf w 20 0 = 0) :
    let u := issuing n fetch s
    (eng n u).rem = 0 →
    Effect (.wait n w fetch) s fun t =>
      (eng n t).wait = (if (eng n u).bank = 1 then .none else .waitDrain) ∧ GKept (eng n u) (eng n t) ∧ Completes n u t ∧ OnlyEngine n u t := by
  intro u hrem
  have hres : sysReserved w = false := by simp [sysReserved, hz]
  by_cases hb : (eng n u).bank = 1
  · rw [if_pos hb]
    refine effect_of_regs (exec_wait n w fetch s) rfl hwf h hres (.inr hrem) (e := (eng n u).issued) (if_pos hb) rfl rfl fun t ht hc ho => ?_
    rw [ht]
    exact ⟨(advance_wait _).trans (wait_none_of_free h), gKept_of (done_g _ _) (done_bank _ _), hc, ho⟩
  · rw [if_neg hb]
    refine effect_of_regs (exec_wait n w fetch s) rfl hwf h hres (.inr hrem) (e := { (eng n u).issued with wait := .waitDrain }) (if_neg hb) rfl rfl
      fun t ht hc ho => ?_
    rw [ht]
    exact ⟨advance_wait _, gKept_of (done_g _ _) (done_bank _ _), hc, ho⟩

theorem reti_effect {n : Nat} {w : Word} {fetch : Ecc} {s : State} (hwf : (Instr.reti n w fetch).wf = true) (h : Free n w fetch [31] s)
    (hz : fieldOf w 20 0 = 0) (hb : (eng n s).bank = 1) :
    let u := issuing n fetch s
    (eng n u).rem = 0 →
    Effect (.reti n w fetch) s fun t => (eng n t).bank = 0 ∧ (eng n t).pc = ((eng n u).gr 31).toNat / 4 * 4 ∧ (eng n t).st0 = (eng n u).st0 ∧
      (eng n t).rs0 = (eng n u).rs0 ∧ (eng n t).g = (eng n u).g ∧ OnlyEngine n u t := by
  intro u hrem
  have hres : sysReserved w = false := by simp [sysReserved, hz]
  have hbu : (eng n u).bank = 1 := (issuing_bank n fetch s).trans hb
  have hregs : (if (eng n s).bank = 0 then [] else [31]) = [31] := if_neg (by omega)
  rw [← hregs] at h
  refine effect_of_plainJump (exec_reti n w fetch s) rfl hwf h hres hrem (e := { (eng n u).issued with bank := 0 }) (pc := ((eng n u).gr 31).toNat)
    (if_neg (show ¬(eng n u).bank = 0 by omega)) fun t ht _ ho => ?_
  rw [ht]
  have hlt : ((eng n u).gr 31).toNat < 2 ^ 32 := BitVec.isLt _
  exact ⟨rfl, Nat.mod_eq_of_lt (by omega), rfl, rfl, rfl, ho⟩

/-! ### Special registers -/

/-- A number of a special register. -/
theorem isSpecial_of {x : Nat} (h : x ≤ 5 ∨ 8 ≤ x ∧ x ≤ 16) : isSpecial x = true := by simpa [isSpecial] using h

/-- The registers of an engine's interrupt lines are none that noting an error writes. -/
theorem rd_issuing_irq {n off : Nat} (h : off = Reg.ENG_IRQ_EN n ∨ off = Reg.ENG_IRQ_PEND n) (fetch : Ecc) (s : State) :
    rd off (issuing n fetch s) = rd off (atIssue n false [] s) := by
  refine rd_fetchNoted ?_ ?_ fetch _ <;> rcases h with rfl | rfl
  all_goals
    simp only [Reg.ENG_IRQ_EN, Reg.ENG_IRQ_PEND, Reg.SPARE_STATUS, Reg.ENG_ECC_CNT]
    omega

/-- The special registers `mfs` reads, but for CYCLE, with the engine at `e` in state `u` (R71). -/
def specialValue (n : Nat) (e : Engine) (u : State) (x : Nat) : Word :=
  match x with
  | 0 => e.st
  | 1 => e.rs
  | 2 => e.vbase
  | 3 => (rd (Reg.ENG_IRQ_EN n) u).truncate 32
  | 4 => (rd (Reg.ENG_IRQ_PEND n) u).truncate 32
  | 16 => BitVec.ofNat 32 n
  | x => tabGet (fun _ => 0) e.cb (x - 8)

theorem specialRead_eq {n x : Nat} (h : x < 5 ∨ 8 ≤ x ∧ x ≤ 16) (e : Engine) (fetch : Ecc) (s : State) :
    specialRead n x e.issued (atIssue n false [] s) = specialValue n e (issuing n fetch s) x := by
  have hx : x = 0 ∨ x = 1 ∨ x = 2 ∨ x = 3 ∨ x = 4 ∨ x = 16 ∨ x ∈ [8, 9, 10, 11, 12, 13, 14, 15] := by
    simp only [List.mem_cons, List.not_mem_nil]
    omega
  rcases hx with rfl | rfl | rfl | rfl | rfl | rfl | hx
  · rfl
  · rfl
  · rfl
  · exact congrArg (BitVec.truncate 32) (rd_issuing_irq (.inl rfl) fetch s).symm
  · exact congrArg (BitVec.truncate 32) (rd_issuing_irq (.inr rfl) fetch s).symm
  · rfl
  · simp only [List.mem_cons, List.not_mem_nil, or_false] at hx
    rcases hx with rfl | rfl | rfl | rfl | rfl | rfl | rfl | rfl <;> exact (BitVec.ofNat_toNat 32 _).trans (BitVec.setWidth_eq _)

/-- `mfs` sends the register it reads to gD, for the second cycle. -/
theorem mfs_effect {n : Nat} {w : Word} {fetch : Ecc} {s : State} (hwf : (Instr.mfs n w fetch).wf = true)
    (h : Free n w fetch [fieldOf w 20 16] s) (hx : fieldOf w 15 0 < 5 ∨ 8 ≤ fieldOf w 15 0 ∧ fieldOf w 15 0 ≤ 16) :
    let u := issuing n fetch s
    let e := eng n u
    Effect (.mfs n w fetch) s fun t => RegsOnly e (eng n t) ∧ Completes n u t ∧ OnlyEngine n u t ∧
      AfterCycles 2 (fieldOf w 20 16) (specialValue n e u (fieldOf w 15 0)) e (eng n t) := by
  intro u e
  rw [← specialRead_eq hx e fetch s]
  refine effect_of_done (exec_mfs n w fetch s) rfl hwf h rfl (.inl rfl)
    (e := e.issued.laterG 2 (fieldOf w 20 16) (specialRead n (fieldOf w 15 0) e.issued (atIssue n false [] s))) (f := id) ?_ rfl rfl
    fun t ht hc ho => ?_
  · refine (if_pos (isSpecial_of (by omega))).trans ?_
    rw [decide_eq_false (show ¬fieldOf w 15 0 = 5 by omega)]
    rfl
  · rw [id, inOrder_same ((onlyEngine_evt ho).trans (atEngine_issuing n fetch s).evt), ht]
    exact ⟨regsOnly_done (regsOnly_trans (regsOnly_issued e) (regsOnly_later _ _ _)) _, hc, ho,
      afterCycles_of (done_g _ _) (done_bank _ _) (done_land _ _)⟩

/-- `mfs` of CYCLE sends some value, and draws it. -/
theorem mfs_cycle_effect {n : Nat} {w : Word} {fetch : Ecc} {s : State} (hwf : (Instr.mfs n w fetch).wf = true)
    (h : Free n w fetch [fieldOf w 20 16] s) (hx : fieldOf w 15 0 = 5) :
    let u := issuing n fetch s
    let e := eng n u
    Effect (.mfs n w fetch) s fun t => (∃ v, AfterCycles 2 (fieldOf w 20 16) v e (eng n t)) ∧ RegsOnly e (eng n t) ∧
      Completes n u t ∧ OnlyEngine n u { t with free := s.free } := by
  intro u e
  have hat : AtEngine n s u := atEngine_issuing n fetch s
  refine effect_of_done (exec_mfs n w fetch s) rfl hwf h rfl (.inl rfl)
    (e := e.issued.laterG 2 (fieldOf w 20 16) (specialRead n (fieldOf w 15 0) e.issued (atIssue n false [] s))) (f := drawn) ?_ rfl rfl
    fun t ht hc ho => ?_
  · refine (if_pos (isSpecial_of (by omega))).trans ?_
    rw [decide_eq_true hx]
    rfl
  · have hfree : t.free = s.free := (by rw [ho.1] : t.free = u.free).trans hat.free
    have hundrawn : { drawn t with free := s.free } = t := by
      rw [← hfree]
      rfl
    rw [inOrder_same ((drawn_evt t).trans ((onlyEngine_evt ho).trans hat.evt)), hundrawn, eng_drawn, ht]
    exact ⟨⟨_, afterCycles_of (done_g _ _) (done_bank _ _) (done_land _ _)⟩,
      regsOnly_done (regsOnly_trans (regsOnly_issued e) (regsOnly_later _ _ _)) _, completes_congr hc rfl rfl, ho⟩

end Sys2Proof.Machine
end

section
/-! `mts` (R67, R71), and O9. -/
namespace Sys2Proof.Machine
open Sys2Proof.Safety

/-! ### One result on its way lands -/

/-- The state in which a result of the second cycle, alone on its way, lands. -/
def beforeLanding (n : Nat) (x : Landed) (t : State) : State :=
  modEng n (fun e => { e with land := [] }) (modEng n (fun e => { e with land := [⟨1, x⟩] }) t)

theorem eng_beforeLanding (n : Nat) (x : Landed) (t : State) : eng n (beforeLanding n x t) = { eng n t with land := [] } := by
  rw [beforeLanding, eng_modEng_same, eng_modEng_same]

theorem rd_beforeLanding {off n : Nat} (h : off ∉ [Reg.ENG_STATUS n, Reg.ENG_PC n, Reg.VEC_STATUS n]) (x : Landed) (t : State) :
    rd off (beforeLanding n x t) = rd off t := by rw [beforeLanding, rd_modEng h, rd_modEng h]

/-- A cycle of a pipeline with nothing on its way. -/
theorem cycleEnds_empty {n : Nat} {s : State} (h : (eng n s).land = []) : cycleEnds n s = s := by
  unfold cycleEnds
  dsimp only
  rw [h]
  rfl

theorem specialWrite_land (b x : Nat) (v : Word) (e : Engine) : (specialWrite b x v e).land = e.land := by rw [specialWrite_eq]
theorem specialWrite_g (b x : Nat) (v : Word) (e : Engine) : (specialWrite b x v e).g = e.g := by rw [specialWrite_eq]

/-- IRQ_EN and IRQ_PEND apart, a special register is one of the engine's. -/
theorem landOne_special {x : Nat} (h3 : x ≠ 3) (h4 : x ≠ 4) (n b : Nat) (v : Word) (s : State) :
    landOne n (.special b x v) s = modEng n (specialWrite b x v) s := by
  unfold landOne
  split
  · next h => exact absurd (Landed.special.inj h).2.1 h3
  · next h => exact absurd (Landed.special.inj h).2.1 h4
  · rfl

theorem landOne_irqEn (n b : Nat) (v : Word) (s : State) :
    landOne n (.special b 3 v) s = latePrune n (wr (Reg.ENG_IRQ_EN n) (v.zeroExtend 64) s) := rfl

theorem landOne_irqPend (n b : Nat) (v : Word) (s : State) :
    landOne n (.special b 4 v) s = latePrune n (wr (Reg.ENG_IRQ_PEND n) (rd (Reg.ENG_IRQ_PEND n) s &&& ~~~(v.zeroExtend 64)) s) := rfl

/-- A special register's write puts nothing on its way, and no g register. -/
theorem landOne_special_view (n b x : Nat) (v : Word) (s : State) :
    (eng n (landOne n (.special b x v) s)).g = (eng n s).g ∧ (eng n (landOne n (.special b x v) s)).land = (eng n s).land := by
  by_cases h3 : x = 3
  · subst h3
    obtain ⟨hg, -, -, hl⟩ := entryView_eq.1 (latePrune_entryView n (wr (Reg.ENG_IRQ_EN n) (v.zeroExtend 64) s))
    exact ⟨hg, hl⟩
  · by_cases h4 : x = 4
    · subst h4
      obtain ⟨hg, -, -, hl⟩ := entryView_eq.1 (latePrune_entryView n
        (wr (Reg.ENG_IRQ_PEND n) (rd (Reg.ENG_IRQ_PEND n) s &&& ~~~(v.zeroExtend 64)) s))
      exact ⟨hg, hl⟩
    · rw [landOne_special h3 h4, eng_modEng_same]
      exact ⟨specialWrite_g _ _ _ _, specialWrite_land _ _ _ _⟩

/-- Everything issued has completed where one special register's write was on its way. -/
theorem settle_special {n b x : Nat} {v : Word} {t : State} (h : (eng n t).land = [⟨2, .special b x v⟩]) :
    settle n t = landOne n (.special b x v) (beforeLanding n (.special b x v) t) := by
  have h1 : cycleEnds n t = modEng n (fun e => { e with land := [⟨1, .special b x v⟩] }) t := cycleEnds_notDue h (by decide)
  have h2 : cycleEnds n (cycleEnds n t) = landOne n (.special b x v) (beforeLanding n (.special b x v) t) := by
    rw [h1]
    exact cycleEnds_due (by rw [eng_modEng_same])
  have h3 : (eng n (landOne n (.special b x v) (beforeLanding n (.special b x v) t))).land = [] := by
    rw [(landOne_special_view _ _ _ _ _).2, eng_beforeLanding]
  show cycleEnds n (cycleEnds n (cycleEnds n t)) = _
  rw [h2, cycleEnds_empty h3]

theorem rd_latePrune {off n : Nat} (h : off ∉ [Reg.ENG_STATUS n, Reg.ENG_PC n, Reg.VEC_STATUS n]) (s : State) :
    rd off (latePrune n s) = rd off s := by
  unfold latePrune
  split
  · rfl
  · exact rd_modEng h _ s

/-- The registers of an engine's interrupt lines do not follow the engine. -/
theorem irqEn_free (n : Nat) : Reg.ENG_IRQ_EN n ∉ [Reg.ENG_STATUS n, Reg.ENG_PC n, Reg.VEC_STATUS n] := by
  simp [Reg.ENG_IRQ_EN, Reg.ENG_STATUS, Reg.ENG_PC, Reg.VEC_STATUS]

theorem irqPend_kept (n : Nat) : Reg.ENG_IRQ_PEND n ∉ [Reg.ENG_ISSUE_CNT n, Reg.ENG_STATUS n, Reg.ENG_PC n, Reg.VEC_STATUS n] := by
  simp [Reg.ENG_IRQ_PEND, Reg.ENG_ISSUE_CNT, Reg.ENG_STATUS, Reg.ENG_PC, Reg.VEC_STATUS]

theorem irqPend_free (n : Nat) : Reg.ENG_IRQ_PEND n ∉ [Reg.ENG_STATUS n, Reg.ENG_PC n, Reg.VEC_STATUS n] := fun h =>
  irqPend_kept n (List.mem_cons_of_mem _ h)

/-! ### The write of each special register -/

theorem specialWrite_rs {v : Word} (h : v.toNat % 2 ^ 17 = 0) (b : Nat) (e : Engine) :
    (if b = 0 then (specialWrite b 1 v e).rs0 else (specialWrite b 1 v e).rs1) = 0 := by
  have hv : rsWritten v = 0 := if_pos h
  unfold specialWrite
  by_cases hb : b = 0 <;> simp [hb, hv]

/-- The mask that clears the low six bits of a word. -/
theorem and_mask_low_six (v : Word) : v &&& 0xFFFFFFC0 = BitVec.ofNat 32 (v.toNat / 64 * 64) := by
  have hmask : (0xFFFFFFC0 : Word).toNat = (2 ^ 26 - 1) * 2 ^ 6 := rfl
  apply BitVec.eq_of_toNat_eq
  have hlt : v.toNat / 64 * 64 < 2 ^ 32 := by omega
  rw [BitVec.toNat_and, BitVec.toNat_ofNat, Nat.mod_eq_of_lt hlt, hmask]
  refine Nat.eq_of_testBit_eq fun i => ?_
  rw [Nat.testBit_and, Nat.testBit_mul_two_pow, Nat.testBit_two_pow_sub_one, show v.toNat / 64 * 64 = v.toNat / 2 ^ 6 * 2 ^ 6 from rfl,
    Nat.testBit_mul_two_pow, Nat.testBit_div_two_pow]
  by_cases h6 : 6 ≤ i
  · by_cases h32 : i < 32
    · simp [h6, show i - 6 < 26 by omega]
    · simp [h6, Nat.testBit_lt_two_pow (Nat.lt_of_lt_of_le v.isLt (Nat.pow_le_pow_right (by decide) (Nat.le_of_not_lt h32)))]
  · simp [h6]

theorem specialWrite_vbase (b : Nat) (v : Word) (e : Engine) : (specialWrite b 2 v e).vbase = v &&& 0xFFFFFFC0 := (and_mask_low_six v).symm

theorem specialWrite_cb {x : Nat} (h8 : 8 ≤ x) (h16 : x < 16) (b : Nat) (v : Word) (e : Engine) :
    tabGet (fun _ => 0) (specialWrite b x v e).cb (x - 8) = v := by
  have h : specialWrite b x v e = { e with cb := tabSet (fun _ => 0) e.cb (x - 8) v } := by interval_cases x <;> rfl
  rw [h]
  exact tabGet_tabSet_same

/-- `mts` writes its special register in the second cycle. -/
theorem mts_effect {n : Nat} {w : Word} {fetch : Ecc} {s : State} (hwf : (Instr.mts n w fetch).wf = true)
    (h : Free n w fetch [fieldOf w 20 16] s) (hx : fieldOf w 15 0 ≤ 5 ∨ 8 ≤ fieldOf w 15 0 ∧ fieldOf w 15 0 ≤ 16) :
    let u := issuing n fetch s
    let e := eng n u
    let v := e.gr (fieldOf w 20 16)
    Effect (.mts n w fetch) s fun t =>
      let f := settle n t
      Lands 2 (.special e.bank (fieldOf w 15 0) v) e (eng n t) ∧ GKept e (eng n t) ∧ RegsOnly e (eng n t) ∧ Completes n u t ∧
      OnlyEngine n u t ∧
      (e.land = [] → (eng n f).g = e.g ∧
        (fieldOf w 15 0 = 1 → v.toNat % 2 ^ 17 = 0 → (if e.bank = 0 then (eng n f).rs0 else (eng n f).rs1) = 0) ∧
        (fieldOf w 15 0 = 2 → (eng n f).vbase = v &&& 0xFFFFFFC0) ∧ (fieldOf w 15 0 = 3 → rd (Reg.ENG_IRQ_EN n) f = v.zeroExtend 64) ∧
        (fieldOf w 15 0 = 4 → rd (Reg.ENG_IRQ_PEND n) f = rd (Reg.ENG_IRQ_PEND n) u &&& ~~~(v.zeroExtend 64)) ∧
        (8 ≤ fieldOf w 15 0 → fieldOf w 15 0 < 16 → tabGet (fun _ => 0) (eng n f).cb (fieldOf w 15 0 - 8) = v)) := by
  intro u e v
  refine effect_of_regs (exec_mts n w fetch s) rfl hwf h rfl (.inl rfl) (e := e.issued.later 2 (.special e.bank (fieldOf w 15 0) v))
    (if_pos (isSpecial_of hx)) rfl rfl fun t ht hc ho => ?_
  have hland : (eng n t).land = e.land ++ [⟨2, .special e.bank (fieldOf w 15 0) v⟩] := by
    rw [ht]
    exact done_land _ _
  have hg : (eng n t).g = e.g := by
    rw [ht]
    exact done_g _ _
  have hbank : (eng n t).bank = e.bank := by
    rw [ht]
    exact done_bank _ _
  have hregs : RegsOnly e (eng n t) := by
    rw [ht]
    exact regsOnly_done (regsOnly_trans (regsOnly_issued e) (regsOnly_later _ _ _)) _
  refine ⟨hland, gKept_of hg hbank, hregs, hc, ho, fun hempty => ?_⟩
  rw [hempty] at hland
  rw [settle_special hland]
  generalize hs : beforeLanding n (.special e.bank (fieldOf w 15 0) v) t = r
  have hrg : (eng n r).g = e.g := by
    rw [← hs, eng_beforeLanding]
    exact hg
  have hpend : Reg.ENG_IRQ_PEND n ∉ [Reg.ENG_STATUS n, Reg.ENG_PC n, Reg.VEC_STATUS n] := irqPend_free n
  refine ⟨(landOne_special_view _ _ _ _ _).1.trans hrg, fun hx1 hv => ?_, fun hx2 => ?_, fun hx3 => ?_, fun hx4 => ?_, fun h8 h16 => ?_⟩
  · rw [landOne_special (by omega) (by omega), eng_modEng_same, hx1]
    exact specialWrite_rs hv _ _
  · rw [landOne_special (by omega) (by omega), eng_modEng_same, hx2]
    exact specialWrite_vbase _ _ _
  · rw [hx3, landOne_irqEn, rd_latePrune (irqEn_free n), rd_wr_same]
  · rw [hx4, landOne_irqPend, rd_latePrune hpend, rd_wr_same, ← hs, rd_beforeLanding hpend, ho.2.2.2 _ (irqPend_kept n)]
  · rw [landOne_special (by omega) (by omega), eng_modEng_same]
    exact specialWrite_cb h8 h16 _ _ _

/-- Settles O9: the repeat's start and end, `wait`, `reti`, `mfs` and `mts`, each by its own effect. -/
theorem repeatAndSystemResults : Obligations.RepeatAndSystemResults := by
  unfold Obligations.RepeatAndSystemResults
  exact ⟨fun _ _ _ _ => rpt_effect, fun _ _ => repeatEnd_effect, fun _ _ _ _ => wait_effect, fun _ _ _ _ => reti_effect,
    fun _ _ _ _ hwf h => ⟨mfs_effect hwf h, mfs_cycle_effect hwf h⟩, fun _ _ _ _ => mts_effect⟩

end Sys2Proof.Machine
end

section
/-! Traps, FAR_ERR and interrupts (R77, R89 to R96): O10. -/
namespace Sys2Proof.Machine
open Sys2Proof.Safety

/-! ### `trap` and `brk` -/

/-- An instruction of bank 0 that completes and then traps enters its handler, with the next instruction as the return address. -/
theorem entered_thenTrap {n k code sub g29 : Nat} {ws : Option (List Nat)} {s : State} (hb : (eng n s).bank = 0) (hrem : (eng n s).rem = 0)
    (hcode : code < 0x10000) :
    Entered n 2 code (causeWord false 0 sub code) (((eng n s).pc + 4) % 2 ^ 32) g29 0 s (finish n ws k (.thenTrap code sub g29) s) := by
  let t := modEng n Engine.advance (discards n k (countIssue n (modEng n Engine.issued s)))
  have he : eng n t = (eng n s).issued.advance := by
    rw [eng_modEng_same, eng_discarded, eng_modEng_same]
  have hpc : (eng n t).pc = ((eng n s).pc + 4) % 2 ^ 32 := by
    rw [he, advance_plain (e := (eng n s).issued) hrem]
    rfl
  have hfinish : finish n ws k (.thenTrap code sub g29) s =
      takeTrap n 2 code (causeWord false 0 sub code) (eng n s).pc (eng n t).pc g29 0 t := if_pos hb
  rw [hfinish, hpc]
  refine entered_takeTrap ?_ ?_ ?_ ((modEng_mem _ _ _).trans (mem_discarded _ _ _ _)) fun m hm => ?_
  · rw [he]
    exact (advance_curBank _).trans hb
  · rw [he]
    exact entryView_eq.2 ⟨advance_g _, advance_st0 _, advance_vbase _, advance_land _⟩
  · simp only [causeWord, Bool.false_eq_true, if_false]
    omega
  · exact (eng_setEng_other hm _ _).trans ((eng_discarded m n k _).trans (eng_setEng_other hm _ _))

/-- The same, of the instruction's answer. -/
theorem effect_of_thenTrap {c : Instr} {n : Nat} {w : Word} {fetch : Ecc} {wf bad : Bool} {regs writes : List Nat}
    {op : State → State} {s : State} {code sub g29 : Nat} (he : exec c s = .next (gated false wf op s))
    (hop : op s = issue n w fetch bad false regs writes (fun _ => .thenTrap code sub g29) s) (hwf : wf = true)
    (h : Free n w fetch regs s) (hb : bad = false) (hbank : (eng n (issuing n fetch s)).bank = 0) (hrem : (eng n (issuing n fetch s)).rem = 0)
    (hcode : code < 0x10000) :
    Effect c s (Entered n 2 code (causeWord false 0 sub code) (((eng n (issuing n fetch s)).pc + 4) % 2 ^ 32) g29 0 (issuing n fetch s)) :=
  ⟨_, exec_of_issue he hop hwf h hb (.inl rfl), entered_inOrder (entered_thenTrap hbank hrem hcode)⟩

/-! ### FAR_ERR -/

/-- Neither an entry nor what lands before it changes the pending FAR_ERRs. -/
theorem entryRegs_farErr (e : Engine) (code cause ret g29 g28 : Nat) : (entryRegs e code cause ret g29 g28).farErr = e.farErr :=
  repeatOver_keeps (f := Engine.farErr) (fun _ _ _ _ => rfl) e

theorem landIn_farErr (e : Engine) (x : Landed) : (e.landIn x).farErr = e.farErr :=
  landIn_keeps (f := Engine.farErr) (fun _ _ _ _ _ => rfl) (fun b x v e => by rw [specialWrite_eq]) (fun c v e => by rw [vctlWrite_eq]) e x

theorem takeTrap_farErr {n k code cause pc ret g29 g28 : Nat} {t : State} (hb : (eng n t).bank = 0) :
    (eng n (takeTrap n k code cause pc ret g29 g28 t)).farErr = (eng n t).farErr := by
  unfold takeTrap
  rw [if_pos hb]
  dsimp only
  rw [eng_recordTrap, eng_bump, eng_setEng_same, entryRegs_farErr]
  exact cyclesPass_keeps (P := fun e => e.farErr = (eng n t).farErr) (fun e x h => (landIn_farErr e x).trans h) (fun _ _ h => h)
    (fun _ _ h => h) k rfl

/-- A pending FAR_ERR of bank 0 is taken, the oldest first. -/
theorem farErr_effect {n code addr : Nat} {r : List (Nat × Nat × Nat)} {s : State} (hrun : Running s) (hn : n < 512)
    (hfar : (eng n s).farErr = (code, addr, 0) :: r) (hmode : (eng n s).mode = .run) (hwait : (eng n s).wait = .none)
    (hb : (eng n s).bank = 0) (hkill : (eng n s).kill = 0) (hcode : code < 8) :
    Effect (.farErr n) s fun t =>
      Entered n (eng n s).gap 6 (code * 0x10000 + 6) (eng n s).pc (addr % 2 ^ 32) (addr / 2 ^ 32) s t ∧ (eng n t).farErr = r := by
  let f : Engine → Engine := fun y => { y with farErr := y.farErr.erase (code, addr, 0), mode := .run }
  have hdue : (eng n s).farErrDue = some (code, addr, 0) := by
    rw [Engine.farErrDue, hfar, hb]
    rfl
  have hnow : farErrNow (eng n s) = true := by simp [farErrNow, hmode, hwait, hkill]
  have hcause : causeWord false 0 code 6 = code * 0x10000 + 6 := by
    simp only [causeWord, Bool.false_eq_true, if_false]
    omega
  have hop : opFarErr n s =
      takeTrap n (eng n s).gap 6 (code * 0x10000 + 6) (eng n s).pc (eng n s).pc (addr % 2 ^ 32) (addr / 2 ^ 32) (modEng n f s) := by
    unfold opFarErr
    dsimp only
    rw [hdue]
    dsimp only
    rw [if_neg (by simp [hnow]), if_neg (by decide), hcause]
  have heng : eng n (modEng n f s) = f (eng n s) := eng_modEng_same _ _ _
  have hbf : (eng n (modEng n f s)).bank = 0 := by
    rw [heng]
    exact hb
  refine ⟨_, exec_of_gated (exec_farErr n s) hrun (below_of_lt hn), ?_⟩
  rw [hop]
  refine ⟨entered_inOrder (entered_takeTrap hbf ?_ (by omega) rfl fun m hm => eng_setEng_other hm _ _), ?_⟩
  · rw [heng]
    rfl
  · refine (takeTrap_farErr hbf).trans ?_
    rw [heng]
    show (eng n s).farErr.erase (code, addr, 0) = r
    rw [hfar, List.erase_cons_head]

/-! ### Interrupts -/

/-- The lowest line of a mask is the first one set. -/
theorem lowestLine_eq {m line : Nat} (hl : line < 32) (hset : m.testBit line = true) (hlow : ∀ j, j < line → m.testBit j = false) :
    lowestLine m = line := by
  have h : (List.range 32).find? (m.testBit ·) = some line := by
    rw [List.find?_range_eq_some]
    exact ⟨hset, List.mem_range.2 hl, fun j hj => by simp [hlow j hj]⟩
  rw [lowestLine, upto, h]
  rfl

/-- An interrupt's entry, at once: the cause is recorded and the interrupt counted. -/
theorem takeTrap_interrupt {n cause pc ret g29 g28 : Nat} {t : State} (hb : (eng n t).bank = 0) :
    takeTrap n 0 0x10 cause pc ret g29 g28 t =
      recordTrap n cause pc (bump (Reg.ENG_IRQ_CNT n) (setEng n (entryRegs (eng n t) 0x10 cause ret g29 g28) t)) := if_pos hb

/-- The state in which the interrupt of `line` is entered: its pending bit is cleared, and it may be late anew. -/
def lineTaken (n line : Nat) (u : State) : State :=
  modEng n (fun e => { e with late := e.late.filter (· ≠ line) }) (setFld (Reg.ENG_IRQ_PEND n) line line 0 u)

theorem eng_lineTaken (n line : Nat) (u : State) :
    eng n (lineTaken n line u) = { eng n u with late := (eng n u).late.filter (· ≠ line) } := eng_modEng_same _ _ _

theorem eng_lineTaken_other {m n : Nat} (h : m ≠ n) (line : Nat) (u : State) : eng m (lineTaken n line u) = eng m u := eng_setEng_other h _ _

/-- What an interrupt's entry leaves of registers other than its own. -/
theorem rd_takeTrap_interrupt {n cause pc ret g29 g28 off : Nat} {t : State} (hb : (eng n t).bank = 0)
    (h : off ∉ [Reg.ENG_LAST_TRAP n, Reg.ENG_LAST_TRAP_PC n]) :
    rd off (takeTrap n 0 0x10 cause pc ret g29 g28 t) =
      rd off (bump (Reg.ENG_IRQ_CNT n) (setEng n (entryRegs (eng n t) 0x10 cause ret g29 g28) t)) := by
  simp only [List.mem_cons, List.not_mem_nil, or_false, not_or] at h
  rw [takeTrap_interrupt hb, recordTrap, rd_wr_other h.2, rd_wr_other h.1]

theorem irqCnt_free (n : Nat) : Reg.ENG_IRQ_CNT n ∉ [Reg.ENG_STATUS n, Reg.ENG_PC n, Reg.VEC_STATUS n] := by
  simp [Reg.ENG_IRQ_CNT, Reg.ENG_STATUS, Reg.ENG_PC, Reg.VEC_STATUS]

/-- The lowest line pending and enabled is taken. -/
theorem opInterrupt_eq {n line : Nat} {s : State} (hcan : canInterrupt n (atIssue n false [] s) = true) (hl : line < 32)
    (hset : (irqReady n (atIssue n false [] s)).testBit line = true)
    (hlow : ∀ j, j < line → (irqReady n (atIssue n false [] s)).testBit j = false) :
    opInterrupt n s = takeTrap n 0 0x10 (causeWord true line 0 0x10) (eng n (atIssue n false [] s)).pc (eng n (atIssue n false [] s)).pc 0 0
      (lineTaken n line (atIssue n false [] s)) := by
  unfold opInterrupt
  dsimp only
  rw [if_pos hcan, lowestLine_eq hl hset hlow]
  rfl

/-- The interrupt of a line whose turn it is: the entry, the pending bit cleared, and one interrupt more counted. -/
theorem takeTrap_lineTaken {n line : Nat} {u : State} (pc : Nat) (hb : (eng n u).bank = 0) (hl : line < 32) :
    let t := takeTrap n 0 0x10 (causeWord true line 0 0x10) pc pc 0 0 (lineTaken n line u)
    Entered n 0 0x10 (causeWord true line 0 0x10) pc 0 0 u t ∧ fld (Reg.ENG_IRQ_PEND n) line line t = 0 ∧ Counted (Reg.ENG_IRQ_CNT n) u t := by
  have hbv : (eng n (lineTaken n line u)).bank = 0 := by
    rw [eng_lineTaken]
    exact hb
  refine ⟨entered_takeTrap hbv ?_ ?_ rfl fun m hm => eng_lineTaken_other hm _ _, ?_, ?_⟩
  · rw [eng_lineTaken]
    rfl
  · simp only [causeWord, if_true]
    omega
  · have hkept : Reg.ENG_IRQ_PEND n ∉ [Reg.ENG_LAST_TRAP n, Reg.ENG_LAST_TRAP_PC n] := by
      simp [Reg.ENG_IRQ_PEND, Reg.ENG_LAST_TRAP, Reg.ENG_LAST_TRAP_PC]
    have hcnt : Reg.ENG_IRQ_PEND n ≠ Reg.ENG_IRQ_CNT n := by simp [Reg.ENG_IRQ_PEND, Reg.ENG_IRQ_CNT]
    rw [fld, rd_takeTrap_interrupt hbv hkept, rd_bump_other hcnt, rd_setEng (irqPend_free n), lineTaken, rd_modEng (irqPend_free n)]
    exact (fld_setFld_same _ line line 0 u (by omega)).trans (Nat.zero_mod _)
  · have hkept : Reg.ENG_IRQ_CNT n ∉ [Reg.ENG_LAST_TRAP n, Reg.ENG_LAST_TRAP_PC n] := by
      simp [Reg.ENG_IRQ_CNT, Reg.ENG_LAST_TRAP, Reg.ENG_LAST_TRAP_PC]
    have hpend : Reg.ENG_IRQ_CNT n ≠ Reg.ENG_IRQ_PEND n := by simp [Reg.ENG_IRQ_PEND, Reg.ENG_IRQ_CNT]
    rw [Counted, rd_takeTrap_interrupt hbv hkept, counted_bump, rd_setEng (irqCnt_free n), lineTaken, rd_modEng (irqCnt_free n),
      rd_setFld_other hpend]

/-- An engine that may take an interrupt is in bank 0. -/
theorem bank_of_canInterrupt {n : Nat} {s : State} (h : canInterrupt n s = true) : (eng n s).bank = 0 := by
  simp only [canInterrupt, Bool.and_eq_true, decide_eq_true_eq] at h
  obtain ⟨⟨⟨⟨⟨⟨⟨-, hb⟩, -⟩, -⟩, -⟩, -⟩, -⟩, -⟩ := h
  exact hb

theorem fld_inOrder {off hi lo : Nat} {s t : State} : fld off hi lo (inOrder s t) = fld off hi lo t := rfl
theorem counted_inOrder {off : Nat} {r s t : State} (h : Counted off s t) : Counted off s (inOrder r t) := h

theorem interrupt_effect {n line : Nat} {s : State} (hrun : Running s) (hn : n < 512) :
    let u := atIssue n false [] s
    canInterrupt n u = true → line < 32 → (irqReady n u).testBit line = true → (∀ j, j < line → (irqReady n u).testBit j = false) →
    Effect (.interrupt n) s fun t => Entered n 0 0x10 (0x80000000 + line * 0x1000000 + 0x10) (eng n u).pc 0 0 u t ∧
      fld (Reg.ENG_IRQ_PEND n) line line t = 0 ∧ Counted (Reg.ENG_IRQ_CNT n) u t := by
  intro u hcan hl hset hlow
  have hcause : causeWord true line 0 0x10 = 0x80000000 + line * 0x1000000 + 0x10 := by
    simp only [causeWord, if_true]
    omega
  obtain ⟨hentered, hpend, hcnt⟩ := takeTrap_lineTaken (eng n u).pc (bank_of_canInterrupt hcan) hl
  refine ⟨_, exec_of_gated (exec_interrupt n s) hrun (below_of_lt hn), ?_⟩
  rw [opInterrupt_eq hcan hl hset hlow, ← hcause]
  exact ⟨entered_inOrder hentered, fld_inOrder.trans hpend, counted_inOrder hcnt⟩

/-- Settles O10: each cause is an entry to its handler, from the state in which what was issued before has landed. -/
theorem trapEntry : Obligations.TrapEntry := by
  unfold Obligations.TrapEntry
  refine ⟨⟨fun n w fetch s hwf h hz hb hrem => ?_, fun n w fetch s hwf h hz hb hrem => ?_, fun n w fetch s hwf h hb => ?_,
    fun _ _ _ _ _ => farErr_effect⟩, fun _ _ _ hrun hn hcan _ => interrupt_effect hrun hn hcan⟩
  · have hcause : causeWord false 0 (fieldOf w 7 0) 8 = fieldOf w 7 0 * 0x10000 + 8 := by
      have hlt : fieldOf w 7 0 < 2 ^ 8 := fieldOf_lt w 7 0
      simp only [causeWord, Bool.false_eq_true, if_false]
      omega
    rw [← hcause]
    exact effect_of_thenTrap (exec_trap n w fetch s) rfl hwf h (by simp [hz]) hb hrem (by decide)
  · exact effect_of_thenTrap (exec_brk n w fetch s) rfl hwf h (by simp [sysReserved, hz]) hb hrem (by decide)
  · exact effect_of_fault (exec_undef n w fetch s) rfl hwf h rfl (.inl rfl) rfl hb (by decide)

end Sys2Proof.Machine
end

section
/-! Packets an engine sends (R223, R230, R235 to R240): what handing one to the NI changes. -/
namespace Sys2Proof.Machine
open Sys2Proof.Safety

/-! ### What `send` leaves unchanged -/

theorem niSync_noc (n p : Nat) (s : State) : (niSync n p s).noc = s.noc := rfl
theorem niSync_eng (n p : Nat) (s : State) : (niSync n p s).eng = s.eng := rfl

theorem niCodeGiven_noc (n p code : Nat) (s : State) : (niCodeGiven n p code s).noc = s.noc := by
  unfold niCodeGiven
  split
  · rfl
  · exact countEvent_noc _ _ _ _ _ s

theorem niCodeGiven_eng (n p code : Nat) (s : State) : (niCodeGiven n p code s).eng = s.eng := by
  unfold niCodeGiven
  split
  · rfl
  · exact countEvent_eng _ _ _ _ _ s

theorem postedError_eng (n p addr src code : Nat) (s : State) : (postedError n p addr src code s).eng = s.eng := countEvent_eng _ _ _ _ _ _

theorem enqueue_eng (t : Txn) (s : State) : (enqueue t s).eng = s.eng := rfl
theorem enqueue_csr (t : Txn) (s : State) : (enqueue t s).csr = s.csr := rfl

/-- No engine is changed by a packet on its way. -/
theorem send_eng (ag : Agent) (use cls addr : Nat) (body : Payload) (posted aw : Bool) (s : State) :
    (send ag use cls addr body posted aw s).eng = s.eng := by
  unfold send
  dsimp only
  split
  · split
    · exact (postedError_eng _ _ _ _ _ _).trans (niCodeGiven_eng _ _ _ _)
    · exact (enqueue_eng _ _).trans (niCodeGiven_eng _ _ _ _)
  · exact (niSync_eng _ _ _).trans (enqueue_eng _ _)

/-- A packet that is answered, or that its NI sends, is the one more in the fabric, under the next number. -/
theorem send_txns {ag : Agent} {use cls addr : Nat} {body : Payload} {posted aw : Bool} {s : State}
    (h : posted = false ∨ originCode (srcOf ag s) cls addr body s = none) :
    ∃ x, (send ag use cls addr body posted aw s).noc.txns = s.noc.txns ++ [x] ∧ x.id = nextTxn s ∧ x.agent = ag ∧ x.src = srcOf ag s ∧
      x.cls = cls ∧ x.addr = addr ∧ x.body = body ∧ x.posted = posted := by
  unfold send
  dsimp only
  split
  · next code hcode =>
    obtain rfl : posted = false := h.resolve_right (by simp [hcode])
    rw [if_neg (by decide), enqueue, niCodeGiven_noc]
    exact ⟨_, rfl, rfl, rfl, rfl, rfl, rfl, rfl, rfl⟩
  · rw [niSync_noc, enqueue]
    exact ⟨_, rfl, rfl, rfl, rfl, rfl, rfl, rfl, rfl⟩

/-! ### Registers `send` writes -/

theorem rd_flagEvent {off f : Nat} (h : off ≠ f) (hd : off ≠ Reg.EVT_DROP_CNT) (bit num inst : Nat) (s : State) :
    rd off (flagEvent f bit num inst s) = rd off s := by
  rw [flagEvent, rd_raise hd, rd_setFlag_other h]

theorem rd_countEvent {off cnt f : Nat} (hc : off ≠ cnt) (h : off ≠ f) (hd : off ≠ Reg.EVT_DROP_CNT) (bit num inst : Nat) (s : State) :
    rd off (countEvent cnt f bit num inst s) = rd off s := by
  rw [countEvent, rd_flagEvent h hd, rd_bump_other hc]

/-- The NI of an engine is at port 0 of a cluster's node. -/
theorem srcNode_eng {n : Nat} (hn : n < 512) (s : State) : srcNode (srcOf (.eng n) s) < 40 := by
  simp only [srcOf, srcNode, srcId]
  omega

theorem srcPort_eng (n : Nat) (s : State) : srcPort (srcOf (.eng n) s) = 0 := by
  simp only [srcOf, srcPort, srcId]
  omega

/-- Registers of engines lie past those of the fabric. -/
theorem rd_niCodeGiven {off n p : Nat} (h : 0x2000000 ≤ off) (hn : n < 40) (hp : p < 8) (code : Nat) (s : State) :
    rd off (niCodeGiven n p code s) = rd off s := by
  have h1 : off ≠ Reg.NI_DECERR_CNT n p := by simp only [Reg.NI_DECERR_CNT]; omega
  have h2 : off ≠ Reg.NI_ROUTE_FAULT_CNT n p := by simp only [Reg.NI_ROUTE_FAULT_CNT]; omega
  have h3 : off ≠ Reg.NOC_EVT_STATUS := by simp only [Reg.NOC_EVT_STATUS]; omega
  have h4 : off ≠ Reg.EVT_DROP_CNT := by simp only [Reg.EVT_DROP_CNT]; omega
  unfold niCodeGiven
  split
  · exact rd_bump_other h1 s
  · exact rd_countEvent h2 h3 h4 _ _ _ s

theorem rd_niSync {off n p : Nat} (h : 0x2000000 ≤ off) (hn : n < 40) (hp : p < 8) (s : State) : rd off (niSync n p s) = rd off s := by
  have h1 : off ≠ Reg.NI_OUTSTANDING n p := by simp only [Reg.NI_OUTSTANDING]; omega
  exact rd_setFld_other h1 _ _ _ s

/-- A request of an engine leaves the registers of engines. -/
theorem rd_send_eng {off n : Nat} (h : 0x2000000 ≤ off) (hn : n < 512) (use cls addr : Nat) (body : Payload) (aw : Bool) (s : State) :
    rd off (send (.eng n) use cls addr body false aw s) = rd off s := by
  have hnode := srcNode_eng hn s
  have hport : srcPort (srcOf (.eng n) s) < 8 := by rw [srcPort_eng]; decide
  unfold send
  dsimp only
  split
  · rw [if_neg (by decide), rd_congr (enqueue_csr _ _), rd_niCodeGiven h hnode hport]
  · rw [rd_niSync h hnode hport, rd_congr (enqueue_csr _ _)]

end Sys2Proof.Machine
end

section
/-! Far access (R68, R86 to R88): O6. -/
namespace Sys2Proof.Machine
open Sys2Proof.Safety

/-! ### What an NI's choice reads is no register of an engine -/

theorem rd_modEng_of_mod {off n k : Nat} (hk : off % k = 0) (h1 : Reg.ENG_STATUS n % k ≠ 0) (h2 : Reg.ENG_PC n % k ≠ 0)
    (h3 : Reg.VEC_STATUS n % k ≠ 0) (f : Engine → Engine) (s : State) : rd off (modEng n f s) = rd off s := by
  refine rd_modEng ?_ f s
  simp only [List.mem_cons, List.not_mem_nil, or_false, not_or]
  exact ⟨fun h => h1 (h ▸ hk), fun h => h2 (h ▸ hk), fun h => h3 (h ▸ hk)⟩

/-- Blocks of accelerators and routers are aligned to more than the registers of an engine. -/
theorem rd_accId_modEng (k n : Nat) (f : Engine → Engine) (s : State) : rd (Reg.ACC_ID k) (modEng n f s) = rd (Reg.ACC_ID k) s := by
  refine rd_modEng_of_mod (k := 64) ?_ ?_ ?_ ?_ f s
  all_goals
    simp only [Reg.ACC_ID, Reg.ENG_STATUS, Reg.ENG_PC, Reg.VEC_STATUS]
    omega

theorem rd_rtrCtrl_modEng (k n : Nat) (f : Engine → Engine) (s : State) : rd (Reg.NOC_RTR_CTRL k) (modEng n f s) = rd (Reg.NOC_RTR_CTRL k) s := by
  refine rd_modEng_of_mod (k := 64) ?_ ?_ ?_ ?_ f s
  all_goals
    simp only [Reg.NOC_RTR_CTRL, Reg.ENG_STATUS, Reg.ENG_PC, Reg.VEC_STATUS]
    omega

/-- The route entries of an NI lie before the registers of engines. -/
theorem rd_route_modEng {m p i : Nat} (hm : m < 40) (hp : p < 8) (hi : i < 64) (n : Nat) (f : Engine → Engine) (s : State) :
    rd (Reg.NI_ROUTE m p i) (modEng n f s) = rd (Reg.NI_ROUTE m p i) s := by
  refine rd_modEng ?_ f s
  simp only [Reg.NI_ROUTE, Reg.ENG_STATUS, Reg.ENG_PC, Reg.VEC_STATUS, List.mem_cons, List.not_mem_nil, or_false]
  omega

theorem accPhys_modEng (k n : Nat) (f : Engine → Engine) (s : State) : accPhys k (modEng n f s) = accPhys k s := by
  rw [accPhys, accPhys, fld, fld, rd_accId_modEng]

theorem addrPlace_modEng (a n : Nat) (f : Engine → Engine) (s : State) : addrPlace a (modEng n f s) = addrPlace a s := by
  simp only [addrPlace, csrPlace, accPhys_modEng]

theorem rtrUse_modEng (k n : Nat) (f : Engine → Engine) (s : State) : rtrUse k (modEng n f s) = rtrUse k s := by
  rw [rtrUse, rtrUse, modEng_noc, rd_rtrCtrl_modEng]

theorem linksUp_modEng (l : List (Nat × Nat)) (n : Nat) (f : Engine → Engine) (s : State) : linksUp l (modEng n f s) = linksUp l s := by
  simp only [linksUp, linkUp, rtrUse_modEng, modEng_noc]

theorem spareIdle_modEng (node port n : Nat) (f : Engine → Engine) (s : State) : spareIdle node port (modEng n f s) = spareIdle node port s := by
  simp only [spareIdle, accPhys_modEng]

theorem routeUse_modEng {m p i : Nat} (hm : m < 40) (hp : p < 8) (hi : i < 64) (n : Nat) (f : Engine → Engine) (s : State) :
    routeUse m p i (modEng n f s) = routeUse m p i s := by
  rw [routeUse, routeUse, modEng_noc, rd_route_modEng hm hp hi]

/-- The nodes of the mesh are 48, and so are the entries an NI takes by default. -/
theorem slotPlace_lt (k : Nat) : (slotPlace k).1 < 48 := by
  unfold slotPlace
  split_ifs <;> dsimp only <;> omega

theorem slicePlace_lt (k : Nat) : (slicePlace k).1 < 48 := by
  unfold slicePlace
  split <;> decide

theorem dramPlace_lt (k : Nat) : (dramPlace k).1 < 48 := by
  unfold dramPlace
  split <;> decide

/-- A place, if there is one, is at a node of the mesh. -/
def InMesh (o : Option (Nat × Nat)) : Prop := ∀ d, o = some d → d.1 < 48

theorem inMesh_none : InMesh none := fun _ h => nomatch h

theorem inMesh_some {d : Nat × Nat} (h : d.1 < 48) : InMesh (some d) := fun _ hd => Option.some.inj hd ▸ h

theorem inMesh_ite {c : Prop} [Decidable c] {a b : Option (Nat × Nat)} (ha : c → InMesh a) (hb : InMesh b) : InMesh (if c then a else b) := by
  split
  · exact ha ‹_›
  · exact hb

theorem inMesh_csrPlace (off : Nat) (s : State) : InMesh (csrPlace off s) :=
  inMesh_ite (fun _ => inMesh_some (by decide)) <| inMesh_ite (fun _ => inMesh_some (by decide)) <|
  inMesh_ite (fun _ => inMesh_some (slicePlace_lt _)) <| inMesh_ite (fun _ => inMesh_some (by decide)) <|
  inMesh_ite (fun _ => inMesh_some (dramPlace_lt _)) <| inMesh_ite (fun _ => inMesh_some (by decide)) <|
  inMesh_ite (fun _ => inMesh_some (by dsimp only; omega)) <| inMesh_ite (fun _ => inMesh_some (by dsimp only; omega)) <|
  inMesh_ite (fun _ => inMesh_some (by dsimp only; omega)) <| inMesh_ite (fun _ => inMesh_some (by dsimp only; omega)) <|
  inMesh_ite (fun _ => inMesh_some (by decide)) <| inMesh_ite (fun _ => inMesh_some (by decide)) <|
  inMesh_ite (fun _ => inMesh_ite (fun _ => inMesh_some (by decide)) (inMesh_some (by decide))) <|
  inMesh_ite (fun _ => inMesh_some (by decide)) <| inMesh_ite (fun _ => inMesh_some (by decide)) <|
  inMesh_ite (fun _ => inMesh_some (by decide)) <| inMesh_ite (fun _ => inMesh_some (by decide)) <|
  inMesh_ite (fun _ => inMesh_some (by decide)) <| inMesh_ite (fun _ => inMesh_some (by decide)) <|
  inMesh_ite (fun _ => inMesh_some (slotPlace_lt _)) <| inMesh_ite (fun _ => inMesh_some (by dsimp only; omega)) inMesh_none

theorem inMesh_addrPlace (a : Nat) (s : State) : InMesh (addrPlace a s) :=
  inMesh_ite (fun _ => inMesh_some (by dsimp only; omega)) <| inMesh_ite (fun _ => inMesh_some (by dsimp only; omega)) <|
  inMesh_ite (fun _ => inMesh_some (by decide)) <| inMesh_ite (fun _ => inMesh_csrPlace _ s) <|
  inMesh_ite (fun _ => inMesh_some (dramPlace_lt _)) <| inMesh_ite (fun _ => inMesh_some (by decide)) inMesh_none

/-- The entry an NI selects is one of its 64. -/
theorem selectEntry_lt {dest : Nat} (h : dest < 48) (new : Bool) (n p cls : Nat) (body : Payload) (s : State) :
    selectEntry new n p dest cls body s < 64 := by
  unfold selectEntry
  dsimp only
  split
  · omega
  · split
    · next j hj =>
      have hlt : j < 16 := List.mem_range.1 (List.mem_of_find?_eq_some hj)
      omega
    · omega

theorem selectEntry_modEng {m p : Nat} (hm : m < 40) (hp : p < 8) (dest cls : Nat) (bs : List Byte) (n : Nat) (f : Engine → Engine) (s : State) :
    selectEntry false m p dest cls (.write bs) (modEng n f s) = selectEntry false m p dest cls (.write bs) s := by
  have hval : ∀ j ∈ upto 16, routeVal false m p (48 + j) (modEng n f s) = routeVal false m p (48 + j) s := fun j hj =>
    routeUse_modEng hm hp (by have := List.mem_range.1 hj; omega) n f s
  refine congrArg (fun o : Option Nat => match o with | some j => 48 + j | none => dest) (List.find?_congr fun j hj => ?_)
  dsimp only
  rw [hval j hj]

theorem entryValid_modEng {m p i : Nat} (hm : m < 40) (hp : p < 8) (hi : i < 64) (n : Nat) (f : Engine → Engine) (s : State) :
    entryValid m p i (modEng n f s) = entryValid m p i s := by rw [entryValid, entryValid, routeUse_modEng hm hp hi]

theorem routeFault_modEng {m p dest : Nat} (hm : m < 40) (hp : p < 8) (hd : dest < 48) (dport cls a : Nat) (bs : List Byte) (n : Nat)
    (f : Engine → Engine) (s : State) :
    routeFault m p dest dport cls (.write bs) a (modEng n f s) = routeFault m p dest dport cls (.write bs) a s := by
  have hsel := selectEntry_lt hd false m p cls (.write bs) s
  simp only [routeFault, selectEntry_modEng hm hp, entryValid_modEng hm hp hsel, routeUse_modEng hm hp hsel, linksUp_modEng, spareIdle_modEng]

/-- What an NI gives a write does not depend on the engines. -/
theorem originCode_modEng {src : Nat} (hm : srcNode src < 40) (hp : srcPort src < 8) (cls a : Nat) (bs : List Byte) (n : Nat)
    (f : Engine → Engine) (s : State) : originCode src cls a (.write bs) (modEng n f s) = originCode src cls a (.write bs) s := by
  unfold originCode packetPlace
  dsimp only
  rw [addrPlace_modEng]
  cases hd : addrPlace a s with
  | none => rfl
  | some d => 
    dsimp only
    rw [routeFault_modEng hm hp (inMesh_addrPlace a s d hd)]

end Sys2Proof.Machine
end

section
/-! The instructions (R68, R86 to R88), and O6. -/
namespace Sys2Proof.Machine
open Sys2Proof.Safety

theorem farAddr_issued (e : Engine) (m : Nat) : farAddr e.issued m = farAddr e m := rfl

/-- A far access whose address is aligned goes on as its instruction says: the body it has then. -/
theorem effect_of_far {c : Instr} {n : Nat} {w : Word} {fetch : Ecc} {wf : Bool} {writes : List Nat} {g : Engine → Nat → Issue}
    {op : State → State} {s : State} {e : Engine} {f : State → State} {post : State → Prop} (he : exec c s = .next (gated false wf op s))
    (hop : op s = farOp n w fetch writes g s) (hwf : wf = true) (h : Free n w fetch (farRegs w) s) (hres : farReserved w = false)
    (hal : farAddr (eng n (issuing n fetch s)) (fieldOf w 20 17) % farSize w = 0)
    (hbody : g (eng n (issuing n fetch s)).issued (farAddr (eng n (issuing n fetch s)) (fieldOf w 20 17)) = .done e f)
    (hpc : e.pc = (eng n (issuing n fetch s)).pc) (hrs : e.rs = (eng n (issuing n fetch s)).rs)
    (hpost : ∀ v, eng n v = { e.advance with pair := some writes } → Completes n (issuing n fetch s) v →
      OnlyEngine n (issuing n fetch s) v → post (inOrder s (f v))) : Effect c s post := by
  refine effect_of_done he (hop.trans rfl) hwf h hres (.inl rfl) ?_ hpc hrs hpost
  dsimp only
  rw [farAddr_issued, if_neg (by omega), hbody]

/-- A request an engine sends as its instruction completes. -/
theorem completes_send {n : Nat} (hn : n < 512) {u v : State} (h : Completes n u v) (use cls addr : Nat) (body : Payload) (aw : Bool) :
    Completes n u (send (.eng n) use cls addr body false aw v) := by
  have hoff : 0x2000000 ≤ Reg.ENG_ISSUE_CNT n := by
    simp only [Reg.ENG_ISSUE_CNT]
    omega
  rwa [Completes, rd_send_eng hoff hn, eng_congr (send_eng _ _ _ _ _ _ _ _)]

/-- A request of an engine in the fabric, from the view of any state with the same packets. -/
theorem requests_send {n addr : Nat} {body : Payload} {s v : State} (hnoc : v.noc = s.noc) (use : Nat) (aw : Bool) :
    Requests (.eng n) addr body s (send (.eng n) use 0 addr body false aw v) := by
  obtain ⟨x, htxns, hid, hag, hsrc, hcls, haddr, hbody, hposted⟩ :=
    send_txns (ag := .eng n) (use := use) (cls := 0) (addr := addr) (body := body) (aw := aw) (s := v) (.inl rfl)
  rw [hnoc] at htxns
  rw [nextTxn, hnoc] at hid
  exact ⟨x, htxns, hid, hag, hsrc, hcls, haddr, hbody, hposted⟩

/-- Between `s` and `t` engine `n`, which issued in `u`, completed an instruction that sent one request and noted it as `x` among its outstanding
accesses. -/
def RequestSent (n addr : Nat) (body : Payload) (x : FarAcc) (s u t : State) : Prop :=
  Requests (.eng n) addr body s t ∧ (eng n t).far = (eng n u).far ++ [x] ∧ GKept (eng n u) (eng n t) ∧ t.mem = s.mem ∧ Completes n u t ∧
  ∀ m, m ≠ n → eng m t = eng m s

theorem requestSent_inOrder {n addr : Nat} {body : Payload} {x : FarAcc} {r s u t : State} (h : RequestSent n addr body x s u t) :
    RequestSent n addr body x s u (inOrder r t) := h

/-- What an instruction that sends one request and notes it gives. -/
theorem effect_of_request {c : Instr} {n : Nat} {w : Word} {fetch : Ecc} {wf : Bool} {writes : List Nat} {g : Engine → Nat → Issue}
    {op : State → State} {s : State} {x : FarAcc} {body : Payload} {aw : Bool} {f : State → State} (he : exec c s = .next (gated false wf op s))
    (hop : op s = farOp n w fetch writes g s) (hwf : wf = true) (h : Free n w fetch (farRegs w) s) (hres : farReserved w = false)
    (hal : farAddr (eng n (issuing n fetch s)) (fieldOf w 20 17) % farSize w = 0)
    (hbody : g (eng n (issuing n fetch s)).issued (farAddr (eng n (issuing n fetch s)) (fieldOf w 20 17)) =
      .done { (eng n (issuing n fetch s)).issued with far := (eng n (issuing n fetch s)).far ++ [x] } f)
    (hf : ∀ v, f v = send (.eng n) useFar 0 (farAddr (eng n (issuing n fetch s)) (fieldOf w 20 17)) body false aw v) :
    Effect c s (RequestSent n (farAddr (eng n (issuing n fetch s)) (fieldOf w 20 17)) body x s (issuing n fetch s)) := by
  have hn : n < 512 := h.2.1
  have hat : AtEngine n s (issuing n fetch s) := atEngine_issuing n fetch s
  refine effect_of_far he hop hwf h hres hal hbody rfl rfl fun v hv hc ho => requestSent_inOrder ?_
  rw [hf]
  refine ⟨requests_send ((onlyEngine_noc ho).trans hat.noc) _ _, ?_, ?_, ?_, completes_send hn hc _ _ _ _ _, fun m hm => ?_⟩
  · rw [eng_congr (send_eng _ _ _ _ _ _ _ _), hv]
    exact advance_far _
  · rw [eng_congr (send_eng _ _ _ _ _ _ _ _), hv]
    exact gKept_of (done_g _ _) (done_bank _ _)
  · rw [send_mem, onlyEngine_mem ho, hat.mem]
  · rw [eng_congr (send_eng _ _ _ _ _ _ _ _), ho.2.2.1 m hm, hat.others m hm]

/-- `ldf` with its address aligned and fewer than 16 accesses outstanding. -/
theorem ldf_effect {n : Nat} {w : Word} {fetch : Ecc} {s : State} (hwf : (Instr.ldf n w fetch).wf = true) (h : Free n w fetch (farRegs w) s)
    (hres : farReserved w = false) (hal : farAddr (eng n (issuing n fetch s)) (fieldOf w 20 17) % farSize w = 0)
    (hlen : (eng n (issuing n fetch s)).far.length < 16) :
    Effect (.ldf n w fetch) s (RequestSent n (farAddr (eng n (issuing n fetch s)) (fieldOf w 20 17)) (.read (farSize w))
      ⟨nextTxn s, (ldfDest w).map (gKey (eng n (issuing n fetch s)).bank), (eng n (issuing n fetch s)).bank,
        farAddr (eng n (issuing n fetch s)) (fieldOf w 20 17)⟩ s (issuing n fetch s)) :=
  effect_of_request (exec_ldf n w fetch s) rfl hwf h hres hal (aw := decide (fieldOf w 16 16 = 1))
    (if_neg (show ¬16 ≤ (eng n (issuing n fetch s)).far.length by omega)) fun _ => rfl

/-- `stf.ack` likewise. -/
theorem stfAck_effect {n : Nat} {w : Word} {fetch : Ecc} {s : State} (hwf : (Instr.stfAck n w fetch).wf = true) (h : Free n w fetch (farRegs w) s)
    (hres : farReserved w = false) (hal : farAddr (eng n (issuing n fetch s)) (fieldOf w 20 17) % farSize w = 0)
    (hlen : (eng n (issuing n fetch s)).far.length < 16) :
    Effect (.stfAck n w fetch) s (RequestSent n (farAddr (eng n (issuing n fetch s)) (fieldOf w 20 17))
      (.write (leBytes (farSize w) (storeValue (eng n (issuing n fetch s)) w (decide (fieldOf w 15 15 = 1)))))
      ⟨nextTxn s, [], (eng n (issuing n fetch s)).bank, farAddr (eng n (issuing n fetch s)) (fieldOf w 20 17)⟩ s (issuing n fetch s)) :=
  effect_of_request (exec_stfAck n w fetch s) rfl hwf h hres hal (aw := decide (fieldOf w 16 16 = 1))
    (if_neg (show ¬16 ≤ (eng n (issuing n fetch s)).far.length by omega)) fun _ => rfl

/-- `stf` with its address aligned and fewer than 32 stores queued. -/
theorem stf_effect {n : Nat} {w : Word} {fetch : Ecc} {s : State} (hwf : (Instr.stf n w fetch).wf = true) (h : Free n w fetch (farRegs w) s)
    (hres : farReserved w = false) (hal : farAddr (eng n (issuing n fetch s)) (fieldOf w 20 17) % farSize w = 0)
    (hlen : (eng n (issuing n fetch s)).stq.length < 32) :
    Effect (.stf n w fetch) s fun t =>
      (eng n t).stq = (eng n (issuing n fetch s)).stq ++ [⟨farAddr (eng n (issuing n fetch s)) (fieldOf w 20 17),
        leBytes (farSize w) (storeValue (eng n (issuing n fetch s)) w (decide (fieldOf w 15 15 = 1))), decide (fieldOf w 16 16 = 1)⟩] ∧
      GKept (eng n (issuing n fetch s)) (eng n t) ∧ Completes n (issuing n fetch s) t ∧ OnlyEngine n (issuing n fetch s) t := by
  refine effect_of_far (exec_stf n w fetch s) rfl hwf h hres hal (f := id)
    (if_neg (show ¬32 ≤ (eng n (issuing n fetch s)).stq.length by omega)) rfl rfl fun v hv hc ho => ?_
  rw [id, inOrder_same ((onlyEngine_evt ho).trans (atEngine_issuing n fetch s).evt), hv]
  exact ⟨advance_stq _, gKept_of (done_g _ _) (done_bank _ _), hc, ho⟩

/-- `fencef` completes once nothing is outstanding, and otherwise waits. -/
theorem fencef_effect {n : Nat} {w : Word} {fetch : Ecc} {s : State} (hwf : (Instr.fencef n w fetch).wf = true) (h : Free n w fetch [] s)
    (hz : fieldOf w 20 0 = 0) :
    Effect (.fencef n w fetch) s fun t =>
      let u := issuing n fetch s
      if (eng n u).far = [] ∧ (eng n u).stq = [] ∧ unaccepted (.eng n) useStf s = false then
        RegsOnly (eng n u) (eng n t) ∧ GKept (eng n u) (eng n t) ∧ Completes n u t ∧ OnlyEngine n u t
      else t = u := by
  have hcond : ∀ e : Engine, (e.far.isEmpty && e.stq.isEmpty && !(unaccepted (.eng n) useStf s)) = true ↔
      e.far = [] ∧ e.stq = [] ∧ unaccepted (.eng n) useStf s = false := fun e => by
    simp only [Bool.and_eq_true, List.isEmpty_iff, Bool.not_eq_true', and_assoc]
  dsimp only
  by_cases hq : (eng n (issuing n fetch s)).far = [] ∧ (eng n (issuing n fetch s)).stq = [] ∧ unaccepted (.eng n) useStf s = false
  · refine effect_of_regs (exec_fencef n w fetch s) rfl hwf h (by simp [hz]) (.inl rfl) (e := (eng n (issuing n fetch s)).issued)
      (if_pos ((hcond _).2 hq)) rfl rfl fun t ht hc ho => ?_
    rw [if_pos hq, ht]
    exact ⟨regsOnly_done (regsOnly_issued _) _, gKept_of (done_g _ _) (done_bank _ _), hc, ho⟩
  · refine ⟨_, exec_of_issue (exec_fencef n w fetch s) rfl hwf h (by simp [hz]) (.inl rfl), ?_⟩
    dsimp only
    rw [if_neg fun hc => hq ((hcond (eng n (issuing n fetch s)).issued).1 hc), if_neg hq]
    exact inOrder_same (atEngine_issuing n fetch s).evt

/-- Between `s` and `t` the store `f` has left the queue of engine `n`, of which `r` remain, as a posted write. -/
def StoreInjected (n : Nat) (f : FarStore) (r : List FarStore) (s t : State) : Prop :=
  (eng n t).stq = r ∧ (∀ q, (eng n t).gr q = (eng n s).gr q) ∧ t.mem = s.mem ∧ (∀ m, m ≠ n → eng m t = eng m s) ∧
  (originCode (srcOf (.eng n) s) 2 f.addr (.write f.bs) s = none →
    ∃ x : Txn, t.noc.txns = s.noc.txns ++ [x] ∧ x.agent = .eng n ∧ x.cls = 2 ∧ x.addr = f.addr ∧ x.body = .write f.bs ∧ x.posted = true)

theorem storeInjected_inOrder {n : Nat} {f : FarStore} {l : List FarStore} {r s t : State} (h : StoreInjected n f l s t) :
    StoreInjected n f l s (inOrder r t) := h

theorem farStoreInjected_effect {n : Nat} {s : State} {f : FarStore} {r : List FarStore} (hrun : Running s) (hn : n < 512)
    (hq : (eng n s).stq = f :: r) : Effect (.farStoreInjected n) s (StoreInjected n f r s) := by
  let v := modEng n (fun e => { e with stq := r }) s
  have hop : opFarStoreInjected n s = send (.eng n) useStf 2 f.addr (.write f.bs) true f.aw v := by
    unfold opFarStoreInjected
    rw [hq]
    rfl
  refine ⟨_, exec_of_gated (exec_farStoreInjected n s) hrun (below_of_lt hn), ?_⟩
  rw [hop]
  refine storeInjected_inOrder ⟨?_, fun q => ?_, ?_, fun m hm => ?_, fun hcode => ?_⟩
  · rw [eng_congr (send_eng _ _ _ _ _ _ _ _), eng_modEng_same]
  · rw [eng_congr (send_eng _ _ _ _ _ _ _ _), eng_modEng_same]
    rfl
  · rw [send_mem, modEng_mem]
  · rw [eng_congr (send_eng _ _ _ _ _ _ _ _)]
    exact eng_setEng_other hm _ s
  · have hcode' : originCode (srcOf (.eng n) v) 2 f.addr (.write f.bs) v = none :=
      (originCode_modEng (srcNode_eng hn s) (by rw [srcPort_eng]; decide) 2 f.addr f.bs n _ s).trans hcode
    obtain ⟨x, htxns, -, hag, -, hcls, haddr, hbody, hposted⟩ :=
      send_txns (use := useStf) (posted := true) (aw := f.aw) (.inr hcode')
    exact ⟨x, htxns, hag, hcls, haddr, hbody, hposted⟩

/-- Settles O6: `ldf` and `stf.ack` send, `stf` queues, `fencef` waits for both, and the queue is sent from its front. -/
theorem farAccessIssue : Obligations.FarAccessIssue := by
  unfold Obligations.FarAccessIssue
  refine ⟨fun n w fetch s h hres hal => ⟨fun hwf hlen => ?_, fun hwf hlen => ?_, fun hwf hlen => ?_⟩, fun _ _ _ _ => fencef_effect,
    fun _ _ _ _ => farStoreInjected_effect⟩
  · obtain ⟨t, ht, hreq, hfar, hrest⟩ := ldf_effect hwf h hres hal hlen
    exact ⟨t, ht, hreq, ⟨_, hfar, rfl, rfl, rfl⟩, hrest⟩
  · obtain ⟨t, ht, hstq, hrest⟩ := stf_effect hwf h hres hal hlen
    exact ⟨t, ht, ⟨_, hstq, rfl, rfl, rfl⟩, hrest⟩
  · obtain ⟨t, ht, hreq, hfar, hrest⟩ := stfAck_effect hwf h hres hal hlen
    exact ⟨t, ht, hreq, ⟨_, hfar, rfl, rfl⟩, hrest⟩

end Sys2Proof.Machine
end

section
/-! A halt with a result on its way for more than three cycles: O11 fails. -/
namespace Sys2Proof.Machine
open Sys2Proof.Safety

/-- Refutes O11: its hypotheses allow a result that lands in the fourth cycle, where an instruction's results land by the third (R67). `settle` lets
three cycles pass, so such a result is still on its way when the engine is HALTED, where the statement says that none is. -/
theorem not_engineControlResults : ¬ Obligations.EngineControlResults := by
  rintro ⟨-, -, -, -, -, -, -, -, -, hhalted, -⟩
  let s : State := { State.reset with eng := [(0, { mode := .run, land := [⟨4, .g 1 0⟩] })] }
  have hrunning : Running s := ⟨rfl, by decide +kernel⟩
  have hhalt : flagOn (Reg.ENG_CTRL 0) 0 s = true := by decide +kernel
  have hstays : (eng 0 (gated false (below 512 0) (opEngHalted 0) s)).land ≠ [] := by decide +kernel
  obtain ⟨t, hexec, -, -, -, -, -, hnone⟩ := hhalted 0 s hrunning (by decide) hhalt rfl rfl rfl rfl rfl rfl
  obtain rfl : gated false (below 512 0) (opEngHalted 0) s = t := by
    rw [exec_engHalted] at hexec
    exact Host.Outcome.next.inj hexec
  exact hstays hnone

end Sys2Proof.Machine
end

section
/-! The vector slot (R66, R119, R126, R127): the issue of an instruction, and what it answers by the outcome of its body. -/
namespace Sys2Proof.Machine
open Sys2Proof.Safety

/-! ### Issue -/

theorem atEngine_atIssueSlot (n : Nat) (vector : Bool) (reads : List Nat) (s : State) : AtEngine n s (atIssue n vector reads s) := by
  unfold atIssue
  refine AtEngine.trans ?_ (atEngine_modEng n _ _)
  split
  · exact .refl n s
  · exact atEngine_cyclesPass n _ s

theorem atEngine_vissuing (n : Nat) (reads : List Nat) (fetch : Ecc) (s : State) : AtEngine n s (vissuing n reads fetch s) :=
  ((atEngine_atIssueSlot n true reads s).trans (atEngine_fetchNoted n fetch _)).trans (atEngine_wr n _ _ _)

/-- What the fetch found, and the count of vector instructions, change no engine. -/
theorem eng_vissuing (m n : Nat) (reads : List Nat) (fetch : Ecc) (s : State) :
    eng m (vissuing n reads fetch s) = eng m (atIssue n true reads s) :=
  eng_congr (fetchNoted_eng _ _ _) m

/-- The cycles before an instruction issues leave the power of the vector unit. -/
theorem atIssue_vpwr (n : Nat) (vector : Bool) (reads : List Nat) (s : State) : (eng n (atIssue n vector reads s)).vpwr = (eng n s).vpwr := by
  have hland : ∀ (e : Engine) x, (e.landIn x).vpwr = e.vpwr :=
    landIn_keeps (fun _ _ _ _ _ => rfl) (fun b x v e => by rw [specialWrite_eq]) (fun c v e => by rw [vctlWrite_eq])
  unfold atIssue
  rw [eng_modEng_same]
  split
  · rfl
  · exact cyclesPass_keeps (P := fun e => e.vpwr = (eng n s).vpwr) (fun e x h => (hland e x).trans h) (fun _ _ h => h) (fun _ _ h => h) _ rfl

/-- A free vector slot finishes the instruction it issues, or the ILLEGAL that it raises (R114). -/
theorem vissue_free {n : Nat} {isIt : Word → Bool} {fetch : Ecc} {reads gd : List Nat} {s : State}
    (h : VFree n isIt fetch reads (reads ++ gd) s) (sub : Engine → Nat) (body : Engine → Issue) :
    let u := vissuing n reads fetch s
    vissue n isIt fetch reads gd sub body s =
      finish n none 2 (if sub (eng n u) ≠ 0 then .fault 2 (sub (eng n u)) 0 0 else body (eng n u).issued) u := by
  obtain ⟨-, -, hup, hissue, hfetch, hsound, hfree⟩ := h
  have hpower : (eng n (atIssue n true reads s)).vpwr = 0 := (atIssue_vpwr _ _ _ _).trans hup
  dsimp only
  rw [eng_vissuing]
  unfold vissue
  simp [hissue, hfetch, hsound, hpower, hfree, vissuing]

/-- A well-formed instruction of a free vector slot is answered with its issue finished. -/
theorem exec_of_vissue {c : Instr} {n : Nat} {isIt : Word → Bool} {fetch : Ecc} {wf : Bool} {reads gd : List Nat} {sub : Engine → Nat}
    {body : Engine → Issue} {op : State → State} {s : State} (he : exec c s = .next (gated false wf op s))
    (hop : op s = vissue n isIt fetch reads gd sub body s) (hwf : wf = true) (h : VFree n isIt fetch reads (reads ++ gd) s) :
    let u := vissuing n reads fetch s
    exec c s = .next (inOrder s
      (finish n none 2 (if sub (eng n u) ≠ 0 then .fault 2 (sub (eng n u)) 0 0 else body (eng n u).issued) u)) := by
  dsimp only
  rw [exec_of_gated he h.1 hwf, hop, vissue_free h]

/-- An instruction of the vector slot that completes with its engine at `e`, pc and RS as they were, and with `f` outside it. -/
theorem effect_of_vissue {c : Instr} {n : Nat} {isIt : Word → Bool} {fetch : Ecc} {wf : Bool} {reads gd : List Nat} {sub : Engine → Nat}
    {body : Engine → Issue} {op : State → State} {s : State} {e : Engine} {f : State → State} {post : State → Prop}
    (he : exec c s = .next (gated false wf op s)) (hop : op s = vissue n isIt fetch reads gd sub body s) (hwf : wf = true)
    (h : VFree n isIt fetch reads (reads ++ gd) s) (hsub : sub (eng n (vissuing n reads fetch s)) = 0)
    (hbody : body (eng n (vissuing n reads fetch s)).issued = .done e f)
    (hpc : e.pc = (eng n (vissuing n reads fetch s)).pc) (hrs : e.rs = (eng n (vissuing n reads fetch s)).rs)
    (hpost : ∀ v, eng n v = { e.advance with pair := none } → Completes n (vissuing n reads fetch s) v →
      OnlyEngine n (vissuing n reads fetch s) v → post (inOrder s (f v))) : Effect c s post := by
  refine ⟨_, exec_of_vissue he hop hwf h, ?_⟩
  rw [if_neg (not_not.2 hsub), hbody]
  obtain ⟨heng, -, honly⟩ := finish_regs n 2 none e (vissuing n reads fetch s)
  exact hpost _ heng (finish_completes n 2 none e _ hpc hrs) honly

/-- An instruction of the vector slot that may not act on these elements enters the ILLEGAL handler from bank 0 (R114). -/
theorem effect_of_vfault {c : Instr} {n : Nat} {isIt : Word → Bool} {fetch : Ecc} {wf : Bool} {reads gd : List Nat} {sub : Engine → Nat}
    {body : Engine → Issue} {op : State → State} {s : State} {k : Nat} (he : exec c s = .next (gated false wf op s))
    (hop : op s = vissue n isIt fetch reads gd sub body s) (hwf : wf = true) (h : VFree n isIt fetch reads (reads ++ gd) s)
    (hsub : sub (eng n (vissuing n reads fetch s)) = k) (hk : k ≠ 0) (hbank : (eng n (vissuing n reads fetch s)).bank = 0) :
    Effect c s (Entered n 2 2 (causeWord false 0 k 2) (eng n (vissuing n reads fetch s)).pc 0 0 (vissuing n reads fetch s)) := by
  refine ⟨_, exec_of_vissue he hop hwf h, ?_⟩
  rw [hsub, if_pos hk]
  exact entered_inOrder (entered_fault hbank (by decide))

/-! ### What the body of most vector instructions leaves of its engine -/

/-- Before the engine goes on, an instruction of the vector slot has changed no more than the flags of ST, vpos, and the results on their way. -/
def VBody (e e' : Engine) : Prop :=
  e' = { e with st0 := e'.st0, st1 := e'.st1, vpos := e'.vpos, land := e'.land, lastPc := e'.lastPc, stale := e'.stale }

theorem VBody.trans {e e' e'' : Engine} (h : VBody e e') (k : VBody e' e'') : VBody e e'' := by
  unfold VBody at *
  rw [k, h]

theorem vBody_issued (e : Engine) : VBody e e.issued := rfl
theorem vBody_later (e : Engine) (k : Nat) (x : Landed) : VBody e (e.later k x) := rfl
theorem vBody_vdone (e : Engine) : VBody e e.vdone := rfl
theorem vBody_orSov (e : Engine) (c : Bool) : VBody e (e.orSov c) := by
  rw [orSov_eq]
  rfl
theorem vBody_orAov (e : Engine) (c : Bool) : VBody e (e.orAov c) := by
  rw [orAov_eq]
  rfl

theorem VBody.pc {e e' : Engine} (h : VBody e e') : e'.pc = e.pc := by rw [h]
theorem VBody.rs {e e' : Engine} (h : VBody e e') : e'.rs = e.rs := by
  rw [h]
  rfl

/-- The vector state of an engine that goes on. -/
@[simp] theorem done_vpos (e : Engine) (ws : Option (List Nat)) : ({ e.advance with pair := ws } : Engine).vpos = e.vpos := by rw [advance_eq]
@[simp] theorem done_v (e : Engine) (ws : Option (List Nat)) : ({ e.advance with pair := ws } : Engine).v = e.v := by rw [advance_eq]

theorem VBody.kept {e e' : Engine} (h : VBody e e') : VKept e { e'.advance with pair := none } := by
  constructor
  · rw [done_g, h]
  · unfold VBody at h
    unfold RegsAndFlagsOnly RegsOnly
    rw [advance_eq, h]

/-- Such an instruction completes with its engine at `e`, and draws nothing. -/
theorem effect_of_vbody {c : Instr} {n : Nat} {isIt : Word → Bool} {fetch : Ecc} {wf : Bool} {reads gd : List Nat} {sub : Engine → Nat}
    {body : Engine → Issue} {op : State → State} {s : State} {e : Engine} {post : State → Prop}
    (he : exec c s = .next (gated false wf op s)) (hop : op s = vissue n isIt fetch reads gd sub body s) (hwf : wf = true)
    (h : VFree n isIt fetch reads (reads ++ gd) s) (hsub : sub (eng n (vissuing n reads fetch s)) = 0)
    (hbody : body (eng n (vissuing n reads fetch s)).issued = .regs e) (hk : VBody (eng n (vissuing n reads fetch s)) e)
    (hpost : ∀ t, (eng n t).land = e.land → (eng n t).vpos = e.vpos → VKept (eng n (vissuing n reads fetch s)) (eng n t) →
      Completes n (vissuing n reads fetch s) t → OnlyEngine n (vissuing n reads fetch s) t → post t) : Effect c s post := by
  refine effect_of_vissue he hop hwf h hsub hbody hk.pc hk.rs fun t ht hc ho => ?_
  rw [id, inOrder_same ((onlyEngine_evt ho).trans (atEngine_vissuing n reads fetch s).evt)]
  refine hpost t ?_ ?_ ?_ hc ho
  all_goals rw [ht]
  · exact done_land _ _
  · exact done_vpos _ _
  · exact hk.kept

end Sys2Proof.Machine
end

section
/-! Elements of a register (R106, R107, R112): reading one after a pack, after a masked write, and after the write of an instruction. -/
namespace Sys2Proof.Machine
open Sys2Proof.Safety

/-! ### Elements of packed lists -/

theorem elem_eq_div (ew x i : Nat) : elem ew x i = x / 2 ^ (ew * i) % 2 ^ ew := by rw [elem, Nat.shiftRight_eq_div_pow]

theorem elem_lt (ew x i : Nat) : elem ew x i < 2 ^ ew := Nat.mod_lt _ (Nat.two_pow_pos ew)

theorem testBit_elem (ew x i j : Nat) : (elem ew x i).testBit j = (decide (j < ew) && x.testBit (ew * i + j)) := by
  rw [elem, Nat.testBit_mod_two_pow, Nat.testBit_shiftRight]

theorem elem_packElems (ew : Nat) (l : List Nat) (i : Nat) : elem ew (packElems ew l) i = l.getD i 0 % 2 ^ ew := by
  have hpos : 0 < 2 ^ ew := Nat.two_pow_pos ew
  rw [elem_eq_div]
  induction l generalizing i with
  | nil => simp [packElems]
  | cons x t ih =>
    cases i with
    | zero => simp [packElems, Nat.add_mod]
    | succ i =>
      rw [List.getD_cons_succ, ← ih, packElems, Nat.mul_succ, Nat.add_comm (ew * i), Nat.pow_add, ← Nat.div_div_eq_div_mul,
        Nat.add_mul_div_left _ _ hpos, Nat.div_eq_of_lt (Nat.mod_lt x hpos), Nat.zero_add]

theorem elem_packed {ew m i : Nat} (f : Nat → Nat) (h : i < m) : elem ew (packElems ew ((upto m).map f)) i = f i % 2 ^ ew := by
  simp [elem_packElems, upto, h]

theorem packElems_lt (ew : Nat) (l : List Nat) : packElems ew l < 2 ^ (ew * l.length) := by
  induction l with
  | nil => exact Nat.one_pos
  | cons x t ih =>
    have hx : x % 2 ^ ew < 2 ^ ew := Nat.mod_lt _ (Nat.two_pow_pos ew)
    rw [packElems, List.length_cons, Nat.mul_succ, Nat.add_comm (ew * t.length), Nat.pow_add]
    calc x % 2 ^ ew + 2 ^ ew * packElems ew t < 2 ^ ew * (packElems ew t + 1) := by rw [Nat.mul_succ]; omega
      _ ≤ 2 ^ ew * 2 ^ (ew * t.length) := Nat.mul_le_mul_left _ ih

theorem packed_lt (ew m : Nat) (f : Nat → Nat) : packElems ew ((upto m).map f) < 2 ^ (ew * m) := by
  simpa [upto] using packElems_lt ew ((upto m).map f)

/-- Packed elements fit a register of their width. -/
theorem packed_fits {k ew m : Nat} (hk : ew * m = k) (f : Nat → Nat) :
    (BitVec.ofNat k (packElems ew ((upto m).map f))).toNat = packElems ew ((upto m).map f) := by
  subst hk
  exact (BitVec.toNat_ofNat _ _).trans (Nat.mod_eq_of_lt (packed_lt ew m f))

/-! ### Masked writes -/

theorem testBit_underMask {k : Nat} (old m v : BitVec k) (i : Nat) :
    (underMask old m v).toNat.testBit i = if m.getLsbD i then v.getLsbD i else old.getLsbD i := by
  rw [BitVec.testBit_toNat, underMask, BitVec.getLsbD_or, BitVec.getLsbD_and, BitVec.getLsbD_and, BitVec.getLsbD_not]
  by_cases hi : i < k
  · cases m.getLsbD i <;> simp [hi]
  · simp [BitVec.getLsbD_of_ge _ _ (Nat.le_of_not_lt hi)]

/-- A bit of element `i` of the mask of writes: is the element written? -/
theorem testBit_writeMask {m ew i j : Nat} (ws : Nat → Option Nat) (hi : i < m) (hj : j < ew) :
    (writeMask m ew ws).testBit (ew * i + j) = (ws i).isSome := by
  have h := testBit_elem ew (writeMask m ew ws) i j
  rw [writeMask, elem_packed _ hi, decide_eq_true hj, Bool.true_and] at h
  rw [writeMask, ← h]
  cases ws i <;> simp [Nat.testBit_two_pow_sub_one, hj]

theorem testBit_writeVals {m ew i j : Nat} (ws : Nat → Option Nat) (hi : i < m) (hj : j < ew) :
    (writeVals m ew ws).testBit (ew * i + j) = ((ws i).getD 0).testBit j := by
  have h := testBit_elem ew (writeVals m ew ws) i j
  rw [writeVals, elem_packed _ hi, decide_eq_true hj, Bool.true_and, Nat.testBit_mod_two_pow, decide_eq_true hj, Bool.true_and] at h
  exact h.symm

/-- Element `i` of a register under the writes `ws`: what is written there, or what was there. -/
theorem elem_underMask {k m ew i : Nat} (hk : ew * m ≤ k) (old : BitVec k) (ws : Nat → Option Nat) (hi : i < m) :
    elem ew (underMask old (BitVec.ofNat k (writeMask m ew ws)) (BitVec.ofNat k (writeVals m ew ws))).toNat i =
      (ws i).elim (elem ew old.toNat i) (· % 2 ^ ew) := by
  refine Nat.eq_of_testBit_eq fun j => ?_
  rw [testBit_elem, testBit_underMask, BitVec.getLsbD_ofNat, BitVec.getLsbD_ofNat, ← BitVec.testBit_toNat]
  by_cases hj : j < ew
  · have hin : ew * i + j < k := by nlinarith
    rw [testBit_writeMask ws hi hj, testBit_writeVals ws hi hj, decide_eq_true hj, decide_eq_true hin, Bool.true_and, Bool.true_and, Bool.true_and]
    cases ws i <;> simp [testBit_elem, hj]
  · rw [decide_eq_false hj, Bool.false_and]
    cases ws i <;> simp [testBit_elem, hj]

theorem writeMask_lt (m ew : Nat) (ws : Nat → Option Nat) : writeMask m ew ws < 2 ^ (ew * m) := packed_lt ew m _
theorem writeVals_lt (m ew : Nat) (ws : Nat → Option Nat) : writeVals m ew ws < 2 ^ (ew * m) := packed_lt ew m _

/-! ### The writes of an instruction -/

/-- The elements of the current format fill a register (R106). -/
theorem ew_mul_nmax (e : Engine) : e.ew * e.nmax = 512 := by
  have h : ∀ t, t < 8 → typeWidth t * (512 / typeWidth t) = 512 := by decide
  exact h e.etype (Nat.mod_lt _ (by decide))

/-- Vector register `vd` once the writes `ws` of an instruction have landed. -/
def Engine.written (e : Engine) (vd : Nat) (ws : Nat → Option Nat) : Nat :=
  (underMask (BitVec.ofNat 512 (e.vr vd)) (BitVec.ofNat 512 (writeMask e.nmax e.ew ws)) (BitVec.ofNat 512 (writeVals e.nmax e.ew ws))).toNat

/-- A vector register's number is that of its bits. -/
theorem toNat_ofNat_vr (e : Engine) (r : Nat) : (BitVec.ofNat 512 (e.vr r)).toNat = e.vr r := by
  rw [Engine.vr, BitVec.ofNat_toNat, BitVec.setWidth_eq]

theorem elem_written (e : Engine) (vd : Nat) (ws : Nat → Option Nat) {i : Nat} (h : i < e.nmax) :
    elem e.ew (e.written vd ws) i = (ws i).elim (elem e.ew (e.vr vd) i) (· % 2 ^ e.ew) := by
  rw [Engine.written, elem_underMask (le_of_eq (ew_mul_nmax e)) _ _ h, toNat_ofNat_vr]

/-- The writes of an instruction that completes follow the fill rules (R112). -/
theorem writes_elim {α : Type} (e : Engine) (p : Option Nat) (f : Nat → Nat) (i : Nat) (old : α) (g : Nat → α) :
    (e.writes p f i).elim old g =
      if e.vcnt ≤ e.vpos ∨ i < e.vpos then old
      else if i < e.vcnt then (if e.activeAt p i then g (f i) else if bitOf e.vfmt 4 then g 0 else old)
      else if bitOf e.vfmt 3 then g 0 else old := by
  unfold Engine.writes
  simp only [apply_ite (fun o : Option Nat => o.elim old g), Option.elim_none, Option.elim_some]

theorem elements_written (p : Option Nat) (vd : Nat) (f : Nat → Nat) (e : Engine) : Elements p vd f e (e.written vd (e.writes p f)) :=
  fun i hi => by rw [elem_written e vd _ hi, writes_elim, Nat.zero_mod]

/-- A write on its way lands as its instruction made it. -/
theorem landsV_of {k vd : Nat} {e e' : Engine} {ws : Nat → Option Nat} {post : Nat → Prop} (h : e'.land = (e.laterV k vd ws).land)
    (hp : post (e.written vd ws)) : LandsV k vd e e' post := ⟨_, _, h, hp⟩

end Sys2Proof.Machine
end

section
/-! Element-wise arithmetic (R114, R116, R119): O14. -/
namespace Sys2Proof.Machine
open Sys2Proof.Safety

/-! ### One element -/

/-- The code of a sum, a difference and a product of signed values is that of the codes, modulo 2^w. -/
theorem unsigned_add (k x y : Nat) : unsigned (k + 1) (signed (k + 1) x + signed (k + 1) y) = (x + y) % 2 ^ (k + 1) := by
  rw [signed_eq_toInt, signed_eq_toInt, unsigned_eq_toNat, BitVec.ofInt_add, BitVec.ofInt_toInt, BitVec.ofInt_toInt, BitVec.toNat_add]
  simp

theorem unsigned_sub {k x y : Nat} (hy : y < 2 ^ (k + 1)) :
    unsigned (k + 1) (signed (k + 1) x - signed (k + 1) y) = (x + 2 ^ (k + 1) - y) % 2 ^ (k + 1) := by
  rw [signed_eq_toInt, signed_eq_toInt, unsigned_eq_toNat, Int.sub_eq_add_neg, BitVec.ofInt_add, BitVec.ofInt_neg, BitVec.ofInt_toInt,
    BitVec.ofInt_toInt, ← BitVec.sub_eq_add_neg, BitVec.toNat_sub, BitVec.toNat_ofNat, BitVec.toNat_ofNat, Nat.mod_eq_of_lt hy, Nat.add_mod_mod,
    Nat.add_comm, Nat.add_sub_assoc hy.le]

theorem unsigned_mul (k x y : Nat) : unsigned (k + 1) (signed (k + 1) x * signed (k + 1) y) = x * y % 2 ^ (k + 1) := by
  rw [signed_eq_toInt, signed_eq_toInt, unsigned_eq_toNat, BitVec.ofInt_mul, BitVec.ofInt_toInt, BitVec.ofInt_toInt, BitVec.toNat_mul]
  simp

/-- A signed value is of the low bits alone. -/
theorem signed_mod (w x : Nat) : signed w (x % 2 ^ w) = signed w x := by simp only [signed, Nat.mod_mod]

/-- The elements of a type and their halves are at least a bit wide. -/
theorem typeWidth_half (t : Nat) : ∃ k h, typeWidth t = k + 1 ∧ typeWidth t / 2 = h + 1 := by
  unfold typeWidth
  split
  all_goals exact ⟨_, _, rfl, rfl⟩

/-- An integer operation on an element is one on its value or on those of its halves, where `f` gives it for each width. -/
theorem intElem_byType {clamp : Bool} {op : Int → Int → Int} {f : Nat → Nat → Nat → Nat}
    (hf : ∀ k x y, x < 2 ^ (k + 1) → y < 2 ^ (k + 1) → (fitInt (k + 1) clamp (op (signed (k + 1) x) (signed (k + 1) y))).1 = f (k + 1) x y)
    {t x y : Nat} (hx : x < 2 ^ typeWidth t) (hy : y < 2 ^ typeWidth t) : (intElem t clamp op x y).1 = byType f t x y := by
  obtain ⟨k, h, hk, hh⟩ := typeWidth_half t
  unfold intElem byType
  split
  · rw [hk] at hx hy ⊢
    exact hf k x y hx hy
  · have hlt : ∀ z : Nat, z % 2 ^ (h + 1) < 2 ^ (h + 1) := fun z => Nat.mod_lt z (Nat.two_pow_pos _)
    have hhalf : ∀ x y, (fitInt (h + 1) clamp (op (signed (h + 1) x) (signed (h + 1) y))).1 = f (h + 1) (x % 2 ^ (h + 1)) (y % 2 ^ (h + 1)) :=
      fun x y => by rw [← signed_mod _ x, ← signed_mod _ y, hf h _ _ (hlt x) (hlt y)]
    rw [hh, byHalves]
    dsimp only
    rw [hhalf, hhalf, Nat.add_comm]

/-! ### The instructions -/

/-- A vector arithmetic instruction sends the elements `g` it makes to vD, by the fill rules. -/
theorem effect_of_varith {c : Instr} {wf : Bool} {n k vd : Nat} {p : Option Nat} {fetch : Ecc} {ok : Engine → Bool}
    {f : Engine → Nat → Nat × Bool} {s : State} (g : Engine → Nat → Nat)
    (he : exec c s = .next (gated false wf (varith n fetch k vd p ok f) s)) (hwf : wf = true) (h : VFree n isVecArith fetch [] [] s)
    (hok : ok (eng n (vissuing n [] fetch s)) = true) (hg : ∀ e i, (f (Engine.issued e) i).1 = g e i) :
    let u := vissuing n [] fetch s
    let e := eng n u
    Effect c s fun t =>
      LandsV k vd e (eng n t) (Elements p vd (g e) e) ∧ VKept e (eng n t) ∧ (eng n t).vpos = 0 ∧ Completes n u t ∧ OnlyEngine n u t := by
  intro u e
  have hgf : (fun i => (f e.issued i).1) = g e := funext (hg e)
  refine effect_of_vbody he rfl hwf h (congrArg need hok) rfl
    ((vBody_issued e).trans (((vBody_later _ _ _).trans (vBody_vdone _)).trans (vBody_orSov _ _))) fun t hl hv hkept hc ho => ?_
  rw [orSov_eq] at hl hv
  refine ⟨landsV_of (ws := e.writes p (g e)) ?_ (elements_written p vd (g e) e), hkept, hv, hc, ho⟩
  rw [hl, ← hgf]
  rfl

/-- An element-wise instruction of two sources. -/
theorem givesV_varith {k : Nat} {mk : Nat → Nat → Nat → Nat → Option Nat → Ecc → Instr} {ok : Nat → Bool} {f : Nat → Nat → Nat → Nat}
    (g : Nat → Nat → Nat → Engine → Nat → Nat × Bool)
    (he : ∀ n vd va vb p fetch s, exec (mk n vd va vb p fetch) s =
      .next (gated false (mk n vd va vb p fetch).wf (varith n fetch k vd p (fun e => ok e.etype) (g vd va vb)) s))
    (hg : ∀ vd va vb e i, (g vd va vb (Engine.issued e) i).1 = f e.etype (elem e.ew (e.vr va) i) (elem e.ew (e.vr vb) i)) :
    GivesV k mk ok f := by
  intro n vd va vb p fetch s hwf h u e
  refine ⟨fun hok => ?_, fun hok hbank => ?_⟩
  · obtain ⟨t, ht, hlands, hkept, hvpos, hc, ho⟩ := effect_of_varith (fun e i => f e.etype (elem e.ew (e.vr va) i) (elem e.ew (e.vr vb) i))
      (he n vd va vb p fetch s) hwf h hok (hg vd va vb)
    exact ⟨t, ht, hlands, hvpos, hkept, hc, ho⟩
  · exact effect_of_vfault (he n vd va vb p fetch s) rfl hwf h (congrArg need hok) (by decide) hbank

/-- An integer or complex instruction. -/
theorem givesV_vint {k : Nat} {mk : Nat → Nat → Nat → Nat → Option Nat → Ecc → Instr} {ok : Nat → Bool} {f : Nat → Nat → Nat → Nat}
    (clamp : Bool) (op : Int → Int → Int)
    (he : ∀ n vd va vb p fetch s, exec (mk n vd va vb p fetch) s =
      .next (gated false (mk n vd va vb p fetch).wf (vint n fetch k vd va vb p ok clamp op) s))
    (hf : ∀ k x y, x < 2 ^ (k + 1) → y < 2 ^ (k + 1) → (fitInt (k + 1) clamp (op (signed (k + 1) x) (signed (k + 1) y))).1 = f (k + 1) x y) :
    GivesV k mk ok (byType f) :=
  givesV_varith (fun _ va vb e i => intElem e.etype clamp op (elem e.ew (e.vr va) i) (elem e.ew (e.vr vb) i)) he
    fun _ _ _ _ _ => intElem_byType hf (elem_lt _ _ _) (elem_lt _ _ _)

/-- A float instruction. -/
theorem givesV_vfloat {mk : Nat → Nat → Nat → Nat → Option Nat → Ecc → Instr} (f : Nat → Nat → Nat → Nat)
    (he : ∀ n vd va vb p fetch s, exec (mk n vd va vb p fetch) s =
      .next (gated false (mk n vd va vb p fetch).wf (vfloat n fetch vd va vb p fun k a b _ => f k a b) s)) :
    GivesV 3 mk isFloat fun t => f (if t = 5 then 8 else 24) :=
  givesV_varith (fun _ va vb e i => (f (precOf e.etype) (elem e.ew (e.vr va) i) (elem e.ew (e.vr vb) i), false)) he fun _ _ _ _ _ => rfl

/-- The product `f` of cint16 elements, extracted with shift 15. -/
theorem vcmulWith_effect {c : Instr} {wf : Bool} {n vd va vb : Nat} {p : Option Nat} {f : CInt → CInt → CInt} {fetch : Ecc} {s : State}
    (he : exec c s = .next (gated false wf (vcmulWith n fetch vd va vb p f) s)) (hwf : wf = true) (h : VFree n isVecArith fetch [] [] s) :
    let u := vissuing n [] fetch s
    let e := eng n u
    e.etype = 3 →
    Effect c s fun t =>
      LandsV 3 vd e (eng n t) (Elements p vd
        (fun i => (extractC e.rnd e.satOn (f (cint16 (elem 32 (e.vr va) i)) (cint16 (elem 32 (e.vr vb) i))) 15).1) e) ∧
      VKept e (eng n t) ∧ (eng n t).vpos = 0 ∧ Completes n u t ∧ OnlyEngine n u t := fun htype =>
  effect_of_varith (fun e i => (extractC e.rnd e.satOn (f (cint16 (elem 32 (e.vr va) i)) (cint16 (elem 32 (e.vr vb) i))) 15).1) he hwf h
    (beq_iff_eq.2 htype) fun _ _ => rfl

/-- A float instruction that reads vD too. -/
theorem vfloat_effect {c : Instr} {wf : Bool} {n vd va vb : Nat} {p : Option Nat} {f : Nat → Nat → Nat → Nat → Nat} {fetch : Ecc} {s : State}
    (he : exec c s = .next (gated false wf (vfloat n fetch vd va vb p f) s)) (hwf : wf = true) (h : VFree n isVecArith fetch [] [] s) :
    let u := vissuing n [] fetch s
    let e := eng n u
    e.etype = 5 ∨ e.etype = 6 →
    Effect c s fun t =>
      LandsV 3 vd e (eng n t) (Elements p vd
        (fun i => f (if e.etype = 5 then 8 else 24) (elem e.ew (e.vr va) i) (elem e.ew (e.vr vb) i) (elem e.ew (e.vr vd) i)) e) ∧
      VKept e (eng n t) ∧ (eng n t).vpos = 0 ∧ Completes n u t ∧ OnlyEngine n u t := fun htype =>
  effect_of_varith (fun e i => f (if e.etype = 5 then 8 else 24) (elem e.ew (e.vr va) i) (elem e.ew (e.vr vb) i) (elem e.ew (e.vr vd) i))
    he hwf h (by simpa [isFloat] using htype) fun _ _ => rfl

/-- Settles O14: each instruction writes the elements its type's operation gives, or raises ILLEGAL. -/
theorem vectorArithmeticResults : Obligations.VectorArithmeticResults := by
  unfold Obligations.VectorArithmeticResults
  refine ⟨givesV_vint false (· + ·) exec_vadd fun k x y _ _ => unsigned_add k x y,
    givesV_vint false (· - ·) exec_vsub fun k x y _ hy => unsigned_sub hy,
    givesV_vint false (· * ·) exec_vmul fun k x y _ _ => unsigned_mul k x y,
    givesV_vint true (· + ·) exec_vadds fun _ _ _ _ _ => rfl,
    givesV_vint true (· - ·) exec_vsubs fun _ _ _ _ _ => rfl,
    givesV_vfloat fpAdd exec_vfadd, givesV_vfloat fpSub exec_vfsub, givesV_vfloat fpMul exec_vfmul,
    fun n vd va vb p fetch s => vfloat_effect (exec_vfma n vd va vb p fetch s), fun n vd va vb p conj fetch s hwf h => ?_⟩
  cases conj with
  | false =>
    simp only [Bool.false_eq_true, if_false]
    exact vcmulWith_effect (f := CInt.mul) (exec_vcmul n vd va vb p fetch s) hwf h
  | true =>
    simp only [if_true]
    exact vcmulWith_effect (f := fun x h => x.mul h.conj) (exec_vcmulc n vd va vb p fetch s) hwf h

end Sys2Proof.Machine
end

section
/-! Wide elements in a register pair (R113, R117, R119): what the next accumulation finds. -/
namespace Sys2Proof.Machine
open Sys2Proof.Safety

/-! ### Register pairs -/

theorem toNat_pair {k : Nat} (lo hi : BitVec k) : (hi ++ lo).toNat = lo.toNat + hi.toNat * 2 ^ k := by
  rw [BitVec.toNat_append, Nat.shiftLeft_eq, Nat.mul_comm, ← Nat.two_pow_add_eq_or_of_lt lo.isLt, Nat.add_comm]

theorem getLsbD_underMask {k : Nat} (old m v : BitVec k) (i : Nat) :
    (underMask old m v).getLsbD i = if m.getLsbD i then v.getLsbD i else old.getLsbD i := by
  rw [← BitVec.testBit_toNat, testBit_underMask]

/-- A write of a pair is one of each of its registers. -/
theorem underMask_pair {k : Nat} (lo hi : BitVec k) (m v : Nat) :
    underMask hi (BitVec.ofNat k (m / 2 ^ k)) (BitVec.ofNat k (v / 2 ^ k)) ++ underMask lo (BitVec.ofNat k m) (BitVec.ofNat k v) =
      underMask (hi ++ lo) (BitVec.ofNat (k + k) m) (BitVec.ofNat (k + k) v) := by
  refine BitVec.eq_of_getLsbD_eq fun i hi => ?_
  rw [BitVec.getLsbD_append, getLsbD_underMask, getLsbD_underMask, getLsbD_underMask, BitVec.getLsbD_append]
  simp only [BitVec.getLsbD_ofNat, Nat.testBit_div_two_pow, hi, decide_true, Bool.true_and]
  by_cases h : i < k
  · simp [h]
  · have hin : i - k < k := by omega
    have hback : i - k + k = i := by omega
    simp [h, hin, hback]

/-! ### Wide accumulations on their way -/

/-- What one result on its way makes of register `r` as the next wide accumulation finds it. -/
def wideStep (r : Nat) (v : BitVec 512) (x : Landing) : BitVec 512 :=
  match x.what with
  | .wide j m w => if j = r then underMask v m w else v
  | _ => v

/-- Register `r` as the next wide accumulation finds it, in bits. -/
def wideBits (land : List Landing) (regs : List (Nat × BitVec 512)) (r : Nat) : BitVec 512 :=
  land.foldl (wideStep r) (tabGet (fun _ => (0 : BitVec 512)) regs r)

theorem widePair_eq (e : Engine) (r : Nat) : e.widePair r = (wideBits e.land e.v (r + 1) ++ wideBits e.land e.v r).toNat := by
  rw [toNat_pair]
  rfl

theorem wideBits_append (land : List Landing) (regs : List (Nat × BitVec 512)) (r k j : Nat) (m w : BitVec 512) :
    wideBits (land ++ [⟨k, .wide j m w⟩]) regs r =
      if j = r then underMask (wideBits land regs r) m w else wideBits land regs r := by
  rw [wideBits, List.foldl_append]
  rfl

/-- The pair `r` with the writes `ws` to its wide elements on their way, as the next accumulation finds it. -/
theorem elem_widePair {e e' : Engine} {r i : Nat} (ws : Nat → Option Nat) (htype : e.etype = 3) (hl : e'.land = (e.laterWide r ws).land)
    (hv : e'.v = e.v) (hi : i < 16) :
    elem 64 (e'.widePair r) i = (ws i).elim (elem 64 (e.widePair r) i) (· % 2 ^ 64) := by
  have hm : e.nmax = 16 := by rw [Engine.nmax, Engine.ew, htype]; rfl
  have hne : r + 1 ≠ r := Nat.succ_ne_self r
  have hwrite : wideBits e'.land e'.v (r + 1) ++ wideBits e'.land e'.v r =
      underMask (wideBits e.land e.v (r + 1) ++ wideBits e.land e.v r) (BitVec.ofNat _ (writeMask 16 64 ws))
        (BitVec.ofNat _ (writeVals 16 64 ws)) := by
    rw [hl, hv, ← underMask_pair]
    simp only [Engine.laterWide, Engine.later, wideBits_append, hm, hne, hne.symm, if_true, if_false]
  rw [widePair_eq, hwrite, elem_underMask (by decide) _ ws hi, ← widePair_eq]

end Sys2Proof.Machine
end

section
/-! Accumulations on cint16 sources and extraction from a pair (R115, R117). -/
namespace Sys2Proof.Machine
open Sys2Proof.Safety

/-- The pair `vd` in `e'` is that in `e` with `term` added to its active elements, each half wrapped, the others by the fill rules. -/
def WideSum (e e' : Engine) (p : Option Nat) (vd : Nat) (term : Nat → CInt) : Prop :=
  ∀ i, i < 16 → elem 64 (e'.widePair vd) i =
    (let old := elem 64 (e.widePair vd) i
     if e.vcnt ≤ e.vpos ∨ i < e.vpos then old
     else if i < e.vcnt then
       (if e.activeAt p i then
         unsigned 32 (signed 32 old + (term i).re) + unsigned 32 (signed 32 (old / 2 ^ 32) + (term i).im) * 2 ^ 32
        else if bitOf e.vfmt 4 then 0 else old)
     else if bitOf e.vfmt 3 then 0 else old)

theorem unsigned_lt (k : Nat) (i : Int) : unsigned k i < 2 ^ k := by
  rw [unsigned_eq_toNat]
  exact BitVec.isLt _

theorem packC32_lt (c : CInt) : packC32 c < 2 ^ 64 := by
  have h1 := unsigned_lt 32 c.re
  have h2 := unsigned_lt 32 c.im
  unfold packC32
  omega

theorem wideAcc_land (e : Engine) (vd : Nat) (p : Option Nat) (term : Nat → CInt) : (e.wideAcc vd p term).land =
    (e.laterWide vd (e.writes p fun i => packC32 ((cint32 (elem 64 (e.widePair vd) i)).add (term i)))).land := orAov_land _ _

theorem vBody_wideAcc (e : Engine) (vd : Nat) (p : Option Nat) (term : Nat → CInt) : VBody e (e.wideAcc vd p term) :=
  ((vBody_later _ _ _).trans (vBody_later _ _ _)).trans (vBody_orAov _ _)

theorem VBody.v {e e' : Engine} (h : VBody e e') : e'.v = e.v := by rw [h]

/-- A wide accumulation adds its terms. -/
theorem wideSum_wideAcc {e : Engine} (htype : e.etype = 3) (p : Option Nat) (vd : Nat) (term : Nat → CInt) :
    WideSum e (e.wideAcc vd p term) p vd term := by
  intro i hi
  rw [elem_widePair _ htype (wideAcc_land e vd p term) (vBody_wideAcc e vd p term).v hi, writes_elim, Nat.zero_mod,
    Nat.mod_eq_of_lt (packC32_lt _), packC32, Nat.add_comm]
  rfl

theorem widePair_congr {e e' : Engine} (hl : e'.land = e.land) (hv : e'.v = e.v) (r : Nat) : e'.widePair r = e.widePair r := by
  rw [widePair_eq, widePair_eq, hl, hv]

theorem WideSum.congr {e e' e'' : Engine} {p : Option Nat} {vd : Nat} {term : Nat → CInt} (h : WideSum e.issued e' p vd term)
    (hp : e''.widePair vd = e'.widePair vd) : WideSum e e'' p vd term := fun i hi => by
  rw [hp]
  exact h i hi

/-- Both halves of a wide accumulation are on their way. -/
theorem wideAcc_lands (e : Engine) (vd : Nat) (p : Option Nat) (term : Nat → CInt) :
    ∃ m v m' v', (e.wideAcc vd p term).land = e.land ++ [⟨3, .wide vd m v⟩, ⟨3, .wide (vd + 1) m' v'⟩] := by
  rw [wideAcc_land]
  exact ⟨_, _, _, _, List.append_assoc _ _ _⟩

/-- A wide accumulation of the product `f` of cint16 elements. -/
theorem vcmacWith_effect {c : Instr} {wf : Bool} {n vd va vb : Nat} {p : Option Nat} {fetch : Ecc} {s : State} (f : CInt → CInt → CInt)
    (he : exec c s = .next (gated false wf (vcmacWith n fetch vd va vb p f) s)) (hwf : wf = true) (h : VFree n isVecArith fetch [] [] s)
    (heven : vd % 2 = 0) :
    let u := vissuing n [] fetch s
    let e := eng n u
    e.etype = 3 →
    Effect c s fun t =>
      WideSum e (eng n t) p vd (fun i => f (cint16 (elem 32 (e.vr va) i)) (cint16 (elem 32 (e.vr vb) i))) ∧
      (∃ m v m' v', (eng n t).land = e.land ++ [⟨3, .wide vd m v⟩, ⟨3, .wide (vd + 1) m' v'⟩]) ∧
      VKept e (eng n t) ∧ (eng n t).vpos = 0 ∧ Completes n u t ∧ OnlyEngine n u t := by
  intro u e htype
  have hok : (isC16 e.etype && vd % 2 == 0) = true := by simp [isC16, htype, heven]
  let term := fun i => f (cint16 (elem 32 (e.vr va) i)) (cint16 (elem 32 (e.vr vb) i))
  have hsum : VBody e.issued (e.issued.wideAcc vd p term) := vBody_wideAcc _ _ _ _
  refine effect_of_vbody he rfl hwf h (congrArg need hok) (e := (e.issued.wideAcc vd p term).vdone) rfl
    ((vBody_issued e).trans (hsum.trans (vBody_vdone _))) fun t hl hv hkept hc ho => ?_
  have hregs : (eng n t).v = (e.issued.wideAcc vd p term).v := by rw [hkept.2, hsum.v, (vBody_issued e).v]
  obtain ⟨m, v, m', v', hlands⟩ := wideAcc_lands e.issued vd p term
  exact ⟨(wideSum_wideAcc (e := e.issued) htype p vd term).congr (widePair_congr hl hregs vd), ⟨m, v, m', v', hl.trans hlands⟩,
    hkept, hv, hc, ho⟩

/-- `vracc`. -/
theorem vracc_effect {n vd va sh : Nat} {fetch : Ecc} {s : State} (hwf : (Instr.vracc n vd va sh fetch).wf = true)
    (h : VFree n isVecArith fetch [] [] s) (heven : va % 2 = 0) (hlo : vd ≠ va) (hhi : vd ≠ va + 1) :
    let u := vissuing n [] fetch s
    let e := eng n u
    let v := fun (i : Nat) => elem 64 (e.vr va + e.vr (va + 1) * 2 ^ 512) i
    e.etype = 3 →
    Effect (.vracc n vd va sh fetch) s fun t =>
      LandsV 3 vd e (eng n t) (Elements none vd (fun i => (extractC e.rnd e.satOn ⟨signed 32 (v i), signed 32 (v i / 2 ^ 32)⟩ sh).1) e) ∧
      VKept e (eng n t) ∧ (eng n t).vpos = 0 ∧ Completes n u t ∧ OnlyEngine n u t := by
  intro u e v htype
  have hsh : sh % 32 = sh := by
    have : (below 512 n && below 32 vd && below 32 va && below 32 sh) = true := hwf
    simp only [below, Bool.and_eq_true, decide_eq_true_eq] at this
    exact Nat.mod_eq_of_lt this.2
  have hok : (isC16 e.etype && va % 2 == 0 && vd != va && vd != va + 1) = true := by simp [isC16, htype, heven, hlo, hhi]
  refine effect_of_varith (fun e i => (extractC e.rnd e.satOn (cint32 (elem 64 (e.vpair va) i)) sh).1) (exec_vracc n vd va sh fetch s) hwf h hok
    fun e i => ?_
  rw [hsh]
  rfl

end Sys2Proof.Machine
end

section
/-! `vftap` (R118), and O15. -/
namespace Sys2Proof.Machine
open Sys2Proof.Safety

/-! ### A vector register written for the next cycle -/

/-- Results on their way that are no wide accumulation of register `r` do not matter to what the next one finds. -/
theorem wideBits_filter {keep : Landing → Bool} {r : Nat} (h : ∀ x, keep x = false → ∀ v, wideStep r v x = v) (land : List Landing)
    (regs : List (Nat × BitVec 512)) : wideBits (land.filter keep) regs r = wideBits land regs r := by
  have hstep : (fun v x => if keep x then wideStep r v x else v) = wideStep r := by
    funext v x
    split
    · rfl
    · next hx => exact (h x (Bool.eq_false_of_not_eq_true hx) v).symm
  rw [wideBits, List.foldl_filter, hstep]
  rfl

theorem wideStep_ofG {k r : Nat} {x : Landing} (h : Landed.isG k x.what = true) (v : BitVec 512) : wideStep r v x = v := by
  obtain ⟨left, what⟩ := x
  cases what with
  | g _ _ => rfl
  | _ => exact absurd h Bool.false_ne_true

theorem wideStep_ofV {r q : Nat} (hne : r ≠ q) {x : Landing} (h : Landed.isV q x.what = true) (v : BitVec 512) : wideStep r v x = v := by
  obtain ⟨left, what⟩ := x
  cases what with
  | v _ _ _ => rfl
  | wide j _ _ =>
    have hj : j = q := beq_iff_eq.1 h
    exact if_neg fun hr : j = r => hne (hr.symm.trans hj)
  | _ => exact absurd h Bool.false_ne_true

/-- Superseding results of another register leaves a pair as the next accumulation finds it. -/
theorem widePair_setV {e : Engine} {r q : Nat} (x : Nat) (h1 : r ≠ q) (h2 : r + 1 ≠ q) : (e.setV q x).widePair r = e.widePair r := by
  have hreg : ∀ j, j ≠ q → wideBits (e.setV q x).land (e.setV q x).v j = wideBits e.land e.v j := fun j hj => by
    have hregs : tabGet (fun _ => (0 : BitVec 512)) (e.setV q x).v j = tabGet (fun _ => 0) e.v j := tabGet_tabSet_other hj
    rw [wideBits, hregs]
    exact wideBits_filter (fun y hy => wideStep_ofV hj (by simp_all)) e.land e.v
  rw [widePair_eq, widePair_eq, hreg r h1, hreg (r + 1) h2]

theorem widePair_setG (e : Engine) (r q : Nat) (x : Word) : (e.setG q x).widePair r = e.widePair r := by
  have hreg : ∀ j, wideBits (e.setG q x).land (e.setG q x).v j = wideBits e.land e.v j := fun j =>
    wideBits_filter (fun y hy => wideStep_ofG (k := gKey e.bank q) (by simp_all)) e.land e.v
  rw [widePair_eq, widePair_eq, hreg, hreg]

theorem setV_vr_same (e : Engine) (r : Nat) {x : Nat} (h : (BitVec.ofNat 512 x).toNat = x) : (e.setV r x).vr r = x := by
  rw [Engine.vr, Engine.setV, tabGet_tabSet_same, h]

theorem setV_vr_other (e : Engine) {r q : Nat} (x : Nat) (h : q ≠ r) : (e.setV r x).vr q = e.vr q := by
  rw [Engine.vr, Engine.setV, tabGet_tabSet_other h]
  rfl

/-! ### The window -/

/-- The window fits its register. -/
theorem slide_fits (vcnt old x : Nat) : (BitVec.ofNat 512 (slide vcnt old x)).toNat = slide vcnt old x := by
  rw [slide]
  exact packed_fits (ew := 32) (m := 16) rfl _

theorem elem_slide (vcnt old : Nat) {x i : Nat} (hx : x < 2 ^ 32) (hi : i < 16) :
    elem 32 (slide vcnt old x) i = if i + 1 < vcnt then elem 32 old (i + 1) else if i + 1 = vcnt then x else elem 32 old i := by
  rw [slide, elem_packed _ hi]
  refine Nat.mod_eq_of_lt ?_
  split
  · exact elem_lt _ _ _
  · split
    · exact hx
    · exact elem_lt _ _ _

/-- The engine after a `vftap` that adds `term`: the window has slid by one, and the coefficient's pointer has moved. -/
def vftapNext (va vx vy gc size : Nat) (cdir : Bool) (term : Nat → CInt) (e : Engine) : Engine :=
  ((((e.wideAcc va none term).setV vx (slide e.vcnt (e.vr vx) (elem 32 (e.vr vy) 0))).setV vy (slide e.vcnt (e.vr vy) 0)).setG gc
    (if cdir then e.gr gc + BitVec.ofNat 32 size else e.gr gc - BitVec.ofNat 32 size)).vdone

theorem setV_pc (e : Engine) (r x : Nat) : (e.setV r x).pc = e.pc := rfl
theorem setV_rs (e : Engine) (r x : Nat) : (e.setV r x).rs = e.rs := rfl
theorem setV_gr (e : Engine) (r x q : Nat) : (e.setV r x).gr q = e.gr q := rfl
theorem setG_vr (e : Engine) (r : Nat) (x : Word) (q : Nat) : (e.setG r x).vr q = e.vr q := rfl
theorem vdone_pc (e : Engine) : e.vdone.pc = e.pc := rfl
theorem vdone_rs (e : Engine) : e.vdone.rs = e.rs := rfl
theorem vdone_gr (e : Engine) (q : Nat) : e.vdone.gr q = e.gr q := rfl
theorem vdone_vr (e : Engine) (q : Nat) : e.vdone.vr q = e.vr q := rfl
theorem vdone_widePair (e : Engine) (r : Nat) : e.vdone.widePair r = e.widePair r := rfl

theorem VBody.gr {e e' : Engine} (h : VBody e e') (q : Nat) : e'.gr q = e.gr q := by
  rw [h]
  rfl

theorem VBody.vr {e e' : Engine} (h : VBody e e') (q : Nat) : e'.vr q = e.vr q := by
  rw [h]
  rfl

section
variable (va vx vy gc size : Nat) (cdir : Bool) (term : Nat → CInt) (e : Engine)

theorem vftapNext_pc : (vftapNext va vx vy gc size cdir term e).pc = e.pc := by
  unfold vftapNext
  rw [vdone_pc, setG_pc, setV_pc, setV_pc, (vBody_wideAcc e va none term).pc]

theorem vftapNext_rs : (vftapNext va vx vy gc size cdir term e).rs = e.rs := by
  unfold vftapNext
  rw [vdone_rs, setG_rs, setV_rs, setV_rs, (vBody_wideAcc e va none term).rs]

theorem vftapNext_gr_same : (vftapNext va vx vy gc size cdir term e).gr gc =
    if cdir then e.gr gc + BitVec.ofNat 32 size else e.gr gc - BitVec.ofNat 32 size := by
  unfold vftapNext
  rw [vdone_gr, setG_gr_same]

theorem vftapNext_vy : (vftapNext va vx vy gc size cdir term e).vr vy = slide e.vcnt (e.vr vy) 0 := by
  unfold vftapNext
  rw [vdone_vr, setG_vr, setV_vr_same _ _ (slide_fits _ _ _)]

variable {va vx vy gc}

theorem vftapNext_widePair (hx : vx ≠ va) (hx' : vx ≠ va + 1) (hy : vy ≠ va) (hy' : vy ≠ va + 1) :
    (vftapNext va vx vy gc size cdir term e).widePair va = (e.wideAcc va none term).widePair va := by
  unfold vftapNext
  rw [vdone_widePair, widePair_setG, widePair_setV _ hy.symm hy'.symm, widePair_setV _ hx.symm hx'.symm]

theorem vftapNext_gr_other (hgc : gc < 32) {q : Nat} (hq : q < 32) (hne : q ≠ gc) :
    (vftapNext va vx vy gc size cdir term e).gr q = e.gr q := by
  unfold vftapNext
  rw [vdone_gr, setG_gr_other _ _ hgc hq hne, setV_gr, setV_gr, (vBody_wideAcc e va none term).gr]

theorem vftapNext_vx (hne : vx ≠ vy) :
    (vftapNext va vx vy gc size cdir term e).vr vx = slide e.vcnt (e.vr vx) (elem 32 (e.vr vy) 0) := by
  unfold vftapNext
  rw [vdone_vr, setG_vr, setV_vr_other _ _ hne, setV_vr_same _ _ (slide_fits _ _ _)]

theorem vftapNext_vr {q : Nat} (hx : q ≠ vx) (hy : q ≠ vy) : (vftapNext va vx vy gc size cdir term e).vr q = e.vr q := by
  unfold vftapNext
  rw [vdone_vr, setG_vr, setV_vr_other _ _ hy, setV_vr_other _ _ hx, (vBody_wideAcc e va none term).vr]

end

/-! ### The instruction -/

/-- The SUB of ILLEGAL that `vftap` raises (R114, R118). -/
def vftapSub (va vx vy : Nat) (e : Engine) : Nat :=
  if isC16 e.etype && va % 2 == 0 && vx != vy && vx != va && vx != va + 1 && vy != va && vy != va + 1
    then (if e.vpos = 0 then 0 else 7) else 6

/-- The coefficient at `a`. -/
def vftapCoeff (n a : Nat) (rc : Bool) (s : State) : CInt :=
  if rc then ⟨signed 16 (memNat (engBase n + a) 2 s), 0⟩ else cint16 (memNat (engBase n + a) 4 s)

/-- What `vftap` adds to element `i` for the coefficient `h`. -/
def vftapTerm (vx : Nat) (conj : Bool) (h : CInt) (e : Engine) (i : Nat) : CInt :=
  if conj then (cint16 (elem 32 (e.vr vx) i)).mul h.conj else (cint16 (elem 32 (e.vr vx) i)).mul h

/-- `vftap` where the ECC finds nothing: it faults at its coefficient, or goes on from `vftapNext`. -/
def vftapBody (n va vx vy gc : Nat) (conj rc cdir : Bool) (s : State) (e : Engine) : Issue :=
  let size := if rc then 2 else 4
  let a := (e.gr gc).toNat
  let c := elemFault n false size a false s
  if c ≠ 0 then .act fun t => vfault n 2 c a 0 e.pc (discards n 2 t)
  else .regs (vftapNext va vx vy gc size cdir (vftapTerm vx conj (vftapCoeff n a rc s) e) e)

theorem opVftap_clean (n va vx vy gc : Nat) (conj rc cdir : Bool) (fetch : Ecc) (s : State) :
    opVftap n va vx vy gc conj rc cdir .clean fetch s =
      vissue n (fun w => isVecArith w || isVecMem w) fetch [gc] [] (vftapSub va vx vy) (vftapBody n va vx vy gc conj rc cdir s) s := rfl

theorem vftapTerm_eq (vx : Nat) (conj : Bool) (h : CInt) (e : Engine) :
    vftapTerm vx conj h e = fun i => (cint16 (elem 32 (e.vr vx) i)).mul (if conj then ⟨h.re, -h.im⟩ else h) :=
  funext fun i => (apply_ite (CInt.mul (cint16 (elem 32 (e.vr vx) i))) _ _ _).symm

/-- An element read from sound local memory does not fault (R120, R124). -/
theorem elemFault_none {n size a : Nat} {s : State} (hlt : a < 0x40000) (ha : a % size = 0) (hp : poisoned (engBase n + a) size s = false) :
    elemFault n false size a false s = 0 := by
  rw [elemFault, localFault_none hlt ha (by simp), hp]
  rfl

/-- `vftap` accumulates one coefficient's products, slides its window and moves the coefficient's pointer. -/
theorem vftap_effect {n va vx vy gc : Nat} {conj rc cdir : Bool} {fetch : Ecc} {s : State}
    (hwf : (Instr.vftap n va vx vy gc conj rc cdir .clean fetch).wf = true)
    (h : VFree n (fun w => isVecArith w || isVecMem w) fetch [gc] [gc] s) (heven : va % 2 = 0) (hxy : vx ≠ vy) (hx : vx ≠ va)
    (hx' : vx ≠ va + 1) (hy : vy ≠ va) (hy' : vy ≠ va + 1) :
    let u := vissuing n [gc] fetch s
    let e := eng n u
    let size := if rc then 2 else 4
    let a := (e.gr gc).toNat
    e.etype = 3 → e.vpos = 0 → a < 0x40000 → a % size = 0 → poisoned (engBase n + a) size s = false →
    Effect (.vftap n va vx vy gc conj rc cdir .clean fetch) s fun t =>
      let h : CInt := if rc then ⟨signed 16 (memNat (engBase n + a) 2 s), 0⟩ else cint16 (memNat (engBase n + a) 4 s)
      WideSum e (eng n t) none va (fun i => (cint16 (elem 32 (e.vr vx) i)).mul (if conj then ⟨h.re, -h.im⟩ else h)) ∧
      (eng n t).gr gc = (if cdir then e.gr gc + BitVec.ofNat 32 size else e.gr gc - BitVec.ofNat 32 size) ∧
      OthersKept gc e (eng n t) ∧
      (∀ i, i < 16 → elem 32 ((eng n t).vr vx) i =
        if i + 1 < e.vcnt then elem 32 (e.vr vx) (i + 1) else if i + 1 = e.vcnt then elem 32 (e.vr vy) 0 else elem 32 (e.vr vx) i) ∧
      (∀ i, i < 16 → elem 32 ((eng n t).vr vy) i =
        if i + 1 < e.vcnt then elem 32 (e.vr vy) (i + 1) else if i + 1 = e.vcnt then 0 else elem 32 (e.vr vy) i) ∧
      (∀ q, q ≠ vx → q ≠ vy → (eng n t).vr q = e.vr q) ∧ t.mem = s.mem ∧ Completes n u t ∧ OnlyEngine n u t := by
  intro u e size a htype hpos hlt hal hsound
  let term := vftapTerm vx conj (vftapCoeff n a rc s) e
  have hgc : gc < 32 := by
    have : (below 512 n && below 32 va && below 32 vx && below 32 vy && below 32 gc) = true := hwf
    simp only [below, Bool.and_eq_true, decide_eq_true_eq] at this
    exact this.2
  have hok : vftapSub va vx vy e = 0 := by simp [vftapSub, isC16, htype, heven, hxy, hx, hx', hy, hy', hpos]
  have hbody : vftapBody n va vx vy gc conj rc cdir s e.issued = .regs (vftapNext va vx vy gc size cdir term e.issued) :=
    if_neg (not_not.2 (elemFault_none hlt hal hsound))
  refine effect_of_vissue (exec_vftap n va vx vy gc conj rc cdir .clean fetch s) (opVftap_clean _ _ _ _ _ _ _ _ _ _) hwf h hok hbody
    (vftapNext_pc _ _ _ _ _ _ _ _) (vftapNext_rs _ _ _ _ _ _ _ _) fun t ht hc ho => ?_
  rw [id, inOrder_same ((onlyEngine_evt ho).trans (atEngine_vissuing n [gc] fetch s).evt)]
  have hgr : ∀ q, (eng n t).gr q = (vftapNext va vx vy gc size cdir term e.issued).gr q := fun q => by rw [ht, advance_gr]
  have hvr : ∀ q, (eng n t).vr q = (vftapNext va vx vy gc size cdir term e.issued).vr q := fun q => by rw [ht, Engine.vr, done_v, Engine.vr]
  refine ⟨?_, ?_, fun q hq hne => ?_, fun i hi => ?_, fun i hi => ?_, fun q h1 h2 => ?_,
    (onlyEngine_mem ho).trans (atEngine_vissuing n [gc] fetch s).mem, hc, ho⟩
  · show WideSum e (eng n t) none va (fun i => (cint16 (elem 32 (e.vr vx) i)).mul
      (if conj then ⟨(vftapCoeff n a rc s).re, -(vftapCoeff n a rc s).im⟩ else vftapCoeff n a rc s))
    rw [← vftapTerm_eq]
    refine (wideSum_wideAcc (e := e.issued) htype none va term).congr ?_
    rw [ht, widePair_congr (done_land _ _) (done_v _ _), vftapNext_widePair size cdir term e.issued hx hx' hy hy']
  · rw [hgr, vftapNext_gr_same]
    rfl
  · rw [hgr, vftapNext_gr_other size cdir term e.issued hgc hq hne]
    rfl
  · rw [hvr, vftapNext_vx size cdir term e.issued hxy]
    exact elem_slide _ _ (elem_lt _ _ _) hi
  · rw [hvr, vftapNext_vy]
    exact elem_slide _ _ (by decide) hi
  · rw [hvr, vftapNext_vr size cdir term e.issued h1 h2]
    rfl

/-- Settles O15: the accumulations by their sum in the pair, `vracc` by the extraction, `vftap` by both its sum and its slide. -/
theorem vectorAccumulateResults : Obligations.VectorAccumulateResults := by
  unfold Obligations.VectorAccumulateResults
  refine ⟨fun n vd va vb p conj fetch s hwf h => ?_, fun _ _ _ _ _ _ => vracc_effect, fun _ _ _ _ _ _ _ _ _ _ => vftap_effect⟩
  intro u e term htype heven
  cases conj with
  | false =>
    simp only [Bool.false_eq_true, if_false, term]
    exact vcmacWith_effect CInt.mul (exec_vcmacW n vd va vb p fetch s) hwf h heven htype
  | true =>
    simp only [if_true, term]
    exact vcmacWith_effect (fun x h => x.mul h.conj) (exec_vcmaccW n vd va vb p fetch s) hwf h heven htype

end Sys2Proof.Machine
end

section
/-! Predicates (R112, R115): compares and the predicate operations. -/
namespace Sys2Proof.Machine
open Sys2Proof.Safety

/-! ### The current format -/

theorem nmax_bounds (e : Engine) : 0 < e.nmax ∧ e.nmax ≤ 64 := by
  have h : ∀ t, t < 8 → 0 < 512 / typeWidth t ∧ 512 / typeWidth t ≤ 64 := by decide
  exact h e.etype (Nat.mod_lt _ (by decide))

theorem isInt_of {e : Engine} (h : e.etype ≤ 2) : isInt e.etype = true := decide_eq_true h

/-- Without a predicate, every element from vpos to vcnt is active (R112). -/
theorem activeAt_none {e : Engine} {i : Nat} (h1 : e.vpos ≤ i) (h2 : i < e.vcnt) : e.activeAt none i = true := by simp [Engine.activeAt, h1, h2]

/-! ### Predicate bits -/

/-- A predicate register's number is that of its bits. -/
theorem toNat_dw_pr (e : Engine) (r : Nat) : (dw (e.pr r)).toNat = e.pr r := by rw [dw, Engine.pr, BitVec.ofNat_toNat, BitVec.setWidth_eq]

/-- The mask of a compare: what is written of the first `m` bits, and all others. -/
theorem testBit_upperOnes {a m i : Nat} (ha : a < 2 ^ m) (hm : m ≤ 64) (hi : i < 64) :
    (a + (2 ^ 64 - 2 ^ m)).testBit i = if i < m then a.testBit i else true := by
  have hupper : 2 ^ 64 - 2 ^ m = 2 ^ m * (2 ^ (64 - m) - 1) := by
    rw [Nat.mul_sub, ← Nat.pow_add, Nat.add_sub_of_le hm, Nat.mul_one]
  have hin : i - m < 64 - m ∨ i < m := by omega
  rw [hupper, Nat.add_comm, Nat.testBit_two_pow_mul_add _ ha, Nat.testBit_two_pow_sub_one]
  split
  · rfl
  · next h => exact decide_eq_true (by omega)

/-- Predicate register `pd` once the writes `ws` of a compare of `m` elements have landed. -/
def Engine.writtenP (e : Engine) (pd m : Nat) (ws : Nat → Option Nat) : Nat :=
  (underMask (dw (e.pr pd)) (dw (writeMask m 1 ws + (2 ^ 64 - 2 ^ m))) (dw (writeVals m 1 ws))).toNat

theorem bitOf_writtenP (e : Engine) (pd : Nat) {m i : Nat} (ws : Nat → Option Nat) (hm : m ≤ 64) (hi : i < 64) :
    bitOf (e.writtenP pd m ws) i = if i < m then (ws i).elim (bitOf (e.pr pd) i) (bitOf · 0) else false := by
  have hmask : writeMask m 1 ws < 2 ^ m := (writeMask_lt m 1 ws).trans_eq (by rw [Nat.one_mul])
  have hvals : writeVals m 1 ws < 2 ^ m := (writeVals_lt m 1 ws).trans_eq (by rw [Nat.one_mul])
  unfold bitOf Engine.writtenP
  rw [testBit_underMask, ← BitVec.testBit_toNat (dw (e.pr pd)), toNat_dw_pr, dw, dw, BitVec.getLsbD_ofNat, BitVec.getLsbD_ofNat,
    decide_eq_true hi, Bool.true_and, Bool.true_and, testBit_upperOnes hmask hm hi]
  by_cases h : i < m
  · have h1 := testBit_writeMask (ew := 1) ws h Nat.one_pos
    have h2 := testBit_writeVals (ew := 1) ws h Nat.one_pos
    rw [Nat.one_mul, Nat.add_zero] at h1 h2
    rw [if_pos h, if_pos h, h1, h2]
    cases ws i <;> rfl
  · rw [if_neg h, if_neg h, if_pos rfl]
    exact Nat.testBit_lt_two_pow (Nat.lt_of_lt_of_le hvals (Nat.pow_le_pow_right (by decide) (Nat.le_of_not_lt h)))

theorem bitOf_b2n (c : Bool) : bitOf (b2n c) 0 = c := by cases c <;> rfl

/-- The predicate bits a compare leaves: the fill rules need no predicate, and none is set from NMAX on (R112). -/
theorem bitOf_compared (e : Engine) (pd : Nat) (c : Nat → Bool) {i : Nat} (hi : i < 64) :
    bitOf (e.writtenP pd e.nmax (e.writes none fun i => b2n (c i))) i =
      if i < e.nmax then
        (if e.vcnt ≤ e.vpos ∨ i < e.vpos then bitOf (e.pr pd) i
         else if i < e.vcnt then c i
         else if bitOf e.vfmt 3 then false else bitOf (e.pr pd) i)
      else false := by
  have hzero : bitOf 0 0 = false := rfl
  rw [bitOf_writtenP e pd _ (nmax_bounds e).2 hi, writes_elim, bitOf_b2n, hzero]
  by_cases hbelow : e.vcnt ≤ e.vpos ∨ i < e.vpos
  · rw [if_pos hbelow, if_pos hbelow]
  · rw [if_neg hbelow, if_neg hbelow]
    by_cases hcnt : i < e.vcnt
    · rw [if_pos hcnt, if_pos hcnt, if_pos (activeAt_none (by omega) hcnt)]
    · rw [if_neg hcnt, if_neg hcnt]

/-- A full mask takes the value. -/
theorem underMask_full (old : DWord) (x : Nat) : (underMask old (dw (2 ^ 64 - 1)) (dw x)).toNat = x % 2 ^ 64 := by
  have hfull : underMask old (dw (2 ^ 64 - 1)) (dw x) = dw x := by
    refine BitVec.eq_of_getLsbD_eq fun i hi => ?_
    rw [getLsbD_underMask, dw, BitVec.getLsbD_ofNat, Nat.testBit_two_pow_sub_one, decide_eq_true hi]
    rfl
  rw [hfull, dw, BitVec.toNat_ofNat]

/-! ### The instructions -/

/-- A compare. -/
theorem givesP_vcmp {mk : Nat → Nat → Nat → Nat → Ecc → Instr} {f : Nat → Nat → Nat → Bool}
    (he : ∀ n pd va vb fetch s, exec (mk n pd va vb fetch) s =
      .next (gated false (mk n pd va vb fetch).wf (vcmp n fetch pd va vb f) s)) : GivesP mk f := by
  intro n pd va vb fetch s hwf h u e htype
  refine effect_of_vbody (he n pd va vb fetch s) rfl hwf h (congrArg need (isInt_of htype)) rfl
    ((vBody_issued e).trans ((vBody_later _ _ _).trans (vBody_vdone _))) fun t hl hv hkept hc ho => ?_
  exact ⟨⟨_, _, hl, fun i hi => bitOf_compared e.issued pd (fun i => f e.ew (elem e.ew (e.vr va) i) (elem e.ew (e.vr vb) i)) hi⟩,
    hkept, hv, hc, ho⟩

/-- A predicate operation. -/
theorem givesMask_pop {mk : Ecc → Instr} {n pd pa pb : Nat} (f : Nat → Nat → Nat)
    (he : ∀ fetch s, exec (mk fetch) s = .next (gated false (mk fetch).wf (pop n fetch pd pa pb f) s)) :
    GivesMask mk n pd fun e => f (e.pr pa) (e.pr pb) := by
  intro fetch s hwf h u
  refine effect_of_vbody (he fetch s) rfl hwf h rfl rfl ((vBody_issued (eng n u)).trans (vBody_later _ _ _)) fun t hl hv hkept hc ho => ?_
  exact ⟨⟨_, _, hl, underMask_full _ _⟩, hkept, hv, hc, ho⟩

end Sys2Proof.Machine
end

section
/-! Selection, broadcast, element moves, permutation and sum (R115, R125), and O16. -/
namespace Sys2Proof.Machine
open Sys2Proof.Safety

theorem isAny_of {e : Engine} (h : e.etype ≤ 6) : isAny e.etype = true := decide_eq_true h

theorem isNarrow_of {e : Engine} (h : e.etype ≤ 6) (h4 : e.etype ≠ 4) : isNarrow e.etype = true := decide_eq_true ⟨h, h4⟩

/-- An element of a narrow type fits a g register. -/
theorem ew_le_of_narrow {e : Engine} (h : e.etype ≤ 6) (h4 : e.etype ≠ 4) : e.ew ≤ 32 := by
  have hall : ∀ t, t ≤ 6 → t ≠ 4 → typeWidth t ≤ 32 := by decide
  exact hall e.etype h h4

/-! ### Selection and permutation -/

theorem vsel_effect {n vd p va vb : Nat} {fetch : Ecc} {s : State} (hwf : (Instr.vsel n vd p va vb fetch).wf = true)
    (h : VFree n isVecArith fetch [] [] s) :
    let u := vissuing n [] fetch s
    let e := eng n u
    e.etype ≤ 6 →
    Effect (.vsel n vd p va vb fetch) s fun t =>
      LandsV 2 vd e (eng n t) (Elements none vd (fun i => elem e.ew (e.vr (if bitOf (e.pr p) i then va else vb)) i) e) ∧
      VKept e (eng n t) ∧ (eng n t).vpos = 0 ∧ Completes n u t ∧ OnlyEngine n u t := fun htype =>
  effect_of_varith (fun e i => elem e.ew (e.vr (if bitOf (e.pr p) i then va else vb)) i) (exec_vsel n vd p va vb fetch s) hwf h (isAny_of htype)
    fun e i => (apply_ite (fun r => elem e.ew (e.vr r) i) _ va vb).symm

/-- The table element that `vtperm` looks up for element `i`, zero past the table (R125). -/
def Engine.looked (e : Engine) (vt k vi i : Nat) : Nat :=
  let j := elem e.ew (e.vr vi) i
  if j < k * e.nmax then elem e.ew (e.vr (vt + j / e.nmax)) (j % e.nmax) else 0

theorem vtperm_effect {n vd vt k vi : Nat} {p : Option Nat} {fetch : Ecc} {s : State} (hwf : (Instr.vtperm n vd vt k vi p fetch).wf = true)
    (h : VFree n isVecArith fetch [] [] s) (htable : vt + k ≤ 32) (hout : vd < vt ∨ vt + k ≤ vd) (hne : vd ≠ vi) :
    let u := vissuing n [] fetch s
    let e := eng n u
    e.etype ≤ 6 →
    Effect (.vtperm n vd vt k vi p fetch) s fun t => LandsV 2 vd e (eng n t) (Elements p vd (e.looked vt k vi) e) ∧
      VKept e (eng n t) ∧ (eng n t).vpos = 0 ∧ Completes n u t ∧ OnlyEngine n u t := by
  intro u e htype
  have hvd : decide (vt ≤ vd ∧ vd < vt + k) = false := decide_eq_false (by omega)
  have hok : (isAny e.etype && decide (vt + k ≤ 32) && !(decide (vt ≤ vd ∧ vd < vt + k)) && vd != vi) = true := by
    rw [isAny_of htype, hvd]
    simp [htable, hne]
  exact effect_of_varith (fun e => e.looked vt k vi) (exec_vtperm n vd vt k vi p fetch s) hwf h hok fun _ _ => rfl

/-! ### Moves between a g register and elements -/

theorem vbcast_effect {n vd gs : Nat} {p : Option Nat} {fetch : Ecc} {s : State} (hwf : (Instr.vbcast n vd gs p fetch).wf = true)
    (h : VFree n isVecArith fetch [gs] [gs] s) :
    let u := vissuing n [gs] fetch s
    let e := eng n u
    e.etype ≤ 6 → e.etype ≠ 4 →
    Effect (.vbcast n vd gs p fetch) s fun t => LandsV 2 vd e (eng n t) (Elements p vd (fun _ => (e.gr gs).toNat) e) ∧
      VKept e (eng n t) ∧ (eng n t).vpos = 0 ∧ Completes n u t ∧ OnlyEngine n u t := by
  intro u e htype h4
  refine effect_of_vbody (exec_vbcast n vd gs p fetch s) rfl hwf h (congrArg need (isNarrow_of htype h4)) rfl
    ((vBody_issued e).trans ((vBody_later _ _ _).trans (vBody_vdone _))) fun t hl hv hkept hc ho => ?_
  exact ⟨landsV_of hl (elements_written p vd _ e), hkept, hv, hc, ho⟩

theorem vins_effect {n vd gs i : Nat} {fetch : Ecc} {s : State} (hwf : (Instr.vins n vd gs i fetch).wf = true)
    (h : VFree n isVecArith fetch [gs] [gs] s) :
    let u := vissuing n [gs] fetch s
    let e := eng n u
    e.etype ≤ 6 → e.etype ≠ 4 → i < e.nmax →
    Effect (.vins n vd gs i fetch) s fun t =>
      LandsV 2 vd e (eng n t) (fun x => ∀ j, j < e.nmax → elem e.ew x j =
        if j = i then (e.gr gs).toNat % 2 ^ e.ew else elem e.ew (e.vr vd) j) ∧
      VKept e (eng n t) ∧ (eng n t).vpos = e.vpos ∧ Completes n u t ∧ OnlyEngine n u t := by
  intro u e htype h4 hi
  have hok : (isNarrow e.etype && decide (i < e.nmax)) = true := by rw [isNarrow_of htype h4, decide_eq_true hi]; rfl
  refine effect_of_vbody (exec_vins n vd gs i fetch s) rfl hwf h (congrArg need hok) rfl ((vBody_issued e).trans (vBody_later _ _ _))
    fun t hl hv hkept hc ho => ?_
  refine ⟨landsV_of (ws := fun j => if j = i then some (e.gr gs).toNat else none) hl fun j hj => ?_, hkept, hv, hc, ho⟩
  rw [elem_written e vd _ hj, apply_ite (fun o : Option Nat => o.elim (elem e.ew (e.vr vd) j) (· % 2 ^ e.ew))]
  rfl

theorem vext_effect {n gd va i : Nat} {fetch : Ecc} {s : State} (hwf : (Instr.vext n gd va i fetch).wf = true)
    (h : VFree n isVecArith fetch [] [gd] s) :
    let u := vissuing n [] fetch s
    let e := eng n u
    e.etype ≤ 6 → e.etype ≠ 4 → i < e.nmax →
    Effect (.vext n gd va i fetch) s fun t =>
      (∃ v, AfterCycles 3 gd v e (eng n t) ∧ v.toNat % 2 ^ e.ew = elem e.ew (e.vr va) i) ∧
      VKept e (eng n t) ∧ (eng n t).vpos = e.vpos ∧ Completes n u t ∧ OnlyEngine n u { t with free := s.free } := by
  intro u e htype h4 hi
  have hok : (isNarrow e.etype && decide (i < e.nmax)) = true := by rw [isNarrow_of htype h4, decide_eq_true hi]; rfl
  have hat : AtEngine n s u := atEngine_vissuing n [] fetch s
  let v := BitVec.ofNat 32 (elem e.ew (e.vr va) i + (freeNow 0 s).toNat * 2 ^ e.ew)
  have hk : VBody e (e.issued.laterG 3 gd v) := (vBody_issued e).trans (vBody_later _ _ _)
  have hv : v.toNat % 2 ^ e.ew = elem e.ew (e.vr va) i := by
    rw [BitVec.toNat_ofNat, Nat.mod_mod_of_dvd _ (Nat.pow_dvd_pow 2 (ew_le_of_narrow htype h4)), Nat.add_mul_mod_self_right,
      Nat.mod_eq_of_lt (elem_lt _ _ _)]
  refine effect_of_vissue (exec_vext n gd va i fetch s) rfl hwf h (congrArg need hok) rfl hk.pc hk.rs fun t ht hc ho => ?_
  have hfree : t.free = s.free := (by rw [ho.1] : t.free = u.free).trans hat.free
  have hundrawn : { drawn t with free := s.free } = t := by
    rw [← hfree]
    rfl
  rw [inOrder_same ((drawn_evt t).trans ((onlyEngine_evt ho).trans hat.evt)), hundrawn, eng_drawn, ht]
  exact ⟨⟨v, afterCycles_of (done_g _ _) (done_bank _ _) (done_land _ _), hv⟩, hk.kept, done_vpos _ _, completes_congr hc rfl rfl, ho⟩

/-! ### Sum -/

/-- The wrapping sum of elements of an integer type. -/
theorem sumElems_eq {t : Nat} (ht : t ≤ 2) (l : List Nat) : sumElems t l = l.sum % 2 ^ typeWidth t := by
  obtain ⟨k, -, hk, -⟩ := typeWidth_half t
  induction l with
  | nil => rfl
  | cons x l ih =>
    rw [sumElems, intElem, if_pos ht, ih, hk, fitInt, List.sum_cons]
    exact (unsigned_add k x _).trans (Nat.add_mod_mod _ _ _)

/-- What `vsum` leaves of vD: element 0 the sum, active elements as they were, the others by the fill rules. -/
theorem elem_summed {e : Engine} (p : Option Nat) (va vd : Nat) (htype : e.etype ≤ 2) (hpos : e.vpos = 0) (hcnt : 0 < e.vcnt) :
    elem e.ew (e.written vd (sumWrites e p va)) 0 =
        (((upto e.vcnt).filter (e.activeAt p)).map fun i => elem e.ew (e.vr va) i).sum % 2 ^ e.ew ∧
    ∀ i, 0 < i → i < e.nmax → elem e.ew (e.written vd (sumWrites e p va)) i =
      if i < e.vcnt then (if e.activeAt p i then elem e.ew (e.vr vd) i else if bitOf e.vfmt 4 then 0 else elem e.ew (e.vr vd) i)
      else if bitOf e.vfmt 3 then 0 else elem e.ew (e.vr vd) i := by
  have hsome : e.vcnt ≠ 0 := Nat.ne_of_gt hcnt
  constructor
  · rw [elem_written e vd _ (nmax_bounds e).1, sumWrites, if_neg hsome, if_pos rfl, sumElems_eq htype]
    exact Nat.mod_mod _ _
  · intro i h0 hi
    have hin : ¬(e.vcnt ≤ e.vpos ∨ i < e.vpos) := by omega
    rw [elem_written e vd _ hi, sumWrites, if_neg hsome, if_neg (Nat.ne_of_gt h0)]
    by_cases hact : e.activeAt p i
    · have hlt : i < e.vcnt := by
        simp only [Engine.activeAt, Bool.and_eq_true, decide_eq_true_eq] at hact
        exact hact.1.2
      rw [if_pos hact, if_pos hlt, if_pos hact, Option.elim_none]
    · rw [if_neg hact, writes_elim, if_neg hin, if_neg hact, if_neg hact, Nat.zero_mod]

theorem vsum_effect {n vd va : Nat} {p : Option Nat} {fetch : Ecc} {s : State} (hwf : (Instr.vsum n vd va p fetch).wf = true)
    (h : VFree n isVecArith fetch [] [] s) :
    let u := vissuing n [] fetch s
    let e := eng n u
    e.etype ≤ 2 → e.vpos = 0 → 0 < e.vcnt →
    Effect (.vsum n vd va p fetch) s fun t =>
      LandsV 3 vd e (eng n t) (fun x =>
        elem e.ew x 0 = (((upto e.vcnt).filter (e.activeAt p)).map fun i => elem e.ew (e.vr va) i).sum % 2 ^ e.ew ∧
        ∀ i, 0 < i → i < e.nmax → elem e.ew x i =
          if i < e.vcnt then (if e.activeAt p i then elem e.ew (e.vr vd) i else if bitOf e.vfmt 4 then 0 else elem e.ew (e.vr vd) i)
          else if bitOf e.vfmt 3 then 0 else elem e.ew (e.vr vd) i) ∧
      VKept e (eng n t) ∧ Completes n u t ∧ OnlyEngine n u t := by
  intro u e htype hpos hcnt
  have hok : (if isIntC e.etype then (if e.vpos = 0 then 0 else 7) else 6) = 0 := by
    have hint : isIntC e.etype = true := decide_eq_true (by omega)
    rw [if_pos hint, if_pos hpos]
  refine effect_of_vbody (exec_vsum n vd va p fetch s) rfl hwf h hok rfl ((vBody_issued e).trans (vBody_later _ _ _))
    fun t hl hv hkept hc ho => ?_
  exact ⟨landsV_of hl (elem_summed p va vd htype hpos hcnt), hkept, hc, ho⟩

/-- Settles O16: each instruction by the writes it puts on their way. -/
theorem vectorMoveResults : Obligations.VectorMoveResults := by
  unfold Obligations.VectorMoveResults
  exact ⟨givesP_vcmp exec_vcmpEq, givesP_vcmp exec_vcmpLt, givesP_vcmp exec_vcmpLtu,
    fun n pd pa pb => ⟨givesMask_pop (· &&& ·) (exec_pand n pd pa pb), givesMask_pop (· ||| ·) (exec_por n pd pa pb),
      givesMask_pop (· ^^^ ·) (exec_pxor n pd pa pb), givesMask_pop (pb := pa) (fun x _ => 2 ^ 64 - 1 - x) (exec_pnot n pd pa)⟩,
    fun _ _ _ _ _ _ _ => vsel_effect, fun _ _ _ _ _ _ => vbcast_effect, fun _ _ _ _ _ _ => vins_effect, fun _ _ _ _ _ _ => vext_effect,
    fun _ _ _ _ _ _ _ _ => vtperm_effect, fun _ _ _ _ _ _ => vsum_effect⟩

end Sys2Proof.Machine
end

section
/-! Vector control and the power of the vector unit (R109, R111, R119, R126, R127): O12. -/
namespace Sys2Proof.Machine
open Sys2Proof.Safety

/-- The engine after a `setvl` of the format `fmt` that grants `granted` to gD. -/
def setvlNext (fmt gd granted : Nat) (e : Engine) : Engine := { (e.setFmt fmt).setG gd (BitVec.ofNat 32 granted) with vcnt := granted }

theorem setvlNext_pc (fmt gd granted : Nat) (e : Engine) : (setvlNext fmt gd granted e).pc = e.pc := rfl
theorem setvlNext_rs (fmt gd granted : Nat) (e : Engine) : (setvlNext fmt gd granted e).rs = e.rs := rfl

theorem setvlNext_issued_regsOnly (fmt gd granted : Nat) (e : Engine) :
    RegsOnly { e with vfmt := fmt, vcnt := granted, vpos := 0 } (setvlNext fmt gd granted e.issued) := rfl

theorem nextCycle_setvlNext (fmt : Nat) {gd : Nat} (granted : Nat) (e : Engine) (h : gd < 32) :
    NextCycle gd (BitVec.ofNat 32 granted) e (setvlNext fmt gd granted e.issued) :=
  nextCycle_congr (nextCycle_setG e _ h) rfl rfl rfl

/-- `setvl` grants a count, at once. -/
theorem setvl_effect {n : Nat} {w : Word} {fetch : Ecc} {s : State} (hwf : (Instr.setvl n w fetch).wf = true) (hz : fieldOf w 14 5 = 0)
    (htype : fieldOf w 2 0 ≠ 7) (hreq : fieldOf w 15 15 = 1 → fieldOf w 20 16 = 0)
    (h : Free n w fetch ([fieldOf w 25 21] ++ (if fieldOf w 15 15 = 0 then [fieldOf w 20 16] else [])) s) :
    let u := issuing n fetch s
    let e := eng n u
    let nmax := 512 / typeWidth (fieldOf w 2 0)
    let granted := if fieldOf w 15 15 = 1 then nmax else min (e.gr (fieldOf w 20 16)).toNat nmax
    Effect (.setvl n w fetch) s fun t => (eng n t).vfmt = fieldOf w 4 0 ∧ (eng n t).vcnt = granted ∧ (eng n t).vpos = 0 ∧
      NextCycle (fieldOf w 25 21) (BitVec.ofNat 32 granted) e (eng n t) ∧
      RegsOnly { e with vfmt := fieldOf w 4 0, vcnt := granted, vpos := 0 } (eng n t) ∧ Completes n u t ∧ OnlyEngine n u t := by
  intro u e nmax granted
  have hbad : (decide (fieldOf w 14 5 ≠ 0) || (decide (fieldOf w 15 15 = 1) && decide (fieldOf w 20 16 ≠ 0)) ||
      decide (fieldOf w 2 0 = 7)) = false := by
    simpa [hz, htype] using hreq
  have hgranted : min (if fieldOf w 15 15 = 1 then nmax else (e.gr (fieldOf w 20 16)).toNat) nmax = granted := by
    rw [apply_ite (min · nmax), Nat.min_self]
  let e' := setvlNext (fieldOf w 4 0) (fieldOf w 25 21) granted e.issued
  have hbody : Issue.regs (setvlNext (fieldOf w 4 0) (fieldOf w 25 21)
      (min (if fieldOf w 15 15 = 1 then nmax else (e.gr (fieldOf w 20 16)).toNat) nmax) e.issued) = .regs e' := by rw [hgranted]
  refine effect_of_regs (exec_setvl n w fetch s) rfl hwf h hbad (.inl rfl) hbody (setvlNext_pc _ _ _ _) (setvlNext_rs _ _ _ _)
    fun t ht hc ho => ?_
  have hregs : RegsOnly { e with vfmt := fieldOf w 4 0, vcnt := granted, vpos := 0 } (eng n t) := by
    rw [ht]
    exact regsOnly_done (setvlNext_issued_regsOnly _ _ _ e) _
  refine ⟨?_, ?_, ?_, ?_, hregs, hc, ho⟩
  · rw [hregs]
  · rw [hregs]
  · rw [hregs]
  · rw [ht]
    exact nextCycle_congr (nextCycle_setvlNext _ granted e fieldOf_reg) (done_g _ _) (done_bank _ _) (done_land _ _)

/-- `vrd`, with the timing of `mfs`. -/
theorem vrd_effect {n : Nat} {w : Word} {fetch : Ecc} {s : State} (hwf : (Instr.vrd n w fetch).wf = true)
    (h : Free n w fetch [fieldOf w 25 21] s) (hz : fieldOf w 20 2 = 0) :
    let u := issuing n fetch s
    let e := eng n u
    Effect (.vrd n w fetch) s fun t => RegsOnly e (eng n t) ∧ Completes n u t ∧ OnlyEngine n u t ∧
      AfterCycles 2 (fieldOf w 25 21)
        (BitVec.ofNat 32 (match fieldOf w 1 0 with | 0 => e.vcnt | 1 => e.vfmt | 2 => e.vpos | _ => 64)) e (eng n t) := by
  intro u e
  refine effect_of_regs (exec_vrd n w fetch s) rfl hwf h (by simp [hz]) (.inl rfl) rfl rfl rfl fun t ht hc ho => ?_
  rw [ht]
  exact ⟨regsOnly_done (regsOnly_trans (regsOnly_issued e) (regsOnly_later _ _ _)) _, hc, ho,
    afterCycles_of (done_g _ _) (done_bank _ _) (done_land _ _)⟩

/-! ### `vwr` -/

/-- Everything issued has completed where one vector control register's write was on its way. -/
theorem settle_vctl {n c : Nat} {v : Word} {t : State} (h : (eng n t).land = [⟨2, .vctl c v⟩]) :
    eng n (settle n t) = vctlWrite c v { eng n t with land := [] } := by
  have h1 : cycleEnds n t = modEng n (fun e => { e with land := [⟨1, .vctl c v⟩] }) t := cycleEnds_notDue h (by decide)
  have h2 : cycleEnds n (cycleEnds n t) = modEng n (vctlWrite c v) (beforeLanding n (.vctl c v) t) := by
    rw [h1]
    exact cycleEnds_due (x := .vctl c v) (by rw [eng_modEng_same])
  have h3 : eng n (modEng n (vctlWrite c v) (beforeLanding n (.vctl c v) t)) = vctlWrite c v { eng n t with land := [] } := by
    rw [eng_modEng_same, eng_beforeLanding]
  have h4 : (eng n (modEng n (vctlWrite c v) (beforeLanding n (.vctl c v) t))).land = [] := by rw [h3, vctlWrite_eq]
  show eng n (cycleEnds n (cycleEnds n (cycleEnds n t))) = _
  rw [h2, cycleEnds_empty h4, h3]

/-- The writes that R111 allows. -/
theorem vwrBad_of {e : Engine} {c v : Nat} (h : c = 0 ∧ v ≤ e.nmax ∧ v < 128 ∨ c = 1 ∧ v < 32 ∧ v % 8 ≠ 7 ∨ c = 2) :
    vwrBad e c v = false := by
  rcases h with ⟨rfl, hn, hv⟩ | ⟨rfl, hv, ht⟩ | rfl
  · simp only [vwrBad, Nat.mod_eq_of_lt hv, Bool.or_eq_false_iff, decide_eq_false_iff_not]
    omega
  · simp only [vwrBad, Bool.or_eq_false_iff, decide_eq_false_iff_not]
    omega
  · rfl

/-- `vwr`, with the timing of `mts`. -/
theorem vwr_effect {n : Nat} {w : Word} {fetch : Ecc} {s : State} (hwf : (Instr.vwr n w fetch).wf = true)
    (h : Free n w fetch [fieldOf w 25 21] s) (hz : fieldOf w 20 2 = 0) :
    let u := issuing n fetch s
    let e := eng n u
    let g := e.gr (fieldOf w 25 21)
    let v := g.toNat
    (fieldOf w 1 0 = 0 ∧ v ≤ e.nmax ∧ v < 128 ∨ fieldOf w 1 0 = 1 ∧ v < 32 ∧ v % 8 ≠ 7 ∨ fieldOf w 1 0 = 2) →
    Effect (.vwr n w fetch) s fun t =>
      let f := eng n (settle n t)
      Lands 2 (.vctl (fieldOf w 1 0) g) e (eng n t) ∧ GKept e (eng n t) ∧ RegsOnly e (eng n t) ∧ Completes n u t ∧ OnlyEngine n u t ∧
      (e.land = [] → f.g = e.g ∧ (fieldOf w 1 0 = 0 → f.vcnt = v ∧ f.vfmt = e.vfmt ∧ f.vpos = e.vpos) ∧
        (fieldOf w 1 0 = 1 → f.vfmt = v ∧ f.vcnt = 0 ∧ f.vpos = 0) ∧
        (fieldOf w 1 0 = 2 → f.vpos = v % 64 ∧ f.vcnt = e.vcnt ∧ f.vfmt = e.vfmt)) := by
  intro u e g v hallowed
  refine effect_of_regs (exec_vwr n w fetch s) rfl hwf h (by simp [hz]) (.inl rfl) (e := e.issued.later 2 (.vctl (fieldOf w 1 0) g))
    (if_neg (Bool.eq_false_iff.1 (vwrBad_of hallowed))) rfl rfl fun t ht hc ho => ?_
  have hland : (eng n t).land = e.land ++ [⟨2, .vctl (fieldOf w 1 0) g⟩] := by
    rw [ht]
    exact done_land _ _
  have hregs : RegsOnly e (eng n t) := by
    rw [ht]
    exact regsOnly_done (regsOnly_trans (regsOnly_issued e) (regsOnly_later _ _ _)) _
  have hg : (eng n t).g = e.g := by
    rw [ht]
    exact done_g _ _
  have hvec : (eng n t).vcnt = e.vcnt ∧ (eng n t).vfmt = e.vfmt ∧ (eng n t).vpos = e.vpos := by
    rw [hregs]
    exact ⟨rfl, rfl, rfl⟩
  obtain ⟨hcnt, hfmt, hpos⟩ := hvec
  refine ⟨hland, gKept_of hg (by rw [hregs]), hregs, hc, ho, fun hempty => ?_⟩
  rw [hempty] at hland
  rw [settle_vctl hland]
  refine ⟨?_, fun h0 => ?_, fun h1 => ?_, fun h2 => ?_⟩
  · rw [vctlWrite_eq]
    exact hg
  · have hv : v < 128 := by omega
    rw [h0]
    exact ⟨Nat.mod_eq_of_lt hv, hfmt, hpos⟩
  · have hv : v < 32 := by omega
    rw [h1]
    exact ⟨Nat.mod_eq_of_lt hv, rfl, rfl⟩
  · rw [h2]
    exact ⟨rfl, hcnt, hfmt⟩

/-! ### Power -/

/-- A command that changes engine `n` alone. -/
theorem effect_of_modEng {c : Instr} {wf : Bool} {op : State → State} {n : Nat} {s : State} {f : Engine → Engine} {post : State → Prop}
    (he : exec c s = .next (gated false wf op s)) (hrun : Running s) (hwf : wf = true) (hop : op s = modEng n f s)
    (hpost : post (modEng n f s)) : Effect c s post := by
  refine ⟨_, exec_of_gated he hrun hwf, ?_⟩
  rw [hop, inOrder_same (s := s) (t := modEng n f s) rfl]
  exact hpost

theorem vectorPowerDown_effect {n : Nat} {s : State} (hrun : Running s) (hn : n < 512) (hup : (eng n s).vpwr = 0) (hmode : (eng n s).mode = .run)
    (hlimit : fld (Reg.VEC_PWR_CTRL n) 15 0 s ≠ 0) (hforce : flagOn (Reg.VEC_PWR_CTRL n) 16 s = false) (hgather : (eng n s).gather = none)
    (hidle : ∀ x ∈ (eng n s).land, x.what.isVector = false) :
    Effect (.vectorPowerDown n) s fun t => (eng n t).vpwr = 2 ∧ (eng n t).v = (eng n s).v ∧ (eng n t).p = (eng n s).p ∧ OnlyEngine n s t := by
  have hflight : ((eng n s).land.any fun x => x.what.isVector) = false :=
    List.any_eq_false.2 fun x hx => Bool.eq_false_iff.1 (hidle x hx)
  refine effect_of_modEng (exec_vectorPowerDown n s) hrun (below_of_lt hn) (f := fun e => { e with vpwr := 2 })
    (if_pos ⟨hup, .inl hmode, hlimit, hforce, by rw [hgather]; rfl, hflight⟩) ?_
  rw [eng_modEng_same]
  exact ⟨rfl, rfl, rfl, onlyEngine_setEng n _ s⟩

theorem vectorWakeDone_effect {n : Nat} {s : State} (hrun : Running s) (hn : n < 512) (hwaking : (eng n s).vpwr = 1) :
    Effect (.vectorWakeDone n) s fun t => (eng n t).vpwr = 0 ∧ (eng n t).v = (eng n s).v ∧ OnlyEngine n s t := by
  refine effect_of_modEng (exec_vectorWakeDone n s) hrun (below_of_lt hn) (f := fun e => { e with vpwr := 0 }) (if_pos hwaking) ?_
  rw [eng_modEng_same]
  exact ⟨rfl, rfl, onlyEngine_setEng n _ s⟩

/-- Settles O12: the three control instructions, and the unit's way down and up. -/
theorem vectorControlResults : Obligations.VectorControlResults := by
  unfold Obligations.VectorControlResults
  exact ⟨fun _ _ _ _ => setvl_effect, fun _ _ _ _ => vrd_effect, fun _ _ _ _ => vwr_effect, fun _ _ => vectorPowerDown_effect,
    fun _ _ => vectorWakeDone_effect⟩

end Sys2Proof.Machine
end

section
/-! Packets and the units (R137, R235 to R240): what a packet's way in and its answer leave of the units, their registers and the routers. -/
namespace Sys2Proof.Machine
open Sys2Proof.Safety

/-! ### What `send` and `answer` leave unchanged -/

/-- What a write of a register, a raised event and a change of the packets keep, the answer of a packet keeps. -/
theorem answer_keeps {α : Type} {f : State → α} (hwr : ∀ off v t, f (wr off v t) = f t) (hraise : ∀ num inst t, f (raise num inst t) = f t)
    (htxns : ∀ l t, f (setTxns l t) = f t) (id code : Nat) (data : List Byte) (s : State) : f (answer id code data s) = f s := by
  have hcount : ∀ cnt off bit num inst t, f (countEvent cnt off bit num inst t) = f t := fun cnt off bit num inst t =>
    (hraise _ _ _).trans ((hwr _ _ _).trans (hwr _ _ _))
  have hni : ∀ src c bytes t, f (niCount src c bytes t) = f t := fun src c bytes t => (hwr _ _ _).trans (hwr _ _ _)
  have herror : ∀ n p addr src code t, f (postedError n p addr src code t) = f t := fun n p addr src code t =>
    (hcount _ _ _ _ _ _).trans ((hwr _ _ _).trans (hwr _ _ _))
  have hposted : ∀ t, f (postedDone id t) = f t := fun t => by
    unfold postedDone
    split
    · rfl
    · split
      · exact htxns _ t
      · exact htxns _ t
  unfold answer
  split
  · rfl
  · next x _ =>
    split
    · rw [hposted]
      split
      · rfl
      · exact herror _ _ _ _ _ _
    · split
      · exact (hcount _ _ _ _ _ _).trans (htxns _ _)
      · split
        · exact htxns _ _
        · have hsync : ∀ n p t, f (niSync n p t) = f t := fun n p t => hwr _ _ t
          rw [hsync]
          unfold when'
          split
          · exact (hni _ _ _ _).trans ((hni _ _ _ _).trans (htxns _ _))
          · exact (hni _ _ _ _).trans (htxns _ _)

theorem answer_acc (id code : Nat) (data : List Byte) (s : State) : (answer id code data s).acc = s.acc :=
  answer_keeps (f := State.acc) (fun _ _ _ => rfl) raise_acc (fun _ _ => rfl) id code data s

theorem answer_eng (id code : Nat) (data : List Byte) (s : State) : (answer id code data s).eng = s.eng :=
  answer_keeps (f := State.eng) (fun _ _ _ => rfl) raise_eng (fun _ _ => rfl) id code data s

theorem niCodeGiven_acc (n p code : Nat) (s : State) : (niCodeGiven n p code s).acc = s.acc := by
  unfold niCodeGiven
  split
  · rfl
  · exact countEvent_acc _ _ _ _ _ s

/-- No unit is changed by a request on its way. -/
theorem send_acc (ag : Agent) (use cls addr : Nat) (body : Payload) (aw : Bool) (s : State) :
    (send ag use cls addr body false aw s).acc = s.acc := by
  unfold send
  dsimp only
  split
  · exact niCodeGiven_acc _ _ _ s
  · rfl

/-- What each of the updates keeps, a sequence of them keeps. -/
theorem forEach_keeps {α β : Type} {f : α → State → State} {g : State → β} (h : ∀ x s, g (f x s) = g s) (l : List α) (s : State) :
    g (forEach l f s) = g s := by
  unfold forEach
  induction l generalizing s with
  | nil => rfl
  | cons x l ih => exact (ih (f x s)).trans (h x s)

theorem readRange_acc (ag : Agent) (use a len : Nat) (s : State) : (readRange ag use a len s).acc = s.acc :=
  forEach_keeps (fun _ t => send_acc _ _ _ _ _ _ t) _ s

/-! ### Registers of units -/

/-- The offset lies past the fabric's registers, in the part of a block of 0x800 bytes where the fabric's blocks hold routes. -/
def InUnit (off : Nat) : Prop := 0x1000000 ≤ off ∧ off % 0x800 < 0x200

theorem rd_niCodeGiven_unit {off : Nat} (h : InUnit off) (n p code : Nat) (s : State) : rd off (niCodeGiven n p code s) = rd off s := by
  obtain ⟨hlo, hmod⟩ := h
  have hdecerr : off ≠ Reg.NI_DECERR_CNT n p := by simp only [Reg.NI_DECERR_CNT]; omega
  have hfault : off ≠ Reg.NI_ROUTE_FAULT_CNT n p := by simp only [Reg.NI_ROUTE_FAULT_CNT]; omega
  have hevt : off ≠ Reg.NOC_EVT_STATUS := by simp only [Reg.NOC_EVT_STATUS]; omega
  have hdrop : off ≠ Reg.EVT_DROP_CNT := by simp only [Reg.EVT_DROP_CNT]; omega
  unfold niCodeGiven
  split
  · exact rd_bump_other hdecerr s
  · exact rd_countEvent hfault hevt hdrop _ _ _ s

theorem rd_niSync_unit {off : Nat} (h : InUnit off) (n p : Nat) (s : State) : rd off (niSync n p s) = rd off s := by
  obtain ⟨-, hmod⟩ := h
  have hout : off ≠ Reg.NI_OUTSTANDING n p := by simp only [Reg.NI_OUTSTANDING]; omega
  exact rd_setFld_other hout _ _ _ s

/-- A request on its way leaves the registers of units. -/
theorem rd_send_unit {off : Nat} (h : InUnit off) (ag : Agent) (use cls addr : Nat) (body : Payload) (aw : Bool) (s : State) :
    rd off (send ag use cls addr body false aw s) = rd off s := by
  unfold send
  dsimp only
  split
  · rw [if_neg (by decide), rd_congr (enqueue_csr _ _), rd_niCodeGiven_unit h]
  · rw [rd_niSync_unit h, rd_congr (enqueue_csr _ _)]

/-- The offset is that of a unit's counter, in the upper half of 0x40 bytes. -/
def IsUnitCounter (off : Nat) : Prop := InUnit off ∧ 0x20 ≤ off % 0x40

theorem rd_niCount_unit {off : Nat} (h : IsUnitCounter off) (src c bytes : Nat) (s : State) : rd off (niCount src c bytes s) = rd off s := by
  obtain ⟨-, hmod⟩ := h
  have hbytes : off ≠ Reg.NI_BYTES (srcNode src) (srcPort src) c := by simp only [Reg.NI_BYTES]; omega
  have hpkts : off ≠ Reg.NI_PKTS (srcNode src) (srcPort src) c := by simp only [Reg.NI_PKTS]; omega
  exact (rd_wr_other hbytes _ _).trans (rd_bump_other hpkts s)

theorem postedDone_csr (id : Nat) (s : State) : (postedDone id s).csr = s.csr := by
  unfold postedDone
  split
  · rfl
  · split <;> rfl

/-- An answer OK leaves the counters of units. -/
theorem rd_answer_unit {off : Nat} (h : IsUnitCounter off) (id : Nat) (data : List Byte) (s : State) :
    rd off (answer id 0 data s) = rd off s := by
  have hunit : InUnit off := h.1
  have hlo : 0x1000000 ≤ off := hunit.1
  have hmod : 0x20 ≤ off % 0x40 := h.2
  have hcut : ∀ n, off ≠ Reg.NOC_RTR_ANSWER_DROP_CNT n := fun n => by simp only [Reg.NOC_RTR_ANSWER_DROP_CNT]; omega
  have hevt : off ≠ Reg.NOC_EVT_STATUS := by simp only [Reg.NOC_EVT_STATUS]; omega
  have hdrop : off ≠ Reg.EVT_DROP_CNT := by simp only [Reg.EVT_DROP_CNT]; omega
  unfold answer
  split
  · rfl
  · split
    · exact rd_congr (postedDone_csr id s) off
    · split
      · exact rd_countEvent (hcut _) hevt hdrop _ _ _ _
      · split
        · rfl
        · rw [rd_niSync_unit hunit]
          unfold when'
          split
          · rw [rd_niCount_unit h, rd_niCount_unit h]
            rfl
          · rw [rd_niCount_unit h]
            rfl

/-! ### Packets -/

/-- A request in the fabric, from the view of any state with the same packets and the same place of its agent. -/
theorem requests_of_send {ag : Agent} {addr : Nat} {body : Payload} {s v : State} (hnoc : v.noc = s.noc) (hsrc : srcOf ag v = srcOf ag s)
    (use : Nat) (aw : Bool) : Requests ag addr body s (send ag use 0 addr body false aw v) := by
  obtain ⟨x, htxns, hid, hag, hx, hcls, haddr, hbody, hposted⟩ :=
    send_txns (ag := ag) (use := use) (cls := 0) (addr := addr) (body := body) (aw := aw) (s := v) (.inl rfl)
  rw [hnoc] at htxns
  rw [nextTxn, hnoc] at hid
  exact ⟨x, htxns, hid, hag, hx.trans hsrc, hcls, haddr, hbody, hposted⟩

theorem requests_inOrder {ag : Agent} {addr : Nat} {body : Payload} {r s t : State} (h : Requests ag addr body s t) :
    Requests ag addr body s (inOrder r t) := h

theorem answered_inOrder {id code : Nat} {data : List Byte} {r s t : State} (h : Answered id code data s t) :
    Answered id code data s (inOrder r t) := h

/-- A packet changed is found as it was found before. -/
theorem txnOf_txnMod {id : Nat} {f : Txn → Txn} (hf : ∀ x, (f x).id = x.id) (s : State) : txnOf id (txnMod id f s) = (txnOf id s).map f := by
  have hid : ((fun t : Txn => t.id == id) ∘ fun t => if t.id = id then f t else t) = fun t => t.id == id := by
    funext t
    dsimp only [Function.comp]
    split
    · rw [hf]
    · rfl
  show (s.noc.txns.map fun t => if t.id = id then f t else t).find? _ = _
  rw [List.find?_map, hid]
  refine Option.map_congr fun x hx => ?_
  exact if_pos (by simpa using List.find?_some hx)

/-- Where an answer is cut off depends on the routers alone. -/
theorem cutAt_congr {s u : State} (hctrl : ∀ n, rd (Reg.NOC_RTR_CTRL n) u = rd (Reg.NOC_RTR_CTRL n) s) (hrtr : u.noc.rtr = s.noc.rtr)
    (hout : u.noc.linkOut = s.noc.linkOut) (l : List (Nat × Nat)) : cutAt l u = cutAt l s := by
  have huse : ∀ n, rtrUse n u = rtrUse n s := fun n => by rw [rtrUse, rtrUse, hrtr, hctrl]
  simp only [cutAt, linkUp, huse, hout]

/-- A request once its answer has come to its NI. -/
def Txn.answeredWith (code : Nat) (data : List Byte) (t : Txn) : Txn := { t with stage := .served, ans := some (code, data) }

/-- An answer in a state that finds the request and its way as `s` does stands for `s`. -/
theorem answered_answer {id code : Nat} {data : List Byte} {s u : State} (htxn : txnOf id u = txnOf id s) (hcut : ∀ l, cutAt l u = cutAt l s) :
    Answered id code data s (answer id code data u) := by
  intro x hx hposted hlate hway
  have hfound : txnOf id u = some x := htxn.trans hx
  have hnoc : (answer id code data u).noc = (txnMod id (Txn.answeredWith code data) u).noc := by
    unfold answer
    rw [hfound]
    dsimp only
    rw [hposted, hcut, hway, hlate, if_neg (by decide), if_neg (by decide), niSync_noc]
    unfold when'
    split <;> rfl
  refine ⟨x.answeredWith code data, ?_, rfl, rfl⟩
  rw [txnOf, hnoc]
  exact (txnOf_txnMod (f := Txn.answeredWith code data) (fun _ => rfl) u).trans (congrArg (Option.map _) hfound)

end Sys2Proof.Machine
end

section
/-! Accelerator units (R137, R140 to R142, R147, R150): O18. -/
namespace Sys2Proof.Machine
open Sys2Proof.Safety

/-! ### A unit put -/

theorem acc_congr {s t : State} (h : s.acc = t.acc) (k : Nat) : acc k s = acc k t := by simp only [acc, h]

theorem acc_inOrder (k : Nat) (s t : State) : acc k (inOrder s t) = acc k t := rfl

@[simp] theorem acc_modAcc_same (k : Nat) (f : AccUnit → AccUnit) (s : State) : acc k (modAcc k f s) = f (acc k s) := tabGet_tabSet_same

/-- Of the registers a unit put writes its ACC_STATUS alone. -/
theorem rd_modAcc {off k : Nat} (h : off ≠ Reg.ACC_STATUS k) (f : AccUnit → AccUnit) (s : State) : rd off (modAcc k f s) = rd off s := by
  unfold modAcc setAccUnit
  dsimp only
  rw [rd_setFld_other h, rd_setFld_other h, rd_setFld_other h]
  rfl

/-- The place of a unit is read from ACC_ID. -/
theorem srcOf_acc_congr {k : Nat} {s t : State} (h : rd (Reg.ACC_ID k) t = rd (Reg.ACC_ID k) s) : srcOf (.acc k) t = srcOf (.acc k) s := by
  simp only [srcOf, accPhys, fld, h]

theorem srcOf_modAcc (k : Nat) (f : AccUnit → AccUnit) (s : State) : srcOf (.acc k) (modAcc k f s) = srcOf (.acc k) s := by
  have hid : Reg.ACC_ID k ≠ Reg.ACC_STATUS k := by simp only [Reg.ACC_ID, Reg.ACC_STATUS]; omega
  exact srcOf_acc_congr (rd_modAcc hid f s)

theorem cutAt_modAcc (k : Nat) (f : AccUnit → AccUnit) (s : State) (l : List (Nat × Nat)) : cutAt l (modAcc k f s) = cutAt l s := by
  refine cutAt_congr (fun n => rd_modAcc ?_ f s) (by rw [modAcc_noc]) (by rw [modAcc_noc]) l
  simp only [Reg.NOC_RTR_CTRL, Reg.ACC_STATUS]
  omega

/-- No router reads a counter of a unit. -/
theorem cutAt_bump {off : Nat} (h : off % 0x40 ≠ 0) (s : State) (l : List (Nat × Nat)) : cutAt l (bump off s) = cutAt l s := by
  refine cutAt_congr (fun n => rd_bump_other ?_ s) rfl rfl l
  simp only [Reg.NOC_RTR_CTRL]
  omega

theorem accept_isUnitCounter (k : Nat) : IsUnitCounter (Reg.ACC_ACCEPT_CNT k) := by
  simp only [IsUnitCounter, InUnit, Reg.ACC_ACCEPT_CNT]
  omega

theorem busy_isUnitCounter (k : Nat) : IsUnitCounter (Reg.ACC_BUSY_CNT k) := by
  simp only [IsUnitCounter, InUnit, Reg.ACC_BUSY_CNT]
  omega

/-! ### Refusals (R141, R152) -/

/-- A refusal recorded, counted and raised, before its STATUS write leaves. -/
def refusalNoted (k id e opc code detail : Nat) (s : State) : State :=
  modAcc k (fun u => { u with refusals := u.refusals ++ [(nextTxn s, id)] })
    (countEvent (Reg.ACC_REFUSE_CNT k) (Reg.ACC_EVT_STATUS k) 1 0x602 k
      (wr (Reg.ACC_LAST_REFUSE_ENG k) (dw (e % 512)) (wr (Reg.ACC_LAST_REFUSE k) (dw (detail % 256 * 65536 + opc % 256 * 256 + code)) s)))

/-- A refusal is noted, and its STATUS write is sent. -/
theorem accRefuse_eq (k id e opc desc code detail : Nat) (s : State) : accRefuse k id e opc desc code detail s =
    send (.acc k) (useFetch id) 0 (desc + 60) (.write (leBytes 4 (0x80000000 + k % 128 * 0x1000000 + detail % 256 * 65536 + code))) false false
      (refusalNoted k id e opc code detail s) := by
  unfold accRefuse refusalNoted reqWrite nextTxn
  dsimp only
  rw [countEvent_noc, wr_noc, wr_noc]

theorem refusalNoted_noc (k id e opc code detail : Nat) (s : State) : (refusalNoted k id e opc code detail s).noc = s.noc := by
  rw [refusalNoted, modAcc_noc, countEvent_noc, wr_noc, wr_noc]

theorem acc_refusalNoted (k id e opc code detail : Nat) (s : State) :
    acc k (refusalNoted k id e opc code detail s) = { acc k s with refusals := (acc k s).refusals ++ [(nextTxn s, id)] } := by
  have hbefore : ∀ cnt off bit num inst a v b w, acc k (countEvent cnt off bit num inst (wr a v (wr b w s))) = acc k s := by
    intros
    exact acc_congr (by rw [countEvent_acc, wr_acc, wr_acc]) k
  rw [refusalNoted, acc_modAcc_same, hbefore]

/-- A register of the unit that a refusal does not name. -/
theorem rd_refusalNoted {off k : Nat} (h : off ∉ [Reg.ACC_STATUS k, Reg.ACC_REFUSE_CNT k, Reg.ACC_EVT_STATUS k, Reg.EVT_DROP_CNT,
    Reg.ACC_LAST_REFUSE_ENG k, Reg.ACC_LAST_REFUSE k]) (id e opc code detail : Nat) (s : State) :
    rd off (refusalNoted k id e opc code detail s) = rd off s := by
  simp only [List.mem_cons, List.not_mem_nil, or_false, not_or] at h
  obtain ⟨hstatus, hcnt, hevt, hdrop, heng, hlast⟩ := h
  rw [refusalNoted, rd_modAcc hstatus, rd_countEvent hcnt hevt hdrop, rd_wr_other heng, rd_wr_other hlast]

theorem srcOf_refusalNoted (k id e opc code detail : Nat) (s : State) :
    srcOf (.acc k) (refusalNoted k id e opc code detail s) = srcOf (.acc k) s := by
  refine srcOf_acc_congr (rd_refusalNoted ?_ id e opc code detail s)
  simp only [Reg.ACC_ID, Reg.ACC_STATUS, Reg.ACC_REFUSE_CNT, Reg.ACC_EVT_STATUS, Reg.EVT_DROP_CNT, Reg.ACC_LAST_REFUSE_ENG, Reg.ACC_LAST_REFUSE,
    List.mem_cons, List.not_mem_nil, or_false]
  omega

/-- A unit refuses with the STATUS write of its code and DETAIL at descriptor + 60. -/
theorem requests_accRefuse {k code detail status : Nat} (hk : k < 68)
    (hstatus : status = 0x80000000 + k * 0x1000000 + detail % 256 * 65536 + code) (id e opc desc : Nat) (s : State) :
    Requests (.acc k) (desc + 60) (.write (leBytes 4 status)) s (accRefuse k id e opc desc code detail s) := by
  rw [accRefuse_eq, Nat.mod_eq_of_lt (by omega : k < 128), ← hstatus]
  exact requests_of_send (refusalNoted_noc _ _ _ _ _ _ s) (srcOf_refusalNoted _ _ _ _ _ _ s) _ _

theorem acc_accRefuse (k id e opc desc code detail : Nat) (s : State) :
    acc k (accRefuse k id e opc desc code detail s) = { acc k s with refusals := (acc k s).refusals ++ [(nextTxn s, id)] } := by
  rw [accRefuse_eq, acc_congr (send_acc _ _ _ _ _ _ _), acc_refusalNoted]

theorem counted_accRefuse (k id e opc desc code detail : Nat) (s : State) :
    Counted (Reg.ACC_REFUSE_CNT k) s (accRefuse k id e opc desc code detail s) := by
  have hunit : InUnit (Reg.ACC_REFUSE_CNT k) := by simp only [InUnit, Reg.ACC_REFUSE_CNT]; omega
  have hstatus : Reg.ACC_REFUSE_CNT k ≠ Reg.ACC_STATUS k := by simp only [Reg.ACC_REFUSE_CNT, Reg.ACC_STATUS]; omega
  have hevt : Reg.ACC_REFUSE_CNT k ≠ Reg.ACC_EVT_STATUS k := by simp only [Reg.ACC_REFUSE_CNT, Reg.ACC_EVT_STATUS]; omega
  have hdrop : Reg.ACC_REFUSE_CNT k ≠ Reg.EVT_DROP_CNT := by simp only [Reg.ACC_REFUSE_CNT, Reg.EVT_DROP_CNT]; omega
  have heng : Reg.ACC_REFUSE_CNT k ≠ Reg.ACC_LAST_REFUSE_ENG k := by simp only [Reg.ACC_REFUSE_CNT, Reg.ACC_LAST_REFUSE_ENG]; omega
  have hlast : Reg.ACC_REFUSE_CNT k ≠ Reg.ACC_LAST_REFUSE k := by simp only [Reg.ACC_REFUSE_CNT, Reg.ACC_LAST_REFUSE]; omega
  rw [Counted, accRefuse_eq, rd_send_unit hunit, refusalNoted, rd_modAcc hstatus, countEvent, rd_flagEvent hevt hdrop, counted_bump,
    rd_wr_other heng, rd_wr_other hlast]

theorem rd_lastRefuse_accRefuse (k id e opc desc code detail : Nat) (s : State) :
    rd (Reg.ACC_LAST_REFUSE k) (accRefuse k id e opc desc code detail s) = dw (detail % 256 * 65536 + opc % 256 * 256 + code) := by
  have hunit : InUnit (Reg.ACC_LAST_REFUSE k) := by simp only [InUnit, Reg.ACC_LAST_REFUSE]; omega
  have hstatus : Reg.ACC_LAST_REFUSE k ≠ Reg.ACC_STATUS k := by simp only [Reg.ACC_LAST_REFUSE, Reg.ACC_STATUS]; omega
  have hcnt : Reg.ACC_LAST_REFUSE k ≠ Reg.ACC_REFUSE_CNT k := by simp only [Reg.ACC_LAST_REFUSE, Reg.ACC_REFUSE_CNT]; omega
  have hevt : Reg.ACC_LAST_REFUSE k ≠ Reg.ACC_EVT_STATUS k := by simp only [Reg.ACC_LAST_REFUSE, Reg.ACC_EVT_STATUS]; omega
  have hdrop : Reg.ACC_LAST_REFUSE k ≠ Reg.EVT_DROP_CNT := by simp only [Reg.ACC_LAST_REFUSE, Reg.EVT_DROP_CNT]; omega
  have heng : Reg.ACC_LAST_REFUSE k ≠ Reg.ACC_LAST_REFUSE_ENG k := by simp only [Reg.ACC_LAST_REFUSE, Reg.ACC_LAST_REFUSE_ENG]; omega
  rw [accRefuse_eq, rd_send_unit hunit, refusalNoted, rd_modAcc hstatus, rd_countEvent hcnt hevt hdrop, rd_wr_other heng, rd_wr_same]

theorem accRefuse_eng (k id e opc desc code detail : Nat) (s : State) : (accRefuse k id e opc desc code detail s).eng = s.eng := by
  rw [accRefuse_eq, send_eng, refusalNoted, modAcc_eng, countEvent_eng, wr_eng, wr_eng]

/-! ### Requests (R140 to R142) -/

/-- What a unit does with a request it has not seen: it refuses it, answers busy, or fetches its descriptor. -/
theorem opAccRequest_eq {k id slot opc desc e : Nat} {s : State} {x : Txn} (hx : txnOf id s = some x) (hbody : x.body = .cop slot opc desc e)
    (hslot : slot = k) (hstage : x.stage = .accepted) (hans : x.ans = none) (hatt : ∀ a ∈ (acc k s).attempts, a.id ≠ id)
    (href : ∀ r ∈ (acc k s).refusals, r.2 ≠ id) : opAccRequest k id s =
      if flagOn (Reg.ACC_CTRL k) 0 s = false then accRefuse k id e opc desc 0x80 0 s
      else if opcKnown (slotKind k) opc = false then accRefuse k id e opc desc 0x81 opc s
      else if accHeld k s = true ∨ queueLimit k s ≤ (acc k s).jobs.length + (acc k s).attempts.length then
        answer id 0 [copBusy] (bump (Reg.ACC_BUSY_CNT k) s)
      else
        reqRead (.acc k) (useFetch id) desc 64 false
          (modAcc k (fun u => { u with attempts := u.attempts ++ [{ id := id, eng := e, opc := opc, desc := desc }] }) s) := by
  unfold opAccRequest
  rw [hx]
  dsimp only
  rw [hbody]
  exact if_pos ⟨hslot, hstage, hans, by simpa using hatt, by simpa using href⟩

/-- No engine is changed by a request to a unit. -/
theorem opAccRequest_eng {k id slot opc desc e : Nat} {s : State} {x : Txn} (hx : txnOf id s = some x) (hbody : x.body = .cop slot opc desc e)
    (hslot : slot = k) (hstage : x.stage = .accepted) (hans : x.ans = none) (hatt : ∀ a ∈ (acc k s).attempts, a.id ≠ id)
    (href : ∀ r ∈ (acc k s).refusals, r.2 ≠ id) : (opAccRequest k id s).eng = s.eng := by
  rw [opAccRequest_eq hx hbody hslot hstage hans hatt href]
  split
  · exact accRefuse_eng _ _ _ _ _ _ _ s
  · split
    · exact accRefuse_eng _ _ _ _ _ _ _ s
    · split
      · exact answer_eng _ _ _ _
      · exact (send_eng _ _ _ _ _ _ _ _).trans (modAcc_eng _ _ s)

/-- A busy answer. -/
theorem answered_busy (k id : Nat) (s : State) : Answered id 0 [copBusy] s (answer id 0 [copBusy] (bump (Reg.ACC_BUSY_CNT k) s)) := by
  refine answered_answer rfl (cutAt_bump ?_ s)
  simp only [Reg.ACC_BUSY_CNT]
  omega

theorem accRequest_effect {k id slot opc desc e : Nat} {s : State} {x : Txn} (hrun : Running s) (hk : k < 68) (hx : txnOf id s = some x)
    (hbody : x.body = .cop slot opc desc e) (hslot : slot = k) (hstage : x.stage = .accepted) (hans : x.ans = none)
    (hatt : ∀ a ∈ (acc k s).attempts, a.id ≠ id) (href : ∀ r ∈ (acc k s).refusals, r.2 ≠ id) :
    Effect (.accRequest k id) s fun t =>
      (flagOn (Reg.ACC_CTRL k) 0 s = false → Requests (.acc k) (desc + 60) (.write (leBytes 4 (0x80000000 + k * 0x1000000 + 0x80))) s t ∧
        (acc k t).refusals = (acc k s).refusals ++ [(nextTxn s, id)] ∧ (acc k t).jobs = (acc k s).jobs ∧
        Counted (Reg.ACC_REFUSE_CNT k) s t ∧ rd (Reg.ACC_LAST_REFUSE k) t = dw (opc % 256 * 256 + 0x80)) ∧
      (flagOn (Reg.ACC_CTRL k) 0 s = true → opcKnown (slotKind k) opc = false →
        Requests (.acc k) (desc + 60) (.write (leBytes 4 (0x80000000 + k * 0x1000000 + opc % 256 * 65536 + 0x81))) s t) ∧
      (flagOn (Reg.ACC_CTRL k) 0 s = true → opcKnown (slotKind k) opc = true →
        (accHeld k s = true ∨ queueLimit k s ≤ (acc k s).jobs.length + (acc k s).attempts.length) →
        Answered id 0 [copBusy] s t ∧ t.acc = s.acc ∧ Counted (Reg.ACC_BUSY_CNT k) s t) ∧
      (flagOn (Reg.ACC_CTRL k) 0 s = true → opcKnown (slotKind k) opc = true → accHeld k s = false →
        (acc k s).jobs.length + (acc k s).attempts.length < queueLimit k s →
        Requests (.acc k) desc (.read 64) s t ∧ (acc k t).attempts = (acc k s).attempts ++ [⟨id, e, opc, desc, none⟩] ∧
        (acc k t).jobs = (acc k s).jobs) ∧ t.mem = s.mem ∧ t.eng = s.eng := by
  refine ⟨_, exec_of_gated (exec_accRequest k id s) hrun (below_of_lt hk), fun hen => ?_, fun hen hopc => ?_, fun hen hopc hbusy => ?_,
    fun hen hopc hheld hroom => ?_, opAccRequest_mem k id s, opAccRequest_eng hx hbody hslot hstage hans hatt href⟩
  all_goals rw [opAccRequest_eq hx hbody hslot hstage hans hatt href]
  · rw [if_pos hen]
    rw [acc_inOrder, acc_accRefuse]
    exact ⟨requests_inOrder (requests_accRefuse hk (by omega) id e opc desc s), rfl, rfl,
      counted_inOrder (counted_accRefuse k id e opc desc 0x80 0 s),
      (rd_lastRefuse_accRefuse k id e opc desc 0x80 0 s).trans (congrArg dw (by omega))⟩
  · rw [if_neg (by simp [hen]), if_pos hopc]
    exact requests_inOrder (requests_accRefuse hk rfl id e opc desc s)
  · rw [if_neg (by simp [hen]), if_neg (by simp [hopc]), if_pos hbusy]
    refine ⟨answered_inOrder (answered_busy k id s), answer_acc _ _ _ _, counted_inOrder ?_⟩
    rw [Counted, rd_answer_unit (busy_isUnitCounter k), counted_bump]
  · rw [if_neg (by simp [hen]), if_neg (by simp [hopc]), if_neg (by simp only [hheld, Bool.false_eq_true, false_or]; omega)]
    rw [acc_inOrder, reqRead, acc_congr (send_acc _ _ _ _ _ _ _), acc_modAcc_same]
    exact ⟨requests_inOrder (requests_of_send (modAcc_noc _ _ s) (srcOf_modAcc _ _ s) _ _), rfl, rfl⟩

/-! ### Descriptors (R140, R141) -/

/-- Once the header has come the unit keeps it, and fetches the rest. -/
theorem opAccDescriptorFetched_header {k id : Nat} {s : State} {a : Attempt} (ha : (acc k s).attempts.find? (fun b => b.id == id) = some a)
    (hopen : unanswered (.acc k) (useFetch id) s = false) (hgood : firstBad (answersOf (.acc k) (useFetch id) s) = none)
    (hhdr : a.header = none) :
    acc k (opAccDescriptorFetched k id s) = { acc k s with attempts := (acc k s).attempts.map fun b =>
      if b.id = id then { b with header := some (gathered (answersOf (.acc k) (useFetch id) s) a.desc 64) } else b } := by
  unfold opAccDescriptorFetched
  rw [ha]
  dsimp only
  rw [if_neg (by simp [hopen]), hgood]
  dsimp only
  rw [hhdr]
  dsimp only
  rw [acc_congr (readRange_acc _ _ _ _ _), acc_congr (readRange_acc _ _ _ _ _), acc_modAcc_same]
  rfl

/-- The job that a descriptor of an attempt becomes. -/
def jobOfAttempt (no : Nat) (a : Attempt) (hdr ents par : List Byte) : Job :=
  { no := no, eng := a.eng, opc := a.opc, desc := a.desc, hdr := hdr, ents := ents, par := par }

/-- The state in which a job accepted is answered: the attempt is gone, the job queued and counted. -/
def jobQueued (k id : Nat) (a : Attempt) (hdr ents par : List Byte) (s : State) : State :=
  bump (Reg.ACC_ACCEPT_CNT k)
    (modAcc k (fun u => { u with nextNo := u.nextNo + 1, jobs := u.jobs ++ [jobOfAttempt u.nextNo a hdr ents par] })
      (modAcc k (fun u => { u with attempts := u.attempts.filter (·.id ≠ id) }) (dropUse (.acc k) (useFetch id) s)))

theorem acc_jobQueued (k id : Nat) (a : Attempt) (hdr ents par : List Byte) (s : State) :
    acc k (jobQueued k id a hdr ents par s) = { acc k s with
      attempts := (acc k s).attempts.filter (·.id ≠ id), nextNo := (acc k s).nextNo + 1
      jobs := (acc k s).jobs ++ [jobOfAttempt (acc k s).nextNo a hdr ents par] } := by
  rw [jobQueued, acc_congr (bump_acc _ _), acc_modAcc_same, acc_modAcc_same]
  rfl

theorem counted_jobQueued (k id : Nat) (a : Attempt) (hdr ents par : List Byte) (s : State) :
    Counted (Reg.ACC_ACCEPT_CNT k) s (jobQueued k id a hdr ents par s) := by
  have hstatus : Reg.ACC_ACCEPT_CNT k ≠ Reg.ACC_STATUS k := by simp only [Reg.ACC_ACCEPT_CNT, Reg.ACC_STATUS]; omega
  rw [Counted, jobQueued, counted_bump, rd_modAcc hstatus, rd_modAcc hstatus]
  rfl

theorem cutAt_jobQueued (k id : Nat) (a : Attempt) (hdr ents par : List Byte) (s : State) (l : List (Nat × Nat)) :
    cutAt l (jobQueued k id a hdr ents par s) = cutAt l s := by
  have hcnt : Reg.ACC_ACCEPT_CNT k % 0x40 ≠ 0 := by simp only [Reg.ACC_ACCEPT_CNT]; omega
  rw [jobQueued, cutAt_bump hcnt, cutAt_modAcc, cutAt_modAcc]
  exact cutAt_congr (fun _ => rfl) rfl rfl l

/-- A request with no answer of its own is found once the answers of its fetch are done with. -/
theorem txnOf_dropUse {ag : Agent} {use id : Nat} {s : State} (h : ∀ x, txnOf id s = some x → x.ans = none) :
    txnOf id (dropUse ag use s) = txnOf id s := by
  show (s.noc.txns.filter _).find? _ = s.noc.txns.find? _
  cases hx : s.noc.txns.find? (fun t => t.id == id) with
  | none =>
    refine List.find?_eq_none.2 fun t ht => ?_
    exact List.find?_eq_none.1 hx t (List.mem_filter.1 ht).1
  | some x =>
    rw [List.find?_filter]
    obtain ⟨hid, l, r, hl, hfirst⟩ := List.find?_eq_some_iff_append.1 hx
    refine List.find?_eq_some_iff_append.2 ⟨by simp [h x hx, hid], l, r, hl, fun t ht => ?_⟩
    have hother : (t.id == id) = false := by simpa using hfirst t ht
    simp [hother]

theorem txnOf_jobQueued {k id : Nat} (a : Attempt) (hdr ents par : List Byte) {s : State} (h : ∀ x, txnOf id s = some x → x.ans = none) :
    txnOf id (jobQueued k id a hdr ents par s) = txnOf id s := by
  rw [← txnOf_dropUse (ag := .acc k) (use := useFetch id) h, txnOf, jobQueued, bump_noc, modAcc_noc, modAcc_noc]
  rfl

/-- Once all has come and the checks are passed the job is queued, and the request accepted. -/
theorem opAccDescriptorFetched_accept {k id : Nat} {s : State} {a : Attempt} {hdr : List Byte}
    (ha : (acc k s).attempts.find? (fun b => b.id == id) = some a) (hopen : unanswered (.acc k) (useFetch id) s = false)
    (hgood : firstBad (answersOf (.acc k) (useFetch id) s) = none) (hhdr : a.header = some hdr) :
    let l := answersOf (.acc k) (useFetch id) s
    let ents := gathered l (a.desc + 64) (16 * (hNin hdr + hNout hdr))
    let par := gathered l (hParam hdr) (64 * hPlen hdr)
    lateRefusal (slotKind k) a.opc hdr ents par = none →
    opAccDescriptorFetched k id s = answer id 0 [copAccept] (jobQueued k id a hdr ents par s) := by
  intro l ents par hpass
  unfold opAccDescriptorFetched
  rw [ha]
  dsimp only
  rw [if_neg (by simp [hopen]), hgood]
  dsimp only
  rw [hhdr]
  dsimp only
  rw [hpass]
  rfl

theorem accDescriptorFetched_effect {k id : Nat} {s : State} {a : Attempt} (hrun : Running s) (hk : k < 68)
    (ha : (acc k s).attempts.find? (fun b => b.id == id) = some a) (hopen : unanswered (.acc k) (useFetch id) s = false)
    (hgood : firstBad (answersOf (.acc k) (useFetch id) s) = none) :
    Effect (.accDescriptorFetched k id) s fun t =>
      let l := answersOf (.acc k) (useFetch id) s
      t.mem = s.mem ∧
      (a.header = none → ∃ b ∈ (acc k t).attempts, b.id = id ∧ b.header = some (gathered l a.desc 64)) ∧
      ∀ hdr, a.header = some hdr →
        let ents := gathered l (a.desc + 64) (16 * (hNin hdr + hNout hdr))
        let par := gathered l (hParam hdr) (64 * hPlen hdr)
        lateRefusal (slotKind k) a.opc hdr ents par = none →
          (∃ j : Job, (acc k t).jobs = (acc k s).jobs ++ [j] ∧ j.eng = a.eng ∧ j.opc = a.opc ∧ j.desc = a.desc ∧ j.hdr = hdr ∧ j.ents = ents ∧
            j.par = par ∧ j.phase = 0) ∧ (∀ b ∈ (acc k t).attempts, b.id ≠ id) ∧ Counted (Reg.ACC_ACCEPT_CNT k) s t ∧
          ((∀ x, txnOf id s = some x → x.ans = none) → Answered id 0 [copAccept] s t) := by
  refine ⟨_, exec_of_gated (exec_accDescriptorFetched k id s) hrun (below_of_lt hk), (inOrder_mem _ _).trans (opAccDescriptorFetched_mem k id s),
    fun hhdr => ?_, fun hdr hhdr => ?_⟩
  · have hid : a.id = id := by simpa using List.find?_some ha
    rw [acc_inOrder, opAccDescriptorFetched_header ha hopen hgood hhdr]
    exact ⟨{ a with header := some (gathered (answersOf (.acc k) (useFetch id) s) a.desc 64) },
      List.mem_map.2 ⟨a, List.mem_of_find?_eq_some ha, if_pos hid⟩, hid, rfl⟩
  · intro ents par hpass
    rw [opAccDescriptorFetched_accept ha hopen hgood hhdr hpass, acc_inOrder, acc_congr (answer_acc _ _ _ _), acc_jobQueued]
    refine ⟨⟨jobOfAttempt (acc k s).nextNo a hdr ents par, rfl, rfl, rfl, rfl, rfl, rfl, rfl, rfl⟩, fun b hb => ?_,
      counted_inOrder ?_, fun hans => answered_inOrder (answered_answer (txnOf_jobQueued a hdr ents par hans) (cutAt_jobQueued _ _ _ _ _ _ s))⟩
    · simpa using (List.mem_filter.1 hb).2
    · rw [Counted, rd_answer_unit (accept_isUnitCounter k)]
      exact counted_jobQueued _ _ _ _ _ _ s

/-! ### Withdrawal (R147) -/

theorem withdraw_effect {k id e : Nat} {s : State} {x : Txn} (hrun : Running s) (hk : k < 68) (hx : txnOf id s = some x)
    (hbody : x.body = .withdraw k e) (hstage : x.stage = .accepted) (hans : x.ans = none) :
    Effect (.withdraw k id) s fun t =>
      (acc k t).jobs = (acc k s).jobs.map (fun j => if j.eng = e ∧ j.phase < 4 then { j with withdrawn := true } else j) ∧
      Answered id 0 [] s t ∧ t.mem = s.mem ∧ t.eng = s.eng := by
  let f : AccUnit → AccUnit := fun u =>
    { u with jobs := u.jobs.map fun j => if j.eng = e ∧ j.phase < 4 then { j with withdrawn := true } else j }
  have hop : opWithdraw k id s = answer id 0 [] (modAcc k f s) := by
    unfold opWithdraw
    rw [hx]
    dsimp only
    rw [hbody]
    exact if_pos ⟨rfl, hstage, hans⟩
  have htxn : txnOf id (modAcc k f s) = txnOf id s := by rw [txnOf, txnOf, modAcc_noc]
  refine ⟨_, exec_of_gated (exec_withdraw k id s) hrun (below_of_lt hk), ?_⟩
  rw [hop]
  refine ⟨?_, answered_inOrder (answered_answer htxn (cutAt_modAcc k f s)), ?_, ?_⟩
  · rw [acc_inOrder, acc_congr (answer_acc _ _ _ _), acc_modAcc_same]
  · exact (answer_mem _ _ _ _).trans (modAcc_mem k f s)
  · exact (answer_eng _ _ _ _).trans (modAcc_eng k f s)

/-! ### Flush (R150) -/

/-- The STATUS write of the head job changes its phase and the number of that write. -/
theorem acc_issueStatus {k : Nat} {s : State} {j : Job} {r : List Job} (h : (acc k s).jobs = j :: r) :
    acc k (issueStatus k s) = { acc k s with jobs := { j with phase := 4, statusId := nextTxn s } :: r } := by
  unfold issueStatus reqWrite
  rw [h]
  dsimp only
  rw [acc_congr (send_acc _ _ _ _ _ _ _), modHead, acc_modAcc_same, h]

/-- A job at a flush. -/
def Job.flushed (j : Job) : Job := if j.phase < 3 then { j with aborted := true } else j

theorem flushed_before {j : Job} (h : j.phase < 3) : j.flushed = { j with aborted := true } := if_pos h
theorem flushed_past {j : Job} (h : ¬j.phase < 3) : j.flushed = j := if_neg h

/-- The queue flushed, before its head job goes on. -/
def flushMarked (k : Nat) (s : State) : State := modAcc k (fun u => { u with jobs := u.jobs.map Job.flushed }) s

theorem accFlush_eq (k : Nat) (s : State) : accFlush k s = afterJob k (flushMarked k s) := rfl

theorem acc_flushMarked (k : Nat) (s : State) :
    acc k (flushMarked k s) = { acc k s with jobs := (acc k s).jobs.map Job.flushed } := acc_modAcc_same _ _ _

/-- A flush of an empty queue. -/
theorem acc_accFlush_nil {k : Nat} {s : State} (h : (acc k s).jobs = []) : acc k (accFlush k s) = acc k (flushMarked k s) := by
  have hjobs : (acc k (flushMarked k s)).jobs = [] := by rw [acc_flushMarked, h, List.map_nil]
  rw [accFlush_eq, afterJob, hjobs]

/-- A flush of a queue: the head job, where it is abandoned, goes on to its STATUS at once. -/
theorem acc_accFlush_cons {k : Nat} {s : State} {j : Job} {r : List Job} (h : (acc k s).jobs = j :: r) :
    ∃ i, acc k (accFlush k s) = { acc k s with
      jobs := (if j.phase < 3 then { j.flushed with phase := 4, statusId := i } else j) :: r.map Job.flushed } := by
  have hunit : acc k (flushMarked k s) = { acc k s with jobs := j.flushed :: r.map Job.flushed } := by
    rw [acc_flushMarked, h, List.map_cons]
  have hjobs : (acc k (flushMarked k s)).jobs = j.flushed :: r.map Job.flushed := by rw [hunit]
  rw [accFlush_eq, afterJob, hjobs]
  dsimp only
  by_cases hp : j.phase < 3
  · rw [if_pos (by simp [flushed_before hp, hp]), acc_issueStatus hjobs, hunit]
    exact ⟨_, by rw [if_pos hp]⟩
  · rw [if_neg (by simp [flushed_past hp, hp]), hunit, flushed_past hp]
    exact ⟨0, by rw [if_neg hp]⟩

/-- What a flush leaves of a unit. -/
def Flushed (u u' : AccUnit) : Prop :=
  (∀ j ∈ u.jobs, j.phase < 3 → ∃ j' ∈ u'.jobs, j'.no = j.no ∧ j'.aborted = true) ∧ (∀ j ∈ u.jobs, ¬j.phase < 3 → j ∈ u'.jobs) ∧
  u'.attempts = u.attempts

theorem flushed_accFlush (k : Nat) (s : State) : Flushed (acc k s) (acc k (accFlush k s)) := by
  cases h : (acc k s).jobs with
  | nil =>
    rw [acc_accFlush_nil h, acc_flushMarked, Flushed, h]
    exact ⟨fun _ hj => absurd hj List.not_mem_nil, fun _ hj => absurd hj List.not_mem_nil, rfl⟩
  | cons j r =>
    obtain ⟨i, hunit⟩ := acc_accFlush_cons h
    have hrest : ∀ q ∈ r, q.flushed ∈ r.map Job.flushed := fun q hq => List.mem_map_of_mem hq
    rw [hunit, Flushed, h]
    refine ⟨fun q hq hp => ?_, fun q hq hp => ?_, rfl⟩
    · obtain rfl | hq := List.mem_cons.1 hq
      · refine ⟨_, List.mem_cons_self, ?_⟩
        rw [if_pos hp, flushed_before hp]
        exact ⟨rfl, rfl⟩
      · refine ⟨_, List.mem_cons_of_mem _ (hrest q hq), ?_⟩
        rw [flushed_before hp]
        exact ⟨rfl, rfl⟩
    · obtain rfl | hq := List.mem_cons.1 hq
      · rw [if_neg hp]
        exact List.mem_cons_self
      · exact List.mem_cons_of_mem _ (flushed_past hp ▸ hrest q hq)

/-- ACC_CTRL has a card, and is a register from its first byte on. -/
theorem findReg_accCtrl {k : Nat} (hk : k < 68) : ∃ d, findReg (Reg.ACC_CTRL k) = some (d, 0) := by
  have hall : ∀ k < 68, (findReg (Reg.ACC_CTRL k)).map Prod.snd = some 0 := by decide +kernel
  obtain ⟨⟨d, r⟩, hd, rfl⟩ := Option.map_eq_some_iff.1 (hall k hk)
  exact ⟨d, hd⟩

/-- No write of ACC_CTRL is declined. -/
theorem writeRefused_accCtrl (src k : Nat) (s : State) : writeRefused src (Reg.ACC_CTRL k) s = false := by
  have hmbox : Reg.ACC_CTRL k / 4 * 4 ≠ Reg.SEC_MBOX_CTRL ∧ ¬Reg.ACC_CTRL k / 4 * 4 < 0xB02000 := by
    simp only [Reg.ACC_CTRL, Reg.SEC_MBOX_CTRL]
    omega
  have hpwr : ¬(Reg.ACC_CTRL k / 4 * 4 = Reg.PWR_CAP ∨ Reg.ACC_CTRL k / 4 * 4 = Reg.PWR_SHED_CFG ∨ Reg.ACC_CTRL k / 4 * 4 = Reg.PWR_THERM) := by
    simp only [Reg.ACC_CTRL, Reg.PWR_CAP, Reg.PWR_SHED_CFG, Reg.PWR_THERM]
    omega
  have hdma : ¬(0x300000 ≤ Reg.ACC_CTRL k / 4 * 4 ∧ Reg.ACC_CTRL k / 4 * 4 < 0x330000) := by
    simp only [Reg.ACC_CTRL]
    omega
  simp [writeRefused, hmbox.1, hmbox.2, hpwr, hdma]

/-- A write of ACC_CTRL with FLUSH set flushes once its fields are written. -/
theorem writeReg_flush {src k mask v : Nat} (hk : k < 68) (hv : bitOf v 1 = true) (wide : Bool) (d : RegDesc) (s : State) :
    writeReg src (Reg.ACC_CTRL k) mask v wide d s = (0, accFlush k (writePlain src (Reg.ACC_CTRL k) mask v d s)) := by
  have hlo : 0x1000000 ≤ Reg.ACC_CTRL k := by simp only [Reg.ACC_CTRL]; omega
  have hhi : Reg.ACC_CTRL k < 0x2000000 := by simp only [Reg.ACC_CTRL]; omega
  have hslot : (Reg.ACC_CTRL k - 0x1000000) / 0x10000 = k := by simp only [Reg.ACC_CTRL]; omega
  have hacc : writeReg src (Reg.ACC_CTRL k) mask v wide d s = writeAcc src (Reg.ACC_CTRL k) mask v d s := by
    unfold writeReg
    repeat rw [if_neg (by omega)]
    exact if_pos hhi
  rw [hacc, writeAcc, hslot, if_pos ⟨rfl, hv⟩]

theorem flush_effect {src k v : Nat} {s : State} (hrun : Running s) (hk : k < 68) (hv : v < 2 ^ 64)
    (hopen : Open src (Reg.ACC_CTRL k) false true (withBits v 1 1 1) s) :
    Effect (.flush src k v) s fun t =>
      (∀ j ∈ (acc k s).jobs, j.phase < 3 → ∃ j' ∈ (acc k t).jobs, j'.no = j.no ∧ j'.aborted = true) ∧
      (∀ j ∈ (acc k s).jobs, ¬ j.phase < 3 → j ∈ (acc k t).jobs) ∧ (acc k t).attempts = (acc k s).attempts ∧ t.mem = s.mem := by
  obtain ⟨d, hd⟩ := findReg_accCtrl hk
  let w := wordValue false (withBits v 1 1 1)
  let p := writePlain src (Reg.ACC_CTRL k) (wordMask false) w d s
  have hbit : bitOf w 1 = true := by
    show (withBits v 1 1 1 % 2 ^ 32).testBit 1 = true
    rw [Nat.testBit_mod_two_pow, testBit_withBits]
    rfl
  have hoff : Reg.ACC_CTRL k < 0x8000000 := by simp only [Reg.ACC_CTRL]; omega
  have hop : opFlush src k v s =
      { accFlush k p with csr := { (accFlush k p).csr with respCode := 0, respData := dw 0, respEnd := false } } := by
    rw [opFlush, dWrite_open hoff hopen hd (writeRefused_accCtrl src k s), writeReg_flush hk hbit]
  have hplain : p = { s with csr := p.csr } := writePlain_eq _ _ _ _ _ s
  have hacc : acc k p = acc k s := acc_congr (by rw [hplain]) k
  have hmem : p.mem = s.mem := by rw [hplain]
  have hwf : (below 68 k && below 18446744073709551616 v) = true := by
    rw [below_of_lt hk, Bool.true_and]
    exact below_of_lt hv
  have hunit : acc k (inOrder s (opFlush src k v s)) = acc k (accFlush k p) := by
    rw [acc_inOrder, hop]
    exact acc_congr rfl k
  have hflushed : Flushed (acc k s) (acc k (inOrder s (opFlush src k v s))) := by
    rw [hunit, ← hacc]
    exact flushed_accFlush k p
  obtain ⟨habort, hkeep, hatt⟩ := hflushed
  refine ⟨_, exec_of_gated (exec_flush src k v s) hrun hwf, habort, hkeep, hatt, ?_⟩
  rw [inOrder_mem, hop]
  exact (accFlush_mem k p).trans hmem

/-- Settles O18: what a unit does with a request, with a descriptor fetched, with a withdrawal and with a flush, each by its own effect. -/
theorem acceleratorAttempts : Obligations.AcceleratorAttempts := by
  unfold Obligations.AcceleratorAttempts
  exact ⟨fun _ _ _ _ _ _ _ _ => accRequest_effect, fun _ _ _ _ => accDescriptorFetched_effect, fun _ _ _ _ _ => withdraw_effect,
    fun _ _ _ _ => flush_effect⟩

end Sys2Proof.Machine
end

section
/-! Two statements about the attach (04_coprocessor_attach.md) that fail by the class of an answered packet: O17 and O19. -/
namespace Sys2Proof.Machine
open Sys2Proof.Safety

/-! ### The answer to a withdrawal -/

/-- Refutes O17: a WITHDRAW is a packet of class 3 (`withdrawAll`), and one of another class than REQ that is answered before its acceptance notice
has come is complete with the answer (R255). Taking that answer counts it in NI_PKTS of the engine's NI, so the registers are not as they were. -/
theorem not_coprocessorResults : ¬ Obligations.CoprocessorResults := by
  rintro ⟨-, -, hanswer⟩
  let x : Txn := {
    id := 0, agent := .eng 0, use := useWithdraw, src := srcId 8 0 0, cls := 3, addr := 0, body := .withdraw 0 0, posted := false, aw := false
    node := 8, port := 1, stage := .served, ans := some (0, []) }
  let s : State := { State.reset with noc := { txns := [x] } }
  have hrunning : Running s := ⟨rfl, by decide +kernel⟩
  have hcounts : rd (Reg.NI_PKTS 8 0 3) (gated false (below 512 0) (opWithdrawAnswer 0 0) s) ≠ rd (Reg.NI_PKTS 8 0 3) s := by decide +kernel
  obtain ⟨t, hexec, -, -, hcsr, -⟩ := hanswer 0 0 s x hrunning (by decide) rfl rfl rfl rfl rfl
  obtain rfl : gated false (below 512 0) (opWithdrawAnswer 0 0) s = t := by
    rw [exec_withdrawAnswer] at hexec
    exact Host.Outcome.next.inj hexec
  exact hcounts (rd_congr hcsr _)

/-! ### The answer to a STATUS write -/

/-- Refutes O19: its hypotheses admit an answer to a STATUS write of a class that no NI has, where `issueStatus` sends a request, of class 0. The
NI_PKTS counter of class 12 of the NI of port 0 would lie where port 1 holds its route to node 1, so taking that answer makes the route bad, and
the token of the job at slot 0, which the NI would have sent before, is dropped. -/
theorem not_acceleratorJobs : ¬ Obligations.AcceleratorJobs := by
  rintro ⟨-, -, -, -, -, hstatus⟩
  let x : Txn := {
    id := 0, agent := .acc 0, use := useJob 0 useStatus, src := srcId 8 0 0, cls := 12, addr := 60, body := .write [], posted := false, aw := false
    node := 8, port := 0, stage := .served, ans := some (0, []) }
  let j : Job := { no := 0, eng := 0, opc := 0, desc := 0, hdr := leBytes 4 0x1000, ents := [], par := [], phase := 4 }
  let s : State := { State.reset with noc := { txns := [x] }, acc := [(0, { jobs := [j] })] }
  let tok : Payload := .token (bitsOf (hw j.hdr 1) 15 13) (bitsOf (hw j.hdr 1) 12 0) (bitsOf (hw j.hdr 1) 18 16) (j.statusWord 0 % 2 ^ 32)
  have hrunning : Running s := ⟨rfl, by decide +kernel⟩
  have hsent : originCode (srcOf (.acc 0) s) 3 0 tok s = none := by decide +kernel
  have hdropped : ∀ y ∈ (gated false (below 68 0) (opStatusWriteAccepted 0 0) s).noc.txns, y.body ≠ tok := by decide +kernel
  obtain ⟨hjob, -⟩ := hstatus 0 0 s x [] hrunning (by decide) rfl rfl
  obtain ⟨t, hexec, -, -, -, -, -, htoken⟩ := hjob j [] rfl rfl rfl rfl (fun _ h => nomatch h)
  obtain rfl : gated false (below 68 0) (opStatusWriteAccepted 0 0) s = t := by
    rw [exec_statusWriteAccepted] at hexec
    exact Host.Outcome.next.inj hexec
  obtain ⟨y, hy, -, hbody, -⟩ := htoken (by decide +kernel) (by decide +kernel) hsent
  exact hdropped y hy hbody

end Sys2Proof.Machine
end

section
/-! Churn slices (R189 to R219): a slice after each update of it, the registers of a slice, and what packets and interrupts leave of both. -/
namespace Sys2Proof.Machine
open Sys2Proof.Safety

theorem below_pair {a b n m : Nat} (hn : n < a) (hm : m < b) : (below a n && below b m) = true := by
  rw [below_of_lt hn, Bool.true_and]
  exact below_of_lt hm

/-! ### A slice put -/

theorem slice_congr {s t : State} (h : s.churn = t.churn) (sl : Nat) : slice sl s = slice sl t := by simp only [slice, h]

theorem ctx_congr {s t : State} (h : s.churn = t.churn) (sl c : Nat) : ctx sl c s = ctx sl c t := by simp only [ctx, slice_congr h]

/-- The contexts are read from the slice's table alone. -/
theorem ctx_of_ctxs {sl : Nat} {s t : State} (h : (slice sl s).ctxs = (slice sl t).ctxs) (c : Nat) : ctx sl c s = ctx sl c t := by
  simp only [ctx, Slice.ctx, h]

theorem slice_setSlice (sl : Nat) (x : Slice) (s : State) : slice sl (setSlice sl x s) = x := tabGet_tabSet_same

theorem slice_modSlice (sl : Nat) (f : Slice → Slice) (s : State) : slice sl (modSlice sl f s) = f (slice sl s) := slice_setSlice _ _ _

theorem slice_modCtx (sl c : Nat) (f : Context → Context) (s : State) :
    slice sl (modCtx sl c f s) = { slice sl s with ctxs := tabMod (fun _ => ({} : Context)) (slice sl s).ctxs c f } := slice_modSlice _ _ _

theorem slice_modDisp (sl e : Nat) (f : List DispEntry → List DispEntry) (s : State) :
    slice sl (modDisp sl e f s) = { slice sl s with disp := tabMod (fun _ => []) (slice sl s).disp e f } := slice_modSlice _ _ _

theorem ctx_modSlice {sl : Nat} {f : Slice → Slice} {s : State} (h : (f (slice sl s)).ctxs = (slice sl s).ctxs) (c : Nat) :
    ctx sl c (modSlice sl f s) = ctx sl c s := ctx_of_ctxs (by rw [slice_modSlice, h]) c

theorem ctx_modCtx_same (sl c : Nat) (f : Context → Context) (s : State) : ctx sl c (modCtx sl c f s) = f (ctx sl c s) := by
  rw [ctx, slice_modCtx]
  exact tabGet_tabSet_same

theorem ctx_modCtx_other {sl c d : Nat} (h : d ≠ c) (f : Context → Context) (s : State) : ctx sl d (modCtx sl c f s) = ctx sl d s := by
  rw [ctx, slice_modCtx]
  exact tabGet_tabSet_other h

theorem ctx_modDisp (sl e c : Nat) (f : List DispEntry → List DispEntry) (s : State) : ctx sl c (modDisp sl e f s) = ctx sl c s :=
  ctx_modSlice rfl c

theorem d_modDisp (sl e : Nat) (f : List DispEntry → List DispEntry) (s : State) : (slice sl (modDisp sl e f s)).d e = f ((slice sl s).d e) := by
  rw [slice_modDisp]
  exact tabGet_tabSet_same

/-! ### Registers of a slice -/

theorem rd_setSlice {off sl : Nat} (h : off ≠ Reg.CHURN_STATUS sl) (x : Slice) (s : State) : rd off (setSlice sl x s) = rd off s := by
  rw [setSlice, rd_setFld_other h, rd_setFld_other h]
  rfl

theorem rd_modSlice {off sl : Nat} (h : off ≠ Reg.CHURN_STATUS sl) (f : Slice → Slice) (s : State) : rd off (modSlice sl f s) = rd off s :=
  rd_setSlice h _ s

theorem rd_modCtx {off sl : Nat} (h : off ≠ Reg.CHURN_STATUS sl) (c : Nat) (f : Context → Context) (s : State) :
    rd off (modCtx sl c f s) = rd off s := rd_setSlice h _ s

theorem rd_modDisp {off sl : Nat} (h : off ≠ Reg.CHURN_STATUS sl) (e : Nat) (f : List DispEntry → List DispEntry) (s : State) :
    rd off (modDisp sl e f s) = rd off s := rd_setSlice h _ s

theorem rd_bumpBy_other {a b : Nat} (h : a ≠ b) (k : Nat) (s : State) : rd a (bumpBy b k s) = rd a s := rd_wr_other h _ s

/-- The offset is that of a counter of slice `sl` (R219). -/
def IsSliceCounter (sl off : Nat) : Prop := sl < 8 ∧ 0x100060 + 0x10000 * sl ≤ off ∧ off < 0x10008C + 0x10000 * sl

theorem IsSliceCounter.ne_status {sl off : Nat} (h : IsSliceCounter sl off) : off ≠ Reg.CHURN_STATUS sl := by
  obtain ⟨-, hlo, -⟩ := h
  simp only [Reg.CHURN_STATUS]
  omega

theorem isSliceCounter_token {sl : Nat} (h : sl < 8) : IsSliceCounter sl (Reg.CHURN_TOKEN_CNT sl) := by
  simp only [IsSliceCounter, Reg.CHURN_TOKEN_CNT]
  omega

theorem isSliceCounter_dispatch {sl : Nat} (h : sl < 8) : IsSliceCounter sl (Reg.CHURN_DISPATCH_CNT sl) := by
  simp only [IsSliceCounter, Reg.CHURN_DISPATCH_CNT]
  omega

theorem isSliceCounter_cancel {sl : Nat} (h : sl < 8) : IsSliceCounter sl (Reg.CHURN_CANCEL_CNT sl) := by
  simp only [IsSliceCounter, Reg.CHURN_CANCEL_CNT]
  omega

theorem isSliceCounter_dup {sl : Nat} (h : sl < 8) : IsSliceCounter sl (Reg.CHURN_TOK_DUP_CNT sl) := by
  simp only [IsSliceCounter, Reg.CHURN_TOK_DUP_CNT]
  omega

theorem isSliceCounter_badMsg {sl : Nat} (h : sl < 8) : IsSliceCounter sl (Reg.CHURN_BAD_MSG_CNT sl) := by
  simp only [IsSliceCounter, Reg.CHURN_BAD_MSG_CNT]
  omega

/-- A counter counts one at its bump, if what comes before and after leaves it. -/
theorem counted_of_bump {off : Nat} {s u t : State} (hbefore : rd off u = rd off s) (hafter : rd off t = rd off (bump off u)) :
    Counted off s t := by
  rw [Counted, hafter, bump, rd_bumpBy_same, hbefore]

/-! ### Events of a slice (R217) -/

/-- Of the slice an event changes the list of those raised alone. -/
theorem slice_churnEvent (sl bit : Nat) (s : State) :
    slice sl (churnEvent sl bit s) = { slice sl s with raised := (slice sl (churnEvent sl bit s)).raised } := by
  unfold churnEvent
  split
  · rfl
  · rw [slice_congr (flagEvent_churn _ _ _ _ _), slice_modSlice]

theorem ctx_churnEvent (sl bit c : Nat) (s : State) : ctx sl c (churnEvent sl bit s) = ctx sl c s :=
  ctx_of_ctxs (by rw [slice_churnEvent]) c

theorem rd_churnEvent {sl off : Nat} (h : IsSliceCounter sl off) (bit : Nat) (s : State) : rd off (churnEvent sl bit s) = rd off s := by
  have hstatus := h.ne_status
  obtain ⟨-, hlo, -⟩ := h
  have hevt : off ≠ Reg.CHURN_EVT_STATUS sl := by simp only [Reg.CHURN_EVT_STATUS]; omega
  have hdrop : off ≠ Reg.EVT_DROP_CNT := by simp only [Reg.EVT_DROP_CNT]; omega
  unfold churnEvent
  split
  · rfl
  · rw [rd_flagEvent hevt hdrop, rd_modSlice hstatus]

/-! ### Packets and interrupts -/

theorem niCodeGiven_churn (n p code : Nat) (s : State) : (niCodeGiven n p code s).churn = s.churn := by
  unfold niCodeGiven
  split
  · rfl
  · exact countEvent_churn _ _ _ _ _ s

/-- No slice is changed by a packet on its way. -/
theorem send_churn (ag : Agent) (use cls addr : Nat) (body : Payload) (posted aw : Bool) (s : State) :
    (send ag use cls addr body posted aw s).churn = s.churn := by
  unfold send
  dsimp only
  split
  · split
    · exact (countEvent_churn _ _ _ _ _ _).trans (niCodeGiven_churn _ _ _ _)
    · exact niCodeGiven_churn _ _ _ _
  · rfl

/-- Registers of slices lie before those of the fabric. -/
theorem rd_niCodeGiven_slice {sl off : Nat} (h : IsSliceCounter sl off) (n p code : Nat) (s : State) :
    rd off (niCodeGiven n p code s) = rd off s := by
  obtain ⟨hsl, hlo, hhi⟩ := h
  have hdecerr : off ≠ Reg.NI_DECERR_CNT n p := by simp only [Reg.NI_DECERR_CNT]; omega
  have hfault : off ≠ Reg.NI_ROUTE_FAULT_CNT n p := by simp only [Reg.NI_ROUTE_FAULT_CNT]; omega
  have hevt : off ≠ Reg.NOC_EVT_STATUS := by simp only [Reg.NOC_EVT_STATUS]; omega
  have hdrop : off ≠ Reg.EVT_DROP_CNT := by simp only [Reg.EVT_DROP_CNT]; omega
  unfold niCodeGiven
  split
  · exact rd_bump_other hdecerr s
  · exact rd_countEvent hfault hevt hdrop _ _ _ s

theorem rd_postedError_slice {sl off : Nat} (h : IsSliceCounter sl off) (n p addr src code : Nat) (s : State) :
    rd off (postedError n p addr src code s) = rd off s := by
  obtain ⟨hsl, hlo, hhi⟩ := h
  have hcnt : off ≠ Reg.NI_POST_ERR_CNT n p := by simp only [Reg.NI_POST_ERR_CNT]; omega
  have hinfo : off ≠ Reg.NI_POST_ERR_INFO n p := by simp only [Reg.NI_POST_ERR_INFO]; omega
  have haddr : off ≠ Reg.NI_POST_ERR_ADDR n p := by simp only [Reg.NI_POST_ERR_ADDR]; omega
  have hevt : off ≠ Reg.NOC_EVT_STATUS := by simp only [Reg.NOC_EVT_STATUS]; omega
  have hdrop : off ≠ Reg.EVT_DROP_CNT := by simp only [Reg.EVT_DROP_CNT]; omega
  rw [postedError, rd_countEvent hcnt hevt hdrop, rd_wr_other hinfo, rd_wr_other haddr]

/-- A packet on its way leaves the counters of slices. -/
theorem rd_send_slice {sl off : Nat} (h : IsSliceCounter sl off) (ag : Agent) (use cls addr : Nat) (body : Payload) (posted aw : Bool) (s : State) :
    rd off (send ag use cls addr body posted aw s) = rd off s := by
  unfold send
  dsimp only
  split
  · split
    · rw [rd_postedError_slice h, rd_niCodeGiven_slice h]
    · rw [rd_congr (enqueue_csr _ _), rd_niCodeGiven_slice h]
  · obtain ⟨hsl, hlo, hhi⟩ := h
    have hout : ∀ n p, off ≠ Reg.NI_OUTSTANDING n p := fun n p => by simp only [Reg.NI_OUTSTANDING]; omega
    rw [niSync, rd_setFld_other (hout _ _), rd_congr (enqueue_csr _ _)]

theorem postedDone_churn (id : Nat) (s : State) : (postedDone id s).churn = s.churn := by
  unfold postedDone
  split
  · rfl
  · split <;> rfl

/-- A message that reaches its unit changes the packets in the fabric alone. -/
theorem consume_churn (b : Payload) (s : State) : (consume b s).churn = s.churn := by
  unfold consume
  split
  · rfl
  · split
    · exact postedDone_churn _ s
    · rfl

theorem consume_csr (b : Payload) (s : State) : (consume b s).csr = s.csr := by
  unfold consume
  split
  · rfl
  · split
    · exact postedDone_csr _ s
    · rfl

/-- What of a state the registers past the slices, the engines and the domains do not change. -/
structure ApartFromEngines {α : Type} (f : State → α) : Prop where
  wr : ∀ off v t, 0x200000 ≤ off → f (wr off v t) = f t
  eng : ∀ l (t : State), f { t with eng := l } = f t
  dom : ∀ l (t : State), f { t with dom := l } = f t

theorem ApartFromEngines.modEng {α : Type} {f : State → α} (h : ApartFromEngines f) (n : Nat) (g : Engine → Engine) (t : State) :
    f (modEng n g t) = f t := by
  rw [Machine.modEng, setEng, h.wr _ _ _ (by simp only [Reg.VEC_STATUS]; omega), h.wr _ _ _ (by simp only [Reg.ENG_PC]; omega),
    h.wr _ _ _ (by simp only [Reg.ENG_STATUS]; omega), h.eng]

theorem ApartFromEngines.setDom {α : Type} {f : State → α} (h : ApartFromEngines f) (d : Nat) (x : Dom) (t : State) :
    f (setDom d x t) = f t := by
  unfold Machine.setDom
  dsimp only
  split
  · rw [h.wr _ _ _ (by simp only [Reg.PWR_CLU_STATUS]; omega), h.dom]
  · split
    · rw [h.wr _ _ _ (by simp only [Reg.PWR_ACC_STATUS]; omega), h.dom]
    · exact h.dom _ _

theorem ApartFromEngines.startWake {α : Type} {f : State → α} (h : ApartFromEngines f) (d code : Nat) (t : State) :
    f (startWake d code t) = f t := by
  unfold Machine.startWake
  dsimp only
  split
  · rfl
  · split
    · split
      · rfl
      · exact h.setDom _ _ _
    · split
      · exact h.setDom _ _ _
      · rfl

theorem ApartFromEngines.engineWake {α : Type} {f : State → α} (h : ApartFromEngines f) (n code : Nat) (t : State) :
    f (engineWake n code t) = f t := by
  unfold Machine.engineWake
  split
  · split
    · exact h.startWake _ _ _
    · exact h.modEng _ _ _
  · exact h.startWake _ _ _
  · exact h.startWake _ _ _
  · split
    · exact h.startWake _ _ _
    · rfl

/-- An interrupt set changes registers of the engine, the engine, and its domain where that wakes. -/
theorem ApartFromEngines.irqSet {α : Type} {f : State → α} (h : ApartFromEngines f) (n mask : Nat) (s : State) :
    f (irqSet n mask s) = f s := by
  have hready : ∀ t, f (if irqReady n t ≠ 0 then Machine.engineWake n 1 t else t) = f t := fun t => by
    split
    · exact h.engineWake _ _ _
    · rfl
  have hpend : ∀ v, f (Machine.wr (Reg.ENG_IRQ_PEND n) v s) = f s := fun v => h.wr _ _ _ (by simp only [Reg.ENG_IRQ_PEND]; omega)
  unfold Machine.irqSet
  dsimp only
  rw [hready]
  split
  · exact hpend _
  · rw [h.modEng, hpend]

theorem notify_churn (sl e : Nat) (s : State) : (notify sl e s).churn = s.churn := by
  unfold notify
  split
  · exact ApartFromEngines.irqSet (f := State.churn) ⟨fun _ _ _ _ => rfl, fun _ _ => rfl, fun _ _ => rfl⟩ _ _ s
  · rfl

/-- A notice leaves the counters of slices. -/
theorem rd_notify {sl off : Nat} (h : IsSliceCounter sl off) (e : Nat) (s : State) : rd off (notify sl e s) = rd off s := by
  obtain ⟨hsl, hlo, hhi⟩ := h
  unfold notify
  split
  · exact ApartFromEngines.irqSet (f := rd off) ⟨fun _ _ t ho => rd_wr_other (by omega) _ t, fun _ _ => rfl, fun _ _ => rfl⟩ _ _ s
  · rfl

end Sys2Proof.Machine
end

section
/-! What a slice does with a context (R192, R199, R200, R205): cancel it, arm it, hold a token for it. -/
namespace Sys2Proof.Machine
open Sys2Proof.Safety

/-! ### Cancellation (R205, R206) -/

/-- A context that is IDLE or CANCELLED is not cancelled. -/
theorem cancelCtx_of_not_live {sl c : Nat} {s : State} (h : (ctx sl c s).state = stIdle ∨ (ctx sl c s).state = stCancelled) :
    cancelCtx sl c s = s := if_pos h

/-- A context once it is cancelled; `ran` says that it was RUNNING. -/
def Context.cancelled (ran : Bool) (x : Context) : Context :=
  { x with state := stCancelled, held := 0, values := [], inst := [], oneng := ran }

/-- A cancellation counted: one, and the tokens the context loses. -/
def cancelCounted (sl c : Nat) (s : State) : State :=
  let x := ctx sl c s
  bump (Reg.CHURN_CANCEL_CNT sl) (bumpBy (Reg.CHURN_TOK_DISCARD_CNT sl)
    (pop8 x.held + (if x.state = stReady ∨ x.state = stDispatched then pop8 x.slots else 0)) s)

/-- A cancelled context taken out of the dispatch register that holds it. -/
def cancelRemoved (sl c : Nat) (s : State) : State :=
  let x := ctx sl c s
  if x.state = stDispatched then modDisp sl x.eng (fun l => l.filter (·.ctx ≠ c)) (cancelCounted sl c s) else cancelCounted sl c s

/-- The context has become CANCELLED. -/
def cancelMarked (sl c : Nat) (s : State) : State :=
  modCtx sl c (Context.cancelled ((ctx sl c s).state == stRunning)) (cancelRemoved sl c s)

/-- A slice whose engine runs the context no more, and has to acknowledge its kill. -/
def Slice.withKill (x : Context) (c : Nat) (y : Slice) : Slice :=
  { y with
    kills := y.kills ++ [{ eng := x.eng, ctx := c, flow := if x.flowEn then some x.flow else none }]
    running := tabSet (fun _ => none) y.running x.eng none }

/-- The cancellation of any other context: it is counted and CANCELLED, and a RUNNING one is killed. -/
theorem cancelCtx_of_live {sl c : Nat} {s : State} (hidle : (ctx sl c s).state ≠ stIdle) (hcancelled : (ctx sl c s).state ≠ stCancelled) :
    cancelCtx sl c s =
      if (ctx sl c s).state = stRunning then
        send (.churn sl) 1 3 0 (.kill (64 * sl + (ctx sl c s).eng)) true false
          (modSlice sl (Slice.withKill (ctx sl c s) c) (cancelMarked sl c s))
      else cancelMarked sl c s := by
  unfold cancelCtx
  rw [if_neg (not_or.2 ⟨hidle, hcancelled⟩)]
  rfl

theorem ctx_cancelRemoved (sl c : Nat) (s : State) : ctx sl c (cancelRemoved sl c s) = ctx sl c s := by
  unfold cancelRemoved
  dsimp only
  split
  · exact ctx_modDisp _ _ _ _ _
  · rfl

theorem ctx_cancelMarked (sl c : Nat) (s : State) :
    ctx sl c (cancelMarked sl c s) = (ctx sl c s).cancelled ((ctx sl c s).state == stRunning) := by
  rw [cancelMarked, ctx_modCtx_same, ctx_cancelRemoved]

theorem ctx_cancelCtx {sl c : Nat} {s : State} (hidle : (ctx sl c s).state ≠ stIdle) (hcancelled : (ctx sl c s).state ≠ stCancelled) :
    ctx sl c (cancelCtx sl c s) = (ctx sl c s).cancelled ((ctx sl c s).state == stRunning) := by
  rw [cancelCtx_of_live hidle hcancelled]
  split
  · rw [ctx_congr (send_churn _ _ _ _ _ _ _ _), ctx_modSlice rfl, ctx_cancelMarked]
  · exact ctx_cancelMarked _ _ _

/-- What is not IDLE is CANCELLED after a cancellation. -/
theorem state_cancelCtx {sl c : Nat} {s : State} (hidle : (ctx sl c s).state ≠ stIdle) : (ctx sl c (cancelCtx sl c s)).state = stCancelled := by
  by_cases hcancelled : (ctx sl c s).state = stCancelled
  · rw [cancelCtx_of_not_live (.inr hcancelled), hcancelled]
  · rw [ctx_cancelCtx hidle hcancelled]
    rfl

/-- A register of the slice other than its status and the two counts of a cancellation stays. -/
theorem rd_cancelMarked {sl off : Nat} (h : off ≠ Reg.CHURN_STATUS sl) (c : Nat) (s : State) :
    rd off (cancelMarked sl c s) = rd off (cancelCounted sl c s) := by
  rw [cancelMarked, rd_modCtx h]
  unfold cancelRemoved
  dsimp only
  split
  · exact rd_modDisp h _ _ _
  · rfl

theorem rd_cancelCtx {sl off c : Nat} {s : State} (h : IsSliceCounter sl off) (hidle : (ctx sl c s).state ≠ stIdle)
    (hcancelled : (ctx sl c s).state ≠ stCancelled) : rd off (cancelCtx sl c s) = rd off (cancelCounted sl c s) := by
  rw [cancelCtx_of_live hidle hcancelled]
  split
  · rw [rd_send_slice h, rd_modSlice h.ne_status, rd_cancelMarked h.ne_status]
  · exact rd_cancelMarked h.ne_status _ _

theorem counted_cancelCtx {sl c : Nat} {s : State} (hsl : sl < 8) (hidle : (ctx sl c s).state ≠ stIdle)
    (hcancelled : (ctx sl c s).state ≠ stCancelled) : Counted (Reg.CHURN_CANCEL_CNT sl) s (cancelCtx sl c s) := by
  have hne : Reg.CHURN_CANCEL_CNT sl ≠ Reg.CHURN_TOK_DISCARD_CNT sl := by simp only [Reg.CHURN_CANCEL_CNT, Reg.CHURN_TOK_DISCARD_CNT]; omega
  exact counted_of_bump (rd_bumpBy_other hne _ s) (rd_cancelCtx (isSliceCounter_cancel hsl) hidle hcancelled)

/-- The engine of a RUNNING context has a kill to acknowledge. -/
theorem killing_cancelCtx {sl c : Nat} {s : State} (hrunning : (ctx sl c s).state = stRunning) :
    (slice sl (cancelCtx sl c s)).killing (ctx sl c s).eng = true := by
  have hidle : (ctx sl c s).state ≠ stIdle := by rw [hrunning]; decide
  have hcancelled : (ctx sl c s).state ≠ stCancelled := by rw [hrunning]; decide
  rw [cancelCtx_of_live hidle hcancelled, if_pos hrunning, slice_congr (send_churn _ _ _ _ _ _ _ _), slice_modSlice]
  simp [Slice.killing, Slice.withKill]

/-! ### Arming and readiness (R193, R200) -/

/-- A context that waits on, or does not wait, is left as it is. -/
theorem readyIf_of_not_ready {sl c : Nat} {s : State}
    (h : (ctx sl c s).state = stWaiting → (ctx sl c s).slots &&& (ctx sl c s).held ≠ (ctx sl c s).slots) : readyIf sl c s = s :=
  if_neg fun hw => h hw.1 hw.2

/-- An IDLE context armed, before it is looked at for readiness. -/
def Context.armed (y : Context) : Context :=
  { y with state := stWaiting, held := 0, values := [], finished := false, deadline := if y.dlMode = 1 then y.w 3 else 0 }

/-- A context with expected tokens waits for them once it is armed. -/
theorem ctx_armCtx {sl c : Nat} {s : State} (h : (ctx sl c s).slots ≠ 0) : ctx sl c (armCtx sl c s) = (ctx sl c s).armed := by
  have harmed : ctx sl c (modCtx sl c Context.armed s) = (ctx sl c s).armed := ctx_modCtx_same _ _ _ _
  have hwaits : readyIf sl c (modCtx sl c Context.armed s) = modCtx sl c Context.armed s := by
    refine readyIf_of_not_ready fun _ => ?_
    rw [harmed]
    show (ctx sl c s).slots &&& 0 ≠ (ctx sl c s).slots
    rw [Nat.and_zero]
    exact h.symm
  show ctx sl c (readyIf sl c (modCtx sl c Context.armed s)) = _
  rw [hwaits, harmed]

/-! ### Tokens (R199) -/

theorem landToken_dropped {sl c n : Nat} {s : State}
    (h : (ctx sl c s).state = stIdle ∨ (ctx sl c s).state = stCancelled ∨ (ctx sl c s).slots.testBit n = false) (value : Nat) :
    landToken sl c n value s = bump (Reg.CHURN_TOK_DROP_CNT sl) s := if_pos h

theorem waiting_not_dropped {sl c n : Nat} {s : State} (hstate : (ctx sl c s).state = stWaiting) (hslot : (ctx sl c s).slots.testBit n = true) :
    ¬((ctx sl c s).state = stIdle ∨ (ctx sl c s).state = stCancelled ∨ (ctx sl c s).slots.testBit n = false) := by
  rw [hstate, hslot]
  decide

theorem landToken_dup {sl c n : Nat} {s : State} (hstate : (ctx sl c s).state = stWaiting) (hslot : (ctx sl c s).slots.testBit n = true)
    (hheld : (ctx sl c s).held.testBit n = true) (value : Nat) :
    landToken sl c n value s = churnEvent sl 2 (bump (Reg.CHURN_TOK_DUP_CNT sl) s) := by
  unfold landToken
  dsimp only
  rw [if_neg (waiting_not_dropped hstate hslot), if_pos hheld]

/-- A context with one token more. -/
def Context.withToken (n value : Nat) (y : Context) : Context :=
  { y with held := y.held ||| 2 ^ n, values := tabSet (fun _ => 0) y.values n value }

theorem landToken_held {sl c n : Nat} {s : State} (hstate : (ctx sl c s).state = stWaiting) (hslot : (ctx sl c s).slots.testBit n = true)
    (hheld : (ctx sl c s).held.testBit n = false) (value : Nat) :
    landToken sl c n value s = readyIf sl c (modCtx sl c (Context.withToken n value) s) := by
  unfold landToken
  dsimp only
  rw [if_neg (waiting_not_dropped hstate hslot), if_neg (by rw [hheld]; decide)]
  rfl

/-- While a token is missing the context waits on with the one that came. -/
theorem ctx_landToken_waits {sl c n : Nat} {s : State} (hstate : (ctx sl c s).state = stWaiting) (hslot : (ctx sl c s).slots.testBit n = true)
    (hheld : (ctx sl c s).held.testBit n = false) (hmissing : (ctx sl c s).slots &&& ((ctx sl c s).held ||| 2 ^ n) ≠ (ctx sl c s).slots)
    (value : Nat) : ctx sl c (landToken sl c n value s) = (ctx sl c s).withToken n value := by
  have hwith : ctx sl c (modCtx sl c (Context.withToken n value) s) = (ctx sl c s).withToken n value := ctx_modCtx_same _ _ _ _
  rw [landToken_held hstate hslot hheld, readyIf_of_not_ready, hwith]
  intro _
  rw [hwith]
  exact hmissing

/-- A READY context: its tokens are those of the task. -/
def Context.ready (dl seq : Nat) (y : Context) : Context :=
  { y with
    state := stReady, inst := y.values, values := [], held := 0, deadline := dl, seq := seq
    finished := if y.dlMode = 2 then false else y.finished }

/-- A context without a deadline is READY with its last token. -/
theorem ctx_readyIf_ready {sl c : Nat} {s : State} (hstate : (ctx sl c s).state = stWaiting)
    (hall : (ctx sl c s).slots &&& (ctx sl c s).held = (ctx sl c s).slots) (hmode : (ctx sl c s).dlMode = 0) :
    ctx sl c (readyIf sl c s) = (ctx sl c s).ready (ctx sl c s).deadline (slice sl s).seq := by
  unfold readyIf
  dsimp only
  have hmode2 : ¬(ctx sl c s).dlMode = 2 := by rw [hmode]; decide
  have hlate : (decide ((ctx sl c s).dlMode ≠ 0) && lateNow (ctx sl c s).deadline s) = false := by rw [hmode]; rfl
  have hsame : ∀ f : State → State, when' false f s = s := fun _ => rfl
  rw [if_pos ⟨hstate, hall⟩, if_neg hmode2, hlate, Bool.false_and, if_neg Bool.false_ne_true, hsame, ctx_modSlice rfl, ctx_modCtx_same]
  simp only [Context.ready, if_neg hmode2]

theorem ctx_landToken_ready {sl c n : Nat} {s : State} (hstate : (ctx sl c s).state = stWaiting) (hslot : (ctx sl c s).slots.testBit n = true)
    (hheld : (ctx sl c s).held.testBit n = false) (hall : (ctx sl c s).slots &&& ((ctx sl c s).held ||| 2 ^ n) = (ctx sl c s).slots)
    (hmode : (ctx sl c s).dlMode = 0) (value : Nat) :
    (ctx sl c (landToken sl c n value s)).state = stReady ∧ tabGet (fun _ => 0) (ctx sl c (landToken sl c n value s)).inst n = value := by
  have hwith : ctx sl c (modCtx sl c (Context.withToken n value) s) = (ctx sl c s).withToken n value := ctx_modCtx_same _ _ _ _
  rw [landToken_held hstate hslot hheld, ctx_readyIf_ready (by rw [hwith]; exact hstate) (by rw [hwith]; exact hall) (by rw [hwith]; exact hmode), hwith]
  exact ⟨rfl, tabGet_tabSet_same⟩

/-! ### What the landing of a token leaves -/

/-- The reorder buffer, the entries due and the count of tokens accepted are as before. -/
structure OrderKept (sl : Nat) (s t : State) : Prop where
  due : (slice sl t).due = (slice sl s).due
  buffer : (slice sl t).buffer = (slice sl s).buffer
  tokens : rd (Reg.CHURN_TOKEN_CNT sl) t = rd (Reg.CHURN_TOKEN_CNT sl) s

theorem OrderKept.refl (sl : Nat) (s : State) : OrderKept sl s s := ⟨rfl, rfl, rfl⟩

theorem OrderKept.trans {sl : Nat} {s t u : State} (h : OrderKept sl s t) (h' : OrderKept sl t u) : OrderKept sl s u :=
  ⟨h'.due.trans h.due, h'.buffer.trans h.buffer, h'.tokens.trans h.tokens⟩

theorem orderKept_ite {sl : Nat} {s t u : State} {p : Prop} [Decidable p] (ht : OrderKept sl s t) (hu : OrderKept sl s u) :
    OrderKept sl s (if p then t else u) := by
  split
  · exact ht
  · exact hu

theorem orderKept_of_churn {sl : Nat} {s t : State} (hchurn : t.churn = s.churn)
    (htokens : rd (Reg.CHURN_TOKEN_CNT sl) t = rd (Reg.CHURN_TOKEN_CNT sl) s) : OrderKept sl s t :=
  ⟨by rw [slice_congr hchurn], by rw [slice_congr hchurn], htokens⟩

theorem orderKept_modSlice {sl : Nat} {f : Slice → Slice} (hf : ∀ x, (f x).due = x.due ∧ (f x).buffer = x.buffer) (s : State) :
    OrderKept sl s (modSlice sl f s) := by
  have hne : Reg.CHURN_TOKEN_CNT sl ≠ Reg.CHURN_STATUS sl := by simp only [Reg.CHURN_TOKEN_CNT, Reg.CHURN_STATUS]; omega
  exact ⟨by rw [slice_modSlice, (hf _).1], by rw [slice_modSlice, (hf _).2], rd_modSlice hne _ _⟩

theorem orderKept_modCtx (sl c : Nat) (f : Context → Context) (s : State) : OrderKept sl s (modCtx sl c f s) :=
  orderKept_modSlice (fun _ => by exact ⟨rfl, rfl⟩) s

theorem orderKept_modDisp (sl e : Nat) (f : List DispEntry → List DispEntry) (s : State) : OrderKept sl s (modDisp sl e f s) :=
  orderKept_modSlice (fun _ => by exact ⟨rfl, rfl⟩) s

theorem orderKept_bumpBy {sl off : Nat} (h : Reg.CHURN_TOKEN_CNT sl ≠ off) (k : Nat) (s : State) : OrderKept sl s (bumpBy off k s) :=
  orderKept_of_churn rfl (rd_bumpBy_other h k s)

theorem orderKept_churnEvent {sl : Nat} (hsl : sl < 8) (bit : Nat) (s : State) : OrderKept sl s (churnEvent sl bit s) :=
  ⟨by rw [slice_churnEvent], by rw [slice_churnEvent], rd_churnEvent (isSliceCounter_token hsl) bit s⟩

theorem orderKept_cancelCounted (sl c : Nat) (s : State) : OrderKept sl s (cancelCounted sl c s) :=
  .trans (orderKept_bumpBy (by simp only [Reg.CHURN_TOKEN_CNT, Reg.CHURN_TOK_DISCARD_CNT]; omega) _ _)
    (orderKept_bumpBy (by simp only [Reg.CHURN_TOKEN_CNT, Reg.CHURN_CANCEL_CNT]; omega) _ _)

theorem orderKept_cancelMarked (sl c : Nat) (s : State) : OrderKept sl s (cancelMarked sl c s) := by
  have hremoved : OrderKept sl s (cancelRemoved sl c s) := by
    have hcounted := orderKept_cancelCounted sl c s
    exact orderKept_ite (hcounted.trans (orderKept_modDisp _ _ _ _)) hcounted
  exact hremoved.trans (orderKept_modCtx _ _ _ _)

theorem orderKept_cancelCtx {sl : Nat} (hsl : sl < 8) (c : Nat) (s : State) : OrderKept sl s (cancelCtx sl c s) := by
  by_cases hlive : (ctx sl c s).state = stIdle ∨ (ctx sl c s).state = stCancelled
  · rw [cancelCtx_of_not_live hlive]
    exact .refl sl s
  · obtain ⟨hidle, hcancelled⟩ := not_or.1 hlive
    rw [cancelCtx_of_live hidle hcancelled]
    split
    · refine .trans (orderKept_cancelMarked sl c s) (.trans (orderKept_modSlice (f := Slice.withKill (ctx sl c s) c) (fun _ => ⟨rfl, rfl⟩) _) ?_)
      exact orderKept_of_churn (send_churn _ _ _ _ _ _ _ _) (rd_send_slice (isSliceCounter_token hsl) _ _ _ _ _ _ _ _)
    · exact orderKept_cancelMarked sl c s

theorem orderKept_readyIf {sl : Nat} (hsl : sl < 8) (c : Nat) (s : State) : OrderKept sl s (readyIf sl c s) := by
  have hlate : ∀ b : Bool, OrderKept sl s (when' b (fun t => churnEvent sl 1 (bump (Reg.CHURN_LATE_CNT sl) t)) s) := fun b => by
    have hcnt : Reg.CHURN_TOKEN_CNT sl ≠ Reg.CHURN_LATE_CNT sl := by simp only [Reg.CHURN_TOKEN_CNT, Reg.CHURN_LATE_CNT]; omega
    exact orderKept_ite (.trans (orderKept_bumpBy hcnt _ _) (orderKept_churnEvent hsl _ _)) (.refl sl s)
  refine orderKept_ite (orderKept_ite (.trans (hlate _) (orderKept_cancelCtx hsl _ _)) ?_) (.refl sl s)
  exact .trans (hlate _) (.trans (orderKept_modCtx _ _ _ _) (orderKept_modSlice (fun _ => by exact ⟨rfl, rfl⟩) _))

/-- A token that lands leaves the ordered mode and the count of tokens as they are. -/
theorem orderKept_landToken {sl : Nat} (hsl : sl < 8) (c n value : Nat) (s : State) : OrderKept sl s (landToken sl c n value s) := by
  have hdrop : Reg.CHURN_TOKEN_CNT sl ≠ Reg.CHURN_TOK_DROP_CNT sl := by simp only [Reg.CHURN_TOKEN_CNT, Reg.CHURN_TOK_DROP_CNT]; omega
  have hdup : Reg.CHURN_TOKEN_CNT sl ≠ Reg.CHURN_TOK_DUP_CNT sl := by simp only [Reg.CHURN_TOKEN_CNT, Reg.CHURN_TOK_DUP_CNT]; omega
  exact orderKept_ite (orderKept_bumpBy hdrop _ _)
    (orderKept_ite (.trans (orderKept_bumpBy hdup _ _) (orderKept_churnEvent hsl _ _)) (.trans (orderKept_modCtx _ _ _ _) (orderKept_readyIf hsl _ _)))

end Sys2Proof.Machine
end

section
/-! The commands of CHURN_CMD and the read of CHURN_NEXT (R193, R194, R204): O20. -/
namespace Sys2Proof.Machine
open Sys2Proof.Safety

/-! ### A write of CHURN_CMD -/

/-- CHURN_CMD has a card, and is a register from its first byte on. -/
theorem findReg_churnCmd {sl : Nat} (hsl : sl < 8) : ∃ d, findReg (Reg.CHURN_CMD sl) = some (d, 0) := by
  have hall : ∀ sl < 8, (findReg (Reg.CHURN_CMD sl)).map Prod.snd = some 0 := by decide +kernel
  obtain ⟨⟨d, r⟩, hd, rfl⟩ := Option.map_eq_some_iff.1 (hall sl hsl)
  exact ⟨d, hd⟩

/-- No write of CHURN_CMD is declined. -/
theorem writeRefused_churnCmd {sl : Nat} (hsl : sl < 8) (src : Nat) (s : State) : writeRefused src (Reg.CHURN_CMD sl) s = false := by
  have hmbox : Reg.CHURN_CMD sl / 4 * 4 ≠ Reg.SEC_MBOX_CTRL ∧ ¬0xB01000 ≤ Reg.CHURN_CMD sl / 4 * 4 := by
    simp only [Reg.CHURN_CMD, Reg.SEC_MBOX_CTRL]
    omega
  have hpwr : ¬(Reg.CHURN_CMD sl / 4 * 4 = Reg.PWR_CAP ∨ Reg.CHURN_CMD sl / 4 * 4 = Reg.PWR_SHED_CFG ∨ Reg.CHURN_CMD sl / 4 * 4 = Reg.PWR_THERM) := by
    simp only [Reg.CHURN_CMD, Reg.PWR_CAP, Reg.PWR_SHED_CFG, Reg.PWR_THERM]
    omega
  have hdma : ¬(0x300000 ≤ Reg.CHURN_CMD sl / 4 * 4 ∧ Reg.CHURN_CMD sl / 4 * 4 < 0x330000) := by
    simp only [Reg.CHURN_CMD]
    omega
  simp [writeRefused, hmbox.1, hmbox.2, hpwr, hdma]

theorem writeReg_churnCmd {sl : Nat} (hsl : sl < 8) (src mask v : Nat) (wide : Bool) (d : RegDesc) (s : State) :
    writeReg src (Reg.CHURN_CMD sl) mask v wide d s = (0, churnCmd sl v s) := by
  have hlo : 0x100000 ≤ Reg.CHURN_CMD sl := by simp only [Reg.CHURN_CMD]; omega
  have hhi : Reg.CHURN_CMD sl < 0x200000 := by simp only [Reg.CHURN_CMD]; omega
  have hslot : (Reg.CHURN_CMD sl - 0x100000) / 0x10000 = sl := by simp only [Reg.CHURN_CMD]; omega
  unfold writeReg
  rw [if_neg (by omega), if_neg (by omega), if_pos hhi]
  unfold writeChurn
  dsimp only
  rw [hslot, if_pos rfl]

/-- What a command with the answer and effect `r` leaves. -/
structure CommandDone (sl : Nat) (r : Nat × State) (t : State) : Prop where
  answers : ChurnAnswers r.1 sl t
  churn : t.churn = r.2.churn
  mem : t.mem = r.2.mem
  reg : ∀ off, off ≠ Reg.CHURN_CMD_STATUS sl → rd off t = rd off r.2

theorem CommandDone.ctx {sl : Nat} {r : Nat × State} {t : State} (h : CommandDone sl r t) (c : Nat) : ctx sl c t = ctx sl c r.2 :=
  ctx_congr h.churn sl c

/-- The word a row of CHURN_CMD writes names its command and its context. -/
theorem churnCmd_word {op c : Nat} (hop : op < 16) (hc : c < 8192) (sl : Nat) (s : State) :
    churnCmd sl (wordValue false (op * 0x10000000 + c % 0x2000)) s = wr (Reg.CHURN_CMD_STATUS sl) (dw (churnDo sl op c s).1) (churnDo sl op c s).2 := by
  have hword : wordValue false (op * 0x10000000 + c % 0x2000) = op * 0x10000000 + c := by
    rw [wordValue, if_neg Bool.false_ne_true]
    omega
  have hbits : bitsOf (op * 0x10000000 + c) 31 28 = op := by
    simp only [bitsOf, Nat.shiftRight_eq_div_pow]
    omega
  have hctx : (op * 0x10000000 + c) % 0x2000 = c := by omega
  rw [hword, churnCmd, hbits, hctx]

/-- A row of CHURN_CMD that reaches its register has the effect of its command. -/
theorem churnCommand_effect {i : Instr} {op src sl c : Nat} {s : State}
    (hexec : exec i s = .next (gated false (below 8 sl && below 8192 c) (churnWrite op src sl c) s)) (hop : op < 16) (hrun : Running s)
    (hsl : sl < 8) (hc : c < 8192) (hopen : Open src (Reg.CHURN_CMD sl) false true (op * 0x10000000 + c) s) :
    Effect i s (CommandDone sl (churnDo sl op c s)) := by
  obtain ⟨d, hd⟩ := findReg_churnCmd hsl
  have hoff : Reg.CHURN_CMD sl < 0x8000000 := by simp only [Reg.CHURN_CMD]; omega
  have hopen' : Open src (Reg.CHURN_CMD sl) false true (op * 0x10000000 + c % 0x2000) s := by
    rw [Nat.mod_eq_of_lt hc]
    exact hopen
  have hop : churnWrite op src sl c s =
      (let u := wr (Reg.CHURN_CMD_STATUS sl) (dw (churnDo sl op c s).1) (churnDo sl op c s).2
       { u with csr := { u.csr with respCode := 0, respData := dw 0, respEnd := false } }) := by
    rw [churnWrite, dWrite_open hoff hopen' hd (writeRefused_churnCmd hsl src s), writeReg_churnCmd hsl, churnCmd_word hop hc]
  refine ⟨_, exec_of_gated hexec hrun (below_pair hsl hc), ?_⟩
  rw [hop]
  exact ⟨⟨rd_wr_same _ _ _, rfl⟩, rfl, rfl, fun off h => rd_wr_other h _ _⟩

/-! ### DEFINE -/

/-- What a table holds after values are put at the keys of a list, which are those of the keys or were there before. -/
theorem tabGet_foldl_tabSet {α : Type} [DecidableEq α] {d f : Nat → α} {l : List Nat} {i : Nat} {t : List (Nat × α)}
    (h : i ∈ l ∨ tabGet d t i = f i) : tabGet d (l.foldl (fun t j => tabSet d t j (f j)) t) i = f i := by
  induction l generalizing t with
  | nil => exact h.resolve_left List.not_mem_nil
  | cons j l ih =>
    refine ih ?_
    by_cases hij : i = j
    · exact .inr (hij ▸ tabGet_tabSet_same)
    · rw [tabGet_tabSet_other hij]
      exact h.imp_left fun hm => (List.mem_cons.1 hm).resolve_left hij

theorem w_definedCtx (sl c : Nat) (s : State) {i : Nat} (hi : i < 6) : (definedCtx sl c s).w i = (rd (Reg.CHURN_CTX_DATA sl i) s).toNat :=
  tabGet_foldl_tabSet (f := fun i => staged sl i s) (.inl (List.mem_range.2 hi))

/-- A context may be defined while it is IDLE or CANCELLED. -/
def Definable (x : Context) : Prop := x.state = stIdle ∨ x.state = stCancelled

theorem churnDo_define_state {sl c : Nat} {s : State} (hidle : (ctx sl c s).state ≠ stIdle) (hcancelled : (ctx sl c s).state ≠ stCancelled) :
    churnDo sl 1 c s = (1, s) := if_pos ⟨hidle, hcancelled⟩

theorem churnDo_define {sl c : Nat} {s : State} (h : Definable (ctx sl c s)) :
    churnDo sl 1 c s = if badField sl (definedCtx sl c s) s then (2, s) else (0, modCtx sl c (fun _ => definedCtx sl c s) s) :=
  if_neg fun hno => h.elim hno.1 hno.2

/-- DEFINE changes no other context. -/
theorem ctx_define_other {sl c d : Nat} (h : d ≠ c) (s : State) : ctx sl d (churnDo sl 1 c s).2 = ctx sl d s := by
  by_cases hdef : Definable (ctx sl c s)
  · rw [churnDo_define hdef]
    split
    · rfl
    · exact ctx_modCtx_other h _ _
  · obtain ⟨hidle, hcancelled⟩ := not_or.1 hdef
    rw [churnDo_define_state hidle hcancelled]

theorem define_effect {src sl c : Nat} {s : State} (hrun : Running s) (hsl : sl < 8) (hc : c < 8192)
    (hopen : Open src (Reg.CHURN_CMD sl) false true (0x10000000 + c) s) :
    Effect (.define src sl c) s fun t =>
      let x := ctx sl c s
      t.mem = s.mem ∧ (∀ d, d ≠ c → ctx sl d t = ctx sl d s) ∧
      (x.state ≠ stIdle → x.state ≠ stCancelled → ChurnAnswers 1 sl t ∧ ctx sl c t = x) ∧
      ((x.state = stIdle ∨ x.state = stCancelled) → badField sl (definedCtx sl c s) s = true → ChurnAnswers 2 sl t ∧ ctx sl c t = x) ∧
      ((x.state = stIdle ∨ x.state = stCancelled) → badField sl (definedCtx sl c s) s = false → ChurnAnswers 0 sl t ∧
        (ctx sl c t).state = x.state ∧ ∀ i, i < 6 → (ctx sl c t).w i = (rd (Reg.CHURN_CTX_DATA sl i) s).toNat) := by
  obtain ⟨t, hexec, hdone⟩ := churnCommand_effect (exec_define src sl c s) (by decide) hrun hsl hc hopen
  refine ⟨t, hexec, hdone.mem.trans (churnDo_mem sl 1 c s), fun d hd => (hdone.ctx d).trans (ctx_define_other hd s), ?_, ?_, ?_⟩
  · intro hidle hcancelled
    rw [churnDo_define_state hidle hcancelled] at hdone
    exact ⟨hdone.answers, hdone.ctx c⟩
  · intro hdef hbad
    rw [churnDo_define hdef, hbad] at hdone
    exact ⟨hdone.answers, hdone.ctx c⟩
  · intro hdef hgood
    rw [churnDo_define hdef, hgood] at hdone
    have hctx : ctx sl c t = definedCtx sl c s := (hdone.ctx c).trans (ctx_modCtx_same _ _ _ _)
    rw [hctx]
    exact ⟨hdone.answers, rfl, fun i hi => w_definedCtx sl c s hi⟩

/-! ### ARM, CANCEL and RELEASE -/

theorem churnDo_arm_idle {sl c : Nat} {s : State} (h : (ctx sl c s).state = stIdle) : churnDo sl 2 c s = (0, armCtx sl c s) := if_pos h

theorem churnDo_arm_state {sl c : Nat} {s : State} (h : (ctx sl c s).state ≠ stIdle) : churnDo sl 2 c s = (1, s) := if_neg h

theorem arm_effect {src sl c : Nat} {s : State} (hrun : Running s) (hsl : sl < 8) (hc : c < 8192)
    (hopen : Open src (Reg.CHURN_CMD sl) false true (0x20000000 + c) s) :
    Effect (.arm src sl c) s fun t =>
      ((ctx sl c s).state = stIdle → (ctx sl c s).slots ≠ 0 → ChurnAnswers 0 sl t ∧ (ctx sl c t).state = stWaiting ∧ (ctx sl c t).held = 0) ∧
      ((ctx sl c s).state ≠ stIdle → ChurnAnswers 1 sl t ∧ ctx sl c t = ctx sl c s) := by
  obtain ⟨t, hexec, hdone⟩ := churnCommand_effect (exec_arm src sl c s) (by decide) hrun hsl hc hopen
  refine ⟨t, hexec, fun hidle hslots => ?_, fun hstate => ?_⟩
  · rw [churnDo_arm_idle hidle] at hdone
    rw [hdone.ctx c, ctx_armCtx hslots]
    exact ⟨hdone.answers, rfl, rfl⟩
  · rw [churnDo_arm_state hstate] at hdone
    exact ⟨hdone.answers, hdone.ctx c⟩

theorem churnDo_cancel_idle {sl c : Nat} {s : State} (h : (ctx sl c s).state = stIdle) : churnDo sl 3 c s = (1, s) := if_pos h

theorem churnDo_cancel {sl c : Nat} {s : State} (h : (ctx sl c s).state ≠ stIdle) : churnDo sl 3 c s = (0, cancelCtx sl c s) := if_neg h

theorem cancel_effect {src sl c : Nat} {s : State} (hrun : Running s) (hsl : sl < 8) (hc : c < 8192)
    (hopen : Open src (Reg.CHURN_CMD sl) false true (0x30000000 + c) s) :
    Effect (.cancel src sl c) s fun t =>
      ((ctx sl c s).state = stIdle → ChurnAnswers 1 sl t ∧ ctx sl c t = ctx sl c s) ∧
      ((ctx sl c s).state ≠ stIdle → ChurnAnswers 0 sl t ∧ (ctx sl c t).state = stCancelled) ∧
      ((ctx sl c s).state ≠ stIdle → (ctx sl c s).state ≠ stCancelled → (ctx sl c t).held = 0 ∧ Counted (Reg.CHURN_CANCEL_CNT sl) s t) ∧
      ((ctx sl c s).state = stRunning → (slice sl t).killing (ctx sl c s).eng = true) := by
  obtain ⟨t, hexec, hdone⟩ := churnCommand_effect (exec_cancel src sl c s) (by decide) hrun hsl hc hopen
  by_cases hidle : (ctx sl c s).state = stIdle
  · rw [churnDo_cancel_idle hidle] at hdone
    refine ⟨t, hexec, fun _ => ⟨hdone.answers, hdone.ctx c⟩, fun hno => absurd hidle hno, fun hno => absurd hidle hno, fun hrunning => ?_⟩
    rw [hidle] at hrunning
    exact absurd hrunning (by decide)
  · rw [churnDo_cancel hidle] at hdone
    refine ⟨t, hexec, fun hno => absurd hno hidle, fun _ => ⟨hdone.answers, ?_⟩, fun _ hcancelled => ⟨?_, ?_⟩, fun hrunning => ?_⟩
    · rw [hdone.ctx c, state_cancelCtx hidle]
    · rw [hdone.ctx c, ctx_cancelCtx hidle hcancelled]
      rfl
    · have hne : Reg.CHURN_CANCEL_CNT sl ≠ Reg.CHURN_CMD_STATUS sl := by simp only [Reg.CHURN_CANCEL_CNT, Reg.CHURN_CMD_STATUS]; omega
      rw [Counted, hdone.reg _ hne]
      exact counted_cancelCtx hsl hidle hcancelled
    · rw [slice_congr hdone.churn]
      exact killing_cancelCtx hrunning

/-- A kill whose context has been released says no more where that context runs. -/
def Kill.released (c : Nat) (k : Kill) : Kill := if k.ctx = c then { k with live := false } else k

theorem churnDo_release {sl c : Nat} {s : State} (h : (ctx sl c s).state = stCancelled) :
    churnDo sl 5 c s = (0, modSlice sl (fun y => { y with kills := y.kills.map (Kill.released c) })
      (modCtx sl c (fun y => { y with state := stIdle, held := 0, oneng := false, deadline := 0 }) s)) := if_pos h

theorem churnDo_release_state {sl c : Nat} {s : State} (h : (ctx sl c s).state ≠ stCancelled) : churnDo sl 5 c s = (1, s) := if_neg h

theorem release_effect {src sl c : Nat} {s : State} (hrun : Running s) (hsl : sl < 8) (hc : c < 8192)
    (hopen : Open src (Reg.CHURN_CMD sl) false true (0x50000000 + c) s) :
    Effect (.release src sl c) s fun t =>
      ((ctx sl c s).state = stCancelled → ChurnAnswers 0 sl t ∧ (ctx sl c t).state = stIdle) ∧
      ((ctx sl c s).state ≠ stCancelled → ChurnAnswers 1 sl t ∧ ctx sl c t = ctx sl c s) := by
  obtain ⟨t, hexec, hdone⟩ := churnCommand_effect (exec_release src sl c s) (by decide) hrun hsl hc hopen
  refine ⟨t, hexec, fun hcancelled => ?_, fun hstate => ?_⟩
  · rw [churnDo_release hcancelled] at hdone
    rw [hdone.ctx c, ctx_modSlice rfl, ctx_modCtx_same]
    exact ⟨hdone.answers, rfl⟩
  · rw [churnDo_release_state hstate] at hdone
    exact ⟨hdone.answers, hdone.ctx c⟩

/-! ### READ -/

/-- A register written in a list of writes, or before it, holds what the list gives it. -/
theorem rd_forEach_wr {a : Nat → Nat} (ha : ∀ i j, a i = a j → i = j) {v : Nat → DWord} {l : List Nat} {i : Nat} {s : State}
    (h : i ∈ l ∨ rd (a i) s = v i) : rd (a i) (forEach l (fun j => wr (a j) (v j)) s) = v i := by
  unfold forEach
  induction l generalizing s with
  | nil => exact h.resolve_left List.not_mem_nil
  | cons j l ih =>
    refine ih ?_
    by_cases hij : i = j
    · exact .inr (hij ▸ rd_wr_same _ _ _)
    · rw [rd_wr_other (fun he => hij (ha _ _ he))]
      exact h.imp_left fun hm => (List.mem_cons.1 hm).resolve_left hij

/-- Word `i` of a context as READ gives it (R191). -/
def Context.readWord (x : Context) (i : Nat) : Nat := if i = 6 then x.word6 else if i = 7 then x.deadline else x.w i

theorem churnDo_read (sl c : Nat) (s : State) :
    churnDo sl 4 c s = (0, forEach (upto 8) (fun i => wr (Reg.CHURN_CTX_DATA sl i) (dw ((ctx sl c s).readWord i))) s) := rfl

theorem read_effect {src sl c : Nat} {s : State} (hrun : Running s) (hsl : sl < 8) (hc : c < 8192)
    (hopen : Open src (Reg.CHURN_CMD sl) false true (0x40000000 + c) s) :
    Effect (.read src sl c) s fun t => ChurnAnswers 0 sl t ∧ t.churn = s.churn ∧ t.mem = s.mem ∧
      (∀ i, i < 6 → rd (Reg.CHURN_CTX_DATA sl i) t = dw ((ctx sl c s).w i)) ∧
      rd (Reg.CHURN_CTX_DATA sl 6) t = dw ((ctx sl c s).state * 0x20000000 + (ctx sl c s).held * 0x10000 + b2n (ctx sl c s).oneng * 0x8000 +
        (ctx sl c s).eng * 0x200) ∧
      rd (Reg.CHURN_CTX_DATA sl 7) t = dw (ctx sl c s).deadline := by
  obtain ⟨t, hexec, hdone⟩ := churnCommand_effect (exec_read src sl c s) (by decide) hrun hsl hc hopen
  have hwords : ∀ i < 8, rd (Reg.CHURN_CTX_DATA sl i) t = dw ((ctx sl c s).readWord i) := fun i hi => by
    have hne : Reg.CHURN_CTX_DATA sl i ≠ Reg.CHURN_CMD_STATUS sl := by simp only [Reg.CHURN_CTX_DATA, Reg.CHURN_CMD_STATUS]; omega
    have hinj : ∀ i j, Reg.CHURN_CTX_DATA sl i = Reg.CHURN_CTX_DATA sl j → i = j := fun i j => by simp only [Reg.CHURN_CTX_DATA]; omega
    rw [hdone.reg _ hne, churnDo_read]
    exact rd_forEach_wr (v := fun i => dw ((ctx sl c s).readWord i)) hinj (.inl (List.mem_range.2 hi))
  have hsame : t.churn = s.churn := by
    rw [hdone.churn, churnDo_read]
    exact forEach_keeps (f := fun i => wr (Reg.CHURN_CTX_DATA sl i) (dw ((ctx sl c s).readWord i))) (fun _ t => wr_churn _ _ t) _ s
  have hword : ∀ i < 6, (ctx sl c s).readWord i = (ctx sl c s).w i := fun i hi => by
    rw [Context.readWord, if_neg (by omega), if_neg (by omega)]
  exact ⟨t, hexec, hdone.answers, hsame, hdone.mem.trans (churnDo_mem sl 4 c s), fun i hi => by rw [hwords i (by omega), hword i hi],
    hwords 6 (by decide), hwords 7 (by decide)⟩

/-! ### CHURN_NEXT -/

theorem takeNext_empty {sl e : Nat} {s : State} (hkill : (slice sl s).killing e = false) (hd : (slice sl s).d e = []) : takeNext sl e s = (0, s) := by
  unfold takeNext
  rw [hkill, hd]
  rfl

/-- A slice whose engine `e` has taken the entry of context `c` and keeps `r`. -/
def Slice.taken (e c : Nat) (r : List DispEntry) (y : Slice) : Slice :=
  { y with disp := tabSet (fun _ => []) y.disp e r, running := tabSet (fun _ => none) y.running e (some c) }

theorem d_taken (e c : Nat) (r : List DispEntry) (y : Slice) : (y.taken e c r).d e = r := tabGet_tabSet_same (α := List DispEntry)

theorem run_taken (e c : Nat) (r : List DispEntry) (y : Slice) : (y.taken e c r).run e = some c := by
  rw [Slice.run, Slice.taken, tabGet_tabSet_same]

theorem takeNext_visible {sl e : Nat} {s : State} {d : DispEntry} {r : List DispEntry} (hkill : (slice sl s).killing e = false)
    (hd : (slice sl s).d e = d :: r) (hv : d.visible = true) :
    takeNext sl e s = (entryWord sl d.ctx (ctx sl d.ctx s),
      modCtx sl d.ctx (fun y => { y with state := stRunning }) (modSlice sl (Slice.taken e d.ctx r) s)) := by
  unfold takeNext
  rw [hkill, hd]
  dsimp only
  rw [if_neg Bool.false_ne_true, if_pos hv]
  rfl

/-- With no task running a read of CHURN_NEXT takes the next entry. -/
theorem churnNext_idle {sl e : Nat} {s : State} (h : (slice sl s).run e = none) :
    churnNext sl e s = ((takeNext sl e s).1, false, (takeNext sl e s).2) := by
  unfold churnNext
  rw [h]

theorem leNat_leBytes (n v : Nat) : leNat (leBytes n v) = v % 256 ^ n := by
  induction n generalizing v with
  | zero => rw [Nat.pow_zero, Nat.mod_one]; rfl
  | succ n ih =>
    show (BitVec.ofNat 8 v).toNat + 256 * leNat (leBytes n (v / 256)) = _
    rw [ih, BitVec.toNat_ofNat, Nat.pow_succ' (m := 256)]
    exact Nat.mod_mul.symm

/-- A wide access that is answered OK is at the first byte of a register. -/
theorem findReg_wide {off : Nat} {s : State} (h : accessCodeNow off true s = 0) : ∃ d, findReg off = some (d, 0) := by
  have hacc := accessCode_of_now h
  unfold accessCode at hacc
  split at hacc
  · split at hacc <;> cases hacc
  · next d r hd =>
    rw [if_pos rfl] at hacc
    split at hacc
    · next hfirst => exact ⟨d, hd.trans (by rw [hfirst.2.1])⟩
    · cases hacc

/-- A wide read that reaches CHURN_NEXT does what the slice does with it. -/
theorem csrRead_churnNext {src sl e : Nat} {s : State} (hsl : sl < 8) (he : e < 64) (hcode : accessCodeNow (Reg.CHURN_NEXT sl e) true s = 0) :
    csrRead src (Reg.CHURN_NEXT sl e) true false s =
      (0, leBytes 8 (churnNext sl e s).1 ++ (if (churnNext sl e s).2.1 then [1] else []), (churnNext sl e s).2.2) := by
  have hstamp : Reg.CHURN_NEXT sl e ≠ Reg.SHADOW_STAMP := by simp only [Reg.CHURN_NEXT, Reg.SHADOW_STAMP]; omega
  have hsec : Reg.CHURN_NEXT sl e ≠ Reg.TIME_NOW_SEC := by simp only [Reg.CHURN_NEXT, Reg.TIME_NOW_SEC]; omega
  have hsub : Reg.CHURN_NEXT sl e ≠ Reg.TIME_NOW_SUB := by simp only [Reg.CHURN_NEXT, Reg.TIME_NOW_SUB]; omega
  have hat : churnNextAt (Reg.CHURN_NEXT sl e) = some (sl, e) := by
    have hmod : Reg.CHURN_NEXT sl e % 0x10000 = 0x1000 + 8 * e := by simp only [Reg.CHURN_NEXT]; omega
    have hin : 0x100000 ≤ Reg.CHURN_NEXT sl e ∧ Reg.CHURN_NEXT sl e < 0x180000 ∧ 0x1000 ≤ Reg.CHURN_NEXT sl e % 0x10000 ∧
        Reg.CHURN_NEXT sl e % 0x10000 < 0x1200 := by rw [hmod]; simp only [Reg.CHURN_NEXT]; omega
    have hblock : (Reg.CHURN_NEXT sl e - 0x100000) / 0x10000 = sl := by simp only [Reg.CHURN_NEXT]; omega
    have hentry : (Reg.CHURN_NEXT sl e % 0x10000 - 0x1000) / 8 = e := by
      rw [hmod, Nat.add_sub_cancel_left, Nat.mul_div_cancel_left e (by decide)]
    rw [churnNextAt, if_pos hin, hblock, hentry]
  obtain ⟨d, hd⟩ := findReg_wide hcode
  unfold csrRead
  split
  · next d' r _ hd' =>
    obtain ⟨rfl, rfl⟩ : d = d' ∧ 0 = r := by simpa [hd] using hd'
    dsimp only
    rw [Nat.sub_zero, if_neg hstamp, if_neg hsec, if_neg hsub, hat]
    rfl
  · next hno => exact absurd hd (hno d 0 hcode)

/-- A direct read that reaches its register is answered with what the register gives. -/
theorem dRead_open {src off : Nat} {wide : Bool} {s : State} (ho : Open src off wide false 0 s) :
    dRead src off wide false s = accessEnd ⟨src, off, wide, false, 0, false, none⟩ (csrRead src off wide false s) := by
  obtain ⟨hguard, hstall, -⟩ := ho
  rw [dRead, direct_open hguard, access_accepted hstall]
  rfl

/-- What a read that takes the entry and leaves the state of `r` is answered with. -/
structure EntryRead (r : Nat × State) (t : State) : Prop where
  code : t.csr.respCode = 0
  ended : t.csr.respEnd = false
  data : t.csr.respData = dw r.1
  churn : t.churn = r.2.churn
  mem : t.mem = r.2.mem

theorem churnNextRead_takes {src sl e : Nat} {s : State} (hrun : Running s) (hsl : sl < 8) (he : e < 64)
    (hopen : Open src (Reg.CHURN_NEXT sl e) true false 0 s) (hidle : (slice sl s).run e = none) :
    Effect (.churnNextRead src sl e) s (EntryRead (takeNext sl e s)) := by
  have hdata : dw (leNat ((leBytes 8 (takeNext sl e s).1).take 8)) = dw (takeNext sl e s).1 := by
    rw [List.take_of_length_le (leBytes_length _ _).le, leNat_leBytes]
    exact BitVec.eq_of_toNat_eq (by simp [dw])
  have hop : opChurnNextRead src sl e s =
      (let u := (takeNext sl e s).2
       { u with csr := { u.csr with respCode := 0, respData := dw (takeNext sl e s).1, respEnd := false } }) := by
    rw [opChurnNextRead, dRead_open hopen, csrRead_churnNext hsl he hopen.2.2, churnNext_idle hidle]
    dsimp only
    rw [if_neg Bool.false_ne_true, List.append_nil, accessEnd]
    dsimp only
    rw [hdata, leBytes_length]
    rfl
  refine ⟨_, exec_of_gated (exec_churnNextRead src sl e s) hrun (below_pair hsl he), ?_⟩
  rw [hop]
  exact ⟨rfl, rfl, rfl, rfl, rfl⟩

theorem churnNextRead_effect {src sl e : Nat} {s : State} (hrun : Running s) (hsl : sl < 8) (he : e < 64)
    (hopen : Open src (Reg.CHURN_NEXT sl e) true false 0 s) (hidle : (slice sl s).run e = none) (hkill : (slice sl s).killing e = false) :
    Effect (.churnNextRead src sl e) s fun t =>
      t.csr.respCode = 0 ∧ t.csr.respEnd = false ∧ t.mem = s.mem ∧
      ((slice sl s).d e = [] → t.csr.respData = 0 ∧ t.churn = s.churn) ∧
      ∀ d r, (slice sl s).d e = d :: r → d.visible = true → t.csr.respData = dw (entryWord sl d.ctx (ctx sl d.ctx s)) ∧
        (slice sl t).d e = r ∧ (slice sl t).run e = some d.ctx ∧ (ctx sl d.ctx t).state = stRunning := by
  obtain ⟨t, hexec, hread⟩ := churnNextRead_takes hrun hsl he hopen hidle
  refine ⟨t, hexec, hread.code, hread.ended, hread.mem.trans (takeNext_mem sl e s), fun hd => ?_, fun d r hd hv => ?_⟩
  · rw [takeNext_empty hkill hd] at hread
    exact ⟨hread.data, hread.churn⟩
  · rw [takeNext_visible hkill hd hv] at hread
    have hd' : (slice sl t).d e = r := by
      rw [slice_congr hread.churn, slice_modCtx, slice_modSlice]
      exact d_taken e d.ctx r (slice sl s)
    have hrun' : (slice sl t).run e = some d.ctx := by
      rw [slice_congr hread.churn, slice_modCtx, slice_modSlice]
      exact run_taken e d.ctx r (slice sl s)
    exact ⟨hread.data, hd', hrun', by rw [ctx_congr hread.churn, ctx_modCtx_same]⟩

/-- Settles O20: each command by what `churnDo` makes of it, and the read of CHURN_NEXT by what the slice takes. -/
theorem churnCommands : Obligations.ChurnCommands := by
  unfold Obligations.ChurnCommands
  exact ⟨fun _ _ _ _ => define_effect, fun _ _ _ _ => arm_effect, fun _ _ _ _ => cancel_effect, fun _ _ _ _ => read_effect,
    fun _ _ _ _ => release_effect, fun _ _ _ _ => churnNextRead_effect⟩

end Sys2Proof.Machine
end

section
/-! Tokens, messages, dispatch and acknowledgements at a slice (R195, R196, R199 to R203, R206, R213): O21. -/
namespace Sys2Proof.Machine
open Sys2Proof.Safety

/-! ### Messages (R195, R196) -/

/-- A message for the slice with no reserved bit set. -/
structure GoodMessage (sl w0 : Nat) : Prop where
  reserved : bitsOf w0 27 19 = 0
  slice : bitsOf w0 15 13 = sl

theorem GoodMessage.accepted {sl w0 : Nat} (h : GoodMessage sl w0) : ¬(bitsOf w0 27 19 ≠ 0 ∨ (0 : Nat) ≠ 0 ∨ bitsOf w0 15 13 ≠ sl) := by
  simp [h.reserved, h.slice]

theorem churnMsg_token {sl w0 : Nat} (h : GoodMessage sl w0) (htyp : bitsOf w0 31 28 = 1) (w1 src : Nat) (s : State) :
    churnMsg sl w0 w1 src 0 s = arriveToken sl (w0 % 0x80000) src (w1 % 2 ^ 32) s := by
  unfold churnMsg
  dsimp only
  rw [if_neg h.accepted, htyp]
  rfl

theorem churnMsg_cancel {sl w0 : Nat} (h : GoodMessage sl w0) (htyp : bitsOf w0 31 28 = 2) (w1 src : Nat) (s : State) :
    churnMsg sl w0 w1 src 0 s = if (ctx sl (w0 % 0x2000) s).state = stIdle then badMsg sl s else cancelCtx sl (w0 % 0x2000) s := by
  unfold churnMsg
  dsimp only
  rw [if_neg h.accepted, htyp]
  rfl

theorem churnMsg_arm {sl w0 : Nat} (h : GoodMessage sl w0) (htyp : bitsOf w0 31 28 = 3) (w1 src : Nat) (s : State) :
    churnMsg sl w0 w1 src 0 s = if (ctx sl (w0 % 0x2000) s).state = stIdle then armCtx sl (w0 % 0x2000) s else badMsg sl s := by
  unfold churnMsg
  dsimp only
  rw [if_neg h.accepted, htyp]
  rfl

/-- A message with other reserved bits set is dropped. -/
theorem churnMsg_reserved {res : Nat} (h : res ≠ 0) (sl w0 w1 src : Nat) (s : State) : churnMsg sl w0 w1 src res s = badMsg sl s :=
  if_pos (.inr (.inl h))

theorem ctx_badMsg (sl c : Nat) (s : State) : ctx sl c (badMsg sl s) = ctx sl c s := (ctx_churnEvent _ _ _ _).trans (ctx_congr (bump_churn _ _) _ _)

theorem counted_badMsg {sl : Nat} (hsl : sl < 8) (s : State) : Counted (Reg.CHURN_BAD_MSG_CNT sl) s (badMsg sl s) :=
  counted_of_bump rfl (rd_churnEvent (isSliceCounter_badMsg hsl) _ _)

/-- A message that reaches its unit writes no register: what is counted from there on is counted from before it. -/
theorem counted_of_consume {off : Nat} {b : Payload} {s t : State} (h : Counted off (consume b s) t) : Counted off s t := by
  rw [Counted, rd_congr (consume_csr b s)] at h
  exact h

theorem ctx_consume (sl c : Nat) (b : Payload) (s : State) : ctx sl c (consume b s) = ctx sl c s := ctx_congr (consume_churn b s) sl c

/-- The message of a row bears its type in place of bits 31 to 28, and the rest of its word. -/
theorem bitsOf_typed (w0 typ : Nat) (h : typ < 16) : bitsOf (withBits w0 31 28 typ) 31 28 = typ := by
  rw [bitsOf_withBits_same]
  exact Nat.mod_eq_of_lt h

theorem goodMessage_typed {sl w0 : Nat} (h : GoodMessage sl w0) (typ : Nat) : GoodMessage sl (withBits w0 31 28 typ) :=
  ⟨(bitsOf_withBits_other _ _ _ _ _ _ (.inl (by decide))).trans h.reserved, (bitsOf_withBits_other _ _ _ _ _ _ (.inl (by decide))).trans h.slice⟩

theorem context_typed (w0 typ : Nat) : withBits w0 31 28 typ % 0x2000 = w0 % 0x2000 :=
  bitsOf_withBits_other w0 31 28 typ 12 0 (.inl (by decide))

/-- An ARM message arms an IDLE context (R196). -/
theorem opArmMessage_good {sl w0 : Nat} (h : GoodMessage sl w0) (src : Nat) (s : State) :
    opArmMessage sl w0 src 0 s =
      (let u := consume (.arm sl (w0 % 0x2000)) s
       if (ctx sl (w0 % 0x2000) s).state = stIdle then armCtx sl (w0 % 0x2000) u else badMsg sl u) := by
  rw [opArmMessage, churnMsg_arm (goodMessage_typed h 3) (bitsOf_typed w0 3 (by decide)), context_typed, ctx_consume]

/-- A CANCEL message cancels a context that is not IDLE (R196). -/
theorem opCancelMessage_good {sl w0 : Nat} (h : GoodMessage sl w0) (src : Nat) (s : State) :
    opCancelMessage sl w0 src 0 s =
      (let u := consume (.cancel sl (w0 % 0x2000)) s
       if (ctx sl (w0 % 0x2000) s).state = stIdle then badMsg sl u else cancelCtx sl (w0 % 0x2000) u) := by
  rw [opCancelMessage, churnMsg_cancel (goodMessage_typed h 2) (bitsOf_typed w0 2 (by decide)), context_typed, ctx_consume]

theorem wf_token {sl w0 w1 : Nat} (hsl : sl < 8) (hw0 : w0 < 2 ^ 32) (hw1 : w1 < 2 ^ 32) :
    (below 8 sl && below 4294967296 w0 && below 4294967296 w1) = true := by
  rw [below_pair (b := 4294967296) hsl hw0, Bool.true_and]
  exact below_of_lt hw1

theorem armMessage_effect {sl w0 src : Nat} {s : State} (hrun : Running s) (hsl : sl < 8) (hw0 : w0 < 2 ^ 32) (hres : bitsOf w0 27 19 = 0)
    (hslice : bitsOf w0 15 13 = sl) (hslots : (ctx sl (w0 % 0x2000) s).slots ≠ 0) :
    Effect (.armMessage sl w0 src 0) s fun t =>
      ((ctx sl (w0 % 0x2000) s).state = stIdle → (ctx sl (w0 % 0x2000) t).state = stWaiting) ∧
      ((ctx sl (w0 % 0x2000) s).state ≠ stIdle → ctx sl (w0 % 0x2000) t = ctx sl (w0 % 0x2000) s ∧ Counted (Reg.CHURN_BAD_MSG_CNT sl) s t) := by
  refine ⟨_, exec_of_gated (exec_armMessage sl w0 src 0 s) hrun (below_pair hsl hw0), fun hidle => ?_, fun hstate => ?_⟩
  · rw [ctx_congr (inOrder_churn _ _), opArmMessage_good ⟨hres, hslice⟩]
    dsimp only
    rw [if_pos hidle, ctx_armCtx (by rw [ctx_consume]; exact hslots)]
    rfl
  · rw [ctx_congr (inOrder_churn _ _), opArmMessage_good ⟨hres, hslice⟩]
    dsimp only
    rw [if_neg hstate, ctx_badMsg, ctx_consume]
    exact ⟨rfl, counted_inOrder (counted_of_consume (counted_badMsg hsl _))⟩

theorem cancelMessage_effect {sl w0 src : Nat} {s : State} (hrun : Running s) (hsl : sl < 8) (hw0 : w0 < 2 ^ 32) (hres : bitsOf w0 27 19 = 0)
    (hslice : bitsOf w0 15 13 = sl) :
    Effect (.cancelMessage sl w0 src 0) s fun t =>
      ((ctx sl (w0 % 0x2000) s).state ≠ stIdle → (ctx sl (w0 % 0x2000) t).state = stCancelled) ∧
      ((ctx sl (w0 % 0x2000) s).state = stIdle → ctx sl (w0 % 0x2000) t = ctx sl (w0 % 0x2000) s ∧ Counted (Reg.CHURN_BAD_MSG_CNT sl) s t) := by
  refine ⟨_, exec_of_gated (exec_cancelMessage sl w0 src 0 s) hrun (below_pair hsl hw0), fun hstate => ?_, fun hidle => ?_⟩
  · rw [ctx_congr (inOrder_churn _ _), opCancelMessage_good ⟨hres, hslice⟩]
    dsimp only
    rw [if_neg hstate, state_cancelCtx (by rw [ctx_consume]; exact hstate)]
  · rw [ctx_congr (inOrder_churn _ _), opCancelMessage_good ⟨hres, hslice⟩]
    dsimp only
    rw [if_pos hidle, ctx_badMsg, ctx_consume]
    exact ⟨rfl, counted_inOrder (counted_of_consume (counted_badMsg hsl _))⟩

/-- What a message dropped leaves, once it has come to the slice. -/
theorem dropped_effect {i : Instr} {sl : Nat} {wf : Bool} {op : State → State} {b : Payload} {s : State}
    (hexec : exec i s = .next (gated false wf op s)) (hrun : Running s) (hwf : wf = true) (hsl : sl < 8) (hop : op s = badMsg sl (consume b s)) :
    Effect i s fun t => Counted (Reg.CHURN_BAD_MSG_CNT sl) s t ∧ ∀ c, ctx sl c t = ctx sl c s := by
  refine ⟨_, exec_of_gated hexec hrun hwf, ?_⟩
  rw [hop]
  exact ⟨counted_inOrder (counted_of_consume (counted_badMsg hsl _)),
    fun c => (ctx_congr (inOrder_churn _ _) sl c).trans ((ctx_badMsg sl c _).trans (ctx_consume sl c b s))⟩

theorem reserved_effect {sl w0 w1 src res : Nat} {s : State} (hrun : Running s) (hsl : sl < 8) (hw0 : w0 < 2 ^ 32) (hw1 : w1 < 2 ^ 32)
    (hres : res ≠ 0) (i : Instr) (hi : i ∈ [Instr.token sl w0 w1 src res, .armMessage sl w0 src res, .cancelMessage sl w0 src res]) :
    Effect i s fun t => Counted (Reg.CHURN_BAD_MSG_CNT sl) s t ∧ ∀ c, ctx sl c t = ctx sl c s := by
  simp only [List.mem_cons, List.not_mem_nil, or_false] at hi
  obtain rfl | rfl | rfl := hi
  · exact dropped_effect (exec_token sl w0 w1 src res s) hrun (wf_token hsl hw0 hw1) hsl (churnMsg_reserved hres _ _ _ _ _)
  · exact dropped_effect (exec_armMessage sl w0 src res s) hrun (below_pair hsl hw0) hsl (churnMsg_reserved hres _ _ _ _ _)
  · exact dropped_effect (exec_cancelMessage sl w0 src res s) hrun (below_pair hsl hw0) hsl (churnMsg_reserved hres _ _ _ _ _)

/-! ### The ordered mode in force (R212, R213) -/

/-- The ordered mode is read from CHURN_CTRL and REC_STATUS. -/
theorem orderMode_congr {sl : Nat} {s t : State} (hrec : rd Reg.REC_STATUS s = rd Reg.REC_STATUS t)
    (hctrl : rd (Reg.CHURN_CTRL sl) s = rd (Reg.CHURN_CTRL sl) t) : orderMode sl s = orderMode sl t := by
  have hreplay : inReplay s = inReplay t := by simp only [inReplay, flagOn, fld, hrec]
  rw [orderMode, orderMode, hreplay, fld, fld, hctrl]

/-- Counting a token leaves the ordered mode. -/
theorem orderMode_bumpToken {sl : Nat} (hsl : sl < 8) (s : State) : orderMode sl (bump (Reg.CHURN_TOKEN_CNT sl) s) = orderMode sl s := by
  have hrec : Reg.REC_STATUS ≠ Reg.CHURN_TOKEN_CNT sl := by simp only [Reg.REC_STATUS, Reg.CHURN_TOKEN_CNT]; omega
  have hctrl : Reg.CHURN_CTRL sl ≠ Reg.CHURN_TOKEN_CNT sl := by simp only [Reg.CHURN_CTRL, Reg.CHURN_TOKEN_CNT]; omega
  exact orderMode_congr (rd_bump_other hrec s) (rd_bump_other hctrl s)

theorem orderMode_modSlice {sl : Nat} (hsl : sl < 8) (f : Slice → Slice) (s : State) : orderMode sl (modSlice sl f s) = orderMode sl s := by
  have hrec : Reg.REC_STATUS ≠ Reg.CHURN_STATUS sl := by simp only [Reg.REC_STATUS, Reg.CHURN_STATUS]; omega
  have hctrl : Reg.CHURN_CTRL sl ≠ Reg.CHURN_STATUS sl := by simp only [Reg.CHURN_CTRL, Reg.CHURN_STATUS]; omega
  exact orderMode_congr (rd_modSlice hrec f s) (rd_modSlice hctrl f s)

/-- Outside RECORD a token is counted and lands, with no log entry. -/
theorem acceptToken_unrecorded {sl : Nat} (hsl : sl < 8) {s : State} (h : orderMode sl s ≠ 1) (key src value : Nat) :
    acceptToken sl key src value s = landToken sl (key % 0x2000) (bitsOf key 18 16) value (bump (Reg.CHURN_TOKEN_CNT sl) s) := by
  rw [acceptToken, logToken, if_neg (by rw [orderMode_bumpToken hsl]; exact h)]

/-- A token accepted outside RECORD is counted, whatever becomes of it. -/
theorem counted_acceptToken {sl : Nat} (hsl : sl < 8) {s : State} (h : orderMode sl s ≠ 1) (key src value : Nat) :
    Counted (Reg.CHURN_TOKEN_CNT sl) s (acceptToken sl key src value s) := by
  rw [acceptToken_unrecorded hsl h]
  exact counted_of_bump rfl (orderKept_landToken hsl _ _ _ _).tokens

/-! ### Tokens (R199) -/

/-- In mode OFF, with nothing held back, a TOKEN message is counted and lands. -/
theorem opToken_good {sl w0 w1 src : Nat} {s : State} (hsl : sl < 8) (hw1 : w1 < 2 ^ 32) (htyp : bitsOf w0 31 28 = 1) (h : GoodMessage sl w0)
    (hmode : orderMode sl s = 0) (hbuffer : (slice sl s).buffer = []) :
    ∃ b, opToken sl w0 w1 src 0 s =
      landToken sl (w0 % 0x2000) (bitsOf w0 18 16) w1 (bump (Reg.CHURN_TOKEN_CNT sl) (consume b s)) := by
  have hkey : w0 % 0x80000 % 0x2000 = w0 % 0x2000 := Nat.mod_mod_of_dvd _ (by decide)
  have hslot : bitsOf (w0 % 0x80000) 18 16 = bitsOf w0 18 16 := by
    simp only [bitsOf, Nat.shiftRight_eq_div_pow]
    omega
  refine ⟨.token sl (w0 % 0x2000) (bitsOf w0 18 16) (w1 % 2 ^ 32), ?_⟩
  rw [opToken]
  generalize Payload.token sl (w0 % 0x2000) (bitsOf w0 18 16) (w1 % 2 ^ 32) = b
  have hmode' : orderMode sl (consume b s) = 0 := (orderMode_congr (rd_congr (consume_csr b s) _) (rd_congr (consume_csr b s) _)).trans hmode
  have hbuffer' : (slice sl (consume b s)).buffer = [] := by rw [slice_congr (consume_churn b s), hbuffer]
  have harrive : arriveToken sl (w0 % 0x80000) (messageSrc b src s) (w1 % 2 ^ 32) (consume b s) =
      acceptToken sl (w0 % 0x80000) (messageSrc b src s) (w1 % 2 ^ 32) (consume b s) := by
    rw [arriveToken, hbuffer']
    exact if_neg fun hno => by
      have h2 : orderMode sl (consume b s) = 2 := hno.1
      rw [hmode'] at h2
      cases h2
  rw [churnMsg_token h htyp, harrive, acceptToken_unrecorded hsl (by rw [hmode']; decide), hkey, hslot, Nat.mod_eq_of_lt hw1]

theorem token_effect {sl w0 w1 src : Nat} {s : State} (hrun : Running s) (hsl : sl < 8) (hw0 : w0 < 2 ^ 32) (hw1 : w1 < 2 ^ 32)
    (htyp : bitsOf w0 31 28 = 1) (hres : bitsOf w0 27 19 = 0) (hslice : bitsOf w0 15 13 = sl) (hmode : orderMode sl s = 0)
    (hbuffer : (slice sl s).buffer = []) :
    Effect (.token sl w0 w1 src 0) s fun t =>
      let c := w0 % 0x2000
      let n := bitsOf w0 18 16
      let x := ctx sl c s
      t.mem = s.mem ∧ Counted (Reg.CHURN_TOKEN_CNT sl) s t ∧
      (x.state = stWaiting → x.slots.testBit n = true → x.held.testBit n = false → x.slots &&& (x.held ||| 2 ^ n) ≠ x.slots →
        (ctx sl c t).state = stWaiting ∧ (ctx sl c t).held = x.held ||| 2 ^ n ∧ tabGet (fun _ => 0) (ctx sl c t).values n = w1) ∧
      (x.state = stWaiting → x.slots.testBit n = true → x.held.testBit n = false → x.slots &&& (x.held ||| 2 ^ n) = x.slots → x.dlMode = 0 →
        (ctx sl c t).state = stReady ∧ tabGet (fun _ => 0) (ctx sl c t).inst n = w1) ∧
      (x.state = stWaiting → x.slots.testBit n = true → x.held.testBit n = true → Counted (Reg.CHURN_TOK_DUP_CNT sl) s t ∧ ctx sl c t = x) ∧
      ((x.state = stIdle ∨ x.state = stCancelled ∨ x.slots.testBit n = false) → Counted (Reg.CHURN_TOK_DROP_CNT sl) s t ∧ t.churn = s.churn) := by
  obtain ⟨b, hop⟩ := opToken_good (src := src) hsl hw1 htyp ⟨hres, hslice⟩ hmode hbuffer
  have hmem : (inOrder s (opToken sl w0 w1 src 0 s)).mem = s.mem := opToken_mem sl w0 w1 src 0 s
  refine ⟨_, exec_of_gated (exec_token sl w0 w1 src 0 s) hrun (wf_token hsl hw0 hw1), hmem, ?_⟩
  rw [hop]
  generalize w0 % 0x2000 = c
  generalize bitsOf w0 18 16 = n
  have hcsr : ∀ off, rd off (consume b s) = rd off s := rd_congr (consume_csr b s)
  have hctx : ctx sl c (bump (Reg.CHURN_TOKEN_CNT sl) (consume b s)) = ctx sl c s := (ctx_congr (bump_churn _ _) _ _).trans (ctx_consume sl c b s)
  rw [ctx_congr (inOrder_churn _ _)]
  refine ⟨counted_of_bump (hcsr _) (orderKept_landToken hsl c n w1 _).tokens, ?_⟩
  rw [← hctx]
  refine ⟨fun hstate hslot hheld hmissing => ?_, fun hstate hslot hheld hall hmode0 => ctx_landToken_ready hstate hslot hheld hall hmode0 w1,
    fun hstate hslot hheld => ?_, fun hdrop => ?_⟩
  · rw [ctx_landToken_waits hstate hslot hheld hmissing]
    exact ⟨hstate, rfl, tabGet_tabSet_same⟩
  · have hne : Reg.CHURN_TOK_DUP_CNT sl ≠ Reg.CHURN_TOKEN_CNT sl := by simp only [Reg.CHURN_TOK_DUP_CNT, Reg.CHURN_TOKEN_CNT]; omega
    rw [landToken_dup hstate hslot hheld]
    exact ⟨counted_of_bump ((rd_bump_other hne _).trans (hcsr _)) (rd_churnEvent (isSliceCounter_dup hsl) _ _),
      (ctx_churnEvent _ _ _ _).trans (ctx_congr (bump_churn _ _) _ _)⟩
  · have hne : Reg.CHURN_TOK_DROP_CNT sl ≠ Reg.CHURN_TOKEN_CNT sl := by simp only [Reg.CHURN_TOK_DROP_CNT, Reg.CHURN_TOKEN_CNT]; omega
    rw [landToken_dropped hdrop]
    exact ⟨counted_of_bump ((rd_bump_other hne _).trans (hcsr _)) rfl, consume_churn b s⟩

/-! ### ENFORCE (R213) -/

/-- A slice past the entry due that the held token `k` equals, with `r` still due. -/
def Slice.pastDue (k : HeldTok) (r : List (Nat × Nat)) (y : Slice) : Slice := { y with due := r, buffer := y.buffer.erase k }

theorem opHeldTokenAccepted_due {sl : Nat} {s : State} {e : Nat × Nat} {r : List (Nat × Nat)} {k : HeldTok}
    (hmode : orderMode sl s = 2) (henforce : (slice sl s).enforcing = true) (hdue : (slice sl s).due = e :: r)
    (hheld : (slice sl s).buffer.find? (fun q => q.key == e.1 && q.src == e.2) = some k) :
    opHeldTokenAccepted sl s = acceptToken sl k.key k.src k.value (modSlice sl (Slice.pastDue k r) s) := by
  rw [opHeldTokenAccepted, if_pos ⟨hmode, henforce⟩, drainOne, hdue]
  dsimp only
  rw [hheld]
  rfl

theorem heldTokenAccepted_effect {sl : Nat} {s : State} {e : Nat × Nat} {r : List (Nat × Nat)} {k : HeldTok} (hrun : Running s) (hsl : sl < 8)
    (hmode : orderMode sl s = 2) (henforce : (slice sl s).enforcing = true) (hdue : (slice sl s).due = e :: r)
    (hheld : (slice sl s).buffer.find? (fun q => q.key == e.1 && q.src == e.2) = some k) :
    Effect (.heldTokenAccepted sl) s fun t => (slice sl t).due = r ∧ (slice sl t).buffer = (slice sl s).buffer.erase k ∧
      Counted (Reg.CHURN_TOKEN_CNT sl) s t := by
  let u := modSlice sl (Slice.pastDue k r) s
  have hmode' : orderMode sl u ≠ 1 := by rw [orderMode_modSlice hsl, hmode]; decide
  have hcount : Counted (Reg.CHURN_TOKEN_CNT sl) s (acceptToken sl k.key k.src k.value u) := by
    have h := counted_acceptToken hsl hmode' k.key k.src k.value
    rwa [Counted, rd_modSlice (isSliceCounter_token hsl).ne_status] at h
  have hkept : OrderKept sl (bump (Reg.CHURN_TOKEN_CNT sl) u) (acceptToken sl k.key k.src k.value u) := by
    rw [acceptToken_unrecorded hsl hmode']
    exact orderKept_landToken hsl _ _ _ _
  have hslice : slice sl (bump (Reg.CHURN_TOKEN_CNT sl) u) = (slice sl s).pastDue k r := (slice_congr (bump_churn _ _) sl).trans (slice_modSlice _ _ _)
  refine ⟨_, exec_of_gated (exec_heldTokenAccepted sl s) hrun (below_of_lt hsl), ?_⟩
  beta_reduce
  rw [opHeldTokenAccepted_due hmode henforce hdue hheld, slice_congr (inOrder_churn _ _), hkept.due, hkept.buffer, hslice]
  exact ⟨rfl, rfl, counted_inOrder hcount⟩

theorem orderLogReadAnswer_effect {sl : Nat} {s : State} (hrun : Running s) (hsl : sl < 8) (hmode : orderMode sl s = 2)
    (henforce : (slice sl s).enforcing = true) (hlog : (slice sl s).logEnded = false) :
    Effect (.orderLogReadAnswer sl) s fun t => (slice sl t).due = recordedTokens sl (roundNow s) s ∧ (slice sl t).logEnded = true ∧
      (slice sl t).ctxs = (slice sl s).ctxs ∧ t.mem = s.mem := by
  have hmem : (inOrder s (opOrderLogReadAnswer sl s)).mem = s.mem := opOrderLogReadAnswer_mem sl s
  refine ⟨_, exec_of_gated (exec_orderLogReadAnswer sl s) hrun (below_of_lt hsl), ?_⟩
  beta_reduce
  rw [slice_congr (inOrder_churn _ _), hmem, opOrderLogReadAnswer, if_pos ⟨hmode, henforce, hlog⟩, slice_modSlice]
  exact ⟨rfl, rfl, rfl, rfl⟩

/-! ### Dispatch (R202, R203) -/

/-- A context placed at slice engine `e`. -/
def Context.placed (e : Nat) (y : Context) : Context := { y with state := stDispatched, oneng := true, eng := e }

/-- A dispatch before its operand area or its notice leaves the slice. -/
def dispatched (sl e c : Nat) (s : State) : State :=
  modSlice sl (fun y => { y with rr := (e + 1) % 64 }) (bump (Reg.CHURN_DISPATCH_CNT sl)
    (modDisp sl e (fun l => l ++ [⟨c, !(ctx sl c s).valEn⟩]) (modCtx sl c (Context.placed e) s)))

theorem place_eq (sl e c : Nat) (s : State) :
    place sl e c s =
      if (ctx sl c s).valEn then
        postWrite (.churn sl) (useArea c) (ctx sl c s).valAddr (areaBytes (ctx sl c s)) false (dispatched sl e c s)
      else notify sl e (dispatched sl e c s) := rfl

/-- The operand area and the notice leave the slice as the dispatch has it. -/
theorem place_churn (sl e c : Nat) (s : State) : (place sl e c s).churn = (dispatched sl e c s).churn := by
  rw [place_eq]
  split
  · exact send_churn _ _ _ _ _ _ _ _
  · exact notify_churn _ _ _

theorem counted_place {sl : Nat} (hsl : sl < 8) (e c : Nat) (s : State) : Counted (Reg.CHURN_DISPATCH_CNT sl) s (place sl e c s) := by
  have hcnt := isSliceCounter_dispatch hsl
  have hafter : rd (Reg.CHURN_DISPATCH_CNT sl) (place sl e c s) = rd (Reg.CHURN_DISPATCH_CNT sl) (dispatched sl e c s) := by
    rw [place_eq]
    split
    · exact rd_send_slice hcnt _ _ _ _ _ _ _ _
    · exact rd_notify hcnt _ _
  refine counted_of_bump ?_ (hafter.trans (rd_modSlice hcnt.ne_status _ _))
  rw [rd_modDisp hcnt.ne_status, rd_modCtx hcnt.ne_status]

theorem ctx_place (sl e c : Nat) (s : State) : ctx sl c (place sl e c s) = (ctx sl c s).placed e := by
  rw [ctx_congr (place_churn sl e c s), dispatched, ctx_modSlice rfl, ctx_congr (bump_churn _ _), ctx_modDisp, ctx_modCtx_same]

theorem d_place (sl e c : Nat) (s : State) : (slice sl (place sl e c s)).d e = (slice sl s).d e ++ [⟨c, !(ctx sl c s).valEn⟩] := by
  have hctxs : (slice sl (modCtx sl c (Context.placed e) s)).d e = (slice sl s).d e := by rw [slice_modCtx]; rfl
  rw [slice_congr (place_churn sl e c s), dispatched, slice_modSlice, slice_congr (bump_churn _ _), ← hctxs]
  exact d_modDisp _ _ _ _

theorem rr_place (sl e c : Nat) (s : State) : (slice sl (place sl e c s)).rr = (e + 1) % 64 := by
  rw [slice_congr (place_churn sl e c s), dispatched, slice_modSlice]

/-- The engine that R202 serves next: the first open one from the pointer on for which there is a task. -/
def nextEngine (sl : Nat) (s : State) : Option Nat :=
  ((upto 64).map fun i => ((slice sl s).rr + i) % 64).find? fun e => engineOpen sl e s && (bestTask sl e s).isSome

theorem opDispatch_none {sl : Nat} {s : State} (hen : flagOn (Reg.CHURN_CTRL sl) 0 s = true) (h : nextEngine sl s = none) : opDispatch sl s = s := by
  rw [nextEngine] at h
  rw [opDispatch, if_pos hen, h]

theorem opDispatch_some {sl e c : Nat} {s : State} (hen : flagOn (Reg.CHURN_CTRL sl) 0 s = true) (h : nextEngine sl s = some e)
    (hbest : bestTask sl e s = some c) : opDispatch sl s = place sl e c s := by
  rw [nextEngine] at h
  rw [opDispatch, if_pos hen, h]
  dsimp only
  rw [hbest]

theorem dispatch_effect {sl : Nat} {s : State} (hrun : Running s) (hsl : sl < 8) (hen : flagOn (Reg.CHURN_CTRL sl) 0 s = true) :
    Effect (.dispatch sl) s fun t =>
      let next := ((upto 64).map fun i => ((slice sl s).rr + i) % 64).find? (fun e => engineOpen sl e s && (bestTask sl e s).isSome)
      t.mem = s.mem ∧ (next = none → t = s) ∧
      ∀ e c, next = some e → bestTask sl e s = some c →
        (ctx sl c t).state = stDispatched ∧ (ctx sl c t).eng = e ∧ (ctx sl c t).oneng = true ∧
        (slice sl t).d e = (slice sl s).d e ++ [⟨c, !(ctx sl c s).valEn⟩] ∧ (slice sl t).rr = (e + 1) % 64 ∧
        Counted (Reg.CHURN_DISPATCH_CNT sl) s t := by
  have hmem : (inOrder s (opDispatch sl s)).mem = s.mem := opDispatch_mem sl s
  refine ⟨_, exec_of_gated (exec_dispatch sl s) hrun (below_of_lt hsl), hmem, fun hnone => ?_, fun e c hsome hbest => ?_⟩
  · rw [opDispatch_none hen hnone, inOrder_same rfl]
  · rw [ctx_congr (inOrder_churn _ _), slice_congr (inOrder_churn _ _), opDispatch_some hen hsome hbest, ctx_place, d_place, rr_place]
    exact ⟨rfl, rfl, rfl, rfl, rfl, counted_inOrder (counted_place hsl e c s)⟩

/-- An accepted operand area makes its entry visible (R203). -/
theorem operandAreaAccepted_effect {sl e : Nat} {s : State} {d : DispEntry} (hrun : Running s) (hsl : sl < 8) (he : e < 64)
    (hd : ((slice sl s).d e).find? (fun d => !d.visible && !(unaccepted (.churn sl) (useArea d.ctx) s)) = some d) :
    Effect (.operandAreaAccepted sl e) s fun t => (⟨d.ctx, true⟩ : DispEntry) ∈ (slice sl t).d e ∧ (slice sl t).ctxs = (slice sl s).ctxs ∧
      t.mem = s.mem := by
  have hmem : (inOrder s (opOperandAreaAccepted sl e s)).mem = s.mem := opOperandAreaAccepted_mem sl e s
  have hentry : (⟨d.ctx, true⟩ : DispEntry) ∈ ((slice sl s).d e).map fun x => if x.ctx = d.ctx then { x with visible := true } else x :=
    List.mem_map.2 ⟨d, List.mem_of_find?_eq_some hd, if_pos rfl⟩
  refine ⟨_, exec_of_gated (exec_operandAreaAccepted sl e s) hrun (below_pair hsl he), ?_⟩
  beta_reduce
  rw [hmem, slice_congr (inOrder_churn _ _), opOperandAreaAccepted, hd]
  dsimp only
  rw [slice_congr (notify_churn _ _ _), d_modDisp, slice_modDisp]
  exact ⟨hentry, rfl, rfl⟩

/-! ### Kills (R206) -/

/-- A slice with the kills of engine `e` acknowledged. -/
def Slice.acknowledged (e : Nat) (y : Slice) : Slice := { y with kills := y.kills.filter (·.eng ≠ e) }

theorem killing_acknowledged (e : Nat) (y : Slice) : (y.acknowledged e).killing e = false := by
  simp [Slice.killing, Slice.acknowledged]

theorem opKillAcknowledgement_some {sl e : Nat} {s : State} {k : Kill} (hk : (slice sl s).kills.find? (fun q => q.eng == e) = some k) :
    opKillAcknowledgement sl e s = when' k.live (modCtx sl k.ctx (fun y => { y with oneng := false }))
      (modSlice sl (Slice.acknowledged e) (consume (.killAck sl e) s)) := by
  unfold opKillAcknowledgement
  dsimp only
  rw [slice_congr (consume_churn _ s), hk]
  rfl

theorem killAcknowledgement_effect {sl e : Nat} {s : State} {k : Kill} (hrun : Running s) (hsl : sl < 8) (he : e < 64)
    (hk : (slice sl s).kills.find? (fun q => q.eng == e) = some k) :
    Effect (.killAcknowledgement sl e) s fun t => (slice sl t).killing e = false ∧ t.mem = s.mem ∧ (k.live = true → (ctx sl k.ctx t).oneng = false) ∧
      (k.live = false → ∀ c, ctx sl c t = ctx sl c s) := by
  have hmem : (inOrder s (opKillAcknowledgement sl e s)).mem = s.mem := opKillAcknowledgement_mem sl e s
  refine ⟨_, exec_of_gated (exec_killAcknowledgement sl e s) hrun (below_pair hsl he), ?_⟩
  beta_reduce
  rw [hmem, slice_congr (inOrder_churn _ _), opKillAcknowledgement_some hk]
  cases hlive : k.live with
  | true =>
    rw [when', if_pos rfl, slice_modCtx, slice_modSlice, ctx_congr (inOrder_churn _ _), ctx_modCtx_same]
    exact ⟨killing_acknowledged e _, rfl, fun _ => rfl, fun hno => nomatch hno⟩
  | false =>
    rw [when', if_neg Bool.false_ne_true, slice_modSlice]
    refine ⟨killing_acknowledged e _, rfl, fun hno => (nomatch hno), fun _ c => ?_⟩
    rw [ctx_congr (inOrder_churn _ _), ctx_modSlice rfl, ctx_consume]

/-- Settles O21: each event of a slice by its own effect. -/
theorem churnEvents : Obligations.ChurnEvents := by
  unfold Obligations.ChurnEvents
  exact ⟨fun _ _ _ _ _ => token_effect, fun _ _ _ _ => armMessage_effect, fun _ _ _ _ => cancelMessage_effect,
    fun _ _ _ _ _ _ => reserved_effect, fun _ _ _ _ _ => heldTokenAccepted_effect, fun _ _ => orderLogReadAnswer_effect,
    fun _ _ => dispatch_effect, fun _ _ _ _ => operandAreaAccepted_effect, fun _ _ _ _ => killAcknowledgement_effect⟩

end Sys2Proof.Machine
end

section
/-! Packets on their way (R229, R236 to R242, R255): a packet found after each change of the list, the counters and the events of an NI, and what a
packet's way leaves of memory and the engines. -/
namespace Sys2Proof.Machine
open Sys2Proof.Safety

/-! ### The list of packets -/

theorem txnOf_congr {s t : State} (h : t.noc.txns = s.noc.txns) (id : Nat) : txnOf id t = txnOf id s := by rw [txnOf, txnOf, h]

theorem txnOf_id {id : Nat} {s : State} {x : Txn} (h : txnOf id s = some x) : x.id = id := by simpa using List.find?_some h

theorem txnOf_txnMod_some {id : Nat} {f : Txn → Txn} {s : State} {x : Txn} (hf : ∀ u, (f u).id = u.id) (hx : txnOf id s = some x) :
    txnOf id (txnMod id f s) = some (f x) := by
  rw [txnOf_txnMod hf, hx]
  rfl

/-- A packet is found as before once another one has changed. -/
theorem txnOf_txnMod_other {id j : Nat} {f : Txn → Txn} (hf : ∀ u, (f u).id = u.id) (hj : j ≠ id) (s : State) :
    txnOf id (txnMod j f s) = txnOf id s := by
  show (s.noc.txns.map fun t => if t.id = j then f t else t).find? _ = s.noc.txns.find? _
  induction s.noc.txns with
  | nil => rfl
  | cons t l ih =>
    rw [List.map_cons, List.find?_cons, List.find?_cons, ih]
    by_cases ht : t.id = j
    · have hid : (t.id == id) = false := by simpa [ht] using hj
      rw [if_pos ht, hf, hid]
    · rw [if_neg ht]

theorem txnOf_txnDrop (id : Nat) (s : State) : txnOf id (txnDrop id s) = none :=
  List.find?_eq_none.2 fun t ht => by simpa using (List.mem_filter.1 ht).2

theorem stageOf_congr {id : Nat} {st : Stage} {s t : State} (h : t.noc.txns = s.noc.txns) (hs : StageOf id st s) : StageOf id st t := by
  rwa [StageOf, txnOf_congr h]

theorem stageOf_txnMod {id : Nat} {f : Txn → Txn} {s : State} {x : Txn} (hf : ∀ u, (f u).id = u.id) (hx : txnOf id s = some x) :
    StageOf id (f x).stage (txnMod id f s) := ⟨f x, txnOf_txnMod_some hf hx, rfl⟩

theorem stageOf_inOrder {id : Nat} {st : Stage} {r t : State} (h : StageOf id st t) : StageOf id st (inOrder r t) := h

/-- An answer in a state that finds the request changed, but with the same way and no later than `s` does, stands for `s`. -/
theorem answered_changed {id code : Nat} {data : List Byte} {s u : State} {x y : Txn} (hx : txnOf id s = some x) (hy : txnOf id u = some y)
    (hposted : y.posted = x.posted) (hlate : y.late = x.late) (hpath : y.path = x.path) (hcut : ∀ l, cutAt l u = cutAt l s) :
    Answered id code data s (answer id code data u) := by
  intro z hz hp hl hway
  obtain rfl : x = z := Option.some.inj (hx.symm.trans hz)
  have hopen : cutAt y.path u = none := by rw [hpath, hcut, hway]
  exact answered_answer rfl (fun _ => rfl) y hy (hposted.trans hp) (hlate.trans hl) hopen

/-! ### Memory and the engines -/

theorem memKept_inOrder {r s t : State} (hmem : t.mem = s.mem) (heng : t.eng = s.eng) : MemKept s (inOrder r t) := ⟨hmem, heng⟩

/-- What an update keeps, doing it under a condition keeps. -/
theorem when'_keeps {α : Type} {f : State → State} {g : State → α} (h : ∀ t, g (f t) = g t) (c : Bool) (s : State) : g (when' c f s) = g s := by
  unfold when'
  split
  · exact h s
  · rfl

/-! ### Counters and events -/

theorem rd_niCount {off src c : Nat} (hbytes : off ≠ Reg.NI_BYTES (srcNode src) (srcPort src) c)
    (hpkts : off ≠ Reg.NI_PKTS (srcNode src) (srcPort src) c) (bytes : Nat) (s : State) : rd off (niCount src c bytes s) = rd off s :=
  (rd_wr_other hbytes _ _).trans (rd_bump_other hpkts s)

theorem counted_niCount (src c bytes : Nat) (s : State) : Counted (Reg.NI_PKTS (srcNode src) (srcPort src) c) s (niCount src c bytes s) := by
  have hbytes : Reg.NI_PKTS (srcNode src) (srcPort src) c ≠ Reg.NI_BYTES (srcNode src) (srcPort src) c := by
    simp only [Reg.NI_PKTS, Reg.NI_BYTES]
    omega
  exact counted_of_bump rfl (rd_wr_other hbytes _ _)

/-- An event raised with its flag waits in the router, when it has room. -/
theorem raised_flagEvent {s u : State} (h : u.evt = s.evt) (off bit num inst : Nat) :
    Raised num inst s (inOrder s (flagEvent off bit num inst u)) := by
  intro hroom
  obtain ⟨-, hraise⟩ | ⟨hfull, -⟩ := raise_cases num inst (setFlag off bit u)
  · have hevt : (flagEvent off bit num inst u).evt = s.evt ++ [⟨num, inst, u.round.stage⟩] := by
      rw [flagEvent, hraise, ← h]
      rfl
    rw [inOrder_one hevt]
    exact ⟨_, hevt, rfl, rfl⟩
  · rw [setFlag_evt, h] at hfull
    omega

theorem flagOn_flagEvent {off bit : Nat} (hdrop : off ≠ Reg.EVT_DROP_CNT) (hbit : bit < 64) (num inst : Nat) (s : State) :
    flagOn off bit (flagEvent off bit num inst s) = true := by
  rw [flagOn, flagEvent, fld_raise hdrop]
  exact flagOn_setFlag_same off bit s hbit

/-- The same of an event that is counted. -/
theorem raised_countEvent {s u : State} (h : u.evt = s.evt) (cnt off bit num inst : Nat) :
    Raised num inst s (inOrder s (countEvent cnt off bit num inst u)) := by
  have hbump : (bump cnt u).evt = s.evt := (bump_evt cnt u).trans h
  exact raised_flagEvent hbump off bit num inst

theorem flagOn_countEvent {off bit : Nat} (hdrop : off ≠ Reg.EVT_DROP_CNT) (hbit : bit < 64) (cnt num inst : Nat) (s : State) :
    flagOn off bit (countEvent cnt off bit num inst s) = true := flagOn_flagEvent hdrop hbit num inst (bump cnt s)

theorem flagOn_inOrder {off bit : Nat} {r t : State} (h : flagOn off bit t = true) : flagOn off bit (inOrder r t) = true := h

/-- A counter raised with its event counts one, where what came before leaves it. -/
theorem counted_countEvent {cnt f : Nat} {s u : State} (hflag : cnt ≠ f) (hdrop : cnt ≠ Reg.EVT_DROP_CNT) (hbefore : rd cnt u = rd cnt s)
    (bit num inst : Nat) : Counted cnt s (countEvent cnt f bit num inst u) :=
  counted_of_bump hbefore (rd_flagEvent hflag hdrop bit num inst _)

/-! ### Ports and guards (R241) -/

/-- A packet that its port is done with leaves the guard's list, and nothing else changes. -/
theorem portTaken_eq (x : Txn) (s : State) : portTaken x s = { s with noc := { s.noc with guards := (portTaken x s).noc.guards } } := by
  unfold portTaken
  split <;> rfl

theorem portTaken_eng (x : Txn) (s : State) : (portTaken x s).eng = s.eng := by rw [portTaken_eq]

theorem txnOf_portTaken (id : Nat) (x : Txn) (s : State) : txnOf id (portTaken x s) = txnOf id s := txnOf_congr (by rw [portTaken_eq]) id

theorem guard_congr {s t : State} (h : t.noc.guards = s.noc.guards) (k : Nat) : guard k t = guard k s := by rw [guard, guard, h]

@[simp] theorem guard_modGuard_same (k : Nat) (f : Guard → Guard) (s : State) : guard k (modGuard k f s) = f (guard k s) := tabGet_tabSet_same

end Sys2Proof.Machine
end

section
/-! Acceptance, notices, timeouts, late answers and held requests (R229, R236, R238, R240, R255): O22. -/
namespace Sys2Proof.Machine
open Sys2Proof.Safety

/-! ### Acceptance (R229) -/

/-- The packet is at its port, next in its order, and its guard, if one stands there, lets it pass. -/
structure MayPass (id : Nat) (x : Txn) (s : State) : Prop where
  found : txnOf id s = some x
  sent : x.stage = .sent
  oldest : oldestOf x s = true
  turn : portTurn x s = true
  serves : x.guardCode s = none

/-- The state once the target has taken the packet, before anything acts on it. -/
def takenIn (id : Nat) (x : Txn) (s : State) : State := markAccepted id (portTaken x s)

/-- A packet taken in changes the packets, their number of acceptances, and the guard of its port. -/
theorem takenIn_eq (id : Nat) (x : Txn) (s : State) : takenIn id x s =
    { s with noc := { s.noc with
      txns := (takenIn id x s).noc.txns, arrivals := s.noc.arrivals + 1, guards := (takenIn id x s).noc.guards } } := by
  unfold takenIn markAccepted txnMod setTxns
  rw [portTaken_eq]

theorem txnOf_takenIn {id : Nat} {x : Txn} {s : State} (h : txnOf id s = some x) :
    txnOf id (takenIn id x s) = some { x with stage := .accepted, arr := s.noc.arrivals } := by
  have hport : txnOf id (portTaken x s) = some x := (txnOf_portTaken id x s).trans h
  have harr : (portTaken x s).noc.arrivals = s.noc.arrivals := by rw [portTaken_eq]
  rw [← harr]
  exact txnOf_txnMod_some (f := fun u => { u with stage := .accepted, arr := (portTaken x s).noc.arrivals }) (fun _ => rfl) hport

theorem cutAt_takenIn (id : Nat) (x : Txn) (s : State) (l : List (Nat × Nat)) : cutAt l (takenIn id x s) = cutAt l s := by
  refine cutAt_congr (fun n => rd_congr ?_ _) ?_ ?_ l
  all_goals rw [takenIn_eq]

/-- Plain memory is neither CSR space nor the host window (R260). -/
theorem not_inCsr_of_inMemory {a : Nat} (h : inMemory a = true) : inCsr a = false ∧ inHostWindow a = false := by
  simp only [inMemory, inDram, Bool.or_eq_true, decide_eq_true_eq] at h
  simp only [inCsr, inHostWindow, decide_eq_false_iff_not]
  omega

/-- A read waits for no reduction buffer, and neither does a write. -/
theorem redRoom_read {x : Txn} {n : Nat} (h : x.body = .read n) (s : State) : redRoom x s = true := by rw [redRoom, Txn.red, h]

theorem redRoom_write {x : Txn} {bs : List Byte} (h : x.body = .write bs) (s : State) : redRoom x s = true := by rw [redRoom, Txn.red, h]

theorem MayPass.accepts {id : Nat} {x : Txn} {s : State} (h : MayPass id x s) (hroom : redRoom x s = true) :
    x.stage = .sent ∧ oldestOf x s = true ∧ portTurn x s = true ∧ redRoom x s = true ∧ (x.guardCode s).isNone = true :=
  ⟨h.sent, h.oldest, h.turn, hroom, by rw [h.serves]; rfl⟩

theorem opPacketAccepted_read {id n : Nat} {x : Txn} {s : State} (h : MayPass id x s) (hb : x.body = .read n) (hm : inMemory x.addr = true) :
    opPacketAccepted id s = takenIn id x s := by
  obtain ⟨hcsr, hwin⟩ := not_inCsr_of_inMemory hm
  unfold opPacketAccepted
  rw [h.found]
  dsimp only
  rw [if_pos (h.accepts (redRoom_read hb s)), hb]
  dsimp only
  rw [hcsr, hwin]
  rfl

theorem opPacketAccepted_write {id : Nat} {bs : List Byte} {x : Txn} {s : State} (h : MayPass id x s) (hb : x.body = .write bs)
    (hm : inMemory x.addr = true) : opPacketAccepted id s = staleWords x.addr bs.length (takenIn id x s) := by
  obtain ⟨hcsr, hwin⟩ := not_inCsr_of_inMemory hm
  unfold opPacketAccepted
  rw [h.found]
  dsimp only
  rw [if_pos (h.accepts (redRoom_write hb s)), hb]
  dsimp only
  rw [hcsr, hwin]
  rfl

theorem csrPacket_oddRead {id n : Nat} {x : Txn} (hb : x.body = .read n) (h4 : n ≠ 4) (h8 : n ≠ 8) (s : State) :
    csrPacket id x s = answer id (otherWidth (csrOff x.addr)) [] s := by
  unfold csrPacket
  dsimp only
  rw [hb]
  split
  · next h => exact absurd (Payload.read.inj h) h4
  · next h => exact absurd (Payload.read.inj h) h8
  · rfl
  · next h => nomatch h
  · next h _ => exact absurd rfl (h n)

theorem opPacketAccepted_oddRead {id n : Nat} {x : Txn} {s : State} (h : MayPass id x s) (hb : x.body = .read n) (h4 : n ≠ 4) (h8 : n ≠ 8)
    (hc : inCsr x.addr = true) : opPacketAccepted id s = answer id (otherWidth (csrOff x.addr)) [] (takenIn id x s) := by
  unfold opPacketAccepted
  rw [h.found]
  dsimp only
  rw [if_pos (h.accepts (redRoom_read hb s)), hb]
  dsimp only
  rw [if_pos hc]
  exact csrPacket_oddRead hb h4 h8 _

/-- A write to instruction memory leaves the old words of an engine that had fetched them with it (R263), and changes nothing else of it. -/
theorem eng_staleWords (a k n : Nat) (s : State) :
    ∃ l, eng n (staleWords a k s) = { eng n s with stale := (eng n s).stale ++ l } := by
  unfold staleWords
  dsimp only
  split
  · by_cases hn : n = a / 0x40000
    · subst hn
      rw [eng_modEng_same]
      exact ⟨_, rfl⟩
    · rw [modEng, eng_setEng_other hn]
      exact ⟨[], by rw [List.append_nil]⟩
  · exact ⟨[], by rw [List.append_nil]⟩

theorem staleWords_noc (a k : Nat) (s : State) : (staleWords a k s).noc = s.noc := by
  unfold staleWords
  dsimp only
  split
  · exact modEng_noc _ _ _
  · rfl

theorem staleWords_keepsMem (a k : Nat) (s : State) : (staleWords a k s).mem = s.mem := by
  unfold staleWords
  dsimp only
  split
  · exact modEng_mem _ _ _
  · rfl

theorem packetAccepted_effect {id : Nat} {s : State} {x : Txn} (hrun : Running s) (h : MayPass id x s) :
    Effect (.packetAccepted id) s fun t =>
      (inMemory x.addr = true → ((∃ n, x.body = .read n) ∨ ∃ bs, x.body = .write bs) →
        (∃ y, txnOf id t = some y ∧ y.stage = .accepted ∧ y.arr = s.noc.arrivals) ∧ t.noc.arrivals = s.noc.arrivals + 1 ∧ t.mem = s.mem ∧
        (∀ n, x.body = .read n → t.csr = s.csr ∧ MemKept s t) ∧ ∀ n, ∃ l, eng n t = { eng n s with stale := (eng n s).stale ++ l }) ∧
      (∀ n, x.body = .read n → n ≠ 4 → n ≠ 8 → inCsr x.addr = true →
        Answered id (if (findReg ((x.addr - 0x40000000) % 0x8000000 / 4 * 4)).isNone then 2 else 1) [] s t ∧ MemKept s t) := by
  let u := takenIn id x s
  have hu : u = { s with noc := { s.noc with txns := u.noc.txns, arrivals := s.noc.arrivals + 1, guards := u.noc.guards } } := takenIn_eq id x s
  have hmem : u.mem = s.mem := by rw [hu]
  have heng : u.eng = s.eng := by rw [hu]
  have hcsr : u.csr = s.csr := by rw [hu]
  have harrivals : u.noc.arrivals = s.noc.arrivals + 1 := by rw [hu]
  have htaken : ∃ y, txnOf id u = some y ∧ y.stage = .accepted ∧ y.arr = s.noc.arrivals := ⟨_, txnOf_takenIn h.found, rfl, rfl⟩
  refine ⟨_, exec_of_gated (exec_packetAccepted id s) hrun rfl, fun hm hbody => ?_, fun n hb h4 h8 hc => ?_⟩
  · obtain ⟨n, hb⟩ | ⟨bs, hb⟩ := hbody
    · rw [opPacketAccepted_read h hb hm]
      exact ⟨htaken, harrivals, hmem, fun _ _ => ⟨hcsr, memKept_inOrder hmem heng⟩, fun m => ⟨[], by
        rw [List.append_nil]
        exact eng_congr heng m⟩⟩
    · have hnoc := staleWords_noc x.addr bs.length u
      have hstale : ∀ m, ∃ l, eng m (staleWords x.addr bs.length u) = { eng m s with stale := (eng m s).stale ++ l } := fun m => by
        rw [← eng_congr heng m]
        exact eng_staleWords x.addr bs.length m u
      rw [opPacketAccepted_write h hb hm]
      refine ⟨?_, (congrArg Noc.arrivals hnoc).trans harrivals, (staleWords_keepsMem _ _ u).trans hmem, fun _ hread => ?_, hstale⟩
      · obtain ⟨y, hy, hstage⟩ := htaken
        exact ⟨y, (txnOf_congr (congrArg Noc.txns hnoc) id).trans hy, hstage⟩
      · rw [hb] at hread
        nomatch hread
  · rw [opPacketAccepted_oddRead h hb h4 h8 hc]
    exact ⟨answered_inOrder (answered_changed h.found (txnOf_takenIn h.found) rfl rfl rfl (cutAt_takenIn id x s)),
      memKept_inOrder ((answer_mem _ _ _ u).trans hmem) ((answer_eng _ _ _ u).trans heng)⟩

/-! ### Notices (R229, R255) -/

/-- A packet whose acceptance notice has come. -/
def Txn.nowNoticed (x : Txn) : Txn := { x with noticed := true }

/-- The notice of an accepted packet marks it, and counts one that is complete with it. -/
theorem opAcceptanceNotice_accepted {id : Nat} {s : State} {x : Txn} (hx : txnOf id s = some x) (hstage : x.stage = .accepted)
    (hnew : x.noticed = false) (hdma : ∀ e ch, x.agent ≠ .dma e ch) :
    opAcceptanceNotice id s = when' (x.posted || x.cls != 0) (niCount x.src x.cls x.body.bytes) (txnMod id Txn.nowNoticed s) := by
  have harrives : noticeArrives id s = when' (x.posted || x.cls != 0) (niCount x.src x.cls x.body.bytes) (txnMod id Txn.nowNoticed s) := by
    unfold noticeArrives
    rw [hx]
    dsimp only
    rw [if_neg (by simp [hnew]), hstage]
    rfl
  unfold opAcceptanceNotice
  rw [hx]
  dsimp only
  split
  · next e ch hag => exact absurd hag (hdma e ch)
  · exact harrives

theorem acceptanceNotice_effect {id : Nat} {s : State} {x : Txn} (hrun : Running s) (hx : txnOf id s = some x) (hstage : x.stage = .accepted)
    (hnew : x.noticed = false) (hdma : ∀ e ch, x.agent ≠ .dma e ch) :
    Effect (.acceptanceNotice id) s fun t => (∃ y, txnOf id t = some y ∧ y.noticed = true ∧ y.stage = .accepted) ∧
      (x.posted = true ∨ x.cls ≠ 0 → Counted (Reg.NI_PKTS (srcNode x.src) (srcPort x.src) x.cls) s t) ∧ MemKept s t := by
  let u := txnMod id Txn.nowNoticed s
  have hfound : txnOf id u = some x.nowNoticed := txnOf_txnMod_some (fun _ => rfl) hx
  refine ⟨_, exec_of_gated (exec_acceptanceNotice id s) hrun rfl, ?_⟩
  rw [opAcceptanceNotice_accepted hx hstage hnew hdma]
  have hkept : ∀ {α : Type} {g : State → α}, (∀ t, g (niCount x.src x.cls x.body.bytes t) = g t) →
      g (when' (x.posted || x.cls != 0) (niCount x.src x.cls x.body.bytes) u) = g u := fun hg => when'_keeps hg _ u
  refine ⟨⟨_, (hkept fun _ => rfl).trans hfound, rfl, hstage⟩, fun hcomplete => ?_, memKept_inOrder (hkept fun _ => rfl) (hkept fun _ => rfl)⟩
  have hcount : (x.posted || x.cls != 0) = true := by simpa using hcomplete
  rw [hcount]
  exact counted_inOrder (counted_niCount x.src x.cls x.body.bytes u)

/-! ### Timeouts (R238) -/

/-- A request whose timer has run out. -/
def Txn.timedOut (x : Txn) : Txn := { x with ans := some (3, []), late := true }

/-- The places of the request's NI brought up to date, and the request counted where it is of class REQ. -/
def timeoutNoted (id : Nat) (x : Txn) (s : State) : State :=
  niSync (srcNode x.src) (srcPort x.src) (when' (x.cls == 0) (niCount x.src x.cls x.body.bytes) (txnMod id Txn.timedOut s))

theorem opRequestTimeout_inFlight {id : Nat} {s : State} {x : Txn} (hx : txnOf id s = some x) (hf : x.inFlight = true) :
    opRequestTimeout id s = countEvent (Reg.NI_TIMEOUT_CNT (srcNode x.src) (srcPort x.src)) Reg.NOC_EVT_STATUS 2 0x102
      (srcNode x.src * 8 + srcPort x.src) (timeoutNoted id x s) := by
  unfold opRequestTimeout
  rw [hx]
  exact if_pos hf

/-- What a register write keeps, the note of a timeout keeps. -/
theorem timeoutNoted_keeps {α : Type} {g : State → α} (hwr : ∀ off v t, g (wr off v t) = g t) (id : Nat) (x : Txn) (s : State) :
    g (timeoutNoted id x s) = g (txnMod id Txn.timedOut s) :=
  (hwr _ _ _).trans (when'_keeps (fun _ => (hwr _ _ _).trans (hwr _ _ _)) _ _)

theorem rd_timeoutCnt_timeoutNoted (id : Nat) (x : Txn) (s : State) :
    rd (Reg.NI_TIMEOUT_CNT (srcNode x.src) (srcPort x.src)) (timeoutNoted id x s) = rd (Reg.NI_TIMEOUT_CNT (srcNode x.src) (srcPort x.src)) s := by
  have hout : Reg.NI_TIMEOUT_CNT (srcNode x.src) (srcPort x.src) ≠ Reg.NI_OUTSTANDING (srcNode x.src) (srcPort x.src) := by
    simp only [Reg.NI_TIMEOUT_CNT, Reg.NI_OUTSTANDING]
    omega
  rw [timeoutNoted, niSync, rd_setFld_other hout, when']
  split
  · next hcls =>
    have hzero : x.cls = 0 := by simpa using hcls
    have hbytes : Reg.NI_TIMEOUT_CNT (srcNode x.src) (srcPort x.src) ≠ Reg.NI_BYTES (srcNode x.src) (srcPort x.src) x.cls := by
      simp only [Reg.NI_TIMEOUT_CNT, Reg.NI_BYTES]
      omega
    have hpkts : Reg.NI_TIMEOUT_CNT (srcNode x.src) (srcPort x.src) ≠ Reg.NI_PKTS (srcNode x.src) (srcPort x.src) x.cls := by
      simp only [Reg.NI_TIMEOUT_CNT, Reg.NI_PKTS]
      omega
    rw [rd_niCount hbytes hpkts]
    rfl
  · rfl

theorem requestTimeout_effect {id : Nat} {s : State} {x : Txn} (hrun : Running s) (hx : txnOf id s = some x) (hf : x.inFlight = true) :
    Effect (.requestTimeout id) s fun t => (∃ y, txnOf id t = some y ∧ y.ans = some (3, []) ∧ y.late = true) ∧
      Counted (Reg.NI_TIMEOUT_CNT (srcNode x.src) (srcPort x.src)) s t ∧ flagOn Reg.NOC_EVT_STATUS 2 t = true ∧
      Raised 0x102 (srcNode x.src * 8 + srcPort x.src) s t ∧ MemKept s t := by
  let u := timeoutNoted id x s
  have hnoc : u.noc = (txnMod id Txn.timedOut s).noc := timeoutNoted_keeps (g := State.noc) (fun _ _ _ => rfl) id x s
  have heng : u.eng = s.eng := timeoutNoted_keeps (g := State.eng) (fun _ _ _ => rfl) id x s
  have hevt : u.evt = s.evt := timeoutNoted_keeps (g := State.evt) (fun _ _ _ => rfl) id x s
  have hcnt : Reg.NI_TIMEOUT_CNT (srcNode x.src) (srcPort x.src) ≠ Reg.NOC_EVT_STATUS := by
    simp only [Reg.NI_TIMEOUT_CNT, Reg.NOC_EVT_STATUS]
    omega
  have hdrop : Reg.NI_TIMEOUT_CNT (srcNode x.src) (srcPort x.src) ≠ Reg.EVT_DROP_CNT := by
    simp only [Reg.NI_TIMEOUT_CNT, Reg.EVT_DROP_CNT]
    omega
  have hflag : Reg.NOC_EVT_STATUS ≠ Reg.EVT_DROP_CNT := by simp only [Reg.NOC_EVT_STATUS, Reg.EVT_DROP_CNT]; omega
  have hmem : (opRequestTimeout id s).mem = s.mem := opRequestTimeout_mem id s
  refine ⟨_, exec_of_gated (exec_requestTimeout id s) hrun rfl, ?_⟩
  rw [opRequestTimeout_inFlight hx hf] at hmem ⊢
  refine ⟨⟨x.timedOut, ?_, rfl, rfl⟩, ?_, ?_, ?_, ?_⟩
  · rw [txnOf, inOrder_noc, countEvent_noc, hnoc]
    exact txnOf_txnMod_some (fun _ => rfl) hx
  · exact counted_inOrder (counted_countEvent hcnt hdrop (rd_timeoutCnt_timeoutNoted id x s) _ _ _)
  · exact flagOn_inOrder (flagOn_countEvent hflag (by omega) _ _ _ u)
  · exact raised_countEvent hevt _ _ _ _ _
  · exact memKept_inOrder hmem ((countEvent_eng _ _ _ _ _ u).trans heng)

theorem opLateAnswer_served {id : Nat} {s : State} {x : Txn} (hx : txnOf id s = some x) (hlate : x.late = true) (hstage : x.stage = .served)
    (hans : x.ans = none) : opLateAnswer id s = bump (Reg.NI_LATE_RSP_CNT (srcNode x.src) (srcPort x.src)) (txnDrop id s) := by
  unfold opLateAnswer
  rw [hx]
  dsimp only
  rw [if_pos ⟨hlate, hstage⟩, hans]
  rfl

theorem lateAnswer_effect {id : Nat} {s : State} {x : Txn} (hrun : Running s) (hx : txnOf id s = some x) (hlate : x.late = true)
    (hstage : x.stage = .served) (hans : x.ans = none) :
    Effect (.lateAnswer id) s fun t =>
      txnOf id t = none ∧ Counted (Reg.NI_LATE_RSP_CNT (srcNode x.src) (srcPort x.src)) s t ∧ MemKept s t := by
  refine ⟨_, exec_of_gated (exec_lateAnswer id s) hrun rfl, ?_⟩
  rw [opLateAnswer_served hx hlate hstage hans]
  exact ⟨txnOf_txnDrop id s, counted_inOrder (counted_of_bump (u := txnDrop id s) rfl rfl), memKept_inOrder rfl rfl⟩

/-- A late request whose place is free again. -/
def Txn.placeFreed (x : Txn) : Txn := { x with freed := true }

theorem opPlaceFreed_late {id : Nat} {s : State} {x : Txn} (hx : txnOf id s = some x) (hlate : x.late = true) (hstage : x.stage ≠ .lost) :
    opPlaceFreed id s = txnMod id Txn.placeFreed s := by
  unfold opPlaceFreed
  rw [hx]
  dsimp only
  rw [if_pos hlate, if_neg hstage]
  rfl

theorem holdsPlace_placeFreed {x : Txn} (hlate : x.late = true) (n p : Nat) : x.placeFreed.holdsPlace n p = false := by
  simp [Txn.holdsPlace, Txn.inFlight, Txn.placeFreed, hlate]

theorem placeFreed_effect {id : Nat} {s : State} {x : Txn} (hrun : Running s) (hx : txnOf id s = some x) (hlate : x.late = true)
    (hstage : x.stage ≠ .lost) :
    Effect (.placeFreed id) s fun t =>
      (∃ y, txnOf id t = some y ∧ Txn.holdsPlace (srcNode x.src) (srcPort x.src) y = false ∧ y.late = true) ∧ t.csr = s.csr ∧ MemKept s t := by
  refine ⟨_, exec_of_gated (exec_placeFreed id s) hrun rfl, ?_⟩
  rw [opPlaceFreed_late hx hlate hstage]
  exact ⟨⟨x.placeFreed, txnOf_txnMod_some (fun _ => rfl) hx, holdsPlace_placeFreed hlate _ _, hlate⟩, rfl, memKept_inOrder rfl rfl⟩

/-! ### Held requests (R240) -/

/-- The request is the next its NI injects: the oldest held by the limit on its way, with a place free and nothing else that holds it. -/
structure MayInject (id : Nat) (x : Txn) (s : State) : Prop where
  found : txnOf id s = some x
  held : x.stage = .heldLimit
  oldest : oldestOf x s = true
  place : placesUsed (srcNode x.src) (srcPort x.src) s < niLimitNow (srcNode x.src) (srcPort x.src) s
  routed : originCode x.src x.cls x.addr x.body s = none
  noDrain : drainHolds (srcNode x.src) (srcPort x.src) x.node x.cls x.body s = false
  noBooking : bookHolds (srcNode x.src) (srcPort x.src) x.node x.port x.cls s = false

/-- Its NI sends it. -/
theorem stageNow_mayInject {id : Nat} {x : Txn} {s : State} (h : MayInject id x s) : stageNow x s = .sent := by
  have hplace : decide (niLimitNow (srcNode x.src) (srcPort x.src) s ≤ placesUsed (srcNode x.src) (srcPort x.src) s) = false :=
    decide_eq_false (Nat.not_le.2 h.place)
  have holder : (s.noc.txns.any fun u => decide (u.stage = .heldLimit) && decide (u.id < x.id) && x.sameWay u) = false := by
    have hold := h.oldest
    simp only [oldestOf, h.held, reduceCtorEq, if_false, Bool.not_eq_true', List.any_eq_false] at hold
    refine List.any_eq_false.2 fun u hu hheld => hold u hu ?_
    simp only [Bool.and_eq_true] at hheld ⊢
    obtain ⟨⟨hstage, hlt⟩, hway⟩ := hheld
    exact ⟨⟨hstage, hway⟩, hlt⟩
  unfold stageNow
  dsimp only
  rw [h.noDrain, h.noBooking, hplace, holder, Bool.or_false, Bool.and_false]
  rfl

/-- What becomes of a held packet's record when its NI comes to it: the stage `st` and what goes with it, under its old number. -/
def Txn.routedAs (st : Stage) (inj e : Nat) (path : List (Nat × Nat)) (x : Txn) : Txn :=
  { x with stage := st, entry := e, path := path, inj := inj, held := decide (st ≠ .sent) }

theorem dmaSent_noc (x : Txn) (s : State) : (dmaSent x s).noc = s.noc := by
  unfold dmaSent
  split
  · split <;> rfl
  · rfl

/-- A held packet that its NI does not refuse is put where it stands now, with the next number of injection. -/
theorem inject_noc {id : Nat} {x : Txn} {s : State} (hx : txnOf id s = some x) (horigin : originCode x.src x.cls x.addr x.body s = none) :
    ∃ e path, (inject id s).noc = (countInjection (txnMod id (Txn.routedAs (stageNow x s) s.noc.injections e path) s)).noc := by
  unfold inject
  rw [hx]
  dsimp only
  rw [horigin]
  dsimp only
  rw [dmaSent_noc, niSync_noc]
  exact ⟨_, _, rfl⟩

/-! ### What the injection of a held packet leaves (R230, R239, R253, R288) -/

/-- What of a state neither the packets, the events and the DMA engines change, nor any register but NOC_DRAIN_CNT. -/
structure ApartFromPackets {α : Type} (f : State → α) : Prop where
  wr : ∀ off v t, off ≠ Reg.NOC_DRAIN_CNT → f (wr off v t) = f t
  evt : ∀ l (t : State), f { t with evt := l } = f t
  txns : ∀ l t, f (setTxns l t) = f t
  injection : ∀ t, f (countInjection t) = f t
  dma : ∀ l (t : State), f { t with dma := l } = f t

section
variable {α : Type} {f : State → α} (h : ApartFromPackets f)
include h

theorem ApartFromPackets.raise (num inst : Nat) (t : State) : f (raise num inst t) = f t := by
  obtain ⟨-, hraise⟩ | ⟨-, hraise⟩ := raise_cases num inst t
  · rw [hraise, h.evt]
  · rw [hraise]
    exact h.wr _ _ _ (by decide)

theorem ApartFromPackets.countEvent {cnt off : Nat} (hcnt : cnt ≠ Reg.NOC_DRAIN_CNT) (hoff : off ≠ Reg.NOC_DRAIN_CNT) (bit num inst : Nat)
    (t : State) : f (countEvent cnt off bit num inst t) = f t :=
  (h.raise _ _ _).trans ((h.wr _ _ _ hoff).trans (h.wr _ _ _ hcnt))

theorem ApartFromPackets.niCodeGiven (n p code : Nat) (t : State) : f (niCodeGiven n p code t) = f t := by
  unfold Machine.niCodeGiven
  split
  · exact h.wr _ _ _ (by simp only [Reg.NI_DECERR_CNT, Reg.NOC_DRAIN_CNT]; omega)
  · exact h.countEvent (by simp only [Reg.NI_ROUTE_FAULT_CNT, Reg.NOC_DRAIN_CNT]; omega) (by decide) _ _ _ t

theorem ApartFromPackets.postedError (n p addr src code : Nat) (t : State) : f (postedError n p addr src code t) = f t := by
  have hcnt : Reg.NI_POST_ERR_CNT n p ≠ Reg.NOC_DRAIN_CNT := by simp only [Reg.NI_POST_ERR_CNT, Reg.NOC_DRAIN_CNT]; omega
  have hinfo : Reg.NI_POST_ERR_INFO n p ≠ Reg.NOC_DRAIN_CNT := by simp only [Reg.NI_POST_ERR_INFO, Reg.NOC_DRAIN_CNT]; omega
  have haddr : Reg.NI_POST_ERR_ADDR n p ≠ Reg.NOC_DRAIN_CNT := by simp only [Reg.NI_POST_ERR_ADDR, Reg.NOC_DRAIN_CNT]; omega
  exact (h.countEvent hcnt (by decide) _ _ _ _).trans ((h.wr _ _ _ hinfo).trans (h.wr _ _ _ haddr))

theorem ApartFromPackets.niSync (n p : Nat) (t : State) : f (niSync n p t) = f t :=
  h.wr _ _ _ (by simp only [Reg.NI_OUTSTANDING, Reg.NOC_DRAIN_CNT]; omega)

theorem ApartFromPackets.dmaSync (e : Nat) (t : State) : f (dmaSync e t) = f t := by
  have hstatus : Reg.DMA_STATUS e ≠ Reg.NOC_DRAIN_CNT := by simp only [Reg.DMA_STATUS, Reg.dmaBase, Reg.NOC_DRAIN_CNT]; split <;> omega
  exact (h.wr _ _ _ hstatus).trans (h.wr _ _ _ hstatus)

theorem ApartFromPackets.dmaBusErr (e addr kind code : Nat) (t : State) : f (dmaBusErr e addr kind code t) = f t := by
  have hstatus : Reg.DMA_STATUS e ≠ Reg.NOC_DRAIN_CNT := by simp only [Reg.DMA_STATUS, Reg.dmaBase, Reg.NOC_DRAIN_CNT]; split <;> omega
  have hcnt : Reg.DMA_BUS_ERR_CNT e ≠ Reg.NOC_DRAIN_CNT := by simp only [Reg.DMA_BUS_ERR_CNT, Reg.dmaBase, Reg.NOC_DRAIN_CNT]; split <;> omega
  unfold Machine.dmaBusErr
  dsimp only
  split
  · exact h.wr _ _ _ hcnt
  · exact (h.dmaSync _ _).trans ((h.wr _ _ _ hstatus).trans ((h.dma _ _).trans (h.wr _ _ _ hcnt)))

theorem ApartFromPackets.heldRefused (x : Txn) (code : Nat) (t : State) : f (heldRefused x code t) = f t := by
  unfold Machine.heldRefused
  split
  · unfold dmaRefused
    rw [h.dmaBusErr]
    split
    · exact h.dma _ _
    · rfl
  · exact h.dmaSync _ _
  · rfl

theorem ApartFromPackets.dmaSent (x : Txn) (t : State) : f (dmaSent x t) = f t := by
  unfold Machine.dmaSent
  split
  · next e ch _ =>
    have hbytes : Reg.DMA_CH_BYTES e ch ≠ Reg.NOC_DRAIN_CNT := by
      simp only [Reg.DMA_CH_BYTES, Reg.dmaChBase, Reg.dmaBase, Reg.NOC_DRAIN_CNT]
      split <;> omega
    split
    · exact h.wr _ _ _ hbytes
    · rfl
  · rfl

/-- A packet that waited at its NI changes none of this, whether its NI sends it, holds it again or refuses it. -/
theorem ApartFromPackets.inject (id : Nat) (t : State) : f (inject id t) = f t := by
  unfold Machine.inject
  split
  · rfl
  · dsimp only
    split
    · split
      · exact (h.heldRefused _ _ _).trans ((h.txns _ _).trans ((h.postedError _ _ _ _ _ _).trans (h.niCodeGiven _ _ _ t)))
      · exact (h.txns _ _).trans (h.niCodeGiven _ _ _ t)
    · exact (h.dmaSent _ _).trans ((h.niSync _ _ _).trans ((h.injection _).trans (h.txns _ t)))

end

theorem apartFromPackets_eng : ApartFromPackets State.eng :=
  ⟨fun _ _ _ _ => rfl, fun _ _ => rfl, fun _ _ => rfl, fun _ => rfl, fun _ _ => rfl⟩

theorem heldRequestInjected_effect {id : Nat} {s : State} {x : Txn} (hrun : Running s) (h : MayInject id x s) :
    Effect (.heldRequestInjected id) s fun t => StageOf id .sent t ∧ t.noc.injections = s.noc.injections + 1 ∧ MemKept s t := by
  obtain ⟨e, path, hnoc⟩ := inject_noc h.found h.routed
  have hop : opHeldRequestInjected id s = inject id s := by
    unfold opHeldRequestInjected
    rw [h.found]
    exact if_pos ⟨h.held, h.oldest, h.place⟩
  have hsent : StageOf id .sent (txnMod id (Txn.routedAs (stageNow x s) s.noc.injections e path) s) := by
    rw [← stageNow_mayInject h]
    exact stageOf_txnMod (fun _ => rfl) h.found
  refine ⟨_, exec_of_gated (exec_heldRequestInjected id s) hrun rfl, ?_⟩
  rw [hop]
  exact ⟨stageOf_inOrder (stageOf_congr (congrArg Noc.txns hnoc) hsent), congrArg Noc.injections hnoc,
    memKept_inOrder (inject_mem id s) (apartFromPackets_eng.inject id s)⟩

/-- Settles O22: acceptance, notice, timeout, late answer, freed place and held request, each by its own effect. -/
theorem fabricFlow : Obligations.FabricFlow := by
  unfold Obligations.FabricFlow
  exact ⟨fun _ _ _ hrun hx hstage hold hturn hguard => packetAccepted_effect hrun ⟨hx, hstage, hold, hturn, hguard⟩,
    fun _ _ _ => acceptanceNotice_effect, fun _ _ _ => requestTimeout_effect, fun _ _ _ => lateAnswer_effect, fun _ _ _ => placeFreed_effect,
    fun _ _ _ hrun hx hstage _ hold hplace hcode hdrain hbook =>
      heldRequestInjected_effect hrun ⟨hx, hstage, hold, hplace, hcode, hdrain, hbook⟩⟩

end Sys2Proof.Machine
end

section
/-! Port guards and booking (R237, R241, R242, R472): the first half of O23. -/
namespace Sys2Proof.Machine
open Sys2Proof.Safety

/-! ### Wakes as a guard starts them (R472, R479) -/

theorem dom_congr {s t : State} (h : t.dom = s.dom) (d : Nat) : dom d t = dom d s := by rw [dom, dom, h]

theorem domSleeps_congr {s t : State} (heng : t.eng = s.eng) (hdom : t.dom = s.dom) (d : Nat) : domSleeps d t = domSleeps d s := by
  simp only [domSleeps, domState, dom_congr hdom, eng_congr heng]

theorem dom_setDom_same (d : Nat) (x : Dom) (s : State) : dom d (setDom d x s) = x := by
  unfold setDom
  dsimp only
  split
  · exact tabGet_tabSet_same
  · split <;> exact tabGet_tabSet_same

theorem startWake_eng (d code : Nat) (s : State) : (startWake d code s).eng = s.eng := by
  unfold startWake
  dsimp only
  split
  · rfl
  · split
    · split
      · rfl
      · exact setDom_eng _ _ s
    · split
      · exact setDom_eng _ _ s
      · rfl

theorem startWake_noc (d code : Nat) (s : State) : (startWake d code s).noc = s.noc :=
  ApartFromEngines.startWake (f := State.noc) ⟨fun _ _ _ _ => rfl, fun _ _ => rfl, fun _ _ => rfl⟩ d code s

/-- A sleeping domain that has not failed and is not on its way to sleep wakes. -/
theorem waking_startWake {d : Nat} {s : State} (hfailed : (dom d s).failed = false) (hentering : (dom d s).entering = none)
    (hsleeps : domSleeps d s = true) (code : Nat) : (dom d (startWake d code s)).waking = true := by
  unfold startWake
  dsimp only
  rw [hfailed, hentering, hsleeps, Bool.false_or]
  split
  · assumption
  · exact congrArg Dom.waking (dom_setDom_same d _ s)

/-- The offset is none of the status registers of the domains, which lie in one part of each block of 0x800 bytes. -/
theorem rd_setDom {off : Nat} (h : 0x300 ≤ off % 0x800) (d : Nat) (x : Dom) (s : State) : rd off (setDom d x s) = rd off s := by
  unfold setDom
  dsimp only
  split
  · exact rd_wr_other (by simp only [Reg.PWR_CLU_STATUS]; omega) _ _
  · split
    · exact rd_wr_other (by simp only [Reg.PWR_ACC_STATUS]; omega) _ _
    · rfl

theorem rd_startWake {off : Nat} (h : 0x300 ≤ off % 0x800) (d code : Nat) (s : State) : rd off (startWake d code s) = rd off s := by
  unfold startWake
  dsimp only
  split
  · rfl
  · split
    · split
      · rfl
      · exact rd_setDom h _ _ s
    · split
      · exact rd_setDom h _ _ s
      · rfl

/-- A guard answers ASLEEP where its domain sleeps or wakes. -/
theorem domSleeps_of_asleep {x : Txn} {d : Nat} {s : State} (hdom : x.dom = some d) (h : x.guardCode s = some 4) : domSleeps d s = true := by
  rw [Txn.guardCode, hdom] at h
  obtain ⟨c, hc, hcode⟩ := Option.map_eq_some_iff.1 h
  have hfour : c = 4 := by
    split at hcode
    · omega
    · exact hcode
  unfold guardCode at hc
  split at hc
  · rw [hfour] at hc
    exact absurd hc (by decide)
  · split at hc
    · assumption
    · nomatch hc

/-! ### A packet at a guard (R241, R472) -/

/-- The packet is next at its port, and meets the guard of its domain. -/
structure AtGuard (id : Nat) (x : Txn) (s : State) : Prop where
  found : txnOf id s = some x
  sent : x.stage = .sent
  oldest : oldestOf x s = true
  turn : portTurn x s = true

theorem AtGuard.meets {id : Nat} {x : Txn} {s : State} (h : AtGuard id x s) : x.stage = .sent ∧ oldestOf x s = true ∧ portTurn x s = true :=
  ⟨h.sent, h.oldest, h.turn⟩

theorem opGuardAccess_serving {id : Nat} {x : Txn} {s : State} (h : AtGuard id x s) (hcode : x.guardCode s = none) : opGuardAccess id s = s := by
  unfold opGuardAccess
  rw [h.found]
  dsimp only
  rw [if_pos h.meets, hcode]

theorem opGuardAccess_refuses {id code : Nat} {x : Txn} {s : State} (h : AtGuard id x s) (hcode : x.guardCode s = some code)
    (hstays : code ≠ 4 ∨ x.aw = false) : opGuardAccess id s = guardAnswers id code (portTaken x s) := by
  unfold opGuardAccess
  rw [h.found]
  dsimp only
  rw [if_pos h.meets, hcode]
  refine if_neg fun hwakes => ?_
  obtain ⟨hfour, haw⟩ := hwakes
  obtain hne | hfalse := hstays
  · exact hne hfour
  · rw [hfalse] at haw
    exact absurd haw (by decide)

/-- The guard of the packet's port has eight slots taken or booked. -/
def GuardFull (x : Txn) (s : State) : Prop := 8 ≤ (guard (guardKey x) s).slots.length + (guard (guardKey x) s).booked.length

theorem opGuardAccess_full {id : Nat} {x : Txn} {s : State} (h : AtGuard id x s) (hcode : x.guardCode s = some 4) (haw : x.aw = true)
    (hfull : GuardFull x s) : opGuardAccess id s = txnMod id (fun u => { u with stage := .nacked }) (portTaken x s) := by
  unfold opGuardAccess
  rw [h.found]
  dsimp only
  rw [if_pos h.meets, hcode]
  dsimp only
  rw [if_pos ⟨rfl, haw⟩]
  exact if_neg (Nat.not_lt.2 hfull)

/-- The packet in a slot of the guard, before the wake it starts. -/
def slotTaken (id : Nat) (x : Txn) (s : State) : State :=
  modGuard (guardKey x) (fun g => { g with slots := g.slots ++ [id] }) (txnMod id (fun u => { u with stage := .guardSlot }) (portTaken x s))

theorem opGuardAccess_slot {id : Nat} {x : Txn} {s : State} (h : AtGuard id x s) (hcode : x.guardCode s = some 4) (haw : x.aw = true)
    (hroom : ¬GuardFull x s) : opGuardAccess id s = startWake (x.dom.getD 0) 4 (slotTaken id x s) := by
  unfold opGuardAccess
  rw [h.found]
  dsimp only
  rw [if_pos h.meets, hcode]
  dsimp only
  rw [if_pos ⟨rfl, haw⟩]
  exact if_pos (Nat.lt_of_not_le hroom)

theorem guardAnswers_eng (id code : Nat) (s : State) : (guardAnswers id code s).eng = s.eng := answer_eng id code [] _

theorem slotTaken_eng (id : Nat) (x : Txn) (s : State) : (slotTaken id x s).eng = s.eng := portTaken_eng x s

theorem opGuardAccess_eng (id : Nat) (s : State) : (opGuardAccess id s).eng = s.eng := by
  unfold opGuardAccess
  split
  · rfl
  · next x _ =>
    split
    · split
      · rfl
      · split
        · dsimp only
          split
          · exact (startWake_eng _ _ _).trans (slotTaken_eng id x s)
          · exact portTaken_eng x s
        · exact (guardAnswers_eng _ _ _).trans (portTaken_eng x s)
    · rfl

theorem cutAt_portTaken (x : Txn) (s : State) (l : List (Nat × Nat)) : cutAt l (portTaken x s) = cutAt l s := by
  refine cutAt_congr (fun n => rd_congr ?_ _) ?_ ?_ l
  all_goals rw [portTaken_eq]

/-- A guard's answer stands for the state in which the packet met the guard. -/
theorem answered_guardAnswers {id code : Nat} {x : Txn} {s : State} (h : AtGuard id x s) :
    Answered id code [] s (guardAnswers id code (portTaken x s)) := by
  have hport : txnOf id (portTaken x s) = some x := (txnOf_portTaken id x s).trans h.found
  have haccepted : txnOf id (txnMod id (fun u => { u with stage := .accepted }) (portTaken x s)) = some { x with stage := .accepted } :=
    txnOf_txnMod_some (fun _ => rfl) hport
  exact answered_changed h.found haccepted rfl rfl rfl (cutAt_portTaken x s)

theorem slotTaken_dom (id : Nat) (x : Txn) (s : State) : (slotTaken id x s).dom = s.dom := by
  show (portTaken x s).dom = s.dom
  rw [portTaken_eq]

theorem stageOf_slotTaken {id : Nat} {x : Txn} {s : State} (h : txnOf id s = some x) : StageOf id .guardSlot (slotTaken id x s) :=
  stageOf_txnMod (f := fun u => { u with stage := .guardSlot }) (fun _ => rfl) ((txnOf_portTaken id x s).trans h)

theorem mem_slots_slotTaken (id : Nat) (x : Txn) (s : State) : id ∈ (guard (guardKey x) (slotTaken id x s)).slots := by
  rw [slotTaken, guard_modGuard_same]
  exact List.mem_append_right _ (List.mem_singleton.2 rfl)

theorem guardAccess_effect {id : Nat} {s : State} {x : Txn} (hrun : Running s) (h : AtGuard id x s) :
    Effect (.guardAccess id) s fun t => MemKept s t ∧
      (x.guardCode s = none → t = s) ∧ (∀ code, x.guardCode s = some code → (code ≠ 4 ∨ x.aw = false) → Answered id code [] s t) ∧
      (x.guardCode s = some 4 → x.aw = true → 8 ≤ (guard (guardKey x) s).slots.length + (guard (guardKey x) s).booked.length → StageOf id .nacked t) ∧
      (x.guardCode s = some 4 → x.aw = true → (guard (guardKey x) s).slots.length + (guard (guardKey x) s).booked.length < 8 →
        StageOf id .guardSlot t ∧ id ∈ (guard (guardKey x) t).slots ∧
        ∀ d, x.dom = some d → (dom d s).failed = false → (dom d s).entering = none → (dom d t).waking = true) := by
  refine ⟨_, exec_of_gated (exec_guardAccess id s) hrun rfl, memKept_inOrder (opGuardAccess_mem id s) (opGuardAccess_eng id s), fun hcode => ?_,
    fun code hcode hstays => ?_, fun hcode haw hfull => ?_, fun hcode haw hroom => ?_⟩
  · rw [opGuardAccess_serving h hcode]
    exact inOrder_same rfl
  · rw [opGuardAccess_refuses h hcode hstays]
    exact answered_inOrder (answered_guardAnswers h)
  · rw [opGuardAccess_full h hcode haw hfull]
    exact stageOf_inOrder (stageOf_txnMod (f := fun u => { u with stage := .nacked }) (fun _ => rfl) ((txnOf_portTaken id x s).trans h.found))
  · have hnoc := startWake_noc (x.dom.getD 0) 4 (slotTaken id x s)
    rw [opGuardAccess_slot h hcode haw (Nat.not_le.2 hroom)]
    refine ⟨stageOf_inOrder (stageOf_congr (congrArg Noc.txns hnoc) (stageOf_slotTaken h.found)), ?_, fun d hd hfailed hentering => ?_⟩
    · have hguard : guard (guardKey x) (inOrder s (startWake (x.dom.getD 0) 4 (slotTaken id x s))) = guard (guardKey x) (slotTaken id x s) :=
        guard_congr (congrArg Noc.guards hnoc) _
      rw [hguard]
      exact mem_slots_slotTaken id x s
    · have hsame : dom d (slotTaken id x s) = dom d s := dom_congr (slotTaken_dom id x s) d
      have hsleeps : domSleeps d (slotTaken id x s) = true :=
        (domSleeps_congr (slotTaken_eng id x s) (slotTaken_dom id x s) d).trans (domSleeps_of_asleep hd hcode)
      rw [hd, Option.getD_some]
      exact waking_startWake (hsame ▸ hfailed) (hsame ▸ hentering) hsleeps 4

/-! ### Booking (R242) -/

/-- A packet that comes behind the booking of `x`: held by the booking where the limit held it. -/
def Txn.behind (x u : Txn) : Txn := if u.stage = .heldLimit ∧ x.sameWay u = true then { u with stage := .heldBook } else u

theorem behind_id (x u : Txn) : (x.behind u).id = u.id := by
  unfold Txn.behind
  split <;> rfl

/-- Behind a booking no packet of its way is held by the limit. -/
theorem stage_behind {x u : Txn} (h : x.sameWay (x.behind u) = true) : (x.behind u).stage ≠ .heldLimit := by
  by_cases hheld : u.stage = .heldLimit ∧ x.sameWay u = true
  · rw [Txn.behind, if_pos hheld]
    exact fun hno => nomatch hno
  · rw [Txn.behind, if_neg hheld] at h ⊢
    exact fun hstage => hheld ⟨hstage, h⟩

/-- The packet, once its BOOK is sent. -/
def Txn.bookSent (x : Txn) : Txn := { x with stage := .bookSent }

theorem behind_bookSent (x u : Txn) : x.behind u.bookSent = u.bookSent := if_neg fun hno => nomatch hno.1

theorem opNack_nacked {id : Nat} {x : Txn} {s : State} (hx : txnOf id s = some x) (hstage : x.stage = .nacked) :
    opNack id s = setTxns ((txnMod id Txn.bookSent s).noc.txns.map x.behind) s := by
  unfold opNack
  rw [hx]
  exact if_pos hstage

theorem txnOf_map {f : Txn → Txn} (hf : ∀ u, (f u).id = u.id) (id : Nat) (r s : State) :
    txnOf id (setTxns (s.noc.txns.map f) r) = (txnOf id s).map f := by
  show (s.noc.txns.map f).find? _ = _
  rw [List.find?_map]
  refine congrArg (Option.map f) (List.find?_congr fun u _ => ?_)
  rw [Function.comp, hf]

theorem nack_effect {id : Nat} {s : State} {x : Txn} (hrun : Running s) (hx : txnOf id s = some x) (hstage : x.stage = .nacked) :
    Effect (.nack id) s fun t => StageOf id .bookSent t ∧ t.csr = s.csr ∧ MemKept s t ∧
      ∀ u ∈ t.noc.txns, u.src / 128 = x.src / 128 → u.cls = x.cls → u.node = x.node → u.port = x.port → u.stage ≠ .heldLimit := by
  have hfound : txnOf id (setTxns ((txnMod id Txn.bookSent s).noc.txns.map x.behind) s) = some x.bookSent := by
    rw [txnOf_map (behind_id x), txnOf_txnMod_some (f := Txn.bookSent) (fun _ => rfl) hx, Option.map_some, behind_bookSent]
  refine ⟨_, exec_of_gated (exec_nack id s) hrun rfl, ?_⟩
  rw [opNack_nacked hx hstage]
  refine ⟨⟨_, hfound, rfl⟩, rfl, memKept_inOrder rfl rfl, fun u hu hsrc hcls hnode hport => ?_⟩
  obtain ⟨v, -, rfl⟩ := List.mem_map.1 hu
  exact stage_behind (by simp only [Txn.sameWay, hsrc, hcls, hnode, hport, beq_self_eq_true, Bool.and_self])

theorem book_effect {id : Nat} {s : State} {x : Txn} (hrun : Running s) (hx : txnOf id s = some x) (hstage : x.stage = .bookSent)
    (hroom : (guard (guardKey x) s).booked.length < 64) :
    Effect (.book id) s fun t => StageOf id .booked t ∧ (guard (guardKey x) t).booked = (guard (guardKey x) s).booked ++ [id] ∧ MemKept s t := by
  let u := txnMod id (fun v => { v with stage := .booked }) s
  have hop : opBook id s = modGuard (guardKey x) (fun g => { g with booked := g.booked ++ [id] }) u := by
    unfold opBook
    rw [hx]
    exact if_pos ⟨hstage, hroom⟩
  have hstaged : StageOf id .booked u := stageOf_txnMod (fun _ => rfl) hx
  refine ⟨_, exec_of_gated (exec_book id s) hrun rfl, ?_⟩
  rw [hop]
  refine ⟨stageOf_inOrder (stageOf_congr rfl hstaged), ?_, memKept_inOrder rfl rfl⟩
  exact congrArg Guard.booked (guard_modGuard_same (guardKey x) _ u)

theorem deny_effect {id : Nat} {s : State} {x : Txn} (hrun : Running s) (hx : txnOf id s = some x) (hstage : x.stage = .bookSent)
    (hfull : 64 ≤ (guard (guardKey x) s).booked.length) :
    Effect (.deny id) s fun t => StageOf id .denied t ∧ t.noc.guards = s.noc.guards ∧ t.csr = s.csr := by
  have hop : opDeny id s = txnMod id (fun v => { v with stage := .denied }) s := by
    unfold opDeny
    rw [hx]
    exact if_pos ⟨hstage, hfull⟩
  refine ⟨_, exec_of_gated (exec_deny id s) hrun rfl, ?_⟩
  rw [hop]
  exact ⟨stageOf_inOrder (stageOf_txnMod (fun _ => rfl) hx), rfl, rfl⟩

theorem bookRetry_effect {id : Nat} {s : State} {x : Txn} (hrun : Running s) (hx : txnOf id s = some x) (hstage : x.stage = .denied) :
    Effect (.bookRetry id) s fun t => StageOf id .bookSent t ∧ t.noc.guards = s.noc.guards ∧ t.csr = s.csr := by
  have hop : opBookRetry id s = txnMod id Txn.bookSent s := by
    unfold opBookRetry
    rw [hx]
    exact if_pos hstage
  refine ⟨_, exec_of_gated (exec_bookRetry id s) hrun rfl, ?_⟩
  rw [hop]
  exact ⟨stageOf_inOrder (stageOf_txnMod (f := Txn.bookSent) (fun _ => rfl) hx), rfl, rfl⟩

/-! ### Grants (R242) -/

/-- The oldest booking of its guard has a slot, and its NI may resend the packet. -/
structure MayGrant (id : Nat) (x : Txn) (s : State) : Prop where
  found : txnOf id s = some x
  booked : x.stage = .booked
  first : (guard (guardKey x) s).booked.head? = some id
  slot : (guard (guardKey x) s).slots.length < 8
  resends : mayResend x s = true

/-- A packet resent at a grant: into a slot, or past a guard that lets it pass by now. -/
def Txn.resent (asleep : Bool) (inj : Nat) (x : Txn) : Txn := { x with stage := if asleep then .guardSlot else .sent, inj := inj, held := false }

/-- The guard past its oldest booking. -/
def Guard.granted (asleep : Bool) (id : Nat) (g : Guard) : Guard :=
  { g with slots := if asleep then g.slots ++ [id] else g.slots, booked := g.booked.tail }

/-- The packet past its booking: in a slot of the guard where the domain still sleeps, and on its way again where it does not. -/
def grantPut (id : Nat) (x : Txn) (s : State) : State :=
  let asleep := (x.guardCode s).isSome
  countInjection (txnMod id (Txn.resent asleep s.noc.injections) (modGuard (guardKey x) (Guard.granted asleep id) s))

/-- The grant counted, before the wake and the booking that follow. -/
def grantTaken (id : Nat) (x : Txn) (s : State) : State :=
  bump (Reg.NI_BOOK_CNT (srcNode x.src) (srcPort x.src)) (niSync (srcNode x.src) (srcPort x.src) (grantPut id x s))

/-- The domain woken, where it still sleeps. -/
def grantWoken (id : Nat) (x : Txn) (s : State) : State :=
  if (x.guardCode s).isSome then startWake (x.dom.getD 0) 4 (grantTaken id x s) else grantTaken id x s

/-- The oldest packet behind the booking, if one waits there, books in turn. -/
def nextBooks (x : Txn) (s t : State) : State :=
  match heldBehind x s with
  | none => t
  | some j => txnMod j Txn.bookSent t

theorem opGrant_granted {id : Nat} {x : Txn} {s : State} (h : MayGrant id x s) : opGrant id s = nextBooks x s (grantWoken id x s) := by
  unfold opGrant
  rw [h.found]
  exact if_pos ⟨h.booked, h.first, h.slot, h.resends⟩

theorem grantWoken_noc (id : Nat) (x : Txn) (s : State) : (grantWoken id x s).noc = (grantTaken id x s).noc := by
  unfold grantWoken
  split
  · exact startWake_noc _ _ _
  · rfl

theorem grantPut_csr (id : Nat) (x : Txn) (s : State) : (grantPut id x s).csr = s.csr := by
  unfold grantPut
  rfl

theorem grantTaken_eng (id : Nat) (x : Txn) (s : State) : (grantTaken id x s).eng = s.eng := by
  rw [grantTaken, bump_eng, niSync_eng]
  rfl

theorem grantTaken_noc (id : Nat) (x : Txn) (s : State) : (grantTaken id x s).noc = (grantPut id x s).noc := by
  rw [grantTaken, bump_noc, niSync_noc]

theorem grantWoken_eng (id : Nat) (x : Txn) (s : State) : (grantWoken id x s).eng = s.eng := by
  unfold grantWoken
  split
  · exact (startWake_eng _ _ _).trans (grantTaken_eng id x s)
  · exact grantTaken_eng id x s

/-- NI_BOOK_CNT lies apart from the places of its NI and from the status of every domain. -/
theorem counted_grantWoken (id : Nat) (x : Txn) (s : State) :
    Counted (Reg.NI_BOOK_CNT (srcNode x.src) (srcPort x.src)) s (grantWoken id x s) := by
  have hout : Reg.NI_BOOK_CNT (srcNode x.src) (srcPort x.src) ≠ Reg.NI_OUTSTANDING (srcNode x.src) (srcPort x.src) := by
    simp only [Reg.NI_BOOK_CNT, Reg.NI_OUTSTANDING]
    omega
  have hmod : 0x300 ≤ Reg.NI_BOOK_CNT (srcNode x.src) (srcPort x.src) % 0x800 := by
    simp only [Reg.NI_BOOK_CNT]
    omega
  have hput : rd (Reg.NI_BOOK_CNT (srcNode x.src) (srcPort x.src)) (niSync (srcNode x.src) (srcPort x.src) (grantPut id x s)) =
      rd (Reg.NI_BOOK_CNT (srcNode x.src) (srcPort x.src)) s := by
    rw [niSync, rd_setFld_other hout, rd_congr (grantPut_csr id x s)]
  have htaken : Counted (Reg.NI_BOOK_CNT (srcNode x.src) (srcPort x.src)) s (grantTaken id x s) := counted_of_bump hput rfl
  unfold grantWoken
  split
  · rw [Counted, rd_startWake hmod]
    exact htaken
  · exact htaken

theorem txnOf_grantTaken {id : Nat} {x : Txn} {s : State} (h : txnOf id s = some x) :
    txnOf id (grantTaken id x s) = some (x.resent (x.guardCode s).isSome s.noc.injections) := by
  rw [txnOf_congr (congrArg Noc.txns (grantTaken_noc id x s))]
  have hguarded : ∀ f, txnOf id (modGuard (guardKey x) f s) = some x := fun f => (txnOf_congr rfl id).trans h
  exact txnOf_txnMod_some (f := Txn.resent (x.guardCode s).isSome s.noc.injections) (fun _ => rfl) (hguarded _)

theorem booked_grantTaken (id : Nat) (x : Txn) (s : State) :
    (guard (guardKey x) (grantTaken id x s)).booked = (guard (guardKey x) s).booked.tail := by
  have hguards : (grantTaken id x s).noc.guards = (modGuard (guardKey x) (Guard.granted (x.guardCode s).isSome id) s).noc.guards :=
    (congrArg Noc.guards (grantTaken_noc id x s)).trans rfl
  rw [guard_congr hguards, guard_modGuard_same]
  rfl

/-- The booking that follows is another packet's, and changes that packet alone. -/
theorem nextBooks_eq (x : Txn) (s t : State) : nextBooks x s t = setTxns (nextBooks x s t).noc.txns t := by
  unfold nextBooks
  split <;> rfl

theorem txnOf_nextBooks {id : Nat} {x : Txn} {s : State} (h : heldBehind x s ≠ some id) (t : State) :
    txnOf id (nextBooks x s t) = txnOf id t := by
  unfold nextBooks
  split
  · rfl
  · next j hj =>
    have hother : j ≠ id := fun hid => h (hid ▸ hj)
    exact txnOf_txnMod_other (f := Txn.bookSent) (fun _ => rfl) hother t

theorem grant_effect {id : Nat} {s : State} {x : Txn} (hrun : Running s) (h : MayGrant id x s) (hbehind : heldBehind x s ≠ some id) :
    Effect (.grant id) s fun t => (if (x.guardCode s).isSome then StageOf id .guardSlot t else StageOf id .sent t) ∧
      (guard (guardKey x) t).booked = (guard (guardKey x) s).booked.tail ∧ Counted (Reg.NI_BOOK_CNT (srcNode x.src) (srcPort x.src)) s t ∧
        MemKept s t := by
  have hop : opGrant id s = setTxns (opGrant id s).noc.txns (grantWoken id x s) := by
    rw [opGrant_granted h]
    exact nextBooks_eq x s _
  have hfound : txnOf id (opGrant id s) = some (x.resent (x.guardCode s).isSome s.noc.injections) := by
    rw [opGrant_granted h, txnOf_nextBooks hbehind, txnOf_congr (congrArg Noc.txns (grantWoken_noc id x s))]
    exact txnOf_grantTaken h.found
  have hguard : guard (guardKey x) (opGrant id s) = guard (guardKey x) (grantTaken id x s) :=
    guard_congr ((congrArg (fun t => t.noc.guards) hop).trans (congrArg Noc.guards (grantWoken_noc id x s))) _
  have hcsr : (opGrant id s).csr = (grantWoken id x s).csr := (congrArg State.csr hop).trans rfl
  have heng : (opGrant id s).eng = s.eng := (congrArg State.eng hop).trans (grantWoken_eng id x s)
  refine ⟨_, exec_of_gated (exec_grant id s) hrun rfl, ?_, ?_, ?_, memKept_inOrder (opGrant_mem id s) heng⟩
  · have hstage : StageOf id (if (x.guardCode s).isSome then .guardSlot else .sent) (opGrant id s) := ⟨_, hfound, rfl⟩
    split
    · next hasleep =>
      rw [if_pos hasleep] at hstage
      exact stageOf_inOrder hstage
    · next hawake =>
      rw [if_neg hawake] at hstage
      exact stageOf_inOrder hstage
  · exact (congrArg Guard.booked hguard).trans (booked_grantTaken id x s)
  · refine counted_inOrder ?_
    rw [Counted, rd_congr hcsr]
    exact counted_grantWoken id x s

end Sys2Proof.Machine
end

section
/-! Drains of the routers (R252 to R254), and O23. -/
namespace Sys2Proof.Machine
open Sys2Proof.Safety

/-! ### Routers apply their settings -/

/-- What neither the packets nor other registers change, the upkeep of the routers' registers keeps. -/
theorem ApartFromPackets.syncRouters {α : Type} {f : State → α} (h : ApartFromPackets f) (t : State) : f (syncRouters t) = f t := by
  have hstatus : ∀ n, Reg.NOC_RTR_STATUS n ≠ Reg.NOC_DRAIN_CNT := fun n => by simp only [Reg.NOC_RTR_STATUS, Reg.NOC_DRAIN_CNT]; omega
  unfold Machine.syncRouters
  dsimp only
  exact (forEach_keeps (fun n u => (h.wr _ _ _ (hstatus n)).trans (h.wr _ _ u (hstatus n))) _ _).trans (h.wr _ _ t (by decide))

theorem syncRouters_noc (s : State) : (syncRouters s).noc = s.noc := by
  unfold syncRouters
  dsimp only
  exact (forEach_keeps (g := State.noc) (fun _ _ => (setFld_noc _ _ _ _ _).trans (setFld_noc _ _ _ _ _)) _ _).trans (wr_noc _ _ s)

/-- The state at the end of a drain, before the held packets are injected: the new entries and settings in use, and the drain counted. -/
def drainCounted (s : State) : State :=
  setFld Reg.NOC_STATUS 0 0 0 (bump Reg.NOC_DRAIN_CNT
    { s with noc := { s.noc with routes := [], rtr := [], drainNodes := [], draining := false, slow := false } })

/-- The end of a drain keeps what the packets it held do not change. -/
theorem ApartFromPackets.drainEnd {α : Type} {f : State → α} (h : ApartFromPackets f) (s : State) : f (drainEnd s) = f (drainCounted s) :=
  (forEach_keeps (fun id t => h.inject id t) _ _).trans (h.syncRouters _)

/-- The fabric but for its packets and their number of injections. -/
def nocApart (s : State) : Noc := { s.noc with txns := [], injections := 0 }

theorem apartFromPackets_noc : ApartFromPackets nocApart :=
  ⟨fun _ _ _ _ => rfl, fun _ _ => rfl, fun _ _ => rfl, fun _ => rfl, fun _ _ => rfl⟩

theorem apartFromPackets_drainCnt : ApartFromPackets (rd Reg.NOC_DRAIN_CNT) :=
  ⟨fun _ v t h => rd_wr_other h.symm v t, fun _ _ => rfl, fun _ _ => rfl, fun _ => rfl, fun _ _ => rfl⟩

/-- Router `n` past the drain. -/
def routerPast (n : Nat) (s : State) : State :=
  { s with noc := { s.noc with drainNodes := s.noc.drainNodes.filter (· ≠ n), rtr := s.noc.rtr.filter fun r => r.1 != n } }

/-- Router `n` is in the drain, with nothing in flight. -/
structure MayApply (n : Nat) (s : State) : Prop where
  draining : s.noc.draining = true
  inSet : n ∈ s.noc.drainNodes
  idle : drainBusy n s = false

theorem opRouterApply_idle {n : Nat} {s : State} (h : MayApply n s) :
    opRouterApply n s = if (routerPast n s).noc.drainNodes.isEmpty then drainEnd (routerPast n s) else syncRouters (routerPast n s) :=
  if_pos ⟨h.draining, List.contains_iff_mem.2 h.inSet, h.idle⟩

theorem opRouterApply_last {n : Nat} {s : State} (h : MayApply n s) (hlast : ∀ m ∈ s.noc.drainNodes, m = n) :
    opRouterApply n s = drainEnd (routerPast n s) := by
  have hempty : (routerPast n s).noc.drainNodes = [] := List.filter_eq_nil_iff.2 fun m hm => by simpa using hlast m hm
  rw [opRouterApply_idle h, hempty]
  rfl

theorem opRouterApply_more {n m : Nat} {s : State} (h : MayApply n s) (hm : m ∈ s.noc.drainNodes) (hne : m ≠ n) :
    opRouterApply n s = syncRouters (routerPast n s) := by
  have hstays : m ∈ (routerPast n s).noc.drainNodes := List.mem_filter.2 ⟨hm, by simpa using hne⟩
  have hempty : ¬((routerPast n s).noc.drainNodes.isEmpty = true) := fun hnone => List.ne_nil_of_mem hstays (List.isEmpty_iff.1 hnone)
  rw [opRouterApply_idle h, if_neg hempty]

theorem opRouterApply_eng (n : Nat) (s : State) : (opRouterApply n s).eng = s.eng := by
  unfold opRouterApply
  dsimp only
  split
  · split
    · exact apartFromPackets_eng.drainEnd _
    · exact apartFromPackets_eng.syncRouters _
  · rfl

theorem counted_drainEnd (s : State) : Counted Reg.NOC_DRAIN_CNT s (drainEnd s) := by
  have hstatus : Reg.NOC_DRAIN_CNT ≠ Reg.NOC_STATUS := by decide
  rw [Counted, apartFromPackets_drainCnt.drainEnd, drainCounted, rd_setFld_other hstatus]
  exact counted_bump Reg.NOC_DRAIN_CNT _

theorem routerApply_effect {n : Nat} {s : State} (hrun : Running s) (hn : n < 48) (h : MayApply n s) :
    Effect (.routerApply n) s fun t => n ∉ t.noc.drainNodes ∧ MemKept s t ∧
      ((∃ m ∈ s.noc.drainNodes, m ≠ n) → t.noc.draining = true ∧ t.noc.txns = s.noc.txns) ∧
      ((∀ m ∈ s.noc.drainNodes, m = n) → t.noc.draining = false ∧ t.noc.routes = [] ∧ t.noc.rtr = [] ∧ Counted Reg.NOC_DRAIN_CNT s t) := by
  have hmore : (∃ m ∈ s.noc.drainNodes, m ≠ n) → (opRouterApply n s).noc = (routerPast n s).noc := fun ⟨m, hm, hne⟩ => by
    rw [opRouterApply_more h hm hne]
    exact syncRouters_noc _
  have hlast : (∀ m ∈ s.noc.drainNodes, m = n) → nocApart (opRouterApply n s) = nocApart (drainCounted (routerPast n s)) := fun hall => by
    rw [opRouterApply_last h hall]
    exact apartFromPackets_noc.drainEnd _
  refine ⟨_, exec_of_gated (exec_routerApply n s) hrun (below_of_lt hn), ?_,
    memKept_inOrder (opRouterApply_mem n s) (opRouterApply_eng n s), fun hother => ?_, fun hall => ?_⟩
  · show n ∉ (opRouterApply n s).noc.drainNodes
    by_cases hall : ∀ m ∈ s.noc.drainNodes, m = n
    · have hnodes : (opRouterApply n s).noc.drainNodes = [] := congrArg Noc.drainNodes (hlast hall)
      rw [hnodes]
      exact List.not_mem_nil
    · have hother : ∃ m ∈ s.noc.drainNodes, m ≠ n := by simpa only [not_forall, exists_prop] using hall
      rw [hmore hother]
      exact fun hmem => by simpa using (List.mem_filter.1 hmem).2
  · exact ⟨(congrArg Noc.draining (hmore hother)).trans h.draining, (congrArg Noc.txns (hmore hother)).trans rfl⟩
  · refine ⟨congrArg Noc.draining (hlast hall), congrArg Noc.routes (hlast hall), congrArg Noc.rtr (hlast hall), counted_inOrder ?_⟩
    rw [opRouterApply_last h hall]
    exact counted_drainEnd (routerPast n s)

/-! ### Slow drains (R254) -/

/-- The drain reported as slow. -/
def slowNoted (s : State) : State :=
  flagEvent Reg.NOC_EVT_STATUS 4 0x104 0 { s with noc := { s.noc with slow := true } }

theorem opNocDrainSlow_first {s : State} (hdraining : s.noc.draining = true) (hslow : s.noc.slow = false) : opNocDrainSlow s = slowNoted s :=
  if_pos ⟨hdraining, hslow⟩

/-- A drain is reported once. -/
theorem opNocDrainSlow_again {s : State} (h : s.noc.slow = true) : opNocDrainSlow s = s :=
  if_neg fun hno => absurd (h.symm.trans hno.2) (by decide)

theorem slow_slowNoted (s : State) : (slowNoted s).noc.slow = true := by rw [slowNoted, flagEvent_noc]

theorem nocDrainSlow_effect {s : State} (hrun : Running s) (hdraining : s.noc.draining = true) (hslow : s.noc.slow = false) :
    Effect .nocDrainSlow s fun t => flagOn Reg.NOC_EVT_STATUS 4 t = true ∧ Raised 0x104 0 s t ∧ exec .nocDrainSlow t = .next t := by
  refine ⟨_, exec_of_gated (exec_nocDrainSlow s) hrun rfl, ?_⟩
  rw [opNocDrainSlow_first hdraining hslow]
  refine ⟨flagOn_inOrder (flagOn_flagEvent (by decide) (by omega) _ _ _), raised_flagEvent (s := s) (by rfl) _ _ _ _, ?_⟩
  rw [exec_nocDrainSlow]
  obtain hidle | hacts := gated_cases false true opNocDrainSlow (inOrder s (slowNoted s))
  · rw [hidle]
  · have hagain : opNocDrainSlow (inOrder s (slowNoted s)) = inOrder s (slowNoted s) := opNocDrainSlow_again (slow_slowNoted s)
    rw [hacts, hagain, inOrder_same rfl]

/-- Settles O23: the guard, the booking, the grant and the drain, each by its own effect. -/
theorem fabricGuards : Obligations.FabricGuards := by
  unfold Obligations.FabricGuards
  exact ⟨fun _ _ _ hrun hx hstage hold hturn => guardAccess_effect hrun ⟨hx, hstage, hold, hturn⟩, fun _ _ _ => nack_effect,
    fun _ _ _ => book_effect, fun _ _ _ => deny_effect, fun _ _ _ => bookRetry_effect,
    fun _ _ _ hrun hx hstage hfirst hslot hresend => grant_effect hrun ⟨hx, hstage, hfirst, hslot, hresend⟩,
    fun _ _ hrun hn hdraining hin hidle => routerApply_effect hrun hn ⟨hdraining, hin, hidle⟩, fun _ => nocDrainSlow_effect⟩

end Sys2Proof.Machine
end

section
/-! In-network reduction (R243 to R249): O24 fails by the identifier and the class of an answered packet. -/
namespace Sys2Proof.Machine
open Sys2Proof.Safety

/-- Refutes O24: its hypotheses admit an answer to a table read that bears the identifier of another NI and a class that no NI has, where
`opRedPartial` sends a request of class 0 of the collector's own NI. The NI_PKTS counter of class 13 of port 7 of node 7 would lie where the
collector of cluster 0 holds its route to node 17, so taking that answer makes the route bad, and the result write, which the NI would have sent
before, is dropped. -/
theorem not_reductions : ¬ Obligations.Reductions := by
  rintro ⟨-, -, -, -, -, -, htable, -⟩
  let x : Txn := {
    id := 0, agent := .coll 0, use := useRedTable 0, src := srcId 7 7 0, cls := 13, addr := 0, body := .read 16, posted := false, aw := false
    node := 8, port := 0, stage := .served, ans := some (0, leBytes 16 0x10900000) }
  let r : Reduction := { tag := 0, n := 1, cls := 0, setRound := 0, booked := 1, cnt := 1, sum := [1], phase := 1 }
  let s : State := { State.reset with noc := { txns := [x], reductions := [(0, [r])] } }
  have hrunning : Running s := ⟨rfl, by decide +kernel⟩
  have hwaits : waitingAns (.coll 0) (useRedTable 0) s = some (x, 0, leBytes 16 0x10900000) := rfl
  have hsent : originCode (srcOf (.coll 0) s) 2 (leAt (leBytes 16 0x10900000) 0 6) (.write r.result) s = none := by decide +kernel
  have hdropped : (gated false (below 32 0 && below 4096 0) (opRedTableAnswer 0 0) s).noc.txns = [] := by decide +kernel
  obtain ⟨t, hexec, -, -, hwrites⟩ := htable 0 0 s x 0 _ r hrunning (by decide) (by decide) hwaits rfl
  obtain rfl : gated false (below 32 0 && below 4096 0) (opRedTableAnswer 0 0) s = t := by
    rw [exec_redTableAnswer] at hexec
    exact Host.Outcome.next.inj hexec
  obtain ⟨-, hresult⟩ := hwrites rfl
  obtain ⟨y, hy, -⟩ := hresult (by decide) (by decide) hsent
  rw [hdropped] at hy
  exact absurd hy List.not_mem_nil

end Sys2Proof.Machine
end

section
/-! Memory as the fabric reaches it (R265 to R272, R547): O25. -/
namespace Sys2Proof.Machine
open Sys2Proof.Safety

/-! ### What an access leaves of the engines and of an answer's way -/

/-- The engines, the fabric with its packets, and the links each router uses are as before. -/
structure FabricKept (s t : State) : Prop where
  eng : t.eng = s.eng
  noc : t.noc = s.noc
  links : ∀ n, rd (Reg.NOC_RTR_CTRL n) t = rd (Reg.NOC_RTR_CTRL n) s

theorem FabricKept.refl (s : State) : FabricKept s s := ⟨rfl, rfl, fun _ => rfl⟩

theorem FabricKept.trans {s t u : State} (h : FabricKept s t) (k : FabricKept t u) : FabricKept s u :=
  ⟨k.eng.trans h.eng, k.noc.trans h.noc, fun n => (k.links n).trans (h.links n)⟩

/-- No register of a memory lies at the offset of a router's NOC_RTR_CTRL. -/
theorem fabricKept_wr {off : Nat} (h : off % 0x40 ≠ 0) (v : DWord) (s : State) : FabricKept s (wr off v s) :=
  ⟨rfl, rfl, fun n => rd_wr_other (by simp only [Reg.NOC_RTR_CTRL]; omega) v s⟩

theorem fabricKept_bump {off : Nat} (h : off % 0x40 ≠ 0) (s : State) : FabricKept s (bump off s) := fabricKept_wr h _ s

theorem fabricKept_raise (num inst : Nat) (s : State) : FabricKept s (raise num inst s) :=
  ⟨raise_eng num inst s, raise_noc num inst s, fun n => rd_raise (by simp only [Reg.NOC_RTR_CTRL, Reg.EVT_DROP_CNT]; omega) num inst s⟩

theorem fabricKept_noteEccAt (ecc : Ecc) (a : Nat) (s : State) : FabricKept s (noteEccAt ecc a s) :=
  noteEccAt_keeps (P := FabricKept s) (fun _ _ h => ⟨h.eng, h.noc, h.links⟩)
    (fun t h => h.trans (fabricKept_wr (by decide) _ t)) ecc a (.refl s)

/-- The registers of a cluster's memory errors (R266, R267). -/
theorem csm_apart (c : Nat) : Reg.CSM_CORR_CNT c % 0x40 ≠ 0 ∧ Reg.CSM_UNCORR_CNT c % 0x40 ≠ 0 ∧ Reg.CSM_LAST_UNCORR c % 0x40 ≠ 0 := by
  simp only [Reg.CSM_CORR_CNT, Reg.CSM_UNCORR_CNT, Reg.CSM_LAST_UNCORR, Reg.dmaBase]
  split <;> omega

theorem fabricKept_memUncorr (a node port : Nat) (s : State) : FabricKept s (memUncorr a node port s) := by
  obtain ⟨-, hcnt, hlast⟩ := csm_apart ((a - 0x10000000) / 0x100000)
  have hdramCnt : Reg.DRAM_UNCORR_CNT (dramChannel a) % 0x40 ≠ 0 := by simp only [Reg.DRAM_UNCORR_CNT]; omega
  have hdramLast : Reg.DRAM_LAST_UNCORR (dramChannel a) % 0x40 ≠ 0 := by simp only [Reg.DRAM_LAST_UNCORR]; omega
  have hraise := fabricKept_raise 0x110 (node * 8 + port) s
  unfold memUncorr
  dsimp only
  split
  · exact hraise.trans (fabricKept_noteEccAt _ _ _)
  · split
    · exact hraise.trans ((fabricKept_bump hcnt _).trans ((fabricKept_wr hlast _ _).trans (fabricKept_noteEccAt _ _ _)))
    · split
      · exact hraise.trans (fabricKept_noteEccAt _ _ _)
      · exact hraise.trans ((fabricKept_bump hdramCnt _).trans (fabricKept_wr hdramLast _ _))

theorem fabricKept_memCorr (a : Nat) (s : State) : FabricKept s (memCorr a s) := by
  obtain ⟨hcnt, -, -⟩ := csm_apart ((a - 0x10000000) / 0x100000)
  have heng : Reg.ENG_ECC_CNT (a / 0x40000) % 0x40 ≠ 0 := by simp only [Reg.ENG_ECC_CNT]; omega
  have hdram : Reg.DRAM_CORR_CNT (dramChannel a) % 0x40 ≠ 0 := by simp only [Reg.DRAM_CORR_CNT]; omega
  unfold memCorr
  split
  · exact (fabricKept_noteEccAt _ _ s).trans (fabricKept_bump heng _)
  · split
    · exact (fabricKept_bump hcnt s).trans (fabricKept_noteEccAt _ _ _)
    · split
      · exact (fabricKept_bump (by decide) s).trans (fabricKept_noteEccAt _ _ _)
      · exact fabricKept_bump hdram s

theorem fabricKept_dramBytes (write : Bool) (a n : Nat) (s : State) : FabricKept s (dramBytes write a n s) := by
  have hcnt : (if write then Reg.DRAM_WR_BYTES (dramChannel a) else Reg.DRAM_RD_BYTES (dramChannel a)) % 0x40 ≠ 0 := by
    simp only [Reg.DRAM_WR_BYTES, Reg.DRAM_RD_BYTES]
    split <;> omega
  unfold dramBytes
  split
  · exact fabricKept_wr hcnt _ s
  · exact .refl s

theorem fabricKept_memStore (a : Nat) (bs : List Byte) (s : State) : FabricKept s (memStore a bs s) := ⟨rfl, rfl, fun _ => rfl⟩

theorem fabricKept_addPoison (l : List Nat) (s : State) : FabricKept s (addPoison l s) := ⟨rfl, rfl, fun _ => rfl⟩

theorem fabricKept_memServeWrite (ecc : Ecc) (a : Nat) (bs : List Byte) (node port : Nat) (s : State) :
    FabricKept s (memServeWrite ecc a bs node port s) := by
  have hpoison : Reg.DRAM_POISON_CNT (dramChannel a) % 0x40 ≠ 0 := by simp only [Reg.DRAM_POISON_CNT]; omega
  unfold memServeWrite
  dsimp only
  split
  · split
    · exact (fabricKept_memStore a bs s).trans (fabricKept_memCorr a _)
    · exact fabricKept_memStore a bs s
  · split
    · exact (fabricKept_memStore a bs s).trans ((fabricKept_addPoison _ _).trans ((fabricKept_wr hpoison _ _).trans (fabricKept_raise _ _ _)))
    · exact (fabricKept_memStore a bs s).trans ((fabricKept_addPoison _ _).trans (fabricKept_memUncorr _ _ _ _))

/-- An answer given once an access is noted finds its request and its way as they were. -/
theorem FabricKept.answered {s u : State} (h : FabricKept s u) (id code : Nat) (data : List Byte) :
    Answered id code data s (answer id code data u) :=
  answered_answer (txnOf_congr (congrArg Noc.txns h.noc) id) (cutAt_congr h.links (congrArg Noc.rtr h.noc) (congrArg Noc.linkOut h.noc))

theorem memByte_addPoison (x : Nat) (l : List Nat) (s : State) : memByte x (addPoison l s) = memByte x s := rfl

/-- A write served stores its bytes: errors it meets change only what is known of them. -/
theorem memByte_memServeWrite (ecc : Ecc) (a : Nat) (bs : List Byte) (node port x : Nat) (s : State) :
    memByte x (memServeWrite ecc a bs node port s) = if a ≤ x ∧ x < a + bs.length then bs.getD (x - a) 0 else memByte x s := by
  unfold memServeWrite
  dsimp only
  split
  · split
    · rw [memByte_congr (memCorr_mem a _), memByte_memStore]
    · rw [memByte_memStore]
  · split
    · rw [memByte_congr (raise_mem _ _ _), memByte_congr (bumpBy_mem _ _ _), memByte_addPoison, memByte_memStore]
    · rw [memByte_congr (memUncorr_mem _ _ _ _), memByte_addPoison, memByte_memStore]

/-! ### Accesses served (R265, R268, R271, R547) -/

/-- The memory may serve packet `id`: it is accepted, the first of those on its lines, and its DRAM channel, if it has one, is in service. -/
structure MayServe (id : Nat) (x : Txn) (s : State) : Prop where
  found : txnOf id s = some x
  accepted : x.stage = .accepted
  memory : inMemory x.addr = true
  active : dramMode x.addr s = 0
  first : firstOnLine x s = true

theorem MayServe.serves {id : Nat} {x : Txn} {s : State} (h : MayServe id x s) :
    x.stage = .accepted ∧ inMemory x.addr = true ∧ dramMode x.addr s ≠ 2 ∧ dramMode x.addr s ≠ 1 ∧ firstOnLine x s = true := by
  rw [h.active]
  exact ⟨h.accepted, h.memory, by decide, by decide, h.first⟩

theorem MayServe.not_failed {id : Nat} {x : Txn} {s : State} (h : MayServe id x s) : dramMode x.addr s ≠ 3 := by
  rw [h.active]
  decide

/-- Is the access one to the Cold Room that R268 does not allow? -/
def coldRefused (write : Bool) (n : Nat) (x : Txn) : Bool :=
  decide (0x20000000 ≤ x.addr ∧ x.addr < 0x20040000) && !(coldOk x.agent write x.addr n)

/-- A read that is let in ends by what the ECC finds. -/
def readServed (id n : Nat) (found : Ecc) (x : Txn) (s : State) : State :=
  let u := dramBytes false x.addr n s
  match found with
  | .uncorrectable => answer id 1 [] (memUncorr (badWord x.addr n s) x.node x.port u)
  | .corrected => answer id 0 (memRead x.addr n s) (memCorr x.addr u)
  | .clean => answer id 0 (memRead x.addr n s) u

/-- A write that is let in is stored and answered OK. -/
def writeServed (id : Nat) (ecc : Ecc) (bs : List Byte) (x : Txn) (s : State) : State :=
  answer id 0 [] (memServeWrite ecc x.addr bs x.node x.port (dramBytes true x.addr bs.length s))

theorem opMemoryAccessServed_read {id n : Nat} {x : Txn} {s : State} (h : MayServe id x s) (hb : x.body = .read n) (ecc : Ecc) :
    opMemoryAccessServed id ecc s =
      if coldRefused false n x = true then answer id 7 [] s else readServed id n (eccFinds ecc x.addr n s) x s := by
  unfold opMemoryAccessServed readServed
  rw [h.found]
  dsimp only
  rw [if_pos h.serves, hb]
  dsimp only
  rw [if_neg h.not_failed]
  rfl

theorem opMemoryAccessServed_write {id : Nat} {bs : List Byte} {x : Txn} {s : State} (h : MayServe id x s) (hb : x.body = .write bs) (ecc : Ecc) :
    opMemoryAccessServed id ecc s = if coldRefused true bs.length x = true then answer id 7 [] s else writeServed id ecc bs x s := by
  unfold opMemoryAccessServed
  rw [h.found]
  dsimp only
  rw [if_pos h.serves, hb]
  dsimp only
  rw [if_neg h.not_failed]
  rfl

theorem readServed_memKept (id n : Nat) (found : Ecc) (x : Txn) (s : State) : MemKept s (readServed id n found x s) := by
  have hbytes := fabricKept_dramBytes false x.addr n s
  unfold readServed
  dsimp only
  cases found with
  | clean => exact ⟨(answer_mem _ _ _ _).trans (dramBytes_mem _ _ _ s), (answer_eng _ _ _ _).trans hbytes.eng⟩
  | corrected =>
    exact ⟨(answer_mem _ _ _ _).trans ((memCorr_mem _ _).trans (dramBytes_mem _ _ _ s)),
      (answer_eng _ _ _ _).trans (hbytes.trans (fabricKept_memCorr _ _)).eng⟩
  | uncorrectable =>
    exact ⟨(answer_mem _ _ _ _).trans ((memUncorr_mem _ _ _ _).trans (dramBytes_mem _ _ _ s)),
      (answer_eng _ _ _ _).trans (hbytes.trans (fabricKept_memUncorr _ _ _ _)).eng⟩

theorem answered_readServed_clean (id n : Nat) (x : Txn) (s : State) :
    Answered id 0 (memRead x.addr n s) s (readServed id n .clean x s) := (fabricKept_dramBytes false x.addr n s).answered id 0 _

theorem answered_readServed_uncorrectable (id n : Nat) (x : Txn) (s : State) :
    Answered id 1 [] s (readServed id n .uncorrectable x s) :=
  ((fabricKept_dramBytes false x.addr n s).trans (fabricKept_memUncorr _ _ _ _)).answered id 1 []

theorem fabricKept_writeStored (ecc : Ecc) (bs : List Byte) (x : Txn) (s : State) :
    FabricKept s (memServeWrite ecc x.addr bs x.node x.port (dramBytes true x.addr bs.length s)) :=
  (fabricKept_dramBytes true x.addr bs.length s).trans (fabricKept_memServeWrite _ _ _ _ _ _)

theorem memByte_writeServed (id : Nat) (ecc : Ecc) (bs : List Byte) (x : Txn) (s : State) (a : Nat) :
    memByte a (writeServed id ecc bs x s) =
      if x.addr ≤ a ∧ a < x.addr + bs.length then bs.getD (a - x.addr) 0 else memByte a s := by
  rw [writeServed, memByte_congr (answer_mem _ _ _ _), memByte_memServeWrite, memByte_congr (dramBytes_mem _ _ _ s)]

theorem coldRefused_of {write : Bool} {n : Nat} {x : Txn} (hcold : decide (0x20000000 ≤ x.addr ∧ x.addr < 0x20040000) = true)
    (hno : coldOk x.agent write x.addr n = false) : coldRefused write n x = true := by rw [coldRefused, hcold, hno]; rfl

theorem not_coldRefused_of {write : Bool} {n : Nat} {x : Txn}
    (hok : decide (0x20000000 ≤ x.addr ∧ x.addr < 0x20040000) = false ∨ coldOk x.agent write x.addr n = true) :
    ¬coldRefused write n x = true := by
  rw [coldRefused]
  obtain h | h := hok
  · rw [h]
    exact Bool.false_ne_true
  · rw [h, Bool.not_true, Bool.and_false]
    exact Bool.false_ne_true

theorem refused_memKept (id : Nat) (s : State) : MemKept s (answer id 7 [] s) := ⟨answer_mem _ _ _ s, answer_eng _ _ _ s⟩

theorem opMemoryAccessServed_eng {id : Nat} {x : Txn} {s : State} (h : MayServe id x s) (ecc : Ecc) :
    (opMemoryAccessServed id ecc s).eng = s.eng := by
  cases hb : x.body with
  | read n =>
    rw [opMemoryAccessServed_read h hb]
    split
    · exact answer_eng _ _ _ s
    · exact (readServed_memKept _ _ _ _ s).2
  | write bs =>
    rw [opMemoryAccessServed_write h hb]
    split
    · exact answer_eng _ _ _ s
    · exact (answer_eng _ _ _ _).trans (fabricKept_writeStored ecc bs x s).eng
  | _ =>
    unfold opMemoryAccessServed
    rw [h.found]
    dsimp only
    rw [if_pos h.serves, hb]

theorem memoryAccessServed_effect {id : Nat} {ecc : Ecc} {s : State} {x : Txn} (hrun : Running s) (h : MayServe id x s) :
    Effect (.memoryAccessServed id ecc) s fun t =>
      let cold := decide (0x20000000 ≤ x.addr ∧ x.addr < 0x20040000)
      (∀ n, x.body = .read n → t.mem = s.mem ∧
        (cold = true → coldOk x.agent false x.addr n = false → Answered id 7 [] s t) ∧
        ((cold = false ∨ coldOk x.agent false x.addr n = true) → eccFinds ecc x.addr n s = .clean → Answered id 0 (memRead x.addr n s) s t) ∧
        ((cold = false ∨ coldOk x.agent false x.addr n = true) → eccFinds ecc x.addr n s = .uncorrectable → Answered id 1 [] s t)) ∧
      (∀ bs, x.body = .write bs →
        (cold = true → coldOk x.agent true x.addr bs.length = false → t.mem = s.mem ∧ Answered id 7 [] s t) ∧
        ((cold = false ∨ coldOk x.agent true x.addr bs.length = true) → Answered id 0 [] s t ∧
          ∀ a, memByte a t = if x.addr ≤ a ∧ a < x.addr + bs.length then bs.getD (a - x.addr) 0 else memByte a s)) ∧ t.eng = s.eng := by
  have hrefused : Answered id 7 [] s (answer id 7 [] s) := (FabricKept.refl s).answered id 7 []
  refine ⟨_, exec_of_gated (exec_memoryAccessServed id ecc s) hrun rfl, fun n hb => ?_, fun bs hb => ?_, opMemoryAccessServed_eng h ecc⟩
  · rw [opMemoryAccessServed_read h hb]
    refine ⟨?_, fun hcold hno => ?_, fun hok hfound => ?_, fun hok hfound => ?_⟩
    · split
      · exact (refused_memKept id s).1
      · exact (readServed_memKept _ _ _ _ s).1
    · rw [if_pos (coldRefused_of hcold hno)]
      exact answered_inOrder hrefused
    · rw [if_neg (not_coldRefused_of hok), hfound]
      exact answered_inOrder (answered_readServed_clean id n x s)
    · rw [if_neg (not_coldRefused_of hok), hfound]
      exact answered_inOrder (answered_readServed_uncorrectable id n x s)
  · rw [opMemoryAccessServed_write h hb]
    refine ⟨fun hcold hno => ?_, fun hok => ?_⟩
    · rw [if_pos (coldRefused_of hcold hno)]
      exact ⟨(refused_memKept id s).1, answered_inOrder hrefused⟩
    · rw [if_neg (not_coldRefused_of hok)]
      exact ⟨answered_inOrder ((fabricKept_writeStored ecc bs x s).answered id 0 []), memByte_writeServed id ecc bs x s⟩

/-! ### The DRAM controller (R272) -/

theorem dramTrainingEnd_effect {ch : Nat} {failed : Bool} {s : State} (hrun : Running s) (hch : ch < 4) (h : fld (Reg.DRAM_STATUS ch) 1 0 s = 2) :
    Effect (.dramTrainingEnd ch failed) s fun t => fld (Reg.DRAM_STATUS ch) 1 0 t = (if failed then 3 else 0) ∧
      (∀ off, off ≠ Reg.DRAM_STATUS ch → rd off t = rd off s) ∧ MemKept s t := by
  have hop : opDramTrainingEnd ch failed s = setFld (Reg.DRAM_STATUS ch) 1 0 (if failed then 3 else 0) s := if_pos h
  refine ⟨_, exec_of_gated (exec_dramTrainingEnd ch failed s) hrun (below_of_lt hch), ?_⟩
  rw [hop, inOrder_same (setFld_evt _ _ _ _ s)]
  refine ⟨(fld_setFld_same _ 1 0 _ s (by decide)).trans ?_, fun off hoff => rd_setFld_other hoff _ _ _ s, setFld_mem _ _ _ _ s,
    setFld_eng _ _ _ _ s⟩
  cases failed <;> rfl

theorem dramTemperatureRead_effect {ch : Nat} {hot : Bool} {s : State} (hrun : Running s) (hch : ch < 4) :
    Effect (.dramTemperatureRead ch hot) s fun t => flagOn (Reg.DRAM_STATUS ch) 8 t = hot ∧
      (∀ off, off ≠ Reg.DRAM_STATUS ch → rd off t = rd off s) ∧ MemKept s t := by
  have hop : opDramTemperatureRead ch hot s = setFld (Reg.DRAM_STATUS ch) 8 8 (b2n hot) s := rfl
  have hbit : flagOn (Reg.DRAM_STATUS ch) 8 (setFld (Reg.DRAM_STATUS ch) 8 8 (b2n hot) s) = hot := by
    rw [flagOn, fld_setFld_same _ 8 8 _ s (by decide)]
    cases hot <;> rfl
  refine ⟨_, exec_of_gated (exec_dramTemperatureRead ch hot s) hrun (below_of_lt hch), ?_⟩
  rw [hop, inOrder_same (setFld_evt _ _ _ _ s)]
  exact ⟨hbit, fun off hoff => rd_setFld_other hoff _ _ _ s, setFld_mem _ _ _ _ s, setFld_eng _ _ _ _ s⟩

theorem scrubPass_effect {ch corr : Nat} {s : State} (hrun : Running s) (hch : ch < 4) (hon : flagOn (Reg.DRAM_CFG ch) 16 s = true)
    (hactive : fld (Reg.DRAM_STATUS ch) 1 0 s = 0) :
    Effect (.scrubPass ch corr) s fun t => Counted (Reg.DRAM_SCRUB_PASS_CNT ch) s t ∧
      rd (Reg.DRAM_CORR_CNT ch) t = dw (min ((rd (Reg.DRAM_CORR_CNT ch) s).toNat + corr) 0xFFFFFFFF) ∧ MemKept s t := by
  have hne : Reg.DRAM_SCRUB_PASS_CNT ch ≠ Reg.DRAM_CORR_CNT ch := by simp only [Reg.DRAM_SCRUB_PASS_CNT, Reg.DRAM_CORR_CNT]; omega
  have hop : opScrubPass ch corr s = bump (Reg.DRAM_SCRUB_PASS_CNT ch) (bumpBy (Reg.DRAM_CORR_CNT ch) corr s) := if_pos ⟨hon, hactive⟩
  have hbefore : rd (Reg.DRAM_SCRUB_PASS_CNT ch) (bumpBy (Reg.DRAM_CORR_CNT ch) corr s) = rd (Reg.DRAM_SCRUB_PASS_CNT ch) s :=
    rd_wr_other hne _ s
  refine ⟨_, exec_of_gated (exec_scrubPass ch corr s) hrun (below_of_lt hch), ?_⟩
  rw [hop]
  exact ⟨counted_inOrder (counted_of_bump hbefore rfl), (rd_bump_other hne.symm _).trans (rd_bumpBy_same _ corr s), rfl, rfl⟩

/-- Settles O25: an access served by what it is, and the DRAM controller's own commands. -/
theorem memoryAccesses : Obligations.MemoryAccesses := by
  unfold Obligations.MemoryAccesses
  exact ⟨fun _ _ _ _ hrun hx hstage hmem hmode hfirst => memoryAccessServed_effect hrun ⟨hx, hstage, hmem, hmode, hfirst⟩,
    fun _ _ _ => dramTrainingEnd_effect, fun _ _ _ => dramTemperatureRead_effect, fun _ _ _ => scrubPass_effect⟩

end Sys2Proof.Machine
end

section
/-! The registers of a DMA engine (R292, R293): their offsets lie apart, what an update of an engine leaves of them, and direct writes of them. -/
namespace Sys2Proof.Machine
open Sys2Proof.Safety

/-! ### Offsets -/

theorem dmaBase_aligned (e : Nat) : Reg.dmaBase e % 0x1000 = 0 ∧ 0x300000 ≤ Reg.dmaBase e := by
  unfold Reg.dmaBase
  split <;> omega

/-- A channel's registers lie past those of its engine, 0x40 bytes for each channel. -/
theorem dmaChBase_past (e ch : Nat) : Reg.dmaBase e + 0x100 ≤ Reg.dmaChBase e 0 ∧ Reg.dmaChBase e ch = Reg.dmaChBase e 0 + 0x40 * ch ∧
    Reg.dmaChBase e 0 % 0x40 = 0 := by
  obtain ⟨haligned, -⟩ := dmaBase_aligned e
  unfold Reg.dmaChBase
  split <;> omega

theorem chReg_ne_engReg {j : Nat} (h : j < 0x100) (e ch k : Nat) : Reg.dmaChBase e ch + k ≠ Reg.dmaBase e + j := by
  obtain ⟨hpast, hch, -⟩ := dmaChBase_past e ch
  omega

theorem engReg_ne {j k : Nat} (h : j ≠ k) (e : Nat) : Reg.dmaBase e + j ≠ Reg.dmaBase e + k := by omega

theorem chReg_ne {j k : Nat} (h : j ≠ k) (e ch : Nat) : Reg.dmaChBase e ch + j ≠ Reg.dmaChBase e ch + k := by omega

theorem chReg_ne_chan {i ch : Nat} (h : i ≠ ch) (e k : Nat) : Reg.dmaChBase e i + k ≠ Reg.dmaChBase e ch + k := by
  obtain ⟨-, hi, -⟩ := dmaChBase_past e i
  obtain ⟨-, hch, -⟩ := dmaChBase_past e ch
  omega

theorem engReg_ne_drop (e k : Nat) : Reg.dmaBase e + k ≠ Reg.EVT_DROP_CNT := by
  obtain ⟨-, hge⟩ := dmaBase_aligned e
  simp only [Reg.EVT_DROP_CNT]
  omega

theorem chReg_ne_drop (e ch k : Nat) : Reg.dmaChBase e ch + k ≠ Reg.EVT_DROP_CNT := by
  obtain ⟨hpast, hch, -⟩ := dmaChBase_past e ch
  obtain ⟨-, hge⟩ := dmaBase_aligned e
  simp only [Reg.EVT_DROP_CNT]
  omega

/-! ### Engines and channels put -/

theorem dmaEng_congr {s t : State} (h : t.dma = s.dma) (e : Nat) : dmaEng e t = dmaEng e s := by rw [dmaEng, dmaEng, h]

theorem dmaChan_congr {s t : State} (h : t.dma = s.dma) (e ch : Nat) : dmaChan e ch t = dmaChan e ch s := by
  rw [dmaChan, dmaChan, dmaEng_congr h]

@[simp] theorem dmaEng_setDma_same (e : Nat) (x : DmaEng) (s : State) : dmaEng e (setDma e x s) = x := tabGet_tabSet_same

@[simp] theorem dmaChan_modDmaCh_same (e ch : Nat) (f : DmaChan → DmaChan) (s : State) : dmaChan e ch (modDmaCh e ch f s) = f (dmaChan e ch s) := by
  rw [dmaChan, modDmaCh, dmaEng_setDma_same, tabMod, tabGet_tabSet_same, dmaChan]

theorem dmaState_congr {e ch : Nat} {s t : State} (h : rd (Reg.DMA_CH_STATUS e ch) t = rd (Reg.DMA_CH_STATUS e ch) s) :
    dmaState e ch t = dmaState e ch s := by simp only [dmaState, fld, h]

theorem dmaState_dmaSetState_same (e ch st : Nat) (s : State) : dmaState e ch (dmaSetState e ch st s) = st % 4 :=
  fld_setFld_same _ 1 0 st s (by decide)

theorem dmaState_dmaSetState_other {e i ch : Nat} (h : ch ≠ i) (st : Nat) (s : State) :
    dmaState e ch (dmaSetState e i st s) = dmaState e ch s := fld_setFld_other (chReg_ne_chan h e 0x14) _ _ _ _ _ s

theorem rd_modDmaCh (off e ch : Nat) (f : DmaChan → DmaChan) (s : State) : rd off (modDmaCh e ch f s) = rd off s := rfl

/-- The order of a command's events is none of the registers. -/
theorem rd_inOrder (off : Nat) (r t : State) : rd off (inOrder r t) = rd off t := rfl
theorem dmaState_inOrder (e ch : Nat) (r t : State) : dmaState e ch (inOrder r t) = dmaState e ch t := rfl

/-! ### DMA_STATUS brought in step -/

/-- What no write of a register changes, bringing DMA_STATUS in step leaves. -/
theorem dmaSync_keeps {α : Type} {f : State → α} (hwr : ∀ off v t, f (wr off v t) = f t) (e : Nat) (s : State) : f (dmaSync e s) = f s :=
  (hwr _ _ _).trans (hwr _ _ s)

theorem dmaSync_eng (e : Nat) (s : State) : (dmaSync e s).eng = s.eng := dmaSync_keeps wr_eng e s
theorem dmaSync_noc (e : Nat) (s : State) : (dmaSync e s).noc = s.noc := dmaSync_keeps wr_noc e s
theorem dmaSync_dma (e : Nat) (s : State) : (dmaSync e s).dma = s.dma := dmaSync_keeps wr_dma e s
theorem dmaSync_evt (e : Nat) (s : State) : (dmaSync e s).evt = s.evt := dmaSync_keeps wr_evt e s

theorem memKept_setFld {s t : State} (h : MemKept s t) (off hi lo x : Nat) : MemKept s (setFld off hi lo x t) := h
theorem memKept_modDmaCh {s t : State} (h : MemKept s t) (e ch : Nat) (f : DmaChan → DmaChan) : MemKept s (modDmaCh e ch f t) := h

theorem memKept_dmaSync {e : Nat} {s t : State} (h : MemKept s t) : MemKept s (dmaSync e t) :=
  ⟨(dmaSync_mem e t).trans h.1, (dmaSync_eng e t).trans h.2⟩

theorem rd_dmaSync {e off : Nat} (h : off ≠ Reg.DMA_STATUS e) (s : State) : rd off (dmaSync e s) = rd off s :=
  (rd_setFld_other h _ _ _ _).trans (rd_setFld_other h _ _ _ s)

theorem dmaState_dmaSync (e ch : Nat) (s : State) : dmaState e ch (dmaSync e s) = dmaState e ch s :=
  dmaState_congr (rd_dmaSync (chReg_ne_engReg (by decide) e ch 0x14) s)

theorem dmaHalting_dmaSync (e : Nat) (s : State) : dmaHalting e (dmaSync e s) = dmaHalting e s := by
  have hkept : fld (Reg.DMA_STATUS e) 17 17 (dmaSync e s) = fld (Reg.DMA_STATUS e) 17 17 s :=
    (fld_setFld_disjoint _ 16 16 _ 17 17 _ (by decide) (.inr (by decide))).trans
      (fld_setFld_disjoint _ 6 0 _ 17 17 s (by decide) (.inr (by decide)))
  rw [dmaHalting, dmaHalting, flagOn, flagOn, hkept]

/-- QUIET is what is outstanding and whether a bus error waits. -/
theorem quiet_dmaSync (e : Nat) (s : State) :
    flagOn (Reg.DMA_STATUS e) 16 (dmaSync e s) = (decide (dmaOutstanding e s = 0) && (dmaEng e s).first.isNone) := by
  rw [flagOn, dmaSync, fld_setFld_same _ 16 16 _ _ (by decide)]
  cases decide (dmaOutstanding e s = 0) && (dmaEng e s).first.isNone <;> rfl

/-! ### Direct writes -/

/-- The state once a direct access has drawn its code. -/
def directAnswer (code : Nat) (t : State) : State := { t with csr := { t.csr with respCode := code, respData := dw 0, respEnd := false } }

theorem memKept_directAnswer {code : Nat} {r s t : State} (h : MemKept s t) : MemKept s (inOrder r (directAnswer code t)) := h

/-- What a direct access draws is its code; the registers and the channels are as its effect leaves them. -/
theorem respCode_directAnswer (code : Nat) (r t : State) : (inOrder r (directAnswer code t)).csr.respCode = code := rfl
theorem rd_directAnswer (off code : Nat) (r t : State) : rd off (inOrder r (directAnswer code t)) = rd off t := rfl
theorem dmaState_directAnswer (e ch code : Nat) (r t : State) : dmaState e ch (inOrder r (directAnswer code t)) = dmaState e ch t := rfl
theorem dmaChan_directAnswer (e ch code : Nat) (r t : State) : dmaChan e ch (inOrder r (directAnswer code t)) = dmaChan e ch t := rfl
theorem dmaHalting_directAnswer (e code : Nat) (r t : State) : dmaHalting e (inOrder r (directAnswer code t)) = dmaHalting e t := rfl

/-- A direct write that its register declines is REFUSED. -/
theorem dWrite_refused {src off v : Nat} {wide : Bool} {s : State} (hoff : off < 0x8000000) (ho : Open src off wide true v s)
    (hr : writeRefused src off s = true) : dWrite src off wide v s = directAnswer 7 s := by
  obtain ⟨hguard, hstall, hcode⟩ := ho
  unfold dWrite
  rw [foldMirror_own hoff, direct_open hguard, access_accepted hstall]
  unfold accessNow
  rw [if_pos rfl, csrWrite_refused (.inr hr), accessCode_of_now hcode, if_neg (by decide), if_pos hr]
  rfl

/-- The offset lies in the block of DMA engine `e`, at a register's first byte. -/
structure InDma (e off : Nat) : Prop where
  named : e < 33
  low : Reg.dmaBase e ≤ off
  high : off < Reg.dmaBase e + if e = 32 then 0x8000 else 0x1000
  aligned : off % 4 = 0

theorem InDma.bounds {e off : Nat} (h : InDma e off) :
    0x300000 ≤ off ∧ off < 0x330000 ∧ (off < 0x308000 ∨ 0x310000 ≤ off) ∧ dmaEngineAt off = e := by
  obtain ⟨hnamed, hlow, hhigh, -⟩ := h
  unfold dmaEngineAt
  unfold Reg.dmaBase at hlow hhigh
  by_cases he : e = 32
  · simp only [he, if_true] at hlow hhigh ⊢
    refine ⟨hlow, by omega, .inl hhigh, if_pos (by omega)⟩
  · simp only [he, if_false] at hlow hhigh
    rw [if_neg (by omega)]
    omega

theorem inDma_ctrl {e : Nat} (he : e < 33) : InDma e (Reg.DMA_CTRL e) := by
  have haligned := dmaBase_aligned e
  refine ⟨he, Nat.le_add_right _ _, ?_, ?_⟩
  · simp only [Reg.DMA_CTRL]
    split <;> omega
  · simp only [Reg.DMA_CTRL]
    omega

/-- The registers of the channels the module has lie in their engine's block. -/
theorem inDma_chan {e ch k : Nat} (h : DmaNamed e ch) (hk : k < 0x40) (h4 : k % 4 = 0) : InDma e (Reg.dmaChBase e ch + k) := by
  obtain ⟨he, hch⟩ := h
  have haligned := dmaBase_aligned e
  unfold dmaChans at hch
  refine ⟨he, ?_, ?_, ?_⟩
  all_goals
    unfold Reg.dmaChBase
    split at hch
    · next h32 =>
      simp only [h32, if_true] at haligned ⊢
      omega
    · next h32 =>
      simp only [h32, if_false]
      omega

theorem chan_of_offset {k : Nat} (hk : k < 0x40) (e ch : Nat) : (Reg.dmaChBase e ch + k - Reg.dmaChBase e 0) / 0x40 = ch := by
  obtain ⟨-, hch, -⟩ := dmaChBase_past e ch
  omega

/-- The block of a DMA engine declines only the start of a channel that is not IDLE (R283). -/
theorem writeRefused_dma {e off : Nat} (h : InDma e off) (src : Nat) (s : State) :
    writeRefused src off s = (decide (Reg.dmaChBase e 0 ≤ off) &&
      decide (off / 8 * 8 = Reg.DMA_CH_START e ((off - Reg.dmaChBase e 0) / 0x40)) &&
      decide (dmaState e ((off - Reg.dmaChBase e 0) / 0x40) s ≠ 0)) := by
  obtain ⟨hlow, hhigh, hgap, hengine⟩ := h.bounds
  have hword : off / 4 * 4 = off := by have := h.aligned; omega
  have hmbox : off ≠ Reg.SEC_MBOX_CTRL ∧ ¬0xB01000 ≤ off := by
    simp only [Reg.SEC_MBOX_CTRL]
    omega
  have hpwr : ¬(off = Reg.PWR_CAP ∨ off = Reg.PWR_SHED_CFG ∨ off = Reg.PWR_THERM) := by
    simp only [Reg.PWR_CAP, Reg.PWR_SHED_CFG, Reg.PWR_THERM]
    omega
  have hdram : ¬(0x308000 ≤ off ∧ off < 0x310000) := by omega
  unfold writeRefused
  dsimp only
  rw [hword, hengine]
  simp [hmbox.1, hmbox.2, hpwr, hlow, hhigh, hdram]

theorem writeReg_dma {e off : Nat} (h : InDma e off) (src mask v : Nat) (wide : Bool) (d : RegDesc) (s : State) :
    writeReg src off mask v wide d s = writeDma src off mask v wide d s := by
  obtain ⟨hlow, hhigh, hgap, -⟩ := h.bounds
  unfold writeReg
  rw [if_neg (by omega), if_neg (by omega), if_neg (by omega), if_neg (by omega), if_pos (by omega), if_pos hgap]

end Sys2Proof.Machine
end

section
/-! Starts and stops of a DMA channel (R283, R284, R287). -/
namespace Sys2Proof.Machine
open Sys2Proof.Safety

theorem chanNamed {e ch : Nat} (h : DmaNamed e ch) : (below 33 e && chanOk e ch) = true := by
  obtain ⟨he, hch⟩ := h
  exact Bool.and_eq_true_iff.2 ⟨below_of_lt he, below_of_lt hch⟩

/-! ### Starts (R283, R284) -/

/-- The start of a channel is declined while it is not IDLE. -/
theorem writeRefused_start {e ch : Nat} (h : DmaNamed e ch) (src : Nat) (s : State) :
    writeRefused src (Reg.DMA_CH_START e ch) s = decide (dmaState e ch s ≠ 0) := by
  obtain ⟨-, hch, haligned⟩ := dmaChBase_past e ch
  have hchan : (Reg.DMA_CH_START e ch - Reg.dmaChBase e 0) / 0x40 = ch := chan_of_offset (by decide) e ch
  have hpast : Reg.dmaChBase e 0 ≤ Reg.DMA_CH_START e ch := by simp only [Reg.DMA_CH_START]; omega
  have hword : Reg.DMA_CH_START e ch / 8 * 8 = Reg.DMA_CH_START e ch := by simp only [Reg.DMA_CH_START]; omega
  have hblock : InDma e (Reg.DMA_CH_START e ch) := inDma_chan (k := 8) h (by decide) (by decide)
  rw [writeRefused_dma hblock, hchan, hword, decide_eq_true hpast, decide_eq_true rfl]
  rfl

theorem writeReg_start {e ch : Nat} (h : DmaNamed e ch) (src mask v : Nat) (d : RegDesc) (s : State) :
    writeReg src (Reg.DMA_CH_START e ch) mask v true d s = dmaStart e ch (bitsOf v 47 0) s := by
  obtain ⟨-, hch, -⟩ := dmaChBase_past e ch
  have hblock : InDma e (Reg.DMA_CH_START e ch) := inDma_chan (k := 8) h (by decide) (by decide)
  have hchan : (Reg.DMA_CH_START e ch - Reg.dmaChBase e 0) / 0x40 = ch := chan_of_offset (by decide) e ch
  have hpast : Reg.dmaChBase e 0 ≤ Reg.DMA_CH_START e ch := by simp only [Reg.DMA_CH_START]; omega
  have hctrl : Reg.DMA_CH_START e ch ≠ Reg.DMA_CTRL e := chReg_ne_engReg (by decide) e ch 8
  obtain ⟨-, -, -, hengine⟩ := hblock.bounds
  rw [writeReg_dma hblock]
  unfold writeDma
  dsimp only
  rw [hengine, hchan, if_neg hctrl, if_pos ⟨hpast, rfl⟩, if_pos rfl]

/-- What the channel holds of an activation at `addr`. -/
def dmaActivated (e ch addr : Nat) (s : State) : State :=
  modDmaCh e ch (fun _ => {
    cfg := (rd (Reg.DMA_CH_CFG e ch) s).toNat, tok := (rd (Reg.DMA_CH_TOKEN e ch) s).toNat, round := roundNow s, want := true, fetchAddr := addr }) s

/-- The channel made ACTIVE at `addr`. -/
def dmaStarted (e ch addr : Nat) (s : State) : State :=
  dmaSync e (wr (Reg.DMA_CH_DESC_CNT e ch) 0 (wr (Reg.DMA_CH_CUR e ch) (dw addr) (dmaSetState e ch 1 (dmaActivated e ch addr s))))

theorem opDmaChStart_busy {src e ch addr : Nat} {s : State} (h : DmaNamed e ch) (haddr : addr < 2 ^ 48)
    (hopen : Open src (Reg.DMA_CH_START e ch) true true addr s) (hbusy : dmaState e ch s ≠ 0) :
    opDmaChStart src e ch addr s = directAnswer 7 s := by
  have hblock : InDma e (Reg.DMA_CH_START e ch) := inDma_chan (k := 8) h (by decide) (by decide)
  have hoff : Reg.DMA_CH_START e ch < 0x8000000 := by have := hblock.bounds; omega
  rw [opDmaChStart, Nat.mod_eq_of_lt haddr]
  exact dWrite_refused hoff hopen ((writeRefused_start h src s).trans (decide_eq_true hbusy))

theorem opDmaChStart_idle {src e ch addr : Nat} {s : State} (h : DmaNamed e ch) (haddr : addr < 2 ^ 48)
    (hopen : Open src (Reg.DMA_CH_START e ch) true true addr s) (hidle : dmaState e ch s = 0) :
    opDmaChStart src e ch addr s = if addr % 32 = 0 then directAnswer 0 (dmaStarted e ch addr s) else directAnswer 1 s := by
  have hblock : InDma e (Reg.DMA_CH_START e ch) := inDma_chan (k := 8) h (by decide) (by decide)
  have hoff : Reg.DMA_CH_START e ch < 0x8000000 := by have := hblock.bounds; omega
  have haccepted : writeRefused src (Reg.DMA_CH_START e ch) s = false :=
    (writeRefused_start h src s).trans (decide_eq_false fun hno => hno hidle)
  have hbits : bitsOf (wordValue true addr) 47 0 = addr := Nat.mod_eq_of_lt haddr
  obtain ⟨d, hd⟩ := findReg_wide hopen.2.2
  rw [opDmaChStart, Nat.mod_eq_of_lt haddr, dWrite_open hoff hopen hd haccepted]
  dsimp only
  rw [writeReg_start h, hbits, dmaStart, if_neg (fun hno => hno hidle)]
  by_cases ha : addr % 32 = 0
  · rw [if_neg (fun hno => hno ha), if_pos ha]
    rfl
  · rw [if_pos ha, if_neg ha]
    rfl

theorem dmaState_dmaStarted (e ch addr : Nat) (s : State) : dmaState e ch (dmaStarted e ch addr s) = 1 := by
  have hcnt : Reg.DMA_CH_STATUS e ch ≠ Reg.DMA_CH_DESC_CNT e ch := chReg_ne (by decide) e ch
  have hcur : Reg.DMA_CH_STATUS e ch ≠ Reg.DMA_CH_CUR e ch := chReg_ne (by decide) e ch
  rw [dmaStarted, dmaState_dmaSync, dmaState_congr ((rd_wr_other hcnt _ _).trans (rd_wr_other hcur _ _)), dmaState_dmaSetState_same]

theorem rd_cur_dmaStarted (e ch addr : Nat) (s : State) : rd (Reg.DMA_CH_CUR e ch) (dmaStarted e ch addr s) = dw addr := by
  have hcnt : Reg.DMA_CH_CUR e ch ≠ Reg.DMA_CH_DESC_CNT e ch := chReg_ne (by decide) e ch
  have hstatus : Reg.DMA_CH_CUR e ch ≠ Reg.DMA_STATUS e := chReg_ne_engReg (by decide) e ch 0x18
  rw [dmaStarted, rd_dmaSync hstatus, rd_wr_other hcnt, rd_wr_same]

theorem rd_descCnt_dmaStarted (e ch addr : Nat) (s : State) : rd (Reg.DMA_CH_DESC_CNT e ch) (dmaStarted e ch addr s) = 0 := by
  have hstatus : Reg.DMA_CH_DESC_CNT e ch ≠ Reg.DMA_STATUS e := chReg_ne_engReg (by decide) e ch 0x20
  rw [dmaStarted, rd_dmaSync hstatus, rd_wr_same]

theorem dmaChan_dmaStarted (e ch addr : Nat) (s : State) :
    (dmaChan e ch (dmaStarted e ch addr s)).want = true ∧ (dmaChan e ch (dmaStarted e ch addr s)).fetchAddr = addr := by
  have hdma : (dmaStarted e ch addr s).dma = (dmaActivated e ch addr s).dma := dmaSync_dma e _
  rw [dmaChan_congr hdma, dmaActivated, dmaChan_modDmaCh_same]
  exact ⟨rfl, rfl⟩

theorem dmaStarted_memKept (e ch addr : Nat) (s : State) : MemKept s (dmaStarted e ch addr s) := memKept_dmaSync ⟨rfl, rfl⟩

theorem dmaChStart_effect {src e ch addr : Nat} {s : State} (hrun : Running s) (h : DmaNamed e ch) (haddr : addr < 2 ^ 48)
    (hopen : Open src (Reg.DMA_CH_START e ch) true true addr s) :
    Effect (.dmaChStart src e ch addr) s fun t => MemKept s t ∧
      (dmaState e ch s ≠ 0 → t.csr.respCode = 7 ∧ t.dma = s.dma) ∧
      (dmaState e ch s = 0 → addr % 32 ≠ 0 → t.csr.respCode = 1 ∧ t.dma = s.dma) ∧
      (dmaState e ch s = 0 → addr % 32 = 0 → t.csr.respCode = 0 ∧ dmaState e ch t = 1 ∧ rd (Reg.DMA_CH_CUR e ch) t = dw addr ∧
        rd (Reg.DMA_CH_DESC_CNT e ch) t = 0 ∧ (dmaChan e ch t).want = true ∧ (dmaChan e ch t).fetchAddr = addr) := by
  refine ⟨_, exec_of_gated (exec_dmaChStart src e ch addr s) hrun (chanNamed h), ?_, fun hbusy => ?_, fun hidle ha => ?_, fun hidle ha => ?_⟩
  · by_cases hidle : dmaState e ch s = 0
    · rw [opDmaChStart_idle h haddr hopen hidle]
      split
      · exact memKept_directAnswer (dmaStarted_memKept e ch addr s)
      · exact memKept_directAnswer ⟨rfl, rfl⟩
    · rw [opDmaChStart_busy h haddr hopen hidle]
      exact ⟨rfl, rfl⟩
  · rw [opDmaChStart_busy h haddr hopen hbusy]
    exact ⟨rfl, rfl⟩
  · rw [opDmaChStart_idle h haddr hopen hidle, if_neg ha]
    exact ⟨rfl, rfl⟩
  · rw [opDmaChStart_idle h haddr hopen hidle, if_pos ha]
    rw [dmaState_directAnswer, rd_directAnswer, rd_directAnswer, dmaChan_directAnswer]
    exact ⟨rfl, dmaState_dmaStarted e ch addr s, rd_cur_dmaStarted e ch addr s, rd_descCnt_dmaStarted e ch addr s, dmaChan_dmaStarted e ch addr s⟩

/-! ### Stops (R287) -/

theorem findReg_dmaChCtrl {e ch : Nat} (h : DmaNamed e ch) : ∃ d, findReg (Reg.DMA_CH_CTRL e ch) = some (d, 0) := by
  have hall : ∀ e < 33, ∀ ch < dmaChans e, (findReg (Reg.DMA_CH_CTRL e ch)).map Prod.snd = some 0 := by decide +kernel
  obtain ⟨⟨d, r⟩, hd, rfl⟩ := Option.map_eq_some_iff.1 (hall e h.1 ch h.2)
  exact ⟨d, hd⟩

theorem writeRefused_chCtrl {e ch : Nat} (h : DmaNamed e ch) (src : Nat) (s : State) : writeRefused src (Reg.DMA_CH_CTRL e ch) s = false := by
  obtain ⟨-, hch, haligned⟩ := dmaChBase_past e ch
  have hchan : (Reg.DMA_CH_CTRL e ch - Reg.dmaChBase e 0) / 0x40 = ch := chan_of_offset (by decide) e ch
  have hstart : Reg.DMA_CH_CTRL e ch / 8 * 8 ≠ Reg.DMA_CH_START e ch := by simp only [Reg.DMA_CH_CTRL, Reg.DMA_CH_START]; omega
  have hblock : InDma e (Reg.DMA_CH_CTRL e ch) := inDma_chan (k := 0x10) h (by decide) (by decide)
  rw [writeRefused_dma hblock, hchan, decide_eq_false hstart, Bool.and_false, Bool.false_and]

theorem writeReg_chCtrl {e ch : Nat} (h : DmaNamed e ch) (src mask v : Nat) (wide : Bool) (d : RegDesc) (s : State) :
    writeReg src (Reg.DMA_CH_CTRL e ch) mask v wide d s = (0, if bitOf v 0 then dmaStop e ch s else s) := by
  obtain ⟨-, hch, -⟩ := dmaChBase_past e ch
  have hblock : InDma e (Reg.DMA_CH_CTRL e ch) := inDma_chan (k := 0x10) h (by decide) (by decide)
  have hchan : (Reg.DMA_CH_CTRL e ch - Reg.dmaChBase e 0) / 0x40 = ch := chan_of_offset (by decide) e ch
  have hpast : Reg.dmaChBase e 0 ≤ Reg.DMA_CH_CTRL e ch := by simp only [Reg.DMA_CH_CTRL]; omega
  have hctrl : Reg.DMA_CH_CTRL e ch ≠ Reg.DMA_CTRL e := chReg_ne_engReg (by decide) e ch 0x10
  have hstart : ¬(Reg.dmaChBase e 0 ≤ Reg.DMA_CH_CTRL e ch ∧ Reg.DMA_CH_CTRL e ch = Reg.DMA_CH_START e ch) := fun hno =>
    chReg_ne (by decide) e ch hno.2
  obtain ⟨-, -, -, hengine⟩ := hblock.bounds
  rw [writeReg_dma hblock]
  unfold writeDma
  dsimp only
  rw [hengine, hchan, if_neg hctrl, if_neg hstart, if_pos ⟨hpast, rfl⟩]

theorem opDmaChStop_open {src e ch : Nat} {s : State} (h : DmaNamed e ch) (hopen : Open src (Reg.DMA_CH_CTRL e ch) false true 1 s) :
    opDmaChStop src e ch s = directAnswer 0 (dmaStop e ch s) := by
  have hblock : InDma e (Reg.DMA_CH_CTRL e ch) := inDma_chan (k := 0x10) h (by decide) (by decide)
  have hoff : Reg.DMA_CH_CTRL e ch < 0x8000000 := by have := hblock.bounds; omega
  obtain ⟨d, hd⟩ := findReg_dmaChCtrl h
  rw [opDmaChStop, dWrite_open hoff hopen hd (writeRefused_chCtrl h src s), writeReg_chCtrl h]
  rfl

theorem dmaState_dmaStop (e ch : Nat) (s : State) : dmaState e ch (dmaStop e ch s) = if dmaState e ch s = 1 then 2 else dmaState e ch s := by
  unfold dmaStop
  split
  · rw [dmaState_dmaSync, dmaState_dmaSetState_same]
  · rfl

theorem dmaStop_keeps (e ch : Nat) (s : State) : MemKept s (dmaStop e ch s) ∧ (dmaStop e ch s).noc = s.noc := by
  unfold dmaStop
  split
  · exact ⟨memKept_dmaSync ⟨rfl, rfl⟩, dmaSync_noc e _⟩
  · exact ⟨⟨rfl, rfl⟩, rfl⟩

theorem dmaChStop_effect {src e ch : Nat} {s : State} (hrun : Running s) (h : DmaNamed e ch)
    (hopen : Open src (Reg.DMA_CH_CTRL e ch) false true 1 s) :
    Effect (.dmaChStop src e ch) s fun t => MemKept s t ∧ t.noc = s.noc ∧
      dmaState e ch t = if dmaState e ch s = 1 then 2 else dmaState e ch s := by
  obtain ⟨⟨hmem, heng⟩, hnoc⟩ := dmaStop_keeps e ch s
  refine ⟨_, exec_of_gated (exec_dmaChStop src e ch s) hrun (chanNamed h), ?_⟩
  rw [opDmaChStop_open h hopen]
  exact ⟨⟨hmem, heng⟩, hnoc, dmaState_dmaStop e ch s⟩

end Sys2Proof.Machine
end

section
/-! The end of a stop (R274, R285, R287): what a posted write that the channel's NI takes leaves, and the end of the activation. -/
namespace Sys2Proof.Machine
open Sys2Proof.Safety

/-- An activation that was stopped ends with the channel IDLE and code 4. -/
theorem dmaEnd_stopped (e ch : Nat) (s : State) : dmaEnd e ch 4 s =
    dmaSync e (modDmaCh e ch (fun c => { c with desc := none, want := false, pre := none, phase := 0, data := [] })
      (setFld (Reg.DMA_CH_STATUS e ch) 10 8 4 (dmaSetState e ch 0 s))) := by
  unfold dmaEnd
  dsimp only
  rw [if_neg (by decide), if_neg (by decide)]

theorem dmaEnd_stopped_status (e ch : Nat) (s : State) :
    dmaState e ch (dmaEnd e ch 4 s) = 0 ∧ fld (Reg.DMA_CH_STATUS e ch) 10 8 (dmaEnd e ch 4 s) = 4 := by
  have hne : Reg.DMA_CH_STATUS e ch ≠ Reg.DMA_STATUS e := chReg_ne_engReg (by decide) e ch 0x14
  have hfld : ∀ hi lo, fld (Reg.DMA_CH_STATUS e ch) hi lo (dmaEnd e ch 4 s) =
      fld (Reg.DMA_CH_STATUS e ch) hi lo (setFld (Reg.DMA_CH_STATUS e ch) 10 8 4 (dmaSetState e ch 0 s)) := fun hi lo => by
    rw [dmaEnd_stopped, fld, rd_dmaSync hne, rd_modDmaCh, fld]
  have hstate : fld (Reg.DMA_CH_STATUS e ch) 1 0 (dmaSetState e ch 0 s) = 0 := dmaState_dmaSetState_same e ch 0 s
  rw [dmaState, hfld, hfld, fld_setFld_disjoint _ 10 8 4 1 0 _ (by decide) (.inl (by decide)), fld_setFld_same _ 10 8 4 _ (by decide)]
  exact ⟨hstate, rfl⟩

theorem dmaEnd_stopped_keeps (e ch : Nat) (s : State) : MemKept s (dmaEnd e ch 4 s) ∧ (dmaEnd e ch 4 s).noc = s.noc := by
  have hkept : MemKept s (dmaSetState e ch 0 s) := memKept_setFld ⟨rfl, rfl⟩ _ _ _ _
  rw [dmaEnd_stopped]
  exact ⟨memKept_dmaSync (memKept_modDmaCh (memKept_setFld hkept _ _ _ _) _ _ _),
    (dmaSync_noc e _).trans ((modDmaCh_noc e ch _ _).trans ((setFld_noc _ _ _ _ _).trans (setFld_noc _ _ _ _ s)))⟩

theorem dmaReady_of_pick {e ch : Nat} {pre : Bool} {s : State} (h : dmaPick e pre s = some ch) : dmaReady e ch pre s ≠ 0 := by
  simpa using List.find?_some h

/-- A completion write that is due is what the channel has ready. -/
theorem dmaReady_of_due {e ch : Nat} {pre : Bool} {s : State} (hready : dmaReady e ch pre s ≠ 0) (hdue : dmaDue e ch s ≠ 0) :
    dmaReady e ch pre s = dmaDue e ch s := by
  unfold dmaReady at hready ⊢
  dsimp only at hready ⊢
  by_cases hon : flagOn (Reg.DMA_CTRL e) 0 s = false
  · rw [if_pos hon] at hready
    exact absurd rfl hready
  · rw [if_neg hon, if_pos hdue]

/-- The engine once channel `ch` is served in its turn (R274). -/
def dmaServed (e ch : Nat) (s : State) : State :=
  setDma e { dmaEng e s with rr := tabSet (fun _ => dmaChans e - 1) (dmaEng e s).rr (dmaPrio e ch s) ch } s

/-- STATUS STOPPED goes out in the channel's turn. -/
theorem dmaIssueDue_stopped {e ch : Nat} {s : State} (hready : dmaStopReady e ch s = true) (hfetched : dmaStopFetched e ch s = true)
    (hturn : dmaPick e false s = some ch) : dmaIssueDue e ch s = dmaPutStopped e ch (dmaServed e ch s) := by
  have hdue : dmaDue e ch s = 6 := by
    unfold dmaDue
    rw [hready, hfetched]
    rfl
  have hsix : dmaReady e ch false s = 6 := (dmaReady_of_due (dmaReady_of_pick hturn) (by rw [hdue]; decide)).trans hdue
  rw [dmaIssueDue, if_pos ⟨by rw [hdue]; decide, hturn⟩, dmaIssue, hsix]
  rfl

/-- The NI's count of its requests is no register of a DMA engine. -/
theorem niOutstanding_ne {off : Nat} (h : off % 0x40 ≠ 0x10) (n p : Nat) : off ≠ Reg.NI_OUTSTANDING n p := by
  simp only [Reg.NI_OUTSTANDING]
  omega

theorem dmaStatus_offset (e : Nat) : Reg.DMA_STATUS e % 0x40 = 4 := by
  have := dmaBase_aligned e
  simp only [Reg.DMA_STATUS]
  omega

/-- A packet that its NI sends writes the NI's count of requests alone. -/
theorem rd_send_sent {ag : Agent} {cls addr off : Nat} {body : Payload} {s : State} (ho : originCode (srcOf ag s) cls addr body s = none)
    (hoff : off % 0x40 ≠ 0x10) (use : Nat) (posted aw : Bool) : rd off (send ag use cls addr body posted aw s) = rd off s := by
  unfold send
  dsimp only
  rw [ho]
  exact (rd_setFld_other (niOutstanding_ne hoff _ _) _ _ _ _).trans (rd_congr (enqueue_csr _ s) off)

/-- The bytes a channel has sent are no part of an engine's status. -/
theorem dmaHalting_dmaSent (e : Nat) (x : Txn) (s : State) : dmaHalting e (dmaSent x s) = dmaHalting e s := by
  have hbytes : ∀ f ch, Reg.DMA_STATUS e ≠ Reg.DMA_CH_BYTES f ch := fun f ch => by
    have hstatus := dmaStatus_offset e
    obtain ⟨-, hch, haligned⟩ := dmaChBase_past f ch
    simp only [Reg.DMA_CH_BYTES]
    omega
  have hrd : rd (Reg.DMA_STATUS e) (dmaSent x s) = rd (Reg.DMA_STATUS e) s := by
    unfold dmaSent
    split
    · split
      · exact rd_wr_other (hbytes _ _) _ s
      · rfl
    · rfl
  simp only [dmaHalting, flagOn, fld, hrd]

/-- What a posted write that the channel's NI takes leaves: the packet in the fabric, and no bus error. -/
structure WriteSent (e ch a : Nat) (bs : List Byte) (s t : State) : Prop where
  kept : MemKept s t
  halting : dmaHalting e t = dmaHalting e s
  packet : ∃ y ∈ t.noc.txns, y.agent = .dma e ch ∧ y.cls = 2 ∧ y.addr = a ∧ y.body = .write bs ∧ y.posted = true

theorem dmaSent_eng (x : Txn) (s : State) : (dmaSent x s).eng = s.eng := by
  unfold dmaSent
  split
  · split <;> rfl
  · rfl

theorem writeSent_postWrite {e ch a : Nat} {bs : List Byte} {s : State} (ho : originCode (srcOf (.dma e ch) s) 2 a (.write bs) s = none)
    (use : Nat) (aw : Bool) : WriteSent e ch a bs s (postWrite (.dma e ch) use a bs aw s) := by
  obtain ⟨y, htxns, -, hagent, -, hcls, haddr, hbody, hposted⟩ :=
    send_txns (ag := .dma e ch) (use := use) (posted := true) (aw := aw) (.inr ho)
  have hstatus : Reg.DMA_STATUS e % 0x40 ≠ 0x10 := by rw [dmaStatus_offset]; decide
  refine ⟨⟨send_mem _ _ _ _ _ _ _ s, send_eng _ _ _ _ _ _ _ s⟩, ?_, y, ?_, hagent, hcls, haddr, hbody, hposted⟩
  · simp only [dmaHalting, flagOn, fld, postWrite, rd_send_sent ho hstatus]
  · rw [postWrite, htxns]
    exact List.mem_append_right _ List.mem_cons_self

theorem WriteSent.dmaSent {e ch a : Nat} {bs : List Byte} {s t : State} (h : WriteSent e ch a bs s t) (x : Txn) :
    WriteSent e ch a bs s (dmaSent x t) := by
  obtain ⟨⟨hmem, heng⟩, hhalting, hpacket⟩ := h
  exact ⟨⟨(dmaSent_mem x t).trans hmem, (dmaSent_eng x t).trans heng⟩, (dmaHalting_dmaSent e x t).trans hhalting, by rwa [dmaSent_noc]⟩

theorem WriteSent.dmaSync {e ch a : Nat} {bs : List Byte} {s t : State} (h : WriteSent e ch a bs s t) : WriteSent e ch a bs s (dmaSync e t) :=
  ⟨memKept_dmaSync h.kept, (dmaHalting_dmaSync e t).trans h.halting, by
    rw [dmaSync_noc]
    exact h.packet⟩

theorem writeSent_dmaWrite {e ch a : Nat} {bs : List Byte} {s : State} (hcsr : inCsr a = false)
    (ho : originCode (srcOf (.dma e ch) s) 2 a (.write bs) s = none) (use : Nat) : WriteSent e ch a bs s (dmaWrite e ch use a bs s) := by
  have hsent := writeSent_postWrite ho use (bitOf (dmaChan e ch s).cfg 26)
  unfold dmaWrite
  dsimp only
  rw [if_neg (by rw [hcsr]; decide), ho]
  split
  · next hno _ => nomatch hno
  · refine WriteSent.dmaSync ?_
    split
    · exact hsent
    · exact hsent.dmaSent _
  · exact hsent.dmaSync

/-- The turn of a channel is none of what its NI gives its writes. -/
theorem originCode_dmaServed (e ch src cls a : Nat) (body : Payload) (s : State) :
    originCode src cls a body (dmaServed e ch s) = originCode src cls a body s := rfl

/-- Channel `ch` is STOPPING, nothing it read is outstanding, and a STATUS it owes may go out now. -/
structure MayStop (e ch : Nat) (s : State) : Prop where
  ready : dmaStopReady e ch s = true
  running : dmaHalting e s = false
  turn : dmaStopFetched e ch s = true → dmaPick e false s = some ch ∧ inCsr (dmaCur e ch s + 28) = false ∧
    originCode (srcOf (.dma e ch) s) 2 (dmaCur e ch s + 28) (.write (leBytes 4 (dmaStatusWord ch 4))) s = none

theorem dmaStopReady_of {e ch : Nat} {s : State} (hstate : dmaState e ch s = 2) (hhalting : dmaHalting e s = false)
    (hphase : (dmaChan e ch s).phase ≤ 2) (hdesc : openUse (.dma e ch) useDesc s = false) (hread : openUse (.dma e ch) useRead s = false)
    (hwrite : unaccepted (.dma e ch) useWrite s = false) : dmaStopReady e ch s = true := by
  rw [dmaStopReady, hhalting, hdesc, hread, hwrite, decide_eq_true ⟨hstate, hphase⟩]
  rfl

/-- STATUS STOPPED is written in the channel's turn, and the activation ends. -/
theorem opDmaStopComplete_fetched {e ch : Nat} {s : State} (h : MayStop e ch s) (hfetched : dmaStopFetched e ch s = true) :
    ∃ u, WriteSent e ch (dmaCur e ch s + 28) (leBytes 4 (dmaStatusWord ch 4)) s u ∧ opDmaStopComplete e ch s = dmaEnd e ch 4 u := by
  obtain ⟨hturn, hcsr, ho⟩ := h.turn hfetched
  have hsent : WriteSent e ch (dmaCur e ch s + 28) (leBytes 4 (dmaStatusWord ch 4)) (dmaServed e ch s) _ :=
    writeSent_dmaWrite hcsr ((originCode_dmaServed e ch _ _ _ _ s).trans ho) useStop
  have hruns : dmaHalting e (dmaWrite e ch useStop (dmaCur e ch s + 28) (leBytes 4 (dmaStatusWord ch 4)) (dmaServed e ch s)) = false :=
    hsent.halting.trans h.running
  refine ⟨_, ⟨hsent.kept, hruns.trans h.running.symm, hsent.packet⟩, ?_⟩
  rw [opDmaStopComplete, if_pos h.ready, if_pos hfetched, dmaIssueDue_stopped h.ready hfetched hturn]
  exact if_neg (Bool.eq_false_iff.1 hruns)

theorem opDmaStopComplete_unfetched {e ch : Nat} {s : State} (h : MayStop e ch s) (hfetched : dmaStopFetched e ch s = false) :
    opDmaStopComplete e ch s = dmaEnd e ch 4 s := by
  rw [opDmaStopComplete, if_pos h.ready, hfetched]
  rfl

theorem dmaStopComplete_effect {e ch : Nat} {s : State} (hrun : Running s) (hnamed : DmaNamed e ch) (h : MayStop e ch s) :
    Effect (.dmaStopComplete e ch) s fun t => MemKept s t ∧ dmaState e ch t = 0 ∧ fld (Reg.DMA_CH_STATUS e ch) 10 8 t = 4 ∧
      (dmaStopFetched e ch s = true → Posted (.dma e ch) (dmaCur e ch s + 28) (leBytes 4 (0x80000000 + ch * 256 + 4)) s t) := by
  refine ⟨_, exec_of_gated (exec_dmaStopComplete e ch s) hrun (chanNamed hnamed), ?_⟩
  cases hfetched : dmaStopFetched e ch s with
  | false =>
    obtain ⟨hidle, hcode⟩ := dmaEnd_stopped_status e ch s
    obtain ⟨⟨hmem, heng⟩, -⟩ := dmaEnd_stopped_keeps e ch s
    rw [opDmaStopComplete_unfetched h hfetched]
    rw [dmaState_inOrder, fld_inOrder]
    exact ⟨memKept_inOrder hmem heng, hidle, hcode, fun hno => nomatch hno⟩
  | true =>
    obtain ⟨u, hsent, hop⟩ := opDmaStopComplete_fetched h hfetched
    obtain ⟨hidle, hcode⟩ := dmaEnd_stopped_status e ch u
    obtain ⟨⟨hmem, heng⟩, hnoc⟩ := dmaEnd_stopped_keeps e ch u
    obtain ⟨hmemU, hengU⟩ := hsent.kept
    rw [hop, dmaState_inOrder, fld_inOrder]
    refine ⟨memKept_inOrder (hmem.trans hmemU) (heng.trans hengU), hidle, hcode, fun _ _ _ => ?_⟩
    obtain ⟨y, hy, hpacket⟩ := hsent.packet
    exact ⟨y, by rwa [inOrder_noc, hnoc], hpacket⟩

end Sys2Proof.Machine
end

section
/-! Bus errors at their end and their clearing (R288), and O26. -/
namespace Sys2Proof.Machine
open Sys2Proof.Safety

/-! ### DMA_QUIET -/

/-- What each of a list of updates makes of the view of one key, where the others leave it and a second time changes nothing. -/
theorem forEach_at {α : Type} {view : State → α} {f : Nat → State → State} {g : α → α} {k : Nat}
    (hsame : ∀ t, view (f k t) = g (view t)) (hother : ∀ i t, i ≠ k → view (f i t) = view t) (hg : ∀ x, g (g x) = g x)
    {l : List Nat} (hk : k ∈ l) (s : State) : view (forEach l f s) = g (view s) := by
  have hview : ∀ l s, view (forEach l f s) = if k ∈ l then g (view s) else view s := fun l => by
    induction l with
    | nil => exact fun s => rfl
    | cons i l ih =>
      intro s
      have hstep : view (forEach (i :: l) f s) = if k ∈ l then g (view (f i s)) else view (f i s) := ih (f i s)
      rw [hstep]
      by_cases hi : i = k
      · subst hi
        rw [if_pos List.mem_cons_self, hsame, hg, ite_self]
      · have hmem : k ∈ i :: l ↔ k ∈ l := ⟨fun h => (List.mem_cons.1 h).resolve_left (Ne.symm hi), List.mem_cons_of_mem i⟩
        rw [hother i s hi]
        simp only [hmem]
  rw [hview, if_pos hk]

/-- A channel halted, with code 7 where its activation was under way. -/
def dmaHalted (e ch : Nat) (t : State) : State :=
  dmaSetState e ch 3 (if dmaState e ch t = 1 ∨ dmaState e ch t = 2 then setFld (Reg.DMA_CH_STATUS e ch) 10 8 7 t else t)

/-- The engine with every channel halted and its first error forgotten. -/
def dmaAllHalted (e : Nat) (s : State) : State :=
  forEach (upto (dmaChans e)) (dmaHalted e) (setDma e { dmaEng e s with first := none, chans := [] } s)

/-- The error recorded and raised. -/
def dmaErrNoted (e a kind code : Nat) (t : State) : State :=
  flagEvent (Reg.DMA_EVT_STATUS e) 1 0x125 (e * 64) (wr (Reg.DMA_BUS_ERR_INFO e) (dw (kind * 256 + code)) (wr (Reg.DMA_BUS_ERR_ADDR e) (dw a) t))

theorem opDmaQuiet_quiet {e a kind code : Nat} {s : State} (hfirst : (dmaEng e s).first = some (a, kind, code))
    (hout : dmaOutstanding e s = 0) (hfinishing : dmaFinishing e s = false) :
    opDmaQuiet e s = dmaSync e (dmaErrNoted e a kind code (dmaAllHalted e s)) := by
  unfold opDmaQuiet
  rw [hfirst]
  exact if_pos ⟨hout, hfinishing⟩

theorem dmaState_dmaHalted_other {e i ch : Nat} (h : ch ≠ i) (t : State) : dmaState e ch (dmaHalted e i t) = dmaState e ch t := by
  rw [dmaHalted, dmaState_dmaSetState_other h]
  split
  · exact fld_setFld_other (chReg_ne_chan h e 0x14) _ _ _ _ _ t
  · rfl

theorem dmaState_dmaAllHalted {e ch : Nat} (h : ch < dmaChans e) (s : State) : dmaState e ch (dmaAllHalted e s) = 3 :=
  forEach_at (view := dmaState e ch) (f := dmaHalted e) (g := fun _ => 3) (fun _ => dmaState_dmaSetState_same e ch 3 _)
    (fun _ t hi => dmaState_dmaHalted_other hi.symm t) (fun _ => rfl) (List.mem_range.2 h) _

/-- What no write of a register changes, the halting of the channels leaves as forgetting the error does. -/
theorem dmaAllHalted_keeps {α : Type} {view : State → α} (hwr : ∀ off v t, view (wr off v t) = view t) (e : Nat) (s : State) :
    view (dmaAllHalted e s) = view (setDma e { dmaEng e s with first := none, chans := [] } s) := by
  refine forEach_keeps (fun ch t => ?_) _ _
  rw [dmaHalted]
  split
  · exact (hwr _ _ _).trans (hwr _ _ t)
  · exact hwr _ _ t

theorem dmaAllHalted_eng (e : Nat) (s : State) : (dmaAllHalted e s).eng = s.eng := dmaAllHalted_keeps wr_eng e s
theorem dmaAllHalted_noc (e : Nat) (s : State) : (dmaAllHalted e s).noc = s.noc := dmaAllHalted_keeps wr_noc e s
theorem dmaAllHalted_evt (e : Nat) (s : State) : (dmaAllHalted e s).evt = s.evt := dmaAllHalted_keeps wr_evt e s

theorem dmaErrNoted_eng (e a kind code : Nat) (t : State) : (dmaErrNoted e a kind code t).eng = t.eng := flagEvent_eng _ _ _ _ _
theorem dmaErrNoted_noc (e a kind code : Nat) (t : State) : (dmaErrNoted e a kind code t).noc = t.noc := flagEvent_noc _ _ _ _ _
theorem dmaErrNoted_dma (e a kind code : Nat) (t : State) : (dmaErrNoted e a kind code t).dma = t.dma := flagEvent_dma _ _ _ _ _

/-- No error waits once it is recorded. -/
theorem first_dmaErrNoted (e a kind code : Nat) (s : State) : (dmaEng e (dmaErrNoted e a kind code (dmaAllHalted e s))).first = none := by
  have hdma : (dmaErrNoted e a kind code (dmaAllHalted e s)).dma = (setDma e { dmaEng e s with first := none, chans := [] } s).dma :=
    (dmaErrNoted_dma _ _ _ _ _).trans (dmaAllHalted_keeps wr_dma e s)
  rw [dmaEng_congr hdma, dmaEng_setDma_same]

theorem dmaOutstanding_dmaErrNoted (e a kind code : Nat) (s : State) :
    dmaOutstanding e (dmaErrNoted e a kind code (dmaAllHalted e s)) = dmaOutstanding e s := by
  rw [dmaOutstanding, dmaErrNoted_noc, dmaAllHalted_noc, dmaOutstanding]

theorem flagOn_evt_dmaErrNoted (e a kind code : Nat) (t : State) : flagOn (Reg.DMA_EVT_STATUS e) 1 (dmaErrNoted e a kind code t) = true :=
  flagOn_flagEvent (engReg_ne_drop e 0x14) (by decide) _ _ _

theorem dmaState_dmaErrNoted (e ch a kind code : Nat) (t : State) : dmaState e ch (dmaErrNoted e a kind code t) = dmaState e ch t := by
  have hevt : Reg.DMA_CH_STATUS e ch ≠ Reg.DMA_EVT_STATUS e := chReg_ne_engReg (by decide) e ch 0x14
  have hdrop : Reg.DMA_CH_STATUS e ch ≠ Reg.EVT_DROP_CNT := chReg_ne_drop e ch 0x14
  have hinfo : Reg.DMA_CH_STATUS e ch ≠ Reg.DMA_BUS_ERR_INFO e := chReg_ne_engReg (by decide) e ch 0x14
  have haddr : Reg.DMA_CH_STATUS e ch ≠ Reg.DMA_BUS_ERR_ADDR e := chReg_ne_engReg (by decide) e ch 0x14
  exact dmaState_congr ((rd_flagEvent hevt hdrop _ _ _ _).trans ((rd_wr_other hinfo _ _).trans (rd_wr_other haddr _ t)))

theorem rd_busErr_dmaErrNoted (e a kind code : Nat) (t : State) :
    rd (Reg.DMA_BUS_ERR_ADDR e) (dmaErrNoted e a kind code t) = dw a ∧
    rd (Reg.DMA_BUS_ERR_INFO e) (dmaErrNoted e a kind code t) = dw (kind * 256 + code) := by
  have haddrEvt : Reg.DMA_BUS_ERR_ADDR e ≠ Reg.DMA_EVT_STATUS e := engReg_ne (by decide) e
  have haddrDrop : Reg.DMA_BUS_ERR_ADDR e ≠ Reg.EVT_DROP_CNT := engReg_ne_drop e 8
  have haddrInfo : Reg.DMA_BUS_ERR_ADDR e ≠ Reg.DMA_BUS_ERR_INFO e := engReg_ne (by decide) e
  have hinfoEvt : Reg.DMA_BUS_ERR_INFO e ≠ Reg.DMA_EVT_STATUS e := engReg_ne (by decide) e
  have hinfoDrop : Reg.DMA_BUS_ERR_INFO e ≠ Reg.EVT_DROP_CNT := engReg_ne_drop e 0x10
  exact ⟨(rd_flagEvent haddrEvt haddrDrop _ _ _ _).trans ((rd_wr_other haddrInfo _ _).trans (rd_wr_same _ _ _)),
    (rd_flagEvent hinfoEvt hinfoDrop _ _ _ _).trans (rd_wr_same _ _ _)⟩

theorem raised_dmaErrNoted {s t : State} (h : t.evt = s.evt) (e a kind code : Nat) :
    Raised 0x125 (e * 64) s (inOrder s (dmaErrNoted e a kind code t)) := by
  have hwritten : (wr (Reg.DMA_BUS_ERR_INFO e) (dw (kind * 256 + code)) (wr (Reg.DMA_BUS_ERR_ADDR e) (dw a) t)).evt = s.evt := h
  exact raised_flagEvent hwritten _ _ _ _

/-- An event raised stands in the router whatever else changed after it. -/
theorem raised_of_evt {num inst : Nat} {s t u : State} (h : u.evt = t.evt) (hraised : Raised num inst s (inOrder s t)) :
    Raised num inst s (inOrder s u) := by
  have hevt : (inOrder s u).evt = (inOrder s t).evt := by simp only [inOrder, h]
  intro hroom
  rw [hevt]
  exact hraised hroom

theorem dmaQuiet_effect {e a kind code : Nat} {s : State} (hrun : Running s) (he : e < 33) (hfirst : (dmaEng e s).first = some (a, kind, code))
    (hout : dmaOutstanding e s = 0) (hfinishing : dmaFinishing e s = false) :
    Effect (.dmaQuiet e) s fun t => MemKept s t ∧ (∀ ch, ch < dmaChans e → dmaState e ch t = 3) ∧ rd (Reg.DMA_BUS_ERR_ADDR e) t = dw a ∧
      rd (Reg.DMA_BUS_ERR_INFO e) t = dw (kind * 256 + code) ∧ flagOn (Reg.DMA_EVT_STATUS e) 1 t = true ∧
      flagOn (Reg.DMA_STATUS e) 16 t = true ∧ Raised 0x125 (e * 64) s t := by
  have heng : (opDmaQuiet e s).eng = s.eng := by
    rw [opDmaQuiet_quiet hfirst hout hfinishing, dmaSync_eng, dmaErrNoted_eng, dmaAllHalted_eng]
  have haddr : Reg.DMA_BUS_ERR_ADDR e ≠ Reg.DMA_STATUS e := engReg_ne (by decide) e
  have hinfo : Reg.DMA_BUS_ERR_INFO e ≠ Reg.DMA_STATUS e := engReg_ne (by decide) e
  have hevt : Reg.DMA_EVT_STATUS e ≠ Reg.DMA_STATUS e := engReg_ne (by decide) e
  obtain ⟨herrAddr, herrInfo⟩ := rd_busErr_dmaErrNoted e a kind code (dmaAllHalted e s)
  refine ⟨_, exec_of_gated (exec_dmaQuiet e s) hrun (below_of_lt he), memKept_inOrder (opDmaQuiet_mem e s) heng, ?_⟩
  rw [opDmaQuiet_quiet hfirst hout hfinishing, rd_inOrder, rd_inOrder, rd_dmaSync haddr, rd_dmaSync hinfo]
  refine ⟨fun ch hch => ?_, herrAddr, herrInfo, ?_, ?_, ?_⟩
  · rw [dmaState_inOrder, dmaState_dmaSync, dmaState_dmaErrNoted]
    exact dmaState_dmaAllHalted hch s
  · rw [flagOn, fld, rd_inOrder, rd_dmaSync hevt]
    exact flagOn_evt_dmaErrNoted e a kind code _
  · have hquiet := quiet_dmaSync e (dmaErrNoted e a kind code (dmaAllHalted e s))
    rw [dmaOutstanding_dmaErrNoted, hout, first_dmaErrNoted] at hquiet
    exact flagOn_inOrder hquiet
  · exact raised_of_evt (dmaSync_evt e _) (raised_dmaErrNoted (dmaAllHalted_evt e s) e a kind code)

/-! ### BUS_CLR -/

theorem findReg_dmaCtrl {e : Nat} (he : e < 33) : ∃ d, findReg (Reg.DMA_CTRL e) = some (d, 0) := by
  have hall : ∀ e < 33, (findReg (Reg.DMA_CTRL e)).map Prod.snd = some 0 := by decide +kernel
  obtain ⟨⟨d, r⟩, hd, rfl⟩ := Option.map_eq_some_iff.1 (hall e he)
  exact ⟨d, hd⟩

theorem writeRefused_dmaCtrl {e : Nat} (he : e < 33) (src : Nat) (s : State) : writeRefused src (Reg.DMA_CTRL e) s = false := by
  obtain ⟨hpast, -, -⟩ := dmaChBase_past e 0
  have hbefore : ¬Reg.dmaChBase e 0 ≤ Reg.DMA_CTRL e := by simp only [Reg.DMA_CTRL]; omega
  rw [writeRefused_dma (inDma_ctrl he), decide_eq_false hbefore, Bool.false_and, Bool.false_and]

/-- A write of DMA_CTRL with BUS_CLR set clears the bus error once its fields are written; one that is refused writes nothing. -/
theorem writeReg_busClr {e v : Nat} (he : e < 33) (hv : bitOf v 1 = true) (src mask : Nat) (wide : Bool) (d : RegDesc) (s : State) :
    writeReg src (Reg.DMA_CTRL e) mask v wide d s =
      (let r := dmaBusClr e (writePlain src (Reg.DMA_CTRL e) mask v d s)
       if r.1 = 0 then r else (r.1, s)) := by
  obtain ⟨-, -, -, hengine⟩ := (inDma_ctrl he).bounds
  rw [writeReg_dma (inDma_ctrl he)]
  unfold writeDma
  dsimp only
  rw [hengine, if_pos rfl, hv, if_pos rfl]

/-- Of the state only the CSR file changed, and of the registers only DMA_CTRL of engine `e`. -/
structure CtrlWritten (e : Nat) (s u : State) : Prop where
  rest : u = { s with csr := u.csr }
  reg : ∀ off, off ≠ Reg.DMA_CTRL e → rd off u = rd off s

theorem ctrlWritten_writePlain (e src mask v : Nat) (d : RegDesc) (s : State) : CtrlWritten e s (writePlain src (Reg.DMA_CTRL e) mask v d s) :=
  ⟨writePlain_eq src _ mask v d s, fun off h => (rd_writePlain off src _ mask v d s).trans (rd_writeLive_other h mask v d s)⟩

theorem CtrlWritten.memKept {e : Nat} {s u : State} (h : CtrlWritten e s u) : MemKept s u := by
  rw [h.rest]
  exact ⟨rfl, rfl⟩

theorem CtrlWritten.flagOn_status {e : Nat} {s u : State} (h : CtrlWritten e s u) (i : Nat) :
    flagOn (Reg.DMA_STATUS e) i u = flagOn (Reg.DMA_STATUS e) i s := by
  have hne : Reg.DMA_STATUS e ≠ Reg.DMA_CTRL e := engReg_ne (by decide) e
  rw [flagOn, flagOn, fld, fld, h.reg _ hne]

theorem CtrlWritten.dmaState {e : Nat} {s u : State} (h : CtrlWritten e s u) (ch : Nat) : dmaState e ch u = dmaState e ch s :=
  dmaState_congr (h.reg _ (chReg_ne_engReg (by decide) e ch 0x14))

theorem opBusClr_open {src e : Nat} {en : Bool} {s : State} (he : e < 33)
    (hopen : Open src (Reg.DMA_CTRL e) false true (2 + b2n en) s) :
    ∃ u, CtrlWritten e s u ∧
      opBusClr src e en s = if (dmaBusClr e u).1 = 0 then directAnswer 0 (dmaBusClr e u).2 else directAnswer (dmaBusClr e u).1 s := by
  have hoff : Reg.DMA_CTRL e < 0x8000000 := by have := (inDma_ctrl he).bounds; omega
  have hbit : bitOf (wordValue false (2 + b2n en)) 1 = true := by cases en <;> decide
  obtain ⟨d, hd⟩ := findReg_dmaCtrl he
  refine ⟨_, ctrlWritten_writePlain e src (wordMask false) (wordValue false (2 + b2n en)) d s, ?_⟩
  rw [opBusClr, dWrite_open hoff hopen hd (writeRefused_dmaCtrl he src s)]
  dsimp only
  rw [writeReg_busClr he hbit]
  dsimp only
  split
  · next h0 =>
    rw [h0]
    rfl
  · rfl

/-- A channel that a bus error halted is IDLE again. -/
def dmaResumed (e ch : Nat) (t : State) : State := if dmaState e ch t = 3 then dmaSetState e ch 0 t else t

/-- The engine with its bus error cleared. -/
def dmaCleared (e : Nat) (s : State) : State := dmaSync e (setFld (Reg.DMA_STATUS e) 17 17 0 (forEach (upto (dmaChans e)) (dmaResumed e) s))

theorem dmaBusClr_running {e : Nat} {s : State} (h : dmaHalting e s = false) : dmaBusClr e s = (0, s) := by
  rw [dmaBusClr, h]
  rfl

theorem dmaBusClr_halted {e : Nat} {s : State} (h : dmaHalting e s = true) :
    dmaBusClr e s = if flagOn (Reg.DMA_STATUS e) 16 s then (0, dmaCleared e s) else (7, s) := by
  rw [dmaBusClr, h]
  rfl

theorem dmaState_dmaResumed_same (e ch : Nat) (t : State) :
    dmaState e ch (dmaResumed e ch t) = if dmaState e ch t = 3 then 0 else dmaState e ch t := by
  unfold dmaResumed
  split
  · exact dmaState_dmaSetState_same e ch 0 t
  · rfl

theorem dmaState_dmaResumed_other {e i ch : Nat} (h : ch ≠ i) (t : State) : dmaState e ch (dmaResumed e i t) = dmaState e ch t := by
  unfold dmaResumed
  split
  · exact dmaState_dmaSetState_other h 0 t
  · rfl

theorem dmaState_dmaCleared {e ch : Nat} {s : State} (hch : ch < dmaChans e) (h : dmaState e ch s = 3) : dmaState e ch (dmaCleared e s) = 0 := by
  have hne : Reg.DMA_CH_STATUS e ch ≠ Reg.DMA_STATUS e := chReg_ne_engReg (by decide) e ch 0x14
  have hall : dmaState e ch (forEach (upto (dmaChans e)) (dmaResumed e) s) = if dmaState e ch s = 3 then 0 else dmaState e ch s :=
    forEach_at (view := dmaState e ch) (g := fun x => if x = 3 then 0 else x) (dmaState_dmaResumed_same e ch)
      (fun _ t hi => dmaState_dmaResumed_other hi.symm t) (fun x => by by_cases hx : x = 3 <;> simp [hx]) (List.mem_range.2 hch) s
  rw [dmaCleared, dmaState_dmaSync, dmaState_congr (rd_setFld_other hne _ _ _ _), hall, if_pos h]

theorem dmaHalting_dmaCleared (e : Nat) (s : State) : dmaHalting e (dmaCleared e s) = false := by
  rw [dmaCleared, dmaHalting_dmaSync, dmaHalting, flagOn, fld_setFld_same _ 17 17 0 _ (by decide)]
  rfl

theorem dmaCleared_memKept (e : Nat) (s : State) : MemKept s (dmaCleared e s) := by
  have hresumed : ∀ {α : Type} {view : State → α}, (∀ off v t, view (wr off v t) = view t) →
      view (forEach (upto (dmaChans e)) (dmaResumed e) s) = view s := fun hwr => forEach_keeps (fun ch t => by
    unfold dmaResumed
    split
    · exact hwr _ _ t
    · rfl) _ s
  exact memKept_dmaSync (memKept_setFld ⟨hresumed wr_mem, hresumed wr_eng⟩ _ _ _ _)

theorem busClr_effect {src e : Nat} {en : Bool} {s : State} (hrun : Running s) (he : e < 33)
    (hopen : Open src (Reg.DMA_CTRL e) false true (2 + b2n en) s) :
    Effect (.busClr src e en) s fun t => MemKept s t ∧
      (dmaHalting e s = true → flagOn (Reg.DMA_STATUS e) 16 s = true → t.csr.respCode = 0 ∧ dmaHalting e t = false ∧
        ∀ ch, ch < dmaChans e → dmaState e ch s = 3 → dmaState e ch t = 0) ∧
      (dmaHalting e s = true → flagOn (Reg.DMA_STATUS e) 16 s = false → t.csr.respCode = 7 ∧ dmaHalting e t = true) := by
  obtain ⟨u, hu, hop⟩ := opBusClr_open he hopen
  have hhalting : dmaHalting e u = dmaHalting e s := hu.flagOn_status 17
  have hquiet : flagOn (Reg.DMA_STATUS e) 16 u = flagOn (Reg.DMA_STATUS e) 16 s := hu.flagOn_status 16
  have hcleared : dmaHalting e s = true → flagOn (Reg.DMA_STATUS e) 16 s = true → opBusClr src e en s = directAnswer 0 (dmaCleared e u) :=
    fun hh hq => by rw [hop, dmaBusClr_halted (hhalting.trans hh), hquiet, hq]; rfl
  have hrefused : dmaHalting e s = true → flagOn (Reg.DMA_STATUS e) 16 s = false → opBusClr src e en s = directAnswer 7 s :=
    fun hh hq => by rw [hop, dmaBusClr_halted (hhalting.trans hh), hquiet, hq]; rfl
  refine ⟨_, exec_of_gated (exec_busClr src e en s) hrun (below_of_lt he), ?_, fun hh hq => ?_, fun hh hq => ?_⟩
  · cases hh : dmaHalting e s with
    | false =>
      rw [hop, dmaBusClr_running (hhalting.trans hh), if_pos rfl]
      exact memKept_directAnswer hu.memKept
    | true =>
      cases hq : flagOn (Reg.DMA_STATUS e) 16 s with
      | false =>
        rw [hrefused hh hq]
        exact memKept_directAnswer ⟨rfl, rfl⟩
      | true =>
        obtain ⟨hmem, heng⟩ := dmaCleared_memKept e u
        rw [hcleared hh hq]
        exact memKept_directAnswer ⟨hmem.trans hu.memKept.1, heng.trans hu.memKept.2⟩
  · rw [hcleared hh hq, respCode_directAnswer, dmaHalting_directAnswer]
    refine ⟨rfl, dmaHalting_dmaCleared e u, fun ch hch h3 => ?_⟩
    rw [dmaState_directAnswer]
    exact dmaState_dmaCleared hch ((hu.dmaState ch).trans h3)
  · rw [hrefused hh hq, respCode_directAnswer, dmaHalting_directAnswer]
    exact ⟨rfl, hh⟩

/-- Settles O26: the start, the stop and its end, the end of a bus error and its clearing, each by its own effect. -/
theorem dmaStartsAndStops : Obligations.DmaStartsAndStops := by
  unfold Obligations.DmaStartsAndStops
  exact ⟨fun _ _ _ _ _ => dmaChStart_effect, fun _ _ _ _ => dmaChStop_effect,
    fun _ _ _ hrun hnamed hstate hhalting hphase hdesc hread hwrite hturn =>
      dmaStopComplete_effect hrun hnamed ⟨dmaStopReady_of hstate hhalting hphase hdesc hread hwrite, hhalting, hturn⟩,
    fun _ _ _ _ _ => dmaQuiet_effect, fun _ _ _ _ => busClr_effect⟩

end Sys2Proof.Machine
end

section
/-! DMA transfers (R273 to R280): O27 fails by the identifier and the class of an answered read. -/
namespace Sys2Proof.Machine
open Sys2Proof.Safety

/-- Refutes O27: its hypotheses admit an answer to a data read that bears the identifier of another NI and a class that no NI has,
where `dmaRead` sends requests of class 0 of the channel's own NI. The NI_PKTS counter of class 13 of port 7 of node 7 would lie where
the NI of the DMA engine of cluster 0 holds its route to node 17, so taking that answer makes the route bad, and the write of the data
to cluster 9, which the NI would have sent before, is dropped. -/
theorem not_dmaTransfers : ¬ Obligations.DmaTransfers := by
  rintro ⟨-, -, hread, -⟩
  let d : List Byte := leBytes 4 0x80000000 ++ leBytes 4 64 ++ leBytes 8 0x10000000 ++ leBytes 8 0x10900000 ++ leBytes 8 0
  let bs : List Byte := List.replicate 64 0
  let x : Txn := {
    id := 0, agent := .dma 0 0, use := useRead, src := srcId 7 7 0, cls := 13, addr := 0x10000000, body := .read 64, posted := false, aw := false
    node := 8, port := 0, stage := .served, ans := some (0, bs) }
  let s : State := { State.reset with
    noc := { txns := [x], nextId := 1 }, dma := [(0, { chans := [(0, { desc := some d, phase := 1, code := 1, issued := 64 })] })] }
  have hrunning : Running s := ⟨rfl, by decide +kernel⟩
  have hdst : dDst d + (x.addr - dSrc d) = 0x10900000 := by decide +kernel
  have hbytes : swapBytes (dSwap d) bs = bs := by decide +kernel
  have hsent : originCode (srcOf (.dma 0 0) s) 2 0x10900000 (.write bs) s = none := by decide +kernel
  have hdropped : (gated false (below 33 0 && chanOk 0 0) (opDmaReadAnswer 0 0 0) s).noc.txns = [] := by decide +kernel
  obtain ⟨t, hexec, -, hposted, -⟩ :=
    hread 0 0 0 s x bs d hrunning ⟨by decide, by decide⟩ rfl rfl rfl rfl (by decide +kernel) rfl
  obtain rfl : gated false (below 33 0 && chanOk 0 0) (opDmaReadAnswer 0 0 0) s = t := by
    rw [exec_dmaReadAnswer] at hexec
    exact Host.Outcome.next.inj hexec
  rw [hdst, hbytes] at hposted
  obtain ⟨y, hy, -⟩ := hposted (by decide) hsent
  rw [hdropped] at hy
  exact absurd hy List.not_mem_nil

end Sys2Proof.Machine
end

section
/-! The carrier filter array (R294 to R319): O28 fails by the way of the answer to a hand-over. -/
namespace Sys2Proof.Machine
open Sys2Proof.Safety

/-- Refutes O28: its hypotheses admit a hand-over packet whose way names router 12,273 of a mesh of 48 (R220). The NOC_RTR_CTRL of that router
would lie where the NI of the lower half counts posted packets that failed (NI_POST_ERR_CNT of node 40, port 1). The token of channel 0 meets a
link out of service and is dropped and counted there (R235, R239), from 1 to 2, which disables the link the answer to the hand-over would take:
it was in service before, and the answer is lost. -/
theorem not_carrierFilters : ¬ Obligations.CarrierFilters := by
  rintro ⟨-, -, hhandover, -⟩
  let x : Txn := {
    id := 0, agent := .plan, use := 0, src := srcId 43 0 0, cls := 0, addr := 0, body := .handover 0 0 1, posted := false, aw := false
    node := 40, port := 1, stage := .accepted, path := [(12273, 0)] }
  let r : State := wr Reg.CFA_CTRL 1 (wr (Reg.CFA_CH_CFG 0) 0x90000000 (wr (Reg.NI_POST_ERR_CNT 40 1) 1 (wr (Reg.NI_LAT_HIST 40 1 0 12) 4 .reset)))
  let s : State := { r with noc := { txns := [x], nextId := 1, linkOut := [40 * 4 + 1] } }
  have hrunning : Running s := ⟨rfl, by decide +kernel⟩
  have hway : cutAt x.path s = none := by decide +kernel
  have hlost : txnOf 0 (gated false true (opCfaHandover 0) s) = some { x with stage := .lost } := by decide +kernel
  obtain ⟨t, hexec, hanswered, -⟩ := hhandover 0 s x 0 0 hrunning rfl rfl rfl rfl rfl
  obtain rfl : gated false true (opCfaHandover 0) s = t := by
    rw [exec_cfaHandover] at hexec
    exact Host.Outcome.next.inj hexec
  obtain ⟨y, hy, hans, -⟩ := hanswered x rfl rfl rfl hway
  rw [hlost] at hy
  obtain rfl := Option.some.inj hy
  exact absurd hans nofun

end Sys2Proof.Machine
end

section
/-! The fronthaul gates (R320 to R331): O29 fails by the class of the answer to an entry read. -/
namespace Sys2Proof.Machine
open Sys2Proof.Safety

/-- Refutes O29: its hypotheses admit, as the answer to an entry read, the answer to a write of a class that no NI has, where `opGateDecision` sends a
read of class 0. The NI_BYTES counter of class 23,548 of the NI of gate 0 (node 0, port 0) would lie where MAC 0 holds its MAC_CFG. MAX_FRAME is
0x3FFF there, which acts as 9,216 (R371), so LEN 1,600 of the entry is good (R328). Taking that answer counts its one byte, MAX_FRAME becomes 0 and
acts as 1,518, and the ready entry is dropped as an error in place of reading its frame. -/
theorem not_fronthaulGates : ¬ Obligations.FronthaulGates := by
  rintro ⟨-, hentry, -⟩
  let e : List Byte := leBytes 4 0xC0000000 ++ leBytes 8 0 ++ leBytes 4 (1600 * 65536) ++ List.replicate 12 0
  let j : GateJob := { no := 0, idx := 0, inst := 0, round := 0 }
  let x : Txn := {
    id := 0, agent := .fhg 0, use := useGate 0 0, src := srcId 0 0 0, cls := 23548, addr := 0, body := .write [0], posted := false, aw := false
    node := 8, port := 0, stage := .served, ans := some (0, e) }
  let s : State := { wr (Reg.MAC_CFG 0) 0xC3FFF .reset with noc := { txns := [x], nextId := 1 }, mac := [(0, { jobs := [j] })] }
  have hrunning : Running s := ⟨rfl, by decide +kernel⟩
  have hgood : geBad 0 e s = false := by decide +kernel
  have hdropped : (mac 0 (gated false (below 17 0) (opGateEntryReadAnswer 0) s)).jobs = [] := by decide +kernel
  obtain ⟨t, hexec, -, -, -, -, hready⟩ := hentry 0 s j x 0 e hrunning (by decide) rfl rfl
  obtain rfl : gated false (below 17 0) (opGateEntryReadAnswer 0) s = t := by
    rw [exec_gateEntryReadAnswer] at hexec
    exact Host.Outcome.next.inj hexec
  obtain ⟨g, hg, -⟩ := hready rfl rfl (by decide +kernel) (by decide +kernel) (by decide +kernel) hgood rfl (by decide +kernel)
  rw [hdropped] at hg
  exact absurd hg List.not_mem_nil

end Sys2Proof.Machine
end

section
/-! What a lane or a port sees of the state: the registers of the lanes, the status of the MACs, the number of the Round, the tables of the lanes,
memory and the engines. Packets, records and events leave it. -/
namespace Sys2Proof.Machine
open Sys2Proof.Safety

/-- Registers no lane and no port reads: outside the lanes' blocks, no MAC_STATUS, and not ROUND_NOW. -/
abbrev Beside (off : Nat) : Prop :=
  (off < 0x400000 ∨ 0x420000 ≤ off) ∧ ¬(0x500000 ≤ off ∧ off < 0x600000 ∧ off % 0x10000 = 4) ∧ off ≠ 0x10020

/-- A view of the state that the registers beside the lanes do not reach, nor any part of the state but registers, lanes, memory and engines. -/
structure LaneView {α : Type} (f : State → α) : Prop where
  wr : ∀ off v t, Beside off → f (wr off v t) = f t
  rest : ∀ t u : State, u.csr = t.csr → u.lane = t.lane → u.mem = t.mem → u.eng = t.eng → f u = f t

theorem laneView_rd {off : Nat} (h : ¬Beside off) : LaneView (rd off) where
  wr _ v t hb := rd_wr_other (by rintro rfl; exact h hb) v t
  rest _ _ hcsr _ _ _ := rd_congr hcsr off

theorem laneView_lane : LaneView State.lane where
  wr _ _ _ _ := rfl
  rest _ _ _ hlane _ _ := hlane

theorem laneView_eng : LaneView State.eng where
  wr _ _ _ _ := rfl
  rest _ _ _ _ _ heng := heng

/-- What a function makes of a view is a view. -/
theorem LaneView.comp {α β : Type} {f : State → α} (h : LaneView f) (g : α → β) : LaneView fun t => g (f t) where
  wr off v t hb := congrArg g (h.wr off v t hb)
  rest t u hcsr hlane hmem heng := congrArg g (h.rest t u hcsr hlane hmem heng)

theorem laneView_fld {off : Nat} (h : ¬Beside off) (hi lo : Nat) : LaneView (fld off hi lo) :=
  (laneView_rd h).comp fun v => bitsOf v.toNat hi lo

/-- What every update in a list keeps, the list keeps. -/
theorem foldl_keeps {α β γ : Type} {f : β → γ} {g : β → α → β} (h : ∀ b a, f (g b a) = f b) (l : List α) (b : β) : f (l.foldl g b) = f b := by
  induction l generalizing b with
  | nil => rfl
  | cons a l ih => exact (ih (g b a)).trans (h b a)

/-- The NI an agent beside the DMA engines hands its packets to is one of the module's. -/
def AtNode (ag : Agent) : Prop := ∀ s, srcNode (srcOf ag s) < 64

theorem atNode_recorder : AtNode .recorder := fun s => by
  simp only [srcNode, srcOf, srcId]
  omega

theorem atNode_lane {l : Nat} (h : l < 32) : AtNode (.lane l) := fun s => by
  simp only [srcNode, srcOf, srcId]
  omega

theorem atNode_cfa (ch : Nat) : AtNode (.cfa ch) := fun s => by
  simp only [srcNode, srcOf, srcId]
  split <;> omega

theorem atNode_mac {m : Nat} (h : m < 16) : AtNode (.mac m) := fun s => by
  simp only [srcNode, srcOf, srcId]
  split <;> omega

theorem atNode_fhg {m : Nat} (h : m < 16) : AtNode (.fhg m) := fun s => by
  simp only [srcNode, srcOf, srcId]
  omega

section
variable {α : Type} {f : State → α} (h : LaneView f)
include h

/-! ### Registers, the recorder's state and events beside the lanes -/

theorem LaneView.kept_recorder (r : Rec) (t : State) : f { t with recorder := r } = f t := h.rest t _ rfl rfl rfl rfl

theorem LaneView.kept_bumpBy {off : Nat} (hoff : Beside off) (k : Nat) (t : State) : f (bumpBy off k t) = f t := h.wr _ _ _ hoff

theorem LaneView.kept_bump {off : Nat} (hoff : Beside off) (t : State) : f (bump off t) = f t := h.wr _ _ _ hoff

theorem LaneView.kept_setFld {off : Nat} (hoff : Beside off) (hi lo x : Nat) (t : State) : f (setFld off hi lo x t) = f t := h.wr _ _ _ hoff

theorem LaneView.kept_raise (num inst : Nat) (t : State) : f (raise num inst t) = f t := by
  obtain ⟨-, hraise⟩ | ⟨-, hraise⟩ := raise_cases num inst t
  · rw [hraise]
    exact h.rest _ _ rfl rfl rfl rfl
  · rw [hraise]
    exact h.kept_bump (by decide) t

/-- An event shows no more than its flag. -/
theorem LaneView.seen_flagEvent (off bit num inst : Nat) (t : State) : f (flagEvent off bit num inst t) = f (setFlag off bit t) := h.kept_raise _ _ _

theorem LaneView.kept_flagEvent {off : Nat} (hoff : Beside off) (bit num inst : Nat) (t : State) : f (flagEvent off bit num inst t) = f t :=
  (h.seen_flagEvent off bit num inst t).trans (h.kept_setFld hoff _ _ _ t)

theorem LaneView.kept_countEvent {cnt off : Nat} (hcnt : Beside cnt) (hoff : Beside off) (bit num inst : Nat) (t : State) :
    f (countEvent cnt off bit num inst t) = f t := (h.kept_flagEvent hoff _ _ _ _).trans (h.kept_bump hcnt t)

/-! ### Packets (R229 to R239) -/

theorem LaneView.kept_enqueue (x : Txn) (t : State) : f (enqueue x t) = f t := h.rest _ _ rfl rfl rfl rfl

theorem LaneView.kept_niSync {n p : Nat} (hn : n < 64) (hp : p < 8) (t : State) : f (niSync n p t) = f t :=
  h.kept_setFld (by simp only [Beside, Reg.NI_OUTSTANDING]; omega) _ _ _ t

theorem LaneView.kept_niCodeGiven {n p : Nat} (hn : n < 64) (hp : p < 8) (code : Nat) (t : State) : f (niCodeGiven n p code t) = f t := by
  unfold niCodeGiven
  split
  · exact h.kept_bump (by simp only [Beside, Reg.NI_DECERR_CNT]; omega) t
  · exact h.kept_countEvent (by simp only [Beside, Reg.NI_ROUTE_FAULT_CNT]; omega) (by decide) _ _ _ t

theorem LaneView.kept_postedError {n p : Nat} (hn : n < 64) (hp : p < 8) (addr src code : Nat) (t : State) :
    f (postedError n p addr src code t) = f t := by
  have hcnt : Beside (Reg.NI_POST_ERR_CNT n p) := by simp only [Beside, Reg.NI_POST_ERR_CNT]; omega
  have hinfo : Beside (Reg.NI_POST_ERR_INFO n p) := by simp only [Beside, Reg.NI_POST_ERR_INFO]; omega
  have haddr : Beside (Reg.NI_POST_ERR_ADDR n p) := by simp only [Beside, Reg.NI_POST_ERR_ADDR]; omega
  unfold postedError
  rw [h.kept_countEvent hcnt (by decide), h.wr _ _ _ hinfo, h.wr _ _ _ haddr]

theorem LaneView.kept_send {ag : Agent} (hag : AtNode ag) (use cls addr : Nat) (body : Payload) (posted aw : Bool) (t : State) :
    f (send ag use cls addr body posted aw t) = f t := by
  have hn : srcNode (srcOf ag t) < 64 := hag t
  have hp : srcPort (srcOf ag t) < 8 := Nat.mod_lt _ (by decide)
  unfold send
  dsimp only
  split
  · split
    · rw [h.kept_postedError hn hp, h.kept_niCodeGiven hn hp]
    · rw [h.kept_enqueue, h.kept_niCodeGiven hn hp]
  · rw [h.kept_niSync hn hp, h.kept_enqueue]

theorem LaneView.kept_postWrite {ag : Agent} (hag : AtNode ag) (use addr : Nat) (bs : List Byte) (aw : Bool) (t : State) :
    f (postWrite ag use addr bs aw t) = f t := h.kept_send hag _ _ _ _ _ _ t

theorem LaneView.kept_postToken {ag : Agent} (hag : AtNode ag) (slice ctx slot value : Nat) (t : State) :
    f (postToken ag slice ctx slot value t) = f t := h.kept_send hag _ _ _ _ _ _ t

theorem LaneView.kept_postPieces {ag : Agent} (hag : AtNode ag) (use k a : Nat) (bs : List Byte) (t : State) :
    f (postPieces ag use k a bs t) = f t :=
  foldl_keeps (f := fun x : Nat × State => f x.2) (fun x _ => h.kept_postWrite hag _ _ _ _ x.2) _ (a, t)

/-! ### Records (R512 to R516) -/

theorem LaneView.kept_recHeader (t : State) : f (recHeader t) = f t := by
  unfold recHeader
  dsimp only
  rw [h.kept_postPieces atNode_recorder, h.kept_postPieces atNode_recorder]

theorem LaneView.kept_setRecStatus (hi lo x : Nat) (t : State) : f (setRecStatus hi lo x t) = f t := by
  have hset : f (setFld Reg.REC_STATUS hi lo x t) = f t := h.kept_setFld (by decide) _ _ _ t
  unfold setRecStatus
  split
  · exact hset
  · exact (h.kept_recHeader _).trans hset

theorem LaneView.kept_recAtWr (typ src : Nat) (payload : List Byte) (t : State) : f (recAtWr typ src payload t) = f t := by
  unfold recAtWr
  dsimp only
  rw [h.kept_bump (by decide), h.wr _ _ _ (by decide), h.kept_recorder, h.kept_postPieces atNode_recorder]

theorem LaneView.kept_recPlace (typ src : Nat) (payload : List Byte) (t : State) : f (recPlace typ src payload t) = f t := by
  unfold recPlace
  dsimp only
  split
  · exact h.kept_recAtWr _ _ _ t
  · split
    · exact h.kept_setRecStatus _ _ _ t
    · rw [h.kept_recAtWr, h.kept_setRecStatus, h.wr _ _ _ (by decide)]
      split
      · exact h.kept_recAtWr _ _ _ t
      · rfl

theorem LaneView.kept_recLoss (t : State) : f (recLoss t) = f t := by
  have hstatus : ∀ u, f (bump Reg.REC_DROP_CNT (if flagOn Reg.REC_STATUS 1 u then u else setRecStatus 1 1 1 u)) = f u := fun u => by
    rw [h.kept_bump (by decide)]
    split
    · rfl
    · exact h.kept_setRecStatus _ _ _ u
  unfold recLoss
  dsimp only
  rw [hstatus]
  split
  · rfl
  · rw [h.kept_flagEvent (by decide), h.kept_recorder]

theorem LaneView.kept_recAppend (typ src : Nat) (payload : List Byte) (t : State) : f (recAppend typ src payload t) = f t := by
  unfold recAppend
  split
  · split
    · rw [h.kept_recLoss, h.kept_recorder]
    · split
      · rw [h.kept_recPlace, h.kept_recPlace, h.kept_recorder]
      · exact h.kept_recPlace _ _ _ t
  · rfl

/-- A record of a change of state leaves the view (R512). -/
theorem LaneView.kept_recLink (src st : Nat) (t : State) : f (recLink src st t) = f t := by
  unfold recLink recKind
  split
  · exact h.kept_recAppend _ _ _ t
  · rfl

theorem LaneView.kept_recCapture (typ src : Nat) (payload : List Byte) (t : State) : f (recCapture typ src payload t) = f t := by
  unfold recCapture
  dsimp only
  split
  · rw [h.kept_postPieces atNode_recorder, h.kept_recLoss, h.kept_recorder]
  · rw [h.kept_postPieces atNode_recorder, h.kept_bump (by decide), h.wr _ _ _ (by decide), h.kept_recorder,
      h.kept_postPieces atNode_recorder]

end

end Sys2Proof.Machine
end

section
/-! The state machine of a Tether lane (R343 to R349): what entering DETECT, ACTIVE or a step leaves of a lane, and what it keeps. -/
namespace Sys2Proof.Machine
open Sys2Proof.Safety

/-! ### Registers of one lane -/

/-- The registers of a lane are in its view. -/
theorem laneReg_seen {l k : Nat} (hl : l < 32) (hk : 0x400000 ≤ k ∧ k < 0x400800) : ¬Beside (k + 0x800 * l) := by
  unfold Beside
  omega

theorem laneReg_ne {j k : Nat} (h : j ≠ k) (l : Nat) : j + 0x800 * l ≠ k + 0x800 * l := by omega

theorem laneView_laneReg {l k : Nat} (hl : l < 32) (hk : 0x400000 ≤ k ∧ k < 0x400800) : LaneView (rd (k + 0x800 * l)) :=
  laneView_rd (laneReg_seen hl hk)

theorem laneView_status {l : Nat} (hl : l < 32) (hi lo : Nat) : LaneView (fld (Reg.LANE_STATUS l) hi lo) :=
  laneView_fld (laneReg_seen hl (by decide)) hi lo

/-- A field reads its register alone. -/
theorem fld_of_rd {off : Nat} {s t : State} (h : rd off t = rd off s) (hi lo : Nat) : fld off hi lo t = fld off hi lo s := by rw [fld, fld, h]

/-! ### Lanes put -/

theorem lane_congr {s t : State} (h : t.lane = s.lane) (l : Nat) : lane l t = lane l s := by rw [lane, lane, h]

@[simp] theorem lane_setLane_same (l : Nat) (x : Lane) (s : State) : lane l (setLane l x s) = x := tabGet_tabSet_same

@[simp] theorem lane_modLane_same (l : Nat) (f : Lane → Lane) (s : State) : lane l (modLane l f s) = f (lane l s) := lane_setLane_same _ _ _

theorem rd_modLane (off l : Nat) (f : Lane → Lane) (s : State) : rd off (modLane l f s) = rd off s := rfl
theorem fld_modLane (off hi lo l : Nat) (f : Lane → Lane) (s : State) : fld off hi lo (modLane l f s) = fld off hi lo s := rfl

/-! ### Views blind to the state machine -/

/-- A view that sees neither the status, the equaliser, the events and the ring pointers of lane `l`, nor more of the lane than the echo of its head. -/
structure Blind {α : Type} (l : Nat) (f : State → α) : Prop extends LaneView f where
  status : ∀ v t, f (Machine.wr (Reg.LANE_STATUS l) v t) = f t
  equaliser : ∀ v t, f (Machine.wr (Reg.LANE_EQ_STATUS l) v t) = f t
  events : ∀ v t, f (Machine.wr (Reg.LANE_EVT_STATUS l) v t) = f t
  pointers : ∀ v t, f (Machine.wr (Reg.LANE_TCTL_PTR l) v t) = f t
  lane : ∀ x t, x.echo = (Machine.lane l t).echo → f (setLane l x t) = f t

theorem blind_laneReg {l k : Nat} (hl : l < 32) (hk : 0x400000 ≤ k ∧ k < 0x400800)
    (hown : k ≠ 0x400008 ∧ k ≠ 0x400054 ∧ k ≠ 0x4000B0 ∧ k ≠ 0x4000A0) : Blind l (rd (k + 0x800 * l)) where
  toLaneView := laneView_laneReg hl hk
  status v t := rd_wr_other (laneReg_ne hown.1 l) v t
  equaliser v t := rd_wr_other (laneReg_ne hown.2.1 l) v t
  events v t := rd_wr_other (laneReg_ne hown.2.2.1 l) v t
  pointers v t := rd_wr_other (laneReg_ne hown.2.2.2 l) v t
  lane _ _ _ := rfl

theorem blind_eng (l : Nat) : Blind l State.eng where
  toLaneView := laneView_eng
  status _ _ := rfl
  equaliser _ _ := rfl
  events _ _ := rfl
  pointers _ _ := rfl
  lane _ _ _ := rfl

theorem blind_echo (l : Nat) : Blind l fun t => (lane l t).echo where
  toLaneView := laneView_lane.comp fun a => (tabGet (fun _ => ({} : Lane)) a l).echo
  status _ _ := rfl
  equaliser _ _ := rfl
  events _ _ := rfl
  pointers _ _ := rfl
  lane x t he := (congrArg Lane.echo (lane_setLane_same l x t)).trans he

section
variable {α : Type} {f : State → α}

/-- A new state shows in the status alone. -/
theorem LaneView.seen_laneSetState (h : LaneView f) (l st : Nat) (t : State) : f (laneSetState l st t) = f (setFld (Reg.LANE_STATUS l) 2 0 st t) :=
  h.kept_recLink _ _ _

theorem LaneView.seen_laneEvent (h : LaneView f) (l bit : Nat) (t : State) : f (laneEvent l bit t) = f (setFlag (Reg.LANE_EVT_STATUS l) bit t) :=
  h.seen_flagEvent _ _ _ _ t

variable {l : Nat} (h : Blind l f)
include h

theorem Blind.kept_status (hi lo x : Nat) (t : State) : f (setFld (Reg.LANE_STATUS l) hi lo x t) = f t := h.status _ t

theorem Blind.kept_modLane {g : Lane → Lane} {t : State} (hg : (g (Machine.lane l t)).echo = (Machine.lane l t).echo) :
    f (modLane l g t) = f t := h.lane _ _ hg

theorem Blind.kept_laneSetState (st : Nat) (t : State) : f (laneSetState l st t) = f t := (h.seen_laneSetState l st t).trans (h.status _ _)

theorem Blind.kept_laneEvent (bit : Nat) (t : State) : f (laneEvent l bit t) = f t := (h.seen_laneEvent l bit t).trans (h.events _ _)

theorem Blind.kept_laneEventOnce (bit : Nat) (t : State) : f (laneEventOnce l bit t) = f t := by
  unfold laneEventOnce
  split
  · rfl
  · exact (h.kept_laneEvent bit _).trans (h.kept_modLane rfl)

theorem Blind.kept_laneRdStart (t : State) : f (laneRdStart l t) = f t := h.kept_modLane rfl

theorem Blind.kept_laneEq (t : State) : f (laneEq l t) = f t := h.equaliser _ _

theorem Blind.kept_laneMaps (t : State) : f (laneMaps l t) = f t := by
  unfold laneMaps
  dsimp only
  split
  · rw [h.kept_status, h.kept_status]
  · rw [h.kept_laneEvent, h.kept_status, h.kept_status]

theorem Blind.kept_laneSetRate (r : Nat) (t : State) : f (laneSetRate l r t) = f t := by
  have hrate : f (laneRdStart l (setFld (Reg.LANE_STATUS l) 6 4 r t)) = f t := (h.kept_laneRdStart _).trans (h.kept_status _ _ _ t)
  unfold laneSetRate
  split
  · exact h.kept_laneEq t
  · dsimp only
    rw [h.kept_laneMaps]
    split
    · exact hrate
    · exact (h.kept_laneEq _).trans hrate

theorem Blind.kept_laneLeaveActive (t : State) : f (laneLeaveActive l t) = f t := by
  unfold laneLeaveActive
  dsimp only
  refine (h.kept_modLane rfl).trans ?_
  split
  · exact h.pointers _ t
  · rfl

theorem Blind.kept_laneForget (t : State) : f (laneForget l t) = f t := (h.kept_modLane rfl).trans (h.kept_status _ _ _ t)

theorem Blind.kept_enterActive (t : State) : f (enterActive l t) = f t := by
  unfold enterActive
  rw [h.kept_laneEvent, h.kept_laneSetState, h.kept_status]
  exact h.kept_modLane rfl

theorem Blind.kept_stepBegin (next : Nat) (refuse : Bool) (t : State) : f (stepBegin l next refuse t) = f t :=
  (h.kept_laneSetState 4 _).trans (h.kept_modLane rfl)

theorem Blind.kept_stepSwitched (t : State) : f (stepSwitched l t) = f t := by
  unfold stepSwitched
  split
  · exact h.kept_laneSetRate _ t
  · rfl

/-- A view blind to the record and the count of an entry to DETECT does not see one. -/
theorem Blind.kept_enterDetect (hlast : ∀ v t, f (wr (Reg.LANE_TLAST_DOWN l) v t) = f t) (hcnt : ∀ v t, f (wr (Reg.LANE_TDOWN_CNT l) v t) = f t)
    (cause : Nat) (t : State) : f (enterDetect l cause t) = f t := by
  have hentry : ∀ fail u, f (laneSetState l 0 (laneRdStart l (laneSetRate l 1 (setFld (Reg.LANE_STATUS l) 13 10 fail u)))) = f u := fun fail u => by
    rw [h.kept_laneSetState, h.kept_laneRdStart, h.kept_laneSetRate, h.kept_status]
  have hcounted : ∀ u, f (bump (Reg.LANE_TDOWN_CNT l) (laneForget l (laneLeaveActive l u))) = f u := fun u => by
    rw [← h.kept_laneLeaveActive u, ← h.kept_laneForget (laneLeaveActive l u)]
    exact hcnt _ _
  unfold enterDetect
  dsimp only
  split
  · rw [hentry, hcounted, hlast]
  · rw [h.kept_laneEventOnce, hentry, hcounted, hlast]

end

/-! ### What the status shows -/

theorem laneState_laneSetState {l : Nat} (hl : l < 32) (st : Nat) (s : State) : laneState l (laneSetState l st s) = st % 8 :=
  ((laneView_status hl 2 0).seen_laneSetState l st s).trans (fld_setFld_same _ 2 0 st s (by decide))

/-- The fields above STATE stay. -/
theorem fld_laneSetState {l hi lo : Nat} (hl : l < 32) (hlo : 2 < lo) (st : Nat) (s : State) :
    fld (Reg.LANE_STATUS l) hi lo (laneSetState l st s) = fld (Reg.LANE_STATUS l) hi lo s :=
  ((laneView_status hl hi lo).seen_laneSetState l st s).trans (fld_setFld_disjoint _ 2 0 st hi lo s (by decide) (.inr hlo))

theorem lane_laneSetState (k l st : Nat) (s : State) : lane k (laneSetState l st s) = lane k s :=
  lane_congr (laneView_lane.seen_laneSetState l st s) k

theorem rd_laneEvent {off l : Nat} (h : ¬Beside off) (hne : off ≠ Reg.LANE_EVT_STATUS l) (bit : Nat) (s : State) :
    rd off (laneEvent l bit s) = rd off s := ((laneView_rd h).seen_laneEvent l bit s).trans (rd_setFlag_other hne bit s)

theorem rd_laneEventOnce {off l : Nat} (h : ¬Beside off) (hne : off ≠ Reg.LANE_EVT_STATUS l) (bit : Nat) (s : State) :
    rd off (laneEventOnce l bit s) = rd off s := by
  unfold laneEventOnce
  split
  · rfl
  · exact rd_laneEvent h hne bit _

theorem flagOn_laneEvent {l bit : Nat} (hl : l < 32) (hbit : bit < 64) (s : State) :
    flagOn (Reg.LANE_EVT_STATUS l) bit (laneEvent l bit s) = true := by
  have hseen : LaneView (flagOn (Reg.LANE_EVT_STATUS l) bit) := (laneView_fld (laneReg_seen hl (by decide)) bit bit).comp (· == 1)
  exact (hseen.seen_laneEvent l bit s).trans (flagOn_setFlag_same _ bit s hbit)

theorem lane_laneEvent (k l bit : Nat) (s : State) : lane k (laneEvent l bit s) = lane k s := lane_congr (laneView_lane.seen_laneEvent l bit s) k

theorem fld_status_laneEvent {l : Nat} (hl : l < 32) (hi lo bit : Nat) (s : State) :
    fld (Reg.LANE_STATUS l) hi lo (laneEvent l bit s) = fld (Reg.LANE_STATUS l) hi lo s :=
  fld_of_rd (rd_laneEvent (laneReg_seen hl (by decide)) (laneReg_ne (by decide) l) bit s) hi lo

theorem fld_status_laneEventOnce {l : Nat} (hl : l < 32) (hi lo bit : Nat) (s : State) :
    fld (Reg.LANE_STATUS l) hi lo (laneEventOnce l bit s) = fld (Reg.LANE_STATUS l) hi lo s :=
  fld_of_rd (rd_laneEventOnce (laneReg_seen hl (by decide)) (laneReg_ne (by decide) l) bit s) hi lo

/-- The maps are reported in [30:24] and [23:17] alone. -/
theorem fld_laneMaps {l hi lo : Nat} (hl : l < 32) (hhi : hi < 17) (s : State) :
    fld (Reg.LANE_STATUS l) hi lo (laneMaps l s) = fld (Reg.LANE_STATUS l) hi lo s := by
  have hcuts : ∀ a b, fld (Reg.LANE_STATUS l) hi lo (setFld (Reg.LANE_STATUS l) 30 24 a (setFld (Reg.LANE_STATUS l) 23 17 b s)) =
      fld (Reg.LANE_STATUS l) hi lo s := fun a b =>
    (fld_setFld_disjoint _ 30 24 a hi lo _ (by decide) (.inl (by omega))).trans
      (fld_setFld_disjoint _ 23 17 b hi lo s (by decide) (.inl (by omega)))
  unfold laneMaps
  dsimp only
  split
  · exact hcuts _ _
  · rw [fld_status_laneEvent hl, hcuts]

theorem fld_status_laneEq (l hi lo : Nat) (s : State) : fld (Reg.LANE_STATUS l) hi lo (laneEq l s) = fld (Reg.LANE_STATUS l) hi lo s :=
  fld_wr_other (laneReg_ne (by decide) l) _ _ _ _

/-- A new rate leaves the status as it is but for RATE and the maps. -/
theorem fld_laneSetRate {l hi lo : Nat} (hl : l < 32) (hhi : hi < 17) (hd : hi < 4 ∨ 6 < lo) (r : Nat) (s : State) :
    fld (Reg.LANE_STATUS l) hi lo (laneSetRate l r s) = fld (Reg.LANE_STATUS l) hi lo s := by
  have hset : fld (Reg.LANE_STATUS l) hi lo (setFld (Reg.LANE_STATUS l) 6 4 r s) = fld (Reg.LANE_STATUS l) hi lo s :=
    fld_setFld_disjoint _ 6 4 r hi lo s (by decide) hd
  unfold laneSetRate
  split
  · exact fld_status_laneEq l hi lo s
  · dsimp only
    rw [fld_laneMaps hl hhi]
    split
    · exact hset
    · exact (fld_status_laneEq l hi lo _).trans hset

theorem laneRate_laneSetRate {l r : Nat} (hl : l < 32) (hr : r < 8) (s : State) : laneRate l (laneSetRate l r s) = r := by
  have hset : laneRate l (setFld (Reg.LANE_STATUS l) 6 4 r s) = r :=
    (fld_setFld_same _ 6 4 r s (by decide)).trans (Nat.mod_eq_of_lt hr)
  unfold laneSetRate
  split
  · next hsame => exact (fld_status_laneEq l 6 4 s).trans hsame
  · dsimp only
    rw [laneRate, fld_laneMaps hl (by decide)]
    split
    · exact hset
    · exact (fld_status_laneEq l 6 4 _).trans hset

/-- A lane with other running disparities. -/
def Lane.atDisparity (tx : Bool) (rx : Option Bool) (x : Lane) : Lane := { x with txRd := tx, rxRd := rx }

theorem lane_setFld (k off hi lo x : Nat) (s : State) : lane k (setFld off hi lo x s) = lane k s := rfl

theorem lane_laneMaps (l : Nat) (s : State) : lane l (laneMaps l s) = lane l s := by
  unfold laneMaps
  dsimp only
  split
  · rw [lane_setFld, lane_setFld]
  · rw [lane_laneEvent, lane_setFld, lane_setFld]

theorem lane_laneEq (k l : Nat) (s : State) : lane k (laneEq l s) = lane k s := rfl

/-- A new rate changes of the lane its running disparities alone. -/
theorem lane_laneSetRate (l r : Nat) (s : State) : ∃ tx rx, lane l (laneSetRate l r s) = (lane l s).atDisparity tx rx := by
  unfold laneSetRate
  split
  · exact ⟨_, _, rfl⟩
  · dsimp only
    rw [lane_laneMaps]
    refine ⟨false, some false, ?_⟩
    split
    · exact lane_modLane_same l _ _
    · exact (lane_laneEq l l _).trans (lane_modLane_same l _ _)

/-! ### DETECT and ACTIVE entered -/

/-- Entering DETECT ends in state DETECT at T1, with the fields that neither RATE nor the maps hold. -/
theorem fld_enterDetect {l hi lo : Nat} (hl : l < 32) (hhi : hi < 17) (hlo : 6 < lo) (cause : Nat) (s : State) :
    fld (Reg.LANE_STATUS l) hi lo (enterDetect l cause s) =
      fld (Reg.LANE_STATUS l) hi lo (setFld (Reg.LANE_STATUS l) 13 10
        (if cause = 7 then 0 else if 1 ≤ laneState l s ∧ laneState l s ≤ 4 then min 15 (fld (Reg.LANE_STATUS l) 13 10 s + 1)
          else fld (Reg.LANE_STATUS l) 13 10 s)
        (bump (Reg.LANE_TDOWN_CNT l) (laneForget l (laneLeaveActive l (wr (Reg.LANE_TLAST_DOWN l)
          (dw (roundNow s % 65536 * 65536 + cause * 4096 + laneState l s * 256 + laneRate l s * 16)) s))))) := by
  unfold enterDetect
  dsimp only
  have hset : ∀ u, fld (Reg.LANE_STATUS l) hi lo (laneSetState l 0 (laneRdStart l (laneSetRate l 1 u))) = fld (Reg.LANE_STATUS l) hi lo u := fun u => by
    rw [fld_laneSetState hl (by omega)]
    exact fld_laneSetRate hl hhi (.inr hlo) 1 u
  split
  · exact hset _
  · rw [fld_status_laneEventOnce hl, hset]

theorem downed_enterDetect {l : Nat} (hl : l < 32) (cause : Nat) (s : State) : Downed l cause s (enterDetect l cause s) := by
  have hlast : Blind l (rd (Reg.LANE_TLAST_DOWN l)) := blind_laneReg hl (by decide) (by decide)
  have hcnt : Blind l (rd (Reg.LANE_TDOWN_CNT l)) := blind_laneReg hl (by decide) (by decide)
  have hne : Reg.LANE_TLAST_DOWN l ≠ Reg.LANE_TDOWN_CNT l := laneReg_ne (by decide) l
  have hentry : ∀ {α : Type} {f : State → α}, Blind l f → ∀ fail u,
      f (laneSetState l 0 (laneRdStart l (laneSetRate l 1 (setFld (Reg.LANE_STATUS l) 13 10 fail u)))) = f u := fun h fail u => by
    rw [h.kept_laneSetState, h.kept_laneRdStart, h.kept_laneSetRate, h.kept_status]
  have hdown : ∀ u, laneState l (laneSetState l 0 (laneRdStart l (laneSetRate l 1 u))) = 0 ∧
      laneRate l (laneSetState l 0 (laneRdStart l (laneSetRate l 1 u))) = 1 := fun u =>
    ⟨laneState_laneSetState hl 0 _, (fld_laneSetState hl (by decide) 0 _).trans (laneRate_laneSetRate hl (by decide) u)⟩
  have hrest : ∀ u v, rd (Reg.LANE_TDOWN_CNT l) (laneForget l (laneLeaveActive l (wr (Reg.LANE_TLAST_DOWN l) v u))) = rd (Reg.LANE_TDOWN_CNT l) u :=
    fun u v => by rw [hcnt.kept_laneForget, hcnt.kept_laneLeaveActive, rd_wr_other hne.symm]
  have hrecord : ∀ u v, rd (Reg.LANE_TLAST_DOWN l) (bump (Reg.LANE_TDOWN_CNT l) (laneForget l (laneLeaveActive l (wr (Reg.LANE_TLAST_DOWN l) v u)))) = v :=
    fun u v => by rw [rd_bump_other hne, hlast.kept_laneForget, hlast.kept_laneLeaveActive, rd_wr_same]
  unfold enterDetect
  dsimp only
  split
  · exact ⟨(hdown _).1, (hdown _).2, counted_of_bump (hrest s _) (hentry hcnt _ _), (hentry hlast _ _).trans (hrecord s _)⟩
  · refine ⟨(fld_status_laneEventOnce hl _ _ _ _).trans (hdown _).1, (fld_status_laneEventOnce hl _ _ _ _).trans (hdown _).2,
      counted_of_bump (hrest s _) ((hcnt.kept_laneEventOnce _ _).trans (hentry hcnt _ _)),
      (hlast.kept_laneEventOnce _ _).trans ((hentry hlast _ _).trans (hrecord s _))⟩

theorem laneState_enterActive {l : Nat} (hl : l < 32) (s : State) : laneState l (enterActive l s) = 5 :=
  (fld_status_laneEvent hl 2 0 0 _).trans (laneState_laneSetState hl 5 _)

theorem flagOn_enterActive {l : Nat} (hl : l < 32) (s : State) : flagOn (Reg.LANE_EVT_STATUS l) 0 (enterActive l s) = true :=
  flagOn_laneEvent hl (by decide) _

theorem laneState_stepBegin {l : Nat} (hl : l < 32) (next : Nat) (refuse : Bool) (s : State) : laneState l (stepBegin l next refuse s) = 4 :=
  laneState_laneSetState hl 4 _

end Sys2Proof.Machine
end

section
/-! What a lane's receiver brings (R339, R343 to R349): code violations counted, sets read, locks, timeouts and steps. -/
namespace Sys2Proof.Machine
open Sys2Proof.Safety

/-! ### Code groups read and violations counted (R339) -/

/-- Of the state lane `l` sees only its count of code violations changed, by `k`, and its receiver's disparity. -/
structure Heard (l k : Nat) (s u : State) : Prop where
  rd : ∀ off, off ≠ Reg.LANE_TCV_CNT l → rd off u = rd off s
  counted : Violations l k s u
  lane : ∃ rx, lane l u = { lane l s with rxRd := rx }
  eng : u.eng = s.eng

theorem heard_bumpBy (l k : Nat) (s : State) : Heard l k s (bumpBy (Reg.LANE_TCV_CNT l) k s) where
  rd _ hoff := rd_bumpBy_other hoff k s
  counted := rd_bumpBy_same _ k s
  lane := ⟨_, rfl⟩
  eng := rfl

theorem laneViolations_live {l : Nat} {s : State} (h : laneLive l s = true) (viol : Nat) :
    laneViolations l viol s = bumpBy (Reg.LANE_TCV_CNT l) viol s := if_pos h

theorem heard_laneViolations {l : Nat} {s : State} (h : laneLive l s = true) (viol : Nat) : Heard l viol s (laneViolations l viol s) := by
  rw [laneViolations_live h]
  exact heard_bumpBy l viol s

/-- The lanes are as they were when violations are counted. -/
theorem lane_laneViolations (k viol : Nat) (s : State) : lane k (laneViolations k viol s) = lane k s := by
  unfold laneViolations
  split <;> rfl

/-- Violations counted twice are counted together. -/
theorem violations_add {l j k : Nat} {s u t : State} (h : Violations l j s u)
    (ht : rd (Reg.LANE_TCV_CNT l) t = dw (min ((rd (Reg.LANE_TCV_CNT l) u).toNat + k) 0xFFFFFFFF)) : Violations l (j + k) s t := by
  have hsum : (rd (Reg.LANE_TCV_CNT l) u).toNat = min ((rd (Reg.LANE_TCV_CNT l) s).toNat + j) 0xFFFFFFFF := by
    rw [h, dw, BitVec.toNat_ofNat]
    exact Nat.mod_eq_of_lt (by omega)
  rw [Violations, ht, hsum]
  congr 1
  omega

theorem violations_of_eq {l k : Nat} {s u t : State} (h : Violations l k s u) (ht : Machine.rd (Reg.LANE_TCV_CNT l) t = Machine.rd (Reg.LANE_TCV_CNT l) u) :
    Violations l k s t := ht.trans h

theorem Heard.laneRead {l k : Nat} {s u : State} (h : Heard l k s u) (gs : List Nat) :
    Heard l (k + (laneRead l gs u).2.1) s (laneRead l gs u).2.2 where
  rd off hoff := (rd_bumpBy_other hoff _ _).trans (h.rd off hoff)
  counted := violations_add h.counted (rd_bumpBy_same _ _ _)
  lane := by
    obtain ⟨rx, hlane⟩ := h.lane
    refine ⟨some (readGroups ((Machine.lane l u).rxRd.getD (commaDisparity gs)) gs).2.2, ?_⟩
    exact (lane_modLane_same l (fun x => { x with rxRd := _ }) u).trans (by rw [hlane])
  eng := h.eng

/-- An entry to DETECT is one from every state with the same count of entries, Round, state and rate. -/
theorem downed_of_same {l cause : Nat} {s u t : State} (hcnt : rd (Reg.LANE_TDOWN_CNT l) u = rd (Reg.LANE_TDOWN_CNT l) s)
    (hround : roundNow u = roundNow s) (hstate : laneState l u = laneState l s) (hrate : laneRate l u = laneRate l s) (h : Downed l cause u t) :
    Downed l cause s t := by
  obtain ⟨hdown, hslow, hcounted, hlast⟩ := h
  exact ⟨hdown, hslow, by rwa [Counted, hcnt] at hcounted, by rwa [hround, hstate, hrate] at hlast⟩

section
variable {l k : Nat} {s u : State} (h : Heard l k s u)
include h

theorem Heard.fld {off : Nat} (hoff : off ≠ Reg.LANE_TCV_CNT l) (hi lo : Nat) : fld off hi lo u = fld off hi lo s := fld_of_rd (h.rd off hoff) hi lo

theorem Heard.status (hi lo : Nat) : Machine.fld (Reg.LANE_STATUS l) hi lo u = Machine.fld (Reg.LANE_STATUS l) hi lo s :=
  h.fld (laneReg_ne (by decide) l) hi lo

theorem Heard.state : laneState l u = laneState l s := h.status 2 0
theorem Heard.rate : laneRate l u = laneRate l s := h.status 6 4
theorem Heard.leads : flagOn (Reg.LANE_STATUS l) 7 u = flagOn (Reg.LANE_STATUS l) 7 s := congrArg (· == 1) (h.status 7 7)

theorem Heard.roundNow (hl : l < 32) : roundNow u = roundNow s :=
  congrArg BitVec.toNat (h.rd Reg.ROUND_NOW (by simp only [Reg.ROUND_NOW, Reg.LANE_TCV_CNT]; omega))

theorem Heard.inReplay : inReplay u = inReplay s :=
  congrArg (· == 1) (h.fld (by simp only [Reg.REC_STATUS, Reg.LANE_TCV_CNT]; omega) 0 0)

theorem Heard.loop (hl : l < 32) : laneLoop l u = laneLoop l s := by
  have hmode := h.fld (off := Reg.SPARE_LOOP_LANE l) (by simp only [Reg.SPARE_LOOP_LANE, Reg.LANE_TCV_CNT]; omega) 2 0
  simp only [laneLoop, hmode, h.inReplay]

theorem Heard.live (hl : l < 32) : laneLive l u = laneLive l s := by rw [laneLive, laneLive, h.state, h.loop hl, h.inReplay]

/-- An entry to DETECT from what was heard is one from before. -/
theorem Heard.downed (hl : l < 32) {cause : Nat} {t : State} (ht : Downed l cause u t) : Downed l cause s t :=
  downed_of_same (h.rd (Reg.LANE_TDOWN_CNT l) (laneReg_ne (by decide) l)) (h.roundNow hl) h.state h.rate ht

end

/-! ### The view of the count of code violations -/

theorem blind_violations {l : Nat} (hl : l < 32) : Blind l (rd (Reg.LANE_TCV_CNT l)) := blind_laneReg hl (by decide) (by decide)

theorem violations_enterDetect {l : Nat} (hl : l < 32) (cause : Nat) (s : State) :
    rd (Reg.LANE_TCV_CNT l) (enterDetect l cause s) = rd (Reg.LANE_TCV_CNT l) s :=
  (blind_violations hl).kept_enterDetect (fun _ _ => rd_wr_other (laneReg_ne (by decide) l) _ _)
    (fun _ _ => rd_wr_other (laneReg_ne (by decide) l) _ _) cause s

/-! ### Detection and locks (R343, R344) -/

/-- The command of a lane that acts answers the state its operation makes, with the events in order. -/
theorem effect_of_lane {c : Instr} {op : State → State} {l : Nat} {s : State} {post : State → Prop}
    (he : exec c s = .next (gated false (below 32 l) op s)) (hrun : Running s) (hl : l < 32) (h : post (inOrder s (op s))) : Effect c s post :=
  ⟨_, exec_of_gated he hrun (below_of_lt hl), h⟩

/-- The order of a command's events is no part of what a lane sees. -/
theorem laneState_inOrder (l : Nat) (r t : State) : laneState l (inOrder r t) = laneState l t := rfl
theorem laneRate_inOrder (l : Nat) (r t : State) : laneRate l (inOrder r t) = laneRate l t := rfl
theorem laneCeil_inOrder (l : Nat) (r t : State) : laneCeil l (inOrder r t) = laneCeil l t := rfl
theorem lane_inOrder (l : Nat) (r t : State) : lane l (inOrder r t) = lane l t := rfl
theorem downed_inOrder {l cause : Nat} {r s t : State} (h : Downed l cause s t) : Downed l cause s (inOrder r t) := h
theorem violations_inOrder {l k : Nat} {r s t : State} (h : Violations l k s t) : Violations l k s (inOrder r t) := h

theorem detectAttempt_effect {l : Nat} {s : State} (hrun : Running s) (hl : l < 32) (hlive : laneLive l s = true) (hst : laneState l s = 0) :
    Effect (.detectAttempt l) s fun t => Counted (Reg.LANE_TDETECT_CNT l) s t ∧ laneState l t = 0 ∧
      fld (Reg.LANE_STATUS l) 13 10 t = min 15 (fld (Reg.LANE_STATUS l) 13 10 s + 1) := by
  have hop : opDetectAttempt l s = bump (Reg.LANE_TDETECT_CNT l) (setFld (Reg.LANE_STATUS l) 13 10 (min 15 (fld (Reg.LANE_STATUS l) 13 10 s + 1))
      (modLane l (fun x => { x with failBefore := fld (Reg.LANE_STATUS l) 13 10 s }) s)) := if_pos ⟨hlive, hst⟩
  have hne : Reg.LANE_TDETECT_CNT l ≠ Reg.LANE_STATUS l := laneReg_ne (by decide) l
  have hstatus : ∀ hi lo u, fld (Reg.LANE_STATUS l) hi lo (bump (Reg.LANE_TDETECT_CNT l) u) = fld (Reg.LANE_STATUS l) hi lo u :=
    fun hi lo u => fld_of_rd (rd_bump_other hne.symm u) hi lo
  refine effect_of_lane (exec_detectAttempt l s) hrun hl ?_
  rw [hop]
  refine ⟨counted_inOrder (counted_of_bump ((rd_setFld_other hne _ _ _ _).trans (rd_modLane _ _ _ _)) rfl), ?_, ?_⟩
  · rw [laneState, fld_inOrder, hstatus, fld_setFld_disjoint _ _ _ _ _ _ _ (by decide) (.inl (by decide))]
    exact hst
  · rw [fld_inOrder, hstatus, fld_setFld_same _ _ _ _ _ (by decide)]
    exact Nat.mod_eq_of_lt (by omega)

theorem receiverDetected_effect {l : Nat} {s : State} (hrun : Running s) (hl : l < 32) (hlive : laneLive l s = true) (hst : laneState l s = 0) :
    Effect (.receiverDetected l) s fun t => laneState l t = 1 ∧ fld (Reg.LANE_STATUS l) 13 10 t = (lane l s).failBefore % 16 := by
  have hop : opReceiverDetected l s = laneSetState l 1 (setFld (Reg.LANE_STATUS l) 13 10 (lane l s).failBefore s) := if_pos ⟨hlive, hst⟩
  refine effect_of_lane (exec_receiverDetected l s) hrun hl ?_
  rw [hop]
  refine ⟨laneState_laneSetState hl 1 _, ?_⟩
  rw [fld_inOrder, fld_laneSetState hl (by decide)]
  exact fld_setFld_same _ 13 10 _ s (by decide)

theorem laneSetState_memKept {l st : Nat} (s : State) : MemKept s (laneSetState l st s) := ⟨laneSetState_mem l st s, (blind_eng l).kept_laneSetState st s⟩

theorem bitLock_effect {l : Nat} {s : State} (hrun : Running s) (hl : l < 32) (hlive : laneLive l s = true) :
    Effect (.bitLock l) s fun t => MemKept s t ∧ (laneState l s = 1 → laneState l t = 2) ∧
      (laneState l s = 4 → (lane l s).rxSw = true → (lane l t).bit = true ∧ laneState l t = 4) := by
  refine effect_of_lane (exec_bitLock l s) hrun hl ?_
  unfold opBitLock
  rw [if_pos hlive]
  by_cases hst : laneState l s = 1
  · rw [if_pos hst]
    obtain ⟨hmem, heng⟩ := laneSetState_memKept (l := l) (st := 2) s
    exact ⟨memKept_inOrder hmem heng, fun _ => laneState_laneSetState hl 2 s, fun h4 => by omega⟩
  · rw [if_neg hst]
    refine ⟨?_, fun h1 => absurd h1 hst, fun h4 hsw => ?_⟩
    · split <;> exact ⟨rfl, rfl⟩
    · rw [if_pos ⟨h4, hsw⟩]
      exact ⟨congrArg Lane.bit (lane_modLane_same l (fun x => { x with bit := true }) s), h4⟩

/-- A view blind to the state machine does not see a symbol lock. -/
theorem Blind.kept_lockSymbol {α : Type} {f : State → α} {l : Nat} (h : Blind l f) (t : State) : f (lockSymbol l t) = f t := by
  have hlock : f (modLane l (fun y => { y with rxRd := none }) t) = f t := h.kept_modLane rfl
  have hstep : ∀ u, f (modLane l (fun y => { y with stepping := false }) u) = f u := fun _ => h.kept_modLane rfl
  unfold lockSymbol
  dsimp only
  split
  · split
    · rw [h.kept_laneSetState, hlock]
    · split
      · split
        · split
          · rw [h.kept_enterActive, hstep, hlock]
          · rw [h.kept_stepBegin, hstep, hlock]
        · rw [hstep, hlock]
      · rfl
  · rfl

/-- The symbol lock that ends a leader's last step. -/
theorem lockSymbol_lastStep {l : Nat} {s : State} (hlive : laneLive l s = true) (hst : laneState l s = 4) (hstep : (lane l s).stepping = true)
    (htx : (lane l s).txSw = true) (hrx : (lane l s).rxSw = true) (hbit : (lane l s).bit = true) (hnext : (lane l s).next = (lane l s).target)
    (hlead : flagOn (Reg.LANE_STATUS l) 7 s = true) :
    lockSymbol l s = enterActive l (modLane l (fun y => { y with stepping := false }) (modLane l (fun y => { y with rxRd := none }) s)) := by
  have hlane : lane l (modLane l (fun y => { y with rxRd := none }) s) = { lane l s with rxRd := none } := lane_modLane_same _ _ _
  have hstate : ∀ f, laneState l (modLane l f s) = laneState l s := fun _ => rfl
  have hliving : ∀ f, laneLive l (modLane l f s) = laneLive l s := fun _ => rfl
  have hleading : ∀ f g, flagOn (Reg.LANE_STATUS l) 7 (modLane l f (modLane l g s)) = flagOn (Reg.LANE_STATUS l) 7 s := fun _ _ => rfl
  have hleads : ∀ f, flagOn (Reg.LANE_STATUS l) 7 (modLane l f s) = flagOn (Reg.LANE_STATUS l) 7 s := fun _ => rfl
  unfold lockSymbol
  simp [hlane, hstate, hliving, hleads, hlive, hst, hstep, htx, hrx, hbit, hnext, hlead]

theorem symbolLock_effect {l viol : Nat} {s : State} (hrun : Running s) (hl : l < 32) (hlive : laneLive l s = true) :
    Effect (.symbolLock l viol) s fun t => MemKept s t ∧ Violations l viol s t ∧ (laneState l s = 2 → laneState l t = 3) ∧
      (laneState l s = 4 → (lane l s).stepping = true → (lane l s).txSw = true → (lane l s).rxSw = true → (lane l s).bit = true →
        (lane l s).next = (lane l s).target → flagOn (Reg.LANE_STATUS l) 7 s = true → laneState l t = 5 ∧
          flagOn (Reg.LANE_EVT_STATUS l) 0 t = true) := by
  have hheard : Heard l viol s (laneViolations l viol s) := heard_laneViolations hlive viol
  have hlane : lane l (laneViolations l viol s) = lane l s := lane_laneViolations l viol s
  have hlive' : laneLive l (modLane l (fun y => { y with rxRd := none }) (laneViolations l viol s)) = true := (hheard.live hl).trans hlive
  refine effect_of_lane (exec_symbolLock l viol s) hrun hl ⟨?_, ?_, fun h2 => ?_, fun h4 hstep htx hrx hbit hnext hlead => ?_⟩
  · exact memKept_inOrder (opSymbolLock_mem l viol s) (((blind_eng l).kept_lockSymbol _).trans hheard.eng)
  · exact violations_of_eq hheard.counted ((blind_violations hl).kept_lockSymbol _)
  · have hop : opSymbolLock l viol s = laneSetState l 3 (modLane l (fun y => { y with rxRd := none }) (laneViolations l viol s)) :=
      (if_pos hlive').trans (if_pos (hheard.state.trans h2))
    rw [hop]
    exact laneState_laneSetState hl 3 _
  · have hend := lockSymbol_lastStep (hheard.live hl |>.trans hlive) (hheard.state.trans h4) ((congrArg Lane.stepping hlane).trans hstep)
      ((congrArg Lane.txSw hlane).trans htx) ((congrArg Lane.rxSw hlane).trans hrx) ((congrArg Lane.bit hlane).trans hbit)
      (by rw [hlane, hnext]) (hheard.leads.trans hlead)
    exact ⟨(congrArg (laneState l) hend).trans (laneState_enterActive hl _), (congrArg (flagOn _ 0) hend).trans (flagOn_enterActive hl _)⟩

/-! ### Timeouts and losses (R343, R349) -/

/-- A lane that hears `k` violations and then enters DETECT has entered it from before, and counted them. -/
theorem downed_heard {l k cause : Nat} {s u : State} (hl : l < 32) (h : Heard l k s u) :
    Downed l cause s (enterDetect l cause u) ∧ Violations l k s (enterDetect l cause u) :=
  ⟨h.downed hl (downed_enterDetect hl cause u), violations_of_eq h.counted (violations_enterDetect hl cause u)⟩

theorem laneTimeout_effect {c : Instr} {op : State → State} {l st cause : Nat} {s : State} (he : exec c s = .next (gated false (below 32 l) op s))
    (hop : op s = laneTimeout l st cause s) (hrun : Running s) (hl : l < 32) (hlive : laneLive l s = true) (hst : laneState l s = st) :
    Effect c s (Downed l cause s) := by
  refine effect_of_lane he hrun hl (downed_inOrder ?_)
  rw [hop, laneTimeout, if_pos ⟨hlive, hst⟩]
  exact downed_enterDetect hl cause s

theorem lockTimeout_effect {l viol : Nat} {s : State} (hrun : Running s) (hl : l < 32) (hlive : laneLive l s = true) (hst : laneState l s = 2) :
    Effect (.lockTimeout l viol) s fun t => Downed l 2 s t ∧ Violations l viol s t := by
  have hheard : Heard l viol s (laneViolations l viol s) := heard_laneViolations hlive viol
  have hop : opLockTimeout l viol s = enterDetect l 2 (laneViolations l viol s) := if_pos ⟨(hheard.live hl).trans hlive, hheard.state.trans hst⟩
  refine effect_of_lane (exec_lockTimeout l viol s) hrun hl ?_
  rw [hop]
  exact downed_heard hl hheard

theorem lockLoss_effect {l viol : Nat} {s : State} (hrun : Running s) (hl : l < 32) (hlive : laneLive l s = true) (hst : laneState l s = 5) :
    Effect (.lockLoss l viol) s fun t => Downed l 5 s t ∧ Violations l viol s t := by
  have hop : opLockLoss l viol s = enterDetect l 5 (bumpBy (Reg.LANE_TCV_CNT l) viol s) := if_pos ⟨hlive, hst⟩
  refine effect_of_lane (exec_lockLoss l viol s) hrun hl ?_
  rw [hop]
  exact downed_heard hl (heard_bumpBy l viol s)

theorem signalLoss_effect {l : Nat} {s : State} (hrun : Running s) (hl : l < 32) (hlive : laneLive l s = true)
    (hst : laneState l s = 2 ∨ laneState l s = 3 ∨ laneState l s = 5) : Effect (.signalLoss l) s (Downed l 9 s) := by
  have hop : opSignalLoss l s = enterDetect l 9 s := if_pos ⟨hlive, by omega⟩
  refine effect_of_lane (exec_signalLoss l s) hrun hl (downed_inOrder ?_)
  rw [hop]
  exact downed_enterDetect hl 9 s

/-- A new ceiling leaves an entry to DETECT as it was. -/
theorem downed_ceiling {l cause : Nat} {s t : State} (h : Downed l cause s t) (r : Nat) :
    Downed l cause s (setFld (Reg.LANE_STATUS l) 16 14 r t) := by
  obtain ⟨hstate, hrate, hcnt, hlast⟩ := h
  refine ⟨?_, ?_, ?_, ?_⟩
  · exact (fld_setFld_disjoint _ 16 14 r 2 0 t (by decide) (.inl (by decide))).trans hstate
  · exact (fld_setFld_disjoint _ 16 14 r 6 4 t (by decide) (.inl (by decide))).trans hrate
  · exact (rd_setFld_other (laneReg_ne (by decide) l) _ _ _ t).trans hcnt
  · exact (rd_setFld_other (laneReg_ne (by decide) l) _ _ _ t).trans hlast

/-- A step that timed out. -/
def stepFailed (l : Nat) (s : State) : State :=
  setFld (Reg.LANE_STATUS l) 16 14 (lane l s).stepFrom
    (modLane l (fun x => { x with ceilId := some (partnerId l s) }) (enterDetect l 4 (bump (Reg.LANE_TSTEPFAIL_CNT l) s)))

theorem downed_stepFailed {l : Nat} (hl : l < 32) (s : State) : Downed l 4 s (stepFailed l s) := by
  have hother : ∀ {k}, k ≠ 0x4000C8 → rd (k + 0x800 * l) (bump (Reg.LANE_TSTEPFAIL_CNT l) s) = rd (k + 0x800 * l) s := fun h =>
    rd_bump_other (laneReg_ne h l) s
  have hround : roundNow (bump (Reg.LANE_TSTEPFAIL_CNT l) s) = roundNow s :=
    congrArg BitVec.toNat (rd_bump_other (by simp only [Reg.ROUND_NOW, Reg.LANE_TSTEPFAIL_CNT]; omega) s)
  have hstatus : ∀ hi lo, fld (Reg.LANE_STATUS l) hi lo (bump (Reg.LANE_TSTEPFAIL_CNT l) s) = fld (Reg.LANE_STATUS l) hi lo s :=
    fld_of_rd (hother (by decide))
  exact downed_ceiling (downed_of_same (hother (by decide)) hround (hstatus 2 0) (hstatus 6 4) (downed_enterDetect hl 4 _)) _

theorem counted_stepFailed {l : Nat} (hl : l < 32) (s : State) : Counted (Reg.LANE_TSTEPFAIL_CNT l) s (stepFailed l s) := by
  have hblind : Blind l (rd (Reg.LANE_TSTEPFAIL_CNT l)) := blind_laneReg hl (by decide) (by decide)
  refine counted_of_bump rfl ((rd_setFld_other (laneReg_ne (by decide) l) _ _ _ _).trans ?_)
  exact hblind.kept_enterDetect (fun _ _ => rd_wr_other (laneReg_ne (by decide) l) _ _)
    (fun _ _ => rd_wr_other (laneReg_ne (by decide) l) _ _) 4 _

theorem violations_stepFailed {l : Nat} (hl : l < 32) (s : State) : rd (Reg.LANE_TCV_CNT l) (stepFailed l s) = rd (Reg.LANE_TCV_CNT l) s :=
  (rd_setFld_other (laneReg_ne (by decide) l) _ _ _ _).trans
    ((violations_enterDetect hl 4 _).trans (rd_bump_other (laneReg_ne (by decide) l) s))

theorem laneCeil_stepFailed (l : Nat) (s : State) : laneCeil l (stepFailed l s) = (lane l s).stepFrom % 8 :=
  fld_setFld_same _ 16 14 _ _ (by decide)

theorem ceilId_stepFailed (l : Nat) (s : State) : (lane l (stepFailed l s)).ceilId = some (partnerId l s) := by
  rw [stepFailed, lane_setFld, lane_modLane_same]

/-- The partner's block does not lie where code violations are counted. -/
theorem Heard.partnerId {l k : Nat} {s u : State} (h : Heard l k s u) : partnerId l u = partnerId l s := by
  have hlow : Reg.LANE_TPARTNER_CAPS l 2 ≠ Reg.LANE_TCV_CNT l := by simp only [Reg.LANE_TPARTNER_CAPS, Reg.LANE_TCV_CNT]; omega
  have hhigh : Reg.LANE_TPARTNER_CAPS l 3 ≠ Reg.LANE_TCV_CNT l := by simp only [Reg.LANE_TPARTNER_CAPS, Reg.LANE_TCV_CNT]; omega
  rw [Machine.partnerId, Machine.partnerId, h.rd _ hlow, h.rd _ hhigh]

theorem stepTimeout_effect {l viol : Nat} {s : State} (hrun : Running s) (hl : l < 32) (hlive : laneLive l s = true) (hst : laneState l s = 4)
    (hstep : (lane l s).stepping = true) :
    Effect (.stepTimeout l viol) s fun t => Downed l 4 s t ∧ Violations l viol s t ∧ laneCeil l t = (lane l s).stepFrom % 8 ∧
      (lane l t).ceilId = some (partnerId l s) ∧ Counted (Reg.LANE_TSTEPFAIL_CNT l) s t := by
  have hheard : Heard l viol s (laneViolations l viol s) := heard_laneViolations hlive viol
  have hlane : lane l (laneViolations l viol s) = lane l s := lane_laneViolations l viol s
  have hop : opStepTimeout l viol s = stepFailed l (laneViolations l viol s) :=
    if_pos ⟨(hheard.live hl).trans hlive, hheard.state.trans hst, (congrArg Lane.stepping hlane).trans hstep⟩
  have hfail : Counted (Reg.LANE_TSTEPFAIL_CNT l) s (stepFailed l (laneViolations l viol s)) := by
    have hcounted := counted_stepFailed hl (laneViolations l viol s)
    rwa [Counted, hheard.rd (Reg.LANE_TSTEPFAIL_CNT l) (laneReg_ne (by decide) l)] at hcounted
  refine effect_of_lane (exec_stepTimeout l viol s) hrun hl ?_
  rw [hop]
  refine ⟨downed_inOrder (hheard.downed hl (downed_stepFailed hl _)), violations_inOrder (violations_of_eq hheard.counted (violations_stepFailed hl _)),
    ?_, ?_, counted_inOrder hfail⟩
  · rw [laneCeil_inOrder, laneCeil_stepFailed, hlane]
  · rw [lane_inOrder, ceilId_stepFailed, hheard.partnerId]

end Sys2Proof.Machine
end

section
/-! The exchange of capabilities, the steps and the restarts of a Tether lane (R343, R346 to R349), and O31. -/
namespace Sys2Proof.Machine
open Sys2Proof.Safety

/-! ### Code groups after violations -/

/-- The state in which a set or a block is heard, once the violations before it are counted. -/
def heardGroups (l : Nat) (gs : List Nat) (viol : Nat) (s : State) : State :=
  (laneRead l (laneGroups l gs (laneViolations l viol s)) (laneViolations l viol s)).2.2

theorem laneGroups_laneViolations (l : Nat) (gs : List Nat) (viol : Nat) (s : State) :
    laneGroups l gs (laneViolations l viol s) = laneGroups l gs s := by
  unfold laneViolations
  split <;> rfl

theorem laneRead_laneViolations (l : Nat) (gs : List Nat) (viol : Nat) (s : State) :
    (laneRead l gs (laneViolations l viol s)).1 = (laneRead l gs s).1 ∧ (laneRead l gs (laneViolations l viol s)).2.1 = (laneRead l gs s).2.1 := by
  unfold laneViolations
  split <;> exact ⟨rfl, rfl⟩

theorem heard_heardGroups {l : Nat} {s : State} (h : laneLive l s = true) (gs : List Nat) (viol : Nat) :
    Heard l (viol + (laneRead l (laneGroups l gs s) s).2.1) s (heardGroups l gs viol s) := by
  have hheard := (heard_laneViolations h viol).laneRead (laneGroups l gs s)
  rw [heardGroups, laneGroups_laneViolations]
  rwa [(laneRead_laneViolations l _ viol s).2] at hheard

/-- What was heard changes of the lane its receiver's disparity alone. -/
theorem Heard.lane_field {α : Type} {l k : Nat} {s u : State} (h : Heard l k s u) (g : Lane → α) (hg : ∀ x rx, g { x with rxRd := rx } = g x) :
    g (Machine.lane l u) = g (Machine.lane l s) := by
  obtain ⟨rx, hlane⟩ := h.lane
  rw [hlane, hg]

/-! ### Capabilities (R346, R347) -/

/-- A CAPS set with its verdict, once it is heard. -/
def capsJudged (l : Nat) (c : List Byte × Bool) (s : State) : State :=
  if c.2 then
    let n := if (lane l s).caps = c.1 then (lane l s).same + 1 else 1
    let t := modLane l (fun x => { x with caps := c.1, same := n }) s
    if 3 ≤ n then capsAccept l c.1 t else t
  else modLane l (fun x => { x with caps := [], same := 0 }) s

theorem opCapsSetReceived_caps {l : Nat} {s : State} (hl : l < 32) (hlive : laneLive l s = true) (hst : laneState l s = 3) (gs : List Nat) (viol : Nat) :
    opCapsSetReceived l gs viol s = capsJudged l (capsOf (laneRead l (laneGroups l gs s) s).1) (heardGroups l gs viol s) := by
  have hheard := heard_laneViolations hlive viol
  rw [← laneGroups_laneViolations l gs viol s, ← (laneRead_laneViolations l _ viol s).1]
  exact if_pos ⟨(hheard.live hl).trans hlive, hheard.state.trans hst⟩

/-- What every update by a member of a list keeps, the list keeps. -/
theorem forEach_keeps_mem {α β : Type} {f : α → State → State} {g : State → β} {l : List α} (h : ∀ x ∈ l, ∀ s, g (f x s) = g s) (s : State) :
    g (forEach l f s) = g s := by
  unfold forEach
  induction l generalizing s with
  | nil => rfl
  | cons x l ih => exact (ih (fun y hy => h y (List.mem_cons_of_mem _ hy)) (f x s)).trans (h x List.mem_cons_self s)

/-- A view that sees nothing the state machine writes: neither an entry to DETECT nor the partner's block. -/
structure Unaware {α : Type} (l : Nat) (f : State → α) : Prop extends Blind l f where
  last : ∀ v t, f (Machine.wr (Reg.LANE_TLAST_DOWN l) v t) = f t
  entries : ∀ v t, f (Machine.wr (Reg.LANE_TDOWN_CNT l) v t) = f t
  partner : ∀ n v t, n < 8 → f (Machine.wr (Reg.LANE_TPARTNER_CAPS l n) v t) = f t

theorem unaware_eng (l : Nat) : Unaware l State.eng where
  toBlind := blind_eng l
  last _ _ := rfl
  entries _ _ := rfl
  partner _ _ _ _ := rfl

theorem unaware_violations {l : Nat} (hl : l < 32) : Unaware l (rd (Reg.LANE_TCV_CNT l)) where
  toBlind := blind_violations hl
  last _ _ := rd_wr_other (laneReg_ne (by decide) l) _ _
  entries _ _ := rd_wr_other (laneReg_ne (by decide) l) _ _
  partner n _ _ hn := rd_wr_other (by simp only [Reg.LANE_TCV_CNT, Reg.LANE_TPARTNER_CAPS]; omega) _ _

section
variable {α : Type} {f : State → α} {l : Nat} (h : Unaware l f)
include h

theorem Unaware.kept_capsComplete (t : State) : f (capsComplete l t) = f t := by
  have hset : ∀ lead : Bool, f (setFld (Reg.LANE_STATUS l) 7 7 (b2n lead)
      (modLane l (fun x => { x with done := true, target := targetRate l t }) t)) = f t := fun lead =>
    (h.kept_status _ _ _ _).trans (h.kept_modLane rfl)
  unfold capsComplete
  dsimp only
  split
  · split
    · split
      · rw [h.kept_stepBegin, hset]
      · rw [h.kept_enterActive, hset]
    · exact hset _
  · exact h.kept_enterDetect h.last h.entries 8 t

theorem Unaware.kept_capsAccept (bs : List Byte) (t : State) : f (capsAccept l bs t) = f t := by
  have hblock : ∀ b, f (forEach (upto 8) (fun n u => wr (Reg.LANE_TPARTNER_CAPS l n) (dw (leAt b (4 * n) 4)) u) t) = f t := fun b =>
    forEach_keeps_mem (fun n hn u => h.partner n _ u (List.mem_range.1 hn)) t
  have hack : ∀ u, f (modLane l (fun x => { x with ack := true }) u) = f u := fun _ => h.kept_modLane rfl
  have hceil : ∀ u, f (modLane l (fun x => { x with ceilId := none }) u) = f u := fun _ => h.kept_modLane rfl
  have hlast : ∀ (b : Bool) u, f (if b then capsComplete l u else u) = f u := fun b u => by
    cases b
    · rfl
    · exact h.kept_capsComplete u
  unfold capsAccept
  dsimp only
  generalize (if leAt bs 0 1 = 1 then bs.take 16 ++ List.replicate 16 0 else bs) = b
  rw [hlast]
  split
  · rw [h.kept_status, hack, hblock]
  · split
    · rw [h.kept_status, hack, hblock]
    · rw [h.kept_status, hceil, h.kept_status, hack, hblock]

theorem Unaware.kept_capsJudged (c : List Byte × Bool) (t : State) : f (capsJudged l c t) = f t := by
  have hset : ∀ bs n, f (modLane l (fun x => { x with caps := bs, same := n }) t) = f t := fun _ _ => h.kept_modLane rfl
  unfold capsJudged
  dsimp only
  generalize (if (lane l t).caps = c.1 then (lane l t).same + 1 else 1) = n
  split
  · split
    · rw [h.kept_capsAccept, hset]
    · exact hset _ _
  · exact hset _ _

end

/-- A bad set starts the count again. -/
theorem lane_capsJudged_bad {l : Nat} {c : List Byte × Bool} (hbad : c.2 = false) (s : State) :
    lane l (capsJudged l c s) = { lane l s with caps := [], same := 0 } := by
  unfold capsJudged
  rw [if_neg (by simp [hbad])]
  exact lane_modLane_same l (fun x => { x with caps := [], same := 0 }) s

/-- A good set that differs from the one before is the first of its kind. -/
theorem lane_capsJudged_first {l : Nat} {c : List Byte × Bool} {s : State} (hgood : c.2 = true) (hnew : (lane l s).caps ≠ c.1) :
    lane l (capsJudged l c s) = { lane l s with caps := c.1, same := 1 } := by
  unfold capsJudged
  dsimp only
  rw [if_pos hgood, if_neg hnew, if_neg (by decide)]
  exact lane_modLane_same l (fun x => { x with caps := c.1, same := 1 }) s

/-- The third set of a kind is accepted. -/
theorem capsJudged_third {l : Nat} {c : List Byte × Bool} {s : State} (hgood : c.2 = true) (hold : (lane l s).caps = c.1) (h2 : (lane l s).same = 2) :
    ∃ u, capsJudged l c s = capsAccept l c.1 u := by
  unfold capsJudged
  dsimp only
  rw [if_pos hgood, if_pos hold, h2, if_pos (by decide)]
  exact ⟨_, rfl⟩

/-- A block without ACK is accepted and reported, and the exchange is not complete yet. -/
theorem capsAccept_reports {l : Nat} {bs : List Byte} (hversion : leAt bs 0 1 ≠ 1) (hack : bitOf (leAt bs 4 1) 0 = false) (s : State) :
    (lane l (capsAccept l bs s)).ack = true ∧
      ∀ n, n < 8 → rd (Reg.LANE_TPARTNER_CAPS l n) (capsAccept l bs s) = dw (leAt bs (4 * n) 4) := by
  have hinj : ∀ i j, Reg.LANE_TPARTNER_CAPS l i = Reg.LANE_TPARTNER_CAPS l j → i = j := fun i j hij => by
    simp only [Reg.LANE_TPARTNER_CAPS] at hij
    omega
  have hblock : ∀ n, n < 8 → rd (Reg.LANE_TPARTNER_CAPS l n)
      (forEach (upto 8) (fun n t => wr (Reg.LANE_TPARTNER_CAPS l n) (dw (leAt bs (4 * n) 4)) t) s) = dw (leAt bs (4 * n) 4) := fun n hn =>
    rd_forEach_wr hinj (.inl (List.mem_range.2 hn))
  have hstatus : ∀ {n}, n < 8 → ∀ hi lo x u, rd (Reg.LANE_TPARTNER_CAPS l n) (setFld (Reg.LANE_STATUS l) hi lo x u) = rd (Reg.LANE_TPARTNER_CAPS l n) u :=
    fun _ hi lo x u => rd_setFld_other (by simp only [Reg.LANE_TPARTNER_CAPS, Reg.LANE_STATUS]; omega) hi lo x u
  unfold capsAccept
  dsimp only
  rw [if_neg hversion, hack, Bool.false_and, if_neg (by decide)]
  split
  · exact ⟨by rw [lane_setFld, lane_modLane_same], fun n hn => by rw [hstatus hn, rd_modLane, hblock n hn]⟩
  · split
    · exact ⟨by rw [lane_setFld, lane_modLane_same], fun n hn => by rw [hstatus hn, rd_modLane, hblock n hn]⟩
    · exact ⟨by rw [lane_setFld, lane_modLane_same, lane_setFld, lane_modLane_same],
        fun n hn => by rw [hstatus hn, rd_modLane, hstatus hn, rd_modLane, hblock n hn]⟩

theorem capsSetReceived_effect {l : Nat} {gs : List Nat} {viol : Nat} {s : State} (hrun : Running s) (hl : l < 32) (hlive : laneLive l s = true)
    (hst : laneState l s = 3) :
    Effect (.capsSetReceived l gs viol) s fun t => MemKept s t ∧
      let r := laneRead l (laneGroups l gs s) s
      let bs := (capsOf r.1).1
      Violations l (viol + r.2.1) s t ∧
      ((capsOf r.1).2 = false → (lane l t).caps = [] ∧ (lane l t).same = 0) ∧
      ((capsOf r.1).2 = true → (lane l s).caps ≠ bs → (lane l t).caps = bs ∧ (lane l t).same = 1) ∧
      ((capsOf r.1).2 = true → (lane l s).caps = bs → (lane l s).same = 2 → leAt bs 0 1 ≠ 1 → bitOf (leAt bs 4 1) 0 = false →
        (lane l t).ack = true ∧ ∀ n, n < 8 → rd (Reg.LANE_TPARTNER_CAPS l n) t = dw (leAt bs (4 * n) 4)) := by
  have hheard := heard_heardGroups hlive gs viol
  have hcaps : (lane l (heardGroups l gs viol s)).caps = (lane l s).caps := hheard.lane_field Lane.caps fun _ _ => rfl
  have hsame : (lane l (heardGroups l gs viol s)).same = (lane l s).same := hheard.lane_field Lane.same fun _ _ => rfl
  have hmem := opCapsSetReceived_mem l gs viol s
  rw [opCapsSetReceived_caps hl hlive hst] at hmem
  refine effect_of_lane (exec_capsSetReceived l gs viol s) hrun hl ?_
  rw [opCapsSetReceived_caps hl hlive hst]
  refine ⟨memKept_inOrder hmem (((unaware_eng l).kept_capsJudged _ _).trans hheard.eng),
    violations_inOrder (violations_of_eq hheard.counted ((unaware_violations hl).kept_capsJudged _ _)), fun hbad => ?_, fun hgood hnew => ?_,
    fun hgood hold h2 hversion hack => ?_⟩
  · rw [lane_inOrder, lane_capsJudged_bad hbad]
    exact ⟨rfl, rfl⟩
  · rw [lane_inOrder, lane_capsJudged_first hgood (hcaps ▸ hnew)]
    exact ⟨rfl, rfl⟩
  · obtain ⟨u, hu⟩ := capsJudged_third hgood (hcaps.trans hold) (hsame.trans h2)
    rw [lane_inOrder, hu]
    exact capsAccept_reports hversion hack u

/-! ### Steps (R348) -/

theorem opTscReceived_tsc {l next count : Nat} {gs : List Nat} {s : State} (hl : l < 32) (hlive : laneLive l s = true)
    (hst : laneState l s = 3 ∧ (lane l s).done = true ∨ laneState l s = 4)
    (htsc : tscOf (laneRead l (laneGroups l gs s) s).1 = some (next, count)) (viol : Nat) :
    opTscReceived l gs viol s = tscTaken l next count (heardGroups l gs viol s) := by
  have hheard := heard_laneViolations hlive viol
  have hacts : laneLive l (laneViolations l viol s) = true ∧
      (laneState l (laneViolations l viol s) = 3 ∧ (lane l (laneViolations l viol s)).done = true ∨ laneState l (laneViolations l viol s) = 4) := by
    rw [hheard.live hl, hheard.state, lane_laneViolations]
    exact ⟨hlive, hst⟩
  rw [← laneGroups_laneViolations l gs viol s, ← (laneRead_laneViolations l _ viol s).1] at htsc
  unfold opTscReceived tscRead
  rw [if_pos hacts]
  dsimp only
  rw [htsc]
  rfl

theorem Blind.kept_tscTaken {α : Type} {f : State → α} {l : Nat} (h : Blind l f) (next count : Nat) (t : State) :
    f (tscTaken l next count t) = f t := by
  have hcount : ∀ u, f (modLane l (fun x => { x with count := count }) u) = f u := fun _ => h.kept_modLane rfl
  have hswitch : ∀ u, f (modLane l (fun x => { x with rxSw := true }) u) = f u := fun _ => h.kept_modLane rfl
  have hbegun : ∀ (b : Bool) refuse, f (if b then stepBegin l next refuse t else t) = f t := fun b refuse => by
    cases b
    · rfl
    · exact h.kept_stepBegin next refuse t
  have hcounted : ∀ (b : Bool) u, f (if b then u else modLane l (fun x => { x with count := count }) u) = f u := fun b u => by
    cases b
    · exact hcount u
    · rfl
  unfold tscTaken
  dsimp only
  generalize hbegin : (if !flagOn (Reg.LANE_STATUS l) 7 t && !(Machine.lane l t).stepping then stepBegin l next _ t else t) = u
  generalize hnow : (if flagOn (Reg.LANE_STATUS l) 7 t then u else modLane l _ u) = v
  have hv : f v = f t := by rw [← hnow, hcounted, ← hbegin, hbegun]
  split
  · rw [h.kept_stepSwitched, hswitch, hv]
  · exact hv

/-- The first TSC begins a follower's step. -/
theorem tscTaken_follower {l next count : Nat} {s : State} (hlead : flagOn (Reg.LANE_STATUS l) 7 s = false) (hstep : (lane l s).stepping = false)
    (hcount : count ≠ 0) :
    ∃ refuse, tscTaken l next count s = modLane l (fun x => { x with count := count }) (stepBegin l next refuse s) := by
  unfold tscTaken
  dsimp only
  rw [hlead, hstep]
  exact ⟨_, if_neg fun h => hcount h.1⟩

theorem lane_stepBegin (l next : Nat) (refuse : Bool) (s : State) :
    lane l (stepBegin l next refuse s) = { lane l s with
      stepping := true, next := next, stepFrom := laneRate l s, refuse := refuse, txSw := false, rxSw := false, bit := false, count := 63 } := by
  rw [stepBegin, lane_laneSetState, lane_modLane_same]

/-- COUNT 0 switches the receiver of a lane in that step. -/
theorem tscTaken_switch {l next : Nat} {s : State} (hstep : (lane l s).stepping = true) (hrefuse : (lane l s).refuse = false)
    (hnext : (lane l s).next = next) :
    ∃ u, tscTaken l next 0 s = stepSwitched l (modLane l (fun x => { x with rxSw := true }) u) ∧ (lane l u).txSw = (lane l s).txSw ∧
      (lane l u).next = next := by
  unfold tscTaken
  dsimp only
  rw [hstep, Bool.not_true, Bool.and_false, if_neg Bool.false_ne_true]
  cases flagOn (Reg.LANE_STATUS l) 7 s with
  | false =>
    rw [if_neg Bool.false_ne_true]
    refine ⟨modLane l (fun x => { x with count := 0 }) s, if_pos ?_, ?_⟩
    · rw [lane_modLane_same]
      exact ⟨rfl, hstep, hrefuse, hnext⟩
    · rw [lane_modLane_same]
      exact ⟨rfl, hnext⟩
  | true => exact ⟨s, if_pos ⟨rfl, hstep, hrefuse, hnext⟩, rfl, hnext⟩

/-- What the ends' switching leaves of the lane: all but its running disparities. -/
theorem lane_stepSwitched (l : Nat) (s : State) : ∃ tx rx, lane l (stepSwitched l s) = (lane l s).atDisparity tx rx := by
  unfold stepSwitched
  split
  · exact lane_laneSetRate l _ s
  · exact ⟨_, _, rfl⟩

/-- Once both ends have switched, the lane is at the rate of the step. -/
theorem laneRate_stepSwitched {l : Nat} (hl : l < 32) {s : State} (htx : (lane l s).txSw = true) (hrx : (lane l s).rxSw = true)
    (hnext : (lane l s).next < 8) : laneRate l (stepSwitched l s) = (lane l s).next := by
  unfold stepSwitched
  rw [htx, hrx]
  exact laneRate_laneSetRate hl hnext s

theorem tscReceived_effect {l : Nat} {gs : List Nat} {viol next count : Nat} {s : State} (hrun : Running s) (hl : l < 32) (hlive : laneLive l s = true)
    (htsc : tscOf (laneRead l (laneGroups l gs s) s).1 = some (next, count))
    (hst : laneState l s = 3 ∧ (lane l s).done = true ∨ laneState l s = 4) :
    Effect (.tscReceived l gs viol) s fun t => MemKept s t ∧ Violations l (viol + (laneRead l (laneGroups l gs s) s).2.1) s t ∧
      (laneState l s = 3 → flagOn (Reg.LANE_STATUS l) 7 s = false → (lane l s).stepping = false → count ≠ 0 →
        laneState l t = 4 ∧ (lane l t).stepping = true ∧ (lane l t).next = next ∧ (lane l t).stepFrom = laneRate l s ∧ (lane l t).count = count) ∧
      (laneState l s = 4 → (lane l s).stepping = true → (lane l s).refuse = false → (lane l s).next = next → count = 0 →
        (lane l t).rxSw = true ∧ ((lane l s).txSw = true → next < 8 → laneRate l t = next)) := by
  have hheard := heard_heardGroups hlive gs viol
  have hop := opTscReceived_tsc hl hlive hst htsc viol
  have hstepping : (lane l (heardGroups l gs viol s)).stepping = (lane l s).stepping := hheard.lane_field Lane.stepping fun _ _ => rfl
  have hrefused : (lane l (heardGroups l gs viol s)).refuse = (lane l s).refuse := hheard.lane_field Lane.refuse fun _ _ => rfl
  have hto : (lane l (heardGroups l gs viol s)).next = (lane l s).next := hheard.lane_field Lane.next fun _ _ => rfl
  have hsent : (lane l (heardGroups l gs viol s)).txSw = (lane l s).txSw := hheard.lane_field Lane.txSw fun _ _ => rfl
  have hmem := opTscReceived_mem l gs viol s
  rw [hop] at hmem
  refine effect_of_lane (exec_tscReceived l gs viol s) hrun hl ?_
  rw [hop]
  refine ⟨memKept_inOrder hmem (((blind_eng l).kept_tscTaken _ _ _).trans hheard.eng),
    violations_inOrder (violations_of_eq hheard.counted ((blind_violations hl).kept_tscTaken _ _ _)), fun _ hlead hstep hcount => ?_,
    fun _ hstep hrefuse hnext hcount => ?_⟩
  · obtain ⟨refuse, hbegun⟩ := tscTaken_follower (next := next) (hheard.leads.trans hlead) (hstepping.trans hstep) hcount
    rw [laneState_inOrder, lane_inOrder, hbegun, lane_modLane_same, lane_stepBegin]
    exact ⟨(fld_modLane _ _ _ _ _ _).trans (laneState_stepBegin hl _ _ _), rfl, rfl, hheard.rate, rfl⟩
  · subst hcount
    obtain ⟨u, hswitch, htx, hgoal⟩ := tscTaken_switch (hstepping.trans hstep) (hrefused.trans hrefuse) (hto.trans hnext)
    rw [lane_inOrder, laneRate_inOrder, hswitch]
    obtain ⟨tx, rx, hlane⟩ := lane_stepSwitched l (modLane l (fun x => { x with rxSw := true }) u)
    refine ⟨by rw [hlane, lane_modLane_same]; rfl, fun hsw hlt => ?_⟩
    have hrate := laneRate_stepSwitched hl (s := modLane l (fun x => { x with rxSw := true }) u)
    rw [lane_modLane_same] at hrate
    exact (hrate (htx.trans (hsent.trans hsw)) rfl (hgoal ▸ hlt)).trans hgoal

theorem tscCountZeroSent_effect {l : Nat} {s : State} (hrun : Running s) (hl : l < 32) (hlive : laneLive l s = true) (hst : laneState l s = 4)
    (hstep : (lane l s).stepping = true) (hrefuse : (lane l s).refuse = false)
    (hturn : flagOn (Reg.LANE_STATUS l) 7 s = true ∨ (lane l s).rxSw = true) :
    Effect (.tscCountZeroSent l) s fun t => MemKept s t ∧ (lane l t).txSw = true ∧
      ((lane l s).rxSw = true → (lane l s).next < 8 → laneRate l t = (lane l s).next) := by
  have hop : opTscCountZeroSent l s = stepSwitched l (modLane l (fun y => { y with txSw := true, count := 0 }) s) :=
    if_pos ⟨hlive, hst, hstep, hrefuse, hturn⟩
  have hmem := opTscCountZeroSent_mem l s
  rw [hop] at hmem
  obtain ⟨tx, rx, hlane⟩ := lane_stepSwitched l (modLane l (fun y => { y with txSw := true, count := 0 }) s)
  refine effect_of_lane (exec_tscCountZeroSent l s) hrun hl ?_
  rw [hop]
  refine ⟨memKept_inOrder hmem ((blind_eng l).kept_stepSwitched _), ?_, fun hrx hnext => ?_⟩
  · rw [lane_inOrder, hlane, lane_modLane_same]
    rfl
  · have hrate := laneRate_stepSwitched hl (s := modLane l (fun y => { y with txSw := true, count := 0 }) s)
    rw [lane_modLane_same] at hrate
    rw [laneRate_inOrder]
    exact hrate rfl hrx hnext

/-! ### RESTART and CLR_CEIL (R343, R349) -/

theorem findReg_laneCtrl {l : Nat} (hl : l < 32) : ∃ d, findReg (Reg.LANE_CTRL l) = some (d, 0) := by
  have hall : ∀ l < 32, (findReg (Reg.LANE_CTRL l)).map Prod.snd = some 0 := by decide +kernel
  obtain ⟨⟨d, r⟩, hd, rfl⟩ := Option.map_eq_some_iff.1 (hall l hl)
  exact ⟨d, hd⟩

/-- No block declines a write of LANE_CTRL. -/
theorem writeRefused_laneCtrl {l : Nat} (hl : l < 32) (src : Nat) (s : State) : writeRefused src (Reg.LANE_CTRL l) s = false := by
  have hword : Reg.LANE_CTRL l / 4 * 4 = Reg.LANE_CTRL l := by simp only [Reg.LANE_CTRL]; omega
  have hlow : 0x400000 ≤ Reg.LANE_CTRL l ∧ Reg.LANE_CTRL l < 0x410000 := by simp only [Reg.LANE_CTRL]; omega
  have hmbox : Reg.LANE_CTRL l ≠ Reg.SEC_MBOX_CTRL ∧ ¬(0xB01000 ≤ Reg.LANE_CTRL l ∧ Reg.LANE_CTRL l < 0xB02000) := by
    simp only [Reg.SEC_MBOX_CTRL]
    omega
  have hpwr : ¬(Reg.LANE_CTRL l = Reg.PWR_CAP ∨ Reg.LANE_CTRL l = Reg.PWR_SHED_CFG ∨ Reg.LANE_CTRL l = Reg.PWR_THERM) := by
    simp only [Reg.PWR_CAP, Reg.PWR_SHED_CFG, Reg.PWR_THERM]
    omega
  have hdma : ¬(0x300000 ≤ Reg.LANE_CTRL l ∧ Reg.LANE_CTRL l < 0x330000) := by omega
  unfold writeRefused
  dsimp only
  rw [hword, decide_eq_false hmbox.1, decide_eq_false hmbox.2, decide_eq_false hpwr, decide_eq_false hdma]
  simp

theorem writeReg_laneCtrl {l v : Nat} (hl : l < 32) (src mask : Nat) (wide : Bool) (d : RegDesc) (s : State) :
    writeReg src (Reg.LANE_CTRL l) mask v wide d s =
      (0, if bitOf v 0 then laneRestart l (if bitOf v 1 then laneClrCeil l s else s) else if bitOf v 1 then laneClrCeil l s else s) := by
  have hrange : 0x400000 ≤ Reg.LANE_CTRL l ∧ Reg.LANE_CTRL l < 0x410000 := by simp only [Reg.LANE_CTRL]; omega
  have hlane : (Reg.LANE_CTRL l - 0x400000) / 0x800 = l := by simp only [Reg.LANE_CTRL]; omega
  unfold writeReg
  rw [if_neg (by omega), if_neg (by omega), if_neg (by omega), if_neg (by omega), if_neg (by omega), if_pos (by omega)]
  unfold writeLane
  dsimp only
  rw [hlane, if_pos rfl]

/-- A direct write of LANE_CTRL is answered OK once its bits have acted. -/
theorem dWrite_laneCtrl {src l v : Nat} {s : State} (hl : l < 32) (hopen : Open src (Reg.LANE_CTRL l) false true v s) :
    dWrite src (Reg.LANE_CTRL l) false v s = directAnswer 0
      (if bitOf (wordValue false v) 0 then laneRestart l (if bitOf (wordValue false v) 1 then laneClrCeil l s else s)
        else if bitOf (wordValue false v) 1 then laneClrCeil l s else s) := by
  have hoff : Reg.LANE_CTRL l < 0x8000000 := by simp only [Reg.LANE_CTRL]; omega
  obtain ⟨d, hd⟩ := findReg_laneCtrl hl
  rw [dWrite_open hoff hopen hd (writeRefused_laneCtrl hl src s), writeReg_laneCtrl hl]
  rfl

theorem lane_directAnswer (l code : Nat) (r t : State) : lane l (inOrder r (directAnswer code t)) = lane l t := rfl

theorem downed_directAnswer {l cause code : Nat} {r s t : State} (h : Downed l cause s t) : Downed l cause s (inOrder r (directAnswer code t)) := h

theorem tetherRestart_effect {src l : Nat} {s : State} (hrun : Running s) (hl : l < 32) (hopen : Open src (Reg.LANE_CTRL l) false true 1 s)
    (hst : laneState l s ≠ 6) :
    Effect (.tetherRestart src l) s fun t => Downed l 7 s t ∧ fld (Reg.LANE_STATUS l) 13 10 t = 0 ∧ t.csr.respCode = 0 := by
  have hrestart : bitOf (wordValue false 1) 0 = true := by decide
  have hclear : bitOf (wordValue false 1) 1 = false := by decide
  have hop : opTetherRestart src l s = directAnswer 0 (enterDetect l 7 s) := by
    rw [opTetherRestart, dWrite_laneCtrl hl hopen, hrestart, hclear, if_pos rfl, if_neg Bool.false_ne_true, laneRestart, if_neg hst]
  refine effect_of_lane (exec_tetherRestart src l s) hrun hl ?_
  rw [hop]
  refine ⟨downed_directAnswer (downed_enterDetect hl 7 s), ?_, respCode_directAnswer 0 s _⟩
  show fld (Reg.LANE_STATUS l) 13 10 (enterDetect l 7 s) = 0
  rw [fld_enterDetect hl (by decide) (by decide), if_pos rfl]
  exact fld_setFld_same _ 13 10 0 _ (by decide)

theorem laneClrCeil_eng (l : Nat) (s : State) : (laneClrCeil l s).eng = s.eng :=
  ((blind_eng l).kept_status 16 14 6 _).trans ((blind_eng l).kept_modLane rfl)

theorem laneCeil_laneClrCeil (l : Nat) (s : State) : laneCeil l (laneClrCeil l s) = 6 := fld_setFld_same _ 16 14 6 _ (by decide)

theorem ceilId_laneClrCeil (l : Nat) (s : State) : (lane l (laneClrCeil l s)).ceilId = none := by
  rw [laneClrCeil, lane_setFld, lane_modLane_same]

theorem laneState_laneClrCeil (l : Nat) (s : State) : laneState l (laneClrCeil l s) = laneState l s :=
  fld_setFld_disjoint _ 16 14 6 2 0 _ (by decide) (.inl (by decide))

theorem opClrCeil_open {src l : Nat} {s : State} (hl : l < 32) (hopen : Open src (Reg.LANE_CTRL l) false true 2 s) :
    opClrCeil src l s = directAnswer 0 (laneClrCeil l s) := by
  have hrestart : bitOf (wordValue false 2) 0 = false := by decide
  have hclear : bitOf (wordValue false 2) 1 = true := by decide
  rw [opClrCeil, dWrite_laneCtrl hl hopen, hrestart, hclear, if_neg Bool.false_ne_true, if_pos rfl]

theorem clrCeil_effect {src l : Nat} {s : State} (hrun : Running s) (hl : l < 32) (hopen : Open src (Reg.LANE_CTRL l) false true 2 s) :
    Effect (.clrCeil src l) s fun t => laneCeil l t = 6 ∧ (lane l t).ceilId = none ∧ laneState l t = laneState l s ∧ t.csr.respCode = 0 ∧
      MemKept s t := by
  have hkept : MemKept s (laneClrCeil l s) := ⟨laneClrCeil_mem l s, laneClrCeil_eng l s⟩
  refine effect_of_lane (exec_clrCeil src l s) hrun hl ?_
  rw [opClrCeil_open hl hopen]
  have hrd := rd_directAnswer (Reg.LANE_STATUS l) 0 s (laneClrCeil l s)
  refine ⟨(fld_of_rd hrd 16 14).trans (laneCeil_laneClrCeil l s), ?_, (fld_of_rd hrd 2 0).trans (laneState_laneClrCeil l s),
    respCode_directAnswer 0 s _, memKept_directAnswer hkept⟩
  rw [lane_directAnswer]
  exact ceilId_laneClrCeil l s

/-- Settles O31: each event of a lane's bring-up by its own effect. -/
theorem tetherBringUp : Obligations.TetherBringUp := by
  unfold Obligations.TetherBringUp
  exact ⟨fun _ _ hrun hl hlive hst => ⟨detectAttempt_effect hrun hl hlive hst, receiverDetected_effect hrun hl hlive hst⟩,
    fun _ _ => bitLock_effect, fun _ _ _ => symbolLock_effect,
    fun l s hrun hl hlive => ⟨laneTimeout_effect (exec_trainTimeout l s) rfl hrun hl hlive, fun _ => lockTimeout_effect hrun hl hlive,
      laneTimeout_effect (exec_capsTimeout l s) rfl hrun hl hlive, fun _ => lockLoss_effect hrun hl hlive, signalLoss_effect hrun hl hlive,
      fun _ => stepTimeout_effect hrun hl hlive⟩,
    fun _ _ _ _ => capsSetReceived_effect, fun _ _ _ _ _ _ => tscReceived_effect, fun _ _ => tscCountZeroSent_effect,
    fun _ _ _ => tetherRestart_effect, fun _ _ _ => clrCeil_effect⟩

end Sys2Proof.Machine
end

section
/-! Ethernet ports (R337, R338, R369): what a link's rise and fall leave of the port, its MAC and its lanes. -/
namespace Sys2Proof.Machine
open Sys2Proof.Safety

/-! ### Registers of a MAC and of a quad -/

theorem macBase_of_lt {m : Nat} (hm : m < 16) : Reg.macBase m = 0x500000 + 0x10000 * m := if_neg (by omega)

theorem macStatus_eq {m : Nat} (hm : m < 16) : Reg.MAC_STATUS m = 0x500004 + 0x10000 * m := by
  rw [Reg.MAC_STATUS, macBase_of_lt hm]
  omega

/-- No register of a MAC but its status is in a lane's view. -/
theorem macReg_beside {m k : Nat} (hm : m < 16) (hk : k < 0x10000 ∧ k ≠ 4) : Beside (Reg.macBase m + k) := by
  rw [macBase_of_lt hm]
  unfold Beside
  omega

theorem gateReg_beside {m k : Nat} (hm : m < 16) (hk : 0x508000 ≤ k ∧ k < 0x510000) : Beside (k + 0x10000 * m) := by
  unfold Beside
  omega

theorem macEvt_beside {m : Nat} (hm : m < 16) : Beside (Reg.MAC_EVT_STATUS m) := macReg_beside (k := 0xC0) hm (by decide)
theorem macDrop_beside {m : Nat} (hm : m < 16) : Beside (Reg.MAC_TX_DROP_CNT m) := macReg_beside (k := 0x13C) hm (by decide)
theorem gateEvt_beside {m : Nat} (hm : m < 16) : Beside (Reg.FHG_EVT_STATUS m) := gateReg_beside (k := 0x508014) hm (by decide)
theorem gateSent_beside {m : Nat} (hm : m < 16) : Beside (Reg.FHG_SENT_CNT m) := gateReg_beside (k := 0x508020) hm (by decide)
theorem gateBlank_beside {m : Nat} (hm : m < 16) : Beside (Reg.FHG_BLANK_CNT m) := gateReg_beside (k := 0x508024) hm (by decide)
theorem gateLate_beside {m : Nat} (hm : m < 16) : Beside (Reg.FHG_LATE_CNT m) := gateReg_beside (k := 0x50802C) hm (by decide)

theorem macStatus_seen {m : Nat} (hm : m < 16) : ¬Beside (Reg.MAC_STATUS m) := by
  rw [macStatus_eq hm]
  unfold Beside
  omega

theorem quadStatus_seen {m : Nat} (hm : m < 16) : ¬Beside (Reg.LANE_QUAD_STATUS (m / 2)) := by
  simp only [Beside, Reg.LANE_QUAD_STATUS]
  omega

theorem quadCfg_seen {m : Nat} (hm : m < 16) : ¬Beside (Reg.LANE_QUAD_CFG (m / 2)) := by
  simp only [Beside, Reg.LANE_QUAD_CFG]
  omega

theorem laneEvt_ne_macStatus {m : Nat} (hm : m < 16) (l : Nat) : Reg.LANE_EVT_STATUS l ≠ Reg.MAC_STATUS m := by
  rw [macStatus_eq hm, Reg.LANE_EVT_STATUS]
  omega

theorem quadCfg_ne_macStatus {m : Nat} (hm : m < 16) : Reg.LANE_QUAD_CFG (m / 2) ≠ Reg.MAC_STATUS m := by
  rw [macStatus_eq hm, Reg.LANE_QUAD_CFG]
  omega

theorem quadStatus_ne_macStatus {m : Nat} (hm : m < 16) : Reg.LANE_QUAD_STATUS (m / 2) ≠ Reg.MAC_STATUS m := by
  rw [macStatus_eq hm, Reg.LANE_QUAD_STATUS]
  omega

theorem quadStatus_ne_laneReg {q l k : Nat} (hk : k % 0x40 ≠ 4) : Reg.LANE_QUAD_STATUS q ≠ k + 0x800 * l := by
  rw [Reg.LANE_QUAD_STATUS]
  omega

theorem quadCfg_ne_laneReg {q l k : Nat} (hk : k % 0x40 ≠ 0) : Reg.LANE_QUAD_CFG q ≠ k + 0x800 * l := by
  rw [Reg.LANE_QUAD_CFG]
  omega

/-! ### The MAC at a change of its link (R369) -/

/-- A view that sees neither a MAC's idle, pause and preemption states nor more of the MACs than their status. -/
structure LinkView {α : Type} (m : Nat) (f : State → α) : Prop extends LaneView f where
  modes : ∀ hi lo x t, hi < 64 → 7 ≤ lo → f (setFld (Reg.MAC_STATUS m) hi lo x t) = f t

theorem linkView_rd {m off : Nat} (hoff : ¬Beside off) (hne : off ≠ Reg.MAC_STATUS m) : LinkView m (rd off) where
  toLaneView := laneView_rd hoff
  modes _ _ _ t _ _ := rd_setFld_other hne _ _ _ t

theorem linkView_macStatus {m hi lo : Nat} (hm : m < 16) (hhi : hi < 7) : LinkView m (fld (Reg.MAC_STATUS m) hi lo) where
  toLaneView := laneView_fld (macStatus_seen hm) hi lo
  modes _ _ _ t h64 h7 := fld_setFld_disjoint _ _ _ _ _ _ t h64 (.inl (by omega))

theorem linkView_eng (m : Nat) : LinkView m State.eng where
  toLaneView := laneView_eng
  modes _ _ _ _ _ _ := rfl

section
variable {α : Type} {f : State → α} (h : LaneView f)
include h

theorem LaneView.kept_modMac (m : Nat) (g : Mac → Mac) (t : State) : f (modMac m g t) = f t := h.rest _ _ rfl rfl rfl rfl
theorem LaneView.kept_modTx (m q : Nat) (g : TxJob → TxJob) (t : State) : f (modTx m q g t) = f t := h.kept_modMac m _ t
theorem LaneView.kept_round (r : Round) (t : State) : f { t with round := r } = f t := h.rest _ _ rfl rfl rfl rfl

variable {m : Nat} (hm : m < 16)
include hm

theorem LaneView.kept_macEvent (bit : Nat) (t : State) : f (macEvent m bit t) = f t := by
  unfold macEvent
  split
  · rfl
  · rw [h.kept_flagEvent (macEvt_beside hm), h.kept_modMac]

theorem LaneView.kept_fhgEvent (bit : Nat) (t : State) : f (fhgEvent m bit t) = f t := by
  unfold fhgEvent
  split
  · rfl
  · rw [h.kept_flagEvent (gateEvt_beside hm), h.kept_modMac]

theorem LaneView.kept_txComplete (q : Nat) (t : State) : f (txComplete m q t) = f t := by
  unfold txComplete
  split
  · rfl
  · dsimp only
    rw [h.kept_postWrite (atNode_mac hm)]
    split
    · rw [h.kept_postWrite (atNode_mac hm), h.kept_modTx]
    · rw [h.kept_modTx]

theorem LaneView.kept_txFail (q code : Nat) (t : State) : f (txFail m q code t) = f t := by
  rw [txFail, h.kept_txComplete hm, h.kept_modTx, h.kept_macEvent hm, h.kept_bump (macDrop_beside hm)]

theorem LaneView.kept_txDownAll (t : State) : f (txDownAll m t) = f t := by
  unfold txDownAll
  split
  · exact forEach_keeps (fun j u => h.kept_txFail hm (TxJob.q j) 4 u) _ t
  · rfl

theorem LaneView.kept_gateTaken (g : GateJob) (t : State) : f (gateTaken m g t) = f t := by
  unfold gateTaken
  dsimp only
  generalize hlate : (if decide (fld (Reg.FHG_LATE_TOL m) 15 0 t < t.time.steps - g.launch) then fhgEvent m 1 (bump (Reg.FHG_LATE_CNT m) t) else t) = u
  have hu : f u = f t := by
    rw [← hlate]
    split
    · rw [h.kept_fhgEvent hm, h.kept_bump (gateLate_beside hm)]
    · rfl
  split
  · rw [h.kept_round, h.kept_fhgEvent hm, h.kept_bump (gateBlank_beside hm), h.kept_modMac, h.kept_postWrite (atNode_fhg hm), h.kept_modMac, hu]
  · rw [h.kept_bump (gateSent_beside hm), h.kept_postWrite (atNode_fhg hm), h.kept_modMac, hu]

theorem LaneView.kept_gateDiscarded (g : GateJob) (t : State) : f (gateDiscarded m g t) = f t := by
  rw [gateDiscarded, h.kept_bump (macDrop_beside hm), h.kept_gateTaken hm]

end

section
variable {α : Type} {f : State → α} {m : Nat} (h : LinkView m f)
include h

theorem LinkView.kept_setHeld (x : Nat) (t : State) : f (setHeld m x t) = f t :=
  (h.modes 9 9 _ _ (by decide) (by decide)).trans (h.kept_modMac m _ t)

theorem LinkView.kept_preStart (t : State) : f (preStart m t) = f t :=
  (h.modes 8 7 _ _ (by decide) (by decide)).trans (h.kept_modMac m _ t)

/-- A change of the link shows in bit 0 of the MAC's status alone. -/
theorem LinkView.seen_macLink (hm : m < 16) (up : Bool) (t : State) : f (macLink m up t) = f (setFld (Reg.MAC_STATUS m) 0 0 (b2n up) t) := by
  have hdiscards : ∀ js u, f (forEach js (gateDiscarded m) u) = f u := fun js u => forEach_keeps (fun g t => h.kept_gateDiscarded hm g t) js u
  unfold macLink
  dsimp only
  rw [h.kept_preStart, h.kept_txDownAll hm]
  generalize hstart : (if up = true then _ else setHeld m 0 _) = u
  have hu : f u = f (setFld (Reg.MAC_STATUS m) 0 0 (b2n up) t) := by
    rw [← hstart]
    split
    · rfl
    · rw [h.kept_setHeld, h.modes 11 10 _ _ (by decide) (by decide)]
      split
      · rw [h.kept_modTx, h.kept_modMac]
      · rw [h.kept_modMac]
  split
  · exact hu
  · exact (hdiscards _ u).trans hu

end

/-! ### The state of a port (R338) -/

/-- A new state of a port shows in its quad's status alone. -/
theorem LaneView.seen_setPort {α : Type} {f : State → α} (h : LaneView f) (m st : Nat) (t : State) :
    f (setPort m st t) = f (setFld (Reg.LANE_QUAD_STATUS (m / 2)) (2 * (m % 2) + 1) (2 * (m % 2)) st t) := by
  unfold setPort
  dsimp only
  split
  · rfl
  · exact h.kept_recLink _ _ _

theorem setPort_eng (m st : Nat) (s : State) : (setPort m st s).eng = s.eng := laneView_eng.seen_setPort m st s

theorem rd_setPort {off m : Nat} (hoff : ¬Beside off) (hne : off ≠ Reg.LANE_QUAD_STATUS (m / 2)) (st : Nat) (s : State) :
    rd off (setPort m st s) = rd off s := ((laneView_rd hoff).seen_setPort m st s).trans (rd_setFld_other hne _ _ _ s)

theorem laneView_portState {m : Nat} (hm : m < 16) : LaneView (portState m) := laneView_fld (quadStatus_seen hm) _ _

theorem portState_setPort {m : Nat} (hm : m < 16) (st : Nat) (s : State) : portState m (setPort m st s) = st % 4 := by
  have hwidth : 2 * (m % 2) + 1 + 1 - 2 * (m % 2) = 2 := by omega
  have hset := fld_setFld_same (Reg.LANE_QUAD_STATUS (m / 2)) (2 * (m % 2) + 1) (2 * (m % 2)) st s (by omega)
  rw [hwidth] at hset
  exact ((laneView_portState hm).seen_setPort m st s).trans hset

theorem portState_of_rd {m : Nat} {s t : State} (h : rd (Reg.LANE_QUAD_STATUS (m / 2)) t = rd (Reg.LANE_QUAD_STATUS (m / 2)) s) :
    portState m t = portState m s := fld_of_rd h _ _

theorem macPort_of_rd {m : Nat} {s t : State} (h : rd (Reg.LANE_QUAD_CFG (m / 2)) t = rd (Reg.LANE_QUAD_CFG (m / 2)) s) :
    macPort m t = macPort m s := by rw [macPort, macPort, h]

theorem portFirst_of_rd {m : Nat} {s t : State} (h : rd (Reg.LANE_QUAD_CFG (m / 2)) t = rd (Reg.LANE_QUAD_CFG (m / 2)) s) :
    portFirst m t = portFirst m s := by rw [portFirst, portFirst, portLanes, portLanes, h]

/-- A port's first lane lies in its quad. -/
theorem portOf_first_lt {cfg side f n r : Nat} {p : Nat × Nat} (h : portOf cfg side = some (f, n, r, p)) : f < 4 := by
  unfold portOf at h
  dsimp only at h
  obtain ⟨⟨f', n'⟩, hlanes, hport⟩ := Option.map_eq_some_iff.1 h
  have hf : f = f' := by
    split at hport <;> exact (congrArg Prod.fst hport).symm
  subst hf
  split at hlanes <;> cases hlanes <;> decide

theorem portFirst_lt {m : Nat} (hm : m < 16) (s : State) : portFirst m s < 32 := by
  unfold portFirst portLanes
  split
  · exact (show m / 2 * 4 < 32 by omega)
  · next f n p hport =>
    have hf : f < 4 := portOf_first_lt hport
    cases n with
    | zero => exact (show m / 2 * 4 < 32 by omega)
    | succ n =>
      simp only [upto, List.range_succ_eq_map, List.map_cons, List.head?_cons, Option.getD_some]
      omega

/-! ### A port goes UP or down -/

/-- The first lane's event and the link's change show in no register but theirs and the quad's status. -/
theorem rd_linkEvent {off m l : Nat} (hm : m < 16) (hoff : ¬Beside off) (hevt : off ≠ Reg.LANE_EVT_STATUS l) (hmac : off ≠ Reg.MAC_STATUS m)
    (up : Bool) (s : State) : rd off (laneEvent l 5 (macLink m up s)) = rd off s :=
  (rd_laneEvent hoff hevt 5 _).trans (((linkView_rd hoff hmac).seen_macLink hm up s).trans (rd_setFld_other hmac _ _ _ s))

theorem fld_macStatus_linkEvent {m hi lo : Nat} (hm : m < 16) (hhi : hi < 7) (l st : Nat) (up : Bool) (s : State) :
    fld (Reg.MAC_STATUS m) hi lo (laneEvent l 5 (macLink m up (setPort m st s))) =
      fld (Reg.MAC_STATUS m) hi lo (setFld (Reg.MAC_STATUS m) 0 0 (b2n up) (setPort m st s)) :=
  (fld_of_rd (rd_laneEvent (macStatus_seen hm) (laneEvt_ne_macStatus hm l).symm 5 _) hi lo).trans
    ((linkView_macStatus hm hhi).seen_macLink hm up _)

theorem portState_linkEvent {m : Nat} (hm : m < 16) (l st : Nat) (up : Bool) (s : State) :
    portState m (laneEvent l 5 (macLink m up (setPort m st s))) = st % 4 :=
  (portState_of_rd (rd_linkEvent hm (quadStatus_seen hm) (quadStatus_ne_laneReg (by decide)) (quadStatus_ne_macStatus hm) up _)).trans
    (portState_setPort hm st s)

theorem eng_linkEvent {m : Nat} (hm : m < 16) (l st : Nat) (up : Bool) (s : State) :
    (laneEvent l 5 (macLink m up (setPort m st s))).eng = s.eng :=
  calc (laneEvent l 5 (macLink m up (setPort m st s))).eng
    _ = (macLink m up (setPort m st s)).eng := (blind_eng l).kept_laneEvent 5 _
    _ = (setPort m st s).eng := (linkView_eng m).seen_macLink hm up _
    _ = s.eng := setPort_eng m st s

/-- MAC_STATUS bit 0 follows the link. -/
theorem flagOn_linkEvent {m : Nat} (hm : m < 16) (l st : Nat) (up : Bool) (s : State) :
    flagOn (Reg.MAC_STATUS m) 0 (laneEvent l 5 (macLink m up (setPort m st s))) = up := by
  rw [flagOn, fld_macStatus_linkEvent hm (by decide), fld_setFld_same _ 0 0 _ _ (by decide)]
  cases up <;> rfl

/-- What a port that goes UP shows: STATE UP, its MAC up, and ETH_LINK of its first lane. -/
theorem portRise_shows {m : Nat} (hm : m < 16) (s : State) :
    portState m (portRise m s) = 3 ∧ flagOn (Reg.MAC_STATUS m) 0 (portRise m s) = true ∧
      flagOn (Reg.LANE_EVT_STATUS (portFirst m s)) 5 (portRise m s) = true := by
  have hfirst : portFirst m (macLink m true (setPort m 3 s)) < 32 := portFirst_lt hm _
  exact ⟨portState_linkEvent hm _ 3 true s, flagOn_linkEvent hm _ 3 true s, flagOn_laneEvent (portFirst_lt hm s) (by decide) _⟩

theorem portRise_eng {m : Nat} (hm : m < 16) (s : State) : (portRise m s).eng = s.eng := eng_linkEvent hm _ 3 true s

/-- The fields of the MAC's status from bit 1 to bit 6 outlast the rise. -/
theorem fld_macStatus_portRise {m hi lo : Nat} (hm : m < 16) (hhi : hi < 7) (hlo : 0 < lo) (s : State) :
    fld (Reg.MAC_STATUS m) hi lo (portRise m s) = fld (Reg.MAC_STATUS m) hi lo s :=
  calc fld (Reg.MAC_STATUS m) hi lo (portRise m s)
    _ = fld (Reg.MAC_STATUS m) hi lo (setFld (Reg.MAC_STATUS m) 0 0 (b2n true) (setPort m 3 s)) := fld_macStatus_linkEvent hm hhi _ 3 true s
    _ = fld (Reg.MAC_STATUS m) hi lo (setPort m 3 s) := fld_setFld_disjoint _ 0 0 _ hi lo _ (by decide) (.inr hlo)
    _ = fld (Reg.MAC_STATUS m) hi lo s := fld_of_rd (rd_setPort (macStatus_seen hm) (quadStatus_ne_macStatus hm).symm 3 s) hi lo

/-! ### Adapted and loaded equalisers -/

/-- Values put in equalisers leave a view that sees none. -/
theorem forEach_equaliser {α : Type} {f : State → α} (h : ∀ l v t, f (wr (Reg.LANE_EQ_STATUS l) v t) = f t) {g : Nat → State → State}
    (hg : ∀ l t, g l t = t ∨ ∃ v, g l t = wr (Reg.LANE_EQ_STATUS l) v t) (ls : List Nat) (s : State) : f (forEach ls g s) = f s :=
  forEach_keeps (fun l t => by
    obtain hsame | ⟨v, hset⟩ := hg l t
    · rw [hsame]
    · rw [hset, h]) ls s

theorem rd_forEach_equaliser {off : Nat} (hoff : off % 0x40 ≠ 0x14) {g : Nat → State → State}
    (hg : ∀ l t, g l t = t ∨ ∃ v, g l t = wr (Reg.LANE_EQ_STATUS l) v t) (ls : List Nat) (s : State) : rd off (forEach ls g s) = rd off s :=
  forEach_equaliser (fun l v t => rd_wr_other (by rw [Reg.LANE_EQ_STATUS]; omega) v t) hg ls s

theorem eng_forEach_equaliser {g : Nat → State → State} (hg : ∀ l t, g l t = t ∨ ∃ v, g l t = wr (Reg.LANE_EQ_STATUS l) v t) (ls : List Nat)
    (s : State) : (forEach ls g s).eng = s.eng := forEach_equaliser (f := State.eng) (fun _ _ _ => rfl) hg ls s

/-- What is written where a condition holds is written or not. -/
theorem equaliser_if (c : Bool) (l : Nat) (v : DWord) (t : State) :
    (if c then wr (Reg.LANE_EQ_STATUS l) v t else t) = t ∨ ∃ v', (if c then wr (Reg.LANE_EQ_STATUS l) v t else t) = wr (Reg.LANE_EQ_STATUS l) v' t := by
  cases c
  · exact .inl rfl
  · exact .inr ⟨v, rfl⟩

theorem quadCfg_mod (q : Nat) : Reg.LANE_QUAD_CFG q % 0x40 ≠ 0x14 := by
  rw [Reg.LANE_QUAD_CFG]
  omega

theorem quadStatus_mod (q : Nat) : Reg.LANE_QUAD_STATUS q % 0x40 ≠ 0x14 := by
  rw [Reg.LANE_QUAD_STATUS]
  omega

/-! ### The commands of a port -/

theorem portState_inOrder (m : Nat) (r t : State) : portState m (inOrder r t) = portState m t := rfl
theorem flag_inOrder (off i : Nat) (r t : State) : flagOn off i (inOrder r t) = flagOn off i t := rfl

/-- Bits of a field of three. -/
theorem flagOn_of_fld {off i : Nat} (hi : 4 ≤ i ∧ i ≤ 6) (s : State) : flagOn off i s = (fld off 6 4 s / 2 ^ (i - 4) % 2 == 1) := by
  have hbit : fld off i i s = fld off 6 4 s / 2 ^ (i - 4) % 2 := by
    obtain rfl | rfl | rfl : i = 4 ∨ i = 5 ∨ i = 6 := by omega
    all_goals simp only [fld, bitsOf, Nat.shiftRight_eq_div_pow]; omega
  rw [flagOn, hbit]

/-- The resolved pause and EEE stand in MAC_STATUS as they are written. -/
theorem flags_resolved (off : Nat) (eee rx tx : Bool) (s : State) :
    let t := setFld off 6 4 (4 * b2n eee + 2 * b2n rx + b2n tx) s
    flagOn off 6 t = eee ∧ flagOn off 5 t = rx ∧ flagOn off 4 t = tx := by
  have hvalue : ∀ e r x : Bool, let v := (4 * b2n e + 2 * b2n r + b2n x) % 2 ^ (6 + 1 - 4)
      (v / 2 ^ (6 - 4) % 2 == 1) = e ∧ (v / 2 ^ (5 - 4) % 2 == 1) = r ∧ (v / 2 ^ (4 - 4) % 2 == 1) = x := by decide
  intro t
  rw [flagOn_of_fld (by decide), flagOn_of_fld (by decide), flagOn_of_fld (by decide), fld_setFld_same off 6 4 _ s (by decide)]
  exact hvalue eee rx tx

theorem anComplete_effect {m : Nat} {same sym asym eee : Bool} {s : State} (hrun : Running s) (hm : m < 16) (hlive : portLive m s = true)
    (hst : portState m s = 1) :
    Effect (.anComplete m same sym asym eee) s fun t => MemKept s t ∧
      let own := flagOn (Reg.MAC_PAUSE_CFG m) 0 s
      let ownAsym := flagOn (Reg.MAC_PAUSE_CFG m) 1 s
      (same = true → portState m t = 2 ∧ flagOn (Reg.MAC_STATUS m) 6 t = (eee && flagOn (Reg.MAC_EEE_CFG m) 0 s) ∧
        flagOn (Reg.MAC_STATUS m) 5 t = (own && sym || own && ownAsym && !sym && asym) ∧
        flagOn (Reg.MAC_STATUS m) 4 t = (own && sym || !own && ownAsym && sym && asym)) ∧
      (same = false → portState m t = 1 ∧ Counted (Reg.LANE_ETH_AN_FAIL_CNT (portFirst m s)) s t) := by
  have hmem := opAnComplete_mem m same sym asym eee s
  refine ⟨_, exec_of_gated (exec_anComplete m same sym asym eee s) hrun (below_of_lt hm), ?_⟩
  unfold opAnComplete at hmem ⊢
  dsimp only at hmem ⊢
  rw [if_pos ⟨hlive, hst⟩] at hmem ⊢
  cases same with
  | true =>
    rw [if_pos rfl] at hmem ⊢
    have hflag : ∀ i u, flagOn (Reg.MAC_STATUS m) i (setPort m 2 u) = flagOn (Reg.MAC_STATUS m) i u := fun i u =>
      congrArg (· == 1) (fld_of_rd (rd_setPort (macStatus_seen hm) (quadStatus_ne_macStatus hm).symm 2 u) i i)
    refine ⟨memKept_inOrder hmem (setPort_eng m 2 _), fun _ => ⟨portState_setPort hm 2 _, ?_⟩, fun h => Bool.noConfusion h⟩
    rw [flag_inOrder, flag_inOrder, flag_inOrder, hflag, hflag, hflag]
    exact flags_resolved _ _ _ _ s
  | false =>
    rw [if_neg Bool.false_ne_true] at hmem ⊢
    refine ⟨memKept_inOrder hmem rfl, fun h => Bool.noConfusion h, fun _ => ⟨?_, counted_inOrder (counted_of_bump rfl rfl)⟩⟩
    have hne : Reg.LANE_QUAD_STATUS (m / 2) ≠ Reg.LANE_ETH_AN_FAIL_CNT (portFirst m s) := quadStatus_ne_laneReg (by decide)
    rw [portState_inOrder, portState_of_rd (rd_bump_other hne s)]
    exact hst

/-- A command that brings a port UP from a state with the same configuration of its quad. -/
theorem effect_of_portRise {c : Instr} {op : State → State} {m : Nat} {s u : State} (he : exec c s = .next (gated false (below 16 m) op s))
    (hrun : Running s) (hm : m < 16) (hop : op s = portRise m u) (hmem : (op s).mem = s.mem) (heng : u.eng = s.eng)
    (hcfg : rd (Reg.LANE_QUAD_CFG (m / 2)) u = rd (Reg.LANE_QUAD_CFG (m / 2)) s) :
    exec c s = .next (inOrder s (portRise m u)) ∧ MemKept s (inOrder s (portRise m u)) ∧ portState m (inOrder s (portRise m u)) = 3 ∧
      flagOn (Reg.MAC_STATUS m) 0 (inOrder s (portRise m u)) = true ∧
      flagOn (Reg.LANE_EVT_STATUS (portFirst m s)) 5 (inOrder s (portRise m u)) = true := by
  have hexec := exec_of_gated he hrun (below_of_lt hm)
  rw [hop] at hmem hexec
  obtain ⟨hup, hmac, hevt⟩ := portRise_shows hm u
  rw [portFirst_of_rd hcfg] at hevt
  rw [portState_inOrder, flag_inOrder, flag_inOrder]
  exact ⟨hexec, memKept_inOrder hmem ((portRise_eng hm u).trans heng), hup, hmac, hevt⟩

theorem linkTrainingComplete_effect {m : Nat} {s : State} (hrun : Running s) (hm : m < 16) (hlive : portLive m s = true) (hst : portState m s = 2) :
    Effect (.linkTrainingComplete m) s fun t => MemKept s t ∧ portState m t = 3 ∧ flagOn (Reg.MAC_STATUS m) 0 t = true ∧
      flagOn (Reg.LANE_EVT_STATUS (portFirst m s)) 5 t = true := by
  have hop : opLinkTrainingComplete m s = portRise m (drawn (forEach (portLanes (m / 2) (m % 2) s)
      (fun l t => if eqAuto l t then wr (Reg.LANE_EQ_STATUS l) (freeNow l s &&& 0x7F0F0F3F) t else t) s)) := if_pos ⟨hlive, hst⟩
  have hput : ∀ l t, (if eqAuto l t then wr (Reg.LANE_EQ_STATUS l) (freeNow l s &&& 0x7F0F0F3F) t else t) = t ∨ ∃ v,
      (if eqAuto l t then wr (Reg.LANE_EQ_STATUS l) (freeNow l s &&& 0x7F0F0F3F) t else t) = wr (Reg.LANE_EQ_STATUS l) v t :=
    fun l t => equaliser_if (eqAuto l t) l _ t
  exact ⟨_, effect_of_portRise (exec_linkTrainingComplete m s) hrun hm hop (opLinkTrainingComplete_mem m s) (eng_forEach_equaliser hput _ s)
    (rd_forEach_equaliser (quadCfg_mod _) hput _ s)⟩

theorem c2mPortUp_effect {m a b c d : Nat} {s : State} (hrun : Running s) (hm : m < 16) (hport : macPort m s = some (a, b, c, 0, d))
    (hlive : portLive m s = true) (hst : portState m s = 0) :
    Effect (.c2mPortUp m) s fun t => MemKept s t ∧ portState m t = 3 ∧ flagOn (Reg.MAC_STATUS m) 0 t = true ∧ fld (Reg.MAC_STATUS m) 6 4 t = 3 ∧
      flagOn (Reg.LANE_EVT_STATUS (portFirst m s)) 5 t = true := by
  have hop : opC2mPortUp m s = portRise m (setFld (Reg.MAC_STATUS m) 6 4 3 (drawn (forEach (portLanes (m / 2) (m % 2) s)
      (fun l t => if eqAuto l t then setFld (Reg.LANE_EQ_STATUS l) 5 0 (freeNow l s).toNat t else t) s))) := by
    unfold opC2mPortUp
    rw [hport]
    exact if_pos ⟨hlive, hst⟩
  have hput : ∀ l t, (if eqAuto l t then setFld (Reg.LANE_EQ_STATUS l) 5 0 (freeNow l s).toNat t else t) = t ∨ ∃ v,
      (if eqAuto l t then setFld (Reg.LANE_EQ_STATUS l) 5 0 (freeNow l s).toNat t else t) = wr (Reg.LANE_EQ_STATUS l) v t :=
    fun l t => equaliser_if (eqAuto l t) l _ t
  obtain ⟨hexec, hkept, hup, hmac, hevt⟩ := effect_of_portRise (exec_c2mPortUp m s) hrun hm hop (opC2mPortUp_mem m s)
    (eng_forEach_equaliser hput _ s) ((rd_setFld_other (quadCfg_ne_macStatus hm) _ _ _ _).trans (rd_forEach_equaliser (quadCfg_mod _) hput _ s))
  refine ⟨_, hexec, hkept, hup, hmac, ?_, hevt⟩
  rw [fld_inOrder, fld_macStatus_portRise hm (by decide) (by decide)]
  exact fld_setFld_same _ 6 4 3 _ (by decide)

/-- A port that was UP falls with its MAC, and its first lane says so. -/
theorem portFall_up {m first : Nat} {s : State} (hst : portState m s = 3) :
    portFall m first s = laneEvent first 5 (macLink m false (setPort m 0 s)) := if_pos hst

/-- Bring-up starts from negotiation, or DOWN on C2M, with the equalisers of the table. -/
theorem portStart_of_port {m a b rate phy d : Nat} {s : State} (hport : macPort m s = some (a, b, rate, phy, d)) :
    portStart m s = forEach (portLanes (m / 2) (m % 2) s) (fun l t => laneEqLoad l (rate + 5) t) (setPort m (if phy = 0 then 0 else 1) s) := by
  unfold portStart
  rw [hport]

theorem portLinkLoss_effect {m a b c phy d : Nat} {s : State} (hrun : Running s) (hm : m < 16) (hport : macPort m s = some (a, b, c, phy, d))
    (hlive : portLive m s = true) (hst : portState m s = 3) :
    Effect (.portLinkLoss m) s fun t => MemKept s t ∧ portState m t = (if phy = 0 then 0 else 1) ∧ flagOn (Reg.MAC_STATUS m) 0 t = false ∧
      flagOn (Reg.LANE_EVT_STATUS (portFirst m s)) 5 t = true := by
  have hfirst : portFirst m s < 32 := portFirst_lt hm s
  generalize hu : laneEvent (portFirst m s) 5 (macLink m false (setPort m 0 s)) = u
  have hcfg : rd (Reg.LANE_QUAD_CFG (m / 2)) u = rd (Reg.LANE_QUAD_CFG (m / 2)) s := by
    rw [← hu, rd_linkEvent hm (quadCfg_seen hm) (quadCfg_ne_laneReg (by decide)) (quadCfg_ne_macStatus hm)]
    exact rd_setPort (quadCfg_seen hm) (by rw [Reg.LANE_QUAD_CFG, Reg.LANE_QUAD_STATUS]; omega) 0 s
  have hop : opPortLinkLoss m s = forEach (portLanes (m / 2) (m % 2) u) (fun l t => laneEqLoad l (c + 5) t)
      (setPort m (if phy = 0 then 0 else 1) u) := by
    have hport' : macPort m u = some (a, b, c, phy, d) := (macPort_of_rd hcfg).trans hport
    unfold opPortLinkLoss
    rw [if_pos ⟨hlive, hst⟩, portFall_up hst, hu, portStart_of_port hport']
  have hput : ∀ l t, laneEqLoad l (c + 5) t = t ∨ ∃ v, laneEqLoad l (c + 5) t = wr (Reg.LANE_EQ_STATUS l) v t := fun l t => .inr ⟨_, rfl⟩
  have hrd : ∀ {off}, off % 0x40 ≠ 0x14 → ¬Beside off → off ≠ Reg.LANE_QUAD_STATUS (m / 2) →
      rd off (opPortLinkLoss m s) = rd off u := fun hmod hoff hne => by
    rw [hop, rd_forEach_equaliser hmod hput, rd_setPort hoff hne]
  have heng : (opPortLinkLoss m s).eng = s.eng := by
    rw [hop, eng_forEach_equaliser hput, setPort_eng, ← hu]
    exact eng_linkEvent hm _ 0 false s
  refine ⟨_, exec_of_gated (exec_portLinkLoss m s) hrun (below_of_lt (Nat.lt_succ_of_lt hm)), memKept_inOrder (opPortLinkLoss_mem m s) heng, ?_, ?_, ?_⟩
  · rw [portState_inOrder, hop, portState_of_rd (rd_forEach_equaliser (quadStatus_mod _) hput _ _), portState_setPort hm]
    split <;> rfl
  · have hmod : Reg.MAC_STATUS m % 0x40 ≠ 0x14 := by
      rw [macStatus_eq hm]
      omega
    rw [flag_inOrder, flagOn, fld_of_rd (hrd hmod (macStatus_seen hm) (quadStatus_ne_macStatus hm).symm)]
    rw [← flagOn, ← hu]
    exact flagOn_linkEvent hm _ 0 false s
  · have hmod : Reg.LANE_EVT_STATUS (portFirst m s) % 0x40 ≠ 0x14 := by
      rw [Reg.LANE_EVT_STATUS]
      omega
    rw [flag_inOrder, flagOn, fld_of_rd (hrd hmod (laneReg_seen hfirst (by decide)) (quadStatus_ne_laneReg (by decide)).symm)]
    rw [← flagOn, ← hu]
    exact flagOn_laneEvent hfirst (by decide) _

/-- Settles O30: each event of a port by its own effect. -/
theorem ethernetPorts : Obligations.EthernetPorts := by
  unfold Obligations.EthernetPorts
  exact ⟨fun _ _ _ _ _ _ => anComplete_effect, fun _ _ => linkTrainingComplete_effect, fun _ _ _ _ _ _ => c2mPortUp_effect,
    fun _ _ _ _ _ _ _ => portLinkLoss_effect⟩

end Sys2Proof.Machine
end

section
/-! Blocks that an ACTIVE Tether lane sends (R352 to R360): what the channels' samples leave of the lanes, and what the block takes. -/
namespace Sys2Proof.Machine
open Sys2Proof.Safety

/-! ### Samples of the channels (R295 to R316) -/

/-- The registers of the CFA lie beside the lanes. -/
theorem beside_of_le {off : Nat} (h : 0x600000 ≤ off) : Beside off := by
  unfold Beside
  omega

theorem chanReg_beside {k : Nat} (hk : 0x840000 ≤ k) (ch : Nat) : Beside (k + 0x100 * ch) := beside_of_le (by omega)

theorem chanStatus_beside (ch : Nat) : Beside (Reg.CFA_CH_STATUS ch) := chanReg_beside (k := 0x840034) (by decide) ch
theorem chanCount_beside (ch : Nat) : Beside (Reg.CFA_CH_COUNT ch) := chanReg_beside (k := 0x840038) (by decide) ch
theorem chanPos_beside (ch : Nat) : Beside (Reg.CFA_CH_ROUND_POS ch) := chanReg_beside (k := 0x84003C) (by decide) ch
theorem chanEnv_beside (ch : Nat) : Beside (Reg.CFA_CH_ENV ch) := chanReg_beside (k := 0x840048) (by decide) ch
theorem chanSat_beside (ch : Nat) : Beside (Reg.CFA_CH_SAT_CNT ch) := chanReg_beside (k := 0x840050) (by decide) ch
theorem chanUnderrun_beside (ch : Nat) : Beside (Reg.CFA_CH_UNDERRUN_CNT ch) := chanReg_beside (k := 0x840054) (by decide) ch
theorem chanDrop_beside (ch : Nat) : Beside (Reg.CFA_CH_DROP_CNT ch) := chanReg_beside (k := 0x840058) (by decide) ch
theorem chanGap_beside (ch : Nat) : Beside (Reg.CFA_CH_GAP_CNT ch) := chanReg_beside (k := 0x84005C) (by decide) ch

/-- A choice between two states that a view does not tell from a third. -/
theorem ite_keeps {α : Type} {f : State → α} {c : Prop} [Decidable c] {a b : State} {x : α} (ha : f a = x) (hb : f b = x) :
    f (if c then a else b) = x := by
  split
  · exact ha
  · exact hb

section
variable {α : Type} {f : State → α} (h : LaneView f)
include h

theorem LaneView.kept_modCfa (ch : Nat) (g : CfaChan → CfaChan) (t : State) : f (modCfa ch g t) = f t := h.rest _ _ rfl rfl rfl rfl
theorem LaneView.kept_setCfa (ch : Nat) (x : CfaChan) (t : State) : f (setCfa ch x t) = f t := h.rest _ _ rfl rfl rfl rfl

theorem LaneView.kept_cfaEvent (ch bit num : Nat) (t : State) : f (cfaEvent ch bit num t) = f t := by
  unfold cfaEvent
  split
  · rfl
  · rw [h.kept_flagEvent (by decide), h.kept_modCfa]

theorem LaneView.kept_stageIn (ch i : Nat) (x : Int × Int) (t : State) : f (stageIn ch i x t).2 = f t := by
  unfold stageIn
  dsimp only
  refine ite_keeps (h.kept_modCfa ch _ t) ?_
  rw [h.kept_cfaEvent, h.kept_bumpBy (chanSat_beside ch), h.kept_modCfa]

theorem LaneView.kept_stagesIn (ch k i : Nat) (xs : List (Int × Int)) (t : State) : f (stagesIn ch k i xs t).2 = f t := by
  induction k generalizing i xs t with
  | zero => rfl
  | succ k ih =>
    unfold stagesIn
    refine (ih _ _ _).trans (foldl_keeps (f := fun a : List (Int × Int) × State => f a.2) (fun a x => ?_) xs ([], t))
    exact h.kept_stageIn ch i x a.2

theorem LaneView.kept_alignIn (ch : Nat) (x : Int × Int) (t : State) : f (alignIn ch x t).2 = f t := by
  unfold alignIn
  dsimp only
  split
  · refine ite_keeps ?_ (h.kept_modCfa ch _ t)
    rw [h.kept_cfaEvent, h.kept_bump (chanSat_beside ch), h.kept_modCfa]
  · exact h.rest _ _ rfl rfl rfl rfl

theorem LaneView.kept_detectIn (ch : Nat) (x : Int × Int) (t : State) : f (detectIn ch x t) = f t := by
  have hset : ∀ v c, f (Machine.wr (Reg.CFA_CH_ENV ch) v (setCfa ch c t)) = f t := fun v c =>
    (h.wr _ v _ (chanEnv_beside ch)).trans (h.kept_setCfa ch c t)
  exact ite_keeps ((h.kept_cfaEvent _ _ _ _).trans (hset _ _)) (hset _ _)

theorem LaneView.kept_lineOut (ch c : Nat) (xs : List (Int × Int)) (t : State) : f (lineOut ch c xs t) = f t := by
  unfold lineOut
  split
  · rw [h.kept_cfaEvent, h.kept_bumpBy (chanDrop_beside ch)]
  · exact h.kept_postWrite (atNode_cfa ch) _ _ _ _ t

theorem LaneView.kept_carrierUp (ch : Nat) (x : Int × Int) (t : State) : f (carrierUp ch x t) = f t := by
  have hcount : ∀ v u, f (Machine.wr (Reg.CFA_CH_COUNT ch) v u) = f u := fun v u => h.wr _ v u (chanCount_beside ch)
  unfold carrierUp
  dsimp only
  generalize hin : (if cgDet (cfaCfg ch t) = 1 then detectIn ch (alignIn ch x t).1 (alignIn ch x t).2 else (alignIn ch x t).2) = u
  have hu : f u = f t := by
    rw [← hin]
    exact ite_keeps ((h.kept_detectIn ch _ _).trans (h.kept_alignIn ch x t)) (h.kept_alignIn ch x t)
  refine ite_keeps ?_ ?_
  · rw [h.kept_modCfa, hcount, hu]
  · rw [h.kept_lineOut, h.kept_modCfa, hcount, hu]

theorem LaneView.kept_linkUpIn (ch : Nat) (x : Int × Int) (t : State) : f (linkUpIn ch x t) = f t := by
  unfold linkUpIn
  dsimp only
  generalize hin : (if cgDet (cfaCfg ch t) = 0 then detectIn ch x t else t) = u
  have hu : f u = f t := by
    rw [← hin]
    exact ite_keeps (h.kept_detectIn ch x t) rfl
  exact (foldl_keeps (fun v y => h.kept_carrierUp ch y v) _ _).trans ((h.kept_stagesIn ch _ _ _ u).trans hu)

theorem LaneView.kept_cfaUp (ch : Nat) (xs : List (Int × Int)) (t : State) : f (cfaUp ch xs t) = f t :=
  foldl_keeps (fun v y => h.kept_linkUpIn ch y v) xs t

theorem LaneView.kept_cfaUpZero (ch k : Nat) (t : State) : f (cfaUpZero ch k t) = f t :=
  (h.kept_bumpBy (chanGap_beside ch) k _).trans (h.kept_cfaUp ch _ t)

theorem LaneView.kept_cfaMark (ch : Nat) (t : State) : f (cfaMark ch t) = f t := h.wr _ _ t (chanPos_beside ch)

theorem LaneView.kept_cfaMarks (chs : List Nat) (t : State) : f (forEach chs (fun ch u => cfaMark ch u) t) = f t :=
  forEach_keeps (fun ch u => h.kept_cfaMark ch u) chs t

theorem LaneView.kept_carrierDown (ch : Nat) (t : State) : f (carrierDown ch t) = f t := by
  have hcount : ∀ v u, f (Machine.wr (Reg.CFA_CH_COUNT ch) v u) = f u := fun v u => h.wr _ v u (chanCount_beside ch)
  have hmiss : ∀ c : Bool, f (if c then cfaEvent ch 3 0x403 (setFlag (Reg.CFA_CH_STATUS ch) 30 t) else t) = f t := fun c =>
    ite_keeps ((h.kept_cfaEvent _ _ _ _).trans (h.kept_setFld (chanStatus_beside ch) _ _ _ t)) rfl
  have hdet : ∀ x u, f (if cgDet (cfaCfg ch t) = 1 then detectIn ch x u else u) = f u := fun x u => ite_keeps (h.kept_detectIn ch x u) rfl
  unfold carrierDown
  dsimp only
  rw [h.kept_modCfa, h.kept_stagesIn, h.kept_alignIn, hcount, hdet, hmiss]

theorem LaneView.kept_cfaDown (ch k n : Nat) (t : State) : f (cfaDown ch k n t).2 = f t := by
  induction n generalizing t with
  | zero => exact h.rest _ _ rfl rfl rfl rfl
  | succ n ih =>
    unfold cfaDown
    split
    · exact h.rest _ _ rfl rfl rfl rfl
    · exact (ih _).trans (h.kept_carrierDown ch t)

theorem LaneView.kept_cfaSend (ch k : Nat) (t : State) : f (cfaSend ch k t).2 = f t := by
  unfold cfaSend
  dsimp only
  generalize hsent : (if cfaBlank ch (cfaDown ch k k t).2 then bumpBy (Reg.CFA_CH_UNDERRUN_CNT ch) _ (cfaDown ch k k t).2
    else (cfaDown ch k k t).2) = u
  have hu : f u = f t := by
    rw [← hsent, ← h.kept_cfaDown ch k k t]
    exact ite_keeps (h.kept_bumpBy (chanUnderrun_beside ch) _ _) rfl
  exact ite_keeps ((foldl_keeps (fun v x => h.kept_detectIn ch (Prod.fst x) v) _ u).trans hu) hu

theorem LaneView.kept_streamOut (l st r : Nat) (t : State) : f (streamOut l st r t).2 = f t := by
  unfold streamOut
  dsimp only
  refine foldl_keeps (f := fun a : List ((Int × Int) × Bool) × State => f a.2) (fun a ch => ?_) _ _
  exact h.kept_cfaSend ch r a.2

theorem LaneView.kept_streamsOut (l : Nat) (rs : List Nat) (st : Nat) (t : State) : f (streamsOut l rs st t).2 = f t := by
  induction rs generalizing st t with
  | nil => rfl
  | cons r rs ih =>
    unfold streamsOut
    split
    · exact ih _ t
    · dsimp only
      rw [ih, h.kept_streamOut]

theorem LaneView.kept_chanIn (ch off r : Nat) (bs : List Byte) (how : Nat) (t : State) : f (chanIn ch off r bs how t) = f t := by
  have hgap : f (setFld (Reg.CFA_CH_STATUS ch) 29 29 0 t) = f t := h.kept_setFld (chanStatus_beside ch) _ _ _ t
  exact ite_keeps ((h.kept_cfaUp ch _ _).trans hgap)
    (ite_keeps ((h.kept_cfaUp ch _ _).trans hgap) ((h.kept_cfaUpZero ch r _).trans hgap))

/-- The samples of a received block reach no lane. -/
theorem LaneView.kept_blockSamples (l : Nat) (bs : List Byte) (bad : Nat) (t : State) : f (blockSamples l bs bad t) = f t :=
  forEach_keeps (fun ch u => h.kept_chanIn ch _ _ bs _ u) _ t

end

/-! ### A block sent (R352, R357, R360) -/

/-- Two views together. -/
theorem LaneView.prod {α β : Type} {f : State → α} {g : State → β} (hf : LaneView f) (hg : LaneView g) : LaneView fun t => (f t, g t) where
  wr off v t hb := Prod.ext (hf.wr off v t hb) (hg.wr off v t hb)
  rest t u hcsr hlane hmem heng := Prod.ext (hf.rest t u hcsr hlane hmem heng) (hg.rest t u hcsr hlane hmem heng)

/-- What a lane shows of itself as it sends: its record, its state, and the engines. -/
def laneSight (l : Nat) (s : State) := (lane l s, laneState l s, s.eng)

theorem laneView_sight {l : Nat} (hl : l < 32) : LaneView (laneSight l) :=
  (laneView_lane.comp fun a => tabGet (fun _ => ({} : Lane)) a l).prod ((laneView_status hl 2 0).prod laneView_eng)

theorem laneSight_eq {l : Nat} {s t : State} (h : laneSight l t = laneSight l s) :
    lane l t = lane l s ∧ laneState l t = laneState l s ∧ t.eng = s.eng := by
  obtain ⟨hlane, hrest⟩ := Prod.ext_iff.1 h
  exact ⟨hlane, Prod.ext_iff.1 hrest⟩

/-- The WORD of block `blk`, from the state `r` in which the block begins: the Round, the turn, or eight bytes of the control channel. -/
def wordOut (l blk turn : Nat) (r s : State) : List Byte × State :=
  if blk = 0 then (leBytes 8 (roundNow r), s) else if blk = 1 then (leBytes 4 turn ++ leBytes 4 0, s) else ctlOut l s

/-- A lane whose block has left; `on` says that it carries LEAVE. -/
def Lane.blockSent (on : Bool) (y : Lane) : Lane :=
  { y with
    blk := if y.super then y.blk + 1 else y.blk, leave := if on then 2 else y.leave, leaveSent := if on then y.leaveSent + 1 else y.leaveSent }

/-- Does the next block of a lane carry LEAVE (R356)? -/
def Lane.carriesLeave (x : Lane) (blk : Nat) : Bool := decide (x.leave = 1) && (!x.super || decide (blk = 0)) || decide (x.leave = 2)

/-- The number of the next block of a lane: 0xFFFF for an idle one. -/
def Lane.nextBlock (x : Lane) : Nat := if x.super then x.blk else 0xFFFF

/-- A block sent takes the samples, then its word, then counts; only the record of its characters and the disparity come after. -/
theorem opTetherBlockSend_blockOut {l : Nat} {s : State} (hl : l < 32) (hst : laneState l s = 5) (hquiet : (lane l s).quiet = false)
    (hloop : laneLoop l s = 0) (turn : Nat) (cut : Option Nat) (word : Nat) :
    ∃ p r bs, laneSight l p = laneSight l s ∧ laneSight l r = laneSight l (wordOut l (lane l s).nextBlock turn s p).2 ∧
      opTetherBlockSend l turn cut .clean word s =
        blockOut l bs (modLane l (Lane.blockSent ((lane l s).carriesLeave (lane l s).nextBlock)) r) := by
  have hview := laneView_sight hl
  unfold opTetherBlockSend
  dsimp only [cfaMemErr]
  rw [if_pos ⟨hst, hquiet, .inl hloop⟩]
  generalize hmarks : (if (if (lane l s).super then (lane l s).blk else 0xFFFF) = 0 then forEach (laneChans l true s) (fun ch t => cfaMark ch t) s
    else s) = u
  have hu : laneSight l u = laneSight l s := by
    rw [← hmarks]
    exact ite_keeps (hview.kept_cfaMarks _ s) rfl
  generalize hstreams : (if (lane l s).super then streamsOut l (laneMap l true u) 0 u else (([], 2 ^ 64 - 1), u)) = p
  have hp : laneSight l p.2 = laneSight l s := by
    rw [← hstreams, ← hu]
    split
    · exact hview.kept_streamsOut l _ _ u
    · rfl
  refine ⟨p.2, _, _, hp, ?_, rfl⟩
  exact ite_keeps (hview.kept_round _ _) rfl

/-- A block that leaves, as it is captured in Replay or recorded (R512, R519). -/
def blockRecorded (l : Nat) (bs : List Byte) (s : State) : State :=
  if inReplay s then (if recSelLane l s then recCapture 0x12 l (blockRecord l bs s) s else s)
  else if recSelLane l s && flagOn Reg.REC_CFG 30 s then recAppend 0x12 l (blockRecord l bs s) s else s

theorem LaneView.kept_blockRecorded {α : Type} {f : State → α} (h : LaneView f) (l : Nat) (bs : List Byte) (t : State) :
    f (blockRecorded l bs t) = f t :=
  ite_keeps (ite_keeps (h.kept_recCapture _ _ _ t) rfl) (ite_keeps (h.kept_recAppend _ _ _ t) rfl)

/-- A lane with another disparity to send with, and other blocks on their way back to it. -/
def Lane.looped (tx : Bool) (back : List (List Nat)) (x : Lane) : Lane := { x with txRd := tx, back := back }

/-- Only the disparity and the loop's blocks of a lane change once its block is recorded. -/
theorem blockOut_recorded (l : Nat) (bs : List Byte) (s : State) :
    ∃ g : Lane → Lane, (∀ x, ∃ tx back, g x = x.looped tx back) ∧ blockOut l bs s = modLane l g (blockRecorded l bs s) :=
  ⟨_, fun _ => ⟨_, _, rfl⟩, rfl⟩

theorem lane_blockOut (l : Nat) (bs : List Byte) (s : State) : ∃ tx back, lane l (blockOut l bs s) = (lane l s).looped tx back := by
  obtain ⟨g, hg, hout⟩ := blockOut_recorded l bs s
  rw [hout, lane_modLane_same, lane_congr (laneView_lane.kept_blockRecorded l bs s)]
  exact hg _

/-- A view blind to the state machine does not see a block leave. -/
theorem Blind.kept_blockOut {α : Type} {f : State → α} {l : Nat} (h : Blind l f) (bs : List Byte) (t : State) : f (blockOut l bs t) = f t := by
  obtain ⟨g, hg, hout⟩ := blockOut_recorded l bs t
  rw [hout, h.kept_modLane, h.kept_blockRecorded]
  obtain ⟨tx, back, hlane⟩ := hg (Machine.lane l (blockRecorded l bs t))
  rw [hlane]
  rfl

theorem laneState_modLane (l : Nat) (g : Lane → Lane) (s : State) : laneState l (modLane l g s) = laneState l s := rfl

theorem laneState_blockOut {l : Nat} (hl : l < 32) (bs : List Byte) (s : State) : laneState l (blockOut l bs s) = laneState l s := by
  obtain ⟨g, -, hout⟩ := blockOut_recorded l bs s
  rw [hout, laneState_modLane]
  exact (laneView_status hl 2 0).kept_blockRecorded l bs s

theorem lane_ctlTxNext (k l : Nat) (s : State) : lane k (ctlTxNext l s) = lane k s := lane_setFld k _ _ _ _ s

/-- The control channel's eight bytes leave the message. -/
theorem lane_ctlOut (l : Nat) (s : State) : lane l (ctlOut l s).2 = { lane l s with ctlTx := (lane l s).ctlTx.drop 8 } := by
  have hmod := lane_modLane_same l (fun x => { x with ctlTx := (lane l s).ctlTx.drop 8 }) s
  unfold ctlOut
  dsimp only
  refine ite_keeps (f := lane l) ?_ hmod
  rw [lane_ctlTxNext, hmod]

theorem laneState_ctlTxNext (l : Nat) (s : State) : laneState l (ctlTxNext l s) = laneState l s :=
  fld_setFld_other (laneReg_ne (by decide) l) 2 0 23 16 _ s

theorem laneState_ctlOut (l : Nat) (s : State) : laneState l (ctlOut l s).2 = laneState l s := by
  unfold ctlOut
  dsimp only
  exact ite_keeps ((laneState_ctlTxNext l _).trans (laneState_modLane l _ s)) (laneState_modLane l _ s)

theorem eng_ctlOut (l : Nat) (s : State) : (ctlOut l s).2.eng = s.eng := by
  unfold ctlOut
  dsimp only
  have hmod : ∀ g, (modLane l g s).eng = s.eng := fun _ => rfl
  exact ite_keeps (((blind_eng l).pointers _ _).trans (hmod _)) (hmod _)

/-- The word of a block moves the control channel on from block 2, and changes nothing else of the lane. -/
theorem wordOut_sight (l blk turn : Nat) (r s : State) :
    lane l (wordOut l blk turn r s).2 = { lane l s with ctlTx := if blk < 2 then (lane l s).ctlTx else (lane l s).ctlTx.drop 8 } ∧
      laneState l (wordOut l blk turn r s).2 = laneState l s ∧ (wordOut l blk turn r s).2.eng = s.eng := by
  unfold wordOut
  split
  · next h0 =>
    rw [if_pos (by omega)]
    exact ⟨rfl, rfl, rfl⟩
  · split
    · next h1 =>
      rw [if_pos (by omega)]
      exact ⟨rfl, rfl, rfl⟩
    · rw [if_neg (by omega)]
      exact ⟨lane_ctlOut l s, laneState_ctlOut l s, eng_ctlOut l s⟩

theorem tetherBlockSend_effect {l turn : Nat} {cut : Option Nat} {word : Nat} {s : State} (hrun : Running s) (hl : l < 32) (hst : laneState l s = 5)
    (hquiet : (lane l s).quiet = false) (hloop : laneLoop l s = 0) :
    Effect (.tetherBlockSend l turn cut .clean word) s fun t => MemKept s t ∧ laneState l t = 5 ∧
      (lane l t).blk = (if (lane l s).super then (lane l s).blk + 1 else (lane l s).blk) ∧
      ((lane l s).super = false ∨ 2 ≤ (lane l s).blk → (lane l t).ctlTx = (lane l s).ctlTx.drop 8) ∧
      ((lane l s).super = false → (lane l s).leave = 1 → (lane l t).leave = 2 ∧ (lane l t).leaveSent = (lane l s).leaveSent + 1) := by
  obtain ⟨p, r, bs, hp, hr, hop⟩ := opTetherBlockSend_blockOut hl hst hquiet hloop turn cut word
  obtain ⟨hlanep, hstatep, hengp⟩ := laneSight_eq hp
  obtain ⟨hlaner, hstater, hengr⟩ := laneSight_eq hr
  obtain ⟨hlanew, hstatew, hengw⟩ := wordOut_sight l (lane l s).nextBlock turn s p
  have hmem := opTetherBlockSend_mem l turn cut .clean word s
  rw [hop] at hmem
  generalize hon : (lane l s).carriesLeave (lane l s).nextBlock = on at hop hmem
  have heng : (blockOut l bs (modLane l (Lane.blockSent on) r)).eng = s.eng :=
    ((blind_eng l).kept_blockOut bs _).trans (((blind_eng l).kept_modLane rfl).trans (hengr.trans (hengw.trans hengp)))
  have hstate : laneState l (blockOut l bs (modLane l (Lane.blockSent on) r)) = 5 := by
    rw [laneState_blockOut hl, laneState_modLane, hstater, hstatew, hstatep, hst]
  obtain ⟨tx, back, hlane⟩ := lane_blockOut l bs (modLane l (Lane.blockSent on) r)
  rw [lane_modLane_same, hlaner, hlanew, hlanep] at hlane
  refine effect_of_lane (exec_tetherBlockSend l turn cut .clean word s) hrun hl ?_
  rw [hop, lane_inOrder, laneState_inOrder, hlane]
  refine ⟨memKept_inOrder hmem heng, hstate, rfl, fun hword => ?_, fun hidle hleave => ?_⟩
  · refine if_neg fun hlt => ?_
    unfold Lane.nextBlock at hlt
    split at hlt
    · next hsuper =>
      have hlate : 2 ≤ (lane l s).blk := hword.resolve_left (ne_true_of_eq_false · hsuper)
      omega
    · exact absurd hlt (by decide)
  · have hcarries : on = true := by rw [← hon, Lane.carriesLeave, hidle, hleave]; rfl
    subst hcarries
    exact ⟨rfl, rfl⟩

end Sys2Proof.Machine
end

section
/-! Blocks that an ACTIVE Tether lane receives (R339, R343, R354 to R362). -/
namespace Sys2Proof.Machine
open Sys2Proof.Safety

/-! ### The header of a good block (R354, R355, R357) -/

/-- A view that sees of a block's header neither the Round, the delay and the counts of the control channel, nor more of the lane than its
partner's echo and its blocks with no K. -/
structure Aside {α : Type} (l : Nat) (f : State → α) : Prop extends LaneView f where
  round : ∀ v t, f (Machine.wr (Reg.LANE_TRX_ROUND l) v t) = f t
  delay : ∀ v t, f (Machine.wr (Reg.LANE_TDELAY l) v t) = f t
  errors : ∀ v t, f (Machine.wr (Reg.LANE_TCTL_ERR_CNT l) v t) = f t
  drops : ∀ v t, f (Machine.wr (Reg.LANE_TCTL_DROP_CNT l) v t) = f t
  lane : ∀ x t, x.echo = (Machine.lane l t).echo → x.noK = (Machine.lane l t).noK → f (setLane l x t) = f t

theorem aside_rd {l off : Nat} (hoff : ¬Beside off) (hround : off ≠ Reg.LANE_TRX_ROUND l) (hdelay : off ≠ Reg.LANE_TDELAY l)
    (herr : off ≠ Reg.LANE_TCTL_ERR_CNT l) (hdrop : off ≠ Reg.LANE_TCTL_DROP_CNT l) : Aside l (rd off) where
  toLaneView := laneView_rd hoff
  round v t := rd_wr_other hround v t
  delay v t := rd_wr_other hdelay v t
  errors v t := rd_wr_other herr v t
  drops v t := rd_wr_other hdrop v t
  lane _ _ _ _ := rfl

theorem aside_laneReg {l k : Nat} (hl : l < 32) (hk : 0x400000 ≤ k ∧ k < 0x400800)
    (hown : k ≠ 0x400040 ∧ k ≠ 0x400038 ∧ k ≠ 0x4000DC ∧ k ≠ 0x4000D8) : Aside l (rd (k + 0x800 * l)) := by
  obtain ⟨hround, hdelay, herr, hdrop⟩ := hown
  exact aside_rd (laneReg_seen hl hk) (laneReg_ne hround l) (laneReg_ne hdelay l) (laneReg_ne herr l) (laneReg_ne hdrop l)

theorem aside_eng (l : Nat) : Aside l State.eng where
  toLaneView := laneView_eng
  round _ _ := rfl
  delay _ _ := rfl
  errors _ _ := rfl
  drops _ _ := rfl
  lane _ _ _ _ := rfl

theorem aside_echo (l : Nat) : Aside l fun t => (lane l t).echo where
  toLaneView := laneView_lane.comp fun a => (tabGet (fun _ => ({} : Lane)) a l).echo
  round _ _ := rfl
  delay _ _ := rfl
  errors _ _ := rfl
  drops _ _ := rfl
  lane x t he _ := (congrArg Lane.echo (lane_setLane_same l x t)).trans he

theorem aside_noK (l : Nat) : Aside l fun t => (lane l t).noK where
  toLaneView := laneView_lane.comp fun a => (tabGet (fun _ => ({} : Lane)) a l).noK
  round _ _ := rfl
  delay _ _ := rfl
  errors _ _ := rfl
  drops _ _ := rfl
  lane x t _ hk := (congrArg Lane.noK (lane_setLane_same l x t)).trans hk

/-- What a good block's header reports of the partner: its echo, its request, and whether it echoes this end's (R355). -/
def headerReport (l : Nat) (bs : List Byte) (s : State) : State :=
  let echo := leAt bs 20 1
  let t := setFld (Reg.LANE_TPM_STATUS l) 1 0 (leAt bs 19 1) (modLane l (fun x => { x with echo := some echo }) s)
  setFld (Reg.LANE_TPM_STATUS l) 16 16 (b2n (decide (echo = fld (Reg.LANE_TPM_STATUS l) 15 8 t))) t

section
variable {α : Type} {f : State → α} {l : Nat} (h : Aside l f)
include h

theorem Aside.kept_modLane {g : Lane → Lane} {t : State} (he : (g (Machine.lane l t)).echo = (Machine.lane l t).echo)
    (hk : (g (Machine.lane l t)).noK = (Machine.lane l t).noK) : f (modLane l g t) = f t := h.lane _ _ he hk

theorem Aside.kept_ctlMessage (hl : l < 32) (msg : List Byte) (t : State) : f (ctlMessage l msg t) = f t := by
  have hpend : ∀ n, f (modLane l (fun x => { x with rxPend := x.rxPend ++ [n] }) t) = f t := fun _ => h.kept_modLane rfl rfl
  unfold ctlMessage
  dsimp only
  refine ite_keeps (h.drops _ t) ?_
  rw [h.kept_postPieces (atNode_lane hl), hpend]

theorem Aside.kept_ctlHunt (hl : l < 32) (n : Nat) (t : State) : f (ctlHunt l n t) = f t := by
  have hrest : ∀ r u, f (modLane l (fun x => { x with ctlRx := r }) u) = f u := fun _ _ => h.kept_modLane rfl rfl
  have herr : ∀ u, f (bump (Reg.LANE_TCTL_ERR_CNT l) u) = f u := fun u => h.errors _ u
  induction n generalizing t with
  | zero => rfl
  | succ n ih =>
    unfold ctlHunt
    split
    · rfl
    · rw [ih, hrest]
    · rw [ih, herr, hrest]
    · rw [ih, h.kept_ctlMessage hl, hrest]

theorem Aside.kept_ctlIn (hl : l < 32) (bs : List Byte) (t : State) : f (ctlIn l bs t) = f t :=
  (h.kept_ctlHunt hl _ _).trans (h.kept_modLane rfl rfl)

/-- Of a good block's header the report alone is seen. -/
theorem Aside.seen_blockHeader (hl : l < 32) (bs : List Byte) (arrive : Nat) (t : State) :
    f (blockHeader l bs arrive t) = f (headerReport l bs t) := by
  have hround : ∀ u, f (modLane l (fun x => { x with got0 := some arrive }) u) = f u := fun _ => h.kept_modLane rfl rfl
  have hmeas : ∀ u, f (modLane l (fun x => { x with meas := true }) u) = f u := fun _ => h.kept_modLane rfl rfl
  unfold blockHeader
  dsimp only
  split
  · rw [h.round, hround]
    rfl
  · split
    · split
      · rw [h.delay, hmeas]
        rfl
      · rfl
    · rw [h.kept_ctlIn hl]
      rfl

end

/-! ### A block taken (R360 to R362) -/

/-- The lane as a block is taken: a first block takes the map and marks the Round at its channels. -/
def blockBegun (l : Nat) (first : Bool) (s : State) : State :=
  if first then
    (let t := modLane l (fun x => { x with rxMap := laneMap l false s, got0 := none }) s
     forEach (laneChans l false t) (fun ch u => cfaMark ch u) t)
  else s

/-- A block entered in the receive path, but for the LEAVE it may carry. -/
def blockHeard (l : Nat) (bs : List Byte) (first : Bool) (arrive : Nat) (s : State) : State :=
  if bs.length < blockLen (laneRate l s) then blockSamples l [] 2 (bump (Reg.LANE_TSHORT_CNT l) (blockBegun l first s))
  else if blockGood l bs s then blockSamples l bs 0 (blockHeader l bs arrive (blockBegun l first s))
  else blockSamples l [] 1 (laneEventOnce l 3 (bump (Reg.LANE_TCRC_CNT l) (blockBegun l first s)))

theorem blockGood_length {l : Nat} {bs : List Byte} {s : State} (h : blockGood l bs s = true) : bs.length = blockLen (laneRate l s) :=
  of_decide_eq_true (Bool.and_eq_true_iff.1 h).1

/-- A good block with LEAVE takes the lane to DETECT (R343, cause 6). -/
theorem blockTaken_leave {l : Nat} {bs : List Byte} {s : State} (hgood : blockGood l bs s = true) (hleave : bitOf (leAt bs 22 1) 0 = true)
    (first : Bool) (arrive : Nat) : blockTaken l bs first arrive s = enterDetect l 6 (blockHeard l bs first arrive s) := by
  have hwhole : ¬bs.length < blockLen (laneRate l s) := (blockGood_length hgood).not_lt
  unfold blockTaken blockHeard
  rw [if_neg hwhole, if_neg hwhole, if_pos hgood, if_pos hgood]
  exact if_pos hleave

theorem blockTaken_stays {l : Nat} {bs : List Byte} {s : State} (h : blockGood l bs s = false ∨ bitOf (leAt bs 22 1) 0 = false)
    (first : Bool) (arrive : Nat) : blockTaken l bs first arrive s = blockHeard l bs first arrive s := by
  unfold blockTaken blockHeard
  dsimp only
  split
  · rfl
  · split
    · next hgood => exact if_neg (ne_true_of_eq_false (h.resolve_left (ne_false_of_eq_true hgood)))
    · rfl

/-- A view that sees nothing a block brings but its loss of lock and its code violations. -/
structure Deaf {α : Type} (l : Nat) (f : State → α) : Prop extends Aside l f where
  events : ∀ v t, f (Machine.wr (Reg.LANE_EVT_STATUS l) v t) = f t
  short : ∀ v t, f (Machine.wr (Reg.LANE_TSHORT_CNT l) v t) = f t
  broken : ∀ v t, f (Machine.wr (Reg.LANE_TCRC_CNT l) v t) = f t
  report : ∀ v t, f (Machine.wr (Reg.LANE_TPM_STATUS l) v t) = f t
  echo : ∀ e t, f (modLane l (fun x => { x with echo := e }) t) = f t

theorem deaf_rd {l off : Nat} (h : Aside l (rd off)) (hevt : off ≠ Reg.LANE_EVT_STATUS l) (hshort : off ≠ Reg.LANE_TSHORT_CNT l)
    (hcrc : off ≠ Reg.LANE_TCRC_CNT l) (hpm : off ≠ Reg.LANE_TPM_STATUS l) : Deaf l (rd off) where
  toAside := h
  events v t := rd_wr_other hevt v t
  short v t := rd_wr_other hshort v t
  broken v t := rd_wr_other hcrc v t
  report v t := rd_wr_other hpm v t
  echo _ _ := rfl

theorem deaf_laneReg {l k : Nat} (hl : l < 32) (hk : 0x400000 ≤ k ∧ k < 0x400800)
    (haside : k ≠ 0x400040 ∧ k ≠ 0x400038 ∧ k ≠ 0x4000DC ∧ k ≠ 0x4000D8)
    (hown : k ≠ 0x4000B0 ∧ k ≠ 0x4000D4 ∧ k ≠ 0x4000CC ∧ k ≠ 0x40004C) : Deaf l (rd (k + 0x800 * l)) := by
  obtain ⟨hevt, hshort, hcrc, hpm⟩ := hown
  exact deaf_rd (aside_laneReg hl hk haside) (laneReg_ne hevt l) (laneReg_ne hshort l) (laneReg_ne hcrc l) (laneReg_ne hpm l)

/-- The number of the Round is no lane's register. -/
theorem roundNow_ne {k : Nat} (hk : 0x400000 ≤ k) (l : Nat) : Reg.ROUND_NOW ≠ k + 0x800 * l := by
  rw [Reg.ROUND_NOW]
  omega

theorem deaf_roundNow (l : Nat) : Deaf l (rd Reg.ROUND_NOW) :=
  deaf_rd (aside_rd (by decide) (roundNow_ne (by decide) l) (roundNow_ne (by decide) l) (roundNow_ne (by decide) l) (roundNow_ne (by decide) l))
    (roundNow_ne (by decide) l) (roundNow_ne (by decide) l) (roundNow_ne (by decide) l) (roundNow_ne (by decide) l)

theorem deaf_noK (l : Nat) : Deaf l fun t => (lane l t).noK where
  toAside := aside_noK l
  events _ _ := rfl
  short _ _ := rfl
  broken _ _ := rfl
  report _ _ := rfl
  echo e t := by rw [lane_modLane_same]

theorem Aside.kept_blockBegun {α : Type} {f : State → α} {l : Nat} (h : Aside l f) (first : Bool) (t : State) : f (blockBegun l first t) = f t := by
  have hmap : ∀ m, f (modLane l (fun x => { x with rxMap := m, got0 := none }) t) = f t := fun _ => h.kept_modLane rfl rfl
  exact ite_keeps ((h.kept_cfaMarks _ _).trans (hmap _)) rfl

section
variable {α : Type} {f : State → α} {l : Nat} (h : Deaf l f)
include h

theorem Deaf.kept_headerReport (bs : List Byte) (t : State) : f (headerReport l bs t) = f t :=
  (h.report _ _).trans ((h.report _ _).trans (h.echo _ t))

theorem Deaf.kept_laneEventOnce (bit : Nat) (t : State) : f (laneEventOnce l bit t) = f t := by
  unfold laneEventOnce
  refine ite_keeps rfl ((h.seen_laneEvent l bit _).trans ((h.events _ _).trans ?_))
  exact h.kept_modLane rfl rfl

theorem Deaf.kept_blockHeard (hl : l < 32) (bs : List Byte) (first : Bool) (arrive : Nat) (t : State) :
    f (blockHeard l bs first arrive t) = f t := by
  have hshort : ∀ u, f (bump (Reg.LANE_TSHORT_CNT l) u) = f u := fun u => h.short _ u
  have hcrc : ∀ u, f (bump (Reg.LANE_TCRC_CNT l) u) = f u := fun u => h.broken _ u
  unfold blockHeard
  split
  · rw [h.kept_blockSamples, hshort, h.kept_blockBegun]
  · split
    · rw [h.kept_blockSamples, h.seen_blockHeader hl, h.kept_headerReport, h.kept_blockBegun]
    · rw [h.kept_blockSamples, h.kept_laneEventOnce, hcrc, h.kept_blockBegun]

end

/-! ### What a block counts and reports -/

theorem counted_short {l : Nat} (hl : l < 32) {bs : List Byte} {s : State} (hshort : bs.length < blockLen (laneRate l s)) (first : Bool)
    (arrive : Nat) : Counted (Reg.LANE_TSHORT_CNT l) s (blockHeard l bs first arrive s) := by
  have hview : Aside l (rd (Reg.LANE_TSHORT_CNT l)) := aside_laneReg hl (by decide) (by decide)
  rw [blockHeard, if_pos hshort]
  exact counted_of_bump (hview.kept_blockBegun first s) (hview.kept_blockSamples l _ _ _)

theorem counted_broken {l : Nat} (hl : l < 32) {bs : List Byte} {s : State} (hwhole : bs.length = blockLen (laneRate l s))
    (hbad : blockGood l bs s = false) (first : Bool) (arrive : Nat) :
    Counted (Reg.LANE_TCRC_CNT l) s (blockHeard l bs first arrive s) := by
  have hview : Aside l (rd (Reg.LANE_TCRC_CNT l)) := aside_laneReg hl (by decide) (by decide)
  rw [blockHeard, if_neg hwhole.not_lt, if_neg (ne_true_of_eq_false hbad)]
  refine counted_of_bump (hview.kept_blockBegun first s) ((hview.kept_blockSamples l _ _ _).trans ?_)
  exact rd_laneEventOnce (laneReg_seen hl (by decide)) (laneReg_ne (by decide) l) 3 _

theorem blockHeard_good {l : Nat} {bs : List Byte} {s : State} (hgood : blockGood l bs s = true) (first : Bool) (arrive : Nat) :
    blockHeard l bs first arrive s = blockSamples l bs 0 (blockHeader l bs arrive (blockBegun l first s)) := by
  rw [blockHeard, if_neg (blockGood_length hgood).not_lt, if_pos hgood]

theorem echo_blockHeard {l : Nat} (hl : l < 32) {bs : List Byte} {s : State} (hgood : blockGood l bs s = true) (first : Bool) (arrive : Nat) :
    (lane l (blockHeard l bs first arrive s)).echo = some (leAt bs 20 1) := by
  have hview := aside_echo l
  rw [blockHeard_good hgood]
  refine (hview.kept_blockSamples l _ _ _).trans ((hview.seen_blockHeader hl _ _ _).trans ?_)
  rw [headerReport, lane_setFld, lane_setFld, lane_modLane_same]

theorem request_blockHeard {l : Nat} (hl : l < 32) {bs : List Byte} {s : State} (hgood : blockGood l bs s = true) (first : Bool) (arrive : Nat) :
    fld (Reg.LANE_TPM_STATUS l) 1 0 (blockHeard l bs first arrive s) = leAt bs 19 1 % 4 := by
  have hview : Aside l (rd (Reg.LANE_TPM_STATUS l)) := aside_laneReg hl (by decide) (by decide)
  rw [blockHeard_good hgood, fld_of_rd (hview.kept_blockSamples l _ _ _), fld_of_rd (hview.seen_blockHeader hl _ _ _), headerReport,
    fld_setFld_disjoint _ _ _ _ _ _ _ (by decide) (.inl (by decide))]
  exact fld_setFld_same _ 1 0 _ _ (by decide)

/-! ### Loss of lock (R343) -/

/-- A view blind to the state machine and to the entries to DETECT does not see a loss of lock. -/
theorem Blind.kept_lockKept {α : Type} {f : State → α} {l : Nat} (h : Blind l f) (hlast : ∀ v t, f (wr (Reg.LANE_TLAST_DOWN l) v t) = f t)
    (hcnt : ∀ v t, f (wr (Reg.LANE_TDOWN_CNT l) v t) = f t) (viol : Nat) (k : Bool) (t : State) : f (lockKept l viol k t) = f t :=
  ite_keeps rfl (ite_keeps (h.kept_enterDetect hlast hcnt 5 t) (h.kept_modLane rfl))

/-- Nor does it see the LEAVE of a block. -/
theorem Blind.kept_blockTaken {α : Type} {f : State → α} {l : Nat} (h : Blind l f) (hlast : ∀ v t, f (wr (Reg.LANE_TLAST_DOWN l) v t) = f t)
    (hcnt : ∀ v t, f (wr (Reg.LANE_TDOWN_CNT l) v t) = f t) (bs : List Byte) (first : Bool) (arrive : Nat) (t : State) :
    f (blockTaken l bs first arrive t) = f (blockHeard l bs first arrive t) := by
  by_cases hleave : blockGood l bs t = true ∧ bitOf (leAt bs 22 1) 0 = true
  · rw [blockTaken_leave hleave.1 hleave.2, h.kept_enterDetect hlast hcnt]
  · rw [blockTaken_stays]
    rw [not_and_or, Bool.not_eq_true, Bool.not_eq_true] at hleave
    exact hleave

theorem lockKept_down {l viol : Nat} {k : Bool} {s : State} (h : laneState l s ≠ 5) : lockKept l viol k s = s := if_pos h

/-- Sixteen violations, or the fourth block with no K, lose lock. -/
theorem lockKept_lost {l viol : Nat} {k : Bool} {s : State} (hst : laneState l s = 5) (h : 16 ≤ viol ∨ k = false ∧ 3 ≤ (lane l s).noK) :
    lockKept l viol k s = enterDetect l 5 s := by
  unfold lockKept
  rw [if_neg (not_not_intro hst)]
  refine if_pos (h.imp_right fun hk => ?_)
  rw [hk.1, if_neg Bool.false_ne_true]
  omega

theorem lockKept_held {l viol : Nat} {k : Bool} {s : State} (hst : laneState l s = 5) (hviol : viol < 16) (h : k = true ∨ (lane l s).noK < 3) :
    lockKept l viol k s = modLane l (fun x => { x with noK := if k then 0 else (lane l s).noK + 1 }) s := by
  unfold lockKept
  rw [if_neg (not_not_intro hst)]
  refine if_neg (not_or_intro hviol.not_ge ?_)
  cases k
  · have hlow : (lane l s).noK < 3 := h.resolve_left Bool.false_ne_true
    rw [if_neg Bool.false_ne_true]
    omega
  · exact of_decide_eq_false rfl

/-! ### A block received -/

/-- The block an ACTIVE lane hears, as its receive path takes it. -/
def blockRecordedIn (l : Nat) (bs : List Byte) (s : State) : State :=
  if flagOn Reg.REC_SRC_LANE l s then recAppend 0x02 l (blockRecord l bs s) s else s

theorem LaneView.kept_blockRecordedIn {α : Type} {f : State → α} (h : LaneView f) (l : Nat) (bs : List Byte) (t : State) :
    f (blockRecordedIn l bs t) = f t := ite_keeps (h.kept_recAppend _ _ _ t) rfl

theorem blockIn_active {l : Nat} {cs : List LaneChar} {s : State} (hl : l < 32) (hst : laneState l s = 5) (hquiet : (lane l s).quiet = false)
    (viol arrive : Nat) :
    blockIn l cs viol arrive s = lockKept l viol (decide (cs.head? = some k285 ∨ cs.head? = some k281))
      (blockTaken l (cs.map (·.2)) (decide (cs.head? = some k285)) arrive (blockRecordedIn l (cs.map (·.2)) s)) := by
  have hstate : laneState l (blockRecordedIn l (cs.map (·.2)) s) = 5 := ((laneView_status hl 2 0).kept_blockRecordedIn l _ s).trans hst
  have hlane : lane l (blockRecordedIn l (cs.map (·.2)) s) = lane l s := lane_congr (laneView_lane.kept_blockRecordedIn l _ s) l
  have hwaits : decide (laneState l s = 3 ∨ laneState l s = 4) = false := decide_eq_false (by omega)
  unfold blockIn
  dsimp only
  rw [hwaits, Bool.false_and, Bool.false_and, Bool.false_and, Bool.false_and, if_neg Bool.false_ne_true]
  exact if_pos ⟨hstate, (congrArg Lane.quiet hlane).trans hquiet⟩

theorem laneLive_active {l : Nat} {s : State} (hst : laneState l s = 5) (hloop : laneLoop l s = 0) (hreplay : inReplay s = false) :
    laneLive l s = true := by
  rw [laneLive, hst, hloop, hreplay]
  rfl

/-- A block received by an ACTIVE lane: its characters enter the path once its violations are counted. -/
theorem opTetherBlockReceived_heard {l : Nat} {gs : List Nat} {viol : Nat} {s : State} (hl : l < 32) (hreplay : inReplay s = false)
    (hloop : laneLoop l s = 0) (hst : laneState l s = 5) (arrive word : Nat) :
    opTetherBlockReceived l gs viol arrive .clean word 0 s =
      blockIn l (laneRead l (laneGroups l gs s) s).1 (laneRead l (laneGroups l gs s) s).2.1 arrive (heardGroups l gs viol s) := by
  have hheard := heard_laneViolations (laneLive_active hst hloop hreplay) viol
  obtain ⟨hchars, hviol⟩ := laneRead_laneViolations l (laneGroups l gs (laneViolations l viol s)) viol s
  unfold opTetherBlockReceived blockReceived
  dsimp only
  rw [hheard.inReplay, hreplay, if_neg Bool.false_ne_true, hheard.loop hl, hloop, if_pos rfl, if_pos rfl, hheard.state, if_neg (by omega)]
  rw [← laneGroups_laneViolations l gs viol s, ← hchars, ← hviol]
  rfl

theorem blockGood_congr {l : Nat} {s t : State} (h : laneRate l t = laneRate l s) (bs : List Byte) : blockGood l bs t = blockGood l bs s := by
  rw [blockGood, blockGood, h]

/-- A count from states that agree before and after. -/
theorem counted_of_same {off : Nat} {s u v t : State} (hs : rd off u = rd off s) (ht : rd off t = rd off v) (h : Counted off u v) :
    Counted off s t := by rwa [Counted, ht, ← hs]

/-- What of a received block the views of its lane say: `u` as it stands before the block is taken, `v` after, `t` in the end. -/
structure BlockSeen (l k : Nat) (s u v t : State) : Prop where
  before : Heard l k s u
  taken : ∀ {α : Type} {f : State → α}, Deaf l f → f v = f u
  after : ∀ {α : Type} {f : State → α}, Blind l f → (∀ x y, f (wr (Reg.LANE_TLAST_DOWN l) x y) = f y) →
    (∀ x y, f (wr (Reg.LANE_TDOWN_CNT l) x y) = f y) → f t = f v

section
variable {l k : Nat} {s u v t : State} (h : BlockSeen l k s u v t)
include h

/-- A register that outlasts entries to DETECT. -/
theorem BlockSeen.after_laneReg {j : Nat} (hl : l < 32) (hj : 0x400000 ≤ j ∧ j < 0x400800)
    (hown : j ≠ 0x400008 ∧ j ≠ 0x400054 ∧ j ≠ 0x4000B0 ∧ j ≠ 0x4000A0) (hdown : j ≠ 0x40000C ∧ j ≠ 0x4000C4) :
    rd (j + 0x800 * l) t = rd (j + 0x800 * l) v :=
  h.after (blind_laneReg hl hj hown) (fun _ _ => rd_wr_other (laneReg_ne hdown.1 l) _ _) (fun _ _ => rd_wr_other (laneReg_ne hdown.2 l) _ _)

theorem BlockSeen.violations (hl : l < 32) : Violations l k s t := by
  have htaken : rd (Reg.LANE_TCV_CNT l) v = rd (Reg.LANE_TCV_CNT l) u := h.taken (deaf_laneReg hl (by decide) (by decide) (by decide))
  exact violations_of_eq h.before.counted ((h.after_laneReg hl (by decide) (by decide) (by decide)).trans htaken)

theorem BlockSeen.eng : t.eng = s.eng :=
  have htaken : v.eng = u.eng := h.taken (f := State.eng)
    { toAside := aside_eng l, events := fun _ _ => rfl, short := fun _ _ => rfl, broken := fun _ _ => rfl, report := fun _ _ => rfl,
      echo := fun _ _ => rfl }
  (h.after (blind_eng l) (fun _ _ => rfl) (fun _ _ => rfl)).trans (htaken.trans h.before.eng)

theorem BlockSeen.status (hl : l < 32) (hi lo : Nat) : fld (Reg.LANE_STATUS l) hi lo v = fld (Reg.LANE_STATUS l) hi lo s :=
  (fld_of_rd (h.taken (deaf_laneReg hl (by decide) (by decide) (by decide))) hi lo).trans (h.before.status hi lo)

theorem BlockSeen.state (hl : l < 32) : laneState l v = laneState l s := h.status hl 2 0

theorem BlockSeen.noK : (lane l v).noK = (lane l s).noK :=
  (h.taken (deaf_noK l)).trans (h.before.lane_field Lane.noK fun _ _ => rfl)

/-- An entry to DETECT from the block taken is one from before it. -/
theorem BlockSeen.downed (hl : l < 32) (cause : Nat) : Downed l cause s (enterDetect l cause v) := by
  have hcnt : rd (Reg.LANE_TDOWN_CNT l) v = rd (Reg.LANE_TDOWN_CNT l) u := h.taken (deaf_laneReg hl (by decide) (by decide) (by decide))
  have hround : rd Reg.ROUND_NOW v = rd Reg.ROUND_NOW u := h.taken (deaf_roundNow l)
  refine downed_of_same (hcnt.trans (h.before.rd _ (laneReg_ne (by decide) l))) ?_ (h.state hl) (h.status hl 6 4) (downed_enterDetect hl cause v)
  exact (congrArg BitVec.toNat hround).trans (h.before.roundNow hl)

end

theorem blockSeen {l k : Nat} {s u : State} (hl : l < 32) (h : Heard l k s u) (bs : List Byte) (first : Bool) (arrive viol : Nat) (c : Bool) :
    BlockSeen l k s u (blockHeard l bs first arrive (blockRecordedIn l bs u))
      (lockKept l viol c (blockTaken l bs first arrive (blockRecordedIn l bs u))) where
  before := h
  taken hf := (hf.kept_blockHeard hl bs first arrive _).trans (hf.kept_blockRecordedIn l bs u)
  after hf hlast hcnt := (hf.kept_lockKept hlast hcnt viol c _).trans (hf.kept_blockTaken hlast hcnt bs first arrive _)

theorem laneRate_blockRecordedIn {l k : Nat} {s u : State} (hl : l < 32) (h : Heard l k s u) (bs : List Byte) :
    laneRate l (blockRecordedIn l bs u) = laneRate l s := ((laneView_status hl 6 4).kept_blockRecordedIn l bs u).trans h.rate

theorem rd_blockRecordedIn {l k j : Nat} {s u : State} (hl : l < 32) (h : Heard l k s u) (hj : 0x400000 ≤ j ∧ j < 0x400800) (hne : j ≠ 0x4000D0)
    (bs : List Byte) : rd (j + 0x800 * l) (blockRecordedIn l bs u) = rd (j + 0x800 * l) s :=
  ((laneView_laneReg hl hj).kept_blockRecordedIn l bs u).trans (h.rd _ (laneReg_ne hne l))

theorem tetherBlockReceived_effect {l : Nat} {gs : List Nat} {viol arrive word : Nat} {s : State} (hrun : Running s) (hl : l < 32)
    (hreplay : inReplay s = false) (hloop : laneLoop l s = 0) (hst : laneState l s = 5) (hquiet : (lane l s).quiet = false) :
    Effect (.tetherBlockReceived l gs viol arrive .clean word 0) s fun t => MemKept s t ∧
      let r := laneRead l (laneGroups l gs s) s
      let bs := r.1.map (·.2)
      Violations l (viol + r.2.1) s t ∧
      (bs.length < blockLen (laneRate l s) → Counted (Reg.LANE_TSHORT_CNT l) s t) ∧
      (bs.length = blockLen (laneRate l s) → blockGood l bs s = false → Counted (Reg.LANE_TCRC_CNT l) s t) ∧
      (blockGood l bs s = true → bitOf (leAt bs 22 1) 0 = false → (lane l t).echo = some (leAt bs 20 1) ∧
        fld (Reg.LANE_TPM_STATUS l) 1 0 t = leAt bs 19 1 % 4) ∧
      (blockGood l bs s = true → bitOf (leAt bs 22 1) 0 = true → Downed l 6 s t) ∧
      (blockGood l bs s = false ∨ bitOf (leAt bs 22 1) 0 = false →
        let k := decide (r.1.head? = some k285 ∨ r.1.head? = some k281)
        (16 ≤ r.2.1 ∨ k = false ∧ 3 ≤ (lane l s).noK → Downed l 5 s t) ∧
        (r.2.1 < 16 → (k = true ∨ (lane l s).noK < 3) → laneState l t = 5 ∧ (lane l t).noK = if k then 0 else (lane l s).noK + 1)) := by
  have hheard := heard_heardGroups (laneLive_active hst hloop hreplay) gs viol
  have hop := opTetherBlockReceived_heard (gs := gs) (viol := viol) hl hreplay hloop hst arrive word
  have hmem := opTetherBlockReceived_mem l gs viol arrive .clean word 0 s
  have hquiet' : (lane l (heardGroups l gs viol s)).quiet = false :=
    (hheard.lane_field Lane.quiet fun _ _ => rfl).trans hquiet
  rw [blockIn_active hl (hheard.state.trans hst) hquiet'] at hop
  rw [hop] at hmem
  refine effect_of_lane (exec_tetherBlockReceived l gs viol arrive .clean word 0 s) hrun hl ?_
  rw [hop]
  clear hop
  dsimp only
  generalize laneRead l (laneGroups l gs s) s = r at *
  generalize heardGroups l gs viol s = u at *
  generalize hbs : r.1.map (·.2) = bs at *
  generalize decide (r.1.head? = some k285) = first at *
  generalize decide (r.1.head? = some k285 ∨ r.1.head? = some k281) = k at *
  have hseen := blockSeen hl hheard bs first arrive r.2.1 k
  have hrate := laneRate_blockRecordedIn hl hheard bs
  have hgood := blockGood_congr hrate bs
  refine ⟨memKept_inOrder hmem hseen.eng, violations_inOrder (hseen.violations hl), fun hshort => ?_, fun hwhole hbad => ?_, fun hok hstay => ?_,
    fun hok hleave => ?_, fun hstay => ?_⟩
  · have hcounted := counted_short hl (hrate.symm ▸ hshort) first arrive
    exact counted_inOrder (counted_of_same (rd_blockRecordedIn hl hheard (by decide) (by decide) bs)
      (hseen.after_laneReg hl (by decide) (by decide) (by decide)) hcounted)
  · have hcounted := counted_broken hl (hrate.symm ▸ hwhole) (hgood.trans hbad) first arrive
    exact counted_inOrder (counted_of_same (rd_blockRecordedIn hl hheard (by decide) (by decide) bs)
      (hseen.after_laneReg hl (by decide) (by decide) (by decide)) hcounted)
  · rw [lane_inOrder, fld_inOrder]
    exact ⟨(hseen.after (blind_echo l) (fun _ _ => rfl) (fun _ _ => rfl)).trans (echo_blockHeard hl (hgood.trans hok) first arrive),
      (fld_of_rd (hseen.after_laneReg hl (by decide) (by decide) (by decide)) 1 0).trans (request_blockHeard hl (hgood.trans hok) first arrive)⟩
  · refine downed_inOrder ?_
    have hdowned := hseen.downed hl 6
    rw [blockTaken_leave (hgood.trans hok) hleave, lockKept_down (by rw [hdowned.1]; decide)]
    exact hdowned
  · rw [blockTaken_stays (hstay.imp_left hgood.trans)]
    have hstate := (hseen.state hl).trans hst
    refine ⟨fun hlost => downed_inOrder ?_, fun hviol hk => ?_⟩
    · rw [lockKept_lost hstate (by rwa [hseen.noK])]
      exact hseen.downed hl 5
    · rw [lockKept_held hstate hviol (by rwa [hseen.noK]), laneState_inOrder, lane_inOrder, laneState_modLane, lane_modLane_same, hseen.noK]
      exact ⟨hstate, rfl⟩

end Sys2Proof.Machine
end

section
/-! The control channel of a Tether lane (R357, R358), LEAVE (R356) and the receiver's adaptation (R364), and O32. -/
namespace Sys2Proof.Machine
open Sys2Proof.Safety

/-! ### LEAVE carried (R356) -/

theorem leaveComplete_effect {l : Nat} {s : State} (hrun : Running s) (hl : l < 32) (hst : laneState l s = 5) (hleave : (lane l s).leave = 2)
    (hsent : (if (lane l s).super then 120 * 2 ^ fld Reg.ROUND_CFG 2 0 s else 240) ≤ (lane l s).leaveSent) :
    Effect (.leaveComplete l) s fun t => (lane l t).quiet = true ∧ (lane l t).leave = 0 ∧ t.csr = s.csr ∧ MemKept s t := by
  have hop : opLeaveComplete l s = modLane l (fun y => { y with leave := 0, leaveSent := 0, quiet := true }) s := if_pos ⟨hst, hleave, hsent⟩
  refine effect_of_lane (exec_leaveComplete l s) hrun hl ?_
  rw [hop, lane_inOrder, lane_modLane_same]
  exact ⟨rfl, rfl, rfl, memKept_inOrder rfl rfl⟩

/-! ### Received messages (R358) -/

theorem ctlRingWriteAccepted_effect {l n : Nat} {r : List Nat} {s : State} (hrun : Running s) (hl : l < 32) (hpend : (lane l s).rxPend = n :: r)
    (haccepted : unaccepted (.lane l) (useCtlWrite (fld (Reg.LANE_TCTL_PTR l) 7 0 s % 16)) s = false) :
    Effect (.ctlRingWriteAccepted l) s fun t => (lane l t).rxPend = r ∧
      fld (Reg.LANE_TCTL_PTR l) 7 0 t = (fld (Reg.LANE_TCTL_PTR l) 7 0 s + 1) % 256 ∧ flagOn (Reg.LANE_EVT_STATUS l) 4 t = true ∧ MemKept s t := by
  generalize hput : setFld (Reg.LANE_TCTL_PTR l) 7 0 (fld (Reg.LANE_TCTL_PTR l) 7 0 s + 1) (modLane l (fun x => { x with rxPend := r }) s) = u
  have hop : ∃ v, (∀ {α : Type} {f : State → α}, LaneView f → f v = f u) ∧ opCtlRingWriteAccepted l s = laneEvent l 4 v := by
    unfold opCtlRingWriteAccepted
    rw [hpend]
    dsimp only
    rw [haccepted, if_neg Bool.false_ne_true, hput]
    exact ⟨_, fun hf => ite_keeps (hf.kept_postToken (atNode_lane hl) _ _ _ _ u) rfl, rfl⟩
  obtain ⟨v, hv, hop⟩ := hop
  have hmem := opCtlRingWriteAccepted_mem l s
  have hlane : lane l v = { lane l s with rxPend := r } := by
    rw [lane_congr (hv laneView_lane), ← hput, lane_setFld, lane_modLane_same]
  have hptr : rd (Reg.LANE_TCTL_PTR l) (laneEvent l 4 v) = rd (Reg.LANE_TCTL_PTR l) u :=
    (rd_laneEvent (laneReg_seen hl (by decide)) (laneReg_ne (by decide) l) 4 v).trans (hv (laneView_laneReg hl (by decide)))
  have heng : (laneEvent l 4 v).eng = s.eng := by
    rw [(blind_eng l).kept_laneEvent, hv laneView_eng, ← hput]
    exact ((blind_eng l).pointers _ _).trans ((blind_eng l).kept_modLane rfl)
  rw [hop] at hmem
  refine effect_of_lane (exec_ctlRingWriteAccepted l s) hrun hl ?_
  rw [hop, lane_inOrder, fld_inOrder, lane_laneEvent, hlane, fld_of_rd hptr, ← hput]
  exact ⟨rfl, fld_setFld_same _ 7 0 _ _ (by decide), flagOn_inOrder (flagOn_laneEvent hl (by decide) v), memKept_inOrder hmem heng⟩

/-! ### Sent messages (R357, R358) -/

theorem ctlTxEntryRead_effect {l : Nat} {s : State} (hrun : Running s) (hl : l < 32) (hst : laneState l s = 5)
    (hwork : fld (Reg.LANE_TCTL_PTR l) 23 16 s ≠ fld (Reg.LANE_TCTL_PTR l) 31 24 s) (hidle : (lane l s).ctlTx = [])
    (hread : (lane l s).ctlRead = false) :
    Effect (.ctlTxEntryRead l) s fun t => (lane l t).ctlRead = true ∧ MemKept s t ∧
      Requests (.lane l) (fld (Reg.LANE_TCTL_TX_BASE l) 47 12 s * 4096 + fld (Reg.LANE_TCTL_PTR l) 23 16 s % 16 * 256) (.read 256) s t := by
  have hop : opCtlTxEntryRead l s = send (.lane l) useCtlRead 0
      (fld (Reg.LANE_TCTL_TX_BASE l) 47 12 s * 4096 + fld (Reg.LANE_TCTL_PTR l) 23 16 s % 16 * 256) (.read 256) false false
      (modLane l (fun x => { x with ctlRead := true }) s) := if_pos ⟨hst, hwork, List.isEmpty_iff.2 hidle, hread⟩
  have hmem := opCtlTxEntryRead_mem l s
  have hread' : (lane l (modLane l (fun x => { x with ctlRead := true }) s)).ctlRead = true := by rw [lane_modLane_same]
  have heng : (modLane l (fun x => { x with ctlRead := true }) s).eng = s.eng := rfl
  have hnoc : (modLane l (fun x => { x with ctlRead := true }) s).noc = s.noc := rfl
  have hsrc : srcOf (.lane l) (modLane l (fun x => { x with ctlRead := true }) s) = srcOf (.lane l) s := rfl
  rw [hop] at hmem
  refine effect_of_lane (exec_ctlTxEntryRead l s) hrun hl ?_
  rw [hop, lane_inOrder]
  generalize modLane l (fun x => { x with ctlRead := true }) s = u at *
  rw [lane_congr (laneView_lane.kept_send (atNode_lane hl) _ _ _ _ _ _ u)]
  exact ⟨hread', memKept_inOrder hmem ((laneView_eng.kept_send (atNode_lane hl) _ _ _ _ _ _ u).trans heng),
    requests_inOrder (requests_of_send hnoc hsrc _ _)⟩

/-- The counts of an interface that takes an answer are no lane's registers. -/
theorem rd_takeAns {off : Nat} (h : off % 0x80 ≠ 0 ∧ off % 0x80 ≠ 8) (id : Nat) (s : State) : rd off (takeAns id s) = rd off s := by
  have hcount : ∀ src c bytes u, rd off (niCount src c bytes u) = rd off u := fun src c bytes u => by
    have hbytes : off ≠ Reg.NI_BYTES (srcNode src) (srcPort src) c := by
      rw [Reg.NI_BYTES]
      omega
    have hpkts : off ≠ Reg.NI_PKTS (srcNode src) (srcPort src) c := by
      rw [Reg.NI_PKTS]
      omega
    exact (rd_wr_other hbytes _ _).trans (rd_bump_other hpkts u)
  unfold takeAns
  split
  · rfl
  · split
    · rfl
    · exact when'_keeps (fun u => hcount _ _ _ u) _ _

theorem niCount_engines (src c bytes : Nat) (s : State) : (niCount src c bytes s).eng = s.eng := rfl

theorem takeAns_engines (id : Nat) (s : State) : (takeAns id s).eng = s.eng := by
  unfold takeAns
  split
  · rfl
  · split
    · rfl
    · exact when'_keeps (g := State.eng) (fun u => niCount_engines _ _ _ u) _ _

theorem fld_ctlTxNext (l : Nat) (s : State) :
    fld (Reg.LANE_TCTL_PTR l) 23 16 (ctlTxNext l s) = (fld (Reg.LANE_TCTL_PTR l) 23 16 s + 1) % 256 := fld_setFld_same _ 23 16 _ s (by decide)

/-- The control entry as it is sent: the flag, its length and bytes, and their CRC. -/
def ctlFramed (bs : List Byte) : List Byte :=
  (0x7E : Byte) :: (leBytes 1 (leAt bs 0 1) ++ sliceOf bs 8 (leAt bs 0 1)) ++ crc16Bytes (leBytes 1 (leAt bs 0 1) ++ sliceOf bs 8 (leAt bs 0 1))

/-- A lane whose transmit entry has been read. -/
def ctlTaken (l id : Nat) (s : State) : State := modLane l (fun x => { x with ctlRead := false }) (takeAns id s)

theorem lane_bump (k off : Nat) (s : State) : lane k (bump off s) = lane k s := rfl
theorem ctlTxNext_engines (l : Nat) (s : State) : (ctlTxNext l s).eng = s.eng := (blind_eng l).pointers _ s

/-- The read of an entry ends; the pointers and the counts stay for what the entry brings. -/
theorem ctlTaken_shows (l id : Nat) (s : State) :
    (lane l (ctlTaken l id s)).ctlRead = false ∧ (ctlTaken l id s).eng = s.eng ∧
      rd (Reg.LANE_TCTL_PTR l) (ctlTaken l id s) = rd (Reg.LANE_TCTL_PTR l) s ∧
      rd (Reg.LANE_TCTL_ERR_CNT l) (ctlTaken l id s) = rd (Reg.LANE_TCTL_ERR_CNT l) s := by
  have hptr : Reg.LANE_TCTL_PTR l % 0x80 ≠ 0 ∧ Reg.LANE_TCTL_PTR l % 0x80 ≠ 8 := by
    rw [Reg.LANE_TCTL_PTR]
    omega
  have herr : Reg.LANE_TCTL_ERR_CNT l % 0x80 ≠ 0 ∧ Reg.LANE_TCTL_ERR_CNT l % 0x80 ≠ 8 := by
    rw [Reg.LANE_TCTL_ERR_CNT]
    omega
  unfold ctlTaken
  rw [lane_modLane_same, rd_modLane, rd_modLane, rd_takeAns hptr, rd_takeAns herr, modLane_eng, takeAns_engines]
  exact ⟨rfl, rfl, rfl, rfl⟩

theorem opCtlTxEntryAnswer_skips {l code : Nat} {x : Txn} {bs : List Byte} {s : State} (hst : laneState l s = 5)
    (hans : waitingAns (.lane l) useCtlRead s = some (x, code, bs)) (hskip : code ≠ 0 ∨ leAt bs 0 1 = 0 ∨ 248 < leAt bs 0 1) :
    opCtlTxEntryAnswer l s =
      bump (Reg.LANE_TCTL_ERR_CNT l) (ctlTxNext l (ctlTaken l x.id s)) := by
  unfold opCtlTxEntryAnswer
  rw [hans]
  dsimp only
  rw [if_neg (not_not_intro hst), if_pos hskip, ctlTaken]

theorem opCtlTxEntryAnswer_sends {l code : Nat} {x : Txn} {bs : List Byte} {s : State} (hst : laneState l s = 5)
    (hans : waitingAns (.lane l) useCtlRead s = some (x, code, bs)) (hgood : ¬(code ≠ 0 ∨ leAt bs 0 1 = 0 ∨ 248 < leAt bs 0 1)) :
    opCtlTxEntryAnswer l s =
      modLane l (fun x => { x with ctlTx := ctlFramed bs }) (ctlTaken l x.id s) := by
  unfold opCtlTxEntryAnswer
  rw [hans]
  dsimp only
  rw [if_neg (not_not_intro hst), if_neg hgood]
  rfl

theorem ctlTxEntryAnswer_effect {l code : Nat} {x : Txn} {bs : List Byte} {s : State} (hrun : Running s) (hl : l < 32) (hst : laneState l s = 5)
    (hans : waitingAns (.lane l) useCtlRead s = some (x, code, bs)) :
    Effect (.ctlTxEntryAnswer l) s fun t =>
      let n := leAt bs 0 1
      let m := leBytes 1 n ++ sliceOf bs 8 n
      (lane l t).ctlRead = false ∧ MemKept s t ∧
      (code = 0 → 1 ≤ n → n ≤ 248 → (lane l t).ctlTx = (0x7E : Byte) :: m ++ crc16Bytes m) ∧
      ((code ≠ 0 ∨ n = 0 ∨ 248 < n) → Counted (Reg.LANE_TCTL_ERR_CNT l) s t ∧
        fld (Reg.LANE_TCTL_PTR l) 23 16 t = (fld (Reg.LANE_TCTL_PTR l) 23 16 s + 1) % 256) := by
  have hmem := opCtlTxEntryAnswer_mem l s
  obtain ⟨hread, heng, hptr, herr⟩ := ctlTaken_shows l x.id s
  have hne : Reg.LANE_TCTL_ERR_CNT l ≠ Reg.LANE_TCTL_PTR l := laneReg_ne (by decide) l
  refine effect_of_lane (exec_ctlTxEntryAnswer l s) hrun hl ?_
  dsimp only
  by_cases hskip : code ≠ 0 ∨ leAt bs 0 1 = 0 ∨ 248 < leAt bs 0 1
  · rw [opCtlTxEntryAnswer_skips hst hans hskip] at hmem ⊢
    rw [lane_inOrder, lane_bump, lane_ctlTxNext]
    refine ⟨hread, memKept_inOrder hmem ((bump_eng _ _).trans ((ctlTxNext_engines l _).trans heng)), fun h0 h1 h248 => by omega, fun _ =>
      ⟨counted_inOrder (counted_of_bump ((rd_setFld_other hne _ _ _ _).trans herr) rfl), ?_⟩⟩
    rw [fld_inOrder, fld_of_rd (rd_bump_other hne.symm _), fld_ctlTxNext, fld_of_rd hptr]
  · rw [opCtlTxEntryAnswer_sends hst hans hskip] at hmem ⊢
    rw [lane_inOrder, lane_modLane_same]
    exact ⟨hread, memKept_inOrder hmem ((modLane_eng l _ _).trans heng), fun _ _ _ => rfl, fun h => absurd h hskip⟩

/-! ### The receiver's adaptation (R364) -/

theorem ctleAdapt_effect {l : Nat} {up : Bool} {s : State} (hrun : Running s) (hl : l < 32) (hst : laneState l s = 5) (hauto : eqAuto l s = true)
    (hloop : laneLoop l s = 0) :
    Effect (.ctleAdapt l up) s fun t =>
      fld (Reg.LANE_EQ_STATUS l) 5 0 t = (if up then min 36 (fld (Reg.LANE_EQ_STATUS l) 5 0 s + 1) else fld (Reg.LANE_EQ_STATUS l) 5 0 s - 1) ∧
      (∀ off, off ≠ Reg.LANE_EQ_STATUS l → rd off t = rd off s) ∧ MemKept s t := by
  have hop : opCtleAdapt l up s = setFld (Reg.LANE_EQ_STATUS l) 5 0
      (if up then min 36 (fld (Reg.LANE_EQ_STATUS l) 5 0 s + 1) else fld (Reg.LANE_EQ_STATUS l) 5 0 s - 1) s := if_pos ⟨hst, hauto, hloop⟩
  have hcode : fld (Reg.LANE_EQ_STATUS l) 5 0 s < 64 := bitsOf_lt _ 5 0
  have hstep : (if up then min 36 (fld (Reg.LANE_EQ_STATUS l) 5 0 s + 1) else fld (Reg.LANE_EQ_STATUS l) 5 0 s - 1) < 2 ^ (5 + 1 - 0) := by
    split <;> omega
  refine effect_of_lane (exec_ctleAdapt l up s) hrun hl ?_
  rw [hop]
  refine ⟨?_, fun off hne => (rd_inOrder _ _ _).trans (rd_setFld_other hne _ _ _ s), memKept_inOrder rfl rfl⟩
  rw [fld_inOrder, fld_setFld_same _ 5 0 _ s (by decide)]
  exact Nat.mod_eq_of_lt hstep

/-- Settles O32: each event of an ACTIVE lane's traffic by its own effect. -/
theorem tetherTraffic : Obligations.TetherTraffic := by
  unfold Obligations.TetherTraffic
  exact ⟨fun _ _ _ _ _ => tetherBlockSend_effect, fun _ _ _ _ _ _ => tetherBlockReceived_effect, fun _ _ => leaveComplete_effect,
    fun _ _ _ _ => ctlRingWriteAccepted_effect, fun _ _ => ctlTxEntryRead_effect, fun _ _ _ _ _ => ctlTxEntryAnswer_effect,
    fun _ _ _ => ctleAdapt_effect⟩

end Sys2Proof.Machine
end
